-- ==== Sys2Proof/Word.lean ====
section
/-! DEFINITION. The byte and word types and the identifiers of the VK-4 (00_scope.md, R4). -/

namespace Sys2Proof

/-- One byte of memory, of a descriptor, an image or a frame. -/
abbrev Byte := BitVec 8

/-- A string of bytes, lowest address first (R8: multi-byte fields are little-endian). -/
abbrev Bytes := List Byte

/-- A ring, and the serving loop of the same number (R324). -/
abbrev RingId := Fin 16384

/-- A cluster, die * 16 + cluster (R4). -/
abbrev ClusterId := Fin 64

/-- A global core ID, die * 256 + cluster * 16 + core (R4). -/
abbrev CoreId := Fin 1024

/-- A tenant context 0-255, or 256 (0x100) for SYS (R4, R209). -/
abbrev CtxId := Fin 257

/-- A fabric port P0-P15. -/
abbrev PortId := Fin 16

/-- The system context's number. -/
def sysCtx : Nat := 0x100

end Sys2Proof
end

