-- ==== Sys2Proof/Syntax.lean ====
section
/-! DEFINITION. The commands and events of spec/opcode_table.json, one constructor per row, with their operands. -/

namespace Sys2Proof

/-- A PCIe function: the PF or VF c + 1 of tenant context c (R315). -/
inductive Func where
  | pf
  | vf (c : Fin 256)
deriving DecidableEq, Repr

/-- A requester of the dictionary (R506). -/
inductive Requester where
  | hostPf
  | hostVf (c : Fin 256)
  | management
  | serviceBus
deriving DecidableEq, Repr

/-- A packet header of R473. -/
structure PacketHeader where
  type : BitVec 8
  poison : Bool
  reserved : Bool
  units : BitVec 16
  src : BitVec 16
  dst : BitVec 16
  ctx : BitVec 16
  epoch : BitVec 16
  tag : BitVec 32
  addr : BitVec 64
  length : BitVec 32
  status : BitVec 16
deriving DecidableEq, Repr

/-- A frame control unit of R466 as a receiver reads it, after the codeword was decoded. -/
structure FrameControl where
  fseq : BitVec 12
  kind : BitVec 2
  ack : BitVec 12
  nak : Bool
  credit : List (BitVec 16)
  firstHdr : BitVec 8
  spareTx : BitVec 4
  spareUse : BitVec 4
  test : BitVec 4
  spareRq : BitVec 4
deriving DecidableEq, Repr

/-- How the reads of a Store chunk answer its digest: at the first read, at the second, or at neither (R269, R272). -/
inductive ChunkRead where
  | first
  | second
  | neither
deriving DecidableEq, Repr

/-- How the codeword that carried a frame decoded (R464, R465, R469). -/
inductive FrameCheck where
  | good
  /-- with the symbols that the FEC corrected; symbol i travelled on lane i mod 8 (R465) -/
  | corrected (symbols : List (Fin 544))
  | uncorrectable
  | badCrc
deriving DecidableEq, Repr

/-- LINK_INFO of R472. -/
structure LinkInfo where
  magic : BitVec 16
  flCeiling : BitVec 8
  flSupported : BitVec 8
  deviceId : BitVec 12
  isSwitch : Bool
  partition : BitVec 16
  port : BitVec 8
  credits : List (BitVec 16)
deriving DecidableEq, Repr

/-- The end of an installation lane test at a time: bit errors and bits compared by the checker of each of the nine lanes
(R492, R496). -/
structure LabTest where
  port : PortId
  t : Nat
  lanes : List (Nat × Nat)
deriving DecidableEq, Repr

/-- Why a port leaves Active for Retrain (R469, R470, R495). -/
inductive RetrainCause where
  | retries
  | laneLoss
  | codewords
  | secondLane
deriving DecidableEq, Repr

/-- An access to a Bulk line (R250, R251): a read and the two further reads that follow while the check fails, each as the
symbols of the line's 72 (64 of data, 8 of check) that it finds in error, with the lane to which a failure that a retry
clears is laid; a write whose CRC failed a number of times; a line that was damaged on the die mesh after it had left the
controller. -/
inductive BulkRead where
  | read (first second third : List (Fin 72)) (lane : Fin 256)
  | writeCrc (fails : Nat)
  | mesh
deriving DecidableEq, Repr

/-- What is known of who wrote an uncorrectable line's reader (R221, R252). -/
inductive LineReader where
  | step (cmd : Nat)
  | copy (cmd : Nat)
  | other (ctx : CtxId)
  | scrub
deriving DecidableEq, Repr

/-- A line of a region as a reader found it: the bits of its ten layers that were in error (R219). -/
structure NearLine where
  line : BitVec 15
  flips : List (BitVec 32)
deriving DecidableEq, Repr

/-- A row whose copy to its spare row is done, and its lines that the copy found in error, with their bits (R227). -/
structure RowCopy where
  row : BitVec 12
  errors : List (Fin 256 × List (BitVec 32))
deriving DecidableEq, Repr

/-- An access to a Bulk line: what it showed, and for whom it was made (R250-R252). -/
structure BulkAccess where
  shows : BulkRead
  reader : LineReader
deriving DecidableEq, Repr

/-- A chunk of a Store image that was read, and how its reads answered the digest (R269, R272). -/
structure ChunkCheck where
  chunk : Nat
  read : ChunkRead
deriving DecidableEq, Repr

/-- A chunk that the patrol checked, and the corrected bits of its block (R269). -/
structure PatrolCheck extends ChunkCheck where
  corrected : Nat
deriving DecidableEq, Repr

/-- What the management port sees of a frame around a datagram: its destination address, a VLAN tag, IPv4 options, a
fragment, and a UDP checksum that is there and right (R515). -/
structure MgtFrame where
  dst : BitVec 48
  tagged : Bool := false
  options : Bool := false
  fragment : Bool := false
  checksummed : Bool := true
deriving DecidableEq, Repr

/-- A UDP datagram's frame, with its destination address and port (R515). -/
structure MgtUdp extends MgtFrame where
  dstIp : BitVec 32
  dstPort : BitVec 16
deriving DecidableEq, Repr

/-- The sender of an ARP request, with its frame's destination and whether it carries a VLAN tag (R515). -/
structure ArpSender where
  mac : BitVec 48
  dst : BitVec 48
  tagged : Bool := false
deriving DecidableEq, Repr

/-- An ICMP echo request: its frame and payload (R515). -/
structure MgtEcho where
  frame : MgtFrame
  payload : Bytes
deriving DecidableEq, Repr

/-- The commands. Each constructor's comment is its row of the table. -/
inductive Instr where
  /-- LAUNCH_STEP -/
  | launchStep (cmd : Nat)
  /-- COPY -/
  | copy (cmd : Nat)
  /-- LOAD_ROUTE -/
  | loadRoute (cmd : Nat)
  /-- LOAD_ROUTE_STAGE -/
  | loadRouteStage (cmd : Nat)
  /-- LOAD_ROUTE_EVICT -/
  | loadRouteEvict (cmd : Nat)
  /-- BIND_MODEL -/
  | bindModel (cmd : Nat)
  /-- UNBIND_MODEL -/
  | unbindModel (cmd : Nat)
  /-- PREFIX_LOOKUP -/
  | prefixLookup (cmd : Nat)
  /-- PREFIX_INSERT -/
  | prefixInsert (cmd : Nat)
  /-- FENCE -/
  | fence (cmd : Nat)
  /-- SIGNAL -/
  | signal (cmd : Nat)
  /-- WAIT -/
  | wait (cmd : Nat)
  /-- RESUME_STREAM -/
  | resumeStream (cmd : Nat)
  /-- QUERY -/
  | query (cmd : Nat)
  /-- COMMAND_FETCH -/
  | commandFetch (ring : RingId)
  /-- SQ_TAIL -/
  | sqTail (f : Func) (page : RingId) (value : BitVec 32)
  /-- CQ_HEAD -/
  | cqHead (f : Func) (page : RingId) (value : BitVec 32)
  /-- RING_ENABLE: the write of bits [223:192] of the entry with ENABLE = 1. -/
  | ringEnable (ring : RingId) (maxInflight : BitVec 13) (loop : Bool)
  /-- RING_DISABLE -/
  | ringDisable (ring : RingId)
  /-- LOOP_TABLE_WRITE: 8-byte word q of the entry. -/
  | loopTableWrite (ring : RingId) (q : Fin 4) (value : BitVec 64)
  /-- CONTEXT_CONTROL_WRITE: an 8-byte write at an offset of the context control page. -/
  | contextControlWrite (f : Func) (ctx : CtxId) (off : BitVec 12) (value : BitVec 64)
  /-- NM_MAP_MAP: a write of NM_MAP with V = 1. -/
  | nmMapMap (vrn : BitVec 16) (ctx : BitVec 9) (prn : BitVec 15) (w : Bool)
  /-- NM_MAP_UNMAP: a write of NM_MAP with V = 0. -/
  | nmMapUnmap (vrn : BitVec 16) (ctx : BitVec 9) (prn : BitVec 15) (w : Bool)
  /-- UNMAP_QUIESCED -/
  | unmapQuiesced
  /-- REGION_CLEAR_DONE -/
  | regionClearDone (prn : BitVec 15)
  /-- BKI_CTX_ROOT_WRITE -/
  | bkiCtxRootWrite (ctx : CtxId) (value : BitVec 64)
  /-- BKI_INVAL -/
  | bkiInval (value : BitVec 64)
  /-- BKI_INVAL_QUIESCED -/
  | bkiInvalQuiesced
  /-- SYNC_COUNTER_WRITE -/
  | syncCounterWrite (n : BitVec 16) (value : BitVec 64)
  /-- SYNC_OWNER_WRITE -/
  | syncOwnerWrite (n : BitVec 16) (value : BitVec 16)
  /-- MBX_GO: the value written to MBX_CTRL, its GO bit taken as 1. -/
  | mbxGo (f : Func) (value : BitVec 64)
  /-- MSIX_UNMASK -/
  | msixUnmask (f : Func) (vector : Fin 2048)
  /-- REGISTER_WRITE: a naturally aligned 4- or 8-byte write in BAR0 or BAR2 of a function. -/
  | registerWrite (f : Func) (bar2 : Bool) (off : BitVec 26) (eight : Bool) (value : BitVec 64)
  /-- ATS_INVALIDATION_REQUEST: the pages of a context that the host names. -/
  | atsInvalidationRequest (ctx : CtxId) (page : BitVec 52) (pages : Nat)
  /-- PERST_N -/
  | perstN (t : Nat)
  /-- PF_FUNCTION_LEVEL_RESET -/
  | pfFunctionLevelReset (t : Nat)
  /-- VF_FUNCTION_LEVEL_RESET -/
  | vfFunctionLevelReset (c : Fin 256) (t : Nat)
  /-- HOST_INTERFACE_RESET_END -/
  | hostInterfaceResetEnd (t : Nat)
  /-- DEVICE_READY: the link as it trained (HIF_STATUS fields). -/
  | deviceReady (t : Nat) (speed : BitVec 4) (width : BitVec 5) (flit : Bool)
  /-- PWR_GOOD_RISE -/
  | pwrGoodRise
  /-- PWR_GOOD_FALL -/
  | pwrGoodFall (t : Nat)
  /-- DEV_RST_N_ASSERT -/
  | devRstNAssert (t : Nat)
  /-- DEV_RST_N_DEASSERT: the samples of PROFILE_SEL[1:0] in the last 4 microseconds. -/
  | devRstNDeassert (t : Nat) (samples : List (BitVec 2))
  /-- RESET_HOLD -/
  | resetHold (t : Nat)
  /-- PROFILE_LOAD -/
  | profileLoad (t : Nat)
  /-- CLUSTER_SELF_TEST_END: the physical cores that failed, and the clusters that failed otherwise. -/
  | clusterSelfTestEnd (t : Nat) (cores : List (ClusterId × Fin 17)) (clusters : List ClusterId)
  /-- PWR_BRAKE_N_ASSERT -/
  | pwrBrakeNAssert (t : Nat)
  /-- PWR_BRAKE_N_RELEASE -/
  | pwrBrakeNRelease (t : Nat)
  /-- PWR_BRAKE_LONG -/
  | pwrBrakeLong (t : Nat)
  /-- RAIL_OUT_OF_TOLERANCE: sense index and measured millivolts. -/
  | railOutOfTolerance (t : Nat) (rail : Fin 15) (mv : Nat)
  /-- RAIL_MONITOR_SAMPLE: the power of each rail in milliwatts, and the rails within tolerance for 1 ms. -/
  | railMonitorSample (t : Nat) (mw : List Nat) (inTolerance : List (Fin 15))
  /-- REFCLK_SYS_LOST -/
  | refclkSysLost (t : Nat)
  /-- REFCLK_SYS_RESTORED -/
  | refclkSysRestored (t : Nat)
  /-- REFCLK_LINK_LOST -/
  | refclkLinkLost (t : Nat)
  /-- REFCLK_PCIE_LOST -/
  | refclkPcieLost (t : Nat)
  /-- CAN_RXD_DOMINANT_TIMEOUT -/
  | canRxdDominantTimeout (t : Nat)
  /-- CADENCE_INPUT_EVENT: the filtered time of the edge; the level of CADENCE_SYNC at it. -/
  | cadenceInputEvent (t : Nat) (sync : Bool)
  /-- CADENCE_PERIOD_MISSING -/
  | cadencePeriodMissing (t : Nat)
  /-- HOLDOVER_ENTRY -/
  | holdoverEntry (t : Nat)
  /-- CADENCE_SYNC_MARK -/
  | cadenceSyncMark (t : Nat)
  /-- CADENCE_TICK -/
  | cadenceTick (t : Nat)
  /-- EPOCH_END -/
  | epochEnd (t : Nat)
  /-- CDU_APPLY -/
  | cduApply (r : Requester) (value : BitVec 8)
  /-- STEP_READY -/
  | stepReady (cmd : Nat) (t : Nat)
  /-- STEP_LAUNCH -/
  | stepLaunch (cmd : Nat) (t : Nat)
  /-- ROUND_START -/
  | roundStart (cluster : ClusterId)
  /-- CHANNEL_MESSAGE_ARRIVAL: the channel's egress. -/
  | channelMessageArrival (cluster : ClusterId) (egress : Fin 32)
  /-- CREDIT_RETURN -/
  | creditReturn (cluster : ClusterId) (egress : Fin 32)
  /-- STREAM_DATA_ARRIVAL: the bytes that arrive at the stream's position. -/
  | streamDataArrival (core : CoreId) (stream : Fin 32) (bytes : Nat)
  /-- STREAM_WRITE_ACK: the bytes acknowledged at the stream's position. -/
  | streamWriteAck (core : CoreId) (stream : Fin 32) (bytes : Nat)
  /-- STREAM_TRANSLATION_FAULT -/
  | streamTranslationFault (core : CoreId) (stream : Fin 32)
  /-- SPR_SAVE -/
  | sprSave (core : CoreId) (stream : Fin 32) (t : Nat)
  /-- STREAM_FAULT_TIMEOUT -/
  | streamFaultTimeout (core : CoreId) (stream : Fin 32) (t : Nat)
  /-- ROPE_BLOCK_ARRIVAL -/
  | ropeBlockArrival (core : CoreId)
  /-- PHASE_END -/
  | phaseEnd (cmd : Nat) (t : Nat)
  /-- STEP_EXECUTION_END: the commit point's time. -/
  | stepExecutionEnd (cmd : Nat) (t : Nat)
  /-- DEADLINE_EXPIRED -/
  | deadlineExpired (cmd : Nat) (t : Nat)
  /-- STEP_STALLED: the stalled core and the clusters whose slices held what its step waited for. -/
  | stepStalled (cmd : Nat) (t : Nat) (core : CoreId) (awaited : List ClusterId)
  /-- RAPPEL_CUTOFF -/
  | rappelCutoff (footprint : BitVec 64) (t : Nat)
  /-- RAPPEL_QUIESCENCE: the clusters whose clear did not finish in its bound. -/
  | rappelQuiescence (footprint : BitVec 64) (t : Nat) (unclear : List ClusterId)
  /-- ROUTE_LOAD_DONE -/
  | routeLoadDone (cmd : Nat) (t : Nat)
  /-- CORE_ERROR -/
  | coreError (core : CoreId) (t : Nat)
  /-- NEAR_UNCORRECTABLE -/
  | nearUncorrectable (prn : BitVec 15) (line : NearLine) (reader : LineReader) (t : Nat)
  /-- NEAR_SCRUB_LINE: the bits of the line's ten layers that are in error, and whether the slice port wrote it meanwhile. -/
  | nearScrubLine (prn : BitVec 15) (line : BitVec 15) (flips : List (BitVec 32)) (raced : Bool) (t : Nat)
  /-- NEAR_ROW_REPAIR_DONE: the lines of the row that the copy found in error, with their bits. -/
  | nearRowRepairDone (core : CoreId) (row : RowCopy)
  /-- BULK_UNCORRECTABLE -/
  | bulkUncorrectable (bpa : BitVec 39) (access : BulkAccess) (t : Nat)
  /-- BULK_SCRUB_LINE -/
  | bulkScrubLine (bpa : BitVec 39) (read : BulkRead) (raced : Bool) (t : Nat)
  /-- BULK_LANE_REPAIR -/
  | bulkLaneRepair (stack : Fin 8) (channel : Fin 32) (lane : Fin 256) (redundantLeft : Bool)
  /-- BULK_CHANNEL_SPARE_DONE -/
  | bulkChannelSpareDone (stack : Fin 8) (t : Nat)
  /-- BULK_SELF_REFRESH_ENTRY -/
  | bulkSelfRefreshEntry (stack : Fin 8) (t : Nat)
  /-- BRIDGE_FLIT_ERROR: the resends already made of this flit, and the step it served. -/
  | bridgeFlitError (edge : Fin 4) (dir : Fin 2) (resends : Fin 4) (cmd : Nat) (t : Nat)
  /-- BIND_CHUNK -/
  | bindChunk (handle : Fin 4096) (check : ChunkCheck) (t : Nat)
  /-- BIND_COMPLETE -/
  | bindComplete (handle : Fin 4096) (t : Nat)
  /-- STORE_PATROL_CHUNK: the chunk, how its reads answer the digest, and the corrected bits of its block -/
  | storePatrolChunk (slot : Fin 1024) (check : PatrolCheck) (t : Nat)
  /-- STORE_CHANNEL_IDLE_OFF -/
  | storeChannelIdleOff (stack : Fin 8) (t : Nat)
  /-- INSTALL_MODE_ENTER -/
  | installModeEnter (r : Requester)
  /-- INSTALL_MODE_ACTIVE -/
  | installModeActive
  /-- INSTALL_MODE_EXIT -/
  | installModeExit (r : Requester)
  /-- STORE_OPEN -/
  | storeOpen (r : Requester) (slot : BitVec 16)
  /-- STORE_COMMIT -/
  | storeCommit (r : Requester) (slot : BitVec 16) (t : Nat)
  /-- STORE_ERASE -/
  | storeErase (r : Requester) (slot : BitVec 16)
  /-- STORE_KEY_WRITE -/
  | storeKeyWrite (r : Requester) (slot : Fin 4) (key : Bytes)
  /-- STORE_KEY_REVOKE -/
  | storeKeyRevoke (r : Requester) (slot : BitVec 8)
  /-- CONTEXT_SWITCH_DONE -/
  | contextSwitchDone (pool : Fin 16) (t : Nat)
  /-- CLUSTER_ASSIGN -/
  | clusterAssign (r : Requester) (cluster : ClusterId) (value : BitVec 16)
  /-- POOL -/
  | pool (r : Requester) (ctx : Fin 256) (value : BitVec 8)
  /-- BIVOUAC_VA -/
  | bivouacVa (r : Requester) (ctx : Fin 256) (value : BitVec 64)
  /-- SHARE -/
  | share (r : Requester) (ctx : Fin 256) (value : BitVec 16)
  /-- POOL_SLACK -/
  | poolSlack (r : Requester) (pool : Fin 16) (value : BitVec 32)
  /-- LANE_SIDE -/
  | laneSide (r : Requester) (ctx : Fin 256) (entry : Fin 16) (record : Bytes)
  /-- LOOP_LANE -/
  | loopLane (r : Requester) (ring : RingId) (value : BitVec 8)
  /-- LANE_SWITCH -/
  | laneSwitch (r : Requester) (ctx : Fin 256) (lane : BitVec 8)
  /-- LANE_CANCEL -/
  | laneCancel (r : Requester) (ctx : Fin 256) (lane : BitVec 8)
  /-- LANE_FLIP -/
  | laneFlip (ctx : Fin 256) (lane : Fin 8)
  /-- BINDING_RELEASE -/
  | bindingRelease (handle : Fin 4096)
  /-- CAIRN_FREEING -/
  | cairnFreeing (ctx : CtxId) (tree : BitVec 64) (t : Nat)
  /-- TRU_EXCHANGES -/
  | truExchanges (r : Requester) (ctx : Fin 256) (entry : Fin 32) (record : Bytes)
  /-- DISPATCH_COUNTS_COMPLETE -/
  | dispatchCountsComplete (exchange : Nat)
  /-- DISPATCH_COMPLETE -/
  | dispatchComplete (exchange : Nat)
  /-- RETURN_ANNOUNCED -/
  | returnAnnounced (exchange : Nat)
  /-- RETURN_COMPLETE -/
  | returnComplete (exchange : Nat)
  /-- FRAME_RECEIVED -/
  | frameReceived (port : PortId) (check : FrameCheck) (fcu : FrameControl)
  /-- LINK_INFO -/
  | linkInfo (port : PortId) (info : LinkInfo)
  /-- PORT_SIGNAL_DETECT -/
  | portSignalDetect (port : PortId)
  /-- PORT_TRAIN_DONE -/
  | portTrainDone (port : PortId)
  /-- PORT_ALIGN_DONE -/
  | portAlignDone (port : PortId)
  /-- PORT_STATE_TIMEOUT -/
  | portStateTimeout (port : PortId)
  /-- PORT_RETRAIN -/
  | portRetrain (port : PortId) (cause : RetrainCause)
  /-- PORT_DOWN -/
  | portDown (port : PortId) (t : Nat)
  /-- READ -/
  | read (port : PortId) (h : PacketHeader)
  /-- FLUSH -/
  | flush (port : PortId) (h : PacketHeader)
  /-- READ_DATA -/
  | readData (port : PortId) (h : PacketHeader) (data : Bytes)
  /-- READ_FAULT -/
  | readFault (port : PortId) (h : PacketHeader)
  /-- FLUSH_DONE -/
  | flushDone (port : PortId) (h : PacketHeader)
  /-- WRITE -/
  | write (port : PortId) (h : PacketHeader) (data : Bytes)
  /-- READY -/
  | ready (port : PortId) (h : PacketHeader) (t : Nat)
  /-- ABORT -/
  | abort (port : PortId) (h : PacketHeader) (t : Nat)
  /-- COUNTS -/
  | counts (port : PortId) (h : PacketHeader) (data : Bytes) (t : Nat)
  /-- ANNOUNCE -/
  | announce (port : PortId) (h : PacketHeader) (t : Nat)
  /-- HOLD -/
  | hold (port : PortId) (h : PacketHeader) (t : Nat)
  /-- EPOCH -/
  | epoch (port : PortId) (h : PacketHeader)
  /-- EPOCH_ACK -/
  | epochAck (port : PortId) (h : PacketHeader)
  /-- BORDER -/
  | border (port : PortId) (h : PacketHeader)
  /-- GROUP_COMMIT -/
  | groupCommit (cmd : Nat) (t : Nat)
  /-- GROUP_OUTCOME_UNKNOWN -/
  | groupOutcomeUnknown (cmd : Nat) (t : Nat)
  /-- GROUP_ENTRY_EXPIRED -/
  | groupEntryExpired (ctx : CtxId) (group : BitVec 32) (t : Nat)
  /-- QUIESCENCE_LIMIT -/
  | quiescenceLimit (ctx : CtxId) (t : Nat)
  /-- PARTITION_APPLY -/
  | partitionApply (r : Requester) (value : BitVec 8)
  /-- PARTITION_DRAINED -/
  | partitionDrained (port : PortId)
  /-- BORDER_WAIT_TIMEOUT -/
  | borderWaitTimeout (port : PortId) (t : Nat)
  /-- LANE_TEST_INTERVAL -/
  | laneTestInterval (port : PortId)
  /-- LANE_TEST_DWELL_END: bit errors and bits compared on the received lane under test. -/
  | laneTestDwellEnd (port : PortId) (errors bits : Nat) (t : Nat)
  /-- PORT_LANE_TEST -/
  | portLaneTest (r : Requester) (port : PortId) (value : BitVec 16)
  /-- PORT_LANE_TEST_END -/
  | portLaneTestEnd (test : LabTest)
  /-- KOP_READ -/
  | kopRead (r : Requester) (index : BitVec 16) (sub : BitVec 8) (type : BitVec 8) (length : BitVec 16) (offset : BitVec 32)
  /-- KOP_WRITE -/
  | kopWrite (r : Requester) (index : BitVec 16) (sub : BitVec 8) (type : BitVec 8) (offset : BitVec 32) (data : Bytes)
  /-- KOP_DESCRIBE -/
  | kopDescribe (r : Requester) (index : BitVec 16) (sub : BitVec 8)
  /-- KOP_NEXT -/
  | kopNext (r : Requester) (index : BitVec 16) (sub : BitVec 8)
  /-- MANAGEMENT_DATAGRAM: source address and port, UDP checksum present, the payload. -/
  | managementDatagram (t : Nat) (srcIp : BitVec 32) (srcPort : BitVec 16) (frame : MgtUdp) (pdu : Bytes)
  /-- ARP_REQUEST: the sender's hardware address and frame, its protocol address, target protocol address. -/
  | arpRequest (sender : ArpSender) (senderIp targetIp : BitVec 32)
  /-- ICMP_ECHO -/
  | icmpEcho (srcIp dstIp : BitVec 32) (echo : MgtEcho)
  /-- SERVICE_BUS_SEGMENT: one 64-byte frame on the request identifier. -/
  | serviceBusSegment (t : Nat) (segment : Bytes)
  /-- SERVICE_BUS_SEGMENT_TIMEOUT -/
  | serviceBusSegmentTimeout (t : Nat)
  /-- SB_STATUS_PERIOD -/
  | sbStatusPeriod (t : Nat)
  /-- ROLE_CHALLENGE: the value drawn from the random source. -/
  | roleChallenge (r : Requester) (drawn : Bytes)
  /-- ROLE_RESPONSE -/
  | roleResponse (r : Requester) (response : Bytes) (t : Nat)
  /-- ROLE_DROP -/
  | roleDrop (r : Requester)
  /-- ROLE_LEASE_EXPIRED -/
  | roleLeaseExpired (management : Bool) (t : Nat)
  /-- PROFILE_SAVE -/
  | profileSave (r : Requester) (slot : BitVec 8)
  /-- PROFILE_AUTOSAVE -/
  | profileAutosave (t : Nat)
  /-- PROFILE_IMAGE -/
  | profileImage (r : Requester) (slot : Fin 4) (image : Bytes)
  /-- PROFILE_ERASE -/
  | profileErase (r : Requester) (slot : BitVec 8)
  /-- CTX_RESET -/
  | ctxReset (r : Requester) (ctx : Fin 256)
  /-- CONTEXT_RESET_END -/
  | contextResetEnd (ctx : Fin 256) (t : Nat)
  /-- RECOVER_REQUEST -/
  | recoverRequest (r : Requester)
  /-- RECOVERY_TIMEOUT -/
  | recoveryTimeout (t : Nat)
  /-- SNAPSHOT_RELEASE -/
  | snapshotRelease (r : Requester)
  /-- HEALTH_ACK -/
  | healthAck (r : Requester) (seq : BitVec 32)
  /-- HEALTH_MASK -/
  | healthMask (r : Requester) (value : BitVec 16)
  /-- BASECAMP_TAKEOVER -/
  | basecampTakeover (t : Nat)
  /-- CORE_ROTATE_PERIOD -/
  | coreRotatePeriod (cluster : ClusterId) (t : Nat)
  /-- CORE_ROTATION -/
  | coreRotation (cluster : ClusterId)
  /-- ROTATION_TEST_END -/
  | rotationTestEnd (cluster : ClusterId) (pass : Bool)
  /-- TEST_REQUEST_CLUSTER -/
  | testRequestCluster (r : Requester) (cluster : BitVec 8)
  /-- TEST_REQUEST_ROTATE -/
  | testRequestRotate (r : Requester) (cluster : BitVec 8)
  /-- CLUSTER_TEST_END: the physical cores that failed, and whether all else passed. -/
  | clusterTestEnd (cluster : ClusterId) (failed : List (Fin 17)) (restPassed : Bool)
  /-- LIFE_ACCUMULATE: mean temperature in quarter degrees and mean supply in mV of each cluster. -/
  | lifeAccumulate (t : Nat) (means : List (Int × Nat))
  /-- PERTURB_ENABLE -/
  | perturbEnable (r : Requester) (value : BitVec 8)
  /-- PERTURB_SLOTS -/
  | perturbSlots (r : Requester) (slot : Fin 16) (record : Bytes)
  /-- CLUSTER_POINT_REQ -/
  | clusterPointReq (r : Requester) (cluster : ClusterId) (value : BitVec 8)
  /-- CLUSTER_POINT_TRANSITION -/
  | clusterPointTransition (cluster : ClusterId)
  /-- CLUSTER_IDLE -/
  | clusterIdle (cluster : ClusterId) (t : Nat)
  /-- POWER_CAP_CHECK: module power averaged over 100 microseconds, in mW. -/
  | powerCapCheck (t : Nat) (mw : Nat)
  /-- VIN_CMP_LIMIT_CHECK: the die's VIN_CMP current in mA, steady for the interval of the check. -/
  | vinCmpLimitCheck (t : Nat) (die : Fin 4) (ma : Nat)
  /-- TEMPERATURE_DIFFERENCE_CHECK -/
  | temperatureDifferenceCheck (t : Nat)
  /-- THERMAL_SENSOR_READ: a reading in quarter degrees. -/
  | thermalSensorRead (t : Nat) (sensor : Fin 100) (reading : BitVec 16)
  /-- SENSOR_FAILED -/
  | sensorFailed (t : Nat) (sensor : Fin 100)
  /-- PORT_RETRAIN_ACTIVE -/
  | portRetrainActive (port : PortId)
  /-- FRAME_TRANSMIT -/
  | frameTransmit (port : PortId)
  /-- WAIT_TIMEOUT -/
  | waitTimeout (cmd : Nat) (t : Nat)
  /-- MANAGEMENT_LINK_DOWN -/
  | managementLinkDown (t : Nat)
  /-- REFCLK_LINK_RESTORED -/
  | refclkLinkRestored (t : Nat)
  /-- REFCLK_PCIE_RESTORED -/
  | refclkPcieRestored (t : Nat)
  /-- CAN_RXD_RECESSIVE_RESUME -/
  | canRxdRecessiveResume (t : Nat)
  /-- TCK_EDGE: the edge, the levels of TMS and TDI, and the levels at the observed cells. -/
  | tckEdge (rising : Bool) (tms tdi : Bool) (observed : BitVec 500)
  /-- TRST_N_ASSERT -/
  | trstNAssert
  /-- PROFILE_SAVE_DONE -/
  | profileSaveDone (t : Nat)
deriving DecidableEq, Repr

end Sys2Proof
end

