-- ==== Sys2Proof/Config.lean ====
section
/-! DEFINITION. What the spec leaves open: free values and functions without a body, and the factory values of R634. -/

namespace Sys2Proof.Config

/-- A value the spec leaves open, one for each number that State.free hands out. -/
opaque freeValue : Nat → BitVec 64

/-- The special functions of R156 on FP32 bits, by the SFU variant code of R175, outside their
special values: a fixed function of the input bits, which the unit gives where it meets the accuracy of R156. -/
opaque sfu : Nat → BitVec 32 → BitVec 32

/-- The Vector Engine's results that the chapters do not state, by operation, lane type and operands: MIN and MAX
with a NaN or with two zeros, shifts by 32 or more, compares of what is not comparable (R149, R175). -/
opaque veCorner : Nat → Nat → BitVec 64 → BitVec 64 → BitVec 64

/-- The fraction of a NaN accumulator that travels as a 40-bit token (R110, R111), less one. -/
opaque accNan : BitVec 31

/-- First VE register of an operator's rows (0) or results (1), by its OP_ID (R174 names none). -/
opaque veBase : Nat → Nat → Nat

/-- First VE register of the packet that port code 12 of a steering slot stands for, by global core and slot
(R174 names the registers, not which). -/
opaque steerReg : Nat → Nat → Nat

/-- Whether a load or store of FP32 lanes is one of complex elements, by its issue entry (R155 has them, R175 no field
that says so). -/
opaque complexAccess : Nat → Bool

/-- Switch-port lane of a core on which the packets of a lane of another core of the cluster arrive, none when
they do not: source core, lane, destination core (R173 names ports, not lanes). -/
opaque laneAt : Nat → Nat → Nat → Option Nat

/-- Lane of its source core that an egress takes its packets from, by cluster and egress. -/
opaque egressLane : Nat → Nat → Nat

/-- Lane of its destination core on which an ingress delivers, by cluster and ingress. -/
opaque ingressLane : Nat → Nat → Nat

/-- The tag of a round whose lead ingress is not consumed, with no CARRY loop that latched one (R185-R187; log 43). -/
opaque roundTag : Nat → Nat → Nat

/-- The count of a REPEAT slot without a control port, by slot and round (R164; log 34). -/
opaque repeatCount : Nat → Nat → Nat

/-- The lane whose write stream takes what a steering slot sends to the Stream Engine, by core and slot (R174; log 98). -/
opaque steerLane : Nat → Nat → Nat

/-- The mesh port by which the messages of an ingress come in, by cluster and ingress (R173; log 37). -/
opaque ingressPort : Nat → Nat → Nat

/-- Which of the images staged in a cluster a line of region 30 of a slice holds, none when it holds none, by the
line's PRN and number and the count of images (R178, R204 give no layout). -/
opaque stagedLine : Nat → Nat → Nat → Option Nat

/-- Whether an access made before an invalidation uses the old entry (R239): by the count of free values,
context and page. -/
opaque staleEntry : Nat → Nat → Nat → Bool

/-- The address space that the host gives a requester and its PASID (R315, R320): which of them share memory is the
host's choice. -/
opaque hostSpace : Nat → Nat

/-- What a byte shows that a running step has written and not committed (R33): by the count of free values and the
byte's address. -/
opaque uncommitted : Nat → Nat → BitVec 8

/-- The code that a weight element which is no number keeps after a delta is added, by format and its code (R305 gives
none). -/
opaque deltaNan : Nat → Nat → Nat

/-- Which of its entries a full cache gives up, by the count of free values and the cache (R214, R238, R313 name
no order). -/
opaque victim : Nat → Nat → Nat

/-- The die whose walker translates for a context's page (R238 names no die). -/
opaque walkerDie : Nat → Nat

/-- The group of eight region map entries, (context * 65536 + VRN) / 8, of which a line of region 31 holds a copy, none
when it holds none, by PRN and line (R204, R214 give no layout; log 54). -/
opaque mapGroupAt : Nat → Nat → Option Nat

/-- The die of the first copy of a group of region map entries (R214 names none; log 54). -/
opaque mapDie : Nat → Nat

/-- Which of the other three dies holds the second copy of a group (R214; log 54). -/
opaque mapDie2 : Nat → Nat

/-- The copy nearer to a unit that lies on neither copy's die, by unit and group (R214; log 54). -/
opaque nearerCopy : Nat → Nat → Nat

/-- R634 VENDOR_ID. -/
opaque vendorId : BitVec 16

/-- R634 SERIAL, 16 bytes by index. -/
opaque serial : Fin 16 → BitVec 8

/-- R634 MGT_MAC, 6 bytes by index. -/
opaque mgtMac : Fin 6 → BitVec 8

/-- R634 STORE_KEY_0, 97 bytes by index. -/
opaque storeKey0 : Fin 97 → BitVec 8

/-- R634 bits [11:1] of JTAG_IDCODE: the JEP106 identity code. -/
opaque jep106 : BitVec 11

/-- R634 CORE_STATE as found at manufacturing test: for a cluster, which physical core serves no position, and whether it is the
spare or retired. -/
opaque factoryCores : Nat → BitVec 16

/-- Whether a count of corrected bits of a Store block is high, so that the patrol refreshes the block (R269). -/
opaque refreshAt : Nat → Bool

/-- R634 STORE_SPARE_BLOCKS by stack. -/
opaque factorySpareBlocks : Fin 8 → BitVec 32

/-- The draw of a random perturbation delay from mix32 of the seed and the event count, before it is brought into the
range of 0 to DELAY_NS (R619). -/
opaque perturbDelay : BitVec 32 → Nat

/-- What DESCRIBE states of an entry whose table gives no default or range, or a factory value for each element: the
DEFAULT (0), the MIN (1) or the MAX (2), by index * 256 + subindex (R512). -/
opaque noBound : Nat → Nat → BitVec 64

/-- WRITER_FL of the factory profile (R526, R634). -/
opaque factoryWriter : BitVec 16

/-- SEQUENCE of the factory profile (R526, R634). -/
opaque factorySequence : BitVec 32

/-- The device's FEATURE_LEVEL (R539). -/
def featureLevel : Nat := 2

end Sys2Proof.Config
end

