-- ==== Sys2Proof/Machine/State.lean ====
section
/-! DEFINITION. The state of the VK-4 as plain data: every register, table, buffer, queue, mode and pin the
chapters name, the outcomes a step can stop with, and the state after reset. -/

namespace Sys2Proof.Machine

/-- Sparse data by key: keys strictly rising, no entry equal to the default that an unlisted key reads as. -/
abbrev Tab (α : Type) := List (Nat × α)

/-- Why a step can fault. -/
inductive Fault where
  /-- Raised by no meaning: the spec describes the effect of every command, so no command ends a run
  (safe: nothing is claimed of a fault). -/
  | none
deriving DecidableEq, Repr

/-- Why a step can be refused. -/
inductive Refusal where
  /-- Raised by Dispatch for a command without a meaning (safe: nothing is claimed of it). -/
  | notModelled (mnemonic : String)
deriving DecidableEq, Repr

/-! ### Pins, clocks and device mode (02, 17, 19) -/

/-- The mode of the device as a whole (R562-R569, R592-R595, R558, R623). -/
inductive Mode where
  /-- before an accepted PWR_GOOD, and after its fall -/
  | off
  /-- PWR_GOOD accepted, cold reset in force (DEV_RST_N asserted, or a rail not yet in tolerance) -/
  | reset
  /-- Reset Hold (R567) -/
  | hold
  /-- from D to READY (R624) -/
  | bringUp
  /-- in service -/
  | service
  /-- device recovery (R592) -/
  | recovery
  /-- a recovery whose second attempt failed (R595) -/
  | failed
  /-- thermal trip (R558) -/
  | tripped
deriving DecidableEq, Repr

/-- The low-speed pins and reference clocks of chapter 02, at their filtered levels. -/
structure Pins where
  pwrGood : Bool := false
  devRstN : Bool := false
  perstN : Bool := false
  brakeN : Bool := true
  /-- THERM_TRIP_N is driven low (R70) -/
  tripLow : Bool := false
  /-- rails out of tolerance by sense index (R57, R62), in rising order -/
  railsOut : List Nat := []
  /-- millivolts measured at the sense point of a rail that is out of tolerance (R600) -/
  railMv : Tab Nat := []
  refsysLost : Bool := false
  reflinkLost : Bool := false
  refpcieLost : Bool := false
  /-- the service-bus controller stopped sending (R66, CAN_RXD dominant) -/
  canStopped : Bool := false
  /-- PROFILE_SEL as sampled (R67) -/
  profileSel : Nat := 0
  /-- power-on brake over 1 s already logged (R66) -/
  brakeLogged : Bool := false
  brakeSince : Nat := 0
deriving DecidableEq, Repr

/-- Why a device recovery runs: LAST_DEVICE_RESET codes 2-5 of R598. -/
inductive RecoveryCause where
  | requested
  | hang
  | hardware
  | rail
deriving DecidableEq, Repr

/-- Progress of bring-up, of a recovery and of a host reset. -/
structure Dev where
  mode : Mode := .off
  /-- time of the event that began the mode -/
  since : Nat := 0
  /-- D of R624; in a recovery, the time of its decision (R593) -/
  dTime : Nat := 0
  profileLoaded : Bool := false
  hifOut : Bool := false
  selfTested : Bool := false
  /-- a host reset is in force (R570) -/
  hostReset : Bool := false
  /-- uptime at which it began -/
  hostSince : Nat := 0
  /-- attempts of the recovery in progress (R595) -/
  attempt : Nat := 0
  cause : RecoveryCause := .requested
  /-- the work in progress at a recovery's decision has ended, and the device is reset (R593) -/
  drained : Bool := false
  /-- contexts whose work the host reset in force abandons and whose epochs are still to advance (R570, R571) -/
  hostWork : List Nat := []
  /-- time since which a recovery has waited for a rail, and what it has waited before, ns (R593) -/
  railOut : Option Nat := none
  railWait : Nat := 0
deriving DecidableEq, Repr

/-- A message the device has sent to the outside, kept as the model's own record of it. -/
inductive Out where
  /-- the MSI-X message of a vector of the PF (0) or of VF c + 1 (c + 1) (R359, R360) -/
  | msix (function vector : Nat)
  /-- the ATS Invalidation Completion (R322) -/
  | atsDone (ctx : Nat)
  /-- a UDP datagram of the management port: next hop, destination address, port, payload (R515, R516) -/
  | datagram (hop ip port : Nat) (payload : Bytes)
  /-- an ARP reply: target hardware and protocol address (R515) -/
  | arp (mac ip : Nat)
  /-- an ARP request of the device itself for an address (R515) -/
  | arpLookup (ip : Nat)
  /-- an ICMP echo reply (R515) -/
  | echo (ip : Nat) (payload : Bytes)
  /-- a CAN FD frame: identifier and data (R522, R524) -/
  | can (id : Nat) (data : Bytes)
  /-- a frame of a fabric port, 640 B (R466) -/
  | frame (port : Nat) (data : Bytes)
  /-- an AER error message of a function: an uncorrectable error, or a correctable one (R313, R330, R361) -/
  | aer (function : Nat) (correctable : Bool)
  /-- TDO driven to a level at a falling TCK edge (R613) -/
  | tdo (level : Bool)
deriving DecidableEq, Repr

/-! ### Cadence (11) -/

/-- The Cadence Unit: the active configuration, the PLL and the tick counters (R394-R406). -/
structure Cdu where
  mode : Nat := 0
  hz : Nat := 100
  spt : Nat := 480
  /-- 0 Acquiring, 1 Pull-in, 2 Locked, 3 Holdover, 4 Internal -/
  state : Nat := 0
  holdover : Bool := true
  range : Bool := false
  noInput : Bool := false
  syncMismatch : Bool := false
  tick : Nat := 0
  tickTime : Nat := 0
  /-- a tick has occurred since power-up (R402: the first tick is number 0) -/
  ticked : Bool := false
  /-- time of the next conditioned tick, in attoseconds of uptime (R394, R403) -/
  due : Nat := 0
  /-- the fraction of the tick in progress that had elapsed at fracTime, in 2^-48 ct (R403) -/
  fracBase : Nat := 0
  /-- time in attoseconds from which the fraction advances evenly to the next tick (R403) -/
  fracTime : Nat := 0
  /-- current estimate P of the period of the tracked events, in attoseconds (R396) -/
  period : Nat := 10000000000000000
  /-- time of the next predicted input event, in attoseconds of uptime (R396) -/
  predicted : Nat := 0
  /-- consecutive missing periods (R398) -/
  missing : Nat := 0
  /-- times of the last accepted or candidate input events, newest first, at most 17 (R399) -/
  edges : List Nat := []
  /-- the last 16 period estimates, newest first (R398) -/
  periods : List Nat := []
  /-- period estimates of Locked operation with their times, newest first, of the last second (R398) -/
  locked : List (Nat × Nat) := []
  lockedAt : Nat := 0
  /-- period at which ticks run in Holdover, Acquiring and Internal, in attoseconds per tick (R398, R400) -/
  freePeriod : Nat := 10000000000000000
  /-- phase offset of Pull-in at the last tick, in attoseconds, positive when ticks are to be delayed (R399) -/
  offset : Int := 0
  /-- index of the next conditioned sample, counted from the counted boundary (mode 1, R401) -/
  sampleIndex : Nat := 0
  lastSync : Bool := false
  /-- a mark not yet checked, as its sample offset within the tick -/
  markDue : Option Nat := none
  /-- the last mark that disagreed, as its sample offset within the tick -/
  lastMark : Option Nat := none
  /-- no mark has been taken since the transition to Locked (R401) -/
  firstMark : Bool := false
  /-- samples by which the tick that begins next is lengthened (R401) -/
  lengthen : Nat := 0
  /-- samples by which the tick in progress is lengthened -/
  extra : Nat := 0
  /-- Acquiring begins at the next tick (R407) -/
  applyDue : Bool := false
  /-- tick number of the last accounting epoch's end (R381) -/
  epochTick : Option Nat := none
  /-- uptime since which Acquiring or Holdover time is counted (CDU_HOLDOVER_NS) -/
  heldSince : Nat := 0
deriving DecidableEq, Repr

/-! ### Near Memory (06) -/

/-- State of a physical region (R208). -/
inductive RegionKind where
  | free
  | owned
  | clearing
  | reserved
  | retired
  | pendingUnmap
deriving DecidableEq, Repr

structure Region where
  kind : RegionKind := .free
  owner : Nat := 0
  /-- R228: Retired instead of Free once unmapped -/
  failing : Bool := false
deriving DecidableEq, Repr

/-- A region map entry (R207): V = 1 entries are listed, so the entry is PRN and W. -/
structure MapEntry where
  prn : Nat
  w : Bool
deriving DecidableEq, Repr

/-- The NM_MAP operation in progress (R210, R211). -/
structure MapOp where
  vrn : Nat
  ctx : Nat
  oldPrn : Nat
  /-- the new entry of a remap -/
  new : Option MapEntry
deriving DecidableEq, Repr

structure Near where
  /-- bytes by PRN * 2^20 + offset; an unlisted byte reads 0 (R82, R229) -/
  mem : List Host.Cell := []
  /-- region map entries with V = 1 by context * 65536 + VRN -/
  map : Tab MapEntry := []
  regions : Tab Region := []
  /-- poisoned lines by PRN * 32768 + line, rising (R221) -/
  poison : Tab Unit := []
  /-- blocks of 64 KiB written by a running step: block number, command (R221) -/
  written : Tab Nat := []
  /-- bytes that a running step has written and not committed: address, command (R33) -/
  uncommitted : Tab Nat := []
  nmMap : BitVec 64 := 0
  op : Option MapOp := none
  /-- rows redirected to a spare row: core * 4096 + row, number of the spare row (R226, R227), persists -/
  rows : Tab Nat := []
  /-- corrected errors of a row in the current pass (R226) -/
  rowCe : Tab Nat := []
  /-- row repairs in progress, with the spare row that each fills (R227) -/
  repairing : Tab Nat := []
  /-- the line of each slice that its scrubber reads next (R222, R225) -/
  scrub : Tab Nat := []
  /-- pool regions' Bivouac state, key context * 32768 + PRN: a copy exists (value 1), copy and current bit (value 2) (R387) -/
  bivouac : Tab Nat := []
  /-- pool regions of isolated clusters whose holder changed: the context whose contents they keep (R590) -/
  stranded : Tab Nat := []
deriving DecidableEq, Repr

/-! ### Places and outcomes of accesses -/

/-- Where a device virtual address leads (R21). -/
inductive Place where
  | near (a : Nat)
  | bulk (a : Nat)
  | host (a : Nat)
  | remote (device a : Nat)
deriving DecidableEq, Repr

/-- Why an access does not lead anywhere: window 0-3, kind as in the Stream Position Record, Bulk level. -/
structure Miss where
  window : Nat
  kind : Nat
  level : Nat := 0
  va : Nat
deriving DecidableEq, Repr

/-- What an access of the memory answers. -/
inductive Access (α : Type) where
  | ok (a : α)
  | miss (m : Miss)
  /-- the first damaged line's address -/
  | damaged (va : Nat)
deriving DecidableEq, Repr

/-- Why a command ends with an error: its status and VALUE, the translation fault it met, and the devices
told of it by ABORT (R338, R342). -/
structure Fail where
  status : Nat
  value : Nat
  miss : Option Miss := none
  abort : List Nat := []
  /-- GROUP_ID that the ABORT names -/
  group : Nat := 0
  /-- bytes of the Remote window that the check needs and that have not been fetched: address and length -/
  ask : Option (Nat × Nat) := none
deriving DecidableEq, Repr

/-! ### Bulk and Store (07) -/

structure Bulk where
  /-- bytes by BPA; an unlisted byte reads 0 (R257) -/
  mem : List Host.Cell := []
  /-- BKI_CTX_ROOT by context -/
  roots : Tab (BitVec 64) := []
  inval : BitVec 64 := 0
  /-- page translations that some cache holds: key context * 2^28 + VA[43:16], or for a 2 MiB page 2^40 + context * 2^23 +
  VA[43:21]; value (2 * frame + W) * 2, plus 1 where the leaf is an L2 entry (R238) -/
  tlb : Tab Nat := []
  /-- pages held by a Stream Engine's cache (core, at most 32) and by a die's walker (1,024 + die, at most 4,096) -/
  pageCache : Tab (List Nat) := []
  /-- L2 pointer entries that some walker holds: key context * 2^23 + VA[43:21], value the L1 table's address -/
  ptr : Tab Nat := []
  /-- L2 pointer entries held by each die's walker, at most 256 -/
  ptrCache : Tab (List Nat) := []
  /-- region entries held by a Stream Engine (core) and by the Host Interface's copy path (1,024), at most 64 (R214) -/
  regionCache : Tab (List Nat) := []
  /-- copies of region map entries found uncorrectable and not yet rewritten, by (context * 65536 + VRN) div 8 * 2 +
  copy: a line holds eight entries (R207, R214) -/
  mapDamage : Tab Unit := []
  /-- ATS translations that the Host Interface caches, at most 8,192: key context * 2^52 + page, value 1 for reads, 2 for
  reads and writes (R313, R320) -/
  ats : Tab Nat := []
  /-- poisoned 64 B lines by BPA div 64 -/
  poison : Tab Unit := []
  /-- lines written by a running step: BPA div 64, command (R252) -/
  written : Tab Nat := []
  /-- bytes that a running step has written and not committed: BPA, command (R33) -/
  uncommitted : Tab Nat := []
  /-- uncorrectable lines of a channel in the current pass, key stack * 64 + channel (R255) -/
  channelUe : Tab Nat := []
  /-- lines already counted for their channel in the current pass, by BPA div 64 (R255) -/
  passLines : Tab Unit := []
  /-- channels that have met R255 in the current pass -/
  channelMet : Tab Unit := []
  /-- transfer errors of a lane in the current pass, key (stack * 64 + channel) * 256 + lane (R254) -/
  laneErrors : Tab Nat := []
  /-- lanes mapped onto a redundant lane of their channel, by the same key (R254) -/
  lanesMapped : Tab Unit := []
  scrub : Tab Nat := []
  /-- channel under sparing copy, by stack -/
  sparing : Tab Nat := []
  /-- time of the last access of a stack (R257) -/
  lastAccess : Tab Nat := []
deriving DecidableEq, Repr

/-- A Store slot record (R259). -/
structure Slot where
  modelId : BitVec 64 := 0
  generation : BitVec 32 := 0
  chunks : Nat := 0
  /-- 0 Empty, 1 Writing, 2 Valid, 3 Suspect -/
  state : Nat := 0
  keyId : Nat := 0
  featureMin : Nat := 0
  writes : Nat := 0
  /-- extents as (first stripe row, rows) (R259) -/
  extents : List (Nat × Nat) := []
  /-- the manifest with its section table and digests, kept in the slot's metadata area (R260, R270) -/
  manifest : Bytes := []
  /-- the key that signed the image has been revoked since (R263) -/
  keyRevoked : Bool := false
deriving DecidableEq, Repr

/-- The slot open for writing and what has arrived of it (R264, R265). -/
structure OpenSlot where
  slot : Nat
  received : Nat := 0
  /-- the bytes of the manifest and signature as they arrive -/
  head : Bytes := []
  checked : Bool := false
  chunks : Nat := 0
  extents : List (Nat × Nat) := []
  /-- chunks that have arrived and passed their digests -/
  written : Nat := 0
  /-- bytes of the chunk that is arriving -/
  partialChunk : Bytes := []
  /-- the key that signed the image has been revoked since its check (R263) -/
  keyRevoked : Bool := false
deriving DecidableEq, Repr

structure Store where
  /-- the directory as its newer copy has it, the number of that copy, which lies on stack number mod 2, and the older copy
  (R259, R266) -/
  slots : Tab Slot := []
  sequence : Nat := 0
  older : Tab Slot := []
  /-- payload bytes by stripe row * 2^24 + offset within the row; unlisted reads 0 -/
  mem : List Host.Cell := []
  opened : Option OpenSlot := none
  /-- key slots 1-3: the 97 bytes -/
  keys : Tab Bytes := []
  /-- 0 empty, 1 active, 2 revoked for slots 0-3; slot 0 unlisted is active -/
  keyState : Tab Nat := []
  /-- pages of 2 MiB written per stack, for wear (R268) -/
  wear : Tab Nat := []
  /-- spare blocks that have replaced others, per stack (R268) -/
  spent : Tab Nat := []
  /-- corrected bits of a block since it was written, by stripe row * 8 + stack (R269) -/
  corrected : Tab Nat := []
  lastAccess : Tab Nat := []
deriving DecidableEq, Repr

/-! ### Host Interface (09) -/

/-- A context control page (R319). -/
structure CtxPage where
  evqError : Bool := false
  evqBase : BitVec 52 := 0
  evqLog2 : BitVec 4 := 4
  evqVector : BitVec 11 := 0
  evqEnable : Bool := false
  evqHead : BitVec 12 := 0
  evqTail : BitVec 12 := 0
  evqPhase : Bool := true
  pasid : BitVec 20 := 0
  pasidEn : Bool := false
  atsEn : Bool := false
deriving DecidableEq, Repr

/-- A ring table entry and its doorbell state (R324, R326); DRAINED, INFLIGHT and the reserved slots
follow from the commands in flight. -/
structure Ring where
  sqBase : BitVec 64 := 0
  cqBase : BitVec 64 := 0
  ctx : BitVec 9 := 0
  loc : BitVec 10 := 0
  sqLog2 : BitVec 5 := 0
  cqLog2 : BitVec 5 := 0
  vector : BitVec 11 := 0
  maxInflight : BitVec 13 := 0
  enable : Bool := false
  loop : Bool := false
  cfgResult : BitVec 4 := 0
  sqHead : Nat := 0
  /-- the last SQ_TAIL written -/
  sqTail : Nat := 0
  cqHead : Nat := 0
  cqTail : Nat := 0
  cqPhase : Bool := true
  error : Bool := false
deriving DecidableEq, Repr

/-- A pending launch of a tick loop: number and time of its tick (R375). -/
structure Stamp where
  tick : Nat
  time : Nat
deriving DecidableEq, Repr

/-- A loop table entry (R373). -/
structure Loop where
  launch : BitVec 2 := 0
  backlog : BitVec 4 := 2
  tickDiv : BitVec 16 := 1
  tickPhase : BitVec 16 := 0
  chainCounter : BitVec 16 := 0
  chainTarget : BitVec 64 := 0
  chainStep : BitVec 32 := 1
  /-- PENDING, oldest first -/
  pend : List Stamp := []
  cfgResult : BitVec 4 := 0
  ticksDropped : Nat := 0
  seq : BitVec 64 := 0
  /-- the loop's next launch follows a lane switch on its new side (R425) -/
  oldSide : Bool := false
deriving DecidableEq, Repr

/-- An MSI-X vector (R359, R360; PCI Express): message, mask (masked at reset), pending bit. -/
structure Msix where
  addr : BitVec 64 := 0
  data : BitVec 32 := 0
  masked : Bool := true
  pend : Bool := false
deriving DecidableEq, Repr

/-- A dictionary mailbox (R518). -/
structure Mailbox where
  request : Bytes := []
  response : Bytes := []
  irqEn : Bool := false
  reqBytes : Nat := 0
  rspBytes : Nat := 0
  vector : Nat := 0
  done : Bool := false
  busy : Bool := false
  /-- while BUSY: the response that is not in place yet (R518, R520) -/
  due : Bytes := []
deriving DecidableEq, Repr

structure Hif where
  speed : BitVec 4 := 0
  width : BitVec 5 := 0
  flit : Bool := false
  ready : Bool := false
  linkUp : Bool := false
  /-- VFs enabled: NumVFs while VF Enable is set (R315) -/
  numVfs : Nat := 0
  pages : Tab CtxPage := []
  rings : Tab Ring := []
  loops : Tab Loop := []
  /-- MSI-X tables, key function * 2048 + vector, function 0 the PF and c + 1 a VF -/
  msix : Tab Msix := []
  /-- mailboxes by function -/
  mailbox : Tab Mailbox := []
  /-- last ring served, for the round-robin order of R328 -/
  lastRing : Nat := 0
deriving DecidableEq, Repr

/-! ### Commands in flight and steps (01, 09, 10) -/

/-- Progress of a command in flight. -/
inductive Stage where
  /-- fetched, not started -/
  | waiting
  /-- a LAUNCH_STEP taken up by its loop, waiting for its launch condition (R340) -/
  | queued
  /-- waiting for its pool's grant (R370) -/
  | grant
  /-- a LAUNCH_STEP that is ready (R376) -/
  | ready
  | running
deriving DecidableEq, Repr

/-- A command in flight (R328), with the 64 bytes read at its fetch. -/
structure Cmd where
  id : Nat
  ring : Nat
  ctx : Nat
  raw : Bytes
  stage : Stage := .waiting
  /-- phase, in 1/65,536 ct, at which it started (R351) -/
  startPhase : Nat := 0
  /-- WAIT: the value that met its condition -/
  met : Option (BitVec 64) := none
  /-- it has waited for its pool's grant, or has begun under it on the pool (R370, R382) -/
  waited : Bool := false
deriving DecidableEq, Repr

/-- A range entry of a step block (R343). -/
structure Range where
  base : Nat
  length : Nat
  kind : Nat
deriving DecidableEq, Repr

/-- A signal entry of a step block. -/
structure Signal where
  counter : Nat
  set : Bool
  value : BitVec 64
deriving DecidableEq, Repr

/-- The counts of a Crux step record for the execution in progress (R130), unsaturated. -/
structure Crux where
  tiles : Nat := 0
  escalated : Nat := 0
  saturated : Nat := 0
  nanBlocks : Nat := 0
  ovf : Nat := 0
  /-- emitted elements that are NaN and did not overflow (CRUX_OVF_NAN counts an element once) -/
  nan : Nat := 0
  ovfRanges : Nat := 0
  nanRanges : Nat := 0
  maxEstimate : Nat := 0
  srUsed : Bool := false
  invalidT2 : Bool := false
deriving DecidableEq, Repr

/-- How an executing step has failed, to be settled when its Rappel is quiescent. -/
inductive Ending where
  /-- replay for the R338 event 1-6 -/
  | replay (event : Nat)
  /-- replay for damaged committed input at an address (R45) -/
  | damaged (addr : Nat)
  /-- complete with a status and value, no replay -/
  | status (code : Nat) (value : BitVec 64)
  /-- abandoned without a completion (host reset, R570) -/
  | silent
  /-- discarded and kept for relaunch by a hang search (R585) -/
  | held
deriving DecidableEq, Repr

/-- A step: a LAUNCH_STEP from its launch to its completion. -/
structure Step where
  cmd : Nat
  ring : Nat
  ctx : Nat
  seq : BitVec 64
  /-- tick number of the stamp, or none (R32) -/
  stamp : Option Stamp := none
  /-- ready time: uptime and phase (R376, R379) -/
  readyTime : Nat := 0
  readyPhase : Nat := 0
  launched : Bool := false
  /-- the launch checks have passed once: parameters are latched and a relaunch repeats none of them (R42) -/
  latched : Bool := false
  /-- launch of the current attempt, uptime and phase -/
  launchTime : Nat := 0
  launchPhase : Nat := 0
  firstLaunch : Nat := 0
  footprint : BitVec 64 := 0
  /-- current phase index and the step's phase Routes (R196) -/
  phase : Nat := 0
  routes : List Nat := []
  ranges : List Range := []
  signals : List Signal := []
  cruxEn : Bool := false
  cruxRecord : Nat := 0
  groupId : Nat := 0
  members : List Nat := []
  iterations : Nat := 1
  /-- latched at launch (R114, R116, R123) -/
  srSeed : BitVec 64 := 0
  bitExact : Bool := false
  escalate : Bool := true
  threshold : Nat := 0x1000
  attempt : Nat := 0
  replays : Nat := 0
  trialReplays : Nat := 0
  crux : Crux := {}
  deltaRecords : Nat := 0
  deltaSaturated : Nat := 0
  /-- deadline passed before the commit point (R44) -/
  missed : Bool := false
  /-- execution ended; writes acknowledged (R189); waiting for the group commit (R40) -/
  ended : Bool := false
  readySent : Bool := false
  aborted : Bool := false
  committed : Bool := false
  ending : Option Ending := none
  /-- a stall has already been absorbed by replay (R583) -/
  stalled : Nat := 0
  /-- time discarded by replay, ns (R380) -/
  replayNs : Nat := 0
  /-- time waited for the grant, ns (R390) -/
  grantNs : Nat := 0
  /-- time for which requests to memory, to another die or to another device kept clusters of the footprint frozen in the current
  attempt, ns (R182, R390) -/
  interfereNs : Nat := 0
  /-- ready since which another context held the grant -/
  grantSince : Option Nat := none
  /-- the lane, the side and the LANE_GEN latched at launch (R419) -/
  lane : Option Nat := none
  side : Nat := 0
  laneGen : Nat := 0
  /-- held for a lane switch (R422) -/
  heldForLane : Bool := false
  /-- exchange descriptors latched at launch, 128 B each (R450) -/
  exchanges : List Bytes := []
  /-- writes of the prepared commit log, in order, and the trees they hold (R430, R436) -/
  prepared : List (Nat × Bytes) := []
  /-- session updates of the prepared commit log: record address and tokens appended -/
  appends : List (Nat × Nat) := []
  inserted : Nat := 0
  trees : List Nat := []
  /-- free nodes that the preparation has written, with what they held before (R430, R436) -/
  nodes : List (Nat × Bytes) := []
  /-- pointers to dead nodes that the prepared insertions move: from, to (R437) -/
  relinks : List (Nat × Nat) := []
  /-- SVL_SLICE_FL latched at launch (R498) -/
  sliceFl : Nat := 0
  /-- READY received for the current attempt: device, SLICE_FL, list check (R484) -/
  readies : List (Nat × Nat × Nat) := []
  /-- members that hold (R486) -/
  holding : List Nat := []
  /-- time at which the own READY was sent -/
  readyTimeNs : Nat := 0
  /-- counts of exchanges, settled at commit (R463): total, remote bytes, rows, drops, ties, padding -/
  truTotal : Nat := 0
  truRemote : Nat := 0
  truRows : Nat := 0
  /-- ports used by remote writes of the step (R476) -/
  portsUsed : List Nat := []
  /-- the exchanges that the last phase's Route starts have started -/
  triggered : Bool := false
  /-- phase activation waits for a Rappel -/
  starting : Bool := false
  /-- iteration counters and CARRY state of its cores at its first launch, to which a replay returns (R166, R199) -/
  launchSteer : Tab (Tab Nat × Tab Nat) := []
  /-- the Crux step record has been sent to a range on another device (R130, R343) -/
  recordSent : Bool := false
deriving DecidableEq, Repr

/-! ### Routes, clusters and cores (03, 04, 05, 08) -/

/-- A Route the device knows: its image address, footprint and owner (R167, R371). -/
structure Route where
  id : Nat
  ctx : Nat
  footprint : BitVec 64
  image : Nat
  parked : Bool := false
  /-- the configuration stores of a resident Route, kept as its image -/
  bytes : Bytes := []
  /-- clusters whose copy in staging was marked lost (R221) -/
  lost : Tab Unit := []
deriving DecidableEq, Repr

/-- A staged image (R178): the bytes, the context, and per cluster the activation rank. -/
structure Staged where
  id : Nat
  ctx : Nat
  footprint : BitVec 64
  address : Nat
  bytes : Bytes
  /-- clusters that hold it, with the count at which it was last activated or staged there -/
  rank : Tab Nat := []
deriving DecidableEq, Repr

/-- A packet on a lane: its bytes, and whether an emitted element of it overflowed or is NaN (R115, R130, R164). -/
structure Pkt where
  data : Bytes
  ovf : Bool := false
  nan : Bool := false
deriving DecidableEq, Repr

/-- A message of a channel (R185). -/
structure Message where
  tag : Nat
  /-- source rank: the REDUCE_RANK and egress order of its sender -/
  rank : Nat := 0
  source : Nat := 0
  packets : List Pkt := []
  /-- an end marker (R189) -/
  last : Bool := false
deriving DecidableEq, Repr

structure Ingress where
  /-- messages held, in arrival order -/
  held : List Message := []
  expected : Nat := 0
  /-- sources whose end marker has arrived -/
  ends : Nat := 0
deriving DecidableEq, Repr

structure Egress where
  /-- credits spent: the egress holds its full credits when none is (R186, R195) -/
  spent : Nat := 0
  /-- SEQ count of messages sent -/
  sent : Nat := 0
  /-- messages on their way to the ingress, oldest first -/
  transit : List Message := []
  /-- credits on their way back -/
  returning : Nat := 0
  endSent : Bool := false
deriving DecidableEq, Repr

/-- A number: NaN, an infinity, or (-1)^neg × m × 2^e. -/
inductive FVal where
  | nan
  | inf (neg : Bool)
  | fin (neg : Bool) (m : Nat) (e : Int)
deriving DecidableEq, Repr

/-- A decoded block: its 32 values, whether it is a NaN block, whether it holds an invalid T2 code. -/
structure Block32 where
  vals : List FVal
  nan : Bool
  invalid : Bool := false
deriving DecidableEq, Repr

/-- A K group of one row: the stored blocks when it comes pre-quantised, else its values, +0 beyond the valid K (R146). -/
structure Row where
  blocks : List Block32 := []
  vals : List FVal := []
deriving DecidableEq, Repr

/-- An element of an output row that waits for the rest of its row: row, column, code and whether it overflowed or is NaN. -/
structure Element where
  row : Nat
  col : Nat
  el : Nat × Bool × Bool
deriving DecidableEq, Repr

/-- A lane that a load or store of the Vector Engine moves: its number, its slice offset, the grant that moves it, and its data
for a store. -/
structure VeLane where
  lane : Nat
  addr : Nat := 0
  grant : Nat := 0
  data : Nat := 0
deriving DecidableEq, Repr

/-- An access of a Vector Engine that waits for its slots of the slice port (R133, R155): the offset of its issue entry in the
image, its unmasked lanes, and the cycle of the round from which it takes a slot. -/
structure VeAccess where
  entry : Nat
  lanes : List VeLane := []
  /-- grants that it has had, or for NORM the group that it reads -/
  turn : Nat := 0
  /-- bytes of the group that have been read, for NORM -/
  bytes : Bytes := []
  due : Nat := 0
deriving DecidableEq, Repr

/-- Lanes that a load has read and that come to their register at a cycle of the round, 6 cycles after their grant (R134): core,
issue entry, and the lanes with their data. -/
structure Landing where
  core : Nat
  cycle : Nat
  entry : Nat
  lanes : List (Nat × Nat)
deriving DecidableEq, Repr

/-- What a round that is under way keeps beside the state of its cores: its tag, the packets that have reached each egress,
and the passes, rows and elements in progress. -/
structure Work where
  tag : Nat := 0
  out : Tab (List Pkt) := []
  /-- passes that the round has begun, by core * 32 + operator: passes started before it, and its initial tokens -/
  live : Tab (Nat × Bytes) := []
  /-- rows of the tile that is under way, by core * 32 + operator -/
  rows : Tab (List Row) := []
  /-- the bank that a column block was computed in, by (core * 32 + operator) * 65536 + block (R144) -/
  banks : Tab Nat := []
  /-- elements for the switch port that wait for the rest of their row, by core * 32 + operator -/
  kept : Tab (List Element) := []
  /-- blocks that a core, the head of a Rope, has still to read of its own slice in the round (R300) -/
  toRead : Tab Nat := []
  /-- rows read from the slice that have not reached the array, by ((core * 32 + operator) * 2^32 + tile) * 256 + row (R134) -/
  ahead : Tab Row := []
  /-- biases and scales read for a column block, by (core * 32 + operator) * 65536 + block -/
  columns : Tab (List FVal × List FVal) := []
  /-- elements of complete rows that do not yet fill a packet, by core * 32 + operator (R135) -/
  begun : Tab (List Element) := []
  /-- bytes that the slot side of a stream has moved in the round, by core * 32 + descriptor (R282) -/
  moved : Tab Nat := []
  /-- accesses of the Vector Engine of a core that wait for slots, oldest first -/
  ves : Tab (List VeAccess) := []
  landings : List Landing := []
deriving DecidableEq, Repr

/-- A round that waits in its middle for a block of a Rope: its number, the messages it took, its work, and how many of its
actions have been performed (R182, R301; log 46). -/
structure Pause where
  num : Nat
  wanted : List (Nat × List Message)
  work : Work
  at' : Nat
deriving DecidableEq, Repr

/-- The execution of one cluster of a footprint (R181-R189). -/
structure Cluster where
  /-- number of rounds started -/
  round : Nat := 0
  frozen : Bool := false
  /-- time at which it froze -/
  frozenSince : Nat := 0
  /-- time from which a request to memory, to another die or to another device has kept it frozen (R390) -/
  requestSince : Option Nat := none
  ended : Bool := false
  ingress : Tab Ingress := []
  egress : Tab Egress := []
  /-- the round that waits in its middle -/
  paused : Option Pause := none
deriving DecidableEq, Repr

/-- One half of a stream buffer (R281, R283). -/
structure Half where
  /-- bytes of the half in the stream buffer -/
  data : Bytes := []
  /-- bytes arrived (read), or sent through a link and not yet acknowledged (write) -/
  done : Nat := 0
  /-- transfers of the half are on their way through a link -/
  busy : Bool := false
  /-- it holds an emitted element that overflowed, or a NaN -/
  ovf : Bool := false
  nan : Bool := false
deriving DecidableEq, Repr

/-- A Stream Position Record (R290). -/
structure Spr where
  core : Nat
  stream : Nat
  window : Nat
  kind : Nat
  seq : Nat
  va : Nat
  position : Nat
  pass : Nat
  ctx : Nat
  count : Nat
  /-- the reader of a Rope's descriptor that halted: 0 of blocks, 1 of its delta table; 0 for a stream (R302) -/
  reader : Nat := 0
deriving DecidableEq, Repr

/-- A stream or Rope reader of a core's descriptor (R281-R294). -/
structure Stream where
  /-- position of the first byte not at its destination (R291) -/
  position : Nat := 0
  /-- the halves of the stream buffer; of a Rope descriptor, the bytes of the blocks that are read and in no slot yet, and
  the delta table of the last pass that has one (R301, R303) -/
  half0 : Half := {}
  half1 : Half := {}
  /-- logical halves released so far -/
  released : Nat := 0
  /-- halted with a fault not yet saved or saved -/
  fault : Option Spr := none
  spr : Option Spr := none
  /-- phase at which the SPR was saved (R293) -/
  savedPhase : Nat := 0
  /-- RESUME_STREAM commands held until the SPR is saved (R294) -/
  held : List Nat := []
  faults : Nat := 0
  /-- passes whose delta table a Rope's reader has read (R303) -/
  pass : Nat := 0
  /-- bytes that the slot side has moved; of KIND 4, bytes written at the destination -/
  filled : Nat := 0
  /-- ports used by the remote writes of the half that is written (R476) -/
  ports : List Nat := []
  /-- lowest position of them that a FLUSH_DONE reported refused, with its fault kind -/
  refused : Option (Nat × Nat) := none
deriving DecidableEq, Repr

/-- A block in a Rope relay slot: its number and bytes (R298). -/
structure Block where
  num : Nat
  data : Bytes
  forwarded : Bool := false
  taken : Bool := false
  /-- every delta record for the block has been read (R301) -/
  ready : Bool := false
  /-- the copy that goes into the own Matrix Engine, with the records applied and the elements saturated (R305) -/
  own : Bytes := []
  records : Nat := 0
  saturated : Nat := 0
deriving DecidableEq, Repr

/-- The engines of one core (04). -/
structure Core where
  /-- VE registers, byte at reg * 256 + i -/
  vregs : List Host.Cell := []
  /-- mask registers, bit at mask * 128 + lane, listed when 1 -/
  masks : Tab Unit := []
  /-- ME accumulators as 40-bit numbers with the overflow flag in bit 40, bank * 16384 + row * 64 + column (R144) -/
  acc : Tab Nat := []
  /-- the bank in which the output block that is under way computes -/
  bank : Nat := 0
  /-- the weight tile in the array, the one that moves into it, and the one that fills behind it (R140) -/
  active : Bytes := []
  moving : Bytes := []
  filling : Bytes := []
  /-- passes of an ME operator started in this step, by Route ID * 32 + operator (R114) -/
  passes : Tab Nat := []
  /-- iteration counters of the steering slots -/
  iters : Tab Nat := []
  /-- CARRY slots whose loop runs, with the tag latched (R187) -/
  carry : Tab Nat := []
  /-- packets on port codes 0-15 not yet consumed, oldest first -/
  ports : Tab (List Pkt) := []
  /-- REPEAT slots that still emit: emissions left, and the packet -/
  repeats : Tab (Nat × Pkt) := []
  /-- blocks of its Rope that have come, and that its Matrix Engine has taken, over all passes -/
  ropeCame : Nat := 0
  ropeTaken : Nat := 0
  /-- elements in its slice that were emitted with an overflow (1) or as a NaN (2), by slice offset (R130) -/
  marks : Tab Nat := []
  /-- Rope relay slots, oldest first (R298) -/
  rope : List Block := []
  /-- progress counter, and the Cadence phase at which it last advanced (R582) -/
  progress : Nat := 0
  moved : Nat := 0
deriving DecidableEq, Repr

/-- Why a Rappel was requested; the precedence of R200 is the order of the list. -/
inductive Purpose where
  | contextReset
  | hostReset
  | recovery
  | replay (cmd : Nat)
  | finish (cmd : Nat)
  | hang
  | isolation (cluster : Nat)
  | evict (cmd : Nat)
  | load (cmd : Nat)
  | phase (cmd : Nat)
  | launch (cmd : Nat)
  | switch (pool : Nat)
deriving DecidableEq, Repr

/-- A Rappel in progress (R197). -/
structure Rappel where
  footprint : BitVec 64
  ctx : Nat
  purposes : List Purpose
  start : Nat
  cut : Bool := false
deriving DecidableEq, Repr

/-- A LOAD_ROUTE in progress past its checks (R176). -/
structure LoadRun where
  cmd : Nat
  ctx : Nat
  id : Nat
  footprint : BitVec 64
  image : Nat
  bytes : Bytes
  /-- steps 1 and 2 have been done; until then it waits for an earlier load of an overlapping footprint (R180) -/
  checked : Bool := true
  /-- LOAD_ROUTE with the STAGE flag, which steps 1 and 2 end (R176) -/
  stageOnly : Bool := false
  /-- the Rappel over the Routes it replaces was requested -/
  draining : Bool := false
  /-- nothing is left to drain -/
  drained : Bool := false
deriving DecidableEq, Repr

structure Array where
  loads : List LoadRun := []
  /-- eviction by LOAD_ROUTE waiting for the Route's current step: command, Route ID, context -/
  evictions : List (Nat × Nat × Nat) := []
  /-- LOAD_ROUTE commands past their checks, in the order of their acceptance (R180) -/
  order : List Nat := []
  routes : List Route := []
  staged : List Staged := []
  /-- counter for activation ranks (R178) -/
  rankClock : Nat := 0
  clusters : Tab Cluster := []
  cores : Tab Core := []
  /-- streams by core * 32 + descriptor -/
  streams : Tab Stream := []
  rappels : List Rappel := []
deriving DecidableEq, Repr

/-! ### Contexts, pools and resets (10, 17) -/

/-- Sums a context accumulates within the accounting epoch, in ns and core-ns (R381, R391). -/
structure Account where
  usage : Nat := 0
  poolUsage : Nat := 0
  total : Nat := 0
  switchCharge : Nat := 0
  replay : Nat := 0
  sumT : Nat := 0
  sumB : Nat := 0
  sumWg : Nat := 0
  sumWi : Nat := 0
  maxSlow : Nat := 0
  /-- SHARE change due at the epoch end, or at the end of a step (R384) -/
  shareDue : Option Nat := none
  shareAtStep : Bool := false
deriving DecidableEq, Repr

/-- The phase of a context reset: 2 fence raised, 3 after its Rappels (R576); its cause. -/
structure ResetRun where
  phase : Nat
  cause : Nat
  start : Nat
  /-- the wait of R571 for group steps whose READY was sent -/
  groupWait : Bool := false
  /-- a host reset has struck it: what is left of its completions and its event of type 3 are not written (R596) -/
  silent : Bool := false
deriving DecidableEq, Repr

/-- A context switch in progress (R386). -/
structure Switch where
  outgoing : Option Nat
  incoming : Nat
  start : Nat
deriving DecidableEq, Repr

/-- A hang search in progress (R585). -/
structure Hang where
  stalledCmd : Nat
  stalledCtx : Nat
  core : Nat
  captured : BitVec 64
  /-- suspects in trial order, the first on trial -/
  suspects : List Nat
  /-- the drain and engine reset are still under way -/
  draining : Bool := true
  trial : Option Nat := none
deriving DecidableEq, Repr

/-! ### Serving (12) -/

/-- A lane side record (R415). -/
structure LaneSide where
  base : Nat := 0xFFFF
  variant : Nat := 0xFFFF
  logRange : Nat := 0
  cairnRoot : Nat := 0
  sessionTable : Nat := 0
  sessions : Nat := 0
  routes : List Nat := [0, 0, 0, 0, 0, 0, 0, 0]
deriving DecidableEq, Repr

/-- A serving lane (R415-R425). -/
structure Lane where
  side0 : LaneSide := {}
  side1 : LaneSide := {}
  active : Nat := 0
  switching : Bool := false
  gen : Nat := 0
  /-- loops still open in the switch in progress (R421, R422) -/
  openLoops : List Nat := []
deriving DecidableEq, Repr

/-- State of a handle that is not Free (R411). -/
inductive BindState where
  | binding
  | bound
  | unbinding
deriving DecidableEq, Repr

/-- A binding (Table: BINDINGS record). -/
structure Binding where
  owner : Nat
  slot : Nat
  state : BindState
  modelId : BitVec 64
  generation : BitVec 32
  /-- it has a Near-resident section (R414) -/
  nearSections : Bool
deriving DecidableEq, Repr

/-- A section of a bind: where its payload lies in the slot and where it goes (R270, R346). -/
structure BindSection where
  offset : Nat
  length : Nat
  bulkVa : Nat
  nearVa : Option Nat
deriving DecidableEq, Repr

/-- A bind in progress (R270-R272). -/
structure BindRun where
  handle : Nat
  cmd : Nat
  ctx : Nat
  slot : Nat
  sections : List BindSection
  /-- chunks not yet read -/
  left : List Nat
  /-- chunks whose bytes stand in Bulk and are not yet copied into Near (R270) -/
  toCopy : List Nat := []
deriving DecidableEq, Repr

/-- A dead node met by a walk and waiting to be unlinked and freed (R437). -/
structure DeadNode where
  ctx : Nat
  tree : Nat
  /-- address of the pointer that holds it -/
  link : Nat
  node : Nat
deriving DecidableEq, Repr

/-- An operation that waits for its turn on a Cairn tree, by its command (R436). -/
structure CairnOp where
  cmd : Nat
  ctx : Nat
  tree : Nat
deriving DecidableEq, Repr

structure Serving where
  bindings : Tab Binding := []
  binds : List BindRun := []
  /-- the bind that last read a chunk of a Store stack, as its handle + 1 (R271) -/
  turns : Tab Nat := []
  /-- lanes by context * 8 + lane -/
  lanes : Tab Lane := []
  /-- LOOP_LANE by ring is element ring of 0x2A00.04 -/
  dead : List DeadNode := []
  /-- operations that wait on trees, in order of arrival (R436) -/
  cairnOps : List CairnOp := []
deriving DecidableEq, Repr

/-! ### Traverse Unit (13) -/

/-- Progress of an exchange (R453, R457, R459). -/
inductive ExStage where
  /-- waiting because 8 are in progress, or for an earlier run of it -/
  | queued
  /-- waiting for the counts or announcements of every member -/
  | gathering
  /-- rows move -/
  | moving
  | done
deriving DecidableEq, Repr

/-- A choice of a dispatch: expert, NAN_SCORE, WEIGHT bits, POSITION (R448). -/
structure Choice where
  expert : Nat
  nan : Bool
  weight : Nat
  position : Nat := 0
deriving DecidableEq, Repr

/-- An exchange of an executing step (R451). -/
structure Exchange where
  serial : Nat
  cmd : Nat
  ctx : Nat
  desc : Nat
  run : Nat
  record : Bytes
  stage : ExStage := .queued
  /-- choices in (token, rank) order -/
  choices : List Choice := []
  map : List (Nat × Nat) := []
  /-- counts by member device -/
  counts : List (Nat × List Nat) := []
  /-- members whose announcement is held -/
  announced : List Nat := []
  ties : Nat := 0
  /-- remote writes of rows not yet acknowledged, and remote reads outstanding -/
  outstanding : Nat := 0
  /-- row bytes that have come, and when the last did, in 1/65,536 ct (R461) -/
  progress : Nat := 0
  moved : Nat := 0
  /-- serial of the dispatch that a return follows -/
  pair : Option Nat := none
  /-- it has waited because 8 were in progress, and has been counted (R459, R463) -/
  waited : Bool := false
deriving DecidableEq, Repr

/-- A COUNTS or ANNOUNCE message held for a group: context, group, attempt, source, type, descriptor, run, data. -/
structure GroupNote where
  ctx : Nat
  group : Nat
  attempt : Nat
  src : Nat
  type : Nat
  desc : Nat
  run : Nat
  data : Bytes
deriving DecidableEq, Repr

structure Tru where
  exchanges : List Exchange := []
  nextSerial : Nat := 0
  /-- TRU_EXCHANGES records by context * 32 + entry -/
  table : Tab Bytes := []
deriving DecidableEq, Repr

/-! ### Links (14) -/

/-- Codes of R470 in their order. -/
inductive PortState where
  | off
  | detect
  | train
  | align
  | exchange
  | active
  | isolated
  | retrain
  | down
  | test
deriving DecidableEq, Repr

/-- A packet as R473 lays it out, data unpadded. -/
structure Packet where
  type : Nat
  poison : Bool := false
  src : Nat
  dst : Nat
  ctx : Nat
  epoch : Nat
  tag : Nat := 0
  addr : Nat := 0
  length : Nat := 0
  status : Nat := 0
  data : Bytes := []
deriving DecidableEq, Repr

/-- A sequenced frame kept in the replay buffer: sequence number, KIND, CREDIT, FIRST_HDR and body units. -/
structure SentFrame where
  seq : Nat
  kind : Nat
  credit : List Nat
  firstHdr : Nat
  body : List Bytes
  /-- the body holds units of packets -/
  packets : Bool := false
deriving DecidableEq, Repr

/-- What an outstanding request of this device serves. -/
inductive Asker where
  | copyRead (cmd pos : Nat)
  | copyFlush (cmd : Nat)
  | stream (key pos : Nat)
  | streamFlush (key : Nat)
  /-- a Rope's reader: part 0 a block, 1 the delta table -/
  | rope (key part pos : Nat)
  | exchangeRead (serial dst : Nat)
  | exchangeFlush (serial : Nat)
  | stepFlush (cmd : Nat)
  | partition
  /-- bytes of the Remote window for a command or a step: its number, the address read, the position of this piece -/
  | fetch (cmd va pos : Nat)
  /-- what a command wrote to the Remote window -/
  | fetchFlush (cmd : Nat)
deriving DecidableEq, Repr

/-- A READ or FLUSH without its response (R475, R476). -/
structure Request where
  tag : Nat
  port : Nat
  dst : Nat
  ctx : Nat
  epoch : Nat
  va : Nat
  length : Nat
  asker : Asker
deriving DecidableEq, Repr

/-- Bytes of the Remote window that a command or a step reads (R342, R343, R348): the pieces by position, the READs without
their response, and the offset and fault kind of the first that failed, 0 for damaged data. -/
structure Fetch where
  cmd : Nat
  va : Nat
  length : Nat
  parts : Tab Bytes := []
  left : Nat := 0
  failed : Option (Nat × Nat) := none
deriving DecidableEq, Repr

/-- A command that has written to the Remote window: the FLUSHes without their answer, and how it will complete. -/
structure RemoteEnd where
  cmd : Nat
  left : Nat
  status : Nat
  value : Nat
deriving DecidableEq, Repr

/-- A refused write of a source on a port, for the next FLUSH_DONE (R475, R476). -/
structure Refused where
  src : Nat
  kind : Nat
  addr : Nat
deriving DecidableEq, Repr

structure Port where
  state : PortState := .off
  /-- SVL_DEVICE_ID as it applied at the last Exchange -/
  ownId : Nat := 0
  /-- time at which the state was entered -/
  since : Nat := 0
  /-- time at which the port last ceased to carry packets (R485) -/
  lostAt : Nat := 0
  /-- LINK_INFO of the partner, as PORT_PARTNER reports it -/
  partner : Nat := 0
  partnerId : Nat := 0
  partnerSwitch : Bool := false
  level : Nat := 0
  /-- next FSEQ to send, frames not acknowledged oldest first, frames to resend -/
  nextSeq : Nat := 0
  unacked : List SentFrame := []
  resend : List SentFrame := []
  /-- NAK resends in a row without ACK advancing -/
  retries : Nat := 0
  /-- last frame received in order (4,095 before frame 0) -/
  ackSeq : Nat := 4095
  discarding : Bool := false
  nakDue : Bool := false
  /-- frames since the last KIND 2 -/
  sinceComp : Nat := 0
  /-- credits held by VC, credits to return by VC -/
  credits : List Nat := [0, 0, 0, 0]
  freed : List Nat := [0, 0, 0, 0]
  /-- packets waiting to be sent by VC, and units of packets already begun -/
  vc0 : List Packet := []
  vc1 : List Packet := []
  vc2 : List Packet := []
  vc3 : List Packet := []
  units : List Bytes := []
  infoSent : Bool := false
  refused : List Refused := []
  /-- spare lane: SPARE_TX, SPARE_USE of this side, the partner's USE, permanent lanes by direction -/
  spareTx : Nat := 15
  spareUse : Nat := 15
  spareRun : Nat := 0
  /-- SPARE_TX of the partner's last frame, and whether this side has read that lane from the spare and gone back (R493) -/
  spareSeen : Nat := 15
  spareBack : Bool := false
  partnerUse : Nat := 15
  spareRq : Nat := 15
  txPermanent : Bool := false
  rxPermanent : Bool := false
  /-- lane under in-service test by the transmitter, and the lane tested next in the cycle 8, 0 ... 7 -/
  testLane : Nat := 15
  /-- 0 no test, 1 the lane moves onto the spare, 2 the pattern is sent, 3 the lane moves back -/
  testPhase : Nat := 0
  /-- time from which the pattern is sent -/
  testSince : Nat := 0
  nextLane : Nat := 8
  /-- lane that the partner tests (its TEST), and whether the lane on the spare has been tested since it moved -/
  partnerTest : Nat := 15
  rxTested : Bool := false
  /-- a border move changes the port: 1 fenced, 2 BORDER sent, 3 ready, 4 in the Exchange that follows -/
  border : Nat := 0
  borderSince : Nat := 0
  borderHeld : Bool := false
  /-- PORT_PARTITION_NEXT has been written since the last PARTITION_APPLY (R632) -/
  nextWritten : Bool := false
  /-- installation test: PORT_LANE_TEST as written -/
  labTest : Nat := 0
  /-- what the checker of each lane counted last: bit errors and bits compared (R492) -/
  checks : Tab (Nat × Nat) := []
  /-- corrected symbols by lane, and when their count began (R465, R495) -/
  symbols : Tab Nat := []
  symbolsSince : Nat := 0
deriving DecidableEq, Repr

/-- A group table entry without a local step (R487). -/
structure EarlyGroup where
  ctx : Nat
  group : Nat
  arrived : Nat
  /-- ABORT received: attempt, status, event code -/
  abort : Option (Nat × Nat × Nat) := none
  /-- READY received: attempt, device, SLICE_FL, check -/
  readies : List (Nat × Nat × Nat × Nat) := []
  /-- members that hold: attempt, device -/
  holding : List (Nat × Nat) := []
deriving DecidableEq, Repr

/-- A context's EPOCH_ACK awaited from a device (R488). -/
structure AckWait where
  ctx : Nat
  device : Nat
  epoch : Nat
deriving DecidableEq, Repr

inductive HeldKind where
  | read
  | flush
  | write
deriving DecidableEq, Repr

/-- A READ, FLUSH or WRITE of another device, with the port on which it came. -/
structure Held where
  port : Nat
  kind : HeldKind
  h : PacketHeader
  data : Bytes := []
deriving DecidableEq, Repr

structure Links where
  ports : Tab Port := []
  requests : List Request := []
  fetches : List Fetch := []
  ends : List RemoteEnd := []
  /-- packets that wait for a border move to end (R491) -/
  waiting : List Packet := []
  /-- accesses of other devices that wait for a frozen cluster, oldest first (R276) -/
  held : List Held := []
  nextTag : Nat := 0
  /-- ports that the border move in progress changes, as a mask -/
  moving : Nat := 0
  early : List EarlyGroup := []
  notes : List GroupNote := []
  /-- devices a context has addressed since its last advance: context * 4096 + device -/
  addressed : Tab Unit := []
  acks : List AckWait := []
  /-- latest epoch announced: device * 512 + context -/
  epochs : Tab Nat := []
  /-- start of a quiescence confirmation until its limit, by kind * 512 + context: kind 0 NM_MAP, 1 BKI_INVAL,
  2 a context reset (R579) -/
  confirm : Tab Nat := []
deriving DecidableEq, Repr

/-- A COPY with remote parts in progress (R344, R476). -/
structure CopyRun where
  cmd : Nat
  /-- bytes read from the Remote window, by their offset in the COPY -/
  parts : Tab Bytes := []
  /-- READs without their response, and FLUSHes without theirs -/
  reads : Nat := 0
  flushes : Nat := 0
  /-- lowest offset that could not be read remotely, with its fault kind of R475, 0 for damaged data -/
  failed : Option (Nat × Nat) := none
  /-- the bytes have been written: status, VALUE and the translation fault it ends with -/
  result : Option (Nat × Nat × Option Miss) := none
deriving DecidableEq, Repr

structure Ctxs where
  copies : List CopyRun := []
  accounts : Tab Account := []
  resets : Tab ResetRun := []
  switches : Tab Switch := []
  hang : Option Hang := none
  /-- steps that stalled while a search ran, with their cores and suspects; their own searches follow (R584) -/
  stalls : List (Nat × Nat × List Nat) := []
  /-- contexts held in a hang search (R585) -/
  held : Tab Unit := []
  /-- time of the last transient hang of a cluster (Table: Events and the level they start) -/
  transient : Tab Nat := []
  /-- core-ns of SYS steps (R364) -/
  sysNs : Nat := 0
  /-- epoch of SYS (R577) -/
  sysEpoch : Nat := 0
  /-- an accounting epoch has been completed since the cold reset (R363) -/
  epochEnded : Bool := false
deriving DecidableEq, Repr

/-! ### Dictionary transports, roles and profiles (15) -/

/-- What an Installer grant of a class rests on (R508). -/
structure Role where
  /-- uptime at which the lease ends, while a grant is held -/
  grantUntil : Option Nat := none
  challenge : Option Bytes := none
  fails : Nat := 0
  lockedUntil : Nat := 0
deriving DecidableEq, Repr

/-- A kept response of the management port (R517). -/
structure Kept where
  ip : Nat
  port : Nat
  time : Nat
  request : Bytes
  response : Bytes
deriving DecidableEq, Repr

/-- One copy of a profile slot (R526). -/
structure ProfileCopy where
  bytes : Bytes := []
deriving DecidableEq, Repr

/-- A PROFILE_LOG record (R539). -/
structure ProfileLog where
  uptime : Nat := 0
  requested : Nat := 0
  tried : Nat := 0
  cause : Nat := 0
  copy : Nat := 0
  index : Nat := 0
  sub : Nat := 0
deriving DecidableEq, Repr

/-- A save in progress (R535): the slot, the image, saves waiting behind it. -/
structure Save where
  slot : Nat
  image : Bytes
  waiting : List Nat := []
deriving DecidableEq, Repr

structure Kop where
  /-- roles of Host-PF and Management -/
  rolePf : Role := {}
  roleMgt : Role := {}
  /-- last response of a single-request row, as a PDU (the transports carry it) -/
  response : Bytes := []
  kept : List Kept := []
  /-- ARP cache, newest first, at most 16 (R515) -/
  arp : List (Nat × Nat) := []
  /-- segments of the service-bus request being assembled, and the time of the last (R522) -/
  sbBytes : Bytes := []
  /-- number of the segment awaited, 0 while no request is being assembled -/
  sbNext : Nat := 0
  sbTime : Nat := 0
  /-- time of the last status frame (R524) -/
  sbLast : Option Nat := none
  /-- copies of the profile slots, by 2 * slot + copy (R526) -/
  copies : Tab ProfileCopy := []
  /-- the copies of the factory profile that are damaged, 0 copy A and 1 copy B (R526, R528) -/
  factoryBad : List Nat := []
  saving : Option Save := none
  /-- time of the last RWS write (R534) -/
  lastWrite : Nat := 0
  /-- a profile load has ended since power-up (R525, R625) -/
  loadedOnce : Bool := false
  log : Tab ProfileLog := []
deriving DecidableEq, Repr

/-! ### Health, spares and tests (18), power (16) -/

/-- A health event record (R599). -/
structure Event where
  seq : Nat := 0
  type : Nat := 0
  code : Nat := 0
  subject : Nat := 0
  uptime : Nat := 0
  detail : Nat := 0
  tick : Nat := 0
deriving DecidableEq, Repr

/-- A perturbation slot (R618). -/
structure Perturb where
  target : Nat := 0
  mode : Nat := 0
  index : Nat := 0
  sub : Nat := 0
  ctx : Nat := 0
  delay : Nat := 0
  duty : Nat := 0
  period : Nat := 0
  /-- events of its path so far (R619) -/
  count : Nat := 0
deriving DecidableEq, Repr

/-- Controller state of the IEEE 1149.1 TAP (R613). -/
inductive TapState where
  | reset
  | idle
  | selectDr
  | captureDr
  | shiftDr
  | exit1Dr
  | pauseDr
  | exit2Dr
  | updateDr
  | selectIr
  | captureIr
  | shiftIr
  | exit1Ir
  | pauseIr
  | exit2Ir
  | updateIr
deriving DecidableEq, Repr

structure Tap where
  state : TapState := .reset
  ir : BitVec 8 := 1
  irShift : BitVec 8 := 1
  /-- shift path of the selected data register -/
  shift : BitVec 500 := 0
  /-- update latches of the boundary register -/
  boundary : BitVec 500 := 0
  /-- TDO, none while high-impedance -/
  tdo : Option Bool := none
deriving DecidableEq, Repr

structure Health where
  /-- the active Basecamp failed with no standby: the always-on safety logic holds every cluster at point 0 (R606) -/
  safe : Bool := false
  /-- HEALTH_LOG by entry -/
  log : Tab Event := []
  /-- SEQs logged and not acknowledged, with their types, oldest first (R602) -/
  unacked : List (Nat × Nat) := []
  perturb : Tab Perturb := []
  tap : Tap := {}
  /-- CORE_STATE entries (R622) by cluster * 17 + physical core, where they differ from what manufacturing test found -/
  coreState : Tab (BitVec 8) := []
  /-- physical core released by a rotation and under test, by cluster -/
  rotating : Tab Nat := []
  /-- rotation due by cluster: the position of the core to release -/
  rotationDue : Tab Unit := []
  nextPosition : Tab Nat := []
  /-- uptime at which a cluster's rotation last fell due (R607) -/
  rotatedAt : Tab Nat := []
  /-- clusters whose spare runs its self-test (R609) -/
  spareTests : Tab Unit := []
  /-- cluster under test, and whether it was isolated (R610) -/
  testing : Option (Nat × Bool) := none
  /-- weighted microseconds of life by cluster (R611) -/
  lifeUs : Tab Nat := []
  lastLife : Nat := 0
deriving DecidableEq, Repr

/-- Timers of the power and thermal rules (16). -/
structure Power where
  /-- uptime since which the average stays below 97 % of POWER_CAP (R552) -/
  belowCap : Option Nat := none
  lastCap : Nat := 0
  /-- VIN_CMP current below 90 % of the limit since, by die (R554) -/
  belowVin : Tab Nat := []
  lastVin : Tab Nat := []
  /-- dies whose VIN_CMP current is above the limit (POWER_FLAGS[2]) -/
  vinHigh : Tab Unit := []
  /-- last change of a throttle ceiling by cluster, ns (R557) -/
  lastThrottle : Tab Nat := []
  /-- sensors at 95 degrees or more, with the time at which each last lowered its clusters' ceilings (R557) -/
  lastHot : Tab Nat := []
  /-- uptime of the cold reset from which BRAKE_TIME counts (R561) -/
  brakeCounted : Nat := 0
  /-- clusters below 11 because of temperature since (THROTTLE_TIME) -/
  throttledSince : Tab Nat := []
  /-- limit that R550 sets by cluster, as 11 - point -/
  region : Tab Nat := []
  lastRegion : Tab Nat := []
  /-- thermal limit by cluster, as 11 - point (R557) -/
  thermal : Tab Nat := []
  failed : Tab Unit := []
  /-- readings of 10 microseconds not yet folded: sum of module power of the running 1 ms -/
  sums : Tab Nat := []
  samples : Nat := 0
  /-- last activity of a cluster, for CLUSTER_IDLE_US: its power-up, a step, an activation, an access to its regions (R546) -/
  lastWork : Tab Nat := []
deriving DecidableEq, Repr

/-! ### The machine -/

/-- The state of the machine. -/
structure State where
  /-- the commands waiting, first in, first out -/
  pending : List Instr := []
  /-- the model's own count of free values taken (Config.freeValue) -/
  free : Nat := 0
  /-- messages sent to the outside, newest first -/
  out : List Out := []
  /-- the uptime counter in ns (R408) -/
  uptime : Nat := 0
  pins : Pins := {}
  dev : Dev := {}
  cdu : Cdu := {}
  /-- dictionary entries below 0x4000 and above 0x4FFF, by (index * 256 + sub) * 65536 + element -/
  dict : Tab Nat := []
  /-- per-context entries by (ctx * 16 + k) * 256 + sub -/
  cdict : Tab Nat := []
  /-- host memory, which the host writes outside the table's rows, by address space (Config.hostSpace) * 2^44 + address -/
  host : List Host.Cell := []
  /-- bytes of host memory that a running step has written and not committed: address, command (R33) -/
  hostUncommitted : Tab Nat := []
  /-- how the host answers a requester's accesses of a page of 4 KiB: 1 no translation, 2 the request is refused, 3 no write
  permission, 4 a read's completion comes poisoned, 5 with an ECRC error (R313), by requester and PASID (State.hostTag) * 2^32 +
  page (R321) -/
  hostDown : Tab Nat := []
  near : Near := {}
  bulk : Bulk := {}
  store : Store := {}
  hif : Hif := {}
  /-- sync counters and owners (R354) -/
  counters : Tab (BitVec 64) := []
  owners : Tab (BitVec 16) := []
  /-- commands in flight in fetch order, and the next serial number -/
  cmds : List Cmd := []
  nextCmd : Nat := 0
  /-- steps launched and not completed -/
  steps : List Step := []
  array : Array := {}
  ctxs : Ctxs := {}
  serve : Serving := {}
  tru : Tru := {}
  links : Links := {}
  kop : Kop := {}
  health : Health := {}
  power : Power := {}
deriving DecidableEq, Repr

/-- The machine before its rails are accepted: every register at its reset value, no memory listed. -/
def State.reset : State := {}

end Sys2Proof.Machine
end

