-- ==== Sys2Proof/Machine/Ops.lean ====
section
/-! DEFINITION. The named operations over sparse tables, byte strings, the clock, the dictionary's values
and counters, the health log and the messages sent. -/

namespace Sys2Proof.Machine

/-! ### Sparse tables -/

/-- The value of a key; an unlisted key reads as the default. -/
def tget (d : α) : Tab α → Nat → α
  | [], _ => d
  | (k', v) :: t, k => if k = k' then v else if k < k' then d else tget d t k

/-- Whether a key is listed. -/
def thas : Tab α → Nat → Bool
  | [], _ => false
  | (k', _) :: t, k => if k = k' then true else if k < k' then false else thas t k

/-- The value of a listed key. -/
def tfind : Tab α → Nat → Option α
  | [], _ => none
  | (k', v) :: t, k => if k = k' then some v else if k < k' then none else tfind t k

/-- Unlists a key. -/
def terase : Tab α → Nat → Tab α
  | [], _ => []
  | (k', v) :: t, k => if k = k' then t else if k < k' then (k', v) :: t else (k', v) :: terase t k

/-- Lists a key with a value, in its place. -/
def tput : Tab α → Nat → α → Tab α
  | [], k, v => [(k, v)]
  | (k', v') :: t, k, v =>
    if k = k' then (k, v) :: t else if k < k' then (k, v) :: (k', v') :: t else (k', v') :: tput t k v

/-- Gives a key a value; the default's entry is not listed. -/
def tset [DecidableEq α] (d : α) (t : Tab α) (k : Nat) (v : α) : Tab α :=
  if v = d then terase t k else tput t k v

/-- Unlists every key from lo up to, not including, hi. -/
def tclear (t : Tab α) (lo hi : Nat) : Tab α :=
  t.filter fun kv => decide (kv.1 < lo) || decide (hi ≤ kv.1)

/-- Keys strictly rising and above a bound. -/
def tsorted : Option Nat → Tab α → Bool
  | _, [] => true
  | b, (k, _) :: t => (match b with | none => true | some m => decide (m < k)) && tsorted (some k) t

/-- The canonical form: keys strictly rising, no entry equal to the default. -/
def twf [DecidableEq α] (d : α) (t : Tab α) : Bool :=
  tsorted none t && t.all fun kv => decide (kv.2 ≠ d)

/-- Lists a key of a set. -/
def tins (t : Tab Unit) (k : Nat) : Tab Unit := tput t k ()

/-! ### Byte strings (R8: little-endian) -/

/-- n bytes of a number, least significant first. -/
def leBytes : Nat → Nat → Bytes
  | 0, _ => []
  | n + 1, v => BitVec.ofNat 8 v :: leBytes n (v / 256)

/-- The number of a byte string, least significant byte first. -/
def leNat : Bytes → Nat
  | [] => 0
  | b :: bs => b.toNat + 256 * leNat bs

/-- The number of a byte string, most significant byte first (R261). -/
def beNat (bs : Bytes) : Nat := leNat bs.reverse

/-- n bytes of a string from an offset, short when the string is. -/
def slice (bs : Bytes) (off n : Nat) : Bytes := (bs.drop off).take n

/-- The byte at an offset, 0 beyond the end. -/
def byteAt (bs : Bytes) (off : Nat) : Nat := (bs.getD off 0).toNat

/-- A little-endian field of a byte string. -/
def field (bs : Bytes) (off n : Nat) : Nat := leNat (slice bs off n)

/-- A byte string lengthened with zeros, or cut, to n bytes. -/
def padTo (bs : Bytes) (n : Nat) : Bytes := (bs ++ List.replicate (n - bs.length) 0).take n

/-- The offset of the first byte from an offset that is not zero under a mask list. -/
def firstNonZero (bs : Bytes) (i : Nat) : Option Nat :=
  (bs.findIdx? fun b => decide (b ≠ 0)).map (· + i)

/-- Bit field [hi:lo] of a number. -/
def bits (v hi lo : Nat) : Nat := (v / 2 ^ lo) % 2 ^ (hi - lo + 1)

/-- One bit of a number. -/
def bit (v n : Nat) : Bool := v.testBit n

/-- 1 or 0. -/
def b2n (b : Bool) : Nat := if b then 1 else 0

/-- mix32 of R444. -/
def mix32 (x : BitVec 32) : BitVec 32 :=
  let x := x ^^^ (x >>> 16)
  let x := x * 0x7A3D9C4B
  let x := x ^^^ (x >>> 15)
  let x := x * 0xB5E26F19
  x ^^^ (x >>> 16)

/-- One byte of a bit-reflected CRC-32C. -/
def crcByte (c : BitVec 32) (b : Byte) : BitVec 32 :=
  (List.range 8).foldl (fun c _ => if c.getLsbD 0 then (c >>> 1) ^^^ 0x82F63B78 else c >>> 1)
    (c ^^^ b.setWidth 32)

/-- CRC-32C of a byte string (R172). -/
def crc32c (bs : Bytes) : BitVec 32 := bs.foldl crcByte 0xFFFFFFFF ^^^ 0xFFFFFFFF

/-! ### Memory: byte cells over a sparse table whose unlisted bytes read 0 -/

/-- One byte of a memory. -/
def memRead (m : List Host.Cell) (a : Nat) : Byte := tget 0 m a

/-- Writes one byte, keeping the canonical form. -/
def memWrite (m : List Host.Cell) (a : Nat) (b : Byte) : List Host.Cell := tset 0 m a b

/-- n bytes from an address. -/
def memReads (m : List Host.Cell) (a : Nat) : Nat → Bytes
  | 0 => []
  | n + 1 => memRead m a :: memReads m (a + 1) n

/-- Writes a byte string at an address. -/
def memWrites (m : List Host.Cell) (a : Nat) : Bytes → List Host.Cell
  | [] => m
  | b :: bs => memWrites (memWrite m a b) (a + 1) bs

/-- The canonical form of a memory. -/
def memWf (m : List Host.Cell) : Bool := twf (0 : Byte) m

/-! ### The clock and free values -/

/-- The uptime counter reads at least t: it never runs back (R408). -/
def State.at (s : State) (t : Nat) : State := { s with uptime := max s.uptime t }

/-- Takes the next free value. -/
def State.fresh (s : State) : BitVec 64 × State :=
  (Config.freeValue s.free, { s with free := s.free + 1 })

/-- Records a message sent to the outside. -/
def State.emit (s : State) (o : Out) : State := { s with out := o :: s.out }

/-! ### Dictionary values -/

/-- Device ID of a function: 0 the PF, any other a VF (R313). -/
def deviceId (function : Nat) : Nat := if function = 0 then 0x0A41 else 0x0A42

/-- The defaults other than 0 of the entries below 0x4000 and above 0x4FFF, by index * 256 + sub; the
sixteen ports of 0x5010-0x501F share one set. -/
def deviceDefaults : List (Nat × Nat) :=
  [ (0x100005, Config.featureLevel), (0x100006, deviceId 0), (0x100007, 1),
    (0x110001, 1), (0x110004, 24), (0x110006, 5720),
    (0x111001, 1), (0x111002, 1), (0x111003, 1), (0x111004, 1), (0x111005, 100),
    (0x112003, 3600),
    (0x200001, 0xFF), (0x200002, 0xFF), (0x200003, 0xFF), (0x200004, 0xFF), (0x200006, 10),
    (0x200008, 2), (0x20000A, 0xFF),
    (0x210001, 1600), (0x210002, 180), (0x210003, 8), (0x210008, 11), (0x210009, 11),
    (0x21000A, 11), (0x210014, 0xFFFF),
    (0x220002, 100), (0x220003, 480), (0x220005, 1),
    (0x230001, 0xFFFF), (0x230002, 100), (0x230003, 2000000), (0x230004, 0xFFFF),
    (0x231001, 3),
    (0x240001, 1), (0x240002, 0x1000), (0x240003, 50),
    (0x250001, 2), (0x250002, 64), (0x250003, 11),
    (0x260001, 60000000), (0x260002, 16),
    (0x270003, 3600), (0x270005, 8),
    (0x280001, 1000), (0x290001, 6), (0x290002, 256) ] ++
  [ (0x2A0004, 0xFF), (0x2A0005, 4096),
    (0x301002, 1), (0x301003, 168),
    (0x303101, 64), (0x303102, 100), (0x303202, 1),
    (0x305002, 0xFFFF),
    (0x306001, 30720), (0x306006, 64),
    (0x307004, 0xFF), (0x30A002, 1), (0x30B002, 4096),
    (0x601001, 1),
    (0x700008, 2), (0x700009, 720), (0x70000A, 1000),
    (0x703003, 524288),
    (0x500002, 6), (0x500003, 2), (0x500004, 2), (0x500006, 8), (0x500007, 2000),
    (0x500008, 600), (0x500009, 100), (0x50000A, 0x397BA882),
    (0x501001, 1), (0x501002, 0xFFFF), (0x501003, 0xFFFF), (0x501007, 0xFF) ]

/-- The defaults other than 0 of the per-context entries, by k * 256 + sub. -/
def contextDefaults : List (Nat × Nat) :=
  [(0x101, 1024), (0x102, 1024), (0x103, 0xFF), (0x301, 1024), (0x302, 1024)]

/-- The default of an entry's elements. -/
def deviceDefault (index sub : Nat) : Nat :=
  (deviceDefaults.lookup ((if 0x5010 ≤ index ∧ index < 0x5020 then 0x5010 else index) * 256 + sub)).getD 0

def contextDefault (k sub : Nat) : Nat := (contextDefaults.lookup (k * 256 + sub)).getD 0

def dkey (index sub e : Nat) : Nat := (index * 256 + sub) * 65536 + e

def ckey (c k sub : Nat) : Nat := (c * 16 + k) * 256 + sub

/-- The value of element e of a device entry. -/
def State.dget (s : State) (index sub : Nat) (e : Nat := 0) : Nat :=
  tget (deviceDefault index sub) s.dict (dkey index sub e)

def State.dset (s : State) (index sub e v : Nat) : State :=
  { s with dict := tset (deviceDefault index sub) s.dict (dkey index sub e) v }

/-- The value of entry k.sub of tenant context c (R538). -/
def State.cget (s : State) (c k sub : Nat) : Nat := tget (contextDefault k sub) s.cdict (ckey c k sub)

/-- Writes entry k.sub of a tenant context; SYS has none (R364). -/
def State.cset (s : State) (c k sub v : Nat) : State :=
  if c < 256 then { s with cdict := tset (contextDefault k sub) s.cdict (ckey c k sub) v } else s

/-- Adds to a device counter of a width; what a counter holds past its largest value is not stated,
so a free value of the width stands there. -/
def State.dbump (s : State) (index sub e w : Nat) (n : Nat := 1) : State :=
  let v := s.dget index sub e + n
  if v < 2 ^ w then s.dset index sub e v
  else (s.fresh.2).dset index sub e (s.fresh.1.toNat % 2 ^ w)

/-- Adds to a per-context counter of a width, in the same way. -/
def State.cbump (s : State) (c k sub w : Nat) (n : Nat := 1) : State :=
  if c < 256 then
    let v := s.cget c k sub + n
    if v < 2 ^ w then s.cset c k sub v
    else (s.fresh.2).cset c k sub (s.fresh.1.toNat % 2 ^ w)
  else s

/-- Stores a value of a width in a per-context entry, a free value where it does not fit. -/
def State.cput (s : State) (c k sub w v : Nat) : State :=
  if v < 2 ^ w then s.cset c k sub v else (s.fresh.2).cset c k sub (s.fresh.1.toNat % 2 ^ w)

/-- Stores a value of a width in a device entry, in the same way. -/
def State.dput (s : State) (index sub e w v : Nat) : State :=
  if v < 2 ^ w then s.dset index sub e v else (s.fresh.2).dset index sub e (s.fresh.1.toNat % 2 ^ w)

/-! ### MSI-X (R359, R360) -/

/-- Sends a vector's message, or sets its pending bit while the vector is masked. -/
def State.interrupt (s : State) (function vector : Nat) : State :=
  let k := function * 2048 + vector
  let v := tget {} s.hif.msix k
  if v.masked then
    { s with hif := { s.hif with msix := tset {} s.hif.msix k { v with pend := true } } }
  else s.emit (.msix function vector)

/-! ### Perturbation (R617-R620) -/

/-- Perturbation acts: it is armed, and neither a device recovery nor a trial of a hang search suspends it. -/
def State.perturbing (s : State) : Bool :=
  decide (s.dget 0x6000 1 = 1) && decide (s.dev.mode ≠ .recovery) && !(s.ctxs.hang.any fun h => h.trial.isSome)

/-- A Rappel suspends perturbation on its footprint: at its clusters and slices, and on the traffic of its context's links
(R620). -/
def State.suspended (s : State) (target index c : Nat) : Bool :=
  s.array.rappels.any fun r =>
    match target with
    | 1 | 2 => r.footprint.getLsbD index
    | 8 => r.footprint.getLsbD (index / 16)
    | 3 | 4 | 5 => decide (r.ctx = c)
    | _ => false

/-- A slot acts on an event of a path, by delay or by back-pressure. -/
def Perturb.acts (v : Perturb) (target index sub c : Nat) (delay : Bool) : Bool :=
  decide (v.target = target) && decide (v.index = index) && decide (v.sub = sub) &&
    (decide (v.ctx = 0xFFFF) || decide (v.ctx = c)) && decide (delay = decide (v.mode < 2))

/-- The delay that a slot gives an event. -/
def Perturb.delayOf (v : Perturb) (seed : Nat) : Nat :=
  if v.mode = 1 then Config.perturbDelay (mix32 (BitVec.ofNat 32 seed ^^^ BitVec.ofNat 32 v.count)) % (v.delay + 1) else v.delay

/-- An event of a path: every slot that acts on it counts it, and the delay they give comes with the state. -/
def State.perturbed (s : State) (target index sub c : Nat) (delay : Bool) : State × Nat :=
  if !s.perturbing || s.suspended target index c then (s, 0)
  else s.health.perturb.foldl (fun (r : State × Nat) kv =>
    if kv.2.acts target index sub c delay then
      let d := if delay then kv.2.delayOf (r.1.dget 0x6000 3) else 0
      let h := { r.1.health with perturb := tput r.1.health.perturb kv.1 { kv.2 with count := kv.2.count + 1 } }
      ({ r.1 with health := h }.dbump 0x6000 4 kv.1 64, r.2 + d)
    else r) (s, 0)

/-- The armed slots as a mask. -/
def State.armedMask (s : State) : Nat :=
  (s.health.perturb.map fun kv => if kv.2.target = 0 then 0 else 2 ^ kv.1).foldl (· + ·) 0

/-! ### Health events (R599-R602) -/

/-- Pending events of unmasked types (R601). -/
def State.unmasked (s : State) : Nat :=
  ((List.range 11).map fun i =>
    if bit (s.dget 0x3000 3) (i + 1) then 0 else s.dget 0x3000 4 i).foldl (· + ·) 0

/-- The low-speed outputs are driven: VIO_1V8, of sense index 14, is in tolerance (R66). -/
def State.driven (s : State) : Bool := !s.pins.railsOut.contains 14

/-- ALERT_N is low: an unmasked event is pending, or a mode that holds it low (R71, R595, R606). -/
def State.alertLow (s : State) : Bool :=
  s.driven &&
    (decide (0 < s.unmasked) || decide (s.dev.mode = .hold) || decide (s.dev.mode = .failed) || s.health.safe)

/-- Logs a health event: its record, HEALTH_SEQ, HEALTH_PENDING, an overwritten unacknowledged record,
and the message of PF vector 0 (R599-R602). -/
def State.event (s : State) (type code subject : Nat) (detail : Nat := 0) : State :=
  let seq := (s.dget 0x3000 2 + 1) % 2 ^ 32
  let e := (seq + 2 ^ 32 - 1) % 256
  let old := tget {} s.health.log e
  let lost := s.health.unacked.any fun u => decide (u.1 = old.seq) && decide (old.type ≠ 0)
  let rec' : Event := ⟨seq, type, code, subject, s.uptime, detail, s.cdu.tick⟩
  let s := { s with health := { s.health with log := tset {} s.health.log e rec',
                                              unacked := s.health.unacked ++ [(seq, type)] } }
  let s := s.dset 0x3000 2 0 seq
  let s := s.dbump 0x3000 4 (type - 1) 16
  let s := if lost then s.dbump 0x3000 6 0 32 else s
  if s.hif.ready && !bit (s.dget 0x3000 3) type then s.interrupt 0 0 else s

end Sys2Proof.Machine
end

