-- ==== Sys2Proof/Machine/Crypto.lean ====
section
/-! DEFINITION. The two cryptographic algorithms that R262 takes from FIPS 180-4 and FIPS 186-5: the digest SHA-384 and
the verification of an ECDSA signature on P-384. -/

namespace Sys2Proof.Machine

/-! ### SHA-384 (FIPS 180-4) -/

/-- The primes below 410, eighty of them. -/
def smallPrimes : List Nat :=
  (List.range 410).filter fun n => decide (1 < n) && (List.range 21).all fun d => decide (d < 2) || decide (n ≤ d) || decide (n % d ≠ 0)

/-- The first 64 bits of the fraction of the k-th root of a number below 2^9. -/
def rootFraction (k n : Nat) : Nat :=
  (List.range 69).foldl (fun r i => if (r + 2 ^ (68 - i)) ^ k ≤ n * 2 ^ (64 * k) then r + 2 ^ (68 - i) else r) 0 % 2 ^ 64

/-- The eighty round constants: fractions of cube roots of primes. -/
def shaConstants : List Nat := smallPrimes.map (rootFraction 3)

/-- The initial hash value of SHA-384: fractions of square roots of the ninth to the sixteenth prime. -/
def shaStart : List Nat := ((smallPrimes.drop 8).take 8).map (rootFraction 2)

/-- A word turned right by n bits. -/
def turn (n w : Nat) : Nat := w / 2 ^ n + w % 2 ^ n * 2 ^ (64 - n)

/-- Three words, each made of one by a turn, added without carry. -/
def turns (w a b c : Nat) : Nat := (turn a w).xor ((turn b w).xor (turn c w))

/-- The word of a message schedule that follows others, the newest of these first. -/
def scheduleWord (ws : List Nat) : Nat :=
  let back := fun (n : Nat) => ws.getD (n - 1) 0
  let young := (turn 19 (back 2)).xor ((turn 61 (back 2)).xor (back 2 / 2 ^ 6))
  let aged := (turn 1 (back 15)).xor ((turn 8 (back 15)).xor (back 15 / 2 ^ 7))
  (back 16 + aged + back 7 + young) % 2 ^ 64

/-- The schedule of a block of 128 bytes: its own sixteen words, and sixty-four after them. -/
def messageSchedule (block : Bytes) : List Nat :=
  let own := (List.range 16).map fun i => beNat (slice block (8 * i) 8)
  ((List.range 64).foldl (fun ws _ => scheduleWord ws :: ws) own.reverse).reverse

/-- A round turns the eight words by one place: the first and the fifth of the new ones are made with the round's
constant and word. -/
def hashRound (v : List Nat) (constant word : Nat) : List Nat :=
  let at' := fun (i : Nat) => v.getD i 0
  let choice := (at' 4).land (at' 5) + (2 ^ 64 - 1 - at' 4).land (at' 6)
  let majority := ((at' 0).land (at' 1)).lor (((at' 0).lor (at' 1)).land (at' 2))
  let mixed := at' 7 + turns (at' 4) 14 18 41 + choice + constant + word
  [(mixed + turns (at' 0) 28 34 39 + majority) % 2 ^ 64] ++ v.take 3 ++ [(at' 3 + mixed) % 2 ^ 64] ++ (v.drop 4).take 3

/-- The hash value after a block. -/
def hashBlock (v : List Nat) (block : Bytes) : List Nat :=
  let out := (shaConstants.zip (messageSchedule block)).foldl (fun v kw => hashRound v kw.1 kw.2) v
  (v.zip out).map fun p => (p.1 + p.2) % 2 ^ 64

/-- n bytes of a number, most significant first. -/
def beBytes (n v : Nat) : Bytes := (leBytes n v).reverse

/-- The padded message (section 5.1.2). -/
def shaPad (m : Bytes) : Bytes :=
  m ++ [0x80] ++ List.replicate ((239 - m.length % 128) % 128) 0 ++ beBytes 16 (8 * m.length)

/-- The digest of a message, 48 bytes. -/
def sha384 (m : Bytes) : Bytes :=
  let p := shaPad m
  let v := (List.range (p.length / 128)).foldl (fun v i => hashBlock v (slice p (128 * i) 128)) shaStart
  (v.take 6).flatMap (beBytes 8)

/-! ### ECDSA on P-384 (FIPS 186-5, SP 800-186) -/

/-- The field prime. -/
def p384 : Nat := 2 ^ 384 - 2 ^ 128 - 2 ^ 96 + 2 ^ 32 - 1

/-- The constant b of the curve y^2 = x^3 - 3 x + b. -/
def p384b : Nat :=
  0xb3312fa7e23ee7e4988e056be3f82d19181d9c6efe8141120314088f5013875ac656398d8a2ed19d2a85c8edd3ec2aef

/-- The order of the base point. -/
def p384n : Nat :=
  0xffffffffffffffffffffffffffffffffffffffffffffffffc7634d81f4372ddf581a0db248b0a77aecec196accc52973

/-- The base point. -/
def p384g : Nat × Nat :=
  (0xaa87ca22be8b05378eb1c71ef320ad746e1d3b628ba79b9859f741e082542a385502f25dbf55296c3a545e3872760ab7,
   0x3617de4a96262c6f5d9e98bf9292dc29f8f41dbd289a147ce9da3113b5f0b8c00a60b1ce1d7e819d7a431d7c90ea0e5f)

/-- A power in a residue ring, over the bits of the exponent that the first argument leaves. -/
def powMod (m : Nat) : Nat → Nat → Nat → Nat
  | 0, _, _ => 1
  | k + 1, x, e => let h := powMod m k (x * x % m) (e / 2); if e % 2 = 1 then x * h % m else h

/-- Inverse modulo a prime of at most 384 bits. -/
def invMod (m x : Nat) : Nat := powMod m 384 (x % m) (m - 2)

/-- Sum of two points of the curve; none is the point at infinity. -/
def pointAdd : Option (Nat × Nat) → Option (Nat × Nat) → Option (Nat × Nat)
  | none, q => q
  | some p, none => some p
  | some p, some q =>
    let chord := fun (l : Nat) =>
      let x := (l * l + 2 * p384 - p.1 - q.1) % p384
      some (x, (l * (p384 + p.1 - x) + p384 - p.2) % p384)
    if p.1 = q.1 then
      if (p.2 + q.2) % p384 = 0 then none
      else chord ((3 * p.1 * p.1 + 3 * p384 - 3) * invMod p384 (2 * p.2) % p384)
    else chord ((p384 + q.2 - p.2) * invMod p384 (p384 + q.1 - p.1) % p384)

/-- A multiple of a point, over the bits of the factor that the first argument leaves. -/
def pointMul : Nat → Nat → Option (Nat × Nat) → Option (Nat × Nat)
  | 0, _, _ => none
  | k + 1, e, q =>
    let r := pointMul k (e / 2) (pointAdd q q)
    if e % 2 = 1 then pointAdd q r else r

/-- The point of an uncompressed public key of 97 bytes: 0x04, X, Y. -/
def keyPoint (key : Bytes) : Nat × Nat := (beNat (slice key 1 48), beNat (slice key 49 48))

/-- A public key that R263 accepts: coordinates below the prime, on the curve, of the base point's order. -/
def keyOk (key : Bytes) : Bool :=
  let q := keyPoint key
  decide (key.length = 97) && decide (byteAt key 0 = 4) && decide (q.1 < p384) && decide (q.2 < p384) &&
    decide (q.2 * q.2 % p384 = (q.1 * q.1 * q.1 + 3 * (p384 - q.1) + p384b) % p384) &&
    decide (pointMul 384 p384n (some q) = none)

/-- Verification of a signature of 96 bytes, r then s, over a message (R261, R262). -/
def ecdsaOk (key message sig : Bytes) : Bool :=
  let r := beNat (slice sig 0 48)
  let s := beNat (slice sig 48 48)
  if sig.length ≠ 96 ∨ r = 0 ∨ p384n ≤ r ∨ s = 0 ∨ p384n ≤ s then false
  else
    let e := beNat (sha384 message)
    let w := invMod p384n s
    match pointAdd (pointMul 384 (e * w % p384n) (some p384g)) (pointMul 384 (r * w % p384n) (some (keyPoint key))) with
    | none => false
    | some x => decide (x.1 % p384n = r)

end Sys2Proof.Machine
end

