-- ==== Sys2Proof/Machine/Memory.lean ====
section
/-! DEFINITION. Address windows, region maps, the Bulk page walk, the Host window, and reads and writes of
device virtual memory and of a core's own slice (R21-R24, R203-R214, R233-R240, R320, R321). -/

namespace Sys2Proof.Machine

/-! ### Clusters, pools and regions -/

/-- Element of CLUSTER_ASSIGN (R365). -/
def State.assign (s : State) (cl : Nat) : Nat := s.dget 0x2300 1 cl

/-- Pool of a cluster (R365). -/
def State.poolOf (s : State) (cl : Nat) : Option Nat :=
  let a := s.assign cl
  if 0x200 ≤ a ∧ a < 0x210 then some (a - 0x200) else none

/-- POOL_HOLDER (R393). -/
def State.holder (s : State) (p : Nat) : Option Nat :=
  let h := s.dget 0x2300 4 p
  if h = 0xFFFF then none else some h

/-- The pool a tenant context is attached to (R368). -/
def State.attached (s : State) (c : Nat) : Option Nat :=
  if c < 256 then
    let p := s.cget c 1 3
    if p < 16 then some p else none
  else none

/-- The context holds the grant of a pool, with no switch in progress on it. -/
def State.holdsPool (s : State) (c p : Nat) : Bool := decide (s.holder p = some c) && !thas s.ctxs.switches p

/-- The context holds the grant of its pool, with no switch in progress on it. -/
def State.holdsGrant (s : State) (c : Nat) : Bool := (s.attached c).any (s.holdsPool c)

/-- CLUSTER_ISOLATED is 1, or a test of the cluster runs (R589, R610). -/
def State.isolated (s : State) (cl : Nat) : Bool :=
  decide (s.dget 0x3033 1 cl = 1) || s.health.testing.any fun x => decide (x.1 = cl)

/-- Cluster of a physical region (R203). -/
def prnCluster (prn : Nat) : Nat := prn / 512

/-- Pool of a physical region: allocatable regions of a pool's clusters (R369). -/
def State.prnPool (s : State) (prn : Nat) : Option Nat :=
  if prn % 32 < 30 then s.poolOf (prnCluster prn) else none

/-- State of a physical region; regions 30 and 31 of a slice are reserved (R204). -/
def State.region (s : State) (prn : Nat) : Region :=
  if prn % 32 < 30 then tget {} s.near.regions prn else { kind := .reserved }

def State.setRegion (s : State) (prn : Nat) (r : Region) : State :=
  { s with near := { s.near with regions := tset {} s.near.regions prn r } }

/-- The region map entry of a context and VRN, none when V = 0 (R207). -/
def State.mapEntry (s : State) (c vrn : Nat) : Option MapEntry := tfind s.near.map (c * 65536 + vrn)

/-- Entries of a context's region map that name a region. -/
def State.entriesOf (s : State) (c prn : Nat) : List MapEntry :=
  (s.near.map.filter fun kv => decide (kv.1 / 65536 = c) && decide (kv.2.prn = prn)).map (·.2)

/-- Some context's entry names the region (R211). -/
def State.named (s : State) (prn : Nat) : Bool := s.near.map.any fun kv => decide (kv.2.prn = prn)

/-! ### Windows (R21, R22) -/

/-- Window of an address below 2^52: 0 Near, 1 Bulk, 2 Host, 3 Remote. -/
def windowOf (va : Nat) : Nat :=
  if va < 2 ^ 36 then 0 else if va < 2 ^ 44 then 1 else if va < 2 ^ 45 then 2 else 3

/-- Near window (R207, R214, R370). -/
def State.nearPlace (s : State) (c va : Nat) (write : Bool) : Access Place :=
  match s.mapEntry c (va / 2 ^ 20) with
  | none => .miss { window := 0, kind := 1, va := va }
  | some e =>
    if (s.prnPool e.prn).any fun p => !s.holdsPool c p then .miss { window := 0, kind := 1, va := va }
    else if write && !e.w then .miss { window := 0, kind := 2, va := va }
    else if s.isolated (prnCluster e.prn) then .damaged (va / 32 * 32)
    else .ok (.near (e.prn * 2 ^ 20 + va % 2 ^ 20))

/-! ### The Bulk walk (R233-R238) -/

/-- The stack offset of a Bulk physical address exists (R233). -/
def bpaExists (bpa : Nat) : Bool := decide (bpa < 2 ^ 39) && decide (bpa % 2 ^ 36 < 0xC00000000)

/-- An 8-byte table entry, none when its line is uncorrectable. -/
def State.tableEntry (s : State) (bpa : Nat) : Option Nat :=
  if thas s.bulk.poison (bpa / 64) then none else some (leNat (memReads s.bulk.mem bpa 8))

/-- Reserved bits [7:3] and [51:39] of an entry are zero. -/
def entryClean (e : Nat) : Bool := decide (bits e 7 3 = 0) && decide (bits e 51 39 = 0)

/-- BPA[38:8] of an entry. -/
def entryAddr (e : Nat) : Nat := bits e 38 8 * 256

/-- A page entry: its checks in the order of R237, and the address it leads to. -/
def leafPlace (e size va level : Nat) (write : Bool) : Access Nat :=
  if !entryClean e || decide (entryAddr e % size ≠ 0) then .miss ⟨1, 3, level, va⟩
  else if !bpaExists (entryAddr e) then .miss ⟨1, 4, level, va⟩
  else if write && !bit e 1 then .miss ⟨1, 2, level, va⟩
  else .ok (entryAddr e + va % size)

/-- A pointer entry: the address of the next table. -/
def nextTable (e align va level : Nat) : Access Nat :=
  if !entryClean e || decide (entryAddr e % align ≠ 0) then .miss ⟨1, 3, level, va⟩
  else if !bpaExists (entryAddr e) then .miss ⟨1, 4, level, va⟩
  else .ok (entryAddr e)

/-- The L1 level of the walk. -/
def State.walkL1 (s : State) (table va : Nat) (write : Bool) : Access Nat :=
  match s.tableEntry (table + bits va 20 16 * 8) with
  | none => .miss ⟨1, 5, 2, va⟩
  | some e =>
    if !bit e 0 then .miss ⟨1, 1, 2, va⟩
    else if !bit e 2 then .miss ⟨1, 3, 2, va⟩
    else leafPlace e (2 ^ 16) va 2 write

/-- The L2 level of the walk. -/
def State.walkL2 (s : State) (table va : Nat) (write : Bool) : Access Nat :=
  match s.tableEntry (table + bits va 34 21 * 8) with
  | none => .miss ⟨1, 5, 1, va⟩
  | some e =>
    if !bit e 0 then .miss ⟨1, 1, 1, va⟩
    else if bit e 2 then leafPlace e (2 ^ 21) va 1 write
    else match nextTable e 256 va 1 with
      | .ok t => s.walkL1 t va write
      | .miss m => .miss m
      | .damaged a => .damaged a

/-- The walk from a context's root (R237). -/
def State.walk (s : State) (c va : Nat) (write : Bool) : Access Nat :=
  let root := (tget 0 s.bulk.roots c).toNat
  let table := bits root 38 12 * 4096
  if !bit root 0 then .miss ⟨1, 1, 0, va⟩
  else if !bpaExists table then .miss ⟨1, 4, 0, va⟩
  else match s.tableEntry (table + bits va 43 35 * 8) with
    | none => .miss ⟨1, 5, 0, va⟩
    | some e =>
      if !bit e 0 then .miss ⟨1, 1, 0, va⟩
      else if bit e 2 then .miss ⟨1, 3, 0, va⟩
      else match nextTable e (2 ^ 17) va 0 with
        | .ok t => s.walkL2 t va write
        | .miss m => .miss m
        | .damaged a => .damaged a

/-- Key of a cached translation: context and 64 KiB page. -/
def pageKey (c va : Nat) : Nat := c * 2 ^ 28 + va / 2 ^ 16

/-- Key of a cached translation of a 2 MiB page. -/
def bigKey (c va : Nat) : Nat := 2 ^ 40 + c * 2 ^ 23 + va / 2 ^ 21

/-- A cached page frame and its W and level, as (2 * frame + W) * 2 + L2: a refused write names the leaf's level (R237). -/
def cachedPlace (v va : Nat) (write : Bool) : Access Nat :=
  let big := decide (v % 2 = 1)
  if write && decide (v / 2 % 2 = 0) then .miss ⟨1, 2, if big then 1 else 2, va⟩
  else .ok (v / 4 + va % (if big then 2 ^ 21 else 2 ^ 16))

/-- A translation that some cache holds, of a 64 KiB or of a 2 MiB page. -/
def State.cachedPage (s : State) (c va : Nat) : Option Nat :=
  match tfind s.bulk.tlb (pageKey c va) with
  | some v => some v
  | none => tfind s.bulk.tlb (bigKey c va)

/-- Key of a cached L2 pointer entry: context and 2 MiB of addresses. -/
def ptrKey (c va : Nat) : Nat := c * 2 ^ 23 + va / 2 ^ 21

/-- Translation of a Bulk address: a cached entry or L2 pointer that differs from the tables may be used until it is
invalidated (R239); an invalid entry is never cached (R238). -/
def State.bulkAddr (s : State) (c va : Nat) (write : Bool) : Access Nat :=
  if !Config.staleEntry s.free c (va / 2 ^ 16) then s.walk c va write
  else match s.cachedPage c va, tfind s.bulk.ptr (ptrKey c va) with
    | some v, _ => cachedPlace v va write
    | none, some t => s.walkL1 t va write
    | none, none => s.walk c va write

/-- An access reaches a region: a quadrant in Retention and an Idle cluster are brought On first (R85, R276), and the
cluster was in use (R546). -/
def State.touchNear (s : State) (prn : Nat) : State :=
  let on := fun (s : State) (d : Nat) => if s.dget 0x3040 1 d = 1 then s.dset 0x3040 1 d 2 else s
  let s := { s with power := { s.power with lastWork := tput s.power.lastWork (prnCluster prn) s.uptime } }
  on (on s (64 + prn / 2048)) (prnCluster prn)

/-- An access reaches a stack: a stack in Self-refresh is brought On first (R85, R257). -/
def State.touchBulk (s : State) (stack : Nat) : State :=
  let s := { s with bulk := { s.bulk with lastAccess := tput s.bulk.lastAccess stack s.uptime } }
  if s.dget 0x3040 1 (80 + stack) = 1 then s.dset 0x3040 1 (80 + stack) 2 else s

/-! ### Translation caches (R214, R238, R320) -/

/-- A cache of n entries takes a key in; a full one gives an entry up, which the chapters leave open. -/
def cacheIns (free unit n : Nat) (l : List Nat) (k : Nat) : List Nat :=
  if l.contains k then l
  else k :: (if l.length < n then l else l.eraseIdx (Config.victim free unit % n))

/-- The table entries that a walk reads, as far as it goes (R235-R237). -/
def State.walkPath (s : State) (c va : Nat) : List Nat :=
  let root := (tget 0 s.bulk.roots c).toNat
  let a0 := bits root 38 12 * 4096 + bits va 43 35 * 8
  let pointer := fun (a align level : Nat) => match s.tableEntry a with
    | some e => if bit e 0 && !bit e 2 then nextTable e align va level else .damaged a
    | none => .damaged a
  if !bit root 0 || !bpaExists (bits root 38 12 * 4096) then []
  else match pointer a0 (2 ^ 17) 0 with
    | .ok t =>
      let a1 := t + bits va 34 21 * 8
      match pointer a1 256 1 with
      | .ok t => [a0, a1, t + bits va 20 16 * 8]
      | _ => [a0, a1]
    | _ => [a0]

/-- The accesses of a walk reach the stacks of its table entries (R243, R257). -/
def State.touchWalk (s : State) (c va : Nat) : State :=
  (s.walkPath c va).foldl (fun s a => s.touchBulk (a / 2 ^ 36)) s

/-- The walk ends at an L2 page entry. -/
def State.leafAtL2 (s : State) (c va : Nat) : Bool := decide ((s.walkPath c va).length = 2)

/-- Key of the page of an address: of its 2 MiB where the walk ends at an L2 page entry, else of its 64 KiB. -/
def State.leafKey (s : State) (c va : Nat) : Nat := if s.leafAtL2 c va then bigKey c va else pageKey c va

/-- A Stream Engine's cache takes a page in, up to 32 of them. -/
def State.heldBy (s : State) (unit k : Nat) (held : Tab (List Nat)) : Tab (List Nat) :=
  if unit < 1024 then tput held unit (cacheIns s.free unit 32 (tget [] held unit) k) else held

/-- The die whose walker translates for a page. -/
def walkerOf (k : Nat) : Nat := 1024 + Config.walkerDie k % 4

/-- A page translation, its L2 pointer and the caches that hold them; what no cache holds any more is forgotten. -/
def State.cacheWalk (s : State) (unit c va frame : Nat) : State :=
  let k := s.leafKey c va
  let w := match s.walk c (va / 2 ^ 16 * 2 ^ 16) true with | .ok _ => 1 | _ => 0
  let b := s.bulk
  let die := walkerOf k
  let held := s.heldBy unit k (tput b.pageCache die (cacheIns s.free die 4096 (tget [] b.pageCache die) k))
  let ptrs := if s.leafAtL2 c va then b.ptrCache
    else tput b.ptrCache die (cacheIns s.free die 256 (tget [] b.ptrCache die) (ptrKey c va))
  let ptr := match s.walkPath c va with
    | [_, _, a] => tput b.ptr (ptrKey c va) (a - bits va 20 16 * 8)
    | _ => b.ptr
  let base := if s.leafAtL2 c va then frame / 2 ^ 21 * 2 ^ 21 else frame
  { s with bulk := { b with
      tlb := (tput b.tlb k ((2 * base + w) * 2 + b2n (s.leafAtL2 c va))).filter fun kv => held.any fun h => h.2.contains kv.1
      pageCache := held
      ptr := ptr.filter fun kv => ptrs.any fun h => h.2.contains kv.1
      ptrCache := ptrs } }

/-- A Stream Engine takes a page over from the walker that holds it; what no cache holds any more is forgotten. -/
def State.takePage (s : State) (unit k : Nat) : State :=
  let held := s.heldBy unit k s.bulk.pageCache
  { s with bulk := { s.bulk with
      tlb := s.bulk.tlb.filter fun kv => held.any fun h => h.2.contains kv.1
      pageCache := held } }

/-- A unit's translation of a Bulk page: found in its own cache, or in the walker's, or else walked; the caches on the way
take it in (R238). -/
def State.translateBulk (s : State) (unit c va : Nat) : State :=
  let k := s.leafKey c va
  match s.walk c (va / 2 ^ 16 * 2 ^ 16) false with
  | .ok a =>
    if (tget [] s.bulk.pageCache unit).contains k then s
    else if (tget [] s.bulk.pageCache (walkerOf k)).contains k then s.takePage unit k
    else (s.touchWalk c va).cacheWalk unit c va a
  | _ => s.touchWalk c va

/-- A Bulk access of a unit: its page is translated, and its stack is reached. -/
def State.cachePage (s : State) (unit c va : Nat) : State :=
  match s.walk c (va / 2 ^ 16 * 2 ^ 16) false with
  | .ok a => (s.translateBulk unit c va).touchBulk (a / 2 ^ 36)
  | _ => s.translateBulk unit c va

/-- The die of the second copy of a group of eight region entries: another than the first copy's (R214). -/
def mapDie2 (group : Nat) : Nat := (Config.mapDie group + 1 + Config.mapDie2 group % 3) % 4

/-- The copy of a group of region entries that a unit reads: the one on its own die, where one is there (R214). -/
def nearerCopy (unit group : Nat) : Nat :=
  if unit / 256 = Config.mapDie group % 4 then 0
  else if unit / 256 = mapDie2 group then 1
  else Config.nearerCopy unit group % 2

/-- A Near access of a unit: its region entry enters the cache of the Stream Engine or the copy path. A miss that meets a
damaged nearer copy reads the other one and rewrites it (R214). With both copies damaged the entry still translates, and the
damage stays (DESIGN CHOICE, log 124). -/
def State.cacheRegion (s : State) (unit c va : Nat) : State :=
  let k := c * 65536 + va / 2 ^ 20
  let u := min unit 1024
  let held := tget [] s.bulk.regionCache u
  let near := k / 8 * 2 + nearerCopy u (k / 8)
  let damage := if held.contains k ∨ (thas s.bulk.mapDamage (k / 8 * 2) ∧ thas s.bulk.mapDamage (k / 8 * 2 + 1)) then s.bulk.mapDamage
    else terase s.bulk.mapDamage near
  { s with bulk := { s.bulk with
      regionCache := tput s.bulk.regionCache u (cacheIns s.free u 64 held k), mapDamage := damage } }

/-- A region entry is invalidated in every translation cache that holds it (R211). -/
def State.dropRegion (s : State) (k : Nat) : State :=
  { s with bulk := { s.bulk with regionCache := s.bulk.regionCache.map fun kv => (kv.1, kv.2.filter fun x => decide (x ≠ k)) } }

/-! ### The Host window (R320, R321) -/

def State.page (s : State) (c : Nat) : CtxPage := tget {} s.hif.pages c

/-- VF c + 1 is enabled (R315). -/
def State.vfOn (s : State) (c : Nat) : Bool := decide (c < 256) && decide (c < s.hif.numVfs)

/-- The function of a context's vectors and requests: 0 the PF, c + 1 a VF (R315, R359). -/
def State.function (s : State) (c : Nat) : Nat := if s.vfOn c then c + 1 else 0

/-- Requester ID and PASID with which a context's Host-window requests go out (R315, R320). -/
def State.hostTag (s : State) (c : Nat) : Nat :=
  let p := s.page c
  s.function c * 2 ^ 21 + if p.pasidEn then 2 ^ 20 + p.pasid.toNat else 0

/-- Key of an ATS translation of a context. -/
def atsKey (c va : Nat) : Nat := c * 2 ^ 52 + (va - 2 ^ 44) / 4096

/-- Where a Host-window access goes: with ATS_EN a translation that is cached, or that the host grants, else kind 1;
an untranslated request that the host refuses, and any while the link is down, kind 2 (R320, R321), and so a read whose
completion comes damaged (R313; log 118). -/
def State.hostPlace (s : State) (c va : Nat) (write : Bool) : Access Place :=
  let a := va - 2 ^ 44
  let refusal := tget 0 s.hostDown (s.hostTag c * 2 ^ 32 + a / 4096)
  let cached := (s.page c).atsEn && decide ((if write then 2 else 1) ≤ tget 0 s.bulk.ats (atsKey c va))
  if !s.hif.linkUp then .miss ⟨2, 2, 0, va⟩
  else if refusal = 0 ∨ (refusal = 3 ∧ write = false) ∨ (4 ≤ refusal ∧ write = true) ∨
      (cached = true ∧ refusal ≠ 2 ∧ refusal < 4) then
    .ok (.host (Config.hostSpace (s.hostTag c) * 2 ^ 44 + a))
  else .miss ⟨2, if (s.page c).atsEn && decide (refusal ≠ 2) && decide (refusal < 4) then 1 else 2, 0, va⟩

/-- With ATS_EN an access obtains its page's translation and caches it (R313, R320). -/
def State.cacheHost (s : State) (c va : Nat) : State :=
  let k := atsKey c va
  let full := if s.bulk.ats.length < 8192 ∨ thas s.bulk.ats k then s.bulk.ats
    else s.bulk.ats.eraseIdx (Config.victim s.free 1024 % 8192)
  match (s.page c).atsEn, s.hostPlace c va true, s.hostPlace c va false with
  | true, .ok _, _ => { s with bulk := { s.bulk with ats := tput full k 2 } }
  | true, _, .ok _ => { s with bulk := { s.bulk with ats := tput full k 1 } }
  | _, _, _ => s

/-- A unit translates a page without an access to it (R284). -/
def State.translatePage (s : State) (unit c va : Nat) : State :=
  match windowOf va with
  | 0 => s.cacheRegion unit c va
  | 1 => s.translateBulk unit c va
  | 2 => s.cacheHost c va
  | _ => s

/-- A Near access of a unit: its quadrant is reached, and its region entry is cached. -/
def State.cacheNear (s : State) (unit c va : Nat) : State :=
  match s.mapEntry c (va / 2 ^ 20) with
  | some e => (s.touchNear e.prn).cacheRegion unit c va
  | none => s.cacheRegion unit c va

/-- What an access of a page leaves in the caches and in the domains it goes through, by window. -/
def State.accessPage (s : State) (unit c va : Nat) : State :=
  match windowOf va with
  | 0 => s.cacheNear unit c va
  | 1 => s.cachePage unit c va
  | 2 => s.cacheHost c va
  | _ => s

/-- What an access of n bytes leaves there, page of 4 KiB by page. -/
def State.accessed (s : State) (unit c va n : Nat) : State :=
  (List.range ((va % 4096 + n + 4095) / 4096)).foldl (fun s i => s.accessPage unit c (va / 4096 * 4096 + i * 4096)) s

/-- The unit of an access that no Stream Engine makes. -/
def otherUnit : Nat := 1024

/-- An access reaches a slice of a frozen cluster which a predicate selects by its core. -/
def State.waitsAt (s : State) (on : Nat → Bool) (c va n : Nat) : Bool :=
  (List.range ((va % 2 ^ 20 + n + 2 ^ 20 - 1) / 2 ^ 20)).any fun i =>
    let a := va / 2 ^ 20 * 2 ^ 20 + i * 2 ^ 20
    decide (windowOf a = 0) && match s.mapEntry c (a / 2 ^ 20) with
      | some e => (tget {} s.array.clusters (prnCluster e.prn)).frozen && on (e.prn / 32)
      | none => false

/-- An access that comes to a slice of a frozen cluster from outside its slot side waits (R276). -/
def State.waitsFrozen (s : State) (c va n : Nat) : Bool := s.waitsAt (fun _ => true) c va n

/-- Where an access of a context goes (R21). -/
def State.place (s : State) (c va : Nat) (write : Bool) : Access Place :=
  match windowOf va with
  | 0 => s.nearPlace c va write
  | 1 => match s.bulkAddr c va write with
    | .ok a => .ok (.bulk a)
    | .miss m => .miss m
    | .damaged a => .damaged a
  | 2 => s.hostPlace c va write
  | _ => .ok (.remote ((va - 2 ^ 45) / 2 ^ 40) (va % 2 ^ 40))

/-! ### Reads and writes of device virtual memory -/

/-- A byte of Near as its readers see it: undefined where a running step has written it (R33; log 97). -/
def State.nearByte (s : State) (a : Nat) : Byte :=
  if thas s.near.uncommitted a then Config.uncommitted s.free a else memRead s.near.mem a

/-- The byte at a place; a poisoned line is damaged, which its address tells (R221, R251, R338), and what a running step has written is undefined to
every reader until its commit (R33). -/
def State.placeByte (s : State) (va : Nat) : Place → Access Byte
  | .near a =>
    if thas s.near.poison (a / 32) then .damaged (va / 32 * 32)
    else .ok (s.nearByte a)
  | .bulk a =>
    if thas s.bulk.poison (a / 64) then .damaged (va / 64 * 64)
    else .ok (if thas s.bulk.uncommitted a then Config.uncommitted s.free (2 ^ 36 + a) else memRead s.bulk.mem a)
  | .host a => .ok (if thas s.hostUncommitted a then Config.uncommitted s.free (2 ^ 40 + a) else memRead s.host a)
  | .remote _ _ => .miss ⟨3, 4, 0, va⟩

/-- The state as a step's own units see it: their own writes are not undefined to them (R33). -/
def State.ownView (s : State) (cmd : Nat) : State :=
  let others := fun (t : Tab Nat) => t.filter fun kv => decide (kv.2 ≠ cmd)
  { s with
    near := { s.near with uncommitted := others s.near.uncommitted }
    bulk := { s.bulk with uncommitted := others s.bulk.uncommitted }
    hostUncommitted := others s.hostUncommitted }

/-- One byte of a context's address space. -/
def State.readByte (s : State) (c va : Nat) : Access Byte :=
  match s.place c va false with
  | .ok p => s.placeByte va p
  | .miss m => .miss m
  | .damaged a => .damaged a

/-- n bytes from an address, or what the first byte that cannot be read answers. -/
def State.read (s : State) (c : Nat) : Nat → Nat → Access Bytes
  | _, 0 => .ok []
  | va, n + 1 => match s.readByte c va with
    | .ok b => match s.read c (va + 1) n with
      | .ok bs => .ok (b :: bs)
      | .miss m => .miss m
      | .damaged a => .damaged a
    | .miss m => .miss m
    | .damaged a => .damaged a

/-- A write of a whole line clears its poison: the line that holds address a lies within the n bytes
written from va0 (R221, R251). -/
def coversLine (line va va0 n : Nat) : Bool :=
  decide (va0 ≤ va / line * line) && decide (va / line * line + line ≤ va0 + n)

/-- The copies of a pool region are no longer current once it is written (R387). -/
def State.uncurrent (s : State) (c prn : Nat) : State :=
  let k := c * 32768 + prn
  if tget 0 s.near.bivouac k = 2 then { s with near := { s.near with bivouac := tset 0 s.near.bivouac k 1 } } else s

/-- The marks of uncommitted bytes after a write: a running step's byte is marked, any other write defines it (R33). -/
def noteWriter (t : Tab Nat) (who : Option Nat) (a : Nat) : Tab Nat :=
  match who with
  | some i => tput t a i
  | none => terase t a

/-- The mark of bytes that other members of a command's group have written here and not committed: its own units see them as
undefined too (R33). -/
def foreignTag (cmd : Nat) : Nat := 2 ^ 64 + cmd

/-- Writes a byte of Near at its physical address, for a context and, where a step writes, its command. -/
def State.nearWrite (s : State) (c : Nat) (who : Option Nat) (whole : Bool) (a : Nat) (b : Byte) : State :=
  let n := { s.near with
    mem := memWrite s.near.mem a b
    poison := if whole then terase s.near.poison (a / 32) else s.near.poison
    written := match who with
      | some i => if i < foreignTag 0 then tput s.near.written (a / 65536) i else s.near.written
      | none => s.near.written
    uncommitted := noteWriter s.near.uncommitted who a }
  ({ s with near := n }).uncurrent c (a / 2 ^ 20)

/-- An address lies in a declared output range of the step. -/
def Step.declaresOut (p : Step) (va : Nat) : Bool :=
  p.ranges.any fun r => decide (r.kind ≠ 0) && decide (r.base ≤ va) && decide (va < r.base + r.length)

/-- Zeroes a region with valid check bits: its bytes, its poison, and every note of who wrote it (R211, R224). -/
def State.zeroRegion (s : State) (prn : Nat) : State :=
  { s with near := { s.near with
    mem := tclear s.near.mem (prn * 2 ^ 20) ((prn + 1) * 2 ^ 20)
    poison := tclear s.near.poison (prn * 32768) ((prn + 1) * 32768)
    written := tclear s.near.written (prn * 16) ((prn + 1) * 16)
    uncommitted := tclear s.near.uncommitted (prn * 2 ^ 20) ((prn + 1) * 2 ^ 20) } }

/-- A running step writes inside a declared output range of its own (R252). -/
def State.declares (s : State) (who : Option Nat) (va : Nat) : Bool :=
  who.any fun i => s.steps.any fun p => decide (p.cmd = i) && p.declaresOut va

/-- Writes a byte of Bulk at its physical address; what a step writes inside a declared output range is marked as its
own (R252). -/
def State.bulkWrite (s : State) (who : Option Nat) (declared whole : Bool) (a : Nat) (b : Byte) : State :=
  { s with bulk := { s.bulk with
    mem := memWrite s.bulk.mem a b
    poison := if whole then terase s.bulk.poison (a / 64) else s.bulk.poison
    written := match who, declared with | some i, true => tput s.bulk.written (a / 64) i | _, _ => s.bulk.written
    uncommitted := noteWriter s.bulk.uncommitted who a } }

/-- Writes a byte at a place, for a unit. -/
def State.placeWrite (s : State) (unit c : Nat) (who : Option Nat) (va va0 n : Nat) (b : Byte) : Place → State
  | .near a => (s.nearWrite c who (coversLine 32 va va0 n) a b).cacheNear unit c va
  | .bulk a => (s.bulkWrite who (s.declares who va) (coversLine 64 va va0 n) a b).cachePage unit c va
  | .host a => ({ s with host := memWrite s.host a b, hostUncommitted := noteWriter s.hostUncommitted who a } : State).cacheHost c va
  | .remote _ _ => s

/-- Writes bytes from va, of the n from va0; stops at the first that faults, the bytes before it written. An isolated cluster's
region answers as an uncorrectable line, which kind 0 says (R590). -/
def State.writeFrom (s : State) (unit c : Nat) (who : Option Nat) (va0 n : Nat) : Nat → Bytes → State × Option Miss
  | _, [] => (s, none)
  | va, b :: bs => match s.place c va true with
    | .ok p => (s.placeWrite unit c who va va0 n b p).writeFrom unit c who va0 n (va + 1) bs
    | .miss m => (s, some m)
    | .damaged a => (s, some ⟨windowOf a, 0, 0, a⟩)

/-- Writes a byte string at an address, for a unit. -/
def State.writesBy (s : State) (unit c : Nat) (who : Option Nat) (va : Nat) (bs : Bytes) : State × Option Miss :=
  s.writeFrom unit c who va bs.length va bs

/-- Writes a byte string at an address, for a unit that is no Stream Engine. -/
def State.writes (s : State) (c : Nat) (who : Option Nat) (va : Nat) (bs : Bytes) : State × Option Miss :=
  s.writesBy otherUnit c who va bs

/-- Writes host memory at a Host-window address of a context, where the host takes the request. -/
def State.hostWrite (s : State) (c va : Nat) (bs : Bytes) : State × Option Miss := s.writes c none va bs

/-- An error of a function is reported through AER; a correctable one counts in HIF_PCIE_CE (R313, R361). -/
def State.reportAer (s : State) (function : Nat) (correctable : Bool) : State :=
  let s := s.emit (.aer function correctable)
  if correctable then s.dbump 0x3090 3 0 32 else s

/-- The completion of a context's Host-window read comes poisoned or with an ECRC error (R313). -/
def State.hostError (s : State) (c va : Nat) : Bool :=
  decide (4 ≤ tget 0 s.hostDown (s.hostTag c * 2 ^ 32 + (va - 2 ^ 44) / 4096))

/-- Records a translation fault of a context: BULK_FAULTS and BULK_LAST_FAULT for the Bulk window (R237); a damaged completion
of the Host window is reported through AER with a severity that the spec leaves open (R313; log 118). -/
def State.noteMiss (s : State) (c : Nat) (m : Miss) : State :=
  if m.window = 1 then
    (s.cbump c 9 1 32).cset c 9 2 (m.va % 2 ^ 44 + m.kind * 2 ^ 44 + m.level * 2 ^ 47)
  else if m.window = 2 ∧ m.kind = 2 ∧ s.hif.linkUp ∧ s.hostError c m.va then
    s.fresh.2.reportAer (s.function c) (s.fresh.1.getLsbD 0)
  else s

/-- Counts an uncorrectable line that a context read: NEAR_UE or BULK_UE (R230, R273). -/
def State.noteDamage (s : State) (c va : Nat) : State :=
  match windowOf va with
  | 0 => s.cbump c 8 3 32
  | 1 => s.cbump c 9 3 32
  | _ => s

/-! ### The slice port (R213) -/

/-- A region that is Owned: while it is in Pending unmap it stays its owner's (R211). -/
def Region.held (r : Region) : Bool := decide (r.kind = .owned) || decide (r.kind = .pendingUnmap)

/-- A step's context may read a region by slice offset. -/
def State.sliceReadable (s : State) (c prn : Nat) : Bool :=
  match s.prnPool prn with
  | some p => decide (s.holder p = some c) && !(s.entriesOf c prn).isEmpty
  | none =>
    let r := s.region prn
    r.held && (decide (r.owner = c) || (decide (r.owner = 256) && (s.entriesOf c prn).any fun e => !e.w))

/-- A step's context may write a region by slice offset. -/
def State.sliceWritable (s : State) (c prn : Nat) : Bool :=
  match s.prnPool prn with
  | some p => decide (s.holder p = some c) && (s.entriesOf c prn).any (·.w)
  | none =>
    let r := s.region prn
    r.held && decide (r.owner = c) &&
      ((s.entriesOf c prn).isEmpty || (s.entriesOf c prn).any (·.w))

/-- Physical region of a slice offset of a core. -/
def slicePrn (core off : Nat) : Nat := core * 32 + off / 2 ^ 20

/-- n bytes of a core's slice from an offset, a suppressed region reading zero. -/
def State.sliceRead (s : State) (c core : Nat) : Nat → Nat → Bytes
  | _, 0 => []
  | off, n + 1 =>
    (if s.sliceReadable c (slicePrn core off) then s.nearByte (core * 2 ^ 25 + off) else 0) ::
      s.sliceRead c core (off + 1) n

/-- Writes bytes into a core's slice from an offset, of the n from off0, the bytes in a suppressed region dropped; a line
written whole loses its poison (R221). -/
def State.sliceWriteFrom (s : State) (c : Nat) (who : Option Nat) (core off0 n : Nat) : Nat → Bytes → State
  | _, [] => s
  | off, b :: bs =>
    let s' := if s.sliceWritable c (slicePrn core off) then
        s.nearWrite c who (coversLine 32 off off0 n) (core * 2 ^ 25 + off) b
      else s
    s'.sliceWriteFrom c who core off0 n (off + 1) bs

/-- Writes a byte string into a core's slice. -/
def State.sliceWrite (s : State) (c : Nat) (who : Option Nat) (core off : Nat) (bs : Bytes) : State :=
  s.sliceWriteFrom c who core off bs.length off bs

/-- The first offset of a slice range to which an access of the context would be suppressed. -/
def State.sliceFails (s : State) (c core : Nat) (write : Bool) : Nat → Nat → Option Nat
  | _, 0 => none
  | off, n + 1 =>
    if (if write then s.sliceWritable c (slicePrn core off) else s.sliceReadable c (slicePrn core off)) then
      s.sliceFails c core write (off + 1) n
    else some off

end Sys2Proof.Machine
end

