-- ==== Sys2Proof/Machine/Rings.lean ====
section
/-! DEFINITION. Rings, doorbells, the fetch and check of commands, completions, the event ring and sync
counters (R324-R339, R349-R351, R354-R360, R640). -/

namespace Sys2Proof.Machine

/-! ### Fields of a command -/

def Cmd.op (c : Cmd) : Nat := byteAt c.raw 0
def Cmd.noIrq (c : Cmd) : Bool := bit (byteAt c.raw 1) 0
def Cmd.afterPrev (c : Cmd) : Bool := bit (byteAt c.raw 1) 1
def Cmd.tag (c : Cmd) : Nat := field c.raw 2 2
/-- n bytes of a command at an offset -/
def Cmd.at (c : Cmd) (off n : Nat) : Nat := field c.raw off n

/-! ### Rings -/

def State.ring (s : State) (g : Nat) : Ring := tget {} s.hif.rings g

def State.setRing (s : State) (g : Nat) (r : Ring) : State :=
  { s with hif := { s.hif with rings := tset {} s.hif.rings g r } }

def State.loopOf (s : State) (g : Nat) : Loop := tget {} s.hif.loops g

def State.setLoop (s : State) (g : Nat) (l : Loop) : State :=
  { s with hif := { s.hif with loops := tset {} s.hif.loops g l } }

def State.setPage (s : State) (c : Nat) (p : CtxPage) : State :=
  { s with hif := { s.hif with pages := tset {} s.hif.pages c p } }

/-- Commands of a ring in flight (R328). -/
def State.ringInflight (s : State) (g : Nat) : Nat := (s.cmds.filter fun c => decide (c.ring = g)).length

/-- Commands of a context in flight. -/
def State.ctxInflight (s : State) (c : Nat) : Nat := (s.cmds.filter fun d => decide (d.ctx = c)).length

/-- DRAINED: ENABLE is 0 and no command of the ring is in flight (R324). -/
def State.drained (s : State) (g : Nat) : Bool := !(s.ring g).enable && decide (s.ringInflight g = 0)

/-- The ring holds its LOCAL (R640). -/
def State.holdsLocal (s : State) (g : Nat) : Bool := !s.drained g

/-- The ring a local index of a context refers to (R640). -/
def State.localRing (s : State) (c i : Nat) : Option Nat :=
  let same := fun g => decide ((s.ring g).ctx.toNat = c) && decide ((s.ring g).loc.toNat = i)
  match (List.range 16384).find? fun g => same g && s.holdsLocal g with
  | some g => some g
  | none => (List.range 16384).find? same

/-- The host reaches the device through PCIe: the Host Interface is out of reset and its link is up (R626). -/
def State.hostUp (s : State) : Bool := s.dev.hifOut && !s.pins.refpcieLost && s.hif.linkUp

/-- A function's registers can be reached. -/
def State.reachable (s : State) (f : Func) : Bool :=
  s.hostUp && match f with
    | .pf => true
    | .vf c => s.vfOn c.val

/-- The effect of a register write through a function that can be reached. -/
def State.ifHost (s : State) (f : Func) (w : State → State) : State := if s.reachable f then w s else s

/-- A vector the context's rings and event ring may name (R359). -/
def State.vectorOk (s : State) (c v : Nat) : Bool :=
  if s.vfOn c then decide (v < 8) else decide (2 ≤ v) && decide (v < 2048)

/-- The Belay fence of a context is raised (R573). -/
def State.fenced (s : State) (c : Nat) : Bool := thas s.ctxs.resets c

/-! ### Completions (R329, R337, R360) -/

/-- What a completion says beside the command's tag and opcode. -/
def completionBytes (tag status flags replays dropped op value : Nat) : Bytes :=
  leBytes 2 tag ++ [BitVec.ofNat 8 status, BitVec.ofNat 8 flags, BitVec.ofNat 8 replays,
    BitVec.ofNat 8 dropped, BitVec.ofNat 8 op, 0] ++ leBytes 8 value

/-- Event entry of R357. -/
def eventBytes (type phase uptime ring : Nat) (tail : Bytes) : Bytes :=
  leBytes 2 type ++ leBytes 6 phase ++ leBytes 8 uptime ++ leBytes 2 ring ++ leBytes 14 0 ++ padTo tail 32

/-- Writes an event entry to a context's event ring, or counts it lost (R357, R358). -/
def State.postEvent (s : State) (c type ring : Nat) (tail : Bytes) : State :=
  let p := s.page c
  let size := 2 ^ p.evqLog2.toNat
  let t := p.evqTail.toNat
  if !p.evqEnable || p.evqError || decide ((t + 1) % size = p.evqHead.toNat % size) then s.cbump c 11 3 32
  else match s.writes c none (p.evqBase.toNat + t * 64) (eventBytes type (b2n p.evqPhase) s.uptime ring tail) with
    | (_, some _) => (s.setPage c { p with evqError := true }).cbump c 11 3 32
    | (s', none) =>
      let t' := (t + 1) % size
      (s'.setPage c { p with evqTail := BitVec.ofNat 12 t',
                             evqPhase := if t' = 0 then !p.evqPhase else p.evqPhase }).interrupt
        (s.function c) p.evqVector.toNat

/-- Writes a completion entry at CQ_TAIL of a ring and sends its message; a write that fails stops the ring
and posts an event, reported through AER with a severity that the spec leaves open (R329, R330, R360; log 104); during a host
reset none is written (R570). -/
def State.writeCompletion (s : State) (g c tag status flags replays dropped op value : Nat) (quiet : Bool) : State :=
  let r := s.ring g
  let size := 2 ^ r.cqLog2.toNat
  if s.dev.hostReset then s
  else match s.writes c none (r.cqBase.toNat + r.cqTail * 16)
      (completionBytes tag status (b2n r.cqPhase + flags) replays dropped op value) with
  | (_, some _) =>
    let x := s.fresh
    ((x.2.setRing g { r with error := true }).reportAer (s.function c) (x.1.getLsbD 0)).postEvent c 4 g []
  | (s', none) =>
    let t := (r.cqTail + 1) % size
    let s' := s'.setRing g { r with cqTail := t, cqPhase := if t = 0 then !r.cqPhase else r.cqPhase }
    let s' := ((s'.perturbed 7 g 0 c true).1).cbump c 11 1 64
    let s' := if status = 0 then s' else s'.cbump c 11 2 32
    if quiet then s' else s'.interrupt (s.function c) r.vector.toNat

/-- A command is no longer in flight. -/
def State.dropCmd (s : State) (id : Nat) : State :=
  { s with cmds := s.cmds.filter fun c => decide (c.id ≠ id) }

def State.cmd (s : State) (id : Nat) : Option Cmd := s.cmds.find? fun c => decide (c.id = id)

def State.setCmd (s : State) (c : Cmd) : State :=
  { s with cmds := s.cmds.map fun d => if d.id = c.id then c else d }

/-- TICKS_DROPPED of a command's completion: the count of its loop where it is a LAUNCH_STEP, else 0 (R337). -/
def State.cmdDropped (s : State) (c : Cmd) : Nat := if c.op = 1 then min 255 (s.loopOf c.ring).ticksDropped else 0

/-- Completes a command: its entry is written and it is no longer in flight. -/
def State.finish (s : State) (c : Cmd) (status value : Nat) (flags replays : Nat := 0) : State :=
  (s.writeCompletion c.ring c.ctx c.tag status flags replays (s.cmdDropped c) c.op value c.noIrq).dropCmd c.id

/-- Commands fetched before this one that its FENCE covers (R349). -/
def State.fenceHeld (s : State) (f : Cmd) : Bool :=
  (s.cmds.takeWhile fun c => decide (c.id ≠ f.id)).any fun c =>
    if f.at 8 1 = 0 then decide (c.ring = f.ring) else decide (c.ctx = f.ctx)

/-- Completes the FENCEs whose earlier commands have all completed (R349). -/
def settleFences : Nat → State → State
  | 0, s => s
  | n + 1, s =>
    match s.cmds.find? fun c => decide (c.op = 8) && decide (c.stage = .running) && !s.fenceHeld c with
    | none => s
    | some c => settleFences n (s.finish c 0 0)

/-- Completes a command and the FENCEs that waited for it. -/
def State.complete (s : State) (c : Cmd) (status value : Nat) (flags replays : Nat := 0) : State :=
  let s := s.finish c status value flags replays
  settleFences s.cmds.length s

/-! ### Sync counters (R354, R355) -/

def State.counter (s : State) (n : Nat) : BitVec 64 := tget 0 s.counters n

/-- SYNC_OWNER of a counter; 0xFFFF when unassigned. -/
def State.ownerOf (s : State) (n : Nat) : Nat := (tget 0xFFFF s.owners n).toNat

/-- The owner and SYS name a counter (R354). -/
def State.mayUse (s : State) (c n : Nat) : Bool := decide (c = 256) || decide (s.ownerOf n = c)

/-- A WAIT's condition on a value (R351). -/
def waitHolds (w : Cmd) (v : BitVec 64) : Bool :=
  if w.at 10 1 = 0 then decide (w.at 16 8 ≤ v.toNat) else decide (v.toNat = w.at 16 8)

/-- Completes the WAITs on a counter that its value satisfies (R351). -/
def settleWaits : Nat → Nat → State → State
  | 0, _, s => s
  | k + 1, n, s =>
    match s.cmds.find? fun c => decide (c.op = 10) && decide (c.stage = .running) && decide (c.at 8 2 = n) &&
        waitHolds c (s.counter n) with
    | none => s
    | some c => settleWaits k n (s.complete c 0 (s.counter n).toNat)

/-- A new value of a counter: the WAITs it satisfies complete. -/
def State.setCounter (s : State) (n : Nat) (v : BitVec 64) : State :=
  let s := { s with counters := tset 0 s.counters n v }
  settleWaits s.cmds.length n s

/-- A signal entry or SIGNAL command on a counter: ADD modulo 2^64, or SET. -/
def State.applySignal (s : State) (n : Nat) (set : Bool) (v : BitVec 64) : State :=
  s.setCounter n (if set then v else s.counter n + v)

/-! ### The checks of a fetched command (R332, R333) -/

/-- Bytes of a command that its header and opcode name as fields, as (first, last) (R332). -/
def fieldBytes : Nat → List (Nat × Nat)
  | 1 => [(8, 26), (32, 63)]
  | 2 => [(8, 32)]
  | 3 => [(8, 20)]
  | 4 => [(8, 11), (16, 23)]
  | 5 => [(8, 9)]
  | 6 => [(8, 39)]
  | 7 => [(8, 27), (32, 39)]
  | 8 => [(8, 8)]
  | 9 => [(8, 10), (16, 23)]
  | 10 => [(8, 10), (12, 23)]
  | 11 => [(8, 12), (16, 19)]
  | 12 => [(8, 8), (10, 27)]
  | _ => []

/-- The bits of a byte that are fields. -/
def fieldMask (op i : Nat) : Nat :=
  if i = 1 then 3
  else if i < 4 then 255
  else if op = 3 ∧ i = 20 then 3
  else if (fieldBytes op).any fun r => decide (r.1 ≤ i) && decide (i ≤ r.2) then 255 else 0

/-- Offsets of bytes that hold a reserved bit that is not zero. -/
def reservedAt (c : Cmd) : List Nat :=
  (List.range 64).filter fun i => decide (byteAt c.raw i &&& (255 - fieldMask c.op i) ≠ 0)

/-- A context number of a command: 0-255 or 0x100. -/
def ctxOk (v : Nat) : Bool := decide (v ≤ 256)

/-- Offsets of fields outside their range, alignment included. -/
def fieldsAt (s : State) (c : Cmd) : List Nat :=
  let bad := fun (off : Nat) (ok : Bool) => if ok then [] else [off]
  match c.op with
  | 1 => bad 0 (s.ring c.ring).loop ++ bad 8 (decide (c.at 8 8 % 64 = 0)) ++ bad 16 (decide (1 ≤ c.at 16 4)) ++
      bad 24 (decide (1 ≤ c.at 24 1) && decide (c.at 24 1 ≤ 8)) ++ bad 25 (decide (c.at 25 1 ≤ 32)) ++
      bad 26 (decide (c.at 26 1 ≤ 8)) ++
      ((List.range 8).filter fun p => decide (c.at 24 1 ≤ p) && decide (c.at (32 + 4 * p) 4 ≠ 0)).map (32 + 4 * ·)
  | 2 => bad 24 (decide (1 ≤ c.at 24 8) && decide (c.at 24 8 ≤ 2 ^ 40)) ++ bad 32 (decide (c.at 32 1 ≤ 1))
  | 3 => bad 8 (bit (c.at 20 1) 1 || decide (c.at 8 8 % 64 = 0)) ++ bad 20 (decide (c.at 20 1 ≠ 3))
  | 4 => bad 8 (decide (c.at 8 2 < 1024)) ++ bad 10 (decide (1 ≤ c.at 10 2) && decide (c.at 10 2 ≤ 4096)) ++
      bad 16 (decide (c.at 16 8 % 32 = 0))
  | 5 => []
  | 6 => bad 24 (decide (1 ≤ c.at 24 4) && decide (c.at 24 4 ≤ 65536))
  | 7 => bad 24 (decide (1 ≤ c.at 24 4) && decide (c.at 24 4 ≤ 65536))
  | 8 => bad 8 (decide (c.at 8 1 ≤ 1))
  | 9 => bad 10 (decide (c.at 10 1 ≤ 1))
  | 10 => bad 10 (decide (c.at 10 1 ≤ 1))
  | 11 => bad 8 (ctxOk (c.at 8 2)) ++ bad 10 (decide (c.at 10 2 < 1024)) ++ bad 12 (decide (c.at 12 1 < 32))
  | 12 => bad 8 (decide (c.at 8 1 ≤ 4)) ++ bad 10 (ctxOk (c.at 10 2)) ++
      bad 12 (decide (c.at 8 1 ≠ 3) || decide (c.at 12 4 < 65536)) ++ bad 15 (decide (c.at 8 1 ≠ 4) || decide (c.at 15 1 = 0))
  | _ => [0]

/-- An address that meets R24 and lies in one of the windows named. -/
def inWindows (ws : List Nat) (va : Nat) : Bool := decide (va < 2 ^ 52) && ws.contains (windowOf va)

/-- Address fields of a command with the windows allowed for each. -/
def addressFields (c : Cmd) : List (Nat × List Nat) :=
  match c.op with
  | 1 => [(c.at 8 8, [1, 2])]
  | 2 => [(c.at 8 8, [0, 1, 2, 3])] ++ (if c.at 32 1 = 0 then [(c.at 16 8, [0, 1, 2, 3])] else [])
  | 3 => if bit (c.at 20 1) 1 then [] else [(c.at 8 8, [1])]
  | 4 => [(c.at 16 8, [1, 2])]
  | 6 => [(c.at 8 8, [1]), (c.at 16 8, [0, 1, 2, 3]), (c.at 32 8, [0, 1, 2, 3])]
  | 7 => [(c.at 8 8, [1]), (c.at 16 8, [0, 1, 2, 3]), (c.at 32 8, [0, 1, 2, 3])]
  | 12 => [(c.at 16 8, [1, 2])]
  | _ => []

/-- The offset of the field that a tenant ring may not give (R333 step 3). Counters are checked when their
command starts (R355); a chained loop's counter is checked at the fetch of its LAUNCH_STEP (R376). -/
def permissionAt (s : State) (c : Cmd) : Option Nat :=
  let l := s.loopOf c.ring
  if c.op = 1 ∧ l.launch = 2 ∧ s.ownerOf l.chainCounter.toNat ≠ c.ctx ∧ s.ownerOf l.chainCounter.toNat ≠ 256 then some 0
  else if c.ctx = 256 then none
  else match c.op with
    | 2 => if c.at 32 1 = 1 then some 32 else none
    | 11 => if c.at 8 2 = c.ctx then none else some 8
    | 12 => if c.at 10 2 = c.ctx then none else some 10
    | _ => none

/-- The lowest of a list of offsets. -/
def lowest : List Nat → Option Nat
  | [] => none
  | a :: as => some (as.foldl min a)

/-- The status and VALUE with which a check completes a command, none when every check passes (R333). -/
def checkCmd (s : State) (c : Cmd) : Option (Nat × Nat) :=
  match lowest (reservedAt c ++ fieldsAt s c) with
  | some off => some (1, off)
  | none => match (addressFields c).find? fun a => !inWindows a.2 a.1 with
    | some a => some (2, a.1)
    | none => match permissionAt s c with
      | some off => some (5, off)
      | none => none

/-! ### Fetch (R328, R330, R331) -/

/-- A loop is open: its ring holds a LAUNCH_STEP that executes or has not launched (R420). -/
def State.loopOpen (s : State) (g : Nat) : Bool := s.cmds.any fun c => decide (c.ring = g) && decide (c.op = 1)


/-- Loops that have closed since a switch began stay closed until the flip (R422). -/
def State.settleLanes (s : State) : State :=
  { s with serve := { s.serve with lanes := s.serve.lanes.map fun kv =>
    (kv.1, { kv.2 with openLoops := kv.2.openLoops.filter s.loopOpen }) } }

/-- Rings are fetched: the device serves and the Host Interface is out of reset (R318, R570, R593). -/
def State.fetching (s : State) : Bool :=
  decide (s.dev.mode = .service) && s.hif.ready && s.hif.linkUp && !s.dev.hostReset

/-- An entry of the ring is fetched: the conditions of R328. -/
def State.fetchable (s : State) (g : Nat) : Bool :=
  let r := s.ring g
  let size := 2 ^ r.cqLog2.toNat
  r.enable && !r.error && decide (r.sqHead ≠ r.sqTail) &&
  decide (s.ringInflight g < r.maxInflight.toNat) && decide (s.cmds.length < 4096) &&
  decide (s.ringInflight g < (r.cqHead + size - 1 - r.cqTail + size) % size) &&
  !(s.cmds.any fun c => decide (c.ring = g) && (decide (c.op = 8) || decide (c.op = 10)))

/-- The ring whose turn it is in round-robin order among those with fetchable entries (R328). -/
def State.nextRing (s : State) : Option Nat :=
  let able := (s.hif.rings.map (·.1)).filter s.fetchable
  match able.find? fun g => decide (s.hif.lastRing < g) with
  | some g => some g
  | none => able.head?

/-- Fetches the ring's next entry, which opens a closed loop but not for a switch that has begun (R420, R422): a command in
flight, checked at once; behind a raised fence it completes
with CONTEXT_RESET, and an entry that cannot be read stops the ring with FETCH_ERROR. -/
def State.fetch (s : State) (g : Nat) : State :=
  let r := s.ring g
  let c := r.ctx.toNat
  let s := { s with hif := { s.hif with lastRing := g } }
  match s.read c (r.sqBase.toNat + r.sqHead * 64) 64 with
  | .ok raw =>
    let s := s.accessed otherUnit c (r.sqBase.toNat + r.sqHead * 64) 64
    let s := s.settleLanes.setRing g { r with sqHead := (r.sqHead + 1) % 2 ^ r.sqLog2.toNat }
    let cmd : Cmd := { id := s.nextCmd, ring := g, ctx := c, raw := raw }
    let s := { s with cmds := s.cmds ++ [cmd], nextCmd := s.nextCmd + 1 }
    let s := if s.dget 0x3090 4 < s.cmds.length then s.dset 0x3090 4 0 s.cmds.length else s
    if s.fenced c then s.complete cmd 0x10 0
    else match checkCmd s cmd with
      | some (status, value) => s.complete cmd status value
      | none => s
  | .miss m => ((s.noteMiss c m).setRing g { r with error := true }).writeCompletion g c 0xFFFF 0x1F 0 0 0 0 r.sqHead false
  | .damaged _ => (s.setRing g { r with error := true }).writeCompletion g c 0xFFFF 0x1F 0 0 0 0 r.sqHead false

/-- COMMAND_FETCH (R328). -/
def execCommandFetch (ring : RingId) (s : State) : Host.Outcome State Fault Refusal :=
  .next (if s.fetching && decide (s.nextRing = some ring.val) then s.fetch ring.val else s)

/-! ### Doorbells (R326, R327) -/

/-- The ring a doorbell page of a function acts on (R316, R326, R640). -/
def State.doorbellRing (s : State) (f : Func) (page : Nat) : Option Nat :=
  match f with
  | .pf => some page
  | .vf c => if s.vfOn c.val && decide (page < 1024) then s.localRing c.val page else none

/-- A doorbell write that is ignored counts in HIF_DB_DROPPED. -/
def State.dropDoorbell (s : State) : State := s.dbump 0x3090 2 0 32

/-- A write of SQ_TAIL. -/
def State.writeSqTail (s : State) (g v : Nat) : State :=
  let r := s.ring g
  if !r.enable || decide (2 ^ r.sqLog2.toNat ≤ v) then s.dropDoorbell
  else s.setRing g { r with sqTail := v }

/-- A write of CQ_HEAD: between the previous value and CQ_TAIL. -/
def State.writeCqHead (s : State) (g v : Nat) : State :=
  let r := s.ring g
  let size := 2 ^ r.cqLog2.toNat
  if !r.enable || decide (size ≤ v) ||
      decide ((r.cqTail + size - r.cqHead) % size < (v + size - r.cqHead) % size) then s.dropDoorbell
  else s.setRing g { r with cqHead := v }

/-- SQ_TAIL (R327). -/
def execSqTail (f : Func) (page : RingId) (value : BitVec 32) (s : State) : Host.Outcome State Fault Refusal :=
  .next (s.ifHost f fun s => match s.doorbellRing f page.val with | none => s | some g => s.writeSqTail g value.toNat)

/-- CQ_HEAD (R327). -/
def execCqHead (f : Func) (page : RingId) (value : BitVec 32) (s : State) : Host.Outcome State Fault Refusal :=
  .next (s.ifHost f fun s => match s.doorbellRing f page.val with | none => s | some g => s.writeCqHead g value.toNat)

/-! ### Enabling and disabling (R325, R330, R374) -/

/-- A base is 4 KiB aligned and in the Host window. -/
def baseOk (b : BitVec 64) : Bool :=
  decide (b.toNat % 4096 = 0) && decide (b.toNat < 2 ^ 52) && decide (windowOf b.toNat = 2)

/-- The lowest code of the checks of R325 that fail, none when the ring may be enabled. -/
def State.ringCheck (s : State) (g : Nat) (r : Ring) : Option Nat :=
  let c := r.ctx.toNat
  if 256 < c then some 1
  else if s.hif.rings.any fun kv => decide (kv.1 ≠ g) && decide (kv.2.ctx = r.ctx) && decide (kv.2.loc = r.loc) &&
      s.holdsLocal kv.1 then some 2
  else if !s.vectorOk c r.vector.toNat then some 3
  else if !baseOk r.sqBase || !baseOk r.cqBase then some 4
  else if r.sqLog2.toNat < 4 ∨ 16 < r.sqLog2.toNat ∨ r.cqLog2.toNat < 4 ∨ 16 < r.cqLog2.toNat then some 5
  else if r.maxInflight.toNat < 1 ∨ 4096 < r.maxInflight.toNat then some 6
  else none

/-- A write of ENABLE = 1 with MAX_INFLIGHT and LOOP (R325, R626). -/
def State.enableRing (s : State) (g : Nat) (maxInflight : BitVec 13) (loop : Bool) : State :=
  let r := s.ring g
  if !s.hif.ready then s
  else if r.enable || !s.drained g then s.setRing g { r with cfgResult := 7 }
  else
    let r := { r with maxInflight := maxInflight, loop := loop }
    match s.ringCheck g r with
    | some k => s.setRing g { r with cfgResult := BitVec.ofNat 4 k }
    | none => s.setRing g { r with
        cfgResult := 0, enable := true, sqHead := 0, sqTail := 0, cqHead := 0, cqTail := 0, cqPhase := true, error := false }

/-- Clearing ENABLE discards the loop's pending launches and clears TICKS_DROPPED. -/
def State.disableRing (s : State) (g : Nat) : State :=
  (s.setRing g { s.ring g with enable := false }).setLoop g { s.loopOf g with pend := [], ticksDropped := 0 }

/-- RING_ENABLE (R325). -/
def execRingEnable (ring : RingId) (maxInflight : BitVec 13) (loop : Bool) (s : State) :
    Host.Outcome State Fault Refusal := .next (s.ifHost .pf fun s => s.enableRing ring.val maxInflight loop)

/-- RING_DISABLE (R330). -/
def execRingDisable (ring : RingId) (s : State) : Host.Outcome State Fault Refusal := 
  .next (s.ifHost .pf fun s => s.disableRing ring.val)

end Sys2Proof.Machine
end

