-- ==== Sys2Proof/Machine/Cadence.lean ====
section
/-! DEFINITION. The Cadence Unit: input events, conditioned ticks, holdover, frame marks, elapsed cadence time
and the configuration (R394-R410). -/

namespace Sys2Proof.Machine

/-- The unit runs from the accepted PWR_GOOD on, through every reset level (R404). -/
def State.powered (s : State) : Bool := decide (s.dev.mode ≠ .off)

/-- Attoseconds in a nanosecond: the Cadence Unit's times are kept in attoseconds, the uptime in ns. -/
def atto : Nat := 1000000000

/-- Nominal period T of the tracked events in attoseconds: frame or sample (R396). -/
def Cdu.nominal (c : Cdu) : Nat := 10 ^ 18 / c.hz

/-- Nominal period of a tick in attoseconds. -/
def Cdu.nominalTick (c : Cdu) : Nat := if c.mode = 1 then 10 ^ 18 * c.spt / c.hz else 10 ^ 18 / c.hz

/-- The PLL tracks the input: Pull-in or Locked. -/
def Cdu.tracking (c : Cdu) : Bool := decide (c.state = 1) || decide (c.state = 2)

/-- Period of the current tick in attoseconds: the PLL's or the holdover rate, of the tick's own count of samples
in mode 1 (R401, R403). -/
def Cdu.tickPeriod (c : Cdu) : Nat :=
  if c.tracking then (if c.mode = 1 then c.period * (c.spt + c.extra) else c.period)
  else if c.mode = 1 then c.freePeriod * (c.spt + c.extra) / c.spt else c.freePeriod

/-- The fraction of the tick in progress at a time in attoseconds, in 2^-48 ct: it advances evenly from where it
stood when the due time of the next tick was last set (R403). -/
def Cdu.frac (c : Cdu) (at_ : Nat) : Nat :=
  if c.due ≤ c.fracTime then 2 ^ 48 - 1
  else min (2 ^ 48 - 1) (c.fracBase + (at_ - c.fracTime) * (2 ^ 48 - c.fracBase) / (c.due - c.fracTime))

/-- The fraction goes on from where it stands at a time, toward a new due time (R403). -/
def Cdu.redue (c : Cdu) (at_ due : Nat) : Cdu := { c with fracBase := c.frac at_, fracTime := at_, due := due }

/-- The rate of ticks changes inside a tick: what remains of it runs at the new rate (R403). -/
def Cdu.rerate (c : Cdu) (at_ old : Nat) : Cdu :=
  if c.due ≤ at_ ∨ old = 0 then c else c.redue at_ (at_ + (c.due - at_) * c.tickPeriod / old)

/-- Elapsed cadence time at an uptime: tick number and fraction, in 1/65,536 ct (R403). -/
def Cdu.phase (c : Cdu) (uptime : Nat) : Nat :=
  if c.ticked then c.tick * 65536 + c.frac (uptime * atto) / 2 ^ 32 else 0

/-- The phase now. -/
def State.phase (s : State) : Nat := s.cdu.phase s.uptime

/-- A DEADLINE or TIMEOUT field, whole ct and 1/256 ct, in 1/65,536 ct (R340). -/
def ctField (v : Nat) : Nat := v * 256

/-- CDU_FLAGS (R410). -/
def State.cduFlags (s : State) : Nat :=
  b2n s.cdu.holdover + 2 * b2n s.cdu.range + 4 * b2n s.cdu.noInput + 8 * b2n s.cdu.syncMismatch +
    16 * b2n s.pins.refsysLost

/-- CDU_FREQ_OFFSET: input frequency minus nominal in parts per 10^9 (R410). -/
def Cdu.freqOffset (c : Cdu) : Int :=
  if c.period = 0 then 0 else ((c.nominal : Int) - c.period) * 10 ^ 9 / c.period

/-- The first half of a conditioned sample is in progress: of the PLL's own samples in Locked, and elsewhere of the samples
that the tick's fraction counts (R405). -/
def Cdu.sampleHigh (c : Cdu) (at_ : Nat) : Bool :=
  if c.state = 2 then decide (2 * (((at_ : Int) - c.predicted) % c.period) < c.period)
  else decide (2 * (c.frac at_ * (c.spt + c.extra) % 2 ^ 48) < 2 ^ 48)

/-- The level of CADENCE_OUT at an uptime: high for half of the tick in progress, or for half of each conditioned
sample (R405, R406). -/
def State.cadenceOut (s : State) : Bool :=
  let c := s.cdu
  let held := decide (s.dget 0x2200 6 = 1) && (decide (c.state = 0) || decide (c.state = 3))
  s.driven && c.ticked && !held && decide (s.dget 0x2200 5 ≠ 0) &&
    (if s.dget 0x2200 5 = 2 ∧ c.mode = 1 then c.sampleHigh (s.uptime * atto)
     else decide (2 * ((s.uptime - c.tickTime) * atto) < c.due - c.tickTime * atto))

/-- Total time in Acquiring and Holdover up to now (CDU_HOLDOVER_NS, R410). -/
def State.holdoverNs (s : State) : Nat :=
  s.dget 0x30A0 10 + (if s.cdu.state = 0 ∨ s.cdu.state = 3 then s.uptime - s.cdu.heldSince else 0)

/-- Counts the time spent in Acquiring and Holdover up to now (CDU_HOLDOVER_NS). -/
def State.holdTime (s : State) : State :=
  if s.cdu.state = 0 ∨ s.cdu.state = 3 then
    { s.dbump 0x30A0 10 0 64 (s.uptime - s.cdu.heldSince) with cdu := { s.cdu with heldSince := s.uptime } }
  else s

/-- Mean of a list of periods. -/
def mean (ps : List Nat) : Nat := ps.foldl (· + ·) 0 / ps.length

/-- A period lies within the nominal frequency +-500 ppm (R398, R399). -/
def withinRange (nominal p : Nat) : Bool :=
  decide (nominal * 1000000 ≤ p * 1000500) && decide (p * 999500 ≤ nominal * 1000000)

/-- Spacings of a list of event times in ns, newest first, in attoseconds. -/
def spacings : List Nat → List Nat
  | a :: b :: ts => (a - b) * atto :: spacings (b :: ts)
  | _ => []

/-- A spacing is the nominal period +-25 %. -/
def nearNominal (nominal p : Nat) : Bool := decide (nominal * 3 ≤ p * 4) && decide (p * 4 ≤ nominal * 5)

/-- The estimate averaged over 16 periods lies outside the range (R398). -/
def Cdu.outOfRange (c : Cdu) : Bool :=
  decide (c.periods.length = 16) && !withinRange c.nominal (mean c.periods)

/-- The phase of the input against the tick at a time, by the shorter way round (R399). -/
def Cdu.pullOffset (c : Cdu) (at_ : Nat) : Int :=
  let d : Int := ((c.predicted : Int) - at_) % c.period
  if d * 2 ≤ c.period then d else d - c.period

/-- Pull-in begins: 16 good events, ticks move toward their phase (R399). -/
def Cdu.enterPullIn (c : Cdu) (t : Nat) : Cdu :=
  let p := mean (spacings c.edges)
  let n := { c with state := 1, period := p, predicted := t * atto + p, missing := 0, periods := [], locked := [],
                    offset := 0, lengthen := 0, markDue := none, lastMark := none, applyDue := false }
  n.rerate (t * atto) c.tickPeriod

/-- Enough good events to leave Acquiring or Holdover (R399). -/
def Cdu.goodEdges (c : Cdu) : Bool :=
  decide (16 ≤ c.edges.length) && (spacings (c.edges.take 16)).all (nearNominal c.nominal) &&
    withinRange c.nominal (mean (spacings (c.edges.take 16)))

/-- The loop's natural frequency omega_n = 2 pi x 4.86 Hz in 10^-9 rad/s (R396). -/
def omegaN : Nat := 30536280593

/-- The period correction (omega_n T)^2 x e of R396, in attoseconds. -/
def pllPeriod (nominal : Nat) (e : Int) : Int := ((omegaN * nominal) ^ 2 : Nat) * e / 10 ^ 54

/-- The phase correction 2 x 0.707 x omega_n T x e of R396, in attoseconds. -/
def pllPhase (nominal : Nat) (e : Int) : Int := (2 * 707 * omegaN * nominal : Nat) * e / 10 ^ 30

/-- The event at a time lies in the window of the predicted one (R397). -/
def Cdu.inWindow (c : Cdu) (t : Nat) : Bool :=
  decide (4 * ((t * atto : Nat) - c.predicted : Int).natAbs ≤ c.nominal)

/-- The window of the predicted event has closed at a time (R397). -/
def Cdu.windowClosed (c : Cdu) (t : Nat) : Bool := decide (4 * c.predicted + c.nominal ≤ 4 * (t * atto))

/-- The largest change of a tick's length in Pull-in: 0.1 % of the nominal period (R399). -/
def Cdu.slew (c : Cdu) (x : Int) : Int := max (-(c.nominal / 1000 : Nat)) (min (c.nominal / 1000 : Nat) x)

/-- The index of the sample now counted: 0 at the end of the tick in progress (R401). -/
def Cdu.sampleNow (c : Cdu) : Nat := if c.spt + c.extra ≤ c.sampleIndex then 0 else c.sampleIndex

/-- Where a sample lies against the tick boundary that the next ticks are counted from: a tick that is lengthened moves it
(R401). -/
def Cdu.markAt (c : Cdu) (i : Nat) : Nat := (i + (c.spt - (c.extra + c.lengthen) % c.spt)) % c.spt

/-- A sample is counted, accepted or coasted, with the period estimate that stands then (R397, R398, R401). -/
def Cdu.sampled (c : Cdu) (t : Nat) : Cdu :=
  { c with
    periods := (c.period :: c.periods).take 16
    locked := if c.state = 2 then (t, c.period) :: c.locked.filter (fun q => decide (t < q.1 + 1000000000))
              else c.locked
    sampleIndex := c.sampleNow + 1 }

/-- An accepted event: the PLL's period and phase corrections, which move the next predicted event and, when
Locked, the tick phase with it, then the sample count and the SYNC sample (R396, R399, R401). A perturbation slot delays
the event's time before the PLL (R618). -/
def Cdu.accept (c : Cdu) (t delay : Nat) (sync : Bool) : Cdu :=
  let e : Int := ((t + delay) * atto : Nat) - (c.predicted : Int)
  let p := ((c.period : Int) + pllPeriod c.nominal e).toNat
  let fix := pllPhase c.nominal e
  let fix := if c.state = 1 then c.slew fix else fix
  let ahead := (c.due - c.predicted + c.period / 2) / c.period
  let due := (c.due : Int) + ahead * ((p : Int) - c.period) + (if c.state = 1 then 0 else fix)
  let c := c.redue (t * atto) due.toNat
  { { c with period := p }.sampled t with
    predicted := ((c.predicted : Int) + p + fix).toNat
    missing := 0
    markDue := if c.mode = 1 ∧ c.state = 2 ∧ sync ∧ !c.lastSync then some (c.markAt c.sampleNow) else c.markDue
    lastSync := sync }

/-- CADENCE_INPUT_EVENT (R394, R397, R399): the unit stays in Acquiring until the first profile load has ended (R625). -/
def State.inputEvent (s : State) (t : Nat) (sync : Bool) : State :=
  let c := s.cdu
  if c.mode = 2 then s
  else if c.tracking then
    if c.inWindow t then
      let r := s.perturbed 6 0 0 0xFFFF true
      { r.1 with cdu := c.accept t r.2 sync }
    else s.dbump 0x30A0 8 0 32
  else
    let c := { c with
      edges := match c.edges with
        | [] => [t]
        | e :: _ => if nearNominal c.nominal ((t - e) * atto) then (t :: c.edges).take 16 else [t]
      lastSync := sync }
    if c.goodEdges && !c.applyDue && s.kop.loadedOnce then { s.holdTime with cdu := { c.enterPullIn t with heldSince := s.uptime } }
    else { s with cdu := c }

def execCadenceInputEvent (t : Nat) (sync : Bool) (s : State) : Host.Outcome State Fault Refusal :=
  .next (if s.powered then (s.at t).inputEvent t sync else s)

/-- CADENCE_PERIOD_MISSING: the window of the predicted event closed with none: the period is missing and the PLL
coasts, its sample counted (R397, R401). -/
def execCadencePeriodMissing (t : Nat) (s : State) : Host.Outcome State Fault Refusal :=
  .next (
    let c := s.cdu
    if s.powered && c.tracking && decide (c.mode ≠ 2) && c.windowClosed t then
      { (s.at t).dbump 0x30A0 7 0 32 with
        cdu := { c.sampled t with missing := c.missing + 1, predicted := c.predicted + c.period } }
    else s)

/-- The rate of Holdover: the mean of the last second of lock, or the nominal rate (R398). -/
def Cdu.holdoverPeriod (c : Cdu) (t : Nat) : Nat :=
  if c.outOfRange || decide (c.state ≠ 2) || decide (t < c.lockedAt + 1000000000) || c.locked.isEmpty then c.nominalTick
  else mean (c.locked.map (·.2)) * (if c.mode = 1 then c.spt else 1)

/-- HOLDOVER_ENTRY: what remains of the tick in progress runs at the holdover rate (R398, R403, R407). -/
def execHoldoverEntry (t : Nat) (s : State) : Host.Outcome State Fault Refusal :=
  .next (
    let c := s.cdu
    if s.powered && c.tracking && (decide (4 ≤ c.missing) || c.outOfRange) then
      let s := s.at t
      let n := { c with
        state := 3, holdover := true
        range := c.range || c.outOfRange
        noInput := c.noInput || decide (4 ≤ c.missing) || (c.outOfRange && decide (0 < c.missing))
        freePeriod := c.holdoverPeriod t
        edges := [], offset := 0, lengthen := 0, heldSince := s.uptime }
      let s := { s with cdu := n.rerate (t * atto) c.tickPeriod }
      let s := s.dbump 0x30A0 6 0 32
      s.event 5 1 0 s.cduFlags
    else s)

/-- A frame mark is checked against the counted boundary (R401). -/
def State.checkMark (s : State) (off : Nat) : State :=
  let c := { s.cdu with markDue := none }
  let clear := { c with syncMismatch := false, lastMark := none, firstMark := false }
  if off = 0 then { s with cdu := clear }
  else if c.firstMark || decide (c.lastMark = some off) then
    { s.dbump 0x30A0 9 0 32 with cdu := { clear with lengthen := (c.lengthen + off) % c.spt } }
  else { s.dbump 0x30A0 11 0 32 with cdu := { c with syncMismatch := true, lastMark := some off } }

/-- CADENCE_SYNC_MARK (R401). -/
def execCadenceSyncMark (t : Nat) (s : State) : Host.Outcome State Fault Refusal :=
  .next (match s.powered, s.cdu.mode, s.cdu.state, s.cdu.markDue with
    | true, 1, 2, some off => (s.at t).checkMark off
    | _, _, _, _ => s)

/-! ### Ticks -/

/-- A unit that consumes ticks is out of reset (R404, R594). -/
def State.serving (s : State) : Bool := decide (s.dev.mode = .service)

/-- The loop of a ring takes a tick: a pending launch, or a dropped tick (R31, R375). -/
def loopTick (l : Loop) (n t : Nat) : Loop :=
  if l.launch = 1 ∧ n % l.tickDiv.toNat = l.tickPhase.toNat then
    if l.pend.length < l.backlog.toNat then { l with pend := l.pend ++ [⟨n, t⟩] }
    else { l with ticksDropped := min 255 (l.ticksDropped + 1) }
  else l

/-- Every enabled loop ring whose context is not fenced takes the tick (R375, R573). -/
def State.launchTicks (s : State) (n t : Nat) : State :=
  if s.serving then
    { s with hif := { s.hif with loops := s.hif.loops.map fun kv =>
      let r := s.ring kv.1
      if r.enable && r.loop && !s.fenced r.ctx.toNat then (kv.1, loopTick kv.2 n t) else kv } }
  else s

/-- The tick that begins at a time lasts the tick period and a change of length (R394, R399). -/
def Cdu.nextDue (c : Cdu) (at_ : Nat) (change : Int) : Cdu :=
  { c with due := ((at_ : Int) + c.tickPeriod + change).toNat, fracBase := 0, fracTime := at_ }

/-- Each tick of Pull-in is lengthened or shortened by at most 0.1 % of the nominal period toward the input's
phase; a tick whose remaining offset is within 100 ns is Locked, and in mode 1 its sample is the counted boundary
(R399, R401). -/
def State.pullIn (s : State) (at_ : Nat) : State :=
  let c := s.cdu
  let off := c.pullOffset at_
  if off.natAbs ≤ 100 * atto then
    let c := { c with
      state := 2, offset := 0, holdover := false, range := false, noInput := false
      lockedAt := at_ / atto, locked := [], extra := 0, firstMark := true, lastMark := none
      sampleIndex := if 2 * c.predicted < 2 * at_ + c.period then 0 else 1 }
    let s := { s with cdu := c.nextDue at_ off }
    s.event 5 2 0 s.cduFlags
  else { s with cdu := { c with offset := off }.nextDue at_ (c.slew off) }

/-- Acquiring begins on the active configuration, or Internal in mode 2 (R400). -/
def State.acquire (s : State) : State :=
  let c := s.cdu
  { s.holdTime with cdu := { c with
    state := if c.mode = 2 then 4 else 0
    holdover := decide (c.mode ≠ 2)
    freePeriod := c.nominalTick
    period := c.nominal
    range := false, noInput := false
    edges := [], periods := [], locked := [], missing := 0, offset := 0, lengthen := 0, extra := 0
    syncMismatch := false, lastMark := none, markDue := none, applyDue := false
    heldSince := s.uptime } }

/-- The conditioned tick at a time is counted: its number and time, the sample count that begins with it, and the
lengthening it takes (R401, R402). -/
def Cdu.counted (c : Cdu) (at_ : Nat) : Cdu :=
  { c with
    tick := if c.ticked then c.tick + 1 else 0
    tickTime := at_ / atto
    ticked := true
    sampleIndex := c.sampleNow
    extra := c.lengthen
    lengthen := 0 }

/-- The time of the tick that CADENCE_TICK reports: the unit's own due time; the first tick after power-up comes
when the command says, for no rule gives its phase (R394, R402). -/
def Cdu.tickAt (c : Cdu) (t : Nat) : Nat := if c.ticked then c.due else t * atto

/-- CADENCE_TICK: the conditioned tick that is due (R394, R399, R402, R375). A tick before its due time is none. -/
def execCadenceTick (t : Nat) (s : State) : Host.Outcome State Fault Refusal :=
  .next (
    let tick := s.cdu.tickAt t
    if s.powered && decide (tick ≤ t * atto) then
      let s := (s.at t).holdTime
      let s := { s with cdu := s.cdu.counted tick }
      let s :=
        if s.cdu.applyDue then let s := s.acquire; { s with cdu := s.cdu.nextDue tick 0 }
        else if s.cdu.state = 1 then s.pullIn tick
        else { s with cdu := s.cdu.nextDue tick 0 }
      s.launchTicks s.cdu.tick s.cdu.tickTime
    else s)

/-! ### Configuration (R395) -/

/-- The three staged values agree (Table: Cadence modes). -/
def cadenceOk (mode hz spt : Nat) : Bool :=
  match mode with
  | 1 => decide (8000 ≤ hz) && decide (hz ≤ 192000) &&
      decide (hz ≤ spt * 10000) && decide (spt * 100 ≤ hz)
  | _ => decide (mode ≤ 2) && decide (100 ≤ hz) && decide (hz ≤ 10000)

/-- Makes a configuration active: at once, or in Holdover and Pull-in from the next tick (R395, R407). What remains
of a tick in progress runs at the new nominal rate (R403). -/
def State.applyCadence (s : State) (mode hz spt : Nat) : State :=
  let old := s.cdu
  let s := { s with cdu := { s.cdu with mode := mode, hz := hz, spt := spt, syncMismatch := false } }
  if old.state = 3 ∨ old.state = 1 then { s with cdu := { s.cdu with applyDue := true } }
  else
    let s := s.acquire
    { s with cdu := s.cdu.rerate (s.uptime * atto) old.tickPeriod }

/-- A write of CDU_APPLY: true when it is accepted. -/
def State.cduApply (s : State) : State × Bool :=
  let m := s.dget 0x2200 1
  let h := s.dget 0x2200 2
  let n := s.dget 0x2200 3
  if cadenceOk m h n then (s.applyCadence m h n, true) else (s, false)

/-- The check at profile load: a failure makes mode 2 at 100 Hz active and logs event 5.3 (R395, R625). -/
def State.cduLoad (s : State) : State :=
  let m := s.dget 0x2200 1
  let h := s.dget 0x2200 2
  let n := s.dget 0x2200 3
  if cadenceOk m h n then s.applyCadence m h n else (s.applyCadence 2 100 n).event 5 3 0

end Sys2Proof.Machine
end

