-- ==== Sys2Proof/Machine/Power.lean ====
section
/-! DEFINITION. Operating points, voltage lift, the power cap, rail current, temperature and idle rules
(R540-R561), and the brake (R69). -/

namespace Sys2Proof.Machine

/-! ### Fabric ports and their states (R470, R498) -/

def State.port (s : State) (p : Nat) : Port := tget {} s.links.ports p

def State.setPort (s : State) (p : Nat) (q : Port) : State :=
  { s with links := { s.links with ports := tset {} s.links.ports p q } }

/-- A port that carries packets: Active or in Retrain. -/
def Port.carries (p : Port) : Bool := decide (p.state = .active) || decide (p.state = .retrain)

/-- A port in a state with nothing of its link left: a lane that was moved for good stays on the spare, and
PORT_PARTITION_NEXT stays written (R495, R632). -/
def Port.renewed (q : Port) (st : PortState) (t : Nat) : Port :=
  { state := st, since := t, lostAt := if q.carries then t else q.lostAt, ownId := q.ownId, partner := q.partner, nextWritten := q.nextWritten
    checks := q.checks, txPermanent := q.txPermanent, rxPermanent := q.rxPermanent
    spareTx := if q.txPermanent then q.spareTx else 15
    spareUse := if q.rxPermanent then q.spareUse else 15
    spareRq := q.spareRq, nextLane := q.nextLane }

/-- SVL_SLICE_FL: the lowest level over the Active ports, never above the ceiling (R498, R631). -/
def State.settleSlice (s : State) : State :=
  let top := s.dget 0x5000 3
  let ls := (List.range 16).filterMap fun p => if (s.port p).state = .active then some (s.port p).level else none
  s.dset 0x5000 4 0 (ls.foldl min top)

/-- Every fabric port goes to Off (R565, R593). -/
def State.portsOff (s : State) : State :=
  ((List.range 16).foldl (fun s p => s.setPort p ((s.port p).renewed .off s.uptime)) s).settleSlice

/-! ### Domains and clusters -/

/-- DOMAIN_STATE: 0 Off, 1 Idle, Retention or Self-refresh, 2 On (R86). -/
def State.domain (s : State) (n : Nat) : Nat := s.dget 0x3040 1 n

def State.setDomain (s : State) (n v : Nat) : State := s.dset 0x3040 1 n v

/-- Sets every domain of a list. -/
def State.setDomains (s : State) (v : Nat) (ns : List Nat) : State := ns.foldl (fun s n => s.setDomain n v) s

/-- A step executes on a cluster. -/
def State.stepOn (s : State) (cl : Nat) : Bool := s.steps.any fun p => p.launched && p.footprint.getLsbD cl

/-- A cluster subject to the regional limits: On or Idle and not isolated (R547). -/
def State.clusterUp (s : State) (cl : Nat) : Bool := decide (s.domain cl ≠ 0) && !s.isolated cl

/-- Neighbours on the die at mesh distance 1 (R547). -/
def neighbours (cl : Nat) : List Nat :=
  let x := cl % 4
  let y := cl % 16 / 4
  (if 0 < x then [cl - 1] else []) ++ (if x < 3 then [cl + 1] else []) ++
  (if 0 < y then [cl - 4] else []) ++ (if y < 3 then [cl + 4] else [])

/-- Point voltage in mV (R542). -/
def pointVoltage (p : Nat) : Nat := [600, 620, 645, 670, 695, 720, 745, 770, 800, 830, 870, 950].getD p 950

/-- CLUSTER_POINT. -/
def State.point (s : State) (cl : Nat) : Nat := s.dget 0x2100 5 cl

/-- The effective point (R543). -/
def State.effectivePoint (s : State) (cl : Nat) : Nat :=
  if !s.pins.brakeN || s.health.safe then 0
  else min (s.dget 0x2100 3 cl) (min (s.dget 0x2100 8) (min (s.dget 0x2100 9 (cl / 16)) (s.dget 0x2100 10 cl)))

/-- The lift floor of a cluster (R549). -/
def State.liftFloor (s : State) (cl : Nat) : Nat :=
  (((neighbours cl).filter s.clusterUp).map fun n => pointVoltage (s.point n) - 250).foldl max 0

/-- Supply and lift of every cluster follow the points: a cluster that is isolated and under test has no limit but its own
point voltage (R542, R547, R549). -/
def State.resupply (s : State) : State :=
  (List.range 64).foldl (fun s' cl =>
    let p := pointVoltage (s.point cl)
    let v := if s.domain cl = 0 then 0 else if s.isolated cl then p else max p (s.liftFloor cl)
    (s'.dset 0x2100 6 cl v).dset 0x2100 7 cl (v - p)) s

/-- A cluster was last active, or last in use by a memory access, at this moment (R546). -/
def State.worked (s : State) (cl : Nat) : State :=
  { s with power := { s.power with lastWork := tput s.power.lastWork cl s.uptime } }

/-- A cluster's domain comes On: from Off at point 0, from Idle at the point that it held (R545). -/
def State.powerOn (s : State) (cl : Nat) : State :=
  ((if s.domain cl = 0 then s.dset 0x2100 5 cl 0 else s).setDomain cl 2).worked cl

/-- CLUSTER_POINT_TRANSITION: the cluster moves to its effective point, with the lifts it needs; its rounds
resume on the same cycle counts (R193, R543, R544, R549). -/
def execClusterPointTransition (cluster : ClusterId) (s : State) : Host.Outcome State Fault Refusal :=
  .next (if s.domain cluster.val = 2 then
    (s.dset 0x2100 5 cluster.val (s.effectivePoint cluster.val)).resupply else s)

/-- CLUSTER_IDLE (R546). -/
def execClusterIdle (cluster : ClusterId) (t : Nat) (s : State) : Host.Outcome State Fault Refusal :=
  .next (
    let us := s.dget 0x2100 4
    if decide (us ≠ 0) && decide (s.domain cluster.val = 2) && !s.stepOn cluster.val &&
        decide (tget 0 s.power.lastWork cluster.val + us * 1000 ≤ t) then
      (s.at t).setDomain cluster.val 1
    else s)

/-! ### The brake (R66, R69) -/

/-- Every cluster whose domain is not Off runs at its lowest point, one under test too. -/
def State.lowestPoints (s : State) : State :=
  (List.range 64).foldl (fun s cl => if s.domain cl = 0 then s else s.dset 0x2100 5 cl 0) s

/-- PWR_BRAKE_N_ASSERT: every cluster reaches the lowest point. -/
def execPwrBrakeNAssert (t : Nat) (s : State) : Host.Outcome State Fault Refusal :=
  .next (if s.pins.brakeN then
    let s := s.at t
    let s := { s with pins := { s.pins with brakeN := false, brakeSince := s.uptime, brakeLogged := false } }
    s.lowestPoints.resupply
  else s)

/-- PWR_BRAKE_N_RELEASE: the time asserted counts; each cluster returns to its effective point by its own
transition. -/
def execPwrBrakeNRelease (t : Nat) (s : State) : Host.Outcome State Fault Refusal :=
  .next (if s.pins.brakeN then s else
    let s := s.at t
    let s := s.dbump 0x2100 0x12 0 64 ((s.uptime - max s.pins.brakeSince s.power.brakeCounted) / 1000)
    { s with pins := { s.pins with brakeN := true } })

/-- PWR_BRAKE_LONG: asserted over 1 s, logged once (R66). -/
def execPwrBrakeLong (t : Nat) (s : State) : Host.Outcome State Fault Refusal :=
  .next (if !s.pins.brakeN && !s.pins.brakeLogged && decide (s.pins.brakeSince + 1000000000 < t) then
    let s := s.at t
    { s with pins := { s.pins with brakeLogged := true } }.event 1 4 0
  else s)

/-! ### Power cap and rail current (R552-R554) -/

/-- POWER_CAP_CHECK: the 100 microsecond average in mW against POWER_CAP. -/
def State.capCheck (s : State) (t mw : Nat) : State :=
  let cap := s.dget 0x2100 1 * 1000
  let ceil := s.dget 0x2100 8
  let s := { s with power := { s.power with lastCap := t } }
  let flags := s.dget 0x2100 14
  if cap < mw then
    let s := { s with power := { s.power with belowCap := none } }
    if 0 < ceil then (s.dset 0x2100 8 0 (ceil - 1)).dbump 0x2100 15 0 32
    else if bit flags 0 then s
    else (s.dset 0x2100 14 0 (flags + 1)).event 1 5 0 (s.dget 0x2100 11)
  else
    let s := s.dset 0x2100 14 0 (flags - b2n (bit flags 0))
    if mw * 100 < cap * 97 then
      match s.power.belowCap with
      | none => { s with power := { s.power with belowCap := some t } }
      | some t0 =>
        if t0 + 1000000 ≤ t then
          { (if ceil < 11 then s.dset 0x2100 8 0 (ceil + 1) else s) with power := { s.power with belowCap := some t } }
        else s
    else { s with power := { s.power with belowCap := none } }

def execPowerCapCheck (t mw : Nat) (s : State) : Host.Outcome State Fault Refusal :=
  .next (if s.powered && decide (s.power.lastCap + 20000 ≤ t) then (s.at t).capCheck t mw else s)

/-- VIN_CMP_LIMIT_CHECK: the current of VIN_CMPd in mA over the interval since the last check (R554). -/
def State.vinCheck (s : State) (t die ma : Nat) : State :=
  let limit := s.dget 0x2100 2 * 1000
  let ceil := s.dget 0x2100 9 die
  if limit < ma then
    let top := ((List.range 16).map fun i => s.effectivePoint (die * 16 + i)).foldl max 0
    { s with power := { s.power with
      lastVin := tput s.power.lastVin die t, belowVin := terase s.power.belowVin die
      vinHigh := tins s.power.vinHigh die } }.dset 0x2100 9 die (top - 1)
  else
    let s := { s with power := { s.power with vinHigh := terase s.power.vinHigh die } }
    if ma * 10 < limit * 9 then
      match tfind s.power.belowVin die with
      | none => { s with power := { s.power with belowVin := tput s.power.belowVin die t } }
      | some t0 =>
        if t0 + 1000000 ≤ t then
          { (if ceil < 11 then s.dset 0x2100 9 die (ceil + 1) else s) with
            power := { s.power with belowVin := tput s.power.belowVin die t } }
        else s
    else { s with power := { s.power with belowVin := terase s.power.belowVin die } }

def execVinCmpLimitCheck (t : Nat) (die : Fin 4) (ma : Nat) (s : State) : Host.Outcome State Fault Refusal :=
  .next (
    let due := match tfind s.power.lastVin die.val with | none => true | some t0 => decide (t0 + 5000 ≤ t)
    if s.powered && due then (s.at t).vinCheck t die.val ma else s)

/-! ### Temperature (R550, R556-R559) -/

/-- A TEMP entry as a signed number of quarter degrees; a failed sensor counts as 95 degrees (R559). -/
def State.temp (s : State) (i : Nat) : Int :=
  if thas s.power.failed i then 380 else (BitVec.ofNat 16 (s.dget 0x2100 13 i)).toInt

/-- Clusters a sensor acts on (Table: Thermal sensors). -/
def sensorClusters (i : Nat) : List Nat :=
  if i < 64 then [i]
  else if i < 80 then (List.range 4).map fun j => (i - 64) / 4 * 16 + (i - 64) % 4 * 4 + j
  else if i < 88 then (List.range 16).map fun j => (i - 80) / 2 * 16 + j
  else if i < 96 then (List.range 16).map fun j => (i - 88) / 2 * 16 + j
  else (List.range 16).map fun j => (i - 96) * 16 + j

/-- The hottest sensor that acts on a cluster. -/
def State.clusterHeat (s : State) (cl : Nat) : Int :=
  (((List.range 100).filter fun i => (sensorClusters i).contains cl).map s.temp).foldl max (s.temp cl)

/-- THROTTLE_CEILING of a cluster: the lower of the thermal and the temperature-difference limit. -/
def State.setCeiling (s : State) (cl : Nat) : State :=
  s.dset 0x2100 10 cl (11 - max (tget 0 s.power.thermal cl) (tget 0 s.power.region cl))

/-- THROTTLE_TIME up to an uptime. -/
def State.throttleTime (s : State) (cl t : Nat) : State :=
  match tfind s.power.throttledSince cl with
  | none => if s.dget 0x2100 10 cl < 11 then
      { s with power := { s.power with throttledSince := tput s.power.throttledSince cl t } } else s
  | some t0 =>
    let us := (t - t0) / 1000
    let s := s.dbump 0x2100 0x11 cl 64 us
    let since := if s.dget 0x2100 10 cl < 11 then tput s.power.throttledSince cl (t0 + us * 1000)
      else terase s.power.throttledSince cl
    { s with power := { s.power with throttledSince := since } }

/-- The thermal limit of a cluster changes, and its ceiling with it. -/
def State.setThermal (s : State) (t cl lim : Nat) : State :=
  ({ s with power := { s.power with
    thermal := tset 0 s.power.thermal cl lim, lastThrottle := tput s.power.lastThrottle cl t } } : State).setCeiling cl

/-- A sensor at 95 degrees or more lowers the ceiling of a cluster by one point (R557). -/
def State.heatUp (s : State) (t cl : Nat) : State :=
  (s.setThermal t cl (min 11 (12 - s.dget 0x2100 10 cl))).throttleTime cl t

/-- The ceiling of a cluster whose sensors all read below 90 degrees rises by one point every 10 ms (R557). -/
def State.coolDown (s : State) (t cl : Nat) : State :=
  let lim := tget 0 s.power.thermal cl
  let due := match tfind s.power.lastThrottle cl with | none => true | some t0 => decide (t0 + 10000000 ≤ t)
  (if s.clusterHeat cl < 360 ∧ 0 < lim ∧ due then s.setThermal t cl (lim - 1) else s).throttleTime cl t

/-- What a reading does to the ceilings of the clusters that its sensor acts on: it lowers them when it comes to 95 degrees,
and again every 100 microseconds while it stays there (R557). -/
def State.throttle (s : State) (t i : Nat) (hot : Bool) : State :=
  let due := hot && match tfind s.power.lastHot i with | none => true | some t0 => decide (t0 + 100000 ≤ t)
  let s := { s with power := { s.power with
    lastHot := if due then tput s.power.lastHot i t else if hot then s.power.lastHot else terase s.power.lastHot i } }
  (sensorClusters i).foldl (fun s cl => if due then s.heatUp t cl else s.coolDown t cl) s

/-- An Installer grant of a class ends, with its health event (R509, R510). -/
def State.endGrant (s : State) (management : Bool) : State :=
  let r := if management then s.kop.roleMgt else s.kop.rolePf
  let s := { s with kop :=
    if management then { s.kop with roleMgt := { r with grantUntil := none } }
    else { s.kop with rolePf := { r with grantUntil := none } } }
  if r.grantUntil.isSome then s.event 9 2 (if management then 2 else 0) else s

/-- A thermal trip (R558): THERM_TRIP_N low, every domain Off but the Bulk channels in Self-refresh, every
executing step abandoned without a completion. The management link goes down with its PHY, and ends its grant (R509). -/
def State.trip (s : State) (sensor reading : Nat) : State :=
  let s := { s with
    pins := { s.pins with tripLow := true }
    dev := { s.dev with mode := .tripped, since := s.uptime, hifOut := false, profileLoaded := false }
    hif := { s.hif with ready := false, linkUp := false }
    cmds := []
    steps := []
    array := { s.array with clusters := [], cores := [], streams := [], rappels := [] } }
  let s := (s.portsOff.setDomains 0 (List.range 80 ++ (List.range 30).map (· + 88))).setDomains 1 ((List.range 8).map (· + 80))
  let s := (s.dbump 0x2100 0x13 0 32).dset 0x2100 0x14 0 sensor
  (s.resupply.event 6 2 sensor reading).endGrant true

/-- THERMAL_SENSOR_READ: the monitors go on after a trip, which no further reading repeats (R81, R556-R558). -/
def execThermalSensorRead (t : Nat) (sensor : Fin 100) (reading : BitVec 16) (s : State) :
    Host.Outcome State Fault Refusal :=
  .next (if s.powered then
    let s := (s.at t).dset 0x2100 13 sensor.val reading.toNat
    let s := { s with power := { s.power with failed := terase s.power.failed sensor.val } }
    if s.dev.mode = .tripped then s
    else if 460 ≤ reading.toInt then s.trip sensor.val reading.toNat
    else s.throttle t sensor.val (decide (380 ≤ reading.toInt))
  else s)

/-- SENSOR_FAILED: its clusters are throttled to point 0 and a health event names it (R559). -/
def execSensorFailed (t : Nat) (sensor : Fin 100) (s : State) : Host.Outcome State Fault Refusal :=
  .next (if s.powered && !thas s.power.failed sensor.val then
    let s := s.at t
    let s := { s with power := { s.power with failed := tins s.power.failed sensor.val } }
    let s := (sensorClusters sensor.val).foldl (fun s cl => (s.setThermal t cl 11).throttleTime cl t) s
    s.event 6 1 sensor.val
  else s)

/-- A cluster is hotter than a neighbour by more than a number of quarter degrees; sensors that failed are
left out (R550, R559). -/
def State.hotterBy (s : State) (cl : Nat) (q : Int) : Bool :=
  s.clusterUp cl && !thas s.power.failed cl && (neighbours cl).any fun n =>
    s.clusterUp n && !thas s.power.failed n && decide (s.temp n + q < s.temp cl)

/-- One cluster's comparison of R550. -/
def State.regionCheck (s : State) (t cl : Nat) : State :=
  let lim := tget 0 s.power.region cl
  let ceil := s.dget 0x2100 10 cl
  let set := fun (lim : Nat) => ({ s with power := { s.power with
    region := tset 0 s.power.region cl lim, lastRegion := tput s.power.lastRegion cl t } } : State).setCeiling cl
  let s' :=
    if s.hotterBy cl 108 then (if 0 < ceil then (set (min 11 (11 - ceil + 1))).dbump 0x2100 16 0 32 else s)
    else if 0 < lim ∧ !s.hotterBy cl 87 ∧ tget 0 s.power.lastRegion cl + 10000000 ≤ t then set (lim - 1)
    else s
  s'.throttleTime cl t

/-- TEMPERATURE_DIFFERENCE_CHECK: every pair of neighbours (R550). -/
def execTemperatureDifferenceCheck (t : Nat) (s : State) : Host.Outcome State Fault Refusal :=
  .next (if s.powered then (List.range 64).foldl (fun s cl => s.regionCheck t cl) (s.at t) else s)

/-- POWER_FLAGS (R561). -/
def State.powerFlags (s : State) : Nat :=
  b2n (bit (s.dget 0x2100 14) 0) + 2 * b2n (!s.pins.brakeN) + 4 * b2n (!s.power.vinHigh.isEmpty) +
    8 * b2n ((List.range 64).any fun cl => decide (s.dget 0x2100 10 cl < 11)) + 16 * b2n (!s.power.failed.isEmpty)

/-- The counters of time that a cold reset clears count from it on (R561). -/
def State.recount (s : State) : State :=
  { s with power := { s.power with
    brakeCounted := s.uptime, throttledSince := s.power.throttledSince.map fun kv => (kv.1, s.uptime) } }

/-- Basecamp's sample of every rail: RAIL_POWER and MODULE_POWER over 1 ms, which is 100 samples (R541). -/
def State.railSample (s : State) (mw : List Nat) : State :=
  let sums := mw.zipIdx.foldl (fun t p => tset 0 t p.2 (tget 0 t p.2 + p.1)) s.power.sums
  let n := s.power.samples + 1
  if n < 100 then { s with power := { s.power with sums := sums, samples := n } }
  else
    let s := { s with power := { s.power with sums := [], samples := 0 } }
    let s := (List.range 15).foldl (fun s i => s.dset 0x2100 12 i (tget 0 sums i / 100)) s
    s.dset 0x2100 11 0 (((List.range 15).map fun i => tget 0 sums i).foldl (· + ·) 0 / 100 / 1000)

end Sys2Proof.Machine
end

