-- ==== Sys2Proof/Machine/LinkOps.lean ====
section
/-! DEFINITION. Ports and the sending of packets, context epochs and group messages (R473-R478, R481, R488,
R577, R578). -/

namespace Sys2Proof.Machine

/-- SVL_DEVICE_ID. -/
def State.ownDevice (s : State) : Nat := s.dget 0x5000 1

/-- Ports mapped to a device (R477). -/
def State.mappedPorts (s : State) (d : Nat) : List Nat :=
  (List.range 16).filter fun p => bit (s.dget 0x5000 5 d) p

/-- Usable ports of a device, a port fenced for a border move left out (R477, R491). -/
def State.usablePorts (s : State) (d : Nat) : List Nat :=
  (s.mappedPorts d).filter fun p => (s.port p).carries && decide ((s.port p).border = 0)

/-- Every path to a device is fenced, so its packets wait (R491). -/
def State.pathFenced (s : State) (d : Nat) : Bool :=
  (s.usablePorts d).isEmpty && (s.mappedPorts d).any fun p => (s.port p).carries

/-- Virtual channel of a packet type (Table: Packet types). -/
def vcOf (type : Nat) : Nat := if type < 0x20 then 0 else if type < 0x30 then 1 else if type < 0x40 then 2 else 3

/-- Appends a packet to the queue of its virtual channel. -/
def Port.queue (p : Port) (k : Packet) : Port :=
  match vcOf k.type with
  | 0 => { p with vc0 := p.vc0 ++ [k] }
  | 1 => { p with vc1 := p.vc1 ++ [k] }
  | 2 => { p with vc2 := p.vc2 ++ [k] }
  | _ => { p with vc3 := p.vc3 ++ [k] }

/-- Queues a packet on a port, with the source ID of the port. -/
def State.queuePacket (s : State) (p : Nat) (k : Packet) : State :=
  s.setPort p ((s.port p).queue { k with src := (s.port p).ownId })

/-- The context has addressed a device (R488). -/
def State.noteAddressed (s : State) (c d : Nat) : State :=
  { s with links := { s.links with addressed := tins s.links.addressed (c * 4096 + d) } }

/-- The port of a memory packet (R477). -/
def State.portFor (s : State) (d c addr : Nat) : Option Nat :=
  let ps := s.usablePorts d
  let h := mix32 (BitVec.ofNat 32 (bits addr 39 12) ^^^ (BitVec.ofNat 32 c <<< 23))
  ps[h.toNat % ps.length]?

/-- Sends a memory packet, keeps it while its paths are fenced, or answers that the device is unreachable. A packet kept is one
that the context addresses to the device too (R488). -/
def State.sendMemory (s : State) (k : Packet) : State × Bool :=
  match s.portFor k.dst k.ctx k.addr with
  | some p => ((s.noteAddressed k.ctx k.dst).queuePacket p k, true)
  | none =>
    if s.pathFenced k.dst then
      let noted := s.noteAddressed k.ctx k.dst
      ({ noted with links := { noted.links with waiting := noted.links.waiting ++ [k] } }, true)
    else (s, false)

/-- Sends a Control packet on the lowest-numbered usable port; with none it is lost. -/
def State.sendControl (s : State) (k : Packet) : State :=
  match s.usablePorts k.dst with
  | p :: _ => s.queuePacket p k
  | [] => if s.pathFenced k.dst then { s with links := { s.links with waiting := s.links.waiting ++ [k] } } else s

/-! ### Context epochs (R577, R578, R488) -/

def State.epochOf (s : State) (c : Nat) : Nat := if c < 256 then s.cget c 4 5 else s.ctxs.sysEpoch

def State.setEpoch (s : State) (c e : Nat) : State :=
  if c < 256 then s.cset c 4 5 e else { s with ctxs := { s.ctxs with sysEpoch := e } }

/-- e is older than f (R488). -/
def olderEpoch (e f : Nat) : Bool :=
  let d := (f + 65536 - e % 65536) % 65536
  decide (1 ≤ d) && decide (d ≤ 32767)

/-- Devices a context has addressed since its last advance. -/
def State.addressedBy (s : State) (c : Nat) : List Nat :=
  (s.links.addressed.filter fun kv => decide (kv.1 / 4096 = c)).map (·.1 % 4096)

/-- EPOCH_ADVANCE: the context's epoch advances by one and EPOCH goes to the devices it addressed; traffic
issued before is dropped wherever it arrives (R578, R580, R488); acknowledgements of earlier advances are still awaited. What a
command was fetching is asked for again when it goes on. -/
def State.advanceEpoch (s : State) (c : Nat) : State :=
  let e := (s.epochOf c + 1) % 65536
  let ds := s.addressedBy c
  let s := s.setEpoch c e
  let s := ds.foldl (fun s d =>
    s.sendControl { type := 0x45, src := 0, dst := d, ctx := c, epoch := e, length := e }) s
  let other := fun (cmd : Nat) => (s.cmd cmd).any fun d => decide (d.ctx ≠ c)
  { s with links := { s.links with
    fetches := s.links.fetches.filter fun f => other f.cmd
    ends := s.links.ends.filter fun e => other e.cmd
    addressed := tclear s.links.addressed (c * 4096) ((c + 1) * 4096)
    acks := s.links.acks ++ ds.map (⟨c, ·, e⟩)
    requests := s.links.requests.filter fun r => decide (r.ctx ≠ c) } }

/-- Every device that must acknowledge the context's epoch has done so (R579). -/
def State.epochAcked (s : State) (c : Nat) : Bool := !(s.links.acks.any fun a => decide (a.ctx = c))

/-- A quiescence confirmation of a kind begins for a context. -/
def State.beginConfirm (s : State) (kind c : Nat) : State :=
  { s with links := { s.links with confirm := tput s.links.confirm (kind * 512 + c) s.uptime } }

/-- It has ended. -/
def State.endConfirm (s : State) (kind c : Nat) : State :=
  { s with links := { s.links with confirm := terase s.links.confirm (kind * 512 + c) } }

/-! ### Group messages (R481) -/

/-- Sends a group message of a step to a member. -/
def State.groupMessage (s : State) (p : Step) (type status length : Nat) (data : Bytes) (d : Nat) : State :=
  (s.noteAddressed p.ctx d).sendControl
    { type := type, src := 0, dst := d, ctx := p.ctx, epoch := s.epochOf p.ctx
      addr := p.groupId % 2 ^ 32 + p.attempt % 256 * 2 ^ 32, length := length, status := status, data := data }

/-- Members of a step other than this device. -/
def State.others (s : State) (p : Step) : List Nat := p.members.filter fun d => decide (d ≠ s.ownDevice)

/-- Sends a group message to every other member. -/
def State.groupCast (s : State) (p : Step) (type status length : Nat) (data : Bytes) : State :=
  (s.others p).foldl (fun s d => s.groupMessage p type status length data d) s

/-- The step as a reset's ABORT names it: in its current attempt, or, where that one is discarded already by an ABORT, a
replay or a hang search, in the attempt that would follow (R42, R483, log 110). -/
def Step.live (p : Step) : Step :=
  let gone := match p.ending with
    | some (.replay _) => true
    | some (.damaged _) => true
    | some .held => true
    | _ => p.aborted || (p.latched && !p.launched)
  if gone then { p with attempt := p.attempt + 1, readySent := false } else p

/-- ABORT of a step's current attempt, never after its READY (R482). -/
def State.sendAbort (s : State) (p : Step) (status event : Nat) : State :=
  if p.readySent || p.members.isEmpty then s else s.groupCast p 0x41 status event []

end Sys2Proof.Machine
end

