-- ==== Sys2Proof/Machine/Requests.lean ====
section
/-! DEFINITION. Requests to other devices: the cutting, sending and flushing of Remote-window accesses, and what commands and
steps fetch of the Remote window (R473-R477, R497). -/

namespace Sys2Proof.Machine

/-- Pieces of n bytes from an address, cut at aligned windows of w bytes: address and length. -/
def pieces (w : Nat) : Nat → Nat → Nat → List (Nat × Nat)
  | 0, _, _ => []
  | k + 1, a, n =>
    if n = 0 then []
    else
      let m := min n (w - a % w)
      (a, m) :: pieces w k (a + m) (n - m)

/-! ### Perturbed paths of accesses (R308, R618, R619) -/

/-- Directions of the bridge edges that traffic from one die to another crosses: edge and direction (R308). -/
def bridgePath (a b : Nat) : List (Nat × Nat) :=
  if a = b then []
  else if (a + 1) % 4 = b then [(a, 0)]
  else if (b + 1) % 4 = a then [(b, 1)]
  else [(a, 0), ((a + 1) % 4, 0)]

/-- Bytes of a context cross from one die to another in flits of 64 B, each an event of its bridge directions (R308, R618). -/
def State.flits (s : State) (c a b n : Nat) : State :=
  (bridgePath a b).foldl (fun s e => (List.range ((n + 63) / 64)).foldl (fun s _ => (s.perturbed 3 e.1 e.2 c true).1) s) s

/-- An access from outside the slot side to one page is an event of the path it takes: of the slice it reaches, or of its class at the
stack's die, 0 read, 1 write, 2 remote; where a Stream Engine makes it, its flits cross the bridges (R618, R619; log 87). -/
def State.pathEvent (s : State) (unit c va n cls : Nat) : State :=
  let cross := fun (s : State) (die : Nat) =>
    if 1024 ≤ unit then s else if cls = 1 then s.flits c (unit / 256) die n else s.flits c die (unit / 256) n
  match s.place c va (decide (cls = 1)) with
  | .ok (.near a) => cross (s.perturbed 8 (a / 2 ^ 25) 0 c true).1 (a / 2 ^ 33)
  | .ok (.bulk a) => cross (s.perturbed 4 (a / 2 ^ 37) cls c true).1 (a / 2 ^ 37)
  | _ => s

/-- The same of n bytes, 4 KiB by 4 KiB. -/
def State.pathEvents (s : State) (unit c va n cls : Nat) : State :=
  (pieces 4096 (n / 4096 + 2) va n).foldl (fun s x => s.pathEvent unit c x.1 x.2 cls) s

/-- Packets of an access: within 4 KiB windows, and at most 2,048 B on a port of level 1, or where a border move is waited for
and the level of the port is not known (R473, R497; log 47). -/
def State.cut (s : State) (c d a n : Nat) : List (Nat × Nat) :=
  (pieces 4096 (n / 4096 + 2) a n).flatMap fun x =>
    let w := match s.portFor d c x.1 with
      | some p => if (s.port p).level = 1 then 2048 else 4096
      | none => 2048
    pieces w 4 x.1 x.2

/-- A port used for writes to a device, as device * 32 + port; 16 stands for writes that waited for a border move to end. -/
def usedKey (d p : Nat) : Nat := d * 32 + p

/-- Sends one packet to the Remote window of a device: the port used, none when no port leads there (kind 6). -/
def State.sendTo (s : State) (k : Packet) : State × Option Nat :=
  match s.portFor k.dst k.ctx k.addr with
  | some p => ((s.noteAddressed k.ctx k.dst).queuePacket p k, some (usedKey k.dst p))
  | none =>
    let r := s.sendMemory k
    (r.1, if r.2 then some (usedKey k.dst 16) else none)

/-- WRITE packets for bytes at an offset of a device's window: the ports used, and whether all were sent. -/
def State.writeRemote (s : State) (c d : Nat) (poison : Bool) : List (Nat × Nat) → Bytes → State × List Nat × Bool
  | [], _ => (s, [], true)
  | (a, n) :: ps, bs =>
    let k : Packet := { type := 0x30, poison := poison, src := 0, dst := d, ctx := c, epoch := s.epochOf c
                        addr := a, length := n, data := bs.take n }
    match s.sendTo k with
    | (s, none) => (s.cbump c 15 4 32, [], false)
    | (s, some p) =>
      let (s, us, ok) := (s.cbump c 15 2 64 n).writeRemote c d poison ps (bs.drop n)
      (s, p :: us, ok)

/-- Writes bytes to the Remote window of a device (R476). -/
def State.remoteWrite (s : State) (c d off : Nat) (bs : Bytes) : State × List Nat × Bool :=
  s.writeRemote c d false (s.cut c d off bs.length) bs

/-- A request is recorded under a fresh tag. -/
def State.request (s : State) (port d c va n : Nat) (asker : Asker) : State × Nat :=
  let tag := s.links.nextTag
  let r : Request := { tag := tag, port := port, dst := d, ctx := c, epoch := s.epochOf c, va := va, length := n
                       asker := asker }
  ({ s with links := { s.links with nextTag := (tag + 1) % 2 ^ 32, requests := s.links.requests ++ [r] } }, tag)

/-- Takes out the request of a tag. -/
def State.dropRequest (s : State) (tag : Nat) : State :=
  { s with links := { s.links with requests := s.links.requests.filter fun r => decide (r.tag ≠ tag) } }

/-- READ packets for a range of a device's window; the position of each piece goes to its asker. -/
def State.readRemote (s : State) (c d : Nat) (asker : Nat → Asker) (base : Nat) : List (Nat × Nat) → State × Nat × Bool
  | [] => (s, 0, true)
  | (a, n) :: ps =>
    let port := (s.portFor d c a).getD 16
    let (s, tag) := s.request port d c a n (asker (a - base))
    match s.sendTo { type := 0x10, src := 0, dst := d, ctx := c, epoch := s.epochOf c, tag := tag, addr := a, length := n } with
    | (s, none) => ((s.dropRequest tag).cbump c 15 4 32, 0, false)
    | (s, some _) =>
      let (s, k, ok) := s.readRemote c d asker base ps
      (s, k + 1, ok)

/-- Reads n bytes of the Remote window of a device: the number of requests sent, and whether all were. -/
def State.remoteRead (s : State) (c d off n : Nat) (asker : Nat → Asker) : State × Nat × Bool :=
  s.readRemote c d asker off (s.cut c d off n)

/-- A FLUSH can be sent for a used key: its port carries packets, or the writes wait for a border move or have gone out after
it (R491). -/
def State.flushable (s : State) (key : Nat) : Bool :=
  if key % 32 = 16 then s.pathFenced (key / 32) || !(s.usablePorts (key / 32)).isEmpty
  else (s.port (key % 32)).carries || s.pathFenced (key / 32)

/-- n more FLUSHes are awaited by a COPY, or by a command that has written to the Remote window. -/
def State.moreFlushes (s : State) (a : Asker) (n : Nat) : State :=
  match a with
  | .copyFlush id =>
    let add := fun (k : CopyRun) => if k.cmd = id then { k with flushes := k.flushes + n } else k
    { s with ctxs := { s.ctxs with copies := s.ctxs.copies.map add } }
  | .fetchFlush id =>
    let add := fun (e : RemoteEnd) => if e.cmd = id then { e with left := e.left + n } else e
    { s with links := { s.links with ends := s.links.ends.map add } }
  | _ => s

/-- A FLUSH to a device on a port, or, with 16 for the port, one that waits for a border move to end; the context addresses
the device with it (R476, R488, R491). -/
def State.flushOn (s : State) (c d : Nat) (asker : Asker) (p : Nat) : State :=
  let (s, tag) := (s.noteAddressed c d).request p d c 0 0 asker
  let k : Packet := { type := 0x11, src := 0, dst := d, ctx := c, epoch := s.epochOf c, tag := tag }
  if p < 16 then s.queuePacket p k
  else { s with links := { s.links with waiting := s.links.waiting ++ [k] } }

/-- A FLUSH on a port used for writes to a device, or on every usable port where the writes waited for a border move that has
ended; while the port is fenced it waits (R476, R491). -/
def State.flushPort (s : State) (c key : Nat) (asker : Asker) : State :=
  let d := key / 32
  let p := key % 32
  let ps := s.usablePorts d
  if p = 16 ∧ !s.pathFenced d then
    ps.foldl (fun s q => s.flushOn c d asker q) (s.moreFlushes asker (ps.length - 1))
  else if p < 16 ∧ (s.port p).carries ∧ (s.port p).border = 0 then s.flushOn c d asker p
  else s.flushOn c d asker 16

/-- FLUSHes on every port of a list. -/
def State.flushPorts (s : State) (c : Nat) (keys : List Nat) (asker : Asker) : State :=
  keys.foldl (fun s k => s.flushPort c k asker) s

/-- Where the Remote window starts. -/
def remoteBase : Nat := 2 ^ 45

/-- Device and offset of a Remote-window address (R22). -/
def remoteOf (va : Nat) : Nat × Nat := ((va - 2 ^ 45) / 2 ^ 40, va % 2 ^ 40)

/-- The fault of a device that no port leads to, at an address of its window (kind 6). -/
def unreachable (va : Nat) : Miss := { window := 3, kind := 6, va := va }

/-- What a command has fetched of the Remote window at an address. -/
def State.fetchOf (s : State) (cmd va : Nat) : Option Fetch :=
  s.links.fetches.find? fun f => decide (f.cmd = cmd) && decide (f.va = va)

/-- The bytes of a fetch whose READs have all been answered. -/
def Fetch.bytes (f : Fetch) : Bytes := padTo (f.parts.flatMap (·.2)) f.length

/-- READs go out for n bytes of the Remote window that a command reads; with no port that leads there the fetch has failed
(kind 6). -/
def State.ask (s : State) (c cmd va n : Nat) : State :=
  match s.fetchOf cmd va with
  | some _ => s
  | none =>
    let (d, off) := remoteOf va
    match s.remoteRead c d off n fun rel => .fetch cmd va rel with
    | (s, k, ok) =>
      let f : Fetch := { cmd := cmd, va := va, length := n, left := if ok then k else 0
                         failed := if ok then none else some (0, 6) }
      { s with links := { s.links with fetches := s.links.fetches ++ [f] } }

/-- What a fetched range of the Remote window answers; none while it has not been fetched. -/
def State.fetched (s : State) (cmd va : Nat) : Option (Access Bytes) :=
  match s.fetchOf cmd va with
  | none => none
  | some f =>
    if f.left ≠ 0 then none
    else match f.failed with
      | some (off, 0) => some (.damaged (va + off))
      | some (off, k) => some (.miss { window := 3, kind := k, va := va + off })
      | none => some (.ok f.bytes)

end Sys2Proof.Machine
end

