-- ==== Sys2Proof/Machine/Array.lean ====
section
/-! DEFINITION. Route images, staging, residence, activation, steps as records, and the request of a Rappel
(R167-R180, R195-R201, R639). -/

namespace Sys2Proof.Machine

/-! ### Fields of a Route image (R171-R175) -/

def clustersOf (fp : BitVec 64) : List Nat := (List.range 64).filter fun i => fp.getLsbD i

/-- Number of clusters of a footprint. -/
def clusterCount (fp : BitVec 64) : Nat := (clustersOf fp).length

def overlaps (a b : BitVec 64) : Bool := decide (a &&& b ≠ 0)

def imgId (b : Bytes) : Nat := field b 8 4
def imgSize (b : Bytes) : Nat := field b 12 4
def imgFeature (b : Bytes) : Nat := field b 6 2
def imgFootprint (b : Bytes) : BitVec 64 := BitVec.ofNat 64 (field b 16 8)
def imgCount (b : Bytes) : Nat := field b 24 2
def imgDrain (b : Bytes) : Nat := field b 26 2

/-- Entries of the directory: one for each cluster of FOOTPRINT (R171). -/
def imgEntries (b : Bytes) : Nat := (clustersOf (imgFootprint b)).length

/-- Directory entries: cluster, offset, size. -/
def imgDir (b : Bytes) : List (Nat × Nat × Nat) :=
  (List.range (imgEntries b)).map fun i =>
    (byteAt b (256 + 16 * i), field b (256 + 16 * i + 4) 4, field b (256 + 16 * i + 8) 4)

/-- Offset of a cluster's section in the image. -/
def sectionAt (b : Bytes) (cl : Nat) : Option Nat := ((imgDir b).find? fun e => decide (e.1 = cl)).map (·.2.1)

/-! Cluster part at offset o. -/
def roundII (b : Bytes) (o : Nat) : Nat := field b o 2
def roundLen (b : Bytes) (o : Nat) : Nat := field b (o + 2) 2
def leadOf (b : Bytes) (o : Nat) : Nat := byteAt b (o + 4)
def ingressCount (b : Bytes) (o : Nat) : Nat := byteAt b (o + 5)
def egressCount (b : Bytes) (o : Nat) : Nat := byteAt b (o + 6)
def switchEntries (b : Bytes) (o : Nat) : Nat := field b (o + 8) 2
def ingressAt (b : Bytes) (o i : Nat) : Nat := o + field b (o + 10) 2 + 16 * i
def egressAt (b : Bytes) (o i : Nat) : Nat := o + field b (o + 12) 2 + 16 * i
def switchAt (b : Bytes) (o i : Nat) : Nat := o + field b (o + 14) 2 + 32 * i

/-- Core section c of the cluster section at o: its offset, none when the core is idle. -/
def coreAt (b : Bytes) (o c : Nat) : Option Nat :=
  if field b (o + 128 + 8 * c + 4) 4 = 0 then none else some (o + field b (o + 128 + 8 * c) 4)

/-! Core section at offset k. -/
def slotWheel (b : Bytes) (k : Nat) : Nat := field b k 4
def meOps (b : Bytes) (k : Nat) : Nat := byteAt b (k + 4)
def normOps (b : Bytes) (k : Nat) : Nat := byteAt b (k + 5)
def steerSlots (b : Bytes) (k : Nat) : Nat := byteAt b (k + 6)
def veEntries (b : Bytes) (k : Nat) : Nat := field b (k + 8) 2
def streamBytes (b : Bytes) (k : Nat) : Nat := field b (k + 10) 2
def preloadBytes (b : Bytes) (k : Nat) : Nat := field b (k + 12) 4
def preloadAddr (b : Bytes) (k : Nat) : Nat := field b (k + 16) 4
/-- Area j of the core section: ME, NORM, steering, VE, streams, preload. -/
def areaAt (b : Bytes) (k j : Nat) : Nat := k + field b (k + 20 + 2 * j) 2
def meAt (b : Bytes) (k i : Nat) : Nat := areaAt b k 0 + 64 * i
def normAt (b : Bytes) (k i : Nat) : Nat := areaAt b k 1 + 32 * i
def steerAt (b : Bytes) (k i : Nat) : Nat := areaAt b k 2 + 16 * i
def veAt (b : Bytes) (k i : Nat) : Nat := areaAt b k 3 + 16 * i

/-- Cores that an image uses, as (global core ID, offset of the core section), in ascending ID. -/
def imgCores (b : Bytes) : List (Nat × Nat) :=
  (clustersOf (imgFootprint b)).flatMap fun cl =>
    match sectionAt b cl with
    | none => []
    | some o => (List.range 16).filterMap fun c => (coreAt b o c).map fun k => (cl * 16 + c, k)

/-! ### Steps as records -/

def State.step? (s : State) (id : Nat) : Option Step := s.steps.find? fun p => decide (p.cmd = id)

def State.setStep (s : State) (p : Step) : State :=
  { s with steps := s.steps.map fun q => if q.cmd = p.cmd then p else q }

def State.dropStep (s : State) (id : Nat) : State :=
  { s with steps := s.steps.filter fun p => decide (p.cmd ≠ id) }

/-- A step that executes: launched and not past the end of its execution on this device. -/
def Step.executing (p : Step) : Bool := p.launched

/-- The step that executes on a cluster. -/
def State.stepAt (s : State) (cl : Nat) : Option Step :=
  s.steps.find? fun p => p.launched && p.footprint.getLsbD cl

/-- A step executes on a footprint. -/
def State.busy (s : State) (fp : BitVec 64) : Bool := s.steps.any fun p => p.launched && overlaps p.footprint fp

/-! ### Residence and staging (R167, R178) -/

/-- The Route resident in a cluster. -/
def State.resident (s : State) (cl : Nat) : Option Route :=
  s.array.routes.find? fun r => !r.parked && r.footprint.getLsbD cl

/-- A Route of a context, resident or parked. -/
def State.routeOf (s : State) (c id : Nat) : Option Route :=
  s.array.routes.find? fun r => decide (r.ctx = c) && decide (r.id = id)

/-- An image of a context held by every cluster of its footprint (R178). -/
def State.stagedImage (s : State) (c id : Nat) : Option Staged :=
  s.array.staged.find? fun g => decide (g.ctx = c) && decide (g.id = id) &&
    (clustersOf g.footprint).all fun cl => thas g.rank cl

/-- The image is that of the Route resident in the cluster. -/
def State.isResident (s : State) (g : Staged) (cl : Nat) : Bool :=
  match s.resident cl with
  | some r => decide (r.ctx = g.ctx) && decide (r.id = g.id)
  | none => false

/-- The image that a cluster discards first: least recently activated there, then first staged (R178). -/
def oldest (cl : Nat) : List Staged → Option Staged
  | [] => none
  | g :: gs => match oldest cl gs with
    | none => some g
    | some h => if tget 0 h.rank cl < tget 0 g.rank cl then some h else some g

/-- Takes an image out of a cluster's staging area. -/
def State.discardIn (s : State) (c id cl : Nat) : State :=
  let gs := s.array.staged.map fun g =>
    if g.ctx = c ∧ g.id = id then { g with rank := terase g.rank cl } else g
  { s with array := { s.array with staged := gs.filter fun g => !g.rank.isEmpty } }

/-- A cluster keeps 11 staged images beside the resident Route's. -/
def State.trimStage (s : State) (cl : Nat) : State :=
  let gs := s.array.staged.filter fun g => thas g.rank cl && !s.isResident g cl
  if gs.length ≤ 11 then s
  else match oldest cl gs with
    | none => s
    | some g => s.discardIn g.ctx g.id cl

/-- Clusters whose Route is resident no more keep its image as one of their staged images. -/
def State.trimStages (s : State) (fp : BitVec 64) : State := (clustersOf fp).foldl State.trimStage s

/-- The lines of route staging to which the image staged last in a cluster is written lose their poison (R221). -/
def State.cleanStage (s : State) (cl : Nat) : State :=
  let n := (s.array.staged.filter fun g => thas g.rank cl).length
  { s with near := { s.near with poison := s.near.poison.filter fun kv =>
      !(decide (kv.1 / 32768 % 32 = 30) && decide (prnCluster (kv.1 / 32768) = cl) &&
        decide (Config.stagedLine (kv.1 / 32768) (kv.1 % 32768) n = some (n - 1))) } }

/-- Stages an image in every cluster of its footprint. -/
def State.stageImage (s : State) (c id : Nat) (fp : BitVec 64) (address : Nat) (bytes : Bytes) : State :=
  let k := s.array.rankClock
  let g : Staged := { id := id, ctx := c, footprint := fp, address := address, bytes := bytes
                      rank := (clustersOf fp).map fun cl => (cl, k) }
  let rest := s.array.staged.filter fun h => !(decide (h.ctx = c) && decide (h.id = id))
  let s := ({ s with array := { s.array with staged := rest ++ [g], rankClock := k + 1 } } : State).trimStages fp
  (clustersOf fp).foldl State.cleanStage s

/-- Footprint of a Route of a context, known while it is resident, parked, staged or being loaded. -/
def State.routeFootprint (s : State) (c id : Nat) : Option (BitVec 64) :=
  match s.routeOf c id with
  | some r => some r.footprint
  | none => match s.stagedImage c id with
    | some g => some g.footprint
    | none => (s.array.loads.find? fun l => decide (l.ctx = c) && decide (l.id = id)).map (·.footprint)

/-! ### Launch values (R195, R199) -/

/-- Takes a Route out of residence or parking. -/
def State.evictRoute (s : State) (c id : Nat) : State :=
  let fp := ((s.routeOf c id).map (·.footprint)).getD 0
  ({ s with array := { s.array with routes := s.array.routes.filter fun r =>
    !(decide (r.ctx = c) && decide (r.id = id)) } } : State).trimStages fp

/-- Takes out the entries of a table whose key, divided, lies in a footprint. -/
def clearKeys (t : Tab α) (fp : BitVec 64) (n : Nat) : Tab α := t.filter fun kv => !fp.getLsbD (kv.1 / n)

/-- The requests for which the gate of a cluster waited are there, or its step has a halted stream: the time is noted in the step
that runs there (R390). -/
def State.endWait (s : State) (cl : Nat) : State :=
  let k := tget {} s.array.clusters cl
  match k.requestSince with
  | none => s
  | some t =>
    let time := fun (p : Step) => if p.launched && p.footprint.getLsbD cl then
      { p with interfereNs := p.interfereNs + (s.uptime - t) } else p
    { s with steps := s.steps.map time
             array := { s.array with clusters := tset {} s.array.clusters cl { k with requestSince := none } } }

/-- From now on requests keep a frozen cluster waiting (R390). -/
def State.startWait (s : State) (cl : Nat) : State :=
  let k := tget {} s.array.clusters cl
  if k.frozen && k.requestSince.isNone then
    { s with array := { s.array with clusters := tset {} s.array.clusters cl { k with requestSince := some s.uptime } } }
  else s

/-- A cluster's freeze ends: its cycles, whose number is a free value, are counted (R182, R201, R390). -/
def State.countFreeze (s : State) (cl : Nat) : State :=
  if (tget {} s.array.clusters cl).frozen then
    ({ s with free := s.free + 1 } : State).endWait cl |>.dbump 0x3050 3 cl 64 (Config.freeValue s.free).toNat
  else s

/-- Rounds, tags, credits, engines and streams of a footprint return to launch values; progress counters, the passes that a step
has started and the marks of the data in the slices are kept (R114, R130, R199, R582). -/
def State.clearFootprint (s : State) (fp : BitVec 64) : State :=
  let s := (clustersOf fp).foldl State.countFreeze s
  let keep := fun (k : Core) => ({ passes := k.passes, progress := k.progress, moved := k.moved, marks := k.marks } : Core)
  let cores := s.array.cores.map fun kv => if fp.getLsbD (kv.1 / 16) then (kv.1, keep kv.2) else kv
  { s with array := { s.array with
    clusters := clearKeys s.array.clusters fp 1
    cores := cores.filter fun kv => decide (kv.2 ≠ {})
    streams := clearKeys s.array.streams fp 512 } }

/-- Iteration counters and CARRY state of the cores of a footprint. -/
def State.steering (s : State) (fp : BitVec 64) : Tab (Tab Nat × Tab Nat) :=
  (s.array.cores.filter fun kv => fp.getLsbD (kv.1 / 16) && (!kv.2.iters.isEmpty || !kv.2.carry.isEmpty)).map fun kv =>
    (kv.1, (kv.2.iters, kv.2.carry))

/-- The cores of a footprint at the values with which a step launches: no pass of it has started (R114) and nothing in their
slices is marked (R130), iteration counters and CARRY state as they stood at its first launch (R165, R166), everything else
cleared (R34, R195). -/
def State.launchFootprint (s : State) (fp : BitVec 64) (steer : Tab (Tab Nat × Tab Nat)) : State :=
  let s := s.clearFootprint fp
  let fresh := fun (kv : Nat × Core) => if fp.getLsbD (kv.1 / 16) then (kv.1, { kv.2 with passes := [], marks := [] }) else kv
  let cores := (s.array.cores.map fresh).filter fun kv => decide (kv.2 ≠ {})
  { s with array := { s.array with cores := steer.foldl (fun t kv =>
      tset {} t kv.1 { tget {} t kv.1 with iters := kv.2.1, carry := kv.2.2 }) cores } }

/-- Powers a cluster up, or finds it On (R83, R545). -/
def State.powerCluster (s : State) (cl : Nat) : State :=
  if s.domain cl = 2 then s.worked cl else (s.powerOn cl).resupply

/-! ### Activation (R176 step 5, R639) -/

/-- Preload ranges of an image: core, slice offset, bytes. -/
def preloads (b : Bytes) : List (Nat × Nat × Bytes) :=
  (imgCores b).map fun ck => (ck.1, preloadAddr b ck.2, slice b (areaAt b ck.2 5) (preloadBytes b ck.2))

/-- The first preload byte that a write of the context would not reach: core and slice offset. -/
def State.preloadFails (s : State) (c : Nat) (b : Bytes) : Option (Nat × Nat) :=
  (preloads b).findSome? fun p => (s.sliceFails c p.1 true p.2.1 p.2.2.length).map fun off => (p.1, off)

/-- Copies of the resident Route that R221 marked lost stay so until the Route is loaded again (R178). -/
def State.lostCopies (s : State) (c id : Nat) : Tab Unit := ((s.routeOf c id).map (·.lost)).getD []

/-- Footprints of the Routes that an activation on a footprint ends, as a mask. -/
def State.replaced (s : State) (c id : Nat) (fp : BitVec 64) : BitVec 64 :=
  (s.array.routes.filter fun r => (!r.parked && overlaps r.footprint fp) || (decide (r.ctx = c) && decide (r.id = id))).foldl
    (fun m r => m ||| r.footprint) 0

/-- A preload is copied into a slice: its bytes are not marked (R130, R639). -/
def State.preload (s : State) (c core off : Nat) (b : Bytes) : State :=
  let s := s.sliceWrite c none core off b
  let k := tget {} s.array.cores core
  { s with array := { s.array with
    cores := tset {} s.array.cores core { k with marks := tclear k.marks off (off + b.length) } } }

/-- Activates an image on its footprint: Routes on its clusters end, preloads are copied, the launch values
are set. -/
def State.activate (s : State) (c id image : Nat) (fp : BitVec 64) (bytes : Bytes) : State :=
  let old := s.replaced c id fp
  let rs := s.array.routes.filter fun r =>
    !((!r.parked && overlaps r.footprint fp) || (decide (r.ctx = c) && decide (r.id = id)))
  let r : Route := { id := id, ctx := c, footprint := fp, image := image, bytes := bytes, lost := s.lostCopies c id }
  let k := s.array.rankClock
  let gs := s.array.staged.map fun g => if g.ctx = c ∧ g.id = id then
    { g with rank := g.rank.map fun kv => (kv.1, k) } else g
  let s := { s with array := { s.array with routes := rs ++ [r], staged := gs, rankClock := k + 1 } }
  let s := (clustersOf fp).foldl State.powerCluster ((s.trimStages old).clearFootprint fp)
  let s := (preloads bytes).foldl (fun s p => s.preload c p.1 p.2.1 p.2.2) s
  s.cbump c 7 1 64

/-! ### Rappel requests (R197, R200) -/

/-- A Rappel stops the cluster. -/
def State.stopped (s : State) (cl : Nat) : Bool := s.array.rappels.any fun r => r.footprint.getLsbD cl

/-- Requests a Rappel; a second request for the same footprint joins the running one. -/
def State.rappel (s : State) (fp : BitVec 64) (c : Nat) (why : Purpose) : State :=
  if s.array.rappels.any fun r => decide (r.footprint = fp) then
    { s with array := { s.array with rappels := s.array.rappels.map fun r =>
      if r.footprint = fp ∧ !r.purposes.contains why then { r with purposes := r.purposes ++ [why] } else r } }
  else
    let r : Rappel := { footprint := fp, ctx := c, purposes := [why], start := s.uptime }
    { s with array := { s.array with rappels := s.array.rappels ++ [r] } }.cbump c 7 2 64

/-- A step fails before its commit point: it is drained, and settled at quiescence. After its READY, or once
committed, it stands (R39, R482). -/
def State.failStep (s : State) (p : Step) (e : Ending) (why : Purpose) : State :=
  if p.readySent || p.committed || !p.launched then s
  else match p.ending with
    | some _ => s
    | none => (s.setStep { p with ending := some e }).rappel p.footprint p.ctx why

/-- A failure that step replay absorbs: a group step raises ABORT with status 0 (R41, R482). -/
def State.replayStep (s : State) (p : Step) (event : Nat) : State :=
  if p.ending.isSome then s
  else (if p.launched then s.sendAbort p 0 event else s).failStep p (.replay event) (.replay p.cmd)

/-- A failure that ends the step with a status, for every member of a group (R483). -/
def State.endStep (s : State) (p : Step) (code : Nat) (value : BitVec 64) : State :=
  if p.ending.isSome then s
  else (if p.launched then s.sendAbort p code 0 else s).failStep p (.status code value) (.finish p.cmd)

end Sys2Proof.Machine
end

