-- ==== Sys2Proof/Machine/Contexts.lean ====
section
/-! DEFINITION. Engine time, shares, the pool grant, context switches and accounting epochs (R362-R393). -/

namespace Sys2Proof.Machine

/-! ### Accounts (R380, R381) -/

def State.account (s : State) (c : Nat) : Account := tget {} s.ctxs.accounts c

def State.setAccount (s : State) (c : Nat) (a : Account) : State :=
  { s with ctxs := { s.ctxs with accounts := tset {} s.ctxs.accounts c a } }

/-- Reports a context's sums in whole core-µs. -/
def State.report (s : State) (c : Nat) : State :=
  let a := s.account c
  ((((s.cput c 2 1 64 (a.usage / 1000)).cput c 2 2 64 (a.poolUsage / 1000)).cput c 2 4 64 (a.total / 1000)).cput
    c 2 5 64 (a.switchCharge / 1000)).cput c 2 6 64 (a.replay / 1000)

/-- Charges core-ns to a context. -/
def State.charge (s : State) (c ns : Nat) (pooled : Bool) : State :=
  if c < 256 then
    let a := s.account c
    (s.setAccount c { a with usage := a.usage + ns, total := a.total + ns
                             poolUsage := if pooled then a.poolUsage + ns else a.poolUsage }).report c
  else
    let n := s.ctxs.sysNs + ns
    { s with ctxs := { s.ctxs with sysNs := n } }.dput 0x2300 6 0 64 (n / 1000)

/-- Counts time that replay discarded (R380). -/
def State.chargeReplay (s : State) (c ns : Nat) : State :=
  if c < 256 then
    let a := s.account c
    (s.setAccount c { a with replay := a.replay + ns }).report c
  else s

/-- Charge of a footprint for a time in ns, in core-ns: 16 cores a cluster. -/
def chargeOf (fp : BitVec 64) (ns : Nat) : Nat := 16 * clusterCount fp * ns

/-- The pool a footprint lies in (R367). -/
def State.poolOfFootprint (s : State) (fp : BitVec 64) : Option Nat :=
  match clustersOf fp with
  | cl :: _ => s.poolOf cl
  | [] => none

/-! ### What a loop's next step waits for (R30, R376, R417, R418) -/

def State.lane (s : State) (c l : Nat) : Lane := tget {} s.serve.lanes (c * 8 + l)

def Lane.side (l : Lane) (n : Nat) : LaneSide := if n = 0 then l.side0 else l.side1

/-- The lane that a loop is attached to, and its role (R417). -/
def State.loopLane (s : State) (g : Nat) : Option (Nat × Nat) :=
  let v := s.dget 0x2A00 4 g
  if v = 0xFF ∨ 255 < (s.ring g).ctx.toNat then none else some (v % 8, bits v 5 4)

/-- A LAUNCH_STEP of the ring fetched before this one is still in flight (R30). -/
def State.loopBusy (s : State) (c : Cmd) : Bool :=
  (s.cmds.takeWhile fun d => decide (d.id ≠ c.id)).any fun d => decide (d.ring = c.ring) && decide (d.op = 1)

/-- The launch condition of the loop holds. -/
def State.launchHolds (s : State) (c : Cmd) : Bool :=
  let l := s.loopOf c.ring
  match l.launch.toNat with
  | 0 => true
  | 1 => !l.pend.isEmpty
  | _ => decide (l.chainTarget ≤ s.counter l.chainCounter.toNat)

/-- Route of a phase entry against a lane side: a lane route reference names an entry of the side (R418). -/
def resolveRoute (side : Option LaneSide) (r : Nat) : Nat :=
  if 0xFFFFFF00 ≤ r ∧ r < 0xFFFFFF08 then
    match side with
    | some v => v.routes.getD (r - 0xFFFFFF00) 0
    | none => 0
  else r

/-- The side on which a step of a loop would be admitted now (R419). -/
def State.admission (s : State) (c g : Nat) : Option (Nat × Lane) :=
  (s.loopLane g).map fun x => (x.1, s.lane c x.1)

/-- Footprint of a command's first phase, as far as it is known. -/
def State.firstFootprint (s : State) (c : Cmd) : BitVec 64 :=
  let side := (s.admission c.ctx c.ring).map fun x => x.2.side x.2.active
  (s.routeFootprint c.ctx (resolveRoute side (c.at 32 4))).getD 0

/-! ### The grant (R370, R382, R383) -/

/-- A queued LAUNCH_STEP whose step is ready by the two conditions of R376: it becomes ready in its own row, at this
moment of R376. -/
def State.aboutReady (s : State) (d : Cmd) : Bool :=
  decide (d.op = 1) && decide (d.stage = .queued) && !s.loopBusy d && s.launchHolds d

/-- A ready step of a context that lies on a pool. -/
def State.readyOn (s : State) (c p : Nat) : Bool :=
  !thas s.ctxs.held c &&
    ((s.steps.any fun q => decide (q.ctx = c) && !q.launched && decide (s.poolOfFootprint q.footprint = some p)) ||
      s.cmds.any fun d => decide (d.ctx = c) && s.aboutReady d && decide (s.poolOfFootprint (s.firstFootprint d) = some p))

/-- A context waits for the grant of its pool: with a command that waits for it, a LOAD_ROUTE on the pool that stands in its place
among the loads, or a ready step (R180, R370). -/
def State.waitsFor (s : State) (c p : Nat) : Bool :=
  (s.cmds.any fun d => decide (d.ctx = c) && decide (d.stage = .grant)) ||
  (s.array.loads.any fun l => decide (l.ctx = c) && !l.draining && decide (s.poolOfFootprint l.footprint = some p)) || s.readyOn c p

/-- Contexts attached to a pool, in ascending number. -/
def State.attachedTo (s : State) (p : Nat) : List Nat :=
  (List.range 256).filter fun c => decide (s.attached c = some p)

/-- The holder has a step, or a command of the kinds that wait for the grant, in execution on the pool (R370, R382). -/
def State.holderBusy (s : State) (c p : Nat) : Bool :=
  (s.steps.any fun q => decide (q.ctx = c) && q.launched && decide (s.poolOfFootprint q.footprint = some p)) ||
  s.cmds.any fun d => decide (d.ctx = c) && d.waited && decide (d.stage ≠ .grant)

/-- Weighted usage V (R383). -/
def State.weighted (s : State) (c : Nat) : Nat :=
  (s.account c).poolUsage / 1000 * 65536 / max 1 (s.cget c 1 2)

/-- The member of a list with the least V, the lowest number first. -/
def State.leastOwed (s : State) : List Nat → Option Nat
  | [] => none
  | c :: cs => match s.leastOwed cs with
    | none => some c
    | some d => if s.weighted d < s.weighted c then some d else some c

/-- The pool entries of a context are invalidated in every translation cache (R386). -/
def State.dropPoolEntries (s : State) (p c : Nat) : State :=
  let gone := fun (k : Nat) => decide (k / 65536 = c) && (tfind s.near.map k).any fun e => decide (s.prnPool e.prn = some p)
  { s with bulk := { s.bulk with regionCache := s.bulk.regionCache.map fun kv => (kv.1, kv.2.filter fun k => !gone k) } }

/-- A context switch begins: the grant moves, the pool entries of both contexts leave the translation caches, and the
outgoing Routes on the pool are drained to be parked (R383, R386). -/
def State.startSwitch (s : State) (p w : Nat) : State :=
  let out := s.holder p
  let mark := fun (q : Step) =>
    if decide (some q.ctx = out) && !q.launched && decide (s.poolOfFootprint q.footprint = some p) &&
      q.grantSince.isNone then { q with grantSince := some s.uptime } else q
  let s := { s with
    ctxs := { s.ctxs with switches := tput s.ctxs.switches p ⟨out, w, s.uptime⟩ }
    steps := s.steps.map mark }
  let s := (((s.dset 0x2300 4 p w).dbump 0x2300 5 p 32).cbump w 2 7 32).dropPoolEntries p w
  match out with
  | none => s
  | some o => (s.array.routes.filter fun r => !r.parked && decide (r.ctx = o) &&
      decide (s.poolOfFootprint r.footprint = some p)).foldl (fun s r => s.rappel r.footprint o (.switch p)) (s.dropPoolEntries p o)

/-- The context to which a decision moves the grant of a pool, none when it stays (R383). -/
def State.decision (s : State) (p : Nat) : Option Nat :=
  let h := s.holder p
  let ws := (s.attachedTo p).filter fun c => decide (some c ≠ h) && s.waitsFor c p && !s.fenced c
  match s.leastOwed ws with
  | none => none
  | some w => match h with
    | none => some w
    | some c =>
      if !s.waitsFor c p then some w
      else if s.weighted c ≤ s.weighted w + s.dget 0x2300 3 p then none
      else some w

/-- A grant decision, at the moments of R382: no switch is in progress and the holder executes nothing. -/
def State.grantDecision (s : State) (p : Nat) : State :=
  if thas s.ctxs.switches p || ((s.holder p).any fun c => s.holderBusy c p) then s
  else match s.decision p with
    | some w => s.startSwitch p w
    | none => s

/-- A decision for the pool of a context, where it is attached. -/
def State.decideGrantOf (s : State) (c : Nat) : State :=
  match s.attached c with
  | some p => s.grantDecision p
  | none => s

/-! ### Shares (R384) -/

/-- A switch of a pool is in progress from or to the context. -/
def State.switchingWith (s : State) (c : Nat) : Bool :=
  s.ctxs.switches.any fun kv => decide (kv.2.incoming = c) || decide (kv.2.outgoing = some c)

/-- A write of SHARE: SHARE_ACTIVE follows at once, at the end of the step, of the first one after a switch that the
context is in, or at the next epoch (R384, R385). -/
def State.writeShare (s : State) (c v : Nat) : State :=
  let s := s.cset c 1 1 v
  let a := s.account c
  let holds := match s.attached c with | some p => decide (s.holder p = some c) | none => false
  if s.steps.any (fun q => decide (q.ctx = c) && q.launched) || s.switchingWith c then
    s.setAccount c { a with shareDue := some v, shareAtStep := true }
  else if holds then (s.setAccount c { a with shareDue := none, shareAtStep := false }).cset c 1 2 v
  else s.setAccount c { a with shareDue := some v, shareAtStep := false }

/-- A share change due at the end of a step of the context takes effect. -/
def State.shareAtStepEnd (s : State) (c : Nat) : State :=
  let a := s.account c
  match a.shareDue, a.shareAtStep with
  | some v, true => (s.setAccount c { a with shareDue := none, shareAtStep := false }).cset c 1 2 v
  | _, _ => s

/-! ### Accounting epochs (R381, R391) -/

/-- One context's values when an epoch ends. -/
def State.endEpochOf (s : State) (c : Nat) : State :=
  let a := s.account c
  let s := (s.cput c 2 3 64 (a.usage / 1000)).cput c 3 1 32 (if a.sumB = 0 then 1024 else 1024 * a.sumT / a.sumB)
  let s := s.cput c 3 2 32 (if a.sumB = 0 then 1024 else a.maxSlow)
  let s := (s.cput c 3 3 64 (a.sumWg / 1000)).cput c 3 4 64 (a.sumWi / 1000)
  let due := if a.shareAtStep then none else a.shareDue
  let s := match due with | some v => s.cset c 1 2 v | none => s
  (s.setAccount c { a with usage := 0, poolUsage := 0, sumT := 0, sumB := 0, sumWg := 0, sumWi := 0, maxSlow := 0
                           shareDue := if a.shareAtStep then a.shareDue else none }).report c

/-- EPOCH_END: at a tick whose number is a multiple of ACCT_EPOCH, once. -/
def execEpochEnd (t : Nat) (s : State) : Host.Outcome State Fault Refusal :=
  .next (
    if s.serving && s.cdu.ticked && decide (s.cdu.tick % s.dget 0x2300 2 = 0) &&
        decide (s.cdu.epochTick ≠ some s.cdu.tick) then
      let s := s.at t
      let s := { s with cdu := { s.cdu with epochTick := some s.cdu.tick }, ctxs := { s.ctxs with epochEnded := true } }
      (List.range 256).foldl State.endEpochOf s
    else s)

/-! ### Times of a step on a pool (R390) -/

/-- Time a ready step has waited for the grant, up to an uptime. -/
def Step.settleGrant (p : Step) (t : Nat) : Step :=
  match p.grantSince with
  | some t0 => { p with grantNs := p.grantNs + (t - t0), grantSince := none }
  | none => p

/-! ### Context switch (R371, R372, R386, R387, R389) -/

/-- Allocatable regions of a pool in ascending PRN, with their numbers i (R372). -/
def State.poolRegions (s : State) (p : Nat) : List (Nat × Nat) :=
  (((List.range 64).filter fun cl => decide (s.poolOf cl = some p)).flatMap fun cl =>
    (List.range 512).filterMap fun j => if j % 32 < 30 then some (cl * 512 + j) else none).zipIdx

/-- Number of regions of a pool. -/
def State.poolSize (s : State) (p : Nat) : Nat :=
  480 * ((List.range 64).filter fun cl => decide (s.poolOf cl = some p)).length

/-- BIVOUAC_BYTES of a context. -/
def State.bivouacBytes (s : State) (c : Nat) : Nat :=
  match s.attached c with
  | some p => s.poolSize p * 1052672
  | none => 0

def State.bivouacBit (s : State) (c prn : Nat) : Nat := tget 0 s.near.bivouac (c * 32768 + prn)

def State.setBivouac (s : State) (c prn v : Nat) : State :=
  { s with near := { s.near with bivouac := tset 0 s.near.bivouac (c * 32768 + prn) v } }

/-- The context's region map names a region, or named it in the entry that NM_MAP is changing (R210). -/
def State.maps (s : State) (c prn : Nat) : Bool :=
  !(s.entriesOf c prn).isEmpty || s.near.op.any fun op => decide (op.ctx = c) && decide (op.oldPrn = prn)

/-- Poison bitmap of a region, 4,096 bytes. -/
def State.poisonBitmap (s : State) (prn : Nat) : Bytes :=
  (List.range 4096).map fun i => BitVec.ofNat 8
    (((List.range 8).map fun j => if thas s.near.poison (prn * 32768 + i * 8 + j) then 2 ^ j else 0).foldl (· + ·) 0)

/-- Writes a part of a saved region; the address of a failing write. -/
def State.saveBytes (s : State) (va : Nat) (bs : Bytes) : State × Option Nat :=
  ((s.writes 256 none va bs).1, (s.writes 256 none va bs).2.map (·.va))

/-- A region is saved once its bytes and then its poison bitmap are written. -/
def regionSaved (c prn : Nat) (r : State × Option Nat) : State × Option Nat :=
  if r.2.isSome then r else (r.1.setBivouac c prn 2, none)

def bitmapSaved (c p prn i : Nat) (r : State × Option Nat) : State × Option Nat :=
  if r.2.isSome then r
  else regionSaved c prn (r.1.saveBytes (r.1.cget c 1 4 + r.1.poolSize p * 2 ^ 20 + i * 4096) (r.1.poisonBitmap prn))

/-- Saves a region of a pool into the Bivouac area of a context; the address of a failing write. -/
def State.saveRegion (s : State) (c p prn i : Nat) : State × Option Nat :=
  bitmapSaved c p prn i (s.saveBytes (s.cget c 1 4 + i * 2 ^ 20) (memReads s.near.mem (prn * 2 ^ 20) (2 ^ 20)))

/-- Bytes of SYS's Bulk window with the damage of each 64 B line; a translation fault's address otherwise. -/
def State.readMarked (s : State) (va : Nat) : Nat → Except Nat (List (Byte × Bool))
  | 0 => .ok []
  | n + 1 => match s.place 256 va false with
    | .ok p =>
      let r := match s.placeByte va p with
        | .ok b => (b, false)
        | _ => ((0 : Byte), true)
      match s.readMarked (va + 1) n with
      | .ok bs => .ok (r :: bs)
      | .error a => .error a
    | _ => .error va

/-- Bits of a bitmap that are 1, from a number on. -/
def setBits (k : Nat) : List (Byte × Bool) → List Nat
  | [] => []
  | b :: bs => ((List.range 8).filter fun j => b.2 || b.1.getLsbD j).map (k + ·) ++ setBits (k + 8) bs

/-- What a region and its poison bitmap read back as, put in place of it: a damaged line comes back poisoned. -/
def State.restored (s : State) (c prn : Nat) : Except Nat (List (Byte × Bool)) → Except Nat (List (Byte × Bool)) →
    State × Option Nat
  | .ok bs, .ok marks =>
    let bytes := bs.map fun (b : Byte × Bool) => b.1
    let bad := bs.zipIdx.filter fun (x : (Byte × Bool) × Nat) => x.1.2
    let lines := setBits 0 marks ++ bad.map fun (x : (Byte × Bool) × Nat) => x.2 / 32
    let s := { s with near := { s.near with
      mem := memWrites (tclear s.near.mem (prn * 2 ^ 20) ((prn + 1) * 2 ^ 20)) (prn * 2 ^ 20) bytes
      poison := lines.foldl (fun t l => tins t (prn * 32768 + l))
        (tclear s.near.poison (prn * 32768) ((prn + 1) * 32768)) } }
    (s.setBivouac c prn 2, none)
  | .error a, _ => (s, some a)
  | _, .error a => (s, some a)

/-- Restores a region in whole with its poison marks. -/
def State.restoreRegion (s : State) (c p prn i : Nat) : State × Option Nat :=
  let data := s.cget c 1 4 + i * 2 ^ 20
  let marks := s.cget c 1 4 + s.poolSize p * 2 ^ 20 + i * 4096
  ((s.accessed otherUnit 256 data (2 ^ 20)).accessed otherUnit 256 marks 4096).restored c prn
    (s.readMarked data (2 ^ 20)) (s.readMarked marks 4096)



/-- A pool region of an isolated cluster keeps a context's contents over a switch (R590). -/
def State.strand (s : State) (c prn : Nat) : State :=
  if thas s.near.stranded prn then s
  else { s with near := { s.near with stranded := tput s.near.stranded prn c } }

/-- Saves of a switch, up to the first that fails. -/
def State.saveAll (s : State) (c p : Nat) (rs : List (Nat × Nat)) : State × Option Nat :=
  rs.foldl (fun (r : State × Option Nat) (x : Nat × Nat) =>
    if r.2.isSome then r
    else if r.1.isolated (prnCluster x.1) then (r.1.strand c x.1, none)
    else if r.1.maps c x.1 && decide (r.1.bivouacBit c x.1 ≠ 2) then r.1.saveRegion c p x.1 x.2
    else r) (s, none)

/-- A pool region gets the contents of the context that holds the pool now: restored, or zeroed (R212, R387). -/
def State.giveRegion (s : State) (c p : Nat) (x : Nat × Nat) : State × Option Nat :=
  if s.maps c x.1 && decide (s.bivouacBit c x.1 ≠ 0) then s.restoreRegion c p x.1 x.2
  else (s.zeroRegion x.1, none)

/-- Restores and zeroing of a switch; a region of an isolated cluster waits for its return (R590). 0xFFFF stands for
contents of no context. -/
def State.restoreAll (s : State) (c p : Nat) (rs : List (Nat × Nat)) : State × Option Nat :=
  rs.foldl (fun (r : State × Option Nat) (x : Nat × Nat) =>
    if r.2.isSome then r
    else if r.1.isolated (prnCluster x.1) then (r.1.strand 0xFFFF x.1, none)
    else r.1.giveRegion c p x) (s, none)

/-- Clears every region of a pool. -/
def State.clearPool (s : State) (p : Nat) : State :=
  (s.poolRegions p).foldl (fun s r => s.zeroRegion r.1) s

/-- Parks the Routes of a context on a pool (R371). -/
def State.parkRoutes (s : State) (c p : Nat) : State :=
  let mine := fun (r : Route) => decide (r.ctx = c) && decide (s.poolOfFootprint r.footprint = some p)
  let fp := (s.array.routes.filter fun r => mine r && !r.parked).foldl (fun m r => m ||| r.footprint) 0
  let park := fun (r : Route) => if mine r then { r with parked := true, bytes := [] } else r
  ({ s with array := { s.array with routes := s.array.routes.map park } } : State).trimStages fp

end Sys2Proof.Machine
end

