-- ==== Sys2Proof/Machine/Lanes.lean ====
section
/-! DEFINITION. The start of commands in ring order, bindings and serving lanes (R334, R347, R411-R425). -/

namespace Sys2Proof.Machine

/-! ### Results of dictionary writes (R513) and status codes (R338) -/

/-- A write's new state and its KOP result. -/
abbrev Written := State × Nat

def kOk : Nat := 0
def kAccess : Nat := 2
def kPermission : Nat := 3
def kAuth : Nat := 4
def kType : Nat := 5
def kRange : Nat := 6
def kState : Nat := 7
def kBounds : Nat := 8

def stMalformed : Nat := 0x01
def stAddress : Nat := 0x02
def stTranslation : Nat := 0x03
def stOverlap : Nat := 0x04
def stPermission : Nat := 0x05
def stMode : Nat := 0x06
def stNotStaged : Nat := 0x07
def stNearProtection : Nat := 0x0D
def stData : Nat := 0x0E
def stReset : Nat := 0x10
def stStopped : Nat := 0x11
def stFeature : Nat := 0x13
def stFootprint : Nat := 0x14
def stBind : Nat := 0x19
def stCairn : Nat := 0x1A
def stHandle : Nat := 0x1C
def stResource : Nat := 0x1D
def stStore : Nat := 0x1E
def stDeviceReset : Nat := 0x20

/-- VALUE of a TRANSLATION status. -/
def missValue (m : Miss) : Nat := m.va % 2 ^ 52 + m.window * 2 ^ 52 + m.kind * 2 ^ 54

/-! ### Start of a command (R334) -/

/-- Every earlier command of the ring has started, and, for AFTER_PREV and SIGNAL, completed. -/
def State.startable (s : State) (c : Cmd) : Bool :=
  let before := (s.cmds.takeWhile fun d => decide (d.id ≠ c.id)).filter fun d => decide (d.ring = c.ring)
  s.serving && !s.dev.hostReset && before.all fun d =>
    !(c.afterPrev || decide (c.op = 9)) && decide (d.stage ≠ .waiting)

/-- The command a row names, where it may start: it waits, or it waited for the grant that its context now
holds (R370). -/
def State.starting (s : State) (id op : Nat) : Option Cmd :=
  match s.cmd id with
  | none => none
  | some c =>
    if c.op = op ∧ ((c.stage = .waiting ∧ s.startable c) ∨ (c.stage = .grant ∧ s.holdsGrant c.ctx)) then some c
    else none

/-- Moves a command to a stage. -/
def State.stage (s : State) (c : Cmd) (g : Stage) : State := s.setCmd { c with stage := g }

/-- The command waits for its pool's grant, and a decision may follow (R370, R382). -/
def State.awaitGrant (s : State) (c : Cmd) : State := (s.stage { c with waited := true } .grant).decideGrantOf c.ctx

/-- A command completes; where it has waited for its pool's grant a decision follows (R382). -/
def State.completeOn (s : State) (c : Cmd) (status value : Nat) : State :=
  let s := s.complete c status value
  if c.waited then s.decideGrantOf c.ctx else s

/-! ### Bindings (R411-R414) -/

def State.binding (s : State) (h : Nat) : Option Binding := tfind s.serve.bindings h

def State.setBinding (s : State) (h : Nat) (b : Binding) : State :=
  { s with serve := { s.serve with bindings := tput s.serve.bindings h b } }

/-- The lowest Free handle. -/
def State.freeHandle (s : State) : Option Nat := (List.range 4096).find? fun h => !thas s.serve.bindings h

/-- A slot with a handle that is not Free (R412). -/
def State.slotBound (s : State) (k : Nat) : Bool := s.serve.bindings.any fun kv => decide (kv.2.slot = k)

/-- The handle is Bound. -/
def State.isBound (s : State) (h : Nat) : Bool := (s.binding h).any fun b => decide (b.state = .bound)

/-! ### Lanes (R415) -/

def State.setLane (s : State) (c l : Nat) (v : Lane) : State :=
  { s with serve := { s.serve with lanes := tset {} s.serve.lanes (c * 8 + l) v } }

def Lane.setSide (l : Lane) (n : Nat) (v : LaneSide) : Lane := if n = 0 then { l with side0 := v } else { l with side1 := v }

/-- The side names a handle. -/
def LaneSide.holds (v : LaneSide) (h : Nat) : Bool := decide (v.base = h) || decide (v.variant = h)

/-- A lane side record as bytes. -/
def LaneSide.record (v : LaneSide) : Bytes :=
  leBytes 2 v.base ++ leBytes 2 v.variant ++ leBytes 1 v.logRange ++ leBytes 3 0 ++ leBytes 8 v.cairnRoot ++
    leBytes 8 v.sessionTable ++ leBytes 4 v.sessions ++ leBytes 4 0 ++ v.routes.flatMap (leBytes 4)

/-- The side that a record describes. -/
def laneSideOf (b : Bytes) : LaneSide :=
  { base := field b 0 2, variant := field b 2 2, logRange := byteAt b 4, cairnRoot := field b 8 8
    sessionTable := field b 16 8, sessions := field b 24 4
    routes := (List.range 8).map fun r => field b (32 + 4 * r) 4 }

/-- Loops attached to a lane. -/
def State.loopsOf (s : State) (c l : Nat) : List Nat :=
  (List.range 16384).filter fun g => decide ((s.ring g).ctx.toNat = c) && (s.loopLane g).any fun x => decide (x.1 = l)

/-- A switch of the loop's lane holds its launches (R422). -/
def State.laneHolds (s : State) (c g : Nat) : Bool :=
  match s.loopLane g with
  | none => false
  | some (l, _) => (s.lane c l).switching && !(s.lane c l).openLoops.contains g

/-- A step admitted on a side of a lane executes. -/
def State.sideBusy (s : State) (c l n : Nat) : Bool :=
  s.steps.any fun p => p.launched && decide (p.ctx = c) && decide (p.lane = some l) && decide (p.side = n)

/-- Lane sides that hold a handle under R413 condition 1: active sides. -/
def State.sidesHolding (s : State) (h : Nat) : Nat :=
  (s.serve.lanes.filter fun kv => (kv.2.side kv.2.active).holds h).length

/-- A step admitted on a side that names the handle executes. -/
def State.stepHolding (s : State) (h : Nat) : Bool :=
  s.steps.any fun p => p.launched && p.lane.any fun l => ((s.lane p.ctx l).side p.side).holds h

/-- A lane switches to a side that names the handle (R425). -/
def State.switchedTo (s : State) (h : Nat) : Bool :=
  s.serve.lanes.any fun kv => kv.2.switching && (kv.2.side (1 - kv.2.active)).holds h

/-- An Unbinding handle that may be released (R413); one that the side being switched to names waits too (R425). -/
def State.releasable (s : State) (h : Nat) : Bool :=
  ((s.binding h).any fun b => decide (b.state = .unbinding)) && decide (s.sidesHolding h = 0) && !s.switchedTo h &&
    !s.stepHolding h

/-- Clears the references to a handle in a side record. -/
def LaneSide.drop (v : LaneSide) (h : Nat) : LaneSide :=
  { v with base := if v.base = h then 0xFFFF else v.base, variant := if v.variant = h then 0xFFFF else v.variant }

/-- UNBIND_MODEL commands that wait for a handle. -/
def State.unbinds (s : State) (h : Nat) : List Cmd :=
  s.cmds.filter fun c => decide (c.op = 5) && decide (c.stage = .running) && decide (c.at 8 2 = h)

/-- Releases a handle: it is Free, the references of inactive sides (and, at a context reset, of active ones)
are cleared, and every UNBIND_MODEL of it completes, in the order of acceptance. -/
def State.release (s : State) (h : Nat) (activeToo : Bool) : State :=
  let clean := fun (kv : Nat × Lane) =>
    let l := kv.2
    let l := if l.active = 1 ∨ activeToo then { l with side0 := l.side0.drop h } else l
    (kv.1, if l.active = 0 ∨ activeToo then { l with side1 := l.side1.drop h } else l)
  let lanes := (s.serve.lanes.map clean).filter fun (kv : Nat × Lane) => decide (kv.2 ≠ {})
  let s' := { s with serve := { s.serve with bindings := terase s.serve.bindings h, lanes := lanes } }
  (s.unbinds h).foldl (fun s c => s.complete c 0 0) s'

/-- UNBIND_MODEL (R347, R413). -/
def execUnbindModel (cmd : Nat) (s : State) : Host.Outcome State Fault Refusal :=
  .next (match s.starting cmd 5 with
    | none => s
    | some c =>
      let h := c.at 8 2
      match s.binding h with
      | none => s.complete c stHandle 0
      | some b =>
        if b.state = .binding then s.complete c stHandle 0
        else if b.owner ≠ c.ctx then s.complete c stPermission 8
        else (s.setBinding h { b with state := .unbinding }).stage c .running)

/-- BINDING_RELEASE (R413). -/
def execBindingRelease (handle : Fin 4096) (s : State) : Host.Outcome State Fault Refusal :=
  .next (if s.releasable handle.val then s.release handle.val false else s)

/-! ### Writes of lane entries (R416, R417, R421, R424) -/

/-- 0, or a Bulk-window address with an alignment. -/
def bulkOrZero (a align : Nat) : Bool :=
  decide (a = 0) || (decide (a % align = 0) && decide (a < 2 ^ 52) && decide (windowOf a = 1))

/-- The values of a side record are in range: handles Bound and owned, addresses, reserved bytes (R416). -/
def State.sideOk (s : State) (c : Nat) (b : Bytes) : Bool :=
  let v := laneSideOf b
  let bound := fun (h : Nat) (sys : Bool) => decide (h = 0xFFFF) ||
    (s.isBound h && (s.binding h).any fun x => decide (x.owner = c) || (sys && decide (x.owner = 256)))
  decide (b.length = 64) && bound v.base true && bound v.variant false &&
  (decide (v.logRange < 32) || decide (v.logRange = 0xFF)) &&
  decide (field b 5 3 = 0) && decide (field b 28 4 = 0) &&
  bulkOrZero v.cairnRoot 64 && bulkOrZero v.sessionTable 32 && decide (v.sessions ≤ 1048576) &&
  (decide (v.sessionTable ≠ 0) || decide (v.sessions = 0)) &&
  v.routes.all fun r => decide (r < 0xFFFFFF00)

/-- A write of LANE_SIDE entry e = lane * 2 + side. -/
def State.writeLaneSide (s : State) (c e : Nat) (b : Bytes) : Written :=
  let l := s.lane c (e / 2)
  if l.active = e % 2 ∨ l.switching then (s, kState)
  else if !s.sideOk c b then (s, kRange)
  else (s.setLane c (e / 2) (l.setSide (e % 2) (laneSideOf b)), kOk)

/-- A write of a LOOP_LANE entry. -/
def State.writeLoopLane (s : State) (g v : Nat) : Written :=
  if v ≠ 0xFF ∧ (64 ≤ v ∨ bit v 3 ∨ bits v 5 4 = 3) then (s, kRange)
  else if !s.drained g ∨ (v ≠ 0xFF ∧ (s.ring g).ctx = 256) then (s, kState)
  else (s.dset 0x2A00 4 g v, kOk)

/-- A write of LANE_SWITCH. -/
def State.writeLaneSwitch (s : State) (c l : Nat) : Written :=
  if 7 < l then (s, kRange)
  else
    let v := s.lane c l
    let n := v.side (1 - v.active)
    let loose := fun (h : Nat) => decide (h ≠ 0xFFFF) && !s.isBound h
    if v.switching ∨ (s.loopsOf c l).isEmpty ∨ loose n.base ∨ loose n.variant then (s, kState)
    else (s.setLane c l { v with switching := true, openLoops := (s.loopsOf c l).filter s.loopOpen }, kOk)

/-- A write of LANE_CANCEL. -/
def State.writeLaneCancel (s : State) (c l : Nat) : Written :=
  if 7 < l then (s, kRange)
  else
    let v := s.lane c l
    if !v.switching then (s, kState) else (s.setLane c l { v with switching := false, openLoops := [] }, kOk)

/-- The lane may flip (R423); in a context reset it flips at the reset's end instead (R425). -/
def State.canFlip (s : State) (c l : Nat) : Bool :=
  let v := s.lane c l
  v.switching && v.openLoops.isEmpty && !s.sideBusy c l v.active && !s.fenced c

/-- The active side toggles and LANE_GEN increases; held steps may launch on the new side. -/
def State.flip (s : State) (c l : Nat) : State :=
  let v := s.lane c l
  (s.setLane c l { v with active := 1 - v.active, switching := false, openLoops := [], gen := (v.gen + 1) % 2 ^ 32 }).cbump
    c 13 6 32

/-- LANE_FLIP (R423). -/
def execLaneFlip (ctx : Fin 256) (lane : Fin 8) (s : State) : Host.Outcome State Fault Refusal :=
  .next (
    let s := s.settleLanes
    if s.canFlip ctx.val lane.val then s.flip ctx.val lane.val else s)

/-! ### The simple commands (R349-R351) -/

/-- FENCE: running until every command it covers has completed. -/
def execFence (cmd : Nat) (s : State) : Host.Outcome State Fault Refusal :=
  .next (match s.starting cmd 8 with
    | none => s
    | some c =>
      let s := s.stage c .running
      settleFences s.cmds.length s)

/-- SIGNAL: applied once every earlier command of its ring has completed; the counter is the context's, or
any for SYS (R333, R350, R354). -/
def execSignal (cmd : Nat) (s : State) : Host.Outcome State Fault Refusal :=
  .next (match s.starting cmd 9 with
    | none => s
    | some c =>
      let n := c.at 8 2
      if s.mayUse c.ctx n then
        let s := s.applySignal n (decide (c.at 10 1 = 1)) (BitVec.ofNat 64 (c.at 16 8))
        s.complete c 0 (s.counter n).toNat
      else s.complete c stPermission 8)

/-- WAIT: satisfied at once, or running until the counter meets it. -/
def execWait (cmd : Nat) (s : State) : Host.Outcome State Fault Refusal :=
  .next (match s.starting cmd 10 with
    | none => s
    | some c =>
      let n := c.at 8 2
      if !s.mayUse c.ctx n then s.complete c stPermission 8
      else if waitHolds c (s.counter n) then s.complete c 0 (s.counter n).toNat
      else s.setCmd { c with stage := .running, startPhase := s.phase })

/-- WAIT_TIMEOUT: TIMEOUT ct passed before the condition held. -/
def execWaitTimeout (cmd t : Nat) (s : State) : Host.Outcome State Fault Refusal :=
  .next (match s.cmd cmd with
    | none => s
    | some c =>
      if c.op = 10 ∧ c.stage = .running ∧ c.at 12 4 ≠ 0 ∧
          c.startPhase + ctField (c.at 12 4) ≤ s.cdu.phase (max s.uptime t) then
        (s.at t).complete c 0x1B (s.counter (c.at 8 2)).toNat
      else s)

end Sys2Proof.Machine
end

