-- ==== Sys2Proof/Machine/Reset.lean ====
section
/-! DEFINITION. The isolation and return of clusters, the trials of a hang search, the Belay fence and context
resets (R571-R576, R584-R591). -/

namespace Sys2Proof.Machine

/-! ### Isolation (R589-R591) -/

/-- A Route is dropped with the health event that names it (R371, R589, R594). -/
def State.dropRoute (s : State) (r : Route) : State := (s.evictRoute r.ctx r.id).event 2 1 r.ctx r.id

/-- The cluster leaves service: its Route is evicted, parked Routes that contain it are dropped, its domain is
Off. -/
def State.isolateNow (s : State) (cl : Nat) : State :=
  let gone := s.array.routes.filter fun r => !r.parked && r.footprint.getLsbD cl
  let s := gone.foldl (fun s r => s.evictRoute r.ctx r.id) s
  let s := (s.array.routes.filter fun r => r.footprint.getLsbD cl).foldl State.dropRoute s
  (((s.dset 0x3033 1 cl 1).setDomain cl 0).resupply).event 11 3 cl

/-- Isolation of a cluster begins: its Route is drained and its executing step ends with FOOTPRINT. -/
def State.isolate (s : State) (cl : Nat) : State :=
  if s.isolated cl then s
  else match s.resident cl with
    | none => s.isolateNow cl
    | some r =>
      let s := match s.stepAt cl with
        | none => s
        | some p =>
          if p.live.readySent || p.committed || decide (p.ending = some (Ending.status stReset 0)) then s
          else (s.sendAbort p.live stFootprint 0).setStep
            { p with ending := some (.status stFootprint (BitVec.ofNat 64 (r.id + 0xFFFFFFFF * 2 ^ 32))) }
      s.rappel r.footprint r.ctx (.isolation cl)

/-! ### Hang searches (R584-R586, R596) -/

/-- Changes the hang search in progress. -/
def State.mapHang (s : State) (f : Hang → Hang) : State :=
  { s with ctxs := { s.ctxs with hang := s.ctxs.hang.map f } }

/-- A context is held in a search. -/
def State.hold (s : State) (c : Nat) : State :=
  { s with ctxs := { s.ctxs with held := tins s.ctxs.held c } }.cset c 4 6 1

/-- A context is no longer held. -/
def State.unhold (s : State) (c : Nat) : State :=
  { s with ctxs := { s.ctxs with held := terase s.ctxs.held c } }.cset c 4 6 0

/-- Executing steps of the suspects that can still be discarded. -/
def State.suspectSteps (s : State) (suspects : List Nat) : List Step :=
  s.steps.filter fun q => suspects.contains q.ctx && q.launched && !q.readySent && !q.committed

/-- Clusters that a search captures. -/
def captured (runs : List Step) (p : Step) : BitVec 64 := runs.foldl (fun m q => m ||| q.footprint) p.footprint

/-- A search begins on a stalled step whose suspects are known: they are held, their executing steps are to be
discarded and kept, and the Rappels of their footprints begin (R585 steps 1 and 2). -/
def State.beginHang (s : State) (p : Step) (core : Nat) (suspects : List Nat) : State :=
  let runs := s.suspectSteps suspects
  let mask := captured runs p
  let h : Hang := { stalledCmd := p.cmd, stalledCtx := p.ctx, core := core, captured := mask, suspects := suspects }
  let s := { s with ctxs := { s.ctxs with hang := some h } }
  let s := (s.dbump 0x3031 3 0 32).dset 0x3031 5 0 mask.toNat
  let s := suspects.foldl State.hold s
  runs.foldl (fun s q => ((s.sendAbort q 0 6).setStep { q with ending := some .held }).rappel q.footprint q.ctx .hang) s

/-- The step that a suspect's trial runs: its discarded step, or else its next ready step. -/
def State.trialStep (s : State) (c : Nat) : Option Nat :=
  match s.steps.find? fun q => decide (q.ctx = c) && !q.launched && q.latched with
  | some q => some q.cmd
  | none => (s.steps.find? fun q => decide (q.ctx = c) && !q.launched).map (·.cmd)

/-- A context whose stalled step still waits for its own search (R584). -/
def State.searchAwaited (s : State) (c : Nat) : Bool :=
  s.ctxs.stalls.any fun x => (s.step? x.1).any fun p => decide (p.ctx = c)

/-- No trial stalled, or the guilty context is known: every suspect is released, but for a context that waits for its own
search, and a decision follows for the pools that they lie on (R382, R584, R585). -/
def State.releaseSuspects (s : State) : State :=
  let cs := (s.ctxs.held.map (·.1)).filter fun c => !s.searchAwaited c
  let s := cs.foldl State.unhold { s with ctxs := { s.ctxs with hang := none } }
  cs.foldl State.decideGrantOf s

/-- A transient hang: it counts, and the second on one cluster within an hour isolates the cluster. -/
def State.transientHang (s : State) (h : Hang) : State :=
  let cl := h.core / 16
  let again := (tfind s.ctxs.transient cl).any fun t => decide (s.uptime ≤ t + 3600000000000)
  let s := (s.dbump 0x3031 4 0 32).releaseSuspects
  let s := { s with ctxs := { s.ctxs with transient := tput s.ctxs.transient cl s.uptime } }
  if again then s.isolate cl else s

/-- The next trial: the first suspect left is released; one with no step to run passes (R585 step 4). -/
def State.nextTrial (s : State) : Nat → State
  | 0 => s
  | n + 1 => match s.ctxs.hang with
    | none => s
    | some h => match h.suspects with
      | [] => s.transientHang h
      | c :: rest => match s.trialStep c with
        | none => (s.mapHang fun h => { h with suspects := rest, trial := none }).nextTrial n
        | some i => ((s.unhold c).mapHang fun h => { h with trial := some i }).decideGrantOf c

/-- A suspect's trial has ended without a stall: it is held again and the next is tried. -/
def State.trialPassed (s : State) (cmd : Nat) : State :=
  match s.ctxs.hang with
  | some h =>
    if h.trial = some cmd then
      let s := match h.suspects with | c :: _ => s.hold c | [] => s
      (s.mapHang fun h => { h with suspects := h.suspects.tail, trial := none }).nextTrial (h.suspects.length + 1)
    else s
  | none => s

/-- A context that is reset for another cause leaves the hang search: what its own stalled steps waited for is over, it is
held no more, and the suspect list goes on without it (R596). -/
def State.leaveHang (s : State) (c : Nat) : State :=
  let mine := fun (x : Nat × Nat × List Nat) => (s.step? x.1).any fun p => decide (p.ctx = c)
  let s := if s.ctxs.stalls.any mine then
      { s with ctxs := { s.ctxs with stalls := s.ctxs.stalls.filter fun x => !mine x } }.unhold c
    else s
  match s.ctxs.hang with
  | some h =>
    if h.suspects.contains c then
      let mine := decide (h.suspects.head? = some c) && h.trial.isSome
      let s := (s.mapHang fun h => { h with
        suspects := h.suspects.filter fun d => decide (d ≠ c), trial := if mine then none else h.trial }).unhold c
      if h.draining || !mine then s else s.nextTrial (h.suspects.length + 1)
    else s
  | none => s

/-- A hang search holds the launch of a step: its context is held, or another step is on trial for it. -/
def State.hangHolds (s : State) (p : Step) : Bool :=
  thas s.ctxs.held p.ctx || s.ctxs.hang.any fun h =>
    decide (h.suspects.head? = some p.ctx) && h.trial.any fun i => decide (i ≠ p.cmd)

/-! ### Start of a context reset (R572-R575) -/

/-- A group step of the context whose READY was sent and which has not committed (R571). -/
def State.awaitsGroup (s : State) (c : Nat) : Bool :=
  s.steps.any fun p => decide (p.ctx = c) && p.readySent && !p.committed

/-- Ends the step with CONTEXT_RESET at the Rappel of its footprint, and one that waits for its next attempt at once, each
with the ABORT of its group (R571): that outcome takes precedence over a replay (R48, R200). -/
def State.abandonForReset (s : State) (p : Step) : State :=
  if p.live.readySent || p.committed then s
  else if p.launched then
    (s.sendAbort p.live stReset 0).setStep { p with ending := some (.status stReset 0) }
  else (if p.latched then s.sendAbort p.live stReset 0 else s).dropStep p.cmd

/-- Rappels of the context's resident Routes, but for those on which a group step awaits its commit (R571,
R574). -/
def State.resetRappels (s : State) (c : Nat) : State :=
  (s.array.routes.filter fun r => !r.parked && decide (r.ctx = c) &&
    !(s.steps.any fun p => p.readySent && !p.committed && overlaps p.footprint r.footprint)).foldl
    (fun s r => s.rappel r.footprint c .contextReset) s

/-- The commands of a context that end when its fence is raised: all but its executing steps
(R575). -/
def State.resetEnds (s : State) (c : Nat) : List Cmd :=
  s.cmds.filter fun d => decide (d.ctx = c) && !(s.steps.any fun p => decide (p.cmd = d.id))

/-- Binds leave the list of those in progress; where one of them was the last to read on a stack, the turn counts from the bind
before it (R271). -/
def State.leaveBinds (s : State) (gone : BindRun → Bool) : State :=
  let before := fun (v : Nat) =>
    if s.serve.binds.any fun b => decide (b.handle + 1 = v) && gone b then
      (((s.serve.binds.takeWhile fun b => decide (b.handle + 1 ≠ v)).filter fun b => !gone b).getLast?.map (·.handle + 1)).getD 0
    else v
  { s with serve := { s.serve with
    binds := s.serve.binds.filter fun b => !gone b
    turns := (s.serve.turns.map fun kv => (kv.1, before kv.2)).filter fun kv => decide (kv.2 ≠ 0) } }

/-- Binds of a context are stopped: their handles are Free (R575). -/
def State.dropBinds (s : State) (c : Nat) : State :=
  let hs := (s.serve.binds.filter fun b => decide (b.ctx = c)).map (·.handle)
  let s := s.leaveBinds fun b => decide (b.ctx = c)
  { s with serve := { s.serve with bindings := s.serve.bindings.filter fun kv => !hs.contains kv.1 } }

/-- Handles of a context in Unbinding return to Bound (R575). -/
def State.dropUnbinds (s : State) (c : Nat) : State :=
  { s with serve := { s.serve with bindings := s.serve.bindings.map fun kv =>
    (kv.1, if kv.2.owner = c ∧ kv.2.state = .unbinding then { kv.2 with state := .bound } else kv.2) } }

/-- Work of a context beside its executing steps is stopped: loads, evictions, copies, binds, unbinds, held
RESUME_STREAMs, the pending launches of its loops (R374, R575). -/
def State.stopWork (s : State) (c : Nat) : State :=
  let mine := fun (id : Nat) => (s.cmd id).any fun d => decide (d.ctx = c)
  let arr := { s.array with
    loads := s.array.loads.filter fun l => decide (l.ctx ≠ c)
    evictions := s.array.evictions.filter fun e => decide (e.2.2 ≠ c)
    streams := s.array.streams.map fun kv => (kv.1, { kv.2 with held := kv.2.held.filter fun i => !mine i }) }
  let loops := s.hif.loops.map fun kv =>
    (kv.1, if (s.ring kv.1).ctx.toNat = c then { kv.2 with pend := [] } else kv.2)
  let s := { s with
    array := arr
    ctxs := { s.ctxs with copies := s.ctxs.copies.filter fun k => !mine k.cmd }
    hif := { s.hif with loops := loops.filter fun kv => decide (kv.2 ≠ ({} : Loop)) } }
  (s.dropBinds c).dropUnbinds c

/-- The Rappels of a reset are complete: STATE becomes 3 and the context's epoch advances (R576, R578). -/
def State.settleReset (s : State) (c : Nat) : State :=
  match tfind s.ctxs.resets c with
  | some r =>
    if r.phase = 2 ∧ !(s.array.rappels.any fun q => decide (q.ctx = c)) ∧
        !(s.steps.any fun p => decide (p.ctx = c)) then
      let s := { s with ctxs := { s.ctxs with resets := tput s.ctxs.resets c { r with phase := 3 } } }
      (s.advanceEpoch c).beginConfirm 2 c
    else s
  | none => s

/-- Commands complete with one status, FENCEs among them: no FENCE of them sees the others complete before it (R575, R593). -/
def State.finishAll (s : State) (ds : List Cmd) (status : Nat) : State := ds.foldl (fun s d => s.finish d status 0) s

/-- A context reset begins, or joins the one in progress (R572). -/
def State.startReset (s : State) (c cause : Nat) : State :=
  if 255 < c ∨ s.fenced c then s
  else
    let run : ResetRun := { phase := 2, cause := cause, start := s.uptime, groupWait := s.awaitsGroup c }
    let s := { s with ctxs := { s.ctxs with resets := tput s.ctxs.resets c run } }
    let s := ((s.cbump c 4 2 32).cset c 4 3 cause).cset c 4 4 s.uptime
    let s := (s.postEvent c 2 0 []).leaveHang c
    let s := (s.steps.filter fun p => decide (p.ctx = c)).foldl State.abandonForReset s
    let ends := s.resetEnds c
    ((s.stopWork c).finishAll ends stReset |>.resetRappels c).settleReset c

/-- A Bivouac transfer failed: the event, and the reset of the context (R389). -/
def State.bivouacFailed (s : State) (c a : Nat) : State := (s.event 2 2 c a).startReset c 5

/-- A pool region of a returning cluster that another context left is given its holder's contents (R212, R590). -/
def State.unstrand (s : State) (p : Nat) (x : Nat × Nat) : State :=
  match tfind s.near.stranded x.1 with
  | none => s
  | some o =>
    let s := { s with near := { s.near with stranded := terase s.near.stranded x.1 } }
    match s.holder p with
    | none => s.zeroRegion x.1
    | some h =>
      if h = o then s
      else match s.giveRegion h p x with
        | (s, none) => s
        | (s, some a) => (s.zeroRegion x.1).bivouacFailed h a

/-- The pool regions of a cluster that a switch could not reach are given their holder's contents (R212, R590). -/
def State.unstrandAll (s : State) (cl : Nat) : State :=
  match s.poolOf cl with
  | none => s
  | some p => ((s.poolRegions p).filter fun x => decide (prnCluster x.1 = cl)).foldl (fun s x => s.unstrand p x) s

/-- An isolated cluster returns to service with no Route, and its regions become reachable again (R591). -/
def State.returnCluster (s : State) (cl : Nat) : State :=
  ((((s.dset 0x3033 1 cl 0).powerOn cl).resupply).event 11 4 cl).unstrandAll cl

/-- The last group step of a reset that waited for its commit is resolved: the Routes not yet drained are
drained now (R571). -/
def State.resumeReset (s : State) (c : Nat) : State :=
  match tfind s.ctxs.resets c with
  | some r =>
    if r.groupWait ∧ !s.awaitsGroup c then
      let s := { s with ctxs := { s.ctxs with resets := tput s.ctxs.resets c { r with groupWait := false } } }
      (s.resetRappels c).settleReset c
    else s.settleReset c
  | none => s

/-! ### End of a context reset (R574, R414, R425) -/

/-- Zeroes the Near regions that a context owns; those of a pool's clusters are the pool's (R224, R369). -/
def State.zeroOwned (s : State) (c : Nat) : State :=
  ((s.near.regions.filter fun kv => decide (kv.2.kind = .owned ∨ kv.2.kind = .pendingUnmap) &&
    decide (kv.2.owner = c) && (s.prnPool kv.1).isNone).map (·.1)).foldl State.zeroRegion s

/-- The pool of a context at its reset: the holder's grant is released, its Routes there are parked and the pool's regions
cleared; another's Bivouac copies are discarded (R371, R385, R574). -/
def State.resetPool (s : State) (c : Nat) : State :=
  match s.attached c with
  | none => s
  | some p =>
    let s := { s with near := { s.near with bivouac := tclear s.near.bivouac (c * 32768) ((c + 1) * 32768) } }
    if s.holder p = some c then ((s.parkRoutes c p).clearPool p).dset 0x2300 4 p 0xFFFF else s

/-- The context's counters that a reset clears, as the chapters state (R132, R201, R230, R273, R312, R361, R442,
R463, R496). -/
def State.clearCounters (s : State) (c : Nat) : State :=
  let ks : List (Nat × List Nat) :=
    [(6, [3, 4, 5, 6, 7]), (7, [1, 2, 3, 4, 5]), (8, [3]), (9, [1, 2, 3]), (10, [1, 3, 4, 5]), (11, [2, 3]),
     (13, [1, 2, 3, 4, 5, 6]), (14, [2, 3, 4, 5]), (15, [1, 2, 3, 4, 5])]
  (ks.flatMap fun k => k.2.map fun n => (k.1, n)).foldl (fun s kn => s.cset c kn.1 kn.2 (contextDefault kn.1 kn.2)) s

/-- Handles that a reset releases: owned, with a Near-resident section (R414). -/
def State.nearBindings (s : State) (c : Nat) : List Nat :=
  (s.serve.bindings.filter fun kv => decide (kv.2.owner = c) && kv.2.nearSections).map (·.1)

/-- The lanes of a context that are switching flip at the end of its reset (R425). -/
def State.flipAll (s : State) (c : Nat) : State :=
  ((List.range 8).filter fun l => (s.lane c l).switching).foldl (fun s l => s.flip c l) s

/-- The effects of the end of a context reset; one that a host reset has struck writes no event (R596). -/
def State.endReset (s : State) (c : Nat) : State :=
  let pool := s.attached c
  let silent := (tfind s.ctxs.resets c).any (·.silent)
  let s := s.endConfirm 2 c
  let s := ((s.zeroOwned c).resetPool c).clearCounters c
  let s := (s.nearBindings c).foldl (fun s h => s.release h true) s
  let s := s.flipAll c
  let s := { s with ctxs := { s.ctxs with resets := terase s.ctxs.resets c } }
  let s := if silent then s else s.postEvent c 3 0 []
  match pool with
  | some p => s.grantDecision p
  | none => s

/-- CONTEXT_RESET_END (R574): its Rappels are complete, its epoch acknowledged, and a switch that moves its
pool's contents has ended. In a device recovery the reset ends with the recovery (R594). -/
def execContextResetEnd (ctx : Fin 256) (t : Nat) (s : State) : Host.Outcome State Fault Refusal :=
  .next (match tfind s.ctxs.resets ctx.val with
    | some r =>
      if r.phase = 3 ∧ s.epochAcked ctx.val ∧ !s.switchingWith ctx.val ∧ s.dev.mode ≠ .recovery ∧ s.dev.mode ≠ .failed then
        (s.at t).endReset ctx.val
      else s
    | none => s)

end Sys2Proof.Machine
end

