-- ==== Sys2Proof/Machine/Steps.lean ====
section
/-! DEFINITION. LAUNCH_STEP: readiness, the launch checks, the start, the replay and the end of a step
(R28-R49, R195, R196, R340-R343, R376-R380, R390, R418, R419). -/

namespace Sys2Proof.Machine

/-! ### Reads on behalf of a command -/

/-- The failure that a translation fault of a command gives. -/
def failMiss (m : Miss) : Fail := { status := stTranslation, value := missValue m, miss := some m }

/-- n bytes read for a command, or its TRANSLATION or DATA_ERROR. -/
def State.readOr (s : State) (c va n : Nat) : Except Fail Bytes :=
  match s.read c va n with
  | .ok bs => .ok bs
  | .miss m => .error (failMiss m)
  | .damaged a => .error { status := stData, value := a }

/-- n bytes read for a command in any window: of the Remote window what has been fetched for it. -/
def State.readFar (s : State) (cmd c va n : Nat) : Except Fail Bytes :=
  if windowOf va = 3 then
    match s.fetched cmd va with
    | none => .error { status := stTranslation, value := 0, ask := some (va, n) }
    | some (.ok b) => .ok b
    | some (.miss m) => .error (failMiss m)
    | some (.damaged a) => .error { status := stData, value := a }
  else s.readOr c va n

/-- The counters that a failed access of a context touches. -/
def State.noteFail (s : State) (c : Nat) (f : Fail) : State :=
  match f.miss with
  | some m => s.noteMiss c m
  | none => if f.status = stData then s.noteDamage c f.value else s

/-- A check: the failure when its condition does not hold. -/
def ensure (ok : Bool) (status value : Nat) : Except Fail Unit :=
  if ok then .ok () else .error { status := status, value := value }

/-! ### The end of a step (R36, R44, R380, R390) -/

/-- The exchanges of a step are gone. -/
def State.dropExchanges (s : State) (cmd : Nat) : State :=
  { s with tru := { s.tru with exchanges := s.tru.exchanges.filter fun e => decide (e.cmd ≠ cmd) } }

/-- Bytes that a command has written and not committed, by address. -/
def writtenBy (t : Tab Nat) (cmd : Nat) : List Nat := (t.filter fun kv => decide (kv.2 = cmd)).map (·.1)

/-- What is left of a table of such bytes without those of a command. -/
def notBy (t : Tab Nat) (cmd : Nat) : Tab Nat := t.filter fun kv => decide (kv.2 ≠ cmd)

/-- Discarded bytes hold values that nothing fixes. -/
def discardBytes (free base : Nat) (m : List Host.Cell) (as : List Nat) : List Host.Cell :=
  as.foldl (fun m a => memWrite m a (Config.uncommitted free (base + a))) m

/-- What a step has written and not committed is discarded, its private scratch with it (R34, R42), and the bits that say
which blocks and lines it wrote are cleared (R221, R252). -/
def State.clearWritten (s : State) (cmd : Nat) : State :=
  { s with
    free := s.free + 1
    near := { s.near with
      mem := discardBytes s.free 0 s.near.mem (writtenBy s.near.uncommitted cmd)
      uncommitted := notBy s.near.uncommitted cmd
      written := notBy s.near.written cmd }
    bulk := { s.bulk with
      mem := discardBytes s.free (2 ^ 36) s.bulk.mem (writtenBy s.bulk.uncommitted cmd)
      uncommitted := notBy s.bulk.uncommitted cmd
      written := notBy s.bulk.written cmd }
    host := discardBytes s.free (2 ^ 40) s.host (writtenBy s.hostUncommitted cmd)
    hostUncommitted := notBy s.hostUncommitted cmd }

/-- Streams of a footprint, with their keys. -/
def State.streamsOn (s : State) (fp : BitVec 64) : Tab Stream :=
  s.array.streams.filter fun kv => fp.getLsbD (kv.1 / 512)

/-- A stream of the footprint is halted. -/
def State.halted (s : State) (fp : BitVec 64) : Bool := (s.streamsOn fp).any fun kv => kv.2.fault.isSome

/-- A stream without its halt and its Stream Position Record. -/
def Stream.unhalted (t : Stream) : Stream := { t with fault := none, spr := none, held := [] }

/-- The halts of a footprint end: a HOLD for them is released, their records are discarded, and every held
RESUME_STREAM names no halted stream any more (R284, R294, R352). -/
def State.endHalts (s : State) (p : Step) : State :=
  let on := s.streamsOn p.footprint
  let hs := on.flatMap fun kv => kv.2.held
  let s := if s.halted p.footprint && !p.members.isEmpty then s.groupCast p 0x44 0 0 [] else s
  let s := { s with array := { s.array with
    streams := on.foldl (fun t kv => tset {} t kv.1 kv.2.unhalted) s.array.streams } }
  hs.foldl (fun s i => match s.cmd i with | some c => s.complete c 0 0 | none => s) s

/-- LOAD_ROUTE commands accepted before one and not complete (R180). -/
def State.accepted (s : State) (cmd : Nat) : List Nat := s.array.order.takeWhile fun i => decide (i ≠ cmd)

/-- A load accepted earlier still stands on a footprint. -/
def State.earlierLoad (s : State) (cmd : Nat) (fp : BitVec 64) : Bool :=
  s.array.loads.any fun m => (s.accepted cmd).contains m.cmd && overlaps m.footprint fp

/-- An eviction accepted earlier still stands on a footprint. -/
def State.earlierEviction (s : State) (cmd : Nat) (fp : BitVec 64) : Bool :=
  s.array.evictions.any fun e => (s.accepted cmd).contains e.1 &&
    (s.routeOf e.2.2 e.2.1).any fun r => overlaps r.footprint fp

/-- A LOAD_ROUTE takes its place in the order of acceptance, or keeps the one it has (R180). -/
def State.accept (s : State) (cmd : Nat) : State :=
  let live := fun (i : Nat) => (s.array.loads.any fun l => decide (l.cmd = i)) || s.array.evictions.any fun e => decide (e.1 = i)
  let order := s.array.order.filter live
  { s with array := { s.array with order := if order.contains cmd then order else order ++ [cmd] } }

/-- An eviction is over, with a status. -/
def State.closeEviction (s : State) (cmd status value : Nat) : State :=
  let s := { s with array := { s.array with evictions := s.array.evictions.filter fun e => decide (e.1 ≠ cmd) } }
  match s.cmd cmd with
  | some d => s.complete d status value
  | none => s

/-- Loads and evictions whose Routes have no step executing any more begin their Rappels, loads in order of
acceptance (R176, R180). -/
def kickLoad (s : State) (l : LoadRun) : State :=
  match s.array.loads.find? fun m => decide (m.cmd = l.cmd) with
  | none => s
  | some l =>
    let olds := s.array.routes.filter fun r => !r.parked && overlaps r.footprint l.footprint
    let pooled := match s.poolOfFootprint l.footprint with | some _ => s.holdsGrant l.ctx | none => true
    if l.draining || !l.checked || s.earlierLoad l.cmd l.footprint || s.earlierEviction l.cmd l.footprint || !pooled ||
        (olds.any fun r => s.busy r.footprint) || s.busy l.footprint then s
    else
      let arr := { s.array with loads := s.array.loads.map fun m =>
        if m.cmd = l.cmd then { m with draining := true } else m }
      olds.foldl (fun s r => s.rappel r.footprint r.ctx (.load l.cmd)) { s with array := arr }

/-- An eviction goes on once no load accepted before it names or overlaps its Route: a parked Route is dropped then, a
resident one drained once no step runs there; a Route that such a load has replaced is resident no more (R180, R345, R371). -/
def kickEviction (s : State) (e : Nat × Nat × Nat) : State :=
  match s.routeOf e.2.2 e.2.1 with
  | none =>
    if s.array.loads.any fun m => (s.accepted e.1).contains m.cmd && decide (m.ctx = e.2.2) && decide (m.id = e.2.1) then s
    else s.closeEviction e.1 stHandle 0
  | some r =>
    if s.earlierLoad e.1 r.footprint then s
    else if r.parked then (s.evictRoute e.2.2 e.2.1).closeEviction e.1 0 e.2.1
    else if s.busy r.footprint then s
    else s.rappel r.footprint r.ctx (.evict e.1)

/-- Loads and evictions that may go on now do. -/
def State.kick (s : State) : State :=
  s.array.evictions.foldl kickEviction (s.array.loads.foldl kickLoad s)

/-- A command's fetches are done with. -/
def State.dropFetches (s : State) (cmd : Nat) : State :=
  { s with links := { s.links with fetches := s.links.fetches.filter fun f => decide (f.cmd ≠ cmd) } }

/-- An operation is over: its place among those that wait, and what was fetched for it, are given up. -/
def State.cairnOver (s : State) (cmd : Nat) : State :=
  ({ s with serve := { s.serve with cairnOps := s.serve.cairnOps.filter fun o => decide (o.cmd ≠ cmd) } } : State).dropFetches cmd

/-- What an attempt has written is discarded, with its place among the Cairn operations that wait; unless the step has committed, the nodes that it prepared return to the free
list (R430, R436). -/
def State.discardWritten (s : State) (p : Step) : State :=
  let s := (s.clearWritten p.cmd).cairnOver p.cmd
  if p.committed then s else p.nodes.foldl (fun s w => (s.writes p.ctx none w.1 w.2).1) s

/-- What the group table and the exchanges hold for a step's group is dropped with the step (R487). -/
def State.dropGroup (s : State) (p : Step) : State :=
  if p.members.isEmpty then s
  else { s with links := { s.links with
    early := s.links.early.filter fun e => !(decide (e.ctx = p.ctx) && decide (e.group = p.groupId))
    notes := s.links.notes.filter fun n => !(decide (n.ctx = p.ctx) && decide (n.group = p.groupId)) } }

/-- A step that is over has committed, or what the other members of its group have written here is discarded with it
(R33, R40). -/
def State.discardGroup (s : State) (p : Step) : State :=
  if p.members.isEmpty || p.committed then s else s.clearWritten (foreignTag p.cmd)

/-- What follows when a step is over, whatever its outcome: its traces end, lanes may close, a share change and
a grant decision follow, and resets, loads and trials that waited go on. -/
def State.afterStep (s : State) (p : Step) : State :=
  let s := ((((s.dropExchanges p.cmd).discardWritten p).discardGroup p).dropGroup p).settleLanes
  let s := s.shareAtStepEnd p.ctx
  let s := s.kick
  let s := match s.poolOfFootprint p.footprint with | some q => s.grantDecision q | none => s
  (s.resumeReset p.ctx).trialPassed p.cmd

/-- The completion flags of a step (R337). -/
def stepFlags (p : Step) (committed : Bool) : Nat :=
  2 * b2n (decide (0 < p.replays)) + 4 * b2n p.missed + 8 * b2n (committed && decide (0 < p.crux.escalated))

/-- Clusters of a step were last active when it ended (R546). -/
def State.noteWork (s : State) (fp : BitVec 64) : State :=
  (clustersOf fp).foldl State.worked s

/-- A step ends with an error: its execution is charged, its completion written (R377, R380); one that ends with CAIRN counts
(R443). -/
def State.failEnd (s : State) (p : Step) (status value : Nat) : State :=
  let s := if status = stCairn then s.cbump p.ctx 13 4 32 else s
  let s := if p.launched then
      (s.charge p.ctx (chargeOf p.footprint (s.uptime - p.launchTime)) (s.poolOfFootprint p.footprint).isSome).noteWork
        p.footprint
    else s
  let s := s.endHalts p
  let s := s.dropStep p.cmd
  let s := match s.cmd p.cmd with
    | some c => s.complete c status value (stepFlags p false) p.replays
    | none => s
  s.afterStep p

/-- A step is abandoned without a completion (R570). -/
def State.silentEnd (s : State) (p : Step) : State :=
  (((s.endHalts p).dropStep p.cmd).dropCmd p.cmd).afterStep p

/-! ### Readiness (R376, R422) -/

/-- The loop after its launch condition was consumed, and the stamp taken. -/
def consume (l : Loop) : Loop × Option Stamp :=
  match l.launch.toNat, l.pend with
  | 1, t :: ts => ({ l with pend := ts }, some t)
  | 2, _ => ({ l with chainTarget := l.chainTarget + l.chainStep.setWidth 64 }, none)
  | _, _ => (l, none)

/-- A step's wait for its pool's grant is timed from now on, where its context does not hold it (R390). -/
def State.timeGrant (s : State) (p : Step) : Step :=
  if (s.poolOfFootprint p.footprint).isSome ∧ !s.holdsGrant p.ctx then { p with grantSince := some s.uptime } else p

/-- A LAUNCH_STEP becomes ready: its launch condition is consumed, its sequence number taken. -/
def State.makeReady (s : State) (c : Cmd) : State :=
  let (l, stamp) := consume (s.loopOf c.ring)
  let held := s.laneHolds c.ctx c.ring
  let p : Step := { cmd := c.id, ring := c.ring, ctx := c.ctx, seq := l.seq + 1, stamp := stamp
                    readyTime := s.uptime, readyPhase := s.phase, footprint := s.firstFootprint c
                    heldForLane := held }
  let s := (s.setLoop c.ring l).stage c .ready
  let s := { s with steps := s.steps ++ [s.timeGrant p] }
  let s := if held then s.cbump c.ctx 13 5 32 else s
  s.decideGrantOf c.ctx

/-- STEP_READY (R376). -/
def execStepReady (cmd t : Nat) (s : State) : Host.Outcome State Fault Refusal :=
  .next (match s.cmd cmd with
    | none => s
    | some c =>
      if s.serving && decide (c.op = 1) && decide (c.stage = .queued) && !s.loopBusy c && s.launchHolds c then
        (s.at t).makeReady c
      else s)

/-- INSTALL_STATE is not 0 (R264). -/
def State.installing (s : State) : Bool := decide (s.dget 0x7000 2 ≠ 0)

/-- LAUNCH_STEP: its loop takes it up (R340); tenants are refused in Installation mode (R264). -/
def execLaunchStep (cmd : Nat) (s : State) : Host.Outcome State Fault Refusal :=
  .next (match s.starting cmd 1 with
    | none => s
    | some c => if s.installing && decide (c.ctx ≠ 256) then s.complete c stStopped 0
      else s.stage c .queued)

/-! ### The step block (R341-R343) -/

/-- Offsets of fields of a step block that are out of range, misaligned or reserved and not zero. -/
def blockBad (b : Bytes) (nr ns : Nat) : List Nat :=
  let bad := fun (off : Nat) (ok : Bool) => if ok then [] else [off]
  let zero := fun (lo hi : Nat) => (List.range (hi + 1 - lo)).filterMap fun i =>
    if byteAt b (lo + i) = 0 then none else some (lo + i)
  let n := field b 20 2
  bad 0 (decide (byteAt b 22 % 2 = 0) || decide (field b 0 8 % 32 = 0)) ++
  bad 20 (decide (n = 0) || (decide (2 ≤ n) && decide (n ≤ 4064))) ++
  bad 22 (decide (byteAt b 22 < 2)) ++ zero 23 63 ++
  ((List.range nr).flatMap fun j =>
    let o := 64 + 32 * j
    let len := field b (o + 8) 8
    let kind := byteAt b (o + 16)
    bad (o + 8) (decide (1 ≤ len) && decide (len ≤ 2 ^ 40) && (decide (kind ≠ 2) || decide (len % 128 = 0))) ++
    bad (o + 16) (decide (kind ≤ 2)) ++ zero (o + 17) (o + 31)) ++
  ((List.range ns).flatMap fun j =>
    let o := 64 + 32 * nr + 16 * j
    bad (o + 2) (decide (byteAt b (o + 2) ≤ 1)) ++ zero (o + 3) (o + 7))

def blockRanges (b : Bytes) (nr : Nat) : List Range :=
  (List.range nr).map fun j => ⟨field b (64 + 32 * j) 8, field b (72 + 32 * j) 8, byteAt b (80 + 32 * j)⟩

def blockSignals (b : Bytes) (nr ns : Nat) : List Signal :=
  (List.range ns).map fun j =>
    let o := 64 + 32 * nr + 16 * j
    ⟨field b o 2, decide (byteAt b (o + 2) = 1), BitVec.ofNat 64 (field b (o + 8) 8)⟩

/-- Index of the first failing entry of a member list, its length when the own ID is missing (R342). -/
def memberBad (own : Nat) (ids : List Nat) : Option Nat :=
  match ids.zipIdx.find? fun (x : Nat × Nat) => decide (4063 < x.1) || (decide (0 < x.2) && decide (x.1 ≤ ids.getD (x.2 - 1) 0)) with
  | some x => some x.2
  | none => if ids.contains own then none else some ids.length

/-- The parts of the ranges that a step with a sequence number reads and writes: index, start, length. -/
def readParts (seq : Nat) (rs : List Range) : List (Nat × Nat × Nat) :=
  rs.zipIdx.filterMap fun (x : Range × Nat) =>
    let r := x.1
    if r.kind = 0 then some (x.2, r.base, r.length)
    else if r.kind = 2 then some (x.2, r.base + (seq + 1) % 2 * (r.length / 2), r.length / 2) else none

def writeParts (seq : Nat) (rs : List Range) : List (Nat × Nat × Nat) :=
  rs.zipIdx.filterMap fun (x : Range × Nat) =>
    let r := x.1
    if r.kind = 1 then some (x.2, r.base, r.length)
    else if r.kind = 2 then some (x.2, r.base + seq % 2 * (r.length / 2), r.length / 2) else none

/-- Two ranges of a step that break R34, the lower index first. -/
def overlapOf (seq : Nat) (rs : List Range) : Option (Nat × Nat) :=
  let ws := writeParts seq rs
  (readParts seq rs).findSome? fun a =>
    (ws.find? fun w => decide (a.2.1 < w.2.1 + w.2.2) && decide (w.2.1 < a.2.1 + a.2.2)).map fun w =>
      (min a.1 w.1, max a.1 w.1)

/-! ### Exchange records at launch (R451, R452) -/

def exDir (r : Bytes) : Nat := byteAt r 0
def exTrigger (r : Bytes) : Nat := field r 8 4
def exGate (r : Bytes) : Nat := field r 12 4
def exPair (r : Bytes) : Nat := byteAt r 72

/-- The TRU_EXCHANGES records of a context. -/
def State.exTable (s : State) (c : Nat) : List Bytes :=
  (List.range 32).map fun i => (tfind s.tru.table (c * 32 + i)).getD (leBytes 128 0)

/-- The trigger Route of a descriptor that R452 refuses at launch. -/
def exchangeBad (ex : List Bytes) (routes : List Nat) (members : Nat) : Option Nat :=
  let used := ex.filter fun r => decide (exTrigger r ≠ 0) && routes.contains (exTrigger r)
  if 8 < members then used.head?.map exTrigger
  else (routes.zipIdx.findSome? fun (x : Nat × Nat) =>
    used.find? fun r => decide (exDir r = 1) && decide (exTrigger r = x.1) &&
      (match ex[exPair r]? with
       | none => true
       | some d => decide (exTrigger d = 0) || decide (exDir d ≠ 0) || !(routes.take x.2).contains (exTrigger d))).map exTrigger

/-! ### Descriptors checked at launch (R118, R163, R280) -/

/-- Stream descriptors of a core section: offsets in the image. -/
def streamDescs (b : Bytes) (k : Nat) : List Nat :=
  (List.range (streamBytes b k / 64)).map fun i => areaAt b k 4 + 64 * i

/-- An operator of the image rounds stochastically (R118). -/
def hasStochastic (b : Bytes) : Bool :=
  (imgCores b).any fun ck => (List.range (meOps b ck.2)).any fun i => bit (field b (meAt b ck.2 i + 8) 2) 0

/-- The BASE field of the first stream descriptor that fails R280, or the first address of a stream or Rope descriptor with
a bit above 51 (R24). -/
def streamBad (b : Bytes) (rs : List Range) : Option Nat :=
  let far := fun (a : Nat) => if 2 ^ 52 ≤ a then some a else none
  (imgCores b).findSome? fun ck => (streamDescs b ck.2).findSome? fun o =>
    let kind := byteAt b o
    let sel := byteAt b (o + 2)
    let base := field b (o + 4) 8
    if kind ≤ 4 ∧ sel < 16 then
      match rs[sel]? with
      | none => some base
      | some r => if (kind = 1 ∨ kind = 3) ∧ r.kind ≠ 1 then some base else none
    else if kind < 4 then far base
    else if kind = 5 then
      (if bit (byteAt b (o + 5)) 2 then none else far (field b (o + 16) 8)).or (far (field b (o + 24) 8))
    else if kind = 6 then far (field b (o + 24) 8)
    else none

/-- The VALUE of the first NORM record that fails R163. -/
def pilotBad (b : Bytes) (rs : List Range) : Option Nat :=
  (imgCores b).findSome? fun ck => (List.range (normOps b ck.2)).findSome? fun i =>
    let o := normAt b ck.2 i
    if byteAt b (o + 2) % 4 = 1 then
      let ref := field b (o + 28) 4
      match rs[ref / 2 ^ 28]? with
      | none => some 0
      | some r =>
        if r.kind ≠ 2 then some r.base
        else if r.length / 2 < ref % 2 ^ 28 + 4 * field b (o + 8) 2 then some (r.base + max (ref % 2 ^ 28) (r.length / 2))
        else none
    else none

/-! ### The launch checks -/

/-- VALUE of FOOTPRINT and FEATURE_LEVEL: the Route and the image offset of the item. -/
def routeValue (id off : Nat) : Nat := id + off * 2 ^ 32

/-- The clusters of a footprint may run the context's Routes: neither isolated nor under test, and assigned to it (R168,
R176, R367). -/
def State.footprintOk (s : State) (c : Nat) (fp : BitVec 64) : Bool :=
  let cs := clustersOf fp
  !cs.isEmpty && (cs.all fun cl => !s.isolated cl) &&
    ((cs.all fun cl => decide (s.assign cl = c)) ||
     (s.attached c).any fun p => cs.all fun cl => decide (s.poolOf cl = some p))

/-- Loop role against CLUSTER_ROLE in Split placement (R441). -/
def State.roleBad (s : State) (g : Nat) (fp : BitVec 64) : Bool :=
  match s.loopLane g with
  | some (_, role) => decide (s.dget 0x2A00 2 = 1) && decide (role ≠ 0) &&
      (clustersOf fp).any fun cl => decide (s.dget 0x2A00 3 cl ≠ 0) && decide (s.dget 0x2A00 3 cl ≠ role)
  | none => false

/-- The member list of a step block, read and checked (R342). -/
def State.readMembers (s : State) (cmd c : Nat) (b : Bytes) : Except Fail (List Nat) :=
  let n := field b 20 2
  if n = 0 then .ok []
  else do
    let raw ← s.readFar cmd c (field b 8 8) (2 * n)
    let ids := (List.range n).map fun i => field raw (2 * i) 2
    match memberBad s.ownDevice ids with
    | none => .ok ids
    | some i => .error { status := stMalformed, value := i + 2 ^ 17
                         abort := ids.filter fun d => decide (d ≤ 4063) && decide (d ≠ s.ownDevice)
                         group := field b 16 4 }

/-- The checks of the ranges and signals a step block declares. -/
def State.checkDeclared (s : State) (c : Cmd) (p : Step) (b : Bytes) : Except Fail Unit := do
  let rs := p.ranges
  match rs.find? fun r => decide (2 ^ 52 ≤ r.base) with
  | some r => .error { status := stAddress, value := r.base }
  | none => .ok ()
  let inside := rs.any fun r => decide (r.kind = 1) && decide (r.base ≤ p.cruxRecord) && decide (p.cruxRecord + 32 ≤ r.base + r.length)
  ensure (!p.cruxEn || (inside && decide (p.cruxRecord < 2 ^ 52))) stAddress (field b 0 8)
  ensure (decide (field b 20 2 = 0) || decide (field b 8 8 < 2 ^ 52)) stAddress (field b 8 8)
  match p.signals.zipIdx.find? fun (x : Signal × Nat) => !s.mayUse c.ctx x.1.counter with
  | some x => .error { status := stPermission, value := 64 + 32 * rs.length + 16 * x.2 + 2 ^ 16 }
  | none => .ok ()
  match overlapOf p.seq.toNat rs with
  | some (i, j) => .error { status := stOverlap, value := i + 256 * j }
  | none => .ok ()

/-- The lane of a step and the resolution of its Routes (R418, R419). -/
def State.checkLane (s : State) (c : Cmd) (p : Step) : Except Fail Step := do
  let raw := (List.range (c.at 24 1)).map fun i => c.at (32 + 4 * i) 4
  let ad := s.admission c.ctx c.ring
  let side := ad.map fun x => x.2.side x.2.active
  let isRef := fun (r : Nat) => decide (0xFFFFFF00 ≤ r) && decide (r < 0xFFFFFF08)
  match side, raw.zipIdx.find? fun (x : Nat × Nat) => isRef x.1 with
  | none, some x => .error { status := stMalformed, value := 32 + 4 * x.2 }
  | _, _ => .ok ()
  match side with
  | some v =>
    let r := v.logRange
    ensure (decide (r = 0xFF) || decide (r < p.ranges.length)) stMalformed 25
    ensure (decide (r = 0xFF) || (p.ranges[r]?).any fun x => decide (x.kind = 1)) stMalformed (80 + 32 * r + 2 ^ 16)
  | none => .ok ()
  match raw.find? fun r => isRef r && decide (resolveRoute side r = 0) with
  | some r => .error { status := stNotStaged, value := r }
  | none => .ok ()
  let routes := raw.map (resolveRoute side)
  match ad with
  | some (l, v) => .ok { p with routes := routes, lane := some l, side := v.active, laneGen := v.gen }
  | none => .ok { p with routes := routes }

/-- The phase images of a step, in phase order, all staged (R196). -/
def State.checkStaged (s : State) (c : Nat) : List Nat → Except Fail (List Staged)
  | [] => .ok []
  | r :: rs => match s.stagedImage c r with
    | none => .error { status := stNotStaged, value := r }
    | some g => do
      let gs ← s.checkStaged c rs
      .ok (g :: gs)

/-- The checks of a step against its phase images. -/
def State.checkPhases (s : State) (c : Cmd) (p : Step) (gs : List Staged) : Except Fail Step := do
  let fp := match gs with | g :: _ => g.footprint | [] => 0
  match gs.find? fun g => decide (g.footprint ≠ fp) with
  | some g => .error { status := stFootprint, value := routeValue g.id 0xFFFFFFFF }
  | none => .ok ()
  let first := match gs with | g :: _ => g.id | [] => 0
  ensure (s.footprintOk c.ctx fp && !s.roleBad c.ring fp) stFootprint (routeValue first 0xFFFFFFFF)
  let ex := s.exTable c.ctx
  match exchangeBad ex p.routes p.members.length with
  | some r => .error { status := stFootprint, value := routeValue r 0xFFFFFFFF }
  | none => .ok ()
  match gs.find? fun g => decide (s.dget 0x5000 4 < imgFeature g.bytes) && !p.members.isEmpty with
  | some g => .error { status := stFeature, value := routeValue g.id 6 }
  | none => .ok ()
  ensure (!p.bitExact || !(gs.any fun g => hasStochastic g.bytes)) stMode 1
  match gs.findSome? fun g => streamBad g.bytes p.ranges with
  | some a => .error { status := stAddress, value := a }
  | none => .ok ()
  match gs.findSome? fun g => pilotBad g.bytes p.ranges with
  | some a => .error { status := stAddress, value := a }
  | none => .ok ()
  .ok { p with footprint := fp, exchanges := if p.routes.any fun r => ex.any fun e => decide (exTrigger e = r) then ex else [] }

/-- All checks of a launch: the step with what it latches, or the failure that completes it. -/
def State.launchChecks (s : State) (c : Cmd) (p : Step) : Except Fail Step := do
  let nr := c.at 25 1
  let ns := c.at 26 1
  let b ← s.readOr c.ctx (c.at 8 8) (64 + 32 * nr + 16 * ns)
  match lowest (blockBad b nr ns) with
  | some off => .error { status := stMalformed, value := off + 2 ^ 16 }
  | none => .ok ()
  let p := { p with
    ranges := blockRanges b nr, signals := blockSignals b nr ns, iterations := c.at 16 4
    cruxEn := bit (byteAt b 22) 0, cruxRecord := field b 0 8, groupId := field b 16 4
    srSeed := BitVec.ofNat 64 (if c.ctx = 256 then 0 else s.cget c.ctx 6 1)
    bitExact := decide (c.ctx = 256) || decide (s.cget c.ctx 6 2 = 1)
    escalate := decide (s.dget 0x2400 1 = 1), threshold := s.dget 0x2400 2 }
  s.checkDeclared c p b
  let ids ← s.readMembers c.id c.ctx b
  let p := { p with members := ids }
  ensure (ids.isEmpty || p.bitExact) stMode 2
  let p ← s.checkLane c p
  let gs ← s.checkStaged c.ctx p.routes
  s.checkPhases c p gs

/-! ### The start of an execution (R195, R196, R483) -/

/-- The Route that a step needs first is the one resident on its whole footprint. -/
def State.phaseResident (s : State) (p : Step) : Bool :=
  let id := p.routes.getD 0 0
  (clustersOf p.footprint).all fun cl => (s.resident cl).any fun r =>
    decide (r.ctx = p.ctx) && decide (r.id = id) && decide (r.footprint = p.footprint)

/-- A step that cannot activate a phase ends with a status, for every member of its group. -/
def State.refusePhase (s : State) (p : Step) (status value : Nat) : State :=
  (if p.launched then s.sendAbort p status 0 else s).failEnd p status value

/-- VALUE of NEAR_PROTECTION: core and slice offset. -/
def preloadValue (x : Nat × Nat) : Nat := x.1 + x.2 * 2 ^ 16

/-- Activates a phase of a step from staging; without its image the step ends with ROUTE_NOT_STAGED, with a preload that
would not reach its region with NEAR_PROTECTION (R213). The steering of phase 0 starts as it stood at the first launch. -/
def State.activatePhase (s : State) (p : Step) (k : Nat) : State :=
  let id := p.routes.getD k 0
  match s.stagedImage p.ctx id with
  | some g => match s.preloadFails p.ctx g.bytes with
    | some x => s.refusePhase p stNearProtection (preloadValue x)
    | none =>
      let s := s.activate p.ctx id g.address g.footprint g.bytes
      (if k = 0 then s.launchFootprint p.footprint p.launchSteer else s).setStep { p with phase := k, starting := false }
  | none => s.refusePhase p stNotStaged id

/-- READY messages of the step's attempt that came early (R487). -/
def State.takeEarly (s : State) (p : Step) : Step :=
  if p.members.isEmpty then p
  else match s.links.early.find? fun e => decide (e.ctx = p.ctx) && decide (e.group = p.groupId) with
    | some e => { p with
        readies := (e.readies.filter fun r => decide (r.1 = p.attempt % 256)).map fun r => (r.2.1, r.2.2.1, r.2.2.2)
        holding := (e.holding.filter fun r => decide (r.1 = p.attempt % 256)).map (·.2) }
    | none => p

/-- A step begins an attempt: on the Route resident there, its Idle clusters brought On (R85), or after phase 0 is
activated, with a Rappel of the Routes it replaces. -/
def State.beginAttempt (s : State) (p : Step) : State :=
  let p := s.takeEarly p
  let s := s.setStep p
  if s.phaseResident p then ((clustersOf p.footprint).foldl State.powerCluster s).launchFootprint p.footprint p.launchSteer
  else
    let olds := s.array.routes.filter fun r => !r.parked && overlaps r.footprint p.footprint
    if olds.isEmpty then s.activatePhase p 0
    else olds.foldl (fun s r => s.rappel r.footprint r.ctx (.launch p.cmd)) (s.setStep { p with starting := true })

/-- The attempt that a step runs next, with nothing of an earlier one. -/
def freshAttempt (p : Step) (attempt replays now phase : Nat) : Step :=
  { p with
    launched := true, latched := true, interfereNs := 0, launchTime := now, launchPhase := phase
    firstLaunch := if p.latched then p.firstLaunch else now
    attempt := attempt, replays := replays, phase := 0, crux := {}, deltaRecords := 0, deltaSaturated := 0
    ended := false, readySent := false, aborted := false, ending := none, prepared := [], appends := [], inserted := 0, triggered := false, trees := []
    nodes := [], relinks := []
    recordSent := false, readies := [], holding := [], truTotal := 0, truRemote := 0, truRows := 0, portsUsed := [], starting := false }

/-- An ABORT for the group that came before the launch: attempt, status and event (R483). -/
def State.earlyAbort (s : State) (p : Step) : Option (Nat × Nat × Nat) :=
  if p.members.isEmpty then none
  else (s.links.early.find? fun e => decide (e.ctx = p.ctx) && decide (e.group = p.groupId)).bind (·.abort)

/-- The VALUE of a completion that another member's ABORT brings: 0 where its status has no other, else one that the
chapters do not state. -/
def State.abortValue (s : State) (status : Nat) : Nat × State :=
  if status = stReset ∨ status = stStopped ∨ status = stDeviceReset then (0, s)
  else ((s.fresh.1).toNat, s.fresh.2)

/-- A step ends with the status of another member's ABORT. -/
def State.abortedEnd (s : State) (p : Step) (status : Nat) : State :=
  let v := s.abortValue status
  v.2.failEnd p status v.1

/-- The launch of a step whose checks have passed. -/
def State.startStep (s : State) (p : Step) : State :=
  let p := { p.settleGrant s.uptime with
    sliceFl := s.dget 0x5000 4, launchSteer := if s.phaseResident p then s.steering p.footprint else [] }
  match s.earlyAbort p with
  | none => s.beginAttempt (freshAttempt p p.attempt p.replays s.uptime s.phase)
  | some (a, 0, ev) =>
    if s.dget 0x2310 1 < a + 1 then (s.failEnd p 0x0F ev).startReset p.ctx 3
    else s.beginAttempt (freshAttempt p (a + 1) (a + 1) s.uptime s.phase)
  | some (_, st, _) => s.abortedEnd p st

/-- The failure of a launch completes the command; a bad member list is told to the group (R342). -/
def State.failLaunch (s : State) (p : Step) (f : Fail) : State :=
  let s := s.noteFail p.ctx f
  let s := f.abort.foldl (fun s d => s.groupMessage { p with groupId := f.group } 0x41 f.status 0 [] d) s
  s.failEnd p f.status f.value

/-- A LOAD_ROUTE waits for the grant of its pool: its load is not in progress (R180, R370). -/
def State.loadAwaitsGrant (s : State) (cmd : Nat) : Bool := (s.cmd cmd).any fun d => decide (d.stage = .grant)

/-- A Rappel or a load in progress stands on the footprint (R180, R200). -/
def State.footprintBlocked (s : State) (fp : BitVec 64) : Bool :=
  s.busy fp || (s.array.rappels.any fun r => overlaps r.footprint fp) ||
    (s.array.loads.any fun l => !l.stageOnly && overlaps l.footprint fp && !s.loadAwaitsGrant l.cmd) ||
    (s.array.evictions.any fun e => (s.routeOf e.2.2 e.2.1).any fun r => overlaps r.footprint fp)

/-- A step of the context that became ready earlier needs one of its clusters (R378). -/
def State.earlierReady (s : State) (p : Step) : Bool :=
  s.steps.any fun q => decide (q.ctx = p.ctx) && !q.launched && decide (q.cmd ≠ p.cmd) &&
    overlaps q.footprint p.footprint && !(s.laneHolds q.ctx q.ring) && !s.hangHolds q &&
    (decide (q.readyTime < p.readyTime) || (decide (q.readyTime = p.readyTime) && decide (q.ring < p.ring)))

/-- The limit of STEP_REPLAY_LIMIT has been reached (R45, R586). -/
def State.atLimit (s : State) (p : Step) : Bool := decide (s.dget 0x2310 1 ≤ p.replays - p.trialReplays)

/-- The last failure ends the step and resets its context (R45). -/
def State.limitEnd (s : State) (p : Step) (status value : Nat) : State :=
  (s.failEnd p status value).startReset p.ctx 3

/-- The next attempt of a step begins, ns of an attempt discarded; one that another member has already aborted is passed over
(R42, R483). -/
def State.nextAttempt (s : State) (p : Step) (ns : Nat) : State :=
  let go := fun (n : Nat) (s : State) =>
    s.beginAttempt { freshAttempt p (p.attempt + n) (p.replays + n) s.uptime s.phase with replayNs := p.replayNs + ns }
  match s.earlyAbort p with
  | none => go 1 s
  | some (a, st, ev) =>
    if a ≤ p.attempt then go 1 s
    else if st = 0 then
      let n := a + 1 - p.attempt
      if s.dget 0x2310 1 < p.replays - p.trialReplays + n then s.limitEnd p 0x0F ev else go n s
    else s.abortedEnd p st

/-- A ready step may launch (R376, R378, R422, R585). -/
def State.canLaunch (s : State) (p : Step) : Bool :=
  let pooled := match s.poolOfFootprint p.footprint with | some _ => s.holdsGrant p.ctx | none => true
  s.serving && !s.dev.hostReset && !p.launched && !p.ended && pooled && !s.footprintBlocked p.footprint &&
    (p.latched || !s.laneHolds p.ctx p.ring) && !s.hangHolds p && !s.earlierReady p

/-- What the reads of a step block and of its member list leave in the caches and the stacks (R85, R238). -/
def State.blockSeen (s : State) (c : Cmd) : State :=
  let s' := s.accessed otherUnit c.ctx (c.at 8 8) (64 + 32 * c.at 25 1 + 16 * c.at 26 1)
  match s.read c.ctx (c.at 8 8) 64 with
  | .ok b => if field b 20 2 = 0 then s' else s'.accessed otherUnit c.ctx (field b 8 8) (2 * field b 20 2)
  | _ => s'

/-- A launch whose checks need bytes of the Remote window asks for them; it goes on once they have come (R342, R475). -/
def State.awaitList (s : State) (c : Cmd) (p : Step) (ask : Nat × Nat) : State :=
  let s := s.ask c.ctx c.id ask.1 ask.2
  match s.fetched c.id ask.1 with
  | some (.miss m) => s.failLaunch p (failMiss m)
  | _ => s

/-- The launch of a ready step: its checks, or, for a step that a hang search kept, its relaunch (R586). -/
def State.launch (s : State) (c : Cmd) (p : Step) : State :=
  if p.latched then s.nextAttempt { p with trialReplays := p.trialReplays + 1 } (s.uptime - p.launchTime)
  else match s.launchChecks c p with
    | .ok p => ((s.blockSeen c).dropFetches c.id).startStep p
    | .error f => match f.ask with
      | some a => s.awaitList c p a
      | none => (s.blockSeen c).failLaunch p f

/-! ### Replay (R41-R45, R339) -/



/-- The discarded attempt is charged to no one, and the next begins (R42, R380). -/
def State.relaunch (s : State) (p : Step) : State :=
  let ns := s.uptime - p.launchTime
  let s := s.chargeReplay p.ctx (chargeOf p.footprint ns)
  (((s.endHalts p).dropExchanges p.cmd).discardWritten p).nextAttempt p ns

/-- A step discarded by a hang search is kept for its trial (R585). -/
def State.keepHeld (s : State) (p : Step) : State :=
  let ns := s.uptime - p.launchTime
  let s := s.chargeReplay p.ctx (chargeOf p.footprint ns)
  let s := ((s.endHalts p).dropExchanges p.cmd).discardWritten p
  s.setStep { p with launched := false, ending := none, ended := false, aborted := false }

/-- What a reset in force makes of a step whose attempt has failed: the status of its ABORT and its outcome (R570, R571, R574,
R593). -/
def State.resetOutcome (s : State) (c : Nat) : Option (Nat × Ending) :=
  if s.dev.hostReset then some (stDeviceReset, .silent)
  else if s.fenced c then some (stReset, .status stReset 0)
  else if s.dev.mode = .recovery then some (stDeviceReset, .status stDeviceReset 0)
  else none

/-- The end of a step in a reset: no completion is written while the Host Interface is in reset (R570). -/
def State.endInReset (s : State) (p : Step) (e : Ending) : State :=
  match e with
  | .status code value => if s.dev.hostReset then s.silentEnd p else s.failEnd p code value.toNat
  | _ => s.silentEnd p

/-- A step whose attempt has failed is settled at quiescence: its end stands, and a replay or a hang search's hold gives way to
a reset that has begun meanwhile (R571). -/
def State.settleEnding (s : State) (p : Step) : State :=
  match p.ending, s.resetOutcome p.ctx with
  | none, _ => s
  | some (.status code value), _ => s.endInReset p (.status code value)
  | some .silent, _ => s.silentEnd p
  | some _, some x => (s.sendAbort p.live x.1 0).endInReset p x.2
  | some (.replay event), none => if s.atLimit p then s.limitEnd p 0x0F event else s.relaunch p
  | some (.damaged addr), none => if s.atLimit p then s.limitEnd p stData addr else s.relaunch p
  | some .held, none => s.keepHeld p

end Sys2Proof.Machine
end

