-- ==== Sys2Proof/Machine/Remote.lean ====
section
/-! DEFINITION. The accesses of a step's units: damaged data that a step reads, and its reads and writes in every window
(R45, R221, R252, R343, R476). -/

namespace Sys2Proof.Machine

/-! ### Damaged data read by a step (R45, R221, R252) -/

/-- How a damaged line ends an attempt: replay when the step itself wrote it after its launch, else a data error
that fails again. -/
def State.damageEnding (s : State) (p : Step) (va : Nat) : Ending :=
  match s.place p.ctx va false with
  | .ok (.near a) => if tfind s.near.written (a / 65536) = some p.cmd then .replay 1 else .damaged va
  | .ok (.bulk a) =>
    if tfind s.bulk.written (a / 64) = some p.cmd then .replay 2 else .damaged va
  | _ => .damaged va

/-- A step fails on a damaged line. -/
def State.stepDamage (s : State) (p : Step) (va : Nat) : State :=
  let s := s.noteDamage p.ctx va
  match s.damageEnding p va with
  | .replay e => s.replayStep p e
  | e =>
    if p.ending.isSome then s
    else (if p.launched then s.sendAbort p 0 0 else s).failStep p e (.replay p.cmd)

/-- A step ends with TRANSLATION; a write that meets an isolated cluster's region meets an uncorrectable line (R590). -/
def State.stepMiss (s : State) (p : Step) (m : Miss) : State :=
  if m.kind = 0 then s.stepDamage p m.va
  else (s.noteMiss p.ctx m).endStep p stTranslation (BitVec.ofNat 64 (missValue m))

/-- What an access of a step's unit answers, or the state in which the step has failed. -/
def State.stepGot (s : State) (p : Step) : Access Bytes → Except State Bytes
  | .ok bs => .ok bs
  | .miss m => .error (s.stepMiss p m)
  | .damaged a => .error (s.stepDamage p a)

/-- Reads for a step's unit; of the Remote window what has been fetched for the step. -/
def State.stepRead (s : State) (p : Step) (va n : Nat) : Except State Bytes :=
  s.stepGot p (((if windowOf va = 3 then s.fetched p.cmd va else none)).getD ((s.ownView p.cmd).read p.ctx va n))

/-- Writes for a step's unit; to the Remote window they go out as WRITEs, which the step flushes before its commit
(R343, R476). -/
def State.stepWrite (s : State) (p : Step) (va : Nat) (bs : Bytes) : Except State State :=
  if windowOf va = 3 then
    let (d, off) := remoteOf va
    match s.remoteWrite p.ctx d off bs with
    | (s, us, true) =>
      .ok (match s.step? p.cmd with
        | some p => s.setStep { p with portsUsed := (p.portsUsed ++ us).dedup }
        | none => s)
    | (s, _, false) => .error (s.stepMiss p (unreachable va))
  else match s.writes p.ctx (some p.cmd) va bs with
    | (s, none) => .ok s
    | (s, some m) => .error (s.stepMiss p m)

end Sys2Proof.Machine
end

