-- ==== Sys2Proof/Machine/Tru.lean ====
section
/-! DEFINITION. The Traverse Unit: choices, counts, offsets, dispatches and returns (R444-R463). -/

namespace Sys2Proof.Machine

/-! ### Fields of an exchange descriptor (R450) -/

def exMode (r : Bytes) : Nat := byteAt r 1
def exK (r : Bytes) : Nat := byteAt r 2
def exE (r : Bytes) : Nat := byteAt r 3
def exLayer (r : Bytes) : Nat := field r 4 2
def exPad (r : Bytes) : Nat := field r 6 2
def exTokens (r : Bytes) : Nat := field r 16 2
def exSlotRows (r : Bytes) : Nat := field r 18 2
def exRowBytes (r : Bytes) : Nat := field r 20 4
def exSrc (r : Bytes) : Nat := field r 24 8
def exIds (r : Bytes) : Nat := field r 32 8
def exScores (r : Bytes) : Nat := field r 40 8
def exDst (r : Bytes) : Nat := field r 48 8
def exChoiceOut (r : Bytes) : Nat := field r 56 8
def exMap (r : Bytes) : Nat := field r 64 8

/-- An address of the Near or Bulk window, aligned. -/
def exAddr (a align : Nat) : Bool := decide (a < 2 ^ 44) && decide (a % align = 0)

/-- A record meets the ranges of R450. -/
def exRecordOk (r : Bytes) : Bool :=
  let lane := fun (v : Nat) => decide (v < 0xFFFFFF00)
  let common := decide (r.length = 128) && lane (exTrigger r) && lane (exGate r) && (r.drop 73).all (fun b => decide (b = 0)) &&
    decide (exRowBytes r % 64 = 0) && decide (64 ≤ exRowBytes r) && decide (exRowBytes r ≤ 16384) &&
    exAddr (exSrc r) 64 && exAddr (exDst r) 64
  if exTrigger r = 0 ∧ decide (r.length = 128) then true
  else if exDir r = 0 then
    common && decide (exMode r ≤ 1) && decide (1 ≤ exK r) && decide (exK r ≤ 8) && decide (1 ≤ exE r) &&
    decide (exE r ≤ 64) && decide (exK r ≤ exE r) && (decide (exMode r = 1) || decide (exK r = 1)) &&
    (decide (exMode r = 0) || decide (exLayer r = 0)) &&
    ([1, 2, 4, 8, 16, 32, 64, 128, 256].contains (exPad r)) &&
    decide (1 ≤ exTokens r) && decide (exTokens r ≤ 16384) && decide (exTokens r * exK r ≤ 65536) &&
    decide (1 ≤ exSlotRows r) && decide (exSlotRows r ≤ 16384) && decide (exSlotRows r % exPad r = 0) &&
    exAddr (exIds r) 64 && exAddr (exMap r) 64 && exAddr (exChoiceOut r) 8 &&
    (if exMode r = 1 then exAddr (exScores r) 64 else decide (exScores r = 0)) && decide (exPair r = 0xFF)
  else
    common && decide (exDir r = 1) && decide (field r 1 3 = 0) && decide (field r 4 4 = 0) &&
    decide (field r 16 4 = 0) && decide (exIds r = 0) && decide (exScores r = 0) && decide (exChoiceOut r = 0) &&
    decide (exMap r = 0) && decide (exPair r < 32)

/-- A write of a TRU_EXCHANGES record (R450). -/
def State.writeExchange (s : State) (c e : Nat) (r : Bytes) : Written :=
  if exRecordOk r then
    ({ s with tru := { s.tru with table := tset (leBytes 128 0) s.tru.table (c * 32 + e) r } }, kOk)
  else (s, kRange)

/-! ### Choices (R445-R447) -/

/-- Order of FP32 scores: NaN lowest, the two zeros equal. -/
def scoreRank (v : BitVec 32) : Int :=
  let m := (v.setWidth 31).toNat
  if 0x7F800000 < m then -(2 ^ 40) else if v.getLsbD 31 then -(m : Int) else m

def isNanScore (v : BitVec 32) : Bool := decide (0x7F800000 < (v.setWidth 31).toNat)

/-- Expert a comes before expert b for a token of rotation rho. -/
def beats (e rho : Nat) (a b : Nat × BitVec 32) : Bool :=
  decide (scoreRank b.2 < scoreRank a.2) ||
  (decide (scoreRank a.2 = scoreRank b.2) && decide ((a.1 + e - rho) % e < (b.1 + e - rho) % e))

/-- The first of the candidates in the order of R446 and R447. -/
def bestScore (e rho : Nat) : List (Nat × BitVec 32) → Option (Nat × BitVec 32)
  | [] => none
  | a :: as => match bestScore e rho as with
    | none => some a
    | some b => if beats e rho b a then some b else some a

/-- The K choices among the candidates, and how many the rotation decided. -/
def chooseK (e rho : Nat) : Nat → List (Nat × BitVec 32) → List (Nat × BitVec 32) × Nat
  | 0, _ => ([], 0)
  | k + 1, cs => match bestScore e rho cs with
    | none => ([], 0)
    | some a =>
      let rest := cs.filter fun b => decide (b.1 ≠ a.1)
      let tie := rest.any fun b => decide (scoreRank b.2 = scoreRank a.2)
      let (as, n) := chooseK e rho k rest
      (a :: as, n + b2n tie)

/-- Expert of a token in HASH mode. -/
def hashExpert (r : Bytes) (t : BitVec 32) : Nat :=
  (mix32 (t ^^^ mix32 (BitVec.ofNat 32 (exLayer r)))).toNat % max 1 (exE r)

/-- Choices of the tokens, from their IDs and scores, in token and rank order, with the ties decided. -/
def choicesOf (r ids scores : Bytes) : List Choice × Nat :=
  let e := exE r
  let per := (List.range (exTokens r)).map fun n =>
    let t := BitVec.ofNat 32 (field ids (4 * n) 4)
    if exMode r = 0 then ([{ expert := hashExpert r t, nan := false, weight := 0x3F800000 : Choice }], 0)
    else
      let cs := (List.range e).map fun i => (i, BitVec.ofNat 32 (field scores ((n * e + i) * 4) 4))
      let (as, k) := chooseK e ((mix32 t).toNat % max 1 e) (exK r) cs
      (as.map fun (a : Nat × BitVec 32) =>
        { expert := a.1, nan := isNanScore a.2, weight := a.2.toNat : Choice }, k)
  (per.flatMap (·.1), (per.map (·.2)).foldl (· + ·) 0)

/-- c[e] of R453. -/
def histogram (e : Nat) (cs : List Choice) : List Nat :=
  (List.range e).map fun i => (cs.filter fun c => decide (c.expert = i)).length

/-! ### Maps, offsets and drops (R449, R454, R455) -/

/-- Expert map: device and slot of each expert. -/
def mapOf (e : Nat) (b : Bytes) : List (Nat × Nat) := (List.range e).map fun i => (field b (4 * i) 2, byteAt b (4 * i + 2))

/-- The map meets R449. -/
def mapOk (members : List Nat) (e : Nat) (b : Bytes) : Bool :=
  let m := mapOf e b
  (m.all fun x => members.contains x.1 && decide (x.2 < 64)) && decide ((m.map fun (x : Nat × Nat) => x.1).dedup.length ≤ 8) &&
  decide m.Nodup

/-- Sum of the counts of an expert over the members before one. -/
def offsetOf (counts : List (Nat × List Nat)) (own e : Nat) : Nat :=
  ((counts.filter fun x => decide (x.1 < own)).map fun x => x.2.getD e 0).foldl (· + ·) 0

/-- R[e]: the sum over all members. -/
def totalOf (counts : List (Nat × List Nat)) (e : Nat) : Nat :=
  (counts.map fun x => x.2.getD e 0).foldl (· + ·) 0

/-- Numbers of the choices of each expert, in order. -/
def positions (first : Nat → Nat) : List Choice → List Nat → List Choice
  | [], _ => []
  | c :: cs, seen =>
    let k := (seen.filter fun e => decide (e = c.expert)).length
    { c with position := first c.expert + k } :: positions first cs (c.expert :: seen)

/-- Rows of a member that land in an expert's slot: its first position, and one past its last, cut at SLOT_ROWS. -/
def keptRows (r : Bytes) (counts : List (Nat × List Nat)) (d e : Nat) : Nat :=
  let first := offsetOf counts d e
  let n := ((counts.find? fun x => decide (x.1 = d)).map fun x => x.2.getD e 0).getD 0
  min n (exSlotRows r - first)

/-- A choice record (R448). -/
def choiceBytes (r : Bytes) (c : Choice) : Bytes :=
  leBytes 1 c.expert ++ leBytes 1 (b2n (decide (exSlotRows r ≤ c.position)) + 2 * b2n c.nan) ++ leBytes 2 c.position ++
    leBytes 4 c.weight

/-! ### Exchanges as records -/

def State.exchange (s : State) (i : Nat) : Option Exchange := s.tru.exchanges.find? fun e => decide (e.serial = i)

def State.setExchange (s : State) (e : Exchange) : State :=
  { s with tru := { s.tru with exchanges := s.tru.exchanges.map fun x => if x.serial = e.serial then e else x } }

/-- Exchanges in progress on the device (R459). -/
def State.exchangesOn (s : State) : Nat :=
  (s.tru.exchanges.filter fun e => decide (e.stage = .gathering) || decide (e.stage = .moving)).length

/-- Members of the exchanges of a step (R452). -/
def State.exMembers (s : State) (p : Step) : List Nat := if p.members.isEmpty then [s.ownDevice] else p.members

/-- The COUNTS and ANNOUNCE messages of an exchange that came early. -/
def State.takeNotes (s : State) (p : Step) (e : Exchange) : Exchange :=
  let mine := s.links.notes.filter fun n => decide (n.ctx = p.ctx) && decide (n.group = p.groupId) &&
    decide (n.attempt = p.attempt % 256) && decide (n.desc = e.desc) && decide (n.run = e.run)
  { e with
    counts := e.counts ++ (mine.filter fun n => decide (n.type = 0x42)).map fun n =>
      (n.src, (List.range (exE e.record)).map fun i => field n.data (4 * i) 4)
    announced := e.announced ++ (mine.filter fun n => decide (n.type = 0x43)).map (·.src) }

/-- A read of a step's Traverse Unit: it goes through the caches and reaches the stacks, a damaged line's too (R85, R238,
R257). -/
def State.truRead (s : State) (p : Step) (va n : Nat) : Except State (State × Bytes) := do
  let s := s.accessed otherUnit p.ctx va n
  let b ← s.stepRead p va n
  .ok (s, b)

/-- A dispatch begins: choices, histogram and the count exchange (R453 steps 1-3). -/
def State.beginDispatch (s : State) (p : Step) (e : Exchange) : Except State State := do
  let r := e.record
  let members := s.exMembers p
  let (s, map) ← s.truRead p (exMap r) (4 * exE r)
  if !mapOk members (exE r) map then
    .error (s.endStep p stFootprint (BitVec.ofNat 64 (routeValue (exTrigger r) 0xFFFFFFFF)))
  else
    let (s, ids) ← s.truRead p (exIds r) (4 * exTokens r)
    let (s, scores) ← if exMode r = 1 then s.truRead p (exScores r) (4 * exTokens r * exE r) else .ok (s, [])
    let (cs, ties) := choicesOf r ids scores
    let own := histogram (exE r) cs
    let s := s.cbump p.ctx 14 5 64 ties
    let e := s.takeNotes p { e with stage := .gathering, choices := cs, map := mapOf (exE r) map, ties := ties
                                    counts := (s.ownDevice, own) :: e.counts }
    let s := s.groupCast p 0x42 0 (e.desc + 256 * (e.run % 256)) (own.flatMap (leBytes 4))
    .ok (s.setExchange e)

/-- A return begins: it announces the end of its triggering phase (R457). -/
def State.beginReturn (s : State) (p : Step) (e : Exchange) : Except State State :=
  let e := s.takeNotes p { e with stage := .gathering, announced := s.ownDevice :: e.announced }
  .ok ((s.groupCast p 0x43 0 (e.desc + 256 * (e.run % 256)) []).setExchange e)

def State.beginExchange (s : State) (e : Exchange) : State :=
  match s.step? e.cmd with
  | none => s
  | some p => match (if exDir e.record = 0 then s.beginDispatch p e else s.beginReturn p e) with
    | .ok s => s
    | .error s => s

/-- An earlier run of the exchange is not complete on this device (R462). -/
def State.earlierRun (s : State) (e : Exchange) : Bool :=
  s.tru.exchanges.any fun x => decide (x.cmd = e.cmd) && decide (x.desc = e.desc) && decide (x.run < e.run) &&
    decide (x.stage ≠ .done)

/-- An exchange that waits may begin: its step has not failed, and no earlier run of it is under way. -/
def State.mayBegin (s : State) (e : Exchange) : Bool :=
  ((s.step? e.cmd).any fun p => p.ending.isNone) && !s.earlierRun e

/-- Queued exchanges begin, in order of trigger, while fewer than 8 are in progress (R459). -/
def State.startQueued (s : State) : Nat → State
  | 0 => s
  | n + 1 =>
    if 8 ≤ s.exchangesOn then s
    else match s.tru.exchanges.find? fun e => decide (e.stage = .queued) && s.mayBegin e with
      | none => s
      | some e => (s.beginExchange e).startQueued n

/-- An exchange of a descriptor starts for a step (R451); a return follows the dispatch of its PAIR that the step started
last (R457). -/
def State.triggerExchange (s : State) (p : Step) (d : Nat) (r : Bytes) : State :=
  let run := (s.tru.exchanges.filter fun x => decide (x.cmd = p.cmd) && decide (x.desc = d)).length
  let pair := (s.tru.exchanges.filter fun x => decide (x.cmd = p.cmd) && decide (x.desc = exPair r)).getLast?
  let e : Exchange := { serial := s.tru.nextSerial, cmd := p.cmd, ctx := p.ctx, desc := d, run := run, record := r
                        moved := s.phase, pair := if exDir r = 1 then pair.map (·.serial) else none }
  { s with tru := { s.tru with exchanges := s.tru.exchanges ++ [e], nextSerial := s.tru.nextSerial + 1 } }

/-- While 8 exchanges are in progress, those that wait are counted, each once: the ones triggered from a serial number on, and
those that could begin but for that (R459, R463). -/
def State.countQueued (s : State) (first : Nat) : State :=
  let waits := fun (e : Exchange) =>
    decide (e.stage = .queued) && !e.waited && (decide (first ≤ e.serial) || s.mayBegin e)
  if 8 ≤ s.exchangesOn then
    ({ s with tru := { s.tru with exchanges := s.tru.exchanges.map fun e => if waits e then { e with waited := true } else e } } :
      State).dbump 0x30C0 3 0 32 (s.tru.exchanges.filter waits).length
  else s

/-- Queued exchanges begin, and those that go on waiting because 8 are in progress are counted (R459, R463). -/
def State.nextExchanges (s : State) : State := (s.startQueued 9).countQueued s.tru.nextSerial

/-- The exchanges that the end of a phase's Route starts (R451). -/
def State.triggerExchanges (s : State) (p : Step) (route : Nat) : State :=
  let due := p.exchanges.zipIdx.filter fun (x : Bytes × Nat) => decide (exTrigger x.1 ≠ 0) && decide (exTrigger x.1 = route)
  let first := s.tru.nextSerial
  let s := due.foldl (fun s x => s.triggerExchange p x.2 x.1) s
  (s.startQueued 9).countQueued first

/-- A gated phase of a step waits for an exchange (R451). -/
def State.gated (s : State) (p : Step) (route : Nat) : Bool :=
  s.tru.exchanges.any fun e => decide (e.cmd = p.cmd) && decide (exGate e.record = route) && decide (e.stage ≠ .done)

/-- Every exchange of a step is complete. -/
def State.exchangesDone (s : State) (cmd : Nat) : Bool :=
  s.tru.exchanges.all fun e => decide (e.cmd ≠ cmd) || decide (e.stage = .done)

/-! ### Rows of a dispatch (R453 steps 4-7, R456) -/

/-- Address of a row of a receive slot. -/
def slotRow (r : Bytes) (slot row : Nat) : Nat := exDst r + 1024 + (slot * exSlotRows r + row) * exRowBytes r

/-- Row bytes that other members send into the slots of a device. -/
def expectedBytes (own : Nat) (e : Exchange) : Nat :=
  (e.map.zipIdx.map fun (x : (Nat × Nat) × Nat) =>
    if x.1.1 = own then
      ((e.counts.filter fun y => decide (y.1 ≠ own)).map fun y => keptRows e.record e.counts y.1 x.2).foldl (· + ·) 0 *
        exRowBytes e.record
    else 0).foldl (· + ·) 0

/-- The header entry and padding rows of a hosted expert's slot. -/
def State.fillSlot (s : State) (p : Step) (e : Exchange) (slot expert : Nat) : Except State State := do
  let r := e.record
  let total := totalOf e.counts expert
  let rows := min total (exSlotRows r)
  let padded := if rows = 0 then 0 else (rows + exPad r - 1) / exPad r * exPad r
  let head := leBytes 4 rows ++ leBytes 4 padded ++ leBytes 4 (total - rows) ++ leBytes 2 (padded / exPad r) ++ leBytes 2 0
  let s ← s.stepWrite p (exDst r + 16 * slot) head
  let s ← s.stepWrite p (slotRow r slot rows) (leBytes ((padded - rows) * exRowBytes r) 0)
  .ok (s.cbump p.ctx 14 3 64 (padded - rows))

/-- The receive area's 64 header entries, with the padding of hosted slots. -/
def State.fillSlots (s : State) (p : Step) (e : Exchange) : List Nat → Except State State
  | [] => .ok s
  | k :: ks => do
    let s ← match e.map.findIdx? fun x => decide (x = (s.ownDevice, k)) with
      | some i => s.fillSlot p e k i
      | none => s.stepWrite p (exDst e.record + 16 * k) (leBytes 16 0)
    s.fillSlots p e ks

/-- The rows of a member's tokens, one after another. -/
def State.gatherRows (s : State) (p : Step) (r : Bytes) : List Nat → Except State (State × Bytes)
  | [] => .ok (s, [])
  | n :: ns => do
    let (s, row) ← s.truRead p (exSrc r + n * exRowBytes r) (exRowBytes r)
    let (s, rest) ← s.gatherRows p r ns
    .ok (s, row ++ rest)

/-- Sends the rows of an expert as one contiguous run to its slot: copied locally, or written to the hosting device; the
ports used and the bytes sent to others (R453 steps 5 and 6). A choice beyond the slot is dropped and counted (R455). -/
def State.moveExpert (s : State) (p : Step) (e : Exchange) (k : Nat) : Except State (State × List Nat × Nat) := do
  let r := e.record
  let mine := e.choices.zipIdx.filter fun x => decide (x.1.expert = k)
  let kept := mine.filter fun x => decide (x.1.position < exSlotRows r)
  let s := s.cbump p.ctx 14 4 64 (mine.length - kept.length)
  match kept with
  | [] => .ok (s, [], 0)
  | x :: _ =>
    let (s, rows) ← s.gatherRows p r (kept.map fun x => x.2 / exK r)
    let (d, slot) := e.map.getD k (0, 0)
    let a := slotRow r slot x.1.position
    if d = s.ownDevice then
      let s ← s.stepWrite p a rows
      .ok (s, [], 0)
    else match s.remoteWrite p.ctx d (a % 2 ^ 40) rows with
      | (s, us, true) => .ok (s, us, rows.length)
      | (s, _, false) => .error (s.stepMiss p (unreachable (2 ^ 45 + d * 2 ^ 40 + a % 2 ^ 40)))

/-- Every row of a dispatch, by destination member and expert, with the ports used and the bytes sent to others. -/
def State.moveRows (s : State) (p : Step) (e : Exchange) : List Nat → Except State (State × List Nat × Nat)
  | [] => .ok (s, [], 0)
  | k :: ks => do
    let (s, us, n) ← s.moveExpert p e k
    let (s, vs, m) ← s.moveRows p e ks
    .ok (s, us ++ vs, n + m)

/-- Experts of an exchange by the member that hosts them, members in ascending order. -/
def byMember (members : List Nat) (map : List (Nat × Nat)) : List Nat :=
  members.flatMap fun d => (map.zipIdx.filter fun x => decide (x.1.1 = d)).map (·.2)

/-- Ports and counts that an exchange adds to its step. -/
def State.addExchange (s : State) (cmd : Nat) (ports : List Nat) (total remote rows : Nat) : State :=
  match s.step? cmd with
  | none => s
  | some p => s.setStep { p with portsUsed := (p.portsUsed ++ ports).dedup, truTotal := p.truTotal + total
                                 truRemote := p.truRemote + remote, truRows := p.truRows + rows }

/-- The counts of every member are held: positions, choice records, headers, padding and rows. The rows written to other
members are flushed, so that a refused write is known (R461, R476; log 51). -/
def State.dispatchRows (s : State) (p : Step) (e : Exchange) : Except State State := do
  let r := e.record
  let cs := positions (offsetOf e.counts s.ownDevice) e.choices []
  let e := { e with choices := cs, stage := .moving }
  let s ← s.stepWrite p (exChoiceOut r) (cs.flatMap (choiceBytes r))
  let s ← s.fillSlots p e (List.range 64)
  let (s, us, n) ← s.moveRows p e (byMember (s.exMembers p) e.map)
  let s := s.flushPorts p.ctx us.dedup (.exchangeFlush e.serial)
  let kept := (cs.filter fun c => decide (c.position < exSlotRows r)).length
  .ok ((s.setExchange e).addExchange p.cmd us 0 n kept)

/-- The exchange of a row may go on: its step executes and has not failed. -/
def State.liveExchange (s : State) (i : Nat) (stage : ExStage) (dir : Nat) : Option (Exchange × Step) :=
  match s.exchange i with
  | none => none
  | some e => match s.step? e.cmd with
    | none => none
    | some p => if e.stage = stage ∧ exDir e.record = dir ∧ p.launched ∧ p.ending.isNone then some (e, p) else none

/-- DISPATCH_COUNTS_COMPLETE (R453, R454). -/
def execDispatchCountsComplete (exchange : Nat) (s : State) : Host.Outcome State Fault Refusal :=
  .next (match s.liveExchange exchange .gathering 0 with
    | none => s
    | some (e, p) =>
      if (s.exMembers p).all fun d => e.counts.any fun x => decide (x.1 = d) then
        match s.dispatchRows p e with
        | .ok s => s
        | .error s => s
      else s)

/-- An exchange is complete on this device: it counts for its step, and the next in the queue begins. -/
def State.exchangeDone (s : State) (e : Exchange) : State :=
  ((s.setExchange { e with stage := .done }).addExchange e.cmd [] 1 0 0).nextExchanges

/-- DISPATCH_COMPLETE (R453 step 7). -/
def execDispatchComplete (exchange : Nat) (s : State) : Host.Outcome State Fault Refusal :=
  .next (match s.liveExchange exchange .moving 0 with
    | none => s
    | some (e, _) => if expectedBytes s.ownDevice e ≤ e.progress then s.exchangeDone e else s)

/-! ### Returns (R457) -/

/-- The dispatch whose choices a return follows, once it is complete. -/
def State.pairOf (s : State) (e : Exchange) : Option Exchange :=
  s.tru.exchanges.find? fun x => decide (e.pair = some x.serial) && decide (x.stage = .done)

/-- Brings back the row of one choice: zero, copied, or asked of the hosting device. -/
def State.fetchRow (s : State) (p : Step) (e d : Exchange) (i : Nat) (c : Choice) : Except State (State × Nat × Nat) := do
  let r := e.record
  let rb := exRowBytes r
  let dst := exDst r + i * rb
  if exSlotRows d.record ≤ c.position then
    let s ← s.stepWrite p dst (leBytes rb 0)
    .ok (s, 0, 0)
  else
    let (dev, slot) := d.map.getD c.expert (0, 0)
    let src := exSrc r + (slot * exSlotRows d.record + c.position) * rb
    if dev = s.ownDevice then
      let (s, row) ← s.truRead p src rb
      let s ← s.stepWrite p dst row
      .ok (s, 0, 0)
    else match s.remoteRead p.ctx dev (src % 2 ^ 40) rb (fun pos => .exchangeRead e.serial (dst + pos)) with
      | (s, k, true) => .ok (s, k, rb)
      | (s, _, false) => .error (s.stepMiss p (unreachable (2 ^ 45 + dev * 2 ^ 40 + src % 2 ^ 40)))

/-- Every row of a return, with the requests outstanding and the bytes asked of others. -/
def State.fetchRows (s : State) (p : Step) (e d : Exchange) : List (Choice × Nat) → Except State (State × Nat × Nat)
  | [] => .ok (s, 0, 0)
  | (c, i) :: cs => do
    let (s, k, n) ← s.fetchRow p e d i c
    let (s, l, m) ← s.fetchRows p e d cs
    .ok (s, k + l, n + m)

/-- RETURN_ANNOUNCED: every announcement is held, so the rows are read (R457). -/
def execReturnAnnounced (exchange : Nat) (s : State) : Host.Outcome State Fault Refusal :=
  .next (match s.liveExchange exchange .gathering 1 with
    | none => s
    | some (e, p) => match s.pairOf e with
      | none => s
      | some d =>
        if (s.exMembers p).all e.announced.contains then
          match s.fetchRows p e d d.choices.zipIdx with
          | .ok (s, k, n) => (s.setExchange { e with stage := .moving, outstanding := k }).addExchange p.cmd [] 0 n 0
          | .error s => s
        else s)

/-- RETURN_COMPLETE: all rows are written. -/
def execReturnComplete (exchange : Nat) (s : State) : Host.Outcome State Fault Refusal :=
  .next (match s.liveExchange exchange .moving 1 with
    | none => s
    | some (e, _) => if e.outstanding = 0 then s.exchangeDone e else s)

end Sys2Proof.Machine
end

