-- ==== Sys2Proof/Machine/Serve.lean ====
section
/-! DEFINITION. The service of remote accesses at their target, and their wait for a frozen cluster (R276, R474-R476). -/

namespace Sys2Proof.Machine

/-- First offset of the sync counters in a device's window. -/
def counterBase : Nat := 0xFFFFF80000

/-- The kind of a fault met by a remote access (Table: Remote fault kinds). -/
def remoteKind (m : Miss) : Nat := if m.kind = 2 then 2 else 1

/-- What refuses an access of the sync counters: kind 5 is a counter that the context does not own, be it SYS (R475). -/
def State.counterRefuses (s : State) (c a n : Nat) : Option Nat :=
  if n ≠ 8 ∨ a % 8 ≠ 0 then some 3
  else if s.ownerOf ((a - counterBase) / 8) = c then none else some 5

/-- n bytes from an address: bytes of a damaged line are free values, and the answer is poisoned. -/
def State.readPoison (s : State) (c va : Nat) : Nat → Except Nat (Bytes × Bool × State)
  | 0 => .ok ([], false, s)
  | n + 1 =>
    let r := match s.readByte c va with
      | .ok b => Except.ok (b, false, s)
      | .miss m => .error (remoteKind m)
      | .damaged _ => .ok (s.fresh.1.setWidth 8, true, s.fresh.2)
    match r with
    | .error k => .error k
    | .ok (b, bad, s) => match s.readPoison c (va + 1) n with
      | .ok (bs, bad', s) => .ok (b :: bs, bad || bad', s)
      | .error k => .error k

/-- The step whose returns other members read here: a row of it in the source area of a return of its own (R457). -/
def State.returnOf (s : State) (c a : Nat) : Option Nat :=
  (s.tru.exchanges.find? fun e =>
    let base := exSrc e.record % 2 ^ 40
    let rows := match s.tru.exchanges.find? fun d => decide (e.pair = some d.serial) with
      | some d => 64 * exSlotRows d.record
      | none => 0
    decide (e.ctx = c) && decide (exDir e.record = 1) && decide (base ≤ a) &&
      decide (a < base + rows * exRowBytes e.record)).map (·.cmd)

/-- What another device's READ sees: the rows of a return are read for the group's own step (R33, R43, R457). -/
def State.viewFor (s : State) (c a : Nat) : State :=
  match s.returnOf c a with
  | some cmd => s.ownView cmd
  | none => s

/-- The data of a READ, or the kind with which it is refused. -/
def State.serveRead (s : State) (c a n : Nat) : Except Nat (Bytes × Bool × State) :=
  if s.fenced c then .error 4
  else if counterBase ≤ a then
    match s.counterRefuses c a n with
    | some k => .error k
    | none => .ok (leBytes 8 (s.counter ((a - counterBase) / 8)).toNat, false, s)
  else match (s.viewFor c a).readPoison c a n with
    | .ok (bs, bad, v) =>
      let s := { s with free := v.free }
      .ok (bs, bad, ((if bad then s.noteDamage c a else s).accessed otherUnit c a n).pathEvents otherUnit c a n 2)
    | .error k => .error k

/-- An answer goes out on the port on which the request came (R477). -/
def State.answer (s : State) (port : Nat) (h : PacketHeader) (type : Nat) (poison : Bool) (addr length status : Nat)
    (data : Bytes) : State :=
  s.queuePacket port { type := type, poison := poison, src := 0, dst := h.src.toNat, ctx := h.ctx.toNat
                       epoch := h.epoch.toNat, tag := h.tag.toNat, addr := addr, length := length, status := status, data := data }

/-- A line of the bytes written is poisoned: which of them POISON means is not stated. -/
def State.poisonWritten (s : State) (c a n : Nat) : State :=
  let i := s.fresh.1.toNat % n
  let s := s.fresh.2
  match s.place c (a + i) true with
  | .ok (.near x) => { s with near := { s.near with poison := tins s.near.poison (x / 32) } }
  | .ok (.bulk x) => { s with bulk := { s.bulk with poison := tins s.bulk.poison (x / 64) } }
  | _ => s

/-- The dispatch in progress into whose receive area another member writes, as that member may once it holds every count
(R453, R456). -/
def State.rowsInto (s : State) (c a : Nat) : Option Exchange :=
  s.tru.exchanges.find? fun e =>
    let base := exDst e.record % 2 ^ 40 + 1024
    let size := 64 * exSlotRows e.record * exRowBytes e.record
    decide (e.ctx = c) && decide (exDir e.record = 0) && (decide (e.stage = .gathering) || decide (e.stage = .moving)) &&
      decide (base ≤ a) && decide (a < base + size)

/-- Bytes of rows have come to an exchange: its counter moves (R461). -/
def State.noteRows (s : State) (e : Exchange) (n : Nat) : State :=
  s.setExchange { e with progress := e.progress + n, moved := s.phase }

/-- The area that a dispatch of a step receives rows in holds an address. -/
def inReceive (r : Bytes) (a : Nat) : Bool :=
  let base := exDst r % 2 ^ 40 + 1024
  decide (exTrigger r ≠ 0) && decide (exDir r = 0) && decide (base ≤ a) && decide (a < base + 64 * exSlotRows r * exRowBytes r)

/-- Whose write a WRITE of another device is until the group commits: rows of an exchange that is under way are the step's own
(R458), and so are rows that come for one that has been abandoned, which its next attempt discards (R462); other bytes of a
member of its group are defined at the group commit (R33). -/
def State.remoteWriter (s : State) (c src a : Nat) : Option Nat :=
  match s.rowsInto c a with
  | some e => some e.cmd
  | none => (s.steps.find? fun p => decide (p.ctx = c) && p.latched && !p.committed && p.members.contains src).map fun p =>
      if p.exchanges.any fun r => inReceive r a then p.cmd else foreignTag p.cmd

/-- Performs a WRITE of a device, or answers the kind with which it is refused. Rows of an exchange are writes of the step on
the device where they land (R458). -/
def State.serveWrite (s : State) (c src a : Nat) (poison : Bool) (bs : Bytes) : Except Nat State :=
  if s.fenced c then .error 4
  else if counterBase ≤ a then
    match s.counterRefuses c a bs.length with
    | some k => .error k
    | none =>
      let n := (a - counterBase) / 8
      .ok (s.setCounter n (s.counter n + BitVec.ofNat 64 (leNat bs)))
  else
    let e := s.rowsInto c a
    match s.writes c (s.remoteWriter c src a) a bs with
    | (s, none) =>
      let s := (if poison then s.poisonWritten c a bs.length else s).pathEvents otherUnit c a bs.length 2
      .ok (match e with | some e => s.noteRows e bs.length | none => s)
    | (_, some m) => .error (remoteKind m)

/-- Performs an access of another device: a READ and a FLUSH are answered, a refused WRITE is kept for the next FLUSH of its
source on the port (R475, R476). -/
def State.perform (s : State) (k : Held) : State :=
  let h := k.h
  let a := h.addr.toNat
  let n := h.length.toNat
  match k.kind with
  | .read => match s.serveRead h.ctx.toNat a n with
    | .ok (bs, bad, s) => s.answer k.port h 0x20 bad a n 0 bs
    | .error e => s.answer k.port h 0x21 false a n e []
  | .flush =>
    let q := s.port k.port
    let first := q.refused.find? fun r => decide (r.src = h.src.toNat)
    let s := s.setPort k.port { q with refused := q.refused.filter fun r => decide (r.src ≠ h.src.toNat) }
    match first with
    | some r => s.answer k.port h 0x22 false r.addr 0 r.kind []
    | none => s.answer k.port h 0x22 false 0 0 0 []
  | .write => match s.serveWrite h.ctx.toNat h.src.toNat a h.poison k.data with
    | .ok s => s
    | .error e =>
      let q := s.port k.port
      s.setPort k.port { q with refused := q.refused ++ [⟨h.src.toNat, e, a⟩] }

/-- An access waits while a cluster whose slice it reaches is frozen; a FLUSH waits behind the WRITEs of its source on the
port that wait (R276, R476). -/
def State.heldWaits (s : State) (k : Held) : Bool :=
  match k.kind with
  | .flush => s.links.held.any fun j => decide (j.kind = .write) && decide (j.port = k.port) && decide (j.h.src = k.h.src)
  | _ => decide (k.h.addr.toNat < counterBase) && s.waitsFrozen k.h.ctx.toNat k.h.addr.toNat k.h.length.toNat

/-- A Request or Posted packet is older than the latest epoch announced for its source and context. -/
def State.tooOld (s : State) (h : PacketHeader) : Bool :=
  (tfind s.links.epochs (h.src.toNat * 512 + h.ctx.toNat)).any fun f => olderEpoch h.epoch.toNat f

/-- A packet dropped for its epoch. -/
def State.epochDrop (s : State) (port : Nat) (h : PacketHeader) : State :=
  (s.dbump (0x5010 + port) 13 0 32).cbump h.ctx.toNat 15 5 32

/-- An access of another device is performed, or kept while it waits; one whose epoch has become too old meanwhile is dropped
(R489, R580). -/
def State.serveAccess (s : State) (k : Held) : State :=
  if s.tooOld k.h then s.epochDrop k.port k.h
  else if s.heldWaits k then { s with links := { s.links with held := s.links.held ++ [k] } } else s.perform k

/-- The accesses that waited for a frozen cluster and wait no more are performed, in their order. -/
def State.serveHeld (s : State) : State :=
  s.links.held.foldl State.serveAccess { s with links := { s.links with held := [] } }

end Sys2Proof.Machine
end

