-- ==== Sys2Proof/Machine/RouteChecks.lean ====
section
/-! DEFINITION. The load checks of a Route image, row by row of Table: Route load checks (R171-R176, R278, R280,
R282, R297, R637). Each list below holds the image offsets of the items that fail one check. -/

namespace Sys2Proof.Machine

/-- The offset when a check fails. -/
def failAt (off : Nat) (ok : Bool) : List Nat := if ok then [] else [off]

/-- Offsets of bytes of a range that are not zero. -/
def nonZero (b : Bytes) (o lo hi : Nat) : List Nat :=
  (List.range (hi + 1 - lo)).filterMap fun i => if byteAt b (o + lo + i) = 0 then none else some (o + lo + i)

/-- v lies in lo to hi. -/
def within (lo hi v : Nat) : Bool := decide (lo ≤ v) && decide (v ≤ hi)

/-! ### Parts of an image -/

/-- Cluster sections of an image: cluster, offset, size. -/
def sections (b : Bytes) : List (Nat × Nat × Nat) := imgDir b

/-- Core sections: cluster-section offset, core number, section offset, size. -/
def coreSections (b : Bytes) : List (Nat × Nat × Nat × Nat × Nat) :=
  (sections b).flatMap fun d => (List.range 16).filterMap fun c =>
    let sz := field b (d.2.1 + 128 + 8 * c + 4) 4
    if sz = 0 then none else some (d.1, d.2.1, c, d.2.1 + field b (d.2.1 + 128 + 8 * c) 4, sz)

/-- Areas of a core section: offset of the field that places it, start, bytes. -/
def coreAreas (b : Bytes) (k : Nat) : List (Nat × Nat × Nat) :=
  let n := fun (j : Nat) => [64 * meOps b k, 32 * normOps b k, 16 * steerSlots b k, 16 * veEntries b k,
    streamBytes b k, preloadBytes b k].getD j 0
  (List.range 6).filterMap fun j => if n j = 0 then none else some (k + 20 + 2 * j, areaAt b k j, n j)

/-- Tables of a cluster part: offset of the field that places it, start, bytes. -/
def clusterTables (b : Bytes) (o : Nat) : List (Nat × Nat × Nat) :=
  [(o + 10, ingressAt b o 0, 16 * ingressCount b o), (o + 12, egressAt b o 0, 16 * egressCount b o),
   (o + 14, switchAt b o 0, 32 * switchEntries b o)].filter fun t => decide (t.2.2 ≠ 0)

/-- Header, directory, cluster parts with their tables, and core sections over their whole extent: offset of the field that
places each, start, bytes. -/
def regions (b : Bytes) : List (Nat × Nat × Nat) :=
  [(0, 0, 256), (256, 256, 16 * imgEntries b)] ++
  ((sections b).zipIdx.flatMap fun (x : (Nat × Nat × Nat) × Nat) =>
    (256 + 16 * x.2 + 4, x.1.2.1, 256) :: clusterTables b x.1.2.1) ++
  ((coreSections b).map fun x => (x.2.1 + 128 + 8 * x.2.2.1, x.2.2.2.1, x.2.2.2.2))

/-- The header of a core section and its areas. -/
def coreParts (b : Bytes) (k : Nat) : List (Nat × Nat × Nat) := (k, k, 64) :: coreAreas b k

/-- Two ranges share a byte. -/
def meets (a b : Nat × Nat × Nat) : Bool := decide (a.2.1 < b.2.1 + b.2.2) && decide (b.2.1 < a.2.1 + a.2.2)

/-- Items of a list that overlap an earlier one: of an overlapping pair the later item in the list's order is the one
that fails (DESIGN CHOICE, log 105: R176 does not say which of the two fails). -/
def overlapping : List (Nat × Nat × Nat) → List Nat
  | [] => []
  | a :: as => ((as.filter (meets a)).map (·.1)) ++ overlapping as

/-! ### Layout -/

/-- The image with its CRC field taken as zero. -/
def crcImage (b : Bytes) : Bytes := b.take 252 ++ leBytes 4 0 ++ b.drop 256

/-- MAGIC, LAYOUT_VERSION, IMAGE_SIZE and the CRC: the first checks of all. -/
def layoutFirst (b : Bytes) : List Nat :=
  failAt 0 (decide (field b 0 4 = 0x54524B56)) ++ failAt 4 (decide (field b 4 2 = 1)) ++
  failAt 12 (within 256 71304448 (imgSize b) && decide (b.length = imgSize b)) ++
  failAt 252 (decide (crc32c (crcImage b) = BitVec.ofNat 32 (field b 252 4)))

/-- Field ranges of Table: Field range errors with the error Layout, alignment, bounds, overlap. -/
def layoutFields (b : Bytes) : List Nat :=
  let size := imgSize b
  ((imgDir b).zipIdx.flatMap fun (x : (Nat × Nat × Nat) × Nat) =>
    failAt (256 + 16 * x.2) (((imgDir b).take x.2).all fun e => decide (e.1 < x.1.1))) ++
  failAt 8 (decide (imgId b ≠ 0) && decide (imgId b < 0xFFFFFF00)) ++ failAt 26 (decide (1 ≤ imgDrain b)) ++
  ((sections b).zipIdx.flatMap fun (x : (Nat × Nat × Nat) × Nat) =>
    failAt (256 + 16 * x.2 + 4) (decide (x.1.2.1 % 64 = 0)) ++
    failAt (256 + 16 * x.2 + 8) (within 256 1114112 x.1.2.2 && decide (x.1.2.1 + x.1.2.2 ≤ size))) ++
  ((sections b).flatMap fun d => (clusterTables b d.2.1).flatMap fun t =>
    failAt t.1 (decide (t.2.1 % 64 = 0) && decide (t.2.1 + t.2.2 ≤ d.2.1 + min 65536 d.2.2))) ++
  ((coreSections b).flatMap fun x =>
    let o := x.2.1
    let k := x.2.2.2.1
    let sz := x.2.2.2.2
    let secSize := (((sections b).find? fun d => decide (d.1 = x.1)).map (·.2.2)).getD 0
    failAt (o + 128 + 8 * x.2.2.1) (decide (k % 64 = 0)) ++
    failAt (o + 128 + 8 * x.2.2.1 + 4) (within 64 65536 sz && decide (k + sz ≤ o + secSize)) ++
    failAt (k + 4) (decide (meOps b k ≤ 32)) ++ failAt (k + 5) (decide (normOps b k ≤ 8)) ++
    failAt (k + 6) (decide (steerSlots b k ≤ 8)) ++ failAt (k + 8) (decide (veEntries b k ≤ 2048)) ++
    failAt (k + 10) (decide (streamBytes b k ≤ 2048) && decide (streamBytes b k % 64 = 0)) ++
    failAt (k + 12) (decide (preloadBytes b k ≤ 28672)) ++
    failAt (k + 16) (decide (preloadAddr b k + preloadBytes b k ≤ 2 ^ 25)) ++
    ((coreAreas b k).flatMap fun t => failAt t.1 (decide (t.2.1 % 64 = 0) && decide (t.2.1 + t.2.2 ≤ k + sz)))) ++
  overlapping (regions b) ++ ((coreSections b).flatMap fun x => overlapping (coreParts b x.2.2.2.1)) ++
  overlapping ((sections b).zipIdx.map fun (x : (Nat × Nat × Nat) × Nat) => (256 + 16 * x.2 + 4, x.1.2.1, x.1.2.2))

/-- Reserved bytes and bits. -/
def layoutReserved (b : Bytes) : List Nat :=
  nonZero b 0 28 31 ++ nonZero b 0 64 251 ++
  ((List.range (imgEntries b)).flatMap fun i => nonZero b (256 + 16 * i) 1 3 ++ nonZero b (256 + 16 * i) 12 15) ++
  ((sections b).flatMap fun d =>
    let o := d.2.1
    nonZero b o 7 7 ++ nonZero b o 16 127 ++
    ((List.range (ingressCount b o)).flatMap fun i => nonZero b (ingressAt b o i) 9 15) ++
    ((List.range (egressCount b o)).flatMap fun i => nonZero b (egressAt b o i) 6 15) ++
    ((List.range (switchEntries b o)).flatMap fun i => nonZero b (switchAt b o i) 20 30)) ++
  ((coreSections b).flatMap fun x =>
    let k := x.2.2.2.1
    nonZero b k 7 7 ++ nonZero b k 32 63 ++
    ((List.range (meOps b k)).flatMap fun i =>
      failAt (meAt b k i + 9) (decide (byteAt b (meAt b k i + 9) < 64)) ++ nonZero b (meAt b k i) 50 51) ++
    ((List.range (normOps b k)).flatMap fun i => nonZero b (normAt b k i) 10 11) ++
    ((streamDescs b k).flatMap fun o =>
      if byteAt b o ≤ 4 then failAt (o + 1) (decide (byteAt b (o + 1) < 2)) ++ nonZero b o 22 23
      else if byteAt b o ≤ 6 then failAt (o + 5) (decide (byteAt b (o + 5) < 8)) ++ nonZero b o 7 7 ++ nonZero b o 38 63
      else []))

def layoutBad (b : Bytes) : List Nat :=
  if (layoutFirst b).isEmpty then layoutFields b ++ layoutReserved b else layoutFirst b

/-! ### Footprint -/

/-- FOOTPRINT, at its own offset, against CLUSTER_COUNT and the directory. -/
def footprintBad (b : Bytes) : List Nat :=
  let cs := clustersOf (imgFootprint b)
  failAt 16 (decide (cs.length = imgCount b) && within 1 64 (imgCount b) && decide ((imgDir b).map (·.1) = cs))

/-! ### Operator format -/

/-- K group of a weight format code (R137). -/
def kGroup (f : Nat) : Nat := [128, 128, 256, 64, 64, 64, 64, 64, 32, 32].getD f 128

/-- Operand pair of R138. -/
def pairOk (w a : Nat) : Bool :=
  if w = 8 ∨ a = 8 then decide (w = a) else if w = 9 ∨ a = 9 then decide (w = a)
  else decide (w ≤ 7) && decide (a ≤ 7) && decide (a ≠ 2)

def meBad (b : Bytes) (o : Nat) : List Nat :=
  let w := byteAt b (o + 4)
  let ctrl := field b (o + 8) 2
  let out := byteAt b (o + 7)
  let addr := fun (off : Nat) => failAt (o + off) (decide (field b (o + off) 4 < 2 ^ 25))
  failAt (o + 4) (decide (w ≤ 9)) ++ failAt (o + 5) (decide (byteAt b (o + 5) ≤ 9) && pairOk w (byteAt b (o + 5))) ++
  failAt (o + 6) (decide (byteAt b (o + 6) ≤ 3)) ++ failAt (o + 7) (decide (out ≤ 3)) ++
  failAt (o + 8) (decide (bits ctrl 11 8 ≤ 6) && decide (bits ctrl 13 12 ≠ 3) &&
    (decide (out ≠ 3) || (!bit ctrl 2 && !bit ctrl 3 && decide (bits ctrl 11 8 = 0)))) ++
  failAt (o + 12) (within 1 256 (field b (o + 12) 2)) ++ failAt (o + 14) (decide (field b (o + 14) 2 ≠ 0)) ++
  failAt (o + 16) (decide (field b (o + 16) 2 ≠ 0)) ++
  addr 20 ++ addr 24 ++ addr 28 ++ addr 32 ++ addr 36 ++
  failAt (o + 44) (decide (byteAt b (o + 44) ≤ 11)) ++ failAt (o + 45) (decide (byteAt b (o + 45) ≤ 11)) ++
  failAt (o + 46) (decide (field b (o + 46) 2 ≤ 64)) ++ failAt (o + 48) (decide (field b (o + 48) 2 ≤ kGroup w))

def normBad (b : Bytes) (o : Nat) : List Nat :=
  failAt (o + 2) (decide (byteAt b (o + 2) ≤ 2)) ++ failAt (o + 3) (decide (byteAt b (o + 3) ≤ 2)) ++
  failAt (o + 4) (within 1 65536 (field b (o + 4) 4)) ++ failAt (o + 8) (within 1 1024 (field b (o + 8) 2)) ++
  failAt (o + 20) (decide (field b (o + 20) 4 < 2 ^ 25)) ++ failAt (o + 24) (decide (field b (o + 24) 4 < 2 ^ 25))

def steerBad (b : Bytes) (o : Nat) : List Nat :=
  let prim := byteAt b o
  let pred := byteAt b (o + 1)
  let alt := byteAt b (o + 5)
  let ctrl := byteAt b (o + 6)
  failAt o (decide (prim ≤ 5)) ++ failAt (o + 1) (decide (pred ≤ 12)) ++ failAt (o + 4) (decide (byteAt b (o + 4) ≤ 15)) ++
  failAt (o + 5) (if prim = 1 ∨ prim = 5 then decide (alt ≤ 15) else decide (alt = 0xFF)) ++
  failAt (o + 6) (decide (ctrl ≤ 15) || (decide (ctrl = 0xFF) && decide (pred ≤ 1))) ++
  failAt (o + 8) (decide (pred ≠ 12) || within 1 4096 (field b (o + 8) 8))

/-- Highest variant of a VE opcode, none for a reserved opcode (Table: VE opcodes). -/
def veVariants (op : Nat) : Option Nat :=
  if op ≤ 8 then some 0
  else if op = 9 then some 3
  else if op ≤ 0x0D then some 0
  else if op = 0x0E then some 1
  else if op = 0x10 then some 3
  else if 0x11 ≤ op ∧ op ≤ 0x14 then some 0
  else if op = 0x18 ∨ op = 0x19 then some 0
  else if op = 0x1A then some 1
  else if op = 0x1C ∨ op = 0x1D then some 9
  else if op = 0x20 ∨ op = 0x21 then some 3
  else if op = 0x28 then some 11
  else if op = 0x30 then some 0
  else none

/-- Formats that the hardware quantises to: the block formats but T2 (R103). -/
def packTarget (f : Nat) : Bool := decide (f ≤ 7) && decide (f ≠ 2)

/-- Faults of a VE issue entry (R175, R637). Bits 3:2 of ADDR_MODE, to which R155 and R175 give no meaning, must be 0
(DESIGN CHOICE, log 105). -/
def veBad (b : Bytes) (o : Nat) : List Nat :=
  let m := byteAt b (o + 9)
  failAt (o + 2) (veVariants (byteAt b (o + 2))).isSome ++
  failAt (o + 3) (((veVariants (byteAt b (o + 2))).all fun v => decide (byteAt b (o + 3) / 4 ≤ v)) &&
    (decide (byteAt b (o + 2) ≠ 0x1C) || packTarget (byteAt b (o + 3) / 4))) ++
  failAt (o + 8) (decide (bits (byteAt b (o + 8)) 6 3 = 0)) ++
  failAt (o + 9) (decide (m % 4 ≠ 3) && decide (bits m 3 2 = 0) && (decide (m % 4 ≠ 1) || decide (1 ≤ m / 16)) &&
    (decide (m % 4 ≠ 2) || decide (m / 16 ≤ 7)))

/-! Rope descriptors at offset o. -/
def ropeNum (b : Bytes) (o : Nat) : Nat := byteAt b (o + 1)
def ropePos (b : Bytes) (o : Nat) : Nat := byteAt b (o + 2)
def ropeLen (b : Bytes) (o : Nat) : Nat := byteAt b (o + 3)
def ropeNext (b : Bytes) (o : Nat) : Nat := byteAt b (o + 4)
def ropeFlags (b : Bytes) (o : Nat) : Nat := byteAt b (o + 5)
def ropeFmt (b : Bytes) (o : Nat) : Nat := byteAt b (o + 6)

/-- Rope descriptors of an image: core and offset. -/
def ropes (b : Bytes) : List (Nat × Nat) :=
  (imgCores b).flatMap fun ck => ((streamDescs b ck.2).filter fun o => within 5 6 (byteAt b o)).map fun o => (ck.1, o)

/-- Operator format faults of Ropes (R297). -/
def ropeFormatBad (b : Bytes) : List Nat :=
  let rs := ropes b
  rs.flatMap fun r =>
    let o := r.2
    failAt (o + 5) (!bit (ropeFlags b o) 1 || [0, 1, 5, 6].contains (ropeFmt b o)) ++
    failAt (o + 6) (decide (ropeFmt b o ≤ 9) &&
      (rs.all fun q => decide (ropeNum b q.2 ≠ ropeNum b o) || decide (ropeFmt b q.2 = ropeFmt b o)) &&
      ((imgCores b).all fun ck => decide (ck.1 ≠ r.1) || (List.range (meOps b ck.2)).all fun i =>
        !bit (field b (meAt b ck.2 i + 8) 2) 6 || decide (byteAt b (meAt b ck.2 i + 4) = ropeFmt b o)))

def formatBad (b : Bytes) : List Nat :=
  ((imgCores b).flatMap fun ck =>
    let k := ck.2
    ((List.range (meOps b k)).flatMap fun i => meBad b (meAt b k i)) ++
    ((List.range (normOps b k)).flatMap fun i => normBad b (normAt b k i)) ++
    ((List.range (steerSlots b k)).flatMap fun i => steerBad b (steerAt b k i)) ++
    ((List.range (veEntries b k)).flatMap fun i => veBad b (veAt b k i))) ++ ropeFormatBad b

/-! ### Channel -/

/-- Egresses of an image: offset of the entry, its cluster. -/
def egresses (b : Bytes) : List (Nat × Nat) :=
  (sections b).flatMap fun d => (List.range (egressCount b d.2.1)).map fun i => (egressAt b d.2.1 i, d.1)

/-- Entry offset of an ingress of a cluster. -/
def ingressOf (b : Bytes) (cl i : Nat) : Option Nat :=
  match sectionAt b cl with
  | some o => if i < ingressCount b o then some (ingressAt b o i) else none
  | none => none

def egressBad (b : Bytes) (o : Nat) : List Nat :=
  let dst := ingressOf b (byteAt b (o + 3)) (byteAt b (o + 4))
  failAt o (decide (byteAt b o ≤ 1)) ++
  failAt (o + 1) ((dst.all fun i => decide (byteAt b (i + 2) = byteAt b (o + 1))) && within 1 16 (byteAt b (o + 1))) ++
  failAt (o + 2) (decide (byteAt b (o + 2) ≤ 15)) ++
  failAt (o + 3) (decide (byteAt b (o + 3) < 64) && (imgFootprint b).getLsbD (byteAt b (o + 3))) ++
  failAt (o + 4) dst.isSome ++
  failAt (o + 5) (decide (byteAt b (o + 5) ≤ 3) &&
    (decide (byteAt b (o + 5) = 0) || dst.any fun i => decide (byteAt b i = 4)))

def ingressBad (b : Bytes) (cl i o : Nat) : List Nat :=
  let feeds := ((egresses b).filter fun e => decide (byteAt b (e.1 + 3) = cl) && decide (byteAt b (e.1 + 4) = i)).length
  failAt o (decide (byteAt b o ≤ 4)) ++ failAt (o + 1) (within 2 64 (byteAt b (o + 1))) ++
  failAt (o + 2) (within 1 16 (byteAt b (o + 2)) && decide (byteAt b (o + 2) ≤ byteAt b (o + 1))) ++
  failAt (o + 3) (within 1 4 (byteAt b (o + 3)) && decide (feeds = byteAt b (o + 3))) ++
  failAt (o + 4) (within 1 4096 (field b (o + 4) 2)) ++ failAt (o + 6) (decide (field b (o + 6) 2 < field b (o + 4) 2)) ++
  failAt (o + 8) (decide (byteAt b (o + 8) ≤ 15))

/-- The capacity rule of R185. -/
def capacity (b : Bytes) : Nat :=
  (((sections b).flatMap fun d => (List.range (ingressCount b d.2.1)).map fun i =>
    byteAt b (ingressAt b d.2.1 i + 1) / max 1 (byteAt b (ingressAt b d.2.1 i + 2))).foldl (· + ·) 0) + 16 * imgCount b

/-- Fields of a stream descriptor that R278, R280 and R637 give the channel error. -/
def streamChannelBad (b : Bytes) (o : Nat) : List Nat :=
  let kind := byteAt b o
  let sel := byteAt b (o + 2)
  if 6 < kind then [o]
  else if 4 < kind then []
  else
    failAt (o + 2) (decide (sel < 16) || (decide (sel = 0xFF) && decide (kind ≠ 1) && decide (kind ≠ 3))) ++
    failAt (o + 3) (if 2 ≤ kind then decide (byteAt b (o + 3) ≤ 11) else decide (byteAt b (o + 3) = 0xFF)) ++
    (if kind = 4 then [] else
      failAt (o + 12) (within 1 16777216 (field b (o + 12) 4)) ++ failAt (o + 16) (decide (field b (o + 16) 2 ≠ 0)) ++
      failAt (o + 18) (decide (field b (o + 18) 2 ≠ 0)) ++ failAt (o + 20) (decide (field b (o + 20) 2 ≠ 0))) ++
    failAt (o + 48) (decide (field b (o + 48) 4 + 2 * field b (o + 52) 4 ≤ 2 ^ 25)) ++
    failAt (o + 52) (within 512 131072 (field b (o + 52) 4) && decide (field b (o + 52) 4 % 512 = 0))

/-- Mesh position of a core on its die (R295). -/
def meshAt (core : Nat) : Nat × Nat := (core / 16 % 4 * 4 + core % 4, core % 256 / 64 * 4 + core % 16 / 4)

/-- Core at a mesh position of a die. -/
def coreAtMesh (die x y : Nat) : Nat := die * 256 + (y / 4 * 4 + x / 4) * 16 + (y % 4 * 4 + x % 4)

/-- The core that NEXT leads to, none beyond the die. -/
def ropeStep (core next : Nat) : Option Nat :=
  let (x, y) := meshAt core
  let die := core / 256
  match next with
  | 1 => if 0 < y then some (coreAtMesh die x (y - 1)) else none
  | 2 => if x < 15 then some (coreAtMesh die (x + 1) y) else none
  | 3 => if y < 15 then some (coreAtMesh die x (y + 1)) else none
  | 4 => if 0 < x then some (coreAtMesh die (x - 1) y) else none
  | _ => none

/-- Channel faults of Ropes (R297). -/
def ropeChannelBad (b : Bytes) : List Nat :=
  let rs := ropes b
  rs.flatMap fun r =>
    let o := r.2
    let same := rs.filter fun q => decide (ropeNum b q.2 = ropeNum b o)
    let len := ropeLen b o
    let pos := ropePos b o
    failAt o (decide ((byteAt b o = 5) = (pos = 0)) && decide ((rs.filter fun q => decide (q.1 = r.1)).length = 1)) ++
    failAt (o + 2) (decide (pos < len) && decide (same.length = len) &&
      decide ((same.filter fun q => decide (ropePos b q.2 = pos)).length = 1)) ++
    failAt (o + 3) (within 1 64 len && same.all fun q => decide (ropeLen b q.2 = len)) ++
    failAt (o + 4) (if pos + 1 = len then decide (ropeNext b o = 0)
      else match ropeStep r.1 (ropeNext b o) with
        | none => false
        | some c => same.any fun q => decide (q.1 = c) && decide (ropePos b q.2 = pos + 1)) ++
    failAt (o + 5) (!bit (ropeFlags b o) 2 || decide (byteAt b o = 5)) ++
    failAt (o + 8) (within 1 16777216 (field b (o + 8) 4)) ++ failAt (o + 12) (decide (field b (o + 12) 2 ≠ 0)) ++
    failAt (o + 16) (decide (byteAt b o = 5) || decide (field b (o + 16) 8 = 0)) ++
    failAt (o + 24) (bit (ropeFlags b o) 1 || decide (field b (o + 24) 8 = 0)) ++
    failAt (o + 36) (bit (ropeFlags b o) 1 || decide (field b (o + 36) 2 = 0))

def channelBad (b : Bytes) : List Nat :=
  ((sections b).flatMap fun d =>
    let o := d.2.1
    failAt (o + 4) (decide (leadOf b o = 0xFF) || decide (leadOf b o < ingressCount b o)) ++
    failAt (o + 5) (decide (ingressCount b o ≤ 32) &&
      decide (((List.range (ingressCount b o)).map fun i => byteAt b (ingressAt b o i + 1)).foldl (· + ·) 0 ≤ 128)) ++
    failAt (o + 6) (decide (egressCount b o ≤ 32)) ++
    ((List.range (ingressCount b o)).flatMap fun i => ingressBad b d.1 i (ingressAt b o i)) ++
    ((List.range (egressCount b o)).flatMap fun i => egressBad b (egressAt b o i))) ++
  failAt 24 (decide (capacity b ≤ 3072)) ++
  ((imgCores b).flatMap fun ck => (streamDescs b ck.2).flatMap fun o => streamChannelBad b o) ++ ropeChannelBad b

/-! ### Schedule -/

/-- A slot is fed from an ingress (Table: Route load checks). -/
def fedFromIngress (b : Bytes) (o core k : Nat) : Bool :=
  let lane := fun (v : Nat) => decide (v ≤ 11)
  ((List.range (ingressCount b o)).any fun i => decide (byteAt b (ingressAt b o i + 8) = core)) &&
    (lane (byteAt b (k + 4)) || lane (byteAt b (k + 5)) || lane (byteAt b (k + 6)))

/-- Schedule faults of a core section. -/
def coreScheduleBad (b : Bytes) (o core k : Nat) : List Nat :=
  let len := roundLen b o
  let ii := roundII b o
  let ves := (List.range (veEntries b k)).map fun i => (veAt b k i, field b (veAt b k i) 2)
  ((List.range (meOps b k)).flatMap fun i => failAt (meAt b k i + 18) (decide (field b (meAt b k i + 18) 2 < len))) ++
  ((List.range (steerSlots b k)).flatMap fun i =>
    let a := steerAt b k i
    let dc := field b (a + 2) 2
    let loops := [1, 3, 5].contains (byteAt b a) && fedFromIngress b o core a
    failAt (a + 2) (decide (dc < len) && (!loops || decide (dc < ii)))) ++
  (ves.zipIdx.flatMap fun (x : (Nat × Nat) × Nat) => failAt x.1.1 (decide (x.1.2 < len) &&
    (ves.take x.2).all fun y => decide (y.2 % max 1 ii ≠ x.1.2 % max 1 ii))) ++
  ((streamDescs b k).flatMap fun a =>
    if 4 < byteAt b a then []
    else
      let rph := field b (a + 56) 2
      let half := field b (a + 52) 4
      failAt (a + 56) (within 1 4096 rph && decide (half % (max 1 rph * 512) = 0)) ++
      failAt (a + 60) (decide (field b (a + 60) 2 < len)) ++ failAt (a + 62) (decide (field b (a + 62) 2 < len)))

def scheduleBad (b : Bytes) : List Nat :=
  (sections b).flatMap fun d =>
    let o := d.2.1
    let ii := roundII b o
    let runs := (List.range (switchEntries b o)).map fun i => byteAt b (switchAt b o i + 31)
    failAt o (within 1 4096 ii) ++ failAt (o + 2) (within ii (16 * ii) (roundLen b o)) ++
    failAt (o + 8) (within 1 2000 (switchEntries b o) && decide (runs.foldl (· + ·) 0 = ii)) ++
    ((List.range (switchEntries b o)).flatMap fun i =>
      let e := switchAt b o i
      ((List.range 20).flatMap fun j => failAt (e + j) (decide (byteAt b (e + j) ≤ 19) || decide (byteAt b (e + j) = 0xFF))) ++
      failAt (e + 31) (decide (byteAt b (e + 31) ≠ 0))) ++
    ((List.range 16).flatMap fun c => match coreAt b o c with
      | some k => coreScheduleBad b o c k
      | none => [])

/-! ### The checks in table order -/

/-- The checks that depend on the image alone and on the command's ROUTE_ID: status and offset of the first row
that fails. -/
def imageFails (b : Bytes) (id : Nat) : Option (Nat × Nat) :=
  let row := fun (status : Nat) (offs : List Nat) => (lowest offs).map fun o => (status, o)
  let layout := layoutBad b ++ (if (layoutFirst b).isEmpty then failAt 8 (decide (imgId b = id)) else [])
  (row 0x12 layout).or ((row stFeature (failAt 6 (decide (imgFeature b ≤ Config.featureLevel)))).or
    ((row stFootprint (footprintBad b)).or ((row 0x15 (formatBad b)).or ((row 0x16 (channelBad b)).or
      (row 0x17 (scheduleBad b))))))

/-- The checks in whole table order, with those that depend on the state of the device (R176). -/
def State.routeFails (s : State) (c id : Nat) (b : Bytes) : Option (Nat × Nat) :=
  let device := if s.footprintOk c (imgFootprint b) then none else some (stFootprint, 16)
  let drain := if imgDrain b ≤ s.dget 0x2500 2 then none else some (0x18, 26)
  match imageFails b id with
  | some (st, off) => if st ≤ stFootprint then some (st, off) else device.or (some (st, off))
  | none => device.or drain

/-- The checks of a staged image against the device (R176). -/
def State.stagedFails (s : State) (c : Nat) (b : Bytes) : Option (Nat × Nat) :=
  if s.footprintOk c (imgFootprint b) then
    (if imgDrain b ≤ s.dget 0x2500 2 then none else some (0x18, 26))
  else some (stFootprint, 16)

/-- Reads a Route image from its address: the header first, then IMAGE_SIZE bytes; a size outside its range reads
no more than the header (R176 step 1). -/
def State.readImage (s : State) (c va : Nat) : Except Fail Bytes := do
  let head ← s.readOr c va 256
  if within 257 71304448 (imgSize head) then s.readOr c va (imgSize head) else .ok head

/-- What that read leaves in the caches and the stacks (R85, R238). -/
def State.imageSeen (s : State) (c va : Nat) : State :=
  match s.readImage c va with
  | .ok b => s.accessed otherUnit c va b.length
  | .error _ => s.accessed otherUnit c va 256

end Sys2Proof.Machine
end

