-- ==== Sys2Proof/Machine/Status.lean ====
section
/-! DEFINITION. What the device reports of its contexts, rings and loops (R319, R324, R363, R373), and the
Snapshot of a hang search or a recovery (R587). -/

namespace Sys2Proof.Machine

/-- The context has an enabled ring. -/
def State.active (s : State) (c : Nat) : Bool :=
  s.hif.rings.any fun kv => kv.2.enable && decide (kv.2.ctx.toNat = c)

/-- STATE of CTX_STATUS (R363, R576); SYS is always Active (R364). -/
def State.ctxState (s : State) (c : Nat) : Nat :=
  match tfind s.ctxs.resets c with
  | some r => r.phase
  | none => b2n (s.active c || decide (c = 256))

/-- CTX_STATUS; its SLOWDOWN is 0 until an epoch has been completed (R363). -/
def State.ctxStatus (s : State) (c : Nat) : Nat :=
  let p := s.attached c
  s.ctxState c + 4 * b2n p.isSome + 8 * p.getD 0 + 128 * b2n (p.any fun q => decide (s.holder q = some c)) +
    256 * b2n (p.any fun q => s.waitsFor c q && decide (s.holder q ≠ some c)) + 2 ^ 16 * s.ctxInflight c +
    2 ^ 32 * (if s.ctxs.epochEnded then s.cget c 3 1 else 0)

/-- STREAMS_HALTED: streams of the context that are halted now. -/
def State.streamsHalted (s : State) (c : Nat) : Nat :=
  (s.array.streams.filter fun kv => kv.2.fault.any fun f => decide (f.ctx = c)).length

/-- The word at offset 0 of a context control page (R319). -/
def State.pageStatus (s : State) (c : Nat) : Nat :=
  b2n (s.active c) + 2 * b2n (s.fenced c) + 4 * b2n (s.fenced c) + 8 * b2n (s.page c).evqError + 2 ^ 16 * s.ctxInflight c

/-- A loop table entry as its 32 bytes (R373). -/
def Loop.bytes (l : Loop) : Bytes :=
  leBytes 8 (l.launch.toNat + 4 * l.backlog.toNat + 2 ^ 16 * l.tickDiv.toNat + 2 ^ 32 * l.tickPhase.toNat +
    2 ^ 48 * l.chainCounter.toNat) ++
  leBytes 8 l.chainTarget.toNat ++
  leBytes 8 (l.chainStep.toNat + 2 ^ 32 * l.pend.length + 2 ^ 36 * l.cfgResult.toNat + 2 ^ 48 * l.ticksDropped) ++
  leBytes 8 l.seq.toNat

/-- Where a command in flight stands: 1 waiting to start, 2 waiting to launch, 3 executing. -/
def Cmd.progress (c : Cmd) : Nat :=
  match c.stage with
  | .waiting => 1
  | .grant => 1
  | .queued => 2
  | .ready => 2
  | .running => 3

/-! ### The Snapshot (R587) -/

/-- A ring record. -/
def State.ringRecord (s : State) (g : Nat) : Bytes :=
  let r := s.ring g
  let old := s.cmds.find? fun c => decide (c.ring = g)
  leBytes 2 r.sqHead ++ leBytes 2 r.sqTail ++ leBytes 2 r.cqHead ++ leBytes 2 r.cqTail ++ leBytes 2 (s.ringInflight g) ++
  leBytes 1 (b2n r.enable + 2 * b2n r.error + 4 * b2n (s.drained g) + 8 * b2n r.cqPhase) ++ [0] ++ leBytes 2 r.ctx.toNat ++
  (match old with
   | some c => leBytes 2 c.tag ++ leBytes 1 c.op ++ leBytes 1 c.progress
   | none => leBytes 4 0) ++ leBytes 14 0

/-- A context record. -/
def State.ctxRecord (s : State) (c : Nat) : Bytes :=
  leBytes 8 (s.ctxStatus c) ++ leBytes 2 (s.epochOf c) ++ leBytes 2 (s.streamsHalted c) ++ leBytes 4 0 ++
    leBytes 8 (if c < 256 then s.cget c 2 1 else s.dget 0x2300 6) ++ leBytes 40 0

/-- What the header says of the step that stalled: context, core, sequence number and group. -/
structure Stalled where
  ctx : Nat
  core : Nat
  seq : Nat
  group : Nat
deriving DecidableEq, Repr

/-- The header page. -/
def State.snapHeader (s : State) (reason : Nat) (mask : BitVec 64) (suspects : List Nat) (x : Stalled) : Bytes :=
  padTo (leBytes 4 0x4E534B56 ++ leBytes 2 1 ++ leBytes 1 reason ++ leBytes 1 suspects.length ++ leBytes 8 s.uptime ++
    leBytes 8 s.cdu.tick ++ leBytes 8 mask.toNat ++ leBytes 2 x.ctx ++ leBytes 2 x.core ++ leBytes 4 x.seq ++
    leBytes 4 x.group ++ (suspects ++ List.replicate (64 - suspects.length) 0xFFFF).flatMap (leBytes 2)) 4096

/-- Messages that the channel of an egress of the resident Route holds (R185, R186). -/
def channelSize (b : Bytes) (cl e : Nat) : Nat :=
  match sectionAt b cl with
  | none => 0
  | some o => match ingressOf b (byteAt b (egressAt b o e + 3)) (byteAt b (egressAt b o e + 4)) with
    | some a => byteAt b (a + 1) / byteAt b (a + 2)
    | none => 0

/-- Credits that an egress of a cluster holds. -/
def State.creditsHeld (s : State) (cl e : Nat) : Nat :=
  match s.resident cl with
  | some r => channelSize r.bytes cl e - (tget {} (tget {} s.array.clusters cl).egress e).spent
  | none => 0

/-- What a core waits for at the stop: the conditions unmet, the ingress awaited with its tag, and the cycle of the round. -/
structure CoreWait where
  waiting : Nat := 0
  awaited : Option (Nat × Nat) := none
  cycle : Nat := 0
deriving DecidableEq, Repr

/-- A core's record; the due round of a cluster that waits in the middle of a round is that round. -/
def State.coreRecord (s : State) (w : CoreWait) (core : Nat) : Bytes :=
  let cl := tget {} s.array.clusters (core / 16)
  let k := tget {} s.array.cores core
  let used := match s.resident (core / 16) with
    | some r => (imgCores r.bytes).any fun x => decide (x.1 = core)
    | none => false
  let state := if !used || !(s.stepAt (core / 16)).isSome then 0 else if cl.ended then 3 else if cl.frozen then 2 else 1
  leBytes 2 core ++ leBytes 1 state ++ leBytes 1 w.waiting ++ leBytes 8 k.progress ++
  leBytes 4 ((cl.paused.map (·.num)).getD cl.round) ++ leBytes 2 w.cycle ++
  leBytes 1 ((w.awaited.map (·.1)).getD 0xFF) ++ [0] ++ leBytes 2 ((w.awaited.map (·.2)).getD 0) ++ leBytes 2 0 ++
  ((List.range 32).flatMap fun i => leBytes 1 (tget {} cl.ingress i).held.length) ++
  ((List.range 32).flatMap fun i => leBytes 1 (s.creditsHeld (core / 16) i)) ++
  ((List.range 32).flatMap fun i => leBytes 8 (tget {} s.array.streams (core * 32 + i)).position) ++
  ((List.range 4).flatMap fun i => match k.rope[i]? with | some b => leBytes 1 b.num | none => [0xFF]) ++ leBytes 676 0

/-- Writes the parts of a Snapshot at their offsets; the first failing write stops it. -/
def State.writeParts (s : State) (va : Nat) : List (Nat × Bytes) → State × Bool
  | [] => (s, true)
  | (off, b) :: ps => match s.writes 256 none (va + off) b with
    | (s, none) => s.writeParts va ps
    | (s, some _) => (s, false)

/-- The parts of a Snapshot, by their offsets; wait says what each core waits for. -/
def State.snapParts (s : State) (reason : Nat) (mask : BitVec 64) (suspects : List Nat) (x : Stalled)
    (wait : State → Nat → CoreWait) : List (Nat × Bytes) :=
  let cores := (List.range 1024).map fun i =>
    if mask.getLsbD (i / 16) then s.coreRecord (wait s i) i else leBytes 1024 0
  [(0, s.snapHeader reason mask suspects x), (0x1000, (List.range 16384).flatMap s.ringRecord),
   (0x81000, (List.range 16384).flatMap fun g => (s.loopOf g).bytes),
   (0x101000, (List.range 65536).flatMap fun n => leBytes 8 (s.counter n).toNat),
   (0x181000, (List.range 257).flatMap s.ctxRecord), (0x186000, cores.flatten)]

/-- A Snapshot whose writes all succeeded is valid, and counted. -/
def snapTaken (r : State × Bool) : State := if r.2 then (r.1.dset 0x3032 3 0 1).dbump 0x3032 5 0 32 else r.1

/-- Takes a Snapshot, or counts it skipped. -/
def State.snapshot (s : State) (reason : Nat) (mask : BitVec 64) (suspects : List Nat) (x : Stalled)
    (wait : State → Nat → CoreWait) : State :=
  if s.dget 0x3032 1 = 0 ∨ (s.dget 0x3032 3 = 1 ∧ s.dget 0x3032 2 = 1) then s.dbump 0x3032 6 0 32
  else snapTaken (s.writeParts (s.dget 0x3032 1) (s.snapParts reason mask suspects x wait))

end Sys2Proof.Machine
end

