-- ==== Sys2Proof/Machine/Recovery.lean ====
section
/-! DEFINITION. Device recovery up to the moment its work has drained, its end, and the host reset
(R570, R571, R592-R596). -/

namespace Sys2Proof.Machine

/-! ### Work that a reset abandons -/

/-- LAST_DEVICE_RESET code of a recovery (R598). -/
def RecoveryCause.code : RecoveryCause → Nat
  | .requested => 2
  | .hang => 3
  | .hardware => 4
  | .rail => 5

/-- A launched step that no READY holds ends with an outcome: its group is told at once, as is that of a step that waits
for its next attempt (R571, R593). A host reset leaves no outcome to complete with (R570, R596). -/
def State.strikeStep (s : State) (e : Ending) (p : Step) : State :=
  if p.latched && !p.launched then s.sendAbort p.live stDeviceReset 0
  else if p.live.readySent || p.committed || !p.launched then s
  else if p.ending = some (.status stReset 0) then (if e = .silent then s.setStep { p with ending := some e } else s)
  else (s.sendAbort p.live stDeviceReset 0).setStep { p with ending := some e }

/-- Rappels of every resident Route on which no step awaits its group's commit. -/
def State.drainAll (s : State) (why : Purpose) : State :=
  (s.array.routes.filter fun r => !r.parked &&
    !(s.steps.any fun p => p.readySent && !p.committed && overlaps p.footprint r.footprint)).foldl
    (fun s r => s.rappel r.footprint r.ctx why) s

/-- Binds in progress are stopped with their handles Free, and Unbinding handles are Bound again. -/
def State.dropAllBinds (s : State) : State :=
  (List.range 257).foldl (fun s c => (s.dropBinds c).dropUnbinds c) s

/-- Pending launches of every loop are discarded (R374, R594). -/
def State.dropPending (s : State) : State :=
  let loops := s.hif.loops.map fun kv => (kv.1, { kv.2 with pend := [] })
  { s with hif := { s.hif with loops := loops.filter fun kv => decide (kv.2 ≠ ({} : Loop)) } }

/-- Installation mode ends; a slot open for writing keeps its old record (R264, R266). -/
def State.leaveInstall (s : State) : State :=
  ({ s with store := { s.store with opened := none } } : State).dset 0x7000 1 0 0 |>.dset 0x7000 2 0 0

/-- Link requests, waiting packets, group notes and a border move in progress are gone. -/
def State.dropLinkWork (s : State) : State :=
  { s with links := { s.links with
    requests := [], fetches := [], ends := [], held := [], waiting := [], early := [], notes := [], acks := [], moving := 0, confirm := [] } }.dset 0x5000 12 0 0

/-! ### Device recovery (R592-R594) -/

/-- Group steps whose READY was sent still wait for their commit, or Rappels still run. -/
def State.draining (s : State) : Bool :=
  !s.array.rappels.isEmpty || s.steps.any fun p => p.launched

/-- Every domain but the always-on domain and the Host Interface is reset: Bulk in Self-refresh, Near in Retention, the
others Off; the profile load and the self-test are to come (R593). The fabric ports follow before the profile load
(State.portsDown). -/
def State.powerDownForRecovery (s : State) : State :=
  let s := (s.setDomains 0 (List.range 64 ++ (List.range 8).map (· + 88) ++ (List.range 4).map (· + 112))).setDomains 1
    ((List.range 24).map (· + 64))
  { s with dev := { s.dev with profileLoaded := false, selfTested := false } }.resupply

/-- The fabric ports go Off once the packets that announce the epochs have had their time to leave (R488, R578, R593;
DESIGN CHOICE, log 111). -/
def State.portsDown (s : State) : State := s.dropLinkWork.portsOff.setDomains 0 ((List.range 16).map (· + 96))

/-- A recovery in progress starts again from its reset of every domain (R595, R606). -/
def State.restartRecovery (s : State) : State :=
  let s := { s with dev := { s.dev with
    since := s.uptime, railWait := 0, railOut := if s.pins.railsOut.isEmpty then none else some s.uptime } }
  if s.dev.drained then s.portsDown.powerDownForRecovery else s

/-- The work has drained, and no translation is cached. -/
def State.drainDone (s : State) : State :=
  { s with bulk := { s.bulk with tlb := [], pageCache := [], ptr := [], ptrCache := [], regionCache := [] }, dev := { s.dev with drained := true } }

/-- Route staging is cleared, its poisoned lines with it (R229). -/
def State.clearStaging (s : State) : State :=
  { s with
    array := { s.array with staged := [] }
    near := { s.near with poison := s.near.poison.filter fun kv => decide (kv.1 / 32768 % 32 ≠ 30) } }

/-- The work of a recovery has drained: commands complete with DEVICE_RESET, every context's epoch advances,
and every domain but the always-on domain and the Host Interface is reset (R593, R594). -/
def State.settleRecovery (s : State) : State :=
  if s.dev.mode ≠ .recovery ∨ s.dev.drained ∨ s.draining then s
  else
    let s := s.drainAll .recovery
    if s.draining then s
    else
      let cs := s.cmds
      let s := { s with
        steps := []
        array := { s.array with loads := [], evictions := [], clusters := [], cores := [], streams := [] }
        ctxs := { s.ctxs with copies := [], hang := none, stalls := [] }
        tru := { s.tru with exchanges := [] }
        serve := { s.serve with dead := [] } }
      let s := s.clearStaging.dropAllBinds.finishAll cs stDeviceReset
      let s := (List.range 257).foldl State.advanceEpoch s.dropPending
      (((s.leaveInstall.endGrant false).endGrant true).powerDownForRecovery).drainDone

/-- Perturbation ends: disarmed, with its event, and every slot unused (R617). -/
def State.disarm (s : State) : State :=
  let mask := s.armedMask
  let s := if s.dget 0x6000 1 = 1 then (s.dset 0x6000 1 0 0).event 10 2 0 mask else s
  { s with health := { s.health with perturb := [] } }

/-- A cluster test that a reset cuts short is abandoned: TEST_RESULT says so, and the regions of a free cluster that a
switch could not reach are given their contents (R212, R622). -/
def State.abandonTest (s : State) : State :=
  match s.health.testing with
  | none => s
  | some x =>
    let s := ({ s with health := { s.health with testing := none } } : State).dset 0x3020 2 0
      (1 + x.1 * 2 ^ 8 + 3 * 2 ^ 16 + 0xFF * 2 ^ 24)
    if s.dget 0x3033 1 x.1 = 1 then s else s.unstrandAll x.1

/-- A device recovery is decided: READY falls, group steps without READY are aborted, everything is drained
(R592, R593, R596). One that is asked for in bring-up once the profile is loaded starts too; a request while one runs joins
it. -/
def State.startRecovery (s : State) (cause : RecoveryCause) (wait : State → Nat → CoreWait) : State :=
  if s.dev.mode ≠ .service ∧ !(s.dev.mode = .bringUp ∧ s.dev.profileLoaded) then s
  else
    let s := { s with
      hif := { s.hif with ready := false }
      dev := { s.dev with
        mode := .recovery, since := s.uptime, dTime := s.uptime, attempt := 1, cause := cause, drained := false, railWait := 0
        railOut := if s.pins.railsOut.isEmpty then none else some s.uptime } }
    let s := ((s.dset 0x3030 2 0 cause.code).event 11 1 0 cause.code).disarm.abandonTest
    let s := if s.hif.linkUp then s.interrupt 0 0 else s
    let mask := s.steps.foldl (fun m p => if p.launched then m ||| p.footprint else m) 0
    let s := if cause = .hang ∨ cause = .hardware then
        s.snapshot 2 mask [] ⟨0xFFFF, s.fresh.1.toNat % 65536, s.fresh.1.toNat / 65536 % 2 ^ 32, 0⟩ wait
      else s
    let s := { s with ctxs := { s.ctxs with hang := none, stalls := [] } }
    let s := s.steps.foldl (fun s p => s.strikeStep (.status stDeviceReset 0) p) s
    (s.drainAll .recovery).settleRecovery

/-- A Route is activated again from the image recorded at its LOAD_ROUTE, checked as a load is; one that
fails is dropped (R371, R593, R594, R639). -/
def State.reactivate (s : State) (r : Route) : State :=
  let got := s.readImage r.ctx r.image
  let s := s.imageSeen r.ctx r.image
  match got with
  | .error _ => s.dropRoute r
  | .ok b =>
    if (s.routeFails r.ctx r.id b).isSome || (s.preloadFails r.ctx b).isSome || decide (imgFootprint b ≠ r.footprint) then
      s.dropRoute r
    else (s.stageImage r.ctx r.id r.footprint r.image b).activate r.ctx r.id r.image r.footprint b

/-- The recovery's end: Routes are reactivated, context resets in progress end, suspects are released
(R593, R594, R596). -/
def State.endRecovery (s : State) : State :=
  let s := (s.array.routes.filter fun r => !r.parked).foldl State.reactivate s
  let s := (s.ctxs.held.map (·.1)).foldl State.unhold s
  let s := (s.ctxs.resets.map (·.1)).foldl State.endReset s
  let ms := (s.uptime - s.dev.dTime) / 1000000
  ((s.dbump 0x3030 3 0 32).dput 0x3030 4 0 32 ms).event 11 2 0 ms

/-! ### Host reset (R570, R68) -/

/-- A ring, table or page of the Host Interface at its reset values; SEQ of each loop is kept. -/
def Hif.afterReset (h : Hif) : Hif :=
  let loops := h.loops.map fun kv => (kv.1, { ({} : Loop) with seq := kv.2.seq })
  { loops := loops.filter fun kv => decide (kv.2 ≠ ({} : Loop)) }

/-- A Rappel for a purpose still runs. -/
def State.stillFor (s : State) (why : Purpose) : Bool := s.array.rappels.any fun r => r.purposes.contains why

/-- Contexts that have work in progress which a host reset abandons: commands in flight but for steps that their group holds
and those past their commit (R570, R571). -/
def State.working (s : State) : List Nat :=
  ((s.cmds.filter fun c => !(s.steps.any fun p => decide (p.cmd = c.id) && (p.live.readySent || p.committed))).map (·.ctx)).dedup

/-- The epochs that a host reset advances: its timeline goes on once no step is left to drain, or to resolve after its READY
(R570, R571, R578). -/
def State.settleHostReset (s : State) : State :=
  if !s.dev.hostReset || s.steps.any (·.launched) || s.stillFor .hostReset then s
  else { s.dev.hostWork.foldl State.advanceEpoch s with dev := { s.dev with hostWork := [] } }

/-- The effects of PERST_N and of a PF Function Level Reset: work in flight is abandoned with no completion, and
the Host Interface is reset; HOST_RESETS counts it where the Host Interface was out of reset (R570, R571, R598). -/
def State.startHostReset (s : State) : State :=
  let s := if s.dev.hifOut then s.dbump 0x3030 7 0 32 else s
  let hush := fun (kv : Nat × ResetRun) => (kv.1, { kv.2 with silent := true })
  let s := { s with
    dev := { s.dev with
      hostReset := true, hostSince := s.uptime, hifOut := false, hostWork := (s.dev.hostWork ++ s.working).dedup }
    ctxs := { s.ctxs with resets := s.ctxs.resets.map hush } }
  let s := s.steps.foldl (fun s p => s.strikeStep .silent p) s
  let running := fun (i : Nat) => s.steps.any fun p => decide (p.cmd = i) && p.launched
  let s := { s with
    cmds := s.cmds.filter fun c => running c.id
    steps := s.steps.filter fun p => p.launched
    array := { s.array with loads := [], evictions := [] }
    ctxs := { s.ctxs with copies := [] }
    near := { s.near with nmMap := 0 }
    bulk := { s.bulk with inval := 0, ats := [] }
    hif := s.hif.afterReset }
  let s := (s.dropAllBinds).endGrant false
  ((s.steps.filter fun p => decide (p.ending = some .silent)).foldl
    (fun s p => s.rappel p.footprint p.ctx .hostReset) s).settleHostReset

/-- PERST_N (R68, R570, R596). -/
def execPerstN (t : Nat) (s : State) : Host.Outcome State Fault Refusal :=
  .next (if s.powered then
    let s := (s.at t).startHostReset
    { s with pins := { s.pins with perstN := false } } else s)

/-- PF_FUNCTION_LEVEL_RESET: the effect of PERST_N (R323). -/
def execPfFunctionLevelReset (t : Nat) (s : State) : Host.Outcome State Fault Refusal :=
  .next (if s.powered && s.hif.linkUp then (s.at t).startHostReset else s)

/-- A VF's configuration space, MSI-X table and control page at their reset values; a BUSY request of its mailbox gets no
response (R323, R520). -/
def State.resetFunction (s : State) (c : Nat) : State :=
  { s with hif := { s.hif with
    msix := tclear s.hif.msix ((c + 1) * 2048) ((c + 2) * 2048)
    pages := terase s.hif.pages c
    mailbox := s.hif.mailbox.map fun kv =>
      if kv.1 = c + 1 then (kv.1, { kv.2 with busy := false, due := [] }) else kv } }

end Sys2Proof.Machine
end

