-- ==== Sys2Proof/Machine/Rappel.lean ====
section
/-! DEFINITION. Route loads and evictions, the cut-off and quiescence of a Rappel and what follows each of its
uses, context switches (R176-R180, R196-R200, R371, R386-R389, R584-R586). -/

namespace Sys2Proof.Machine

/-! ### LOAD_ROUTE (R176, R178, R345, R639) -/

/-- Steps 1 and 2 of R176: the image's footprint and bytes with the address it is recorded under, or the failure. -/
def State.checkLoad (s : State) (c : Cmd) : Except Fail (BitVec 64 × Nat × Bytes) :=
  let id := c.at 16 4
  match s.stagedImage c.ctx id with
  | some g => match s.stagedFails c.ctx g.bytes with
    | some f => .error { status := f.1, value := routeValue id f.2 }
    | none => .ok (g.footprint, g.address, g.bytes)
  | none => match s.readImage c.ctx (c.at 8 8) with
    | .error f => .error f
    | .ok b => match s.routeFails c.ctx id b with
      | some f => .error { status := f.1, value := routeValue id f.2 }
      | none => .ok (imgFootprint b, c.at 8 8, b)

/-- The footprint that a load's header gives before its checks, empty where it cannot be read. -/
def State.loadFootprint (s : State) (c : Cmd) : BitVec 64 :=
  match s.stagedImage c.ctx (c.at 16 4) with
  | some g => g.footprint
  | none => match s.read c.ctx (c.at 8 8) 256 with
    | .ok b => imgFootprint b
    | _ => 0

/-- A LOAD_ROUTE is out of the loads that stand. -/
def State.dropLoad (s : State) (cmd : Nat) : State :=
  { s with array := { s.array with loads := s.array.loads.filter fun m => decide (m.cmd ≠ cmd) } }

/-- A LOAD_ROUTE among the loads that stand, in its place in the order of acceptance (R180). -/
def State.addLoad (s : State) (l : LoadRun) : State :=
  let s := s.dropLoad l.cmd
  ({ s with array := { s.array with loads := s.array.loads ++ [l] } } : State).accept l.cmd

/-- An image that passed the checks of step 2 is staged, unless it is (R176, R178). -/
def State.stageOnce (s : State) (c id : Nat) (fp : BitVec 64) (address : Nat) (b : Bytes) : State :=
  if (s.stagedImage c id).isSome then s else s.stageImage c id fp address b

/-- Steps 1 and 2 of a load. While a load or an eviction accepted earlier stands on an overlapping footprint it waits
in its place, and its row is sent again (R180), as it waits for a Rappel on its footprint (R200); the grant is awaited for a
pool's footprint, in that place too, and the preload range is checked while it is held (R370, R639). The image is staged when every check has passed (R176). -/
def State.beginLoad (s : State) (c : Cmd) (stageOnly : Bool) (go : State → BitVec 64 → Nat → Bytes → State) : State :=
  let id := c.at 16 4
  let fp := s.loadFootprint c
  let wait : LoadRun := { cmd := c.id, ctx := c.ctx, id := id, footprint := fp, image := c.at 8 8, bytes := [],
                          checked := false, stageOnly := stageOnly }
  if s.earlierLoad c.id fp || s.earlierEviction c.id fp || s.array.rappels.any (fun r => overlaps r.footprint fp) then
    let s := s.addLoad wait
    if (s.poolOfFootprint fp).isSome && !s.holdsGrant c.ctx then s.decideGrantOf c.ctx else s
  else
    let r := s.checkLoad c
    let s := if (s.stagedImage c.ctx id).isSome then s else s.imageSeen c.ctx (c.at 8 8)
    match r with
    | .error f => (((s.dropLoad c.id).noteFail c.ctx f).completeOn c f.status f.value).kick
    | .ok (fp, address, b) =>
      if (s.poolOfFootprint fp).isSome && !s.holdsGrant c.ctx then (s.addLoad wait).awaitGrant c
      else match s.preloadFails c.ctx b with
        | some x => ((s.dropLoad c.id).completeOn c stNearProtection (preloadValue x)).kick
        | none => go ((s.dropLoad c.id).stageOnce c.ctx id fp address b) fp address b

/-- LOAD_ROUTE: checked and staged, then draining over the Routes it replaces. -/
def execLoadRoute (cmd : Nat) (s : State) : Host.Outcome State Fault Refusal :=
  .next (match s.starting cmd 3 with
    | none => s
    | some c =>
      if c.at 20 1 ≠ 0 then s
      else s.beginLoad c false fun s fp address b =>
        let run : LoadRun := { cmd := cmd, ctx := c.ctx, id := c.at 16 4, footprint := fp, image := address, bytes := b }
        ((s.addLoad run).stage { c with waited := c.waited || (s.poolOfFootprint fp).isSome } .running).kick)

/-- LOAD_ROUTE_STAGE: steps 1 and 2 only. -/
def execLoadRouteStage (cmd : Nat) (s : State) : Host.Outcome State Fault Refusal :=
  .next (match s.starting cmd 3 with
    | none => s
    | some c =>
      if c.at 20 1 ≠ 1 then s
      else s.beginLoad c true fun s _ _ _ => (s.completeOn c 0 (c.at 16 4)).kick)

/-- LOAD_ROUTE_EVICT: a parked Route is dropped at once, a resident one after its current step and a Rappel, one whose
load was accepted earlier after that load (R180, R345, R371). -/
def execLoadRouteEvict (cmd : Nat) (s : State) : Host.Outcome State Fault Refusal :=
  .next (match s.starting cmd 3 with
    | none => s
    | some c =>
      let id := c.at 16 4
      if c.at 20 1 ≠ 2 then s
      else
        let s := { s with array := { s.array with evictions := s.array.evictions ++ [(cmd, id, c.ctx)] } }
        ((s.accept cmd).stage c .running).kick)

/-- A Route has been loaded again: no copy of it in staging is lost any more (R178). -/
def State.renewCopies (s : State) (c id : Nat) : State :=
  { s with array := { s.array with routes := s.array.routes.map fun r =>
    if r.ctx = c ∧ r.id = id then { r with lost := [] } else r } }

/-- ROUTE_LOAD_DONE: power-up and activation; a preload byte that no longer reaches its region is dropped, and
the command says so (R176 steps 4 to 6, R639). A cluster isolated after step 2 does not stop the activation (DESIGN CHOICE, log
124). -/
def execRouteLoadDone (cmd t : Nat) (s : State) : Host.Outcome State Fault Refusal :=
  .next (match s.cmd cmd, s.array.loads.find? fun l => decide (l.cmd = cmd) with
    | some c, some l =>
      if l.draining && !s.stillFor (.load cmd) && !s.busy l.footprint then
        let s := s.at t
        let late := s.preloadFails l.ctx l.bytes
        let s := s.stageOnce l.ctx l.id l.footprint l.image l.bytes
        let s := (s.activate l.ctx l.id l.image l.footprint l.bytes).renewCopies l.ctx l.id
        let s := s.dropLoad cmd
        let s := match late with
          | some x => s.completeOn c stNearProtection (preloadValue x)
          | none => s.completeOn c 0 l.id
        s.kick
      else s
    | _, _ => s)

/-! ### Activation without a command (R371, R585, R639) -/

/-- A Route is activated again from staging, or from its recorded image when it has left staging. -/
def State.revive (s : State) (r : Route) : State :=
  match s.stagedImage r.ctx r.id with
  | some g =>
    if (s.preloadFails r.ctx g.bytes).isSome then s.dropRoute r
    else s.activate r.ctx r.id r.image r.footprint g.bytes
  | none => s.reactivate r

/-- Engine reset of a hang search: the captured clusters go Off and On, their Routes are activated again, and
the trials begin (R585 steps 3 and 4). -/
def State.engineReset (s : State) : State :=
  match s.ctxs.hang with
  | none => s
  | some h =>
    let cls := (clustersOf h.captured).filter s.clusterUp
    let s := cls.foldl State.powerCluster (s.setDomains 0 cls)
    let rs := s.array.routes.filter fun r => !r.parked && overlaps r.footprint h.captured
    let s := rs.foldl State.revive s
    (s.mapHang fun h => { h with draining := false }).nextTrial (h.suspects.length + 1)

/-! ### What follows a quiescence (Table: Uses of the Rappel) -/

/-- A step whose attempt has failed and whose footprint no Rappel holds any more is settled. -/
def State.settleFailed (s : State) (cmd : Nat) : State :=
  match s.step? cmd with
  | some p =>
    if p.launched && p.ending.isSome && !(s.array.rappels.any fun r => overlaps r.footprint p.footprint) &&
        !s.stillFor (.launch cmd) then s.settleEnding p
    else s
  | none => s

/-- The phase change or the first activation of a step goes on. -/
def State.goOn (s : State) (cmd : Nat) (k : Step → Nat) : State :=
  match s.step? cmd with
  | some p => if p.launched && p.ending.isNone then s.activatePhase p (k p) else s.settleFailed cmd
  | none => s

/-- An eviction is complete: the clusters are free. -/
def State.evictDone (s : State) (cmd : Nat) : State :=
  match s.array.evictions.find? fun e => decide (e.1 = cmd) with
  | none => s
  | some (_, id, c) => (s.evictRoute c id).closeEviction cmd 0 id

/-- Parks the outgoing Routes of a pool's switch. -/
def State.parkOutgoing (s : State) (p : Nat) : State :=
  match (tfind s.ctxs.switches p).bind (·.outgoing) with
  | some o => s.parkRoutes o p
  | none => s

/-- What the requester of a Rappel does at its quiescence. -/
def State.settlePurpose (s : State) (c : Nat) (why : Purpose) : State :=
  match why with
  | .contextReset => s.settleReset c
  | .hostReset => s.settleHostReset
  | .recovery => s.settleRecovery
  | .replay cmd => s.settleFailed cmd
  | .finish cmd => s.settleFailed cmd
  | .hang => if s.stillFor .hang then s else s.engineReset
  | .isolation cl => if s.isolated cl then s else s.isolateNow cl
  | .evict cmd => s.evictDone cmd
  | .load _ => s.kick
  | .phase cmd => s.goOn cmd fun p => p.phase + 1
  | .launch cmd => if s.stillFor (.launch cmd) then s else s.goOn cmd fun _ => 0
  | .switch p => if s.stillFor (.switch p) then s else s.parkOutgoing p

/-- A cluster that did not finish its clear ends the step that ran on it, for every member of a group, but for a reset's
outcome (R483, R563, R564). -/
def State.failUnclear (s : State) (fp : BitVec 64) : State :=
  s.steps.foldl (fun s p =>
    if p.launched && overlaps p.footprint fp && !p.readySent && !p.committed then
      match p.ending with
      | some (.status _ _) => s
      | some .silent => s
      | _ =>
        let id := ((clustersOf fp).findSome? fun cl => (s.resident cl).map (·.id)).getD 0
        (s.sendAbort p.live stFootprint 0).setStep { p with ending := some (.status stFootprint (BitVec.ofNat 64 (routeValue id 0xFFFFFFFF))) }
    else s) s

/-- Replay and the end of a step take precedence over its phase change and its first activation (R200). -/
def Purpose.superseded (failed : List Nat) : Purpose → Bool
  | .phase cmd => failed.contains cmd
  | .launch cmd => failed.contains cmd
  | _ => false

/-- The clear of a Rappel has ended: its footprint is at launch values, and its requesters go on (R197, R199,
R200). -/
def State.quiesce (s : State) (r : Rappel) (unclear : List Nat) : State :=
  let s := { s with array := { s.array with rappels := s.array.rappels.filter fun q => decide (q.footprint ≠ r.footprint) } }
  let ps := s.steps.filter fun p => p.launched && overlaps p.footprint r.footprint
  let s := ps.foldl State.endHalts s
  let s := s.clearFootprint r.footprint
  let bad := (unclear.filter fun cl => r.footprint.getLsbD cl).filter fun cl => !s.isolated cl
  let s := if bad.isEmpty then s else bad.foldl State.isolateNow (s.failUnclear r.footprint)
  let failed := (s.steps.filter fun p => p.launched && p.ending.isSome).map (·.cmd)
  let s := (ps.map (·.cmd)).foldl State.settleFailed s
  let s := (r.purposes.filter fun w => !w.superseded failed).foldl (fun s w => s.settlePurpose r.ctx w) s
  (((s.kick.settleReset r.ctx).settleRecovery).settleHostReset).nextExchanges

/-! ### Cut-off (R198, R578, R581) -/

/-- What a request was issued for belongs to a step: a stream or a Rope of its footprint, an exchange of it, a FLUSH or a fetch
of it. -/
def State.servesStep (s : State) (p : Step) (a : Asker) : Bool :=
  match a with
  | .stream key _ => p.footprint.getLsbD (key / 512)
  | .streamFlush key => p.footprint.getLsbD (key / 512)
  | .rope key _ _ => p.footprint.getLsbD (key / 512)
  | .exchangeRead serial _ => s.tru.exchanges.any fun e => decide (e.serial = serial) && decide (e.cmd = p.cmd)
  | .exchangeFlush serial => s.tru.exchanges.any fun e => decide (e.serial = serial) && decide (e.cmd = p.cmd)
  | .stepFlush cmd => decide (cmd = p.cmd)
  | .fetch cmd _ _ => decide (cmd = p.cmd)
  | _ => false

/-- An advance drops a transfer in flight of the executing step: it waits for a request's response. -/
def State.inFlight (s : State) (p : Step) : Bool :=
  p.launched && !p.committed && s.links.requests.any fun r => decide (r.ctx = p.ctx) && s.servesStep p r.asker

/-- A context's epoch advances at a cut-off or at a confirmation's limit, and its executing steps that lose a transfer in flight
are replayed, as for a lost link packet (R578, R581). -/
def State.advanceLosing (s : State) (c : Nat) : State :=
  let lost := s.steps.filter fun p => decide (p.ctx = c) && s.inFlight p
  lost.foldl (fun s p => s.replayStep p 3) (s.advanceEpoch c)

/-- RAPPEL_CUTOFF: what is outstanding is abandoned, and the epoch advances. -/
def execRappelCutoff (footprint : BitVec 64) (t : Nat) (s : State) : Host.Outcome State Fault Refusal :=
  .next (match s.array.rappels.find? fun r => decide (r.footprint = footprint) with
    | some r =>
      if r.cut ∨ t < r.start + s.dget 0x2500 2 * 1000 then s
      else
        let s := (s.at t).cbump r.ctx 7 3 32
        let mark := fun (q : Rappel) => if q.footprint = footprint then { q with cut := true } else q
        let s := { s with array := { s.array with rappels := s.array.rappels.map mark } }
        s.advanceLosing r.ctx
    | none => s)

/-! ### Deadlines (R44, R379) -/

/-- Phase from which a step's DEADLINE counts. -/
def Step.origin (p : Step) : Nat :=
  match p.stamp with
  | some x => x.tick * 65536
  | none => p.readyPhase

/-- DEADLINE_EXPIRED: the step goes on, and its completion will say so. -/
def execDeadlineExpired (cmd t : Nat) (s : State) : Host.Outcome State Fault Refusal :=
  .next (match s.cmd cmd, s.step? cmd with
    | some c, some p =>
      if c.at 20 4 ≠ 0 ∧ !p.missed ∧ !p.committed ∧ p.origin + ctField (c.at 20 4) ≤ s.cdu.phase (max s.uptime t) then
        (s.at t).setStep { p with missed := true }
      else s
    | _, _ => s)

/-! ### Context switches (R371, R380, R386-R389) -/

/-- The parked Routes of a context on a pool are activated again. -/
def State.unpark (s : State) (c p : Nat) : State :=
  (s.array.routes.filter fun r => r.parked && decide (r.ctx = c) &&
    decide (s.poolOfFootprint r.footprint = some p)).foldl State.revive s

/-- The switch is over: the incoming context's ready steps wait for the grant no more, and it is charged (R380, R390). -/
def State.endSwitch (s : State) (p : Nat) (w : Switch) : State :=
  let n := ((List.range 64).filter fun cl => decide (s.poolOf cl = some p)).length
  let ns := 16 * n * (s.uptime - w.start)
  let settle := fun (q : Step) =>
    if decide (q.ctx = w.incoming) && !q.launched && decide (s.poolOfFootprint q.footprint = some p) then q.settleGrant s.uptime
    else q
  let s := { s with ctxs := { s.ctxs with switches := terase s.ctxs.switches p }, steps := s.steps.map settle }
  let a := s.account w.incoming
  (s.setAccount w.incoming { a with switchCharge := a.switchCharge + ns }).charge w.incoming ns true

/-- Transfers of a switch, then the incoming context's Routes. -/
def State.switchDone (s : State) (p : Nat) (w : Switch) : State :=
  let rs := s.poolRegions p
  let s := match w.outgoing with
    | none => s
    | some o => if s.fenced o then s else match s.saveAll o p rs with
      | (s, some a) => s.bivouacFailed o a
      | (s, none) => s
  let drop := fun (s : State) => (((s.clearPool p).endSwitch p w).dset 0x2300 4 p 0xFFFF).grantDecision p
  if s.fenced w.incoming then drop s
  else match s.restoreAll w.incoming p rs with
    | (s, some a) => drop (s.bivouacFailed w.incoming a)
    | (s, none) => (s.endSwitch p w).unpark w.incoming p

/-- CONTEXT_SWITCH_DONE (R386). -/
def execContextSwitchDone (pool : Fin 16) (t : Nat) (s : State) : Host.Outcome State Fault Refusal :=
  .next (match tfind s.ctxs.switches pool.val with
    | some w => if s.stillFor (.switch pool.val) then s else (s.at t).switchDone pool.val w
    | none => s)

end Sys2Proof.Machine
end

