-- ==== Sys2Proof/Machine/Special.lean ====
section
/-! DEFINITION. The special functions of R156 to far more than FP32's precision, in fixed point, with the argument of SIN
and COS reduced by a 256-bit 2/pi (R157): what the accuracy of a result is measured against. -/

namespace Sys2Proof.Machine

/-- 1 in fixed point: 320 bits of fraction, in which every finite FP32 number is exact. -/
def fix1 : Int := 2 ^ 320

def fixMul (a b : Int) : Int := a * b / fix1
def fixDiv (a b : Int) : Int := a * fix1 / b

/-- 1 + y c(1) (1 + y c(2) (1 + ... )) to n terms, where c(k) is 1 over d(k). -/
def fixSeries (n : Nat) (d : Nat → Int) (y : Int) : Int :=
  (List.range n).foldl (fun acc i => fix1 + fixMul y acc / d (n - i)) fix1

/-- Square root of a number below 4^n, by its bits from the top. -/
def isqrt (n v : Nat) : Nat :=
  (List.range n).foldl (fun r i => if (r + 2 ^ (n - 1 - i)) ^ 2 ≤ v then r + 2 ^ (n - 1 - i) else r) 0

def fixSqrt (x : Int) : Int := (isqrt 400 (x.toNat * 2 ^ 320) : Int)

/-- 2/pi to 256 bits (R157). -/
def twoOverPi : Nat := 0xA2F9836E4E441529FC2757D1F534DDC0DB6295993C439041FE5163ABDEBBC561

def fixHalfPi : Int := 2 ^ (320 + 256) / (twoOverPi : Int)

/-- e^x for x from 0; beyond 200 as at 200, where FP32 has long overflowed. -/
def fixExpUp (x : Int) : Int :=
  (List.range 10).foldl (fun a _ => fixMul a a) (fixSeries 50 (fun k => k) (min x (200 * fix1) / 1024))

def fixExp (x : Int) : Int := if 0 ≤ x then fixExpUp x else fixDiv fix1 (fixExpUp (-x))

def fixSigmoid (x : Int) : Int := fixDiv fix1 (fix1 + fixExp (-x))

def fixTanh (x : Int) : Int :=
  if 100 * fix1 ≤ x then fix1 else if x ≤ -100 * fix1 then -fix1 else fix1 - fixDiv (2 * fix1) (fixExp (2 * x) + fix1)

/-- log2 of m * 2^e, its fraction by repeated squaring. -/
def fixLog2 (m : Nat) (e : Int) : Int :=
  let l := Nat.log2 m
  let r := (List.range 160).foldl (fun (t : Int × Int) i =>
    let q := fixMul t.1 t.1
    if 2 * fix1 ≤ q then (q / 2, t.2 + 2 ^ (319 - i)) else (q, t.2)) ((m : Int) * fix1 / 2 ^ l, 0)
  ((l : Int) + e) * fix1 + r.2

/-- erf: beyond 9 it differs from 1 by less than 2^-120. -/
def fixErf (x : Int) : Int :=
  if 9 * fix1 ≤ x then fix1 else if x ≤ -9 * fix1 then -fix1
  else
    let q := fixMul x x
    fixMul (fixMul (fixMul x (fixSeries 400 (fun k => 2 * k + 1) (2 * q))) (fixExp (-q)))
      (fixDiv (2 * fix1) (fixSqrt (2 * fixHalfPi)))

/-- Sine of a number of quarter turns; one more quarter makes it the cosine. -/
def fixSinTurns (t : Int) : Int :=
  let n := (2 * t + fix1) / (2 * fix1)
  let r := fixMul (t - n * fix1) fixHalfPi
  let q := -fixMul r r
  let sin := fixMul r (fixSeries 40 (fun k => 2 * k * (2 * k + 1)) q)
  let cos := fixSeries 40 (fun k => (2 * k - 1) * (2 * k)) q
  match (n % 4).toNat with
  | 0 => sin
  | 1 => cos
  | 2 => -sin
  | _ => -cos

/-- Quarter turns of x: x times 2/pi (R157). -/
def fixTurns (x : Int) : Int := x * (twoOverPi : Int) / 2 ^ 256

/-- The function of an SFU variant (R175) at x, which is m * 2^e up to its sign. -/
def sfuExact (fn : Nat) (neg : Bool) (m : Nat) (e : Int) : Int :=
  let a := (m : Int) * 2 ^ (e + 320).toNat
  let x := if neg then -a else a
  match fn with
  | 0 => fixExp x
  | 1 => fixLog2 m e
  | 2 => fixDiv fix1 x
  | 3 => (isqrt 560 (2 ^ 960 / x.toNat) : Int)
  | 4 => fixSigmoid x
  | 5 => fixTanh x
  | 6 => fixErf x
  | 7 => fixMul x (fix1 + fixTanh (7978845608 * (x + 44715 * fixMul (fixMul x x) x / 1000000) / 10000000000)) / 2
  | 8 => fixMul x (fix1 + fixErf (fixDiv x (fixSqrt (2 * fix1)))) / 2
  | 9 => fixMul x (fixSigmoid x)
  | 10 => fixSinTurns (fixTurns x)
  | _ => fixSinTurns (fixTurns x + fix1)

/-- Units in the last place that a variant may be off. -/
def sfuUlps : Nat → Nat
  | 1 => 1
  | 2 => 1
  | 4 => 4
  | 5 => 4
  | 7 => 4
  | 8 => 4
  | 9 => 5
  | _ => 2

/-- What a variant may be off in any case, in fixed point. -/
def sfuSlack (fn : Nat) : Nat :=
  if fn = 7 ∨ fn = 8 ∨ fn = 9 then 2 ^ (320 - 24) else if fn = 10 ∨ fn = 11 then 2 ^ (320 - 25) else 0

/-- FP32 spacing at a number, in fixed point; the subnormal spacing at the smallest (R156). -/
def fixSpacing (r : Int) : Nat := 2 ^ max (Nat.log2 r.natAbs - 23) (320 - 149)

/-- A result m * 2^e with a sign meets the accuracy of R156. -/
def sfuWithin (fn : Nat) (exact : Int) (neg : Bool) (m : Nat) (e : Int) : Bool :=
  let a := (m : Int) * 2 ^ (e + 320).toNat
  decide (((if neg then -a else a) - exact).natAbs ≤ max (sfuUlps fn * fixSpacing exact) (sfuSlack fn))

end Sys2Proof.Machine
end

