-- ==== Sys2Proof/Machine/Numerics.lean ====
section
/-! DEFINITION. Number formats, exact arithmetic and its rounding, quantisation, the accumulator and its
emission, the Crux estimate and the special functions (R90-R115, R122, R124, R147, R150, R156). -/

namespace Sys2Proof.Machine

/-! ### Exact values -/

/-- A binary format: significand bits, exponent of the last place of its subnormals, exponent bound of its
largest value, exponent bits. -/
structure Fmt where
  prec : Nat
  emin : Int
  emax : Int
  ebits : Nat

def fp32 : Fmt := ⟨24, -149, 128, 8⟩
def bf16 : Fmt := ⟨8, -133, 128, 8⟩
def fp16 : Fmt := ⟨11, -24, 16, 5⟩
/-- The 40-bit accumulator (R110). -/
def acc40 : Fmt := ⟨32, -157, 128, 8⟩

/-- The number an encoding stands for. -/
def Fmt.decode (f : Fmt) (v : Nat) : FVal :=
  let fb := f.prec - 1
  let frac := v % 2 ^ fb
  let e := v / 2 ^ fb % 2 ^ f.ebits
  let neg := bit v (fb + f.ebits)
  if e = 2 ^ f.ebits - 1 then (if frac = 0 then .inf neg else .nan)
  else if e = 0 then .fin neg frac f.emin
  else .fin neg (2 ^ fb + frac) (f.emin + ((e : Int) - 1))

/-- Rounding to the format's places, by a rule for what lies beyond the last place: number kept, remainder, and
bits cut. -/
def Fmt.roundWith (f : Fmt) (up : Nat → Nat → Nat → Bool) (m : Nat) (e : Int) : Nat × Int :=
  let q := max ((Nat.log2 m : Int) + 1 + e - f.prec) f.emin
  if q ≤ e then (m * 2 ^ (e - q).toNat, q)
  else
    let sh := (q - e).toNat
    let n := m / 2 ^ sh
    (if up n (m % 2 ^ sh) sh then n + 1 else n, q)

/-- To nearest, ties to even. -/
def nearest (n rem sh : Nat) : Bool :=
  decide (2 ^ sh < 2 * rem) || (decide (2 * rem = 2 ^ sh) && decide (n % 2 = 1))

/-- A rounded magnitude as a number, and whether it lies beyond the format's range. -/
def Fmt.settle (f : Fmt) (neg : Bool) (x : Nat × Int) : FVal × Bool :=
  if x.1 = 0 then (.fin neg 0 f.emin, false)
  else if f.emax < (Nat.log2 x.1 : Int) + 1 + x.2 then (.inf neg, true)
  else (.fin neg x.1 x.2, false)

/-- A number rounded to nearest even in a format, and whether it overflowed (R102). -/
def Fmt.round (f : Fmt) : FVal → FVal × Bool
  | .nan => (.nan, false)
  | .inf n => (.inf n, false)
  | .fin n m e => f.settle n (f.roundWith nearest m e)

def Fmt.rn (f : Fmt) (x : FVal) : FVal := (f.round x).1

/-- The encoding of a number of the format; a NaN is the canonical one (R102). -/
def Fmt.encode (f : Fmt) : FVal → Nat
  | .nan => (2 ^ f.ebits - 1) * 2 ^ (f.prec - 1) + 2 ^ (f.prec - 2)
  | .inf neg => (b2n neg * 2 ^ f.ebits + 2 ^ f.ebits - 1) * 2 ^ (f.prec - 1)
  | .fin neg m e =>
    let sign := b2n neg * 2 ^ (f.prec - 1 + f.ebits)
    if m = 0 then sign
    else
      let l := Nat.log2 m + 1
      let k : Int := (l : Int) + e - f.prec
      if k < f.emin then sign + m * 2 ^ (e - f.emin).toNat
      else
        let mant := if l ≤ f.prec then m * 2 ^ (f.prec - l) else m / 2 ^ (l - f.prec)
        sign + (mant - 2 ^ (f.prec - 1)) + (k - f.emin + 1).toNat * 2 ^ (f.prec - 1)

/-- Largest finite number of a format. -/
def Fmt.largest (f : Fmt) (neg : Bool) : FVal := .fin neg (2 ^ f.prec - 1) (f.emax - f.prec)

/-! ### Exact arithmetic (R108, R150) -/

/-- A signed integer times a power of two. -/
def signed (neg : Bool) (m : Nat) : Int := if neg then -(m : Int) else m

/-- The exact sum. -/
def FVal.add : FVal → FVal → FVal
  | .nan, _ => .nan
  | _, .nan => .nan
  | .inf a, .inf b => if a = b then .inf a else .nan
  | .inf a, _ => .inf a
  | _, .inf b => .inf b
  | .fin a m e, .fin b n g =>
    let k := min e g
    let v := signed a (m * 2 ^ (e - k).toNat) + signed b (n * 2 ^ (g - k).toNat)
    if v = 0 then .fin (a && b) 0 k else .fin (decide (v < 0)) v.natAbs k

/-- The exact product. -/
def FVal.mul : FVal → FVal → FVal
  | .nan, _ => .nan
  | _, .nan => .nan
  | .inf a, .inf b => .inf (a != b)
  | .inf a, .fin b n _ => if n = 0 then .nan else .inf (a != b)
  | .fin a m _, .inf b => if m = 0 then .nan else .inf (a != b)
  | .fin a m e, .fin b n g => .fin (a != b) (m * n) (e + g)

def FVal.neg : FVal → FVal
  | .nan => .nan
  | .inf a => .inf (!a)
  | .fin a m e => .fin (!a) m e

def FVal.abs : FVal → FVal
  | .nan => .nan
  | .inf _ => .inf false
  | .fin _ m e => .fin false m e

def FVal.isNan : FVal → Bool
  | .nan => true
  | _ => false

def FVal.isInf : FVal → Bool
  | .inf _ => true
  | _ => false

def FVal.isZero : FVal → Bool
  | .fin _ 0 _ => true
  | _ => false

/-- a < b; false when either is NaN. -/
def FVal.lt (a b : FVal) : Bool :=
  match a, b with
  | .nan, _ => false
  | _, .nan => false
  | .inf x, .inf y => x && !y
  | .inf x, _ => x
  | _, .inf y => !y
  | x, y => match x.add y.neg with
    | .fin n m _ => n && decide (m ≠ 0)
    | _ => false

/-- a = b as numbers; the two zeros are equal, a NaN equals nothing. -/
def FVal.eq (a b : FVal) : Bool := !a.isNan && !b.isNan && !a.lt b && !b.lt a

def FVal.zero : FVal := .fin false 0 0

/-- A sum that is zero is +0 (R108). -/
def FVal.posZero : FVal → FVal
  | .fin _ 0 e => .fin false 0 e
  | x => x

/-- Exact sum of a list. -/
def exactSum (xs : List FVal) : FVal := xs.foldl FVal.add .zero

/-- FP32 bits of a number, and back. -/
def enc32 (x : FVal) : Nat := fp32.encode x
def dec32 (v : Nat) : FVal := fp32.decode v

/-! ### Element types (R92-R96, R174) -/

/-- Element type of a format code: exponent bits, mantissa bits, units below one, largest code, emax (R104). -/
structure Elem where
  mbits : Nat
  units : Nat
  top : Nat
  emax : Int

def elemOf : Nat → Elem
  | 3 => ⟨2, 4, 31, 4⟩
  | 4 => ⟨3, 3, 31, 2⟩
  | 5 => ⟨3, 9, 126, 8⟩
  | 6 => ⟨2, 16, 123, 15⟩
  | _ => ⟨1, 1, 7, 2⟩

/-- Magnitude of a code in units of 2^-units. -/
def Elem.mag (t : Elem) (c : Nat) : Nat :=
  let e := c / 2 ^ t.mbits
  if e = 0 then c else (2 ^ t.mbits + c % 2 ^ t.mbits) * 2 ^ (e - 1)

/-- The code nearest to num / den units, ties to the even code (R105). -/
def Elem.near (t : Elem) (num den : Nat) : Nat :=
  ((List.range t.top).filter fun c =>
    let mid := (t.mag c + t.mag (c + 1)) * den
    decide (mid < 2 * num) || (decide (mid = 2 * num) && decide (c % 2 = 1))).length

/-- Bits of an element of a format code. -/
def elemBits : Nat → Nat
  | 2 => 2
  | 3 => 6
  | 4 => 6
  | 5 => 8
  | 6 => 8
  | 7 => 8
  | 8 => 16
  | 9 => 16
  | _ => 4

/-- Bytes of a block's side record (R97). -/
def sideBytes : Nat → Nat
  | 0 => 2
  | 8 => 0
  | 9 => 0
  | _ => 1

/-- Bytes of a block's element record. -/
def elemBytes (f : Nat) : Nat := 4 * elemBits f

/-- Value of an element code under a block scale and the anchor of its half (R92-R96, R99). -/
def elemValue (f scale anchor c : Nat) : FVal :=
  let x : Int := (scale : Int) - 127
  let t := elemOf f
  if f = 7 then
    if scale = 255 then .nan else .fin (decide (128 ≤ c)) (if 128 ≤ c then 256 - c else c) (x - 6)
  else if f = 2 then
    let s := elemOf 5
    if scale % 128 = 127 then .nan
    else
      let neg := decide (128 ≤ scale)
      match c with
      | 1 => .fin neg (s.mag (scale % 128)) (-9)
      | 3 => .fin (!neg) (s.mag (scale % 128)) (-9)
      | _ => .zero
  else if scale = 255 then .nan
  else
    let half := 2 ^ (elemBits f - 1)
    let neg := decide (half ≤ c)
    let k := c % half
    if f = 5 ∧ k = 127 then .nan
    else if f = 6 ∧ 124 ≤ k then (if k = 124 then .inf neg else .nan)
    else if f = 0 then .fin neg (t.mag k * (16 + anchor)) (x - t.units - 4)
    else .fin neg (t.mag k) (x - t.units)

/-- Decodes a block of a stored tensor (R95-R99). -/
def decodeBlock (f : Nat) (el side : Bytes) : Block32 :=
  let w := elemBits f
  let scale := byteAt side 0
  let v := leNat el
  let codes := (List.range 32).map fun i => v / 2 ^ (w * i) % 2 ^ w
  let anchor := fun (i : Nat) => if i < 16 then byteAt side 1 % 16 else byteAt side 1 / 16
  { vals := codes.zipIdx.map fun (x : Nat × Nat) => elemValue f scale (anchor x.2) x.1
    nan := if f = 2 then decide (scale % 128 = 127) else decide (scale = 255)
    invalid := decide (f = 2) && codes.contains 2 }

/-! ### Quantisation (R103-R107) -/

/-- A quantised block. -/
structure QBlock where
  scale : Nat
  anchor0 : Nat := 0
  anchor1 : Nat := 0
  codes : List Nat
  sat : Nat := 0
  nan : Bool := false

/-- |x| / 2^X in units of 2^-u, times 16 / (16 + a), as numerator and denominator. -/
def scaledMag (x : FVal) (bigX : Int) (u a : Nat) : Nat × Nat :=
  match x with
  | .fin _ m e =>
    let k := e - bigX + u
    (m * 2 ^ k.toNat * 16, 2 ^ (-k).toNat * (16 + a))
  | _ => (0, 1)

def isNeg : FVal → Bool
  | .fin n _ _ => n
  | .inf n => n
  | .nan => false

/-- One element: its code and whether it saturates (R105, R106). -/
def quantElem (f : Nat) (x : FVal) (bigX : Int) (a : Nat) : Nat × Bool :=
  if f = 7 then
    let (n, d) := scaledMag x bigX 6 0
    if 127 * d < n then (if isNeg x then 256 - 127 else 127, true)
    else
      let q := n / d
      let r := n % d
      let k := if d < 2 * r ∨ (2 * r = d ∧ q % 2 = 1) then q + 1 else q
      (if isNeg x ∧ k ≠ 0 then 256 - k else k, false)
  else
    let t := elemOf f
    let (n, d) := scaledMag x bigX t.units a
    let sign := if isNeg x then 2 ^ (elemBits f - 1) else 0
    if x.isInf || decide (t.mag t.top * d < n) then (sign + t.top, true)
    else
      let k := t.near n d
      (if k = 0 then 0 else sign + k, false)

/-- The largest magnitude of a list. -/
def amaxOf (xs : List FVal) : FVal := xs.foldl (fun m x => if m.lt x.abs then x.abs else m) .zero

/-- The anchor of a half (R107). -/
def anchorOf (m : FVal) (bigX : Int) : Nat :=
  let (n, d) := scaledMag m bigX 1 0
  ((List.range 16).find? fun a => decide (n * 16 ≤ 12 * (16 + a) * d)).getD 15

/-- Quantises 32 values to a format (R104-R107). The anchors of a NaN block, of which R104 says nothing, are 0 (log 98). -/
def quantBlock (f : Nat) (xs : List FVal) : QBlock :=
  if xs.any fun x => x.isNan || x.isInf then { scale := 255, codes := List.replicate xs.length 0, nan := true }
  else match amaxOf xs with
    | .fin _ m e =>
      if m = 0 then { scale := 0, codes := List.replicate xs.length 0 }
      else
        let em : Int := if f = 7 then 0 else (elemOf f).emax
        let bigX : Int := max ((Nat.log2 m : Int) + e - em) (-127)
        let a0 := if f = 0 then anchorOf (amaxOf (xs.take 16)) bigX else 0
        let a1 := if f = 0 then anchorOf (amaxOf (xs.drop 16)) bigX else 0
        let qs := xs.zipIdx.map fun (x : FVal × Nat) => quantElem f x.1 bigX (if x.2 < 16 then a0 else a1)
        { scale := (bigX + 127).toNat, anchor0 := a0, anchor1 := a1, codes := qs.map (·.1)
          sat := (qs.filter (·.2)).length }
    | _ => { scale := 0, codes := List.replicate xs.length 0 }

/-- The values that a quantised block stands for. -/
def QBlock.values (f : Nat) (b : QBlock) : List FVal :=
  b.codes.zipIdx.map fun (x : Nat × Nat) => elemValue f b.scale (if x.2 < 16 then b.anchor0 else b.anchor1) x.1

/-- Element and side records of a quantised block (R97, R98). -/
def QBlock.records (f : Nat) (b : QBlock) : Bytes × Bytes :=
  let w := elemBits f
  let v := (b.codes.zipIdx.map fun (x : Nat × Nat) => x.1 * 2 ^ (w * x.2)).foldl (· + ·) 0
  (leBytes (elemBytes f) v, leBytes 1 b.scale ++ (if f = 0 then leBytes 1 (b.anchor0 + 16 * b.anchor1) else []))

/-! ### The accumulator (R108-R111) -/

/-- An accumulator: the 40-bit number and the output's overflow flag. -/
structure Acc where
  val : FVal := .fin false 0 0
  ovf : Bool := false
deriving DecidableEq, Repr

/-- A value is added with the rounding of R110. -/
def Acc.add (a : Acc) (b : FVal) : Acc :=
  let r := acc40.round (a.val.add b)
  { val := r.1, ovf := a.ovf || r.2 || (b.isInf && r.1.isInf) }

/-- The sum of two partial results, with the flags of both. -/
def Acc.join (a b : Acc) : Acc :=
  let r := acc40.round (a.val.add b.val)
  { val := r.1, ovf := a.ovf || b.ovf || r.2 }

/-- A partial result is added into an accumulator, with the flags of both. -/
def Acc.plus (a b : Acc) : Acc :=
  let r := a.add b.val
  { r with ovf := r.ovf || b.ovf }

/-- The cell that holds an accumulator: bits [39:0], and the flag in bit 40. -/
def Acc.cell (a : Acc) : Nat :=
  (match a.val with
   | .nan => 0xFF * 2 ^ 31 + 1 + Config.accNan.toNat % (2 ^ 31 - 1)
   | v => acc40.encode v) + b2n a.ovf * 2 ^ 40

def accOf (v : Nat) : Acc := { val := acc40.decode (v % 2 ^ 40), ovf := bit v 40 }

/-- The products of one K group of BF16 or FP16, each exact, summed by the pairwise tree with the rounding and the
overflow flag of R110 (R109). -/
def treeSum : Nat → List Acc → Acc
  | 0, xs => xs.headD {}
  | n + 1, xs =>
    let rec pair : List Acc → List Acc
      | a :: b :: t => a.join b :: pair t
      | t => t
    treeSum n (pair xs)

/-! ### Emission (R113-R115, R147) -/

/-- The stochastic value r of an element (R114). -/
def stochastic (seed : BitVec 64) (q : BitVec 32) (t : Nat) (n : Nat) : Nat :=
  let h1 := mix32 (seed.setWidth 32 ^^^ q)
  let h2 := mix32 (h1 ^^^ (seed >>> 32).setWidth 32 ^^^ BitVec.ofNat 32 t)
  (mix32 (h2 ^^^ BitVec.ofNat 32 n)).toNat / 2 ^ 24

/-- Rounds up when D + r reaches 256. -/
def dithered (r : Nat) (_n rem sh : Nat) : Bool := decide (256 ≤ 256 * rem / 2 ^ sh + r)

/-- An accumulator as FP32: the number, and whether the element counts as overflowed (R113, R115). Above the largest FP32 the
upper neighbour of a stochastic rounding is 2^128 (log 98). -/
def emitAcc (a : FVal) (r : Option Nat) (sat : Bool) : FVal × Bool :=
  match a with
  | .nan => (.nan, false)
  | .inf n => (if sat then fp32.largest n else .inf n, true)
  | .fin n m e =>
    let x := fp32.settle n (fp32.roundWith (match r with | some k => dithered k | none => nearest) m e)
    if x.2 then (if sat then fp32.largest n else x.1, true) else x

/-- A step of the epilogue rounds in a format; an overflow saturates under OUT_SAT (R147). -/
def satRound (f : Fmt) (sat : Bool) (x : FVal) : FVal × Bool :=
  let r := f.round x
  if r.2 then (if sat then f.largest (isNeg r.1) else r.1, true) else r

/-! ### Special functions (R156) -/

/-- What the unit gives for a number that no special value of R156 covers: its own result where that meets the accuracy
stated, else the exact result rounded. -/
def sfuFinite (fn : Nat) (neg : Bool) (m : Nat) (e : Int) (own : Nat) : Nat :=
  let exact := sfuExact fn neg m e
  let met := match dec32 own with
    | .fin n k g => sfuWithin fn exact n k g
    | _ => false
  if met then own else enc32 (fp32.rn (.fin (decide (exact < 0)) exact.natAbs (-320)))

/-- An SFU function on FP32 bits, by its variant of R175. -/
def sfuBits (fn v : Nat) : Nat :=
  let x := dec32 v
  let one := 0x3F800000
  let neg := isNeg x
  let own := (Config.sfu fn (BitVec.ofNat 32 v)).toNat
  let other := match x with
    | .fin n m e => sfuFinite fn n m e own
    | _ => own
  if x.isNan then enc32 .nan
  else match fn, x with
    | 0, .inf n => if n then 0 else enc32 (.inf false)
    | 0, _ => if !neg && decide (0x42B17218 ≤ v) then enc32 (.inf false) else other
    | 1, .inf n => if n then enc32 .nan else enc32 (.inf false)
    | 1, .fin n m _ => if m = 0 then enc32 (.inf true) else if n then enc32 .nan else other
    | 2, .inf n => enc32 (.fin n 0 0)
    | 2, .fin n m _ => if m = 0 then enc32 (.inf n) else other
    | 3, .inf n => if n then enc32 .nan else 0
    | 3, .fin n m _ => if m = 0 then enc32 (.inf n) else if n then enc32 .nan else other
    | 4, .inf n => if n then 0 else one
    | 5, .inf n => if n then one + 2 ^ 31 else one
    | 5, .fin _ m _ => if m = 0 then v else other
    | 6, .inf n => if n then one + 2 ^ 31 else one
    | 7, .inf n => if n then 0 else enc32 (.inf false)
    | 8, .inf n => if n then 0 else enc32 (.inf false)
    | 9, .inf n => if n then 0 else enc32 (.inf false)
    | 10, .inf _ => enc32 .nan
    | 11, .inf _ => enc32 .nan
    | _, _ => other

/-- The epilogue function of a code on a number (Table: Epilogue functions). -/
def epiFunc (code : Nat) (t : FVal) : FVal :=
  match code with
  | 0 => t
  | 1 => if t.isNan then .nan else if FVal.zero.lt t then t else .zero
  | 2 => dec32 (sfuBits 7 (enc32 t))
  | 3 => dec32 (sfuBits 8 (enc32 t))
  | 4 => dec32 (sfuBits 4 (enc32 t))
  | 5 => dec32 (sfuBits 5 (enc32 t))
  | _ => dec32 (sfuBits 9 (enc32 t))

/-! ### The Crux estimate (R122, R124) -/

/-- The two FP32 sums of a tile. -/
structure Sums where
  x2 : FVal := .fin false 0 0
  r2 : FVal := .fin false 0 0
  nan : Bool := false

/-- One element: source value and the value it was quantised to. -/
def Sums.take (s : Sums) (x d : FVal) : Sums :=
  let r := fp32.rn (x.add d.neg)
  { x2 := fp32.rn (s.x2.add (fp32.rn (x.mul x)))
    r2 := fp32.rn (s.r2.add (fp32.rn (r.mul r)))
    nan := s.nan || x.isNan }

/-- Integer square root of a number below 2^32, by its bits from the top. -/
def isqrt16 (v : Nat) : Nat :=
  (List.range 16).foldl (fun r i => if (r + 2 ^ (15 - i)) ^ 2 ≤ v then r + 2 ^ (15 - i) else r) 0

/-- E of a tile, in units of 2^-16 (R122). -/
def Sums.estimate (s : Sums) : Nat :=
  if s.nan || s.x2.isZero then 0
  else match s.x2, s.r2 with
    | .fin _ b q, .fin _ a p =>
      let k := p - q + 32
      let v := a * 2 ^ k.toNat / (b * 2 ^ (-k).toNat)
      if 2 ^ 32 ≤ v then 0xFFFF else isqrt16 v
    | _, _ => 0xFFFF

/-- The test of R124 on the sums, for a threshold T. -/
def Sums.escalates (s : Sums) (t : Nat) : Bool :=
  !s.nan && (s.x2.isInf || s.r2.isInf || ((s.x2.mul (.fin false (t * t) 0)).lt (s.r2.mul (.fin false 1 32))))

end Sys2Proof.Machine
end

