-- ==== Sys2Proof/Machine/Engines.lean ====
section
/-! DEFINITION. The engines of a core: registers, packets on lanes, the Matrix Engine, the Vector Engine, NORM and
the Steering Unit (R108-R131, R133-R166, R174, R175, R638). -/

namespace Sys2Proof.Machine

/-! ### Cores, registers and lanes -/

def State.core (s : State) (i : Nat) : Core := tget {} s.array.cores i

def State.setCore (s : State) (i : Nat) (k : Core) : State :=
  { s with array := { s.array with cores := tset {} s.array.cores i k } }

/-- n bytes of a core's vector registers from a byte of register reg (R149: 64 registers of 256 B). -/
def Core.vread (k : Core) (reg off n : Nat) : Bytes := memReads k.vregs (reg % 64 * 256 + off) n

def Core.vwrite (k : Core) (reg off : Nat) (b : Bytes) : Core :=
  { k with vregs := memWrites k.vregs (reg % 64 * 256 + off) b }

/-- Lane types of R175: bytes of a lane and lanes of a register. -/
def laneBytes (ty : Nat) : Nat := if ty = 1 ∨ ty = 2 then 2 else 4
def laneCount (ty : Nat) : Nat := 256 / laneBytes ty

def Core.lane (k : Core) (ty reg i : Nat) : Nat := leNat (k.vread reg (i * laneBytes ty) (laneBytes ty))

/-- Lanes of a register. -/
def Core.lanes (k : Core) (ty reg : Nat) : List Nat := (List.range (laneCount ty)).map (k.lane ty reg)

/-- The lane is not masked off (R149). -/
def Core.unmasked (k : Core) (mask i : Nat) : Bool := bit mask 7 || thas k.masks (mask % 8 * 128 + i)

/-- Writes the lanes of a register that are not masked off. -/
def Core.setLanes (k : Core) (ty reg mask : Nat) (vs : List Nat) : Core :=
  vs.zipIdx.foldl (fun k (x : Nat × Nat) =>
    if k.unmasked mask x.2 then k.vwrite reg (x.2 * laneBytes ty) (leBytes (laneBytes ty) x.1) else k) k

/-- Format of a lane type. -/
def laneFmt (ty : Nat) : Fmt := if ty = 1 then bf16 else if ty = 2 then fp16 else fp32

/-- Format of a source or output code: 1 BF16, 2 FP16, else FP32. -/
def srcFmt (c : Nat) : Fmt := laneFmt c

/-- Packets waiting on a port code of a core. -/
def Core.queue (k : Core) (port : Nat) : List Pkt := tget [] k.ports port

def Core.setQueue (k : Core) (port : Nat) (q : List Pkt) : Core := { k with ports := tset [] k.ports port q }

/-- Bytes taken from the packets of a queue. -/
def takeBytes : Nat → List Pkt → Bytes × List Pkt
  | _, [] => ([], [])
  | n, p :: ps =>
    if n = 0 then ([], p :: ps)
    else if n < p.data.length then (p.data.take n, { p with data := p.data.drop n } :: ps)
    else
      let (b, q) := takeBytes (n - p.data.length) ps
      (p.data ++ b, q)

/-- Packets that hold the first n bytes of a queue, and the rest of it. -/
def takePkts : Nat → List Pkt → List Pkt × List Pkt
  | _, [] => ([], [])
  | n, p :: ps =>
    if n = 0 then ([], p :: ps)
    else if n < p.data.length then ([{ p with data := p.data.take n }], { p with data := p.data.drop n } :: ps)
    else
      let r := takePkts (n - p.data.length) ps
      (p :: r.1, r.2)

/-- Bytes cut into packets of at most 512 B. -/
def cutPackets (ovf nan : Bool) : Nat → Bytes → List Pkt
  | 0, _ => []
  | k + 1, b => if b.isEmpty then [] else { data := b.take 512, ovf := ovf, nan := nan } :: cutPackets ovf nan k (b.drop 512)

/-- The work of one round of a cluster: the state, the step, the Route's image, and what the round keeps. -/
structure Round extends Work where
  s : State
  cmd : Nat
  cl : Nat
  image : Bytes
  /-- offset of the cluster section -/
  sec : Nat
  num : Nat
  /-- cycle of the action that runs -/
  cycle : Nat := 0
  /-- the action waits, and the round with it (R182) -/
  wait : Bool := false
  /-- the slot of the action went unused (R133) -/
  idle : Bool := false

/-- A round's part: the round goes on, or the step has failed. -/
abbrev Part := Except State Round

def Round.core (x : Round) (c : Nat) : Core := x.s.core (x.cl * 16 + c)
def Round.setCore (x : Round) (c : Nat) (k : Core) : Round := { x with s := x.s.setCore (x.cl * 16 + c) k }

/-- The entry of a switch schedule that holds at a cycle of its table. -/
def switchRow (b : Bytes) (o : Nat) : List Nat → Nat → Option Nat
  | [], _ => none
  | e :: es, t =>
    let run := byteAt b (switchAt b o e + 31)
    if t < run then some e else switchRow b o es (t - run)

/-- Output ports of the cluster switch that take their data from an input port at a cycle of a round: 0-15 name cores, 16-19
the mesh ports. The table repeats every ROUND_II cycles (R173). -/
def switchOuts (b : Bytes) (o port t : Nat) : List Nat :=
  match switchRow b o (List.range (switchEntries b o)) (t % max 1 (field b o 2)) with
  | some e => (List.range 20).filter fun j => decide (byteAt b (switchAt b o e + j) = port)
  | none => []

/-- A packet that comes in by a port of the switch, on a lane, goes to the cores that the switch connects (R173). -/
def Round.toCores (x : Round) (port lane : Nat) (outs : List Nat) (p : Pkt) : Round :=
  (outs.filter fun j => decide (j < 16)).foldl (fun x j =>
    match Config.laneAt port lane j with
    | some l => let k := x.core j
                x.setCore j (k.setQueue (l % 12) (k.queue (l % 12) ++ [p]))
    | none => x) x

/-- A packet on a lane of a core at a cycle: to the cores that the switch connects, and, through a mesh port, to the
egresses of the lane (R173); it is an event of each mesh port that it leaves by (R618). -/
def Round.sendOne (x : Round) (c lane t : Nat) (p : Pkt) : Round :=
  let outs := switchOuts x.image x.sec c t
  let x := x.toCores c lane outs p
  let es := (List.range (egressCount x.image x.sec)).filter fun e =>
    decide (byteAt x.image (egressAt x.image x.sec e + 2) = c) && decide (Config.egressLane x.cl e % 12 = lane)
  let mesh := outs.filter fun j => decide (16 ≤ j)
  if mesh.isEmpty then x
  else
    let ctx := ((x.s.step? x.cmd).map (·.ctx)).getD 0xFFFF
    { x with s := mesh.foldl (fun s j => (s.perturbed 2 x.cl (j - 16) ctx true).1) x.s
             out := es.foldl (fun t e => tset [] t e (tget [] t e ++ [p])) x.out }

/-- A packet of an ingress comes in by its mesh port: its DEST_CORE takes it on the ingress's lane, other cores that the
entry connects on theirs (R173; log 37). -/
def Round.meshIn (x : Round) (i port dest t : Nat) (p : Pkt) : Round :=
  let outs := switchOuts x.image x.sec (16 + port) t
  let lane := Config.ingressLane x.cl i % 12
  let y := x.toCores (16 + port) lane (outs.filter fun j => decide (j ≠ dest)) p
  if outs.contains dest then
    let k := y.core dest
    y.setCore dest (k.setQueue lane (k.queue lane ++ [p]))
  else y

/-- Packets sent on a lane of a core, one after another: a packet of 512 B passes the switch port in two cycles. -/
def Round.send (x : Round) (c lane : Nat) (ps : List Pkt) : Round :=
  ps.zipIdx.foldl (fun x (q : Pkt × Nat) => x.sendOne c lane (x.cycle + 2 * q.2) q.1) x

/-- A steering slot of a core takes a port code as an input. -/
def Round.steered (x : Round) (c code : Nat) : Bool :=
  let sec := (coreAt x.image x.sec c).getD 0
  (List.range (steerSlots x.image sec)).any fun j => (List.range 3).any fun i =>
    decide (byteAt x.image (steerAt x.image sec j + 4 + i) = code)

/-- Packets wait for the steering slots on a port code. -/
def Round.queueFor (x : Round) (c code : Nat) (ps : List Pkt) : Round :=
  let k := x.core c
  x.setCore c (k.setQueue code (k.queue code ++ ps))

/-- Packets that an engine of a core emits on a lane; where a steering slot takes that engine's port code as an
input, they go to the slot. -/
def Round.emit (x : Round) (c code lane : Nat) (ps : List Pkt) : Round :=
  if x.steered c code then x.queueFor c code ps else x.send c lane ps

/-- The step of the round as it stands. -/
def Round.step (x : Round) : Option Step := x.s.step? x.cmd

def Round.mapStep (x : Round) (f : Step → Step) : Round :=
  match x.step with
  | some p => { x with s := x.s.setStep (f p) }
  | none => x

/-! ### The slice (R133, R134, R213, R221) -/

/-- Client of the wheel of a core section at a cycle counted from launch: 0 ME-W, 1 ME-A, 2 VE, 3 SE (R133). -/
def slotClient (b : Bytes) (sec t : Nat) : Nat := slotWheel b sec / 4 ^ (t % 16) % 4

def hasSlot (b : Bytes) (sec client : Nat) : Bool := (List.range 16).any fun t => decide (slotClient b sec t = client)

/-- Cycles, of the first n of a round that starts at a cycle counted from launch, in which the wheel serves a client (log
121). -/
def slotCycles (b : Bytes) (sec client start n : Nat) : List Nat :=
  (List.range n).filter fun t => decide (slotClient b sec (start + t) = client)

/-- An access of a client of the slice port: one without a slot of the wheel is granted nothing, and the action waits (R133; log
42). -/
def Round.through (x : Round) (c client : Nat) (go : Round → Part) : Part :=
  if hasSlot x.image ((coreAt x.image x.sec c).getD 0) client then go x else .ok { x with wait := true }

/-- The first poisoned line of a slice range. -/
def State.slicePoison (s : State) (core off n : Nat) : Option Nat :=
  ((List.range ((off % 32 + n + 31) / 32)).map fun i => (core * 2 ^ 25 + off) / 32 + i).find? fun l => thas s.near.poison l

/-- A step fails on a damaged line of its own slice, reached by its physical address (R45, R221, R338). -/
def State.sliceDamage (s : State) (p : Step) (core off : Nat) : State :=
  let s := s.cbump p.ctx 8 3 32
  if tfind s.near.written ((core * 2 ^ 25 + off) / 65536) = some p.cmd then s.replayStep p 1
  else if p.ending.isSome then s
  else (s.sendAbort p 0 0).failStep p (.damaged (2 ^ 64 - 1)) (.replay p.cmd)

/-- A slice access was suppressed: the step ends with NEAR_PROTECTION (R213). -/
def State.suppress (s : State) (p : Step) (core off : Nat) : State :=
  s.endStep p stNearProtection (BitVec.ofNat 64 (preloadValue (core, off)))

/-- n bytes of a core's slice for the round. -/
def Round.load (x : Round) (c off n : Nat) : Except State Bytes :=
  match x.step with
  | none => .error x.s
  | some p =>
    let core := x.cl * 16 + c
    match x.s.sliceFails p.ctx core false off n with
    | some a => .error (x.s.suppress p core a)
    | none => match x.s.slicePoison core off n with
      | some l => .error (x.s.sliceDamage p core (l * 32 % 2 ^ 25))
      | none => .ok ((x.s.ownView x.cmd).sliceRead p.ctx core off n)

/-- Bytes written into a core's slice by the round. -/
def Round.store (x : Round) (c off : Nat) (b : Bytes) : Round :=
  match x.step with
  | none => x
  | some p =>
    let core := x.cl * 16 + c
    let s := x.s.sliceWrite p.ctx (some x.cmd) core off b
    let k := s.core core
    let s := s.setCore core { k with marks := tclear k.marks off (off + b.length) }
    match x.s.sliceFails p.ctx core true off b.length with
    | some a => { x with s := s.suppress p core a }
    | none => { x with s := s }

/-! ### Matrix Engine -/

/-- The lines of a slice that the writes of one grant, as offsets and lengths, cover together lose their poison (R221). -/
def State.healLines (s : State) (c core : Nat) (ws : List (Nat × Nat)) : State :=
  let whole := fun (l : Nat) => (List.range 32).all fun i => ws.any fun w =>
    decide (w.1 ≤ 32 * l + i) && decide (32 * l + i < w.1 + w.2)
  let lines := (ws.map fun w => w.1 / 32).filter fun l =>
    thas s.near.poison (core * 2 ^ 20 + l) && s.sliceWritable c (slicePrn core (32 * l)) && whole l
  { s with near := { s.near with poison := lines.foldl (fun t l => terase t (core * 2 ^ 20 + l)) s.near.poison } }

/-- The writes of one grant have been made (R221). -/
def Round.heal (x : Round) (c : Nat) (ws : List (Nat × Nat)) : Round :=
  match x.step with
  | none => x
  | some p => { x with s := x.s.healLines p.ctx (x.cl * 16 + c) ws }

/-- Fields of an operator record at offset o (R174). -/
structure MeOp where
  id : Nat
  tensor : Nat
  wFmt : Nat
  aFmt : Nat
  aSrc : Nat
  outFmt : Nat
  ctrl : Nat
  threshold : Nat
  m : Nat
  kGroups : Nat
  blocks : Nat
  start : Nat
  w : Nat
  a : Nat
  out : Nat
  bias : Nat
  scale : Nat
  scaleValue : Nat
  outLane : Nat
  initLane : Nat
  lastCols : Nat
  lastK : Nat
  rowBase : Nat
  colBase : Nat
  cols : Nat

def meOpAt (b : Bytes) (o : Nat) : MeOp :=
  { id := field b o 2, tensor := field b (o + 2) 2, wFmt := byteAt b (o + 4), aFmt := byteAt b (o + 5)
    aSrc := byteAt b (o + 6), outFmt := byteAt b (o + 7), ctrl := field b (o + 8) 2, threshold := field b (o + 10) 2
    m := field b (o + 12) 2, kGroups := field b (o + 14) 2, blocks := field b (o + 16) 2, start := field b (o + 18) 2
    w := field b (o + 20) 4, a := field b (o + 24) 4, out := field b (o + 28) 4, bias := field b (o + 32) 4
    scale := field b (o + 36) 4, scaleValue := field b (o + 40) 4, outLane := byteAt b (o + 44)
    initLane := byteAt b (o + 45), lastCols := field b (o + 46) 2, lastK := field b (o + 48) 2
    rowBase := field b (o + 52) 4, colBase := field b (o + 56) 4, cols := field b (o + 60) 4 }

/-- K group of the operator, its valid columns of the last block, its valid K, the tensor's columns. -/
def MeOp.k (f : MeOp) : Nat := kGroup f.wFmt
def MeOp.last (f : MeOp) : Nat := if f.lastCols = 0 then 64 else f.lastCols
def MeOp.validK (f : MeOp) : Nat := (f.kGroups - 1) * f.k + (if f.lastK = 0 then f.k else f.lastK)
def MeOp.tensorCols (f : MeOp) : Nat := if f.cols = 0 then (f.blocks - 1) * 64 + f.last else f.cols

/-- Whether the operands are plain BF16 or FP16 (R109). -/
def MeOp.plain (f : MeOp) : Bool := decide (8 ≤ f.wFmt)

/-- Bytes of a weight tile (R137). -/
def tileBytes (fmt : Nat) : Nat :=
  if 8 ≤ fmt then 4096 else 64 * (kGroup fmt / 32) * (elemBytes fmt + sideBytes fmt)

/-- Source bytes of one value of a row, for rows quantised at the port. -/
def MeOp.srcBytes (f : MeOp) : Nat := if f.aSrc = 3 then 4 else 2

/-- Blocks of 32 in a whole row. -/
def MeOp.rowBlocks (f : MeOp) : Nat := f.kGroups * f.k / 32

/-- Bytes of one value of a row of source values, or of a stored BF16 or FP16 row. -/
def MeOp.valueBytes (f : MeOp) : Nat := if f.aSrc = 0 then 2 else f.srcBytes

/-- The rows are stored blocks of A_FMT. -/
def MeOp.stored (f : MeOp) : Bool := decide (f.aSrc = 0) && !f.plain

/-- Bytes of a row, as it lies in the slice or arrives from the registers. -/
def MeOp.rowBytes (f : MeOp) : Nat :=
  if f.stored then f.rowBlocks * (elemBytes f.aFmt + sideBytes f.aFmt) else f.kGroups * f.k * f.valueBytes

/-- Format of a plain activation operand (R109). -/
def MeOp.plainFmt (f : MeOp) : Fmt := if f.aFmt = 8 then bf16 else fp16

/-- Format of the values of a row as they are read. -/
def MeOp.valueFmt (f : MeOp) : Fmt := if f.aSrc = 0 then f.plainFmt else srcFmt f.aSrc

/-- A value as the array takes it: the source values of a BF16 or FP16 operator with A_SRC 1-3 are rounded to its operand format
(R90; log 98). -/
def MeOp.operand (f : MeOp) (a : FVal) : FVal := if f.plain ∧ f.aSrc ≠ 0 then f.plainFmt.rn a else a

/-- Positions of a K group of a row that are read: the valid ones for the quantiser, all of them where the padding lies
in memory (R146). -/
def MeOp.groupValid (f : MeOp) (g : Nat) : Nat := if f.aSrc = 0 then f.k else min f.k (f.validK - g * f.k)

/-- Decodes stored blocks from their element and side records. -/
def storedBlocks (f n : Nat) (els sides : Bytes) : List Block32 :=
  (List.range n).map fun i => decodeBlock f (slice els (i * elemBytes f) (elemBytes f)) (slice sides (i * sideBytes f) (sideBytes f))

/-- Values of a format from their bytes, zero beyond a number of them. -/
def valuesOf (f : Fmt) (w valid n : Nat) (b : Bytes) : List FVal :=
  (List.range n).map fun i => if i < valid then f.decode (field b (i * w) w) else .zero

/-- Columns of a weight tile: blocks of each column, or its values (R638). -/
def tileColumns (fmt : Nat) (b : Bytes) : List Row :=
  let nb := kGroup fmt / 32
  (List.range 64).map fun c =>
    if 8 ≤ fmt then { vals := valuesOf (if fmt = 8 then bf16 else fp16) 2 32 32 (b.drop (c * 64)) }
    else { blocks := storedBlocks fmt nb (b.drop (c * nb * elemBytes fmt))
             (b.drop (64 * nb * elemBytes fmt + c * nb * sideBytes fmt)) }

/-- The result of one block pair (R108). -/
def blockPair (w a : Block32) : FVal :=
  if w.nan || a.nan then .nan
  else (exactSum ((w.vals.zip a.vals).map fun x => x.1.mul x.2)).posZero

/-- A row of a tile's K group quantised at the port, with its sums and counts. -/
structure Quant where
  blocks : List Block32 := []
  sums : Sums := {}
  sat : Nat := 0
  nans : Nat := 0

/-- Quantises the values of one row's K group, carrying the tile's sums on (R121, R122). -/
def quantRow (fmt : Nat) (q : Quant) (vals : List FVal) : List Block32 × Quant :=
  let n := vals.length / 32
  (List.range n).foldl (fun (acc : List Block32 × Quant) i =>
    let xs := (vals.drop (32 * i)).take 32
    let b := quantBlock fmt xs
    let ds := b.values fmt
    let sums := (xs.zip ds).foldl (fun (t : Sums) x => t.take x.1 x.2) acc.2.sums
    (acc.1 ++ [{ vals := ds, nan := b.nan }],
     { acc.2 with sums := sums, sat := acc.2.sat + b.sat, nans := acc.2.nans + b2n b.nan })) ([], q)

/-- Rows of a tile as blocks, quantised to a format, with the tile's sums. -/
def quantRows (fmt : Nat) (rows : List (List FVal)) : List (List Block32) × Quant :=
  rows.foldl (fun (acc : List (List Block32) × Quant) vals =>
    let r := quantRow fmt acc.2 vals
    (acc.1 ++ [r.1], r.2)) ([], {})

/-- What a tile counts (R122, R130). -/
structure TileCount where
  escalated : Bool := false
  sat : Nat := 0
  nans : Nat := 0
  estimate : Nat := 0
  invalid : Bool := false

/-- One tile's results for the rows of its K group, by row and column: what is added into the accumulators (R108, R109,
R125). -/
def MeOp.tile (f : MeOp) (escalate : Bool) (threshold : Nat) (cols rows : List Row) : List (List (List Acc)) × TileCount :=
  if f.plain then
    (rows.map fun r => cols.map fun c => [treeSum 5 ((c.vals.zip r.vals).map fun x => { val := x.1.mul x.2 })], {})
  else
    let wNan := ((cols.flatMap (·.blocks)).filter (·.nan)).length
    let invalid := (cols.flatMap (·.blocks)).any (·.invalid)
    let product := fun (bs : List (List Block32)) => bs.map fun r => cols.map fun c =>
      (c.blocks.zip r).map fun x => ({ val := blockPair x.1 x.2 } : Acc)
    if f.aSrc = 0 then
      let bs := rows.map (·.blocks)
      (product bs, { nans := wNan + ((bs.flatten).filter (·.nan)).length, invalid := invalid })
    else
      let vals := rows.map (·.vals)
      let (bs, q) := quantRows f.aFmt vals
      let narrow := decide (f.aFmt = 0 ∨ f.aFmt = 1 ∨ f.aFmt = 3 ∨ f.aFmt = 4)
      let e := q.sums.estimate
      if escalate && narrow && decide (threshold ≠ 0xFFFF) && q.sums.escalates threshold then
        let (bs, q2) := quantRows 5 vals
        (product bs, { escalated := true, sat := q2.sat, nans := wNan + q2.nans, estimate := e, invalid := invalid })
      else (product bs, { sat := q.sat, nans := wNan + q.nans, estimate := e, invalid := invalid })

/-- Adds a tile into the accumulators of a column block. -/
def addTile (accs : List (List Acc)) (t : List (List (List Acc))) : List (List Acc) :=
  (accs.zip t).map fun r => (r.1.zip r.2).map fun c => c.2.foldl Acc.plus c.1

/-- Adds a tile's counts to the step's record. -/
def Crux.tile (x : Crux) (t : TileCount) : Crux :=
  { x with
    tiles := x.tiles + 1, escalated := x.escalated + b2n t.escalated, saturated := x.saturated + t.sat
    nanBlocks := x.nanBlocks + t.nans, maxEstimate := max x.maxEstimate t.estimate, invalidT2 := x.invalidT2 || t.invalid }

/-- One emitted element: the encoding in the output format, overflowed, NaN (R113, R115, R147). -/
def MeOp.element (f : MeOp) (p : Step) (passes r j : Nat) (bias scale : FVal) (a : Acc) : Nat × Bool × Bool :=
  if f.outFmt = 3 then (a.cell % 2 ^ 40, false, false)
  else
    let sat := bit f.ctrl 1
    let n := ((f.rowBase + passes * f.m + r) * f.tensorCols + (f.colBase + j)) % 2 ^ 32
    let dither := if bit f.ctrl 0 then some (stochastic p.srSeed (p.seq.setWidth 32) f.tensor n) else none
    let x0 := emitAcc a.val dither sat
    let x1 := if bit f.ctrl 2 then satRound fp32 sat (x0.1.add bias) else (x0.1, false)
    let u := epiFunc (bits f.ctrl 11 8) x1.1
    let x2 := if bit f.ctrl 3 then satRound fp32 sat (scale.mul u) else (u, false)
    let out := srcFmt f.outFmt
    let x3 := if f.outFmt = 0 then (x2.1, false) else satRound out sat x2.1
    (out.encode x3.1, x0.2 || a.ovf || x1.2 || x2.2 || x3.2, x3.1.isNan)

/-- Bytes of an output element. -/
def MeOp.outBytes (f : MeOp) : Nat := if f.outFmt = 3 then 8 else if f.outFmt = 0 then 4 else 2

/-- Columns of column block j that are valid. -/
def MeOp.width (f : MeOp) (j : Nat) : Nat := if j + 1 = f.blocks then f.last else 64

/-- A K group of one row from its element bytes and, for stored blocks, its side bytes. -/
def MeOp.rowOf (f : MeOp) (g : Nat) (els sides : Bytes) : Row :=
  if f.stored then { blocks := storedBlocks f.aFmt (f.k / 32) els sides }
  else { vals := (valuesOf f.valueFmt f.valueBytes (f.groupValid g) f.k els).map f.operand }

/-- A K group of row r: from the VE registers, which wrap after register 63 (log 38), or from the slice, where a row's side
records follow those of every row (R146, R638). -/
def Round.groupRow (x : Round) (c : Nat) (f : MeOp) (g r : Nat) : Except State Row := do
  let nb := f.k / 32
  let el := elemBytes f.aFmt
  let side := sideBytes f.aFmt
  if bit f.ctrl 7 then
    let row := (List.range f.rowBytes).map fun i =>
      memRead (x.core c).vregs ((Config.veBase f.id 0 * 256 + r * f.rowBytes + i) % 16384)
    if f.stored then .ok (f.rowOf g (row.drop (g * nb * el)) (row.drop (f.rowBlocks * el + g * nb * side)))
    else .ok (f.rowOf g (row.drop (g * f.k * f.valueBytes)) [])
  else if f.stored then
    let els ← x.load c (f.a + (r * f.rowBlocks + g * nb) * el) (nb * el)
    let sides ← x.load c (f.a + f.m * f.rowBlocks * el + (r * f.rowBlocks + g * nb) * side) (nb * side)
    .ok (f.rowOf g els sides)
  else
    let vals ← x.load c (f.a + r * f.rowBytes + g * f.k * f.valueBytes) (f.groupValid g * f.valueBytes)
    .ok (f.rowOf g vals [])

/-- The accumulators of the rows of a bank (R144). -/
def Core.bankAccs (k : Core) (m b : Nat) : List (List Acc) :=
  (List.range m).map fun r => (List.range 64).map fun c => accOf (tget 0 k.acc (b * 16384 + r * 64 + c))

/-- Puts the accumulators of a bank. -/
def Core.setBank (k : Core) (b : Nat) (accs : List (List Acc)) : Core :=
  { k with acc := accs.zipIdx.foldl (fun t (r : List Acc × Nat) => r.1.zipIdx.foldl (fun t (a : Acc × Nat) =>
      tset 0 t (b * 16384 + r.2 * 64 + a.2) a.1.cell) t) (tclear k.acc (b * 16384) ((b + 1) * 16384)) }

/-- Emits row r of column block j of the operator's output: row, column of the operator, element and its flags. -/
def MeOp.emit (f : MeOp) (p : Step) (passes j r : Nat) (bias scale : Nat → FVal) (accs : List (List Acc)) :
    List (Nat × Nat × (Nat × Bool × Bool)) :=
  ((accs.getD r []).take (f.width j)).zipIdx.map fun (a : Acc × Nat) =>
    (r, j * 64 + a.2, f.element p passes r (j * 64 + a.2) (bias a.2) (scale a.2) a.1)

/-- The declared range that a step writes at a slice location, through the context's region map: an output range, or a
loop-state range, whose written half is an output too (R130, R343; log 98). -/
def State.outRangeAt (s : State) (p : Step) (core off : Nat) : Option Nat :=
  let prn := core * 32 + off / 2 ^ 20
  let vas := (s.near.map.filter fun kv => decide (kv.1 / 65536 = p.ctx) && decide (kv.2.prn = prn)).map fun kv =>
    kv.1 % 65536 * 2 ^ 20 + off % 2 ^ 20
  p.ranges.findIdx? fun r => decide (r.kind ≠ 0) && vas.any fun va => decide (r.base ≤ va) && decide (va < r.base + r.length)

/-- Marks a declared output range that received an overflowed or NaN element; ranges from 15 share a bit (R130). -/
def Crux.markRange (c : Crux) (j : Nat) (ovf nan : Bool) : Crux :=
  let m := fun (v : Nat) (on : Bool) => if on then v ||| 2 ^ min j 15 else v
  { c with ovfRanges := m c.ovfRanges ovf, nanRanges := m c.nanRanges nan }

/-- An element stored at a slice offset overflowed or is NaN: its mark, and its declared output range (R130). -/
def Round.markAt (x : Round) (c off : Nat) (ovf nan : Bool) : Round :=
  let m := b2n ovf + 2 * b2n nan
  let k := x.core c
  if m = 0 then x
  else (x.setCore c { k with marks := tput k.marks off m }).mapStep fun p =>
    match x.s.outRangeAt p (x.cl * 16 + c) off with
    | some j => { p with crux := p.crux.markRange j ovf nan }
    | none => p

/-- Elements of w bytes as packets of n elements, each packet with the marks of its own elements (R130, R638). -/
def elementPackets (w n : Nat) : Nat → List (Nat × Bool × Bool) → List Pkt
  | _, [] => []
  | 0, _ => []
  | k + 1, e :: es =>
    let own := (e :: es).take n
    { data := own.flatMap fun e => leBytes w e.1, ovf := own.any (·.2.1), nan := own.any (·.2.2) } ::
      elementPackets w n k ((e :: es).drop n)

/-- Writes elements that an operator emits to the VE registers or the slice (R148, R638); 40-bit partial sums go to the VE registers as
8 B tokens where OUT_DEST says so, which R148 does not list (log 98). -/
def Round.deliver (x : Round) (c : Nat) (f : MeOp) (es : List (Nat × Nat × (Nat × Bool × Bool))) : Round :=
  let w := f.outBytes
  let pos := fun (r j : Nat) => (r * f.blocks * 64 + j) * w
  match bits f.ctrl 13 12 with
  | 0 =>
    let at0 := fun (r j : Nat) => (Config.veBase f.id 1 * 256 + pos r j) % 16384
    let k := x.core c
    x.setCore c { k with vregs := es.foldl (fun m e => memWrites m (at0 e.1 e.2.1) (leBytes w e.2.2.1)) k.vregs }
  | 1 => (es.foldl (fun x e =>
      (x.store c (f.out + pos e.1 e.2.1) (leBytes w e.2.2.1)).markAt c (f.out + pos e.1 e.2.1) e.2.2.2.1 e.2.2.2.2) x).heal c
        (es.map fun e => (f.out + pos e.1 e.2.1, w))
  | _ => x

/-- FP32 parameters of columns, where they are per column. -/
def Round.readParams (x : Round) (c : Nat) (on : Bool) (addr n : Nat) : Except State (List FVal) := do
  if on then
    let b ← x.load c addr (4 * n)
    .ok ((List.range n).map fun j => dec32 (field b (4 * j) 4))
  else .ok []

/-- Tokens of one set of initial values: one for each valid column of each row. -/
def MeOp.setTokens (f : MeOp) : Nat := f.m * ((f.blocks - 1) * 64 + f.last)

/-- Sets of partial sums that a pass takes: one from each source of a REDUCE ingress that delivers on INIT_LANE, in the
order in which the ingress delivers them (R112, R117, R188); without one, a single set. -/
def Round.sets (x : Round) (c : Nat) (f : MeOp) : Nat :=
  let mine := (List.range (ingressCount x.image x.sec)).filter fun i =>
    let a := ingressAt x.image x.sec i
    decide (byteAt x.image a = 4) && decide (byteAt x.image (a + 8) = c) && decide (Config.ingressLane x.cl i % 12 = f.initLane)
  max 1 ((mine.map fun i => byteAt x.image (ingressAt x.image x.sec i + 3)).foldl (· + ·) 0)

/-- Initial accumulators of a column block: +0, then the partial sums of each set (R145). A value that the lane has not
delivered adds +0 (log 98). -/
def MeOp.initial (f : MeOp) (sets : Nat) (tokens : Bytes) (j : Nat) : List (List Acc) :=
  (List.range f.m).map fun r => (List.range 64).map fun c =>
    if bit f.ctrl 5 ∧ c < f.width j then
      (List.range sets).foldl (fun (a : Acc) q =>
        a.add (acc40.decode (field tokens ((q * f.setTokens + r * ((f.blocks - 1) * 64 + f.last) + j * 64 + c) * 8) 8 % 2 ^ 40))) {}
    else {}

/-- Key of an operator in a round, and of its pass count in its core (R114). -/
def liveKey (c i : Nat) : Nat := c * 32 + i
def Round.passKey (x : Round) (i : Nat) : Nat := ((x.s.resident x.cl).map (·.id)).getD 0 * 32 + i

/-- A pass begins: it counts among those of its operator (R114). -/
def Round.beginPass (x : Round) (c i : Nat) : Part :=
  let k := x.core c
  let n := tget 0 k.passes (x.passKey i)
  .ok { x.setCore c { k with passes := tset 0 k.passes (x.passKey i) (n + 1) } with live := tput x.live (liveKey c i) (n, []) }

/-- Before its first tile an output block takes the partial sums that have come on INIT_LANE and no block has taken
(R145). -/
def Round.takeSums (x : Round) (c i : Nat) (f : MeOp) : Round :=
  match tfind x.live (liveKey c i) with
  | some (n, held) =>
    if bit f.ctrl 5 then
      let k := x.core c
      let (more, rest) := takeBytes (x.sets c f * f.setTokens * 8 - held.length) (k.queue f.initLane)
      { x.setCore c (k.setQueue f.initLane rest) with live := tput x.live (liveKey c i) (n, held ++ more) }
    else x
  | none => x

/-- A piece of weight tile n comes into the pending buffer, from the slice or from the Rope (R140). -/
def Round.fillTile (x : Round) (c : Nat) (f : MeOp) (n off len : Nat) (rope : Option Bytes) : Part := do
  let b ← match rope with
    | some b => .ok (slice b off len)
    | none => x.load c (f.w + n * tileBytes f.wFmt + off) len
  let k := x.core c
  .ok (x.setCore c { k with filling := k.filling ++ b })

/-- The pending buffer moves into the array, which takes 8 cycles (R140). -/
def Round.moveTile (x : Round) (c : Nat) : Part :=
  let k := x.core c
  .ok (x.setCore c { k with moving := k.filling, filling := [] })

/-- A tile is in the array: the first one of a column block takes the bank that the block before it did not, and its
partial sums (R140, R144, R145). -/
def Round.startTile (x : Round) (c i : Nat) (f : MeOp) (n : Nat) : Round :=
  let k := x.core c
  let first := decide (n % f.kGroups = 0)
  let k := { k with active := k.moving, moving := [], bank := if first then (k.bank + 1) % 2 else k.bank }
  let x := x.setCore c k
  let x := { x with rows := terase x.rows (liveKey c i) }
  if first then { x.takeSums c i f with banks := tput x.banks (liveKey c i * 65536 + n / f.kGroups) k.bank } else x

/-- Key of a row of a tile of an operator in a round. -/
def rowKey (c i n r : Nat) : Nat := (liveKey c i * 2 ^ 32 + n) * 256 + r

/-- Row r of the K group of tile n is read from the slice; it leaves the activation path 6 or more cycles later (R134, R141). -/
def Round.readRow (x : Round) (c i : Nat) (f : MeOp) (n r : Nat) : Part := do
  let row ← x.groupRow c f (n % f.kGroups) r
  .ok { x with ahead := tput x.ahead (rowKey c i n r) row }

/-- The biases and scales of column block j are read, 6 cycles before its emission (R134, R147; log 121). -/
def Round.readColumns (x : Round) (c i : Nat) (f : MeOp) (j : Nat) : Part := do
  let bias ← x.readParams c (bit f.ctrl 2) (f.bias + 256 * j) (f.width j)
  let scale ← x.readParams c (bit f.ctrl 3 && bit f.ctrl 4) (f.scale + 256 * j) (f.width j)
  .ok { x with columns := tput x.columns (liveKey c i * 65536 + j) (bias, scale) }

/-- Row r of the K group of tile n streams past the array; with the last row the tile's results are in the block's bank
(R112, R143-R145). -/
def Round.runRow (x : Round) (c i : Nat) (f : MeOp) (n r : Nat) : Part := do
  let x := if r = 0 then x.startTile c i f n else x
  match x.step, tfind x.live (liveKey c i) with
  | some p, some (_, tokens) =>
    let row ← if bit f.ctrl 7 then x.groupRow c f (n % f.kGroups) r else .ok (tget {} x.ahead (rowKey c i n r))
    let rows := tget [] x.rows (liveKey c i) ++ [row]
    let x := { x with rows := tput x.rows (liveKey c i) rows, ahead := terase x.ahead (rowKey c i n r) }
    if r + 1 < f.m then .ok x
    else
      let k := x.core c
      let t := if f.threshold = 0 then p.threshold else f.threshold
      let q := f.tile p.escalate t (tileColumns f.wFmt k.active) rows
      let old := if n % f.kGroups = 0 then f.initial (x.sets c f) tokens (n / f.kGroups) else k.bankAccs f.m k.bank
      .ok ((x.setCore c (k.setBank k.bank (addTile old q.1))).mapStep fun p => { p with crux := p.crux.tile q.2 })
  | none, _ => .error x.s
  | _, none => .ok x

/-- Elements of an operator that leave by the switch port, as the elements of packets. -/
def Round.leave (x : Round) (c : Nat) (f : MeOp) (es : List Element) : Round :=
  x.emit c 13 f.outLane (elementPackets f.outBytes (512 / f.outBytes) es.length (es.map (·.el)))

/-- Row r of column block j is emitted from its bank; what leaves by the switch port waits for the rest of its row (R144, R147,
R638). -/
def Round.emitRow (x : Round) (c i : Nat) (f : MeOp) (j r : Nat) : Part :=
  match x.step, tfind x.live (liveKey c i) with
  | some p, some (passes, _) =>
    let cs := tget ([], []) x.columns (liveKey c i * 65536 + j)
    let scaleOf := fun (a : Nat) => if bit f.ctrl 4 then cs.2.getD a .zero else dec32 f.scaleValue
    let bank := tget 0 x.banks (liveKey c i * 65536 + j)
    let es := f.emit p passes j r (fun a => cs.1.getD a .zero) scaleOf ((x.core c).bankAccs f.m bank)
    let overs := (es.filter fun e => e.2.2.2.1).length
    let nans := (es.filter fun e => e.2.2.2.2 && !e.2.2.2.1).length
    let sr := bit f.ctrl 0 && decide (f.outFmt ≠ 3)
    let x := x.mapStep fun p => { p with crux := { p.crux with
      ovf := p.crux.ovf + overs, nan := p.crux.nan + nans, srUsed := p.crux.srUsed || sr } }
    if bits f.ctrl 13 12 < 2 then .ok (x.deliver c f es)
    else .ok { x with kept := tput x.kept (liveKey c i) (tget [] x.kept (liveKey c i) ++ es.map fun e => ⟨e.1, e.2.1, e.2.2⟩) }
  | none, _ => .error x.s
  | _, none => .ok x

/-- Row r has been emitted whole: with the rows before it the full packets leave by the switch port, and with the last row what
is left of them (R135, R148). -/
def Round.leaveRow (x : Round) (c i : Nat) (f : MeOp) (r : Nat) : Part :=
  let key := liveKey c i
  let kept := tget [] x.kept key
  let es := tget [] x.begun key ++ kept.filter fun e => decide (e.row = r)
  let n := if r + 1 < f.m then es.length / (512 / f.outBytes) * (512 / f.outBytes) else es.length
  .ok ({ x with kept := tput x.kept key (kept.filter fun e => decide (e.row ≠ r)), begun := tput x.begun key (es.drop n) }.leave c f
    (es.take n))

/-! ### The schedule of a pass (R139-R144, R148) -/

/-- K per cycle at which the array takes an activation format. -/
def kActive (fmt : Nat) : Nat := if fmt ≤ 1 then 256 else if 8 ≤ fmt then 32 else 64

def ceilDiv (a b : Nat) : Nat := (a + b - 1) / b

/-- Bytes per cycle that the slot wheel of a core section gives a client on average: 512 B for each of its 16 slots, at least 1 B
for the schedule's sake (log 42). -/
def wheelRate (b : Bytes) (sec client : Nat) : Nat :=
  max 1 (((List.range 16).filter fun q => decide (slotClient b sec q = client)).length * 32)

/-- Source bytes of a K group of one row (R141). -/
def MeOp.rowCost (f : MeOp) : Nat :=
  if f.stored then f.k / 32 * (elemBytes f.aFmt + sideBytes f.aFmt) else f.k * f.valueBytes

/-- Cycles between two rows of a tile (R139, R141). -/
def MeOp.rowTime (f : MeOp) : Nat := max (f.k / min f.k (kActive f.aFmt)) (ceilDiv f.rowCost 256)

/-- Cycles that the rows of a tile take. -/
def MeOp.rowsTime (f : MeOp) : Nat := f.m * f.rowTime

/-- Cycles that the Rope of a core reserves for a block's delta records (R296, R306). -/
def ropeCycles (b : Bytes) (sec : Nat) : Nat :=
  ((streamDescs b sec).find? fun o => decide (byteAt b o = 5 ∨ byteAt b o = 6)).elim 0 fun o => field b (o + 36) 2

/-- Cycles in which a weight tile fills (R142, R306). -/
def MeOp.fillTime (f : MeOp) (b : Bytes) (sec : Nat) : Nat :=
  if bit f.ctrl 6 then max (ceilDiv (tileBytes f.wFmt) 256) (ropeCycles b sec)
  else ceilDiv (tileBytes f.wFmt) (wheelRate b sec 0)

/-- Cycles between the starts of two tiles (R142). -/
def MeOp.interval (f : MeOp) (b : Bytes) (sec : Nat) : Nat :=
  max (max (max f.rowsTime 8) (f.fillTime b sec))
    (ceilDiv (f.m * f.rowCost) (if bit f.ctrl 7 then 256 else wheelRate b sec 1))

/-- Cycle at which row r of a tile is read whose rows begin to leave the activation path at a cycle: as late as the average supply
of ME-A allows for the rows that follow, the last row 6 cycles before it leaves, and none before the pass starts (R134, R141,
R142; log 121). -/
def MeOp.readCycle (f : MeOp) (b : Bytes) (sec at' r : Nat) : Nat :=
  max f.start (at' + (f.m - 1) * f.rowTime - 6 - (f.m - 1 - r) * max f.rowTime (ceilDiv f.rowCost (wheelRate b sec 1)))

/-- Cycles of the emission of a row, and of a block (R148). -/
def MeOp.emitStep (f : MeOp) : Nat := if bits f.ctrl 11 8 ≤ 1 then 1 else 4
def MeOp.emitTime (f : MeOp) : Nat := f.m * f.emitStep

/-- Cycle of the first tile and cycle of the emission of column blocks in order, and when the last emission ends; before the
pass an emission ends at a cycle. The first tile fills, and moves into the array in 8 cycles; a block waits where the bank
before its own is still being emitted (R140, R143, R144). -/
def MeOp.blockCycles (f : MeOp) (b : Bytes) (sec emitted : Nat) : List (Nat × Nat) × Nat :=
  let r := (List.range f.blocks).foldl (fun (t : List (Nat × Nat) × Nat × Nat) _ =>
    let (bs, start, emitted) := t
    let leave := max (start + (f.kGroups - 1) * f.interval b sec + f.rowsTime + 10) emitted
    (bs ++ [(start, leave)], max (start + f.kGroups * f.interval b sec) emitted, leave + f.emitTime))
    ([], f.start + f.fillTime b sec + 8, emitted)
  (r.1, r.2.2)

/-! ### Vector Engine -/

/-- A VE issue entry (R175). -/
structure VeOp where
  op : Nat
  ty : Nat
  var : Nat
  dst : Nat
  a : Nat
  b : Nat
  c : Nat
  mask : Nat
  mode : Nat
  stride : Nat
  imm : Nat
  /-- the elements of a load or store are complex (R155; log 98) -/
  pairs : Bool

def veOpAt (b : Bytes) (o : Nat) : VeOp :=
  { op := byteAt b (o + 2), ty := byteAt b (o + 3) % 4, var := byteAt b (o + 3) / 4, dst := byteAt b (o + 4)
    a := byteAt b (o + 5), b := byteAt b (o + 6), c := byteAt b (o + 7), mask := byteAt b (o + 8)
    mode := byteAt b (o + 9), stride := field b (o + 10) 2, imm := field b (o + 12) 4
    pairs := decide (byteAt b (o + 3) % 4 = 0) && Config.complexAccess (field b o 16) }

/-- A value the chapters do not state, for an operation on operands. -/
def corner (v : VeOp) (x y : Nat) : Nat :=
  (Config.veCorner (v.op * 256 + v.var) v.ty (BitVec.ofNat 64 x) (BitVec.ofNat 64 y)).toNat % 2 ^ (8 * laneBytes v.ty)

/-- Signed value of an INT32 lane. -/
def int32 (v : Nat) : Int := (BitVec.ofNat 32 v).toInt

/-- MIN or MAX of lanes that do not order: of two NaNs the canonical one (R102); of one NaN, the other operand or the
canonical NaN; of two zeros, either (log 39). -/
def unordered (v : VeOp) (f : Fmt) (x y : Nat) : Nat :=
  let a := f.decode x
  let b := f.decode y
  let first := decide (corner v x y % 2 = 0)
  if a.isNan && b.isNan then f.encode .nan
  else if a.isNan then (if first then f.encode .nan else y)
  else if b.isNan then (if first then f.encode .nan else x)
  else if first then x else y

/-- A lane result in floating point; AND, OR and XOR act on the lane's bits (log 98). -/
def floatLane (v : VeOp) (x y z : Nat) : Nat :=
  let f := laneFmt v.ty
  let a := f.decode x
  let b := f.decode y
  let out := fun (r : FVal) => f.encode (f.rn r)
  match v.op with
  | 1 => out (a.add b)
  | 2 => out (a.add b.neg)
  | 3 => out (a.mul b)
  | 4 => out ((a.mul b).add (f.decode z))
  | 5 => if a.lt b then x else if b.lt a then y else unordered v f x y
  | 6 => if a.lt b then y else if b.lt a then x else unordered v f x y
  | 7 => f.encode a.abs
  | 8 => f.encode a.neg
  | 0x0A => x &&& y
  | 0x0B => x ||| y
  | 0x0C => x ^^^ y
  | _ => corner v x y

/-- A lane result in INT32 (R150: modulo 2^32). -/
def intLane (v : VeOp) (x y : Nat) : Nat :=
  match v.op with
  | 1 => (x + y) % 2 ^ 32
  | 2 => (x + 2 ^ 32 - y) % 2 ^ 32
  | 5 => if int32 x ≤ int32 y then x else y
  | 6 => if int32 x ≤ int32 y then y else x
  | 0x0A => x &&& y
  | 0x0B => x ||| y
  | 0x0C => x ^^^ y
  | 0x0D => if y < 32 then x * 2 ^ y % 2 ^ 32 else corner v x y
  | 0x0E =>
    if 32 ≤ y then corner v x y
    else if v.var = 0 then x / 2 ^ y else ((BitVec.ofNat 32 x).sshiftRight y).toNat
  | _ => corner v x y

/-- A compare of two lanes (R175: 0 EQ, 1 LT, 2 LE, 3 NE). -/
def laneCompare (v : VeOp) (x y : Nat) : Bool :=
  let f := laneFmt v.ty
  let (eq, lt) := if v.ty = 3 then (decide (x = y), decide (int32 x < int32 y))
    else ((f.decode x).eq (f.decode y), (f.decode x).lt (f.decode y))
  match v.var with
  | 0 => eq
  | 1 => lt
  | 2 => lt || eq
  | _ => !eq

/-- FP32 to INT32: nearest even, saturating, NaN to 0 (R150). -/
def toInt32 (x : FVal) : Nat :=
  let big := fun (neg : Bool) => if neg then 2 ^ 31 else 2 ^ 31 - 1
  match x with
  | .nan => 0
  | .inf n => big n
  | .fin n m e =>
    let v := if 0 ≤ e then m * 2 ^ e.toNat
      else
        let sh := (-e).toNat
        m / 2 ^ sh + b2n (nearest (m / 2 ^ sh) (m % 2 ^ sh) sh)
    if n then (if 2 ^ 31 ≤ v then 2 ^ 31 else (2 ^ 32 - v) % 2 ^ 32) else min v (2 ^ 31 - 1)

/-- A conversion between lane types (R150). -/
def convertLane (v : VeOp) (x : Nat) : Nat :=
  if v.ty = v.var then x
  else if v.ty = 0 ∧ v.var = 3 then toInt32 (dec32 x)
  else if v.ty = 3 ∧ v.var = 0 then enc32 (fp32.rn (.fin (decide (int32 x < 0)) (int32 x).natAbs 0))
  else if v.ty = 3 ∨ v.var = 3 then (corner v x 0) % 2 ^ (8 * laneBytes v.var)
  else (laneFmt v.var).encode ((laneFmt v.var).rn ((laneFmt v.ty).decode x))

/-- Pairwise tree over lanes (R151); masked-off lanes are left out of it (log 98). -/
def laneTree (f : Nat → Nat → Nat) : Nat → List (Option Nat) → Option Nat
  | 0, xs => xs.headD none
  | n + 1, xs =>
    let rec pair : List (Option Nat) → List (Option Nat)
      | some a :: some b :: t => some (f a b) :: pair t
      | some a :: none :: t => some a :: pair t
      | none :: b :: t => b :: pair t
      | t => t
    laneTree f n (pair xs)

/-- Complex lane pair of registers as numbers. -/
def Core.complex (k : Core) (reg j : Nat) : FVal × FVal := (dec32 (k.lane 0 reg (2 * j)), dec32 (k.lane 0 reg (2 * j + 1)))

/-- CMUL (R152). -/
def cmul (p w : FVal × FVal) : FVal × FVal :=
  (fp32.rn ((p.2.neg.mul w.2).add (fp32.rn (p.1.mul w.1))), fp32.rn ((p.2.mul w.1).add (fp32.rn (p.1.mul w.2))))

def cadd (a b : FVal × FVal) : FVal × FVal := (fp32.rn (a.1.add b.1), fp32.rn (a.2.add b.2))
def csub (a b : FVal × FVal) : FVal × FVal := (fp32.rn (a.1.add b.1.neg), fp32.rn (a.2.add b.2.neg))

/-- One butterfly's outputs: CMUL, BFLY2 or BFLY4 (R152-R154). -/
def butterfly (v : VeOp) (x w : List (FVal × FVal)) : List (FVal × FVal) :=
  let z : FVal × FVal := (.zero, .zero)
  let at' := fun (l : List (FVal × FVal)) (i : Nat) => l.getD i z
  match v.op with
  | 0x18 => [cmul (at' x 0) (at' w 0)]
  | 0x19 =>
    let v1 := cmul (at' x 1) (at' w 0)
    [cadd (at' x 0) v1, csub (at' x 0) v1]
  | _ =>
    let v1 := cmul (at' x 1) (at' w 0)
    let v2 := cmul (at' x 2) (at' w 1)
    let v3 := cmul (at' x 3) (at' w 2)
    let s0 := cadd (at' x 0) v2
    let s1 := csub (at' x 0) v2
    let s2 := cadd v1 v3
    let s3 := csub v1 v3
    let y1 := (fp32.rn (s1.1.add s3.2), fp32.rn (s1.2.add s3.1.neg))
    let y3 := (fp32.rn (s1.1.add s3.2.neg), fp32.rn (s1.2.add s3.1))
    if v.var % 2 = 1 then [cadd s0 s2, y3, csub s0 s2, y1] else [cadd s0 s2, y1, csub s0 s2, y3]

/-- A complex operation over the 32 pairs of its registers. -/
def Core.complexOp (k : Core) (v : VeOp) : Core :=
  let (nx, nw) := match v.op with | 0x18 => (1, 1) | 0x19 => (2, 1) | _ => (4, 3)
  let rs := (List.range 32).map fun j =>
    butterfly v ((List.range nx).map fun i => k.complex (v.a + i) j) ((List.range nw).map fun i => k.complex (v.b + i) j)
  let outs := if v.op = 0x18 then 1 else nx
  (List.range outs).foldl (fun k o =>
    k.setLanes 0 (v.dst + o) v.mask (rs.flatMap fun r =>
      let y := r.getD o (.zero, .zero)
      [enc32 y.1, enc32 y.2])) k

/-- Index pattern g of a load or store (R155); ADDR_MODE acts on variant 3 alone (log 98). -/
def veIndex (k : Core) (v : VeOp) (i : Nat) : Nat :=
  let n := v.mode / 16 + 1
  let rev := fun (base digits : Nat) =>
    ((List.range digits).map fun d => i / base ^ d % base * base ^ (digits - 1 - d)).foldl (· + ·) 0 +
      i / base ^ digits * base ^ digits
  match v.var with
  | 2 => k.lane 3 v.b i
  | 3 => if v.mode % 4 = 1 then rev 2 n else if v.mode % 4 = 2 then rev 4 n else i
  | _ => i

/-- Address of lane i of a load or store: that of its element, a complex element being two lanes (R155). Addresses wrap at
the end of the slice (log 98). -/
def veAddr (k : Core) (v : VeOp) (i : Nat) : Nat :=
  if v.pairs then (v.imm + veIndex k v (i / 2) * (if v.var = 0 then 8 else v.stride) + 4 * (i % 2)) % 2 ^ 25
  else (v.imm + veIndex k v i * (if v.var = 0 then laneBytes v.ty else v.stride)) % 2 ^ 25

/-- The 64 B lines that elements of w bytes at offsets touch, each once, in the order in which they are first touched. -/
def linesOf (w : Nat) (offs : List Nat) : List Nat :=
  offs.foldl (fun ls a => [a / 64, (a + w - 1) / 64].foldl (fun ls l => if ls.contains l then ls else ls ++ [l]) ls) []

/-- The unmasked lanes of a load or store, each with the grant that moves it: one grant for a contiguous access, one for each 8
distinct 64 B lines of another (R155). -/
def veLanes (k : Core) (v : VeOp) : List VeLane :=
  let w := laneBytes v.ty
  let offs := ((List.range 64).filter (k.unmasked v.mask)).map fun i => (i, veAddr k v i)
  let ls := linesOf w (offs.map (·.2))
  offs.map fun a => { lane := a.1, addr := a.2, data := k.lane v.ty v.a a.1
                      grant := if v.var = 0 then 0 else max (ls.idxOf (a.2 / 64)) (ls.idxOf ((a.2 + w - 1) / 64)) / 8 }

/-- Loads the lanes of one grant. -/
def Round.loadLanes (x : Round) (c w : Nat) : List VeLane → Except State (List (Nat × Nat))
  | [] => .ok []
  | l :: ls => do
    let b ← x.load c l.addr w
    let bs ← x.loadLanes c w ls
    .ok ((l.lane, leNat b) :: bs)

/-- Special-function lanes: narrower inputs widen exactly, results round back (R156); INT32 lanes are taken as FP32
(log 98). -/
def sfuLane (v : VeOp) (x : Nat) : Nat :=
  let f := laneFmt v.ty
  if v.ty = 0 ∨ v.ty = 3 then sfuBits v.var x else f.encode (f.rn (dec32 (sfuBits v.var (enc32 (f.decode x)))))

/-- What pack makes of a block of lanes from lane i on, over the element record that is there: a masked-off lane counts as
+0 in the block and keeps its element (R149; log 98). -/
def Core.packBlock (k : Core) (v : VeOp) (i : Nat) (xs : List FVal) : Bytes × Bytes × Nat × Nat :=
  let on := fun (j : Nat) => k.unmasked v.mask (i + j)
  let w := elemBits v.var
  let n := i / 32
  let q := quantBlock v.var (xs.zipIdx.map fun x => if on x.2 then x.1 else .zero)
  let old := leNat (k.vread v.dst (n * elemBytes v.var) (elemBytes v.var))
  let codes := q.codes.zipIdx.map fun x => if on x.2 then x.1 else old / 2 ^ (w * x.2) % 2 ^ w
  let r := QBlock.records v.var { q with codes := codes }
  if (List.range xs.length).any on then (r.1, r.2, q.sat, b2n q.nan)
  else (leBytes (elemBytes v.var) old, k.vread (v.dst + 1) (n * sideBytes v.var) (sideBytes v.var), 0, 0)

/-- Pack: the lanes of SRC1 quantised; element records go to DST, side records to the next register; INT32 lanes are
taken as FP32 bits (R103; log 98). -/
def Core.pack (k : Core) (v : VeOp) : Core × Nat × Nat :=
  let xs := (k.lanes v.ty v.a).map (laneFmt v.ty).decode
  let bs := (List.range (xs.length / 32)).map fun i => k.packBlock v (32 * i) ((xs.drop (32 * i)).take 32)
  ((k.vwrite v.dst 0 (bs.flatMap (·.1))).vwrite (v.dst + 1) 0 (bs.flatMap (·.2.1)),
   (bs.map (·.2.2.1)).foldl (· + ·) 0, (bs.map (·.2.2.2)).foldl (· + ·) 0)

/-- Unpack: blocks of SRC1 and the side records of the next register, decoded to lanes, or 16-bit values where the source code
is BF16 or FP16, which are rounded to the lane type, for INT32 lanes to FP32 (log 98); with it the NaN blocks decoded
and whether a lane not masked off had an invalid T2 code (R95, R96, R149). -/
def Core.unpack (k : Core) (v : VeOp) : Core × Nat × Bool :=
  let f := laneFmt v.ty
  let n := laneCount v.ty
  let put := fun (vals : List FVal) => k.setLanes v.ty v.dst v.mask (vals.map fun x => f.encode (f.rn x))
  if 8 ≤ v.var then
    (put ((List.range n).map fun i => (if v.var = 8 then bf16 else fp16).decode (k.lane 1 v.a i)), 0, false)
  else
    let bs := storedBlocks v.var (n / 32) (k.vread v.a 0 256) (k.vread (v.a + 1) 0 256)
    let on := fun (i : Nat) => (List.range 32).any fun j => k.unmasked v.mask (32 * i + j)
    (put (bs.flatMap (·.vals)), (bs.zipIdx.filter fun b => b.1.nan && on b.2).length,
     decide (v.var = 2) && (List.range n).any fun i => k.unmasked v.mask i && decide (leNat (k.vread v.a 0 256) / 4 ^ i % 4 = 2))

/-! ### NORM (R159-R163) -/

/-- Sequential sums of one lane: S1 and S2. -/
def laneSums (p : FVal) (xs : List FVal) : FVal × FVal :=
  xs.foldl (fun (t : FVal × FVal) x =>
    let d := fp32.rn (x.add p.neg)
    (fp32.rn (t.1.add d), fp32.rn (t.2.add (fp32.rn (d.mul d))))) (.zero, .zero)

/-- The tree of R151 over 64 lane sums. -/
def sumTree (xs : List FVal) : FVal :=
  dec32 ((laneTree (fun a b => enc32 (fp32.rn ((dec32 a).add (dec32 b)))) 6 (xs.map fun x => some (enc32 x))).getD 0)

/-- Mean and rstd of a group with a shift. -/
def normGroup (xs : List FVal) (on : Nat → Bool) (p invN eps : FVal) : FVal × FVal :=
  let lanes := (List.range 64).map fun l =>
    if on l then laneSums p ((List.range ((xs.length + 63) / 64)).filterMap fun i => xs[64 * i + l]?) else (.zero, .zero)
  let s1 := sumTree (lanes.map (·.1))
  let s2 := sumTree (lanes.map (·.2))
  let m1 := fp32.rn (s1.mul invN)
  let m2 := fp32.rn (s2.mul invN)
  let var := fp32.rn (m2.add (fp32.rn (m1.mul m1)).neg)
  let var := if var.lt .zero then .zero else var
  (fp32.rn (p.add m1), dec32 (sfuBits 3 (enc32 (fp32.rn (var.add eps)))))

/-- Address of the pilot of a group in a half of its table (R162). -/
def pilotAt (p : Step) (ref half g : Nat) : Nat :=
  match p.ranges[ref / 2 ^ 28]? with
  | some r => r.base + half * (r.length / 2) + ref % 2 ^ 28 + 4 * g
  | none => 0

/-- What a VE store puts into a declared range counts: an infinity as an overflowed element, a NaN as a NaN element (Table:
What the Crux monitor measures; log 98). -/
def Crux.stored (x : Crux) (ovf nan : Bool) : Crux := { x with ovf := x.ovf + b2n ovf, nan := x.nan + b2n nan }

/-- A value that the VE stores at a slice offset. Outside a declared range its mark says that it has not been counted: a
write stream that takes it counts it (R130, R131). -/
def Round.storeValue (x : Round) (c off : Nat) (b : Bytes) (a : FVal) : Round :=
  let x := (x.store c off b).markAt c off a.isInf a.isNan
  match x.step with
  | none => x
  | some p =>
    if (x.s.outRangeAt p (x.cl * 16 + c) off).isSome then x.mapStep fun p => { p with crux := p.crux.stored a.isInf a.isNan }
    else if a.isInf || a.isNan then
      let k := x.core c
      x.setCore c { k with marks := tput k.marks off (tget 0 k.marks off + 4) }
    else x

/-- Pilots of a NORM record that lie in the Remote window are asked for, and the round waits until they have come (R162, R343;
log 46). -/
def Round.askPilots (x : Round) (o : Nat) : Round :=
  match x.step with
  | some p =>
    if byteAt x.image (o + 2) % 4 ≠ 1 then x
    else
      let as := ((List.range (field x.image (o + 8) 2)).map fun g =>
        pilotAt p (field x.image (o + 28) 4) ((p.seq.toNat + 1) % 2) g).filter fun a => decide (windowOf a = 3)
      let s := as.foldl (fun s a => s.ask p.ctx p.cmd a 4) x.s
      { x with s := s, wait := as.any fun a => (s.fetched p.cmd a).isNone }
  | none => x

/-- The result of a group of a NORM record whose values have been read (R159-R162). -/
def Round.normOne (x : Round) (c o : Nat) (a : VeAccess) : Part := do
  match x.step with
  | none => .error x.s
  | some p =>
    let b := x.image
    let g := a.turn
    let n := field b (o + 4) 4
    let f := srcFmt (byteAt b (o + 3))
    let w := if byteAt b (o + 3) = 0 then 4 else 2
    let xs := valuesOf f w n n a.bytes
    let mode := byteAt b (o + 2) % 4
    let ref := field b (o + 28) 4
    let shift ← match mode with
      | 1 => (x.s.stepRead p (pilotAt p ref ((p.seq.toNat + 1) % 2) g) 4).map fun q => dec32 (leNat q)
      | 2 => .ok (xs.headD .zero)
      | _ => .ok .zero
    let on := fun (l : Nat) => a.lanes.any fun v => decide (v.lane = l)
    let (mean, rstd) := normGroup xs on shift (dec32 (field b (o + 12) 4)) (dec32 (field b (o + 16) 4))
    let at' := field b (o + 24) 4 + 8 * g
    let x := (x.storeValue c at' (leBytes 4 (enc32 mean)) mean).storeValue c (at' + 4) (leBytes 4 (enc32 rstd)) rstd
    if mode = 1 then
      let s ← x.s.stepWrite p (pilotAt p ref (p.seq.toNat % 2) g) (leBytes 4 (enc32 mean))
      .ok ({ x with s := s }.mapStep fun p =>
        { p with crux := (p.crux.stored mean.isInf mean.isNan).markRange (ref / 2 ^ 28) mean.isInf mean.isNan })
    else .ok x

/-- The accesses of the Vector Engine of a core that wait. -/
def Round.waits (x : Round) (c : Nat) (as : List VeAccess) : Round := { x with ves := tset [] x.ves c as }

/-- Bytes of a group of a NORM record. -/
def normBytes (b : Bytes) (o : Nat) : Nat := field b (o + 4) 4 * (if byteAt b (o + 3) = 0 then 4 else 2)

/-- A grant of NORM: up to 256 B of its group are read, or, 6 cycles after the last of them, its result is stored and the next
group follows (R134, R155, R159; log 121). -/
def Round.normGrant (x : Round) (c o : Nat) (a : VeAccess) (rest : List VeAccess) : Part := do
  let n := normBytes x.image o
  let done := a.bytes.length
  if done < n then
    let b ← x.load c (field x.image (o + 20) 4 + a.turn * n + done) (min 256 (n - done))
    .ok (x.waits c ({ a with bytes := a.bytes ++ b, due := if done + 256 < n then a.due else x.cycle + 6 } :: rest))
  else
    let x ← x.normOne c o a
    .ok (x.waits c (if a.turn + 1 < field x.image (o + 8) 2 then { a with turn := a.turn + 1, bytes := [] } :: rest else rest))

/-! ### One VE issue -/

/-- One lane of SRC1 is stored (log 98). -/
def Round.storeLane (x : Round) (c : Nat) (v : VeOp) (off w : Nat) : Round :=
  let a := if v.ty = 3 then .zero else (laneFmt v.ty).decode w
  x.storeValue c off (leBytes (laneBytes v.ty) w) a

/-- The effect of a VE issue entry that does not reach the slice. The index register of a permute is SRC2, its indices modulo the
lanes (log 98). -/
def Round.ve (x : Round) (c : Nat) (v : VeOp) : Round :=
  let k := x.core c
  let put := fun (k : Core) => x.setCore c k
  let zip3 := fun (f : Nat → Nat → Nat → Nat) =>
    put (k.setLanes v.ty v.dst v.mask ((List.range (laneCount v.ty)).map fun i =>
      f (k.lane v.ty v.a i) (k.lane v.ty v.b i) (k.lane v.ty v.c i)))
  if v.op = 0 then x
  else if v.op ≤ 8 ∨ (0x0A ≤ v.op ∧ v.op ≤ 0x0E) then
    zip3 fun a b d => if v.ty = 3 then intLane v a b else floatLane v a b d
  else if v.op = 9 then
    let on := (List.range (laneCount v.ty)).filter (k.unmasked v.mask)
    put (on.foldl (fun k i =>
      let key := v.dst % 8 * 128 + i
      { k with masks := if laneCompare v (k.lane v.ty v.a i) (k.lane v.ty v.b i) then tins k.masks key else terase k.masks key }) k)
  else if v.op = 0x10 then
    put (k.setLanes v.var v.dst v.mask ((List.range 64).map fun i => convertLane v (k.lane v.ty v.a i)))
  else if v.op ≤ 0x13 then
    let f := fun (a b : Nat) =>
      let w := { v with op := if v.op = 0x11 then 1 else if v.op = 0x12 then 6 else 5 }
      if v.ty = 3 then intLane w a b else floatLane w a b 0
    let xs := (List.range (laneCount v.ty)).map fun i => if k.unmasked v.mask i then some (k.lane v.ty v.a i) else none
    match laneTree f 7 xs with
    | some r => put (k.setLanes v.ty v.dst v.mask [r])
    | none => x
  else if v.op = 0x14 then
    put (k.setLanes v.ty v.dst v.mask ((List.range (laneCount v.ty)).map fun i =>
      k.lane v.ty v.a (k.lane v.ty v.b i % laneCount v.ty)))
  else if v.op ≤ 0x1A then put (k.complexOp v)
  else if v.op = 0x1C then
    let r := k.pack v
    (put r.1).mapStep fun p =>
      { p with crux := { p.crux with saturated := p.crux.saturated + r.2.1, nanBlocks := p.crux.nanBlocks + r.2.2 } }
  else if v.op = 0x1D then
    let r := k.unpack v
    (put r.1).mapStep fun p =>
      { p with crux := { p.crux with nanBlocks := p.crux.nanBlocks + r.2.1, invalidT2 := p.crux.invalidT2 || r.2.2 } }
  else if v.op = 0x28 then zip3 fun a _ _ => sfuLane v a
  else x

/-- An issue entry puts an access of the slice port behind those of its engine that wait: a load or store that has unmasked lanes,
or a NORM record whose pilots have come; every other entry acts (R155, R162, R175). -/
def Round.issue (x : Round) (c sec o : Nat) : Part :=
  let v := veOpAt x.image o
  let later := fun (x : Round) (ls : List VeLane) => (.ok (x.waits c (tget [] x.ves c ++ [{ entry := o, lanes := ls }])) : Part)
  if v.op = 0x20 ∨ v.op = 0x21 then
    let ls := veLanes (x.core c) v
    if ls.isEmpty then .ok x else x.through c 2 fun x => later x ls
  else if v.op = 0x30 then
    let r := normAt x.image sec (v.imm % 8)
    let x := x.askPilots r
    if x.wait ∨ field x.image (r + 8) 2 = 0 then .ok x
    else x.through c 2 fun x => later x (((List.range 64).filter ((x.core c).unmasked v.mask)).map fun l => { lane := l })
  else .ok (x.ve c v)

/-- A slot of the wheel goes to the oldest access of the Vector Engine; with none that can use it, it goes unused (R133, R155).
What a load reads lands in its register 6 cycles later (R134). -/
def Round.veGrant (x : Round) (c sec : Nat) : Part :=
  match tget [] x.ves c with
  | [] => .ok { x with idle := true }
  | a :: rest =>
    let v := veOpAt x.image a.entry
    let now := a.lanes.filter fun l => decide (l.grant = a.turn)
    let more := if a.lanes.any fun l => decide (a.turn < l.grant) then { a with turn := a.turn + 1 } :: rest else rest
    if x.cycle < a.due then .ok { x with idle := true }
    else if v.op = 0x20 then do
      let ls ← x.loadLanes c (laneBytes v.ty) now
      let y : Round := { x with landings := x.landings ++ [⟨c, x.cycle + 6, a.entry, ls⟩] }
      .ok (y.waits c more)
    else if v.op = 0x21 then
      .ok (((now.foldl (fun x l => x.storeLane c v l.addr l.data) x).heal c
        (now.map fun l => (l.addr, laneBytes v.ty))).waits c more)
    else x.normGrant c (normAt x.image sec (v.imm % 8)) a rest

/-- Data of loads land in the registers of a core (R134). -/
def Round.veLand (x : Round) (c : Nat) : Part :=
  let now := x.landings.filter fun l => decide (l.core = c) && decide (l.cycle = x.cycle)
  let put := fun (k : Core) (l : Landing) =>
    let v := veOpAt x.image l.entry
    l.lanes.foldl (fun k e => k.vwrite v.dst (e.1 * laneBytes v.ty) (leBytes (laneBytes v.ty) e.2)) k
  .ok ({ x with landings := x.landings.filter fun l => !now.contains l, idle := now.isEmpty }.setCore c (now.foldl put (x.core c)))

/-- Slots that the accesses of an issue entry take at most: for NORM two for the result of each group, which waits for its data
(R155, R159). -/
def veSlots (b : Bytes) (sec o : Nat) : Nat :=
  let v := veOpAt b o
  if v.op = 0x20 ∨ v.op = 0x21 then (if v.var = 0 then 1 else 16)
  else if v.op = 0x30 then
    let r := normAt b sec (v.imm % 8)
    field b (r + 8) 2 * (normBytes b r / 256 + 3)
  else 0

/-! ### Steering (R164-R166) -/

/-- A steering slot record. -/
structure Steer where
  prim : Nat
  pred : Nat
  data : Nat
  alt : Nat
  ctrl : Nat
  outT : Nat
  outF : Nat
  imm : Nat

def steerOf (b : Bytes) (o : Nat) : Steer :=
  { prim := byteAt b o, pred := byteAt b (o + 1), data := byteAt b (o + 4), alt := byteAt b (o + 5)
    ctrl := byteAt b (o + 6), outT := byteAt b (o + 7) % 16, outF := byteAt b (o + 7) / 16, imm := field b (o + 8) 8 }

/-- A decision consumes a control token: its predicate needs one, or REPEAT its count (R164). -/
def Steer.takes (t : Steer) : Bool := decide (t.ctrl ≠ 0xFF) && (decide (2 ≤ t.pred) || decide (t.prim = 3))

/-- The value of a predicate on a token and the slot's counter (R165, R166). -/
def Steer.holds (t : Steer) (v n : Nat) : Bool :=
  let i := t.imm
  let sv := (BitVec.ofNat 64 v).toInt
  let si := (BitVec.ofNat 64 i).toInt
  let fv := dec32 (v % 2 ^ 32)
  let fi := dec32 (i % 2 ^ 32)
  match t.pred with
  | 0 => true
  | 1 => false
  | 2 => decide (v = i)
  | 3 => decide (v ≠ i)
  | 4 => decide (sv < si)
  | 5 => decide (si ≤ sv)
  | 6 => decide (v < i)
  | 7 => decide (i ≤ v)
  | 8 => fv.lt fi
  | 9 => !fv.isNan && !fi.isNan && !fv.lt fi
  | 10 => bit v (i % 64)
  | 11 => decide (n < i)
  | _ => decide (n % i + 1 = i)

/-- A packet leaves a slot on an output port code: a lane, the VE registers, the lane of a write stream of the Stream Engine
(log 98), or a queue of the core's own engines. -/
def Round.steerOut (x : Round) (c j out : Nat) (p : Pkt) : Round :=
  if out < 12 then x.send c out [p]
  else if out = 12 then x.setCore c ((x.core c).vwrite (Config.steerReg (x.cl * 16 + c) j) 0 p.data)
  else if out = 14 then
    let l := Config.steerLane (x.cl * 16 + c) j % 12
    let k := x.core c
    x.setCore c (k.setQueue l (k.queue l ++ [p]))
  else x.queueFor c out [p]

/-- A port code has a packet: the VE registers always do. -/
def Round.has (x : Round) (c port : Nat) : Bool := decide (port = 12) || !((x.core c).queue port).isEmpty

/-- Takes the next packet of a port; one of the VE registers is two of them. -/
def Round.pop (x : Round) (c j port : Nat) : Option (Pkt × Round) :=
  if port = 12 then some ({ data := (x.core c).vread (Config.steerReg (x.cl * 16 + c) j) 0 512 }, x)
  else match (x.core c).queue port with
    | [] => none
    | p :: ps => some (p, x.setCore c ((x.core c).setQueue port ps))

/-- Counts a decision of a slot: the counter restarts after a false result. -/
def Round.decided (x : Round) (c j : Nat) (ok : Bool) : Round :=
  let k := x.core c
  x.setCore c { k with iters := tset 0 k.iters j (if ok then tget 0 k.iters j + 1 else 0) }

/-- The control token a decision uses, where it needs one and it is present, the first of its packet (log 98); a REPEAT
without a control port counts by Config.repeatCount (log 34). -/
def Round.control (x : Round) (c j : Nat) (t : Steer) : Option (Nat × Round) :=
  if t.takes then (x.pop c j t.ctrl).map fun r => (field r.1.data 0 8, r.2)
  else if t.prim = 3 then some (Config.repeatCount ((x.cl * 16 + c) * 32 + j) x.num, x)
  else some (0, x)

/-- One decision of a steering slot; with an input missing nothing is decided and its outputs are empty. -/
def Round.steer (x : Round) (c j : Nat) (t : Steer) : Round :=
  let k := x.core c
  let n := tget 0 k.iters j
  let running := thas k.carry j
  if t.prim = 3 ∧ thas k.repeats j then
    match tfind k.repeats j with
    | some (left, p) =>
      let x := x.setCore c { k with repeats := if left ≤ 1 then terase k.repeats j else tput k.repeats j (left - 1, p) }
      x.steerOut c j t.outT p
    | none => x
  else if t.prim = 5 ∧ !running then
    match x.pop c j t.data with
    | some (p, x) =>
      let k := x.core c
      (x.setCore c { k with carry := tput k.carry j x.tag }).steerOut c j t.outT p
    | none => x
  else
    let port := if t.prim = 5 then t.alt else t.data
    let ready := decide (t.prim = 1) || x.has c port
    if !ready then x
    else match x.control c j t with
      | none => x
      | some (v, y) =>
        let ok := t.holds v n
        let port := if t.prim = 1 ∧ !ok then t.alt else port
        match y.pop c j port with
        | none => x
        | some (p, y) =>
          let y := y.decided c j ok
          match t.prim with
          | 0 => y.steerOut c j (if ok then t.outT else t.outF) p
          | 1 => y.steerOut c j t.outT p
          | 2 => if ok then y.steerOut c j t.outT p else y
          | 3 =>
            let left := v % 4096
            let k := y.core c
            (if left = 0 then y else y.setCore c { k with repeats := tput k.repeats j (left, p) }).steerOut c j t.outT p
          | 4 => if ok then y.steerOut c j t.outT p else y
          | _ =>
            if ok then y.steerOut c j t.outT p
            else
              let k := y.core c
              (y.setCore c { k with carry := terase k.carry j }).steerOut c j t.outF p

end Sys2Proof.Machine
end

