-- ==== Sys2Proof/Machine/Streams.lean ====
section
/-! DEFINITION. The memory side of the Stream Engines: sequences, halves, transfers, faults, position records,
RESUME_STREAM, and the Ropes (R274-R307, R352). -/

namespace Sys2Proof.Machine

def stStreamLength : Nat := 0x09
def stStreamTimeout : Nat := 0x0A
def stDeltaTable : Nat := 0x0B
def stDeltaOverrun : Nat := 0x0C

/-! ### Descriptors (R278, R279) -/

/-- A descriptor of a core in a step: the step, the image, the descriptor's offset, its key and its state. -/
structure Strm where
  p : Step
  image : Bytes
  o : Nat
  key : Nat
  st : Stream
deriving DecidableEq, Repr

def Strm.kind (x : Strm) : Nat := byteAt x.image x.o
def Strm.sel (x : Strm) : Nat := byteAt x.image (x.o + 2)
def Strm.port (x : Strm) : Nat := byteAt x.image (x.o + 3)
def Strm.base (x : Strm) : Nat := field x.image (x.o + 4) 8
def Strm.run (x : Strm) : Nat := field x.image (x.o + 12) 4
def Strm.count (x : Strm) (d : Nat) : Nat := field x.image (x.o + 14 + 2 * d) 2
def Strm.stride (x : Strm) (d : Nat) : Int := (BitVec.ofNat 64 (field x.image (x.o + 16 + 8 * d) 8)).toInt
def Strm.buf (x : Strm) : Nat := field x.image (x.o + 48) 4
def Strm.half (x : Strm) : Nat := field x.image (x.o + 52) 4
def Strm.perHalf (x : Strm) : Nat := field x.image (x.o + 56) 2
def Strm.first (x : Strm) : Nat := field x.image (x.o + 58) 2
def Strm.xfer (x : Strm) : Nat := field x.image (x.o + 60) 2
def Strm.release (x : Strm) : Nat := field x.image (x.o + 62) 2

/-- Length L of the sequence. -/
def Strm.len (x : Strm) : Nat := x.run * x.count 1 * x.count 2 * x.count 3

/-- Bytes moved by the slot side in one round (R282). -/
def Strm.chunk (x : Strm) : Nat := x.half / max 1 x.perHalf

def Strm.reads (x : Strm) : Bool := decide (x.kind = 0 ∨ x.kind = 2)
def Strm.writes (x : Strm) : Bool := decide (x.kind = 1 ∨ x.kind = 3)

/-- Address or range offset of a position by its strides (R279). -/
def Strm.offset (x : Strm) (pos : Nat) : Int :=
  let b := pos % max 1 x.run
  let q := pos / max 1 x.run
  let i1 := q % max 1 (x.count 1)
  let i2 := q / max 1 (x.count 1) % max 1 (x.count 2)
  let i3 := q / max 1 (x.count 1) / max 1 (x.count 2)
  x.base + i3 * x.stride 3 + i2 * x.stride 2 + i1 * x.stride 1 + b

/-- The declared range of the descriptor. -/
def Strm.range (x : Strm) : Option Range := if x.sel = 0xFF then none else x.p.ranges[x.sel]?

/-- Address of a position, none outside the declared range (R279, R280). -/
def Strm.addr (x : Strm) (pos : Nat) : Option Nat :=
  let off := x.offset pos
  if x.sel = 0xFF then (if 0 ≤ off then some off.toNat else none)
  else match x.range with
    | some r => if 0 ≤ off ∧ off < r.length then some (r.base + off.toNat) else none
    | none => none

/-- The address of a position wherever it lies. -/
def Strm.rawAddr (x : Strm) (pos : Nat) : BitVec 64 :=
  BitVec.ofInt 64 (x.offset pos + ((x.range.map (·.base)).getD 0 : Nat))

/-- Bytes from an address to the end of the declared range. -/
def Strm.room (x : Strm) (a : Nat) : Nat := match x.range with | some r => r.base + r.length - a | none => 2 ^ 64

/-- The descriptor of a core's stream while its step executes and no Rappel stops it. -/
def State.strm (s : State) (core i : Nat) : Option Strm :=
  match s.resident (core / 16), s.stepAt (core / 16) with
  | some r, some p =>
    if s.stopped (core / 16) || p.ending.isSome || p.starting then none
    else match (imgCores r.bytes).find? fun x => decide (x.1 = core) with
      | none => none
      | some (_, k) => ((streamDescs r.bytes k)[i]?).map fun o =>
          { p := p, image := r.bytes, o := o, key := core * 32 + i, st := tget {} s.array.streams (core * 32 + i) }
  | _, _ => none

def State.setStream (s : State) (key : Nat) (t : Stream) : State :=
  { s with array := { s.array with streams := tset {} s.array.streams key t } }

/-- Position up to which the memory side may transfer now (R283, R284). -/
def Strm.limit (x : Strm) : Nat :=
  if x.reads then min x.len ((x.st.released + 2) * x.half)
  else min x.len (min (x.st.released * x.half) x.st.filled)

/-- Half that a position lies in. -/
def Stream.halfOf (t : Stream) (k : Nat) : Half := if k % 2 = 0 then t.half0 else t.half1

def Stream.setHalf (t : Stream) (k : Nat) (h : Half) : Stream :=
  if k % 2 = 0 then { t with half0 := h } else { t with half1 := h }

/-- Bytes laid over a byte string at an offset. -/
def overlay (b : Bytes) (off : Nat) (d : Bytes) : Bytes := padTo b (max b.length (off + d.length)) |>.take off
  |> fun h => h ++ d ++ b.drop (off + d.length)

/-- A core's progress counter advances (R582). -/
def State.advance (s : State) (core n : Nat) : State :=
  let k := s.core core
  s.setCore core { k with progress := k.progress + n, moved := s.phase }

/-- Bytes of the request at a position and its address: of one run, one half, one 4 KiB window and the declared range
(R280, R287). -/
def Strm.pieceAt (x : Strm) (pos a n : Nat) : Nat :=
  min n (min (x.run - pos % max 1 x.run) (min (x.half - pos % max 1 x.half) (min (4096 - a % 4096) (x.room a))))

/-- Bytes of the next request of a transfer. -/
def Strm.piece (x : Strm) (a n : Nat) : Nat := x.pieceAt x.st.position a n

/-- The requests from a position on that follow one another without a gap in one 4 KiB window and one half, each of at
most 256 B: their lengths (R288). -/
def Strm.train (x : Strm) : Nat → Nat → Nat → Nat → List Nat
  | 0, _, _, _ => []
  | k + 1, pos, a, n =>
    let m := x.pieceAt pos a n
    if m = 0 ∨ 256 < m ∨ x.addr pos ≠ some a then []
    else if (a + m) % 4096 = 0 ∨ (pos + m) % max 1 x.half = 0 then [m]
    else m :: x.train k (pos + m) (a + m) (n - m)

/-- Bytes of the next request, with those merged into it: how many that are nothing fixes (R288). -/
def State.merged (s : State) (x : Strm) (pos a n : Nat) : State × Nat :=
  let t := if bit (byteAt x.image (x.o + 1)) 0 then [] else x.train 4096 pos a n
  if t.length ≤ 1 then (s, x.pieceAt pos a n)
  else
    let j := s.fresh.1.toNat % t.length
    (if j = 0 then s.fresh.2 else s.fresh.2.cbump x.p.ctx 10 3 64 j, (t.take (j + 1)).foldl (· + ·) 0)

/-- The stream with its state after a change of the machine. -/
def State.restrm (s : State) (x : Strm) : Strm := { x with st := tget {} s.array.streams x.key, p := (s.step? x.p.cmd).getD x.p }

/-- Data of a read stream lands at a position (R283). -/
def State.land (s : State) (x : Strm) (pos : Nat) (b : Bytes) : State :=
  let k := pos / max 1 x.half
  let h := x.st.halfOf k
  let t := x.st.setHalf k { h with data := overlay h.data (pos % max 1 x.half) b, done := h.done + b.length }
  (s.setStream x.key { t with position := t.position + b.length }).advance (x.key / 32) 1

/-- An access outside the declared range is not issued, and ends the step with its address (R280, R338). -/
def State.outside (s : State) (x : Strm) (pos : Nat) : State := s.endStep x.p stAddress (x.rawAddr pos)

/-- The stream that a request serves. -/
def Asker.streamKey : Asker → Option Nat
  | .stream key _ => some key
  | .streamFlush key => some key
  | .rope key _ _ => some key
  | _ => none

/-- Requests that the memory side of a core holds outstanding on the links: 256 at most (R275). -/
def State.outstanding (s : State) (core : Nat) : Nat :=
  (s.links.requests.filter fun r => decide (r.asker.streamKey.map (· / 32) = some core)).length

/-- Bytes that a memory side may ask for with the requests left to it, each of 2,048 B or more but the first (R275). -/
def State.askable (s : State) (core : Nat) : Nat := (255 - s.outstanding core) * 2048

/-- The memory side translates ahead of a position, the pages of the next requests; a fault there is not reported
(R284). -/
def State.translateAhead : Nat → State → Strm → Nat → State
  | 0, s, _, _ => s
  | k + 1, s, x, pos => match x.addr pos with
    | none => s
    | some a =>
      if x.len ≤ pos then s
      else (s.translatePage (x.key / 32) x.p.ctx a).translateAhead k x (pos + max 1 (x.pieceAt pos a (x.len - pos)))

/-- Reads of a stream, request by request, for at most n bytes; into a slice of a frozen cluster they wait. -/
def State.streamIn : Nat → State → Strm → Nat → State
  | 0, s, _, _ => s
  | k + 1, s, x, n =>
    let n := min n (x.limit - x.st.position)
    if n = 0 then s
    else match x.addr x.st.position with
      | none => s.outside x x.st.position
      | some a =>
        let (s1, m) := s.merged x x.st.position a n
        if windowOf a = 3 then
          if s.askable (x.key / 32) < m then s
          else match s1.remoteRead x.p.ctx (remoteOf a).1 (remoteOf a).2 m (fun q => .stream x.key (x.st.position + q)) with
          | (s', _, true) =>
            let c := x.st.position / max 1 x.half
            let t := (s'.restrm x).st
            s'.setStream x.key (t.setHalf c { t.halfOf c with busy := true })
          | (_, _, false) => s
        else if s.waitsFrozen x.p.ctx a m then s
        else match (s.ownView x.p.cmd).read x.p.ctx a m with
          | .ok b =>
            let s := ((s1.accessed (x.key / 32) x.p.ctx a m).pathEvents (x.key / 32) x.p.ctx a m 0).land x x.st.position b
            streamIn k (s.translateAhead 4 x (x.st.position + m)) ((s.translateAhead 4 x (x.st.position + m)).restrm x) (n - m)
          | .miss _ => s
          | .damaged va => (s.accessed (x.key / 32) x.p.ctx a m).stepDamage x.p va

/-- STREAM_DATA_ARRIVAL (R283, R284); data of the Remote window is asked for, and arrives with READ_DATA. -/
def execStreamDataArrival (core : CoreId) (stream : Fin 32) (bytes : Nat) (s : State) :
    Host.Outcome State Fault Refusal :=
  .next (match s.strm core.val stream.val with
    | some x =>
      if x.reads && x.st.fault.isNone && !x.st.half0.busy && !x.st.half1.busy then
        State.streamIn (bytes + 1) s x bytes else s
    | none => s)

/-- Marks of a written half on the step's record: overflow and NaN in a declared range (R130). -/
def markRanges (x : Strm) (h : Half) (c : Crux) : Crux := c.markRange x.sel h.ovf h.nan

/-- Bytes of a write stream reach memory and are acknowledged. -/
def State.wrote (s : State) (x : Strm) (n : Nat) : State :=
  let h := x.st.halfOf (x.st.position / max 1 x.half)
  let s := s.setStream x.key { x.st with position := x.st.position + n }
  let s := match s.step? x.p.cmd with
    | some p => s.setStep { p with crux := markRanges x h p.crux }
    | none => s
  s.advance (x.key / 32) 1

/-- Writes of a stream into local memory, request by request, for at most n bytes; into a slice of a frozen cluster they
wait. -/
def State.streamOut : Nat → State → Strm → Nat → State
  | 0, s, _, _ => s
  | k + 1, s, x, n =>
    let n := min n (x.limit - x.st.position)
    if n = 0 then s
    else match x.addr x.st.position with
      | none => s.outside x x.st.position
      | some a =>
        let (s1, m) := s.merged x x.st.position a n
        let b := slice (x.st.halfOf (x.st.position / max 1 x.half)).data (x.st.position % max 1 x.half) m
        if s.waitsFrozen x.p.ctx a m || decide (windowOf a = 3) then s
        else match (s1.accessed (x.key / 32) x.p.ctx a m).writesBy (x.key / 32) x.p.ctx (some x.p.cmd) a b with
          | (s', none) =>
            let s' := (s'.pathEvents (x.key / 32) x.p.ctx a m 1).wrote x m
            streamOut k (s'.translateAhead 4 x (x.st.position + m)) ((s'.translateAhead 4 x (x.st.position + m)).restrm x) (n - m)
          | (_, some m) => if m.kind = 0 then s.stepDamage x.p m.va else s

/-- Writes of a stream into the Remote window: the packets of the half at its position, and, once what the half has there is
sent, a FLUSH on each port they used; its FLUSH_DONE acknowledges them (R274, R283, R476). -/
def State.remoteOut : Nat → State → Strm → Nat → State
  | 0, s, _, _ => s
  | k + 1, s, x, n =>
    let c := x.st.position / max 1 x.half
    let h := x.st.halfOf c
    let pos := x.st.position + h.done
    let top := min x.limit ((c + 1) * max 1 x.half)
    let sent := decide (top ≤ pos) || (x.addr pos).any fun a => decide (windowOf a ≠ 3)
    if h.busy then s
    else if sent then
      if h.done = 0 ∨ x.st.ports.any (fun key => !s.flushable key) then s
      else
        let t := { x.st.setHalf c { h with busy := true } with ports := [] }
        let s := match s.step? x.p.cmd with
          | some p => s.setStep { p with portsUsed := (p.portsUsed ++ x.st.ports).dedup }
          | none => s
        (s.setStream x.key t).flushPorts x.p.ctx x.st.ports (.streamFlush x.key)
    else if n = 0 then s
    else match x.addr pos with
      | none => s.outside x pos
      | some a =>
        let (s1, m) := s.merged x pos a (min n (top - pos))
        match s1.remoteWrite x.p.ctx (remoteOf a).1 (remoteOf a).2 (slice h.data (pos % max 1 x.half) m) with
        | (s, us, true) =>
          let t := { x.st.setHalf c { h with done := h.done + m } with ports := (x.st.ports ++ us).dedup }
          let s := s.setStream x.key t
          remoteOut k s (s.restrm x) (n - m)
        | (_, _, false) => s

/-- The next byte of a write stream goes into the Remote window, or bytes of it that went there are to be flushed. -/
def Strm.goesRemote (x : Strm) : Bool :=
  decide (0 < (x.st.halfOf (x.st.position / max 1 x.half)).done) || (x.addr x.st.position).any fun a => decide (windowOf a = 3)

/-- STREAM_WRITE_ACK (R283): writes into local memory, or, into the Remote window, the packets and the FLUSH whose FLUSH_DONE
acknowledges them. -/
def execStreamWriteAck (core : CoreId) (stream : Fin 32) (bytes : Nat) (s : State) : Host.Outcome State Fault Refusal :=
  .next (match s.strm core.val stream.val with
    | some x =>
      if x.writes && x.st.fault.isNone then
        if x.goesRemote then State.remoteOut (bytes + 1) s x bytes else State.streamOut (bytes + 1) s x bytes
      else s
    | none => s)

/-- Every released half of the write streams of a footprint has been written (R189). -/
def State.streamsWritten (s : State) (fp : BitVec 64) : Bool :=
  (s.streamsOn fp).all fun kv => match s.strm (kv.1 / 32) (kv.1 % 32) with
    | some x => !x.writes || decide (x.limit ≤ x.st.position)
    | none => true

/-! ### The Rope (R295-R307) -/

/-- The Rope descriptor of a core: descriptor index and stream view. -/
def State.ropeAt (s : State) (core : Nat) : Option (Nat × Strm) :=
  (List.range 32).findSome? fun i => (s.strm core i).bind fun x =>
    if x.kind = 5 ∨ x.kind = 6 then some (i, x) else none

def Strm.blocks (x : Strm) : Nat := field x.image (x.o + 8) 4
def Strm.passes (x : Strm) : Nat := field x.image (x.o + 12) 2
def Strm.src (x : Strm) : Nat := field x.image (x.o + 16) 8
def Strm.fmt (x : Strm) : Nat := ropeFmt x.image x.o
def Strm.size (x : Strm) : Nat := tileBytes x.fmt
def Strm.local' (x : Strm) : Bool := bit (ropeFlags x.image x.o) 0
def Strm.deltaOn (x : Strm) : Bool := bit (ropeFlags x.image x.o) 1
def Strm.srcSlice (x : Strm) : Bool := bit (ropeFlags x.image x.o) 2
def Strm.deltaAddr (x : Strm) : Nat := field x.image (x.o + 24) 8
def Strm.deltaBytes (x : Strm) : Nat := field x.image (x.o + 32) 4
def Strm.deltaCycles (x : Strm) : Nat := field x.image (x.o + 36) 2
def Strm.next (x : Strm) : Nat := ropeNext x.image x.o

/-- A delta record: tile, half, control, scale, elements (R303). -/
structure Delta where
  tile : Nat
  half : Nat
  ctrl : Nat
  scale : Nat
  codes : List Nat

/-- Bytes of the record at an offset of a table. -/
def deltaSize (b : Bytes) (o : Nat) : Nat := if bit (byteAt b (o + 6)) 4 then 24 else 16

def deltaAt (b : Bytes) (o : Nat) : Delta :=
  let w := if bit (byteAt b (o + 6)) 4 then 8 else 4
  let v := leNat (slice b (o + 8) (2 * w))
  { tile := field b o 4, half := field b (o + 4) 2, ctrl := byteAt b (o + 6), scale := byteAt b (o + 7)
    codes := (List.range 16).map fun i => v / 2 ^ (w * i) % 2 ^ w }

/-- The records of a table up to its end, or the index of the first that breaks R304. -/
def deltaTable (x : Strm) (b : Bytes) : Nat → Nat → Option Delta → Except Nat (List Delta)
  | 0, _, _ => .ok []
  | k + 1, o, last =>
    let i := (b.length / 16 + 1) - (k + 1)
    if b.length < o + 4 then .error i
    else if field b o 4 = 0xFFFFFFFF then .ok []
    else if b.length < o + deltaSize b o then .error i
    else
      let d := deltaAt b o
      let halves := if x.fmt ≤ 1 then 512 else 256
      let after := match last with
        | none => true
        | some e => decide (e.tile < d.tile) || (decide (e.tile = d.tile) && decide (e.half < d.half))
      if !after ∨ x.blocks ≤ d.tile ∨ halves ≤ d.half ∨ 32 ≤ d.ctrl then .error i
      else match deltaTable x b k (o + deltaSize b o) (some d) with
        | .ok ds => .ok (d :: ds)
        | .error e => .error e

/-- The records of the delta table that a reader holds for block n of its Rope (R303). -/
def Strm.recordsOf (x : Strm) (n : Nat) : List Delta :=
  let b := x.st.half1.data
  if x.deltaOn then
    match deltaTable x b (b.length / 16 + 1) 0 none with
    | .ok ds => ds.filter fun d => decide (d.tile = n % max 1 x.blocks)
    | .error _ => []
  else []

/-- n bytes for a reader of a Rope, those gathered before a halt counted: of local memory at once, of the Remote window by READs
whose data gathers in the stream buffer, as many at a time as the memory side may have outstanding; none while they are not
there (R274-R276, R291, R296, R303). -/
def State.ropeRead (s : State) (x : Strm) (part a n : Nat) : State × Option Bytes :=
  let h := x.st.halfOf part
  if windowOf a = 3 then
    if h.busy then (s, none)
    else if n ≤ h.done then (s.setStream x.key (x.st.setHalf part {}), some h.data)
    else
      let m := min (n - h.done) (s.askable (x.key / 32))
      match s.remoteRead x.p.ctx (remoteOf a).1 ((remoteOf a).2 + h.done) m (fun q => .rope x.key part (h.done + q)) with
      | (s', 0, true) => (s', none)
      | (s', _, true) => (s'.setStream x.key (x.st.setHalf part { h with busy := true }), none)
      | (_, _, false) => (s, none)
  else if s.waitsFrozen x.p.ctx a n then (s, none)
  else match (s.ownView x.p.cmd).read x.p.ctx (a + h.done) (n - h.done) with
    | .ok b => ((s.accessed (x.key / 32) x.p.ctx a n).pathEvents (x.key / 32) x.p.ctx a n 0, some (h.data.take h.done ++ b))
    | .damaged va => ((s.accessed (x.key / 32) x.p.ctx a n).stepDamage x.p va, none)
    | .miss _ => (s, none)

/-- A reader reads its delta table for a pass, once, and holds it; a table that breaks R304 ends the step. -/
def State.readTable (s : State) (x : Strm) (pass : Nat) : State × Bool :=
  match s.ropeRead x 1 x.deltaAddr x.deltaBytes with
  | (s, none) => (s, false)
  | (s, some b) => match deltaTable x b (b.length / 16 + 1) 0 none with
    | .ok _ =>
      (s.setStream x.key { (s.restrm x).st with pass := pass + 1, half1 := { data := b } }, true)
    | .error i => (s.endStep x.p stDeltaTable (BitVec.ofNat 64 (x.key / 32 + x.key % 32 * 2 ^ 16 + i * 2 ^ 24)), false)

/-- Records that a relay can apply to one block (R306). -/
def Strm.deltaRoom (x : Strm) : Nat := 4 * max ((x.size + 255) / 256) x.deltaCycles

/-- Bytes of a block in the slice of the head that reads it there. -/
def State.sliceBlock (s : State) (x : Strm) (n : Nat) : Except State Bytes :=
  let a := (x.src + n % max 1 x.blocks * x.size) % 2 ^ 25
  match s.sliceFails x.p.ctx (x.key / 32) false a x.size with
  | some off => .error (s.suppress x.p (x.key / 32) off)
  | none => match s.slicePoison (x.key / 32) a x.size with
    | some l => .error (s.sliceDamage x.p (x.key / 32) (l * 32 % 2 ^ 25))
    | none => .ok ((s.ownView x.p.cmd).sliceRead x.p.ctx (x.key / 32) a x.size)

/-- One half of a block's element plane changed by a delta record: element record, side record, saturations, and
whether the block becomes a NaN block (R305). -/
def applyDelta (fmt : Nat) (el side : Bytes) (d : Delta) : Bytes × Bytes × Nat × Bool :=
  let h := d.half % 2
  let scale := byteAt side 0
  if scale = 255 then (el, side, 0, false)
  else
    let e4m3 := bit d.ctrl 4
    if d.scale = 255 ∨ (e4m3 ∧ d.codes.any fun c => decide (c % 128 = 127)) then
      (el, [0xFF] ++ side.drop 1, 0, true)
    else
      let w := elemBits fmt
      let v := leNat el
      let bigX : Int := (scale : Int) - 127
      let anchor := if h = 0 then byteAt side 1 % 16 else byteAt side 1 / 16
      let sums := (List.range 16).map fun i =>
        (elemValue fmt scale anchor (v / 2 ^ (w * (16 * h + i)) % 2 ^ w)).add
          (elemValue (if e4m3 then 5 else 0) d.scale (d.ctrl % 16) (d.codes.getD i 0))
      let a := if fmt = 0 then anchorOf (amaxOf sums) bigX else 0
      let qs := sums.zipIdx.map fun (x : FVal × Nat) =>
        if x.1.isNan then (Config.deltaNan fmt (v / 2 ^ (w * (16 * h + x.2)) % 2 ^ w) % 2 ^ w, false) else quantElem fmt x.1 bigX a
      let new := (qs.zipIdx.map fun (x : (Nat × Bool) × Nat) => x.1.1 * 2 ^ (w * x.2)).foldl (· + ·) 0
      let lo := v % 2 ^ (16 * w)
      let hi := v / 2 ^ (16 * w)
      let v' := if h = 0 then new + hi * 2 ^ (16 * w) else lo + new * 2 ^ (16 * w)
      let side' := if fmt = 0 then
          side.take 1 ++ leBytes 1 (if h = 0 then a + byteAt side 1 / 16 * 16 else byteAt side 1 % 16 + 16 * a)
        else side
      (leBytes (elemBytes fmt) v', side', (qs.filter (·.2)).length, false)

/-- The copy of a block that a relay moves into its own Matrix Engine, with the records applied, the elements
saturated and the blocks that became NaN (R305). -/
def deltaCopy (fmt : Nat) (b : Bytes) (ds : List Delta) : Bytes × Nat × Nat :=
  let nb := 64 * (kGroup fmt / 32)
  ds.foldl (fun (acc : Bytes × Nat × Nat) d =>
    let i := d.half / 2
    let eo := i * elemBytes fmt
    let so := nb * elemBytes fmt + i * sideBytes fmt
    let r := applyDelta fmt (slice acc.1 eo (elemBytes fmt)) (slice acc.1 so (sideBytes fmt)) d
    (overlay (overlay acc.1 eo r.1) so r.2.1, acc.2.1 + r.2.2.1, acc.2.2 + b2n r.2.2.2)) (b, 0, 0)

/-- Frees the relay slots whose blocks are forwarded and taken (R298). -/
def freeSlots (x : Strm) (bs : List Block) : List Block :=
  bs.filter fun b => !((b.forwarded || decide (x.next = 0)) && (b.taken || !x.local'))

/-- A block comes into a relay slot (R298). -/
def State.putBlock (s : State) (core : Nat) (x : Strm) (data : Bytes) : State :=
  let k := s.core core
  (s.setCore core { k with rope := freeSlots x (k.rope ++ [{ num := k.ropeCame, data := data }])
                           ropeCame := k.ropeCame + 1 }).advance core 1

/-- The records for a block of a Rope are there: none are due, or the reader holds the table of its pass (R301, R303). -/
def Strm.holdsTable (x : Strm) (b : Block) : Bool := !x.deltaOn || decide (b.num / max 1 x.blocks + 1 = x.st.pass)

/-- A block whose records are there, with the copy for the own Matrix Engine (R305). -/
def Strm.withCopy (x : Strm) (b : Block) : Block :=
  if b.ready || !x.holdsTable b then b
  else
    let ds := x.recordsOf b.num
    let r := deltaCopy x.fmt b.data ds
    { b with ready := true, own := r.1, records := ds.length, saturated := r.2.1 }

/-- The blocks in a core's slots whose records are there get their copies; more records than a block has time for end the
step (R305, R306). -/
def State.readyBlocks (s : State) (core : Nat) (x : Strm) : State :=
  let k := s.core core
  match k.rope.find? fun b => x.local' && !b.ready && x.holdsTable b && decide (x.deltaRoom < (x.recordsOf b.num).length) with
  | some b => s.endStep x.p stDeltaOverrun (BitVec.ofNat 64 (core + b.num % max 1 x.blocks * 2 ^ 16))
  | none => s.setCore core { k with rope := k.rope.map x.withCopy }

/-- The member of a Rope before a core, by its position. -/
def State.ropePrev (s : State) (core : Nat) (x : Strm) : Option (Nat × Strm) :=
  match (ropes x.image).find? fun r => decide (ropeNum x.image r.2 = ropeNum x.image x.o) &&
      decide (ropePos x.image r.2 + 1 = ropePos x.image x.o) with
  | some (c, _) => if c = core then none else (s.ropeAt c).map fun y => (c, y.2)
  | none => none

/-- Operators of a core section, with their indices. -/
def opsOf (b : Bytes) (k : Nat) : List (Nat × MeOp) := (List.range (meOps b k)).map fun i => (i, meOpAt b (meAt b k i))

/-- Blocks that a core's operators take in a round. -/
def blocksTaken (b : Bytes) (k : Nat) : Nat :=
  (((opsOf b k).filter fun f => bit f.2.ctrl 6).map fun f => f.2.blocks * f.2.kGroups).foldl (· + ·) 0

/-- The head of the Rope of a descriptor: its core and its view. -/
def State.ropeHead (s : State) (x : Strm) : Option (Nat × Strm) :=
  ((ropes x.image).find? fun r => decide (ropeNum x.image r.2 = ropeNum x.image x.o) && decide (ropePos x.image r.2 = 0)).bind
    fun r => (s.ropeAt r.1).map fun y => (r.1, y.2)

/-- A head's own round reads its blocks (R300). -/
def Strm.inRound (x : Strm) : Bool := decide (x.kind = 5) && x.srcSlice && x.local'

/-- The next block of a Rope comes to a core: read by the head, or forwarded by its predecessor (R296, R298, R300). A head that
reads its slice for other cores does so while its cluster's rounds run (log 99). -/
def State.nextBlock (s : State) (core : Nat) (x : Strm) : State :=
  let n := (s.core core).ropeCame
  if x.kind = 5 then
    if x.inRound then s
    else if x.srcSlice then
      let cl := tget {} s.array.clusters (core / 16)
      if cl.round = 0 ∨ cl.frozen ∨ cl.ended then s
      else match s.sliceBlock x n with
        | .ok b => s.putBlock core x b
        | .error s => s
    else match s.ropeRead x 0 (x.src + n % max 1 x.blocks * x.size) x.size with
      | (s, some b) => s.putBlock core (s.restrm x) b
      | (s, none) => s
  else match s.ropePrev core x with
    | none => s
    | some (c, y) =>
      let kc := s.core c
      match kc.rope.find? fun b => !b.forwarded with
      | none => s
      | some b =>
        let mark := fun (q : Block) => if q.num = b.num then { q with forwarded := true } else q
        (s.setCore c { kc with rope := freeSlots y (kc.rope.map mark) }).putBlock core x b.data

/-- The pass whose delta table the reader of a core needs next: of its first block without its records, or of the next block
that its round will read (R300, R303). -/
def State.tableDue (s : State) (core : Nat) (x : Strm) : Option Nat :=
  let k := s.core core
  let n := match k.rope.find? fun b => !b.ready with
    | some b => some b.num
    | none => if x.inRound ∧ k.ropeCame < x.blocks * x.passes then some k.ropeCame else none
  (n.map (· / max 1 x.blocks)).filter fun p => x.deltaOn && decide (x.st.pass ≤ p)

/-- One of the readers of a Rope's descriptor is halted: 0 of blocks, 1 of its delta table (R302). -/
def Stream.haltedReader (t : Stream) (reader : Nat) : Bool := t.fault.any fun f => decide (f.reader = reader)

/-- A block may come to a core: a slot is free, blocks are left, and a head's reader of blocks is not halted (R298, R302). -/
def State.takesBlock (s : State) (core : Nat) (x : Strm) : Bool :=
  let k := s.core core
  decide (k.rope.length < 4) && decide (k.ropeCame < x.blocks * x.passes) && !(decide (x.kind = 5) && x.st.haltedReader 0)

/-- The delta table that is due is read, and the blocks that it serves get their records. -/
def State.ropeTable (s : State) (core : Nat) (x : Strm) : State :=
  let r := match s.tableDue core x with
    | some p => if x.st.haltedReader 1 then (s, false) else s.readTable x p
    | none => (s, true)
  if r.2 then r.1.readyBlocks core (r.1.restrm x) else r.1

/-- A block comes to a core with a free slot, and its delta table is read when it is due (R298, R301-R303). -/
def State.ropeBlock (s : State) (core : Nat) (x : Strm) : State :=
  let s := if s.takesBlock core x then s.nextBlock core x else s
  s.ropeTable core (s.restrm x)

/-- ROPE_BLOCK_ARRIVAL (R298). -/
def execRopeBlockArrival (core : CoreId) (s : State) : Host.Outcome State Fault Refusal :=
  .next (match s.ropeAt core.val with
    | some (_, x) => s.ropeBlock core.val x
    | none => s)

/-! ### Faults (R290-R294, R302) -/

/-- A fault that an access of a stream or Rope reader meets: the fault, its position and pass, and the reader (R290, R302). -/
structure Halt where
  miss : Miss
  position : Nat
  pass : Nat := 0
  reader : Nat := 0
deriving DecidableEq, Repr

/-- What an access of a step's memory side at an address meets. -/
def State.probe (s : State) (p : Step) (a : Nat) (write : Bool) : Option Miss :=
  if windowOf a = 3 then
    if (s.portFor (remoteOf a).1 p.ctx (remoteOf a).2).isNone && !s.pathFenced (remoteOf a).1 then some (unreachable a) else none
  else match s.place p.ctx a write with
    | .miss m => some m
    | _ => none

/-- The first fault of the reads of n bytes from an address, with its offset, from one on. -/
def State.probes (s : State) (p : Step) (a0 n done : Nat) : Option (Miss × Nat) :=
  let from' := a0 + done
  (List.range ((from' % 4096 + (n - done) + 4095) / 4096)).findSome? fun i =>
    let a := max from' ((from' / 4096 + i) * 4096)
    (s.probe p a false).map fun m => (m, a - a0)

/-- The fault that the next access of a stream meets. -/
def State.streamMiss (s : State) (x : Strm) : Option Halt :=
  if x.limit ≤ x.st.position ∨ x.st.half0.busy ∨ x.st.half1.busy then none
  else if x.st.ports.any fun key => !s.flushable key then
    some { miss := unreachable ((x.addr x.st.position).getD remoteBase), position := x.st.position }
  else (x.addr x.st.position).bind fun a => (s.probe x.p a x.writes).map fun m => { miss := m, position := x.st.position }

/-- The fault that the next access of a Rope's head meets; its position is that of the block, which has not been delivered to
the Rope (R291). -/
def State.headMiss (s : State) (x : Strm) : Option Halt :=
  let n := (s.core (x.key / 32)).ropeCame
  if s.takesBlock (x.key / 32) x ∧ x.kind = 5 ∧ !x.srcSlice ∧ !x.st.half0.busy then
    (s.probes x.p (x.src + n % max 1 x.blocks * x.size) x.size x.st.half0.done).map fun m =>
      { miss := m.1, position := n % max 1 x.blocks * x.size, pass := n / max 1 x.blocks }
  else none

/-- The fault that the next access of a delta reader meets. -/
def State.tableMiss (s : State) (x : Strm) : Option Halt :=
  if x.st.half1.busy ∨ x.st.haltedReader 1 then none
  else (s.tableDue (x.key / 32) x).bind fun p => (s.probes x.p x.deltaAddr x.deltaBytes x.st.half1.done).map fun m =>
    { miss := m.1, position := m.2, pass := p, reader := 1 }

/-- The fault that the next access of a stream or of a Rope's readers meets. -/
def State.nextMiss (s : State) (x : Strm) : Option Halt :=
  if x.reads || x.writes then s.streamMiss x
  else if x.kind = 5 ∨ x.kind = 6 then (s.headMiss x).or (s.tableMiss x)
  else none

/-- A half is asked for or sent afresh when its stream goes on. -/
def Half.again (h : Half) (writes : Bool) : Half := { h with busy := false, done := if writes then 0 else h.done }

/-- A halted stream asks again for what is not there: both halves of a stream, of a Rope's descriptor what its reader gathers. -/
def Stream.again (t : Stream) (x : Strm) (reader : Nat) : Stream :=
  if x.reads || x.writes then { t with half0 := t.half0.again x.writes, half1 := t.half1.again x.writes }
  else t.setHalf reader ((t.halfOf reader).again false)

/-- A stream or a reader of a Rope halts with a record of its fault; a group's members are told (R290, R302, R486). -/
def State.haltStream (s : State) (x : Strm) (h : Halt) : State :=
  let n := min 0xFFFF (x.st.faults + 1)
  let r : Spr := { core := x.key / 32, stream := x.key % 32, window := h.miss.window, kind := h.miss.kind
                   seq := x.p.seq.toNat % 2 ^ 32, va := h.miss.va % 2 ^ 52, position := h.position, pass := h.pass, ctx := x.p.ctx
                   count := n, reader := h.reader }
  let first := !s.halted x.p.footprint
  let s := (s.noteMiss x.p.ctx h.miss).cbump x.p.ctx 10 1 32
  let s := s.setStream x.key { x.st.again x h.reader with fault := some r, faults := n, ports := [], refused := none }
  let s := (clustersOf x.p.footprint).foldl State.endWait s
  if first && !x.p.members.isEmpty then s.groupCast x.p 0x44 1 0 [] else s

/-- Bytes of a delta table before the one that faults, of local memory: they have come (R291). -/
def State.gatherTable (s : State) (x : Strm) (h : Halt) : Strm :=
  if h.reader = 1 ∧ h.miss.window ≠ 3 then
    match (s.ownView x.p.cmd).read x.p.ctx x.deltaAddr h.position with
    | .ok b => { x with st := { x.st with half1 := { data := b, done := h.position } } }
    | _ => x
  else x

/-- An access that the device cannot send is refused: it counts in REMOTE_REFUSED (R500). -/
def State.countUnsent (s : State) (c : Nat) (m : Miss) : State := if m.window = 3 ∧ m.kind = 6 then s.cbump c 15 4 32 else s

/-- STREAM_TRANSLATION_FAULT: the next access of the stream meets a fault, on its way through the caches (R257, R290). -/
def execStreamTranslationFault (core : CoreId) (stream : Fin 32) (s : State) : Host.Outcome State Fault Refusal :=
  .next (match s.strm core.val stream.val with
    | some x =>
      if x.st.fault.isSome then s
      else match s.nextMiss x with
        | some h =>
          ((s.accessPage (x.key / 32) x.p.ctx h.miss.va).countUnsent x.p.ctx h.miss).haltStream (s.gatherTable x h) h
        | none => s
    | none => s)

/-- A Stream Position Record as bytes (R290). -/
def Spr.bytes (r : Spr) : Bytes :=
  leBytes 2 r.core ++ leBytes 1 r.stream ++ leBytes 1 (r.window + 4 * r.kind) ++ leBytes 4 r.seq ++ leBytes 8 r.va ++
    leBytes 8 r.position ++ leBytes 4 r.pass ++ leBytes 2 r.ctx ++ leBytes 2 r.count

/-- A halted stream goes on from its position (R292); when no stream of the step is halted any more the group is
told (R486). -/
def State.resume (s : State) (key : Nat) (t : Stream) : State :=
  let s := s.setStream key t.unhalted
  match s.stepAt (key / 512) with
  | some p =>
    if s.halted p.footprint then s
    else
      let s := (clustersOf p.footprint).foldl State.startWait s
      if p.members.isEmpty then s else s.groupCast p 0x44 0 0 []
  | none => s

/-- Accesses of a stream are outstanding on a link. -/
def State.streamPending (s : State) (key : Nat) : Bool :=
  s.links.requests.any fun r => decide (r.asker.streamKey = some key)

/-- Accesses of the reader that a record names are outstanding on a link. -/
def State.recordPending (s : State) (key : Nat) (r : Spr) : Bool :=
  s.links.requests.any fun q => match q.asker with
    | .rope k part _ => decide (k = key) && decide (part = r.reader)
    | a => decide (a.streamKey = some key)

/-- The position of a record as it is saved: a KIND 2 stream counts delivery to its lane (R291). -/
def State.delivered (s : State) (core stream : Nat) (r : Spr) : Spr :=
  match s.strm core stream with
  | some x => if x.kind = 2 then { r with position := min r.position x.st.filled } else r
  | none => r

/-- SPR_SAVE: the record is saved and posted; a RESUME_STREAM that was held is applied (R290, R294). -/
def execSprSave (core : CoreId) (stream : Fin 32) (t : Nat) (s : State) : Host.Outcome State Fault Refusal :=
  .next (
    let key := core.val * 32 + stream.val
    let st := tget {} s.array.streams key
    match st.fault, st.spr, st.fault.any (s.recordPending key) with
    | some r, none, false =>
      let s := s.at t
      let r := s.delivered core.val stream.val r
      let s := s.setStream key { st with fault := some r, spr := some r, savedPhase := s.phase }
      let s := s.postEvent r.ctx 1 0 r.bytes
      let cs := st.held.filterMap s.cmd
      if cs.isEmpty then s
      else
        let s := s.resume key st
        cs.zipIdx.foldl (fun s (c : Cmd × Nat) => s.complete c.1 0 (b2n (decide (c.2 = 0)))) s
    | _, _, _ => s)

/-- RESUME_STREAM (R292, R294, R352). -/
def execResumeStream (cmd : Nat) (s : State) : Host.Outcome State Fault Refusal :=
  .next (match s.starting cmd 11 with
    | none => s
    | some c =>
      let key := c.at 10 2 * 32 + c.at 12 1
      let st := tget {} s.array.streams key
      match st.fault with
      | some r =>
        if r.ctx ≠ c.at 8 2 ∨ r.seq ≠ c.at 16 4 then s.complete c 0 0
        else if st.spr.isSome then (s.resume key st).complete c 0 1
        else (s.setStream key { st with held := st.held ++ [cmd] }).stage c .running
      | none => s.complete c 0 0)

/-- STREAM_FAULT_TIMEOUT (R293). -/
def execStreamFaultTimeout (core : CoreId) (stream : Fin 32) (t : Nat) (s : State) : Host.Outcome State Fault Refusal :=
  .next (match s.strm core.val stream.val with
    | some x =>
      if x.st.fault.isSome ∧ x.st.spr.isSome ∧
          x.st.savedPhase + s.dget 0x2800 1 * 65536 ≤ s.cdu.phase (max s.uptime t) then
        (s.at t).endStep x.p stStreamTimeout (BitVec.ofNat 64 (core.val + stream.val * 2 ^ 16))
      else s
    | none => s)

end Sys2Proof.Machine
end

