-- ==== Sys2Proof/Machine/Rounds.lean ====
section
/-! DEFINITION. Rounds of a cluster: the gate, what a round does, messages and credits of channels, the end of a
cluster and Route faults (R181-R191, R281-R286, R298-R306). -/

namespace Sys2Proof.Machine

def stRouteFault : Nat := 0x08

/-! ### The round that is due -/

/-- A cluster on which a step executes, with no Rappel: the step, the Route's image and the cluster's section. -/
structure Due where
  p : Step
  image : Bytes
  sec : Nat
  cl : Nat
  k : Cluster
deriving DecidableEq, Repr

def State.cluster (s : State) (cl : Nat) : Cluster := tget {} s.array.clusters cl

def State.setCluster (s : State) (cl : Nat) (k : Cluster) : State :=
  { s with array := { s.array with clusters := tset {} s.array.clusters cl k } }

def State.due (s : State) (cl : Nat) : Option Due :=
  match s.resident cl, s.stepAt cl with
  | some r, some p =>
    if s.stopped cl || p.starting || p.ended || p.ending.isSome then none
    else (sectionAt r.bytes cl).map fun o => { p := p, image := r.bytes, sec := o, cl := cl, k := s.cluster cl }
  | _, _ => none

def Due.ingressAt (d : Due) (i : Nat) : Nat := Sys2Proof.Machine.ingressAt d.image d.sec i
def Due.egressAt (d : Due) (e : Nat) : Nat := Sys2Proof.Machine.egressAt d.image d.sec e
def Due.ingresses (d : Due) : List Nat := List.range (ingressCount d.image d.sec)
def Due.egresses (d : Due) : List Nat := List.range (egressCount d.image d.sec)

/-- Used cores of the cluster with the offsets of their sections. -/
def Due.cores (d : Due) : List (Nat × Nat) :=
  (List.range 16).filterMap fun c => (coreAt d.image d.sec c).map fun k => (c, k)

/-- Steering slots of a core section. -/
def slotsOf (b : Bytes) (k : Nat) : List (Nat × Steer) :=
  (List.range (steerSlots b k)).map fun j => (j, steerOf b (steerAt b k j))

/-- CARRY, SELECT and REPEAT slots fed on a port call for a packet; with none of them the port always does (R181). -/
def Core.calls (k : Core) (slots : List (Nat × Steer)) (port : Nat) : Bool :=
  let fed := slots.filter fun x => (decide (x.2.prim = 1) || decide (x.2.prim = 3) || decide (x.2.prim = 5)) &&
    (decide (x.2.data = port) || decide (x.2.alt = port) || (x.2.takes && decide (x.2.ctrl = port)))
  fed.isEmpty || fed.any fun x =>
    match x.2.prim with
    | 5 => if x.2.data = port then !thas k.carry x.1 else thas k.carry x.1
    | 3 => !thas k.repeats x.1
    | _ => (k.queue port).isEmpty

/-- Lane of the destination core on which an ingress delivers. -/
def Due.lane (d : Due) (i : Nat) : Nat := Config.ingressLane d.cl i % 12

/-- The due round consumes from an ingress (R181). -/
def Due.wants (d : Due) (s : State) (i : Nat) : Bool :=
  let a := d.ingressAt i
  let c := byteAt d.image (a + 8)
  decide (d.k.round % max 1 (field d.image (a + 4) 2) = field d.image (a + 6) 2) &&
    (match coreAt d.image d.sec c with
     | some k => (s.core (d.cl * 16 + c)).calls (slotsOf d.image k) (d.lane i)
     | none => true)

def Due.mode (d : Due) (i : Nat) : Nat := byteAt d.image (d.ingressAt i)
def Due.sources (d : Due) (i : Nat) : Nat := byteAt d.image (d.ingressAt i + 3)
def Due.ingress (d : Due) (i : Nat) : Ingress := tget {} d.k.ingress i

/-- Order by source rank; sources of one rank stay in order of arrival (R117; log 98). -/
def byRank (ms : List Message) : List Message :=
  (List.range 4).flatMap (fun r => ms.filter fun m => decide (m.rank = r))

/-- Messages that an ingress gives a round with a tag (Table: Ingress modes, R188). -/
def Due.picks (d : Due) (i tag : Nat) : Option (List Message) :=
  let g := d.ingress i
  match d.mode i with
  | 0 => (g.held.find? fun m => decide (m.tag = g.expected)).map ([·])
  | 2 => (g.held.find? fun m => decide (m.tag = tag)).map ([·])
  | 4 =>
    let ms := g.held.filter fun m => decide (m.tag = tag)
    if ms.length < d.sources i then none else some (if d.p.bitExact then byRank ms else ms)
  | _ => g.held.head?.map ([·])

/-- The tag latched by a CARRY slot of the cluster while its loop runs. -/
def Due.carried (d : Due) (s : State) : Option Nat :=
  d.cores.findSome? fun c => (s.core (d.cl * 16 + c.1)).carry.head?.map (·.2)

/-- The iteration tag of the due round (R187): none while the lead's message is missing. Where no case of the rule
applies the tag is a free value. -/
def Due.tag (d : Due) (s : State) : Option Nat :=
  let lead := leadOf d.image d.sec
  if lead ≠ 0xFF ∧ d.wants s lead then (d.picks lead 0).bind fun ms => ms.head?.map (·.tag)
  else match d.carried s with
    | some t => some t
    | none => if lead = 0xFF then some (d.k.round % 4096) else some (Config.roundTag d.cl d.k.round % 4096)

/-- Ingresses that the due round consumes and whose messages are not there. -/
def Due.missing (d : Due) (s : State) : List Nat :=
  d.ingresses.filter fun i => d.wants s i &&
    match d.mode i, d.tag s with
    | 0, _ => (d.picks i 0).isNone
    | 1, _ => (d.picks i 0).isNone
    | 3, _ => (d.picks i 0).isNone
    | _, some t => (d.picks i t).isNone
    | _, none => false

/-- Every source of an ingress has sent its end marker. -/
def Due.endedAt (d : Due) (i : Nat) : Bool := decide (d.sources i ≤ (d.ingress i).ends)

/-- The cluster ends: a source has run its rounds, or an ingress that the due round would consume has delivered its
end marker (R189). -/
def Due.ends (d : Due) (s : State) : Bool :=
  if d.ingresses.isEmpty then decide (d.p.iterations ≤ d.k.round) else (d.missing s).any d.endedAt

/-! ### Streams of the due round (R281-R285) -/

/-- Streams of KIND 0-4 of the cluster's cores that the due round uses: core, descriptor, logical half, place in
its group. -/
structure Use where
  core : Nat
  desc : Nat
  x : Strm
  half : Nat
  part : Nat

def Due.uses (d : Due) (s : State) : List Use :=
  d.cores.flatMap fun c => (List.range (streamDescs d.image c.2).length).filterMap fun i =>
    match s.strm (d.cl * 16 + c.1) i with
    | none => none
    | some x =>
      if x.kind ≤ 4 ∧ x.first ≤ d.k.round then
        let n := d.k.round - x.first
        some { core := c.1, desc := i, x := x, half := n / max 1 x.perHalf, part := n % max 1 x.perHalf }
      else none

/-- The half that the round uses is full, or free (R283). -/
def Use.ready (u : Use) : Bool :=
  if u.x.kind = 4 then true
  else if u.x.reads then decide (min ((u.half + 1) * u.x.half) u.x.len ≤ u.x.st.position)
  else decide (u.half < 2) || decide (min ((u.half - 1) * u.x.half) u.x.len ≤ u.x.st.position)

/-- The half begins at or beyond the end of the sequence (R285). -/
def Use.beyond (u : Use) : Bool := decide (u.x.kind < 4) && decide (u.x.len ≤ u.half * u.x.half)

/-! ### Rope blocks of the due round (R298, R301, R305) -/

/-- Of the blocks that the round takes, as many as the slots hold are there, with the delta records for them (R181, R301); a
head that reads its own slice in the round has free slots for them, and its delta table (R300). -/
def State.ropeReady (s : State) (core n : Nat) : Bool :=
  let k := s.core core
  match n, s.ropeAt core with
  | 0, _ => true
  | n, some (_, x) =>
    if x.inRound then decide (k.rope.length + min n 4 ≤ 4) && (s.tableDue core x).isNone
    else (List.range (min n 4)).all fun i => k.rope.any fun b => decide (b.num = k.ropeTaken + i) && b.ready
  | _, none => false

/-! ### The gate (R181) -/

/-- Conditions of the gate that do not hold, as WAITING reports them (R587): 1 message, 2 stream half, 4 credit,
8 Rope block. -/
def Due.waiting (d : Due) (s : State) : Nat :=
  b2n ((d.tag s).isNone || !(d.missing s).isEmpty) +
  2 * b2n ((d.uses s).any fun u => !u.ready) +
  4 * b2n (d.egresses.any fun e => decide (channelSize d.image d.cl e ≤ (tget {} d.k.egress e).spent)) +
  8 * b2n (d.cores.any fun c => !s.ropeReady (d.cl * 16 + c.1) (blocksTaken d.image c.2))



/-! ### Route faults and the end of a cluster (R189, R190) -/

/-- The gate waits for something that passes a Bulk class arbiter, a bridge direction or a fabric port: a stream half, a Rope block, or
a message or a credit of a channel between two dies (R390). -/
def Due.awaitsRequest (d : Due) (s : State) : Bool :=
  let w := d.waiting s
  let far := fun (cl : Nat) => decide (cl / 16 ≠ d.cl / 16)
  bit w 1 || bit w 3 ||
  ((Sys2Proof.Machine.egresses d.image).any fun e => far e.2 && decide (byteAt d.image (e.1 + 3) = d.cl) &&
    (d.missing s).contains (byteAt d.image (e.1 + 4))) ||
  d.egresses.any fun e => far (byteAt d.image (d.egressAt e + 3)) &&
    decide (channelSize d.image d.cl e ≤ (tget {} d.k.egress e).spent)

/-- A Route fault: counted, recorded, and the step ends with ROUTE_FAULT. -/
def State.routeFault (s : State) (p : Step) (cl ingress case : Nat) : State :=
  let v := cl + ingress * 2 ^ 8 + case * 2 ^ 13
  ((s.cbump p.ctx 7 4 32).cset p.ctx 7 5 v).endStep p stRouteFault (BitVec.ofNat 64 v)

/-- Messages that an ingress holds when every slot of it is full, over the channels that feed it (R185). -/
def Due.full (d : Due) (i : Nat) : Nat :=
  let a := d.ingressAt i
  byteAt d.image (a + 1) / max 1 (byteAt d.image (a + 2)) * max 1 (d.sources i)

/-- A full ingress of which the due round finds no message that satisfies it. -/
def Due.jammed (d : Due) (s : State) : Option Nat :=
  (d.missing s).find? fun i => decide (d.full i ≤ (d.ingress i).held.length)

/-- A partial half of a write stream passes to the memory side at the end of its cluster (R285). -/
def Due.flushHalves (d : Due) (s : State) : State :=
  d.cores.foldl (fun s c => (List.range 32).foldl (fun s i =>
    match s.strm (d.cl * 16 + c.1) i with
    | some x =>
      if x.writes ∧ x.st.released * x.half < x.st.filled then s.setStream x.key { x.st with released := x.st.released + 1 }
      else s
    | none => s) s) s

/-- The cluster ends: leftover messages are a Route fault; else end markers leave on every egress. -/
def Due.finish (d : Due) (s : State) : State :=
  match d.ingresses.find? fun i => !(d.ingress i).held.isEmpty with
  | some i => s.routeFault d.p d.cl i 3
  | none =>
    let marker := fun (e : Nat) => ({ tag := 0, source := d.cl * 32 + e, last := true } : Message)
    let egress := d.egresses.foldl (fun t e =>
      let g := tget {} t e
      tset {} t e { g with transit := g.transit ++ [marker e], endSent := true }) d.k.egress
    ((d.flushHalves s).countFreeze d.cl).setCluster d.cl { d.k with egress := egress, ended := true, frozen := false, requestSince := none }

/-! ### What a round does -/



/-- The stream of a use as the round has left it. -/
def Round.strm (x : Round) (u : Use) : Strm := x.s.restrm u.x

def Round.setStream (x : Round) (u : Use) (t : Stream) : Round := { x with s := x.s.setStream u.x.key t }

/-- Offset in its half of the part that the round moves, and in the slice of an offset of the half (R281, R282). -/
def Use.start (u : Use) : Nat := u.part * u.x.chunk
def Use.mirror (u : Use) (off : Nat) : Nat := u.x.buf + u.half % 2 * u.x.half + off

/-- The round is the last of its group. -/
def Use.last (u : Use) : Bool := decide (u.part + 1 = max 1 u.x.perHalf)

/-- Key of the stream of a use among those of its cluster. -/
def Use.key (u : Use) : Nat := u.core * 32 + u.desc

/-- A half of a write stream takes the bytes of the slot side from an offset of it to n bytes beyond, with the marks of the
elements among them. -/
def Round.fill (x : Round) (u : Use) (off n : Nat) (b : Bytes) (ovf nan : Bool) : Round :=
  let t := (x.strm u).st
  let h := t.halfOf u.half
  let was := decide (0 < off)
  let h := { h with data := overlay h.data off b, ovf := (was && h.ovf) || ovf, nan := (was && h.nan) || nan }
  x.setStream u { t.setHalf u.half h with filled := t.filled + n }

/-- KIND 2: packet i of the part of the half that the round moves leaves on the lane (R282). -/
def Round.sendPiece (x : Round) (u : Use) (i : Nat) : Round :=
  let t := (x.strm u).st
  let n := min 512 (u.x.chunk - 512 * i)
  let b := padTo (slice (t.halfOf u.half).data (u.start + 512 * i) n) n
  (x.setStream u { t with filled := t.filled + n }).emit u.core 14 u.x.port [{ data := b }]

/-- KIND 3: the packets that have come on the lane fill the part of the half that the round moves (R282; log 121). -/
def Round.takeIn (x : Round) (u : Use) : Round :=
  let k := x.core u.core
  let r := takePkts u.x.chunk (k.queue u.x.port)
  (x.setCore u.core (k.setQueue u.x.port r.2)).fill u u.start u.x.chunk (r.1.flatMap (·.data)) (r.1.any (·.ovf)) (r.1.any (·.nan))

/-- A stream with the slice on its slot side has bytes for a slot: from XFER_CYCLE on, until the part of the round has moved; KIND 4
while packets wait (R282). -/
def Round.pending (x : Round) (u : Use) : Bool :=
  decide (u.x.xfer ≤ x.cycle) && decide (tget 0 x.moved u.key < u.x.chunk) &&
    (decide (u.x.kind ≠ 4) || !((x.core u.core).queue u.x.port).isEmpty)

/-- KIND 4: packets of up to n bytes go to the slice, with the marks of their elements at their start (R130; log 98). -/
def Round.intoSlice (x : Round) (u : Use) (n : Nat) : Round :=
  let t := (x.strm u).st
  let k := x.core u.core
  let r := takePkts n (k.queue u.x.port)
  let b := r.1.flatMap (·.data)
  let room := 2 * max 1 u.x.half
  let at' := t.filled % room
  let first := min b.length (room - at')
  let x := (x.setCore u.core (k.setQueue u.x.port r.2)).store u.core (u.x.buf + at') (b.take first)
  let x := if first < b.length then x.store u.core u.x.buf (b.drop first) else x
  let mark := fun (q : Round × Nat) (p : Pkt) => (q.1.markAt u.core (u.x.buf + q.2 % room) p.ovf p.nan, q.2 + p.data.length)
  let x := (r.1.foldl mark (x, t.filled)).1
  { x with moved := tset 0 x.moved u.key (tget 0 x.moved u.key + b.length) }.setStream u { t with filled := t.filled + b.length }

/-- A slot moves the next 512 B between a half, or the lane of KIND 4, and the slice (R282). -/
def Round.piece (x : Round) (u : Use) : Part := do
  let done := tget 0 x.moved u.key
  let n := min 512 (u.x.chunk - done)
  let off := u.start + done
  let y := { x with moved := tset 0 x.moved u.key (done + n) }
  match u.x.kind with
  | 0 => .ok (y.store u.core (u.mirror off) (padTo (slice ((x.strm u).st.halfOf u.half).data off n) n))
  | 1 =>
    let b ← y.load u.core (u.mirror off) n
    let ms := (x.core u.core).marks.filter fun m => decide (u.mirror off ≤ m.1) && decide (m.1 < u.mirror off + n)
    let late := ms.filter fun m => bit m.2 2
    let y := y.mapStep fun p => { p with crux := { p.crux with
      ovf := p.crux.ovf + (late.filter fun m => bit m.2 0).length, nan := p.crux.nan + (late.filter fun m => bit m.2 1).length } }
    .ok (y.fill u off n b (ms.any fun m => bit m.2 0) (ms.any fun m => bit m.2 1))
  | _ => .ok (x.intoSlice u n)

/-- A slot of the wheel goes to the first stream of the core that has bytes for it, in descriptor order; with none it goes unused
(R133, R282; log 121). -/
def Round.seGrant (x : Round) (us : List Use) : Part :=
  match us.find? x.pending with
  | none => .ok { x with idle := true }
  | some u => x.piece u

/-- A half is released at the end of its group's last round (R282, R283). -/
def Round.release (x : Round) (u : Use) : Round :=
  let t := (x.strm u).st
  let t := if u.x.reads then t.setHalf u.half { t.halfOf u.half with done := 0 } else t
  x.setStream u { t with released := t.released + 1 }

/-- A head reads blocks of its own slice in the round, as many as it has still to read and as its slots take (R298, R300). -/
def Round.readHead (x : Round) (c : Nat) : Nat → Part
  | 0 => .ok x
  | k + 1 =>
    let core := x.cl * 16 + c
    let q := x.core c
    match x.s.ropeAt core with
    | none => .ok x
    | some (_, y) =>
      if tget 0 x.toRead c = 0 ∨ 4 ≤ q.rope.length ∨ y.blocks * y.passes ≤ q.ropeCame then .ok x
      else do
        let b ← x.s.sliceBlock y q.ropeCame
        let s := x.s.putBlock core y b
        let s := s.readyBlocks core (s.restrm y)
        if (s.step? x.cmd).any fun p => p.ending.isSome then .error s
        else Round.readHead { x with s := s, toRead := tset 0 x.toRead c (tget 0 x.toRead c - 1) } c k

/-- The Matrix Engine has moved the next block into its pending weight buffer (R298). -/
def Round.takeBlock (x : Round) (c : Nat) : Round :=
  let k := x.core c
  let mark := fun (b : Block) => if b.num = k.ropeTaken then { b with taken := true } else b
  let free := match x.s.ropeAt (x.cl * 16 + c) with
    | some (_, y) => freeSlots y
    | none => id
  x.setCore c { k with ropeTaken := k.ropeTaken + 1, rope := free (k.rope.map mark) }

/-- A piece of the next block of the Rope moves into the pending weight buffer: with the first piece its records are counted
(R305), and steering slots fed on port code 15 take it; with the last its slot is free. A block that is not there is waited for
(R301; log 46). -/
def Round.fillRope (x : Round) (c : Nat) (f : MeOp) (n off len : Nat) : Part := do
  let x ← if off = 0 then x.readHead c 4 else .ok x
  let k := x.core c
  match k.rope.find? fun b => decide (b.num = k.ropeTaken) && b.ready with
  | none => .ok { x with wait := true }
  | some b =>
    let x := if off = 0 then x.mapStep fun p => { p with
      deltaRecords := p.deltaRecords + b.records, deltaSaturated := p.deltaSaturated + b.saturated } else x
    let x := if off = 0 ∧ x.steered c 15 = true then
        x.queueFor c 15 (cutPackets false false (b.own.length / 512 + 1) b.own)
      else x
    let x ← x.fillTile c f n off len (some b.own)
    .ok (if off + len < tileBytes f.wFmt then x else x.takeBlock c)

/-- An action of a round at a cycle, on a core of the cluster. -/
structure Action where
  cycle : Nat
  core : Nat
  run : Round → Part

/-- Puts an action behind those of its cycle. -/
def insertAction (a : Action) : List Action → List Action
  | [] => [a]
  | b :: bs => if a.cycle < b.cycle then a :: b :: bs else b :: insertAction a bs

/-- Actions in the order of their cycles. -/
def inOrder (as : List Action) : List Action := as.foldl (fun l a => insertAction a l) []

/-- Operators in the order of their START_CYCLE. -/
def byStart (fs : List (Nat × MeOp)) : List (Nat × MeOp) :=
  fs.foldl (fun l f => l.takeWhile (fun g => decide (g.2.start ≤ f.2.start)) ++ [f] ++
    l.dropWhile fun g => decide (g.2.start ≤ f.2.start)) []

/-- The actions of tile n of a pass whose rows begin to leave the activation path at a cycle: its fill piece by piece as it is
granted, its move into the array, the reads of its rows, and the rows (R134, R140-R143). -/
def tileActions (b : Bytes) (sec c i : Nat) (f : MeOp) (n at' : Nat) : List Action :=
  let lead := f.fillTime b sec
  let piece := if bit f.ctrl 6 then 256 else 512
  let pieces := ceilDiv (tileBytes f.wFmt) piece
  ((List.range pieces).map fun k =>
    let len := min piece (tileBytes f.wFmt - k * piece)
    { cycle := at' - 8 - lead + k * lead / pieces, core := c
      run := fun x => if bit f.ctrl 6 then x.fillRope c f n (k * piece) len
        else x.through c 0 fun x => x.fillTile c f n (k * piece) len none : Action }) ++
  [{ cycle := at' - 8, core := c, run := fun x => x.moveTile c : Action }] ++
  ((List.range (if bit f.ctrl 7 then 0 else f.m)).map fun r =>
    { cycle := f.readCycle b sec at' r, core := c, run := fun x => x.through c 1 fun x => x.readRow c i f n r : Action }) ++
  (List.range f.m).map fun r => { cycle := at' + r * f.rowTime, core := c, run := fun x => x.runRow c i f n r : Action }

/-- The actions of the emission of column block j from a cycle on: the read of its biases and scales, its rows one after another,
and, where the operator emits to the switch port, each row of the last block as it leaves (R134, R135, R144, R147). -/
def emitActions (c i : Nat) (f : MeOp) (j leave : Nat) : List Action :=
  let dest := bits f.ctrl 13 12
  let columns := bit f.ctrl 2 || (bit f.ctrl 3 && bit f.ctrl 4)
  (if columns then [{ cycle := max f.start (leave - 6), core := c
                      run := fun x => x.through c 1 fun x => x.readColumns c i f j : Action }] else []) ++
  (List.range f.m).flatMap fun r =>
    { cycle := leave + r * f.emitStep, core := c
      run := fun x => if dest = 1 then x.through c 1 fun x => x.emitRow c i f j r else x.emitRow c i f j r : Action } ::
    (if 2 ≤ dest ∧ j + 1 = f.blocks then
      [{ cycle := leave + (r + 1) * f.emitStep, core := c, run := fun x => x.leaveRow c i f r : Action }] else [])

/-- The actions of a pass of an operator: its begin, its tiles, and the emission of each column block (R140-R144). -/
def passActions (b : Bytes) (sec c i : Nat) (f : MeOp) (emitted : Nat) : List Action :=
  { cycle := f.start, core := c, run := fun x => x.beginPass c i } ::
  (f.blockCycles b sec emitted).1.zipIdx.flatMap fun (q : (Nat × Nat) × Nat) =>
    ((List.range f.kGroups).flatMap fun g => tileActions b sec c i f (q.2 * f.kGroups + g) (q.1.1 + g * f.interval b sec)) ++
    emitActions c i f q.2 q.1.2

/-- The actions of a core's passes, each with the end of the emissions before it (R144). -/
def coreActions (b : Bytes) (sec c : Nat) : List (Nat × MeOp) → Nat → List Action
  | [], _ => []
  | (i, f) :: fs, emitted => passActions b sec c i f emitted ++ coreActions b sec c fs (f.blockCycles b sec emitted).2

/-- The read of a core's own slice by the head of a Rope, from SRC_CYCLE of the round: of the blocks that its own Matrix Engine
takes in it, else of as many as its slots hold (R296, R300; log 99). -/
def State.headActions (s : State) (core c n : Nat) : List Action :=
  match s.ropeAt core with
  | some (_, x) =>
    let m := if x.local' then n else 4
    if x.kind = 5 ∧ x.srcSlice ∧ 0 < m then
      [{ cycle := field x.image (x.o + 14) 2, core := c
         run := fun y => y.through c 3 fun y => ({ y with toRead := tset 0 y.toRead c m } : Round).readHead c 4 }]
    else []
  | none => []

/-- What the slot side of a stream does outside the slots of the wheel: KIND 2 sends a packet every 2 cycles from XFER_CYCLE on, KIND 3
takes what its lane has brought when the half is released or the round ends, and KIND 0 and 1 need a slot of the Stream Engine
(R133, R282; log 121). -/
def Due.streamActions (d : Due) (u : Use) : List Action :=
  match u.x.kind with
  | 2 => (List.range (ceilDiv u.x.chunk 512)).map fun i =>
      { cycle := u.x.xfer + 2 * i, core := u.core, run := fun x => .ok (x.sendPiece u i) : Action }
  | 3 => [{ cycle := max u.x.xfer (if u.last then u.x.release else roundLen d.image d.sec), core := u.core
            run := fun x => .ok (x.takeIn u) }]
  | 4 => []
  | _ => [{ cycle := u.x.xfer, core := u.core, run := fun x => x.through u.core 3 .ok }]

/-- The slots of the Stream Engine of a core in the round, and as many after it as the parts of its streams take (R282). -/
def Due.seActions (d : Due) (c sec : Nat) (us : List Use) : List Action :=
  let us := us.filter fun u => decide (u.core = c) && (decide (u.x.kind ≤ 1) || decide (u.x.kind = 4))
  let n := (us.map fun u => ceilDiv u.x.chunk 512).foldl (· + ·) 0
  if us.isEmpty then []
  else (slotCycles d.image sec 3 (d.k.round * roundII d.image d.sec) (roundLen d.image d.sec + 16 * n)).map fun t =>
    { cycle := t, core := c, run := fun x => x.seGrant us }

/-- The issue entries of the Vector Engine of a core, and the slots of its loads, stores and NORM records in the round and after it
(R133, R155, R175). -/
def Due.veActions (d : Due) (c sec : Nat) : List Action :=
  let es := (List.range (veEntries d.image sec)).map (veAt d.image sec)
  let n := (es.map (veSlots d.image sec)).foldl (· + ·) 0
  (es.map fun o => { cycle := field d.image o 2, core := c, run := fun x => x.issue c sec o : Action }) ++
  if n = 0 then []
  else (slotCycles d.image sec 2 (d.k.round * roundII d.image d.sec) (roundLen d.image d.sec + 16 * n)).flatMap fun t =>
    [{ cycle := t, core := c, run := fun x => x.veGrant c sec }, { cycle := t + 6, core := c, run := fun x => x.veLand c }]

/-- The scheduled actions of the due round. -/
def Due.actions (d : Due) (s : State) : List Action :=
  let us := d.uses s
  us.flatMap d.streamActions ++ (d.cores.flatMap fun c => d.seActions c.1 c.2 us) ++
  ((us.filter fun u => decide (u.x.kind < 4) && u.last).map fun u =>
    { cycle := u.x.release, core := u.core, run := fun x => .ok (x.release u) : Action }) ++
  d.cores.flatMap fun c =>
    s.headActions (d.cl * 16 + c.1) c.1 (blocksTaken d.image c.2) ++
    ((slotsOf d.image c.2).map fun t =>
      { cycle := field d.image (steerAt d.image c.2 t.1 + 2) 2, core := c.1, run := fun x => .ok (x.steer c.1 t.1 t.2) : Action }) ++
    d.veActions c.1 c.2 ++ coreActions d.image c.2 c.1 (byStart (opsOf d.image c.2)) 0

/-- Performs actions until one waits: that many have then been performed. A slot that goes unused is no action of its core
(R582). -/
def runActions : List Action → Nat → Round → Except State (Round × Option Nat)
  | [], _, x => .ok (x, none)
  | a :: as, n, x => do
    let x ← a.run { x with cycle := a.cycle, idle := false }
    if x.wait then .ok (x, some n)
    else runActions as (n + 1) (if x.idle then x else { x with s := x.s.advance (x.cl * 16 + a.core) 1 })

/-- A message leaves its ingress, and its credit returns (R186). -/
def Due.consume (x : Round) (m : Message) : Round :=
  let src := x.s.cluster (m.source / 32)
  let g := tget {} src.egress (m.source % 32)
  { x with s := x.s.setCluster (m.source / 32) { src with
    egress := tset {} src.egress (m.source % 32) { g with returning := g.returning + 1 } } }

/-- The messages of the round leave an ingress. -/
def Due.consumeAll (d : Due) (x : Round) (i : Nat) (ms : List Message) : Round :=
  let k := x.s.cluster d.cl
  let g := tget {} k.ingress i
  let g := { g with held := ms.foldl (fun l m => l.erase m) g.held
                    expected := if d.mode i = 0 then (g.expected + 1) % 4096 else g.expected }
  let x := { x with s := x.s.setCluster d.cl { k with ingress := tset {} k.ingress i g } }
  ms.foldl Due.consume x

/-- The cycles at which the packets that come in by a mesh port enter the switch, from a cycle on: each at the next at which
an output port of a core names the mesh port, two cycles a packet; with none in the table they reach no core (R173). -/
def meshCycles (b : Bytes) (sec port : Nat) : List (Nat × Nat × Pkt) → Nat → List (Nat × Nat × Nat × Pkt)
  | [], _ => []
  | (i, dest, p) :: ps, t =>
    match (List.range (max 1 (field b sec 2))).find? fun k => (switchOuts b sec (16 + port) (t + k)).any fun j => decide (j < 16) with
    | some k => (t + k, i, dest, p) :: meshCycles b sec port ps (t + k + 2)
    | none => []

/-- The packets of the messages that the round consumes, each through the mesh port of its ingress (R173; log 37). -/
def Due.meshActions (d : Due) (ms : List (Nat × List Message)) : List Action :=
  (List.range 4).flatMap fun port =>
    let ps := (ms.filter fun q => decide (Config.ingressPort d.cl q.1 % 4 = port)).flatMap fun q =>
      q.2.flatMap fun m => m.packets.map fun p => (q.1, byteAt d.image (d.ingressAt q.1 + 8), p)
    (meshCycles d.image d.sec port ps 0).map fun q =>
      { cycle := q.1, core := q.2.2.1, run := fun x => .ok (x.meshIn q.2.1 port q.2.2.1 q.1 q.2.2.2) : Action }

/-- At the end of the round each egress that packets reached has a message on its way; the reserved credit of
another is released (R183). -/
def Due.emit (d : Due) (x : Round) (e : Nat) : Round :=
  let ps := tget [] x.out e
  if ps.isEmpty then x
  else
    let k := x.s.cluster d.cl
    let g := tget {} k.egress e
    let a := d.egressAt e
    let m : Message := { tag := if byteAt d.image a = 0 then x.tag else g.sent % 4096
                         rank := byteAt d.image (a + 5), source := d.cl * 32 + e, packets := ps }
    let g := { g with spent := g.spent + 1, sent := g.sent + 1, transit := g.transit ++ [m] }
    { x with s := x.s.setCluster d.cl { k with egress := tset {} k.egress e g } }

/-- A round goes on from its next action; one whose action waits freezes its cluster (R182). -/
def Due.goOn (d : Due) (s : State) (w : Pause) : State :=
  let d0 := { d with k := { d.k with round := w.num } }
  let acts := (inOrder (d.meshActions w.wanted ++ d0.actions s)).drop w.at'
  let x : Round := { w.work with s := s, cmd := d.p.cmd, cl := d.cl, image := d.image, sec := d.sec, num := w.num }
  match runActions acts w.at' x with
  | .ok (x, some n) =>
    x.s.setCluster d.cl { x.s.cluster d.cl with
      frozen := true, frozenSince := x.s.uptime
      requestSince := if x.s.halted d.p.footprint then none else some x.s.uptime, paused := some { w with work := x.toWork, at' := n } }
  | .ok (x, none) =>
    let x := { x with s := x.s.setCluster d.cl { x.s.cluster d.cl with frozen := false, paused := none } }
    let s := (d.egresses.foldl d.emit x).s
    match s.due d.cl with
    | some d' => if d'.ingresses.isEmpty && d'.ends s then d'.finish s else s
    | none => s
  | .error s => s

/-- The cycle of the round at which a cluster stands: that of the action at which it waits in the middle of a round, 0 before a
round (R587; log 113). -/
def Due.cycle (d : Due) (s : State) : Nat :=
  match d.k.paused with
  | none => 0
  | some w =>
    let acts := inOrder (d.meshActions w.wanted ++ ({ d with k := { d.k with round := w.num } } : Due).actions s)
    (acts[w.at']?.map (·.cycle)).getD 0

/-- A memory-side access waits for a slot of the core's slice: one of another device, or a COPY's (R276, R587). -/
def State.slotAwaited (s : State) (core : Nat) : Bool :=
  let at' := s.waitsAt fun k => decide (k = core)
  (s.links.held.any fun k => decide (k.kind ≠ .flush) && decide (k.h.addr.toNat < counterBase) &&
    at' k.h.ctx.toNat k.h.addr.toNat k.h.length.toNat) ||
  s.ctxs.copies.any fun k => decide (k.reads = 0) && k.result.isNone && (s.cmd k.cmd).any fun c =>
    at' c.ctx (c.at 8 8) (c.at 24 8) || (decide (c.at 32 1 = 0) && at' c.ctx (c.at 16 8) (c.at 24 8))

/-- What a core's record of a Snapshot says of the gate and of its slice: conditions unmet, the ingress awaited with its tag,
and the cycle of the round. -/
def waitOf (s : State) (core : Nat) : CoreWait :=
  let slot := 16 * b2n (s.slotAwaited core)
  match s.due (core / 16) with
  | none => { waiting := slot }
  | some d =>
    let mine := d.cores.any fun c => decide (c.1 = core % 16)
    if d.k.ended || !mine then { waiting := slot }
    else if d.k.paused.isSome then { waiting := 8 + slot, cycle := d.cycle s }
    else
      let lead := leadOf d.image d.sec
      let m := match d.tag s with | none => some lead | some _ => (d.missing s).head?
      { waiting := d.waiting s + slot, awaited := m.map fun i =>
        (i, match d.mode i with
            | 0 => (d.ingress i).expected
            | 2 => (d.tag s).getD 0
            | 4 => (d.tag s).getD 0
            | _ => 0) }

/-- The due round runs. -/
def Due.run (d : Due) (s : State) (tag : Nat) : State :=
  let wanted := (d.ingresses.filter (d.wants s)).map fun i => (i, (d.picks i tag).getD [])
  let s := s.countFreeze d.cl
  let s := s.setCluster d.cl { d.k with round := d.k.round + 1, frozen := false, requestSince := none }
  let x : Round := { s := { s with free := s.free + 1 }, cmd := d.p.cmd, cl := d.cl, image := d.image, sec := d.sec
                     num := d.k.round, tag := tag }
  let x := wanted.foldl (fun x q => d.consumeAll x q.1 q.2) x
  d.goOn x.s { num := d.k.round, wanted := wanted, work := x.toWork, at' := 0 }

/-- A due round starts when its gate holds, and one that waits in its middle goes on; a cluster that can run no further round
ends (R181, R182, R189, R285). -/
def Due.start (d : Due) (s : State) : State :=
  match d.k.paused with
  | some w => d.goOn (s.countFreeze d.cl) w
  | none =>
    if d.ends s then d.finish s
    else match d.jammed s with
      | some i => s.routeFault d.p d.cl i 2
      | none =>
        if d.waiting s ≠ 0 then
          let k := { d.k with frozen := true, frozenSince := if d.k.frozen then d.k.frozenSince else s.uptime }
          if d.awaitsRequest s && !s.halted d.p.footprint then (s.setCluster d.cl k).startWait d.cl
          else (s.setCluster d.cl k).endWait d.cl
        else match (d.uses s).find? Use.beyond with
          | some u => s.endStep d.p stStreamLength (BitVec.ofNat 64 (d.cl * 16 + u.core + u.desc * 2 ^ 16))
          | none => match d.tag s with
            | some t => d.run s t
            | none => s

/-- ROUND_START (R181); the first round of a gated phase waits for its exchange (R451). -/
def execRoundStart (cluster : ClusterId) (s : State) : Host.Outcome State Fault Refusal :=
  .next (match s.due cluster.val with
    | some d => if d.k.ended || (decide (d.k.round = 0) && s.gated d.p (d.p.routes.getD d.p.phase 0)) then s else (d.start s).serveHeld
    | none => s)

/-! ### Channels (R185, R186, R190) -/

/-- A message with a tag that the ingress still holds, in a mode that matches by tag. -/
def Due.duplicate (d : Due) (i : Nat) (m : Message) : Bool :=
  let held := (d.ingress i).held
  match d.mode i with
  | 0 => held.any fun n => decide (n.tag = m.tag)
  | 2 => held.any fun n => decide (n.tag = m.tag)
  | 4 => held.any fun n => decide (n.tag = m.tag) && decide (n.source = m.source)
  | _ => false

/-- A message or an end marker comes to an ingress. -/
def Due.arrive (d : Due) (s : State) (i : Nat) (m : Message) : State :=
  let g := d.ingress i
  let put := fun (g : Ingress) => s.setCluster d.cl { d.k with ingress := tset {} d.k.ingress i g }
  if m.last then put { g with ends := g.ends + 1 }
  else if d.k.ended then s.routeFault d.p d.cl i 3
  else if d.duplicate i m then s.routeFault d.p d.cl i 1
  else
    let s := put { g with held := g.held ++ [m] }
    match s.due d.cl with
    | some d' => match d'.jammed s with
      | some j => s.routeFault d.p d.cl j 2
      | none => s
    | none => s

/-- CHANNEL_MESSAGE_ARRIVAL (R185). -/
def execChannelMessageArrival (cluster : ClusterId) (egress : Fin 32) (s : State) : Host.Outcome State Fault Refusal :=
  .next (match s.due cluster.val with
    | none => s
    | some d =>
      let g := tget {} d.k.egress egress.val
      match g.transit with
      | [] => s
      | m :: ms =>
        let a := d.egressAt egress.val
        let s := s.setCluster d.cl { d.k with egress := tset {} d.k.egress egress.val { g with transit := ms } }
        match s.due (byteAt d.image (a + 3)) with
        | some d' =>
          let i := byteAt d.image (a + 4)
          let s := m.packets.foldl (fun s p => s.flits d'.p.ctx (d.cl / 16) (d'.cl / 16) p.data.length) s
          d'.arrive (s.perturbed 1 d'.cl i d'.p.ctx true).1 i m
        | none => s)

/-- CREDIT_RETURN (R186). -/
def execCreditReturn (cluster : ClusterId) (egress : Fin 32) (s : State) : Host.Outcome State Fault Refusal :=
  .next (match s.due cluster.val with
    | none => s
    | some d =>
      let g := tget {} d.k.egress egress.val
      if g.returning = 0 then s
      else
        let a := d.egressAt egress.val
        let s := (s.perturbed 1 (byteAt d.image (a + 3)) (byteAt d.image (a + 4)) d.p.ctx false).1
        s.setCluster d.cl { d.k with
          egress := tset {} d.k.egress egress.val { g with returning := g.returning - 1, spent := g.spent - 1 } })

end Sys2Proof.Machine
end

