-- ==== Sys2Proof/Machine/Cairn.lean ====
section
/-! DEFINITION. The Serving Assist Unit: Cairn trees, PREFIX_LOOKUP and PREFIX_INSERT, the freeing of dead nodes, and
the preparation and application of a step's commit log (R348, R428-R439). -/

namespace Sys2Proof.Machine

/-- Why a Cairn operation stops: a sub-code with the blocks matched or the log entry, a miss, a damaged line, or the
wait for dead nodes to be freed, an address above the windows (R24), or bytes of the Remote window to be fetched. -/
inductive Stop where
  | code (n at' : Nat)
  | miss (m : Miss)
  | damaged (va : Nat)
  | freeing
  | address (a : Nat)
  | ask (va n : Nat)
deriving DecidableEq, Repr

/-- Reads for a Cairn operation. -/
def State.cread (s : State) (c va n : Nat) : Except Stop Bytes :=
  match s.read c va n with
  | .ok b => .ok b
  | .miss m => .error (.miss m)
  | .damaged a => .error (.damaged a)

/-- Writes for a Cairn operation. -/
def State.cwrite (s : State) (c va : Nat) (b : Bytes) : Except Stop State :=
  match s.writes c none va b with
  | (s, none) => .ok s
  | (_, some m) => .error (if m.kind = 0 then .damaged m.va else .miss m)

/-- Reads of an array that a command or a log entry names, in any window (R24, R348, R429). -/
def State.farRead (s : State) (cmd c va n : Nat) : Except Stop Bytes :=
  if 2 ^ 52 ≤ va then .error (.address va)
  else if windowOf va = 3 ∧ n ≠ 0 then
    match s.fetched cmd va with
    | none => .error (.ask va n)
    | some (.ok b) => .ok b
    | some (.miss m) => .error (.miss m)
    | some (.damaged a) => .error (.damaged a)
  else s.cread c va n

def need (ok : Bool) (n at' : Nat) : Except Stop Unit := if ok then .ok () else .error (.code n at')

/-- Fields of a tree header (R432). -/
structure Tree where
  c : Nat
  va : Nat
  root : Nat
  free : Nat
  count : Nat
  nodes : Nat
  base : Nat
deriving DecidableEq, Repr

/-- A pointer of a tree is valid (R433). -/
def Tree.valid (h : Tree) (p : Nat) : Bool :=
  decide (p = 0) || (decide (h.base ≤ p) && decide ((p - h.base) % 128 = 0) && decide ((p - h.base) / 128 < h.nodes))

def zeros (b : Bytes) (off n : Nat) : Bool := decide (slice b off n = List.replicate n 0)

/-- Reads and checks a tree's header. -/
def State.tree (s : State) (c va : Nat) : Except Stop Tree := do
  let b ← s.cread c va 64
  let h : Tree := { c := c, va := va, root := field b 8 8, free := field b 16 8, count := field b 24 4
                    nodes := field b 28 4, base := field b 32 8 }
  if 2 ^ 52 ≤ h.base then .error (.address h.base)
  need (decide (field b 0 4 = 0x4E434B56) && decide (field b 4 2 = 1) && zeros b 6 2 && zeros b 40 24 &&
    decide (1 ≤ h.nodes) && decide (h.nodes ≤ 2 ^ 24) && decide (h.base % 128 = 0) && h.valid h.root && h.valid h.free) 1 0
  .ok h

/-- A node's fields. -/
structure Node where
  run : Nat
  dead : Bool
  child : Nat
  sibling : Nat
  used : Nat
  raw : Bytes

def Node.key (n : Node) (j : Nat) : Nat := field n.raw (32 + 8 * j) 8
def Node.page (n : Node) (j : Nat) : Nat := field n.raw (80 + 8 * j) 8

/-- Reads and checks a node, reachable or free (sub-code 2). -/
def State.node (s : State) (h : Tree) (p : Nat) (free : Bool) (m : Nat) : Except Stop Node := do
  let b ← s.cread h.c p 128
  let n : Node := { run := byteAt b 0, dead := bit (byteAt b 1) 0, child := field b 8 8, sibling := field b 16 8
                    used := field b 24 8, raw := b }
  need (decide (n.run ≤ 6) && (decide (n.run = 0) == free) && decide (byteAt b 1 < 2) && zeros b 2 6 &&
    h.valid n.child && h.valid n.sibling) 2 m
  .ok n

/-! ### The walk (R434) -/

/-- A walk in progress or stopped. -/
structure Walk where
  reads : Nat := 0
  matched : Nat := 0
  pages : List Nat := []
  hits : List Nat := []
  dead : List DeadNode := []
  /-- nodes read, the last first -/
  seen : List Nat := []
  /-- address of the pointer that holds the list, or the node inside which the walk stopped -/
  holder : Nat := 0
  /-- first node of the list at which the walk stopped -/
  first : Nat := 0
  /-- the node inside which it stopped, with the blocks of it that match -/
  inside : Option (Nat × Nat × Node) := none

/-- Counts a node read (sub-code 4). -/
def Walk.count (w : Walk) (limit : Nat) : Except Stop Walk := do
  need (decide (w.reads < limit)) 4 w.matched
  .ok { w with reads := w.reads + 1 }

/-- The first node of a list that is not dead and begins with a key: its address, the pointer that holds it. -/
def State.seek (s : State) (h : Tree) (limit key : Nat) :
    Nat → Walk → Nat → Nat → Walk × Except Stop (Option (Nat × Nat × Node))
  | 0, w, _, _ => (w, .error (.code 4 w.matched))
  | k + 1, w, holder, p =>
    if p = 0 then (w, .ok none)
    else match w.count limit with
      | .error e => (w, .error e)
      | .ok w =>
        let w := { w with seen := p :: w.seen }
        match s.node h p false w.matched with
        | .error e => (w, .error e)
        | .ok n =>
          if n.dead then
            s.seek h limit key k { w with dead := w.dead ++ [⟨h.c, h.va, holder, p⟩] } (p + 16) n.sibling
          else if n.key 0 = key then (w, .ok (some (p, holder, n)))
          else s.seek h limit key k w (p + 16) n.sibling

/-- Blocks of a node that match keys. -/
def runMatch (n : Node) (keys : List Nat) : Nat :=
  ((List.range (min n.run keys.length)).takeWhile fun j => decide (n.key j = keys.getD j 0)).length

/-- Walks from a list, held by a pointer, with the keys that remain. -/
def State.walkFrom (s : State) (h : Tree) (limit : Nat) : Nat → Walk → Nat → Nat → List Nat → Walk × Option Stop
  | 0, w, _, _, _ => (w, some (.code 4 w.matched))
  | k + 1, w, holder, p, keys =>
    match keys with
    | [] => ({ w with holder := holder, first := p }, none)
    | key :: _ =>
      match s.seek h limit key (limit + 1) w holder p with
      | (w, .error e) => (w, some e)
      | (w, .ok none) => ({ w with holder := holder, first := p }, none)
      | (w, .ok (some (q, held, n))) =>
        let j := runMatch n keys
        let w := { w with matched := w.matched + j, pages := w.pages ++ (List.range j).map n.page, hits := w.hits ++ [q] }
        if j < n.run then ({ w with holder := held, inside := some (q, j, n) }, none)
        else s.walkFrom h limit k w (q + 8) n.child (keys.drop j)

/-- The walk of an operation from the tree's root. -/
def State.walkTree (s : State) (h : Tree) (keys : List Nat) : Walk × Option Stop :=
  s.walkFrom h (s.dget 0x2A00 5) (keys.length + 1) {} (h.va + 8) h.root keys

/-- Dead nodes met by a walk wait for their freeing (R437). -/
def State.noteDead (s : State) (ds : List DeadNode) : State :=
  let new := ds.filter fun d => !(s.serve.dead.any fun e => decide (e.ctx = d.ctx) && decide (e.node = d.node))
  { s with serve := { s.serve with dead := s.serve.dead ++ new } }

/-- What a walk has met: dead nodes, and places read, with their lengths. -/
structure Met where
  dead : List DeadNode := []
  seen : List (Nat × Nat) := []
deriving DecidableEq, Repr

def Met.add (m n : Met) : Met := { dead := m.dead ++ n.dead, seen := m.seen ++ n.seen }

/-- A place is read. -/
def Met.see (m : Met) (va n : Nat) : Met := { m with seen := m.seen ++ [(va, n)] }

/-- What a walk of a tree has met: its header and the nodes read, a node being 128 B. -/
def Walk.met (w : Walk) (h : Tree) : Met := { dead := w.dead, seen := (h.va, 64) :: w.seen.reverse.map fun p => (p, 128) }

/-- What a walk has met: its reads leave their traces in the caches and reach the stacks, and dead nodes wait for their freeing
(R85, R238, R243, R437). -/
def State.noteMet (s : State) (c : Nat) (m : Met) : State :=
  (m.seen.foldl (fun s x => if windowOf x.1 = 3 then s else s.accessed otherUnit c x.1 x.2) s).noteDead m.dead

/-- Dead nodes of a tree wait to be freed. -/
def State.deadIn (s : State) (c va : Nat) : Bool := s.serve.dead.any fun d => decide (d.ctx = c) && decide (d.tree = va)

/-- A step holds a tree from its preparation to its commit (R436). -/
def State.treeHeld (s : State) (c va : Nat) : Bool :=
  s.steps.any fun p => decide (p.ctx = c) && p.trees.contains va

/-- Trees on which an operation is under way: those that steps hold, and those of commands and steps that await bytes of the
Remote window for theirs (R436). -/
def State.treesBusy (s : State) : List (Nat × Nat) :=
  ((s.steps.flatMap fun p => p.trees.map fun t => (p.ctx, t)) ++
    (s.serve.cairnOps.filter fun o => s.links.fetches.any fun f => decide (f.cmd = o.cmd)).map fun o => (o.ctx, o.tree)).dedup

/-- Whether an operation has its turn on a tree: no step holds it, no earlier one waits for it, and fewer than 16 operations
are under way (R436). -/
def State.cairnTurn (s : State) (cmd c va : Nat) : Bool :=
  let first := (s.serve.cairnOps.filter fun o => decide (o.ctx = c) && decide (o.tree = va) &&
    ((s.cmd o.cmd).isSome || (s.step? o.cmd).isSome)).head?
  !s.treeHeld c va && (first.all fun o => decide (o.cmd = cmd)) &&
    decide ((s.treesBusy.filter fun t => decide (t ≠ (c, va))).length < 16)

/-- An operation arrives, or keeps its place among those that wait on its tree. -/
def State.cairnArrive (s : State) (cmd c va : Nat) : State :=
  if s.serve.cairnOps.any fun o => decide (o.cmd = cmd) then s
  else { s with serve := { s.serve with cairnOps := s.serve.cairnOps ++ [⟨cmd, c, va⟩] } }

/-- n values of 8 bytes. -/
def State.cvalues (s : State) (cmd c va n : Nat) : Except Stop (List Nat) := do
  let b ← s.farRead cmd c va (8 * n)
  .ok ((List.range n).map fun i => field b (8 * i) 8)

/-- Keys of an operation; 0 is not one (sub-code 5). -/
def State.ckeys (s : State) (cmd c va n at' : Nat) : Except Stop (List Nat) := do
  let ks ← s.cvalues cmd c va n
  need (ks.all fun k => decide (k ≠ 0)) 5 at'
  .ok ks

/-- The failure of a Cairn operation of a command completes it; what it waits for it is given later. -/
def State.cairnFail (s : State) (c : Cmd) : Stop → State
  | .code n m => ((s.cairnOver c.id).cbump c.ctx 13 4 32).complete c stCairn (n + m * 2 ^ 8)
  | .miss m => ((s.cairnOver c.id).noteMiss c.ctx m).complete c stTranslation (missValue m)
  | .damaged a => ((s.cairnOver c.id).noteDamage c.ctx a).complete c stData a
  | .address a => (s.cairnOver c.id).complete c stAddress a
  | .freeing => s.stage c .running
  | .ask va n =>
    let s := (s.ask c.ctx c.id va n).stage c .running
    match s.fetched c.id va with
    | some (.miss m) => ((s.cairnOver c.id).noteMiss c.ctx m).complete c stTranslation (missValue m)
    | _ => s

/-- Writes USED of the nodes a lookup matched. -/
def State.touch (s : State) (c : Nat) : List Nat → Except Stop State
  | [] => .ok s
  | p :: ps => do
    let s ← s.cwrite c (p + 24) (leBytes 8 s.uptime)
    s.touch c ps

/-- A command of an opcode that starts now, or has started and waits for dead nodes to be freed. -/
def State.cairnCmd (s : State) (id op : Nat) : Option Cmd :=
  match s.starting id op with
  | some c => some c
  | none => (s.cmd id).bind fun c => if c.op = op ∧ c.stage = .running then some c else none

/-- A lookup that completes with SUCCESS counts, with the blocks it matched (R443). -/
def State.countLookup (s : State) (c matched : Nat) : State := (s.cbump c 13 1 64).cbump c 13 2 64 matched

/-- A lookup's result is written: into the Remote window by WRITEs that are flushed before the command completes. -/
def State.lookupEnd (s : State) (c : Cmd) (matched : Nat) (out : Bytes) : State :=
  let va := c.at 32 8
  let value := matched + out.length * 2 ^ 32
  if windowOf va = 3 ∧ out ≠ [] then
    let (d, off) := remoteOf va
    match s.remoteWrite c.ctx d off out with
    | (s, us, true) =>
      let us := us.dedup
      let s := s.cairnOver c.id
      let e : RemoteEnd := { cmd := c.id, left := us.length, status := 0, value := value }
      (({ s with links := { s.links with ends := s.links.ends ++ [e] } } : State).flushPorts c.ctx us (.fetchFlush c.id)).stage
        c .running
    | (s, _, false) => s.cairnFail c (.miss (unreachable va))
  else match s.cwrite c.ctx va out with
    | .error f => s.cairnFail c f
    | .ok s => ((s.cairnOver c.id).countLookup c.ctx matched).complete c 0 value

/-- A lookup whose header and keys are read. -/
def State.lookup (s : State) (c : Cmd) (h : Tree) (keys : List Nat) : State :=
  let (w, e) := s.walkTree h keys
  let s := s.noteMet c.ctx (w.met h)
  match s.touch c.ctx w.hits with
  | .error f => s.cairnFail c f
  | .ok s => match e with
    | some f => s.cairnFail c f
    | none => s.lookupEnd c w.matched ((w.pages.take (c.at 28 4 / 8)).flatMap (leBytes 8))

/-- What the reads of a tree's header and of n keys leave in the caches and the stacks (R85, R238). -/
def State.cairnSeen (s : State) (c : Cmd) (n : Nat) : State :=
  (s.accessed otherUnit c.ctx (c.at 8 8) 64).accessed otherUnit c.ctx (c.at 16 8) (8 * n)

/-- An operation of a command runs in its turn on its tree, else it waits (R436). -/
def State.cairnRun (s : State) (c : Cmd) (go : State → State) : State :=
  let va := c.at 8 8
  if s.links.ends.any fun e => decide (e.cmd = c.id) then s
  else
    let s := s.cairnArrive c.id c.ctx va
    if s.cairnTurn c.id c.ctx va then go s else s.stage c .running

/-- A lookup in its turn. -/
def State.prefixLookup (s : State) (c : Cmd) : State :=
  s.cairnRun c fun s =>
    let got : Except Stop (Tree × List Nat) := do
      let ks ← s.ckeys c.id c.ctx (c.at 16 8) (c.at 24 4) 0
      let h ← s.tree c.ctx (c.at 8 8)
      .ok (h, ks)
    let s := s.cairnSeen c (c.at 24 4)
    match got with
    | .error f => s.cairnFail c f
    | .ok (h, ks) => s.lookup c h ks

/-- PREFIX_LOOKUP (R348, R434). -/
def execPrefixLookup (cmd : Nat) (s : State) : Host.Outcome State Fault Refusal :=
  .next (match s.cairnCmd cmd 6 with
    | none => s
    | some c => s.prefixLookup c)

/-! ### Insertions (R435) -/

/-- Writes of an insertion in order, and the state they lead to. -/
structure Prep where
  s : State
  writes : List (Nat × Bytes) := []
  /-- those that fill nodes taken from the free list -/
  nodes : List (Nat × Bytes) := []
  /-- pointers to dead nodes that move: from, to (R437) -/
  relinks : List (Nat × Nat) := []

def Prep.put (x : Prep) (c va : Nat) (b : Bytes) : Except Stop Prep := do
  let s ← x.s.cwrite c va b
  .ok { x with s := s, writes := x.writes ++ [(va, b)] }

/-- Fills a node taken from the free list. -/
def Prep.fill (x : Prep) (c va : Nat) (b : Bytes) : Except Stop Prep := do
  let x ← x.put c va b
  .ok { x with nodes := x.nodes ++ [(va, b)] }

/-- The bytes of a node. -/
def nodeBytes (child sibling used : Nat) (kps : List (Nat × Nat)) : Bytes :=
  leBytes 1 kps.length ++ leBytes 7 0 ++ leBytes 8 child ++ leBytes 8 sibling ++ leBytes 8 used ++
    padTo (kps.flatMap fun x => leBytes 8 x.1) 48 ++ padTo (kps.flatMap fun x => leBytes 8 x.2) 48

/-- The first n nodes of the free list and what follows them; none where it is too short. -/
def State.freeNodes (s : State) (h : Tree) (limit m : Nat) : Nat → Walk → Nat → Except Stop (Option (List Nat × Nat))
  | 0, _, p => .ok (some ([], p))
  | k + 1, w, p =>
    if p = 0 then .ok none
    else do
      need (decide (w.reads < limit)) 4 m
      let w := { w with reads := w.reads + 1 }
      let n ← s.node h p true m
      let r ← s.freeNodes h limit m k w n.sibling
      .ok (r.map fun x => (p :: x.1, x.2))

/-- The chain of nodes that holds blocks, each the child of the one before. -/
def putChain (c used sibling : Nat) : List Nat → List (Nat × Nat) → Prep → Except Stop Prep
  | [], _, x => .ok x
  | p :: ps, kps, x => do
    let x ← x.fill c p (nodeBytes (ps.headD 0) sibling used (kps.take 6))
    putChain c used 0 ps (kps.drop 6) x

/-- An insertion of blocks into a tree: its writes, how many blocks are new, and what its walk met. Where the walk met a damage
it fails; where nodes are short it waits for the freeing of dead nodes, those that earlier insertions of its log met among them, or
fails (R435). -/
def State.insert (s : State) (h : Tree) (kps : List (Nat × Nat)) (e : Option Nat) (dead : Bool := false) :
    Except Stop (Prep × Nat) × Met :=
  let (w, f) := s.walkTree h (kps.map (·.1))
  let at' := fun (m : Nat) => e.getD m
  let run : Except Stop (Prep × Nat) := do
    match f with
    | some (.code n m) => .error (.code n (at' m))
    | some f => .error f
    | none =>
      let m := w.matched
      let left := kps.length - m
      if left = 0 then return ({ s := s }, 0)
      let n := (left + 5) / 6 + (if w.inside.isSome then 2 else 0)
      let got ← s.freeNodes h (s.dget 0x2A00 5) (at' m) n w h.free
      match got with
      | none => if dead || s.deadIn h.c h.va || !w.dead.isEmpty then .error .freeing else .error (.code 3 (at' m))
      | some (ps, free) =>
        let used := (Config.freeValue s.free).toNat
        let x : Prep := { s := { s with free := s.free + 1 } }
        let tail := kps.drop m
        let (x, link) ← match w.inside, ps with
          | some (q, j, nd), x1 :: x2 :: cs => do
            let blocks := (List.range nd.run).map fun i => (nd.key i, nd.page i)
            let x ← x.fill h.c x1 (nodeBytes x2 nd.sibling nd.used (blocks.take j))
            let x ← x.fill h.c x2 (nodeBytes nd.child (cs.headD 0) nd.used (blocks.drop j))
            let x ← putChain h.c used 0 cs tail x
            .ok ({ x with relinks := [(q + 16, x1 + 16), (q + 8, x2 + 8)] }, (x1, some q))
          | _, cs => do
            let x ← putChain h.c used w.first cs tail x
            .ok ({ x with relinks := [(w.holder, cs.headD 0 + 16)] }, (cs.headD 0, none))
        let x ← x.put h.c w.holder (leBytes 8 link.1)
        let count := h.count - n
        match link.2 with
        | none =>
          let x ← x.put h.c (h.va + 16) (leBytes 8 free ++ leBytes 4 count)
          .ok (x, left)
        | some q =>
          let x ← x.put h.c q [0, 0]
          let x ← x.put h.c (q + 16) (leBytes 8 free)
          let x ← x.put h.c (h.va + 16) (leBytes 8 q ++ leBytes 4 (min (count + 1) h.nodes))
          .ok (x, left)
  (run, w.met h)

/-- Pointers to dead nodes that an insertion has moved: those of a node that it split lie in the node's two halves, and that
of a list lies in the node put before it (R435, R437). -/
def State.moveLinks (s : State) (ms : List (Nat × Nat)) : State :=
  let move := fun (d : DeadNode) => ms.foldl (fun d m => if d.link = m.1 then { d with link := m.2 } else d) d
  { s with serve := { s.serve with dead := s.serve.dead.map move } }

/-- The insertion of a PREFIX_INSERT whose lists are read: the entries go into the tree, pointers to dead nodes move, the
context counts the new entries, and the command completes (R348, R435). -/
def State.insertFor (s : State) (c : Cmd) (h : Tree) (kps : List (Nat × Nat)) : State :=
  match s.insert h kps none with
  | (.error f, m) => (s.noteMet c.ctx m).cairnFail c f
  | (.ok (x, n), m) =>
    ((((x.s.noteMet c.ctx m).moveLinks x.relinks).cairnOver c.id).cbump c.ctx 13 3 64 n).complete c 0 n

/-- An insertion in its turn. -/
def State.prefixInsert (s : State) (c : Cmd) : State :=
  s.cairnRun c fun s =>
    let got : Except Stop (Tree × List (Nat × Nat)) := do
      let ks ← s.ckeys c.id c.ctx (c.at 16 8) (c.at 24 4) 0
      let ps ← s.cvalues c.id c.ctx (c.at 32 8) (c.at 24 4)
      let h ← s.tree c.ctx (c.at 8 8)
      .ok (h, ks.zip ps)
    let s := (s.cairnSeen c (c.at 24 4)).accessed otherUnit c.ctx (c.at 32 8) (8 * c.at 24 4)
    match got with
    | .error f => s.cairnFail c f
    | .ok (h, kps) => s.insertFor c h kps

/-- PREFIX_INSERT (R348, R435): links at once. -/
def execPrefixInsert (cmd : Nat) (s : State) : Host.Outcome State Fault Refusal :=
  .next (match s.cairnCmd cmd 7 with
    | none => s
    | some c => s.prefixInsert c)

/-- A Cairn operation of a command whose bytes of the Remote window have come goes on. -/
def State.cairnGoOn (s : State) (cmd : Nat) : State :=
  match s.cmd cmd with
  | some c => if c.op = 6 then s.prefixLookup c else if c.op = 7 then s.prefixInsert c else s
  | none => s

/-! ### Freeing (R437) -/

/-- Returns a node to the free list. -/
def State.freeNode (s : State) (h : Tree) (p : Nat) : Except Stop State := do
  let b ← s.cread h.c (h.va + 16) 12
  let s ← s.cwrite h.c p [0]
  let s ← s.cwrite h.c (p + 16) (slice b 0 8)
  s.cwrite h.c (h.va + 16) (leBytes 8 p ++ leBytes 4 (min (field b 8 4 + 1) h.nodes))

/-- Frees the nodes of a stack of lists, one at a time; a stop names its node and cause. -/
def State.freeAll (s : State) (h : Tree) : Nat → List (Nat × Bool) → State × Option (Nat × Nat)
  | 0, _ => (s, none)
  | _, [] => (s, none)
  | k + 1, (p, alone) :: ps =>
    if p = 0 then s.freeAll h k ps
    else
      let cause : Stop → Nat := fun | .miss _ => 2 | .damaged _ => 3 | _ => 1
      match s.node h p false 0 with
      | .error e => (s, some (p, cause e))
      | .ok n => match s.freeNode h p with
        | .error e => (s, some (p, cause e))
        | .ok s =>
          let s := { s with serve := { s.serve with dead := s.serve.dead.filter fun d =>
            !(decide (d.ctx = h.c) && decide (d.node = p)) } }
          s.freeAll h k ((n.child, false) :: (if alone then ps else (n.sibling, false) :: ps))

/-- Unlinks a dead node and frees it with its subtree. -/
def State.freeDead (s : State) (d : DeadNode) : State :=
  let s := { s with serve := { s.serve with dead := s.serve.dead.filter fun e => decide (e ≠ d) } }
  let stop := fun (s : State) (p cause : Nat) =>
    (s.cbump d.ctx 13 4 32).postEvent d.ctx 5 0 (leBytes 8 d.tree ++ leBytes 8 p ++ leBytes 1 cause)
  let cause : Stop → Nat := fun | .miss _ => 2 | .damaged _ => 3 | _ => 1
  let unlinked : Except Stop (State × Tree) := do
    let h ← s.tree d.ctx d.tree
    let n ← s.node h d.node false 0
    let held ← s.cread d.ctx d.link 8
    if leNat held ≠ d.node then .error .freeing
    else
      let s ← s.cwrite d.ctx d.link (leBytes 8 n.sibling)
      .ok (s, h)
  match unlinked with
  | .error .freeing => s
  | .error e => stop s d.node (cause e)
  | .ok (s, h) =>
    let move := fun (e : DeadNode) => if e.link = d.node + 16 then { e with link := d.link } else e
    let s := { s with serve := { s.serve with dead := s.serve.dead.map move } }
    match s.freeAll h (2 * h.nodes + 1) [(d.node, true)] with
    | (s, none) => s
    | (s, some (p, c)) => stop s p c

/-- CAIRN_FREEING (R437): no operation on the tree is in progress. -/
def execCairnFreeing (ctx : CtxId) (tree : BitVec 64) (t : Nat) (s : State) : Host.Outcome State Fault Refusal :=
  .next (
    if s.treeHeld ctx.val tree.toNat || !s.deadIn ctx.val tree.toNat then s
    else
      let ds := s.serve.dead.filter fun d => decide (d.ctx = ctx.val) && decide (d.tree = tree.toNat)
      ds.foldl (fun s d =>
        match s.serve.dead.find? fun e => decide (e.ctx = d.ctx) && decide (e.node = d.node) with
        | some e => s.freeDead e
        | none => s) (s.at t))

/-! ### The commit log (R429, R430) -/

/-- What a commit log leads to: the writes and session updates, the blocks inserted, what was met, and whether it
holds a tree. -/
structure Log where
  x : Prep
  appends : List (Nat × Nat) := []
  inserted : Nat := 0
  met : Met := {}
  tree : Bool := false

/-- A session record of an update and the tokens appended: the record can be written at the commit (R430; log 120). -/
def State.logUpdate (s : State) (p : Step) (v : LaneSide) (base i : Nat) (l : Log) : Except (Stop × Met) Log := do
  let fail := fun {α : Type} (m : Met) (r : Except Stop α) => r.mapError fun f => (f, m)
  let b ← fail l.met (s.cread p.ctx (base + 16 + 16 * i) 16)
  let n := field b 0 4
  let a := v.sessionTable + n * 32
  fail l.met do
    need (zeros b 8 8) 8 i
    need (decide (v.sessionTable ≠ 0)) 9 i
    need (decide (n < v.sessions)) 7 i
  let l := { l with met := l.met.see a 12 }
  let r ← fail l.met (s.cread p.ctx a 8)
  let before := ((l.appends.filter fun x => decide (x.1 = a)).map (·.2)).foldl (· + ·) (field r 0 4)
  fail l.met do
    need (decide (field r 4 4 = p.laneGen) || decide (field r 0 4 = 0)) 6 i
    need (decide (before + field b 4 4 < 2 ^ 32)) 7 i
    let _ ← s.cwrite p.ctx a (leBytes 12 0)
  .ok { l with appends := l.appends ++ [(a, field b 4 4)] }

/-- The session updates of a log from entry i. -/
def State.logUpdates (s : State) (p : Step) (v : LaneSide) (base : Nat) : Nat → Nat → Log → Except (Stop × Met) Log
  | 0, _, l => .ok l
  | k + 1, i, l => match s.logUpdate p v base i l with
    | .ok l => s.logUpdates p v base k (i + 1) l
    | .error f => .error f

/-- A pointer that earlier insertions of a log have moved, as it stands while they are only prepared (R437). -/
def linkBefore (ms : List (Nat × Nat)) (a : Nat) : Nat := ms.reverse.foldl (fun a m => if a = m.2 then m.1 else a) a

/-- What a later insertion of a log has met, with the pointers to dead nodes as they stand in the tree. -/
def Met.before (m : Met) (ms : List (Nat × Nat)) : Met := { m with dead := m.dead.map fun d => { d with link := linkBefore ms d.link } }

/-- The insertions of a log, each as if the earlier ones were linked. -/
def logInserts (p : Step) (v : LaneSide) (base ups : Nat) : Nat → Nat → Log → Except (Stop × Met) Log
  | 0, _, l => .ok l
  | k + 1, i, l =>
    let s := l.x.s
    let at' := base + 16 + 16 * ups + 32 * (i - ups)
    let head : Except Stop Bytes := do
      let b ← s.cread p.ctx at' 32
      let n := field b 4 2
      need (zeros b 0 4 && zeros b 6 2 && zeros b 24 8 && decide (1 ≤ n) && decide (n ≤ 4096)) 8 i
      need (decide (v.cairnRoot ≠ 0)) 9 i
      .ok b
    match head with
    | .error f => .error (f, l.met)
    | .ok b =>
      let n := field b 4 2
      let met := ((l.met.see (field b 8 8) (8 * n)).see (field b 16 8) (8 * n)).see v.cairnRoot 64
      let got : Except Stop (Tree × List (Nat × Nat)) := do
        let ks ← s.ckeys p.cmd p.ctx (field b 8 8) n i
        let ps ← s.cvalues p.cmd p.ctx (field b 16 8) n
        let h ← match s.tree p.ctx v.cairnRoot with
          | .error (.code c _) => .error (.code c i)
          | r => r
        .ok (h, ks.zip ps)
      match got with
      | .error f => .error (f, met)
      | .ok (h, kps) => match s.insert h kps (some i) (!l.met.dead.isEmpty) with
        | (.error f, m) => .error (f, met.add (m.before l.x.relinks))
        | (.ok (x, n), m) =>
          logInserts p v base ups k (i + 1)
            { l with x := { s := x.s, writes := l.x.writes ++ x.writes, nodes := l.x.nodes ++ x.nodes
                            relinks := l.x.relinks ++ x.relinks }
                     inserted := l.inserted + n
                     met := met.add (m.before l.x.relinks), tree := true }

/-- The commit log of a step, read and prepared; what its reads and walks met. -/
def State.prepareLog (s : State) (p : Step) : Except (Stop × Met) Log :=
  match p.lane with
  | none => .ok { x := { s := s } }
  | some l =>
    let v := (s.lane p.ctx l).side p.side
    match p.ranges[v.logRange]? with
    | none => .ok { x := { s := s } }
    | some r =>
      let head : Except Stop (Nat × Nat) := do
        let b ← s.cread p.ctx r.base 16
        let u := field b 0 2
        let i := field b 2 2
        need (decide (u ≤ 1024) && decide (i ≤ 1024) && zeros b 4 12 && decide (16 + 16 * u + 32 * i ≤ r.length)) 8 0
        .ok (u, i)
      match head with
      | .error f => .error (f, {})
      | .ok (u, i) => match s.logUpdates p v r.base u 0 { x := { s := s } } with
        | .error f => .error f
        | .ok l => logInserts p v r.base u i u l

/-- The tree into which a step's commit log inserts, by the log's header. -/
def State.logTree (s : State) (p : Step) : Option Nat :=
  p.lane.bind fun l =>
    let v := (s.lane p.ctx l).side p.side
    p.ranges[v.logRange]?.bind fun r =>
      match (s.ownView p.cmd).read p.ctx r.base 16 with
      | .ok b => if field b 2 2 = 0 ∨ v.cairnRoot = 0 then none else some v.cairnRoot
      | _ => none

/-- What the preparation of a log reads and where: in the caches and the stacks (R85, R238). -/
def State.logSeen (s : State) (p : Step) : State :=
  match p.lane.bind fun l => p.ranges[((s.lane p.ctx l).side p.side).logRange]? with
  | some r => s.accessed otherUnit p.ctx r.base r.length
  | none => s

/-- The new nodes of prepared insertions are written in phase 1, those that were free before: they are writes of the step
(R430). -/
def State.writeNodes (s : State) (p : Step) : List (Nat × Bytes) → List (Nat × Bytes) → Except State (State × List (Nat × Bytes))
  | [], old => .ok (s, old)
  | (a, b) :: ws, old =>
    match (s.ownView p.cmd).read p.ctx a 24 with
    | .ok was =>
      if byteAt was 0 ≠ 0 then s.writeNodes p ws old
      else match s.stepWrite p a b with
        | .ok s => s.writeNodes p ws (old ++ [(a, was)])
        | .error s => .error s
    | _ => s.writeNodes p ws old

/-- A prepared log is kept until the commit: its node writes are made, and the step holds its tree. -/
def State.keepLog (s : State) (p : Step) (l : Log) : State × Bool :=
  let root := (p.lane.map fun i => ((s.lane p.ctx i).side p.side).cairnRoot).getD 0
  let noted := s.noteMet p.ctx l.met
  let s := ({ noted with free := l.x.s.free } : State).cairnOver p.cmd
  match s.writeNodes p l.x.nodes [] with
  | .error s => (s, false)
  | .ok (s, old) =>
    match s.step? p.cmd with
    | none => (s, false)
    | some p => (s.setStep { p with prepared := l.x.writes, appends := l.appends, inserted := l.inserted, nodes := old
                                    relinks := l.x.relinks, trees := if l.tree then [root] else [] }, true)

/-- The commit log of a step is prepared as the last part of phase 1, or the step ends, or it waits (R430, R436). -/
def State.prepareStep (s : State) (p : Step) : State × Bool :=
  let s := s.logSeen p
  let s := ((s.logTree p).map (s.cairnArrive p.cmd p.ctx)).getD s
  if (s.logTree p).any fun t => !s.cairnTurn p.cmd p.ctx t then (s, false)
  else match (s.ownView p.cmd).prepareLog p with
    | .ok l => s.keepLog p l
    | .error (f, m) =>
      let s := s.noteMet p.ctx m
      match f with
      | .code n i => ((s.cairnOver p.cmd).endStep p stCairn (BitVec.ofNat 64 (n + i * 2 ^ 8)), false)
      | .miss m => ((s.cairnOver p.cmd).stepMiss p m, false)
      | .damaged a => ((s.cairnOver p.cmd).stepDamage p a, false)
      | .address a => ((s.cairnOver p.cmd).endStep p stAddress (BitVec.ofNat 64 a), false)
      | .freeing => (s, false)
      | .ask va n =>
        let s := s.ask p.ctx p.cmd va n
        match s.fetched p.cmd va with
        | some (.miss m) => ((s.cairnOver p.cmd).stepMiss p m, false)
        | _ => (s, false)

/-- The prepared log is applied at the commit point, as part of one action (R36, R430). -/
def State.applyLog (s : State) (p : Step) : State :=
  let s := p.prepared.foldl (fun s w => (s.writes p.ctx none w.1 w.2).1) s
  let s := p.appends.foldl (fun s a =>
    let kv := match s.read p.ctx a.1 4 with | .ok b => leNat b | _ => 0
    (s.writes p.ctx none a.1 (leBytes 4 (kv + a.2) ++ leBytes 4 p.laneGen ++ leBytes 4 p.seq.toNat)).1) s
  let s := s.moveLinks p.relinks
  if p.inserted = 0 then s else s.cbump p.ctx 13 3 64 p.inserted

end Sys2Proof.Machine
end

