-- ==== Sys2Proof/Machine/Commit.lean ====
section
/-! DEFINITION. The end of phases and of executions, and the commit of a step (R36, R130, R189, R196, R377, R380, R390,
R451, R481, R484). -/

namespace Sys2Proof.Machine

/-! ### The commit point and after (R36) -/

/-! ### Searches (R584, R585) -/

/-- Contexts under suspicion for a stalled step: its own first, then those with a step executing on its clusters or on
the clusters that it awaits, ascending (R584). -/
def State.suspects (s : State) (p : Step) (awaited : List Nat) : List Nat :=
  let on := fun (q : Step) => overlaps q.footprint p.footprint || awaited.any fun cl => q.footprint.getLsbD cl
  p.ctx :: (List.range 257).filter fun c =>
    decide (c ≠ p.ctx) && s.steps.any fun q => q.launched && decide (q.ctx = c) && on q

/-- A search begins: the Snapshot, then the drain, or at once the engine reset where no suspect has a step to drain (R585 steps
1 to 3). -/
def State.search (s : State) (p : Step) (core : Nat) (suspects : List Nat) : State :=
  let mask := captured (s.suspectSteps suspects) p
  let s := s.snapshot 1 mask suspects ⟨p.ctx, core, p.seq.toNat, if p.members.isEmpty then 0 else p.groupId⟩ waitOf
  match s.step? p.cmd with
  | some p =>
    let s := s.beginHang p core suspects
    if s.stillFor .hang then s else s.engineReset
  | none => s

/-- The searches of steps that stalled while another search ran begin, one at a time, each once none runs (R584). -/
def State.searches (s : State) : Nat → State
  | 0 => s
  | n + 1 => match s.ctxs.hang, s.ctxs.stalls.dropWhile fun x => (s.step? x.1).isNone with
    | none, (cmd, core, cs) :: rest =>
      let s := { s with ctxs := { s.ctxs with stalls := rest } }
      match s.step? cmd with
      | some p => (s.search p core cs).searches n
      | none => s.searches n
    | _, _ => s

/-- The next search begins where none runs (R584). -/
def State.nextSearch (s : State) : State := s.searches s.ctxs.stalls.length

/-- A step's counts go to its context's counters (R131, R312, R463). -/
def State.settleCounts (s : State) (p : Step) : State :=
  let c := p.ctx
  let x := p.crux
  let s := (((s.cbump c 6 3 64 x.tiles).cbump c 6 4 64 x.escalated).cbump c 6 5 64 x.saturated).cbump c 6 6 64 (x.ovf + x.nan)
  let s := if c < 256 ∧ s.cget c 6 7 < x.maxEstimate then s.cset c 6 7 (x.maxEstimate % 65536) else s
  let s := ((s.cbump c 10 4 64 p.deltaRecords).cbump c 10 5 64 p.deltaSaturated).cbump c 14 2 64 p.truRows
  let s := (s.dbump 0x30C0 1 0 64 p.truTotal).dbump 0x30C0 2 0 64 p.truRemote
  s.cbump c 2 8 64

/-- T, Wg, Wi and the baseline of a committed step (R390). Wi is a part of the time for which requests kept a cluster of it frozen:
which part its request spent behind another context's is timing that the model does not have, so it is a free value (log 31). -/
def State.settleTimes (s : State) (p : Step) : State :=
  let t := s.uptime - p.readyTime - p.replayNs
  let wg := min p.grantNs t
  let wi := (Config.freeValue s.free).toNat % (min (t - wg) p.interfereNs + 1)
  let b := max 1000 (t - wg - wi)
  let a := s.account p.ctx
  let s := { s with free := s.free + 1 }
  if 255 < p.ctx then s
  else
    let slow := max a.maxSlow (1024 * t / b)
    s.setAccount p.ctx { a with
      sumT := a.sumT + t, sumB := a.sumB + b, sumWg := a.sumWg + wg, sumWi := a.sumWi + wi, maxSlow := slow }

/-- A byte of Near lies in what the step declares for output (R33, R343). -/
def State.declaresNear (s : State) (p : Step) (a : Nat) : Bool :=
  s.near.map.any fun kv => decide (kv.1 / 65536 = p.ctx) && decide (kv.2.prn = a / 2 ^ 20) &&
    (Sys2Proof.Machine.writeParts p.seq.toNat p.ranges).any fun w =>
      decide (w.2.1 ≤ kv.1 % 65536 * 2 ^ 20 + a % 2 ^ 20) && decide (kv.1 % 65536 * 2 ^ 20 + a % 2 ^ 20 < w.2.1 + w.2.2)

/-- The content of a committing step's output ranges is defined, with what the other members of its group have written here; its
scratch is not (R33, R34). -/
def State.defineOutputs (s : State) (p : Step) : State :=
  let theirs := fun (kv : Nat × Nat) => decide (kv.2 = foreignTag p.cmd)
  { s with
    near := { s.near with uncommitted :=
      s.near.uncommitted.filter fun kv => !theirs kv && (decide (kv.2 ≠ p.cmd) || !s.declaresNear p kv.1) }
    bulk := { s.bulk with uncommitted := notBy (notBy s.bulk.uncommitted p.cmd) (foreignTag p.cmd) }
    hostUncommitted := notBy (notBy s.hostUncommitted p.cmd) (foreignTag p.cmd) }

/-- The step commits: the log and the sequence number, then the signals, then the completion (R36, R377). -/
def State.commit (s : State) (p : Step) : State :=
  let late := (s.cmd p.cmd).any fun c => decide (c.at 20 4 ≠ 0) && decide (p.origin + ctField (c.at 20 4) ≤ s.phase)
  let p := { p with committed := true, missed := p.missed || late }
  let s := ((s.setStep p).defineOutputs p).applyLog p
  let s := s.setLoop p.ring { s.loopOf p.ring with seq := p.seq }
  let s := p.signals.foldl (fun s g => s.applySignal g.counter g.set g.value) s
  let s := ((s.settleCounts p).settleTimes p).noteWork p.footprint
  let s := s.charge p.ctx (chargeOf p.footprint (s.uptime - p.launchTime)) (s.poolOfFootprint p.footprint).isSome
  let s := s.endHalts p
  let s := s.dropStep p.cmd
  let s := match s.cmd p.cmd with
    | some c => s.complete c 0 (p.seq.toNat % 2 ^ 32) (stepFlags p true) p.replays
    | none => s
  ((s.setLoop p.ring { s.loopOf p.ring with ticksDropped := 0 }).afterStep p).nextSearch

/-! ### The end of an execution -/

/-- Every cluster of the footprint has ended and what the write streams took is written (R189). -/
def State.phaseOver (s : State) (p : Step) : Bool :=
  p.launched && !p.starting && !p.ended && p.ending.isNone &&
    !(s.array.rappels.any fun r => overlaps r.footprint p.footprint) &&
    ((clustersOf p.footprint).all fun cl => (s.cluster cl).ended) && s.streamsWritten p.footprint

/-- PHASE_END (R196, R451): exchanges of the phase's Route start, and the footprint is drained for the next. -/
def execPhaseEnd (cmd t : Nat) (s : State) : Host.Outcome State Fault Refusal :=
  .next (match s.step? cmd with
    | some p =>
      if s.phaseOver p && decide (p.phase + 1 < p.routes.length) then
        let s := (s.at t).triggerExchanges p (p.routes.getD p.phase 0)
        match s.step? cmd with
        | some p => if p.ending.isSome then s else s.rappel p.footprint p.ctx (.phase cmd)
        | none => s
      else s
    | none => s)

/-- A count that does not fit its field saturates. -/
def saturate (w v : Nat) : Nat := min v (2 ^ w - 1)

/-- The Crux step record (R130). -/
def cruxBytes (p : Step) (budget : Nat) : Bytes :=
  let x := p.crux
  let flags := b2n p.bitExact + 2 * b2n x.srUsed + 4 * b2n (decide (x.tiles * budget < x.escalated * 1000)) +
    8 * b2n (decide (2 ^ 64 ≤ x.tiles) || [x.escalated, x.saturated, x.nanBlocks, x.ovf].any fun v => decide (2 ^ 32 ≤ v)) +
    16 * b2n x.invalidT2
  leBytes 8 (saturate 64 x.tiles) ++ leBytes 4 (saturate 32 x.escalated) ++ leBytes 4 (saturate 32 x.saturated) ++
    leBytes 4 (saturate 32 x.nanBlocks) ++ leBytes 4 (saturate 32 x.ovf) ++ leBytes 2 x.ovfRanges ++ leBytes 2 x.nanRanges ++
    leBytes 2 x.maxEstimate ++ leBytes 1 flags ++ leBytes 1 0

/-- Check of a member list as READY carries it (R481). -/
def memberCheck (ids : List Nat) : Nat := (crc32c (ids.flatMap (leBytes 2))).toNat % 65536

/-- How the READYs that a step holds disagree with its own: the status with which the group ends (R484). -/
def readyBad (p : Step) : Option Nat :=
  if p.readies.any fun r => decide (r.2.1 ≠ p.sliceFl) then some stFeature
  else if p.readies.any fun r => decide (r.2.2 ≠ memberCheck p.members) then some stMalformed else none

/-- The READYs of every other member are held. -/
def State.allReady (s : State) (p : Step) : Bool := (s.others p).all fun d => p.readies.any fun r => decide (r.1 = d)

/-- A member finds READYs that disagree: it raises ABORT, and the step ends without a replay (R484). -/
def State.disagree (s : State) (p : Step) (status : Nat) : State :=
  let p := { p with readySent := false }
  let id := p.routes.getD p.phase 0
  let v := if status = stFeature then (routeValue id 0xFFFFFFFF, s)
    else ((s.fresh.1).toNat % 65536 + 2 ^ 17, s.fresh.2)
  (v.2.setStep p).endStep p status (BitVec.ofNat 64 v.1)

/-- Phase 1 is complete: a step of one device commits; a member says READY (R36, R40). -/
def State.endPhaseOne (s : State) (p : Step) : State :=
  if p.members.isEmpty then s.commit p
  else match readyBad p with
    | some st => s.disagree p st
    | none =>
      let s := s.groupCast p 0x40 0 (p.sliceFl + memberCheck p.members * 2 ^ 16) []
      s.setStep { p with ended := true, readySent := true, readyTimeNs := s.uptime }

/-- A FLUSH of the step waits for its answer. -/
def State.flushing (s : State) (cmd : Nat) : Bool := s.links.requests.any fun r => decide (r.asker = .stepFlush cmd)

/-- The Crux step record of a range on another device goes out as a remote write, once (R130, R343). -/
def State.sendRecord (s : State) (p : Step) : Except State (State × Step) :=
  if p.cruxEn && !p.recordSent && decide (remoteBase ≤ p.cruxRecord) then
    let (d, off) := remoteOf p.cruxRecord
    match s.remoteWrite p.ctx d off (cruxBytes p (s.dget 0x2400 3)) with
    | (s, us, true) =>
      let p := { p with recordSent := true, portsUsed := (p.portsUsed ++ us).dedup }
      .ok (s.setStep p, p)
    | (s, _, false) => .error (s.stepMiss p (unreachable p.cruxRecord))
  else .ok (s, p)

/-- Remote writes are flushed; then the Crux step record is written, the commit log prepared, and phase 1 is complete. -/
def State.finishWrites (s : State) (p : Step) : State :=
  if p.portsUsed.any fun key => !s.flushable key then s.stepMiss p (unreachable remoteBase)
  else if !p.portsUsed.isEmpty then
    (s.setStep { p with portsUsed := [] }).flushPorts p.ctx p.portsUsed (.stepFlush p.cmd)
  else
    let written := if p.cruxEn && !p.recordSent then s.stepWrite p p.cruxRecord (cruxBytes p (s.dget 0x2400 3)) else .ok s
    match written with
    | .error s => s
    | .ok s => match s.prepareStep p with
      | (s, false) => s
      | (s, true) => match s.step? p.cmd with
        | some p => s.endPhaseOne p
        | none => s

/-- The parts of phase 1 in their order: exchanges of the last phase, acknowledged remote writes, the Crux step record,
the commit log. -/
def State.executionEnd (s : State) (p : Step) : State :=
  let s := if p.triggered then s
    else (s.setStep { p with triggered := true }).triggerExchanges p (p.routes.getD p.phase 0)
  match s.step? p.cmd with
  | none => s
  | some p =>
    if p.ending.isSome || !s.exchangesDone p.cmd || s.flushing p.cmd then s
    else match s.sendRecord p with
      | .error s => s
      | .ok (s, p) => s.finishWrites p

/-- STEP_EXECUTION_END (R189). -/
def execStepExecutionEnd (cmd t : Nat) (s : State) : Host.Outcome State Fault Refusal :=
  .next (match s.step? cmd with
    | some p =>
      if s.phaseOver p && decide (p.routes.length ≤ p.phase + 1) then (s.at t).executionEnd p else s
    | none => s)

end Sys2Proof.Machine
end

