-- ==== Sys2Proof/Machine/Hang.lean ====
section
/-! DEFINITION. Stalled steps and hang searches, and the quiescence of a Rappel (R197, R199, R582-R586). -/

namespace Sys2Proof.Machine

/-- What a request was issued for belongs to a footprint. -/
def State.servesFootprint (s : State) (fp : BitVec 64) (a : Asker) : Bool :=
  let of := fun (cmd : Nat) => (s.step? cmd).any fun p => p.launched && overlaps p.footprint fp
  match a with
  | .stream key _ => fp.getLsbD (key / 512)
  | .streamFlush key => fp.getLsbD (key / 512)
  | .rope key _ _ => fp.getLsbD (key / 512)
  | .exchangeRead serial _ => s.tru.exchanges.any fun e => decide (e.serial = serial) && of e.cmd
  | .exchangeFlush serial => s.tru.exchanges.any fun e => decide (e.serial = serial) && of e.cmd
  | .stepFlush cmd => of cmd
  | .fetch cmd _ _ => of cmd
  | _ => false

/-- A Rappel for phase changes alone, beside which the exchanges that the phase's end has started go on (R451). -/
def Rappel.phaseOnly (r : Rappel) : Bool := r.purposes.all fun w => match w with | .phase _ => true | _ => false

/-- A request was issued for an exchange. -/
def Asker.ofExchange : Asker → Bool
  | .exchangeRead _ _ => true
  | .exchangeFlush _ => true
  | _ => false

/-- A request belongs to what a Rappel stops. -/
def State.stopsFor (s : State) (r : Rappel) (a : Asker) : Bool :=
  s.servesFootprint r.footprint a && !(r.phaseOnly && a.ofExchange)

/-- Run empty has not ended: a request issued for the footprint before the stop has no response. -/
def State.runsOn (s : State) (r : Rappel) : Bool := s.links.requests.any fun q => s.stopsFor r q.asker

/-- Requests of a Rappel's footprint are abandoned (R198). -/
def State.abandonRequests (s : State) (r : Rappel) : State :=
  { s with links := { s.links with requests := s.links.requests.filter fun q => !s.stopsFor r q.asker } }

/-- RAPPEL_QUIESCENCE: run empty has ended, or the cut-off abandoned what was left (R197-R199). -/
def execRappelQuiescence (footprint : BitVec 64) (t : Nat) (unclear : List ClusterId) (s : State) :
    Host.Outcome State Fault Refusal :=
  .next (match s.array.rappels.find? fun r => decide (r.footprint = footprint) with
    | some r =>
      if !r.cut && s.runsOn r then s
      else (((s.at t).abandonRequests r).quiesce r (unclear.map (·.val))).nextSearch.serveHeld
    | none => s)

/-! ### Launches and resets that may end a trial -/

/-- STEP_LAUNCH (R376). -/
def execStepLaunch (cmd t : Nat) (s : State) : Host.Outcome State Fault Refusal :=
  .next (match s.cmd cmd, s.step? cmd with
    | some c, some p =>
      let p := { p with footprint := if p.latched then p.footprint else s.firstFootprint c }
      if s.canLaunch p then (((s.at t).stage c .running).launch c p).nextSearch else s
    | _, _ => s)

/-- VF_FUNCTION_LEVEL_RESET: a context reset of the VF's context, cause 2 (R323, R597). -/
def execVfFunctionLevelReset (c : Fin 256) (t : Nat) (s : State) : Host.Outcome State Fault Refusal :=
  .next (if s.hif.linkUp && s.vfOn c.val then (((s.at t).startReset c.val 2).resetFunction c.val).nextSearch else s)

/-! ### Stalls (R582-R586) -/

/-- The step's stall is to be checked: it is past its deadline, or on trial. -/
def State.stallDue (s : State) (c : Cmd) (p : Step) (t : Nat) : Bool :=
  let ct := if c.at 20 4 = 0 then s.dget 0x3031 2 * 65536 else ctField (c.at 20 4)
  (s.ctxs.hang.any fun h => decide (h.trial = some p.cmd)) || decide (p.origin + ct ≤ s.cdu.phase (max s.uptime t))

/-- The exchanges that hold the step's phase. -/
def State.gates (s : State) (p : Step) : List Exchange :=
  s.tru.exchanges.filter fun e => decide (e.cmd = p.cmd) && decide (exGate e.record = p.routes.getD p.phase 0) &&
    decide (e.stage ≠ .done)

/-- The core is used by the resident Route of the step, on a cluster with rounds left, and no hold suspends the
check. -/
def State.canStall (s : State) (p : Step) (core : Nat) : Bool :=
  p.launched && !p.starting && p.ending.isNone && !p.ended && p.footprint.getLsbD (core / 16) &&
    !(s.cluster (core / 16)).ended && !s.halted p.footprint && p.holding.isEmpty &&
    ((s.resident (core / 16)).any fun r => (imgCores r.bytes).any fun x => decide (x.1 = core))

/-- The trial of a suspect stalls: its step ends, it is guilty and reset, the others are released (R585 step 5,
R586). -/
def State.guilty (s : State) (h : Hang) (p : Step) : State :=
  let s := s.sendAbort p stReset 0
  let s := s.releaseSuspects
  let s := if p.cmd = h.stalledCmd then s.failEnd p 0x0F 6 else s.failEnd p stReset 0
  let s := (s.cbump p.ctx 4 7 32).event 2 4 p.ctx h.captured.toNat
  ((s.startReset p.ctx 4).nextSearch).nextExchanges

/-- A step that has stalled: the first stall is absorbed by replay, the second starts a search or, while one runs,
drains and holds the step (R583, R584). -/
def State.stall (s : State) (p : Step) (core : Nat) (awaited : List Nat) : State :=
  match s.ctxs.hang with
  | some h =>
    if h.trial = some p.cmd then s.guilty h p
    else if p.stalled = 0 then (s.setStep { p with stalled := 1 }).replayStep { p with stalled := 1 } 6
    else
      let cs := s.suspects p awaited
      let s := { s with ctxs := { s.ctxs with stalls := s.ctxs.stalls ++ [(p.cmd, core, cs)] } }.hold p.ctx
      (s.sendAbort p 0 6).failStep p .held (.replay p.cmd)
  | none =>
    if p.stalled = 0 then (s.setStep { p with stalled := 1 }).replayStep { p with stalled := 1 } 6
    else s.search p core (s.suspects p awaited)

/-- The core's progress counter has stood still for HANG_STALL, counted from the launch at the earliest (R582, log 108). -/
def State.coreStill (s : State) (p : Step) (core t : Nat) : Bool :=
  decide (max (s.core core).moved p.launchPhase + s.dget 0x3031 1 * 256 ≤ s.cdu.phase (max s.uptime t))

/-- The step has stalled at the core: its counter has stood still, or, in a phase that exchanges hold, that of one of them has
(R461, R582). -/
def State.stallsAt (s : State) (p : Step) (core t : Nat) : Bool :=
  if (s.gates p).isEmpty then s.coreStill p core t
  else (s.gates p).any fun e => decide (e.moved + s.dget 0x3031 1 * 256 ≤ s.cdu.phase (max s.uptime t))

/-- STEP_STALLED (R582): the core's counter, or that of an exchange that holds the phase (R461), has not moved for
HANG_STALL. -/
def execStepStalled (cmd t : Nat) (core : CoreId) (awaited : List ClusterId) (s : State) :
    Host.Outcome State Fault Refusal :=
  .next (match s.cmd cmd, s.step? cmd with
    | some c, some p =>
      if s.canStall p core.val && s.stallDue c p t && s.stallsAt p core.val t then
        (s.at t).stall p core.val (awaited.map (·.val)) else s
    | _, _ => s)

end Sys2Proof.Machine
end

