-- ==== Sys2Proof/Machine/NearCode.lean ====
section
/-! DEFINITION. The check code of a Near line: its ten layer words, the (72,64) code of its four words and the
reconstruction of a layer (R218, R219). -/

namespace Sys2Proof.Machine

/-- The columns of the (72,64) Hsiao code for the 64 data bits: the 56 of weight 3 and eight of weight 5, in rising
order. PRESUMED: the chapters name the code and not the order of its columns (log entry 95). -/
def hsiaoColumns : List (BitVec 8) :=
  let weight := fun (n : Nat) => ((List.range 256).map (BitVec.ofNat 8)).filter fun v =>
    decide (((List.range 8).filter fun i => v.getLsbD i).length = n)
  weight 3 ++ (weight 5).take 8

/-- The check code of a 64-bit data word. -/
def checkCode (w : BitVec 64) : BitVec 8 :=
  (hsiaoColumns.zipIdx.filter fun c => w.getLsbD c.2).foldl (fun a c => a ^^^ c.1) 0

/-- What SECDED shows of a word: nothing, a data bit or a check bit in error, or an uncorrectable error. -/
inductive WordRead where
  | clean
  | dataBit (i : Nat)
  | checkBit
  | bad
deriving DecidableEq, Repr

/-- SECDED on a word and its code. -/
def decodeWord (w : BitVec 64) (code : BitVec 8) : WordRead :=
  let syndrome := checkCode w ^^^ code
  if syndrome = 0 then .clean
  else match hsiaoColumns.findIdx? (· = syndrome) with
    | some i => .dataBit i
    | none => if (List.range 8).any fun i => decide (syndrome = BitVec.ofNat 8 (2 ^ i)) then .checkBit else .bad

/-- Layers 0-9 of a line, 32 bits each (R218). -/
abbrev Layers := List (BitVec 32)

def layerAt (ls : Layers) (k : Nat) : BitVec 32 := ls.getD k 0

/-- Data word w of the layers. -/
def Layers.word (ls : Layers) (w : Nat) : BitVec 64 := layerAt ls (2 * w + 1) ++ layerAt ls (2 * w)

/-- The code of data word w, in layer 8. -/
def Layers.code (ls : Layers) (w : Nat) : BitVec 8 := (layerAt ls 8).extractLsb' (8 * w) 8

/-- The exclusive or of layers 0-7. -/
def Layers.parity (ls : Layers) : BitVec 32 := (ls.take 8).foldl (· ^^^ ·) 0

/-- The data layers, and their codes as layer 8. -/
def Layers.codes (data : Layers) : BitVec 32 :=
  checkCode (data.word 3) ++ checkCode (data.word 2) ++ checkCode (data.word 1) ++ checkCode (data.word 0)

/-- The ten layers in which 32 bytes of data are stored. -/
def layersOf (line : Bytes) : Layers :=
  let data : Layers := (List.range 8).map fun k => BitVec.ofNat 32 (field line (4 * k) 4)
  data ++ [data.codes, data.parity]

/-- The data bytes of the layers. -/
def Layers.bytes (ls : Layers) : Bytes := (ls.take 8).flatMap fun l => leBytes 4 l.toNat

/-- The layers with bits of a pattern inverted: what a read sees of stored layers in error. -/
def Layers.flipped (ls flips : Layers) : Layers := (List.range 10).map fun k => layerAt ls k ^^^ layerAt flips k

/-- A candidate layer rebuilt from layer 9 and the other data layers, none where the result does not decode with four
zero syndromes. Layer 8 is rebuilt from data layers that agree with layer 9 (DEDUCED: any error confined to one layer is
corrected). -/
def Layers.rebuilt (ls : Layers) (k : Nat) : Option Layers :=
  let new : Layers := if k = 8 then ls.set 8 (Layers.codes ls) else ls.set k (ls.parity ^^^ layerAt ls k ^^^ layerAt ls 9)
  if (List.range 4).all (fun w => decide (decodeWord (Layers.word new w) (Layers.code new w) = .clean)) ∧ Layers.parity new = layerAt ls 9 then
    some new
  else none

/-- What a read of a line gives (R219). -/
inductive LineRead where
  /-- zero syndromes -/
  | clean
  /-- single-bit errors corrected, with the layer of each -/
  | single (data : Bytes) (layers : List Nat)
  /-- a layer rebuilt -/
  | layer (data : Bytes) (k : Nat)
  | bad
deriving DecidableEq, Repr

/-- Inverts a data bit of word w. -/
def Layers.fix (ls : Layers) (w i : Nat) : Layers :=
  ls.set (2 * w + i / 32) (layerAt ls (2 * w + i / 32) ^^^ BitVec.ofNat 32 (2 ^ (i % 32)))

/-- The layers after SECDED has corrected the single-bit errors of their words, in the data or in the code (R219 step 1). -/
def Layers.corrected (ls : Layers) : Layers :=
  (List.range 4).foldl (fun a w => match decodeWord (ls.word w) (ls.code w) with
    | .dataBit i => a.fix w i
    | .checkBit => a.set 8 (layerAt a 8 ^^^ BitVec.ofNat 32 ((checkCode (ls.word w) ^^^ ls.code w).toNat * 2 ^ (8 * w)))
    | _ => a) ls

/-- The decoding of a line's layers: single-bit errors are corrected, and with a word beyond that the one candidate layer
that decodes is taken. A data layer is rebuilt from the corrected layers; layer 8, whose errors the words' syndromes show
as their own, from the data layers as they were read where those agree with layer 9 (R219, DEDUCED; log 95). -/
def decodeLine (ls : Layers) : LineRead :=
  let words := (List.range 4).map fun w => (w, decodeWord (ls.word w) (ls.code w))
  let worst := words.filter fun x => decide (x.2 = .bad)
  if worst.isEmpty then
    let fixes := words.filterMap fun x => match x.2 with
      | .dataBit i => some (2 * x.1 + i / 32)
      | .checkBit => some 8
      | _ => none
    if fixes.isEmpty then .clean else .single ls.corrected.bytes fixes
  else
    let candidates := worst.flatMap fun x => [2 * x.1, 2 * x.1 + 1]
    let data := candidates.filterMap fun k => (ls.corrected.rebuilt k).map fun n => (k, n)
    let codes := if ls.parity = layerAt ls 9 then (ls.rebuilt 8).toList else (ls.corrected.rebuilt 8).toList
    match data ++ codes.map fun n => (8, n) with
    | [(k, n)] => .layer n.bytes k
    | _ => .bad

end Sys2Proof.Machine
end

