-- ==== Sys2Proof/Machine/NearMap.lean ====
section
/-! DEFINITION. Region maps, unmapping and clearing, the line errors, scrub and row repair of Near Memory
(R207-R230). -/

namespace Sys2Proof.Machine

/-! ### NM_MAP (R208-R211) -/

/-- The RESULT that refuses a mapping, none when it is allowed; the lowest code that applies. A pool region is mapped by
the contexts attached to its pool (R208, R369). -/
def State.mapRefused (s : State) (c prn : Nat) (w : Bool) : Option Nat :=
  let r := s.region prn
  if r.kind = .reserved ∨ r.kind = .retired then some 1
  else if 256 < c then some 4
  else match s.prnPool prn, r.kind with
    | some p, k => if s.attached c ≠ some p then some 2 else if k = .clearing ∨ k = .pendingUnmap then some 5 else none
    | none, .free => none
    | none, .owned =>
      if r.owner = c then none
      else if r.owner = 256 then (if w then some 3 else none)
      else some 2
    | none, _ => some 5

/-- NM_MAP with its RESULT and BUSY fields (R209). -/
def nmMapWord (vrn : BitVec 16) (ctx : BitVec 9) (prn : BitVec 15) (v w : Bool) (result : Nat) (busy : Bool) :
    BitVec 64 :=
  BitVec.ofNat 64 (vrn.toNat + ctx.toNat * 2 ^ 16 + prn.toNat * 2 ^ 25 + b2n v * 2 ^ 40 + b2n w * 2 ^ 41 +
    result * 2 ^ 56 + b2n busy * 2 ^ 63)



/-- Sets an entry of a region map; the first mapping of a Free region makes its context the owner (R208). A pool region
that the holder maps anew, with no copy of its own of it, is zeroed (R212). -/
def State.setMap (s : State) (c vrn : Nat) (e : MapEntry) (same : Bool := false) : State :=
  let s := { s with near := { s.near with map := tput s.near.map (c * 65536 + vrn) e } }
  match s.prnPool e.prn with
  | some _ => if !same && s.holdsGrant c && decide (tget 0 s.near.bivouac (c * 32768 + e.prn) = 0) &&
      decide ((s.entriesOf c e.prn).length = 1) then s.zeroRegion e.prn else s
  | none => if (s.region e.prn).kind = .free then s.setRegion e.prn { s.region e.prn with kind := .owned, owner := c } else s

/-- Invalidates an entry, in the map and in the caches; its region enters Pending unmap (R211 step 1). -/
def State.clearMap (s : State) (c vrn : Nat) (e : MapEntry) : State :=
  let s := ({ s with near := { s.near with map := terase s.near.map (c * 65536 + vrn) } } : State).dropRegion (c * 65536 + vrn)
  s.setRegion e.prn { s.region e.prn with kind := .pendingUnmap }

/-- A write of NM_MAP; one that arrives while BUSY is 1 is ignored (R209, R210). The operation itself is what a write
waits for: a host reset in the midst of one gives the register its reset value, BUSY 0, and the operation goes on, so that a
write is ignored until it has ended (DESIGN CHOICE, log 106: R570 gives the register's value only). -/
def State.writeNmMap (s : State) (vrn : BitVec 16) (ctx : BitVec 9) (prn : BitVec 15) (v w : Bool) : State :=
  if s.near.op.isSome then s
  else
    let c := ctx.toNat
    let set := fun (s : State) (result : Nat) (busy : Bool) =>
      { s with near := { s.near with nmMap := nmMapWord vrn ctx prn v w result busy } }
    let start := fun (e : MapEntry) (new : Option MapEntry) =>
      let s := s.clearMap c vrn.toNat e
      let s := { s with near := { s.near with op := some ⟨vrn.toNat, c, e.prn, new⟩ } }
      set (s.beginConfirm 0 c) 0 true
    if v then
      match s.mapRefused c prn.toNat w with
      | some k => set s k false
      | none => match s.mapEntry c vrn.toNat with
        | none => set (s.setMap c vrn.toNat ⟨prn.toNat, w⟩) 0 false
        | some e => if e = ⟨prn.toNat, w⟩ then set s 0 false else start e (some ⟨prn.toNat, w⟩)
    else if 256 < c then set s 4 false
    else match s.mapEntry c vrn.toNat with
      | none => set s 0 false
      | some e => start e none

/-- NM_MAP_MAP (R208-R210). -/
def execNmMapMap (vrn : BitVec 16) (ctx : BitVec 9) (prn : BitVec 15) (w : Bool) (s : State) :
    Host.Outcome State Fault Refusal := .next (s.ifHost .pf fun s => s.writeNmMap vrn ctx prn true w)

/-- NM_MAP_UNMAP (R211). -/
def execNmMapUnmap (vrn : BitVec 16) (ctx : BitVec 9) (prn : BitVec 15) (w : Bool) (s : State) :
    Host.Outcome State Fault Refusal := .next (s.ifHost .pf fun s => s.writeNmMap vrn ctx prn false w)

/-- The contents that a context keeps of a pool region are gone with its last entry that names the region (R369, R387). -/
def State.dropBivouac (s : State) (c prn : Nat) : State :=
  if (s.entriesOf c prn).isEmpty then
    { s with near := { s.near with bivouac := tset 0 s.near.bivouac (c * 32768 + prn) 0 } }
  else s

/-- The end of the quiescence confirmation: BUSY clears, the new entry of a remap is set, and a region that no
entry names any more enters Clearing, else stays as it was owned (R210, R211). The target of a remap is mapped as it was checked,
though it has become Retired meanwhile (DESIGN CHOICE, log 124). -/
def State.unmapQuiesced (s : State) : State :=
  match s.near.op with
  | none => s
  | some op =>
    let s := s.endConfirm 0 op.ctx
    let s := { s with near := { s.near with op := none, nmMap := s.near.nmMap &&& 0x7FFFFFFFFFFFFFFF } }
    let s := s.setRegion op.oldPrn { s.region op.oldPrn with
      kind := if (s.prnPool op.oldPrn).isSome then .free else .owned }
    let s := match op.new with | some e => s.setMap op.ctx op.vrn e (decide (e.prn = op.oldPrn)) | none => s
    let s := s.dropBivouac op.ctx op.oldPrn
    if s.named op.oldPrn then s else s.setRegion op.oldPrn { s.region op.oldPrn with kind := .clearing }

/-- An access of another device that waits for a frozen cluster names the region that is being unmapped: it was translated
through the old entry (R211, R276). -/
def State.staleHeld (s : State) (op : MapOp) : Bool :=
  s.links.held.any fun k => decide (k.h.ctx.toNat = op.ctx) && decide (k.kind ≠ .flush) &&
    decide (k.h.addr.toNat / 2 ^ 20 = op.vrn)

/-- UNMAP_QUIESCED: no access through the old entry is outstanding, and the devices that must acknowledge the context's epoch
have done so (R211, R579). -/
def execUnmapQuiesced (s : State) : Host.Outcome State Fault Refusal :=
  .next (if s.near.op.any fun op => s.epochAcked op.ctx && !s.staleHeld op then s.unmapQuiesced else s)

/-- REGION_CLEAR_DONE: the region is zeroed and becomes Free, or Retired where a row of it failed
(R211, R228). -/
def execRegionClearDone (prn : BitVec 15) (s : State) : Host.Outcome State Fault Refusal :=
  .next (
    let r := s.region prn.toNat
    if r.kind = .clearing then
      let s := s.zeroRegion prn.toNat
      if r.failing then
        s.setRegion prn.toNat { kind := .retired }
      else s.setRegion prn.toNat {}
    else s)

/-! ### Line errors (R219-R223) -/

/-- NM_LAST_ERROR: PRN, line, kind 1-3, layer. -/
def State.nearLastError (s : State) (prn line kind layer : Nat) : State :=
  s.dset 0x3060 7 0 (prn + line * 2 ^ 15 + kind * 2 ^ 30 + layer * 2 ^ 32)

/-- Row of a slice that holds a line of a region: 256 lines of 32 B (R206). -/
def rowOf (prn line : Nat) : Nat := prn % 32 * 128 + line / 256

/-- A slice has a spare row left (R228). -/
def State.spareRows (s : State) (core : Nat) : Nat := s.dget 0x3060 6 core

/-- The slice has lost its last spare row: the slice is reported, and the region that holds a failing row is Retired if it
is Free, else kept failing (R228). A pool region is Owned while its pool has a holder (R369). -/
def State.sparesExhausted (s : State) (prn : Nat) : State :=
  let s := s.event 8 2 (prn / 32)
  let r := s.region prn
  let held := ((s.prnPool prn).bind s.holder).isSome
  match r.kind with
  | .free => s.setRegion prn (if held then { r with failing := true } else { kind := .retired })
  | .reserved => s
  | .retired => s
  | _ => s.setRegion prn { r with failing := true }

/-- A row meets R226: it takes an unused spare row and its repair begins, or the slice has none left (R227, R228). -/
def State.repairRow (s : State) (prn line : Nat) : State :=
  let core := prn / 32
  let row := core * 4096 + rowOf prn line
  let free := s.spareRows core
  if thas s.near.repairing row then s
  else if 0 < free then
    ({ s with near := { s.near with repairing := tput s.near.repairing row (64 - free) } } : State).dset 0x3060 6 core (free - 1)
  else s.sparesExhausted prn

/-- Single-bit corrections of a line, in the layers named: counted, in NM_LAST_ERROR, and the row repaired once its count
of the pass reaches the threshold (R220, R226). -/
def State.nearCorrected (s : State) (prn line : Nat) (layers : List Nat) : State :=
  let core := prn / 32
  let row := core * 4096 + rowOf prn line
  let s := (s.dbump 0x3060 3 core 32 layers.length).nearLastError prn line 1 (layers.getLastD 0)
  let n := tget 0 s.near.rowCe row + layers.length
  let s := { s with near := { s.near with rowCe := tset 0 s.near.rowCe row n } }
  if s.dget 0x2600 2 ≤ n then s.repairRow prn line else s

/-- A layer reconstruction: counted, in NM_LAST_ERROR, reported, and its row repaired (R220, R226). -/
def State.nearRebuilt (s : State) (prn line layer : Nat) : State :=
  let s := (s.dbump 0x3060 4 (prn / 32) 32).nearLastError prn line 2 layer
  (s.event 3 1 (prn / 32) (s.dget 0x3060 7)).repairRow prn line

/-- An uncorrectable error of a line: counted, in NM_LAST_ERROR, and its row repaired (R221, R226). -/
def State.nearBad (s : State) (prn line : Nat) : State :=
  ((s.dbump 0x3060 5 (prn / 32) 32).nearLastError prn line 3 0).repairRow prn line

/-- The image that a line of the route staging area holds: a staged image is discarded, the resident Route's copy is
marked lost (R178, R221). The lost copy leaves staging, so a launch that names the Route ends with ROUTE_NOT_STAGED until it
is loaded again (DESIGN CHOICE, log 105: the rule says only that the copy stays lost). -/
def State.loseImage (s : State) (prn line : Nat) : State :=
  let cl := prnCluster prn
  let gs := s.array.staged.filter fun g => thas g.rank cl
  match (Config.stagedLine prn line gs.length).bind (gs[·]?) with
  | none => s
  | some g =>
    if s.isResident g cl then
      let mark := fun (r : Route) =>
        if r.ctx = g.ctx ∧ r.id = g.id then { r with lost := tins r.lost cl } else r
      ({ s with array := { s.array with routes := s.array.routes.map mark } } : State).discardIn g.ctx g.id cl
    else s.discardIn g.ctx g.id cl

/-- An uncorrectable line is poisoned as well, and an image of the route staging area that it belongs to is lost (R221). -/
def State.nearPoisonLine (s : State) (prn line : Nat) : State :=
  let s := ({ s with near := { s.near with poison := tins s.near.poison (prn * 32768 + line) } } : State).nearBad prn line
  if prn % 32 = 30 then s.loseImage prn line else s

/-- The copy of region map entries that a line of region 31 holds. Its uncorrectable line is poisoned as a damaged copy, until a
translation miss rewrites it; the two copies of an entry lie on different dies (R214, R221). -/
def mapCopyBad (prn line : Nat) : Option Nat :=
  if prn % 32 ≠ 31 then none
  else match Config.mapGroupAt prn line with
    | none => none
    | some g =>
      if prn / 8192 = Config.mapDie g % 4 then some (g * 2)
      else if prn / 8192 = mapDie2 g then some (g * 2 + 1)
      else none

/-- Address of a line in Near. -/
def lineAddr (prn line : Nat) : Nat := prn * 2 ^ 20 + line * 32

/-- What a read of a line gives when the bits of a pattern are in error: a poisoned line and a damaged copy of region map entries
read uncorrectable (R219, R221). -/
def State.readLine (s : State) (prn line : Nat) (flips : Layers) : LineRead :=
  if thas s.near.poison (prn * 32768 + line) || (mapCopyBad prn line).any (thas s.bulk.mapDamage) then .bad
  else decodeLine ((layersOf (memReads s.near.mem (lineAddr prn line) 32)).flipped flips)

/-- A corrected line is written back (R220). -/
def State.writeBack (s : State) (prn line : Nat) (data : Bytes) : State :=
  { s with near := { s.near with mem := memWrites s.near.mem (lineAddr prn line) data } }

/-- A read of a line that decodes with or without an error: corrections are written back, unless a write raced the
write-back, and an uncorrectable line is poisoned (R219-R223, R226). -/
def State.lineRead (s : State) (prn line : Nat) (flips : Layers) (raced : Bool) : State :=
  match s.readLine prn line flips with
  | .clean => s
  | .single data layers => (if raced then s else s.writeBack prn line data).nearCorrected prn line layers
  | .layer data k => (if raced then s else s.writeBack prn line data).nearRebuilt prn line k
  | .bad =>
    if raced then s.nearBad prn line
    else match mapCopyBad prn line with
      | some k => ({ s with bulk := { s.bulk with mapDamage := tins s.bulk.mapDamage k } } : State).nearBad prn line
      | none => s.nearPoisonLine prn line

/-- A quadrant's domain is in Retention or Off: its scrubbers pause (R225). -/
def State.quadrantOn (s : State) (prn : Nat) : Bool :=
  decide (s.dget 0x3040 1 (64 + prn / 2048) = 2)

/-- NEAR_SCRUB_LINE: the patrol reads the line that its slice's pass has come to; in Retention the pass rests where it
stopped. A pass reads every line of a slice in rising order, and its start clears the rows' counts (R222, R223, R225, R226).
The 64 spare rows are lines of region 31 (DESIGN CHOICE, log 124). -/
def execNearScrubLine (prn line : BitVec 15) (flips : List (BitVec 32)) (raced : Bool) (t : Nat) (s : State) :
    Host.Outcome State Fault Refusal :=
  .next (
    let p := prn.toNat
    let l := line.toNat
    let core := p / 32
    let n := p % 32 * 32768 + l
    if !s.quadrantOn p || decide (tget 0 s.near.scrub core ≠ n) then s
    else
      let rows := if n = 0 then tclear s.near.rowCe (core * 4096) ((core + 1) * 4096) else s.near.rowCe
      ({ s.at t with near := { s.near with rowCe := rows, scrub := tset 0 s.near.scrub core ((n + 1) % 2 ^ 20) } } : State).lineRead
        p l flips raced)

/-- NEAR_ROW_REPAIR_DONE: the copy decoded the row's lines, those in error as given, and the row is redirected to its
spare row (R227). -/
def execNearRowRepairDone (core : CoreId) (row : RowCopy) (s : State) : Host.Outcome State Fault Refusal :=
  .next (
    let k := core.val * 4096 + row.row.toNat
    match tfind s.near.repairing k with
    | some spare =>
      let prn := core.val * 32 + row.row.toNat / 128
      let s := row.errors.foldl (fun s e => s.lineRead prn (row.row.toNat % 128 * 256 + e.1.val) e.2 false) s
      { s with near := { s.near with
        repairing := terase s.near.repairing k
        rows := tput s.near.rows k spare
        rowCe := terase s.near.rowCe k } }
    | none => s)

end Sys2Proof.Machine
end

