-- ==== Sys2Proof/Machine/Errors.lean ====
section
/-! DEFINITION. Errors of cores, Near and Bulk lines and die bridges, and the spares behind them (R136, R221,
R250-R257, R310, R588, R605). -/

namespace Sys2Proof.Machine

/-! ### Cores and spares (R136, R588, R605) -/

/-- What manufacturing test left in a cluster: one of its 17 cores is the spare, or was found bad and is retired, and the other
sixteen serve the positions in their order (R634; DESIGN CHOICE, log 116: the spec prints neither). -/
def factoryState (cl p : Nat) : Nat :=
  let f := (Config.factoryCores cl).toNat
  if p = f % 17 then (if bit f 15 then 0xF3 else 0xF1) else (if p < f % 17 then p else p - 1) * 16

/-- CORE_STATE of a physical core of a cluster: [1:0] 0 active, 1 spare, 2 under test, 3 retired; [7:4] position. -/
def State.coreState (s : State) (cl p : Nat) : Nat :=
  match tfind s.health.coreState (cl * 17 + p) with
  | some v => v.toNat
  | none => if cl < 64 ∧ p < 17 then factoryState cl p else 0

def State.setCoreState (s : State) (cl p v : Nat) : State :=
  { s with health := { s.health with coreState := tput s.health.coreState (cl * 17 + p) (BitVec.ofNat 8 v) } }

/-- Physical core of a cluster that serves a position. -/
def State.serving? (s : State) (cl pos : Nat) : Option Nat :=
  (List.range 17).find? fun p => decide (s.coreState cl p % 4 = 0) && decide (s.coreState cl p / 16 = pos)

/-- The spare of a cluster, in service as a spare. -/
def State.spareOf (s : State) (cl : Nat) : Option Nat :=
  (List.range 17).find? fun p => decide (s.coreState cl p % 4 = 1)

/-- The core that can be brought in: the spare, or the core under its rotation test, which is then abandoned
(R621). -/
def State.substitute (s : State) (cl : Nat) : Option Nat :=
  match s.spareOf cl with
  | some p => some p
  | none => tfind s.health.rotating cl

/-- A physical core takes a position over from another, which is left in a state of its own. -/
def State.replaceCore (s : State) (cl pos old q left : Nat) : State :=
  (s.setCoreState cl old left).setCoreState cl q (pos * 16)

/-- The rotation test of a cluster is over. -/
def State.endRotation (s : State) (cl : Nat) : State :=
  { s with health := { s.health with rotating := terase s.health.rotating cl } }

/-- The copy of the resident Route in a cluster's staging area was marked lost (R221). -/
def State.copyLost (s : State) (cl : Nat) : Bool := (s.resident cl).any fun r => thas r.lost cl

/-- The engines of a core hold what its core section gives them: the registers of the new core start cleared. -/
def State.freshCore (s : State) (core : Nat) : State :=
  { s with array := { s.array with cores := terase s.array.cores core } }

/-- A failing core of a cluster is replaced, and the step that runs on it replayed; with nothing to replace it, or the
Route's copy lost, the cluster is isolated, and its cores stay as recorded until a test retires one (R136, R605). -/
def State.coreFails (s : State) (core old : Nat) : State :=
  let cl := core / 16
  match s.substitute cl with
  | none => s.isolate cl
  | some q =>
    if s.copyLost cl then s.isolate cl
    else
      let s := ((s.replaceCore cl (core % 16) old q 0xF3).endRotation cl).event 8 1 core old
      match s.stepAt cl with
      | some p => s.replayStep p 5
      | none => s.freshCore core

/-- CORE_ERROR (R136). An isolated cluster that still reports one has not contained its fault: a device recovery follows (R564; log
109). -/
def execCoreError (core : CoreId) (t : Nat) (s : State) : Host.Outcome State Fault Refusal :=
  .next (match s.serving? (core.val / 16) (core.val % 16) with
    | some old =>
      if !s.serving then s
      else if s.isolated (core.val / 16) then (s.at t).startRecovery .hardware waitOf
      else if s.clusterUp (core.val / 16) then (s.at t).coreFails core.val old
      else s
    | none => s)

/-! ### Uncorrectable Near lines (R221) -/

/-- Device virtual address at which a context maps a Near address. -/
def State.nearVa (s : State) (c a : Nat) : Option Nat :=
  (s.near.map.find? fun kv => decide (kv.1 / 65536 = c) && decide (kv.2.prn = a / 2 ^ 20)).map fun kv =>
    kv.1 % 65536 * 2 ^ 20 + a % 2 ^ 20

/-- A step read damaged data that it did not write itself (R45). -/
def State.damagedStep (s : State) (p : Step) (va : Nat) : State :=
  if p.ending.isSome then s
  else (if p.launched then s.sendAbort p 0 0 else s).failStep p (.damaged va) (.replay p.cmd)

/-- The address a step's failure names: its own address of the line, or all ones when it reached the line by physical
address; which of the two ways it took is not an operand of the event. -/
def State.damageVa (s : State) (va : Option Nat) : Nat × State :=
  match va with
  | none => (2 ^ 64 - 1, s)
  | some a => (if s.fresh.1.getLsbD 0 then 2 ^ 64 - 1 else a, s.fresh.2)

/-- A step reads an uncorrectable Near line. -/
def State.stepNearDamage (s : State) (p : Step) (a : Nat) : State :=
  let s := s.cbump p.ctx 8 3 32
  if tfind s.near.written (a / 65536) = some p.cmd then s.replayStep p 1
  else
    let (va, s) := s.damageVa (s.nearVa p.ctx a)
    s.damagedStep p va

/-- What the reader of an uncorrectable Near line sees. -/
def State.nearReader (s : State) (prn line : Nat) (reader : LineReader) : State :=
  match reader with
  | .step cmd => match s.step? cmd with
    | some p => if p.launched then s.stepNearDamage p (prn * 2 ^ 20 + line * 32) else s
    | none => s
  | .other c => s.cbump c.val 8 3 32
  | .copy _ => s
  | .scrub => s

/-- NEAR_UNCORRECTABLE (R219-R221): a reader's line shows bits in error. A line that decodes is corrected and written
back; an uncorrectable one is poisoned and reported to its reader, or, where it holds a copy of a region map entry, the
other copy is read and it is rewritten (R214). In an isolated cluster no line is poisoned (R590). A COPY finds the poison
when it runs. -/
def execNearUncorrectable (prn : BitVec 15) (line : NearLine) (reader : LineReader) (t : Nat) (s : State) :
    Host.Outcome State Fault Refusal :=
  .next (
    let p := prn.toNat
    let l := line.line.toNat
    if !s.quadrantOn p || s.isolated (prnCluster p) then s
    else
      let s := s.at t
      match s.readLine p l line.flips, mapCopyBad p l with
      | .bad, some _ => s.nearBad p l
      | .bad, none =>
        (s.nearPoisonLine p l).nearReader p l reader
      | _, _ => s.lineRead p l line.flips false)

/-! ### Bulk lines (R250-R257) -/

/-- Channel of a stack that holds a Bulk address: pseudo-channel bits [13:8] xor [19:14], two to a channel (R233). -/
def channelOf (bpa : Nat) : Nat := (bits bpa 13 8 ^^^ bits bpa 19 14) / 2

def stackOf (bpa : Nat) : Nat := bpa / 2 ^ 36

/-- BKI_LAST_ERROR: address, kind 1 corrected, 2 transfer, 3 uncorrectable. -/
def State.bulkLastError (s : State) (bpa kind : Nat) : State := s.dset 0x3070 6 0 (bpa % 2 ^ 39 + kind * 2 ^ 39)

/-- A channel of a stack meets R255: the copy to the stack's spare channel starts, or, with the spare spent, the stack
is Degraded (R256). -/
def State.channelFails (s : State) (stack ch : Nat) : State :=
  if tfind s.bulk.sparing stack = some ch then s
  else if s.dget 0x3070 4 stack = 0xFF ∧ !thas s.bulk.sparing stack then
    ({ s with bulk := { s.bulk with sparing := tput s.bulk.sparing stack ch } }).dset 0x3070 5 stack 1
  else (s.dset 0x3070 5 stack 2).event 8 4 stack ch

/-- A channel of which an uncorrectable line has been found: once its lines of one pass reach the threshold it is
replaced, once in a pass (R255). -/
def State.channelCounts (s : State) (stack ch : Nat) : State :=
  let k := stack * 64 + ch
  if s.dget 0x2700 5 ≤ tget 0 s.bulk.channelUe k ∧ !thas s.bulk.channelMet k then
    ({ s with bulk := { s.bulk with channelMet := tins s.bulk.channelMet k } } : State).channelFails stack ch
  else s

/-- An uncorrectable Bulk line is counted, for its channel once in a pass (R251, R255). -/
def State.bulkBad (s : State) (bpa : Nat) : State :=
  let stack := stackOf bpa
  let k := stack * 64 + channelOf bpa
  let again := thas s.bulk.passLines (bpa / 64)
  let b := { s.bulk with
    passLines := tins s.bulk.passLines (bpa / 64)
    channelUe := if again then s.bulk.channelUe else tput s.bulk.channelUe k (tget 0 s.bulk.channelUe k + 1) }
  ((({ s with bulk := b } : State).dbump 0x3070 2 stack 32).bulkLastError bpa 3).channelCounts stack (channelOf bpa)

/-- An uncorrectable Bulk line is poisoned as well; a line that is poisoned already is reported again (R251). -/
def State.bulkPoisonLine (s : State) (bpa : Nat) : State :=
  ({ s with bulk := { s.bulk with poison := tins s.bulk.poison (bpa / 64) } } : State).bulkBad bpa

/-- Key of a lane of a Bulk address's channel. -/
def laneKey (stack ch lane : Nat) : Nat := (stack * 64 + ch) * 256 + lane

/-- What the check of a Bulk line finds of an access. -/
inductive BulkOutcome where
  | clean
  | corrected
  /-- a retry decoded cleanly, or with one symbol corrected -/
  | transfer (lane : Fin 256) (corrected : Bool)
  | uncorrectable
  | writeCrc (fails : Nat)
  | mesh
deriving DecidableEq, Repr

/-- The code's outcome for a read with symbols in error, none when its check fails: it corrects one symbol and detects two,
and of more it promises nothing, which the model takes as detected (R250; log 55). -/
def symbolsRead (bad : List (Fin 72)) : Option Bool :=
  match bad.dedup with
  | [] => some false
  | [_] => some true
  | _ => none

/-- The outcome of an access: a read whose check fails is made again up to twice, and a poisoned line reads uncorrectable
each time (R250, R251). -/
def State.bulkOutcome (s : State) (bpa : Nat) : BulkRead → BulkOutcome
  | .read a b c lane =>
    if thas s.bulk.poison (bpa / 64) then .uncorrectable
    else match symbolsRead a, symbolsRead b, symbolsRead c with
      | some false, _, _ => .clean
      | some true, _, _ => .corrected
      | none, some x, _ => .transfer lane x
      | none, none, some x => .transfer lane x
      | none, none, none => .uncorrectable
  | .writeCrc n => .writeCrc n
  | .mesh => if thas s.bulk.poison (bpa / 64) then .uncorrectable else .mesh

/-- A corrected symbol: counted by stack, and in BKI_LAST_ERROR (R250). -/
def State.bulkCorrected (s : State) (bpa : Nat) : State := (s.dbump 0x3070 1 (stackOf bpa) 32).bulkLastError bpa 1

/-- What an access to a line shows, beside its data: a corrected symbol and a transfer error are counted, and a line is
poisoned when two retries of a read, or three attempts of a write, have failed (R250, R251). -/
def State.bulkShows (s : State) (bpa : Nat) : BulkOutcome → State
  | .clean => s
  | .corrected => s.bulkCorrected bpa
  | .transfer lane corrected =>
    let k := laneKey (stackOf bpa) (channelOf bpa) lane.val
    let s := if corrected then s.bulkCorrected bpa else s
    ({ s with bulk := { s.bulk with laneErrors := tput s.bulk.laneErrors k (tget 0 s.bulk.laneErrors k + 1) } } : State).bulkLastError bpa 2
  | .uncorrectable => s.bulkPoisonLine bpa
  | .writeCrc fails => if 3 ≤ fails then s.bulkPoisonLine bpa else s
  | .mesh => s

/-- Virtual address under which a context holds a cached translation of a Bulk address, of a 64 KiB or a 2 MiB page. -/
def State.bulkVa (s : State) (c bpa : Nat) : Option Nat :=
  let small := s.bulk.tlb.find? fun kv =>
    decide (kv.1 < 2 ^ 40) && decide (kv.1 / 2 ^ 28 = c) && decide (kv.2 / 4 / 2 ^ 16 = bpa / 2 ^ 16)
  let big := s.bulk.tlb.find? fun kv =>
    decide (2 ^ 40 ≤ kv.1) && decide ((kv.1 - 2 ^ 40) / 2 ^ 23 = c) && decide (kv.2 / 4 / 2 ^ 21 = bpa / 2 ^ 21)
  match small, big with
  | some kv, _ => some (kv.1 % 2 ^ 28 * 2 ^ 16 + bpa % 2 ^ 16)
  | none, some kv => some (kv.1 % 2 ^ 23 * 2 ^ 21 + bpa % 2 ^ 21)
  | none, none => none

/-- A step reads an uncorrectable Bulk line: replayed when it wrote the line itself within a declared output range, else it
fails with a data error (R252). Where no translation of the page is cached, the address it used is a free value (log 55). -/
def State.stepBulkDamage (s : State) (p : Step) (bpa : Nat) : State :=
  let s := s.cbump p.ctx 9 3 32
  if tfind s.bulk.written (bpa / 64) = some p.cmd then s.replayStep p 2
  else
    let v := s.fresh.1.toNat
    match s.bulkVa p.ctx bpa with
    | some va => s.damagedStep p (va / 64 * 64)
    | none => s.fresh.2.damagedStep p ((2 ^ 36 + v % (2 ^ 44 - 2 ^ 36) / 2 ^ 16 * 2 ^ 16 + bpa % 2 ^ 16) / 64 * 64)

/-- The stack's domain is On. -/
def State.stackOn (s : State) (stack : Nat) : Bool := decide (s.domain (80 + stack) = 2)

/-- What the reader of a damaged Bulk line does: a step replays or is damaged; another read of a context is counted. -/
def State.lineDamaged (s : State) (bpa : Nat) : LineReader → State
  | .step cmd => match s.step? cmd with
    | some p => if p.launched then s.stepBulkDamage p bpa else s
    | none => s
  | .other c => s.cbump c.val 9 3 32
  | .copy _ => s
  | .scrub => s

/-- A line damaged on the die mesh is a transfer error of the step it served, which is replayed (R41, R251). -/
def State.meshDamaged (s : State) : LineReader → State
  | .step cmd => match s.step? cmd with
    | some p => if p.launched then s.replayStep p 2 else s
    | none => s
  | _ => s

/-- BULK_UNCORRECTABLE (R250-R252): an access to a line shows what its check finds, and the reader of an uncorrectable line,
or of one damaged on its way, sees its outcome. -/
def execBulkUncorrectable (bpa : BitVec 39) (access : BulkAccess) (t : Nat) (s : State) :
    Host.Outcome State Fault Refusal :=
  .next (
    let a := bpa.toNat
    if !bpaExists a || !s.stackOn (stackOf a) then s
    else
      let o := s.bulkOutcome a access.shows
      let s := (s.at t).bulkShows a o
      match o with
      | .uncorrectable => s.lineDamaged a access.reader
      | .mesh => s.meshDamaged access.reader
      | _ => s)

/-- A pass of a stack's scrubber begins: lines, lanes and channels are counted afresh. -/
def State.beginPass (s : State) (stack : Nat) : State :=
  { s with bulk := { s.bulk with
      channelUe := tclear s.bulk.channelUe (stack * 64) ((stack + 1) * 64)
      passLines := tclear s.bulk.passLines (stack * 2 ^ 30) ((stack + 1) * 2 ^ 30)
      channelMet := tclear s.bulk.channelMet (stack * 64) ((stack + 1) * 64)
      laneErrors := tclear s.bulk.laneErrors (laneKey stack 0 0) (laneKey (stack + 1) 0 0) } }

/-- BULK_SCRUB_LINE: the patrol reads a line; the first line of a stack begins a pass. A write between the read and the
write-back cancels the write-back, and with it the poisoning of an uncorrectable line (R253; log 122). -/
def execBulkScrubLine (bpa : BitVec 39) (read : BulkRead) (raced : Bool) (t : Nat) (s : State) :
    Host.Outcome State Fault Refusal :=
  .next (
    let a := bpa.toNat
    let stack := stackOf a
    if !bpaExists a || !s.stackOn stack then s
    else
      let s := s.at t
      let s := if a % 2 ^ 36 < 64 then s.beginPass stack else s
      let s := { s with bulk := { s.bulk with scrub := tput s.bulk.scrub stack (a % 2 ^ 36 / 64) } }
      let o := s.bulkOutcome a read
      if o = .uncorrectable ∧ raced = true then s.bulkBad a else s.bulkShows a o)

/-- BULK_LANE_REPAIR: a lane with 64 transfer errors in the pass, or one that fails its test at HBM training, is mapped
onto a redundant lane, or, with none left, its channel is replaced (R254, R255). -/
def execBulkLaneRepair (stack : Fin 8) (channel : Fin 32) (lane : Fin 256) (redundantLeft : Bool) (s : State) :
    Host.Outcome State Fault Refusal :=
  .next (
    let k := laneKey stack.val channel.val lane.val
    let training := decide (s.dev.mode = .bringUp) || decide (s.dev.mode = .recovery)
    if !s.stackOn stack.val || !(training || decide (64 ≤ tget 0 s.bulk.laneErrors k)) then s
    else if redundantLeft then
      ({ s with bulk := { s.bulk with
          lanesMapped := tins s.bulk.lanesMapped k, laneErrors := terase s.bulk.laneErrors k } } : State).dbump 0x3070 3 stack.val 16
    else s.channelFails stack.val channel.val)

/-- BULK_CHANNEL_SPARE_DONE: the channel's addresses are redirected to the spare (R255). A copy that a power-down cuts is made again
once the stack is On (log 122). -/
def execBulkChannelSpareDone (stack : Fin 8) (t : Nat) (s : State) : Host.Outcome State Fault Refusal :=
  .next (match tfind s.bulk.sparing stack.val with
    | none => s
    | some ch =>
      if !s.stackOn stack.val then s else
      let b := { s.bulk with
        sparing := terase s.bulk.sparing stack.val
        channelUe := terase s.bulk.channelUe (stack.val * 64 + ch) }
      let s := (({ s.at t with bulk := b } : State).dset 0x3070 4 stack.val ch)
      let s := if s.dget 0x3070 5 stack.val = 1 then s.dset 0x3070 5 stack.val 0 else s
      s.event 8 3 stack.val ch)

/-- BULK_SELF_REFRESH_ENTRY: a stack without access for BKI_IDLE_SR (R257). -/
def execBulkSelfRefreshEntry (stack : Fin 8) (t : Nat) (s : State) : Host.Outcome State Fault Refusal :=
  .next (
    let idle := s.dget 0x2700 4 * 1000
    if s.serving && decide (idle ≠ 0) && s.stackOn stack.val &&
        decide (tget 0 s.bulk.lastAccess stack.val + idle ≤ max s.uptime t) then
      (s.at t).setDomain (80 + stack.val) 1
    else s)

/-! ### Die bridges (R310) -/

/-- BRIDGE_FLIT_ERROR: the flit is resent, or after the third resend the transfer is uncorrectable: the step it served is
replayed, and where it served none that replay could absorb a device recovery follows (R310, R563; log 109). -/
def execBridgeFlitError (edge : Fin 4) (dir : Fin 2) (resends : Fin 4) (cmd : Nat) (t : Nat) (s : State) :
    Host.Outcome State Fault Refusal :=
  .next (
    let e := 2 * edge.val + dir.val
    if !s.powered then s
    else
      let s := s.at t
      if resends.val < 3 then s.dbump 0x3080 1 e 32
      else
        let s := s.dbump 0x3080 2 e 32
        match (s.step? cmd).filter (·.launched) with
        | some p => s.replayStep p 2
        | none => if s.serving then s.startRecovery .hardware waitOf else s)

end Sys2Proof.Machine
end

