-- ==== Sys2Proof/Machine/Store.lean ====
section
/-! DEFINITION. The Store: images and slots, Installation mode, keys, the patrol, and the binds that read it (R258-R272,
R346). -/

namespace Sys2Proof.Machine

/-! ### Slots and chunks (R258, R259) -/

def State.slot (s : State) (k : Nat) : Slot := tget {} s.store.slots k

/-- A slot record changes: the older copy of the directory is written anew, with the next sequence number (R259, R266). It is no
access that turns a Store channel On (R271; DESIGN CHOICE, log 122). -/
def State.setSlot (s : State) (k : Nat) (v : Slot) : State :=
  { s with store := { s.store with
    slots := tset {} s.store.slots k v, sequence := s.store.sequence + 1, older := s.store.slots } }

/-- Bytes of a chunk. -/
def chunkBytes : Nat := 2097152

/-- Stripe row of a slot's row index, through its extents. -/
def stripeRow : List (Nat × Nat) → Nat → Nat
  | [], _ => 0
  | (first, n) :: es, i => if i < n then first + i else stripeRow es (i - n)

/-- Store address of a payload offset: the chunk's row, its stack and the offset within it. -/
def storeAddr (es : List (Nat × Nat)) (off : Nat) : Nat :=
  let c := off / chunkBytes
  stripeRow es (c / 8) * 2 ^ 24 + c % 8 * chunkBytes + off % chunkBytes

/-- Bytes of a chunk as the Store holds them. -/
def State.readChunk (s : State) (es : List (Nat × Nat)) (n : Nat) : Bytes :=
  memReads s.store.mem (storeAddr es (n * chunkBytes)) chunkBytes

/-- An access of a Store stack: its channel is On (R82, R271). -/
def State.touchStore (s : State) (stack : Nat) : State :=
  ({ s with store := { s.store with lastAccess := tput s.store.lastAccess stack s.uptime } }).setDomain (88 + stack) 2

/-- An extent takes its place in a list by first row. -/
def insertRow (e : Nat × Nat) : List (Nat × Nat) → List (Nat × Nat)
  | [] => [e]
  | f :: fs => if e.1 ≤ f.1 then e :: f :: fs else f :: insertRow e fs

/-- First fit: the free runs of stripe rows in ascending order, up to n rows. -/
def firstFit (alloc : List (Nat × Nat)) (n : Nat) : List (Nat × Nat) :=
  let sorted := alloc.foldr insertRow []
  let gaps := (sorted.foldl (fun (x : Nat × List (Nat × Nat)) e => (max x.1 (e.1 + e.2), x.2 ++ [(x.1, e.1 - x.1)])) (0, []))
  let runs := (gaps.2 ++ [(gaps.1, 524288 - gaps.1)]).filter fun r => decide (0 < r.2)
  (runs.foldl (fun (x : Nat × List (Nat × Nat)) r =>
    if x.1 = 0 then x else (x.1 - min x.1 r.2, x.2 ++ [(r.1, min x.1 r.2)])) (n, [])).2

def rowCount (es : List (Nat × Nat)) : Nat := (es.map (·.2)).foldl (· + ·) 0

/-- Extents that slots and the image being written hold. -/
def State.allocated (s : State) : List (Nat × Nat) :=
  s.store.slots.flatMap (·.2.extents) ++ (match s.store.opened with | some o => o.extents | none => [])

/-- STORE_FREE_ROWS. -/
def State.freeRows (s : State) : Nat := 524288 - rowCount s.allocated

/-! ### Images (R260, R261) -/

def sigOffset (m : Bytes) : Nat := field m 40 4
def digestOffset (m : Bytes) : Nat := field m 36 4
def payloadOffset (m : Bytes) : Nat := field m 48 8
def payloadBytes (m : Bytes) : Nat := field m 56 8
def sectionCount (m : Bytes) : Nat := field m 28 4
def imageChunks (m : Bytes) : Nat := field m 32 4
def imageDigest (m : Bytes) (n : Nat) : Bytes := slice m (digestOffset m + 48 * n) 48

def roundUp (v k : Nat) : Nat := (v + k - 1) / k * k

/-- The header of an image, 512 bytes, is as R260 lays it out. -/
def headerOk (layouts : Nat) (m : Bytes) : Bool :=
  let n := sectionCount m
  let c := imageChunks m
  decide (field m 0 4 = 0x49534B56) && (decide (field m 4 2 < 32) && bit layouts (field m 4 2)) &&
    decide (byteAt m 8 ≤ 3) && zeros m 9 7 && decide (field m 16 8 ≠ 0) && decide (1 ≤ n) && decide (n ≤ 4096) &&
    decide (1 ≤ c) && decide (c ≤ 196608) && decide (digestOffset m = roundUp (512 + n * 32) 64) &&
    decide (sigOffset m = digestOffset m + c * 48) && zeros m 44 4 &&
    decide (payloadOffset m = roundUp (sigOffset m + 96) chunkBytes) &&
    decide ((c - 1) * chunkBytes < payloadBytes m) && decide (payloadBytes m ≤ c * chunkBytes) && zeros m 96 416

/-- Section entry i: ID, kind, format, placement, offset, length. -/
def sectionAtImage (m : Bytes) (i : Nat) : Bytes := slice m (512 + 32 * i) 32

def sectionOk (m e : Bytes) : Bool :=
  decide (byteAt e 2 ≤ 2) && (decide (byteAt e 3 ≤ 9) || decide (byteAt e 3 = 0xFF)) && decide (byteAt e 4 ≤ 1) &&
    zeros e 5 3 && decide (field e 8 8 % 64 = 0) && decide (field e 8 8 + field e 16 8 ≤ payloadBytes m) && zeros e 24 8

/-- The section table: every entry in range, the IDs distinct. -/
def sectionsOk (m : Bytes) : Bool :=
  let es := (List.range (sectionCount m)).map (sectionAtImage m)
  es.all (sectionOk m) && decide (es.map fun e => field e 0 2).Nodup

/-- State of a key slot: 0 empty, 1 active, 2 revoked. -/
def State.keyState (s : State) (k : Nat) : Nat := tget (if k = 0 then 1 else 0) s.store.keyState k

/-- STORE_KEY_0, which is not printed: a key that meets the checks of R263 (R634). -/
def storeKey0 : Bytes :=
  let k := (List.finRange 97).map Config.storeKey0
  if keyOk k then k else 4 :: (beBytes 48 p384g.1 ++ beBytes 48 p384g.2)

/-- The public key of a slot. -/
def State.storeKey (s : State) (k : Nat) : Bytes := if k = 0 then storeKey0 else tget [] s.store.keys k

/-- What the device checks once the manifest and its signature have come, in the order of R265: the STORE_RESULT code that
refuses it, none when it passes. -/
def State.manifestFails (s : State) (m : Bytes) : Option Nat :=
  let key := byteAt m 8
  if !headerOk (s.dget 0x7000 8) (m.take 512) || !sectionsOk m then some 1
  else if Config.featureLevel < field m 6 2 then some 2
  else if s.keyState key ≠ 1 then some 3
  else if !ecdsaOk (s.storeKey key) (m.take (sigOffset m)) (slice m (sigOffset m) 96) then some 4
  else if s.freeRows < (imageChunks m + 7) / 8 then some 6
  else if 256 < (firstFit s.allocated ((imageChunks m + 7) / 8)).length then some 6
  else none

/-! ### Writing a slot (R264-R268) -/

/-- STORE_RESULT. -/
def State.storeResult (s : State) (slot code : Nat) : State := s.dset 0x7000 6 0 (slot % 65536 + code * 65536)

/-- The open slot is closed without a commit: the old record stays in force. -/
def State.endOpen (s : State) (slot code : Nat) : State :=
  ({ s with store := { s.store with opened := none } }).storeResult slot code

def State.setOpened (s : State) (o : OpenSlot) : State := { s with store := { s.store with opened := some o } }

/-- Wear of a stack in parts per thousand of 3,000 TiB written (R268). -/
def State.wear (s : State) (stack : Nat) : Nat := tget 0 s.store.wear stack * 1000 / (3000 * 524288)

/-- STORE_SPARE_BLOCKS of a stack: what the manufacturing test left, at most 18,350, less the blocks spent (R268, R273). -/
def State.spareBlocks (s : State) (stack : Nat) : Nat :=
  (if h : stack < 8 then min 18350 (Config.factorySpareBlocks ⟨stack, h⟩).toNat else 0) - tget 0 s.store.spent stack

/-- A block of a stack is written: it is one block of wear, and whether a spare one replaces it nothing fixes; the wear is
reported at 800 and at 1,000 (R268). -/
def State.programBlock (s : State) (stack : Nat) : State :=
  let old := s.wear stack
  let worn := min (s.fresh.1.toNat % 2) (s.spareBlocks stack)
  let s := s.fresh.2
  let s := { s with store := { s.store with
    wear := tput s.store.wear stack (tget 0 s.store.wear stack + 1)
    spent := tput s.store.spent stack (tget 0 s.store.spent stack + worn) } }
  let new := s.wear stack
  if old < 800 ∧ 800 ≤ new then s.event 8 6 stack new
  else if old < 1000 ∧ 1000 ≤ new then s.event 8 6 stack new else s

/-- The block of a chunk, as stripe row * 8 + stack. -/
def blockOf (es : List (Nat × Nat)) (n : Nat) : Nat := stripeRow es (n / 8) * 8 + n % 8

/-- One chunk is written to its stack. -/
def State.writeChunk (s : State) (es : List (Nat × Nat)) (n : Nat) (b : Bytes) : State :=
  let v := { s.store with
    mem := memWrites s.store.mem (storeAddr es (n * chunkBytes)) b
    corrected := terase s.store.corrected (blockOf es n) }
  (({ s with store := v } : State).touchStore (n % 8)).programBlock (n % 8)

/-- A chunk of the image has come whole: its digest is checked and it is written. -/
def State.chunkCame (s : State) (o : OpenSlot) (b : Bytes) : State × Option Nat :=
  let n := o.written
  if sha384 b ≠ imageDigest o.head n then (((s.endOpen o.slot 5).dset 0x7000 7 0 n), some 5)
  else if s.spareBlocks (n % 8) = 0 then (s.endOpen o.slot 10, some 10)
  else ((s.setOpened { o with written := n + 1, partialChunk := [] }).writeChunk o.extents n b, none)

/-- The next bytes of the image arrive in order: the manifest is checked once it and its signature have come whole, each
chunk at its last byte; the first failure ends the open and gives its code. The bytes left, or how the transfer ends. -/
def State.feedPart (s : State) (bs : Bytes) : State × (Option Nat ⊕ Bytes) :=
  match s.store.opened, bs with
  | none, _ => (s, .inl (some 12))
  | _, [] => (s, .inl none)
  | some o, _ =>
    let take := fun (n : Nat) => { o with received := o.received + min n bs.length }
    if !o.checked then
      let top := if o.received < 512 then 512 else max 512 (sigOffset o.head + 96)
      let n := top - o.received
      let h := o.head ++ bs.take n
      if h.length < top then (s.setOpened { take n with head := h }, .inl none)
      else if o.received < 512 ∧ 512 < sigOffset h + 96 then (s.setOpened { take n with head := h }, .inr (bs.drop n))
      else match s.manifestFails h with
        | some e => (s.endOpen o.slot e, .inl (some e))
        | none =>
          let c := imageChunks h
          (s.setOpened { take n with
            head := h, checked := true, chunks := c, extents := firstFit s.allocated ((c + 7) / 8) }, .inr (bs.drop n))
    else if o.received < payloadOffset o.head then
      let n := payloadOffset o.head - o.received
      (s.setOpened (take n), .inr (bs.drop n))
    else if o.chunks ≤ o.written then (s.endOpen o.slot 8, .inl (some 8))
    else
      let n := chunkBytes - o.partialChunk.length
      let b := o.partialChunk ++ bs.take n
      if b.length < chunkBytes then (s.setOpened { take n with partialChunk := b }, .inl none)
      else match s.chunkCame (take n) b with
        | (s, some e) => (s, .inl (some e))
        | (s, none) => (s, .inr (bs.drop n))

/-- Bytes of the image arrive, part by part. -/
def State.feed : Nat → State → Bytes → State × Option Nat
  | 0, s, _ => (s, none)
  | k + 1, s, bs => match s.feedPart bs with
    | (s, .inl e) => (s, e)
    | (s, .inr bs) => State.feed k s bs

/-- A COPY into the open slot at an image offset: none, or the STORE_RESULT code with which it fails. -/
def State.storeIn (s : State) (off : Nat) (bs : Bytes) : State × Option Nat :=
  if s.dget 0x7000 2 ≠ 2 then (s, some 9)
  else match s.store.opened with
    | none => (s, some 12)
    | some o => if off ≠ o.received then (s.endOpen o.slot 8, some 8) else s.feed (bs.length + 1) bs

/-- A write of STORE_OPEN. -/
def State.writeStoreOpen (s : State) (k : Nat) : Written :=
  if 1023 < k then (s, kRange)
  else if s.dget 0x7000 2 ≠ 2 then (s.storeResult k 9, kState)
  else if s.store.opened.isSome then (s.storeResult k 12, kState)
  else if s.slotBound k then (s.storeResult k 7, kState)
  else (({ s with store := { s.store with opened := some { slot := k } } }).storeResult k 0, kOk)

/-- The record of a committed image. -/
def newSlot (old : Slot) (o : OpenSlot) : Slot :=
  { modelId := BitVec.ofNat 64 (field o.head 16 8), generation := BitVec.ofNat 32 (field o.head 24 4), chunks := o.chunks
    state := 2, keyId := byteAt o.head 8, featureMin := field o.head 6 2, writes := (old.writes + 1) % 2 ^ 32
    extents := o.extents, manifest := o.head, keyRevoked := o.keyRevoked }

/-- A write of STORE_COMMIT; one that finds the image incomplete is answered STATE (R267; DESIGN CHOICE, log 123). -/
def State.writeStoreCommit (s : State) (k : Nat) : Written :=
  if 1023 < k then (s, kRange)
  else if s.dget 0x7000 2 ≠ 2 then (s.storeResult k 9, kState)
  else match s.store.opened with
    | none => (s.storeResult k 12, kState)
    | some o =>
      if o.slot ≠ k then (s.storeResult k 12, kState)
      else if !o.checked || decide (o.written < o.chunks) then
        ((s.endOpen k 11).dset 0x7000 7 0 o.written, kState)
      else ((s.setSlot k (newSlot (s.slot k) o)).endOpen k 0, kOk)

/-- A write of STORE_ERASE. -/
def State.writeStoreErase (s : State) (k : Nat) : Written :=
  if 1023 < k then (s, kRange)
  else if s.dget 0x7000 2 ≠ 2 then (s.storeResult k 9, kState)
  else if s.slotBound k || (s.store.opened.any fun o => decide (o.slot = k)) then (s.storeResult k 7, kState)
  else ((s.setSlot k { writes := (s.slot k).writes }).storeResult k 0, kOk)

/-- A LAUNCH_STEP or BIND_MODEL of a tenant that has not started when Installation mode is entered completes with
SERVICE_STOPPED; steps that have launched run to commit (R264, R425). -/
def State.stopService (s : State) : State :=
  s.cmds.foldl (fun s c =>
    let idle := decide (c.stage ≠ .running) || (s.step? c.id).any fun p => !p.latched
    if c.ctx = 256 ∨ (c.op ≠ 1 ∧ c.op ≠ 4) ∨ !idle then s
    else match s.step? c.id with
      | some p => s.failEnd p stStopped 0
      | none => s.completeOn c stStopped 0) s

/-- A write of INSTALL_MODE (R264). -/
def State.writeInstallMode (s : State) (v : Nat) : Written :=
  if 1 < v then (s, kRange)
  else if v = 0 then (s.leaveInstall, kOk)
  else
    let s := s.dset 0x7000 1 0 1
    (if s.dget 0x7000 2 = 0 then ((s.dset 0x7000 2 0 1).stopService).nextSearch else s, kOk)

/-- INSTALL_MODE_ACTIVE: no tenant step executes and no bind is in progress (R264). -/
def execInstallModeActive (s : State) : Host.Outcome State Fault Refusal :=
  .next (
    if decide (s.dget 0x7000 2 = 1) && !(s.steps.any fun p => p.launched && decide (p.ctx < 256)) && s.serve.binds.isEmpty then
      s.dset 0x7000 2 0 2
    else s)

/-- A write of a key slot (R263); a key that was revoked in any slot may be written again (DESIGN CHOICE, log 123). -/
def State.writeStoreKey (s : State) (k : Nat) (key : Bytes) : Written :=
  if s.dget 0x7000 2 ≠ 2 then (s, kState)
  else if !keyOk key then (s, kRange)
  else
    let v := { s.store with keys := tput s.store.keys k key, keyState := tput s.store.keyState k 1 }
    ({ s with store := v }, kOk)

/-- A write of STORE_KEY_REVOKE: the slot is revoked, and the images whose KEY_ID is the slot can no more be bound, those signed by
an earlier key of it too (R263; DESIGN CHOICE, log 123). -/
def State.writeKeyRevoke (s : State) (k : Nat) : Written :=
  if 3 < k then (s, kRange)
  else if s.dget 0x7000 2 ≠ 2 then (s, kState)
  else
    let v := { s.store with
      keyState := tput s.store.keyState k 2
      slots := s.store.slots.map fun (kv : Nat × Slot) =>
        (kv.1, if kv.2.state ≠ 0 ∧ kv.2.keyId = k then { kv.2 with keyRevoked := true } else kv.2)
      opened := s.store.opened.map fun o =>
        if o.checked ∧ byteAt o.head 8 = k then { o with keyRevoked := true } else o }
    ({ s with store := v }, kOk)

/-- A Store slot record (R259); a slot open for writing reads as Writing. -/
def State.slotRecord (s : State) (k : Nat) : Bytes :=
  let v := s.slot k
  let st := if s.store.opened.any fun o => decide (o.slot = k) then 1 else v.state
  leBytes 8 v.modelId.toNat ++ leBytes 4 v.generation.toNat ++ leBytes 4 v.chunks ++ leBytes 1 st ++ leBytes 1 v.keyId ++
    leBytes 2 v.extents.length ++ leBytes 2 v.featureMin ++ leBytes 2 0 ++ leBytes 4 v.writes ++ leBytes 4 0

/-! ### Patrol and idle channels (R269, R271) -/

/-- A bind that runs has chunks left to read on a stack. -/
def State.bindReads (s : State) (stack : Nat) : Bool :=
  (s.serve.binds.take 8).any fun b => b.left.any fun n => decide (n % 8 = stack)

/-- A slot becomes Suspect, with the event that names it. -/
def State.suspectSlot (s : State) (k chunk : Nat) : State :=
  (s.setSlot k { s.slot k with state := 3 }).event 3 2 k chunk

/-- The bytes of a chunk answer its digest, at one of the two reads. -/
def State.chunkGood (s : State) (v : Slot) (chunk : Nat) (read : ChunkRead) : Bool :=
  decide (read ≠ .neither) && decide (sha384 (s.readChunk v.extents chunk) = imageDigest v.manifest chunk)

/-- The patrol counts the corrected bits of a block, and refreshes it when they are high, on a stack without a spare block too
(R269; DESIGN CHOICE, log 122). -/
def State.refresh (s : State) (v : Slot) (chunk corrected : Nat) : State :=
  let k := blockOf v.extents chunk
  let n := tget 0 s.store.corrected k + corrected
  if Config.refreshAt n then
    ({ s with store := { s.store with corrected := terase s.store.corrected k } } : State).programBlock (chunk % 8)
  else { s with store := { s.store with corrected := tset 0 s.store.corrected k n } }

/-- STORE_PATROL_CHUNK: the chunk is read and checked; when both reads disagree with its digest, the slot is Suspect. -/
def execStorePatrolChunk (slot : Fin 1024) (check : PatrolCheck) (t : Nat) (s : State) : Host.Outcome State Fault Refusal :=
  .next (
    let chunk := check.chunk
    let v := s.slot slot.val
    if !s.serving || decide (v.state ≠ 2) || decide (v.chunks ≤ chunk) || s.bindReads (chunk % 8) then s
    else
      let s := ((s.at t).touchStore (chunk % 8)).refresh v chunk check.corrected
      if s.chunkGood v chunk check.read then s else s.suspectSlot slot.val chunk)

/-- STORE_CHANNEL_IDLE_OFF (R271). -/
def execStoreChannelIdleOff (stack : Fin 8) (t : Nat) (s : State) : Host.Outcome State Fault Refusal :=
  .next (
    let last := tget 0 s.store.lastAccess stack.val
    if s.serving && decide (s.domain (88 + stack.val) = 2) &&
        decide (last + s.dget 0x7000 10 * 1000000 ≤ max s.uptime t) then (s.at t).setDomain (88 + stack.val) 0
    else s)

/-! ### Binds (R270-R272, R346) -/

/-- The first entry of a section map that is malformed, outside its window or at odds with PLACEMENT, and then the
check of the whole map, each with its status and VALUE. -/
def entryFails (m : Bytes) (i : Nat) (e : Bytes) : Option (Nat × Nat) :=
  let near := bit (byteAt e 2) 0
  let bad := (if byteAt e 2 ≤ 1 then [] else [2]) ++ nonZero e 0 3 7 ++
    (if field e 8 8 % 64 = 0 then [] else [8]) ++
    (if near && decide (field e 16 8 % 64 ≠ 0) then [16] else if !near && decide (field e 16 8 ≠ 0) then [16] else []) ++
    nonZero e 0 24 31
  let sec := ((List.range (sectionCount m)).map (sectionAtImage m)).find? fun x => decide (field x 0 2 = field e 0 2)
  let len := match sec with | some x => field x 16 8 | none => 1
  let inside := fun (w va : Nat) => inWindows [w] va && inWindows [w] (va + (len - 1))
  match lowest bad with
  | some off => some (stMalformed, off + 2 ^ 16 + i * 2 ^ 32)
  | none =>
    if !inside 1 (field e 8 8) then some (stAddress, field e 8 8)
    else if near && !inside 0 (field e 16 8) then some (stAddress, field e 16 8)
    else match sec with
      | some x => if near = decide (byteAt x 4 = 0) then none else some (stBind, 6 + i * 2 ^ 32)
      | none => none

/-- The map lists each section exactly once, or the sub-code 4 with the entry at fault. -/
def mapFails (m : Bytes) (es : List Bytes) : Option (Nat × Nat) :=
  let ids := (List.range (sectionCount m)).map fun i => field (sectionAtImage m i) 0 2
  let named := es.map fun e => field e 0 2
  match named.zipIdx.find? fun (x : Nat × Nat) => !ids.contains x.1 || (named.take x.2).contains x.1 with
  | some x => some (stBind, 4 + x.2 * 2 ^ 32)
  | none => if ids.all fun i => named.contains i then none else some (stBind, 4 + es.length * 2 ^ 32)

/-- The sections of a bind. -/
def bindSections (m : Bytes) (es : List Bytes) : List BindSection :=
  es.filterMap fun e =>
    (((List.range (sectionCount m)).map (sectionAtImage m)).find? fun x => decide (field x 0 2 = field e 0 2)).map fun x =>
      { offset := field x 8 8, length := field x 16 8, bulkVa := field e 8 8
        nearVa := if bit (byteAt e 2) 0 then some (field e 16 8) else none }

/-- The checks of R346, in their order: the handle, the manifest and the map entries, or how the bind fails. -/
def State.bindChecks (s : State) (c : Cmd) : Except Fail (Nat × Bytes × List Bytes) := do
  ensure (decide (s.dget 0x7000 2 = 0)) stStopped 0
  let h ← match s.freeHandle with
    | some h => .ok h
    | none => .error { status := stResource, value := 0 }
  let v := s.slot (c.at 8 2)
  ensure (decide (v.state = 2)) stBind 1
  ensure (decide (s.keyState v.keyId = 1) && !v.keyRevoked) stBind 2
  ensure (decide (v.featureMin ≤ Config.featureLevel)) stBind 3
  let n := c.at 10 2
  let b ← s.readOr c.ctx (c.at 16 8) (32 * n)
  let es := (List.range n).map fun i => slice b (32 * i) 32
  match es.zipIdx.findSome? fun (x : Bytes × Nat) => entryFails v.manifest x.2 x.1 with
  | some f => .error { status := f.1, value := f.2 }
  | none => match mapFails v.manifest es with
    | some f => .error { status := f.1, value := f.2 }
    | none => .ok (h, v.manifest, es)

/-- A range of the Near window touches a pool region of the context's pool that the map names (R370). -/
def State.onPool (s : State) (c va n : Nat) : Bool :=
  (pieces (2 ^ 20) (n / 2 ^ 20 + 2) va n).any fun x =>
    decide (windowOf x.1 = 0) && (s.mapEntry c (x.1 / 2 ^ 20)).any fun e =>
      (s.prnPool e.prn).isSome && decide (s.prnPool e.prn = s.attached c)

/-- A command with such ranges waits for the grant, or goes on under it, in which case the grant stays with its context until
it has completed (R370, R382). -/
def State.underGrant (s : State) (c : Cmd) (pooled : Bool) (go : Cmd → State) : State :=
  if pooled && !s.holdsGrant c.ctx then s.awaitGrant c else go { c with waited := c.waited || pooled }

/-- n free bytes. -/
def State.freeBytes (s : State) (n : Nat) : Bytes × State :=
  ((List.range n).map fun i => (Config.freeValue (s.free + i)).setWidth 8, { s with free := s.free + n })

/-- A byte at a place is undefined to every reader until a command ends. -/
def State.undefinePlace (s : State) (cmd : Nat) : Place → State
  | .near a => { s with near := { s.near with uncommitted := tput s.near.uncommitted a cmd } }
  | .bulk a => { s with bulk := { s.bulk with uncommitted := tput s.bulk.uncommitted a cmd } }
  | .host a => { s with hostUncommitted := tput s.hostUncommitted a cmd }
  | .remote _ _ => s

/-- Memory that is undefined until a command ends, where it is mapped. -/
def State.undefine (s : State) (c cmd va n : Nat) : State :=
  (List.range n).foldl (fun s i => match s.place c (va + i) true with
    | .ok p => s.undefinePlace cmd p
    | _ => s) s

/-- The destinations of a bind are undefined from its start to its completion (R270). -/
def State.undefineSection (s : State) (c cmd : Nat) (x : BindSection) : State :=
  let s := s.undefine c cmd x.bulkVa x.length
  match x.nearVa with
  | some va => s.undefine c cmd va x.length
  | none => s

/-- The destinations of a bind that has ended well hold the image. -/
def State.define (s : State) (cmd : Nat) : State :=
  { s with
    near := { s.near with uncommitted := notBy s.near.uncommitted cmd }
    bulk := { s.bulk with uncommitted := notBy s.bulk.uncommitted cmd }
    hostUncommitted := notBy s.hostUncommitted cmd }

/-- The sections that the readable map of a refused bind names. -/
def State.refusedSections (s : State) (c : Cmd) : List BindSection :=
  let m := (s.slot (c.at 8 2)).manifest
  match s.read c.ctx (c.at 16 8) (32 * c.at 10 2) with
  | .ok b => bindSections m (((List.range (c.at 10 2)).map fun i => slice b (32 * i) 32).filter fun e => (entryFails m 0 e).isNone)
  | _ => []

/-- A bind whose slot, key or Feature Level fails leaves its destinations undefined (R272). -/
def State.refuseBind (s : State) (c : Cmd) (f : Fail) : State :=
  let s := if f.status = stBind ∧ f.value ≤ 3 then
      ((s.refusedSections c).foldl (fun s x => s.undefineSection c.ctx c.id x) s).clearWritten c.id
    else s
  (s.noteFail c.ctx f).completeOn c f.status f.value

/-- BIND_MODEL: checked, then a handle in Binding and the chunks to read. -/
def execBindModel (cmd : Nat) (s : State) : Host.Outcome State Fault Refusal :=
  .next (match s.starting cmd 4 with
    | none => s
    | some c => match s.bindChecks c with
      | .error f => (s.accessed otherUnit c.ctx (c.at 16 8) (32 * c.at 10 2)).refuseBind c f
      | .ok (h, m, es) =>
        let xs := bindSections m es
        s.underGrant c (xs.any fun x => x.nearVa.any fun va => s.onPool c.ctx va x.length) fun c =>
          let v := s.slot (c.at 8 2)
          let b : Binding := { owner := c.ctx, slot := c.at 8 2, state := .binding, modelId := v.modelId
                               generation := v.generation, nearSections := xs.any fun x => x.nearVa.isSome }
          let r : BindRun := { handle := h, cmd := cmd, ctx := c.ctx, slot := c.at 8 2, sections := xs
                               left := List.range v.chunks }
          let s := s.setBinding h b
          let s := { s with serve := { s.serve with binds := s.serve.binds ++ [r] } }
          xs.foldl (fun s x => s.undefineSection c.ctx c.id x)
            ((s.accessed otherUnit c.ctx (c.at 16 8) (32 * c.at 10 2)).stage c .running))

/-- A bind is over: its handle is Bound and its destinations hold the image, or its handle is Free again and they are
undefined (R270, R272). -/
def State.endBind (s : State) (r : BindRun) (status value : Nat) : State :=
  let s := s.leaveBinds fun b => decide (b.handle = r.handle)
  let s := if status = 0 then s.define r.cmd else s.clearWritten r.cmd
  let s := match s.binding r.handle with
    | some b =>
      if status = 0 then s.setBinding r.handle { b with state := .bound }
      else { s with serve := { s.serve with bindings := terase s.serve.bindings r.handle } }
    | none => s
  match s.cmd r.cmd with
  | some c => s.completeOn c status value
  | none => s

/-- Parts of a section that lie in a chunk: offset within the section, and length. -/
def BindSection.part (x : BindSection) (n : Nat) : Nat × Nat :=
  let lo := max x.offset (n * chunkBytes)
  let hi := min (x.offset + x.length) ((n + 1) * chunkBytes)
  (lo - x.offset, hi - lo)

/-- Bytes of a bind reach a destination, up to a fault, and stay undefined to every reader (R272). -/
def State.bindWrite (s : State) (r : BindRun) (va : Nat) (bs : Bytes) : State × Option Miss :=
  let w := s.writes r.ctx none va bs
  (w.1.undefine r.ctx r.cmd va bs.length, w.2)

/-- The section bytes of a chunk reach their Bulk destinations; the first fault met (R270 step 3). -/
def State.bindParts (s : State) (r : BindRun) (es : List (Nat × Nat)) (n : Nat) : List BindSection → State × Option Miss
  | [] => (s, none)
  | x :: xs =>
    let (off, len) := x.part n
    let bs := memReads s.store.mem (storeAddr es (x.offset + off)) len
    match s.bindWrite r (x.bulkVa + off) bs with
    | (s, some m) => (s, some m)
    | (s, none) => s.bindParts r es n xs

/-- Why a copy into Near stops: the status and VALUE of the bind, and the fault. -/
abbrev BindStop := Nat × Nat × Option Miss

/-- A bind's write stops at a translation fault, or at an isolated cluster's region, an uncorrectable line (R272, R590). -/
def State.bindStop (s : State) (r : BindRun) (m : Miss) : State × Option BindStop :=
  if m.kind = 0 then (s.noteDamage r.ctx m.va, some (stData, m.va, none)) else (s, some (stTranslation, missValue m, some m))

/-- The Near-resident bytes of a chunk go from Bulk into Near; what stopped it (R270 step 4, R272, R346). -/
def State.copyParts (s : State) (r : BindRun) (n : Nat) : List BindSection → State × Option BindStop
  | [] => (s, none)
  | x :: xs => match x.nearVa with
    | none => s.copyParts r n xs
    | some va =>
      let (off, len) := x.part n
      match (s.ownView r.cmd).read r.ctx (x.bulkVa + off) len with
      | .damaged a => ((s.accessed otherUnit r.ctx (x.bulkVa + off) len).noteDamage r.ctx a, some (stData, a / 64 * 64, none))
      | .miss m => (s.accessed otherUnit r.ctx (x.bulkVa + off) len, some (stTranslation, missValue m, some m))
      | .ok bs => match (s.accessed otherUnit r.ctx (x.bulkVa + off) len).bindWrite r (va + off) bs with
        | (s, some m) => s.bindStop r m
        | (s, none) => s.copyParts r n xs

/-- A chunk's copy into Near waits for a frozen cluster (R276). -/
def State.copyFrozen (s : State) (r : BindRun) (n : Nat) : Bool :=
  r.sections.any fun x => x.nearVa.any fun va => decide (0 < (x.part n).2) && s.waitsFrozen r.ctx (va + (x.part n).1) (x.part n).2

def State.setBindRun (s : State) (r : BindRun) : State :=
  { s with serve := { s.serve with binds := s.serve.binds.map fun b => if b.handle = r.handle then r else b } }

/-- The chunks that stand in Bulk are copied into Near, but for those that wait; false when the bind has failed. -/
def State.copyChunks (s : State) (r : BindRun) : List Nat → State × Bool
  | [] => (s, true)
  | n :: ns =>
    if s.copyFrozen r n then s.copyChunks r ns
    else match s.copyParts r n r.sections with
      | (s, some (st, v, m)) => (((m.map (s.noteMiss r.ctx ·)).getD s).endBind r st v, false)
      | (s, none) =>
        let r := { r with toCopy := r.toCopy.filter fun i => decide (i ≠ n) }
        (s.setBindRun r).copyChunks r ns

/-- The bind of a handle that runs: eight run together, further ones wait. -/
def State.runningBind (s : State) (h : Nat) : Option BindRun := (s.serve.binds.take 8).find? fun b => decide (b.handle = h)

/-- Whose turn it is on a stack: the first bind after the one that read there last, in the order of the running binds, that
has a chunk left on it (R271). -/
def State.turnOf (s : State) (stack : Nat) : Option Nat :=
  let run := s.serve.binds.take 8
  let after := (run.dropWhile fun b => decide (b.handle + 1 ≠ tget 0 s.serve.turns stack)).drop 1
  ((after ++ run).find? fun b => b.left.any fun n => decide (n % 8 = stack)).map (·.handle)

/-- A bind reads a stack in its turn (R271). -/
def State.takeTurn (s : State) (stack handle : Nat) : State :=
  let s := s.touchStore stack
  { s with serve := { s.serve with turns := tput s.serve.turns stack (handle + 1) } }

/-- BIND_CHUNK: the next chunk of its stack is read in its bind's turn, checked and written to Bulk, and the chunks before
it go on into Near; a chunk that fails its digest on both reads makes its slot Suspect (R270-R272). -/
def execBindChunk (handle : Fin 4096) (check : ChunkCheck) (t : Nat) (s : State) : Host.Outcome State Fault Refusal :=
  let chunk := check.chunk
  .next (match s.runningBind handle.val with
    | none => s
    | some r =>
      if !r.left.contains chunk || (r.left.any fun n => decide (n % 8 = chunk % 8) && decide (n < chunk)) ||
          decide (s.turnOf (chunk % 8) ≠ some r.handle) then s
      else
        match (s.at t).copyChunks r r.toCopy with
        | (s, false) => s
        | (s, true) =>
          let v := s.slot r.slot
          let s := s.takeTurn (chunk % 8) r.handle
          if !s.chunkGood v chunk check.read then (s.suspectSlot r.slot chunk).endBind r stBind 5
          else match s.bindParts r v.extents chunk r.sections, s.runningBind handle.val with
            | (s, some m), _ => match s.bindStop r m with
              | (s, some (st, v, m)) => (((m.map (s.noteMiss r.ctx ·)).getD s).endBind r st v)
              | (s, none) => s
            | (s, none), some r =>
              s.setBindRun { r with left := r.left.filter fun n => decide (n ≠ chunk), toCopy := r.toCopy ++ [chunk] }
            | (s, none), none => s)

/-- BIND_COMPLETE: every chunk has been read, written and copied; the destinations hold the image (R270). -/
def execBindComplete (handle : Fin 4096) (t : Nat) (s : State) : Host.Outcome State Fault Refusal :=
  .next (match s.runningBind handle.val with
    | none => s
    | some r =>
      if !r.left.isEmpty then s
      else match (s.at t).copyChunks r r.toCopy with
        | (s, false) => s
        | (s, true) =>
          if s.runningBind handle.val |>.any fun r => !r.toCopy.isEmpty then s
          else s.endBind r 0 (r.handle + (s.slot r.slot).generation.toNat * 2 ^ 32))

end Sys2Proof.Machine
end

