-- ==== Sys2Proof/Machine/Copy.lean ====
section
/-! DEFINITION. COPY: between windows, into the open Store slot, and with parts in the Remote window (R344, R476). -/

namespace Sys2Proof.Machine

/-! ### The ranges of a COPY -/

/-- Two places of n and m bytes share a byte. -/
def placesMeet (x y : Place × Nat) : Bool :=
  let meet := fun (a b : Nat) => decide (a < b + y.2) && decide (b < a + x.2)
  match x.1, y.1 with
  | .near a, .near b => meet a b
  | .bulk a, .bulk b => meet a b
  | .host a, .host b => meet a b
  | .remote d a, .remote e b => decide (d = e) && meet a b
  | _, _ => false

/-- The translated pieces of a range. -/
def State.places (s : State) (c va n : Nat) (write : Bool) : List (Place × Nat) :=
  (pieces 4096 (n / 4096 + 2) va n).filterMap fun x => match s.place c x.1 write with
    | .ok p => some (p, x.2)
    | _ => none

/-- Two different addresses of the two ranges map the same memory. -/
def State.aliased (s : State) (c src dst n : Nat) : Bool :=
  (s.places c src n false).any fun x => (s.places c dst n true).any (placesMeet x)

/-- The part of a range that lies in the Remote window, cut by device: address and length. -/
def remoteParts (va n : Nat) : List (Nat × Nat) :=
  let a := max va remoteBase
  pieces (2 ^ 40) (n / 2 ^ 40 + 2) a (va + n - a)

/-- Bytes of a COPY before the Remote window. -/
def localLen (va n : Nat) : Nat := min n (remoteBase - va)

/-! ### Reading and writing the bytes -/

/-- Why the bytes of a COPY stop, at an offset: its status, VALUE and translation fault. -/
structure CopyStop where
  off : Nat
  status : Nat
  value : Nat
  miss : Option Miss := none
deriving DecidableEq, Repr

/-- The byte at an offset of the Remote part, as a READ brought it. -/
def remoteByte (parts : Tab Bytes) (i : Nat) : Byte :=
  match parts.find? fun kv => decide (kv.1 ≤ i) && decide (i < kv.1 + kv.2.length) with
  | some kv => kv.2.getD (i - kv.1) 0
  | none => 0

/-- A COPY stops at a translation fault, or at a write that meets an uncorrectable line (R344, R590). -/
def stopMiss (off : Nat) (m : Miss) : CopyStop :=
  if m.kind = 0 then { off := off, status := stData, value := off, miss := some m }
  else { off := off, status := stTranslation, value := missValue m, miss := some m }

/-- Source bytes from an offset on, up to the first that cannot be read. -/
def State.gather (s : State) (c src : Nat) (parts : Tab Bytes) : Nat → Nat → Bytes × Option CopyStop
  | _, 0 => ([], none)
  | i, n + 1 =>
    if remoteBase ≤ src + i then
      let (bs, e) := s.gather c src parts (i + 1) n
      (remoteByte parts i :: bs, e)
    else match s.readByte c (src + i) with
      | .ok b =>
        let (bs, e) := s.gather c src parts (i + 1) n
        (b :: bs, e)
      | .miss m => ([], some (stopMiss i m))
      | .damaged _ => ([], some { off := i, status := stData, value := i })

/-- After the failing offset the destination is undefined: each byte that is mapped and whose source is not damaged
holds a free value. -/
def State.undefinedTail (s : State) (c src dst : Nat) : Nat → Nat → State
  | _, 0 => s
  | i, n + 1 =>
    let hurt := match s.readByte c (src + i) with | .damaged _ => true | _ => false
    let s := if hurt || decide (remoteBase ≤ dst + i) then s
      else (s.fresh.2.writes c none (dst + i) [s.fresh.1.setWidth 8]).1
    s.undefinedTail c src dst (i + 1) n

/-- Writes the Remote part of the destination: the ports used, or the offset of the piece that could not be sent. -/
def State.sendParts (s : State) (c dst : Nat) (bs : Bytes) : List (Nat × Nat) → State × List Nat × Option CopyStop
  | [] => (s, [], none)
  | (a, n) :: ps =>
    let (d, off) := remoteOf a
    let (s, ks, ok) := s.remoteWrite c d off (slice bs (a - dst) n)
    if ok then
      let (s, ks', e) := s.sendParts c dst bs ps
      (s, ks ++ ks', e)
    else (s, ks, some (stopMiss (a - dst) (unreachable a)))

/-- Puts the bytes of a COPY at the destination, those before the first failing offset: the ports to flush, and the
stop. -/
def State.putBytes (s : State) (c : Cmd) (parts : Tab Bytes) (failed : Option CopyStop) : State × List Nat × Option CopyStop :=
  let src := c.at 8 8
  let dst := c.at 16 8
  let n := c.at 24 8
  let limit := match failed with | some f => min f.off n | none => n
  let (bs, stop) := s.gather c.ctx src parts 0 limit
  let stop := match stop with | some e => some e | none => failed
  let (bs, s) := if s.aliased c.ctx src dst n then s.freeBytes bs.length else (bs, s)
  let s := s.pathEvents otherUnit c.ctx dst (localLen dst n) 1
  let (s, ks, stop) := match s.writeFrom otherUnit c.ctx none dst bs.length dst (bs.take (localLen dst n)) with
    | (s, some m) => (s, [], some (stopMiss (m.va - dst) m))
    | (s, none) =>
      let (s, ks, e) := s.sendParts c.ctx dst bs (remoteParts dst bs.length)
      (s, ks.dedup, match e with | some e => some e | none => stop)
  match stop with
  | none => (s, ks, none)
  | some e => (s.undefinedTail c.ctx src dst e.off (n - e.off), ks, some e)

/-- The bytes of a COPY go into the open Store slot (R264, R265). -/
def State.putStore (s : State) (c : Cmd) (parts : Tab Bytes) (failed : Option CopyStop) : State × Option CopyStop :=
  let limit := match failed with | some f => min f.off (c.at 24 8) | none => c.at 24 8
  let (bs, stop) := s.gather c.ctx (c.at 8 8) parts 0 limit
  match s.storeIn (c.at 16 8) bs with
  | (s, some e) => (s, some { off := 0, status := stStore, value := e })
  | (s, none) => (s, match stop with | some e => some e | none => failed)

/-! ### The command -/

/-- A COPY completes: LENGTH, or what stopped it. -/
def State.endCopy (s : State) (c : Cmd) (e : Option CopyStop) : State :=
  let s := { s with ctxs := { s.ctxs with copies := s.ctxs.copies.filter fun k => decide (k.cmd ≠ c.id) } }
  let s := match e with
    | some e => match e.miss with
      | some m => if m.kind = 0 then s.noteDamage c.ctx m.va else s.noteMiss c.ctx m
      | none => if e.status = stData then s.noteDamage c.ctx (c.at 8 8 + e.off) else s
    | none => s
  match e with
  | none => s.completeOn c 0 (c.at 24 8)
  | some e => s.completeOn c e.status e.value

def State.setCopy (s : State) (k : CopyRun) : State :=
  { s with ctxs := { s.ctxs with copies := s.ctxs.copies.map fun j => if j.cmd = k.cmd then k else j } }

/-- The fault of the lowest offset that a READ could not bring: kind 0 is damaged data. -/
def readStop (c : Cmd) (f : Nat × Nat) : CopyStop :=
  if f.2 = 0 then { off := f.1, status := stData, value := f.1 }
  else stopMiss f.1 { window := 3, kind := f.2, va := c.at 8 8 + f.1 }

/-- The bytes of a COPY wait for a frozen cluster whose slice holds its source or its destination (R276). -/
def State.copyWaits (s : State) (c : Cmd) : Bool :=
  s.waitsFrozen c.ctx (c.at 8 8) (c.at 24 8) || (decide (c.at 32 1 = 0) && s.waitsFrozen c.ctx (c.at 16 8) (c.at 24 8))

/-- A COPY whose READs have all been answered writes its bytes and flushes the ports it used. -/
def State.copyOut (s : State) (c : Cmd) (k : CopyRun) : State :=
  let failed := k.failed.map (readStop c)
  let len := localLen (c.at 8 8) (c.at 24 8)
  let s := (s.accessed otherUnit c.ctx (c.at 8 8) len).pathEvents otherUnit c.ctx (c.at 8 8) len 0
  if c.at 32 1 = 1 then
    let (s, e) := s.putStore c k.parts failed
    s.endCopy c e
  else
    let (s, ks, e) := s.putBytes c k.parts failed
    let e := match e, ks.any fun key => !s.flushable key with
      | none, true => some (stopMiss 0 (unreachable (c.at 16 8)))
      | e, _ => e
    let ks := ks.filter s.flushable
    if ks.isEmpty then s.endCopy c e
    else
      let r := match e with
        | none => (0, c.at 24 8, none)
        | some e => (e.status, e.value, e.miss)
      (s.setCopy { k with flushes := ks.length, result := some r }).flushPorts c.ctx ks (.copyFlush c.id)

/-- A COPY goes on once nothing it waits for is outstanding. -/
def State.copyGoesOn (s : State) (id : Nat) : State :=
  match s.ctxs.copies.find? fun k => decide (k.cmd = id), s.cmd id with
  | some k, some c =>
    if k.reads ≠ 0 ∨ k.flushes ≠ 0 then s
    else match k.result with
      | none => if s.copyWaits c then s else s.copyOut c k
      | some r => s.endCopy c (if r.1 = 0 then none else some { off := 0, status := r.1, value := r.2.1, miss := r.2.2 })
  | _, _ => s

/-- READs for the Remote part of the source: how many were sent, and the offset of the first that could not be. -/
def State.askParts (s : State) (c id src : Nat) : List (Nat × Nat) → State × Nat × Option Nat
  | [] => (s, 0, none)
  | (a, n) :: ps =>
    let (d, off) := remoteOf a
    let (s, k, ok) := s.remoteRead c d off n fun rel => .copyRead id (a - src + rel)
    if ok then
      let (s, k', e) := s.askParts c id src ps
      (s, k + k', e)
    else (s, k, some (a - src))

/-- A COPY's work begins: READs for a Remote source, else its bytes at once. -/
def State.beginCopy (s : State) (c : Cmd) : State :=
  let (s, n, e) := s.askParts c.ctx c.id (c.at 8 8) (remoteParts (c.at 8 8) (c.at 24 8))
  let k : CopyRun := { cmd := c.id, reads := n, failed := e.map fun off => (off, 6) }
  let s := { s with ctxs := { s.ctxs with copies := s.ctxs.copies ++ [k] } }
  (s.stage c .running).copyGoesOn c.id

/-- COPY (R344): overlapping ranges are refused; a range that translates to a pool region waits for the grant (R370). A
running COPY that waited for a frozen cluster goes on (R276). -/
def execCopy (cmd : Nat) (s : State) : Host.Outcome State Fault Refusal :=
  .next (match s.starting cmd 2 with
    | none => s.copyGoesOn cmd
    | some c =>
      let src := c.at 8 8
      let dst := c.at 16 8
      let n := c.at 24 8
      if c.at 32 1 = 0 ∧ src < dst + n ∧ dst < src + n then
        s.fresh.2.complete c stOverlap (s.fresh.1.toNat % 65536)
      else s.underGrant c (s.onPool c.ctx src n || (decide (c.at 32 1 = 0) && s.onPool c.ctx dst n)) s.beginCopy)

end Sys2Proof.Machine
end

