-- ==== Sys2Proof/Machine/Entries.lean ====
section
/-! DEFINITION. The entries of the object dictionary, as the parameter tables of the chapters list them (R501, R502,
R538): index, subindex, type, access, elements, element bytes and range. -/

namespace Sys2Proof.Machine

/-- An entry of the dictionary. A per-context entry stands at index 0x4000 + k, a port's at 0x5010. -/
structure Entry where
  index : Nat
  sub : Nat
  /-- type code of R502 -/
  type : Nat
  /-- 0 CONST, 1 RO, 2 RW, 3 WO, 4 RWS -/
  access : Nat
  /-- elements of a TABLE; largest length of a STR or OCTETS; 1 for a scalar -/
  count : Nat
  /-- bytes of an element or scalar -/
  size : Nat
  /-- the stated range of an element's value; the allowed lengths of a STR or OCTETS -/
  range : Option (Nat × Nat)
  /-- values allowed beside the range -/
  also : List Nat := []
deriving DecidableEq, Repr

/-- Entries of identity and transports. -/
def entriesIdentity : List Entry :=
  [⟨0x1000, 1, 3, 0, 1, 2, none, []⟩,
   ⟨0x1000, 2, 8, 0, 13, 1, (some (0, 13)), []⟩,
   ⟨0x1000, 3, 9, 0, 16, 1, (some (16, 16)), []⟩,
   ⟨0x1000, 4, 8, 0, 2, 1, (some (0, 2)), []⟩,
   ⟨0x1000, 5, 2, 0, 1, 1, none, []⟩,
   ⟨0x1000, 6, 3, 0, 1, 2, none, []⟩,
   ⟨0x1000, 7, 3, 0, 1, 2, none, []⟩,
   ⟨0x1010, 1, 2, 1, 1, 1, none, []⟩,
   ⟨0x1030, 1, 5, 1, 1, 8, none, []⟩,
   ⟨0x1030, 2, 8, 0, 80, 1, (some (0, 80)), []⟩,
   ⟨0x1100, 1, 1, 4, 1, 1, (some (0, 1)), []⟩,
   ⟨0x1100, 2, 9, 0, 6, 1, (some (6, 6)), []⟩] ++
  [⟨0x1100, 3, 4, 4, 1, 4, (some (0, 4294967295)), []⟩,
   ⟨0x1100, 4, 2, 4, 1, 1, (some (8, 30)), []⟩,
   ⟨0x1100, 5, 4, 4, 1, 4, (some (0, 4294967295)), []⟩,
   ⟨0x1100, 6, 3, 4, 1, 2, (some (1024, 65535)), []⟩,
   ⟨0x1100, 7, 4, 4, 1, 4, (some (0, 4294967295)), []⟩,
   ⟨0x1100, 8, 2, 4, 1, 1, (some (0, 32)), []⟩,
   ⟨0x1110, 1, 1, 4, 1, 1, (some (0, 1)), []⟩,
   ⟨0x1110, 2, 2, 4, 1, 1, (some (1, 127)), []⟩,
   ⟨0x1110, 3, 2, 4, 1, 1, (some (0, 2)), []⟩,
   ⟨0x1110, 4, 2, 4, 1, 1, (some (0, 2)), []⟩,
   ⟨0x1110, 5, 3, 4, 1, 2, (some (10, 10000)), []⟩,
   ⟨0x1110, 6, 4, 1, 1, 4, none, []⟩] ++
  [⟨0x1120, 1, 9, 1, 48, 1, (some (48, 48)), []⟩,
   ⟨0x1120, 2, 9, 3, 97, 1, (some (97, 97)), []⟩,
   ⟨0x1120, 3, 4, 4, 1, 4, (some (60, 86400)), []⟩,
   ⟨0x1120, 4, 1, 3, 1, 1, (some (1, 1)), []⟩,
   ⟨0x1120, 5, 10, 1, 4, 4, none, []⟩,
   ⟨0x1120, 6, 4, 1, 1, 4, none, []⟩,
   ⟨0x1120, 7, 4, 1, 1, 4, none, []⟩]

/-- Entries of profiles and power. -/
def entriesPower : List Entry :=
  [⟨0x2000, 1, 2, 1, 1, 1, none, []⟩,
   ⟨0x2000, 2, 2, 1, 1, 1, none, []⟩,
   ⟨0x2000, 3, 2, 2, 1, 1, (some (0, 3)), [15, 255]⟩,
   ⟨0x2000, 4, 2, 1, 1, 1, none, []⟩,
   ⟨0x2000, 5, 2, 3, 1, 1, (some (0, 3)), []⟩,
   ⟨0x2000, 6, 3, 4, 1, 2, (some (0, 3600)), []⟩,
   ⟨0x2000, 7, 1, 1, 1, 1, none, []⟩,
   ⟨0x2000, 8, 4, 0, 1, 4, none, []⟩,
   ⟨0x2000, 9, 10, 1, 5, 1, none, []⟩,
   ⟨0x2000, 10, 2, 1, 1, 1, none, []⟩,
   ⟨0x2000, 11, 2, 3, 1, 1, (some (0, 3)), []⟩,
   ⟨0x2000, 12, 10, 1, 8, 4, none, []⟩] ++
  [⟨0x2000, 13, 4, 1, 1, 4, none, []⟩,
   ⟨0x2010, 1, 9, 2, 65536, 1, (some (64, 65536)), []⟩,
   ⟨0x2010, 2, 9, 2, 65536, 1, (some (64, 65536)), []⟩,
   ⟨0x2010, 3, 9, 2, 65536, 1, (some (64, 65536)), []⟩,
   ⟨0x2010, 4, 9, 2, 65536, 1, (some (64, 65536)), []⟩,
   ⟨0x2010, 5, 9, 1, 65536, 1, (some (64, 65536)), []⟩,
   ⟨0x2100, 1, 3, 4, 1, 2, (some (400, 1600)), []⟩,
   ⟨0x2100, 2, 2, 4, 1, 1, (some (100, 180)), []⟩,
   ⟨0x2100, 3, 10, 4, 64, 1, (some (0, 11)), []⟩,
   ⟨0x2100, 4, 4, 4, 1, 4, (some (10, 1000000)), [0]⟩,
   ⟨0x2100, 5, 10, 1, 64, 1, none, []⟩,
   ⟨0x2100, 6, 10, 1, 64, 2, none, []⟩] ++
  [⟨0x2100, 7, 10, 1, 64, 2, none, []⟩,
   ⟨0x2100, 8, 2, 1, 1, 1, none, []⟩,
   ⟨0x2100, 9, 10, 1, 4, 1, none, []⟩,
   ⟨0x2100, 10, 10, 1, 64, 1, none, []⟩,
   ⟨0x2100, 11, 4, 1, 1, 4, none, []⟩,
   ⟨0x2100, 12, 10, 1, 15, 4, none, []⟩,
   ⟨0x2100, 13, 10, 1, 100, 2, none, []⟩,
   ⟨0x2100, 14, 4, 1, 1, 4, none, []⟩,
   ⟨0x2100, 15, 4, 1, 1, 4, none, []⟩,
   ⟨0x2100, 16, 4, 1, 1, 4, none, []⟩,
   ⟨0x2100, 17, 10, 1, 64, 8, none, []⟩,
   ⟨0x2100, 18, 5, 1, 1, 8, none, []⟩] ++
  [⟨0x2100, 19, 4, 1, 1, 4, none, []⟩,
   ⟨0x2100, 20, 3, 1, 1, 2, none, []⟩]

/-- Entries of cadence, scheduling and units. -/
def entriesUnits : List Entry :=
  [⟨0x2200, 1, 2, 4, 1, 1, (some (0, 2)), []⟩,
   ⟨0x2200, 2, 4, 4, 1, 4, (some (100, 192000)), []⟩,
   ⟨0x2200, 3, 3, 4, 1, 2, (some (1, 65535)), []⟩,
   ⟨0x2200, 4, 1, 3, 1, 1, (some (1, 1)), []⟩,
   ⟨0x2200, 5, 2, 4, 1, 1, (some (0, 2)), []⟩,
   ⟨0x2200, 6, 1, 4, 1, 1, (some (0, 1)), []⟩,
   ⟨0x2300, 1, 10, 4, 64, 2, (some (0, 65535)), []⟩,
   ⟨0x2300, 2, 4, 4, 1, 4, (some (1, 100000)), []⟩,
   ⟨0x2300, 3, 10, 4, 16, 4, (some (0, 4000000000)), []⟩,
   ⟨0x2300, 4, 10, 1, 16, 2, none, []⟩,
   ⟨0x2300, 5, 10, 1, 16, 4, none, []⟩,
   ⟨0x2300, 6, 5, 1, 1, 8, none, []⟩] ++
  [⟨0x2310, 1, 2, 4, 1, 1, (some (1, 7)), []⟩,
   ⟨0x2400, 1, 1, 4, 1, 1, (some (0, 1)), []⟩,
   ⟨0x2400, 2, 3, 4, 1, 2, (some (1, 65534)), []⟩,
   ⟨0x2400, 3, 3, 4, 1, 2, (some (1, 1000)), []⟩,
   ⟨0x2500, 1, 4, 0, 1, 4, none, []⟩,
   ⟨0x2500, 2, 3, 4, 1, 2, (some (8, 64)), []⟩,
   ⟨0x2500, 3, 2, 0, 1, 1, none, []⟩,
   ⟨0x2600, 1, 4, 4, 1, 4, (some (0xf4240, 3600000000)), []⟩,
   ⟨0x2600, 2, 3, 4, 1, 2, (some (1, 1000)), []⟩,
   ⟨0x2700, 1, 10, 4, 4, 1, (some (0, 3)), []⟩,
   ⟨0x2700, 2, 10, 1, 4, 1, none, []⟩,
   ⟨0x2700, 3, 4, 4, 1, 4, (some (60, 86400)), []⟩] ++
  [⟨0x2700, 4, 4, 4, 1, 4, (some (100, 10000000)), [0]⟩,
   ⟨0x2700, 5, 3, 4, 1, 2, (some (1, 1000)), []⟩,
   ⟨0x2800, 1, 4, 4, 1, 4, (some (1, 1000000)), []⟩,
   ⟨0x2900, 1, 2, 4, 1, 1, (some (1, 6)), []⟩,
   ⟨0x2900, 2, 3, 0, 1, 2, none, []⟩,
   ⟨0x2A00, 1, 2, 4, 1, 1, (some (0, 1)), []⟩,
   ⟨0x2A00, 2, 2, 1, 1, 1, none, []⟩,
   ⟨0x2A00, 3, 10, 4, 64, 1, (some (0, 2)), []⟩,
   ⟨0x2A00, 4, 10, 2, 16384, 1, (some (0, 255)), []⟩,
   ⟨0x2A00, 5, 4, 4, 1, 4, (some (64, 1048576)), []⟩]

/-- Entries of health and belay. -/
def entriesHealth : List Entry :=
  [⟨0x3000, 1, 10, 1, 256, 32, none, []⟩,
   ⟨0x3000, 2, 4, 1, 1, 4, none, []⟩,
   ⟨0x3000, 3, 3, 4, 1, 2, (some (0, 4094)), []⟩,
   ⟨0x3000, 4, 10, 1, 11, 2, none, []⟩,
   ⟨0x3000, 5, 4, 3, 1, 4, (some (0, 4294967295)), []⟩,
   ⟨0x3000, 6, 4, 1, 1, 4, none, []⟩,
   ⟨0x3010, 1, 10, 1, 1088, 1, none, []⟩,
   ⟨0x3010, 2, 10, 1, 64, 1, none, []⟩,
   ⟨0x3010, 3, 3, 4, 1, 2, (some (0, 8760)), []⟩,
   ⟨0x3010, 4, 10, 1, 64, 8, none, []⟩,
   ⟨0x3010, 5, 10, 1, 64, 2, none, []⟩,
   ⟨0x3010, 6, 2, 1, 1, 1, none, []⟩] ++
  [⟨0x3020, 1, 3, 3, 1, 2, (some (0, 65535)), []⟩,
   ⟨0x3020, 2, 4, 1, 1, 4, none, []⟩,
   ⟨0x3020, 3, 4, 1, 1, 4, none, []⟩,
   ⟨0x3030, 1, 1, 3, 1, 1, (some (1, 1)), []⟩,
   ⟨0x3030, 2, 2, 1, 1, 1, none, []⟩,
   ⟨0x3030, 3, 4, 1, 1, 4, none, []⟩,
   ⟨0x3030, 4, 4, 1, 1, 4, none, []⟩,
   ⟨0x3030, 5, 4, 1, 1, 4, none, []⟩,
   ⟨0x3030, 6, 4, 1, 1, 4, none, []⟩,
   ⟨0x3030, 7, 4, 1, 1, 4, none, []⟩,
   ⟨0x3031, 1, 3, 4, 1, 2, (some (16, 65535)), []⟩,
   ⟨0x3031, 2, 4, 4, 1, 4, (some (1, 100000)), []⟩] ++
  [⟨0x3031, 3, 4, 1, 1, 4, none, []⟩,
   ⟨0x3031, 4, 4, 1, 1, 4, none, []⟩,
   ⟨0x3031, 5, 5, 1, 1, 8, none, []⟩,
   ⟨0x3032, 1, 5, 4, 1, 8, (some (0, 0xffffffffffffffff)), []⟩,
   ⟨0x3032, 2, 1, 4, 1, 1, (some (0, 1)), []⟩,
   ⟨0x3032, 3, 1, 1, 1, 1, none, []⟩,
   ⟨0x3032, 4, 1, 3, 1, 1, (some (1, 1)), []⟩,
   ⟨0x3032, 5, 4, 1, 1, 4, none, []⟩,
   ⟨0x3032, 6, 4, 1, 1, 4, none, []⟩,
   ⟨0x3033, 1, 10, 1, 64, 1, none, []⟩]

/-- Entries of state of the units. -/
def entriesState : List Entry :=
  [⟨0x3040, 1, 10, 1, 118, 1, none, []⟩,
   ⟨0x3050, 1, 10, 1, 64, 4, none, []⟩,
   ⟨0x3050, 2, 10, 1, 64, 2, none, []⟩,
   ⟨0x3050, 3, 10, 1, 64, 8, none, []⟩,
   ⟨0x3060, 1, 4, 1, 1, 4, none, []⟩,
   ⟨0x3060, 2, 10, 1, 32768, 2, none, []⟩,
   ⟨0x3060, 3, 10, 1, 1024, 4, none, []⟩,
   ⟨0x3060, 4, 10, 1, 1024, 4, none, []⟩,
   ⟨0x3060, 5, 10, 1, 1024, 4, none, []⟩,
   ⟨0x3060, 6, 10, 1, 1024, 1, none, []⟩,
   ⟨0x3060, 7, 5, 1, 1, 8, none, []⟩,
   ⟨0x3070, 1, 10, 1, 8, 4, none, []⟩] ++
  [⟨0x3070, 2, 10, 1, 8, 4, none, []⟩,
   ⟨0x3070, 3, 10, 1, 8, 2, none, []⟩,
   ⟨0x3070, 4, 10, 1, 8, 1, none, []⟩,
   ⟨0x3070, 5, 10, 1, 8, 1, none, []⟩,
   ⟨0x3070, 6, 5, 1, 1, 8, none, []⟩,
   ⟨0x3080, 1, 10, 1, 8, 4, none, []⟩,
   ⟨0x3080, 2, 10, 1, 8, 4, none, []⟩,
   ⟨0x3090, 1, 4, 1, 1, 4, none, []⟩,
   ⟨0x3090, 2, 4, 1, 1, 4, none, []⟩,
   ⟨0x3090, 3, 4, 1, 1, 4, none, []⟩,
   ⟨0x3090, 4, 3, 1, 1, 2, none, []⟩,
   ⟨0x30A0, 1, 2, 1, 1, 1, none, []⟩] ++
  [⟨0x30A0, 2, 4, 1, 1, 4, none, []⟩,
   ⟨0x30A0, 3, 5, 1, 1, 8, none, []⟩,
   ⟨0x30A0, 4, 5, 1, 1, 8, none, []⟩,
   ⟨0x30A0, 5, 6, 1, 1, 4, none, []⟩,
   ⟨0x30A0, 6, 4, 1, 1, 4, none, []⟩,
   ⟨0x30A0, 7, 4, 1, 1, 4, none, []⟩,
   ⟨0x30A0, 8, 4, 1, 1, 4, none, []⟩,
   ⟨0x30A0, 9, 4, 1, 1, 4, none, []⟩,
   ⟨0x30A0, 10, 5, 1, 1, 8, none, []⟩,
   ⟨0x30A0, 11, 4, 1, 1, 4, none, []⟩,
   ⟨0x30B0, 1, 10, 1, 4096, 24, none, []⟩,
   ⟨0x30B0, 2, 3, 1, 1, 2, none, []⟩] ++
  [⟨0x30C0, 1, 5, 1, 1, 8, none, []⟩,
   ⟨0x30C0, 2, 5, 1, 1, 8, none, []⟩,
   ⟨0x30C0, 3, 4, 1, 1, 4, none, []⟩,
   ⟨0x30D0, 1, 10, 1, 16, 16, none, []⟩,
   ⟨0x30D0, 2, 2, 1, 1, 1, none, []⟩,
   ⟨0x30D0, 3, 4, 1, 1, 4, none, []⟩]

/-- Entries of per-context entries, k = 0 to 7. -/
def entriesContextLow : List Entry :=
  [⟨0x4000, 1, 5, 1, 1, 8, none, []⟩,
   ⟨0x4001, 1, 3, 2, 1, 2, (some (1, 65535)), []⟩,
   ⟨0x4001, 2, 3, 1, 1, 2, none, []⟩,
   ⟨0x4001, 3, 2, 2, 1, 1, (some (0, 15)), [255]⟩,
   ⟨0x4001, 4, 5, 2, 1, 8, (some (0, 0xffffffffffffffff)), []⟩,
   ⟨0x4001, 5, 5, 1, 1, 8, none, []⟩,
   ⟨0x4002, 1, 5, 1, 1, 8, none, []⟩,
   ⟨0x4002, 2, 5, 1, 1, 8, none, []⟩,
   ⟨0x4002, 3, 5, 1, 1, 8, none, []⟩,
   ⟨0x4002, 4, 5, 1, 1, 8, none, []⟩,
   ⟨0x4002, 5, 5, 1, 1, 8, none, []⟩,
   ⟨0x4002, 6, 5, 1, 1, 8, none, []⟩] ++
  [⟨0x4002, 7, 4, 1, 1, 4, none, []⟩,
   ⟨0x4002, 8, 5, 1, 1, 8, none, []⟩,
   ⟨0x4003, 1, 4, 1, 1, 4, none, []⟩,
   ⟨0x4003, 2, 4, 1, 1, 4, none, []⟩,
   ⟨0x4003, 3, 5, 1, 1, 8, none, []⟩,
   ⟨0x4003, 4, 5, 1, 1, 8, none, []⟩,
   ⟨0x4004, 1, 1, 3, 1, 1, (some (1, 1)), []⟩,
   ⟨0x4004, 2, 4, 1, 1, 4, none, []⟩,
   ⟨0x4004, 3, 2, 1, 1, 1, none, []⟩,
   ⟨0x4004, 4, 5, 1, 1, 8, none, []⟩,
   ⟨0x4004, 5, 3, 1, 1, 2, none, []⟩,
   ⟨0x4004, 6, 1, 1, 1, 1, none, []⟩] ++
  [⟨0x4004, 7, 4, 1, 1, 4, none, []⟩,
   ⟨0x4006, 1, 5, 2, 1, 8, (some (0, 0xffffffffffffffff)), []⟩,
   ⟨0x4006, 2, 1, 2, 1, 1, (some (0, 1)), []⟩,
   ⟨0x4006, 3, 5, 1, 1, 8, none, []⟩,
   ⟨0x4006, 4, 5, 1, 1, 8, none, []⟩,
   ⟨0x4006, 5, 5, 1, 1, 8, none, []⟩,
   ⟨0x4006, 6, 5, 1, 1, 8, none, []⟩,
   ⟨0x4006, 7, 3, 1, 1, 2, none, []⟩,
   ⟨0x4007, 1, 5, 1, 1, 8, none, []⟩,
   ⟨0x4007, 2, 5, 1, 1, 8, none, []⟩,
   ⟨0x4007, 3, 4, 1, 1, 4, none, []⟩,
   ⟨0x4007, 4, 4, 1, 1, 4, none, []⟩] ++
  [⟨0x4007, 5, 4, 1, 1, 4, none, []⟩]

/-- Entries of per-context entries, k = 8 to 15. -/
def entriesContextHigh : List Entry :=
  [⟨0x4008, 1, 4, 1, 1, 4, none, []⟩,
   ⟨0x4008, 2, 4, 1, 1, 4, none, []⟩,
   ⟨0x4008, 3, 4, 1, 1, 4, none, []⟩,
   ⟨0x4009, 1, 4, 1, 1, 4, none, []⟩,
   ⟨0x4009, 2, 5, 1, 1, 8, none, []⟩,
   ⟨0x4009, 3, 4, 1, 1, 4, none, []⟩,
   ⟨0x400A, 1, 4, 1, 1, 4, none, []⟩,
   ⟨0x400A, 2, 3, 1, 1, 2, none, []⟩,
   ⟨0x400A, 3, 5, 1, 1, 8, none, []⟩,
   ⟨0x400A, 4, 5, 1, 1, 8, none, []⟩,
   ⟨0x400A, 5, 5, 1, 1, 8, none, []⟩,
   ⟨0x400B, 1, 5, 1, 1, 8, none, []⟩] ++
  [⟨0x400B, 2, 4, 1, 1, 4, none, []⟩,
   ⟨0x400B, 3, 4, 1, 1, 4, none, []⟩,
   ⟨0x400C, 1, 10, 2, 16, 64, none, []⟩,
   ⟨0x400C, 2, 10, 1, 8, 16, none, []⟩,
   ⟨0x400C, 3, 2, 3, 1, 1, (some (0, 7)), []⟩,
   ⟨0x400C, 4, 2, 3, 1, 1, (some (0, 7)), []⟩,
   ⟨0x400D, 1, 5, 1, 1, 8, none, []⟩,
   ⟨0x400D, 2, 5, 1, 1, 8, none, []⟩,
   ⟨0x400D, 3, 5, 1, 1, 8, none, []⟩,
   ⟨0x400D, 4, 4, 1, 1, 4, none, []⟩,
   ⟨0x400D, 5, 4, 1, 1, 4, none, []⟩,
   ⟨0x400D, 6, 4, 1, 1, 4, none, []⟩] ++
  [⟨0x400E, 1, 10, 2, 32, 128, none, []⟩,
   ⟨0x400E, 2, 5, 1, 1, 8, none, []⟩,
   ⟨0x400E, 3, 5, 1, 1, 8, none, []⟩,
   ⟨0x400E, 4, 5, 1, 1, 8, none, []⟩,
   ⟨0x400E, 5, 5, 1, 1, 8, none, []⟩,
   ⟨0x400F, 1, 5, 1, 1, 8, none, []⟩,
   ⟨0x400F, 2, 5, 1, 1, 8, none, []⟩,
   ⟨0x400F, 3, 4, 1, 1, 4, none, []⟩,
   ⟨0x400F, 4, 4, 1, 1, 4, none, []⟩,
   ⟨0x400F, 5, 4, 1, 1, 4, none, []⟩]

/-- Entries of links. -/
def entriesLinks : List Entry :=
  [⟨0x5000, 1, 3, 4, 1, 2, (some (0, 4063)), []⟩,
   ⟨0x5000, 2, 2, 0, 1, 1, none, []⟩,
   ⟨0x5000, 3, 2, 4, 1, 1, (some (1, 2)), []⟩,
   ⟨0x5000, 4, 2, 1, 1, 1, none, []⟩,
   ⟨0x5000, 5, 10, 4, 4064, 2, (some (0, 65535)), []⟩,
   ⟨0x5000, 6, 2, 4, 1, 1, (some (1, 32)), []⟩,
   ⟨0x5000, 7, 4, 4, 1, 4, (some (100, 100000)), []⟩,
   ⟨0x5000, 8, 4, 4, 1, 4, (some (10, 86400)), []⟩,
   ⟨0x5000, 9, 4, 4, 1, 4, (some (10, 10000)), []⟩,
   ⟨0x5000, 10, 7, 4, 1, 4, (some (0x2b8cbccc, 981668463)), []⟩,
   ⟨0x5000, 11, 1, 3, 1, 1, (some (1, 1)), []⟩,
   ⟨0x5000, 12, 2, 1, 1, 1, none, []⟩] ++
  [⟨0x5000, 13, 4, 1, 1, 4, none, []⟩,
   ⟨0x5010, 1, 1, 4, 1, 1, (some (0, 1)), []⟩,
   ⟨0x5010, 2, 3, 4, 1, 2, (some (0, 65535)), []⟩,
   ⟨0x5010, 3, 3, 2, 1, 2, (some (0, 65535)), []⟩,
   ⟨0x5010, 4, 2, 4, 1, 1, (some (0, 2)), []⟩,
   ⟨0x5010, 5, 2, 1, 1, 1, none, []⟩,
   ⟨0x5010, 6, 5, 1, 1, 8, none, []⟩,
   ⟨0x5010, 7, 2, 1, 1, 1, none, []⟩,
   ⟨0x5010, 8, 5, 1, 1, 8, none, []⟩,
   ⟨0x5010, 9, 4, 1, 1, 4, none, []⟩,
   ⟨0x5010, 10, 4, 1, 1, 4, none, []⟩,
   ⟨0x5010, 11, 4, 1, 1, 4, none, []⟩] ++
  [⟨0x5010, 12, 4, 1, 1, 4, none, []⟩,
   ⟨0x5010, 13, 4, 1, 1, 4, none, []⟩,
   ⟨0x5010, 14, 10, 1, 9, 4, none, []⟩,
   ⟨0x5010, 15, 3, 3, 1, 2, (some (0, 65535)), []⟩]

/-- Entries of test and Store. -/
def entriesTest : List Entry :=
  [⟨0x6000, 1, 1, 2, 1, 1, (some (0, 1)), []⟩,
   ⟨0x6000, 2, 10, 2, 16, 16, none, []⟩,
   ⟨0x6000, 3, 4, 2, 1, 4, (some (0, 4294967295)), []⟩,
   ⟨0x6000, 4, 10, 1, 16, 8, none, []⟩,
   ⟨0x6010, 1, 2, 4, 1, 1, (some (0, 2)), []⟩,
   ⟨0x6010, 2, 2, 1, 1, 1, none, []⟩,
   ⟨0x6010, 3, 4, 0, 1, 4, none, []⟩,
   ⟨0x7000, 1, 1, 2, 1, 1, (some (0, 1)), []⟩,
   ⟨0x7000, 2, 2, 1, 1, 1, none, []⟩,
   ⟨0x7000, 3, 3, 3, 1, 2, (some (0, 1023)), []⟩,
   ⟨0x7000, 4, 3, 3, 1, 2, (some (0, 1023)), []⟩,
   ⟨0x7000, 5, 3, 3, 1, 2, (some (0, 1023)), []⟩] ++
  [⟨0x7000, 6, 4, 1, 1, 4, none, []⟩,
   ⟨0x7000, 7, 4, 1, 1, 4, none, []⟩,
   ⟨0x7000, 8, 4, 0, 1, 4, none, []⟩,
   ⟨0x7000, 9, 4, 4, 1, 4, (some (24, 8760)), []⟩,
   ⟨0x7000, 10, 4, 4, 1, 4, (some (10, 3600000)), []⟩,
   ⟨0x7010, 1, 9, 0, 97, 1, (some (97, 97)), []⟩,
   ⟨0x7010, 2, 9, 2, 97, 1, (some (97, 97)), []⟩,
   ⟨0x7010, 3, 9, 2, 97, 1, (some (97, 97)), []⟩,
   ⟨0x7010, 4, 9, 2, 97, 1, (some (97, 97)), []⟩,
   ⟨0x7010, 5, 2, 3, 1, 1, (some (0, 3)), []⟩,
   ⟨0x7010, 6, 10, 1, 4, 1, none, []⟩,
   ⟨0x7020, 1, 10, 1, 1024, 32, none, []⟩] ++
  [⟨0x7030, 1, 10, 1, 8, 2, none, []⟩,
   ⟨0x7030, 2, 10, 1, 8, 4, none, []⟩,
   ⟨0x7030, 3, 4, 1, 1, 4, none, []⟩]

/-- Every entry, in ascending index.subindex. -/
def entries : List Entry :=
  entriesIdentity ++ entriesPower ++ entriesUnits ++ entriesHealth ++ entriesState ++
  entriesContextLow ++ entriesContextHigh ++ entriesLinks ++ entriesTest

/-- The index at which the table holds an index's entries: a context's block and a port's index share one row. -/
def baseIndex (index : Nat) : Nat :=
  if 0x4000 ≤ index ∧ index < 0x5000 then 0x4000 + index % 16
  else if 0x5010 ≤ index ∧ index < 0x5020 then 0x5010
  else index

/-- The highest subindex in use at an index (R501). -/
def highestSub (index : Nat) : Nat :=
  ((entries.filter fun e => decide (e.index = baseIndex index)).map (·.sub)).foldl max 0

/-- The entry at index.subindex; subindex 0 of an index in use is a U8 CONST (R501). -/
def findEntry (index sub : Nat) : Option Entry :=
  if sub = 0 then
    if highestSub index = 0 then none else some ⟨baseIndex index, 0, 2, 0, 1, 1, none, []⟩
  else entries.find? fun e => decide (e.index = baseIndex index) && decide (e.sub = sub)

/-- The indexes at which a row's entries exist, ascending. -/
def Entry.indexes (e : Entry) : List Nat :=
  if 0x4000 ≤ e.index ∧ e.index < 0x5000 then (List.range 256).map fun c => e.index + c * 16
  else if e.index = 0x5010 then (List.range 16).map fun p => e.index + p
  else [e.index]

/-- The first index after an index at which entries exist. -/
def nextIndex (index : Nat) : Option Nat :=
  if 0x4000 ≤ index + 1 ∧ index + 1 < 0x5000 then
    some (if (index + 1) % 16 = 5 then index + 2 else index + 1)
  else if 0x5010 ≤ index + 1 ∧ index + 1 < 0x5020 then some (index + 1)
  else (entries.find? fun e => decide (index < e.index)).map (·.index)

/-- A TABLE of scalars, or a scalar: the values a DEFAULT, MIN and MAX can state. -/
def Entry.isScalar (e : Entry) : Bool := decide (e.size ≤ 8) && decide (e.type ≠ 8) && decide (e.type ≠ 9)

/-- The value of an element is allowed by the entry's range (R20, R502); the bounds of an F32 are positive, so its
bits compare as its value does. -/
def Entry.inRange (e : Entry) (v : Nat) : Bool :=
  e.also.contains v || e.range.all fun r => decide (r.1 ≤ v) && decide (v ≤ r.2)

end Sys2Proof.Machine
end

