-- ==== Sys2Proof/Machine/Values.lean ====
section
/-! DEFINITION. What a read of a dictionary entry shows: entries that report other state of the device are computed
from it, and the others are the stored values (R501, R502, R514). -/

namespace Sys2Proof.Machine

/-! ### Texts and identifiers (R539, R613, R634) -/

/-- The bytes of a text of the parameter tables, all ASCII. -/
def ascii (t : String) : Bytes := t.toList.map fun c => BitVec.ofNat 8 c.toNat

/-- JTAG_IDCODE (R613). -/
def idcode : BitVec 32 := 0x10A41001 ||| (Config.jep106.setWidth 32 <<< 1)

/-- SERIAL. -/
def serialBytes : Bytes := (List.finRange 16).map Config.serial

/-- MGT_MAC: an address that is universally administered and unicast, so that the two low bits of its first octet are 0 (R634). -/
def macBytes : Bytes := (List.finRange 6).map fun i => if i = 0 then Config.mgtMac 0 &&& 0xFC else Config.mgtMac i

/-- MGT_MAC as a number, first octet most significant. -/
def mgtMac : Nat := beNat macBytes

/-! ### Records that entries report -/

/-- A BINDINGS record (Table: BINDINGS record). -/
def State.bindingRecord (s : State) (h : Nat) : Bytes :=
  match s.binding h with
  | none => leBytes 2 0xFFFF ++ leBytes 22 0
  | some b =>
    let st := match b.state with | .binding => 1 | .bound => 2 | .unbinding => 3
    leBytes 2 b.owner ++ leBytes 2 b.slot ++ leBytes 1 st ++ leBytes 1 (min 255 (s.sidesHolding h)) ++ leBytes 2 0 ++
      leBytes 8 b.modelId.toNat ++ leBytes 4 b.generation.toNat ++ leBytes 4 0

/-- A LANE_STATE record. -/
def State.laneRecord (s : State) (c l : Nat) : Bytes :=
  let v := s.lane c l
  let mine := s.steps.filter fun p => decide (p.ctx = c)
  let on := mine.filter fun p => p.launched && decide (p.lane = some l) && decide (p.side = v.active)
  let held := mine.filter fun p => p.heldForLane && !p.launched && s.laneHolds c p.ring &&
    (s.loopLane p.ring).any fun x => decide (x.1 = l)
  leBytes 1 v.active ++ leBytes 1 (b2n v.switching) ++ leBytes 2 0 ++ leBytes 4 v.gen ++ leBytes 2 on.length ++
    leBytes 2 held.length ++ leBytes 4 0

/-- A HEALTH_LOG record (R599). -/
def Event.bytes (e : Event) : Bytes :=
  leBytes 4 e.seq ++ leBytes 1 e.type ++ leBytes 1 e.code ++ leBytes 2 e.subject ++ leBytes 8 e.uptime ++
    leBytes 8 e.detail ++ leBytes 8 e.tick

/-- Bytes 8-15 of a PROFILE_LOG record as a number: the DETAIL of event 7.1 (R600). -/
def ProfileLog.detail (r : ProfileLog) : Nat :=
  r.requested + r.tried * 2 ^ 8 + r.cause * 2 ^ 16 + r.copy * 2 ^ 24 + r.index * 2 ^ 32 + r.sub * 2 ^ 48

/-- A PROFILE_LOG record. -/
def ProfileLog.bytes (r : ProfileLog) : Bytes := leBytes 8 r.uptime ++ leBytes 8 r.detail

/-- A perturbation slot (R618). -/
def Perturb.bytes (v : Perturb) : Bytes :=
  leBytes 1 v.target ++ leBytes 1 v.mode ++ leBytes 2 v.index ++ leBytes 1 v.sub ++ leBytes 1 0 ++ leBytes 2 v.ctx ++
    leBytes 4 v.delay ++ leBytes 2 v.duty ++ leBytes 2 v.period

/-- PORT_STATE code (R470). -/
def PortState.code : PortState → Nat
  | .off => 0
  | .detect => 1
  | .train => 2
  | .align => 3
  | .exchange => 4
  | .active => 5
  | .isolated => 6
  | .retrain => 7
  | .down => 8
  | .test => 9

/-- NM_REGION_STATE of a region. -/
def Region.code (r : Region) : Nat :=
  let k := match r.kind with
    | .free => 0 | .owned => 1 | .clearing => 2 | .reserved => 3 | .retired => 4 | .pendingUnmap => 5
  r.owner + k * 4096

/-- NM_REGION_STATE of a region; a pool region is Owned by its pool's holder, and Free while there is none (R204, R369). -/
def State.regionCode (s : State) (prn : Nat) : Nat :=
  let r := s.region prn
  match s.prnPool prn with
  | none => r.code
  | some p =>
    let idle := decide (r.kind = .free) || decide (r.kind = .owned)
    match s.holder p with
    | some c => Region.code { r with kind := if idle then .owned else r.kind, owner := c }
    | none => Region.code { r with kind := if idle then .free else r.kind, owner := 0 }

/-- NEAR_OWNED: the regions that a context owns, those in Pending unmap and, while it holds its pool's grant, the pool's
regions among them (R211, R230, R369). -/
def State.nearOwned (s : State) (c : Nat) : Nat :=
  (s.near.regions.filter fun kv => (s.prnPool kv.1).isNone && kv.2.held && decide (kv.2.owner = c)).length +
    match s.attached c with
    | some p => if s.holder p = some c then
        ((s.poolRegions p).filter fun r => decide ((s.region r.1).kind ≠ .retired) && decide ((s.region r.1).kind ≠ .clearing)).length
      else 0
    | none => 0

/-- Seconds of grant that a class holds (R508). -/
def State.grantLeft (s : State) (r : Role) : Nat :=
  match r.grantUntil with | some t => (t - s.uptime + 999999999) / 1000000000 | none => 0

/-- CDU_FREQ_OFFSET as the 32 bits of an I32. -/
def State.freqOffsetBits (s : State) : Nat := (BitVec.ofInt 32 s.cdu.freqOffset).toNat

/-- BRAKE_TIME in microseconds up to now, an assertion that still lasts among it (R69, R561). -/
def State.brakeTime (s : State) : Nat :=
  s.dget 0x2100 0x12 + (if s.pins.brakeN then 0 else (s.uptime - max s.pins.brakeSince s.power.brakeCounted) / 1000)

/-- THROTTLE_TIME of a cluster in microseconds up to now (R557). -/
def State.throttledUs (s : State) (cl : Nat) : Nat :=
  s.dget 0x2100 0x11 cl + (match tfind s.power.throttledSince cl with | some t => (s.uptime - t) / 1000 | none => 0)

/-! ### Values of entries -/

/-- The value of element i of a scalar entry or scalar TABLE, at index and key = table index * 256 + subindex. -/
def State.value (s : State) (key index i : Nat) : Nat :=
  let c := (index - 0x4000) / 16
  let p := index - 0x5010
  match key with
  | 0x100001 => Config.vendorId.toNat
  | 0x103001 => s.uptime
  | 0x112005 => if i = 0 then s.grantLeft s.kop.rolePf else if i = 2 then s.grantLeft s.kop.roleMgt else 0
  | 0x21000E => s.powerFlags
  | 0x210011 => s.throttledUs i
  | 0x210012 => s.brakeTime
  | 0x301001 => s.coreState (i / 17) (i % 17)
  | 0x301002 => b2n (s.spareOf i).isSome
  | 0x301004 => tget 0 s.health.lifeUs i / 1000000
  | 0x301005 => tget 0 s.health.lifeUs i / 1000000 * 1000 / 3600 / 55226
  | 0x303301 => if s.health.testing.any fun x => decide (x.1 = i) then 2 else s.dget 0x3033 1 i
  | 0x305001 => match s.resident i with | some r => r.id | none => 0
  | 0x305002 => match s.resident i with | some r => r.ctx | none => 0xFFFF
  | 0x306001 => 30720 - (s.near.regions.filter fun kv => decide (kv.2.kind = .retired)).length
  | 0x306002 => s.regionCode i
  | 0x309001 => s.hif.speed.toNat + s.hif.width.toNat * 16 + b2n s.hif.flit * 512
  | 0x30A001 => s.cdu.state
  | 0x30A002 => s.cduFlags
  | 0x30A003 => s.cdu.tick
  | 0x30A004 => s.cdu.tickTime
  | 0x30A005 => s.freqOffsetBits
  | 0x30A00A => s.holdoverNs
  | 0x30B002 => 4096 - s.serve.bindings.length
  | 0x400001 => s.ctxStatus c
  | 0x400105 => s.bivouacBytes c
  | 0x400801 => (s.near.map.filter fun kv => decide (kv.1 / 65536 = c)).length
  | 0x400802 => s.nearOwned c
  | 0x400A02 => s.streamsHalted c
  | 0x501005 => (s.port p).state.code
  | 0x501006 => (s.port p).partner
  | 0x501007 => (s.port p).spareUse + 16 * (s.port p).spareTx
  | 0x601003 => idcode.toNat
  | 0x701006 => s.keyState i
  | 0x703001 => s.wear i
  | 0x703002 => s.spareBlocks i
  | 0x703003 => s.freeRows
  | _ =>
    if 0x4000 ≤ index ∧ index < 0x5000 then s.cget c (key / 256 % 16) (key % 256)
    else s.dget index (key % 256) i

/-- The image that a slot's copies give: the intact copy with the higher SEQUENCE, copy A when both are equal
(R528). -/
def copyIntact (b : Bytes) : Bool :=
  decide (64 ≤ b.length) && decide (field b 0 4 = 0x46504B56) && decide (field b 16 4 = b.length) &&
  decide (b.length ≤ 65536) && decide (field b 20 4 = (crc32c (b.take 20 ++ leBytes 4 0 ++ b.drop 24)).toNat)

/-- A copy of a profile slot; copy 0 is A. -/
def State.profileCopy (s : State) (slot copy : Nat) : Bytes := (tget {} s.kop.copies (2 * slot + copy)).bytes

/-- Copy A lies on die 0, and while Basecamp runs on die 3 the store is read and written through copy B alone (R526, R537). -/
def State.copyThere (s : State) (copy : Nat) : Bool := decide (copy = 1) || decide (s.dget 0x1010 1 ≠ 3)

/-- The copy chosen of a slot, and its number. -/
def State.chosenCopy (s : State) (slot : Nat) : Option (Nat × Bytes) :=
  let a := s.profileCopy slot 0
  let b := s.profileCopy slot 1
  if s.copyThere 0 ∧ copyIntact a ∧ (!copyIntact b ∨ field b 8 4 ≤ field a 8 4) then some (0, a)
  else if copyIntact b then some (1, b)
  else none

/-- Intact copies of the factory profile (R526, R528). -/
def State.factoryCopies (s : State) : Nat := ((List.range 2).filter fun k => !s.kop.factoryBad.contains k).length

/-- The factory profile: a header and no records (R526). -/
def factoryImage : Bytes :=
  let h := leBytes 4 0x46504B56 ++ leBytes 2 1 ++ leBytes 2 Config.factoryWriter.toNat ++ leBytes 4 Config.factorySequence.toNat ++
    leBytes 4 0 ++ leBytes 4 64 ++ leBytes 4 0 ++ leBytes 40 0
  h.take 20 ++ leBytes 4 (crc32c h).toNat ++ h.drop 24

/-- The bytes of a STR or OCTETS entry that can be read. -/
def State.octets (s : State) (key : Nat) : Bytes :=
  match key with
  | 0x100002 => ascii "ASZ-VK4-1600L"
  | 0x100003 => serialBytes
  | 0x100004 => ascii "A1"
  | 0x103002 => ascii "Elapsed ns since PWR_GOOD accepted; counts only while powered; not calendar time"
  | 0x110002 => macBytes
  | 0x201005 => if s.factoryCopies = 0 then [] else factoryImage
  | 0x701001 => s.storeKey 0
  | 0x701002 => s.storeKey 1
  | 0x701003 => s.storeKey 2
  | 0x701004 => s.storeKey 3
  | 0x201001 => ((s.chosenCopy 0).map (·.2)).getD []
  | 0x201002 => ((s.chosenCopy 1).map (·.2)).getD []
  | 0x201003 => ((s.chosenCopy 2).map (·.2)).getD []
  | 0x201004 => ((s.chosenCopy 3).map (·.2)).getD []
  | _ => []

/-- The bytes of element i of an entry that is not a STR or OCTETS; a WO entry reads as zeros (R19, R514). -/
def State.elemBytes (s : State) (e : Entry) (index i : Nat) : Bytes :=
  let c := (index - 0x4000) / 16
  let key := e.index * 256 + e.sub
  if e.access = 3 then leBytes e.size 0
  else if e.sub = 0 then leBytes 1 (highestSub e.index)
  else match key with
    | 0x300001 => (tget {} s.health.log i).bytes
    | 0x30B001 => s.bindingRecord i
    | 0x30D001 => (tget {} s.kop.log i).bytes
    | 0x400C01 => ((s.lane c (i / 2)).side (i % 2)).record
    | 0x400C02 => s.laneRecord c i
    | 0x400E01 => padTo (tget [] s.tru.table (c * 32 + i)) 128
    | 0x600002 => (tget {} s.health.perturb i).bytes
    | 0x702001 => s.slotRecord i
    | _ => leBytes e.size (s.value key index i)

end Sys2Proof.Machine
end

