-- ==== Sys2Proof/Machine/Profiles.lean ====
section
/-! DEFINITION. Profile images, their checks, the profile load with its fallback, and the saving of profiles
(R526-R537, R635). -/

namespace Sys2Proof.Machine

/-! ### The saved entries -/

/-- The RWS entries with their indexes, in ascending index.subindex (R535). -/
def savedEntries : List (Nat × Entry) :=
  let rws := entries.filter fun e => decide (e.access = 4)
  let low := (rws.filter fun e => decide (e.index < 0x5010)).map fun e => (e.index, e)
  let port := rws.filter fun e => decide (e.index = 0x5010)
  let high := (rws.filter fun e => decide (0x5010 < e.index)).map fun e => (e.index, e)
  low ++ (List.range 16).flatMap (fun p => port.map fun e => (0x5010 + p, e)) ++ high

/-- The saved entry at index.subindex. -/
def savedEntry (index sub : Nat) : Option Entry :=
  (savedEntries.find? fun x => decide (x.1 = index) && decide (x.2.sub = sub)).map (·.2)

/-- Values of CLUSTER_ASSIGN (R365). -/
def assignOk (v : Nat) : Bool :=
  decide (v ≤ 0x100) || (decide (0x200 ≤ v) && decide (v < 0x210)) || decide (v = 0xFFFF)

/-- A value of an element passes every rule that rests on the value alone (R20, R502). -/
def Entry.allows (e : Entry) (v : Nat) : Bool :=
  e.inRange v &&
  match e.index * 256 + e.sub with
  | 0x230001 => assignOk v
  | 0x303201 => bulkOrZero v (2 ^ 21)
  | 0x400104 => bulkOrZero v (2 ^ 21)
  | 0x302001 => (decide (v % 256 = 1) || decide (v % 256 = 2)) && decide (v / 256 < 64)
  | 0x50100F => (decide (v % 4 = 1) || decide (v % 4 = 2)) && decide (0 < v / 4)
  | _ => true

/-! ### Images (R527) -/

/-- A profile record, MANDATORY, of an entry's value. -/
def profileRecord (index : Nat) (e : Entry) (v : Bytes) : Bytes :=
  leBytes 2 index ++ leBytes 1 e.sub ++ [1] ++ leBytes 1 e.type ++ [0] ++ leBytes 2 v.length ++ padTo v (roundUp v.length 4)

/-- The whole value of an entry that is not a STR or OCTETS. -/
def State.wholeValue (s : State) (index : Nat) (e : Entry) : Bytes :=
  (List.range e.count).flatMap fun i => s.elemBytes e index i

/-- The image of the current values with a SEQUENCE (R535). -/
def State.buildImage (s : State) (seq : Nat) : Bytes :=
  let recs := savedEntries.flatMap fun x => profileRecord x.1 x.2 (s.wholeValue x.1 x.2)
  let h := fun (crc : Nat) => leBytes 4 0x46504B56 ++ leBytes 2 1 ++ leBytes 2 Config.featureLevel ++ leBytes 4 seq ++
    leBytes 4 savedEntries.length ++ leBytes 4 (64 + recs.length) ++ leBytes 4 crc ++ leBytes 40 0
  h (crc32c (h 0 ++ recs)).toNat ++ recs

/-! ### Checks of an image (R529, R635) -/

/-- Why an image cannot be used: the cause of PROFILE_LOG, with the record and entry at fault. -/
structure ProfileBad where
  cause : Nat
  record : Nat := 0xFFFFFFFF
  index : Nat := 0
  sub : Nat := 0
deriving DecidableEq, Repr

/-- The records of an image read so far: values by index and subindex, entries named, records skipped. -/
structure ProfileRead where
  values : List (Nat × Nat × Bytes) := []
  named : List (Nat × Nat) := []
  skipped : Nat := 0
deriving DecidableEq, Repr

/-- The last three tests of R529 on one record: unknown entry 4, type or length 5, range 6. -/
def recordFails (index sub type : Nat) (v : Bytes) : Option Nat :=
  match savedEntry index sub with
  | none => some 4
  | some e =>
    if type ≠ e.type ∨ v.length ≠ e.count * e.size then some 5
    else if (List.range e.count).all fun i => e.allows (field v (i * e.size) e.size) then none
    else some 6

/-- Reads the records of an image from a position; n counts those read, the first argument those left. -/
def readRecords (img : Bytes) : Nat → Nat → Nat → ProfileRead → Except ProfileBad ProfileRead
  | 0, n, pos, r => if pos = img.length then .ok r else .error ⟨7, n, 0, 0⟩
  | left + 1, n, pos, r =>
    let h := slice img pos 8
    let index := field h 0 2
    let sub := byteAt h 2
    let len := field h 6 2
    let pad := roundUp len 4
    let v := slice img (pos + 8) len
    if img.length < pos + 8 + pad ∨ h.length < 8 then
      .error (if pos + 3 ≤ img.length then ⟨7, n, index, sub⟩ else ⟨7, n, 0, 0⟩)
    else if 2 ≤ byteAt h 3 ∨ byteAt h 5 ≠ 0 ∨ (slice img (pos + 8 + len) (pad - len)).any (fun b => decide (b ≠ 0)) then
      .error ⟨7, n, index, sub⟩
    else if r.named.contains (index, sub) then .error ⟨7, n, index, sub⟩
    else
      let seen := r.named ++ [(index, sub)]
      match recordFails index sub (byteAt h 4) v with
      | none => readRecords img left (n + 1) (pos + 8 + pad) { r with values := r.values ++ [(index, sub, v)], named := seen }
      | some cause =>
        if byteAt h 3 = 1 then .error ⟨cause, n, index, sub⟩
        else readRecords img left (n + 1) (pos + 8 + pad) { r with named := seen, skipped := r.skipped + 1 }

/-- The checks of R529 on the chosen copy. -/
def profileRecords (layouts : Nat) (img : Bytes) : Except ProfileBad ProfileRead :=
  if !bit layouts (field img 4 2) then .error { cause := 3 }
  else if (slice img 24 40).any (fun b => decide (b ≠ 0)) then .error { cause := 7 }
  else readRecords img (field img 12 4) 0 64 {}

/-- What a slot holds: its copy and records, or why it is unreadable (R528, R529). -/
def State.readSlot (s : State) (slot : Nat) : Except (ProfileBad × Nat) ProfileRead :=
  match s.chosenCopy slot with
  | none =>
    let blank := (s.profileCopy slot 0 ++ s.profileCopy slot 1).all fun b => decide (b = 0)
    .error ({ cause := if blank then 1 else 2 }, 0)
  | some (k, img) => match profileRecords (s.dget 0x2000 8) img with
    | .ok r => .ok r
    | .error b => .error (b, k)

/-- A copy of the slot has been written or erased before. -/
def State.slotWritten (s : State) (slot : Nat) : Bool :=
  decide (0 < s.dget 0x2000 12 (2 * slot)) || decide (0 < s.dget 0x2000 12 (2 * slot + 1))

/-- PROFILE_SLOT_STATE of a slot, or of the factory profile (R528, R536). -/
def State.slotState (s : State) (slot : Nat) : Nat :=
  if slot = 4 then (if s.factoryCopies = 0 then 2 + 2 * 16 else 1 + s.factoryCopies * 4)
  else
    let intact := b2n (copyIntact (s.profileCopy slot 0)) + b2n (copyIntact (s.profileCopy slot 1))
    match s.readSlot slot with
    | .ok _ => 1 + intact * 4
    | .error (b, _) => (if b.cause = 1 ∧ !s.slotWritten slot then 0 else 2) + intact * 4 + b.cause * 16

/-! ### The profile store -/

/-- Writes a copy of a slot, counted in PROFILE_WRITES. -/
def State.writeCopy (s : State) (slot copy : Nat) (img : Bytes) : State :=
  ({ s with kop := { s.kop with copies := tset {} s.kop.copies (2 * slot + copy) ⟨img⟩ } } : State).dbump 0x2000 12
    (2 * slot + copy) 32

/-- A slot is written: copy A, which is read back, and then copy B; copy B alone while copy A cannot be reached (R535,
R537). -/
def State.writeSlot (s : State) (slot : Nat) (img : Bytes) : State :=
  if s.copyThere 0 then
    let s := s.writeCopy slot 0 img
    if s.profileCopy slot 0 = img then s.writeCopy slot 1 img else s
  else s.writeCopy slot 1 img

/-- The repair of R528: the other copy is rewritten when just one is intact or the two differ in SEQUENCE; copy A only
when die 0 can be reached (R537). -/
def State.repairSlot (s : State) (slot : Nat) : State :=
  match s.chosenCopy slot with
  | none => s
  | some (k, img) =>
    let o := s.profileCopy slot (1 - k)
    if s.copyThere (1 - k) ∧ (!copyIntact o ∨ field o 8 4 ≠ field img 8 4) then s.writeCopy slot (1 - k) img else s

/-! ### Loading (R530-R533) -/

/-- One record of PROFILE_LOG. -/
def State.profileLog (s : State) (requested tried copy : Nat) (b : ProfileBad) : State :=
  let i := s.dget 0x30D0 2
  let r : ProfileLog := ⟨s.uptime, requested, tried, b.cause, copy, b.index, b.sub⟩
  let s := { s with kop := { s.kop with log := tset {} s.kop.log i r } }
  (s.dset 0x30D0 2 0 ((i + 1) % 16)).dset 0x30D0 3 0 b.record

/-- An entry takes the value of a byte string, element by element. -/
def State.setValue (s : State) (index : Nat) (e : Entry) (v : Bytes) : State :=
  (List.range e.count).foldl (fun s i => s.dset index e.sub i (field v (i * e.size) e.size)) s

/-- An entry takes its default. -/
def State.setDefault (s : State) (index : Nat) (e : Entry) : State :=
  (List.range e.count).foldl (fun s i => s.dset index e.sub i (deviceDefault index e.sub)) s

/-- A readable profile is applied as one action: every RWS entry takes its record's value or its default. -/
def State.applyProfile (s : State) (r : ProfileRead) : State :=
  savedEntries.foldl (fun s x =>
    match r.values.find? fun v => decide (v.1 = x.1) && decide (v.2.1 = x.2.sub) with
    | some v => s.setValue x.1 x.2 v.2.2
    | none => s.setDefault x.1 x.2) s

/-- The slots tried, in order: the requested one, the last good one, the factory profile 0x0F, which is not tried twice
(R532). -/
def State.attempts (s : State) (requested : Nat) : List Nat :=
  let good := s.dget 0x2000 10
  requested :: (if good ≠ 0xFF ∧ good ≠ requested then [good] else []) ++ (if requested = 0x0F then [] else [0x0F])

/-- A profile has loaded: PROFILE_ACTIVE, PROFILE_TARGET, PROFILE_LAST_GOOD, PROFILE_SKIPPED (R532, R534). -/
def State.loaded (s : State) (requested slot : Nat) (r : ProfileRead) : State :=
  let s := (s.applyProfile r).dset 0x2000 13 0 r.skipped
  let s := (s.dset 0x2000 1 0 slot).dset 0x2000 4 0 (if slot < 4 then slot else 0xFF)
  let s := (if slot < 4 then s.dset 0x2000 10 0 slot else s).dset 0x2000 7 0 0
  if slot = requested then s else s.event 7 2 requested slot

/-- A slot that could not be read: a record of PROFILE_LOG and a health event (R533). -/
def State.loadFailed (s : State) (requested slot : Nat) (b : ProfileBad) (copy : Nat) : State :=
  let s := s.profileLog requested slot copy b
  let log : ProfileLog := ⟨0, requested, slot, b.cause, copy, b.index, b.sub⟩
  s.event 7 1 slot log.detail

/-- One slot is tried: its profile loads, or the failure is logged and the next is tried (R532). -/
def State.trySlot (s : State) (requested slot : Nat) : State × Bool :=
  let s := s.repairSlot slot
  match s.readSlot slot with
  | .ok r => (s.loaded requested slot r, true)
  | .error (b, copy) => (s.loadFailed requested slot b copy, false)

/-- The first readable profile of a list is loaded, or none; the factory profile, which holds no records, is readable while
a copy of it is intact (R526, R528, R532). -/
def State.tryLoad (s : State) (requested : Nat) : List Nat → State
  | [] => s.loaded requested 0xFF {}
  | slot :: rest =>
    if slot = 0x0F then
      if s.factoryCopies = 0 then (s.loadFailed requested 0x0F { cause := 2 } 0).tryLoad requested rest
      else s.loaded requested 0x0F {}
    else
      let p := s.trySlot requested slot
      if p.2 then p.1 else p.1.tryLoad requested rest

/-- The slot that a load requests, PROFILE_NEXT being used up (R531). -/
def State.requestSlot (s : State) (cold : Bool) : Nat × State :=
  let next := s.dget 0x2000 3
  let r := if next ≠ 0xFF then next else if cold then s.pins.profileSel else s.dget 0x2000 2
  (r, (s.dset 0x2000 3 0 0xFF).dset 0x2000 2 0 r)

/-- A profile load, with the settings that a load puts in use (R248, R395, R440). -/
def State.loadProfile (s : State) (cold : Bool) : State :=
  let (r, s) := s.requestSlot cold
  let s := s.tryLoad r (s.attempts r)
  let s := (List.range 4).foldl (fun s d => s.dset 0x2700 2 d (s.dget 0x2700 1 d)) s
  let s := (s.dset 0x2A00 2 0 (s.dget 0x2A00 1)).cduLoad.settleSlice
  { s with kop := { s.kop with loadedOnce := true } }

/-! ### Saving (R534-R537) -/

/-- One above the slot's highest intact SEQUENCE; a slot with none starts at 1. -/
def State.nextSequence (s : State) (slot : Nat) : Nat :=
  let seq := fun (b : Bytes) => if copyIntact b then field b 8 4 else 0
  (max (seq (s.profileCopy slot 0)) (seq (s.profileCopy slot 1)) + 1) % 2 ^ 32

/-- A save begins: the image captures the current values. -/
def State.beginSave (s : State) (slot : Nat) (waiting : List Nat) : State :=
  let img := s.buildImage (s.nextSequence slot)
  ({ s with kop := { s.kop with saving := some { slot := slot, image := img, waiting := waiting } } } : State).dset 0x2000 4 0 slot

/-- A write of PROFILE_SAVE; it waits behind a running save (R535, R537). -/
def State.writeProfileSave (s : State) (slot : Nat) : Written :=
  match s.kop.saving with
  | none => (s.beginSave slot [], kOk)
  | some v => ({ s with kop := { s.kop with saving := some { v with waiting := v.waiting ++ [slot] } } }, kOk)

/-- PROFILE_SAVE_DONE: both copies are written; PROFILE_DIRTY clears when the values are still those captured. -/
def execProfileSaveDone (t : Nat) (s : State) : Host.Outcome State Fault Refusal :=
  .next (match s.kop.saving with
    | none => s
    | some v =>
      if !s.powered then s
      else
        let s := (s.at t).writeSlot v.slot v.image
        let s := if s.buildImage (field v.image 8 4) = v.image then s.dset 0x2000 7 0 0 else s
        match v.waiting with
        | [] => { s with kop := { s.kop with saving := none } }
        | w :: ws => s.beginSave w ws)

/-- PROFILE_AUTOSAVE: the target is written PROFILE_AUTOSAVE seconds after the last RWS write (R534). -/
def execProfileAutosave (t : Nat) (s : State) : Host.Outcome State Fault Refusal :=
  .next (
    let n := s.dget 0x2000 6
    let target := s.dget 0x2000 4
    if s.powered && decide (n ≠ 0) && decide (target ≠ 0xFF) && decide (s.dget 0x2000 7 = 1) && s.kop.saving.isNone &&
        decide (s.kop.lastWrite + n * 1000000000 ≤ t) then
      (s.at t).beginSave target []
    else s)

/-- A write of PROFILE_IMAGE_s (R536). -/
def State.writeProfileImage (s : State) (slot : Nat) (img : Bytes) : Written :=
  if s.dget 0x2000 4 = slot then (s, kState)
  else if !copyIntact img then (s, kRange)
  else (s.writeSlot slot img, kOk)

/-- A write of PROFILE_ERASE (R536). -/
def State.writeProfileErase (s : State) (slot : Nat) : Written := (s.writeSlot slot [], kOk)

/-- An RWS entry was written: PROFILE_DIRTY, and the autosave counts from now (R504, R534). -/
def State.noteSaved (s : State) : State :=
  ({ s with kop := { s.kop with lastWrite := s.uptime } } : State).dset 0x2000 7 0 1

end Sys2Proof.Machine
end

