-- ==== Sys2Proof/Machine/Ports.lean ====
section
/-! DEFINITION. The failure of remote accesses, the states of fabric ports, and their frames (R466-R472, R475, R476,
R482, R493, R495, R498). -/

namespace Sys2Proof.Machine

/-! ### Answers to remote requests (R475, R476) -/

/-- A COPY in progress. -/
def State.copyRun (s : State) (id : Nat) : Option CopyRun := s.ctxs.copies.find? fun k => decide (k.cmd = id)

/-- The lower of two offsets that a COPY could not read. -/
def lowerFault (a : Option (Nat × Nat)) (b : Nat × Nat) : Nat × Nat :=
  match a with
  | some x => if x.1 ≤ b.1 then x else b
  | none => b

/-- The remote fault of a request at an offset of its device's window. -/
def Request.miss (r : Request) (kind addr : Nat) : Miss :=
  { window := 3, kind := kind, va := remoteBase + r.dst * 2 ^ 40 + addr }

/-- Positions of the half under transfer at which a stream's address is a given one. -/
def Strm.positionOf (x : Strm) (n va : Nat) : Nat :=
  match (List.range n).find? fun i => x.addr (x.st.position + i) = some va with
  | some i => x.st.position + i
  | none => x.st.position

/-- A stream stands at a position of a half: every byte before it has come or comes with what is outstanding (R291). -/
def Strm.standAt (x : Strm) (pos : Nat) : Stream :=
  { x.st.setHalf (pos / max 1 x.half) { x.st.halfOf (pos / max 1 x.half) with done := pos % max 1 x.half } with position := pos }

/-- A READ of a stream fails at a position: the stream halts there, or at the lowest of those that fail; its other READs
complete (R290). -/
def State.streamReadFailed (s : State) (key pos : Nat) (m : Miss) : State :=
  match s.strm (key / 32) (key % 32) with
  | none => s
  | some x => match x.st.fault with
    | none => s.haltStream { x with st := x.standAt pos } { miss := m, position := pos }
    | some f =>
      if f.position ≤ pos then s
      else s.setStream key { x.standAt pos with fault := some { f with position := pos, kind := m.kind, va := m.va % 2 ^ 52 } }

/-- READs of a reader of a Rope are given up. -/
def State.dropRopeReads (s : State) (key part : Nat) : State :=
  let mine := fun (r : Request) => match r.asker with | .rope k q _ => decide (k = key) && decide (q = part) | _ => false
  { s with links := { s.links with requests := s.links.requests.filter fun r => !mine r } }

/-- What a Rope's reader keeps when a READ at an offset fails: a head starts its block again, a delta reader keeps what comes
before the offset (R291). -/
def Stream.keepsTo (t : Stream) (part pos : Nat) : Stream :=
  if part = 0 then t.setHalf 0 {} else t.setHalf 1 { t.half1 with done := pos }

/-- A READ of a Rope's reader fails: the reader halts, its other READs complete, and of those that fail the lowest counts
(R290, R302). While the other reader of the descriptor is halted it asks again after that one's resume (log 119). -/
def State.ropeReadFailed (s : State) (key part pos : Nat) (m : Miss) : State :=
  match s.strm (key / 32) (key % 32) with
  | none => s
  | some x =>
    let n := (s.core (key / 32)).ropeCame
    match x.st.fault with
    | none =>
      let pass := if part = 0 then n / max 1 x.blocks else x.st.pass
      let at' := if part = 0 then n % max 1 x.blocks * x.size else pos
      s.haltStream { x with st := x.st.keepsTo part pos } { miss := m, position := at', pass := pass, reader := part }
    | some f =>
      if f.reader ≠ part then (s.dropRopeReads key part).setStream key (x.st.setHalf part {})
      else if part = 0 ∨ f.position ≤ pos then s
      else s.setStream key { x.st.keepsTo 1 pos with fault := some { f with position := pos, kind := m.kind, va := m.va % 2 ^ 52 } }

/-- The answer to a FLUSH of a write stream: once the last has come, the half is acknowledged up to the first refused
write (R476). -/
def State.streamFlushed (s : State) (key : Nat) (bad : Option (Nat × Nat)) : State :=
  match s.strm (key / 32) (key % 32) with
  | none => s
  | some x =>
    let c := x.st.position / max 1 x.half
    let n := (x.st.halfOf c).done
    let worst := match bad with
      | some (va, kind) => some (lowerFault x.st.refused (x.positionOf n va, kind))
      | none => x.st.refused
    let t := { x.st with refused := worst }
    if s.streamPending key then s.setStream key t
    else
      let good := match worst with | some w => w.1 - x.st.position | none => n
      let s := s.wrote { x with st := t } good
      let t := (s.restrm x).st
      let t := { t.setHalf c { t.halfOf c with busy := false, done := 0 } with ports := [], refused := none }
      let s := s.setStream key t
      match worst with
      | none => s
      | some w =>
        let m : Miss := { window := 3, kind := w.2, va := (x.addr w.1).getD remoteBase }
        if t.fault.isSome then s else s.haltStream { x with st := t } { miss := m, position := w.1 }

/-- Changes what a command fetches at an address. -/
def State.setFetch (s : State) (cmd va : Nat) (f : Fetch → Fetch) : State :=
  let put := fun (g : Fetch) => if g.cmd = cmd ∧ g.va = va then f g else g
  { s with links := { s.links with fetches := s.links.fetches.map put } }

/-- A piece of a fetch fails with a kind, 0 for damaged data: the lowest position that did is kept. -/
def State.fetchFailed (s : State) (cmd va pos kind : Nat) : State :=
  s.setFetch cmd va fun f => { f with left := f.left - 1, failed := some (lowerFault f.failed (pos, kind)) }

/-- Once the last piece of a fetch has been answered, a Cairn operation that waits for it goes on; a launch and a step's round
or end do so at their next row. -/
def State.fetchGoesOn (s : State) (cmd va : Nat) : State :=
  if (s.fetched cmd va).isSome then s.cairnGoOn cmd else s

/-- A FLUSH for what a lookup has written to the Remote window is answered; with the last the command completes and counts, or
completes with TRANSLATION where one reported a refused write (R348, R476). -/
def State.endAnswered (s : State) (cmd : Nat) (bad : Option Miss) : State :=
  let fail := fun (e : RemoteEnd) => match bad with
    | some m => { e with status := stTranslation, value := missValue m }
    | none => e
  let go := fun (e : RemoteEnd) => if e.cmd = cmd then fail { e with left := e.left - 1 } else e
  let s := { s with links := { s.links with ends := s.links.ends.map go } }
  match s.links.ends.find? fun e => decide (e.cmd = cmd), s.cmd cmd with
  | some e, some c =>
    if e.left ≠ 0 then s
    else
      let s := { s with links := { s.links with ends := s.links.ends.filter fun e => decide (e.cmd ≠ cmd) } }
      (if e.status = 0 then s.countLookup c.ctx (e.value % 2 ^ 32) else s).complete c e.status e.value
  | _, _ => s

/-- A remote access fails for its asker with a kind of Table: Remote fault kinds, at an address of the window. -/
def State.requestFailed (s : State) (r : Request) (kind addr : Nat) : State :=
  let s := (s.dropRequest r.tag).cbump r.ctx 15 4 32
  let m := r.miss kind addr
  let fails := fun (cmd : Nat) => match s.step? cmd with | some p => s.stepMiss p m | none => s
  match r.asker with
  | .copyRead id pos => match s.copyRun id with
    | some k => (s.setCopy { k with reads := k.reads - 1, failed := some (lowerFault k.failed (pos, kind)) }).copyGoesOn id
    | none => s
  | .copyFlush id => match s.copyRun id with
    | some k =>
      let bad := some (stTranslation, missValue m, some m)
      let res := match k.result with | some (0, _, _) => bad | x => x
      (s.setCopy { k with flushes := k.flushes - 1, result := res }).copyGoesOn id
    | none => s
  | .stream key pos => s.streamReadFailed key pos m
  | .rope key part pos => s.ropeReadFailed key part pos m
  | .streamFlush key => s.streamFlushed key (some (m.va, kind))
  | .exchangeRead i _ => match s.exchange i with | some e => fails e.cmd | none => s
  | .exchangeFlush i => match s.exchange i with | some e => fails e.cmd | none => s
  | .stepFlush cmd => fails cmd
  | .partition => s
  | .fetch cmd va pos => (s.fetchFailed cmd va pos kind).fetchGoesOn cmd va
  | .fetchFlush cmd => s.endAnswered cmd (some m)

/-- A FLUSH is answered with nothing refused. -/
def State.flushAnswered (s : State) (r : Request) : State :=
  let s := s.dropRequest r.tag
  match r.asker with
  | .copyFlush id => match s.copyRun id with
    | some k => (s.setCopy { k with flushes := k.flushes - 1 }).copyGoesOn id
    | none => s
  | .streamFlush key => s.streamFlushed key none
  | .fetchFlush cmd => s.endAnswered cmd none
  | _ => s

/-! ### Border moves (R491, R498, R632) -/

/-- A port enters Exchange with the device's ID as it now stands (R470, R498). -/
def State.enterExchange (s : State) (port : Nat) : State :=
  let q := s.port port
  s.setPort port { q with
    state := .exchange, since := s.uptime, lostAt := if q.carries then s.uptime else q.lostAt, ownId := s.ownDevice
    infoSent := false }

/-- A request is recorded as sent on a port. -/
def State.requestOn (s : State) (tag port : Nat) : State :=
  { s with links := { s.links with requests := s.links.requests.map fun r => if r.tag = tag then { r with port := port } else r } }

/-- A FLUSH that waited covers every usable port, where the writes before it may have gone. -/
def State.releaseFlush (s : State) (k : Packet) (r : Request) : List Nat → State
  | [] => s.requestFailed r 6 r.va
  | p :: ps =>
    let s := (s.requestOn k.tag p).queuePacket p k
    ps.foldl (fun s q =>
      let (s, tag) := (s.moreFlushes r.asker 1).request q r.dst r.ctx 0 0 r.asker
      s.queuePacket q { k with tag := tag }) s

/-- A packet that waited for a border move goes on, or fails with kind 6 (R491). -/
def State.releasePacket (s : State) (k : Packet) : State :=
  let r := s.links.requests.find? fun r => decide (r.tag = k.tag)
  if 0x40 ≤ k.type then s.sendControl k
  else if k.type = 0x11 then
    match r with
    | some r => s.releaseFlush k r (s.usablePorts k.dst)
    | none => s
  else match s.portFor k.dst k.ctx k.addr, r with
    | some p, some _ => if k.type = 0x10 then (s.requestOn k.tag p).queuePacket p k else s.queuePacket p k
    | some p, none => if k.type = 0x10 then s else s.queuePacket p k
    | none, some r => if k.type = 0x10 then s.requestFailed r 6 r.va else s.cbump k.ctx 15 4 32
    | none, none => if k.type = 0x10 then s else s.cbump k.ctx 15 4 32

/-- Ports of the border move in progress. -/
def State.movingPorts (s : State) : List Nat := (List.range 16).filter (bit s.links.moving)

/-- A changing port takes its new partition ID and returns to Exchange, where it was in it or past it (R491, R632). -/
def State.takePartition (s : State) (port : Nat) : State :=
  let q := s.port port
  let s := s.dset (0x5010 + port) 2 0 (s.dget (0x5010 + port) 3)
  if q.carries ∨ q.state = .isolated ∨ q.state = .exchange then
    (s.setPort port { q with
      border := 4, borderHeld := false, vc0 := [], vc1 := [], vc2 := [], vc3 := [], units := [], refused := []
      spareTx := if q.txPermanent then q.spareTx else 15, testLane := 15, testPhase := 0 }).enterExchange port
  else s.setPort port { q with border := 0, borderHeld := false }

/-- A port has nothing to send any more before its border move: its BORDER has gone out, or it carries no packets. -/
def Port.borderSent (q : Port) : Bool := !q.carries || (q.vc3.isEmpty && q.units.isEmpty)

/-- A border move goes on once every changing port is ready, and ends once each has passed its Exchange (R491 steps
5 and 6). -/
def State.settleBorder (s : State) : State :=
  let ps := s.movingPorts
  let ready := ps.all fun p => decide ((s.port p).border = 0) || (decide ((s.port p).border = 3) && (s.port p).borderSent)
  let s := if s.dget 0x5000 12 = 1 ∧ ready then ((ps.foldl State.takePartition s).dset 0x5000 12 0 2).settleSlice else s
  if s.dget 0x5000 12 = 2 ∧ ps.all fun p => decide ((s.port p).border = 0) then
    let ks := s.links.waiting
    let mask := s.links.moving
    let s := { s with links := { s.links with waiting := [], moving := 0 } }
    ((ks.foldl State.releasePacket s).dset 0x5000 12 0 0).event 4 1 0 mask
  else s

/-! ### Loss of a link (R471, R475, R482) -/

/-- Another member of a step is mapped to a port (R482). -/
def State.leadsToMember (s : State) (p : Step) (port : Nat) : Bool :=
  (s.others p).any fun d => bit (s.dget 0x5000 5 d) port

/-- Steps that lose a packet with a port: group steps with a member behind it, and steps with a write sent there that
no FLUSH has covered (R41, R482). -/
def State.losesPacket (s : State) (p : Step) (port : Nat) : Bool :=
  p.launched && (s.leadsToMember p port ||
    (s.streamsOn p.footprint).any fun kv => kv.2.ports.any fun key => decide (key % 32 = port))

/-- A device is reached by no port that carries packets. -/
def State.cutOff (s : State) (d : Nat) : Bool := !((s.mappedPorts d).any fun p => (s.port p).carries)

/-- A port loses its link: its packets and frames are lost, the requests on it fail, steps that lost a packet are
replayed, and devices that no port reaches any more need acknowledge no epoch (R471, R475, R482, R579). -/
def State.linkLost (s : State) (port : Nat) (st : PortState) : State :=
  let s := (s.setPort port ((s.port port).renewed st s.uptime)).settleSlice
  let s := (s.steps.filter fun p => s.losesPacket p port).foldl (fun s p => s.replayStep p 3) s
  let lost := s.links.requests.filter fun r => decide (r.port = port)
  let s := lost.foldl (fun s r => if s.links.requests.contains r then s.requestFailed r 6 r.va else s) s
  let s := { s with links := { s.links with acks := s.links.acks.filter fun a => !s.cutOff a.device } }
  s.settleBorder

/-! ### Port states (R470) -/

/-- A port changes to a state. -/
def State.portTo (s : State) (port : Nat) (st : PortState) : State :=
  s.setPort port { s.port port with state := st, since := s.uptime }

/-- A port whose domain is Off, or that tests end on, goes to Detect, or stays Off while it is not enabled. -/
def State.portUp (s : State) (port : Nat) : State :=
  if s.dget (0x5010 + port) 1 = 0 ∨ s.pins.reflinkLost then
    (s.setPort port ((s.port port).renewed .off s.uptime)).setDomain (96 + port) 0
  else (s.setPort port ((s.port port).renewed .detect s.uptime)).setDomain (96 + port) 2

/-- A write of PORT_ENABLE: 0 holds the port Off (R470). -/
def State.writePortEnable (s : State) (port v : Nat) : State :=
  let s := s.dset (0x5010 + port) 1 0 v
  if v = 0 then
    if (s.port port).state = .off ∨ (s.port port).state = .test then s else (s.linkLost port .off).setDomain (96 + port) 0
  else if (s.port port).state = .off ∧ s.dev.profileLoaded then s.portUp port else s

/-- A move of a port from one state to another. -/
def State.portMove (s : State) (port : Nat) (src dst : PortState) : State :=
  if (s.port port).state = src then s.portTo port dst else s

/-- PORT_SIGNAL_DETECT. -/
def execPortSignalDetect (port : PortId) (s : State) : Host.Outcome State Fault Refusal :=
  .next (s.portMove port.val .detect .train)

/-- PORT_TRAIN_DONE. -/
def execPortTrainDone (port : PortId) (s : State) : Host.Outcome State Fault Refusal :=
  .next (s.portMove port.val .train .align)

/-- PORT_ALIGN_DONE. -/
def execPortAlignDone (port : PortId) (s : State) : Host.Outcome State Fault Refusal :=
  .next (if (s.port port.val).state = .align then s.enterExchange port.val else s)

/-- PORT_STATE_TIMEOUT: Train to Detect, Align to Train, Down to Detect. -/
def execPortStateTimeout (port : PortId) (s : State) : Host.Outcome State Fault Refusal :=
  .next (match (s.port port.val).state with
    | .train => s.portUp port.val
    | .align => s.portTo port.val .train
    | .down => s.portUp port.val
    | _ => s)

/-- Active to Retrain: an in-service lane test is given up (R469, R470). -/
def State.retrain (s : State) (port : Nat) : State :=
  let q := s.port port
  if q.state ≠ .active then s
  else
    let q := { q with
      state := .retrain, since := s.uptime, retries := 0, testLane := 15, testPhase := 0, partnerTest := 15
      spareTx := if q.txPermanent then q.spareTx else 15 }
    ((s.setPort port q).dbump (0x5010 + port) 11 0 32).settleSlice

/-- PORT_RETRAIN. -/
def execPortRetrain (port : PortId) (_cause : RetrainCause) (s : State) : Host.Outcome State Fault Refusal :=
  .next (s.retrain port.val)

/-- PORT_RETRAIN_ACTIVE: resending resumes from ACK + 1 (R469). -/
def execPortRetrainActive (port : PortId) (s : State) : Host.Outcome State Fault Refusal :=
  .next (
    let q := s.port port.val
    if q.state = .retrain then
      (s.setPort port.val { q with state := .active, since := s.uptime, resend := q.unacked }).settleSlice
    else s)

/-- PORT_DOWN (R471). -/
def execPortDown (port : PortId) (t : Nat) (s : State) : Host.Outcome State Fault Refusal :=
  .next (
    let q := s.port port.val
    if q.state = .retrain ∧ q.since + s.dget 0x5000 7 * 1000 ≤ t then
      ((s.at t).event 4 2 port.val q.partner).linkLost port.val .down
    else s)

/-! ### Frames received (R467-R469, R493-R495) -/

/-- The sequence number that follows. -/
def nextSeqOf (n : Nat) : Nat := (n + 1) % 4096

/-- Frames of a replay buffer that an ACK acknowledges. -/
def ackedBy (ack : Nat) (fs : List SentFrame) : Nat :=
  (fs.takeWhile fun f => decide ((ack + 4096 - f.seq) % 4096 < 2048)).length

/-- ACK drops frames from the replay buffer. -/
def Port.acked (q : Port) (ack : Nat) : Port :=
  let n := ackedBy ack q.unacked
  let kept := q.unacked.drop n
  { q with
    unacked := kept
    resend := q.resend.filter fun f => kept.any fun g => decide (g.seq = f.seq)
    retries := if n = 0 then q.retries else 0 }

/-- The lane that this receiver reads from the spare: it moves there after 16 frames in a row that name the lane, and back
after 16 more once its test has ended; it does not move there again for the same run of SPARE_TX (R493). -/
def Port.spareIn (q : Port) (tx test : Nat) : Port :=
  let q := if tx = q.spareSeen then q else { q with spareSeen := tx, spareRun := 0, spareBack := false }
  if tx = 15 then (if q.rxPermanent then q else { q with spareUse := 15, spareRun := 0, rxTested := false })
  else if q.spareUse ≠ tx then
    if (q.spareBack ∧ !q.rxPermanent) ∨ (q.rxPermanent ∧ tx ≠ q.spareRq) then q
    else if 15 ≤ q.spareRun then { q with spareUse := tx, spareRun := 0, rxTested := false }
    else { q with spareRun := q.spareRun + 1 }
  else if test = tx then { q with spareRun := 0, rxTested := true }
  else if q.rxTested && !q.rxPermanent then
    if 15 ≤ q.spareRun then { q with spareUse := 15, spareRun := 0, rxTested := false, spareBack := true }
    else { q with spareRun := q.spareRun + 1 }
  else q

/-- The transmitter's part of a lane's move, by the partner's SPARE_USE, at a time (R493, R494). -/
def Port.spareOut (q : Port) (t : Nat) : Port :=
  if q.testPhase = 1 ∧ q.partnerUse = q.testLane then { q with testPhase := 2, testSince := t }
  else if q.testPhase = 3 ∧ q.partnerUse = 15 then
    { q with testPhase := 0, testLane := 15, spareTx := if q.txPermanent then q.spareTx else 15 }
  else q

/-- The partner asks for a lane to be moved for good. While the partner reads another lane from the spare, that one moves back
first; the request is repeated in every frame (R493, R495). -/
def Port.spareFor (q : Port) (lane : Nat) : Port :=
  if q.testLane ≠ lane ∧ q.testLane ≠ 8 ∧ q.testPhase = 2 then { q with testPhase := 3 }
  else if q.partnerUse ≠ 15 ∧ q.partnerUse ≠ lane then q
  else { q with txPermanent := true, spareTx := lane, testLane := 15, testPhase := 0 }

/-- The partner's SPARE_RQ (R495). -/
def State.spareRequested (s : State) (port lane : Nat) : State :=
  let q := s.port port
  if lane = 15 ∨ q.txPermanent then s
  else
    let s := s.setPort port (q.spareFor lane)
    if (q.spareFor lane).txPermanent then s.event 8 5 port lane else s

/-- Fields of a good frame that is processed: ACK, credits, the spare lane, NAK. -/
def State.frameFields (s : State) (port : Nat) (f : FrameControl) : State :=
  let q := (s.port port).acked f.ack.toNat
  let q := { q with
    credits := (List.range 4).map fun v => q.credits.getD v 0 + (f.credit.getD v 0).toNat
    partnerUse := f.spareUse.toNat, partnerTest := f.test.toNat }
  let q := (q.spareIn f.spareTx.toNat f.test.toNat).spareOut s.uptime
  let s := (s.setPort port q).spareRequested port f.spareRq.toNat
  if f.nak then
    let q := s.port port
    let s := s.setPort port { q with resend := q.unacked, retries := q.retries + 1 }
    if s.dget 0x5000 6 ≤ q.retries + 1 then s.retrain port else s
  else s

/-- A frame that cannot be used: every later frame is discarded until ACK + 1 arrives again. -/
def Port.discard (q : Port) : Port := { q with discarding := true, nakDue := true, spareRun := 0 }

/-- A good frame in its place, again, or after a gap. -/
def State.goodFrame (s : State) (port : Nat) (f : FrameControl) : State :=
  let q := s.port port
  if f.kind = 2 then (if q.discarding then s else s.frameFields port f)
  else if f.kind = 3 then s
  else if f.fseq.toNat = nextSeqOf q.ackSeq then
    (s.setPort port { q with ackSeq := f.fseq.toNat, discarding := false }).frameFields port f
  else if q.discarding ∨ (q.ackSeq + 4096 - f.fseq.toNat) % 4096 < 2048 then s
  else s.setPort port q.discard

/-- A measured ratio is worse than SVL_LANE_BER_LIMIT: the F32 limit is m * 2^(e - 150). -/
def State.worseBer (s : State) (errors n : Nat) : Bool :=
  let f := s.dget 0x5000 10
  let e := bits f 30 23
  let m := f % 2 ^ 23 + (if e = 0 then 0 else 2 ^ 23)
  decide (m * 2 ^ max e 1 * n < errors * 2 ^ 150)

/-- A received lane is to move onto the spare for good; a second such lane sends the port into Retrain (R495). -/
def State.laneFails (s : State) (port lane : Nat) : State :=
  let q := s.port port
  if lane = 8 ∨ (q.rxPermanent ∧ q.spareRq = lane) then s
  else if q.rxPermanent then s.retrain port
  else (s.setPort port { q with spareRq := lane, rxPermanent := true }).event 8 5 port lane

/-- Bits that a lane carries in 1 s (R465). -/
def laneBits : Nat := 212500000000

/-- Corrected symbols are counted on their lanes, over 1 s; a lane whose count implies a bit error ratio worse than the
limit fails (R465, R495). -/
def State.symbolsCorrected (s : State) (port : Nat) (symbols : List (Fin 544)) : State :=
  let q := s.port port
  let q := if q.symbolsSince + 1000000000 ≤ s.uptime then { q with symbols := [], symbolsSince := s.uptime } else q
  let lanes := symbols.map fun i => i.val % 8
  let t := lanes.foldl (fun t l => tput t l (tget 0 t l + 1)) q.symbols
  lanes.dedup.foldl (fun s l => if s.worseBer (tget 0 t l) laneBits then s.laneFails port l else s)
    (s.setPort port { q with symbols := t })

/-- FRAME_RECEIVED. -/
def execFrameReceived (port : PortId) (check : FrameCheck) (fcu : FrameControl) (s : State) :
    Host.Outcome State Fault Refusal :=
  .next (
    let p := port.val
    let st := (s.port p).state
    if st = .exchange ∨ st = .active ∨ st = .isolated then
      match check with
      | .good => s.goodFrame p fcu
      | .corrected symbols => ((s.dbump (0x5010 + p) 8 0 64).symbolsCorrected p symbols).goodFrame p fcu
      | .uncorrectable => (s.dbump (0x5010 + p) 9 0 32).setPort p (s.port p).discard
      | .badCrc => s.setPort p (s.port p).discard
    else s)

/-! ### Frames sent (R466-R469, R473, R479) -/

/-- Data units of n bytes. -/
def unitsOf (n : Nat) : Nat := (n + 31) / 32

/-- Data of a packet in units of 32 bytes, the last one zero beyond it. -/
def dataUnits (b : Bytes) : List Bytes := (List.range (unitsOf b.length)).map fun i => padTo (slice b (32 * i) 32) 32

/-- The units of a packet: its header, then its data (R473, R474). -/
def Packet.units (k : Packet) : List Bytes :=
  (leBytes 1 k.type ++ leBytes 1 (b2n k.poison) ++ leBytes 2 (unitsOf k.data.length) ++ leBytes 2 k.src ++ leBytes 2 k.dst ++
    leBytes 2 k.ctx ++ leBytes 2 k.epoch ++ leBytes 4 k.tag ++ leBytes 8 k.addr ++ leBytes 4 k.length ++ leBytes 2 k.status ++
    leBytes 2 0) :: dataUnits k.data

def Port.vc (q : Port) (v : Nat) : List Packet :=
  match v with | 0 => q.vc0 | 1 => q.vc1 | 2 => q.vc2 | _ => q.vc3

def Port.setVc (q : Port) (v : Nat) (ks : List Packet) : Port :=
  match v with
  | 0 => { q with vc0 := ks }
  | 1 => { q with vc1 := ks }
  | 2 => { q with vc2 := ks }
  | _ => { q with vc3 := ks }

/-- The packet at the head of a virtual channel may be sent: credits for all its units are held, and a FLUSH follows
the writes queued before it (R476, R479). -/
def Port.sendable (q : Port) (v : Nat) : Bool :=
  match q.vc v with
  | k :: _ => decide (1 + unitsOf k.data.length ≤ q.credits.getD v 0) && !(decide (k.type = 0x11) && !q.vc2.isEmpty)
  | [] => false

/-- Takes the next packet, Control first (R482), into the units on their way. -/
def Port.begin (q : Port) : Option Port :=
  match [3, 1, 2, 0].find? q.sendable with
  | none => none
  | some v => match q.vc v with
    | k :: ks => some { q.setVc v ks with
        units := k.units, credits := q.credits.set v (q.credits.getD v 0 - k.units.length) }
    | [] => none

/-- A unit of filler. -/
def nopUnit : Bytes := leBytes 32 0

/-- Fills a body of n units from unit i on; the index of the first header that begins in it comes with it. -/
def Port.fill : Nat → Nat → Port → List Bytes × Nat × Port
  | 0, _, q => ([], 0, q)
  | n + 1, i, q =>
    let (q, first) := match q.units with
      | [] => match q.begin with | some r => (r, i) | none => (q, 0)
      | _ => (q, 0)
    match q.units with
    | u :: us =>
      let (rest, f, q) := Port.fill n (i + 1) { q with units := us }
      (u :: rest, if first = 0 then f else first, q)
    | [] =>
      let (rest, f, q) := Port.fill n (i + 1) q
      (nopUnit :: rest, f, q)

/-- The body of a LINK_INFO frame (Table: LINK_INFO; R479). -/
def State.infoBody (s : State) (port : Nat) : List Bytes :=
  let q := s.port port
  (leBytes 2 0x5653 ++ leBytes 1 (s.dget 0x5000 3) ++ leBytes 1 (s.dget 0x5000 2) ++ leBytes 2 q.ownId ++
    leBytes 2 (s.dget (0x5010 + port) 2) ++ leBytes 1 port ++ leBytes 3 0 ++ leBytes 2 1024 ++ leBytes 2 8192 ++
    leBytes 2 8192 ++ leBytes 2 512 ++ leBytes 12 0) :: List.replicate 18 nopUnit

/-- The lane that carries a test pattern from this transmitter. -/
def Port.testOut (q : Port) : Nat := if q.testPhase = 2 then q.testLane else 15

/-- The 640 bytes of a frame: the frame control unit with its CRC, and the body (R466). -/
def Port.frameBytes (q : Port) (f : SentFrame) : Bytes :=
  let body := padTo (f.body.flatten) 608
  let head := leBytes 2 (f.seq + f.kind * 2 ^ 12) ++ leBytes 2 (q.ackSeq + b2n q.nakDue * 2 ^ 12) ++
    f.credit.flatMap (leBytes 2) ++ leBytes 1 f.firstHdr ++ leBytes 1 (q.spareTx + 16 * q.spareUse) ++
    leBytes 1 (q.testOut + 16 * q.spareRq) ++ leBytes 13 0
  head ++ leBytes 4 (crc32c (head ++ body)).toNat ++ body

/-- Packets of a virtual channel that a port has begun to send, with their contexts, for the perturbation of it. -/
def State.perturbSent (s : State) (port : Nat) (q r : Port) : State :=
  (List.range 4).foldl (fun s v =>
    ((q.vc v).take ((q.vc v).length - (r.vc v).length)).foldl (fun s k => (s.perturbed 5 port v k.ctx true).1) s) s

/-- Credits that a frame returns to the partner, for the same. -/
def State.perturbCredits (s : State) (port : Nat) (give : List Nat) : State :=
  (List.range 4).foldl (fun s v => if give.getD v 0 = 0 then s else (s.perturbed 5 port v 0xFFFF false).1) s

/-- Sends a frame: NAK has gone out with it. -/
def State.sendFrame (s : State) (port : Nat) (q : Port) (f : SentFrame) : State :=
  let since := if f.kind = 2 then 0 else q.sinceComp + 1
  (s.setPort port { q with nakDue := false, sinceComp := since }).emit (.frame port (q.frameBytes f))

/-- A KIND 2 frame. -/
def compFrame : SentFrame := { seq := 0, kind := 2, credit := [0, 0, 0, 0], firstHdr := 0, body := [] }

/-- A new sequenced frame with a body goes into the replay buffer, with the credits freed. -/
def State.newFrame (s : State) (port : Nat) (q : Port) (kind first : Nat) (packets : Bool) (body : List Bytes) : State :=
  let give := q.freed.map (min 65535)
  let f : SentFrame :=
    { seq := q.nextSeq, kind := kind, credit := give, firstHdr := first, body := body, packets := packets }
  let left := (List.range 4).map fun v => q.freed.getD v 0 - give.getD v 0
  (s.perturbCredits port give).sendFrame port { q with nextSeq := nextSeqOf q.nextSeq, unacked := q.unacked ++ [f], freed := left } f

/-- The frame that a port sends next. -/
def State.nextFrame (s : State) (port : Nat) : State :=
  let q := s.port port
  if q.state = .align ∨ 2047 ≤ q.sinceComp then s.sendFrame port q compFrame
  else match q.resend with
    | f :: fs => (s.dbump (0x5010 + port) 10 0 32).sendFrame port { q with resend := fs } f
    | [] =>
      if 1024 ≤ q.unacked.length then s.sendFrame port q compFrame
      else if q.state = .exchange ∨ !q.infoSent then
        s.newFrame port { q with infoSent := true } 1 0 false (s.infoBody port)
      else if q.state = .active then
        let begun := !q.units.isEmpty
        let (body, first, r) := q.fill 19 1
        (s.perturbSent port q r).newFrame port r 0 first (begun || decide (first ≠ 0)) body
      else s.newFrame port q 0 0 false (List.replicate 19 nopUnit)

/-- FRAME_TRANSMIT; a border move may go on once BORDER has gone out with it (R491). -/
def execFrameTransmit (port : PortId) (s : State) : Host.Outcome State Fault Refusal :=
  .next (match (s.port port.val).state with
    | .align => s.nextFrame port.val
    | .exchange => s.nextFrame port.val
    | .active => (s.nextFrame port.val).settleBorder
    | .isolated => s.nextFrame port.val
    | _ => s)

end Sys2Proof.Machine
end

