-- ==== Sys2Proof/Machine/Partition.lean ====
section
/-! DEFINITION. LINK_INFO, the moving of a partition border, and lane tests (R472, R491-R496, R498, R632). -/

namespace Sys2Proof.Machine

/-! ### LINK_INFO (R472, R498) -/

/-- The partner advertises the receive buffers that R472 asks for. -/
def creditsOk (cs : List (BitVec 16)) : Bool :=
  ([64, 258, 258, 64].zipIdx).all fun (x : Nat × Nat) => decide (x.1 ≤ (cs.getD x.2 0).toNat)

/-- Why a port stays Isolated: 0 for no reason, else the cause in PORT_PARTNER. -/
def State.isolationCause (s : State) (port : Nat) (i : LinkInfo) : Nat :=
  let part := s.dget (0x5010 + port) 2
  let level := min (s.dget 0x5000 3) i.flCeiling.toNat
  if part = 0xFFFF ∨ i.partition.toNat ≠ part then 1
  else if i.deviceId.toNat = (s.port port).ownId ∧ !i.isSwitch then 2
  else if !(bit (s.dget 0x5000 2) level && bit i.flSupported.toNat level) then 3
  else if !creditsOk i.credits then 4 else 0

/-- LINK_INFO: the port becomes Active or Isolated. -/
def State.linkInfo (s : State) (port : Nat) (i : LinkInfo) : State :=
  let q := s.port port
  let cause := s.isolationCause port i
  let level := if cause = 3 then 0 else min (s.dget 0x5000 3) i.flCeiling.toNat
  let word := i.deviceId.toNat + b2n i.isSwitch * 2 ^ 12 + i.partition.toNat * 2 ^ 13 + i.port.toNat % 16 * 2 ^ 29 +
    level * 2 ^ 33 + cause * 2 ^ 36
  let q := { q with
    state := if cause = 0 then .active else .isolated, since := s.uptime, partner := word, partnerId := i.deviceId.toNat
    partnerSwitch := i.isSwitch, level := level, border := 0
    credits := (List.range 4).map fun v => (i.credits.getD v 0).toNat }
  ((s.setPort port q).settleSlice).settleBorder

def execLinkInfo (port : PortId) (info : LinkInfo) (s : State) : Host.Outcome State Fault Refusal :=
  .next (if (s.port port.val).state = .exchange ∧ info.magic = 0x5653 then s.linkInfo port.val info else s)

/-! ### PARTITION_APPLY (R491 steps 2 to 4) -/

/-- Ports whose PORT_PARTITION_NEXT has been written since the last PARTITION_APPLY (R632). -/
def State.changingPorts (s : State) : List Nat := (List.range 16).filter fun p => (s.port p).nextWritten

/-- A group step executes with a member whose only usable ports are among those changing. -/
def State.groupBlocks (s : State) (ps : List Nat) : Bool :=
  s.steps.any fun p => p.launched && (s.others p).any fun d =>
    !(s.usablePorts d).isEmpty && (s.usablePorts d).all ps.contains

/-- Devices that contexts have addressed and that are mapped to a port. -/
def State.devicesOn (s : State) (port : Nat) : List Nat :=
  ((s.links.addressed.map fun kv => kv.1 % 4096).dedup).filter fun d => bit (s.dget 0x5000 5 d) port

/-- A changing port is fenced: a FLUSH goes to each device addressed over it. A port that carries no packets is ready
at once. -/
def State.fencePort (s : State) (port : Nat) : State :=
  let q := s.port port
  let q := { q with nextWritten := false, border := if q.carries then 1 else 3 }
  let s := s.setPort port q
  if q.border = 1 then
    (s.devicesOn port).foldl (fun s d =>
      let (s, tag) := s.request port d 256 0 0 .partition
      s.queuePacket port { type := 0x11, src := 0, dst := d, ctx := 256, epoch := s.epochOf 256, tag := tag }) s
  else s

/-- A write of PARTITION_APPLY. -/
def State.writePartitionApply (s : State) : Written :=
  let ps := s.changingPorts
  if s.dget 0x5000 12 ≠ 0 ∨ s.groupBlocks ps then (s, kState)
  else
    let mask := (ps.map (2 ^ ·)).foldl (· + ·) 0
    let s := { s with links := { s.links with moving := mask } }.dset 0x5000 12 0 1
    ((ps.foldl State.fencePort s).settleBorder, kOk)

/-- Everything sent on a changing port is acknowledged: no frame that holds packets, no packet and no request is left. -/
def State.portDrained (s : State) (port : Nat) : Bool :=
  let q := s.port port
  !(q.unacked.any (·.packets)) && q.units.isEmpty && q.vc0.isEmpty && q.vc1.isEmpty && q.vc2.isEmpty && q.vc3.isEmpty &&
    !(s.links.requests.any fun r => decide (r.port = port))

/-- PARTITION_DRAINED: the port sends BORDER and waits for the partner's. -/
def execPartitionDrained (port : PortId) (s : State) : Host.Outcome State Fault Refusal :=
  .next (
    let q := s.port port.val
    if q.border = 1 ∧ s.portDrained port.val then
      let s := s.setPort port.val { q with border := if q.borderHeld then 3 else 2, borderSince := s.uptime }
      (s.queuePacket port.val { type := 0x47, src := 0, dst := q.partnerId, ctx := 256, epoch := 0 }).settleBorder
    else s)

/-- The partner's BORDER has come: a port that waits for it is ready, another remembers it. -/
def State.borderCame (s : State) (port : Nat) : State :=
  let q := s.port port
  if q.border = 2 then (s.setPort port { q with border := 3 }).settleBorder
  else s.setPort port { q with borderHeld := true }

/-- BORDER_WAIT_TIMEOUT: 1 ms without the partner's BORDER. -/
def execBorderWaitTimeout (port : PortId) (t : Nat) (s : State) : Host.Outcome State Fault Refusal :=
  .next (
    let q := s.port port.val
    if q.border = 2 ∧ q.borderSince + 1000000 ≤ t then ((s.at t).setPort port.val { q with border := 3 }).settleBorder
    else s)

/-! ### In-service lane tests (R493-R495) -/

/-- LANE_TEST_INTERVAL: the next lane of the cycle 8, 0, 1, ..., 7 is tested. -/
def execLaneTestInterval (port : PortId) (s : State) : Host.Outcome State Fault Refusal :=
  .next (
    let q := s.port port.val
    if q.state = .active ∧ q.testPhase = 0 ∧ !q.txPermanent then
      let k := q.nextLane
      let q := { q with nextLane := (k + 1) % 9, testLane := k }
      s.setPort port.val (if k = 8 then { q with testPhase := 2, testSince := s.uptime } else { q with testPhase := 1, spareTx := k })
    else s)

/-- FP32 bits of a bit-error ratio, rounded to nearest even (R494; log 77). -/
def berOf (errors n : Nat) : Nat :=
  enc32 (fp32.rn (.fin false (2 * (errors * 2 ^ 200 / n) + b2n (decide (errors * 2 ^ 200 % n ≠ 0))) (-201)))

/-- A lane's checker has counted errors and bits: kept, and reported as PORT_LANE_BER (R492, R494). -/
def State.laneChecked (s : State) (port lane errors n : Nat) : State :=
  if n = 0 then s
  else
    let q := s.port port
    (s.setPort port { q with checks := tput q.checks lane (errors, n) }).dset (0x5010 + port) 14 lane (berOf errors n)

/-- The result of a test of a received lane (R494). -/
def State.laneMeasured (s : State) (port errors n : Nat) : State :=
  let k := (s.port port).partnerTest
  if k = 15 ∨ n = 0 then s
  else
    let s := s.laneChecked port k errors n
    if s.worseBer errors n then s.laneFails port k else s

/-- LANE_TEST_DWELL_END: a dwell of this transmitter's own test that has lasted SVL_LANE_TEST_DWELL ends, and the lane moves
back; a dwell of the partner's test ends with what this side's checker counted, and the lane is reported. The two directions
are independent: with no bits compared only the first is meant (R494). -/
def execLaneTestDwellEnd (port : PortId) (errors bits : Nat) (t : Nat) (s : State) : Host.Outcome State Fault Refusal :=
  .next (
    let q := s.port port.val
    if q.state = .active then
      let q := if q.testPhase ≠ 2 ∨ max s.uptime t < q.testSince + s.dget 0x5000 9 * 1000000 then q
        else if q.testLane = 8 then { q with testPhase := 0, testLane := 15 } else { q with testPhase := 3 }
      ((s.at t).setPort port.val q).laneMeasured port.val errors bits
    else s)

/-! ### Installation lane tests (R496) -/

/-- A write of PORT_LANE_TEST. -/
def State.writePortLaneTest (s : State) (port v : Nat) : Written :=
  let q := s.port port
  if q.state = .isolated ∨ q.state = .off ∨ q.state = .down then
    ((s.setPort port { q.renewed .test s.uptime with labTest := v }).setDomain (96 + port) 2, kOk)
  else (s, kState)

/-- PORT_LANE_TEST_END: the chosen time is over; what the nine lanes' checkers counted is reported, and the port enters Detect
(R492, R494, R496). -/
def execPortLaneTestEnd (test : LabTest) (s : State) : Host.Outcome State Fault Refusal :=
  .next (
    let p := test.port.val
    let q := s.port p
    if q.state = .test ∧ q.since + q.labTest / 4 * 1000000000 ≤ max s.uptime test.t then
      let found := (test.lanes.take 9).zipIdx.foldl (fun s (x : (Nat × Nat) × Nat) => s.laneChecked p x.2 x.1.1 x.1.2) (s.at test.t)
      found.portUp p
    else s)

end Sys2Proof.Machine
end

