-- ==== Sys2Proof/Machine/Packets.lean ====
section
/-! DEFINITION. Packets received on a fabric port: remote reads and writes, their answers, the Control messages of
group steps, of epochs and of border moves, and the group commit (R473-R477, R481-R489). -/

namespace Sys2Proof.Machine

/-! ### Acceptance (R473, R477, R479, R489) -/

/-- A header's fields that every packet keeps to: its TYPE, the data units that follow it, reserved bits, source,
destination and context. -/
def packetOk (q : Port) (type units : Nat) (h : PacketHeader) : Bool :=
  decide (h.type.toNat = type) && decide (h.units.toNat = units) && !h.reserved && decide (h.src.toNat < 4096) &&
    decide (h.dst.toNat = q.ownId) && decide (h.ctx.toNat ≤ 256)

/-- An access of LENGTH bytes within one aligned 4 KiB window, no larger than the port's level allows (R473, R497). -/
def accessOk (q : Port) (h : PacketHeader) : Bool :=
  let n := h.length.toNat
  let a := h.addr.toNat
  decide (1 ≤ n) && decide (n ≤ (if q.level = 1 then 2048 else 4096)) && decide (a < 2 ^ 40) &&
    decide (a % 4096 + n ≤ 4096)

/-- Receives a packet of a type with its data units on an Active port: its credits are returned, and a malformed one is
counted and dropped. -/
def State.packetIn (s : State) (port type units : Nat) (h : PacketHeader) (ok : Port → Bool) (go : State → State) : State :=
  let q := s.port port
  let vc := vcOf type
  if q.state ≠ .active then s
  else
    let s := s.setPort port { q with freed := q.freed.set vc (q.freed.getD vc 0 + 1 + h.units.toNat) }
    if packetOk q type units h && ok q then go s else s.dbump (0x5010 + port) 12 0 32

/-! ### Requests and writes at the target (R475, R476) -/

/-- READ. -/
def execRead (port : PortId) (h : PacketHeader) (s : State) : Host.Outcome State Fault Refusal :=
  .next (s.packetIn port.val 0x10 0 h (fun q => accessOk q h) fun s =>
    s.serveAccess { port := port.val, kind := .read, h := h })

/-- FLUSH: the first refused write of its source on this port is reported, once. -/
def execFlush (port : PortId) (h : PacketHeader) (s : State) : Host.Outcome State Fault Refusal :=
  .next (s.packetIn port.val 0x11 0 h (fun _ => decide (h.addr.toNat < 2 ^ 40)) fun s =>
    s.serveAccess { port := port.val, kind := .flush, h := h })

/-- WRITE. -/
def execWrite (port : PortId) (h : PacketHeader) (data : Bytes) (s : State) : Host.Outcome State Fault Refusal :=
  .next (s.packetIn port.val 0x30 (unitsOf data.length) h (fun q => accessOk q h && decide (data.length = h.length.toNat)) fun s =>
    s.serveAccess { port := port.val, kind := .write, h := h, data := data })

/-! ### Responses (R475, R476, R489) -/

/-- The request that a response answers; a response of another epoch is dropped. -/
def State.responded (s : State) (port : Nat) (h : PacketHeader) (go : State → Request → State) : State :=
  if h.epoch.toNat ≠ s.epochOf h.ctx.toNat then s.epochDrop port h
  else match s.links.requests.find? fun r =>
      decide (r.tag = h.tag.toNat) && decide (r.dst = h.src.toNat) && decide (r.ctx = h.ctx.toNat) with
    | some r => go s r
    | none => s

/-- Data of a READ of a stream lands; poisoned data is damaged committed input (R45). While the stream is halted, what comes
before its position has been counted, and what comes after it will be transferred again (R290, R291). -/
def State.streamLanded (s : State) (key pos : Nat) (poison : Bool) (b : Bytes) : State :=
  match s.strm (key / 32) (key % 32) with
  | none => s
  | some x =>
    if poison then s.stepDamage x.p ((x.addr pos).getD remoteBase)
    else
      let c := pos / max 1 x.half
      if x.st.fault.isSome then
        let h := x.st.halfOf c
        (s.setStream key (x.st.setHalf c { h with data := overlay h.data (pos % max 1 x.half) b })).advance (key / 32) 1
      else
        let s := s.land x pos b
        if s.streamPending key then s
        else
          let t := (s.restrm x).st
          s.setStream key (t.setHalf c { t.halfOf c with busy := false })

/-- Data of a READ of a Rope's reader gathers in the stream buffer (R296, R303); of a halted head it is dropped, of a halted delta
reader what comes before its position has been counted (R291). -/
def State.ropeLanded (s : State) (key part pos : Nat) (poison : Bool) (b : Bytes) : State :=
  match s.strm (key / 32) (key % 32) with
  | none => s
  | some x =>
    if poison then
      s.stepDamage x.p ((if part = 0 then x.src + (s.core (key / 32)).ropeCame % max 1 x.blocks * x.size else x.deltaAddr) + pos)
    else
      let h := x.st.halfOf part
      let on := s.links.requests.any fun r => match r.asker with | .rope k q _ => decide (k = key) && decide (q = part) | _ => false
      if x.st.haltedReader part then
        if part = 0 then s else s.setStream key (x.st.setHalf part { h with data := overlay h.data pos b })
      else s.setStream key (x.st.setHalf part { h with data := overlay h.data pos b, done := h.done + b.length, busy := on })

/-- The data of a READ reaches its asker. -/
def State.readAnswered (s : State) (r : Request) (poison : Bool) (b : Bytes) : State :=
  let s := (s.dropRequest r.tag).cbump r.ctx 15 1 64 b.length
  match r.asker with
  | .copyRead id pos => match s.copyRun id with
    | some k =>
      let k := if poison then { k with failed := some (lowerFault k.failed (pos, 0)) }
        else { k with parts := tput k.parts pos b }
      (s.setCopy { k with reads := k.reads - 1 }).copyGoesOn id
    | none => s
  | .stream key pos => s.streamLanded key pos poison b
  | .rope key part pos => s.ropeLanded key part pos poison b
  | .exchangeRead i dst => match s.exchange i with
    | none => s
    | some e => match s.step? e.cmd with
      | none => s
      | some p =>
        if poison then s.stepDamage p (r.miss 1 r.va).va
        else match s.stepWrite p dst b with
          | .ok s => s.setExchange { e with outstanding := e.outstanding - 1, progress := e.progress + b.length, moved := s.phase }
          | .error s => s
  | .fetch cmd va pos =>
    let s := if poison then s.fetchFailed cmd va pos 0
      else s.setFetch cmd va fun f => { f with left := f.left - 1, parts := tput f.parts pos b }
    s.fetchGoesOn cmd va
  | _ => s

/-- READ_DATA. -/
def execReadData (port : PortId) (h : PacketHeader) (data : Bytes) (s : State) : Host.Outcome State Fault Refusal :=
  .next (s.packetIn port.val 0x20 (unitsOf data.length) h (fun q => accessOk q h && decide (data.length = h.length.toNat)) fun s =>
    s.responded port.val h fun s r => if r.length = data.length then s.readAnswered r h.poison data else s)

/-- READ_FAULT. -/
def execReadFault (port : PortId) (h : PacketHeader) (s : State) : Host.Outcome State Fault Refusal :=
  .next (s.packetIn port.val 0x21 0 h (fun _ => decide (h.addr.toNat < 2 ^ 40)) fun s =>
    s.responded port.val h fun s r => s.requestFailed r h.status.toNat r.va)

/-- FLUSH_DONE. -/
def execFlushDone (port : PortId) (h : PacketHeader) (s : State) : Host.Outcome State Fault Refusal :=
  .next (s.packetIn port.val 0x22 0 h (fun _ => decide (h.addr.toNat < 2 ^ 40)) fun s =>
    s.responded port.val h fun s r =>
      if h.status = 0 then s.flushAnswered r
      else
        let s := s.requestFailed r h.status.toNat h.addr.toNat
        s)

/-! ### Group messages (R481-R487) -/

/-- GROUP_ID and ATTEMPT of a group message. -/
def groupOf (h : PacketHeader) : Nat := h.addr.toNat % 2 ^ 32
def attemptOf (h : PacketHeader) : Nat := h.addr.toNat / 2 ^ 32

/-- Fields of a group message: ADDR above the attempt is zero, and an attempt is at most 7. -/
def groupOk (h : PacketHeader) : Bool := decide (attemptOf h ≤ 7)

/-- The launched step of a group. -/
def State.groupStep (s : State) (h : PacketHeader) : Option Step :=
  s.steps.find? fun p => decide (p.ctx = h.ctx.toNat) && decide (p.groupId = groupOf h) && !p.members.isEmpty && p.latched

/-- Where a group message of an attempt goes. -/
inductive GroupPlace where
  /-- of the attempt that the step executes -/
  | current (p : Step)
  /-- of an attempt that is over -/
  | late
  /-- of an attempt that has not begun here -/
  | early
deriving DecidableEq, Repr

def State.groupPlace (s : State) (h : PacketHeader) : GroupPlace :=
  match s.groupStep h with
  | none => .early
  | some p =>
    if !p.members.contains h.src.toNat then .late
    else if p.launched then
      if attemptOf h < p.attempt then .late else if attemptOf h = p.attempt then .current p else .early
    else if attemptOf h ≤ p.attempt then .late else .early

/-- Changes the group's entry in the table of early messages, which one of at most 1,024 entries beside the steps in
flight holds (R487). -/
def State.earlyNote (s : State) (h : PacketHeader) (f : EarlyGroup → EarlyGroup) : State :=
  let mine := fun (e : EarlyGroup) => decide (e.ctx = h.ctx.toNat) && decide (e.group = groupOf h)
  let claimed := fun (e : EarlyGroup) => s.steps.any fun p =>
    decide (p.ctx = e.ctx) && decide (p.groupId = e.group) && !p.members.isEmpty && p.latched
  if s.links.early.any mine then
    { s with links := { s.links with early := s.links.early.map fun e => if mine e then f e else e } }
  else if (s.groupStep h).isNone ∧ 1024 ≤ (s.links.early.filter fun e => !claimed e).length then s.dbump 0x5000 13 0 32
  else
    let e : EarlyGroup := { ctx := h.ctx.toNat, group := groupOf h, arrived := s.phase }
    { s with links := { s.links with early := s.links.early ++ [f e] } }

/-- Adds a member's READY to a list of them. -/
def addReady (rs : List (Nat × Nat × Nat)) (r : Nat × Nat × Nat) : List (Nat × Nat × Nat) :=
  if rs.any fun x => decide (x.1 = r.1) then rs else rs ++ [r]

/-- READY. -/
def execReady (port : PortId) (h : PacketHeader) (t : Nat) (s : State) : Host.Outcome State Fault Refusal :=
  let n := h.length.toNat
  .next ((s.at t).packetIn port.val 0x40 0 h (fun _ => groupOk h && decide (bits n 15 8 = 0)) fun s =>
    let r := (h.src.toNat, n % 256, n / 2 ^ 16)
    match s.groupPlace h with
    | .current p => s.setStep { p with readies := addReady p.readies r }
    | .late => s
    | .early => s.earlyNote h fun e => { e with readies := e.readies ++ [(attemptOf h, r)] })

/-- An attempt is discarded for another member's ABORT: a status other than 0 takes the place of a replay, and the
outcome of a reset stands (R483, Table: Coincident group events). -/
def State.abortAttempt (s : State) (p : Step) (status event : Nat) : State :=
  let s := if p.aborted then s else s.cbump p.ctx 15 3 32
  let v := if status = 0 then (0, s) else s.abortValue status
  let e : Ending := if status = 0 then .replay (event % 256) else .status status (BitVec.ofNat 64 v.1)
  let keep := match p.ending with
    | none => false
    | some (.replay _) => decide (status = 0)
    | some (.damaged _) => decide (status = 0)
    | some .held => decide (status = 0)
    | some _ => true
  let p := { p with aborted := true, readySent := false, ending := if keep then p.ending else some e }
  (v.2.setStep p).rappel p.footprint p.ctx (.replay p.cmd)

/-- An ABORT with a status for the attempt that a hang search has discarded ends the step that it keeps (R483, R585). -/
def State.abortHeld (s : State) (h : PacketHeader) (status : Nat) : State :=
  match s.groupStep h with
  | some p =>
    if !p.launched && p.members.contains h.src.toNat && decide (attemptOf h = p.attempt) && decide (status ≠ 0) then
      s.abortedEnd p status
    else s
  | none => s

/-- ABORT. -/
def execAbort (port : PortId) (h : PacketHeader) (t : Nat) (s : State) : Host.Outcome State Fault Refusal :=
  let st := h.status.toNat
  let ev := h.length.toNat % 256
  .next ((s.at t).packetIn port.val 0x41 0 h (fun _ => groupOk h) fun s =>
    match s.groupPlace h with
    | .current p => if p.committed then s else s.abortAttempt p st ev
    | .late => (s.abortHeld h st).nextSearch
    | .early => s.earlyNote h fun e => match e.abort with
      | some (a, old, _) =>
        if attemptOf h < a ∨ (attemptOf h = a ∧ (old ≠ 0 ∨ st = 0)) then e else { e with abort := some (attemptOf h, st, ev) }
      | none => { e with abort := some (attemptOf h, st, ev) })

/-- The exchange of a step that a COUNTS or ANNOUNCE names, while it gathers. -/
def State.gathering (s : State) (p : Step) (h : PacketHeader) : Option Exchange :=
  s.tru.exchanges.find? fun e => decide (e.cmd = p.cmd) && decide (e.desc = h.length.toNat % 256) &&
    decide (e.run % 256 = bits h.length.toNat 15 8) && decide (e.stage = .gathering)

/-- Keeps a COUNTS or ANNOUNCE for an exchange that has not begun, once. -/
def State.noteGroup (s : State) (h : PacketHeader) (type : Nat) (data : Bytes) : State :=
  let n : GroupNote :=
    { ctx := h.ctx.toNat, group := groupOf h, attempt := attemptOf h, src := h.src.toNat, type := type
      desc := h.length.toNat % 256, run := bits h.length.toNat 15 8, data := data }
  let same := fun (m : GroupNote) => decide ({ m with data := [] } = { n with data := [] })
  if s.links.notes.any same then s else { s with links := { s.links with notes := s.links.notes ++ [n] } }

/-- Receives a COUNTS or ANNOUNCE. -/
def State.exchangeNote (s : State) (h : PacketHeader) (type : Nat) (data : Bytes) (put : Exchange → Exchange) : State :=
  match s.groupPlace h with
  | .current p => match s.gathering p h with
    | some e => s.setExchange (put e)
    | none => s.noteGroup h type data
  | .late => s
  | .early =>
    let s := s.earlyNote h id
    if s.links.early.any fun e => decide (e.ctx = h.ctx.toNat) && decide (e.group = groupOf h) then s.noteGroup h type data else s

/-- COUNTS (R453). -/
def execCounts (port : PortId) (h : PacketHeader) (data : Bytes) (t : Nat) (s : State) :
    Host.Outcome State Fault Refusal :=
  .next ((s.at t).packetIn port.val 0x42 (unitsOf data.length) h
    (fun _ => groupOk h && decide (data.length % 4 = 0) && decide (data.length ≤ 1024)) fun s =>
    s.exchangeNote h 0x42 data fun e =>
      if e.counts.any fun x => decide (x.1 = h.src.toNat) then e
      else { e with counts := e.counts ++ [(h.src.toNat, (List.range (exE e.record)).map fun i => field data (4 * i) 4)] })

/-- ANNOUNCE (R457). -/
def execAnnounce (port : PortId) (h : PacketHeader) (t : Nat) (s : State) : Host.Outcome State Fault Refusal :=
  .next ((s.at t).packetIn port.val 0x43 0 h (fun _ => groupOk h) fun s =>
    s.exchangeNote h 0x43 [] fun e =>
      if e.announced.contains h.src.toNat then e else { e with announced := e.announced ++ [h.src.toNat] })

/-- A member's hold begins or ends. -/
def holdSet [DecidableEq α] (ds : List α) (d : α) (on : Bool) : List α :=
  let rest := ds.filter fun x => decide (x ≠ d)
  if on then rest ++ [d] else rest

/-- HOLD (R486). -/
def execHold (port : PortId) (h : PacketHeader) (t : Nat) (s : State) : Host.Outcome State Fault Refusal :=
  let on := decide (h.status = 1)
  .next ((s.at t).packetIn port.val 0x44 0 h (fun _ => groupOk h && decide (h.status.toNat ≤ 1)) fun s =>
    match s.groupPlace h with
    | .current p => s.setStep { p with holding := holdSet p.holding h.src.toNat on }
    | .late => s
    | .early => s.earlyNote h fun e => { e with holding := holdSet e.holding (attemptOf h, h.src.toNat) on })

/-! ### Link messages (R481, R488, R491) -/

/-- EPOCH: the latest epoch of a source's context is kept, and acknowledged. -/
def execEpoch (port : PortId) (h : PacketHeader) (s : State) : Host.Outcome State Fault Refusal :=
  .next (s.packetIn port.val 0x45 0 h (fun _ => decide (h.addr = 0)) fun s =>
    let k := h.src.toNat * 512 + h.ctx.toNat
    let e := h.length.toNat % 65536
    let newer := match tfind s.links.epochs k with | some f => olderEpoch f e | none => true
    let s := if newer then { s with links := { s.links with epochs := tput s.links.epochs k e } } else s
    s.sendControl { type := 0x46, src := 0, dst := h.src.toNat, ctx := h.ctx.toNat, epoch := h.epoch.toNat, length := e })

/-- EPOCH_ACK. -/
def execEpochAck (port : PortId) (h : PacketHeader) (s : State) : Host.Outcome State Fault Refusal :=
  .next (s.packetIn port.val 0x46 0 h (fun _ => decide (h.addr = 0)) fun s =>
    { s with links := { s.links with acks := s.links.acks.filter fun a =>
      !(decide (a.ctx = h.ctx.toNat) && decide (a.device = h.src.toNat) && decide (a.epoch = h.length.toNat % 65536)) } })

/-- BORDER. -/
def execBorder (port : PortId) (h : PacketHeader) (s : State) : Host.Outcome State Fault Refusal :=
  .next (s.packetIn port.val 0x47 0 h (fun _ => decide (h.addr = 0) && decide (h.ctx = 256)) fun s => s.borderCame port.val)

/-! ### The outcome of a group step (R484, R485, R487, R571) -/

/-- GROUP_COMMIT. -/
def execGroupCommit (cmd t : Nat) (s : State) : Host.Outcome State Fault Refusal :=
  .next (match s.step? cmd with
    | some p =>
      if p.readySent ∧ !p.committed ∧ p.ending.isNone then
        match readyBad p with
        | some st => (s.at t).disagree p st
        | none => if s.allReady p then (((s.at t).commit p).settleRecovery).settleHostReset else s
      else s
    | none => s)

/-- Start of a reset that holds a step to its group commit (R571). -/
def State.resetStart (s : State) (p : Step) : Option Nat :=
  if s.dev.mode = .recovery then some s.dev.since
  else if s.dev.hostReset then some s.dev.hostSince
  else (tfind s.ctxs.resets p.ctx).map (·.start)

/-- Every path to a member has been lost for longer than SVL_RECOVER_TIMEOUT. -/
def State.pathLost (s : State) (d t : Nat) : Bool :=
  (s.mappedPorts d).all fun p => !(s.port p).carries && decide ((s.port p).lostAt + s.dget 0x5000 7 * 1000 < t)

/-- The first member whose READY is lacking and whose outcome cannot be known any more. -/
def State.unknownMember (s : State) (p : Step) (t : Nat) : Option Nat :=
  let lacking := (s.others p).filter fun d => !(p.readies.any fun r => decide (r.1 = d))
  match s.resetStart p with
  | some t0 => if t0 + s.dget 0x5000 7 * 1000 ≤ t then lacking.head? else lacking.find? fun d => s.pathLost d t
  | none => lacking.find? fun d => s.pathLost d t

/-- GROUP_OUTCOME_UNKNOWN: the step ends with CONTEXT_RESET and its context is reset. -/
def execGroupOutcomeUnknown (cmd t : Nat) (s : State) : Host.Outcome State Fault Refusal :=
  .next (match s.step? cmd with
    | some p =>
      if p.readySent ∧ !p.committed ∧ p.ending.isNone then
        match s.unknownMember p t with
        | none => s
        | some d =>
          let s := (s.at t).event 2 3 p.ctx (p.groupId % 2 ^ 32 + p.attempt % 256 * 2 ^ 32 + d * 2 ^ 40)
          let s := if s.dev.hostReset then s.silentEnd p else s.failEnd p stReset 0
          let fp := (s.array.routes.filter fun r => !r.parked && overlaps r.footprint p.footprint)
          let s := if p.ctx < 256 then s else fp.foldl (fun s r => s.rappel r.footprint r.ctx (.finish cmd)) s
          (((s.startReset p.ctx 6).settleRecovery).settleHostReset).nextSearch
      else s
    | none => s)

/-- GROUP_ENTRY_EXPIRED: 1,000 ct without a local launch. -/
def execGroupEntryExpired (ctx : CtxId) (group : BitVec 32) (t : Nat) (s : State) : Host.Outcome State Fault Refusal :=
  .next (
    let mine := fun (e : EarlyGroup) => decide (e.ctx = ctx.val) && decide (e.group = group.toNat)
    let claimed := s.steps.any fun p =>
      decide (p.ctx = ctx.val) && decide (p.groupId = group.toNat) && !p.members.isEmpty && p.latched
    match s.links.early.find? mine with
    | some e =>
      if !claimed ∧ e.arrived + 1000 * 65536 ≤ s.cdu.phase (max s.uptime t) then
        let s := s.at t
        let notes := s.links.notes.filter fun n => !(decide (n.ctx = ctx.val) && decide (n.group = group.toNat))
        ({ s with links := { s.links with early := s.links.early.filter fun e => !mine e, notes := notes } } : State).dbump
          0x5000 13 0 32
      else s
    | none => s)

/-- A request's path is in Retrain, and is waited for up to SVL_RECOVER_TIMEOUT (R579). -/
def State.retraining (s : State) (port t : Nat) : Bool :=
  decide ((s.port port).state = .retrain) && decide (t < (s.port port).since + s.dget 0x5000 7 * 1000)

/-- A transaction of the context is outstanding on the device: a request without its response, but for one that waits for a
Retrain, or an access of another device that waits for a frozen cluster. Which of them went through the entries of an unmap or
an invalidation is below the grain of the model (DESIGN CHOICE, log 112). -/
def State.unconfirmed (s : State) (c t : Nat) : Bool :=
  (s.links.requests.any fun r => decide (r.ctx = c) && !s.retraining r.port t) ||
    s.links.held.any fun k => decide (k.h.ctx.toNat = c)

/-- QUIESCENCE_LIMIT: 50 microseconds after a confirmation began, with a transaction of its set still outstanding, the epoch
advances and transfers in flight are lost; accesses that still wait are dropped at their target (R579-R581). -/
def execQuiescenceLimit (ctx : CtxId) (t : Nat) (s : State) : Host.Outcome State Fault Refusal :=
  .next (
    let due := (List.range 3).filter fun k => (tfind s.links.confirm (k * 512 + ctx.val)).any fun t0 => decide (t0 + 50000 ≤ t)
    if due.isEmpty || !s.unconfirmed ctx.val t then s
    else
      let s := due.foldl (fun s k => s.endConfirm k ctx.val) (s.at t)
      let s := { s with links := { s.links with held := s.links.held.filter fun k => decide (k.h.ctx.toNat ≠ ctx.val) } }
      s.advanceLosing ctx.val)

end Sys2Proof.Machine
end

