-- ==== Sys2Proof/Machine/Health.lean ====
section
/-! DEFINITION. The health log's acknowledgement and mask, the standby Basecamp, core rotation, cluster tests, wear,
perturbation slots, and the test access port with its lock (R599-R622, R72). -/

namespace Sys2Proof.Machine

/-! ### Acknowledgement and mask (R601, R602) -/

/-- A write of n to HEALTH_ACK acknowledges a logged event: its SEQ is at or before n, or n is at or above HEALTH_SEQ
(R602). -/
def State.ackedBy (s : State) (n : Nat) (u : Nat × Nat) : Bool :=
  decide ((n + 2 ^ 32 - u.1) % 2 ^ 32 < 2 ^ 31) || decide ((n + 2 ^ 32 - s.dget 0x3000 2) % 2 ^ 32 < 2 ^ 31)

/-- A write of HEALTH_ACK: every event at or before n, in the modular sense of R602, is no longer pending. -/
def State.writeHealthAck (s : State) (n : Nat) : Written :=
  let old := s.ackedBy n
  let gone := s.health.unacked.filter old
  let s := { s with health := { s.health with unacked := s.health.unacked.filter fun u => !old u } }
  (gone.foldl (fun s u => s.dset 0x3000 4 (u.2 - 1) (s.dget 0x3000 4 (u.2 - 1) - 1)) s, kOk)

/-- A write of HEALTH_MASK. -/
def State.writeHealthMask (s : State) (v : Nat) : Written := (s.dset 0x3000 3 0 v, kOk)

/-! ### Basecamp (R606) -/

/-- Mailbox requests in progress are dropped without a response. -/
def State.dropMails (s : State) : State :=
  let ms := s.hif.mailbox.map fun kv => (kv.1, { kv.2 with busy := false, due := [] })
  { s with hif := { s.hif with mailbox := ms.filter fun kv => decide (kv.2 ≠ ({} : Mailbox)) } }

/-- BASECAMP_TAKEOVER: the standby takes over; without one, the safety logic holds every cluster at point 0. Dictionary
requests in progress are dropped, a recovery starts again, and bring-up goes on from D. -/
def execBasecampTakeover (t : Nat) (s : State) : Host.Outcome State Fault Refusal :=
  .next (
    if !s.powered then s
    else
      let s := s.at t
      if s.dget 0x3010 6 = 1 then
        let s := ({ s with kop := { s.kop with sbBytes := [], sbNext := 0 } } : State).dropMails
        let s := ((s.dset 0x1010 1 0 3).dset 0x3010 6 0 0).event 8 9 3
        match s.dev.mode with
        | .recovery => ({ s with dev := { s.dev with attempt := 1 } } : State).restartRecovery
        | .bringUp => { s with dev := { s.dev with
            dTime := max s.uptime 10000000, profileLoaded := false, selfTested := false, hifOut := false } }
        | _ => s
      else
        let s := { s with health := { s.health with safe := true } }
        s.lowestPoints.resupply)

/-! ### Core rotation (R607, R608) -/

/-- A rotation of a cluster is due. -/
def State.dueRotation (s : State) (cl : Nat) : State :=
  { s with health := { s.health with rotationDue := tins s.health.rotationDue cl } }

/-- A cluster's period of CORE_ROTATE_PERIOD hours has passed since its rotation last fell due by it. -/
def State.periodOver (s : State) (cl t : Nat) : Bool :=
  decide (s.dget 0x3010 3 ≠ 0) && decide (tget 0 s.health.rotatedAt cl + s.dget 0x3010 3 * 3600000000000 ≤ max s.uptime t)

/-- CORE_ROTATE_PERIOD: a rotation falls due, and the cluster's spare runs its self-test (R607, R609). -/
def execCoreRotatePeriod (cluster : ClusterId) (t : Nat) (s : State) : Host.Outcome State Fault Refusal :=
  .next (if s.powered && s.periodOver cluster.val t then
    let s := (s.at t).dueRotation cluster.val
    { s with health := { s.health with
      rotatedAt := tset 0 s.health.rotatedAt cluster.val s.uptime
      spareTests := if (s.spareOf cluster.val).isSome then tins s.health.spareTests cluster.val else s.health.spareTests } }
  else s)

/-- The moment at which a rotation of a cluster can occur. -/
def State.mayRotate (s : State) (cl : Nat) : Bool :=
  decide (s.domain cl ≠ 0) && !s.isolated cl && !s.stepOn cl && !thas s.health.rotating cl && !s.copyLost cl &&
    !(s.array.rappels.any fun r => r.footprint.getLsbD cl) && !(s.array.loads.any fun l => l.footprint.getLsbD cl)

/-- The spare takes over the core of the next position with all that the core keeps from one step to the next (R165, R166), and
the released core is under its test; an Idle cluster is brought On for it (R85). A self-test of the spare ends with that. -/
def State.rotate (s : State) (cl p q : Nat) : State :=
  let pos := tget 0 s.health.nextPosition cl
  let s := (s.powerCluster cl).replaceCore cl pos p q 0xF2
  { s with health := { s.health with
    rotating := tput s.health.rotating cl p
    spareTests := terase s.health.spareTests cl
    rotationDue := terase s.health.rotationDue cl
    nextPosition := tset 0 s.health.nextPosition cl ((pos + 1) % 16) } }

/-- CORE_ROTATION (R607, R608). -/
def execCoreRotation (cluster : ClusterId) (s : State) : Host.Outcome State Fault Refusal :=
  .next (
    let cl := cluster.val
    match s.serving? cl (tget 0 s.health.nextPosition cl), s.spareOf cl with
    | some p, some q => if thas s.health.rotationDue cl && s.mayRotate cl then s.rotate cl p q else s
    | _, _ => s)

/-- The spare of a cluster fails its self-test: it is retired as a released core is (R608, R609). -/
def State.spareTested (s : State) (cl : Nat) (pass : Bool) : State :=
  let s := { s with health := { s.health with spareTests := terase s.health.spareTests cl } }
  match s.spareOf cl with
  | some q => if pass then s else (s.setCoreState cl q 0xF3).event 8 8 cl q
  | none => s

/-- ROTATION_TEST_END: the released core becomes the spare or is retired (R608); with no rotation under way, the self-test of
the spare ends (R609; DESIGN CHOICE, log 114: the table has no row of its own for that test). -/
def execRotationTestEnd (cluster : ClusterId) (pass : Bool) (s : State) : Host.Outcome State Fault Refusal :=
  .next (match tfind s.health.rotating cluster.val with
    | none => if thas s.health.spareTests cluster.val then s.spareTested cluster.val pass else s
    | some p =>
      let s := (s.endRotation cluster.val).dbump 0x3020 3 0 32
      if pass then s.setCoreState cluster.val p 0xF1
      else (s.setCoreState cluster.val p 0xF3).event 8 8 cluster.val p)

/-! ### Cluster tests (R610) -/

/-- TEST_RESULT of a cluster test. -/
def testResult (cl code core : Nat) : Nat := 1 + cl * 2 ^ 8 + code * 2 ^ 16 + core * 2 ^ 24

/-- A cluster holds neither a resident nor a parked Route. -/
def State.routeFree (s : State) (cl : Nat) : Bool := !(s.array.routes.any fun r => r.footprint.getLsbD cl)

/-- A TEST_REQUEST of kind 1. -/
def State.startTest (s : State) (cl : Nat) : Written :=
  let iso := decide (s.dget 0x3033 1 cl = 1)
  if s.health.testing.isSome || !(iso || s.routeFree cl) then (s, kState)
  else
    let s := { s with health := { s.health with testing := some (cl, iso) } }
    ((s.powerOn cl).resupply.dset 0x3020 2 0 (testResult cl 2 0xFF), kOk)

/-- A write of TEST_REQUEST; its range has been checked. -/
def State.writeTestRequest (s : State) (v : Nat) : Written :=
  if v % 256 = 1 then s.startTest (v / 256) else (s.dueRotation (v / 256), kOk)

/-- A core fails its test while the rest of its cluster passes, and the cluster can go on without it: the spare takes
its position, or the core was the spare. -/
def State.retireTested (s : State) (cl p : Nat) : Option State :=
  match s.spareOf cl with
  | none => none
  | some q =>
    if q = p then some (s.setCoreState cl p 0xF3)
    else
      let pos := s.coreState cl p / 16
      some ((s.replaceCore cl pos p q 0xF3).freshCore (cl * 16 + pos))

/-- A tested cluster serves. -/
def State.testServes (s : State) (cl : Nat) (iso : Bool) : State :=
  if iso then s.returnCluster cl else s.unstrandAll cl

/-- The end of a cluster test. -/
def State.endTest (s : State) (cl : Nat) (iso : Bool) (failed : List Nat) (rest : Bool) : State :=
  let failed := failed.filter fun p => decide (s.coreState cl p % 4 ≠ 3)
  let s := { s with health := { s.health with testing := none } }
  let isolate := fun (s : State) => if iso then (s.setDomain cl 0).resupply else s.isolateNow cl
  let core := failed.head?.getD 0xFF
  let r := testResult cl (if failed.isEmpty && rest then 0 else 1) core
  let s := s.dset 0x3020 2 0 r
  let s :=
    if failed.isEmpty && rest then s.testServes cl iso
    else match failed, rest with
      | [p], true => match s.retireTested cl p with
        | some s => s.testServes cl iso
        | none => isolate s
      | _, _ => isolate s
  s.event 10 3 cl r

/-- CLUSTER_TEST_END (R610). -/
def execClusterTestEnd (cluster : ClusterId) (failed : List (Fin 17)) (restPassed : Bool) (s : State) :
    Host.Outcome State Fault Refusal :=
  .next (match s.health.testing with
    | some (cl, iso) => if cl = cluster.val then s.endTest cl iso (failed.map (·.val)) restPassed else s
    | none => s)

/-! ### Wear (R611, R612) -/

/-- The largest number below 2^k above a base of which a downward closed test holds, bit by bit. -/
def largest (ok : Nat → Bool) : Nat → Nat → Nat
  | 0, n => n
  | k + 1, n => largest ok k (if ok (n + 2 ^ k) then n + 2 ^ k else n)

/-- Weighted microseconds that one second adds, rounded down (log 89): w = 2^((Tj - 85) / 10) * 3^((V - 0.80) / 0.10), for a
mean TEMP in quarter degrees and a mean supply in mV, so that w^200 is 2^(5 (temp - 340)) * 3^(2 (mv - 800)) (R611). -/
def lifeWeight (temp : Int) (mv : Nat) : Nat :=
  let up := 1000000 ^ 200 * 2 ^ (5 * (temp - 340).toNat) * 3 ^ (2 * (mv - 800))
  let down := 2 ^ (5 * (340 - temp).toNat) * 3 ^ (2 * (800 - mv))
  largest (fun n => decide (n ^ 200 * down ≤ up)) 64 0

/-- LIFE_USED of weighted microseconds. -/
def lifeUsed (us : Nat) : Nat := us / 1000000 * 1000 / 3600 / 55226

/-- One second of a cluster's life. -/
def State.age (s : State) (cl : Nat) (temp : Int) (mv : Nat) : State :=
  if s.domain cl = 0 then s
  else
    let old := tget 0 s.health.lifeUs cl
    let us := old + lifeWeight temp mv
    let s := { s with health := { s.health with lifeUs := tset 0 s.health.lifeUs cl us } }
    [800, 1000].foldl (fun s n => if lifeUsed old < n ∧ n ≤ lifeUsed us then s.event 8 7 cl n else s) s

/-- LIFE_ACCUMULATE: the means of each cluster over the second. -/
def execLifeAccumulate (t : Nat) (means : List (Int × Nat)) (s : State) : Host.Outcome State Fault Refusal :=
  .next (
    if s.powered && decide (s.health.lastLife + 1000000000 ≤ t) then
      let s := s.at t
      let s := { s with health := { s.health with lastLife := t } }
      (means.take 64).zipIdx.foldl (fun s (m : (Int × Nat) × Nat) => s.age m.2 m.1.1 m.1.2) s
    else s)

/-! ### Perturbation slots (R617, R618) -/

/-- A write of PERTURB_ENABLE. -/
def State.writePerturbEnable (s : State) (v : Nat) : Written :=
  let was := s.dget 0x6000 1
  let s := s.dset 0x6000 1 0 v
  (if was = 0 ∧ v = 1 then s.event 10 1 0 s.armedMask
   else if was = 1 ∧ v = 0 then s.event 10 2 0 s.armedMask
   else s, kOk)

/-- The record of a slot. -/
def perturbOf (b : Bytes) : Perturb :=
  { target := byteAt b 0, mode := byteAt b 1, index := field b 2 2, sub := byteAt b 4, ctx := field b 6 2
    delay := field b 8 4, duty := field b 12 2, period := field b 14 2 }

/-- INDEX and SUB stay below these for a target. -/
def perturbReach (target : Nat) : Nat × Nat :=
  match target with
  | 1 => (64, 32)
  | 2 => (64, 4)
  | 3 => (4, 2)
  | 4 => (4, 3)
  | 5 => (16, 4)
  | 7 => (16384, 1)
  | 8 => (1024, 1)
  | _ => (1, 1)

/-- A record that R618 allows: an unused slot is one whose TARGET is 0. -/
def perturbOk (b : Bytes) : Bool :=
  let v := perturbOf b
  let r := perturbReach v.target
  decide (byteAt b 5 = 0) && decide (v.target ≤ 8) &&
    (decide (v.target = 0) ||
      (decide (v.mode ≤ (if v.target = 6 ∨ v.target = 7 then 1 else 2)) && decide (v.index < r.1) && decide (v.sub < r.2) &&
        (decide (v.ctx ≤ 0x100) || decide (v.ctx = 0xFFFF)) && decide (v.delay ≤ 100000) && decide (v.duty ≤ 990) &&
        (decide (v.mode < 2) || (decide (1 ≤ v.period) && decide (v.period ≤ 10000)))))

/-- A write of a slot of PERTURB_SLOTS. -/
def State.writePerturbSlot (s : State) (i : Nat) (b : Bytes) : Written :=
  if perturbOk b then
    ({ s with health := { s.health with perturb := tset {} s.health.perturb i (perturbOf b) } }, kOk)
  else (s, kRange)

/-! ### The debug lock (R615, R616) -/

/-- The value of an entry in the profile that PROFILE_LAST_GOOD names, before the first load (R525): its default where the
profile gives none or is unreadable. -/
def State.bootValue (s : State) (index sub : Nat) : Nat :=
  match s.readSlot (s.dget 0x2000 10) with
  | .ok r => match r.values.find? fun v => decide (v.1 = index) && decide (v.2.1 = sub) with
    | some v => leNat v.2.2
    | none => deviceDefault index sub
  | .error _ => deviceDefault index sub

/-- No profile load has ended since power-up (R525). -/
def State.unprofiled (s : State) : Bool := !s.kop.loadedOnce

/-- DEBUG_LOCK_MODE in force. -/
def State.lockMode (s : State) : Nat := if s.unprofiled then s.bootValue 0x6010 1 else s.dget 0x6010 1

/-- The lock takes the state that its mode and DEV_RST_N give it: opening is logged, and TDO is high-impedance while it is
closed. -/
def State.settleLock (s : State) : State :=
  let mode := s.lockMode
  let v := if !s.pins.devRstN then (if mode = 0 then 0 else 1) else if mode = 2 then 2 else 0
  if s.dget 0x6010 2 = v then s
  else
    let s := s.dset 0x6010 2 0 v
    if v = 0 then { s with health := { s.health with tap := { s.health.tap with tdo := none } } } else s.event 10 4 0 v

/-! ### The test access port (R613, R614, R72) -/

/-- The controller's next state for a TMS level (IEEE 1149.1). -/
def TapState.next : TapState → Bool → TapState
  | .reset, tms => if tms then .reset else .idle
  | .idle, tms => if tms then .selectDr else .idle
  | .selectDr, tms => if tms then .selectIr else .captureDr
  | .captureDr, tms => if tms then .exit1Dr else .shiftDr
  | .shiftDr, tms => if tms then .exit1Dr else .shiftDr
  | .exit1Dr, tms => if tms then .updateDr else .pauseDr
  | .pauseDr, tms => if tms then .exit2Dr else .pauseDr
  | .exit2Dr, tms => if tms then .updateDr else .shiftDr
  | .updateDr, tms => if tms then .selectDr else .idle
  | .selectIr, tms => if tms then .reset else .captureIr
  | .captureIr, tms => if tms then .exit1Ir else .shiftIr
  | .shiftIr, tms => if tms then .exit1Ir else .shiftIr
  | .exit1Ir, tms => if tms then .updateIr else .pauseIr
  | .pauseIr, tms => if tms then .exit2Ir else .pauseIr
  | .exit2Ir, tms => if tms then .updateIr else .shiftIr
  | .updateIr, tms => if tms then .selectDr else .idle

/-- The instruction in force: one that is not listed, or not available in the lock's state, acts as BYPASS. -/
def State.instruction (s : State) : Nat :=
  let op := s.health.tap.ir.toNat
  let open' := s.dget 0x6010 2
  if (1 ≤ op ∧ op ≤ 2 ∧ open' ≠ 0) ∨ (3 ≤ op ∧ op ≤ 7 ∧ open' = 1) then op else 0xFF

/-- EXTEST, EXTEST_PULSE, EXTEST_TRAIN, CLAMP or HIGHZ is in force. -/
def State.pinsHeld (s : State) : Bool := decide (3 ≤ s.instruction) && decide (s.instruction ≤ 7)

/-- Bits of the selected data register. -/
def drBits (op : Nat) : Nat := if op = 1 then 32 else if 2 ≤ op ∧ op ≤ 5 then 500 else 1

/-- What a cell of the boundary register serves (R614): the low-speed signals in the order of Table: Low-speed signals, then
161 differential lanes (PCIe 0-15, the management lane, nine of each fabric port), then the reference clocks. -/
inductive Cell where
  | devRstN
  | pwrGood
  | perstN
  | profileSel (bit : Fin 2)
  | pwrBrakeN
  | cadenceIn
  | cadenceSync
  | cadenceOut
  | cadenceOutControl
  | canTxd
  | canTxdControl
  | canRxd
  | alertN
  | transmit (lane : Fin 161)
  | transmitControl (lane : Fin 161)
  | receive (lane : Fin 161)
  | refclkPcie
  | refclkLink
  | refclkSys
deriving DecidableEq, Repr

/-- Lane numbers of the boundary register. -/
def managementLane : Fin 161 := 16
def portLane (port : PortId) (lane : Fin 9) : Fin 161 := ⟨17 + port.val * 9 + lane.val, by omega⟩

/-- The number of a cell, cell 0 nearest TDO. -/
def Cell.index : Cell → Nat
  | .devRstN => 0
  | .pwrGood => 1
  | .perstN => 2
  | .profileSel b => 3 + b.val
  | .pwrBrakeN => 5
  | .cadenceIn => 6
  | .cadenceSync => 7
  | .cadenceOut => 8
  | .cadenceOutControl => 9
  | .canTxd => 10
  | .canTxdControl => 11
  | .canRxd => 12
  | .alertN => 13
  | .transmit l => 14 + l.val * 3
  | .transmitControl l => 15 + l.val * 3
  | .receive l => 16 + l.val * 3
  | .refclkPcie => 497
  | .refclkLink => 498
  | .refclkSys => 499

/-- A register with the bit of a cell at a level. -/
def Cell.put (c : Cell) (v : BitVec 500) (level : Bool) : BitVec 500 :=
  (v &&& ~~~(1#500 <<< c.index)) ||| (if level then 1#500 <<< c.index else 0#500)

/-- What the boundary register captures: the data cells of CADENCE_OUT and ALERT_N the device's own levels, every other cell
what the command observes at its pin (DESIGN CHOICE, log 115). -/
def State.observe (s : State) (observed : BitVec 500) : BitVec 500 :=
  Cell.alertN.put (Cell.cadenceOut.put observed s.cadenceOut) s.alertLow

/-- The level that the boundary register gives an output while it holds the pins: none where its control cell is 0, which turns
the driver off, and none under HIGHZ (R614; DESIGN CHOICE, log 115: the rule gives the control cells no polarity). -/
def State.cellDrives (s : State) (data control : Cell) : Option Bool :=
  if s.instruction ≠ 7 && s.health.tap.boundary.getLsbD control.index then some (s.health.tap.boundary.getLsbD data.index)
  else none

/-- The level at CADENCE_OUT, none while high-impedance. -/
def State.cadenceOutPin (s : State) : Option Bool :=
  if !s.driven then none
  else if s.pinsHeld then s.cellDrives .cadenceOut .cadenceOutControl else some s.cadenceOut

/-- The level at CAN_TXD while the boundary register holds the pins; at other times it carries the service bus's frames. -/
def State.canTxdPin (s : State) : Option Bool :=
  if s.driven && s.pinsHeld then s.cellDrives .canTxd .canTxdControl else none

/-- ALERT_N is low at its pin: its cell drives it low while the boundary register holds the pins. -/
def State.alertPin (s : State) : Bool :=
  if s.pinsHeld then s.driven && decide (s.instruction ≠ 7) && s.health.tap.boundary.getLsbD Cell.alertN.index else s.alertLow

/-- What the selected data register captures. -/
def drCapture (op : Nat) (observed : BitVec 500) : BitVec 500 :=
  if op = 1 then idcode.setWidth 500 else if 2 ≤ op ∧ op ≤ 5 then observed else 0

/-- One shift of n bits towards TDO, TDI coming in at the far end. -/
def shiftIn (n : Nat) (v : BitVec w) (tdi : Bool) : BitVec w :=
  (v >>> 1) ||| (if tdi then 1#w <<< (n - 1) else 0#w)

/-- The controller in Test-Logic-Reset. -/
def Tap.reset (p : Tap) : Tap := { p with state := .reset, ir := 1, tdo := none }

/-- A rising TCK edge: the state's capture or shift, and the move to the next state. -/
def Tap.rise (p : Tap) (op : Nat) (tms tdi : Bool) (observed : BitVec 500) : Tap :=
  let p := match p.state with
    | .captureDr => { p with shift := drCapture op observed }
    | .shiftDr => { p with shift := shiftIn (drBits op) p.shift tdi }
    | .captureIr => { p with irShift := 1 }
    | .shiftIr => { p with irShift := shiftIn 8 p.irShift tdi }
    | _ => p
  let p := { p with state := p.state.next tms }
  if p.state = .reset then { p with ir := 1 } else p

/-- A falling TCK edge: the updates, and TDO, which is driven only while shifting. -/
def Tap.fall (p : Tap) (op : Nat) : Tap :=
  let p := match p.state with
    | .updateIr => { p with ir := p.irShift }
    | .updateDr => if 2 ≤ op ∧ op ≤ 5 then { p with boundary := p.shift } else p
    | _ => p
  { p with tdo := match p.state with
      | .shiftDr => some (p.shift.getLsbD 0)
      | .shiftIr => some (p.irShift.getLsbD 0)
      | _ => none }

def State.setTap (s : State) (p : Tap) : State := { s with health := { s.health with tap := p } }

/-- TCK_EDGE: ignored while the lock is closed (R72, R615). -/
def execTckEdge (rising : Bool) (tms tdi : Bool) (observed : BitVec 500) (s : State) : Host.Outcome State Fault Refusal :=
  .next (
    if !s.powered || decide (s.dget 0x6010 2 = 0) then s
    else if rising then s.setTap (s.health.tap.rise s.instruction tms tdi (s.observe observed))
    else
      let p := s.health.tap.fall s.instruction
      let p := if s.driven then p else { p with tdo := none }
      match p.tdo with
      | some b => (s.setTap p).emit (.tdo b)
      | none => s.setTap p)

/-- TRST_N_ASSERT (R72): Test-Logic-Reset, whatever the lock. -/
def execTrstNAssert (s : State) : Host.Outcome State Fault Refusal :=
  .next (if s.powered then s.setTap s.health.tap.reset else s)

end Sys2Proof.Machine
end

