-- ==== Sys2Proof/Machine/Bringup.lean ====
section
/-! DEFINITION. Power-up, the reset pins, rails and reference clocks, bring-up to READY, and the progress of a device
recovery after its work has drained (R59-R76, R562-R570, R592-R595, R623-R630). -/

namespace Sys2Proof.Machine

/-! ### What a cold reset and a power-down leave (R562) -/

/-- An entry that a power-down keeps: PROFILE_LAST_GOOD, PROFILE_WRITES, the thermal-trip records, lane repairs, spare
channels and their stack states, spare rows free (R228, R273, R539, R561). -/
def keptUnpowered (key : Nat) : Bool :=
  [0x20000A, 0x20000C, 0x210013, 0x210014, 0x307003, 0x307004, 0x307005, 0x306006].contains key

/-- The entry is RWS: it keeps its value until the next profile load sets it (R530). -/
def isSaved (index sub : Nat) : Bool :=
  entries.any fun e => decide (e.access = 4) && decide (e.index = baseIndex index) && decide (e.sub = sub)

/-- An entry of the always-on domain that a cold reset keeps (R404, R410, R523, R539, R598, R603). -/
def keptAlways (index sub : Nat) : Bool :=
  decide (0x1000 ≤ index ∧ index < 0x1100) || decide (index = 0x2000) || decide (0x3000 ≤ index ∧ index < 0x3050) ||
    decide (index = 0x30A0) || decide (index = 0x30D0) || decide (index = 0x6010) || (decide (index = 0x1120) && decide (sub = 6)) ||
    (decide (index = 0x2100) && [8, 9, 10, 11, 12, 13, 14].contains sub)

/-- Dictionary entries that keep their values at a cold reset, by index * 256 + subindex. -/
def keptCold (key : Nat) : Bool :=
  keptUnpowered key || keptAlways (key / 256) (key % 256) || isSaved (key / 256) (key % 256)

/-- Dictionary values of the entries that a predicate keeps. -/
def State.keepEntries (s : State) (keep : Nat → Bool) : State :=
  { s with dict := s.dict.filter fun kv => keep (kv.1 / 65536), cdict := [] }

/-- Near after its contents are lost: every region Free but the Retired ones, spare rows in use as recorded (R228,
R229). -/
def Near.lost (n : Near) : Near :=
  let gone := n.regions.filter fun kv => decide (kv.2.kind = .retired) || kv.2.failing
  { rows := n.rows, regions := gone.map fun kv => (kv.1, { kind := .retired }) }

/-- Units whose state every cold reset and power-down loses. -/
def State.loseUnits (s : State) : State :=
  { s with
    near := s.near.lost
    bulk := { sparing := s.bulk.sparing, lanesMapped := s.bulk.lanesMapped }
    store := { s.store with opened := none, lastAccess := [] }
    hif := {}
    counters := []
    owners := []
    cmds := []
    steps := []
    array := {}
    ctxs := {}
    serve := {}
    tru := {} }

/-! ### PWR_GOOD (R59-R61, R76, R623) -/

/-- The die hubs, the Host Interface, the management PHY and the Bulk channels are powered and held in reset. -/
def State.powerHeld (s : State) : State :=
  (s.setDomains 2 ((List.range 6).map (· + 112))).setDomains 1 ((List.range 8).map (· + 80))

/-- VDD_AON and VIO_1V8 have sense indexes 13 and 14: they supply the always-on domain (R80), and no reset level answers
them (R563). -/
def railAlwaysOn (rail : Nat) : Bool := decide (13 ≤ rail)

/-- PWR_GOOD_RISE: uptime 0, the always-on domain leaves reset, both Basecamp instances pass their self-test. It has its
power while VDD_AON and VIO_1V8 are in tolerance (R80). Rails out of tolerance are reported, and the device stays in reset
(R62, R600). -/
def execPwrGoodRise (s : State) : Host.Outcome State Fault Refusal :=
  .next (
    if s.powered || s.pins.railsOut.any railAlwaysOn then s
    else
      let s := { s with
        uptime := 0
        cdu := {}
        pins := { s.pins with pwrGood := true, devRstN := false, tripLow := false, brakeSince := 0, brakeLogged := false }
        dev := { mode := .reset } }
      let s := (s.dset 0x3010 6 0 1).settleLock
      if s.pins.railsOut.isEmpty then s.powerHeld
      else s.pins.railsOut.foldl (fun s r => s.event 1 1 r (tget 0 s.pins.railMv r)) s)

/-- A profile save cut short by power loss: copy A is written first and copy B after it, and the copy in the writing keeps
a free number of its new bytes before its old ones, so that the other one is intact (R535, R537). -/
def State.cutSave (s : State) : State :=
  match s.kop.saving with
  | none => s
  | some v =>
    let (f, s) := s.fresh
    let copy := if s.copyThere 0 then f.toNat % 2 else 1
    let n := f.toNat / 2 % (v.image.length + 1)
    let torn := v.image.take n ++ (s.profileCopy v.slot copy).drop n
    let s := if copy = 1 ∧ s.copyThere 0 then s.writeCopy v.slot 0 v.image else s
    s.writeCopy v.slot copy torn

/-- Power-down: volatile state is lost; the Store, the keys, the profile store, the persistent counters and the records
of spares stay. -/
def State.powerDown (s : State) : State :=
  let s := s.cutSave.loseUnits.keepEntries keptUnpowered
  { s with
    bulk := { sparing := s.bulk.sparing, lanesMapped := s.bulk.lanesMapped }
    links := {}
    cdu := {}
    power := {}
    kop := { copies := s.kop.copies, factoryBad := s.kop.factoryBad }
    health := { coreState := s.health.coreState, lifeUs := s.health.lifeUs, rotating := s.health.rotating }
    pins := { s.pins with pwrGood := false, devRstN := false, perstN := false, tripLow := false, canStopped := false }
    dev := {} }

/-- PWR_GOOD_FALL. -/
def execPwrGoodFall (t : Nat) (s : State) : Host.Outcome State Fault Refusal :=
  .next (if !s.powered then s else (s.at t).powerDown)

/-! ### DEV_RST_N (R565-R569) -/

/-- The work of every unit outside the always-on domain is lost at once, with nothing reported to host or partners. -/
def State.coldReset (s : State) : State :=
  let s := ((({ s with hif := {} } : State).endGrant false).endGrant true).disarm.abandonTest.leaveInstall
  let ports := s.portsOff.links.ports
  let s := s.loseUnits.keepEntries keptCold
  let s := (s.setDomains 0 (List.range 80 ++ (List.range 24).map (· + 88))).powerHeld
  { s with
    links := { ports := ports }
    kop := { s.kop with response := [], kept := [], arp := [], sbBytes := [], sbNext := 0 }
    health := { s.health with safe := false }
    dev := { mode := .reset, since := s.uptime } }.resupply.recount

/-- DEV_RST_N_ASSERT: after a thermal trip only its count and the lock follow it. -/
def execDevRstNAssert (t : Nat) (s : State) : Host.Outcome State Fault Refusal :=
  .next (
    if !s.powered || !s.pins.devRstN then s
    else
      let s := s.at t
      let s := ({ s with pins := { s.pins with devRstN := false } } : State).dbump 0x3030 6 0 32
      let s := if s.dev.mode = .tripped then s
        else (s.coldReset.dset 0x3030 2 0 1).dset 0x1010 1 0 0 |>.dset 0x3010 6 0 1
      s.settleLock)

/-- RESET_HOLD: everything but the Bulk channels is Off. -/
def execResetHold (t : Nat) (s : State) : Host.Outcome State Fault Refusal :=
  .next (
    if s.dev.mode = .reset ∧ s.pins.devRstN = false ∧ s.dev.since + 30000000000 ≤ t then
      let s := (s.at t).setDomains 0 ((List.range 6).map (· + 112))
      { s with dev := { s.dev with mode := .hold, since := s.uptime } }
    else s)

/-- PROFILE_SEL as its samples give it, or slot 0 where they disagree. -/
def selected : List (BitVec 2) → Option Nat
  | [] => none
  | v :: vs => if vs.all (fun w => decide (w = v)) then some v.toNat else none

/-- Bring-up begins: D is the later of the accepted deassertion and uptime 10 ms, once every rail is in tolerance
(R62, R624). -/
def State.beginBringup (s : State) : State :=
  { s with dev := { mode := .bringUp, since := s.uptime, dTime := max s.uptime 10000000 } }

/-- DEV_RST_N_DEASSERT: the length of a hold is recorded, PROFILE_SEL sampled, the TAP reset, and D follows; while a rail is
out of tolerance the device stays in reset (R62). -/
def execDevRstNDeassert (t : Nat) (samples : List (BitVec 2)) (s : State) : Host.Outcome State Fault Refusal :=
  .next (
    if s.pins.devRstN || s.pins.tripLow || !(decide (s.dev.mode = .reset) || decide (s.dev.mode = .hold)) then s
    else
      let s := s.at t
      let held := s.dev.mode = .hold
      let s := if held then (s.dput 0x3030 5 0 32 ((s.uptime - 10000 - s.dev.since) / 1000000000)) else s
      let s := match selected samples with
        | some v => { s with pins := { s.pins with profileSel := v } }
        | none => ({ s with pins := { s.pins with profileSel := 0 } } : State).profileLog 0 0 0 { cause := 8 }
      let s := s.setTap s.health.tap.reset
      let s := { s with pins := { s.pins with devRstN := true }, dev := { mode := .reset, since := s.uptime } }
      let s := if s.pins.railsOut.isEmpty then (if held then s.powerHeld else s).beginBringup else s
      s.settleLock)

/-! ### Rails (R62, R63, R541) -/

/-- Every numbered domain goes Off, but for the Bulk channels, whose lowest state is Self-refresh (R84). -/
def State.unpower (s : State) : State :=
  ((s.setDomains 0 (List.range 80 ++ (List.range 30).map (· + 88))).setDomains 1 ((List.range 8).map (· + 80))).resupply

/-- A rail fault before READY: every domain but the always-on one goes Off, the management link with its own, and bring-up
starts over, at uptime 10 ms at the earliest (R509, R624, R630). -/
def State.restartBringup (s : State) : State :=
  let s := s.loseUnits.unpower.endGrant true
  { s with links := { ports := s.portsOff.links.ports }
           dev := { mode := .bringUp, since := s.uptime, dTime := max s.uptime 10000000 } }

/-- RAIL_OUT_OF_TOLERANCE (R63). -/
def execRailOutOfTolerance (t : Nat) (rail : Fin 15) (mv : Nat) (s : State) : Host.Outcome State Fault Refusal :=
  .next (
    if s.pins.railsOut.contains rail.val then s
    else
      let s := if s.powered then s.at t else s
      let s := { s with pins := { s.pins with
        railsOut := (s.pins.railsOut.filter (· < rail.val)) ++ [rail.val] ++ s.pins.railsOut.filter (rail.val < ·)
        railMv := tset 0 s.pins.railMv rail.val mv } }
      if !s.powered then s
      else
        let s := s.event 1 1 rail.val mv
        if railAlwaysOn rail.val then s.powerDown
        else match s.dev.mode with
          | .service => s.startRecovery .rail fun _ _ => {}
          | .recovery => { s with dev := { s.dev with railOut := some (s.dev.railOut.getD s.uptime) } }
          | .bringUp => s.restartBringup
          | .reset => s.unpower.endGrant true
          | _ => s)

/-- Every rail is back in tolerance: the domains that bring-up holds in reset are powered, a device whose DEV_RST_N was
released meanwhile leaves reset, and a recovery goes on, its wait not counted (R593). -/
def State.railsBack (s : State) : State :=
  match s.dev.mode with
  | .bringUp => { s with dev := { s.dev with dTime := max s.dev.dTime (max s.uptime 10000000) } }.powerHeld
  | .recovery => { s with dev := { s.dev with
      railWait := s.dev.railWait + (s.dev.railOut.map (s.uptime - ·)).getD 0, railOut := none } }
  | .reset => if s.pins.devRstN then s.powerHeld.beginBringup else s.powerHeld
  | _ => s

/-- RAIL_MONITOR_SAMPLE: the sample of every rail, and the rails within tolerance for 1 ms (R62, R541). -/
def execRailMonitorSample (t : Nat) (mw : List Nat) (inTolerance : List (Fin 15)) (s : State) :
    Host.Outcome State Fault Refusal :=
  .next (
    let left := s.pins.railsOut.filter fun r => !(inTolerance.any fun i => decide (i.val = r))
    let back := !s.pins.railsOut.isEmpty && left.isEmpty
    let s := { s with pins := { s.pins with
      railsOut := left, railMv := s.pins.railMv.filter fun kv => left.contains kv.1 } }
    if !s.powered then s
    else
      let s := (s.at t).railSample (mw.take 15)
      if back then s.railsBack else s)

/-! ### Reference clocks and CAN_RXD (R66, R74, R75) -/

/-- REFCLK_SYS_LOST. -/
def execRefclkSysLost (t : Nat) (s : State) : Host.Outcome State Fault Refusal :=
  .next (if s.powered && !s.pins.refsysLost then
    let s := s.at t
    { s with pins := { s.pins with refsysLost := true } }.event 1 2 0
  else s)

/-- REFCLK_SYS_RESTORED. -/
def execRefclkSysRestored (t : Nat) (s : State) : Host.Outcome State Fault Refusal :=
  .next (if s.powered && s.pins.refsysLost then
    let s := s.at t
    { s with pins := { s.pins with refsysLost := false } }.event 1 3 0
  else s)

/-- REFCLK_LINK_LOST: every fabric port goes Off (R75), and its power domain with it, which goes On again when the clock
returns (DESIGN CHOICE, log 106: the rule gives the port's state and not the domain's). -/
def execRefclkLinkLost (t : Nat) (s : State) : Host.Outcome State Fault Refusal :=
  .next (if s.powered && !s.pins.reflinkLost then
    let s := s.at t
    let s := { s with pins := { s.pins with reflinkLost := true } }
    (List.range 16).foldl (fun s p =>
      if (s.port p).state = .off then s else (s.linkLost p .off).setDomain (96 + p) 0) s
  else s)

/-- REFCLK_LINK_RESTORED: ports that PORT_ENABLE allows leave Off. -/
def execRefclkLinkRestored (t : Nat) (s : State) : Host.Outcome State Fault Refusal :=
  .next (if s.powered && s.pins.reflinkLost then
    let s := s.at t
    let s := { s with pins := { s.pins with reflinkLost := false } }
    if s.dev.profileLoaded then (List.range 16).foldl State.portUp s else s
  else s)

/-- REFCLK_PCIE_LOST: the PCIe link goes down. -/
def execRefclkPcieLost (t : Nat) (s : State) : Host.Outcome State Fault Refusal :=
  .next (if s.powered && !s.pins.refpcieLost then
    let s := s.at t
    { s with pins := { s.pins with refpcieLost := true }, hif := { s.hif with linkUp := false } }
  else s)

/-- The rate that a link trains to: at most HIF_MAX_SPEED (R361). -/
def State.trained (s : State) (speed : BitVec 4) : BitVec 4 := BitVec.ofNat 4 (min speed.toNat (s.dget 0x2900 1))

/-- A link that PCI Express can train: x16, x8, x4, x2 or x1, at a rate coded 1 to 6, and in Flit mode at 64 GT/s (R313). -/
def linkOk (speed : BitVec 4) (width : BitVec 5) (flit : Bool) : Bool :=
  [1, 2, 4, 8, 16].contains width.toNat && decide (1 ≤ speed.toNat) && decide (speed.toNat ≤ 6) &&
    (flit || decide (speed.toNat ≠ 6))

/-- REFCLK_PCIE_RESTORED: a link that had trained trains again, at no more than HIF_MAX_SPEED, and is up (R75, R361). -/
def execRefclkPcieRestored (t : Nat) (s : State) : Host.Outcome State Fault Refusal :=
  .next (if s.powered && s.pins.refpcieLost then
    let s := s.at t
    let up := s.dev.hifOut && !s.dev.hostReset && decide (s.hif.width ≠ 0)
    { s with pins := { s.pins with refpcieLost := false }
             hif := { s.hif with linkUp := up, speed := if up then s.trained s.hif.speed else s.hif.speed } }
  else s)

/-- CAN_RXD_DOMINANT_TIMEOUT. -/
def execCanRxdDominantTimeout (t : Nat) (s : State) : Host.Outcome State Fault Refusal :=
  .next (if s.powered && !s.pins.canStopped then
    let s := s.at t
    { s with pins := { s.pins with canStopped := true } }.event 4 3 0
  else s)

/-- CAN_RXD_RECESSIVE_RESUME. -/
def execCanRxdRecessiveResume (t : Nat) (s : State) : Host.Outcome State Fault Refusal :=
  .next (if s.powered then
    let s := s.at t
    { s with pins := { s.pins with canStopped := false } }
  else s)

/-! ### The profile load and what follows it (R532, R593, R623, R628) -/

/-- Nonzero bytes of an 8-byte table entry at an address. -/
def entryCells (a v : Nat) : List Host.Cell :=
  ((leBytes 8 v).zipIdx.map fun (x : Byte × Nat) => (a + x.2, x.1)).filter fun c => decide (c.2 ≠ 0)

/-- Entries of L2 table i of the bootstrap map: a 2 MiB page, V, W and LEAF, for each frame that exists. -/
def bootstrapTable (i : Nat) : List Host.Cell :=
  ((List.range 16384).filter fun j => bpaExists (i * 2 ^ 35 + j * 2 ^ 21)).flatMap fun j =>
    entryCells ((i + 1) * 0x20000 + j * 8) (7 + i * 2 ^ 35 + j * 2 ^ 21)

/-- The bootstrap map of SYS in a Bulk that is zero elsewhere (R628). -/
def bootstrapMap : List Host.Cell :=
  ((List.range 16).flatMap fun i => entryCells ((2 + i) * 8) (1 + (i + 1) * 0x20000)) ++
    (List.range 16).flatMap bootstrapTable

/-- The self-test begins: every cluster, an isolated one too, is powered up (R83, R593, R623, R627). -/
def State.testPower (s : State) : State := ((List.range 64).foldl State.powerOn s).resupply

/-- Bring-up from D: the Host Interface may leave reset, ports enter Detect, Near and Bulk are zeroed, the Store is
readable, SYS has its bootstrap map, and the management port takes the loaded settings (R525, R623, R628). -/
def State.bringUnits (s : State) : State :=
  let s := (s.setDomains 2 ((List.range 32).map (· + 64))).setDomains 2 ((List.range 5).map (· + 112))
  let s := s.setDomain 117 (if s.dget 0x1100 1 = 1 then 2 else 0)
  let s := { s with
    bulk := { s.bulk with mem := bootstrapMap, roots := [(256, 1)], lastAccess := [] } }
  (List.range 16).foldl State.portUp s.testPower

/-- PROFILE_LOAD: at D, or in a recovery once its work has drained, with every rail in tolerance. -/
def execProfileLoad (t : Nat) (s : State) : Host.Outcome State Fault Refusal :=
  .next (
    if s.dev.profileLoaded || !s.pins.railsOut.isEmpty then s
    else if s.dev.mode = .bringUp ∧ s.dev.dTime ≤ t then
      let s := (s.at t).loadProfile true
      ({ s with dev := { s.dev with profileLoaded := true } } : State).bringUnits.settleLock
    else if s.dev.mode = .recovery ∧ s.dev.drained then
      let s := (s.at t).portsDown.loadProfile false
      let s := ({ s with dev := { s.dev with profileLoaded := true } } : State).setDomains 2 ((List.range 4).map (· + 112))
      let s := (s.setDomain 117 (if s.dget 0x1100 1 = 1 then 2 else 0)).settleLock
      (List.range 16).foldl State.portUp s.testPower
    else s)

/-! ### The cluster self-test (R593, R627) -/

/-- Failing cores of a cluster at the self-test, one after the other: each is retired, an active one replaced by the spare
while that is free; and whether no position was left without a core (R627). -/
def State.testCores (s : State) (cl : Nat) (bad : List Nat) : List Nat → State × Bool
  | [] => (s, true)
  | p :: ps =>
    if s.coreState cl p % 4 = 3 then s.testCores cl bad ps
    else if s.coreState cl p % 4 ≠ 0 then ((s.setCoreState cl p 0xF3).endRotation cl).testCores cl bad ps
    else match s.spareOf cl with
      | some q =>
        if bad.contains q then (s, false)
        else (s.replaceCore cl (s.coreState cl p / 16) p q 0xF3).testCores cl bad ps
      | none => (s, false)

/-- A core whose rotation test the reset cut short has passed, and is the spare. -/
def State.settleReleased (s : State) (cl : Nat) : State :=
  match tfind s.health.rotating cl with
  | some p => (s.setCoreState cl p 0xF1).endRotation cl
  | none => s

/-- A cluster's result at the self-test: one that passes is On at its effective point, any other Off (R543, R627). -/
def State.testCluster (s : State) (cl : Nat) (bad : List Nat) (fails : Bool) : State :=
  let iso := decide (s.dget 0x3033 1 cl = 1)
  let tested := if fails then (s, false) else s.testCores cl bad bad
  if tested.2 then
    let s := tested.1.settleReleased cl
    let s := if iso then s.returnCluster cl else s.setDomain cl 2
    s.dset 0x2100 5 cl (s.effectivePoint cl)
  else if iso then tested.1.setDomain cl 0 else tested.1.isolateNow cl

/-- CLUSTER_SELF_TEST_END: it waits for the brake (R630). In a recovery, Near and Bulk serve again. -/
def execClusterSelfTestEnd (t : Nat) (cores : List (ClusterId × Fin 17)) (clusters : List ClusterId) (s : State) :
    Host.Outcome State Fault Refusal :=
  .next (
    if !s.dev.profileLoaded || s.dev.selfTested || !s.pins.brakeN || !s.pins.railsOut.isEmpty ||
        !(decide (s.dev.mode = .bringUp) || decide (s.dev.mode = .recovery)) then s
    else
      let s := s.at t
      let s := (List.range 64).foldl (fun s cl =>
        let bad := (cores.filter fun c => decide (c.1.val = cl)).map fun c => c.2.val
        s.testCluster cl bad.dedup (clusters.any fun c => decide (c.val = cl))) s
      let s := s.setDomains 2 ((List.range 24).map (· + 64))
      { s with dev := { s.dev with selfTested := true } }.resupply)

/-! ### READY (R570, R593, R626) -/

/-- HOST_INTERFACE_RESET_END: 20 ms after D at the earliest. -/
def execHostInterfaceResetEnd (t : Nat) (s : State) : Host.Outcome State Fault Refusal :=
  .next (
    let ready := match s.dev.mode with
      | .bringUp => s.dev.profileLoaded && decide (s.dev.dTime + 20000000 ≤ t)
      | .service | .recovery | .failed => true
      | _ => false
    if ready && !s.dev.hifOut then
      let s := s.at t
      { s with pins := { s.pins with perstN := true }, dev := { s.dev with hifOut := true } }
    else s)

/-- Every row of bring-up, of a recovery or of a host reset has ended: a host reset leaves no step to drain or to resolve after its
READY, and no epoch to advance (R570, R571). -/
def State.mayServe (s : State) (t : Nat) : Bool :=
  s.dev.hifOut && s.pins.railsOut.isEmpty && !s.pins.refpcieLost && !s.hif.ready && !s.stillFor .hostReset &&
    match s.dev.mode with
    | .bringUp => s.dev.profileLoaded && s.dev.selfTested
    | .recovery => s.dev.drained && s.dev.profileLoaded && s.dev.selfTested && decide (s.dev.since + 2000000000 ≤ t)
    | .service => s.dev.hostReset && s.dev.hostWork.isEmpty && !s.steps.any (·.launched)
    | _ => false

/-- DEVICE_READY: the link is up, where it trains now with the rate, width and mode that R313 allows and at no more than
HIF_MAX_SPEED (R361), READY is 1, PF vector 0 gives its notice, and a recovery or host reset has ended. -/
def execDeviceReady (t : Nat) (speed : BitVec 4) (width : BitVec 5) (flit : Bool) (s : State) :
    Host.Outcome State Fault Refusal :=
  .next (
    if !s.mayServe t || (!s.hif.linkUp && !linkOk (s.trained speed) width flit) then s
    else
      let s := s.at t
      let s := if s.hif.linkUp then s
        else { s with hif := { s.hif with speed := s.trained speed, width := width, flit := flit, linkUp := true } }
      let s := if s.dev.mode = .recovery then s.endRecovery else s
      let s := { s with
        hif := { s.hif with ready := true }
        dev := { s.dev with mode := .service, since := s.uptime, hostReset := false, hostWork := [] } }
      s.interrupt 0 0)

/-- The moment at which a recovery's bound of 6.0 s ends: the waits for a rail are not counted (R593). -/
def State.recoveryEnds (s : State) (t : Nat) : Nat :=
  s.dev.since + 6000000000 + s.dev.railWait + (s.dev.railOut.map (t - ·)).getD 0

/-- RECOVERY_TIMEOUT: the recovery is started once more, then the device stays in recovery (R595). -/
def execRecoveryTimeout (t : Nat) (s : State) : Host.Outcome State Fault Refusal :=
  .next (
    if s.dev.mode = .recovery ∧ s.recoveryEnds t ≤ t then
      let s := s.at t
      if s.dev.attempt < 2 then ({ s with dev := { s.dev with attempt := 2 } } : State).restartRecovery
      else { s with dev := { s.dev with mode := .failed } }
    else s)

end Sys2Proof.Machine
end

