-- ==== Sys2Proof/Machine/Kop.lean ====
section
/-! DEFINITION. Who may reach which entry, roles, the effects of dictionary writes, and the four operations of the
Kumbepra Object Protocol (R366, R368, R501-R514, R572, R592). -/

namespace Sys2Proof.Machine

/-! ### Results (R513) -/

def kNoEntry : Nat := 1
def kUnavailable : Nat := 9
def kProtocol : Nat := 10
def kBusy : Nat := 11

/-! ### Classes, reach and roles (R506-R508) -/

/-- Class of a requester: 0 Host-PF, 1 Host-VF, 2 Management, 3 service bus. -/
def Requester.class : Requester → Nat
  | .hostPf => 0
  | .hostVf _ => 1
  | .management => 2
  | .serviceBus => 3

/-- Index ranges that a class may read (Table: Reach by requester class). -/
def classReads (cls index : Nat) : Bool :=
  match cls with
  | 1 => decide (0x1000 ≤ index ∧ index < 0x1100) || decide (0x4000 ≤ index ∧ index < 0x5000)
  | 3 => decide (index ≠ 0x1120)
  | _ => true

/-- The requester may read an index: a Host-VF only its own context's block. -/
def mayRead (r : Requester) (index : Nat) : Bool :=
  classReads (Requester.class r) index &&
    match r with
    | .hostVf c => decide (index < 0x4000) || decide ((index - 0x4000) / 16 = c.val)
    | _ => true

/-- The Installer role is needed (R273, R496, R506, R615, R617). -/
def needsInstaller (index sub : Nat) : Bool :=
  decide (0x7000 ≤ index) || (decide (0x5010 ≤ index ∧ index < 0x5020) && decide (sub = 15)) ||
    decide (index = 0x6010) || (decide (index = 0x6000) && decide (sub < 4))

/-- A class may write an index.subindex, roles apart: SHARE, POOL and BIVOUAC_VA are closed to Host-VF (R393). -/
def classWrites (cls index sub : Nat) : Bool :=
  match cls with
  | 1 => decide (0x4000 ≤ index ∧ index < 0x5000) && !(decide (index % 16 = 1) && decide (sub ≠ 0))
  | 3 => false
  | _ => true

/-- The role record of a class. -/
def State.role (s : State) (management : Bool) : Role := if management then s.kop.roleMgt else s.kop.rolePf

def State.setRole (s : State) (management : Bool) (r : Role) : State :=
  { s with kop := if management then { s.kop with roleMgt := r } else { s.kop with rolePf := r } }

/-- The requester holds an Installer grant. -/
def State.installer (s : State) (r : Requester) : Bool :=
  match r with
  | .hostPf => (s.role false).grantUntil.any fun t => decide (s.uptime < t)
  | .management => (s.role true).grantUntil.any fun t => decide (s.uptime < t)
  | _ => false

/-- The requester may write an entry. -/
def State.mayWrite (s : State) (r : Requester) (index sub : Nat) : Bool :=
  classWrites (Requester.class r) index sub && mayRead r index && (!needsInstaller index sub || s.installer r)

/-! ### Availability (R523, R532) -/

/-- Entries held in the always-on domain. -/
def alwaysOn (index : Nat) : Bool :=
  decide (0x1000 ≤ index ∧ index < 0x1100) || decide (index = 0x1110) || decide (index = 0x2000) ||
    decide (0x3000 ≤ index ∧ index < 0x3050) || decide (index = 0x30A0) || decide (index = 0x30D0)

/-- The power domain whose unit holds an entry that the always-on domain does not: the Host Interface its own, the hub of
die 0 the others (DESIGN CHOICE, log 107: R523 names the entries of the always-on domain only). -/
def entryDomain (index : Nat) : Nat := if index = 0x2900 ∨ index = 0x3090 then 116 else 112

/-- An entry cannot be read while its domain is Off (R523). -/
def State.entryOff (s : State) (index : Nat) : Bool := !alwaysOn index && decide (s.domain (entryDomain index) = 0)

/-- A profile load is in progress: from D, or from the end of a recovery's drain, to PROFILE_LOAD, with every rail in
tolerance. -/
def State.loading (s : State) : Bool :=
  !s.dev.profileLoaded && s.pins.railsOut.isEmpty &&
    ((decide (s.dev.mode = .bringUp) && decide (s.dev.dTime ≤ s.uptime)) || (decide (s.dev.mode = .recovery) && s.dev.drained))

/-- Only the always-on domain's entries can be reached. -/
def State.onlyAlwaysOn (s : State) : Bool :=
  match s.dev.mode with
  | .service => false
  | .bringUp => !s.dev.profileLoaded
  | _ => true

/-! ### Roles (R508-R510) -/

/-- The message that a response signs. -/
def roleMessage (challenge : Bytes) (cls : Nat) : Bytes := challenge ++ leBytes 1 cls ++ serialBytes

/-- A response is refused: the challenge is spent, and the eighth failure in a row locks the class out for 60 s. -/
def State.roleRefused (s : State) (management : Bool) : Written :=
  let r := s.role management
  let n := r.fails + 1
  let r := { r with
    challenge := none
    fails := if 8 ≤ n then 0 else n
    lockedUntil := if 8 ≤ n then s.uptime + 60000000000 else r.lockedUntil }
  ((s.setRole management r).dbump 0x1120 6 0 32, kAuth)

/-- A write of ROLE_RESPONSE. -/
def State.writeRoleResponse (s : State) (management : Bool) (b : Bytes) : Written :=
  let r := s.role management
  let cls := if management then 2 else 0
  let slot := byteAt b 0
  if s.uptime < r.lockedUntil then (s.dbump 0x1120 6 0 32, kAuth)
  else match r.challenge with
    | none => s.roleRefused management
    | some c =>
      if slot ≤ 3 ∧ s.keyState slot = 1 ∧ ecdsaOk (s.storeKey slot) (roleMessage c cls) (slice b 1 96) then
        let until' := s.uptime + s.dget 0x1120 3 * 1000000000
        ((s.setRole management { r with grantUntil := some until', challenge := none, fails := 0 }).event 9 1 cls, kOk)
      else s.roleRefused management

/-! ### Writes of clusters, pools and Bivouac areas (R366, R368) -/

/-- Some context is attached to a pool. -/
def State.poolUsed (s : State) (p : Nat) : Bool := !(s.attachedTo p).isEmpty

/-- Pool that a CLUSTER_ASSIGN value names. -/
def poolNamed (v : Nat) : Option Nat := if 0x200 ≤ v ∧ v < 0x210 then some (v - 0x200) else none

/-- The holder of a pool has regions mapped in a cluster's slices. -/
def State.holderMaps (s : State) (p cl : Nat) : Bool :=
  match s.holder p with
  | none => false
  | some c => s.near.map.any fun kv => decide (kv.1 / 65536 = c) && decide (prnCluster kv.2.prn = cl)

/-- A write of a CLUSTER_ASSIGN entry. -/
def State.writeClusterAssign (s : State) (cl v : Nat) : Written :=
  let old := poolNamed (s.assign cl)
  let new := poolNamed v
  let held := old.any fun p => s.holderMaps p cl
  let moved := decide (old ≠ new) && (old.any s.poolUsed || new.any s.poolUsed)
  if !s.routeFree cl || s.stepOn cl || held || moved then (s, kState)
  else (s.dset 0x2300 1 cl v, kOk)

/-- A write of POOL. -/
def State.writePool (s : State) (c v : Nat) : Written :=
  let old := s.attached c
  let routes := old.any fun p => s.array.routes.any fun r =>
    decide (r.ctx = c) && decide (s.poolOfFootprint r.footprint = some p)
  let waits := (s.cmds.any fun d => decide (d.ctx = c) && decide (d.stage = .grant)) ||
    s.steps.any fun q => decide (q.ctx = c) && !q.launched && !q.ended && old.any fun p =>
      decide (s.poolOfFootprint q.footprint = some p) && !s.holdsGrant c
  if routes || old.any (fun p => decide (s.holder p = some c)) || waits || (decide (s.cget c 1 4 = 0) && decide (v ≠ 0xFF)) then
    (s, kState)
  else if s.cget c 1 3 = v then (s, kOk)
  else
    let s := { s with near := { s.near with bivouac := tclear s.near.bivouac (c * 32768) ((c + 1) * 32768) } }
    (s.cset c 1 3 v, kOk)

/-- A write of BIVOUAC_VA. -/
def State.writeBivouacVa (s : State) (c v : Nat) : Written :=
  if s.cget c 1 3 ≠ 0xFF then (s, kState) else (s.cset c 1 4 v, kOk)

/-! ### Other writes with an effect of their own -/

/-- A write of MGT_ENABLE: 0 holds domain 117 Off, and the management link, which goes down with it, ends its grant
(R509, R525). -/
def State.writeMgtEnable (s : State) (v : Nat) : Written :=
  let s := (s.dset 0x1100 1 0 v).setDomain 117 (if v = 0 then 0 else 2)
  (if v = 0 then s.endGrant true else s, kOk)

/-- A write of RECOVER_REQUEST (R592). -/
def State.writeRecover (s : State) : Written := (s.startRecovery .requested waitOf, kOk)

/-- A write of SNAPSHOT_RELEASE (R587). -/
def State.writeRelease (s : State) : Written := (s.dset 0x3032 3 0 0, kOk)

/-- A write of CTX_RESET (R572). -/
def State.writeCtxReset (s : State) (c : Nat) : Written := ((s.startReset c 1).nextSearch, kOk)

/-- A write of SVL_FL_CEILING: SVL_SLICE_FL follows it while no port is Active (R498, R631). -/
def State.writeCeiling (s : State) (v : Nat) : Written := ((s.dset 0x5000 3 0 v).settleSlice, kOk)

/-- A write of PORT_PARTITION_NEXT (R632). -/
def State.writePartitionNext (s : State) (port v : Nat) : Written :=
  ((s.setPort port { s.port port with nextWritten := true }).dset (0x5010 + port) 3 0 v, kOk)

/-- A write of DEBUG_LOCK_MODE (R615). -/
def State.writeLockMode (s : State) (v : Nat) : Written := ((s.dset 0x6010 1 0 v).settleLock, kOk)

/-- A write of CDU_APPLY. -/
def State.writeCduApply (s : State) : Written :=
  match s.cduApply with
  | (s, true) => (s, kOk)
  | (s, false) => (s, kState)

/-- A write of CLUSTER_POINT_REQ: the cluster moves in its next transition (R543). -/
def State.writePointReq (s : State) (cl v : Nat) : Written := (s.dset 0x2100 3 cl v, kOk)

/-- A write of POOL_SLACK, used from the next decision on (R384). -/
def State.writePoolSlack (s : State) (p v : Nat) : Written := (s.dset 0x2300 3 p v, kOk)

/-- A write of an entry of the Store's settings: only in Installation mode (R273). -/
def State.writeStoreSetting (s : State) (sub v : Nat) : Written :=
  if s.dget 0x7000 2 ≠ 2 then (s, kState) else (s.dset 0x7000 sub 0 v, kOk)

/-- An entry without an effect of its own takes the value. -/
def State.writePlain (s : State) (index sub i v : Nat) : Written :=
  (if 0x4000 ≤ index ∧ index < 0x5000 then s.cset ((index - 0x4000) / 16) (index % 16) sub v else s.dset index sub i v, kOk)

/-! ### The effect of a write (R503, R504) -/

/-- Device entries written as whole strings of bytes. -/
def State.writeOctets (s : State) (management : Bool) (key : Nat) (b : Bytes) : Written :=
  match key with
  | 0x112002 => s.writeRoleResponse management b
  | 0x201001 => s.writeProfileImage 0 b
  | 0x201002 => s.writeProfileImage 1 b
  | 0x201003 => s.writeProfileImage 2 b
  | 0x201004 => s.writeProfileImage 3 b
  | 0x701002 => s.writeStoreKey 1 b
  | 0x701003 => s.writeStoreKey 2 b
  | _ => s.writeStoreKey 3 b

/-- Scalar entries outside the context blocks and the links. -/
def State.writeDevice (s : State) (management : Bool) (index sub i v : Nat) : Written :=
  match index * 256 + sub with
  | 0x110001 => s.writeMgtEnable v
  | 0x112004 => (s.endGrant management, kOk)
  | 0x200005 => s.writeProfileSave v
  | 0x20000B => s.writeProfileErase v
  | 0x210003 => s.writePointReq i v
  | 0x220004 => s.writeCduApply
  | 0x230001 => s.writeClusterAssign i v
  | 0x230003 => s.writePoolSlack i v
  | 0x2A0004 => s.writeLoopLane i v
  | 0x300003 => s.writeHealthMask v
  | 0x300005 => s.writeHealthAck v
  | 0x302001 => s.writeTestRequest v
  | 0x303001 => s.writeRecover
  | 0x303204 => s.writeRelease
  | 0x500003 => s.writeCeiling v
  | 0x50000B => s.writePartitionApply
  | 0x600001 => s.writePerturbEnable v
  | 0x601001 => s.writeLockMode v
  | 0x700001 => s.writeInstallMode v
  | 0x700003 => s.writeStoreOpen v
  | 0x700004 => s.writeStoreCommit v
  | 0x700005 => s.writeStoreErase v
  | 0x700009 => s.writeStoreSetting 9 v
  | 0x70000A => s.writeStoreSetting 10 v
  | 0x701005 => s.writeKeyRevoke v
  | _ => s.writePlain index sub i v

/-- Scalar entries of context and port blocks. -/
def State.writeBlock (s : State) (key index sub i v : Nat) : Written :=
  let c := (index - 0x4000) / 16
  let p := index - 0x5010
  match key with
  | 0x400101 => (s.writeShare c v, kOk)
  | 0x400103 => s.writePool c v
  | 0x400104 => s.writeBivouacVa c v
  | 0x400401 => s.writeCtxReset c
  | 0x400C03 => s.writeLaneSwitch c v
  | 0x400C04 => s.writeLaneCancel c v
  | 0x501001 => (s.writePortEnable p v, kOk)
  | 0x501003 => s.writePartitionNext p v
  | 0x50100F => s.writePortLaneTest p v
  | _ => s.writePlain index sub i v

/-- One element of an entry takes a value: every check of the element, and its effect. -/
def State.writeElem (s : State) (management : Bool) (e : Entry) (index i : Nat) (b : Bytes) : Written :=
  let key := e.index * 256 + e.sub
  match key with
  | 0x400C01 => s.writeLaneSide ((index - 0x4000) / 16) i b
  | 0x400E01 => s.writeExchange ((index - 0x4000) / 16) i b
  | 0x600002 => s.writePerturbSlot i b
  | _ =>
    if e.type = 9 then s.writeOctets management key b
    else
      let v := leNat b
      if !e.allows v then (s, kRange)
      else if (0x4000 ≤ e.index ∧ e.index < 0x5000) ∨ e.index = 0x5010 then s.writeBlock key index e.sub i v
      else s.writeDevice management index e.sub i v

/-- Element j of a write's data. -/
def Entry.part (e : Entry) (data : Bytes) (j : Nat) : Bytes :=
  if e.type = 9 then data else slice data (j * e.size) e.size

/-- The first element of a write that fails a check, with what its refusal leaves: every element is checked on the state
as it stands before any changes. -/
def State.firstRefused (s : State) (management : Bool) (e : Entry) (index off : Nat) (data : Bytes) (n : Nat) :
    Option (Nat × Written) :=
  ((List.range n).map fun j => (off + j, s.writeElem management e index (off + j) (e.part data j))).find? fun x =>
    decide (x.2.2 ≠ kOk)

/-- Writes the elements of a value: all of them, or none and the first that fails. -/
def State.writeAll (s : State) (management : Bool) (e : Entry) (index off : Nat) (data : Bytes) (n : Nat) : Written × Nat :=
  match s.firstRefused management e index off data n with
  | some (i, w) => (w, i)
  | none =>
    let s := (List.range n).foldl (fun s j => (s.writeElem management e index (off + j) (e.part data j)).1) s
    ((if e.access = 4 then s.noteSaved else s, kOk), off)

/-! ### The operations (R511-R514) -/

/-- A request past its header's checks. -/
structure KopReq where
  op : Nat
  index : Nat
  sub : Nat
  type : Nat := 0
  length : Nat := 0
  offset : Nat := 0
  data : Bytes := []
  seq : Nat := 0
deriving DecidableEq, Repr

/-- A response. -/
structure KopRsp where
  result : Nat
  index : Nat
  sub : Nat
  type : Nat
  offset : Nat
  data : Bytes := []
deriving DecidableEq, Repr

/-- The PDU of a response. -/
def KopRsp.pdu (p : KopRsp) (op seq : Nat) : Bytes :=
  leBytes 1 1 ++ leBytes 1 (op % 128 + 128) ++ leBytes 1 0 ++ leBytes 1 p.result ++ leBytes 2 seq ++ leBytes 2 p.index ++
    leBytes 1 p.sub ++ leBytes 1 p.type ++ leBytes 2 p.data.length ++ leBytes 4 p.offset ++ p.data

/-- A response without data. -/
def KopReq.fail (q : KopReq) (result : Nat) : KopRsp := ⟨result, q.index, q.sub, q.type, q.offset, []⟩

/-- Data bytes that one response of a transport can carry (R516, R518, R522). -/
def dataLimit (r : Requester) : Nat :=
  match r with
  | .hostPf => 0x8000 - 16
  | .hostVf _ => 0x800 - 16
  | .management => 1472 - 16
  | .serviceBus => 1008 - 16

/-- A part of a byte string from an offset: LENGTH bytes, or the rest. -/
def partOf (b : Bytes) (offset length : Nat) : Except Nat Bytes :=
  if b.length < offset ∨ b.length < offset + length then .error kBounds
  else .ok (slice b offset (if length = 0 then b.length - offset else length))

/-- The value, or the part of it, that a READ asks for. -/
def State.readValue (s : State) (e : Entry) (q : KopReq) : Except Nat Bytes :=
  let key := e.index * 256 + e.sub
  if e.type = 8 ∨ e.type = 9 then
    partOf (if e.access = 3 then leBytes e.count 0 else s.octets key) q.offset q.length
  else if e.type = 10 then
    if q.length % e.size ≠ 0 then .error kType
    else
      let n := if q.length = 0 then e.count - q.offset else q.length / e.size
      if e.count ≤ q.offset ∨ e.count < q.offset + n then .error kBounds
      else .ok ((List.range n).flatMap fun i =>
        if key = 0x200009 then leBytes 1 (s.slotState (q.offset + i)) else s.elemBytes e q.index (q.offset + i))
  else if q.offset ≠ 0 then .error kBounds
  else if q.length ≠ 0 ∧ q.length ≠ e.size then .error kType
  else .ok (s.elemBytes e q.index 0)

/-- Reading ROLE_CHALLENGE draws a challenge for the reader's class, which is what the read returns (R508). -/
def State.drawChallenge (s : State) (r : Requester) (drawn : Bytes) : State :=
  let m := decide (Requester.class r = 2)
  s.setRole m { s.role m with challenge := some (padTo drawn 48) }

/-- READ. -/
def State.kopReadOp (s : State) (r : Requester) (e : Entry) (q : KopReq) (drawn : Option Bytes) : State × KopRsp :=
  let answer := fun (x : Except Nat Bytes) => match x with
    | .error c => { q.fail c with type := e.type }
    | .ok b => if dataLimit r < b.length then { q.fail kBounds with type := e.type }
        else { q.fail kOk with type := e.type, data := b }
  if q.type ≠ 0 ∧ q.type ≠ e.type then (s, { q.fail kType with type := e.type })
  else if e.index * 256 + e.sub = 0x112001 then
    let (b, s) := match drawn with | some b => (padTo b 48, s) | none => s.freeBytes 48
    (s.drawChallenge r b, answer (partOf b q.offset q.length))
  else (s, answer (s.readValue e q))

/-- How many elements a WRITE names, or why it names none. -/
def writeCount (e : Entry) (q : KopReq) : Except Nat Nat :=
  let n := q.data.length
  if q.type ≠ e.type then .error kType
  else if e.type = 9 then
    if q.offset ≠ 0 then .error kBounds
    else match e.range with
      | some (lo, hi) => if lo = hi ∧ n ≠ lo then .error kType else .ok 1
      | none => .ok 1
  else if e.type = 10 then
    if n = 0 ∨ n % e.size ≠ 0 then .error kType
    else if e.count < q.offset + n / e.size then .error kBounds
    else .ok (n / e.size)
  else if q.offset ≠ 0 then .error kBounds
  else if n ≠ e.size then .error kType
  else .ok 1

/-- WRITE. -/
def State.kopWriteOp (s : State) (r : Requester) (e : Entry) (q : KopReq) : State × KopRsp :=
  let rsp := fun (c off : Nat) => { q.fail c with type := e.type, offset := off }
  if e.access < 2 then (s, rsp kAccess q.offset)
  else if !s.mayWrite r q.index q.sub then (s, rsp kPermission q.offset)
  else match writeCount e q with
    | .error c => (s, rsp c q.offset)
    | .ok n =>
      let w := s.writeAll (decide (Requester.class r = 2)) e q.index q.offset q.data n
      (w.1.1, rsp w.1.2 (if w.1.2 = kOk then q.offset else w.2))

/-- DEFAULT, MIN or MAX of an entry, as 8 bytes (R512). -/
def describeBound (e : Entry) (which : Nat) : Bytes :=
  let key := e.index * 256 + e.sub
  let none' := leBytes 8 (Config.noBound which key).toNat
  if !e.isScalar then leBytes 8 0
  else if e.sub = 0 then leBytes 8 (highestSub e.index)
  else if which = 0 then
    if e.access = 3 ∨ key = 0x200009 ∨ key = 0x301001 ∨ key = 0x703002 then none'
    else if key = 0x100001 then leBytes 8 Config.vendorId.toNat
    else if key = 0x601003 then leBytes 8 idcode.toNat
    else leBytes 8 (if 0x4000 ≤ e.index ∧ e.index < 0x5000 then contextDefault (e.index % 16) e.sub else deviceDefault e.index e.sub)
  else match e.range with
    | none => none'
    | some (lo, hi) => leBytes 8 (if which = 1 then e.also.foldl min lo else e.also.foldl max hi)

/-- Bits of the classes that may do something. -/
def classMask (p : Nat → Bool) : Nat := ((List.range 4).map fun c => if p c then 2 ^ c else 0).foldl (· + ·) 0

/-- DESCRIBE data. -/
def describe (e : Entry) (index : Nat) : Bytes :=
  let readers := classMask fun c => classReads c index
  let writers := if e.access < 2 then 0
    else classMask (fun c => classWrites c index e.sub && classReads c index) + (if needsInstaller index e.sub then 128 else 0)
  leBytes 1 e.type ++ leBytes 1 e.access ++ leBytes 1 readers ++ leBytes 1 writers ++ leBytes 4 e.count ++ leBytes 2 e.size ++
    leBytes 6 0 ++ describeBound e 0 ++ describeBound e 1 ++ describeBound e 2

/-- The subindexes in use at an index above one, the least first. -/
def nextSub (index : Nat) (above : Option Nat) : Option Nat :=
  let subs := 0 :: (entries.filter fun e => decide (e.index = baseIndex index)).map (·.sub)
  subs.find? fun n => above.all fun m => decide (m < n)

/-- The next entry above index.subindex that a requester may read. -/
def nextEntry (r : Requester) : Nat → Nat → Option Nat → Option (Nat × Nat)
  | 0, _, _ => none
  | fuel + 1, index, above =>
    let here := if mayRead r index ∧ 0 < highestSub index then nextSub index above else none
    match here with
    | some n => some (index, n)
    | none => match nextIndex index with
      | some i => nextEntry r fuel i none
      | none => none

/-- NEXT. -/
def kopNextOp (r : Requester) (q : KopReq) : KopRsp :=
  match nextEntry r 8192 q.index (some q.sub) with
  | some (i, n) => { q.fail kOk with index := i, sub := n, type := ((findEntry i n).map (·.type)).getD 0 }
  | none => q.fail kNoEntry

/-- An operation on an existing entry. -/
def State.kopEntry (s : State) (r : Requester) (e : Entry) (q : KopReq) (drawn : Option Bytes) : State × KopRsp :=
  if q.op = 2 ∧ Requester.class r = 3 then (s, { q.fail kPermission with type := e.type })
  else if (q.op ≠ 3 ∧ s.onlyAlwaysOn ∧ !alwaysOn q.index) ∨ (q.op = 1 ∧ s.entryOff q.index) then (s, { q.fail kUnavailable with type := e.type })
  else if !mayRead r q.index then (s, { q.fail kPermission with type := e.type })
  else if q.op = 1 then s.kopReadOp r e q drawn
  else if q.op = 2 then s.kopWriteOp r e q
  else (s, { q.fail kOk with type := e.type, data := describe e q.index })

/-- Serves a request, as one action (R505). -/
def State.kopServe (s : State) (r : Requester) (q : KopReq) (drawn : Option Bytes := none) : State × KopRsp :=
  if s.loading && !(decide (q.op = 1) && alwaysOn q.index) then (s, q.fail kBusy)
  else if q.op = 4 then (s, kopNextOp r q)
  else match findEntry q.index q.sub with
    | none => (s, q.fail kNoEntry)
    | some e => s.kopEntry r e q drawn

/-! ### Requests as PDUs (R511) -/

/-- The request that a PDU's header and data give. -/
def parsePdu (pdu : Bytes) : KopReq :=
  let op := byteAt pdu 1
  { op := op, seq := field pdu 4 2, index := field pdu 6 2, sub := byteAt pdu 8, type := byteAt pdu 9
    length := field pdu 10 2, offset := field pdu 12 4, data := if op = 2 then slice pdu 16 (field pdu 10 2) else [] }

/-- The length that a request's header gives its PDU. -/
def pduLength (q : KopReq) : Nat := 16 + if q.op = 2 then q.length else 0

/-- A PDU of a transport byte count breaks R511. -/
def protocolBad (pdu : Bytes) (count : Nat) : Bool :=
  let q := parsePdu pdu
  decide (byteAt pdu 0 ≠ 1) || decide (q.op = 0 ∨ 4 < q.op) || decide (byteAt pdu 2 ≠ 0) || decide (byteAt pdu 3 ≠ 0) ||
    decide (count ≠ pduLength q) ||
    (decide (3 ≤ q.op) && decide (q.length ≠ 0 ∨ q.offset ≠ 0 ∨ q.type ≠ 0))

/-- Answers a PDU. -/
def State.kopPdu (s : State) (r : Requester) (pdu : Bytes) (count : Nat) : State × Bytes :=
  let q := parsePdu pdu
  if protocolBad pdu count then (s, { q.fail kProtocol with data := [] }.pdu q.op q.seq)
  else
    let (s, p) := s.kopServe r q
    (s, p.pdu q.op q.seq)

/-! ### Requesters -/

/-- The management port works: its PHY is out of reset and on (R525, R624). -/
def State.mgtUp (s : State) : Bool :=
  let out := match s.dev.mode with
    | .bringUp => decide (s.dev.dTime ≤ s.uptime)
    | .service | .recovery | .failed => true
    | _ => false
  out && decide (s.domain 117 = 2)

/-- An entry's value, or before the first profile load the one that R525 takes. -/
def State.bootGet (s : State) (index sub : Nat) : Nat :=
  if s.unprofiled then s.bootValue index sub else s.dget index sub

/-- A requester's transport works. -/
def State.reaches (s : State) (r : Requester) : Bool :=
  match r with
  | .hostPf => s.hostUp
  | .hostVf c => s.hostUp && s.vfOn c.val
  | .management => s.mgtUp && decide (s.bootGet 0x1100 1 = 1)
  | .serviceBus => s.powered && decide (s.bootGet 0x1110 1 = 1)

/-- A request given by its fields is served and its response kept. -/
def State.request' (s : State) (r : Requester) (q : KopReq) (drawn : Option Bytes := none) : State :=
  if s.reaches r then
    let (s, p) := s.kopServe r q drawn
    { s with kop := { s.kop with response := p.pdu q.op 0 } }
  else s

/-- A WRITE of an entry's element or value. -/
def State.writeEntry (s : State) (r : Requester) (index sub type off : Nat) (data : Bytes) : State :=
  s.request' r { op := 2, index := index, sub := sub, type := type, length := data.length, offset := off, data := data }

/-! ### Operations by their own rows -/

/-- KOP_READ (R512, R514). -/
def execKopRead (r : Requester) (index : BitVec 16) (sub type : BitVec 8) (length : BitVec 16) (offset : BitVec 32)
    (s : State) : Host.Outcome State Fault Refusal :=
  .next (s.request' r { op := 1, index := index.toNat, sub := sub.toNat, type := type.toNat, length := length.toNat, offset := offset.toNat })

/-- KOP_WRITE (R512, R503). -/
def execKopWrite (r : Requester) (index : BitVec 16) (sub type : BitVec 8) (offset : BitVec 32) (data : Bytes) (s : State) :
    Host.Outcome State Fault Refusal :=
  .next (s.writeEntry r index.toNat sub.toNat type.toNat offset.toNat (data.take 65535))

/-- KOP_DESCRIBE (R512). -/
def execKopDescribe (r : Requester) (index : BitVec 16) (sub : BitVec 8) (s : State) : Host.Outcome State Fault Refusal :=
  .next (s.request' r { op := 3, index := index.toNat, sub := sub.toNat })

/-- KOP_NEXT (R512). -/
def execKopNext (r : Requester) (index : BitVec 16) (sub : BitVec 8) (s : State) : Host.Outcome State Fault Refusal :=
  .next (s.request' r { op := 4, index := index.toNat, sub := sub.toNat })

/-- ROLE_CHALLENGE: a read that draws (R508). -/
def execRoleChallenge (r : Requester) (drawn : Bytes) (s : State) : Host.Outcome State Fault Refusal :=
  .next (s.request' r { op := 1, index := 0x1120, sub := 1 } (some drawn))

/-- ROLE_RESPONSE (R508). -/
def execRoleResponse (r : Requester) (response : Bytes) (t : Nat) (s : State) : Host.Outcome State Fault Refusal :=
  .next ((if s.powered then s.at t else s).writeEntry r 0x1120 2 9 0 (response.take 65535))

/-- ROLE_DROP (R509). -/
def execRoleDrop (r : Requester) (s : State) : Host.Outcome State Fault Refusal := .next (s.writeEntry r 0x1120 4 1 0 [1])

/-- ROLE_LEASE_EXPIRED (R509). -/
def execRoleLeaseExpired (management : Bool) (t : Nat) (s : State) : Host.Outcome State Fault Refusal :=
  .next (if s.powered && (s.role management).grantUntil.any (fun u => decide (u ≤ t)) then (s.at t).endGrant management else s)

/-- MANAGEMENT_LINK_DOWN (R509). -/
def execManagementLinkDown (t : Nat) (s : State) : Host.Outcome State Fault Refusal :=
  .next (if s.powered then (s.at t).endGrant true else s)

/-- CDU_APPLY (R395). -/
def execCduApply (r : Requester) (value : BitVec 8) (s : State) : Host.Outcome State Fault Refusal :=
  .next (s.writeEntry r 0x2200 4 1 0 [value])

/-- INSTALL_MODE_ENTER (R264). -/
def execInstallModeEnter (r : Requester) (s : State) : Host.Outcome State Fault Refusal := .next (s.writeEntry r 0x7000 1 1 0 [1])

/-- INSTALL_MODE_EXIT (R264). -/
def execInstallModeExit (r : Requester) (s : State) : Host.Outcome State Fault Refusal := .next (s.writeEntry r 0x7000 1 1 0 [0])

/-- STORE_OPEN (R264-R267). -/
def execStoreOpen (r : Requester) (slot : BitVec 16) (s : State) : Host.Outcome State Fault Refusal :=
  .next (s.writeEntry r 0x7000 3 3 0 (leBytes 2 slot.toNat))

/-- STORE_COMMIT (R266). -/
def execStoreCommit (r : Requester) (slot : BitVec 16) (t : Nat) (s : State) : Host.Outcome State Fault Refusal :=
  .next ((if s.powered then s.at t else s).writeEntry r 0x7000 4 3 0 (leBytes 2 slot.toNat))

/-- STORE_ERASE (R266). -/
def execStoreErase (r : Requester) (slot : BitVec 16) (s : State) : Host.Outcome State Fault Refusal :=
  .next (s.writeEntry r 0x7000 5 3 0 (leBytes 2 slot.toNat))

/-- STORE_KEY_WRITE (R263): key slot 0 is CONST. -/
def execStoreKeyWrite (r : Requester) (slot : Fin 4) (key : Bytes) (s : State) : Host.Outcome State Fault Refusal :=
  .next (s.writeEntry r 0x7010 (slot.val + 1) 9 0 (key.take 65535))

/-- STORE_KEY_REVOKE (R263). -/
def execStoreKeyRevoke (r : Requester) (slot : BitVec 8) (s : State) : Host.Outcome State Fault Refusal :=
  .next (s.writeEntry r 0x7010 5 2 0 [slot])

/-- CLUSTER_ASSIGN (R366). -/
def execClusterAssign (r : Requester) (cluster : ClusterId) (value : BitVec 16) (s : State) : Host.Outcome State Fault Refusal :=
  .next (s.writeEntry r 0x2300 1 10 cluster.val (leBytes 2 value.toNat))

/-- POOL (R368). -/
def execPool (r : Requester) (ctx : Fin 256) (value : BitVec 8) (s : State) : Host.Outcome State Fault Refusal :=
  .next (s.writeEntry r (0x4001 + ctx.val * 16) 3 2 0 [value])

/-- BIVOUAC_VA (R368). -/
def execBivouacVa (r : Requester) (ctx : Fin 256) (value : BitVec 64) (s : State) : Host.Outcome State Fault Refusal :=
  .next (s.writeEntry r (0x4001 + ctx.val * 16) 4 5 0 (leBytes 8 value.toNat))

/-- SHARE (R384). -/
def execShare (r : Requester) (ctx : Fin 256) (value : BitVec 16) (s : State) : Host.Outcome State Fault Refusal :=
  .next (s.writeEntry r (0x4001 + ctx.val * 16) 1 3 0 (leBytes 2 value.toNat))

/-- POOL_SLACK (R384). -/
def execPoolSlack (r : Requester) (pool : Fin 16) (value : BitVec 32) (s : State) : Host.Outcome State Fault Refusal :=
  .next (s.writeEntry r 0x2300 3 10 pool.val (leBytes 4 value.toNat))

/-- LANE_SIDE (R416). -/
def execLaneSide (r : Requester) (ctx : Fin 256) (entry : Fin 16) (record : Bytes) (s : State) : Host.Outcome State Fault Refusal :=
  .next (s.writeEntry r (0x400C + ctx.val * 16) 1 10 entry.val (record.take 65535))

/-- LOOP_LANE (R417). -/
def execLoopLane (r : Requester) (ring : RingId) (value : BitVec 8) (s : State) : Host.Outcome State Fault Refusal :=
  .next (s.writeEntry r 0x2A00 4 10 ring.val [value])

/-- LANE_SWITCH (R421). -/
def execLaneSwitch (r : Requester) (ctx : Fin 256) (lane : BitVec 8) (s : State) : Host.Outcome State Fault Refusal :=
  .next (s.writeEntry r (0x400C + ctx.val * 16) 3 2 0 [lane])

/-- LANE_CANCEL (R424). -/
def execLaneCancel (r : Requester) (ctx : Fin 256) (lane : BitVec 8) (s : State) : Host.Outcome State Fault Refusal :=
  .next (s.writeEntry r (0x400C + ctx.val * 16) 4 2 0 [lane])

/-- TRU_EXCHANGES (R450). -/
def execTruExchanges (r : Requester) (ctx : Fin 256) (entry : Fin 32) (record : Bytes) (s : State) :
    Host.Outcome State Fault Refusal :=
  .next (s.writeEntry r (0x400E + ctx.val * 16) 1 10 entry.val (record.take 65535))

/-- PARTITION_APPLY (R491). -/
def execPartitionApply (r : Requester) (value : BitVec 8) (s : State) : Host.Outcome State Fault Refusal :=
  .next (s.writeEntry r 0x5000 11 1 0 [value])

/-- PORT_LANE_TEST (R496). -/
def execPortLaneTest (r : Requester) (port : PortId) (value : BitVec 16) (s : State) : Host.Outcome State Fault Refusal :=
  .next (s.writeEntry r (0x5010 + port.val) 15 3 0 (leBytes 2 value.toNat))

/-- PROFILE_SAVE (R535). -/
def execProfileSave (r : Requester) (slot : BitVec 8) (s : State) : Host.Outcome State Fault Refusal :=
  .next (s.writeEntry r 0x2000 5 2 0 [slot])

/-- PROFILE_IMAGE (R536). -/
def execProfileImage (r : Requester) (slot : Fin 4) (image : Bytes) (s : State) : Host.Outcome State Fault Refusal :=
  .next (s.writeEntry r 0x2010 (slot.val + 1) 9 0 (image.take 65536))

/-- PROFILE_ERASE (R536). -/
def execProfileErase (r : Requester) (slot : BitVec 8) (s : State) : Host.Outcome State Fault Refusal :=
  .next (s.writeEntry r 0x2000 11 2 0 [slot])

/-- CTX_RESET (R572). -/
def execCtxReset (r : Requester) (ctx : Fin 256) (s : State) : Host.Outcome State Fault Refusal :=
  .next (s.writeEntry r (0x4004 + ctx.val * 16) 1 1 0 [1])

/-- RECOVER_REQUEST (R592). -/
def execRecoverRequest (r : Requester) (s : State) : Host.Outcome State Fault Refusal := .next (s.writeEntry r 0x3030 1 1 0 [1])

/-- SNAPSHOT_RELEASE (R587). -/
def execSnapshotRelease (r : Requester) (s : State) : Host.Outcome State Fault Refusal := .next (s.writeEntry r 0x3032 4 1 0 [1])

/-- HEALTH_ACK (R602). -/
def execHealthAck (r : Requester) (seq : BitVec 32) (s : State) : Host.Outcome State Fault Refusal :=
  .next (s.writeEntry r 0x3000 5 4 0 (leBytes 4 seq.toNat))

/-- HEALTH_MASK (R601). -/
def execHealthMask (r : Requester) (value : BitVec 16) (s : State) : Host.Outcome State Fault Refusal :=
  .next (s.writeEntry r 0x3000 3 3 0 (leBytes 2 value.toNat))

/-- TEST_REQUEST of kind 1 (R610). -/
def execTestRequestCluster (r : Requester) (cluster : BitVec 8) (s : State) : Host.Outcome State Fault Refusal :=
  .next (s.writeEntry r 0x3020 1 3 0 [1, cluster])

/-- TEST_REQUEST of kind 2 (R607). -/
def execTestRequestRotate (r : Requester) (cluster : BitVec 8) (s : State) : Host.Outcome State Fault Refusal :=
  .next (s.writeEntry r 0x3020 1 3 0 [2, cluster])

/-- PERTURB_ENABLE (R617). -/
def execPerturbEnable (r : Requester) (value : BitVec 8) (s : State) : Host.Outcome State Fault Refusal :=
  .next (s.writeEntry r 0x6000 1 1 0 [value])

/-- PERTURB_SLOTS (R618). -/
def execPerturbSlots (r : Requester) (slot : Fin 16) (record : Bytes) (s : State) : Host.Outcome State Fault Refusal :=
  .next (s.writeEntry r 0x6000 2 10 slot.val (record.take 65535))

/-- CLUSTER_POINT_REQ (R543). -/
def execClusterPointReq (r : Requester) (cluster : ClusterId) (value : BitVec 8) (s : State) : Host.Outcome State Fault Refusal :=
  .next (s.writeEntry r 0x2100 3 10 cluster.val [value])

end Sys2Proof.Machine
end

