-- ==== Sys2Proof/Machine/Query.lean ====
section
/-! DEFINITION. QUERY: the status of a ring, of a context, its halted streams, a counter or a parameter (R326, R353). -/

namespace Sys2Proof.Machine

/-- The status word of a ring's doorbell page (R326). -/
def State.doorbellStatus (s : State) (g : Nat) : Nat :=
  let r := s.ring g
  r.sqHead + 2 ^ 16 * r.cqTail + 2 ^ 32 * b2n r.cqPhase + 2 ^ 33 * b2n r.enable + 2 ^ 34 * b2n r.error +
    2 ^ 35 * b2n (s.drained g) + 2 ^ 36 * s.ringInflight g

/-- Kind 0: nothing where the local index has no ring. -/
def State.queryRing (s : State) (c i : Nat) : Bytes :=
  match s.localRing c i with
  | some g => leBytes 8 (s.doorbellStatus g) ++ leBytes 2 g ++ leBytes 6 0
  | none => []

/-- Kind 2: the records of the halted streams of a context, by core and stream. -/
def State.queryHalted (s : State) (c : Nat) : Bytes :=
  (s.array.streams.filterMap fun kv => kv.2.fault.bind fun f => if f.ctx = c then some f else none).flatMap Spr.bytes

/-- The requester whose access rules a ring's reads of parameters follow: Host-PF for SYS, else the context's VF. -/
def requesterOf (c : Nat) : Requester := if h : c < 256 then .hostVf ⟨c, h⟩ else .hostPf

/-- Kind 4: the value of a parameter, or the status and VALUE with which the command fails. -/
def State.queryParameter (s : State) (c arg : Nat) : State × Except (Nat × Nat) Bytes :=
  let r := requesterOf c
  let index := bits arg 23 8
  match findEntry index (arg % 256) with
  | none => (s, .error (1, 12))
  | some e =>
    if !mayRead r index then (s, .error (stPermission, 12))
    else if e.index * 256 + e.sub = 0x112001 then
      let (b, s) := s.freeBytes 48
      (s.drawChallenge r b, .ok b)
    else match s.readValue e { op := 1, index := index, sub := arg % 256 } with
      | .ok b => (s, .ok b)
      | .error _ => (s, .ok [])

/-- The data that a QUERY has available. -/
def State.queryData (s : State) (q : Cmd) : State × Except (Nat × Nat) Bytes :=
  let c := q.at 10 2
  let arg := q.at 12 4
  match q.at 8 1 with
  | 0 => (s, .ok (s.queryRing c arg))
  | 1 => (s, .ok (leBytes 8 (s.ctxStatus c) ++ leBytes 2 (s.streamsHalted c) ++ leBytes 6 0))
  | 2 => (s, .ok (s.queryHalted c))
  | 3 => (s, if s.mayUse q.ctx arg then .ok (leBytes 8 (s.counter arg).toNat) else .error (stPermission, 12))
  | _ => s.queryParameter q.ctx arg

/-- Writes at most OUT_BYTES of the data to OUT, and completes: VALUE holds the bytes written and available. -/
def State.answerQuery (s : State) (q : Cmd) (data : Bytes) : State :=
  let out := data.take (q.at 24 4)
  match s.cwrite q.ctx (q.at 16 8) out with
  | .ok s => s.complete q 0 (out.length + data.length * 2 ^ 32)
  | .error f => s.cairnFail q f

/-- QUERY (R353). -/
def execQuery (cmd : Nat) (s : State) : Host.Outcome State Fault Refusal :=
  .next (match s.starting cmd 12 with
    | none => s
    | some q => match s.queryData q with
      | (s, .ok data) => s.answerQuery q data
      | (s, .error (status, value)) => s.complete q status value)

end Sys2Proof.Machine
end

