-- ==== Sys2Proof/Machine/Transports.lean ====
section
/-! DEFINITION. The transports of the dictionary: the management port, the host mailboxes and the service bus with its
status frame (R515-R525). -/

namespace Sys2Proof.Machine

/-! ### Management port (R515-R517) -/

/-- MGT_IPV4; 0 means that the device answers nothing. -/
def State.mgtIp (s : State) : Nat := s.bootGet 0x1100 3

/-- Two addresses agree in their leading bits. -/
def samePrefix (n a b : Nat) : Bool := decide (a / 2 ^ (32 - n) = b / 2 ^ (32 - n))

/-- The next hop of an address: itself in the subnet, the gateway outside it, none where no gateway is set. -/
def State.nextHop (s : State) (ip : Nat) : Option Nat :=
  if samePrefix (s.bootGet 0x1100 4) ip s.mgtIp then some ip
  else if s.bootGet 0x1100 5 = 0 then none else some (s.bootGet 0x1100 5)

/-- The port takes IPv4 traffic. -/
def State.mgtListens (s : State) : Bool := s.reaches .management && decide (s.mgtIp ≠ 0)

/-- The cache holds a hop's address: it is looked up where it does, and asked for by an ARP request where it does not; the
answer, whose address is a free value, comes at once (R515; log 70). -/
def State.resolve (s : State) (hop : Nat) : State :=
  if s.kop.arp.any fun x => decide (x.2 = hop) then s
  else
    let x := s.fresh
    ({ x.2 with kop := { x.2.kop with arp := ((x.1.toNat % 2 ^ 48, hop) :: x.2.kop.arp).take 16 } } : State).emit (.arpLookup hop)

/-- Sends a response to a request's source, by the Ethernet address that the ARP cache gives. -/
def State.sendDatagram (s : State) (ip port : Nat) (pdu : Bytes) : State :=
  match s.nextHop ip with
  | some hop => (s.resolve hop).emit (.datagram hop ip port pdu)
  | none => s

/-- The last response kept for a source. -/
def State.keptOf (s : State) (ip port : Nat) : Option Kept :=
  s.kop.kept.find? fun k => decide (k.ip = ip ∧ k.port = port)

/-- Keeps the last response of a source, of the 16 most recent. -/
def State.keep (s : State) (k : Kept) : State :=
  let others := s.kop.kept.filter fun j => !decide (j.ip = k.ip ∧ j.port = k.port)
  { s with kop := { s.kop with kept := (k :: others).take 16 } }

/-- A PDU from a source: repeated within 1 s, its response is sent again and nothing is applied. -/
def State.takeDatagram (s : State) (ip port : Nat) (pdu : Bytes) : State :=
  let serve := fun (_ : Unit) =>
    let (s, rsp) := s.kopPdu .management pdu pdu.length
    (s.keep ⟨ip, port, s.uptime, pdu, rsp⟩).sendDatagram ip port rsp
  match s.keptOf ip port with
  | some k =>
    if k.request = pdu ∧ s.uptime ≤ k.time + 1000000000 then (s.keep k).sendDatagram ip port k.response else serve ()
  | none => serve ()

/-- A frame's destination is MGT_MAC or the broadcast address. -/
def forMgt (dst : BitVec 48) : Bool := decide (dst = BitVec.allOnes 48) || decide (dst.toNat = mgtMac)

/-- A frame that the port takes: untagged, addressed to MGT_MAC or to the broadcast address, and its IPv4 datagram without
options or fragments (R515). -/
def mgtFrameOk (f : MgtFrame) : Bool :=
  !f.tagged && !f.options && !f.fragment && forMgt f.dst

/-- The datagram is for MGT_IPV4 and MGT_UDP_PORT (R515). -/
def State.mgtPort (s : State) (f : MgtUdp) : Bool :=
  decide (f.dstIp.toNat = s.mgtIp) && decide (f.dstPort.toNat = s.bootGet 0x1100 6)

/-- MANAGEMENT_DATAGRAM (R515, R516, R517, R525): the port works from D on. -/
def execManagementDatagram (t : Nat) (srcIp : BitVec 32) (srcPort : BitVec 16) (frame : MgtUdp) (pdu : Bytes) (s : State) :
    Host.Outcome State Fault Refusal :=
  .next (
    let u := s.at t
    let allowed := samePrefix (u.bootGet 0x1100 8) srcIp.toNat (u.bootGet 0x1100 7)
    if u.mgtListens && mgtFrameOk frame.toMgtFrame && u.mgtPort frame && frame.checksummed && allowed && decide (16 ≤ pdu.length) && decide (pdu.length ≤ 1472) then
      u.takeDatagram srcIp.toNat srcPort.toNat pdu
    else s)

/-- The ARP cache takes a sender that asks for this device, and renews one it holds. -/
def arpLearn (cache : List (Nat × Nat)) (mac ip : Nat) (asksUs : Bool) : List (Nat × Nat) :=
  if asksUs || cache.any (fun x => decide (x.2 = ip)) then ((mac, ip) :: cache.filter fun x => decide (x.2 ≠ ip)).take 16
  else cache

/-- ARP_REQUEST (R515). -/
def execArpRequest (sender : ArpSender) (senderIp targetIp : BitVec 32) (s : State) : Host.Outcome State Fault Refusal :=
  .next (
    if s.mgtListens && !sender.tagged && forMgt sender.dst then
      let ours := decide (targetIp.toNat = s.mgtIp)
      let s := { s with kop := { s.kop with arp := arpLearn s.kop.arp sender.mac.toNat senderIp.toNat ours } }
      if ours then s.emit (.arp sender.mac.toNat senderIp.toNat) else s
    else s)

/-- ICMP_ECHO: the reply goes by the next hop that the ARP cache gives, as every datagram of the device does (R515). -/
def execIcmpEcho (srcIp dstIp : BitVec 32) (echo : MgtEcho) (s : State) : Host.Outcome State Fault Refusal :=
  .next (if s.mgtListens && mgtFrameOk echo.frame && decide (dstIp.toNat = s.mgtIp) && decide (echo.payload.length ≤ 1472) then
    match s.nextHop srcIp.toNat with
    | some hop => (s.resolve hop).emit (.echo srcIp.toNat echo.payload)
    | none => s
  else s)

/-! ### Host mailboxes (R518-R520) -/

/-- Function number of a mailbox or MSI-X table: 0 the PF, c + 1 a VF. -/
def funcNumber : Func → Nat
  | .pf => 0
  | .vf c => c.val + 1

/-- The requester that a mailbox stands for. -/
def mailRequester : Func → Requester
  | .pf => .hostPf
  | .vf c => .hostVf c

/-- Bytes of a mailbox's request area. -/
def requestArea : Func → Nat
  | .pf => 0x7F00
  | .vf _ => 0x700

def State.mail (s : State) (f : Func) : Mailbox := tget {} s.hif.mailbox (funcNumber f)

def State.setMail (s : State) (f : Func) (m : Mailbox) : State :=
  { s with hif := { s.hif with mailbox := tset {} s.hif.mailbox (funcNumber f) m } }

/-- Replaces part of a byte string, which zeros lengthen where it is too short. -/
def patch (b : Bytes) (off : Nat) (new : Bytes) : Bytes :=
  padTo b off ++ new ++ b.drop (off + new.length)

/-- The request in the mailbox is taken: one of fewer than 16 bytes is discarded without a response, any other is carried out
and BUSY until its response is in place (R511, R518, R519). A request that resets the Host Interface leaves none. -/
def State.serveMail (s : State) (f : Func) : State :=
  let m := s.mail f
  let n := m.reqBytes
  if n < 16 then s
  else
    let count := if requestArea f < n then 0 else n
    let (s, rsp) := (s.setMail f { m with busy := true }).kopPdu (mailRequester f) (padTo m.request n) count
    if (s.mail f).busy then s.setMail f { s.mail f with due := rsp } else s

/-- The response of a mailbox comes into place: it is written, DONE is set, and the message is sent (R519). -/
def State.endMail (s : State) (f : Func) : State :=
  let m := s.mail f
  let m := { m with response := m.due, rspBytes := m.due.length, done := true, busy := false, due := [] }
  let s := s.setMail f m
  if m.irqEn then s.interrupt (funcNumber f) (match f with | .pf => 1 | .vf _ => m.vector) else s

/-- The function whose mailbox has a number. -/
def funcOf (n : Nat) : Func := if n = 0 then .pf else .vf ⟨(n - 1) % 256, Nat.mod_lt _ (by decide)⟩

/-- What the block does while no command waits: the response of the first BUSY mailbox comes into place (DESIGN CHOICE,
log 15: the spec gives it no time). -/
def State.idle (s : State) : State :=
  match s.hif.mailbox.find? fun kv => kv.2.busy with
  | some kv => s.endMail (funcOf kv.1)
  | none => s

/-- A write of MBX_CTRL: DONE clears where a 1 is written, and GO submits the request; one that sets GO while BUSY is 1 is
ignored and counted (R518, R519). -/
def State.writeMail (s : State) (f : Func) (v : Nat) : State :=
  let m := s.mail f
  if m.busy && bit v 0 then s.dbump 0x1120 7 0 32
  else
    let vector := match f with | .pf => 0 | .vf _ => bits v 58 56
    let m := { m with irqEn := bit v 3, reqBytes := bits v 31 16, vector := vector, done := m.done && !bit v 2 }
    let s := s.setMail f m
    if bit v 0 then s.serveMail f else s

/-- MBX_GO (R519): the value written, with GO. -/
def execMbxGo (f : Func) (value : BitVec 64) (s : State) : Host.Outcome State Fault Refusal :=
  .next (s.ifHost f fun s => s.writeMail f (value ||| 1).toNat)

/-! ### Service bus (R521-R524) -/

/-- The device can send on the bus. -/
def State.canSends (s : State) : Bool := s.driven && s.reaches .serviceBus && !s.pins.canStopped && !s.pinsHeld

/-- A byte string in chunksOf of n bytes. -/
def chunksOf (n : Nat) : Nat → Bytes → List Bytes
  | 0, _ => []
  | k + 1, b => b.take n :: chunksOf n k (b.drop n)

/-- The frames of a PDU: FIRST, LAST, the number, and 63 bytes each. -/
def segments (pdu : Bytes) : List Bytes :=
  let n := (pdu.length + 62) / 63
  (chunksOf 63 n pdu).zipIdx.map fun (x : Bytes × Nat) =>
    leBytes 1 (128 * b2n (decide (x.2 = 0)) + 64 * b2n (decide (x.2 + 1 = n)) + x.2) ++ padTo x.1 63

/-- No request is being assembled. -/
def State.sbClear (s : State) : State := { s with kop := { s.kop with sbBytes := [], sbNext := 0 } }

/-- The request being assembled is discarded and counted. -/
def State.sbDiscard (s : State) : State := s.sbClear.dbump 0x1110 6 0 32

/-- A whole request of k segments is served, and the response sent. -/
def State.sbServe (s : State) (data : Bytes) (k : Nat) : State :=
  let len := pduLength (parsePdu data)
  let count := if (len + 62) / 63 = k then len else 63 * k
  let (s, rsp) := s.kopPdu .serviceBus (data.take count) count
  if s.canSends then (segments rsp).foldl (fun s b => s.emit (.can (0x480 + s.bootGet 0x1110 2) b)) s else s

/-- A segment in its place joins the request; the last one ends it. -/
def State.sbAppend (s : State) (last : Bool) (num : Nat) (body : Bytes) : State :=
  let data := s.kop.sbBytes ++ body
  if last then (s.sbClear).sbServe data (num + 1)
  else if num = 15 then s.sbDiscard
  else { s with kop := { s.kop with sbBytes := data, sbNext := num + 1, sbTime := s.uptime } }

/-- A frame on the request identifier. -/
def State.sbSegment (s : State) (frame : Bytes) : State :=
  let b := byteAt frame 0
  let num := b % 16
  let body := slice frame 1 63
  let gap := decide (s.kop.sbTime + 100000000 < s.uptime)
  if bit b 7 then
    let s := if s.kop.sbNext ≠ 0 then s.sbDiscard else s
    if num = 0 then s.sbAppend (bit b 6) 0 body else s.sbDiscard
  else if s.kop.sbNext = 0 then s
  else if gap || decide (num ≠ s.kop.sbNext) then s.sbDiscard
  else s.sbAppend (bit b 6) num body

/-- SERVICE_BUS_SEGMENT (R522). -/
def execServiceBusSegment (t : Nat) (segment : Bytes) (s : State) : Host.Outcome State Fault Refusal :=
  .next (if s.reaches .serviceBus && decide (segment.length = 64) then (s.at t).sbSegment segment else s)

/-- SERVICE_BUS_SEGMENT_TIMEOUT (R522). -/
def execServiceBusSegmentTimeout (t : Nat) (s : State) : Host.Outcome State Fault Refusal :=
  .next (if s.powered && decide (s.kop.sbNext ≠ 0) && decide (s.kop.sbTime + 100000000 < max s.uptime t) then (s.at t).sbDiscard
    else s)

/-- STATE of the status frame: DEV_RST_N counts as asserted until an early deassertion is accepted at D (R624). The spec states
none for a thermal trip with every rail in tolerance and DEV_RST_N high, and there it is a free value. -/
def State.sbState (s : State) : Nat × State :=
  let rail := !s.pins.railsOut.isEmpty
  if s.loading then (5, s)
  else match s.dev.mode with
    | .hold => (2, s)
    | .recovery | .failed => (3, s)
    | .reset => (if rail then 4 else 1, s)
    | .tripped =>
      if rail then (4, s) else if !s.pins.devRstN then (1, s) else (s.fresh.1.toNat % 256, s.fresh.2)
    | .bringUp => (if rail then 4 else if s.uptime < s.dev.dTime then 1 else 0, s)
    | _ => (if rail then 4 else 0, s)

/-- The hottest junction in whole degrees, as an I8. -/
def State.hottest (s : State) : Nat :=
  (BitVec.ofInt 8 (((List.range 100).map s.temp).foldl max (s.temp 0) / 4)).toNat

/-- Table: Service-bus status frame. -/
def State.statusFrame (s : State) (state : Nat) : Bytes :=
  leBytes 1 state ++ leBytes 1 (s.pins.railsOut.headD 0xFF) ++ leBytes 1 (min 255 s.unmasked) ++
    leBytes 1 (b2n (decide (s.dget 0x1010 1 = 3)) + 2 * s.dget 0x3010 6) ++
    leBytes 4 (if s.dev.mode = .hold then (s.uptime - s.dev.since) / 1000000000 else 0) ++
    leBytes 4 (s.uptime / 1000000000) ++ leBytes 1 s.hottest ++ leBytes 1 s.cdu.state ++ leBytes 1 (s.dget 0x2000 1) ++ [0]

/-- SB_STATUS_PERIOD (R524). -/
def execSbStatusPeriod (t : Nat) (s : State) : Host.Outcome State Fault Refusal :=
  .next (
    let due := s.kop.sbLast.all fun u => decide (u + s.bootGet 0x1110 5 * 1000000 ≤ max s.uptime t)
    if s.canSends && due then
      let s := s.at t
      let (st, s) := s.sbState
      let s := { s with kop := { s.kop with sbLast := some s.uptime } }
      s.emit (.can (0x500 + s.bootGet 0x1110 2) (s.statusFrame st))
    else s)

end Sys2Proof.Machine
end

