-- ==== Sys2Proof/Machine/Registers.lean ====
section
/-! DEFINITION. The host's register writes: the loop table, the context control pages, the Bulk roots and invalidations, the
sync counters and their owners, MSI-X, ATS invalidation, and any other write of a BAR (R14, R234, R239-R241, R316-R324, R354,
R359, R360, R373, R374, R636). -/

namespace Sys2Proof.Machine

/-! ### Loop table (R373, R374) -/

/-- The fields of an entry's 8-byte word replaced by a value; words 2 and 3 hold reserved and read-only fields. -/
def Loop.setWord (l : Loop) (q v : Nat) : Loop :=
  match q with
  | 0 => { l with
      launch := BitVec.ofNat 2 v, backlog := BitVec.ofNat 4 (bits v 5 2), tickDiv := BitVec.ofNat 16 (bits v 31 16)
      tickPhase := BitVec.ofNat 16 (bits v 47 32), chainCounter := BitVec.ofNat 16 (bits v 63 48) }
  | 1 => { l with chainTarget := BitVec.ofNat 64 v }
  | 2 => { l with chainStep := BitVec.ofNat 32 v }
  | _ => l

/-- The lowest CFG_RESULT of the checks that an entry fails, 0 when it passes them. -/
def Loop.check (l : Loop) : Nat :=
  if l.launch = 3 then 1
  else if l.backlog.toNat < 1 ∨ 8 < l.backlog.toNat then 2
  else if l.tickDiv = 0 ∨ l.tickDiv.toNat ≤ l.tickPhase.toNat then 3
  else 0

/-- A write of a word of a loop table entry. -/
def State.writeLoopWord (s : State) (g q v : Nat) : State :=
  let l := s.loopOf g
  if !s.drained g then s.setLoop g { l with cfgResult := 4 }
  else
    let new := l.setWord q v
    match new.check with
    | 0 => s.setLoop g { new with cfgResult := 0 }
    | k => s.setLoop g { l with cfgResult := BitVec.ofNat 4 k }

/-- LOOP_TABLE_WRITE (R374). -/
def execLoopTableWrite (ring : RingId) (q : Fin 4) (value : BitVec 64) (s : State) : Host.Outcome State Fault Refusal :=
  .next (s.ifHost .pf fun s => s.writeLoopWord ring.val q.val value.toNat)

/-! ### Context control pages (R319, R636) -/

/-- EVQ_BASE: 4 KiB aligned and in the Host window. -/
def State.writeEvqBase (s : State) (c v : Nat) : State :=
  let base := v % 2 ^ 52
  if base % 4096 = 0 ∧ windowOf base = 2 then s.setPage c { s.page c with evqBase := BitVec.ofNat 52 base } else s

/-- EVQ_LOG2, EVQ_VECTOR and EVQ_ENABLE, taken or ignored as a whole; writing EVQ_ENABLE clears EVQ_ERROR (R358). -/
def State.writeEvqControl (s : State) (c v : Nat) : State :=
  let log2 := bits v 3 0
  let vector := bits v 26 16
  if 4 ≤ log2 ∧ log2 ≤ 12 ∧ s.vectorOk c vector then
    s.setPage c { s.page c with
      evqLog2 := BitVec.ofNat 4 log2, evqVector := BitVec.ofNat 11 vector, evqEnable := bit v 31, evqError := false }
  else s

/-- EVQ_HEAD, below the size of the ring. -/
def State.writeEvqHead (s : State) (c v : Nat) : State :=
  let head := v % 4096
  if head < 2 ^ (s.page c).evqLog2.toNat then s.setPage c { s.page c with evqHead := BitVec.ofNat 12 head } else s

/-- PASID, PASID_EN and ATS_EN. -/
def State.writePasid (s : State) (c v : Nat) : State :=
  s.setPage c { s.page c with pasid := BitVec.ofNat 20 v, pasidEn := bit v 20, atsEn := bit v 21 }

/-- A write of a register of a context control page; the last one is read-only from a VF. -/
def State.writePage (s : State) (vf : Bool) (c off v : Nat) : State :=
  match off with
  | 0x008 => s.writeEvqBase c v
  | 0x010 => s.writeEvqControl c v
  | 0x018 => s.writeEvqHead c v
  | 0x100 => if vf then s else s.writePasid c v
  | _ => s

/-- The page of a context through a function: the PF reaches every page, a VF its own. -/
def State.writePageOf (s : State) (f : Func) (c off v : Nat) : State :=
  match f with
  | .pf => s.writePage false c off v
  | .vf own => if own.val = c then s.writePage true c off v else s

/-- CONTEXT_CONTROL_WRITE (R636). -/
def execContextControlWrite (f : Func) (ctx : CtxId) (off : BitVec 12) (value : BitVec 64) (s : State) :
    Host.Outcome State Fault Refusal :=
  .next (s.ifHost f fun s => s.writePageOf f ctx.val off.toNat value.toNat)

/-! ### Bulk roots and invalidation (R234, R239-R241) -/

/-- Cached translations of pages of a context are forgotten, with the L2 pointers that cover them. -/
def State.forgetPages (s : State) (c page n : Nat) : State :=
  let lo := c * 2 ^ 28 + page
  let gone := fun (lo hi : Nat) (t : Tab (List Nat)) =>
    t.map fun kv => (kv.1, kv.2.filter fun k => decide (k < lo) || decide (hi ≤ k))
  let big := 2 ^ 40 + lo / 32
  let bigEnd := 2 ^ 40 + (lo + n + 31) / 32
  { s with bulk := { s.bulk with
      tlb := tclear (tclear s.bulk.tlb lo (lo + n)) big bigEnd
      pageCache := gone big bigEnd (gone lo (lo + n) s.bulk.pageCache)
      ptr := tclear s.bulk.ptr (lo / 32) ((lo + n + 31) / 32)
      ptrCache := gone (lo / 32) ((lo + n + 31) / 32) s.bulk.ptrCache } }

/-- A write of BKI_CTX_ROOT. -/
def State.writeRoot (s : State) (c : Nat) (v : BitVec 64) : State :=
  let root := v &&& 0x7FFFFFF001
  ({ s with bulk := { s.bulk with roots := tset 0 s.bulk.roots c root } }).forgetPages c 0 (2 ^ 28)

/-- BKI_CTX_ROOT_WRITE (R234). -/
def execBkiCtxRootWrite (ctx : CtxId) (value : BitVec 64) (s : State) : Host.Outcome State Fault Refusal :=
  .next (s.ifHost .pf fun s => s.writeRoot ctx.val value)

/-- The pages a request names lie outside the Bulk window, or its CTX is above 0x100. -/
def invalBad (v : Nat) : Bool :=
  let page := bits v 27 0
  let n := bits v 43 28
  decide (256 < bits v 52 44) || (decide (n ≠ 0) && (decide (page < 2 ^ 20) || decide (2 ^ 28 < page + n)))

/-- A write of BKI_INVAL; one that arrives while BUSY is 1 is ignored. -/
def State.writeInval (s : State) (v : Nat) : State :=
  if s.bulk.inval.getLsbD 63 then s
  else
    let fields := v % 2 ^ 54
    let store := fun (s : State) (x : Nat) => { s with bulk := { s.bulk with inval := BitVec.ofNat 64 x } }
    if invalBad v then store s (fields + 2 ^ 62)
    else
      let c := bits v 52 44
      let n := bits v 43 28
      let s := if n = 0 then s.forgetPages c 0 (2 ^ 28) else s.forgetPages c (bits v 27 0) n
      if bit v 53 then store (s.beginConfirm 1 c) (fields + 2 ^ 63) else store s fields

/-- BKI_INVAL (R240). -/
def execBkiInval (value : BitVec 64) (s : State) : Host.Outcome State Fault Refusal :=
  .next (s.ifHost .pf fun s => s.writeInval value.toNat)

/-- BKI_INVAL_QUIESCED: the confirmation has ended, and BUSY clears (R240, R579). -/
def execBkiInvalQuiesced (s : State) : Host.Outcome State Fault Refusal :=
  .next (
    let c := bits s.bulk.inval.toNat 52 44
    if s.bulk.inval.getLsbD 63 && s.epochAcked c then
      let s := s.endConfirm 1 c
      { s with bulk := { s.bulk with inval := s.bulk.inval &&& 0x7FFFFFFFFFFFFFFF } }
    else s)

/-! ### Sync counters (R354) -/

/-- SYNC_COUNTER_WRITE. -/
def execSyncCounterWrite (n : BitVec 16) (value : BitVec 64) (s : State) : Host.Outcome State Fault Refusal :=
  .next (s.ifHost .pf fun s => s.setCounter n.toNat value)

/-- A write of SYNC_OWNER: a context, SYS or nobody. -/
def State.writeOwner (s : State) (n : Nat) (v : BitVec 16) : State :=
  if v.toNat ≤ 0x100 ∨ v = 0xFFFF then { s with owners := tset 0xFFFF s.owners n v } else s

/-- SYNC_OWNER_WRITE. -/
def execSyncOwnerWrite (n value : BitVec 16) (s : State) : Host.Outcome State Fault Refusal :=
  .next (s.ifHost .pf fun s => s.writeOwner n.toNat value)

/-! ### MSI-X (R359, R360) -/

/-- Vectors of a function. -/
def vectorsOf : Func → Nat
  | .pf => 2048
  | .vf _ => 8

def State.vector (s : State) (f : Func) (v : Nat) : Msix := tget {} s.hif.msix (funcNumber f * 2048 + v)

def State.setVector (s : State) (f : Func) (v : Nat) (m : Msix) : State :=
  { s with hif := { s.hif with msix := tset {} s.hif.msix (funcNumber f * 2048 + v) m } }

/-- The mask bit of a vector; unmasking sends the message folded from those that arrived meanwhile. -/
def State.maskVector (s : State) (f : Func) (v : Nat) (masked : Bool) : State :=
  let m := s.vector f v
  if m.pend && !masked then (s.setVector f v { m with masked := false, pend := false }).emit (.msix (funcNumber f) v)
  else s.setVector f v { m with masked := masked }

/-- MSIX_UNMASK (R360). -/
def execMsixUnmask (f : Func) (vector : Fin 2048) (s : State) : Host.Outcome State Fault Refusal :=
  .next (s.ifHost f fun s => if vector.val < vectorsOf f then s.maskVector f vector.val false else s)

/-! ### ATS (R322) -/

/-- Class code of every function: processing accelerator (R313). -/
def classCode : Nat := 0x120000

/-- What the configuration space identifies a function by: Vendor ID, Device ID and class code (R313, R634). -/
def configIdentity (function : Nat) : Nat × Nat × Nat := (Config.vendorId.toNat, deviceId function, classCode)

/-- ATS_INVALIDATION_REQUEST: the translations are removed, and the completion is sent. -/
def execAtsInvalidationRequest (ctx : CtxId) (page : BitVec 52) (pages : Nat) (s : State) : Host.Outcome State Fault Refusal :=
  .next (s.ifHost .pf fun s =>
    let first := ctx.val * 2 ^ 52 + page.toNat
    let last := min (first + pages) ((ctx.val + 1) * 2 ^ 52)
    ({ s with bulk := { s.bulk with ats := tclear s.bulk.ats first last } }).emit (.atsDone ctx.val))

/-! ### Ring table (R324, R325) -/

/-- The fields of words 0-2 of an entry replaced by a value. -/
def Ring.setWord (r : Ring) (q v : Nat) : Ring :=
  match q with
  | 0 => { r with sqBase := BitVec.ofNat 64 v }
  | 1 => { r with cqBase := BitVec.ofNat 64 v }
  | 2 => { r with
      ctx := BitVec.ofNat 9 v, loc := BitVec.ofNat 10 (bits v 25 16), sqLog2 := BitVec.ofNat 5 (bits v 36 32)
      cqLog2 := BitVec.ofNat 5 (bits v 44 40), vector := BitVec.ofNat 11 (bits v 58 48) }
  | _ => { r with maxInflight := BitVec.ofNat 13 v, loop := bit v 17 }

/-- A write of fields other than ENABLE: ignored, with CFG_RESULT 7, unless the ring is disabled and drained. -/
def State.writeRingFields (s : State) (g q v : Nat) : State :=
  let r := s.ring g
  if s.drained g then s.setRing g { r.setWord q v with cfgResult := 0 } else s.setRing g { r with cfgResult := 7 }

/-- A write of the word that holds ENABLE. -/
def State.writeRingControl (s : State) (g v : Nat) : State :=
  let r := s.ring g
  if bit v 16 then s.enableRing g (BitVec.ofNat 13 v) (bit v 17)
  else
    let s := if s.drained g ∨ r.setWord 3 v ≠ r then s.writeRingFields g 3 v else s
    s.disableRing g

/-- A write of a word of a ring table entry. -/
def State.writeRingWord (s : State) (g q v : Nat) : State :=
  if q = 3 then s.writeRingControl g v else s.writeRingFields g q v

/-! ### The register that an offset of a BAR names (R316-R319) -/

/-- A register, or what stands for one in a table. -/
inductive Reg where
  | hifStatus
  | nmMap
  | inval
  | root (c : Nat)
  | mailControl (f : Func)
  | mailRequest (f : Func) (off : Nat)
  | mailResponse (f : Func) (off : Nat)
  | ringWord (g q : Nat)
  | loopWord (g q : Nat)
  | msixAddr (f : Func) (v : Nat)
  | msixData (f : Func) (v : Nat)
  | msixPba (f : Func) (w : Nat)
  | counter (n : Nat)
  | owner (n : Nat)
  | page (f : Func) (c off : Nat)
  | sqTail (g : Nat)
  | cqHead (g : Nat)
  | doorbellStatus (g : Nat)
deriving DecidableEq, Repr

/-- The offset lies in a table of n bytes from a base. -/
def inTable (off base n : Nat) : Bool := decide (base ≤ off ∧ off < base + n)

/-- Bytes of a mailbox's response area (R518). -/
def responseArea : Func → Nat
  | .pf => 0x8000
  | .vf _ => 0x800

/-- The register of a mailbox at an offset of it. -/
def mailReg (f : Func) (o : Nat) : Option Reg :=
  if o = 0 then some (.mailControl f)
  else if inTable o 0x100 (requestArea f) then some (.mailRequest f (o - 0x100))
  else if inTable o (0x100 + requestArea f) (responseArea f) then some (.mailResponse f (o - 0x100 - requestArea f))
  else none

/-- The register of an MSI-X table at an offset of it. -/
def msixReg (f : Func) (o : Nat) : Reg := if o % 16 = 0 then .msixAddr f (o / 16) else .msixData f (o / 16)

/-- The register in the 8 bytes at an 8-byte aligned offset of PF BAR0 (R318). -/
def pfReg (o : Nat) : Option Reg :=
  if o = 0 then some .hifStatus
  else if o = 0x1000 then some .nmMap
  else if o = 0x1008 then some .inval
  else if inTable o 0x2000 (257 * 8) then some (.root ((o - 0x2000) / 8))
  else if inTable o 0x10000 0x10000 then mailReg .pf (o - 0x10000)
  else if inTable o 0x100000 0x80000 then some (.ringWord ((o - 0x100000) / 32) (o / 8 % 4))
  else if inTable o 0x200000 0x8000 then some (msixReg .pf (o - 0x200000))
  else if inTable o 0x208000 0x100 then some (.msixPba .pf ((o - 0x208000) / 8))
  else if inTable o 0x300000 0x80000 then some (.loopWord ((o - 0x300000) / 32) (o / 8 % 4))
  else if inTable o 0x400000 0x80000 then some (.counter ((o - 0x400000) / 8))
  else if inTable o 0x480000 0x20000 then some (.owner ((o - 0x480000) / 2))
  else if inTable o 0x800000 (257 * 0x1000) then some (.page .pf ((o - 0x800000) / 0x1000) (o % 0x1000))
  else none

/-- The register at an 8-byte aligned offset of a VF's BAR0 (R316). -/
def vfReg (c : Fin 256) (o : Nat) : Option Reg :=
  if o < 0x1000 then some (.page (.vf c) c.val o)
  else if inTable o 0x1000 0x1000 then mailReg (.vf c) (o - 0x1000)
  else if inTable o 0x2000 128 then some (msixReg (.vf c) (o - 0x2000))
  else if o = 0x3000 then some (.msixPba (.vf c) 0)
  else none

/-- The register at an offset of BAR2: a doorbell (R316, R326). -/
def State.doorbellReg (s : State) (f : Func) (o : Nat) : Option Reg :=
  match s.doorbellRing f (o / 0x1000), o % 0x1000 with
  | some g, 0 => some (.sqTail g)
  | some g, 8 => some (.cqHead g)
  | some g, 16 => some (.doorbellStatus g)
  | _, _ => none

def State.regAt (s : State) (f : Func) (bar2 : Bool) (o : Nat) : Option Reg :=
  if bar2 then s.doorbellReg f o
  else match f with
    | .pf => pfReg o
    | .vf c => vfReg c o

/-- The 8 bytes with which a 4-byte write of the other half leaves a register's half unchanged: a W1C or W1S bit is 0. -/
def State.regValue (s : State) (x : Reg) : Nat :=
  let mail := fun (f : Func) =>
    let m := s.mail f
    8 * b2n m.irqEn + 2 ^ 16 * m.reqBytes + 2 ^ 56 * m.vector
  match x with
  | .root c => (tget 0 s.bulk.roots c).toNat
  | .mailControl f => mail f
  | .mailRequest f off => field (padTo (s.mail f).request (off + 8)) off 8
  | .ringWord g q =>
    let r := s.ring g
    match q with
    | 0 => r.sqBase.toNat
    | 1 => r.cqBase.toNat
    | 2 => r.ctx.toNat + 2 ^ 16 * r.loc.toNat + 2 ^ 32 * r.sqLog2.toNat + 2 ^ 40 * r.cqLog2.toNat + 2 ^ 48 * r.vector.toNat
    | _ => r.maxInflight.toNat + 2 ^ 16 * b2n r.enable + 2 ^ 17 * b2n r.loop
  | .loopWord g q => field (s.loopOf g).bytes (8 * q) 8
  | .msixAddr f v => (s.vector f v).addr.toNat
  | .msixData f v => (s.vector f v).data.toNat + 2 ^ 32 * b2n (s.vector f v).masked
  | .counter n => (s.counter n).toNat
  | .page _ c off =>
    let p := s.page c
    match off with
    | 0x008 => p.evqBase.toNat
    | 0x010 => p.evqLog2.toNat + 2 ^ 16 * p.evqVector.toNat + 2 ^ 31 * b2n p.evqEnable
    | 0x018 => p.evqHead.toNat
    | 0x100 => p.pasid.toNat + 2 ^ 20 * b2n p.pasidEn + 2 ^ 21 * b2n p.atsEn
    | _ => 0
  | _ => 0

/-- A write of all 8 bytes. -/
def State.writeReg (s : State) (x : Reg) (v : Nat) : State :=
  match x with
  | .nmMap => s.writeNmMap (BitVec.ofNat 16 v) (BitVec.ofNat 9 (bits v 24 16)) (BitVec.ofNat 15 (bits v 39 25)) (bit v 40) (bit v 41)
  | .inval => s.writeInval v
  | .root c => s.writeRoot c (BitVec.ofNat 64 v)
  | .mailControl f => s.writeMail f v
  | .mailRequest f off =>
    let m := s.mail f
    s.setMail f { m with request := patch m.request off (leBytes 8 v) }
  | .ringWord g q => s.writeRingWord g q v
  | .loopWord g q => s.writeLoopWord g q v
  | .msixAddr f n => s.setVector f n { s.vector f n with addr := BitVec.ofNat 64 v }
  | .msixData f n => (s.setVector f n { s.vector f n with data := BitVec.ofNat 32 v }).maskVector f n (bit v 32)
  | .counter n => s.setCounter n (BitVec.ofNat 64 v)
  | .owner n => (List.range 4).foldl (fun s i => s.writeOwner (n + i) (BitVec.ofNat 16 (v / 2 ^ (16 * i)))) s
  | .page f c off => s.writePageOf f c off v
  | .sqTail g => s.writeSqTail g (v % 2 ^ 32)
  | .cqHead g => s.writeCqHead g (v % 2 ^ 32)
  | .hifStatus => s
  | .mailResponse _ _ => s
  | .msixPba _ _ => s
  | .doorbellStatus _ => s

/-- A write of the low (half 0) or high 4 bytes: NM_MAP and BKI_INVAL act only on 8 bytes, a doorbell lies in the low half,
EVQ_ENABLE with the fields beside it too, and any other register takes the half it is given (R317). -/
def State.writeHalf (s : State) (x : Reg) (half v : Nat) : State :=
  match x with
  | .nmMap => s
  | .inval => s
  | .owner n =>
    (List.range 2).foldl (fun s i => s.writeOwner (n + 2 * half + i) (BitVec.ofNat 16 (v / 2 ^ (16 * i)))) s
  | .sqTail g => if half = 0 then s.writeSqTail g v else s
  | .cqHead g => if half = 0 then s.writeCqHead g v else s
  | .ringWord g 3 => if half = 0 then s.writeRingControl g v else s
  | .page f c 0x010 => if half = 0 then s.writePageOf f c 0x010 v else s
  | x =>
    let old := s.regValue x
    s.writeReg x (if half = 0 then v + old / 2 ^ 32 * 2 ^ 32 else old % 2 ^ 32 + v * 2 ^ 32)

/-- A naturally aligned write of 4 or 8 bytes in a BAR; an offset without a register ignores it (R317). -/
def State.writeBar (s : State) (f : Func) (bar2 : Bool) (off : Nat) (eight : Bool) (v : Nat) : State :=
  match s.regAt f bar2 (off / 8 * 8) with
  | none => s
  | some x =>
    if eight then (if off % 8 = 0 then s.writeReg x v else s)
    else if off % 4 = 0 then s.writeHalf x (off / 4 % 2) (v % 2 ^ 32) else s

/-! ### Register reads (R14, R18, R317-R319, R326) -/

/-- HIF_STATUS (R318). -/
def State.hifStatus (s : State) : Nat :=
  s.hif.speed.toNat + 2 ^ 4 * s.hif.width.toNat + 2 ^ 9 * b2n s.hif.flit + 2 ^ 10 * b2n s.hif.ready + 2 ^ 32 * s.cmds.length

/-- MBX_CTRL; GO has been taken (R518). -/
def Mailbox.control (m : Mailbox) : Nat :=
  2 * b2n m.busy + 4 * b2n m.done + 8 * b2n m.irqEn + 2 ^ 16 * m.reqBytes + 2 ^ 32 * m.rspBytes + 2 ^ 56 * m.vector

/-- Pending bits of 64 vectors of a function. -/
def State.pbaWord (s : State) (f : Func) (w : Nat) : Nat :=
  ((List.range 64).map fun i => b2n (s.vector f (64 * w + i)).pend * 2 ^ i).foldl (· + ·) 0

/-- A register of a context control page (R319). -/
def State.pageWord (s : State) (c off : Nat) : Nat :=
  let p := s.page c
  match off with
  | 0x000 =>
    b2n (s.hif.rings.any fun kv => kv.2.enable && decide (kv.2.ctx.toNat = c)) + 2 * b2n (s.fenced c) +
      4 * b2n (s.fenced c) + 8 * b2n p.evqError + 2 ^ 16 * s.ctxInflight c
  | 0x020 => p.evqTail.toNat + 2 ^ 12 * b2n p.evqPhase
  | off => s.regValue (.page .pf c off)

/-- What a read of a register's 8 bytes returns: its current value, zero in reserved and write-only fields. -/
def State.readReg (s : State) (x : Reg) : Nat :=
  match x with
  | .hifStatus => s.hifStatus
  | .nmMap => s.near.nmMap.toNat
  | .inval => s.bulk.inval.toNat
  | .mailControl f => (s.mail f).control
  | .mailResponse f off => field (padTo (s.mail f).response (off + 8)) off 8
  | .ringWord g 3 =>
    s.regValue (.ringWord g 3) + 2 ^ 24 * (s.ring g).cfgResult.toNat + 2 ^ 32 * b2n (s.drained g)
  | .msixPba f w => s.pbaWord f w
  | .owner n => ((List.range 4).map fun i => s.ownerOf (n + i) * 2 ^ (16 * i)).foldl (· + ·) 0
  | .page _ c off => s.pageWord c off
  | .sqTail _ => 0
  | .cqHead _ => 0
  | .doorbellStatus g => s.doorbellStatus g
  | x => s.regValue x

/-- What a function's naturally aligned read of 4 or 8 bytes in a BAR returns: 0 where no register lies. The table has no
row for a read, and a read changes nothing. -/
def State.readBar (s : State) (f : Func) (bar2 : Bool) (off : Nat) (eight : Bool) : Nat :=
  match s.regAt f bar2 (off / 8 * 8) with
  | none => 0
  | some x => if eight then s.readReg x else s.readReg x / 2 ^ (32 * (off / 4 % 2)) % 2 ^ 32

/-! ### Register writes -/

/-- REGISTER_WRITE (R14, R317). -/
def execRegisterWrite (f : Func) (bar2 : Bool) (off : BitVec 26) (eight : Bool) (value : BitVec 64) (s : State) :
    Host.Outcome State Fault Refusal :=
  .next (s.ifHost f fun s => s.writeBar f bar2 off.toNat eight value.toNat)

end Sys2Proof.Machine
end

