-- ==== Sys2Proof/Machine/Dispatch.lean ====
section
/-! DEFINITION. One arm per command: its meaning. -/

namespace Sys2Proof.Machine

-- the effect of a command on everything but the queue
def exec (i : Instr) (s : State) : Host.Outcome State Fault Refusal :=
  match i with
  | .launchStep cmd => Sys2Proof.Machine.execLaunchStep cmd s
  | .copy cmd => Sys2Proof.Machine.execCopy cmd s
  | .loadRoute cmd => Sys2Proof.Machine.execLoadRoute cmd s
  | .loadRouteStage cmd => Sys2Proof.Machine.execLoadRouteStage cmd s
  | .loadRouteEvict cmd => Sys2Proof.Machine.execLoadRouteEvict cmd s
  | .bindModel cmd => Sys2Proof.Machine.execBindModel cmd s
  | .unbindModel cmd => Sys2Proof.Machine.execUnbindModel cmd s
  | .prefixLookup cmd => Sys2Proof.Machine.execPrefixLookup cmd s
  | .prefixInsert cmd => Sys2Proof.Machine.execPrefixInsert cmd s
  | .fence cmd => Sys2Proof.Machine.execFence cmd s
  | .signal cmd => Sys2Proof.Machine.execSignal cmd s
  | .wait cmd => Sys2Proof.Machine.execWait cmd s
  | .resumeStream cmd => Sys2Proof.Machine.execResumeStream cmd s
  | .query cmd => Sys2Proof.Machine.execQuery cmd s
  | .commandFetch ring => Sys2Proof.Machine.execCommandFetch ring s
  | .sqTail f page value => Sys2Proof.Machine.execSqTail f page value s
  | .cqHead f page value => Sys2Proof.Machine.execCqHead f page value s
  | .ringEnable ring maxInflight loop => Sys2Proof.Machine.execRingEnable ring maxInflight loop s
  | .ringDisable ring => Sys2Proof.Machine.execRingDisable ring s
  | .loopTableWrite ring q value => Sys2Proof.Machine.execLoopTableWrite ring q value s
  | .contextControlWrite f ctx off value => Sys2Proof.Machine.execContextControlWrite f ctx off value s
  | .nmMapMap vrn ctx prn w => Sys2Proof.Machine.execNmMapMap vrn ctx prn w s
  | .nmMapUnmap vrn ctx prn w => Sys2Proof.Machine.execNmMapUnmap vrn ctx prn w s
  | .unmapQuiesced => Sys2Proof.Machine.execUnmapQuiesced s
  | .regionClearDone prn => Sys2Proof.Machine.execRegionClearDone prn s
  | .bkiCtxRootWrite ctx value => Sys2Proof.Machine.execBkiCtxRootWrite ctx value s
  | .bkiInval value => Sys2Proof.Machine.execBkiInval value s
  | .bkiInvalQuiesced => Sys2Proof.Machine.execBkiInvalQuiesced s
  | .syncCounterWrite n value => Sys2Proof.Machine.execSyncCounterWrite n value s
  | .syncOwnerWrite n value => Sys2Proof.Machine.execSyncOwnerWrite n value s
  | .mbxGo f value => Sys2Proof.Machine.execMbxGo f value s
  | .msixUnmask f vector => Sys2Proof.Machine.execMsixUnmask f vector s
  | .registerWrite f bar2 off eight value => Sys2Proof.Machine.execRegisterWrite f bar2 off eight value s
  | .atsInvalidationRequest ctx page pages => Sys2Proof.Machine.execAtsInvalidationRequest ctx page pages s
  | .perstN t => Sys2Proof.Machine.execPerstN t s
  | .pfFunctionLevelReset t => Sys2Proof.Machine.execPfFunctionLevelReset t s
  | .vfFunctionLevelReset c t => Sys2Proof.Machine.execVfFunctionLevelReset c t s
  | .hostInterfaceResetEnd t => Sys2Proof.Machine.execHostInterfaceResetEnd t s
  | .deviceReady t speed width flit => Sys2Proof.Machine.execDeviceReady t speed width flit s
  | .pwrGoodRise => Sys2Proof.Machine.execPwrGoodRise s
  | .pwrGoodFall t => Sys2Proof.Machine.execPwrGoodFall t s
  | .devRstNAssert t => Sys2Proof.Machine.execDevRstNAssert t s
  | .devRstNDeassert t samples => Sys2Proof.Machine.execDevRstNDeassert t samples s
  | .resetHold t => Sys2Proof.Machine.execResetHold t s
  | .profileLoad t => Sys2Proof.Machine.execProfileLoad t s
  | .clusterSelfTestEnd t cores clusters => Sys2Proof.Machine.execClusterSelfTestEnd t cores clusters s
  | .pwrBrakeNAssert t => Sys2Proof.Machine.execPwrBrakeNAssert t s
  | .pwrBrakeNRelease t => Sys2Proof.Machine.execPwrBrakeNRelease t s
  | .pwrBrakeLong t => Sys2Proof.Machine.execPwrBrakeLong t s
  | .railOutOfTolerance t rail mv => Sys2Proof.Machine.execRailOutOfTolerance t rail mv s
  | .railMonitorSample t mw inTolerance => Sys2Proof.Machine.execRailMonitorSample t mw inTolerance s
  | .refclkSysLost t => Sys2Proof.Machine.execRefclkSysLost t s
  | .refclkSysRestored t => Sys2Proof.Machine.execRefclkSysRestored t s
  | .refclkLinkLost t => Sys2Proof.Machine.execRefclkLinkLost t s
  | .refclkPcieLost t => Sys2Proof.Machine.execRefclkPcieLost t s
  | .canRxdDominantTimeout t => Sys2Proof.Machine.execCanRxdDominantTimeout t s
  | .cadenceInputEvent t sync => Sys2Proof.Machine.execCadenceInputEvent t sync s
  | .cadencePeriodMissing t => Sys2Proof.Machine.execCadencePeriodMissing t s
  | .holdoverEntry t => Sys2Proof.Machine.execHoldoverEntry t s
  | .cadenceSyncMark t => Sys2Proof.Machine.execCadenceSyncMark t s
  | .cadenceTick t => Sys2Proof.Machine.execCadenceTick t s
  | .epochEnd t => Sys2Proof.Machine.execEpochEnd t s
  | .cduApply r value => Sys2Proof.Machine.execCduApply r value s
  | .stepReady cmd t => Sys2Proof.Machine.execStepReady cmd t s
  | .stepLaunch cmd t => Sys2Proof.Machine.execStepLaunch cmd t s
  | .roundStart cluster => Sys2Proof.Machine.execRoundStart cluster s
  | .channelMessageArrival cluster egress => Sys2Proof.Machine.execChannelMessageArrival cluster egress s
  | .creditReturn cluster egress => Sys2Proof.Machine.execCreditReturn cluster egress s
  | .streamDataArrival core stream bytes => Sys2Proof.Machine.execStreamDataArrival core stream bytes s
  | .streamWriteAck core stream bytes => Sys2Proof.Machine.execStreamWriteAck core stream bytes s
  | .streamTranslationFault core stream => Sys2Proof.Machine.execStreamTranslationFault core stream s
  | .sprSave core stream t => Sys2Proof.Machine.execSprSave core stream t s
  | .streamFaultTimeout core stream t => Sys2Proof.Machine.execStreamFaultTimeout core stream t s
  | .ropeBlockArrival core => Sys2Proof.Machine.execRopeBlockArrival core s
  | .phaseEnd cmd t => Sys2Proof.Machine.execPhaseEnd cmd t s
  | .stepExecutionEnd cmd t => Sys2Proof.Machine.execStepExecutionEnd cmd t s
  | .deadlineExpired cmd t => Sys2Proof.Machine.execDeadlineExpired cmd t s
  | .stepStalled cmd t core awaited => Sys2Proof.Machine.execStepStalled cmd t core awaited s
  | .rappelCutoff footprint t => Sys2Proof.Machine.execRappelCutoff footprint t s
  | .rappelQuiescence footprint t unclear => Sys2Proof.Machine.execRappelQuiescence footprint t unclear s
  | .routeLoadDone cmd t => Sys2Proof.Machine.execRouteLoadDone cmd t s
  | .coreError core t => Sys2Proof.Machine.execCoreError core t s
  | .nearUncorrectable prn line reader t => Sys2Proof.Machine.execNearUncorrectable prn line reader t s
  | .nearScrubLine prn line flips raced t => Sys2Proof.Machine.execNearScrubLine prn line flips raced t s
  | .nearRowRepairDone core row => Sys2Proof.Machine.execNearRowRepairDone core row s
  | .bulkUncorrectable bpa access t => Sys2Proof.Machine.execBulkUncorrectable bpa access t s
  | .bulkScrubLine bpa read raced t => Sys2Proof.Machine.execBulkScrubLine bpa read raced t s
  | .bulkLaneRepair stack channel lane redundantLeft => Sys2Proof.Machine.execBulkLaneRepair stack channel lane redundantLeft s
  | .bulkChannelSpareDone stack t => Sys2Proof.Machine.execBulkChannelSpareDone stack t s
  | .bulkSelfRefreshEntry stack t => Sys2Proof.Machine.execBulkSelfRefreshEntry stack t s
  | .bridgeFlitError edge dir resends cmd t => Sys2Proof.Machine.execBridgeFlitError edge dir resends cmd t s
  | .bindChunk handle check t => Sys2Proof.Machine.execBindChunk handle check t s
  | .bindComplete handle t => Sys2Proof.Machine.execBindComplete handle t s
  | .storePatrolChunk slot check t => Sys2Proof.Machine.execStorePatrolChunk slot check t s
  | .storeChannelIdleOff stack t => Sys2Proof.Machine.execStoreChannelIdleOff stack t s
  | .installModeEnter r => Sys2Proof.Machine.execInstallModeEnter r s
  | .installModeActive => Sys2Proof.Machine.execInstallModeActive s
  | .installModeExit r => Sys2Proof.Machine.execInstallModeExit r s
  | .storeOpen r slot => Sys2Proof.Machine.execStoreOpen r slot s
  | .storeCommit r slot t => Sys2Proof.Machine.execStoreCommit r slot t s
  | .storeErase r slot => Sys2Proof.Machine.execStoreErase r slot s
  | .storeKeyWrite r slot key => Sys2Proof.Machine.execStoreKeyWrite r slot key s
  | .storeKeyRevoke r slot => Sys2Proof.Machine.execStoreKeyRevoke r slot s
  | .contextSwitchDone pool t => Sys2Proof.Machine.execContextSwitchDone pool t s
  | .clusterAssign r cluster value => Sys2Proof.Machine.execClusterAssign r cluster value s
  | .pool r ctx value => Sys2Proof.Machine.execPool r ctx value s
  | .bivouacVa r ctx value => Sys2Proof.Machine.execBivouacVa r ctx value s
  | .share r ctx value => Sys2Proof.Machine.execShare r ctx value s
  | .poolSlack r pool value => Sys2Proof.Machine.execPoolSlack r pool value s
  | .laneSide r ctx entry record => Sys2Proof.Machine.execLaneSide r ctx entry record s
  | .loopLane r ring value => Sys2Proof.Machine.execLoopLane r ring value s
  | .laneSwitch r ctx lane => Sys2Proof.Machine.execLaneSwitch r ctx lane s
  | .laneCancel r ctx lane => Sys2Proof.Machine.execLaneCancel r ctx lane s
  | .laneFlip ctx lane => Sys2Proof.Machine.execLaneFlip ctx lane s
  | .bindingRelease handle => Sys2Proof.Machine.execBindingRelease handle s
  | .cairnFreeing ctx tree t => Sys2Proof.Machine.execCairnFreeing ctx tree t s
  | .truExchanges r ctx entry record => Sys2Proof.Machine.execTruExchanges r ctx entry record s
  | .dispatchCountsComplete exchange => Sys2Proof.Machine.execDispatchCountsComplete exchange s
  | .dispatchComplete exchange => Sys2Proof.Machine.execDispatchComplete exchange s
  | .returnAnnounced exchange => Sys2Proof.Machine.execReturnAnnounced exchange s
  | .returnComplete exchange => Sys2Proof.Machine.execReturnComplete exchange s
  | .frameReceived port check fcu => Sys2Proof.Machine.execFrameReceived port check fcu s
  | .linkInfo port info => Sys2Proof.Machine.execLinkInfo port info s
  | .portSignalDetect port => Sys2Proof.Machine.execPortSignalDetect port s
  | .portTrainDone port => Sys2Proof.Machine.execPortTrainDone port s
  | .portAlignDone port => Sys2Proof.Machine.execPortAlignDone port s
  | .portStateTimeout port => Sys2Proof.Machine.execPortStateTimeout port s
  | .portRetrain port cause => Sys2Proof.Machine.execPortRetrain port cause s
  | .portDown port t => Sys2Proof.Machine.execPortDown port t s
  | .read port h => Sys2Proof.Machine.execRead port h s
  | .flush port h => Sys2Proof.Machine.execFlush port h s
  | .readData port h data => Sys2Proof.Machine.execReadData port h data s
  | .readFault port h => Sys2Proof.Machine.execReadFault port h s
  | .flushDone port h => Sys2Proof.Machine.execFlushDone port h s
  | .write port h data => Sys2Proof.Machine.execWrite port h data s
  | .ready port h t => Sys2Proof.Machine.execReady port h t s
  | .abort port h t => Sys2Proof.Machine.execAbort port h t s
  | .counts port h data t => Sys2Proof.Machine.execCounts port h data t s
  | .announce port h t => Sys2Proof.Machine.execAnnounce port h t s
  | .hold port h t => Sys2Proof.Machine.execHold port h t s
  | .epoch port h => Sys2Proof.Machine.execEpoch port h s
  | .epochAck port h => Sys2Proof.Machine.execEpochAck port h s
  | .border port h => Sys2Proof.Machine.execBorder port h s
  | .groupCommit cmd t => Sys2Proof.Machine.execGroupCommit cmd t s
  | .groupOutcomeUnknown cmd t => Sys2Proof.Machine.execGroupOutcomeUnknown cmd t s
  | .groupEntryExpired ctx group t => Sys2Proof.Machine.execGroupEntryExpired ctx group t s
  | .quiescenceLimit ctx t => Sys2Proof.Machine.execQuiescenceLimit ctx t s
  | .partitionApply r value => Sys2Proof.Machine.execPartitionApply r value s
  | .partitionDrained port => Sys2Proof.Machine.execPartitionDrained port s
  | .borderWaitTimeout port t => Sys2Proof.Machine.execBorderWaitTimeout port t s
  | .laneTestInterval port => Sys2Proof.Machine.execLaneTestInterval port s
  | .laneTestDwellEnd port errors bits t => Sys2Proof.Machine.execLaneTestDwellEnd port errors bits t s
  | .portLaneTest r port value => Sys2Proof.Machine.execPortLaneTest r port value s
  | .portLaneTestEnd test => Sys2Proof.Machine.execPortLaneTestEnd test s
  | .kopRead r index sub type length offset => Sys2Proof.Machine.execKopRead r index sub type length offset s
  | .kopWrite r index sub type offset data => Sys2Proof.Machine.execKopWrite r index sub type offset data s
  | .kopDescribe r index sub => Sys2Proof.Machine.execKopDescribe r index sub s
  | .kopNext r index sub => Sys2Proof.Machine.execKopNext r index sub s
  | .managementDatagram t srcIp srcPort frame pdu => Sys2Proof.Machine.execManagementDatagram t srcIp srcPort frame pdu s
  | .arpRequest senderMac senderIp targetIp => Sys2Proof.Machine.execArpRequest senderMac senderIp targetIp s
  | .icmpEcho srcIp dstIp echo => Sys2Proof.Machine.execIcmpEcho srcIp dstIp echo s
  | .serviceBusSegment t segment => Sys2Proof.Machine.execServiceBusSegment t segment s
  | .serviceBusSegmentTimeout t => Sys2Proof.Machine.execServiceBusSegmentTimeout t s
  | .sbStatusPeriod t => Sys2Proof.Machine.execSbStatusPeriod t s
  | .roleChallenge r drawn => Sys2Proof.Machine.execRoleChallenge r drawn s
  | .roleResponse r response t => Sys2Proof.Machine.execRoleResponse r response t s
  | .roleDrop r => Sys2Proof.Machine.execRoleDrop r s
  | .roleLeaseExpired management t => Sys2Proof.Machine.execRoleLeaseExpired management t s
  | .profileSave r slot => Sys2Proof.Machine.execProfileSave r slot s
  | .profileAutosave t => Sys2Proof.Machine.execProfileAutosave t s
  | .profileImage r slot image => Sys2Proof.Machine.execProfileImage r slot image s
  | .profileErase r slot => Sys2Proof.Machine.execProfileErase r slot s
  | .ctxReset r ctx => Sys2Proof.Machine.execCtxReset r ctx s
  | .contextResetEnd ctx t => Sys2Proof.Machine.execContextResetEnd ctx t s
  | .recoverRequest r => Sys2Proof.Machine.execRecoverRequest r s
  | .recoveryTimeout t => Sys2Proof.Machine.execRecoveryTimeout t s
  | .snapshotRelease r => Sys2Proof.Machine.execSnapshotRelease r s
  | .healthAck r seq => Sys2Proof.Machine.execHealthAck r seq s
  | .healthMask r value => Sys2Proof.Machine.execHealthMask r value s
  | .basecampTakeover t => Sys2Proof.Machine.execBasecampTakeover t s
  | .coreRotatePeriod cluster t => Sys2Proof.Machine.execCoreRotatePeriod cluster t s
  | .coreRotation cluster => Sys2Proof.Machine.execCoreRotation cluster s
  | .rotationTestEnd cluster pass => Sys2Proof.Machine.execRotationTestEnd cluster pass s
  | .testRequestCluster r cluster => Sys2Proof.Machine.execTestRequestCluster r cluster s
  | .testRequestRotate r cluster => Sys2Proof.Machine.execTestRequestRotate r cluster s
  | .clusterTestEnd cluster failed restPassed => Sys2Proof.Machine.execClusterTestEnd cluster failed restPassed s
  | .lifeAccumulate t means => Sys2Proof.Machine.execLifeAccumulate t means s
  | .perturbEnable r value => Sys2Proof.Machine.execPerturbEnable r value s
  | .perturbSlots r slot record => Sys2Proof.Machine.execPerturbSlots r slot record s
  | .clusterPointReq r cluster value => Sys2Proof.Machine.execClusterPointReq r cluster value s
  | .clusterPointTransition cluster => Sys2Proof.Machine.execClusterPointTransition cluster s
  | .clusterIdle cluster t => Sys2Proof.Machine.execClusterIdle cluster t s
  | .powerCapCheck t mw => Sys2Proof.Machine.execPowerCapCheck t mw s
  | .vinCmpLimitCheck t die ma => Sys2Proof.Machine.execVinCmpLimitCheck t die ma s
  | .temperatureDifferenceCheck t => Sys2Proof.Machine.execTemperatureDifferenceCheck t s
  | .thermalSensorRead t sensor reading => Sys2Proof.Machine.execThermalSensorRead t sensor reading s
  | .sensorFailed t sensor => Sys2Proof.Machine.execSensorFailed t sensor s
  | .portRetrainActive port => Sys2Proof.Machine.execPortRetrainActive port s
  | .frameTransmit port => Sys2Proof.Machine.execFrameTransmit port s
  | .waitTimeout cmd t => Sys2Proof.Machine.execWaitTimeout cmd t s
  | .managementLinkDown t => Sys2Proof.Machine.execManagementLinkDown t s
  | .refclkLinkRestored t => Sys2Proof.Machine.execRefclkLinkRestored t s
  | .refclkPcieRestored t => Sys2Proof.Machine.execRefclkPcieRestored t s
  | .canRxdRecessiveResume t => Sys2Proof.Machine.execCanRxdRecessiveResume t s
  | .tckEdge rising tms tdi observed => Sys2Proof.Machine.execTckEdge rising tms tdi observed s
  | .trstNAssert => Sys2Proof.Machine.execTrstNAssert s
  | .profileSaveDone t => Sys2Proof.Machine.execProfileSaveDone t s

end Sys2Proof.Machine
end

