-- ==== Sys2Proof/Safety.lean ====
section
/-! DEFINITION. What the statements rely on: the canonical form of the memories and of the tables that
registers are read from, and the zones of the state that a command can leave alone. -/

namespace Sys2Proof.Machine

/-- Every memory and every register table of the machine is in its canonical form: keys strictly rising, and,
for memories, counters and owners, no entry equal to what an unlisted key reads as. -/
structure Canonical (s : State) : Prop where
  near : memWf s.near.mem = true
  bulk : memWf s.bulk.mem = true
  store : memWf s.store.mem = true
  host : memWf s.host = true
  entries : tsorted none s.dict = true
  ctxEntries : tsorted none s.cdict = true
  counters : twf 0 s.counters = true
  owners : twf 0xFFFF s.owners = true

/-- The zones of the state that frames speak of. near, bulk and store are those units without their memory;
hif is the Host Interface without its rings, loops, MSI-X tables and context control pages. -/
inductive Zone where
  | free | out | uptime | pins | dev | cdu | entries | ctxEntries | host | near | nearMem | bulk | bulkMem
  | store | storeMem | hif | rings | loops | msix | pages | counters | owners | cmds | steps | array | ctxs
  | serve | tru | links | kop | health | power
deriving DecidableEq, Repr

/-- A zone reads the same in two states. -/
def Zone.same (s t : State) : Zone → Prop
  | .free => t.free = s.free
  | .out => t.out = s.out
  | .uptime => t.uptime = s.uptime
  | .pins => t.pins = s.pins
  | .dev => t.dev = s.dev
  | .cdu => t.cdu = s.cdu
  | .entries => t.dict = s.dict
  | .ctxEntries => t.cdict = s.cdict
  | .host => t.host = s.host ∧ t.hostUncommitted = s.hostUncommitted
  | .near => { t.near with mem := [] } = { s.near with mem := [] }
  | .nearMem => t.near.mem = s.near.mem
  | .bulk => { t.bulk with mem := [] } = { s.bulk with mem := [] }
  | .bulkMem => t.bulk.mem = s.bulk.mem
  | .store => { t.store with mem := [] } = { s.store with mem := [] }
  | .storeMem => t.store.mem = s.store.mem
  | .hif => { t.hif with rings := [], loops := [], msix := [], pages := [] } =
      { s.hif with rings := [], loops := [], msix := [], pages := [] }
  | .rings => t.hif.rings = s.hif.rings
  | .loops => t.hif.loops = s.hif.loops
  | .msix => t.hif.msix = s.hif.msix
  | .pages => t.hif.pages = s.hif.pages
  | .counters => t.counters = s.counters
  | .owners => t.owners = s.owners
  | .cmds => t.cmds = s.cmds ∧ t.nextCmd = s.nextCmd
  | .steps => t.steps = s.steps
  | .array => t.array = s.array
  | .ctxs => t.ctxs = s.ctxs
  | .serve => t.serve = s.serve
  | .tru => t.tru = s.tru
  | .links => t.links = s.links
  | .kop => t.kop = s.kop
  | .health => t.health = s.health
  | .power => t.power = s.power

/-- What a change leaves: every zone outside the list reads as before, the queue of waiting commands and the
host's refused pages are untouched, the uptime counter has not run back, and canonical tables stay canonical. -/
structure Frame (g : List Zone) (s t : State) : Prop where
  same : ∀ p, p ∈ g ∨ p.same s t
  queue : t.pending = s.pending
  hostDown : t.hostDown = s.hostDown
  clock : s.uptime ≤ t.uptime
  canonical : Canonical s → Canonical t

/-! ### What the statements say of events, completions and dictionary requests -/

/-- HEALTH_LOG holds a record of a type, code and subject, logged at the current uptime (R599). -/
def Logged (s : State) (type code subject : Nat) : Bool :=
  s.health.log.any fun kv => decide (kv.2.type = type) && decide (kv.2.code = code) && decide (kv.2.subject = subject) &&
    decide (kv.2.uptime = s.uptime)

/-- A requester may write an entry now: its transport works, no profile load runs, the entry can be reached, and its
class and roles allow it (R506-R514, R523, R532). -/
def State.admits (s : State) (r : Requester) (index sub : Nat) : Bool :=
  s.reaches r && !s.loading && (!s.onlyAlwaysOn || alwaysOn index) && s.mayWrite r index sub

/-- A port is Active and a packet of a type and number of data units for this device keeps to the header's rules (R473,
R477). -/
def State.takes (s : State) (port type units : Nat) (h : PacketHeader) : Bool :=
  decide ((s.port port).state = .active) && packetOk (s.port port) type units h

/-- A port has received a packet of a virtual channel with its data units: their credits are due back (R479). -/
def State.took (s : State) (port vc units : Nat) : State :=
  let q := s.port port
  s.setPort port { q with freed := q.freed.set vc (q.freed.getD vc 0 + 1 + units) }

/-- RESULT of the response that a single-request row left (R511, R513). -/
def State.result (s : State) : Nat := byteAt s.kop.response 3

/-- A step's ending is that of a line damaged for good (R252). -/
def isDamage : Ending → Bool
  | .damaged _ => true
  | _ => false

/-- The reader of a damaged line is not told by the line's own report: the scrubber, and a COPY, which meets the poison when it
runs (R221, R252). -/
def readsQuietly : LineReader → Bool
  | .scrub => true
  | .copy _ => true
  | _ => false

/-! ### Which commands may reach the pins, the sync counters and their owners -/

/-- Pin, rail and clock events, the ends of host resets, and the reading that may trip THERM_TRIP_N. -/
def movesPins : Instr → Bool
  | .pwrBrakeNAssert _ => true
  | .pwrBrakeNRelease _ => true
  | .pwrBrakeLong _ => true
  | .thermalSensorRead _ _ _ => true
  | .pwrGoodFall _ => true
  | .devRstNAssert _ => true
  | .devRstNDeassert _ _ => true
  | .railOutOfTolerance _ _ _ => true
  | .railMonitorSample _ _ _ => true
  | .refclkSysLost _ => true
  | .refclkSysRestored _ => true
  | .refclkLinkLost _ => true
  | .refclkLinkRestored _ => true
  | .refclkPcieLost _ => true
  | .refclkPcieRestored _ => true
  | .canRxdDominantTimeout _ => true
  | .canRxdRecessiveResume _ => true
  | .hostInterfaceResetEnd _ => true
  | .perstN _ => true
  | .pwrGoodRise => true
  | _ => false

/-- Commands that may change a sync counter (R354). -/
def writesCounters : Instr → Bool
  | .stepExecutionEnd _ _ => true
  | .write _ _ _ => true
  | .groupCommit _ _ => true
  | .pwrGoodFall _ => true
  | .devRstNAssert _ => true
  | .railOutOfTolerance _ _ _ => true
  | .syncCounterWrite _ _ => true
  | .registerWrite _ _ _ _ _ => true
  | .signal _ => true
  | _ => false

/-- Commands that may change the owner of a sync counter (R354). -/
def writesOwners : Instr → Bool
  | .pwrGoodFall _ => true
  | .devRstNAssert _ => true
  | .railOutOfTolerance _ _ _ => true
  | .syncOwnerWrite _ _ => true
  | .registerWrite _ _ _ _ _ => true
  | _ => false

end Sys2Proof.Machine
end

