-- ==== Sys2Proof/Certificates/Slice0/Obligations.lean ====
section
/-! DEFINITION. The statements for the provers: what each command's meaning leaves, what no command changes, and the
form that every step keeps. -/

section
open Sys2Proof Sys2Proof.Machine

/-- A step takes the command at the front of the queue and runs it with the queue's rest (spec/opcode_table.json, spec/00_scope.md). -/
def Obligations.StepRunsFront : Prop :=
  ∀ (c : Instr) (rest : List Instr) (s : State), s.pending = c :: rest → step s = exec c { s with pending := rest }

/-- With no command waiting the block idles, but for the response of a mailbox that is BUSY (spec/opcode_table.json,
spec/00_scope.md, R519). Chosen by the model: that nothing else happens without a command, and that the response
comes at this step (log entries 3, 15). -/
def Obligations.StepIdles : Prop :=
  (∀ s : State, s.pending = [] → (∀ kv ∈ s.hif.mailbox, kv.2.busy = false) → ∃ u, step s = .next u ∧ u = s) ∧
  (∀ (f : Func) (m : Mailbox) (s : State), s.pending = [] → (s.hif.mailbox.find? fun kv => kv.2.busy) = some
    (funcNumber f, m) → m.irqEn = false → tsorted none s.hif.mailbox = true → ∃ u, step s = .next u ∧ u.mail f =
    { m with response := m.due, rspBytes := m.due.length, done := true, busy := false, due := [] } ∧ (∀ g, funcNumber
    g ≠ funcNumber f → u.mail g = s.mail g) ∧ u.hif = { s.hif with mailbox := u.hif.mailbox } ∧ Frame [.hif] s u)

/-- No command ends a run: exec answers a next state for every command and state (spec/00_scope.md). -/
def Obligations.EveryCommandAnswers : Prop :=
  ∀ (c : Instr) (s : State), ∃ u, exec c s = .next u

/-- No command touches the queue of waiting commands or the host's own record of refused pages (spec/00_scope.md, R321). -/
def Obligations.QueueKept : Prop :=
  ∀ (c : Instr) (s u : State), exec c s = .next u → u.pending = s.pending ∧ u.hostDown = s.hostDown

/-- The uptime counter runs back at no command but the accepted rise of PWR_GOOD (R76, R408). Commands:
PWR_GOOD_RISE. -/
def Obligations.UptimeNeverRunsBack : Prop :=
  (∀ (c : Instr) (s u : State), c ≠ .pwrGoodRise → exec c s = .next u → s.uptime ≤ u.uptime) ∧
  (∀ s : State, s.powered = false → s.pins.railsOut.any railAlwaysOn = false → ∃ u, exec .pwrGoodRise s = .next u ∧
    u.uptime = 0)

/-- The uptime counter starts from zero at the accepted rising edge of PWR_GOOD (R76). Commands: PWR_GOOD_RISE. -/
def Obligations.UptimeStartsFromZero : Prop :=
  ∀ s : State, s.powered = false → s.pins.railsOut.any railAlwaysOn = false → ∃ u, exec .pwrGoodRise s = .next u ∧
    u.uptime = 0 ∧ u.near = s.near ∧ u.bulk = s.bulk ∧ u.store = s.store

/-- Ticks are numbered from 0 at the first tick after power-up, and the tick time stamps the launches (R402).
Commands: CADENCE_TICK, PWR_GOOD_RISE. -/
def Obligations.TickNumbers : Prop :=
  (∀ (t : Nat) (s : State), s.powered = true → s.cdu.tickAt t ≤ t * atto → ∃ u, exec (.cadenceTick t) s = .next u ∧
    u.cdu.ticked = true ∧ u.cdu.tick = (if s.cdu.ticked then s.cdu.tick + 1 else 0) ∧ u.uptime = max s.uptime t ∧
    u.cdu.tickTime = s.cdu.tickAt t / atto ∧ (∀ kv ∈ u.hif.loops, ∀ x ∈ kv.2.pend, x = ⟨u.cdu.tick, u.cdu.tickTime⟩ ∨
    ∃ ov ∈ s.hif.loops, ov.1 = kv.1 ∧ x ∈ ov.2.pend)) ∧
  (∀ s : State, s.powered = false → s.pins.railsOut.any railAlwaysOn = false → ∃ u, exec .pwrGoodRise s = .next u ∧
    u.cdu.ticked = false)

/-- After reset every memory and table is in its canonical form, which a Boolean check decides (spec/00_scope.md). -/
def Obligations.CanonicalAtReset : Prop :=
  Canonical State.reset ∧ State.reset.pending = [] ∧ State.reset.dev.mode = .off ∧
    ∀ a : Nat, memRead State.reset.near.mem a = 0 ∧ memRead State.reset.bulk.mem a = 0

/-- Every step keeps memories and register tables in their canonical form (R82, R229, R257, R354, R538). -/
def Obligations.StepKeepsCanonical : Prop :=
  ∀ s u : State, Canonical s → step s = .next u → Canonical u

/-- Only a signal, a committed step's signal entries, the host's write, a remote write and a reset change sync
counters (R354, R350, R343, R475). Chosen by the model: which rows are one step (log entry 1). -/
def Obligations.CountersWrittenBy : Prop :=
  (∀ (c : Instr) (s u : State), (∀ k ∈ s.links.held, k.kind = .write → k.h.addr.toNat < counterBase) → exec c s =
    .next u → (writesCounters c = false → ∀ n, u.counter n = s.counter n) ∧ (writesOwners c = false → ∀ n, u.ownerOf
    n = s.ownerOf n)) ∧
  (∀ (c : Instr) (s u : State), (∀ k ∈ s.links.held, k.kind = .write → k.h.addr.toNat < counterBase) → exec c s =
    .next u → ∀ k ∈ u.links.held, k.kind = .write → k.h.addr.toNat < counterBase) ∧
  (∀ k ∈ State.reset.links.held, k.kind = .write → k.h.addr.toNat < counterBase)

/-- No command from a ring, a link, the dictionary or the array changes the record of the low-speed pins (R59, R62, R64, R65, R66, R68, R70, R74, R75). -/
def Obligations.PinsDrivenBy : Prop :=
  ∀ (c : Instr) (s u : State), movesPins c = false → exec c s = .next u → u.pins = s.pins

/-- A health event of an unmasked type pulls ALERT_N low, takes the next SEQ and its place in HEALTH_LOG (R71, R599, R601). -/
def Obligations.AlertFollowsEvents : Prop :=
  (∀ (s : State) (type code subject detail : Nat), Canonical s → 1 ≤ type → type ≤ 11 →
    let u := s.event type code subject detail
    let seq := (s.dget 0x3000 2 + 1) % 2 ^ 32
    u.dget 0x3000 2 = seq ∧ tget {} u.health.log ((seq + 2 ^ 32 - 1) % 256) = ⟨seq, type, code, subject, s.uptime,
    detail, s.cdu.tick⟩ ∧ (∀ e, e ≠ (seq + 2 ^ 32 - 1) % 256 → tget {} u.health.log e = tget {} s.health.log e) ∧
    (s.driven = true → bit (s.dget 0x3000 3) type = false → s.dget 0x3000 4 (type - 1) + 1 < 2 ^ 16 → u.alertLow =
    true) ∧ Frame [.free, .out, .entries, .msix, .health] s u) ∧
  (∀ s : State, s.dev.mode = .hold → s.driven = true → s.alertLow = true)

/-- A Near window address leads to PRN x 2^20 + VA[19:0], and the byte read there is the byte last written (R207, R214, R221, R370). -/
def Obligations.NearTranslation : Prop :=
  (∀ (s : State) (c va : Nat) (e : MapEntry) (w : Bool), va < 2 ^ 36 → s.mapEntry c (va / 2 ^ 20) = some e →
    s.prnPool e.prn = none → s.isolated (prnCluster e.prn) = false → (w = true → e.w = true) →
    s.place c va w = .ok (.near (e.prn * 2 ^ 20 + va % 2 ^ 20))) ∧
  (∀ (m : List Host.Cell) (a : Nat) (bs : Bytes) (b : Nat), memWf m = true →
    memRead (memWrites m a bs) b = if a ≤ b ∧ b < a + bs.length then bs.getD (b - a) 0 else memRead m b)

/-- PWR_GOOD, DEV_RST_N and Reset Hold: what each edge leaves and what it loses (R59, R60, R61, R76, R562, R565,
R567, R569, spec/17_belay_reset_and_recovery.md). Chosen by the model: a row whose condition does not hold changes
nothing (log entry 2), what State holds before power (7), the profile slot of samples that disagree (83), D, and
what a cold reset leaves (66, 82), the low-speed pins while a rail is out (92), working state without a stated reset
value (93), the bytes of a save that power-down cuts (64). Commands: PWR_GOOD_RISE, PWR_GOOD_FALL, DEV_RST_N_ASSERT,
RESET_HOLD, DEV_RST_N_DEASSERT. -/
def Obligations.PowerAndReset : Prop :=
  (∀ (s : State), s.powered = false → s.pins.railsOut.any railAlwaysOn = false → ∃ u, exec .pwrGoodRise s = .next u ∧
    u.uptime = 0 ∧ u.cdu = {} ∧ u.dev = { mode := .reset } ∧ u.pins =
    { s.pins with pwrGood := true, devRstN := false, tripLow := false, brakeSince := 0, brakeLogged := false } ∧
    (Canonical s → s.pins.railsOut = [] → ∀ i < 6, u.domain (112 + i) = 2) ∧ (Canonical s → s.pins.railsOut = [] → ∀
    i < 8, u.domain (80 + i) = 1) ∧ (∀ r, s.pins.railsOut = [r] → Logged u 1 1 r = true) ∧ u.hostDown = s.hostDown ∧
    (Canonical s → Canonical u) ∧ Frame [.free, .out, .pins, .dev, .cdu, .entries, .msix, .health, .power]
    { s with uptime := 0 } u) ∧
  (∀ (t : Nat) (s : State), s.powered = true → s.kop.saving = none → ∃ u, exec (.pwrGoodFall t) s = .next u ∧ u.uptime
    = max s.uptime t ∧ u.dev = {} ∧ u.pins =
    { s.pins with pwrGood := false, devRstN := false, perstN := false, tripLow := false, canStopped := false } ∧
    u.cmds = [] ∧ u.steps = [] ∧ u.counters = [] ∧ u.owners = [] ∧ u.near.mem = [] ∧ u.bulk =
    { sparing := s.bulk.sparing, lanesMapped := s.bulk.lanesMapped } ∧ u.hif = {} ∧ u.array = {} ∧ u.ctxs = {} ∧
    u.serve = {} ∧ u.tru = {} ∧ u.links = {} ∧ u.cdu = {} ∧ u.cdict = [] ∧ u.kop =
    { copies := s.kop.copies, factoryBad := s.kop.factoryBad } ∧ u.store.keys = s.store.keys ∧ u.store.slots =
    s.store.slots ∧ u.health =
    { coreState := s.health.coreState, lifeUs := s.health.lifeUs, rotating := s.health.rotating } ∧ u.power = {} ∧
    u.dict = s.dict.filter (fun kv => keptUnpowered (kv.1 / 65536)) ∧ Frame [.free, .uptime, .pins, .dev, .cdu,
    .entries, .ctxEntries, .near, .nearMem, .bulk, .bulkMem, .store, .hif, .rings, .loops, .msix, .pages, .counters,
    .owners, .cmds, .steps, .array, .ctxs, .serve, .tru, .links, .kop, .health, .power] s u) ∧
  (∀ (t : Nat) (s : State), s.powered = true → s.pins.devRstN = true → s.dev.mode ≠ .tripped → ∃ u, exec
    (.devRstNAssert t) s = .next u ∧ u.pins = { s.pins with devRstN := false } ∧ u.dev =
    { mode := .reset, since := max s.uptime t } ∧ u.cmds = [] ∧ u.steps = [] ∧ u.counters = [] ∧ u.owners = [] ∧
    u.near.mem = [] ∧ u.bulk.mem = [] ∧ u.hif.rings = [] ∧ u.array = {} ∧ u.bulk.sparing = s.bulk.sparing ∧ u.ctxs =
    {} ∧ u.serve = {} ∧ u.tru = {} ∧ u.kop.copies = s.kop.copies ∧ u.host = s.host ∧ Frame [.free, .out, .uptime,
    .pins, .dev, .entries, .ctxEntries, .host, .near, .nearMem, .bulk, .bulkMem, .store, .hif, .rings, .loops, .msix,
    .pages, .counters, .owners, .cmds, .steps, .array, .ctxs, .serve, .tru, .links, .kop, .health, .power] s u) ∧
  (∀ (t : Nat) (s : State), s.dev.mode = .reset → s.pins.devRstN = false → s.driven = true → s.dev.since + 30000000000
    ≤ t → ∃ u, exec (.resetHold t) s = .next u ∧ u.dev = { s.dev with mode := .hold, since := max s.uptime t } ∧
    u.alertLow = true ∧ Frame [.uptime, .dev, .entries] s u) ∧
  (∀ (t : Nat) (samples : List (BitVec 2)) (s : State), s.pins.devRstN = false → s.pins.tripLow = false → (s.dev.mode
    = .reset ∨ s.dev.mode = .hold) → s.pins.railsOut = [] → ∃ u, exec (.devRstNDeassert t samples) s = .next u ∧
    u.pins.devRstN = true ∧ u.pins.profileSel = (selected samples).getD 0 ∧ u.dev =
    { mode := .bringUp, since := max s.uptime t, dTime := max (max s.uptime t) 10000000 } ∧ u.health.tap.state =
    .reset ∧ Frame [.free, .out, .uptime, .pins, .dev, .entries, .msix, .kop, .health] s u) ∧
  (∀ (t : Nat) (samples : List (BitVec 2)) (s : State), s.pins.devRstN = false → s.pins.tripLow = false → (s.dev.mode
    = .reset ∨ s.dev.mode = .hold) → s.pins.railsOut ≠ [] → ∃ u, exec (.devRstNDeassert t samples) s = .next u ∧
    u.pins.devRstN = true ∧ u.pins.profileSel = (selected samples).getD 0 ∧ u.dev =
    { mode := .reset, since := max s.uptime t } ∧ u.health.tap.state = .reset ∧ Frame [.free, .out, .uptime, .pins,
    .dev, .entries, .msix, .kop, .health] s u) ∧
  (∀ (s : State), s.powered = false → s.pins.railsOut.any railAlwaysOn = true → exec .pwrGoodRise s = .next s) ∧
  (∀ (t : Nat) (v : Save) (s : State), s.powered = true → s.kop.saving = some v → tsorted none s.kop.copies = true →
    s.copyThere 0 = true → ∃ u, exec (.pwrGoodFall t) s = .next u ∧ u.uptime = max s.uptime t ∧ u.dev = {} ∧ ((s.at
    t).fresh.1.toNat % 2 = 1 → u.profileCopy v.slot 0 = v.image ∧ u.profileCopy v.slot 1 = v.image.take ((s.at
    t).fresh.1.toNat / 2 % (v.image.length + 1)) ++ (s.profileCopy v.slot 1).drop ((s.at t).fresh.1.toNat / 2 %
    (v.image.length + 1))) ∧ ((s.at t).fresh.1.toNat % 2 = 0 → u.profileCopy v.slot 0 = v.image.take ((s.at
    t).fresh.1.toNat / 2 % (v.image.length + 1)) ++ (s.profileCopy v.slot 0).drop ((s.at t).fresh.1.toNat / 2 %
    (v.image.length + 1)) ∧ u.profileCopy v.slot 1 = s.profileCopy v.slot 1) ∧ (∀ n, n ≠ v.slot → ∀ k < 2,
    u.profileCopy n k = s.profileCopy n k) ∧ u.kop = { copies := u.kop.copies, factoryBad := s.kop.factoryBad } ∧
    u.pins =
    { s.pins with pwrGood := false, devRstN := false, perstN := false, tripLow := false, canStopped := false } ∧
    u.cmds = [] ∧ u.steps = [] ∧ u.counters = [] ∧ u.owners = [] ∧ u.near.mem = [] ∧ u.bulk =
    { sparing := s.bulk.sparing, lanesMapped := s.bulk.lanesMapped } ∧ u.hif = {} ∧ u.array = {} ∧ u.ctxs = {} ∧
    u.serve = {} ∧ u.tru = {} ∧ u.links = {} ∧ u.cdu = {} ∧ u.cdict = [] ∧ u.store.keys = s.store.keys ∧
    u.store.slots = s.store.slots ∧ u.health =
    { coreState := s.health.coreState, lifeUs := s.health.lifeUs, rotating := s.health.rotating } ∧ u.power = {} ∧
    Frame [.free, .uptime, .pins, .dev, .cdu, .entries, .ctxEntries, .near, .nearMem, .bulk, .bulkMem, .store, .hif,
    .rings, .loops, .msix, .pages, .counters, .owners, .cmds, .steps, .array, .ctxs, .serve, .tru, .links, .kop,
    .health, .power] s u) ∧
  (∀ (t : Nat) (v : Save) (s : State), s.powered = true → s.kop.saving = some v → tsorted none s.kop.copies = true →
    s.copyThere 0 = false → ∃ u, exec (.pwrGoodFall t) s = .next u ∧ u.uptime = max s.uptime t ∧ u.dev = {} ∧
    u.profileCopy v.slot 0 = s.profileCopy v.slot 0 ∧ u.profileCopy v.slot 1 = v.image.take ((s.at t).fresh.1.toNat /
    2 % (v.image.length + 1)) ++ (s.profileCopy v.slot 1).drop ((s.at t).fresh.1.toNat / 2 % (v.image.length + 1)) ∧
    (∀ n, n ≠ v.slot → ∀ k < 2, u.profileCopy n k = s.profileCopy n k) ∧ u.kop =
    { copies := u.kop.copies, factoryBad := s.kop.factoryBad } ∧ u.pins =
    { s.pins with pwrGood := false, devRstN := false, perstN := false, tripLow := false, canStopped := false } ∧
    u.cmds = [] ∧ u.steps = [] ∧ u.counters = [] ∧ u.owners = [] ∧ u.near.mem = [] ∧ u.bulk =
    { sparing := s.bulk.sparing, lanesMapped := s.bulk.lanesMapped } ∧ u.hif = {} ∧ u.array = {} ∧ u.ctxs = {} ∧
    u.serve = {} ∧ u.tru = {} ∧ u.links = {} ∧ u.cdu = {} ∧ u.cdict = [] ∧ u.store.keys = s.store.keys ∧
    u.store.slots = s.store.slots ∧ u.health =
    { coreState := s.health.coreState, lifeUs := s.health.lifeUs, rotating := s.health.rotating } ∧ u.power = {} ∧
    Frame [.free, .uptime, .pins, .dev, .cdu, .entries, .ctxEntries, .near, .nearMem, .bulk, .bulkMem, .store, .hif,
    .rings, .loops, .msix, .pages, .counters, .owners, .cmds, .steps, .array, .ctxs, .serve, .tru, .links, .kop,
    .health, .power] s u)

/-- Rails, reference clocks and CAN_RXD: the pin record, the event logged and what follows (R62, R63, R66, R74, R75,
R541). Chosen by the model: a row whose condition does not hold changes nothing (log entry 2), the loss of the
always-on rails and the return of the clocks (92), the domains of the ports without REFCLK_LINK (106), bring-up
after a rail fault (82). Commands: RAIL_OUT_OF_TOLERANCE, RAIL_MONITOR_SAMPLE, REFCLK_SYS_LOST, REFCLK_SYS_RESTORED,
REFCLK_LINK_LOST, REFCLK_LINK_RESTORED, REFCLK_PCIE_LOST, REFCLK_PCIE_RESTORED, CAN_RXD_DOMINANT_TIMEOUT,
CAN_RXD_RECESSIVE_RESUME. -/
def Obligations.RailsAndClocks : Prop :=
  (∀ (t : Nat) (rail : Fin 15) (mv : Nat) (s : State), s.powered = true → s.pins.railsOut.contains rail.val = false →
    13 ≤ rail.val → ∃ u, exec (.railOutOfTolerance t rail mv) s = .next u ∧ rail.val ∈ u.pins.railsOut ∧
    u.pins.pwrGood = false ∧ u.powered = false ∧ u.uptime = max s.uptime t ∧ u.dev = {} ∧ u.cmds = [] ∧ u.steps = []
    ∧ u.counters = [] ∧ u.near.mem = [] ∧ u.bulk = { sparing := s.bulk.sparing, lanesMapped := s.bulk.lanesMapped } ∧
    u.hif = {} ∧ u.array = {} ∧ u.links = {} ∧ u.cdu = {} ∧ u.store.keys = s.store.keys ∧ u.store.slots =
    s.store.slots ∧ Frame [.free, .out, .uptime, .pins, .dev, .cdu, .entries, .ctxEntries, .near, .nearMem, .bulk,
    .bulkMem, .store, .hif, .rings, .loops, .msix, .pages, .counters, .owners, .cmds, .steps, .array, .ctxs, .serve,
    .tru, .links, .kop, .health, .power] s u) ∧
  (∀ (t : Nat) (rail : Fin 15) (mv : Nat) (s : State), s.pins.railsOut.contains rail.val = false → rail.val < 13 →
    s.dev.mode = .service → ∃ u, exec (.railOutOfTolerance t rail mv) s = .next u ∧ rail.val ∈ u.pins.railsOut ∧
    u.dev.mode = .recovery ∧ u.dev.cause = .rail ∧ ((u.health.log.any fun e => decide (e.2.type = 1) && decide
    (e.2.code = 1) && decide (e.2.subject = rail.val) && decide (e.2.detail = mv) && decide (e.2.uptime = u.uptime))
    = true) ∧ u.dev.attempt = 1 ∧ u.dev.since = max s.uptime t ∧ u.hif.ready = false ∧ Frame [.free, .out, .uptime,
    .pins, .dev, .entries, .ctxEntries, .host, .near, .nearMem, .bulk, .bulkMem, .store, .hif, .rings, .loops, .msix,
    .pages, .counters, .owners, .cmds, .steps, .array, .ctxs, .serve, .tru, .links, .kop, .health, .power] s u) ∧
  (∀ (t : Nat) (mw : List Nat) (inTolerance : List (Fin 15)) (s : State), s.powered = true → s.power.samples < 99 → ∃
    u, exec (.railMonitorSample t mw inTolerance) s = .next u ∧ u.power.samples = s.power.samples + 1 ∧
    (u.pins.railsOut = s.pins.railsOut.filter fun r => !(inTolerance.any fun i => decide (i.val = r))) ∧ Frame
    [.uptime, .pins, .dev, .entries, .power] s u) ∧
  (∀ (t : Nat) (s : State), s.powered = true → s.pins.refsysLost = false → ∃ u, exec (.refclkSysLost t) s = .next u ∧
    u.pins = { s.pins with refsysLost := true } ∧ u.uptime = max s.uptime t ∧ Logged u 1 2 0 ∧ Frame [.free, .out,
    .uptime, .pins, .entries, .msix, .health] s u) ∧
  (∀ (t : Nat) (s : State), s.powered = true → s.pins.refsysLost = true → ∃ u,
    exec (.refclkSysRestored t) s = .next u ∧ u.pins = { s.pins with refsysLost := false } ∧ Logged u 1 3 0 ∧
    Frame [.free, .out, .uptime, .pins, .entries, .msix, .health] s u) ∧
  (∀ (t : Nat) (s : State), s.powered = true → s.pins.reflinkLost = false → ∃ u, exec (.refclkLinkLost t) s = .next u
    ∧ u.pins = { s.pins with reflinkLost := true } ∧ (∀ p < 16, (u.port p).state = .off) ∧ (∀ p < 16, (s.port
    p).state ≠ .off → Canonical s → u.domain (96 + p) = 0) ∧ Frame [.free, .out, .uptime, .pins, .entries,
    .ctxEntries, .host, .near, .nearMem, .bulk, .bulkMem, .store, .storeMem, .rings, .msix, .pages, .cmds, .steps,
    .array, .ctxs, .serve, .links, .health, .power] s u) ∧
  (∀ (t : Nat) (s : State), s.powered = true → s.pins.reflinkLost = true → ∃ u,
    exec (.refclkLinkRestored t) s = .next u ∧ u.pins = { s.pins with reflinkLost := false } ∧ Frame [.uptime, .pins,
    .entries, .links] s u) ∧
  (∀ (t : Nat) (s : State), s.powered = true → s.pins.refpcieLost = false → ∃ u,
    exec (.refclkPcieLost t) s = .next u ∧ u.pins = { s.pins with refpcieLost := true } ∧
    u.hif = { s.hif with linkUp := false } ∧ u.hostUp = false ∧ Frame [.uptime, .pins, .hif] s u) ∧
  (∀ (t : Nat) (s : State), s.powered = true → s.pins.refpcieLost = true → ∃ u, exec (.refclkPcieRestored t) s = .next
    u ∧ u.pins = { s.pins with refpcieLost := false } ∧ u.hif =
    { s.hif with linkUp := s.dev.hifOut && !s.dev.hostReset && decide (s.hif.width ≠ 0), speed := if s.dev.hifOut && !s.dev.hostReset && decide (s.hif.width ≠ 0) then s.trained s.hif.speed else s.hif.speed }
    ∧ Frame [.uptime, .pins, .hif] s u) ∧
  (∀ (t : Nat) (s : State), s.powered = true → s.pins.canStopped = false → ∃ u,
    exec (.canRxdDominantTimeout t) s = .next u ∧ u.pins = { s.pins with canStopped := true } ∧ Logged u 4 3 0 ∧
    Frame [.free, .out, .uptime, .pins, .entries, .msix, .health] s u) ∧
  (∀ (t : Nat) (s : State), s.powered = true → ∃ u, exec (.canRxdRecessiveResume t) s = .next u ∧
    u.pins = { s.pins with canStopped := false } ∧ Frame [.uptime, .pins] s u) ∧
  (∀ (t : Nat) (mw : List Nat) (inTolerance : List (Fin 15)) (s : State), s.dev.mode = .reset → s.pins.devRstN = true
    → s.power.samples < 99 → s.pins.railsOut ≠ [] → (s.pins.railsOut.all fun r => inTolerance.any fun i => decide
    (i.val = r)) = true → ∃ u, exec (.railMonitorSample t mw inTolerance) s = .next u ∧ u.pins.railsOut = [] ∧ u.dev
    = { mode := .bringUp, since := max s.uptime t, dTime := max (max s.uptime t) 10000000 } ∧ Frame [.uptime, .pins,
    .dev, .entries, .power] s u) ∧
  (∀ (t : Nat) (rail : Fin 15) (mv : Nat) (s : State), s.powered = true → s.pins.railsOut.contains rail.val = false →
    rail.val < 13 → (s.dev.mode = .recovery ∨ s.dev.mode = .hold ∨ s.dev.mode = .tripped ∨ s.dev.mode = .failed) → ∃
    u, exec (.railOutOfTolerance t rail mv) s = .next u ∧ rail.val ∈ u.pins.railsOut ∧ tget 0 u.pins.railMv rail.val
    = mv ∧ ((u.health.log.any fun e => decide (e.2.type = 1) && decide (e.2.code = 1) && decide (e.2.subject =
    rail.val) && decide (e.2.detail = mv) && decide (e.2.uptime = u.uptime)) = true) ∧ u.dev =
    { s.dev with railOut := if s.dev.mode = .recovery then some (s.dev.railOut.getD (max s.uptime t)) else s.dev.railOut }
    ∧ u.uptime = max s.uptime t ∧ Frame [.free, .out, .uptime, .pins, .dev, .entries, .msix, .health] s u) ∧
  (∀ (t : Nat) (rail : Fin 15) (mv : Nat) (s : State), s.powered = true → s.pins.railsOut.contains rail.val = false →
    rail.val < 13 → (s.dev.mode = .bringUp ∨ s.dev.mode = .reset) → ∃ u, exec (.railOutOfTolerance t rail mv) s =
    .next u ∧ rail.val ∈ u.pins.railsOut ∧ tget 0 u.pins.railMv rail.val = mv ∧ ((u.health.log.any fun e => decide
    (e.2.type = 1) && decide (e.2.code = 1) && decide (e.2.subject = rail.val) && decide (e.2.detail = mv) && decide
    (e.2.uptime = u.uptime)) = true) ∧ u.dev.mode = s.dev.mode ∧ (s.dev.mode = .bringUp → u.dev.profileLoaded = false
    ∧ u.dev.selfTested = false) ∧ u.uptime = max s.uptime t ∧ Frame [.free, .out, .uptime, .pins, .dev, .entries,
    .ctxEntries, .host, .near, .nearMem, .bulk, .bulkMem, .store, .hif, .rings, .loops, .msix, .pages, .counters,
    .owners, .cmds, .steps, .array, .ctxs, .serve, .tru, .links, .kop, .health, .power] s u) ∧
  (∀ (t : Nat) (rail : Fin 15) (mv : Nat) (s : State), s.powered = false → s.pins.railsOut.contains rail.val = false →
    ∃ u, exec (.railOutOfTolerance t rail mv) s = .next u ∧ rail.val ∈ u.pins.railsOut ∧ tget 0 u.pins.railMv
    rail.val = mv ∧ Frame [.pins] s u) ∧
  (∀ (t : Nat) (rail : Fin 15) (mv : Nat) (s : State), s.pins.railsOut.contains rail.val = true → ∃ u, exec
    (.railOutOfTolerance t rail mv) s = .next u ∧ u = s ∧ Frame [] s u)

/-- Bring-up: the profile load, the self-test, the Host Interface leaving reset and READY (R593, R595, R623, R626,
R627, R628, R630). Chosen by the model: a row whose condition does not hold changes nothing (log entry 2), D and the
place of the bootstrap map (82), the self-test of Basecamp (81) and of spares (86), the second attempt (85), when
the ports of a recovery go Off (111). Commands: PROFILE_LOAD, CLUSTER_SELF_TEST_END, HOST_INTERFACE_RESET_END,
DEVICE_READY, RECOVERY_TIMEOUT. -/
def Obligations.BringUp : Prop :=
  (∀ (t : Nat) (s : State), s.dev.profileLoaded = false → s.pins.railsOut = [] → s.dev.mode = .bringUp →
    s.dev.dTime ≤ t → ∃ u, exec (.profileLoad t) s = .next u ∧ u.dev = { s.dev with profileLoaded := true } ∧
    u.bulk.mem = bootstrapMap ∧ u.bulk.roots = [(256, 1)] ∧ Frame [.free, .out, .uptime, .dev, .cdu, .entries, .bulk,
    .bulkMem, .msix, .links, .kop, .health, .power] s u) ∧
  (∀ (t : Nat) (cores : List (ClusterId × Fin 17)) (clusters : List ClusterId) (s : State), s.dev.profileLoaded = true
    → s.dev.selfTested = false → s.pins.brakeN = true → s.pins.railsOut = [] → (s.dev.mode = .bringUp ∨ s.dev.mode =
    .recovery) → ∃ u, exec (.clusterSelfTestEnd t cores clusters) s = .next u ∧ u.dev =
    { s.dev with selfTested := true } ∧ Frame [.free, .out, .uptime, .dev, .entries, .ctxEntries, .host, .near,
    .nearMem, .bulk, .bulkMem, .rings, .loops, .msix, .pages, .cmds, .steps, .array, .ctxs, .serve, .links, .health, .power]
    s u) ∧
  (∀ (t : Nat) (s : State), s.dev.hifOut = false → s.dev.mode = .bringUp → s.dev.profileLoaded = true →
    s.dev.dTime + 20000000 ≤ t → ∃ u, exec (.hostInterfaceResetEnd t) s = .next u ∧
    u.pins = { s.pins with perstN := true } ∧ u.dev = { s.dev with hifOut := true } ∧ u.uptime = max s.uptime t ∧
    Frame [.uptime, .pins, .dev] s u) ∧
  (∀ (t : Nat) (speed : BitVec 4) (width : BitVec 5) (flit : Bool) (s : State), s.mayServe t = true → s.dev.mode =
    .bringUp → (s.hif.linkUp = true ∨ linkOk (s.trained speed) width flit = true) → ∃ u, exec (.deviceReady t speed
    width flit) s = .next u ∧ u.dev =
    { s.dev with mode := .service, since := max s.uptime t, hostReset := false, hostWork := [] } ∧ u.hif.ready = true
    ∧ u.hif.linkUp = true ∧ (s.hif.linkUp = false → u.hif.speed = s.trained speed ∧ u.hif.width = width ∧ u.hif.flit
    = flit) ∧ u.serving = true ∧ Frame [.free, .out, .uptime, .dev, .entries, .ctxEntries, .host, .near, .nearMem,
    .bulk, .bulkMem, .hif, .rings, .msix, .pages, .cmds, .steps, .array, .ctxs, .serve, .links, .health, .power] s u) ∧
  (∀ (t : Nat) (s : State), s.dev.mode = .recovery → s.recoveryEnds t ≤ t → s.dev.attempt < 2 → s.dev.drained = false
    → ∃ u, exec (.recoveryTimeout t) s = .next u ∧ u.dev =
    { s.dev with since := max s.uptime t, attempt := 2, railWait := 0, railOut := if s.pins.railsOut.isEmpty then none else some (max s.uptime t) }
    ∧ Frame [.uptime, .dev, .entries, .links] s u) ∧
  (∀ (t : Nat) (s : State), s.dev.mode = .recovery → s.recoveryEnds t ≤ t → 2 ≤ s.dev.attempt → s.driven = true → ∃ u,
    exec (.recoveryTimeout t) s = .next u ∧ u.dev = { s.dev with mode := .failed } ∧ u.alertLow = true ∧ Frame
    [.uptime, .dev] s u) ∧
  (∀ (t : Nat) (speed : BitVec 4) (width : BitVec 5) (flit : Bool) (s : State), (s.mayServe t = false ∨ (s.hif.linkUp
    = false ∧ linkOk (s.trained speed) width flit = false)) → ∃ u, exec (.deviceReady t speed width flit) s = .next u
    ∧ u = s ∧ Frame [] s u) ∧
  (∀ (t : Nat) (s : State), (s.dev.mode ≠ .recovery ∨ t < s.recoveryEnds t) → ∃ u, exec (.recoveryTimeout t) s = .next
    u ∧ u = s ∧ Frame [] s u)

/-- Host resets, VF Function Level Reset and the end of a context reset (R68, R323, R570, R571, R572, R573, R574,
R596, R597). Chosen by the model: a row whose condition does not hold changes nothing (log entry 2), VF Enable after
a host reset (10, 11), NM_MAP behind a host reset (106), the end of a context reset during a switch (26). Commands:
PERST_N, PF_FUNCTION_LEVEL_RESET, VF_FUNCTION_LEVEL_RESET, CONTEXT_RESET_END. -/
def Obligations.HostAndContextResets : Prop :=
  (∀ (t : Nat) (s : State), s.powered = true → ∃ u, exec (.perstN t) s = .next u ∧ u.pins =
    { s.pins with perstN := false } ∧ u.dev =
    { s.dev with hostReset := true, hostSince := max s.uptime t, hifOut := false, hostWork := if s.steps.any (·.launched) || s.stillFor .hostReset then (s.dev.hostWork ++ s.working).dedup else [] }
    ∧ u.hif.rings = [] ∧ u.hif.pages = [] ∧ u.hif.ready = false ∧ u.hif.linkUp = false ∧ u.near.nmMap = 0 ∧
    u.bulk.inval = 0 ∧ (Canonical s → s.dev.hifOut = true → s.dget 0x3030 7 + 1 < 2 ^ 32 → u.dget 0x3030 7 = s.dget
    0x3030 7 + 1) ∧ u.kop.rolePf.grantUntil = none ∧ u.array.loads = [] ∧ u.ctxs.copies = [] ∧ (u.cmds =
    s.cmds.filter fun c => s.steps.any fun p => decide (p.cmd = c.id) && p.launched) ∧ Frame [.free, .out, .uptime,
    .pins, .dev, .entries, .ctxEntries, .near, .bulk, .hif, .rings, .loops, .msix, .pages, .cmds, .steps, .array,
    .ctxs, .serve, .links, .kop, .health] s u) ∧
  (∀ (t : Nat) (s : State), s.powered = true → s.hif.linkUp = true → ∃ u, exec (.pfFunctionLevelReset t) s = .next u ∧
    u.dev =
    { s.dev with hostReset := true, hostSince := max s.uptime t, hifOut := false, hostWork := if s.steps.any (·.launched) || s.stillFor .hostReset then (s.dev.hostWork ++ s.working).dedup else [] }
    ∧ u.hif.rings = [] ∧ u.hif.pages = [] ∧ u.hif.ready = false ∧ u.hif.linkUp = false ∧ u.near.nmMap = 0 ∧
    u.bulk.inval = 0 ∧ (Canonical s → s.dev.hifOut = true → s.dget 0x3030 7 + 1 < 2 ^ 32 → u.dget 0x3030 7 = s.dget
    0x3030 7 + 1) ∧ u.kop.rolePf.grantUntil = none ∧ u.array.loads = [] ∧ u.ctxs.copies = [] ∧ (u.cmds =
    s.cmds.filter fun c => s.steps.any fun p => decide (p.cmd = c.id) && p.launched) ∧ Frame [.free, .out, .uptime,
    .dev, .entries, .ctxEntries, .near, .bulk, .hif, .rings, .loops, .msix, .pages, .cmds, .steps, .array, .ctxs,
    .serve, .links, .kop, .health] s u) ∧
  (∀ (c : Fin 256) (t : Nat) (s : State), Canonical s → s.hif.linkUp = true → s.vfOn c.val = true → s.fenced c.val =
    false → ∃ u, exec (.vfFunctionLevelReset c t) s = .next u ∧ u.fenced c.val = true ∧ u.cget c.val 4 3 = 2 ∧ (∀ v <
    2048, tfind u.hif.msix ((c.val + 1) * 2048 + v) = none) ∧ Frame [.free, .out, .uptime, .entries, .ctxEntries,
    .host, .near, .nearMem, .bulk, .bulkMem, .hif, .rings, .loops, .msix, .pages, .cmds, .steps, .array, .ctxs,
    .serve, .links, .health, .power] s u) ∧
  (∀ (ctx : Fin 256) (t : Nat) (r : ResetRun) (s : State), tfind s.ctxs.resets ctx.val = some r → r.phase = 3 →
    s.epochAcked ctx.val = true → s.switchingWith ctx.val = false → s.dev.mode ≠ .recovery → s.dev.mode ≠ .failed →
    tsorted none s.ctxs.resets = true → ∃ u, exec (.contextResetEnd ctx t) s = .next u ∧ u.fenced ctx.val = false ∧
    u.uptime = max s.uptime t ∧ Frame [.free, .out, .uptime, .entries, .ctxEntries, .host, .near, .nearMem, .bulk,
    .bulkMem, .rings, .msix, .pages, .cmds, .steps, .array, .ctxs, .serve, .links, .health, .power] s u) ∧
  (∀ (ctx : Fin 256) (t : Nat) (s : State), (s.dev.mode = .recovery ∨ s.dev.mode = .failed) → ∃ u, exec
    (.contextResetEnd ctx t) s = .next u ∧ u = s ∧ Frame [] s u)

/-- The Cadence Unit: input events, missing periods, Holdover, frame marks, ticks and accounting epochs (R381, R394,
R396, R397, R398, R399, R401, R402, R404). Chosen by the model: a row whose condition does not hold changes nothing
(log entry 2), the rounding of the PLL, the reach of 0.1 % and the phase of the first tick (90), when RANGE and
NO_INPUT clear (91). Commands: CADENCE_INPUT_EVENT, CADENCE_PERIOD_MISSING, HOLDOVER_ENTRY, CADENCE_SYNC_MARK,
CADENCE_TICK, EPOCH_END. -/
def Obligations.Cadence : Prop :=
  (∀ (t : Nat) (sync : Bool) (s : State), s.powered = true → s.cdu.mode ≠ 2 → s.cdu.tracking = true → s.perturbing =
    false → s.cdu.inWindow t = true → ∃ u, exec (.cadenceInputEvent t sync) s = .next u ∧ u.cdu = s.cdu.accept t 0
    sync ∧ u.uptime = max s.uptime t ∧ Frame [.uptime, .cdu] s u) ∧
  (∀ (t : Nat) (sync : Bool) (s : State), Canonical s → s.powered = true → s.cdu.mode ≠ 2 → s.cdu.tracking = true →
    s.cdu.inWindow t = false → s.dget 0x30A0 8 + 1 < 2 ^ 32 → ∃ u, exec (.cadenceInputEvent t sync) s = .next u ∧
    u.dget 0x30A0 8 = s.dget 0x30A0 8 + 1 ∧ Frame [.uptime, .entries] s u) ∧
  (∀ (t : Nat) (sync : Bool) (s : State), s.powered = true → s.cdu.mode ≠ 2 → s.cdu.tracking = false →
    s.cdu.edges = [] → ∃ u, exec (.cadenceInputEvent t sync) s = .next u ∧
    u.cdu = { s.cdu with edges := [t], lastSync := sync } ∧ Frame [.uptime, .cdu] s u) ∧
  (∀ (t : Nat) (s : State), Canonical s → s.powered = true → s.cdu.tracking = true → s.cdu.mode ≠ 2 →
    s.cdu.windowClosed t = true → s.dget 0x30A0 7 + 1 < 2 ^ 32 → ∃ u, exec (.cadencePeriodMissing t) s = .next u ∧
    u.cdu = { s.cdu.sampled t with missing := s.cdu.missing + 1, predicted := s.cdu.predicted + s.cdu.period } ∧
    u.dget 0x30A0 7 = s.dget 0x30A0 7 + 1 ∧ Frame [.uptime, .cdu, .entries] s u) ∧
  (∀ (t : Nat) (s : State), s.powered = true → s.cdu.tracking = true → (4 ≤ s.cdu.missing ∨ s.cdu.outOfRange = true) →
    ∃ u, exec (.holdoverEntry t) s = .next u ∧ u.cdu.state = 3 ∧ u.cdu.holdover = true ∧ u.cdu.freePeriod =
    s.cdu.holdoverPeriod t ∧ u.cdu.range = (s.cdu.range || s.cdu.outOfRange) ∧ u.cdu.noInput = (s.cdu.noInput ||
    decide (4 ≤ s.cdu.missing) || (s.cdu.outOfRange && decide (0 < s.cdu.missing))) ∧ u.cdu.edges = [] ∧ u.cdu.offset
    = 0 ∧ u.cdu.heldSince = max s.uptime t ∧ Logged u 5 1 0 ∧ Frame [.free, .out, .uptime, .cdu, .entries, .msix,
    .health] s u) ∧
  (∀ (t : Nat) (s : State), s.powered = true → s.cdu.mode = 1 → s.cdu.state = 2 → s.cdu.markDue = some 0 → ∃ u,
    exec (.cadenceSyncMark t) s = .next u ∧
    u.cdu = { s.cdu with markDue := none, syncMismatch := false, lastMark := none, firstMark := false } ∧
    Frame [.uptime, .cdu] s u) ∧
  (∀ (t : Nat) (off : Nat) (s : State), s.powered = true → s.cdu.mode = 1 → s.cdu.state = 2 → s.cdu.markDue = some off
    → off ≠ 0 → (s.cdu.firstMark = true ∨ s.cdu.lastMark = some off) → ∃ u, exec (.cadenceSyncMark t) s = .next u ∧
    u.cdu =
    { s.cdu with markDue := none, syncMismatch := false, lastMark := none, firstMark := false, lengthen := (s.cdu.lengthen + off) % s.cdu.spt }
    ∧ Frame [.free, .uptime, .cdu, .entries] s u) ∧
  (∀ (t : Nat) (s : State), s.powered = true → s.cdu.tickAt t ≤ t * atto → ∃ u, exec (.cadenceTick t) s = .next u ∧
    u.cdu.tick = (if s.cdu.ticked then s.cdu.tick + 1 else 0) ∧ u.cdu.tickTime = s.cdu.tickAt t / atto ∧ u.cdu.ticked
    = true ∧ ((s.cdu.applyDue = true → u.cdu.applyDue = false ∧ u.cdu.state = if s.cdu.mode = 2 then 4 else 0)) ∧ (∀
    kv ∈ s.hif.loops, s.serving = true → (s.ring kv.1).enable = true → (s.ring kv.1).loop = true → s.fenced (s.ring
    kv.1).ctx.toNat = false → (kv.1, loopTick kv.2 u.cdu.tick u.cdu.tickTime) ∈ u.hif.loops) ∧ Frame [.free, .out,
    .uptime, .cdu, .entries, .loops, .msix, .health] s u) ∧
  (∀ (t : Nat) (s : State), Canonical s → s.serving = true → s.cdu.ticked = true → s.cdu.tick % s.dget 0x2300 2 = 0 →
    s.cdu.epochTick ≠ some s.cdu.tick → tsorted none s.ctxs.accounts = true → ∃ u, exec (.epochEnd t) s = .next u ∧
    u.cdu = { s.cdu with epochTick := some s.cdu.tick } ∧ (∀ c < 256, (u.account c).usage = 0 ∧
    (u.account c).poolUsage = 0 ∧ (u.account c).sumB = 0 ∧ (u.account c).total = (s.account c).total) ∧ (∀ c < 256,
    (s.account c).usage / 1000 < 2 ^ 64 → u.cget c 2 3 = (s.account c).usage / 1000) ∧ Frame [.free, .uptime, .cdu,
    .ctxEntries, .ctxs] s u) ∧
  (∀ (t : Nat) (c : Cdu) (s : State), s.powered = true → s.cdu.tickAt t ≤ t * atto → s.cdu.counted (s.cdu.tickAt t) =
    c → s.cdu.applyDue = false → (s.cdu.state = 2 ∨ s.cdu.state = 4) → ∃ u, exec (.cadenceTick t) s = .next u ∧ u.cdu
    = c.nextDue (s.cdu.tickAt t) 0 ∧ Frame [.uptime, .cdu, .loops] s u) ∧
  (∀ (t : Nat) (c : Cdu) (s : State), s.powered = true → s.cdu.tickAt t ≤ t * atto → s.cdu.counted (s.cdu.tickAt t) =
    c → s.cdu.applyDue = false → s.cdu.state = 1 → 100 * atto < (c.pullOffset (s.cdu.tickAt t)).natAbs → ∃ u, exec
    (.cadenceTick t) s = .next u ∧ u.cdu = { c with offset := c.pullOffset (s.cdu.tickAt t) }.nextDue (s.cdu.tickAt
    t) (c.slew (c.pullOffset (s.cdu.tickAt t))) ∧ Frame [.uptime, .cdu, .loops] s u) ∧
  (∀ (t : Nat) (c : Cdu) (s : State), s.powered = true → s.cdu.tickAt t ≤ t * atto → s.cdu.counted (s.cdu.tickAt t) =
    c → s.cdu.applyDue = false → s.cdu.state = 1 → (c.pullOffset (s.cdu.tickAt t)).natAbs ≤ 100 * atto → ∃ u, exec
    (.cadenceTick t) s = .next u ∧ u.cdu.state = 2 ∧ u.cdu.holdover = false ∧ u.cdu.noInput = false ∧ u.cdu.range =
    false ∧ u.cdu.firstMark = true ∧ u.cdu.due = ((s.cdu.tickAt t : Int) + u.cdu.tickPeriod + c.pullOffset
    (s.cdu.tickAt t)).toNat ∧ Logged u 5 2 0 ∧ Frame [.free, .out, .uptime, .cdu, .entries, .loops, .msix, .health] s
    u) ∧
  (∀ (t : Nat) (s : State), (s.powered = false ∨ t * atto < s.cdu.tickAt t) → ∃ u, exec (.cadenceTick t) s = .next u ∧
    u = s ∧ Frame [] s u)

/-- A command's completion: 16 bytes at CQ_TAIL, the tail advanced, the command no longer in flight (R329, R331,
R337, R349, R360). Chosen by the model: a completion leaves in the row that ends its command (log entry 1).
Commands: UNBIND_MODEL. -/
def Obligations.CompletionEntry : Prop :=
  (∀ (s : State) (c : Cmd) (status value flags replays : Nat),
    let r := s.ring c.ring
    let a := r.cqBase.toNat + r.cqTail * 16
    let k := Config.hostSpace (s.hostTag c.ctx) * 2 ^ 44 + (a - 2 ^ 44)
    Canonical s → s.dev.hostReset = false → s.hif.linkUp = true → tsorted none s.hif.rings = true → 2 ^ 44 ≤ a → a + 16
    ≤ 2 ^ 45 → (∀ i < 16, tget 0 s.hostDown (s.hostTag c.ctx * 2 ^ 32 + (a + i - 2 ^ 44) / 4096) = 0) →
    let u := s.finish c status value flags replays
    let bs := completionBytes c.tag status (b2n r.cqPhase + flags) replays (s.cmdDropped c) c.op value
    (∀ b, memRead u.host b = if k ≤ b ∧ b < k + 16 then bs.getD (b - k) 0 else memRead s.host b) ∧ (u.ring
    c.ring).cqTail = (r.cqTail + 1) % 2 ^ r.cqLog2.toNat ∧ (u.ring c.ring).cqPhase = (if (r.cqTail + 1) % 2 ^
    r.cqLog2.toNat = 0 then !r.cqPhase else r.cqPhase) ∧ u.cmd c.id = none ∧ u.near.mem = s.near.mem ∧ u.bulk.mem =
    s.bulk.mem ∧ Frame [.free, .out, .entries, .ctxEntries, .host, .near, .nearMem, .bulk, .bulkMem, .rings, .msix,
    .pages, .cmds, .health] s u) ∧
  (∀ (cmd : Nat) (s : State) (c : Cmd), s.starting cmd 5 = some c → s.binding (c.at 8 2) = none →
    s.cmds.all (fun d => !decide (d.op = 8)) = true → exec (.unbindModel cmd) s = .next (s.finish c 0x1C 0))

/-- FENCE, SIGNAL, WAIT and a WAIT's timeout: what each leaves in the counters and in flight (R333, R334, R340,
R349, R350, R351, R354, R403). Chosen by the model: the order of checks (log entry 14), when an owner is checked
(28). Commands: FENCE, SIGNAL, WAIT, WAIT_TIMEOUT. -/
def Obligations.SyncCommands : Prop :=
  (∀ (cmd : Nat) (c : Cmd) (s : State), s.starting cmd 8 = some c → s.fenceHeld c = false → ∃ u,
    exec (.fence cmd) s = .next u ∧ u.cmd cmd = none ∧ u.counters = s.counters ∧ Frame [.free, .out, .entries,
    .ctxEntries, .host, .near, .nearMem, .bulk, .bulkMem, .rings, .msix, .pages, .cmds, .health, .power] s u) ∧
  (∀ (cmd : Nat) (c : Cmd) (s : State), s.starting cmd 8 = some c → s.fenceHeld c = true →
    (s.cmds.all (fun d => !(decide (d.op = 8) && decide (d.stage = .running))) = true) → ∃ u,
    exec (.fence cmd) s = .next u ∧ u = s.stage c .running ∧ (u.cmd cmd).map (·.stage) = some .running ∧
    Frame [.cmds] s u) ∧
  (∀ (cmd : Nat) (c : Cmd) (s : State), Canonical s → s.starting cmd 9 = some c → s.mayUse c.ctx (c.at 8 2) = true →
    ∃ u, exec (.signal cmd) s = .next u ∧
    u.counter (c.at 8 2) = (if c.at 10 1 = 1 then BitVec.ofNat 64 (c.at 16 8) else s.counter (c.at 8 2) + BitVec.ofNat 64 (c.at 16 8)) ∧
    u.cmd cmd = none ∧ (∀ m, m ≠ c.at 8 2 → u.counter m = s.counter m) ∧ Frame [.free, .out, .entries, .ctxEntries,
    .host, .near, .nearMem, .bulk, .bulkMem, .rings, .msix, .pages, .counters, .cmds, .health, .power] s u) ∧
  (∀ (cmd : Nat) (c : Cmd) (s : State), s.starting cmd 9 = some c → s.mayUse c.ctx (c.at 8 2) = false → ∃ u,
    exec (.signal cmd) s = .next u ∧ u = s.complete c stPermission 8 ∧ u.counters = s.counters ∧ u.cmd cmd = none ∧
    Frame [.free, .out, .entries, .ctxEntries, .host, .near, .nearMem, .bulk, .bulkMem, .rings, .msix, .pages, .cmds,
    .health, .power] s u) ∧
  (∀ (cmd : Nat) (c : Cmd) (s : State), s.starting cmd 10 = some c → s.mayUse c.ctx (c.at 8 2) = true →
    waitHolds c (s.counter (c.at 8 2)) = true → ∃ u, exec (.wait cmd) s = .next u ∧
    u = s.complete c 0 (s.counter (c.at 8 2)).toNat ∧ u.cmd cmd = none ∧ Frame [.free, .out, .entries, .ctxEntries,
    .host, .near, .nearMem, .bulk, .bulkMem, .rings, .msix, .pages, .cmds, .health, .power] s u) ∧
  (∀ (cmd : Nat) (c : Cmd) (s : State), s.starting cmd 10 = some c → s.mayUse c.ctx (c.at 8 2) = true →
    waitHolds c (s.counter (c.at 8 2)) = false → ∃ u, exec (.wait cmd) s = .next u ∧
    u = s.setCmd { c with stage := .running, startPhase := s.phase } ∧ (u.cmd cmd).map (·.stage) = some .running ∧
    Frame [.cmds] s u) ∧
  (∀ (cmd t : Nat) (c : Cmd) (s : State), s.cmd cmd = some c → c.op = 10 → c.stage = .running → c.at 12 4 ≠ 0 →
    c.startPhase + ctField (c.at 12 4) ≤ s.cdu.phase (max s.uptime t) → ∃ u, exec (.waitTimeout cmd t) s = .next u ∧
    u = (s.at t).complete c 0x1B (s.counter (c.at 8 2)).toNat ∧ u.cmd cmd = none ∧ Frame [.free, .out, .uptime,
    .entries, .ctxEntries, .host, .near, .nearMem, .bulk, .bulkMem, .rings, .msix, .pages, .cmds, .health, .power] s u)

/-- UNBIND_MODEL, the release of a handle, a lane's flip, RESUME_STREAM and QUERY (R293, R294, R347, R352, R353,
R411, R413, R422, R423). Chosen by the model: the failures of QUERY (log entry 22). Commands: UNBIND_MODEL,
BINDING_RELEASE, LANE_FLIP, RESUME_STREAM, QUERY. -/
def Obligations.BindingsAndQueries : Prop :=
  (∀ (cmd : Nat) (c : Cmd) (b : Binding) (s : State), s.starting cmd 5 = some c → s.binding (c.at 8 2) = some b →
    b.owner = c.ctx → b.state ≠ .binding → ∃ u, exec (.unbindModel cmd) s = .next u ∧ s.binding (c.at 8 2) = some b ∧
    u.binding (c.at 8 2) = some { b with state := .unbinding } ∧ (u.cmd cmd).map (·.stage) = some .running ∧
    Frame [.cmds, .serve] s u) ∧
  (∀ (handle : Fin 4096) (s : State), s.releasable handle.val = true → tsorted none s.serve.bindings = true → ∃ u,
    exec (.bindingRelease handle) s = .next u ∧ u.binding handle.val = none ∧
    (s.unbinds handle.val = [] ∨ u.cmds.length < s.cmds.length) ∧ Frame [.free, .out, .entries, .ctxEntries, .host,
    .near, .nearMem, .bulk, .bulkMem, .rings, .msix, .pages, .cmds, .serve, .health, .power] s u) ∧
  (∀ (ctx : Fin 256) (lane : Fin 8) (s : State), s.settleLanes.canFlip ctx.val lane.val = true →
    tsorted none s.serve.lanes = true → ∃ u, exec (.laneFlip ctx lane) s = .next u ∧
    (u.lane ctx.val lane.val).active = 1 - (s.lane ctx.val lane.val).active ∧
    (u.lane ctx.val lane.val).switching = false ∧
    (u.lane ctx.val lane.val).gen = ((s.lane ctx.val lane.val).gen + 1) % 2 ^ 32 ∧ Frame [.free, .ctxEntries,
    .serve] s u) ∧
  (∀ (cmd : Nat) (c : Cmd) (r : Spr) (s : State), s.starting cmd 11 = some c →
    (tget {} s.array.streams (c.at 10 2 * 32 + c.at 12 1)).fault = some r → r.ctx = c.at 8 2 → r.seq = c.at 16 4 →
    (tget {} s.array.streams (c.at 10 2 * 32 + c.at 12 1)).spr.isSome = true → ∃ u,
    exec (.resumeStream cmd) s = .next u ∧
    u = (s.resume (c.at 10 2 * 32 + c.at 12 1) (tget {} s.array.streams (c.at 10 2 * 32 + c.at 12 1))).complete c 0 1 ∧
    u.cmd cmd = none ∧ Frame [.free, .out, .entries, .ctxEntries, .host, .near, .nearMem, .bulk, .bulkMem, .rings,
    .msix, .pages, .cmds, .array, .links, .health, .power] s u) ∧
  (∀ (cmd : Nat) (c : Cmd) (r : Spr) (s : State), s.starting cmd 11 = some c →
    (tget {} s.array.streams (c.at 10 2 * 32 + c.at 12 1)).fault = some r → r.ctx = c.at 8 2 → r.seq = c.at 16 4 →
    (tget {} s.array.streams (c.at 10 2 * 32 + c.at 12 1)).spr = none → ∃ u, exec (.resumeStream cmd) s = .next u ∧
    (u.cmd cmd).map (·.stage) = some .running ∧ cmd ∈ (tget {} u.array.streams (c.at 10 2 * 32 + c.at 12 1)).held ∧
    Frame [.cmds, .array] s u) ∧
  (∀ (cmd : Nat) (c : Cmd) (v : State) (s : State), s.starting cmd 12 = some c → c.at 8 1 = 3 →
    s.mayUse c.ctx (c.at 12 4) = true →
    s.writes c.ctx none (c.at 16 8) ((leBytes 8 (s.counter (c.at 12 4)).toNat).take (c.at 24 4)) = (v, none) → ∃ u,
    exec (.query cmd) s = .next u ∧ u = v.complete c 0 (min (c.at 24 4) 8 + 8 * 2 ^ 32) ∧ u.cmd cmd = none ∧
    Frame [.free, .out, .entries, .ctxEntries, .host, .near, .nearMem, .bulk, .bulkMem, .rings, .msix, .pages, .cmds,
    .health, .power] s u) ∧
  (∀ (cmd : Nat) (c : Cmd) (v : State) (status value : Nat) (s : State), s.starting cmd 12 = some c →
    s.queryData c = (v, .error (status, value)) → ∃ u, exec (.query cmd) s = .next u ∧
    u = v.complete c status value ∧ u.cmd cmd = none ∧ Frame [.free, .out, .entries, .ctxEntries, .host, .near,
    .nearMem, .bulk, .bulkMem, .rings, .msix, .pages, .cmds, .kop, .health, .power] s u)

/-- Fetching a command, the doorbells, and enabling and disabling a ring (R324, R325, R326, R327, R328, R330, R331,
R333, R374). Chosen by the model: register writes while the link is down (log entry 12), the halves of a word and
CFG_RESULT (17, 18). Commands: COMMAND_FETCH, SQ_TAIL, CQ_HEAD, RING_ENABLE, RING_DISABLE. -/
def Obligations.RingsAndDoorbells : Prop :=
  (∀ (ring : RingId) (b : Bytes) (s : State), s.fetching = true → s.nextRing = some ring.val → s.read (s.ring
    ring.val).ctx.toNat ((s.ring ring.val).sqBase.toNat + (s.ring ring.val).sqHead * 64) 64 = .ok b → s.fenced
    (s.ring ring.val).ctx.toNat = false → checkCmd s
    { id := s.nextCmd, ring := ring.val, ctx := (s.ring ring.val).ctx.toNat, raw := b } = none → ∃ u, exec
    (.commandFetch ring) s = .next u ∧ u.cmds = s.cmds ++
    [{ id := s.nextCmd, ring := ring.val, ctx := (s.ring ring.val).ctx.toNat, raw := b }] ∧ u.nextCmd = s.nextCmd + 1
    ∧ u.ring ring.val =
    { s.ring ring.val with sqHead := ((s.ring ring.val).sqHead + 1) % 2 ^ (s.ring ring.val).sqLog2.toNat } ∧
    u.hif.lastRing = ring.val ∧ (∀ g, g ≠ ring.val → u.ring g = s.ring g) ∧ u.serve.cairnOps = s.serve.cairnOps ∧
    Frame [.entries, .bulk, .hif, .rings, .cmds, .serve, .power] s u) ∧
  (∀ (f : Func) (page : RingId) (value : BitVec 32) (g : Nat) (s : State), s.reachable f = true →
    s.doorbellRing f page.val = some g → (s.ring g).enable = true → value.toNat < 2 ^ (s.ring g).sqLog2.toNat → ∃ u,
    exec (.sqTail f page value) s = .next u ∧ u.ring g = { s.ring g with sqTail := value.toNat } ∧ (∀ h, h ≠ g →
    u.ring h = s.ring h) ∧ Frame [.rings] s u) ∧
  (∀ (f : Func) (page : RingId) (value : BitVec 32) (g : Nat) (s : State), Canonical s → s.reachable f = true →
    s.doorbellRing f page.val = some g → (s.ring g).enable = false → s.dget 0x3090 2 + 1 < 2 ^ 32 → ∃ u,
    exec (.sqTail f page value) s = .next u ∧ u.dget 0x3090 2 = s.dget 0x3090 2 + 1 ∧ Frame [.entries] s u) ∧
  (∀ (f : Func) (page : RingId) (value : BitVec 32) (g : Nat) (s : State), s.reachable f = true →
    s.doorbellRing f page.val = some g → (s.ring g).enable = true → value.toNat < 2 ^ (s.ring g).cqLog2.toNat →
    (value.toNat + 2 ^ (s.ring g).cqLog2.toNat - (s.ring g).cqHead) % 2 ^ (s.ring g).cqLog2.toNat ≤ ((s.ring g).cqTail + 2 ^ (s.ring g).cqLog2.toNat - (s.ring g).cqHead) % 2 ^ (s.ring g).cqLog2.toNat →
    ∃ u, exec (.cqHead f page value) s = .next u ∧ u.ring g = { s.ring g with cqHead := value.toNat } ∧ (∀ h, h ≠ g →
    u.ring h = s.ring h) ∧ Frame [.rings] s u) ∧
  (∀ (ring : RingId) (maxInflight : BitVec 13) (loop : Bool) (s : State), s.hostUp = true → s.hif.ready = true →
    s.drained ring.val = true →
    s.ringCheck ring.val { s.ring ring.val with maxInflight := maxInflight, loop := loop } = none → ∃ u,
    exec (.ringEnable ring maxInflight loop) s = .next u ∧
    u.ring ring.val = { s.ring ring.val with maxInflight := maxInflight, loop := loop, cfgResult := 0, enable := true, sqHead := 0, sqTail := 0, cqHead := 0, cqTail := 0, cqPhase := true, error := false } ∧
    (∀ h, h ≠ ring.val → u.ring h = s.ring h) ∧ Frame [.rings] s u) ∧
  (∀ (ring : RingId) (maxInflight : BitVec 13) (loop : Bool) (k : Nat) (s : State), s.hostUp = true →
    s.hif.ready = true → s.drained ring.val = true →
    s.ringCheck ring.val { s.ring ring.val with maxInflight := maxInflight, loop := loop } = some k → ∃ u,
    exec (.ringEnable ring maxInflight loop) s = .next u ∧
    u.ring ring.val = { s.ring ring.val with maxInflight := maxInflight, loop := loop, cfgResult := BitVec.ofNat 4 k } ∧
    (u.ring ring.val).enable = false ∧ Frame [.rings] s u) ∧
  (∀ (ring : RingId) (s : State), s.hostUp = true → tsorted none s.hif.rings = true →
    tsorted none s.hif.loops = true → ∃ u, exec (.ringDisable ring) s = .next u ∧
    u.ring ring.val = { s.ring ring.val with enable := false } ∧
    u.loopOf ring.val = { s.loopOf ring.val with pend := [], ticksDropped := 0 } ∧ (∀ h, h ≠ ring.val →
    u.ring h = s.ring h ∧ u.loopOf h = s.loopOf h) ∧ Frame [.rings, .loops] s u)

/-- The host's register writes: loop table, control pages, roots, invalidation, counters, owners, MSI-X and ATS
(R234, R239, R240, R317, R319, R322, R354, R359, R360, R373, R374, R636). Chosen by the model: the return of ATS
completions within the row (log entry 16), register writes while the link is down (12), the halves of a word (18),
EVQ_ERROR (19), ERROR of BKI_INVAL (20). Commands: LOOP_TABLE_WRITE, CONTEXT_CONTROL_WRITE, BKI_CTX_ROOT_WRITE,
BKI_INVAL, BKI_INVAL_QUIESCED, SYNC_COUNTER_WRITE, SYNC_OWNER_WRITE, MSIX_UNMASK, ATS_INVALIDATION_REQUEST,
REGISTER_WRITE. -/
def Obligations.HostRegisters : Prop :=
  (∀ (ring : RingId) (q : Fin 4) (value : BitVec 64) (s : State), s.hostUp = true → s.drained ring.val = true →
    ((s.loopOf ring.val).setWord q.val value.toNat).check = 0 → tsorted none s.hif.loops = true → ∃ u,
    exec (.loopTableWrite ring q value) s = .next u ∧
    u.loopOf ring.val = { (s.loopOf ring.val).setWord q.val value.toNat with cfgResult := 0 } ∧ (∀ h, h ≠ ring.val →
    u.loopOf h = s.loopOf h) ∧ Frame [.loops] s u) ∧
  (∀ (ring : RingId) (q : Fin 4) (value : BitVec 64) (s : State), s.hostUp = true → s.drained ring.val = false →
    tsorted none s.hif.loops = true → ∃ u, exec (.loopTableWrite ring q value) s = .next u ∧
    u.loopOf ring.val = { s.loopOf ring.val with cfgResult := 4 } ∧ (∀ h, h ≠ ring.val → u.loopOf h = s.loopOf h) ∧
    Frame [.loops] s u) ∧
  (∀ (f : Func) (ctx : CtxId) (off : BitVec 12) (value : BitVec 64) (s : State), s.reachable f = true → f = .pf →
    off = 8 → value.toNat % 4096 = 0 → windowOf (value.toNat % 2 ^ 52) = 2 → tsorted none s.hif.pages = true → ∃ u,
    exec (.contextControlWrite f ctx off value) s = .next u ∧
    u.page ctx.val = { s.page ctx.val with evqBase := BitVec.ofNat 52 value.toNat } ∧ (∀ h, h ≠ ctx.val →
    u.page h = s.page h) ∧ Frame [.pages] s u) ∧
  (∀ (f : Func) (ctx : CtxId) (off : BitVec 12) (value : BitVec 64) (s : State), s.reachable f = true → f ≠ .pf →
    (funcNumber f ≠ ctx.val + 1) → ∃ u, exec (.contextControlWrite f ctx off value) s = .next u ∧ u = s ∧
    Frame [] s u) ∧
  (∀ (ctx : CtxId) (value : BitVec 64) (s : State), s.hostUp = true → tsorted none s.bulk.roots = true → ∃ u, exec
    (.bkiCtxRootWrite ctx value) s = .next u ∧ tget 0 u.bulk.roots ctx.val = value &&& 0x7FFFFFF001 ∧ (∀ p < 2 ^ 28,
    tfind u.bulk.tlb (ctx.val * 2 ^ 28 + p) = none) ∧ (∀ p < 2 ^ 23, tfind u.bulk.tlb (2 ^ 40 + ctx.val * 2 ^ 23 + p)
    = none) ∧ Frame [.bulk] s u) ∧
  (∀ (value : BitVec 64) (s : State), s.hostUp = true → s.bulk.inval.getLsbD 63 = false → invalBad value.toNat = false
    → bits value.toNat 43 28 = 0 → ∃ u, exec (.bkiInval value) s = .next u ∧ (∀ p < 2 ^ 28, tfind u.bulk.tlb (bits
    value.toNat 52 44 * 2 ^ 28 + p) = none) ∧ (∀ p < 2 ^ 23, tfind u.bulk.tlb (2 ^ 40 + bits value.toNat 52 44 * 2 ^
    23 + p) = none) ∧ u.bulk.inval.getLsbD 63 = value.getLsbD 53 ∧ Frame [.bulk, .links] s u) ∧
  (∀ (value : BitVec 64) (s : State), s.hostUp = true → s.bulk.inval.getLsbD 63 = true → ∃ u,
    exec (.bkiInval value) s = .next u ∧ u = s ∧ Frame [] s u) ∧
  (∀ (s : State), s.bulk.inval.getLsbD 63 = true → s.epochAcked (bits s.bulk.inval.toNat 52 44) = true → ∃ u,
    exec .bkiInvalQuiesced s = .next u ∧ u.bulk.inval = s.bulk.inval &&& 0x7FFFFFFFFFFFFFFF ∧
    u.bulk.tlb = s.bulk.tlb ∧ Frame [.bulk, .links] s u) ∧
  (∀ (n : BitVec 16) (value : BitVec 64) (s : State), Canonical s → s.hostUp = true → ∃ u,
    exec (.syncCounterWrite n value) s = .next u ∧ u.counter n.toNat = value ∧ (∀ m, m ≠ n.toNat →
    u.counter m = s.counter m) ∧ Frame [.free, .out, .entries, .ctxEntries, .host, .near, .nearMem, .bulk, .bulkMem,
    .rings, .msix, .pages, .counters, .cmds, .health, .power] s u) ∧
  (∀ (n value : BitVec 16) (s : State), Canonical s → s.hostUp = true → (value.toNat ≤ 256 ∨ value = 0xFFFF) → ∃ u,
    exec (.syncOwnerWrite n value) s = .next u ∧ u.ownerOf n.toNat = value.toNat ∧ (∀ m, m ≠ n.toNat →
    u.ownerOf m = s.ownerOf m) ∧ Frame [.owners] s u) ∧
  (∀ (n value : BitVec 16) (s : State), s.hostUp = true → 256 < value.toNat → value ≠ 0xFFFF → ∃ u,
    exec (.syncOwnerWrite n value) s = .next u ∧ u = s ∧ Frame [] s u) ∧
  (∀ (f : Func) (vector : Fin 2048) (s : State), s.reachable f = true → vector.val < vectorsOf f →
    tsorted none s.hif.msix = true → ∃ u, exec (.msixUnmask f vector) s = .next u ∧
    u.vector f vector.val = { s.vector f vector.val with masked := false, pend := false } ∧
    (u.out = (if (s.vector f vector.val).pend then [Out.msix (funcNumber f) vector.val] else []) ++ s.out) ∧
    Frame [.out, .msix] s u) ∧
  (∀ (ctx : CtxId) (page : BitVec 52) (pages : Nat) (s : State), s.hostUp = true → tsorted none s.bulk.ats = true → ∃
    u, exec (.atsInvalidationRequest ctx page pages) s = .next u ∧ u.out = .atsDone ctx.val :: s.out ∧ (∀ p,
    page.toNat ≤ p → p < page.toNat + pages → p < 2 ^ 52 → thas u.bulk.ats (ctx.val * 2 ^ 52 + p) = false) ∧ Frame
    [.out, .bulk] s u) ∧
  (∀ (f : Func) (bar2 : Bool) (off : BitVec 26) (eight : Bool) (value : BitVec 64) (x : Reg) (s : State), s.reachable
    f = true → s.regAt f bar2 (off.toNat / 8 * 8) = some x → eight = true → off.toNat % 8 = 0 → ∃ u, exec
    (.registerWrite f bar2 off eight value) s = .next u ∧ u = s.writeReg x value.toNat ∧ Frame [.free, .out, .dev,
    .cdu, .entries, .ctxEntries, .host, .near, .nearMem, .bulk, .bulkMem, .store, .storeMem, .hif, .rings, .loops,
    .msix, .pages, .counters, .owners, .cmds, .steps, .array, .ctxs, .serve, .tru, .links, .kop, .health, .power] s u) ∧
  (∀ (f : Func) (bar2 : Bool) (off : BitVec 26) (eight : Bool) (value : BitVec 64) (s : State), Canonical s →
    s.hostUp = true → f = .pf → bar2 = false → eight = true → off.toNat % 8 = 0 → 0x400000 ≤ off.toNat →
    off.toNat < 0x480000 → ∃ u, exec (.registerWrite f bar2 off eight value) s = .next u ∧
    u.counter ((off.toNat - 0x400000) / 8) = value ∧ Frame [.free, .out, .entries, .ctxEntries, .host, .near,
    .nearMem, .bulk, .bulkMem, .rings, .msix, .pages, .counters, .cmds, .health, .power] s u) ∧
  (∀ (f : Func) (bar2 : Bool) (off : BitVec 26) (eight : Bool) (value : BitVec 64) (s : State),
    s.reachable f = true → s.regAt f bar2 (off.toNat / 8 * 8) = none → ∃ u,
    exec (.registerWrite f bar2 off eight value) s = .next u ∧ u = s ∧ Frame [] s u)

/-- NM_MAP, the end of an unmap and of a region's clearing (R207, R208, R209, R210, R211, R224, R228, R579). Chosen
by the model: the order of NM_MAP checks (log entry 14), pool regions at a switch (33). Commands: NM_MAP_MAP,
NM_MAP_UNMAP, UNMAP_QUIESCED, REGION_CLEAR_DONE. -/
def Obligations.NearMap : Prop :=
  (∀ (vrn : BitVec 16) (ctx : BitVec 9) (prn : BitVec 15) (w : Bool) (s : State), s.hostUp = true →
    s.near.op = none → s.mapRefused ctx.toNat prn.toNat w = none → s.prnPool prn.toNat = none →
    (s.region prn.toNat).kind = .free → s.mapEntry ctx.toNat vrn.toNat = none → ∃ u,
    exec (.nmMapMap vrn ctx prn w) s = .next u ∧ u.mapEntry ctx.toNat vrn.toNat = some ⟨prn.toNat, w⟩ ∧
    (u.region prn.toNat).kind = .owned ∧ (u.region prn.toNat).owner = ctx.toNat ∧
    u.near.nmMap = nmMapWord vrn ctx prn true w 0 false ∧ u.near.mem = s.near.mem ∧ Frame [.near] s u) ∧
  (∀ (vrn : BitVec 16) (ctx : BitVec 9) (prn : BitVec 15) (w : Bool) (k : Nat) (s : State), s.hostUp = true →
    s.near.op = none → s.mapRefused ctx.toNat prn.toNat w = some k → ∃ u,
    exec (.nmMapMap vrn ctx prn w) s = .next u ∧
    u.near = { s.near with nmMap := nmMapWord vrn ctx prn true w k false } ∧ Frame [.near] s u) ∧
  (∀ (vrn : BitVec 16) (ctx : BitVec 9) (prn : BitVec 15) (w : Bool) (s : State), s.hostUp = true →
    s.near.op.isSome = true → ∃ u, exec (.nmMapMap vrn ctx prn w) s = .next u ∧ u = s ∧ Frame [] s u) ∧
  (∀ (vrn : BitVec 16) (ctx : BitVec 9) (prn : BitVec 15) (w : Bool) (e : MapEntry) (s : State), s.hostUp = true →
    s.near.op = none → ctx.toNat ≤ 256 → s.mapEntry ctx.toNat vrn.toNat = some e → s.prnPool e.prn = none → e.prn %
    32 < 30 → tsorted none s.near.map = true → ∃ u, exec (.nmMapUnmap vrn ctx prn w) s = .next u ∧ u.near.op = some
    ⟨vrn.toNat, ctx.toNat, e.prn, none⟩ ∧ u.mapEntry ctx.toNat vrn.toNat = none ∧ (u.region e.prn).kind =
    .pendingUnmap ∧ (u.region e.prn).owner = (s.region e.prn).owner ∧ u.near.nmMap = nmMapWord vrn ctx prn false w 0
    true ∧ u.near.mem = s.near.mem ∧ Frame [.near, .bulk, .links] s u) ∧
  (∀ (op : MapOp) (s : State), s.near.op = some op → op.new = none → s.epochAcked op.ctx = true →
    s.prnPool op.oldPrn = none → s.named op.oldPrn = false → op.oldPrn % 32 < 30 → ∃ u,
    exec .unmapQuiesced s = .next u ∧ u.near.op = none ∧ u.near.nmMap = s.near.nmMap &&& 0x7FFFFFFFFFFFFFFF ∧
    (u.region op.oldPrn).kind = .clearing ∧ (u.region op.oldPrn).owner = (s.region op.oldPrn).owner ∧
    u.near.map = s.near.map ∧ Frame [.near, .links] s u) ∧
  (∀ (prn : BitVec 15) (s : State), Canonical s → (s.region prn.toNat).kind = .clearing →
    tsorted none s.near.regions = true → ∃ u, exec (.regionClearDone prn) s = .next u ∧
    u.region prn.toNat = (if (s.region prn.toNat).failing then { kind := .retired } else {}) ∧ (∀ i < 2 ^ 20,
    memRead u.near.mem (prn.toNat * 2 ^ 20 + i) = 0) ∧ (∀ a, a / 2 ^ 20 ≠ prn.toNat →
    memRead u.near.mem a = memRead s.near.mem a) ∧ Frame [.near, .nearMem] s u)

/-- Line errors, scrubbing and repairs of Near and Bulk, failing cores and the bridge (R136, R219, R220, R221, R222,
R226, R227, R251, R252, R255, R257, R590). Chosen by the model: a row whose condition does not hold changes nothing
(log entry 2), counters past their width (5), subjects and details of events (53), the layout of regions 30 and 31
(54), lines with three bad symbols, transfer errors and the address a step used (55), the code of Near (95), scrubs
that a write races and copies that a power-down cuts (122), a bridge error without a step and an isolated cluster's
core (109). Commands: NEAR_UNCORRECTABLE, NEAR_SCRUB_LINE, NEAR_ROW_REPAIR_DONE, BULK_UNCORRECTABLE,
BULK_SCRUB_LINE, BULK_LANE_REPAIR, BULK_CHANNEL_SPARE_DONE, BULK_SELF_REFRESH_ENTRY, BRIDGE_FLIT_ERROR, CORE_ERROR. -/
def Obligations.MemoryErrors : Prop :=
  (∀ (prn line : BitVec 15) (flips : List (BitVec 32)) (reader : LineReader) (t : Nat) (s : State), Canonical s →
    s.quadrantOn prn.toNat = true → s.isolated (prnCluster prn.toNat) = false → s.readLine prn.toNat line.toNat flips
    = .bad → mapCopyBad prn.toNat line.toNat = none → (readsQuietly reader = true) → prn.toNat % 32 ≠ 30 → ∃ u, exec
    (.nearUncorrectable prn ⟨line, flips⟩ reader t) s = .next u ∧ thas u.near.poison (prn.toNat * 32768 + line.toNat)
    = true ∧ u.near.mem = s.near.mem ∧ u.uptime = max s.uptime t ∧ u.dget 0x3060 7 = prn.toNat + line.toNat * 2 ^ 15
    + 3 * 2 ^ 30 ∧ Frame [.free, .out, .uptime, .entries, .near, .msix, .health] s u) ∧
  (∀ (prn line : BitVec 15) (flips : List (BitVec 32)) (raced : Bool) (t : Nat) (s : State), s.quadrantOn prn.toNat =
    true → tget 0 s.near.scrub (prn.toNat / 32) = prn.toNat % 32 * 32768 + line.toNat → s.readLine prn.toNat
    line.toNat flips = .clean → ∃ u, exec (.nearScrubLine prn line flips raced t) s = .next u ∧ tget 0 u.near.scrub
    (prn.toNat / 32) = (prn.toNat % 32 * 32768 + line.toNat + 1) % 2 ^ 20 ∧ u.near.poison = s.near.poison ∧ Frame
    [.uptime, .near] s u) ∧
  (∀ (prn line : BitVec 15) (flips : List (BitVec 32)) (raced : Bool) (t : Nat) (s : State), s.quadrantOn prn.toNat =
    true → tget 0 s.near.scrub (prn.toNat / 32) = prn.toNat % 32 * 32768 + line.toNat → s.readLine prn.toNat
    line.toNat flips = .bad → mapCopyBad prn.toNat line.toNat = none → raced = false → ∃ u, exec (.nearScrubLine prn
    line flips raced t) s = .next u ∧ thas u.near.poison (prn.toNat * 32768 + line.toNat) = true ∧ Frame [.free,
    .out, .uptime, .entries, .near, .msix, .health] s u) ∧
  (∀ (prn line : BitVec 15) (flips : List (BitVec 32)) (raced : Bool) (t k : Nat) (data : Bytes) (s : State),
    Canonical s → s.quadrantOn prn.toNat = true → tget 0 s.near.scrub (prn.toNat / 32) = prn.toNat % 32 * 32768 +
    line.toNat → s.readLine prn.toNat line.toNat flips = .single data [k] → raced = true → s.dget 0x3060 3 (prn.toNat
    / 32) + 1 < 2 ^ 32 → ∃ u, exec (.nearScrubLine prn line flips raced t) s = .next u ∧ u.dget 0x3060 3 (prn.toNat /
    32) = s.dget 0x3060 3 (prn.toNat / 32) + 1 ∧ u.dget 0x3060 7 = prn.toNat + line.toNat * 2 ^ 15 + 2 ^ 30 + k * 2 ^
    32 ∧ u.near.poison = s.near.poison ∧ u.near.mem = s.near.mem ∧ Frame [.free, .out, .uptime, .entries, .near,
    .msix, .health] s u) ∧
  (∀ (core : CoreId) (row : RowCopy) (spare : Nat) (s : State), tfind s.near.repairing (core.val * 4096 +
    row.row.toNat) = some spare → tsorted none s.near.repairing = true → ∃ u, exec (.nearRowRepairDone core row) s =
    .next u ∧ tfind u.near.rows (core.val * 4096 + row.row.toNat) = some spare ∧ thas u.near.repairing (core.val *
    4096 + row.row.toNat) = false ∧ (row.errors = [] → u.near.mem = s.near.mem ∧ Frame [.near] s u) ∧ Frame [.free,
    .out, .entries, .near, .nearMem, .bulk, .msix, .health] s u) ∧
  (∀ (bpa : BitVec 39) (read : BulkRead) (reader : LineReader) (t : Nat) (s : State), bpaExists bpa.toNat = true →
    s.stackOn (stackOf bpa.toNat) = true → s.bulkOutcome bpa.toNat read = .uncorrectable → (readsQuietly reader =
    true) → ∃ u, exec (.bulkUncorrectable bpa ⟨read, reader⟩ t) s = .next u ∧ thas u.bulk.poison (bpa.toNat / 64) =
    true ∧ u.bulk.mem = s.bulk.mem ∧ Frame [.free, .out, .uptime, .entries, .bulk, .msix, .health] s u) ∧
  (∀ (bpa : BitVec 39) (read : BulkRead) (raced : Bool) (t : Nat) (s : State), bpaExists bpa.toNat = true → s.stackOn
    (stackOf bpa.toNat) = true → s.bulkOutcome bpa.toNat read = .clean → ∃ u, exec (.bulkScrubLine bpa read raced t)
    s = .next u ∧ tget 0 u.bulk.scrub (stackOf bpa.toNat) = bpa.toNat % 2 ^ 36 / 64 ∧ u.bulk.poison = s.bulk.poison ∧
    Frame [.uptime, .bulk] s u) ∧
  (∀ (bpa : BitVec 39) (read : BulkRead) (raced : Bool) (t : Nat) (s : State), Canonical s → bpaExists bpa.toNat =
    true → s.stackOn (stackOf bpa.toNat) = true → s.bulkOutcome bpa.toNat read = .corrected → s.dget 0x3070 1
    (stackOf bpa.toNat) + 1 < 2 ^ 32 → ∃ u, exec (.bulkScrubLine bpa read raced t) s = .next u ∧ u.dget 0x3070 1
    (stackOf bpa.toNat) = s.dget 0x3070 1 (stackOf bpa.toNat) + 1 ∧ u.dget 0x3070 6 = bpa.toNat + 2 ^ 39 ∧
    u.bulk.poison = s.bulk.poison ∧ Frame [.free, .uptime, .entries, .bulk] s u) ∧
  (∀ (stack : Fin 8) (channel : Fin 32) (lane : Fin 256) (redundantLeft : Bool) (s : State), Canonical s → s.stackOn
    stack.val = true → 64 ≤ tget 0 s.bulk.laneErrors (laneKey stack.val channel.val lane.val) → redundantLeft = true
    → s.dget 0x3070 3 stack.val + 1 < 2 ^ 16 → ∃ u, exec (.bulkLaneRepair stack channel lane redundantLeft) s = .next
    u ∧ u.dget 0x3070 3 stack.val = s.dget 0x3070 3 stack.val + 1 ∧ thas u.bulk.lanesMapped (laneKey stack.val
    channel.val lane.val) = true ∧ Frame [.entries, .bulk] s u) ∧
  (∀ (stack : Fin 8) (channel : Fin 32) (lane : Fin 256) (redundantLeft : Bool) (s : State), Canonical s → s.stackOn
    stack.val = true → 64 ≤ tget 0 s.bulk.laneErrors (laneKey stack.val channel.val lane.val) → redundantLeft = false
    → thas s.bulk.sparing stack.val = false → s.dget 0x3070 4 stack.val = 0xFF → ∃ u, exec (.bulkLaneRepair stack
    channel lane redundantLeft) s = .next u ∧ tfind u.bulk.sparing stack.val = some channel.val ∧ u.dget 0x3070 5
    stack.val = 1 ∧ Frame [.entries, .bulk] s u) ∧
  (∀ (stack : Fin 8) (t : Nat) (ch : Nat) (s : State), Canonical s → tfind s.bulk.sparing stack.val = some ch →
    tsorted none s.bulk.sparing = true → s.stackOn stack.val = true → ∃ u, exec (.bulkChannelSpareDone stack t) s =
    .next u ∧ tfind u.bulk.sparing stack.val = none ∧ u.dget 0x3070 4 stack.val = ch ∧ Logged u 8 3 stack.val ∧ Frame
    [.free, .out, .uptime, .entries, .bulk, .msix, .health] s u) ∧
  (∀ (stack : Fin 8) (t : Nat) (s : State), Canonical s → s.serving = true → s.dget 0x2700 4 ≠ 0 →
    s.stackOn stack.val = true → tget 0 s.bulk.lastAccess stack.val + s.dget 0x2700 4 * 1000 ≤ max s.uptime t → ∃ u,
    exec (.bulkSelfRefreshEntry stack t) s = .next u ∧ u.domain (80 + stack.val) = 1 ∧ u.uptime = max s.uptime t ∧
    Frame [.uptime, .entries] s u) ∧
  (∀ (edge : Fin 4) (dir : Fin 2) (resends : Fin 4) (cmd t : Nat) (s : State), Canonical s → s.powered = true →
    resends.val < 3 → s.dget 0x3080 1 (2 * edge.val + dir.val) + 1 < 2 ^ 32 → ∃ u,
    exec (.bridgeFlitError edge dir resends cmd t) s = .next u ∧
    u.dget 0x3080 1 (2 * edge.val + dir.val) = s.dget 0x3080 1 (2 * edge.val + dir.val) + 1 ∧ Frame [.uptime,
    .entries] s u) ∧
  (∀ (edge : Fin 4) (dir : Fin 2) (resends : Fin 4) (cmd t : Nat) (p : Step) (s : State), s.powered = true →
    resends.val = 3 → s.step? cmd = some p → p.launched = true → p.ending = none → p.readySent = false →
    p.committed = false → ∃ u, exec (.bridgeFlitError edge dir resends cmd t) s = .next u ∧
    (u.step? cmd).map (·.ending) = some (some (.replay 2)) ∧
    (u.array.rappels.any (fun r => decide (r.footprint = p.footprint)) = true) ∧ Frame [.free, .uptime, .entries,
    .ctxEntries, .steps, .array, .links] s u) ∧
  (∀ (core : CoreId) (t : Nat) (old q : Nat) (s : State), s.serving? (core.val / 16) (core.val % 16) = some old →
    s.serving = true → s.clusterUp (core.val / 16) = true → s.substitute (core.val / 16) = some q → q ≠ old →
    q < 17 → s.copyLost (core.val / 16) = false → ∃ u, exec (.coreError core t) s = .next u ∧
    u.coreState (core.val / 16) old = 0xF3 ∧ u.coreState (core.val / 16) q = core.val % 16 * 16 ∧
    Logged u 8 1 core.val ∧ Frame [.free, .out, .uptime, .entries, .ctxEntries, .msix, .steps, .array, .links,
    .health] s u) ∧
  (∀ (stack : Fin 8) (t : Nat) (s : State), (tfind s.bulk.sparing stack.val = none ∨ s.stackOn stack.val = false) → ∃
    u, exec (.bulkChannelSpareDone stack t) s = .next u ∧ u = s ∧ Frame [] s u) ∧
  (∀ (prn line : BitVec 15) (flips : List (BitVec 32)) (reader : LineReader) (c : CtxId) (t : Nat) (s : State),
    Canonical s → s.quadrantOn prn.toNat = true → s.isolated (prnCluster prn.toNat) = false → s.readLine prn.toNat
    line.toNat flips = .bad → mapCopyBad prn.toNat line.toNat = none → reader = .other c → prn.toNat % 32 ≠ 30 →
    c.val < 256 → s.cget c.val 8 3 + 1 < 2 ^ 32 → ∃ u, exec (.nearUncorrectable prn ⟨line, flips⟩ reader t) s = .next
    u ∧ thas u.near.poison (prn.toNat * 32768 + line.toNat) = true ∧ u.near.mem = s.near.mem ∧ u.cget c.val 8 3 =
    s.cget c.val 8 3 + 1 ∧ Frame [.free, .out, .uptime, .entries, .ctxEntries, .near, .msix, .health] s u) ∧
  (∀ (prn line : BitVec 15) (flips : List (BitVec 32)) (reader : LineReader) (cmd : Nat) (p : Step) (t : Nat) (s :
    State), s.quadrantOn prn.toNat = true → s.isolated (prnCluster prn.toNat) = false → s.readLine prn.toNat
    line.toNat flips = .bad → mapCopyBad prn.toNat line.toNat = none → reader = .step cmd → s.step? cmd = some p →
    p.launched = true → p.readySent = false → p.committed = false → p.ending = none → tfind s.near.written
    ((prn.toNat * 2 ^ 20 + line.toNat * 32) / 65536) = some p.cmd → prn.toNat % 32 ≠ 30 → ∃ u, exec
    (.nearUncorrectable prn ⟨line, flips⟩ reader t) s = .next u ∧ thas u.near.poison (prn.toNat * 32768 + line.toNat)
    = true ∧ u.near.mem = s.near.mem ∧ (u.step? cmd).map (·.ending) = some (some (.replay 1)) ∧ ((u.array.rappels.any
    fun q => decide (q.footprint = p.footprint)) = true) ∧ Frame [.free, .out, .uptime, .entries, .ctxEntries, .near,
    .msix, .steps, .array, .links, .health] s u) ∧
  (∀ (prn line : BitVec 15) (flips : List (BitVec 32)) (reader : LineReader) (cmd : Nat) (p : Step) (t : Nat) (s :
    State), s.quadrantOn prn.toNat = true → s.isolated (prnCluster prn.toNat) = false → s.readLine prn.toNat
    line.toNat flips = .bad → mapCopyBad prn.toNat line.toNat = none → reader = .step cmd → s.step? cmd = some p →
    p.launched = true → p.readySent = false → p.committed = false → p.ending = none → tfind s.near.written
    ((prn.toNat * 2 ^ 20 + line.toNat * 32) / 65536) ≠ some p.cmd → prn.toNat % 32 ≠ 30 → ∃ u, exec
    (.nearUncorrectable prn ⟨line, flips⟩ reader t) s = .next u ∧ thas u.near.poison (prn.toNat * 32768 + line.toNat)
    = true ∧ u.near.mem = s.near.mem ∧ (((u.step? cmd).any fun r => r.ending.any isDamage) = true) ∧
    ((u.array.rappels.any fun q => decide (q.footprint = p.footprint)) = true) ∧ Frame [.free, .out, .uptime,
    .entries, .ctxEntries, .near, .msix, .steps, .array, .links, .health] s u) ∧
  (∀ (prn line : BitVec 15) (flips : List (BitVec 32)) (reader : LineReader) (t : Nat) (s : State), s.quadrantOn
    prn.toNat = true → s.isolated (prnCluster prn.toNat) = false → s.readLine prn.toNat line.toNat flips = .bad →
    mapCopyBad prn.toNat line.toNat = none → (readsQuietly reader = true) → prn.toNat % 32 = 30 → ∃ u, exec
    (.nearUncorrectable prn ⟨line, flips⟩ reader t) s = .next u ∧ thas u.near.poison (prn.toNat * 32768 + line.toNat)
    = true ∧ u.near.mem = s.near.mem ∧ u.steps = s.steps ∧ Frame [.free, .out, .uptime, .entries, .near, .msix,
    .array, .health] s u) ∧
  (∀ (prn line : BitVec 15) (flips : List (BitVec 32)) (raced : Bool) (t : Nat) (s : State), Canonical s →
    s.quadrantOn prn.toNat = true → tget 0 s.near.scrub (prn.toNat / 32) = prn.toNat % 32 * 32768 + line.toNat →
    s.readLine prn.toNat line.toNat flips = .bad → raced = true → s.dget 0x3060 5 (prn.toNat / 32) + 1 < 2 ^ 32 → ∃
    u, exec (.nearScrubLine prn line flips raced t) s = .next u ∧ u.dget 0x3060 5 (prn.toNat / 32) = s.dget 0x3060 5
    (prn.toNat / 32) + 1 ∧ u.near.poison = s.near.poison ∧ u.near.mem = s.near.mem ∧ Frame [.free, .out, .uptime,
    .entries, .near, .msix, .health] s u) ∧
  (∀ (bpa : BitVec 39) (read : BulkRead) (reader : LineReader) (c : CtxId) (t : Nat) (s : State), Canonical s →
    bpaExists bpa.toNat = true → s.stackOn (stackOf bpa.toNat) = true → s.bulkOutcome bpa.toNat read = .uncorrectable
    → reader = .other c → c.val < 256 → s.cget c.val 9 3 + 1 < 2 ^ 32 → ∃ u, exec (.bulkUncorrectable bpa ⟨read,
    reader⟩ t) s = .next u ∧ thas u.bulk.poison (bpa.toNat / 64) = true ∧ u.bulk.mem = s.bulk.mem ∧ u.cget c.val 9 3
    = s.cget c.val 9 3 + 1 ∧ Frame [.free, .out, .uptime, .entries, .ctxEntries, .bulk, .msix, .health] s u) ∧
  (∀ (bpa : BitVec 39) (read : BulkRead) (reader : LineReader) (cmd : Nat) (p : Step) (t : Nat) (s : State), bpaExists
    bpa.toNat = true → s.stackOn (stackOf bpa.toNat) = true → s.bulkOutcome bpa.toNat read = .uncorrectable → reader
    = .step cmd → s.step? cmd = some p → p.launched = true → p.readySent = false → p.committed = false → p.ending =
    none → tfind s.bulk.written (bpa.toNat / 64) = some p.cmd → ∃ u, exec (.bulkUncorrectable bpa ⟨read, reader⟩ t) s
    = .next u ∧ thas u.bulk.poison (bpa.toNat / 64) = true ∧ u.bulk.mem = s.bulk.mem ∧ (u.step? cmd).map (·.ending) =
    some (some (.replay 2)) ∧ ((u.array.rappels.any fun q => decide (q.footprint = p.footprint)) = true) ∧ Frame
    [.free, .out, .uptime, .entries, .ctxEntries, .bulk, .msix, .steps, .array, .links, .health] s u) ∧
  (∀ (bpa : BitVec 39) (read : BulkRead) (reader : LineReader) (cmd : Nat) (p : Step) (t : Nat) (s : State), bpaExists
    bpa.toNat = true → s.stackOn (stackOf bpa.toNat) = true → s.bulkOutcome bpa.toNat read = .uncorrectable → reader
    = .step cmd → s.step? cmd = some p → p.launched = true → p.readySent = false → p.committed = false → p.ending =
    none → tfind s.bulk.written (bpa.toNat / 64) ≠ some p.cmd → ∃ u, exec (.bulkUncorrectable bpa ⟨read, reader⟩ t) s
    = .next u ∧ thas u.bulk.poison (bpa.toNat / 64) = true ∧ u.bulk.mem = s.bulk.mem ∧ (((u.step? cmd).any fun r =>
    r.ending.any isDamage) = true) ∧ ((u.array.rappels.any fun q => decide (q.footprint = p.footprint)) = true) ∧
    Frame [.free, .out, .uptime, .entries, .ctxEntries, .bulk, .msix, .steps, .array, .links, .health] s u) ∧
  (∀ (bpa : BitVec 39) (read : BulkRead) (reader : LineReader) (cmd : Nat) (p : Step) (t : Nat) (s : State), bpaExists
    bpa.toNat = true → s.stackOn (stackOf bpa.toNat) = true → s.bulkOutcome bpa.toNat read = .mesh → reader = .step
    cmd → s.step? cmd = some p → p.launched = true → p.readySent = false → p.committed = false → p.ending = none → ∃
    u, exec (.bulkUncorrectable bpa ⟨read, reader⟩ t) s = .next u ∧ (u.step? cmd).map (·.ending) = some (some
    (.replay 2)) ∧ u.bulk = s.bulk ∧ Frame [.free, .uptime, .entries, .ctxEntries, .steps, .array, .links] s u) ∧
  (∀ (bpa : BitVec 39) (read : BulkRead) (raced : Bool) (t : Nat) (s : State), bpaExists bpa.toNat = true → s.stackOn
    (stackOf bpa.toNat) = true → s.bulkOutcome bpa.toNat read = .uncorrectable → raced = false → ∃ u, exec
    (.bulkScrubLine bpa read raced t) s = .next u ∧ thas u.bulk.poison (bpa.toNat / 64) = true ∧ u.bulk.mem =
    s.bulk.mem ∧ Frame [.free, .out, .uptime, .entries, .bulk, .msix, .health] s u) ∧
  (∀ (bpa : BitVec 39) (read : BulkRead) (raced : Bool) (t : Nat) (s : State), Canonical s → bpaExists bpa.toNat =
    true → s.stackOn (stackOf bpa.toNat) = true → s.bulkOutcome bpa.toNat read = .uncorrectable → raced = true →
    s.dget 0x3070 2 (stackOf bpa.toNat) + 1 < 2 ^ 32 → ∃ u, exec (.bulkScrubLine bpa read raced t) s = .next u ∧
    u.bulk.poison = s.bulk.poison ∧ u.bulk.mem = s.bulk.mem ∧ u.dget 0x3070 2 (stackOf bpa.toNat) = s.dget 0x3070 2
    (stackOf bpa.toNat) + 1 ∧ Frame [.free, .out, .uptime, .entries, .bulk, .msix, .health] s u)

/-- BIND_MODEL, its chunks and completion, the Store's patrol, idle channels and Installation mode (R264, R266,
R268, R270, R271, R272, R346, R411). Chosen by the model: a row whose condition does not hold changes nothing (log
entry 2), the reads of a chunk (60), sections and turns (61), accesses that turn a Store channel On (122). Commands:
BIND_MODEL, BIND_CHUNK, BIND_COMPLETE, STORE_PATROL_CHUNK, STORE_CHANNEL_IDLE_OFF, INSTALL_MODE_ACTIVE. -/
def Obligations.StoreAndBinds : Prop :=
  (∀ (cmd : Nat) (c : Cmd) (f : Fail) (s : State), s.starting cmd 4 = some c → s.bindChecks c = .error f → ∃ u, exec
    (.bindModel cmd) s = .next u ∧ u = (s.accessed otherUnit c.ctx (c.at 16 8) (32 * c.at 10 2)).refuseBind c f ∧
    u.cmd cmd = none ∧ u.serve = s.serve ∧ Frame [.free, .out, .entries, .ctxEntries, .host, .near, .nearMem, .bulk,
    .bulkMem, .rings, .msix, .pages, .cmds, .health, .power] s u) ∧
  (∀ (cmd : Nat) (c : Cmd) (x : Nat × Bytes × List Bytes) (s : State), s.starting cmd 4 = some c → s.bindChecks c =
    .ok x → (((bindSections x.2.1 x.2.2).any fun y => y.nearVa.any fun va => s.onPool c.ctx va y.length) = false ∨
    s.holdsGrant c.ctx = true) → ∃ u, exec (.bindModel cmd) s = .next u ∧ s.freeHandle = some x.1 ∧ u.binding x.1 =
    some
    { owner := c.ctx, slot := c.at 8 2, state := .binding, modelId := (s.slot (c.at 8 2)).modelId, generation := (s.slot (c.at 8 2)).generation, nearSections := (bindSections x.2.1 x.2.2).any (fun y => y.nearVa.isSome) }
    ∧ (u.cmd cmd).map (·.stage) = some .running ∧ u.serve.binds = s.serve.binds ++
    [{ handle := x.1, cmd := cmd, ctx := c.ctx, slot := c.at 8 2, sections := bindSections x.2.1 x.2.2, left := List.range (s.slot (c.at 8 2)).chunks }]
    ∧ u.near.mem = s.near.mem ∧ u.bulk.mem = s.bulk.mem ∧ u.host = s.host ∧ Frame [.entries, .host, .near, .bulk,
    .cmds, .serve, .power] s u) ∧
  (∀ (handle : Fin 4096) (chunk : Nat) (read : ChunkRead) (t : Nat) (r : BindRun) (s : State), s.runningBind
    handle.val = some r → r.left.contains chunk = true → ((r.left.any fun n => decide (n % 8 = chunk % 8) && decide
    (n < chunk)) = false) → s.turnOf (chunk % 8) = some r.handle → ((s.at t).copyChunks r r.toCopy).2 = true →
    (((s.at t).copyChunks r r.toCopy).1.takeTurn (chunk % 8) r.handle).chunkGood (s.slot r.slot) chunk read = false →
    ∃ u, exec (.bindChunk handle ⟨chunk, read⟩ t) s = .next u ∧ u.domain (88 + chunk % 8) = 2 ∧ (u.slot r.slot).state
    = 3 ∧ (∀ b ∈ u.serve.binds, b.handle ≠ handle.val) ∧ Frame [.free, .out, .uptime, .entries, .ctxEntries, .host,
    .near, .nearMem, .bulk, .bulkMem, .store, .rings, .msix, .pages, .cmds, .steps, .array, .ctxs, .serve, .health,
    .power] s u) ∧
  (∀ (handle : Fin 4096) (t : Nat) (r : BindRun) (b : Binding) (c : Cmd) (s : State), s.runningBind handle.val = some
    r → r.left = [] → ((s.at t).copyChunks r r.toCopy).2 = true → (((s.at t).copyChunks r r.toCopy).1.runningBind
    handle.val).all (fun q => q.toCopy.isEmpty) = true → s.binding r.handle = some b → s.cmd r.cmd = some c → ∃ u,
    exec (.bindComplete handle t) s = .next u ∧ u = ((s.at t).copyChunks r r.toCopy).1.endBind r 0 (r.handle +
    (s.slot r.slot).generation.toNat * 2 ^ 32) ∧ u.binding r.handle = some { b with state := .bound } ∧ u.runningBind
    handle.val = none ∧ u.cmd r.cmd = none ∧ u.store.mem = s.store.mem ∧ Frame [.free, .out, .uptime, .entries,
    .ctxEntries, .host, .near, .nearMem, .bulk, .bulkMem, .rings, .msix, .pages, .cmds, .steps, .array, .ctxs,
    .serve, .health, .power] s u) ∧
  (∀ (slot : Fin 1024) (chunk : Nat) (read : ChunkRead) (corrected t : Nat) (s : State), s.serving = true → (s.slot
    slot.val).state = 2 → chunk < (s.slot slot.val).chunks → s.bindReads (chunk % 8) = false → ∃ u, exec
    (.storePatrolChunk slot ⟨⟨chunk, read⟩, corrected⟩ t) s = .next u ∧ u.domain (88 + chunk % 8) = 2 ∧ tget 0
    u.store.lastAccess (chunk % 8) = max s.uptime t ∧ ((((s.at t).touchStore (chunk % 8)).refresh (s.slot slot.val)
    chunk corrected).chunkGood (s.slot slot.val) chunk read = true → u.slot slot.val = s.slot slot.val) ∧ ((((s.at
    t).touchStore (chunk % 8)).refresh (s.slot slot.val) chunk corrected).chunkGood (s.slot slot.val) chunk read =
    false → u.slot slot.val = { s.slot slot.val with state := 3 } ∧ Logged u 3 2 slot.val) ∧ Frame [.free, .out,
    .uptime, .entries, .store, .msix, .health] s u) ∧
  (∀ (stack : Fin 8) (t : Nat) (s : State), Canonical s → s.serving = true → s.domain (88 + stack.val) = 2 → tget 0
    s.store.lastAccess stack.val + s.dget 0x7000 10 * 1000000 ≤ max s.uptime t → ∃ u, exec (.storeChannelIdleOff
    stack t) s = .next u ∧ u.domain (88 + stack.val) = 0 ∧ u.uptime = max s.uptime t ∧ Frame [.uptime, .entries] s u) ∧
  (∀ (s : State), s.dget 0x7000 2 = 1 → ((s.steps.any fun p => p.launched && decide (p.ctx < 256)) = false) →
    s.serve.binds = [] → ∃ u, exec .installModeActive s = .next u ∧ u.dget 0x7000 2 = 2 ∧ Frame [.entries] s u) ∧
  (∀ (cmd : Nat) (c : Cmd) (x : Nat × Bytes × List Bytes) (s : State), s.starting cmd 4 = some c → s.bindChecks c =
    .ok x → ((bindSections x.2.1 x.2.2).any fun y => y.nearVa.any fun va => s.onPool c.ctx va y.length) = true →
    s.holdsGrant c.ctx = false → ∃ u, exec (.bindModel cmd) s = .next u ∧ u = s.awaitGrant c ∧ u.serve.binds =
    s.serve.binds ∧ Frame [.free, .out, .entries, .ctxEntries, .host, .near, .nearMem, .bulk, .bulkMem, .rings,
    .msix, .pages, .cmds, .steps, .array, .ctxs, .serve, .health, .power] s u) ∧
  (∀ (handle : Fin 4096) (chunk : Nat) (read : ChunkRead) (t : Nat) (r : BindRun) (s : State), s.runningBind
    handle.val = some r → r.left.contains chunk = true → ((r.left.any fun n => decide (n % 8 = chunk % 8) && decide
    (n < chunk)) = false) → s.turnOf (chunk % 8) = some r.handle → ((s.at t).copyChunks r r.toCopy).2 = true →
    (((s.at t).copyChunks r r.toCopy).1.takeTurn (chunk % 8) r.handle).chunkGood (s.slot r.slot) chunk read = true →
    ((((s.at t).copyChunks r r.toCopy).1.takeTurn (chunk % 8) r.handle).bindParts r (s.slot r.slot).extents chunk
    r.sections).2 = none → ∃ u, exec (.bindChunk handle ⟨chunk, read⟩ t) s = .next u ∧ u.domain (88 + chunk % 8) = 2
    ∧ u.bulk.mem = ((((s.at t).copyChunks r r.toCopy).1.takeTurn (chunk % 8) r.handle).bindParts r (s.slot
    r.slot).extents chunk r.sections).1.bulk.mem ∧ u.near.mem = ((((s.at t).copyChunks r r.toCopy).1.takeTurn (chunk
    % 8) r.handle).bindParts r (s.slot r.slot).extents chunk r.sections).1.near.mem ∧ (∀ x, r.sections = [x] →
    u.bulk.mem = ((((s.at t).copyChunks r r.toCopy).1.takeTurn (chunk % 8) r.handle).bindWrite r (x.bulkVa + (x.part
    chunk).1) (memReads s.store.mem (storeAddr (s.slot r.slot).extents (x.offset + (x.part chunk).1)) (x.part
    chunk).2)).1.bulk.mem) ∧ ((u.serve.binds.any fun b => decide (b.handle = handle.val) && b.toCopy.contains chunk
    && !b.left.contains chunk) = true) ∧ Frame [.free, .out, .uptime, .entries, .ctxEntries, .host, .near, .nearMem,
    .bulk, .bulkMem, .store, .rings, .msix, .pages, .cmds, .steps, .array, .ctxs, .serve, .health, .power] s u) ∧
  (∀ (handle : Fin 4096) (chunk : Nat) (read : ChunkRead) (t : Nat) (r : BindRun) (s : State), s.runningBind
    handle.val = some r → r.left.contains chunk = true → ((r.left.any fun n => decide (n % 8 = chunk % 8) && decide
    (n < chunk)) = false) → s.turnOf (chunk % 8) = some r.handle → ((s.at t).copyChunks r r.toCopy).2 = true →
    (((s.at t).copyChunks r r.toCopy).1.takeTurn (chunk % 8) r.handle).chunkGood (s.slot r.slot) chunk read = true →
    ((((s.at t).copyChunks r r.toCopy).1.takeTurn (chunk % 8) r.handle).bindParts r (s.slot r.slot).extents chunk
    r.sections).2.isSome = true → ((s.cmd r.cmd).isSome = true) → ∃ u, exec (.bindChunk handle ⟨chunk, read⟩ t) s =
    .next u ∧ (∀ b ∈ u.serve.binds, b.handle ≠ handle.val) ∧ u.binding handle.val = none ∧ u.cmd r.cmd = none ∧ Frame
    [.free, .out, .uptime, .entries, .ctxEntries, .host, .near, .nearMem, .bulk, .bulkMem, .store, .rings, .msix,
    .pages, .cmds, .steps, .array, .ctxs, .serve, .health, .power] s u) ∧
  (∀ (handle : Fin 4096) (chunk : Nat) (read : ChunkRead) (t : Nat) (r : BindRun) (s : State), s.runningBind
    handle.val = some r → (r.left.contains chunk = false ∨ ((r.left.any fun n => decide (n % 8 = chunk % 8) && decide
    (n < chunk)) = true) ∨ s.turnOf (chunk % 8) ≠ some r.handle) → ∃ u, exec (.bindChunk handle ⟨chunk, read⟩ t) s =
    .next u ∧ u = s ∧ Frame [] s u) ∧
  (∀ (handle : Fin 4096) (t : Nat) (r : BindRun) (s : State), s.runningBind handle.val = some r → r.left = [] → ((s.at
    t).copyChunks r r.toCopy).2 = true → (((s.at t).copyChunks r r.toCopy).1.runningBind handle.val).any (fun q =>
    !q.toCopy.isEmpty) = true → ∃ u, exec (.bindComplete handle t) s = .next u ∧ u = ((s.at t).copyChunks r
    r.toCopy).1 ∧ u.cmds = s.cmds ∧ u.serve.bindings = s.serve.bindings ∧ Frame [.free, .out, .uptime, .entries,
    .ctxEntries, .host, .near, .nearMem, .bulk, .bulkMem, .rings, .msix, .pages, .cmds, .steps, .array, .ctxs,
    .serve, .health, .power] s u) ∧
  (∀ (handle : Fin 4096) (t : Nat) (s : State), ((s.runningBind handle.val).all (fun r => !r.left.isEmpty) = true) → ∃
    u, exec (.bindComplete handle t) s = .next u ∧ u = s ∧ Frame [] s u)

/-- COPY within host memory: the bytes at the destination afterwards, and overlapping ranges refused (R22, R321,
R331, R344). Chosen by the model: the order of the two range indices (log entry 24), bytes of an overlapping COPY
(62, 97). Commands: COPY. -/
def Obligations.Copies : Prop :=
  (∀ (cmd : Nat) (c : Cmd) (s : State), Canonical s → s.starting cmd 2 = some c → c.at 32 1 = 0 →
    c.at 8 8 < c.at 16 8 + c.at 24 8 → c.at 16 8 < c.at 8 8 + c.at 24 8 → ∃ u, exec (.copy cmd) s = .next u ∧
    u = s.fresh.2.complete c stOverlap (s.fresh.1.toNat % 65536) ∧ u.cmd cmd = none ∧ Frame [.free, .out, .entries,
    .ctxEntries, .host, .near, .nearMem, .bulk, .bulkMem, .rings, .msix, .pages, .cmds, .health, .power] s u) ∧
  (∀ (cmd : Nat) (c : Cmd) (s : State), Canonical s → s.starting cmd 2 = some c → c.at 32 1 = 0 → s.ctxs.copies = [] →
    s.dev.hostReset = false → (s.cmds.all (fun d => !decide (d.op = 8)) = true) → s.hif.linkUp = true → s.hostDown =
    [] → s.hostUncommitted = [] → 2 ^ 44 ≤ c.at 8 8 → c.at 8 8 + c.at 24 8 ≤ 2 ^ 45 → 2 ^ 44 ≤ c.at 16 8 → c.at 16 8
    + c.at 24 8 ≤ 2 ^ 45 → (c.at 8 8 + c.at 24 8 ≤ c.at 16 8 ∨ c.at 16 8 + c.at 24 8 ≤ c.at 8 8) → 2 ^ 44 ≤ (s.ring
    c.ring).cqBase.toNat → (s.ring c.ring).cqBase.toNat + (s.ring c.ring).cqTail * 16 + 16 ≤ 2 ^ 45 → ((s.ring
    c.ring).cqBase.toNat + (s.ring c.ring).cqTail * 16 + 16 ≤ c.at 16 8 ∨ c.at 16 8 + c.at 24 8 ≤ (s.ring
    c.ring).cqBase.toNat + (s.ring c.ring).cqTail * 16) → ∃ u, exec (.copy cmd) s = .next u ∧ u.cmd cmd = none ∧ (∀ i
    < c.at 24 8, memRead u.host (Config.hostSpace (s.hostTag c.ctx) * 2 ^ 44 + (c.at 16 8 - 2 ^ 44 + i)) = memRead
    s.host (Config.hostSpace (s.hostTag c.ctx) * 2 ^ 44 + (c.at 8 8 - 2 ^ 44 + i))) ∧ (∀ a, (a + 2 ^ 44 <
    Config.hostSpace (s.hostTag c.ctx) * 2 ^ 44 + c.at 16 8 ∨ Config.hostSpace (s.hostTag c.ctx) * 2 ^ 44 + c.at 16 8
    + c.at 24 8 ≤ a + 2 ^ 44) → (a + 2 ^ 44 < Config.hostSpace (s.hostTag c.ctx) * 2 ^ 44 + ((s.ring
    c.ring).cqBase.toNat + (s.ring c.ring).cqTail * 16) ∨ Config.hostSpace (s.hostTag c.ctx) * 2 ^ 44 + ((s.ring
    c.ring).cqBase.toNat + (s.ring c.ring).cqTail * 16 + 16) ≤ a + 2 ^ 44) → memRead u.host a = memRead s.host a) ∧
    Frame [.free, .out, .entries, .ctxEntries, .host, .near, .nearMem, .bulk, .bulkMem, .store, .storeMem, .rings,
    .msix, .pages, .cmds, .steps, .array, .ctxs, .links, .health, .power] s u)

/-- PREFIX_LOOKUP, PREFIX_INSERT and the freeing of dead nodes of a Cairn tree (R348, R433, R434, R435, R436, R437).
Chosen by the model: the order of reads and USED (log entry 50). Commands: PREFIX_LOOKUP, PREFIX_INSERT,
CAIRN_FREEING. -/
def Obligations.CairnTrees : Prop :=
  (∀ (cmd : Nat) (c : Cmd) (s : State), s.starting cmd 6 = some c → (s.links.ends.any fun e => decide (e.cmd = c.id))
    = false → (s.cairnArrive c.id c.ctx (c.at 8 8)).cairnTurn c.id c.ctx (c.at 8 8) = false → ∃ u, exec
    (.prefixLookup cmd) s = .next u ∧ u = (s.cairnArrive c.id c.ctx (c.at 8 8)).stage c .running ∧ u.near = s.near ∧
    u.bulk = s.bulk ∧ u.host = s.host ∧ Frame [.cmds, .serve] s u) ∧
  (∀ (cmd : Nat) (c : Cmd) (n m : Nat) (s v : State), s.starting cmd 6 = some c → (s.links.ends.any fun e => decide
    (e.cmd = c.id)) = false → s.cairnArrive c.id c.ctx (c.at 8 8) = v → v.cairnTurn c.id c.ctx (c.at 8 8) = true →
    v.ckeys c.id c.ctx (c.at 16 8) (c.at 24 4) 0 = .error (.code n m) → ∃ u, exec (.prefixLookup cmd) s = .next u ∧ u
    = (((v.cairnSeen c (c.at 24 4)).cairnOver c.id).cbump c.ctx 13 4 32).complete c stCairn (n + m * 2 ^ 8) ∧ u.cmd
    cmd = none ∧ Frame [.free, .out, .entries, .ctxEntries, .host, .near, .nearMem, .bulk, .bulkMem, .rings, .msix,
    .pages, .cmds, .ctxs, .serve, .links, .health, .power] s u) ∧
  (∀ (cmd : Nat) (c : Cmd) (ks : List Nat) (s v : State), s.starting cmd 6 = some c → (s.links.ends.any fun e =>
    decide (e.cmd = c.id)) = false → s.cairnArrive c.id c.ctx (c.at 8 8) = v → v.cairnTurn c.id c.ctx (c.at 8 8) =
    true → (v.ckeys c.id c.ctx (c.at 16 8) (c.at 24 4) 0).toOption = some ks → (v.tree c.ctx (c.at 8 8)).toOption.map
    (·.root) = some 0 → ∃ u, exec (.prefixLookup cmd) s = .next u ∧ u = ((((v.cairnSeen c (c.at 24 4)).cairnOver
    c.id).cbump c.ctx 13 1 64).cbump c.ctx 13 2 64 0).complete c 0 0 ∧ u.cmd cmd = none ∧ Frame [.free, .out,
    .entries, .ctxEntries, .host, .near, .nearMem, .bulk, .bulkMem, .rings, .msix, .pages, .cmds, .ctxs, .serve,
    .links, .health, .power] s u) ∧
  (∀ (cmd : Nat) (c : Cmd) (ks : List Nat) (s v : State), s.starting cmd 6 = some c → (s.links.ends.any fun e =>
    decide (e.cmd = c.id)) = false → s.cairnArrive c.id c.ctx (c.at 8 8) = v → v.cairnTurn c.id c.ctx (c.at 8 8) =
    true → (v.ckeys c.id c.ctx (c.at 16 8) (c.at 24 4) 0).toOption = some ks → (v.tree c.ctx (c.at 8
    8)).toOption.isSome = true → ∃ u, exec (.prefixLookup cmd) s = .next u ∧ ((v.tree c.ctx (c.at 8 8)).toOption.map
    (fun h => (v.cairnSeen c (c.at 24 4)).lookup c h ks) = some u) ∧ Frame [.free, .out, .entries, .ctxEntries,
    .host, .near, .nearMem, .bulk, .bulkMem, .rings, .msix, .pages, .cmds, .ctxs, .serve, .links, .health, .power] s u) ∧
  (∀ (cmd : Nat) (c : Cmd) (s : State), s.starting cmd 7 = some c → (s.links.ends.any fun e => decide (e.cmd = c.id))
    = false → (s.cairnArrive c.id c.ctx (c.at 8 8)).cairnTurn c.id c.ctx (c.at 8 8) = false → ∃ u, exec
    (.prefixInsert cmd) s = .next u ∧ u = (s.cairnArrive c.id c.ctx (c.at 8 8)).stage c .running ∧ u.near = s.near ∧
    u.bulk = s.bulk ∧ u.host = s.host ∧ Frame [.cmds, .serve] s u) ∧
  (∀ (cmd : Nat) (c : Cmd) (n m : Nat) (s v : State), s.starting cmd 7 = some c → (s.links.ends.any fun e => decide
    (e.cmd = c.id)) = false → s.cairnArrive c.id c.ctx (c.at 8 8) = v → v.cairnTurn c.id c.ctx (c.at 8 8) = true →
    v.ckeys c.id c.ctx (c.at 16 8) (c.at 24 4) 0 = .error (.code n m) → ∃ u, exec (.prefixInsert cmd) s = .next u ∧ u
    = ((((v.cairnSeen c (c.at 24 4)).accessed otherUnit c.ctx (c.at 32 8) (8 * c.at 24 4)).cairnOver c.id).cbump
    c.ctx 13 4 32).complete c stCairn (n + m * 2 ^ 8) ∧ u.cmd cmd = none ∧ Frame [.free, .out, .entries, .ctxEntries,
    .host, .near, .nearMem, .bulk, .bulkMem, .rings, .msix, .pages, .cmds, .ctxs, .serve, .links, .health, .power] s u) ∧
  (∀ (cmd : Nat) (c : Cmd) (ks ps : List Nat) (h : Tree) (s v : State), s.starting cmd 7 = some c → (s.links.ends.any
    fun e => decide (e.cmd = c.id)) = false → s.cairnArrive c.id c.ctx (c.at 8 8) = v → v.cairnTurn c.id c.ctx (c.at
    8 8) = true → (v.ckeys c.id c.ctx (c.at 16 8) (c.at 24 4) 0).toOption = some ks → (v.cvalues c.id c.ctx (c.at 32
    8) (c.at 24 4)).toOption = some ps → (v.tree c.ctx (c.at 8 8)).toOption = some h → (((v.cairnSeen c (c.at 24
    4)).accessed otherUnit c.ctx (c.at 32 8) (8 * c.at 24 4)).insert h (ks.zip ps) none).1.toOption.isSome = true → ∃
    u, exec (.prefixInsert cmd) s = .next u ∧ ((((v.cairnSeen c (c.at 24 4)).accessed otherUnit c.ctx (c.at 32 8) (8
    * c.at 24 4)).insert h (ks.zip ps) none).1.toOption.map (fun r => ((((r.1.s.noteMet c.ctx (((v.cairnSeen c (c.at
    24 4)).accessed otherUnit c.ctx (c.at 32 8) (8 * c.at 24 4)).insert h (ks.zip ps) none).2).moveLinks
    r.1.relinks).cairnOver c.id).cbump c.ctx 13 3 64 r.2).complete c 0 r.2) = some u) ∧ u.cmd cmd = none ∧ Frame
    [.free, .out, .entries, .ctxEntries, .host, .near, .nearMem, .bulk, .bulkMem, .rings, .msix, .pages, .cmds,
    .ctxs, .serve, .links, .health, .power] s u) ∧
  (∀ (ctx : CtxId) (tree : BitVec 64) (t : Nat) (d : DeadNode) (s : State), s.treeHeld ctx.val tree.toNat = false →
    ((s.serve.dead.filter fun e => decide (e.ctx = ctx.val) && decide (e.tree = tree.toNat)) = [d]) →
    ((s.serve.dead.find? fun e => decide (e.ctx = d.ctx) && decide (e.node = d.node)) = some d) → ∃ u,
    exec (.cairnFreeing ctx tree t) s = .next u ∧ u = (s.at t).freeDead d ∧ u.deadIn ctx.val tree.toNat = false ∧
    Frame [.free, .out, .uptime, .entries, .ctxEntries, .host, .near, .nearMem, .bulk, .bulkMem, .msix, .pages,
    .serve, .power] s u)

/-- LOAD_ROUTE with its options, and the activation that ends it (R176, R178, R180, R345, R370, R639). Chosen by the
model: a row whose condition does not hold changes nothing (log entry 2), checks of CTRL and FLAGS bits and of the
directory (34, 35), overlapping items, ADDR_MODE bits and the load that waits (105), a cluster isolated before the
activation (124). Commands: LOAD_ROUTE, LOAD_ROUTE_STAGE, LOAD_ROUTE_EVICT, ROUTE_LOAD_DONE. -/
def Obligations.RouteLoads : Prop :=
  (∀ (cmd : Nat) (c : Cmd) (f : Fail) (s : State), s.starting cmd 3 = some c → c.at 20 1 = 0 → s.earlierLoad c.id
    (s.loadFootprint c) = false → s.earlierEviction c.id (s.loadFootprint c) = false → (s.array.rappels.any fun r =>
    overlaps r.footprint (s.loadFootprint c)) = false → s.checkLoad c = .error f → ∃ u, exec (.loadRoute cmd) s =
    .next u ∧ u = ((((if (s.stagedImage c.ctx (c.at 16 4)).isSome then s else s.imageSeen c.ctx (c.at 8 8)).dropLoad
    c.id).noteFail c.ctx f).completeOn c f.status f.value).kick ∧ u.cmd cmd = none ∧ Frame [.free, .out, .entries,
    .ctxEntries, .host, .near, .nearMem, .bulk, .bulkMem, .rings, .msix, .pages, .cmds, .steps, .array, .ctxs,
    .health, .power] s u) ∧
  (∀ (cmd : Nat) (c : Cmd) (x : BitVec 64 × Nat × Bytes) (s : State), s.starting cmd 3 = some c → c.at 20 1 = 0 →
    s.earlierLoad c.id (s.loadFootprint c) = false → s.earlierEviction c.id (s.loadFootprint c) = false →
    (s.array.rappels.any fun r => overlaps r.footprint (s.loadFootprint c)) = false → s.checkLoad c = .ok x →
    s.poolOfFootprint x.1 = none → s.array.evictions = [] → (if (s.stagedImage c.ctx (c.at 16 4)).isSome then s else
    s.imageSeen c.ctx (c.at 8 8)).preloadFails c.ctx x.2.2 = none → ∃ u, exec (.loadRoute cmd) s = .next u ∧ u =
    ((((((if (s.stagedImage c.ctx (c.at 16 4)).isSome then s else s.imageSeen c.ctx (c.at 8 8)).dropLoad
    c.id).stageOnce c.ctx (c.at 16 4) x.1 x.2.1 x.2.2).addLoad
    { cmd := cmd, ctx := c.ctx, id := c.at 16 4, footprint := x.1, image := x.2.1, bytes := x.2.2 }).stage c
    .running).kick) ∧ (u.cmd cmd).map (·.stage) = some .running ∧ u.array.loads.map (·.cmd) = (s.array.loads.filter
    (fun m => decide (m.cmd ≠ cmd))).map (·.cmd) ++ [cmd] ∧ u.array.routes = s.array.routes ∧ Frame [.free, .entries,
    .ctxEntries, .near, .bulk, .cmds, .array, .power] s u) ∧
  (∀ (cmd : Nat) (c : Cmd) (x : BitVec 64 × Nat × Bytes) (s : State), s.starting cmd 3 = some c → c.at 20 1 = 0 →
    s.earlierLoad c.id (s.loadFootprint c) = false → s.earlierEviction c.id (s.loadFootprint c) = false →
    (s.array.rappels.any fun r => overlaps r.footprint (s.loadFootprint c)) = false → s.checkLoad c = .ok x →
    (s.poolOfFootprint x.1).isSome = true → s.holdsGrant c.ctx = false → ∃ u, exec (.loadRoute cmd) s = .next u ∧ u =
    ((if (s.stagedImage c.ctx (c.at 16 4)).isSome then s else s.imageSeen c.ctx (c.at 8 8)).addLoad
    { cmd := c.id, ctx := c.ctx, id := c.at 16 4, footprint := s.loadFootprint c, image := c.at 8 8, bytes := [], checked := false, stageOnly := false }).awaitGrant
    c ∧ Frame [.free, .out, .entries, .ctxEntries, .host, .near, .nearMem, .bulk, .bulkMem, .rings, .msix, .pages,
    .cmds, .steps, .array, .ctxs, .health, .power] s u) ∧
  (∀ (cmd : Nat) (c : Cmd) (f : Fail) (s : State), s.starting cmd 3 = some c → c.at 20 1 = 1 → s.earlierLoad c.id
    (s.loadFootprint c) = false → s.earlierEviction c.id (s.loadFootprint c) = false → (s.array.rappels.any fun r =>
    overlaps r.footprint (s.loadFootprint c)) = false → s.checkLoad c = .error f → ∃ u, exec (.loadRouteStage cmd) s
    = .next u ∧ u = ((((if (s.stagedImage c.ctx (c.at 16 4)).isSome then s else s.imageSeen c.ctx (c.at 8
    8)).dropLoad c.id).noteFail c.ctx f).completeOn c f.status f.value).kick ∧ u.cmd cmd = none ∧ Frame [.free, .out,
    .entries, .ctxEntries, .host, .near, .nearMem, .bulk, .bulkMem, .rings, .msix, .pages, .cmds, .steps, .array,
    .ctxs, .health, .power] s u) ∧
  (∀ (cmd : Nat) (c : Cmd) (x : BitVec 64 × Nat × Bytes) (s : State), s.starting cmd 3 = some c → c.at 20 1 = 1 →
    s.earlierLoad c.id (s.loadFootprint c) = false → s.earlierEviction c.id (s.loadFootprint c) = false →
    (s.array.rappels.any fun r => overlaps r.footprint (s.loadFootprint c)) = false → s.checkLoad c = .ok x →
    s.poolOfFootprint x.1 = none → (if (s.stagedImage c.ctx (c.at 16 4)).isSome then s else s.imageSeen c.ctx (c.at 8
    8)).preloadFails c.ctx x.2.2 = none → ∃ u, exec (.loadRouteStage cmd) s = .next u ∧ u = ((((if (s.stagedImage
    c.ctx (c.at 16 4)).isSome then s else s.imageSeen c.ctx (c.at 8 8)).dropLoad c.id).stageOnce c.ctx (c.at 16 4)
    x.1 x.2.1 x.2.2).completeOn c 0 (c.at 16 4)).kick ∧ u.cmd cmd = none ∧ Frame [.free, .out, .entries, .ctxEntries,
    .host, .near, .nearMem, .bulk, .bulkMem, .rings, .msix, .pages, .cmds, .steps, .array, .ctxs, .health, .power] s
    u) ∧
  (∀ (cmd : Nat) (c : Cmd) (s : State), s.starting cmd 3 = some c → c.at 20 1 = 2 → s.array.loads = [] →
    s.array.evictions = [] → s.routeOf c.ctx (c.at 16 4) = none → ∃ u, exec (.loadRouteEvict cmd) s = .next u ∧ u =
    ((({ s with array := { s.array with evictions := [(cmd, c.at 16 4, c.ctx)] } } : State).accept cmd).stage c
    .running).closeEviction cmd stHandle 0 ∧ u.cmd cmd = none ∧ u.array.routes = s.array.routes ∧ u.array.evictions =
    [] ∧ Frame [.free, .out, .entries, .ctxEntries, .host, .near, .nearMem, .bulk, .bulkMem, .rings, .msix, .pages,
    .cmds, .array, .health, .power] s u) ∧
  (∀ (cmd : Nat) (c : Cmd) (r : Route) (s : State), s.starting cmd 3 = some c → c.at 20 1 = 2 → s.array.loads = [] →
    s.array.evictions = [] → s.routeOf c.ctx (c.at 16 4) = some r → r.parked = true → s.busy r.footprint = false → ∃
    u, exec (.loadRouteEvict cmd) s = .next u ∧ u.routeOf c.ctx (c.at 16 4) = none ∧ u.cmd cmd = none ∧
    u.array.evictions = [] ∧ Frame [.free, .out, .entries, .ctxEntries, .host, .near, .nearMem, .bulk, .bulkMem,
    .rings, .msix, .pages, .cmds, .array, .health, .power] s u) ∧
  (∀ (cmd : Nat) (c : Cmd) (r : Route) (s : State), s.starting cmd 3 = some c → c.at 20 1 = 2 → s.array.loads = [] →
    s.array.evictions = [] → s.routeOf c.ctx (c.at 16 4) = some r → r.parked = false → ∃ u, exec (.loadRouteEvict
    cmd) s = .next u ∧ u.array.evictions = [(cmd, c.at 16 4, c.ctx)] ∧ u.array.routes = s.array.routes ∧ (u.cmd
    cmd).map (·.stage) = some .running ∧ (s.busy r.footprint = true ∨ (u.array.rappels.any fun q => decide
    (q.footprint = r.footprint) && q.purposes.contains (.evict cmd)) = true) ∧ Frame [.free, .ctxEntries, .cmds,
    .array] s u) ∧
  (∀ (cmd t : Nat) (c : Cmd) (l : LoadRun) (s : State), s.cmd cmd = some c → ((s.array.loads.find? fun m => decide
    (m.cmd = cmd)) = some l) → l.draining = true → s.stillFor (.load cmd) = false → s.busy l.footprint = false →
    s.preloadFails l.ctx l.bytes = none → s.attached l.ctx = none → c.ctx = l.ctx → ∃ u, exec (.routeLoadDone cmd t)
    s = .next u ∧ u.cmd cmd = none ∧ (u.array.loads.all (fun m => decide (m.cmd ≠ cmd)) = true) ∧ ((u.routeOf l.ctx
    l.id).map (fun r => (r.footprint, r.image, r.bytes, r.parked)) = some (l.footprint, l.image, l.bytes, false)) ∧
    ((clustersOf l.footprint).all (fun k => decide ((u.resident k).map (fun r => (r.ctx, r.id)) = some (l.ctx,
    l.id))) = true) ∧ u.uptime = max s.uptime t ∧ Frame [.free, .out, .uptime, .entries, .ctxEntries, .host, .near,
    .nearMem, .bulk, .bulkMem, .rings, .msix, .pages, .cmds, .steps, .array, .ctxs, .health, .power] s u) ∧
  (∀ (cmd : Nat) (c : Cmd) (s : State), s.starting cmd 3 = some c → c.at 20 1 = 0 → (s.earlierLoad c.id
    (s.loadFootprint c) = true ∨ s.earlierEviction c.id (s.loadFootprint c) = true ∨ (s.array.rappels.any fun r =>
    overlaps r.footprint (s.loadFootprint c)) = true) → (s.poolOfFootprint (s.loadFootprint c) = none ∨ s.holdsGrant
    c.ctx = true) → ∃ u, exec (.loadRoute cmd) s = .next u ∧ u = s.addLoad
    { cmd := c.id, ctx := c.ctx, id := c.at 16 4, footprint := s.loadFootprint c, image := c.at 8 8, bytes := [], checked := false, stageOnly := false }
    ∧ u.cmds = s.cmds ∧ u.array.routes = s.array.routes ∧ Frame [.array] s u) ∧
  (∀ (cmd : Nat) (c : Cmd) (s : State), s.starting cmd 3 = some c → c.at 20 1 = 1 → (s.earlierLoad c.id
    (s.loadFootprint c) = true ∨ s.earlierEviction c.id (s.loadFootprint c) = true ∨ (s.array.rappels.any fun r =>
    overlaps r.footprint (s.loadFootprint c)) = true) → (s.poolOfFootprint (s.loadFootprint c) = none ∨ s.holdsGrant
    c.ctx = true) → ∃ u, exec (.loadRouteStage cmd) s = .next u ∧ u = s.addLoad
    { cmd := c.id, ctx := c.ctx, id := c.at 16 4, footprint := s.loadFootprint c, image := c.at 8 8, bytes := [], checked := false, stageOnly := true }
    ∧ u.cmds = s.cmds ∧ u.array.routes = s.array.routes ∧ Frame [.array] s u) ∧
  (∀ (cmd : Nat) (c : Cmd) (s : State), s.starting cmd 3 = some c → c.at 20 1 = 0 → (s.earlierLoad c.id
    (s.loadFootprint c) = true ∨ s.earlierEviction c.id (s.loadFootprint c) = true ∨ (s.array.rappels.any fun r =>
    overlaps r.footprint (s.loadFootprint c)) = true) → (s.poolOfFootprint (s.loadFootprint c)).isSome = true →
    s.holdsGrant c.ctx = false → ∃ u, exec (.loadRoute cmd) s = .next u ∧ u = (s.addLoad
    { cmd := c.id, ctx := c.ctx, id := c.at 16 4, footprint := s.loadFootprint c, image := c.at 8 8, bytes := [], checked := false, stageOnly := false }).decideGrantOf
    c.ctx ∧ u.array.routes.map (·.id) = s.array.routes.map (·.id) ∧ Frame [.free, .out, .entries, .ctxEntries, .host,
    .near, .nearMem, .bulk, .bulkMem, .rings, .msix, .pages, .cmds, .steps, .array, .ctxs, .health, .power] s u) ∧
  (∀ (cmd : Nat) (c : Cmd) (s : State), s.starting cmd 3 = some c → c.at 20 1 = 1 → (s.earlierLoad c.id
    (s.loadFootprint c) = true ∨ s.earlierEviction c.id (s.loadFootprint c) = true ∨ (s.array.rappels.any fun r =>
    overlaps r.footprint (s.loadFootprint c)) = true) → (s.poolOfFootprint (s.loadFootprint c)).isSome = true →
    s.holdsGrant c.ctx = false → ∃ u, exec (.loadRouteStage cmd) s = .next u ∧ u = (s.addLoad
    { cmd := c.id, ctx := c.ctx, id := c.at 16 4, footprint := s.loadFootprint c, image := c.at 8 8, bytes := [], checked := false, stageOnly := true }).decideGrantOf
    c.ctx ∧ u.array.routes.map (·.id) = s.array.routes.map (·.id) ∧ Frame [.free, .out, .entries, .ctxEntries, .host,
    .near, .nearMem, .bulk, .bulkMem, .rings, .msix, .pages, .cmds, .steps, .array, .ctxs, .health, .power] s u)

/-- The cut-off and quiescence of a Rappel, a passed deadline and the end of a context switch (R44, R197, R198,
R199, R371, R386, R578). Chosen by the model: a row whose condition does not hold changes nothing (log entry 2), a
context reset during a switch (26), a fenced outgoing context (33). Commands: RAPPEL_CUTOFF, RAPPEL_QUIESCENCE,
DEADLINE_EXPIRED, CONTEXT_SWITCH_DONE. -/
def Obligations.Rappels : Prop :=
  (∀ (footprint : BitVec 64) (t : Nat) (r : Rappel) (s : State), Canonical s →
    ((s.array.rappels.find? fun q => decide (q.footprint = footprint)) = some r) → r.cut = false →
    r.start + s.dget 0x2500 2 * 1000 ≤ t → ∃ u, exec (.rappelCutoff footprint t) s = .next u ∧
    u.epochOf r.ctx = (s.epochOf r.ctx + 1) % 65536 ∧
    ((u.array.rappels.any fun q => decide (q.footprint = footprint) && !q.cut) = false) ∧
    u.array.routes = s.array.routes ∧ Frame [.free, .uptime, .ctxEntries, .steps, .array, .ctxs, .links] s u) ∧
  (∀ (footprint : BitVec 64) (t : Nat) (r : Rappel) (s : State),
    ((s.array.rappels.find? fun q => decide (q.footprint = footprint)) = some r) →
    t < r.start + s.dget 0x2500 2 * 1000 → ∃ u, exec (.rappelCutoff footprint t) s = .next u ∧ u = s ∧ Frame [] s u) ∧
  (∀ (footprint : BitVec 64) (t : Nat) (unclear : List ClusterId) (r : Rappel) (s : State), ((s.array.rappels.find?
    fun q => decide (q.footprint = footprint)) = some r) → (r.cut = true ∨ s.runsOn r = false) → ∃ u, exec
    (.rappelQuiescence footprint t unclear) s = .next u ∧ u = (((s.at t).abandonRequests r).quiesce r (unclear.map
    (·.val))).nextSearch.serveHeld ∧ Frame [.free, .out, .uptime, .dev, .entries, .ctxEntries, .host, .near,
    .nearMem, .bulk, .bulkMem, .store, .rings, .loops, .msix, .pages, .counters, .cmds, .steps, .array, .ctxs,
    .serve, .tru, .links, .kop, .health, .power] s u) ∧
  (∀ (footprint : BitVec 64) (t : Nat) (unclear : List ClusterId) (r : Rappel) (s : State), s.array.rappels = [r] →
    r.footprint = footprint → unclear = [] → r.purposes = [] → s.array.loads = [] → s.array.evictions = [] → s.steps
    = [] → s.ctxs.hang = none → s.ctxs.stalls = [] → s.ctxs.resets = [] → s.links.requests = [] → ((clustersOf
    footprint).all (fun k => !(s.cluster k).frozen) = true) → s.dev.mode = .service → ∃ u, exec (.rappelQuiescence
    footprint t unclear) s = .next u ∧ u.array.rappels = [] ∧ u.array.clusters = clearKeys s.array.clusters footprint
    1 ∧ ((u.array.cores.all fun kv => !footprint.getLsbD (kv.1 / 16) || decide (kv.2 =
    { passes := kv.2.passes, progress := kv.2.progress, moved := kv.2.moved, marks := kv.2.marks })) = true) ∧
    u.array.streams = clearKeys s.array.streams footprint 512 ∧ u.array.routes = s.array.routes ∧ u.near = s.near ∧
    Frame [.uptime, .array] s u) ∧
  (∀ (cmd t : Nat) (c : Cmd) (p : Step) (s : State), s.cmd cmd = some c → s.step? cmd = some p → c.at 20 4 ≠ 0 →
    p.missed = false → p.committed = false → p.origin + ctField (c.at 20 4) ≤ s.cdu.phase (max s.uptime t) → ∃ u,
    exec (.deadlineExpired cmd t) s = .next u ∧ u.step? cmd = some { p with missed := true } ∧
    u.uptime = max s.uptime t ∧ Frame [.uptime, .steps] s u) ∧
  (∀ (pool : Fin 16) (t : Nat) (w : Switch) (s : State), tfind s.ctxs.switches pool.val = some w →
    s.stillFor (.switch pool.val) = false → w.outgoing = none → s.fenced w.incoming = false →
    ((s.at t).restoreAll w.incoming pool.val ((s.at t).poolRegions pool.val)).2 = none →
    tsorted none s.ctxs.switches = true → ∃ u, exec (.contextSwitchDone pool t) s = .next u ∧
    u = (((s.at t).restoreAll w.incoming pool.val ((s.at t).poolRegions pool.val)).1.endSwitch pool.val w).unpark w.incoming pool.val ∧
    tfind u.ctxs.switches pool.val = none ∧ Frame [.free, .out, .uptime, .entries, .ctxEntries, .host, .near,
    .nearMem, .bulk, .bulkMem, .rings, .loops, .msix, .pages, .cmds, .steps, .array, .ctxs, .serve, .links,
    .health, .power] s u) ∧
  (∀ (pool : Fin 16) (t : Nat) (s : State), tfind s.ctxs.switches pool.val = none → ∃ u,
    exec (.contextSwitchDone pool t) s = .next u ∧ u = s ∧ Frame [] s u)

/-- LAUNCH_STEP, STEP_READY and STEP_LAUNCH (R30, R195, R196, R264, R340, R376, R377, R378). Chosen by the model: a
row whose condition does not hold changes nothing (log entry 2), the order of the launch checks (23), when a step
counts as started (30), isolated clusters (36), what a launch keeps (49). Commands: LAUNCH_STEP, STEP_READY,
STEP_LAUNCH. -/
def Obligations.StepLaunches : Prop :=
  (∀ (cmd : Nat) (c : Cmd) (s : State), s.starting cmd 1 = some c → s.installing = true → c.ctx ≠ 256 → ∃ u,
    exec (.launchStep cmd) s = .next u ∧ u = s.complete c stStopped 0 ∧ u.cmd cmd = none ∧ Frame [.free, .out,
    .entries, .ctxEntries, .host, .near, .nearMem, .bulk, .bulkMem, .rings, .msix, .pages, .cmds, .health, .power] s u) ∧
  (∀ (cmd : Nat) (c : Cmd) (s : State), s.starting cmd 1 = some c → (s.installing = false ∨ c.ctx = 256) → ∃ u,
    exec (.launchStep cmd) s = .next u ∧ (u.cmd cmd).map (·.stage) = some .queued ∧ u.cmds.length = s.cmds.length ∧
    Frame [.cmds] s u) ∧
  (∀ (cmd t : Nat) (c : Cmd) (s : State), s.cmd cmd = some c → s.serving = true → c.op = 1 → c.stage = .queued →
    s.loopBusy c = false → s.launchHolds c = true → s.attached c.ctx = none → ∃ u,
    exec (.stepReady cmd t) s = .next u ∧ (u.cmd cmd).map (·.stage) = some .ready ∧ u.steps.dropLast = s.steps ∧
    (u.steps.getLast?.map (fun p => (p.cmd, p.ring, p.ctx, p.seq, p.readyTime, p.launched)) = some (cmd, c.ring,
    c.ctx, (s.loopOf c.ring).seq + 1, max s.uptime t, false)) ∧ Frame [.free, .uptime, .ctxEntries, .loops, .cmds,
    .steps] s u) ∧
  (∀ (cmd t : Nat) (c : Cmd) (s : State), s.cmd cmd = some c → s.serving = true → c.op = 1 → c.stage = .queued →
    s.loopBusy c = false → s.launchHolds c = true → ∃ u, exec (.stepReady cmd t) s = .next u ∧ u = (s.at t).makeReady
    c ∧ Frame [.free, .uptime, .entries, .ctxEntries, .bulk, .loops, .cmds, .steps, .array, .ctxs] s u) ∧
  (∀ (cmd t : Nat) (c : Cmd) (s : State), s.cmd cmd = some c → s.serving = true → c.op = 1 → c.stage = .queued →
    (s.loopBusy c = true ∨ s.launchHolds c = false) → ∃ u, exec (.stepReady cmd t) s = .next u ∧ u = s ∧ Frame [] s u) ∧
  (∀ (cmd t : Nat) (c : Cmd) (p : Step) (q : Step) (s : State), s.cmd cmd = some c → s.step? cmd = some p → p.latched
    = false → s.canLaunch { p with footprint := s.firstFootprint c } = true → (((s.at t).stage c
    .running).launchChecks c { p with footprint := s.firstFootprint c }) = .ok q → ∃ u, exec (.stepLaunch cmd t) s =
    .next u ∧ u = (((s.at t).stage c .running).blockSeen c).startStep q ∧ Frame [.free, .out, .uptime, .entries,
    .ctxEntries, .host, .near, .nearMem, .bulk, .bulkMem, .rings, .loops, .msix, .pages, .cmds, .steps, .array,
    .ctxs, .serve, .tru, .links, .health, .power] s u) ∧
  (∀ (cmd t : Nat) (c : Cmd) (p : Step) (q : Step) (s : State), s.cmd cmd = some c → s.step? cmd = some p → p.latched
    = false → s.canLaunch { p with footprint := s.firstFootprint c } = true → (((s.at t).stage c
    .running).launchChecks c { p with footprint := s.firstFootprint c }) = .ok q → q.members = [] → ((s.at t).stage c
    .running).phaseResident q = true → ∃ u, exec (.stepLaunch cmd t) s = .next u ∧ ((u.step? cmd).map (fun r =>
    (r.launched, r.seq, r.routes, r.footprint, r.attempt, r.launchTime)) = some (true, q.seq, q.routes, q.footprint,
    q.attempt, max s.uptime t)) ∧ u.array.clusters = clearKeys s.array.clusters q.footprint 1 ∧ u.array.streams =
    clearKeys s.array.streams q.footprint 512 ∧ (u.cmd cmd).map (·.stage) = some .running ∧ Frame [.free, .uptime,
    .entries, .bulk, .cmds, .steps, .array, .power] s u) ∧
  (∀ (cmd t : Nat) (c : Cmd) (p : Step) (f : Fail) (s : State), s.cmd cmd = some c → s.step? cmd = some p → p.latched
    = false → s.canLaunch { p with footprint := s.firstFootprint c } = true → (((s.at t).stage c
    .running).launchChecks c { p with footprint := s.firstFootprint c }) = .error f → ∃ u, exec (.stepLaunch cmd t) s
    = .next u ∧ u = (((s.at t).stage c .running).blockSeen c).failLaunch { p with footprint := s.firstFootprint c } f
    ∧ u.cmd cmd = none ∧ u.step? cmd = none ∧ Frame [.free, .out, .uptime, .entries, .ctxEntries, .host, .near,
    .nearMem, .bulk, .bulkMem, .rings, .loops, .msix, .pages, .cmds, .steps, .array, .ctxs, .serve, .tru, .links,
    .health, .power] s u) ∧
  (∀ (cmd t : Nat) (c : Cmd) (p : Step) (s : State), s.cmd cmd = some c → s.step? cmd = some p → p.latched = true →
    s.canLaunch p = true → s.phaseResident p = true → p.members = [] → ∃ u, exec (.stepLaunch cmd t) s = .next u ∧
    ((u.step? cmd).map (fun r => (r.launched, r.seq, r.attempt, r.replays, r.trialReplays)) = some (true, p.seq,
    p.attempt + 1, p.replays + 1, p.trialReplays + 1)) ∧ u.array.clusters = clearKeys s.array.clusters p.footprint 1
    ∧ Frame [.free, .uptime, .entries, .cmds, .steps, .array, .power] s u) ∧
  (∀ (cmd t : Nat) (c : Cmd) (p : Step) (s : State), s.cmd cmd = some c → s.step? cmd = some p → p.launched = true →
    ∃ u, exec (.stepLaunch cmd t) s = .next u ∧ u = s ∧ Frame [] s u)

/-- The end of a phase and of a step's execution: the commit of a step (R36, R37, R189, R196, R377, R451). Chosen by
the model: a row whose condition does not hold changes nothing (log entry 2), the deadline at a commit (30),
interference (31), undefined bytes (97). Commands: PHASE_END, STEP_EXECUTION_END. -/
def Obligations.StepEnds : Prop :=
  (∀ (cmd t : Nat) (p : Step) (s : State), s.step? cmd = some p → s.phaseOver p = true → p.phase + 1 < p.routes.length
    → p.exchanges = [] → s.tru.exchanges = [] → ∃ u, exec (.phaseEnd cmd t) s = .next u ∧ ((u.array.rappels.any fun r
    => decide (r.footprint = p.footprint) && r.purposes.contains (.phase cmd)) = true) ∧ u.step? cmd = some p ∧
    u.array.routes = s.array.routes ∧ Frame [.free, .uptime, .entries, .ctxEntries, .array] s u) ∧
  (∀ (cmd t : Nat) (p : Step) (s : State), s.step? cmd = some p →
    (s.phaseOver p = false ∨ p.routes.length ≤ p.phase + 1) → ∃ u, exec (.phaseEnd cmd t) s = .next u ∧ u = s ∧
    Frame [] s u) ∧
  (∀ (cmd t : Nat) (p : Step) (c : Cmd) (s : State), s.step? cmd = some p → s.phaseOver p = true →
    p.routes.length ≤ p.phase + 1 → p.triggered = true → s.exchangesDone cmd = true → s.flushing cmd = false →
    p.portsUsed = [] → p.cruxEn = false → p.lane = none → p.members = [] → s.cmd cmd = some c →
    tsorted none s.hif.loops = true → ∃ u, exec (.stepExecutionEnd cmd t) s = .next u ∧
    (u.loopOf p.ring).seq = p.seq ∧ u.cmd cmd = none ∧ u.step? cmd = none ∧ Frame [.free, .out, .uptime, .entries,
    .ctxEntries, .host, .near, .nearMem, .bulk, .bulkMem, .rings, .loops, .msix, .pages, .counters, .cmds, .steps,
    .array, .ctxs, .serve, .tru, .links, .health, .power] s u) ∧
  (∀ (cmd t : Nat) (p : Step) (g : Signal) (s : State), Canonical s → s.step? cmd = some p → s.phaseOver p = true →
    p.routes.length ≤ p.phase + 1 → p.triggered = true → s.exchangesDone cmd = true → s.flushing cmd = false →
    p.portsUsed = [] → p.cruxEn = false → p.lane = none → p.members = [] → p.signals = [g] → ∃ u,
    exec (.stepExecutionEnd cmd t) s = .next u ∧
    u.counter g.counter = (if g.set then g.value else s.counter g.counter + g.value) ∧ (∀ n, n ≠ g.counter →
    u.counter n = s.counter n) ∧ Frame [.free, .out, .uptime, .entries, .ctxEntries, .host, .near, .nearMem, .bulk,
    .bulkMem, .rings, .loops, .msix, .pages, .counters, .cmds, .steps, .array, .ctxs, .serve, .tru, .links, .health,
    .power] s u) ∧
  (∀ (cmd t : Nat) (p : Step) (s : State), s.step? cmd = some p → s.phaseOver p = true → p.routes.length ≤ p.phase + 1
    → p.triggered = true → s.exchangesDone cmd = true → s.flushing cmd = false → p.portsUsed = [] → p.cruxEn = false
    → p.lane = none → p.members ≠ [] → readyBad p = none → ∃ u, exec (.stepExecutionEnd cmd t) s = .next u ∧
    ((u.step? cmd).map (fun r => (r.ended, r.readySent, r.committed)) = some (true, true, p.committed)) ∧ u.cmds =
    s.cmds ∧ u.hif = s.hif ∧ u.counters = s.counters ∧ Frame [.free, .uptime, .entries, .ctxEntries, .host, .near,
    .nearMem, .bulk, .bulkMem, .steps, .array, .serve, .links, .power] s u) ∧
  (∀ (cmd t : Nat) (p : Step) (s : State), s.step? cmd = some p → s.phaseOver p = true →
    p.routes.length ≤ p.phase + 1 → ∃ u, exec (.stepExecutionEnd cmd t) s = .next u ∧ u = (s.at t).executionEnd p ∧
    Frame [.free, .out, .uptime, .entries, .ctxEntries, .host, .near, .nearMem, .bulk, .bulkMem, .rings, .loops,
    .msix, .pages, .counters, .cmds, .steps, .array, .ctxs, .serve, .tru, .links, .health, .power] s u) ∧
  (∀ (cmd t : Nat) (p : Step) (s : State), s.step? cmd = some p → s.phaseOver p = false → ∃ u,
    exec (.stepExecutionEnd cmd t) s = .next u ∧ u = s ∧ Frame [] s u)

/-- The group commit, an unknown group outcome and stalls (R40, R41, R484, R485, R582, R583, R584). Chosen by the
model: a row whose condition does not hold changes nothing (log entry 2), the order of group messages (32), the
Snapshot of a hang (52), from when a stall counts (108). Commands: GROUP_COMMIT, GROUP_OUTCOME_UNKNOWN,
STEP_STALLED. -/
def Obligations.GroupOutcomes : Prop :=
  (∀ (cmd t : Nat) (p : Step) (s : State), s.step? cmd = some p → p.readySent = true → p.committed = false → p.ending
    = none → readyBad p = none → s.allReady p = true → ∃ u, exec (.groupCommit cmd t) s = .next u ∧ u = (((s.at
    t).commit p).nextSearch).settleRecovery ∧ u.cmd cmd = none ∧ Frame [.free, .out, .uptime, .dev, .entries,
    .ctxEntries, .host, .near, .nearMem, .bulk, .bulkMem, .store, .rings, .loops, .msix, .pages, .counters, .cmds,
    .steps, .array, .ctxs, .serve, .tru, .links, .kop, .health, .power] s u) ∧
  (∀ (cmd t : Nat) (p : Step) (st : Nat) (s : State), s.step? cmd = some p → p.readySent = true → p.committed = false
    → p.ending = none → readyBad p = some st → ∃ u, exec (.groupCommit cmd t) s = .next u ∧ u = (s.at t).disagree p
    st ∧ Frame [.free, .out, .uptime, .dev, .entries, .ctxEntries, .host, .near, .nearMem, .bulk, .bulkMem, .store,
    .rings, .loops, .msix, .pages, .counters, .cmds, .steps, .array, .ctxs, .serve, .tru, .links, .kop, .health,
    .power] s u) ∧
  (∀ (cmd t : Nat) (p : Step) (s : State), s.step? cmd = some p → p.readySent = true → p.committed = false → p.ending
    = none → readyBad p = none → s.allReady p = false → ∃ u, exec (.groupCommit cmd t) s = .next u ∧ u = s ∧ Frame []
    s u) ∧
  (∀ (cmd t : Nat) (p : Step) (d : Nat) (s : State), s.step? cmd = some p → p.readySent = true →
    p.committed = false → p.ending = none → s.unknownMember p t = some d → ∃ u,
    exec (.groupOutcomeUnknown cmd t) s = .next u ∧ u.cmd cmd = none ∧ u.step? cmd = none ∧ u.counters = s.counters ∧
    Frame [.free, .out, .uptime, .dev, .entries, .ctxEntries, .host, .near, .nearMem, .bulk, .bulkMem, .store,
    .rings, .loops, .msix, .pages, .cmds, .steps, .array, .ctxs, .serve, .tru, .links, .kop, .health, .power] s u) ∧
  (∀ (cmd t : Nat) (p : Step) (s : State), s.step? cmd = some p → p.readySent = true → p.committed = false →
    p.ending = none → s.unknownMember p t = none → ∃ u, exec (.groupOutcomeUnknown cmd t) s = .next u ∧ u = s ∧
    Frame [] s u) ∧
  (∀ (cmd t : Nat) (core : CoreId) (awaited : List ClusterId) (c : Cmd) (p : Step) (s : State), s.cmd cmd = some c →
    s.step? cmd = some p → s.canStall p core.val = true → s.stallDue c p t = true → s.stallsAt p core.val t = true →
    s.ctxs.hang = none → p.stalled = 0 → p.readySent = false → p.committed = false → ∃ u, exec (.stepStalled cmd t
    core awaited) s = .next u ∧ ((u.step? cmd).map (fun r => (r.stalled, r.ending)) = some (1, some (.replay 6))) ∧
    ((u.array.rappels.any fun r => decide (r.footprint = p.footprint) && r.purposes.contains (.replay cmd)) = true) ∧
    u.near = s.near ∧ Frame [.free, .uptime, .ctxEntries, .steps, .array, .links] s u) ∧
  (∀ (cmd t : Nat) (core : CoreId) (awaited : List ClusterId) (c : Cmd) (p : Step) (s : State), s.cmd cmd = some c →
    s.step? cmd = some p → s.canStall p core.val = true → s.stallDue c p t = true → s.stallsAt p core.val t = true →
    s.ctxs.hang = none → p.stalled ≠ 0 → ∃ u, exec (.stepStalled cmd t core awaited) s = .next u ∧ u = (s.at
    t).search p core.val ((s.at t).suspects p (awaited.map (·.val))) ∧ Frame [.free, .out, .uptime, .entries,
    .ctxEntries, .host, .near, .nearMem, .bulk, .bulkMem, .rings, .loops, .msix, .pages, .cmds, .steps, .array,
    .ctxs, .serve, .tru, .links, .health, .power] s u) ∧
  (∀ (cmd t : Nat) (core : CoreId) (awaited : List ClusterId) (c : Cmd) (p : Step) (s : State), s.cmd cmd = some c →
    s.step? cmd = some p → s.canStall p core.val = true → (s.stallDue c p t = false ∨ s.stallsAt p core.val t =
    false) → ∃ u, exec (.stepStalled cmd t core awaited) s = .next u ∧ u = s ∧ Frame [] s u)

/-- ROUND_START, the arrival of a channel message and the return of a credit (R181, R183, R185, R186, R187, R189,
R190, R451). Chosen by the model: a row whose condition does not hold changes nothing (log entry 2), the order of
actions in a round (42), a full ingress and repeated tags (43), the round that waits in its middle (46), what a
launch keeps (49), the slot wheel (121). Commands: ROUND_START, CHANNEL_MESSAGE_ARRIVAL, CREDIT_RETURN. -/
def Obligations.Rounds : Prop :=
  (∀ (cluster : ClusterId) (d : Due) (s : State), s.due cluster.val = some d → d.k.ended = true → ∃ u,
    exec (.roundStart cluster) s = .next u ∧ u = s ∧ Frame [] s u) ∧
  (∀ (cluster : ClusterId) (d : Due) (s : State), s.due cluster.val = some d → d.k.round = 0 →
    s.gated d.p (d.p.routes.getD d.p.phase 0) = true → ∃ u, exec (.roundStart cluster) s = .next u ∧ u = s ∧
    Frame [] s u) ∧
  (∀ (cluster : ClusterId) (d : Due) (s : State), s.due cluster.val = some d → d.k.ended = false → (d.k.round ≠ 0 ∨
    s.gated d.p (d.p.routes.getD d.p.phase 0) = false) → d.ends s = true → ((d.ingresses.all fun i => (d.ingress
    i).held.isEmpty) = true) → d.k.paused = none → s.links.held = [] → ∃ u, exec (.roundStart cluster) s = .next u ∧
    (u.cluster cluster.val).ended = true ∧ (u.cluster cluster.val).round = d.k.round ∧ u.steps.map (fun p => (p.cmd,
    p.ending, p.launched)) = s.steps.map (fun p => (p.cmd, p.ending, p.launched)) ∧ Frame [.free, .entries, .steps,
    .array] s u) ∧
  (∀ (cluster : ClusterId) (d : Due) (s : State), s.due cluster.val = some d → d.k.ended = false → (d.k.round ≠ 0 ∨
    s.gated d.p (d.p.routes.getD d.p.phase 0) = false) → d.ends s = false → d.jammed s = none → d.waiting s ≠ 0 →
    d.k.paused = none → s.links.held = [] → ∃ u, exec (.roundStart cluster) s = .next u ∧ u.cluster cluster.val =
    { d.k with frozen := true, frozenSince := if d.k.frozen then d.k.frozenSince else s.uptime } ∧ Frame [.array] s u) ∧
  (∀ (cluster : ClusterId) (d : Due) (i : Nat) (s : State), s.due cluster.val = some d → d.k.ended = false →
    (d.k.round ≠ 0 ∨ s.gated d.p (d.p.routes.getD d.p.phase 0) = false) → d.ends s = false → d.jammed s = some i →
    d.k.paused = none → s.links.held = [] → ∃ u, exec (.roundStart cluster) s = .next u ∧ (u.step? d.p.cmd).map
    (·.ending) = some (if d.p.readySent || d.p.committed then d.p.ending else some (.status stRouteFault
    (BitVec.ofNat 64 (cluster.val + i * 2 ^ 8 + 2 * 2 ^ 13)))) ∧ u.array.clusters = s.array.clusters ∧ Frame [.free,
    .ctxEntries, .steps, .array, .links] s u) ∧
  (∀ (cluster : ClusterId) (d : Due) (n : Nat) (s : State), s.due cluster.val = some d → d.k.ended = false →
    (d.k.round ≠ 0 ∨ s.gated d.p (d.p.routes.getD d.p.phase 0) = false) → d.ends s = false → d.jammed s = none →
    d.waiting s = 0 → (d.uses s).any Use.beyond = false → d.tag s = some n → d.k.paused = none → ∃ u, exec
    (.roundStart cluster) s = .next u ∧ u = (d.run s n).serveHeld ∧ Frame [.free, .out, .entries, .ctxEntries, .host,
    .near, .nearMem, .bulk, .bulkMem, .rings, .msix, .pages, .counters, .cmds, .steps, .array, .tru, .links, .health, .power]
    s u) ∧
  (∀ (cluster : ClusterId) (d : Due) (n : Nat) (s : State), s.due cluster.val = some d → d.k.ended = false →
    (d.k.round ≠ 0 ∨ s.gated d.p (d.p.routes.getD d.p.phase 0) = false) → d.ends s = false → d.jammed s = none →
    d.waiting s = 0 → (d.uses s).any Use.beyond = false → d.tag s = some n → d.cores = [] → d.ingresses = [] →
    d.egresses = [] → d.k.frozen = false → d.k.paused = none → s.links.held = [] → ∃ u, exec (.roundStart cluster) s
    = .next u ∧ (u.cluster cluster.val).round = d.k.round + 1 ∧ (u.cluster cluster.val).ended = decide
    (d.p.iterations ≤ d.k.round + 1) ∧ u.steps = s.steps ∧ Frame [.free, .array] s u) ∧
  (∀ (cluster : ClusterId) (egress : Fin 32) (d : Due) (s : State), s.due cluster.val = some d →
    (tget {} d.k.egress egress.val).transit = [] → ∃ u, exec (.channelMessageArrival cluster egress) s = .next u ∧
    u = s ∧ Frame [] s u) ∧
  (∀ (cluster : ClusterId) (egress : Fin 32) (d : Due) (e : Due) (m : Message) (ms : List Message) (s : State),
    tsorted none s.array.clusters = true → tsorted none d.k.egress = true → s.due cluster.val = some d →
    (tget {} d.k.egress egress.val).transit = m :: ms → (byteAt d.image (d.egressAt egress.val + 3)) ≠ cluster.val →
    s.due (byteAt d.image (d.egressAt egress.val + 3)) = some e → m.last = true → ∃ u,
    exec (.channelMessageArrival cluster egress) s = .next u ∧
    (tget {} (u.cluster cluster.val).egress egress.val).transit = ms ∧
    (tget {} (u.cluster (byteAt d.image (d.egressAt egress.val + 3))).ingress (byteAt d.image (d.egressAt egress.val + 4))).ends = (e.ingress (byteAt d.image (d.egressAt egress.val + 4))).ends + 1 ∧
    u.steps = s.steps ∧ Frame [.free, .entries, .array, .health] s u) ∧
  (∀ (cluster : ClusterId) (egress : Fin 32) (d : Due) (e : Due) (m : Message) (ms : List Message) (s : State),
    tsorted none s.array.clusters = true → tsorted none d.k.egress = true → s.due cluster.val = some d →
    (tget {} d.k.egress egress.val).transit = m :: ms → (byteAt d.image (d.egressAt egress.val + 3)) ≠ cluster.val →
    s.due (byteAt d.image (d.egressAt egress.val + 3)) = some e → m.last = false → e.k.ended = false →
    e.duplicate (byteAt d.image (d.egressAt egress.val + 4)) m = false → ∃ u,
    exec (.channelMessageArrival cluster egress) s = .next u ∧
    (tget {} (u.cluster cluster.val).egress egress.val).transit = ms ∧
    (tget {} (u.cluster (byteAt d.image (d.egressAt egress.val + 3))).ingress (byteAt d.image (d.egressAt egress.val + 4))).held = (e.ingress (byteAt d.image (d.egressAt egress.val + 4))).held ++ [m] ∧
    Frame [.free, .entries, .ctxEntries, .steps, .array, .links, .health] s u) ∧
  (∀ (cluster : ClusterId) (egress : Fin 32) (d : Due) (e : Due) (m : Message) (ms : List Message) (s : State),
    tsorted none s.array.clusters = true → tsorted none d.k.egress = true → s.due cluster.val = some d →
    (tget {} d.k.egress egress.val).transit = m :: ms → (byteAt d.image (d.egressAt egress.val + 3)) ≠ cluster.val →
    s.due (byteAt d.image (d.egressAt egress.val + 3)) = some e → m.last = false → e.k.ended = false →
    e.duplicate (byteAt d.image (d.egressAt egress.val + 4)) m = true → e.p.launched = true → e.p.readySent = false →
    e.p.committed = false → e.p.ending = none → ∃ u, exec (.channelMessageArrival cluster egress) s = .next u ∧
    (u.step? e.p.cmd).map (·.ending) = some (some (.status stRouteFault (BitVec.ofNat 64 ((byteAt d.image (d.egressAt egress.val + 3)) + (byteAt d.image (d.egressAt egress.val + 4)) * 2 ^ 8 + 2 ^ 13)))) ∧
    (u.cluster (byteAt d.image (d.egressAt egress.val + 3))).ingress = e.k.ingress ∧ Frame [.free, .entries,
    .ctxEntries, .steps, .array, .links, .health] s u) ∧
  (∀ (cluster : ClusterId) (egress : Fin 32) (d : Due) (s : State), s.due cluster.val = some d →
    (tget {} d.k.egress egress.val).returning = 0 → ∃ u, exec (.creditReturn cluster egress) s = .next u ∧ u = s ∧
    Frame [] s u) ∧
  (∀ (cluster : ClusterId) (egress : Fin 32) (d : Due) (s : State), tsorted none s.array.clusters = true →
    tsorted none d.k.egress = true → s.due cluster.val = some d → (tget {} d.k.egress egress.val).returning ≠ 0 →
    ∃ u, exec (.creditReturn cluster egress) s = .next u ∧
    tget {} (u.cluster cluster.val).egress egress.val = { tget {} d.k.egress egress.val with returning := (tget {} d.k.egress egress.val).returning - 1, spent := (tget {} d.k.egress egress.val).spent - 1 } ∧
    u.steps = s.steps ∧ u.array.cores = s.array.cores ∧ Frame [.free, .entries, .array, .health] s u) ∧
  (∀ (cluster : ClusterId) (d : Due) (w : Pause) (s : State), s.due cluster.val = some d → d.k.ended = false →
    (d.k.round ≠ 0 ∨ s.gated d.p (d.p.routes.getD d.p.phase 0) = false) → d.k.paused = some w → ∃ u, exec
    (.roundStart cluster) s = .next u ∧ u = (d.goOn (s.countFreeze d.cl) w).serveHeld ∧ Frame [.free, .out, .entries,
    .ctxEntries, .host, .near, .nearMem, .bulk, .bulkMem, .rings, .msix, .pages, .counters, .cmds, .steps, .array,
    .tru, .links, .health, .power] s u)

/-- Stream transfers, Rope blocks, and the faults of streams (R278, R279, R283, R285, R288, R290, R293, R294, R298).
Chosen by the model: a row whose condition does not hold changes nothing (log entry 2), the row that brings remote
data (47), the VALUE of damaged lines (48, 55), Ropes (46, 99), two faults of one Rope descriptor (119). Commands:
STREAM_DATA_ARRIVAL, STREAM_WRITE_ACK, ROPE_BLOCK_ARRIVAL, STREAM_TRANSLATION_FAULT, SPR_SAVE, STREAM_FAULT_TIMEOUT. -/
def Obligations.Streams : Prop :=
  (∀ (core : CoreId) (stream : Fin 32) (bytes : Nat) (x : Strm) (a : Nat) (b : Bytes) (s : State), s.strm core.val
    stream.val = some x → x.reads = true → x.st.fault = none → x.st.half0.busy = false → x.st.half1.busy = false → 0
    < bytes → bytes ≤ x.limit - x.st.position → x.addr x.st.position = some a → windowOf a ≠ 3 → bit (byteAt x.image
    (x.o + 1)) 0 = true → x.pieceAt x.st.position a bytes = bytes → s.waitsFrozen x.p.ctx a bytes = false →
    (s.ownView x.p.cmd).read x.p.ctx a bytes = .ok b → ∃ u, exec (.streamDataArrival core stream bytes) s = .next u ∧
    (tget {} u.array.streams x.key).position = x.st.position + b.length ∧ ((tget {} u.array.streams x.key).halfOf
    (x.st.position / max 1 x.half)).data = overlay (x.st.halfOf (x.st.position / max 1 x.half)).data (x.st.position %
    max 1 x.half) b ∧ (tget {} u.array.streams x.key).released = x.st.released ∧ u.array.routes = s.array.routes ∧
    Frame [.free, .entries, .ctxEntries, .bulk, .steps, .array, .links, .health, .power] s u) ∧
  (∀ (core : CoreId) (stream : Fin 32) (bytes : Nat) (x : Strm) (s : State), s.strm core.val stream.val = some x →
    (x.reads = false ∨ x.st.fault.isSome = true) → ∃ u, exec (.streamDataArrival core stream bytes) s = .next u ∧
    u = s ∧ Frame [] s u) ∧
  (∀ (core : CoreId) (stream : Fin 32) (bytes : Nat) (x : Strm) (a : Nat) (s : State), s.strm core.val stream.val =
    some x → x.writes = true → x.st.fault = none → 0 < bytes → bytes ≤ x.limit - x.st.position → x.addr x.st.position
    = some a → x.goesRemote = false → bit (byteAt x.image (x.o + 1)) 0 = true → x.pieceAt x.st.position a bytes =
    bytes → s.waitsFrozen x.p.ctx a bytes = false → ((s.accessed (x.key / 32) x.p.ctx a bytes).writesBy (x.key / 32)
    x.p.ctx (some x.p.cmd) a (slice (x.st.halfOf (x.st.position / max 1 x.half)).data (x.st.position % max 1 x.half)
    bytes)).2 = none → ∃ u, exec (.streamWriteAck core stream bytes) s = .next u ∧ (tget {} u.array.streams
    x.key).position = x.st.position + bytes ∧ u.host = ((s.accessed (x.key / 32) x.p.ctx a bytes).writesBy (x.key /
    32) x.p.ctx (some x.p.cmd) a (slice (x.st.halfOf (x.st.position / max 1 x.half)).data (x.st.position % max 1
    x.half) bytes)).1.host ∧ u.near.mem = ((s.accessed (x.key / 32) x.p.ctx a bytes).writesBy (x.key / 32) x.p.ctx
    (some x.p.cmd) a (slice (x.st.halfOf (x.st.position / max 1 x.half)).data (x.st.position % max 1 x.half)
    bytes)).1.near.mem ∧ u.bulk.mem = ((s.accessed (x.key / 32) x.p.ctx a bytes).writesBy (x.key / 32) x.p.ctx (some
    x.p.cmd) a (slice (x.st.halfOf (x.st.position / max 1 x.half)).data (x.st.position % max 1 x.half)
    bytes)).1.bulk.mem ∧ u.array.routes = s.array.routes ∧ Frame [.free, .entries, .ctxEntries, .host, .near,
    .nearMem, .bulk, .bulkMem, .steps, .array, .links, .health, .power] s u) ∧
  (∀ (core : CoreId) (stream : Fin 32) (bytes : Nat) (x : Strm) (s : State), s.strm core.val stream.val = some x →
    (x.writes = false ∨ x.st.fault.isSome = true) → ∃ u, exec (.streamWriteAck core stream bytes) s = .next u ∧
    u = s ∧ Frame [] s u) ∧
  (∀ (core : CoreId) (i : Nat) (x : Strm) (b : Bytes) (s : State), s.ropeAt core.val = some (i, x) → x.st.fault = none
    → (s.core core.val).rope.length < 4 → x.kind = 5 → x.srcSlice = false → (s.core core.val).ropeCame < x.blocks *
    x.passes → x.deltaOn = false → windowOf (x.src + (s.core core.val).ropeCame % max 1 x.blocks * x.size) ≠ 3 →
    s.waitsFrozen x.p.ctx (x.src + (s.core core.val).ropeCame % max 1 x.blocks * x.size) x.size = false → (s.ownView
    x.p.cmd).read x.p.ctx (x.src + (s.core core.val).ropeCame % max 1 x.blocks * x.size) x.size = .ok b → ∃ u, exec
    (.ropeBlockArrival core) s = .next u ∧ (u.core core.val).ropeCame = (s.core core.val).ropeCame + 1 ∧ (u.core
    core.val).progress = (s.core core.val).progress + 1 ∧ (u.core core.val).rope = (freeSlots x ((s.core
    core.val).rope ++ [{ num := (s.core core.val).ropeCame, data := b }])).map x.withCopy ∧ u.steps = s.steps ∧ Frame
    [.free, .entries, .bulk, .array, .health, .power] s u) ∧
  (∀ (core : CoreId) (i : Nat) (x : Strm) (s : State), s.ropeAt core.val = some (i, x) → s.takesBlock core.val x =
    false → s.tableDue core.val (s.restrm x) = none → ∃ u, exec (.ropeBlockArrival core) s = .next u ∧ u =
    s.readyBlocks core.val (s.restrm x) ∧ (u.core core.val).ropeCame = (s.core core.val).ropeCame ∧ u.near = s.near ∧
    u.bulk = s.bulk ∧ u.host = s.host ∧ Frame [.free, .ctxEntries, .steps, .array, .links] s u) ∧
  (∀ (core : CoreId) (stream : Fin 32) (x : Strm) (f : Halt) (s : State), s.strm core.val stream.val = some x →
    x.st.fault = none → s.nextMiss x = some f → ∃ u, exec (.streamTranslationFault core stream) s = .next u ∧ ((tget
    {} u.array.streams x.key).fault.map (fun r => [r.core, r.stream, r.window, r.kind, r.va, r.position, r.pass,
    r.ctx, r.reader]) = some [x.key / 32, x.key % 32, f.miss.window, f.miss.kind, f.miss.va % 2 ^ 52, f.position,
    f.pass, x.p.ctx, f.reader]) ∧ (tget {} u.array.streams x.key).position = x.st.position ∧ u.steps = s.steps ∧
    Frame [.free, .out, .entries, .ctxEntries, .bulk, .array, .links, .power] s u) ∧
  (∀ (core : CoreId) (stream : Fin 32) (x : Strm) (s : State), s.strm core.val stream.val = some x →
    x.st.fault = none → s.nextMiss x = none → ∃ u, exec (.streamTranslationFault core stream) s = .next u ∧ u = s ∧
    Frame [] s u) ∧
  (∀ (core : CoreId) (stream : Fin 32) (t : Nat) (st : Stream) (r : Spr) (s : State), tget {} s.array.streams
    (core.val * 32 + stream.val) = st → st.fault = some r → st.spr = none → s.streamPending (core.val * 32 +
    stream.val) = false → st.held.filterMap s.cmd = [] → ∃ u, exec (.sprSave core stream t) s = .next u ∧ tget {}
    u.array.streams (core.val * 32 + stream.val) =
    { st with fault := some ((s.at t).delivered core.val stream.val r), spr := some ((s.at t).delivered core.val stream.val r), savedPhase := (s.at t).phase }
    ∧ u.uptime = max s.uptime t ∧ Frame [.free, .out, .uptime, .entries, .ctxEntries, .host, .near, .nearMem, .bulk,
    .bulkMem, .msix, .pages, .array, .power] s u) ∧
  (∀ (core : CoreId) (stream : Fin 32) (t : Nat) (st : Stream) (r : Spr) (s : State),
    tget {} s.array.streams (core.val * 32 + stream.val) = st → st.fault = some r → st.spr = none →
    s.streamPending (core.val * 32 + stream.val) = false → (st.held.filterMap s.cmd).isEmpty = false →
    tsorted none s.array.streams = true → ∃ u, exec (.sprSave core stream t) s = .next u ∧
    (tget {} u.array.streams (core.val * 32 + stream.val)).fault = none ∧
    (tget {} u.array.streams (core.val * 32 + stream.val)).position = st.position ∧
    (((st.held.filterMap s.cmd).all fun c => (u.cmd c.id).isNone) = true) ∧ Frame [.free, .out, .uptime, .entries,
    .ctxEntries, .host, .near, .nearMem, .bulk, .bulkMem, .rings, .msix, .pages, .cmds, .array, .links, .health, .power] s u) ∧
  (∀ (core : CoreId) (stream : Fin 32) (t : Nat) (s : State),
    ((tget {} s.array.streams (core.val * 32 + stream.val)).fault = none ∨ s.streamPending (core.val * 32 + stream.val) = true) →
    ∃ u, exec (.sprSave core stream t) s = .next u ∧ u = s ∧ Frame [] s u) ∧
  (∀ (core : CoreId) (stream : Fin 32) (t : Nat) (x : Strm) (s : State), s.strm core.val stream.val = some x →
    x.st.fault.isSome = true → x.st.spr.isSome = true →
    x.st.savedPhase + s.dget 0x2800 1 * 65536 ≤ s.cdu.phase (max s.uptime t) → x.p.readySent = false →
    x.p.committed = false → x.p.ending = none → ∃ u, exec (.streamFaultTimeout core stream t) s = .next u ∧
    (u.step? x.p.cmd).map (·.ending) = some (some (.status stStreamTimeout (BitVec.ofNat 64 (core.val + stream.val * 2 ^ 16)))) ∧
    u.array.streams = s.array.streams ∧ Frame [.free, .uptime, .ctxEntries, .steps, .array, .links] s u) ∧
  (∀ (core : CoreId) (stream : Fin 32) (t : Nat) (x : Strm) (s : State), s.strm core.val stream.val = some x →
    x.st.fault.isSome = true → x.st.spr.isSome = true →
    s.cdu.phase (max s.uptime t) < x.st.savedPhase + s.dget 0x2800 1 * 65536 → ∃ u,
    exec (.streamFaultTimeout core stream t) s = .next u ∧ u = s ∧ Frame [] s u) ∧
  (∀ (core : CoreId) (stream : Fin 32) (bytes : Nat) (x : Strm) (s : State), s.strm core.val stream.val = some x →
    x.writes = true → x.st.fault = none → x.goesRemote = true → ∃ u, exec (.streamWriteAck core stream bytes) s =
    .next u ∧ u = State.remoteOut (bytes + 1) s x bytes ∧ ((x.st.halfOf (x.st.position / max 1 x.half)).busy = true →
    u = s) ∧ Frame [.free, .ctxEntries, .steps, .array, .ctxs, .links] s u)

/-- READ, WRITE and FLUSH received on a fabric port (R473, R475, R476, R477, R479, R489). Chosen by the model:
header fields and answers that the rules leave open (log entries 73, 76), whose write a WRITE is (117), events of a
path (87). Commands: READ, FLUSH, WRITE. -/
def Obligations.RemoteRequests : Prop :=
  (∀ (port : PortId) (h : PacketHeader) (s : State), s.takes port.val 0x10 0 h = false → (s.port port.val).state ≠ .active →
    ∃ u, exec (.read port h) s = .next u ∧ u = s ∧ Frame [] s u) ∧
  (∀ (port : PortId) (h : PacketHeader) (s : State), (s.port port.val).state = .active → packetOk (s.port port.val)
    0x10 0 h = false → ∃ u, exec (.read port h) s = .next u ∧ u = (s.took port.val 0 h.units.toNat).dbump (0x5010 +
    port.val) 12 0 32 ∧ Frame [.entries, .links] s u) ∧
  (∀ (port : PortId) (h : PacketHeader) (s : State), s.takes port.val 0x10 0 h = true →
    accessOk (s.port port.val) h = true → s.tooOld h = true → ∃ u, exec (.read port h) s = .next u ∧
    u = (s.took port.val 0 0).epochDrop port.val h ∧ Frame [.free, .entries, .ctxEntries, .links] s u) ∧
  (∀ (port : PortId) (h : PacketHeader) (s : State), s.takes port.val 0x10 0 h = true → accessOk (s.port port.val) h =
    true → s.tooOld h = false → ((s.took port.val 0 0).serveRead h.ctx.toNat h.addr.toNat
    h.length.toNat).toOption.isSome = true → (s.took port.val 0 0).heldWaits
    { port := port.val, kind := .read, h := h } = false → ∃ u, exec (.read port h) s = .next u ∧ (((s.took port.val 0
    0).serveRead h.ctx.toNat h.addr.toNat h.length.toNat).toOption.map (fun r => r.2.2.answer port.val h 0x20 r.2.1
    h.addr.toNat h.length.toNat 0 r.1) = some u) ∧ Frame [.free, .entries, .ctxEntries, .bulk, .links, .health,
    .power] s u) ∧
  (∀ (port : PortId) (h : PacketHeader) (s : State), s.takes port.val 0x10 0 h = true →
    accessOk (s.port port.val) h = true → s.tooOld h = false → s.fenced h.ctx.toNat = false →
    counterBase ≤ h.addr.toNat → s.counterRefuses h.ctx.toNat h.addr.toNat h.length.toNat = none → ∃ u,
    exec (.read port h) s = .next u ∧
    u = (s.took port.val 0 0).answer port.val h 0x20 false h.addr.toNat h.length.toNat 0 (leBytes 8 (s.counter ((h.addr.toNat - counterBase) / 8)).toNat) ∧
    Frame [.links] s u) ∧
  (∀ (port : PortId) (h : PacketHeader) (k : Nat) (s : State), s.takes port.val 0x10 0 h = true →
    accessOk (s.port port.val) h = true → s.tooOld h = false → s.fenced h.ctx.toNat = false →
    counterBase ≤ h.addr.toNat → s.counterRefuses h.ctx.toNat h.addr.toNat h.length.toNat = some k → ∃ u,
    exec (.read port h) s = .next u ∧
    u = (s.took port.val 0 0).answer port.val h 0x21 false h.addr.toNat h.length.toNat k [] ∧ Frame [.links] s u) ∧
  (∀ (port : PortId) (h : PacketHeader) (s : State), s.takes port.val 0x11 0 h = true → h.addr.toNat < 2 ^ 40 →
    s.tooOld h = false → (((s.port port.val).refused.find? fun r => decide (r.src = h.src.toNat)) = none) → (s.took
    port.val 0 0).heldWaits { port := port.val, kind := .flush, h := h } = false → ∃ u, exec (.flush port h) s =
    .next u ∧ u = (s.took port.val 0 0).answer port.val h 0x22 false 0 0 0 [] ∧ Frame [.links] s u) ∧
  (∀ (port : PortId) (h : PacketHeader) (r : Refused) (s : State), s.takes port.val 0x11 0 h = true → h.addr.toNat < 2
    ^ 40 → s.tooOld h = false → (((s.port port.val).refused.find? fun r => decide (r.src = h.src.toNat)) = some r) →
    (s.took port.val 0 0).heldWaits { port := port.val, kind := .flush, h := h } = false → ∃ u, exec (.flush port h)
    s = .next u ∧ ((u.port port.val).refused = (s.port port.val).refused.filter (fun r => decide (r.src ≠
    h.src.toNat))) ∧ ((u.port port.val).vc1.map (fun k => (k.type, k.addr, k.status, k.dst, k.tag)) = (s.port
    port.val).vc1.map (fun k => (k.type, k.addr, k.status, k.dst, k.tag)) ++ [(0x22, r.addr, r.kind, h.src.toNat,
    h.tag.toNat)]) ∧ Frame [.links] s u) ∧
  (∀ (port : PortId) (h : PacketHeader) (data : Bytes) (s : State), s.takes port.val 0x30 (unitsOf data.length) h = true →
    accessOk (s.port port.val) h = true → data.length = h.length.toNat → s.tooOld h = true → ∃ u,
    exec (.write port h data) s = .next u ∧ u = (s.took port.val 2 (unitsOf data.length)).epochDrop port.val h ∧
    Frame [.free, .entries, .ctxEntries, .links] s u) ∧
  (∀ (port : PortId) (h : PacketHeader) (data : Bytes) (s : State), s.takes port.val 0x30 (unitsOf data.length) h =
    true → accessOk (s.port port.val) h = true → data.length = h.length.toNat → s.tooOld h = false → s.fenced
    h.ctx.toNat = false → h.addr.toNat < counterBase → h.poison = false → ((s.took port.val 2 (unitsOf
    data.length)).writes h.ctx.toNat (s.remoteWriter h.ctx.toNat h.src.toNat h.addr.toNat) h.addr.toNat data).2 =
    none → (s.took port.val 2 (unitsOf data.length)).heldWaits
    { port := port.val, kind := .write, h := h, data := data } = false → s.rowsInto h.ctx.toNat h.addr.toNat = none →
    ∃ u, exec (.write port h data) s = .next u ∧ u.host = ((s.took port.val 2 (unitsOf data.length)).writes
    h.ctx.toNat (s.remoteWriter h.ctx.toNat h.src.toNat h.addr.toNat) h.addr.toNat data).1.host ∧ u.near.mem =
    ((s.took port.val 2 (unitsOf data.length)).writes h.ctx.toNat (s.remoteWriter h.ctx.toNat h.src.toNat
    h.addr.toNat) h.addr.toNat data).1.near.mem ∧ u.bulk.mem = ((s.took port.val 2 (unitsOf data.length)).writes
    h.ctx.toNat (s.remoteWriter h.ctx.toNat h.src.toNat h.addr.toNat) h.addr.toNat data).1.bulk.mem ∧ u.counters =
    s.counters ∧ (u.port port.val).refused = (s.port port.val).refused ∧ Frame [.free, .out, .entries, .ctxEntries,
    .host, .near, .nearMem, .bulk, .bulkMem, .rings, .msix, .pages, .counters, .cmds, .tru, .links, .health, .power]
    s u) ∧
  (∀ (port : PortId) (h : PacketHeader) (data : Bytes) (s : State), Canonical s → s.takes port.val 0x30 (unitsOf data.length) h = true →
    accessOk (s.port port.val) h = true → data.length = h.length.toNat → s.tooOld h = false →
    s.fenced h.ctx.toNat = false → counterBase ≤ h.addr.toNat →
    s.counterRefuses h.ctx.toNat h.addr.toNat data.length = none → ∃ u, exec (.write port h data) s = .next u ∧
    u.counter ((h.addr.toNat - counterBase) / 8) = s.counter ((h.addr.toNat - counterBase) / 8) + BitVec.ofNat 64 (leNat data) ∧
    u.near.mem = s.near.mem ∧ u.bulk.mem = s.bulk.mem ∧ u.store.mem = s.store.mem ∧ Frame [.free, .out, .entries,
    .ctxEntries, .host, .near, .nearMem, .bulk, .bulkMem, .rings, .msix, .pages, .counters, .cmds, .tru, .links,
    .health, .power] s u) ∧
  (∀ (port : PortId) (h : PacketHeader) (data : Bytes) (k : Nat) (s : State), s.takes port.val 0x30 (unitsOf data.length) h = true →
    accessOk (s.port port.val) h = true → data.length = h.length.toNat → s.tooOld h = false →
    s.fenced h.ctx.toNat = false → counterBase ≤ h.addr.toNat →
    s.counterRefuses h.ctx.toNat h.addr.toNat data.length = some k → ∃ u, exec (.write port h data) s = .next u ∧
    (u.port port.val).refused = (s.port port.val).refused ++ [⟨h.src.toNat, k, h.addr.toNat⟩] ∧
    u.counters = s.counters ∧ Frame [.links] s u) ∧
  (∀ (port : PortId) (h : PacketHeader) (s : State), s.takes port.val 0x10 0 h = true → accessOk (s.port port.val) h =
    true → s.tooOld h = false → (s.took port.val 0 0).heldWaits { port := port.val, kind := .read, h := h } = true →
    ∃ u, exec (.read port h) s = .next u ∧ u.links.held = s.links.held ++
    [{ port := port.val, kind := .read, h := h }] ∧ u.links.ports = (s.took port.val 0 0).links.ports ∧ Frame
    [.links] s u) ∧
  (∀ (port : PortId) (h : PacketHeader) (s : State), s.takes port.val 0x11 0 h = true → h.addr.toNat < 2 ^ 40 →
    s.tooOld h = false → (s.links.held.any fun j => decide (j.kind = .write) && decide (j.port = port.val) && decide
    (j.h.src = h.src)) = true → ∃ u, exec (.flush port h) s = .next u ∧ u.links.held = s.links.held ++
    [{ port := port.val, kind := .flush, h := h }] ∧ u.links.ports = (s.took port.val 0 0).links.ports ∧ Frame
    [.links] s u) ∧
  (∀ (port : PortId) (h : PacketHeader) (data : Bytes) (s : State), s.takes port.val 0x30 (unitsOf data.length) h =
    true → accessOk (s.port port.val) h = true → data.length = h.length.toNat → s.tooOld h = false → (s.took port.val
    2 (unitsOf data.length)).heldWaits { port := port.val, kind := .write, h := h, data := data } = true → ∃ u, exec
    (.write port h data) s = .next u ∧ u.links.held = s.links.held ++
    [{ port := port.val, kind := .write, h := h, data := data }] ∧ u.links.ports = (s.took port.val 2 (unitsOf
    data.length)).links.ports ∧ Frame [.links] s u) ∧
  (∀ (port : PortId) (h : PacketHeader) (data : Bytes) (e : Exchange) (s : State), s.takes port.val 0x30 (unitsOf
    data.length) h = true → accessOk (s.port port.val) h = true → data.length = h.length.toNat → s.tooOld h = false →
    s.fenced h.ctx.toNat = false → h.addr.toNat < counterBase → h.poison = false → (s.took port.val 2 (unitsOf
    data.length)).heldWaits { port := port.val, kind := .write, h := h, data := data } = false → s.rowsInto
    h.ctx.toNat h.addr.toNat = some e → ((s.took port.val 2 (unitsOf data.length)).writes h.ctx.toNat (some e.cmd)
    h.addr.toNat data).2 = none → ∃ u, exec (.write port h data) s = .next u ∧ u = (((s.took port.val 2 (unitsOf
    data.length)).writes h.ctx.toNat (some e.cmd) h.addr.toNat data).1.pathEvents otherUnit h.ctx.toNat h.addr.toNat
    data.length 2).noteRows e data.length ∧ u.counters = s.counters ∧ Frame [.free, .out, .entries, .ctxEntries,
    .host, .near, .nearMem, .bulk, .bulkMem, .rings, .msix, .pages, .cmds, .tru, .links, .health, .power] s u)

/-- READ_DATA, READ_FAULT and FLUSH_DONE received on a fabric port (R45, R475, R476, R489). Chosen by the model: a
response whose LENGTH differs (log entry 76), remote streams (47). Commands: READ_DATA, READ_FAULT, FLUSH_DONE. -/
def Obligations.RemoteAnswers : Prop :=
  (∀ (port : PortId) (h : PacketHeader) (data : Bytes) (s : State), s.takes port.val 0x20 (unitsOf data.length) h = true →
    accessOk (s.port port.val) h = true → data.length = h.length.toNat → h.epoch.toNat ≠ s.epochOf h.ctx.toNat → ∃ u,
    exec (.readData port h data) s = .next u ∧ u = (s.took port.val 1 (unitsOf data.length)).epochDrop port.val h ∧
    Frame [.free, .entries, .ctxEntries, .links] s u) ∧
  (∀ (port : PortId) (h : PacketHeader) (data : Bytes) (s : State), s.takes port.val 0x20 (unitsOf data.length) h = true →
    accessOk (s.port port.val) h = true → data.length = h.length.toNat → h.epoch.toNat = s.epochOf h.ctx.toNat →
    ((s.links.requests.find? fun r => decide (r.tag = h.tag.toNat) && decide (r.dst = h.src.toNat) && decide (r.ctx = h.ctx.toNat)) = none) →
    ∃ u, exec (.readData port h data) s = .next u ∧ u = (s.took port.val 1 (unitsOf data.length)) ∧
    Frame [.links] s u) ∧
  (∀ (port : PortId) (h : PacketHeader) (data : Bytes) (r : Request) (s : State), s.takes port.val 0x20 (unitsOf
    data.length) h = true → accessOk (s.port port.val) h = true → data.length = h.length.toNat → h.epoch.toNat =
    s.epochOf h.ctx.toNat → ((s.links.requests.find? fun r => decide (r.tag = h.tag.toNat) && decide (r.dst =
    h.src.toNat) && decide (r.ctx = h.ctx.toNat)) = some r) → r.length = data.length → ∃ u, exec (.readData port h
    data) s = .next u ∧ u = (s.took port.val 1 (unitsOf data.length)).readAnswered r h.poison data ∧ Frame [.free,
    .out, .entries, .ctxEntries, .host, .near, .nearMem, .bulk, .bulkMem, .store, .storeMem, .rings, .msix, .pages,
    .cmds, .steps, .array, .ctxs, .serve, .tru, .links, .health, .power] s u) ∧
  (∀ (port : PortId) (h : PacketHeader) (data : Bytes) (r : Request) (key pos : Nat) (x : Strm) (s : State),
    s.takes port.val 0x20 (unitsOf data.length) h = true → accessOk (s.port port.val) h = true → data.length = h.length.toNat →
    h.epoch.toNat = s.epochOf h.ctx.toNat →
    ((s.links.requests.find? fun r => decide (r.tag = h.tag.toNat) && decide (r.dst = h.src.toNat) && decide (r.ctx = h.ctx.toNat)) = some r) →
    r.length = data.length → r.asker = .stream key pos → h.poison = false → s.strm (key / 32) (key % 32) = some x →
    ∃ u, exec (.readData port h data) s = .next u ∧
    (tget {} u.array.streams key).position = x.st.position + data.length ∧ u.steps = s.steps ∧ Frame [.ctxEntries,
    .array, .links] s u) ∧
  (∀ (port : PortId) (h : PacketHeader) (s : State), s.takes port.val 0x21 0 h = true → h.addr.toNat < 2 ^ 40 →
    h.epoch.toNat ≠ s.epochOf h.ctx.toNat → ∃ u, exec (.readFault port h) s = .next u ∧ u = (s.took port.val 1
    0).epochDrop port.val h ∧ Frame [.free, .entries, .ctxEntries, .links] s u) ∧
  (∀ (port : PortId) (h : PacketHeader) (s : State), s.takes port.val 0x21 0 h = true → h.addr.toNat < 2 ^ 40 →
    h.epoch.toNat = s.epochOf h.ctx.toNat → ((s.links.requests.find? fun r => decide (r.tag = h.tag.toNat) && decide
    (r.dst = h.src.toNat) && decide (r.ctx = h.ctx.toNat)) = none) → ∃ u, exec (.readFault port h) s = .next u ∧ u =
    (s.took port.val 1 0) ∧ Frame [.links] s u) ∧
  (∀ (port : PortId) (h : PacketHeader) (r : Request) (s : State), s.takes port.val 0x21 0 h = true → h.addr.toNat < 2
    ^ 40 → h.epoch.toNat = s.epochOf h.ctx.toNat → ((s.links.requests.find? fun r => decide (r.tag = h.tag.toNat) &&
    decide (r.dst = h.src.toNat) && decide (r.ctx = h.ctx.toNat)) = some r) → ∃ u, exec (.readFault port h) s = .next
    u ∧ u = (s.took port.val 1 0).requestFailed r h.status.toNat r.va ∧ Frame [.free, .out, .entries, .ctxEntries,
    .host, .near, .nearMem, .bulk, .bulkMem, .store, .storeMem, .rings, .msix, .pages, .cmds, .steps, .array, .ctxs,
    .serve, .links, .health, .power] s u) ∧
  (∀ (port : PortId) (h : PacketHeader) (s : State), s.takes port.val 0x22 0 h = true → h.addr.toNat < 2 ^ 40 →
    h.epoch.toNat ≠ s.epochOf h.ctx.toNat → ∃ u, exec (.flushDone port h) s = .next u ∧ u = (s.took port.val 1
    0).epochDrop port.val h ∧ Frame [.free, .entries, .ctxEntries, .links] s u) ∧
  (∀ (port : PortId) (h : PacketHeader) (s : State), s.takes port.val 0x22 0 h = true → h.addr.toNat < 2 ^ 40 →
    h.epoch.toNat = s.epochOf h.ctx.toNat → ((s.links.requests.find? fun r => decide (r.tag = h.tag.toNat) && decide
    (r.dst = h.src.toNat) && decide (r.ctx = h.ctx.toNat)) = none) → ∃ u, exec (.flushDone port h) s = .next u ∧ u =
    (s.took port.val 1 0) ∧ Frame [.links] s u) ∧
  (∀ (port : PortId) (h : PacketHeader) (r : Request) (s : State), s.takes port.val 0x22 0 h = true → h.addr.toNat < 2
    ^ 40 → h.epoch.toNat = s.epochOf h.ctx.toNat → ((s.links.requests.find? fun r => decide (r.tag = h.tag.toNat) &&
    decide (r.dst = h.src.toNat) && decide (r.ctx = h.ctx.toNat)) = some r) → h.status = 0 → ∃ u, exec (.flushDone
    port h) s = .next u ∧ u = (s.took port.val 1 0).flushAnswered r ∧ Frame [.free, .out, .entries, .ctxEntries,
    .host, .near, .nearMem, .bulk, .bulkMem, .store, .storeMem, .rings, .msix, .pages, .cmds, .steps, .array, .ctxs,
    .serve, .links, .health, .power] s u) ∧
  (∀ (port : PortId) (h : PacketHeader) (r : Request) (s : State), s.takes port.val 0x22 0 h = true → h.addr.toNat < 2
    ^ 40 → h.epoch.toNat = s.epochOf h.ctx.toNat → ((s.links.requests.find? fun r => decide (r.tag = h.tag.toNat) &&
    decide (r.dst = h.src.toNat) && decide (r.ctx = h.ctx.toNat)) = some r) → h.status ≠ 0 → ∃ u, exec (.flushDone
    port h) s = .next u ∧ u = (s.took port.val 1 0).requestFailed r h.status.toNat h.addr.toNat ∧ Frame [.free, .out,
    .entries, .ctxEntries, .host, .near, .nearMem, .bulk, .bulkMem, .store, .storeMem, .rings, .msix, .pages, .cmds,
    .steps, .array, .ctxs, .serve, .links, .health, .power] s u)

/-- READY, ABORT, COUNTS, ANNOUNCE and HOLD received on a fabric port (R453, R457, R481, R482, R483, R484, R486,
R487). Chosen by the model: the order of READY, ABORT and a newer attempt (log entry 32). Commands: READY, ABORT,
COUNTS, ANNOUNCE, HOLD. -/
def Obligations.GroupMessages : Prop :=
  (∀ (port : PortId) (h : PacketHeader) (t : Nat) (p : Step) (s : State), s.takes port.val 0x40 0 h = true →
    groupOk h = true → s.groupPlace h = .current p → bits h.length.toNat 15 8 = 0 → ∃ u,
    exec (.ready port h t) s = .next u ∧
    u.step? p.cmd = some { p with readies := addReady p.readies (h.src.toNat, h.length.toNat % 256, h.length.toNat / 2 ^ 16) } ∧
    u.cmds = s.cmds ∧ Frame [.uptime, .steps, .links] s u) ∧
  (∀ (port : PortId) (h : PacketHeader) (t : Nat) (s : State), s.takes port.val 0x40 0 h = true → groupOk h = true →
    bits h.length.toNat 15 8 = 0 → s.groupPlace h = .late → ∃ u, exec (.ready port h t) s = .next u ∧
    u = ((s.at t).took port.val 3 0) ∧ Frame [.uptime, .links] s u) ∧
  (∀ (port : PortId) (h : PacketHeader) (t : Nat) (s : State), s.takes port.val 0x40 0 h = true → groupOk h = true →
    bits h.length.toNat 15 8 = 0 → s.groupPlace h = .early → ∃ u, exec (.ready port h t) s = .next u ∧
    (u = ((s.at t).took port.val 3 0).earlyNote h (fun e => { e with readies := e.readies ++ [(attemptOf h, (h.src.toNat, h.length.toNat % 256, h.length.toNat / 2 ^ 16))] })) ∧
    Frame [.free, .uptime, .entries, .links] s u) ∧
  (∀ (port : PortId) (h : PacketHeader) (t : Nat) (p : Step) (s : State), s.takes port.val 0x41 0 h = true →
    groupOk h = true → s.groupPlace h = .current p → p.committed = true → ∃ u, exec (.abort port h t) s = .next u ∧
    u = ((s.at t).took port.val 3 0) ∧ Frame [.uptime, .links] s u) ∧
  (∀ (port : PortId) (h : PacketHeader) (t : Nat) (p : Step) (s : State), s.takes port.val 0x41 0 h = true →
    groupOk h = true → s.groupPlace h = .current p → p.committed = false → p.ending = none → h.status = 0 → ∃ u,
    exec (.abort port h t) s = .next u ∧ ((u.step? p.cmd).map (fun r => (r.aborted, r.readySent,
    r.ending)) = some (true, false, some (.replay (h.length.toNat % 256)))) ∧
    ((u.array.rappels.any fun r => decide (r.footprint = p.footprint)) = true) ∧ Frame [.uptime, .ctxEntries, .steps,
    .array, .links] s u) ∧
  (∀ (port : PortId) (h : PacketHeader) (t : Nat) (p : Step) (s : State), s.takes port.val 0x41 0 h = true →
    groupOk h = true → s.groupPlace h = .current p → p.committed = false → p.ending = none → h.status ≠ 0 → ∃ u,
    exec (.abort port h t) s = .next u ∧ ((u.step? p.cmd).map (fun r => (r.aborted, r.readySent,
    r.ending.isSome)) = some (true, false, true)) ∧
    ((u.array.rappels.any fun r => decide (r.footprint = p.footprint)) = true) ∧ Frame [.free, .uptime, .entries,
    .ctxEntries, .steps, .array, .links] s u) ∧
  (∀ (port : PortId) (h : PacketHeader) (t : Nat) (s : State), s.takes port.val 0x41 0 h = true → groupOk h = true →
    s.groupPlace h = .late → h.status = 0 → ∃ u, exec (.abort port h t) s = .next u ∧ u = ((s.at t).took port.val 3
    0) ∧ Frame [.uptime, .links] s u) ∧
  (∀ (port : PortId) (h : PacketHeader) (data : Bytes) (t : Nat) (p : Step) (e : Exchange) (s : State),
    s.takes port.val 0x42 (unitsOf data.length) h = true → groupOk h = true → data.length % 4 = 0 → data.length ≤ 1024 →
    s.groupPlace h = .current p → s.gathering p h = some e →
    ((e.counts.any fun x => decide (x.1 = h.src.toNat)) = false) → ∃ u, exec (.counts port h data t) s = .next u ∧
    (u.exchange e.serial = some { e with counts := e.counts ++ [(h.src.toNat, (List.range (exE e.record)).map fun i => field data (4 * i) 4)] }) ∧
    Frame [.uptime, .tru, .links] s u) ∧
  (∀ (port : PortId) (h : PacketHeader) (data : Bytes) (t : Nat) (p : Step) (s : State), s.takes port.val 0x42 (unitsOf data.length) h = true →
    groupOk h = true → data.length % 4 = 0 → data.length ≤ 1024 → s.groupPlace h = .current p →
    s.gathering p h = none → ∃ u, exec (.counts port h data t) s = .next u ∧
    u = ((s.at t).took port.val 3 (unitsOf data.length)).noteGroup h 0x42 data ∧ Frame [.uptime, .links] s u) ∧
  (∀ (port : PortId) (h : PacketHeader) (data : Bytes) (t : Nat) (s : State), s.takes port.val 0x42 (unitsOf data.length) h = true →
    groupOk h = true → data.length % 4 = 0 → data.length ≤ 1024 → s.groupPlace h = .late → ∃ u,
    exec (.counts port h data t) s = .next u ∧ u = ((s.at t).took port.val 3 (unitsOf data.length)) ∧ Frame [.uptime,
    .links] s u) ∧
  (∀ (port : PortId) (h : PacketHeader) (t : Nat) (p : Step) (e : Exchange) (s : State), s.takes port.val 0x43 0 h = true →
    groupOk h = true → s.groupPlace h = .current p → s.gathering p h = some e →
    e.announced.contains h.src.toNat = false → ∃ u, exec (.announce port h t) s = .next u ∧
    u.exchange e.serial = some { e with announced := e.announced ++ [h.src.toNat] } ∧ Frame [.uptime, .tru,
    .links] s u) ∧
  (∀ (port : PortId) (h : PacketHeader) (t : Nat) (p : Step) (s : State), s.takes port.val 0x43 0 h = true →
    groupOk h = true → s.groupPlace h = .current p → s.gathering p h = none → ∃ u,
    exec (.announce port h t) s = .next u ∧ u = ((s.at t).took port.val 3 0).noteGroup h 0x43 [] ∧ Frame [.uptime,
    .links] s u) ∧
  (∀ (port : PortId) (h : PacketHeader) (t : Nat) (p : Step) (s : State), s.takes port.val 0x44 0 h = true →
    groupOk h = true → s.groupPlace h = .current p → h.status.toNat ≤ 1 → ∃ u, exec (.hold port h t) s = .next u ∧
    u.step? p.cmd = some { p with holding := holdSet p.holding h.src.toNat (decide (h.status = 1)) } ∧
    Frame [.uptime, .steps, .links] s u) ∧
  (∀ (port : PortId) (h : PacketHeader) (t : Nat) (s : State), s.takes port.val 0x44 0 h = true → groupOk h = true →
    h.status.toNat ≤ 1 → s.groupPlace h = .late → ∃ u, exec (.hold port h t) s = .next u ∧
    u = ((s.at t).took port.val 3 0) ∧ Frame [.uptime, .links] s u) ∧
  (∀ (port : PortId) (h : PacketHeader) (t : Nat) (s : State), s.takes port.val 0x41 0 h = true → groupOk h = true →
    s.groupPlace h = .late → h.status ≠ 0 → ∃ u, exec (.abort port h t) s = .next u ∧ u = ((s.at t).took port.val 3
    0).abortHeld h h.status.toNat ∧ u.uptime = max s.uptime t ∧ Frame [.free, .out, .uptime, .entries, .ctxEntries,
    .host, .near, .nearMem, .bulk, .bulkMem, .rings, .msix, .pages, .cmds, .steps, .array, .ctxs, .serve, .tru,
    .links, .health, .power] s u)

/-- EPOCH, EPOCH_ACK and BORDER, expired group entries and the limit of a quiescence confirmation (R481, R487, R488,
R489, R491, R579, R581). Chosen by the model: a row whose condition does not hold changes nothing (log entry 2),
early border messages (78), group messages (32), the set of a confirmation (112). Commands: EPOCH, EPOCH_ACK,
BORDER, GROUP_ENTRY_EXPIRED, QUIESCENCE_LIMIT. -/
def Obligations.LinkMessages : Prop :=
  (∀ (port : PortId) (h : PacketHeader) (s : State), s.takes port.val 0x45 0 h = true → h.addr = 0 →
    (((tfind s.links.epochs (h.src.toNat * 512 + h.ctx.toNat)).all fun f => olderEpoch f (h.length.toNat % 65536)) = true) →
    ∃ u, exec (.epoch port h) s = .next u ∧
    tfind u.links.epochs (h.src.toNat * 512 + h.ctx.toNat) = some (h.length.toNat % 65536) ∧
    u = ({ (s.took port.val 3 0) with links := { (s.took port.val 3 0).links with epochs := tput s.links.epochs (h.src.toNat * 512 + h.ctx.toNat) (h.length.toNat % 65536) } } : State).sendControl { type := 0x46, src := 0, dst := h.src.toNat, ctx := h.ctx.toNat, epoch := h.epoch.toNat, length := (h.length.toNat % 65536) } ∧
    Frame [.links] s u) ∧
  (∀ (port : PortId) (h : PacketHeader) (f : Nat) (s : State), s.takes port.val 0x45 0 h = true → h.addr = 0 →
    tfind s.links.epochs (h.src.toNat * 512 + h.ctx.toNat) = some f → olderEpoch f (h.length.toNat % 65536) = false →
    ∃ u, exec (.epoch port h) s = .next u ∧ u.links.epochs = s.links.epochs ∧
    u = (s.took port.val 3 0).sendControl { type := 0x46, src := 0, dst := h.src.toNat, ctx := h.ctx.toNat, epoch := h.epoch.toNat, length := (h.length.toNat % 65536) } ∧
    Frame [.links] s u) ∧
  (∀ (port : PortId) (h : PacketHeader) (s : State), s.takes port.val 0x46 0 h = true → h.addr = 0 → ∃ u,
    exec (.epochAck port h) s = .next u ∧
    (u.links.acks = s.links.acks.filter (fun a => !(decide (a.ctx = h.ctx.toNat) && decide (a.device = h.src.toNat) && decide (a.epoch = (h.length.toNat % 65536))))) ∧
    u.links.epochs = s.links.epochs ∧ Frame [.links] s u) ∧
  (∀ (port : PortId) (h : PacketHeader) (s : State), s.takes port.val 0x46 0 h = false → (s.port port.val).state ≠ .active →
    ∃ u, exec (.epochAck port h) s = .next u ∧ u = s ∧ Frame [] s u) ∧
  (∀ (port : PortId) (h : PacketHeader) (s : State), s.takes port.val 0x47 0 h = true → h.addr = 0 → h.ctx = 256 → ∃
    u, exec (.border port h) s = .next u ∧ u = (s.took port.val 3 0).borderCame port.val ∧ Frame [.free, .out,
    .entries, .ctxEntries, .host, .near, .nearMem, .bulk, .bulkMem, .store, .storeMem, .rings, .msix, .pages, .cmds,
    .steps, .array, .ctxs, .serve, .links, .health, .power] s u) ∧
  (∀ (port : PortId) (h : PacketHeader) (s : State), s.takes port.val 0x47 0 h = true → (h.addr ≠ 0 ∨ h.ctx ≠ 256) → ∃ u,
    exec (.border port h) s = .next u ∧ u = (s.took port.val 3 0).dbump (0x5010 + port.val) 12 0 32 ∧
    Frame [.entries, .links] s u) ∧
  (∀ (ctx : CtxId) (group : BitVec 32) (t : Nat) (e : EarlyGroup) (s : State), Canonical s →
    ((s.links.early.find? fun e => decide (e.ctx = ctx.val) && decide (e.group = group.toNat)) = some e) →
    ((s.steps.any fun p => decide (p.ctx = ctx.val) && decide (p.groupId = group.toNat) && !p.members.isEmpty && p.latched) = false) →
    e.arrived + 1000 * 65536 ≤ s.cdu.phase (max s.uptime t) → s.dget 0x5000 13 + 1 < 2 ^ 32 → ∃ u,
    exec (.groupEntryExpired ctx group t) s = .next u ∧
    (u.links.early = s.links.early.filter (fun e => !(decide (e.ctx = ctx.val) && decide (e.group = group.toNat)))) ∧
    u.dget 0x5000 13 = s.dget 0x5000 13 + 1 ∧ u.uptime = max s.uptime t ∧ Frame [.uptime, .entries, .links] s u) ∧
  (∀ (ctx : CtxId) (group : BitVec 32) (t : Nat) (e : EarlyGroup) (s : State),
    ((s.links.early.find? fun e => decide (e.ctx = ctx.val) && decide (e.group = group.toNat)) = some e) →
    ((s.steps.any fun p => decide (p.ctx = ctx.val) && decide (p.groupId = group.toNat) && !p.members.isEmpty && p.latched) = false) →
    s.cdu.phase (max s.uptime t) < e.arrived + 1000 * 65536 → ∃ u,
    exec (.groupEntryExpired ctx group t) s = .next u ∧ u = s ∧ Frame [] s u) ∧
  (∀ (ctx : CtxId) (t : Nat) (s : State), Canonical s → tsorted none s.links.confirm = true → s.unconfirmed ctx.val t
    = true → (((List.range 3).any fun k => (tfind s.links.confirm (k * 512 + ctx.val)).any fun t0 => decide (t0 +
    50000 ≤ t)) = true) → ∃ u, exec (.quiescenceLimit ctx t) s = .next u ∧ u.epochOf ctx.val = (s.epochOf ctx.val +
    1) % 65536 ∧ (((List.range 3).all fun k => (tfind u.links.confirm (k * 512 + ctx.val)).all fun t0 => decide (t <
    t0 + 50000)) = true) ∧ ((u.links.requests.all fun r => decide (r.ctx ≠ ctx.val)) = true) ∧ u.uptime = max
    s.uptime t ∧ Frame [.free, .uptime, .ctxEntries, .steps, .array, .ctxs, .links] s u) ∧
  (∀ (ctx : CtxId) (t : Nat) (s : State), (s.unconfirmed ctx.val t = false ∨ ((List.range 3).any fun k => (tfind
    s.links.confirm (k * 512 + ctx.val)).any fun t0 => decide (t0 + 50000 ≤ t)) = false) → ∃ u, exec
    (.quiescenceLimit ctx t) s = .next u ∧ u = s ∧ Frame [] s u)

/-- Dispatches and returns of the Traverse Unit (R449, R451, R453, R454, R455, R456, R457, R459). Chosen by the
model: a row whose condition does not hold changes nothing (log entry 2), ties, unchecked records and the FLUSH
behind the rows (51). Commands: DISPATCH_COUNTS_COMPLETE, DISPATCH_COMPLETE, RETURN_ANNOUNCED, RETURN_COMPLETE. -/
def Obligations.Exchanges : Prop :=
  (∀ (exchange : Nat) (s : State), s.liveExchange exchange .gathering 0 = none → ∃ u,
    exec (.dispatchCountsComplete exchange) s = .next u ∧ u = s ∧ Frame [] s u) ∧
  (∀ (exchange : Nat) (e : Exchange) (p : Step) (s : State), s.liveExchange exchange .gathering 0 = some (e, p) →
    (((s.exMembers p).all fun d => e.counts.any fun x => decide (x.1 = d)) = false) → ∃ u,
    exec (.dispatchCountsComplete exchange) s = .next u ∧ u = s ∧ Frame [] s u) ∧
  (∀ (exchange : Nat) (e : Exchange) (p : Step) (s : State), s.liveExchange exchange .gathering 0 = some (e, p) →
    (((s.exMembers p).all fun d => e.counts.any fun x => decide (x.1 = d)) = true) → (s.dispatchRows p
    e).toOption.isSome = true → ∃ u, exec (.dispatchCountsComplete exchange) s = .next u ∧ (s.dispatchRows p
    e).toOption = some u ∧ ((u.exchange exchange).map (fun x => (x.stage, x.choices)) = some (.moving, positions
    (offsetOf e.counts s.ownDevice) e.choices [])) ∧ (u.exchange exchange).map (·.counts) = some e.counts ∧ Frame
    [.free, .entries, .ctxEntries, .host, .near, .nearMem, .bulk, .bulkMem, .steps, .array, .ctxs, .tru, .links, .power] s u) ∧
  (∀ (exchange : Nat) (s : State), s.liveExchange exchange .moving 0 = none → ∃ u,
    exec (.dispatchComplete exchange) s = .next u ∧ u = s ∧ Frame [] s u) ∧
  (∀ (exchange : Nat) (e : Exchange) (p : Step) (s : State), s.liveExchange exchange .moving 0 = some (e, p) →
    expectedBytes s.ownDevice e ≤ e.progress → ∃ u, exec (.dispatchComplete exchange) s = .next u ∧ u =
    s.exchangeDone e ∧ (u.exchange exchange).map (·.stage) = some .done ∧ (u.step? e.cmd).map (·.truTotal) = some
    (p.truTotal + 1) ∧ Frame [.free, .entries, .ctxEntries, .bulk, .steps, .array, .tru, .links, .power] s u) ∧
  (∀ (exchange : Nat) (e : Exchange) (p : Step) (s : State), s.liveExchange exchange .moving 0 = some (e, p) →
    e.progress < expectedBytes s.ownDevice e → ∃ u, exec (.dispatchComplete exchange) s = .next u ∧ u = s ∧
    Frame [] s u) ∧
  (∀ (exchange : Nat) (s : State), s.liveExchange exchange .gathering 1 = none → ∃ u,
    exec (.returnAnnounced exchange) s = .next u ∧ u = s ∧ Frame [] s u) ∧
  (∀ (exchange : Nat) (e d : Exchange) (p : Step) (s : State), s.liveExchange exchange .gathering 1 = some (e, p) →
    s.pairOf e = some d → (s.exMembers p).all e.announced.contains = false → ∃ u,
    exec (.returnAnnounced exchange) s = .next u ∧ u = s ∧ Frame [] s u) ∧
  (∀ (exchange : Nat) (e d : Exchange) (p : Step) (s : State), s.liveExchange exchange .gathering 1 = some (e, p) →
    s.pairOf e = some d → (s.exMembers p).all e.announced.contains = true → (s.fetchRows p e d
    d.choices.zipIdx).toOption.isSome = true → ∃ u, exec (.returnAnnounced exchange) s = .next u ∧ ((s.fetchRows p e
    d d.choices.zipIdx).toOption.map (fun r => (r.1.setExchange
    { e with stage := .moving, outstanding := r.2.1 }).addExchange p.cmd [] 0 r.2.2 0) = some u) ∧ (u.exchange
    exchange).map (·.stage) = some .moving ∧ Frame [.free, .entries, .ctxEntries, .host, .near, .nearMem, .bulk,
    .bulkMem, .steps, .array, .ctxs, .tru, .links, .power] s u) ∧
  (∀ (exchange : Nat) (s : State), s.liveExchange exchange .moving 1 = none → ∃ u,
    exec (.returnComplete exchange) s = .next u ∧ u = s ∧ Frame [] s u) ∧
  (∀ (exchange : Nat) (e : Exchange) (p : Step) (s : State), s.liveExchange exchange .moving 1 = some (e, p) →
    e.outstanding = 0 → ∃ u, exec (.returnComplete exchange) s = .next u ∧ u = s.exchangeDone e ∧ (u.exchange
    exchange).map (·.stage) = some .done ∧ (u.step? e.cmd).map (·.truTotal) = some (p.truTotal + 1) ∧ Frame [.free,
    .entries, .ctxEntries, .bulk, .steps, .array, .tru, .links, .power] s u) ∧
  (∀ (exchange : Nat) (e : Exchange) (p : Step) (s : State), s.liveExchange exchange .moving 1 = some (e, p) →
    e.outstanding ≠ 0 → ∃ u, exec (.returnComplete exchange) s = .next u ∧ u = s ∧ Frame [] s u)

/-- The states of a fabric port (R469, R470, R471, R472, R482, R498). Chosen by the model: a row whose condition
does not hold changes nothing (log entry 2), what a lost port takes with it (75), frames in each state (74).
Commands: PORT_SIGNAL_DETECT, PORT_TRAIN_DONE, PORT_ALIGN_DONE, PORT_STATE_TIMEOUT, PORT_RETRAIN,
PORT_RETRAIN_ACTIVE, PORT_DOWN, LINK_INFO. -/
def Obligations.PortStates : Prop :=
  (∀ (port : PortId) (s : State), (s.port port.val).state = .detect → ∃ u,
    exec (.portSignalDetect port) s = .next u ∧
    (u.port port.val) = { (s.port port.val) with state := .train, since := s.uptime } ∧ (∀ k, k ≠ port.val →
    u.port k = s.port k) ∧ Frame [.links] s u) ∧
  (∀ (port : PortId) (s : State), (s.port port.val).state ≠ .detect → ∃ u,
    exec (.portSignalDetect port) s = .next u ∧ u = s ∧ Frame [] s u) ∧
  (∀ (port : PortId) (s : State), (s.port port.val).state = .train → ∃ u, exec (.portTrainDone port) s = .next u ∧
    (u.port port.val) = { (s.port port.val) with state := .align, since := s.uptime } ∧ (∀ k, k ≠ port.val →
    u.port k = s.port k) ∧ Frame [.links] s u) ∧
  (∀ (port : PortId) (s : State), (s.port port.val).state ≠ .train → ∃ u, exec (.portTrainDone port) s = .next u ∧
    u = s ∧ Frame [] s u) ∧
  (∀ (port : PortId) (s : State), (s.port port.val).state = .align → ∃ u, exec (.portAlignDone port) s = .next u ∧
    (u.port port.val) = { (s.port port.val) with state := .exchange, since := s.uptime, ownId := s.ownDevice, infoSent := false } ∧
    (∀ k, k ≠ port.val → u.port k = s.port k) ∧ Frame [.links] s u) ∧
  (∀ (port : PortId) (s : State), (s.port port.val).state ≠ .align → ∃ u, exec (.portAlignDone port) s = .next u ∧
    u = s ∧ Frame [] s u) ∧
  (∀ (port : PortId) (s : State), Canonical s →
    ((s.port port.val).state = .train ∨ (s.port port.val).state = .down) → s.dget (0x5010 + port.val) 1 ≠ 0 →
    s.pins.reflinkLost = false → ∃ u, exec (.portStateTimeout port) s = .next u ∧
    (u.port port.val) = (s.port port.val).renewed .detect s.uptime ∧ u.domain (96 + port.val) = 2 ∧ (∀ k,
    k ≠ port.val → u.port k = s.port k) ∧ Frame [.entries, .links] s u) ∧
  (∀ (port : PortId) (s : State), Canonical s → tsorted none s.links.ports = true →
    ((s.port port.val).state = .train ∨ (s.port port.val).state = .down) → s.pins.reflinkLost = true → ∃ u,
    exec (.portStateTimeout port) s = .next u ∧ (u.port port.val) = (s.port port.val).renewed .off s.uptime ∧
    u.domain (96 + port.val) = 0 ∧ (∀ k, k ≠ port.val → u.port k = s.port k) ∧ Frame [.entries, .links] s u) ∧
  (∀ (port : PortId) (s : State), (s.port port.val).state = .align → ∃ u, exec (.portStateTimeout port) s = .next u ∧
    (u.port port.val) = { (s.port port.val) with state := .train, since := s.uptime } ∧ (∀ k, k ≠ port.val →
    u.port k = s.port k) ∧ Frame [.links] s u) ∧
  (∀ (port : PortId) (s : State), (s.port port.val).state ≠ .train → (s.port port.val).state ≠ .align →
    (s.port port.val).state ≠ .down → ∃ u, exec (.portStateTimeout port) s = .next u ∧ u = s ∧ Frame [] s u) ∧
  (∀ (port : PortId) (cause : RetrainCause) (s : State), Canonical s → (s.port port.val).state = .active →
    s.dget (0x5010 + port.val) 11 + 1 < 2 ^ 32 → ∃ u, exec (.portRetrain port cause) s = .next u ∧
    (u.port port.val).state = .retrain ∧ (u.port port.val).retries = 0 ∧
    (u.port port.val).unacked = (s.port port.val).unacked ∧
    u.dget (0x5010 + port.val) 11 = s.dget (0x5010 + port.val) 11 + 1 ∧ (∀ k, k ≠ port.val → u.port k = s.port k) ∧
    Frame [.entries, .links] s u) ∧
  (∀ (port : PortId) (cause : RetrainCause) (s : State), (s.port port.val).state ≠ .active → ∃ u,
    exec (.portRetrain port cause) s = .next u ∧ u = s ∧ Frame [] s u) ∧
  (∀ (port : PortId) (s : State), (s.port port.val).state = .retrain → ∃ u,
    exec (.portRetrainActive port) s = .next u ∧
    (u.port port.val) = { (s.port port.val) with state := .active, since := s.uptime, resend := (s.port port.val).unacked } ∧
    (∀ k, k ≠ port.val → u.port k = s.port k) ∧ Frame [.entries, .links] s u) ∧
  (∀ (port : PortId) (s : State), (s.port port.val).state ≠ .retrain → ∃ u,
    exec (.portRetrainActive port) s = .next u ∧ u = s ∧ Frame [] s u) ∧
  (∀ (port : PortId) (t : Nat) (s : State), (s.port port.val).state = .retrain → (s.port port.val).since + s.dget
    0x5000 7 * 1000 ≤ t → ∃ u, exec (.portDown port t) s = .next u ∧ (u.port port.val).state = .down ∧ u.uptime = max
    s.uptime t ∧ Frame [.free, .out, .uptime, .entries, .ctxEntries, .host, .near, .nearMem, .bulk, .bulkMem, .store,
    .storeMem, .rings, .msix, .pages, .cmds, .steps, .array, .ctxs, .serve, .links, .health, .power] s u) ∧
  (∀ (port : PortId) (t : Nat) (s : State),
    ((s.port port.val).state ≠ .retrain ∨ t < (s.port port.val).since + s.dget 0x5000 7 * 1000) → ∃ u,
    exec (.portDown port t) s = .next u ∧ u = s ∧ Frame [] s u) ∧
  (∀ (port : PortId) (info : LinkInfo) (s : State), (s.port port.val).state = .exchange → info.magic = 0x5653 →
    s.dget 0x5000 12 = 0 → s.isolationCause port.val info = 0 → ∃ u, exec (.linkInfo port info) s = .next u ∧
    (u.port port.val).state = .active ∧ (u.port port.val).partnerId = info.deviceId.toNat ∧
    (u.port port.val).level = min (s.dget 0x5000 3) info.flCeiling.toNat ∧
    ((u.port port.val).credits = (List.range 4).map (fun k => (info.credits.getD k 0).toNat)) ∧ (∀ k, k ≠ port.val →
    u.port k = s.port k) ∧ Frame [.entries, .links] s u) ∧
  (∀ (port : PortId) (info : LinkInfo) (s : State), (s.port port.val).state = .exchange → info.magic = 0x5653 →
    s.dget 0x5000 12 = 0 → s.isolationCause port.val info ≠ 0 → ∃ u, exec (.linkInfo port info) s = .next u ∧
    (u.port port.val).state = .isolated ∧ (u.port port.val).partner / 2 ^ 36 = s.isolationCause port.val info ∧ (∀ k,
    k ≠ port.val → u.port k = s.port k) ∧ Frame [.entries, .links] s u) ∧
  (∀ (port : PortId) (info : LinkInfo) (s : State), ((s.port port.val).state ≠ .exchange ∨ info.magic ≠ 0x5653) →
    ∃ u, exec (.linkInfo port info) s = .next u ∧ u = s ∧ Frame [] s u) ∧
  (∀ (port : PortId) (info : LinkInfo) (s : State), (s.port port.val).state = .exchange → info.magic = 0x5653 → ∃ u,
    exec (.linkInfo port info) s = .next u ∧ u = s.linkInfo port.val info ∧ Frame [.free, .out, .entries,
    .ctxEntries, .host, .near, .nearMem, .bulk, .bulkMem, .store, .storeMem, .rings, .msix, .pages, .cmds, .steps,
    .array, .ctxs, .serve, .links, .health, .power] s u)

/-- Frames received and sent on a fabric port (R466, R467, R468, R469). Chosen by the model: the order of channels
and credits (log entry 73), kinds in each state (74), corrected symbols (77). Commands: FRAME_RECEIVED,
FRAME_TRANSMIT. -/
def Obligations.Frames : Prop :=
  (∀ (port : PortId) (check : FrameCheck) (fcu : FrameControl) (s : State), (s.port port.val).state ≠ .exchange →
    (s.port port.val).state ≠ .active → (s.port port.val).state ≠ .isolated → ∃ u,
    exec (.frameReceived port check fcu) s = .next u ∧ u = s ∧ Frame [] s u) ∧
  (∀ (port : PortId) (check : FrameCheck) (fcu : FrameControl) (s : State),
    ((s.port port.val).state = .exchange ∨ (s.port port.val).state = .active ∨ (s.port port.val).state = .isolated) →
    check = .badCrc → ∃ u, exec (.frameReceived port check fcu) s = .next u ∧
    (u.port port.val) = { (s.port port.val) with discarding := true, nakDue := true, spareRun := 0 } ∧ (∀ k,
    k ≠ port.val → u.port k = s.port k) ∧ Frame [.links] s u) ∧
  (∀ (port : PortId) (check : FrameCheck) (fcu : FrameControl) (s : State), Canonical s →
    ((s.port port.val).state = .exchange ∨ (s.port port.val).state = .active ∨ (s.port port.val).state = .isolated) →
    check = .uncorrectable → s.dget (0x5010 + port.val) 9 + 1 < 2 ^ 32 → ∃ u,
    exec (.frameReceived port check fcu) s = .next u ∧
    (u.port port.val) = { (s.port port.val) with discarding := true, nakDue := true, spareRun := 0 } ∧
    u.dget (0x5010 + port.val) 9 = s.dget (0x5010 + port.val) 9 + 1 ∧ Frame [.entries, .links] s u) ∧
  (∀ (port : PortId) (check : FrameCheck) (fcu : FrameControl) (s : State),
    ((s.port port.val).state = .exchange ∨ (s.port port.val).state = .active ∨ (s.port port.val).state = .isolated) →
    check = .good → fcu.kind ≠ 2 → fcu.kind ≠ 3 → fcu.fseq.toNat = nextSeqOf (s.port port.val).ackSeq → ∃ u,
    exec (.frameReceived port check fcu) s = .next u ∧
    u = (s.setPort port.val { (s.port port.val) with ackSeq := fcu.fseq.toNat, discarding := false }).frameFields port.val fcu ∧
    (u.port port.val).ackSeq = fcu.fseq.toNat ∧ (u.port port.val).discarding = false ∧ (∀ k, k ≠ port.val →
    u.port k = s.port k) ∧ Frame [.free, .out, .entries, .msix, .links, .health] s u) ∧
  (∀ (port : PortId) (check : FrameCheck) (fcu : FrameControl) (s : State),
    ((s.port port.val).state = .exchange ∨ (s.port port.val).state = .active ∨ (s.port port.val).state = .isolated) →
    check = .good → fcu.kind ≠ 2 → fcu.kind ≠ 3 → fcu.fseq.toNat ≠ nextSeqOf (s.port port.val).ackSeq →
    (s.port port.val).discarding = false → 2048 ≤ ((s.port port.val).ackSeq + 4096 - fcu.fseq.toNat) % 4096 → ∃ u,
    exec (.frameReceived port check fcu) s = .next u ∧
    (u.port port.val) = { (s.port port.val) with discarding := true, nakDue := true, spareRun := 0 } ∧
    Frame [.links] s u) ∧
  (∀ (port : PortId) (check : FrameCheck) (fcu : FrameControl) (s : State),
    ((s.port port.val).state = .exchange ∨ (s.port port.val).state = .active ∨ (s.port port.val).state = .isolated) →
    check = .good → fcu.kind ≠ 2 → fcu.kind ≠ 3 → fcu.fseq.toNat ≠ nextSeqOf (s.port port.val).ackSeq →
    ((s.port port.val).discarding = true ∨ ((s.port port.val).ackSeq + 4096 - fcu.fseq.toNat) % 4096 < 2048) → ∃ u,
    exec (.frameReceived port check fcu) s = .next u ∧ u = s ∧ Frame [] s u) ∧
  (∀ (port : PortId) (check : FrameCheck) (fcu : FrameControl) (s : State),
    ((s.port port.val).state = .exchange ∨ (s.port port.val).state = .active ∨ (s.port port.val).state = .isolated) →
    check = .good → (fcu.kind = 3 ∨ (fcu.kind = 2 ∧ (s.port port.val).discarding = true)) → ∃ u,
    exec (.frameReceived port check fcu) s = .next u ∧ u = s ∧ Frame [] s u) ∧
  (∀ (port : PortId) (check : FrameCheck) (fcu : FrameControl) (s : State),
    ((s.port port.val).state = .exchange ∨ (s.port port.val).state = .active ∨ (s.port port.val).state = .isolated) →
    check = .good → fcu.kind = 2 → (s.port port.val).discarding = false → ∃ u,
    exec (.frameReceived port check fcu) s = .next u ∧ u = s.frameFields port.val fcu ∧ Frame [.free, .out, .entries,
    .msix, .links, .health] s u) ∧
  (∀ (port : PortId) (check : FrameCheck) (symbols : List (Fin 544)) (fcu : FrameControl) (s : State), ((s.port
    port.val).state = .exchange ∨ (s.port port.val).state = .active ∨ (s.port port.val).state = .isolated) → check =
    .corrected symbols → ∃ u, exec (.frameReceived port check fcu) s = .next u ∧ u = ((s.dbump (0x5010 + port.val) 8
    0 64).symbolsCorrected port.val symbols).goodFrame port.val fcu ∧ Frame [.free, .out, .entries, .msix, .links,
    .health] s u) ∧
  (∀ (port : PortId) (s : State), (s.port port.val).state ≠ .align → (s.port port.val).state ≠ .exchange →
    (s.port port.val).state ≠ .active → (s.port port.val).state ≠ .isolated → ∃ u,
    exec (.frameTransmit port) s = .next u ∧ u = s ∧ Frame [] s u) ∧
  (∀ (port : PortId) (s : State), ((s.port port.val).state = .align ∨ ((s.port port.val).state = .active ∧ 2047 ≤
    (s.port port.val).sinceComp)) → s.dget 0x5000 12 = 0 → ∃ u, exec (.frameTransmit port) s = .next u ∧ u.out =
    .frame port.val ((s.port port.val).frameBytes compFrame) :: s.out ∧ (u.port port.val) =
    { (s.port port.val) with nakDue := false, sinceComp := 0 } ∧ (∀ k, k ≠ port.val → u.port k = s.port k) ∧ Frame
    [.out, .links] s u) ∧
  (∀ (port : PortId) (f : SentFrame) (fs : List SentFrame) (s : State), Canonical s → (s.port port.val).state =
    .active → (s.port port.val).sinceComp < 2047 → (s.port port.val).resend = f :: fs → s.dget (0x5010 + port.val) 10
    + 1 < 2 ^ 32 → f.kind ≠ 2 → s.dget 0x5000 12 = 0 → ∃ u, exec (.frameTransmit port) s = .next u ∧ u.out = .frame
    port.val ({ (s.port port.val) with resend := fs }.frameBytes f) :: s.out ∧ (u.port port.val) =
    { (s.port port.val) with resend := fs, nakDue := false, sinceComp := (s.port port.val).sinceComp + 1 } ∧ u.dget
    (0x5010 + port.val) 10 = s.dget (0x5010 + port.val) 10 + 1 ∧ (∀ k, k ≠ port.val → u.port k = s.port k) ∧ Frame
    [.out, .entries, .links] s u) ∧
  (∀ (port : PortId) (s : State), (s.port port.val).state = .active → (s.port port.val).sinceComp < 2047 → (s.port
    port.val).resend = [] → 1024 ≤ (s.port port.val).unacked.length → s.dget 0x5000 12 = 0 → ∃ u, exec
    (.frameTransmit port) s = .next u ∧ u.out = .frame port.val ((s.port port.val).frameBytes compFrame) :: s.out ∧
    (u.port port.val).unacked = (s.port port.val).unacked ∧ (∀ k, k ≠ port.val → u.port k = s.port k) ∧ Frame [.out,
    .links] s u) ∧
  (∀ (port : PortId) (s : State), (s.port port.val).state = .active → (s.port port.val).sinceComp < 2047 → (s.port
    port.val).resend = [] → (s.port port.val).unacked.length < 1024 → (s.port port.val).infoSent = true → s.dget
    0x5000 12 = 0 → ∃ u, exec (.frameTransmit port) s = .next u ∧ (u.port port.val).nextSeq = nextSeqOf (s.port
    port.val).nextSeq ∧ (u.port port.val).unacked.map (·.seq) = (s.port port.val).unacked.map (·.seq) ++ [(s.port
    port.val).nextSeq] ∧ u.out.length = s.out.length + 1 ∧ (u.port port.val).nakDue = false ∧ (∀ k, k ≠ port.val →
    u.port k = s.port k) ∧ Frame [.free, .out, .entries, .links, .health] s u) ∧
  (∀ (port : PortId) (s : State), (s.port port.val).state = .exchange → (s.port port.val).sinceComp < 2047 →
    (s.port port.val).resend = [] → (s.port port.val).unacked.length < 1024 → ∃ u,
    exec (.frameTransmit port) s = .next u ∧
    (u.port port.val).unacked.map (·.seq) = (s.port port.val).unacked.map (·.seq) ++ [(s.port port.val).nextSeq] ∧
    ((u.port port.val).unacked.getLast?.map (fun f => (f.kind, f.body)) = some (1, s.infoBody port.val)) ∧
    (u.port port.val).infoSent = true ∧ u.out.length = s.out.length + 1 ∧ (∀ k, k ≠ port.val → u.port k = s.port k) ∧
    Frame [.free, .out, .entries, .links, .health] s u) ∧
  (∀ (port : PortId) (s : State), (s.port port.val).state = .active → ∃ u, exec (.frameTransmit port) s = .next u ∧ u
    = (s.nextFrame port.val).settleBorder ∧ Frame [.free, .out, .entries, .ctxEntries, .host, .near, .nearMem, .bulk,
    .bulkMem, .store, .storeMem, .rings, .msix, .pages, .cmds, .steps, .array, .ctxs, .serve, .links, .health, .power] s u) ∧
  (∀ (port : PortId) (s : State), (s.port port.val).state = .isolated → (s.port port.val).sinceComp < 2047 → (s.port
    port.val).resend = [] → (s.port port.val).unacked.length < 1024 → (s.port port.val).infoSent = true → ∃ u, exec
    (.frameTransmit port) s = .next u ∧ (u.port port.val).nextSeq = nextSeqOf (s.port port.val).nextSeq ∧ ((u.port
    port.val).unacked.getLast?.map (fun f => (f.kind, f.body)) = some (0, List.replicate 19 nopUnit)) ∧ (u.port
    port.val).vc0 = (s.port port.val).vc0 ∧ u.out.length = s.out.length + 1 ∧ (∀ k, k ≠ port.val → u.port k = s.port
    k) ∧ Frame [.free, .out, .entries, .links, .health] s u)

/-- Partition borders and lane tests (R491, R493, R494, R495, R496). Chosen by the model: a row whose condition does
not hold changes nothing (log entry 2), lane 8 and the counting of lanes (77), borders without traffic (78).
Commands: PARTITION_DRAINED, BORDER_WAIT_TIMEOUT, LANE_TEST_INTERVAL, LANE_TEST_DWELL_END, PORT_LANE_TEST_END. -/
def Obligations.BordersAndLanes : Prop :=
  (∀ (port : PortId) (s : State), (s.port port.val).border = 1 → s.portDrained port.val = true → ∃ u, exec
    (.partitionDrained port) s = .next u ∧ u = ((s.setPort port.val
    { (s.port port.val) with border := if (s.port port.val).borderHeld then 3 else 2, borderSince := s.uptime }).queuePacket
    port.val { type := 0x47, src := 0, dst := (s.port port.val).partnerId, ctx := 256, epoch := 0 }).settleBorder ∧
    Frame [.free, .out, .entries, .ctxEntries, .host, .near, .nearMem, .bulk, .bulkMem, .store, .storeMem, .rings,
    .msix, .pages, .cmds, .steps, .array, .ctxs, .serve, .links, .health, .power] s u) ∧
  (∀ (port : PortId) (s : State), (s.port port.val).border = 1 → s.portDrained port.val = true →
    (s.port port.val).borderHeld = false → bit s.links.moving port.val = true → s.dget 0x5000 12 = 1 → ∃ u,
    exec (.partitionDrained port) s = .next u ∧ (u.port port.val).border = 2 ∧
    (u.port port.val).borderSince = s.uptime ∧
    (u.port port.val).vc3.map (·.type) = (s.port port.val).vc3.map (·.type) ++ [0x47] ∧ (∀ k, k ≠ port.val →
    u.port k = s.port k) ∧ Frame [.links] s u) ∧
  (∀ (port : PortId) (s : State), ((s.port port.val).border ≠ 1 ∨ s.portDrained port.val = false) → ∃ u,
    exec (.partitionDrained port) s = .next u ∧ u = s ∧ Frame [] s u) ∧
  (∀ (port : PortId) (t : Nat) (s : State), (s.port port.val).border = 2 → (s.port port.val).borderSince + 1000000 ≤ t
    → ∃ u, exec (.borderWaitTimeout port t) s = .next u ∧ u = ((s.at t).setPort port.val
    { (s.port port.val) with border := 3 }).settleBorder ∧ Frame [.free, .out, .uptime, .entries, .ctxEntries, .host,
    .near, .nearMem, .bulk, .bulkMem, .store, .storeMem, .rings, .msix, .pages, .cmds, .steps, .array, .ctxs, .serve,
    .links, .health, .power] s u) ∧
  (∀ (port : PortId) (t : Nat) (s : State),
    ((s.port port.val).border ≠ 2 ∨ t < (s.port port.val).borderSince + 1000000) → ∃ u,
    exec (.borderWaitTimeout port t) s = .next u ∧ u = s ∧ Frame [] s u) ∧
  (∀ (port : PortId) (s : State), (s.port port.val).state = .active → (s.port port.val).testPhase = 0 → (s.port
    port.val).txPermanent = false → (s.port port.val).nextLane = 8 → ∃ u, exec (.laneTestInterval port) s = .next u ∧
    (u.port port.val) =
    { (s.port port.val) with nextLane := 0, testLane := 8, testPhase := 2, testSince := s.uptime } ∧ (∀ k, k ≠
    port.val → u.port k = s.port k) ∧ Frame [.links] s u) ∧
  (∀ (port : PortId) (s : State), (s.port port.val).state = .active → (s.port port.val).testPhase = 0 →
    (s.port port.val).txPermanent = false → (s.port port.val).nextLane ≠ 8 → ∃ u,
    exec (.laneTestInterval port) s = .next u ∧
    (u.port port.val) = { (s.port port.val) with nextLane := ((s.port port.val).nextLane + 1) % 9, testLane := (s.port port.val).nextLane, testPhase := 1, spareTx := (s.port port.val).nextLane } ∧
    (∀ k, k ≠ port.val → u.port k = s.port k) ∧ Frame [.links] s u) ∧
  (∀ (port : PortId) (s : State),
    ((s.port port.val).state ≠ .active ∨ (s.port port.val).testPhase ≠ 0 ∨ (s.port port.val).txPermanent = true) →
    ∃ u, exec (.laneTestInterval port) s = .next u ∧ u = s ∧ Frame [] s u) ∧
  (∀ (port : PortId) (errors bits : Nat) (t : Nat) (s : State), (s.port port.val).state = .active → (s.port
    port.val).testPhase = 2 → (s.port port.val).testLane = 8 → (s.port port.val).testSince + s.dget 0x5000 9 *
    1000000 ≤ max s.uptime t → (s.port port.val).partnerTest = 15 → ∃ u, exec (.laneTestDwellEnd port errors bits t)
    s = .next u ∧ (u.port port.val) = { (s.port port.val) with testPhase := 0, testLane := 15 } ∧ u.uptime = max
    s.uptime t ∧ (∀ k, k ≠ port.val → u.port k = s.port k) ∧ Frame [.uptime, .links] s u) ∧
  (∀ (port : PortId) (errors bits : Nat) (t : Nat) (s : State), (s.port port.val).state = .active → (s.port
    port.val).testPhase = 2 → (s.port port.val).testLane ≠ 8 → (s.port port.val).testSince + s.dget 0x5000 9 *
    1000000 ≤ max s.uptime t → (s.port port.val).partnerTest = 15 → ∃ u, exec (.laneTestDwellEnd port errors bits t)
    s = .next u ∧ (u.port port.val) = { (s.port port.val) with testPhase := 3 } ∧ u.uptime = max s.uptime t ∧ (∀ k, k
    ≠ port.val → u.port k = s.port k) ∧ Frame [.uptime, .links] s u) ∧
  (∀ (port : PortId) (errors bits : Nat) (t : Nat) (s : State), Canonical s → (s.port port.val).state = .active →
    (s.port port.val).testPhase ≠ 2 → (s.port port.val).partnerTest ≠ 15 → bits ≠ 0 → s.worseBer errors bits = false
    → ∃ u, exec (.laneTestDwellEnd port errors bits t) s = .next u ∧ u.dget (0x5010 + port.val) 14 (s.port
    port.val).partnerTest = berOf errors bits ∧ (u.port port.val) =
    { (s.port port.val) with checks := tput (s.port port.val).checks (s.port port.val).partnerTest (errors, bits) } ∧
    Frame [.uptime, .entries, .links] s u) ∧
  (∀ (port : PortId) (errors bits : Nat) (t : Nat) (s : State), Canonical s → (s.port port.val).state = .active →
    (s.port port.val).testPhase ≠ 2 → (s.port port.val).partnerTest < 8 → bits ≠ 0 → s.worseBer errors bits = true →
    (s.port port.val).rxPermanent = false → ∃ u, exec (.laneTestDwellEnd port errors bits t) s = .next u ∧ (u.port
    port.val) =
    { (s.port port.val) with checks := tput (s.port port.val).checks (s.port port.val).partnerTest (errors, bits), spareRq := (s.port port.val).partnerTest, rxPermanent := true }
    ∧ Logged u 8 5 port.val ∧ Frame [.free, .out, .uptime, .entries, .msix, .links, .health] s u) ∧
  (∀ (port : PortId) (errors bits : Nat) (t : Nat) (s : State), (s.port port.val).state ≠ .active → ∃ u,
    exec (.laneTestDwellEnd port errors bits t) s = .next u ∧ u = s ∧ Frame [] s u) ∧
  (∀ (test : LabTest) (s : State), Canonical s → (s.port test.port.val).state = .test → (s.port test.port.val).since +
    (s.port test.port.val).labTest / 4 * 1000000000 ≤ max s.uptime test.t → s.dget (0x5010 + test.port.val) 1 ≠ 0 →
    s.pins.reflinkLost = false → ∃ u, exec (.portLaneTestEnd test) s = .next u ∧ (u.port test.port.val) =
    { (s.port test.port.val).renewed .detect (max s.uptime test.t) with checks := (u.port test.port.val).checks } ∧
    (∀ (k : Fin 9) (e n : Nat), test.lanes[k.val]? = some (e, n) → n ≠ 0 → u.dget (0x5010 + test.port.val) 14 k.val =
    berOf e n ∧ tfind (u.port test.port.val).checks k.val = some (e, n)) ∧ u.domain (96 + test.port.val) = 2 ∧
    u.uptime = max s.uptime test.t ∧ (∀ k, k ≠ test.port.val → u.port k = s.port k) ∧ Frame [.uptime, .entries,
    .links] s u) ∧
  (∀ (test : LabTest) (s : State), ((s.port test.port.val).state ≠ .test ∨ max s.uptime test.t < (s.port
    test.port.val).since + (s.port test.port.val).labTest / 4 * 1000000000) → ∃ u, exec (.portLaneTestEnd test) s =
    .next u ∧ u = s ∧ Frame [] s u) ∧
  (∀ (port : PortId) (errors bits : Nat) (t : Nat) (s : State), (s.port port.val).state = .active → (s.port
    port.val).testPhase = 2 → max s.uptime t < (s.port port.val).testSince + s.dget 0x5000 9 * 1000000 → ((s.port
    port.val).partnerTest = 15 ∨ bits = 0) → ∃ u, exec (.laneTestDwellEnd port errors bits t) s = .next u ∧ (∀ k,
    u.port k = s.port k) ∧ u.uptime = max s.uptime t ∧ Frame [.uptime, .links] s u)

/-- The brake, operating points, the power cap, rail current and idle clusters (R66, R69, R541, R543, R544, R546,
R549, R552, R554, R561). Chosen by the model: a row whose condition does not hold changes nothing (log entry 2),
rounding and CAP_UNMET (108). Commands: PWR_BRAKE_N_ASSERT, PWR_BRAKE_N_RELEASE, PWR_BRAKE_LONG, POWER_CAP_CHECK,
VIN_CMP_LIMIT_CHECK, CLUSTER_POINT_TRANSITION, CLUSTER_IDLE. -/
def Obligations.BrakeAndPoints : Prop :=
  (∀ (t : Nat) (s : State), Canonical s → s.pins.brakeN = true → ∃ u, exec (.pwrBrakeNAssert t) s = .next u ∧ u.pins =
    { s.pins with brakeN := false, brakeSince := max s.uptime t, brakeLogged := false } ∧ (∀ cl < 64, s.domain cl ≠ 0
    → u.point cl = 0) ∧ Frame [.uptime, .pins, .entries] s u) ∧
  (∀ (t : Nat) (s : State), s.pins.brakeN = false → ∃ u, exec (.pwrBrakeNAssert t) s = .next u ∧ u = s ∧ Frame [] s u) ∧
  (∀ (t : Nat) (s : State), Canonical s → s.pins.brakeN = false → s.dget 0x2100 0x12 + (max s.uptime t - max
    s.pins.brakeSince s.power.brakeCounted) / 1000 < 2 ^ 64 → ∃ u, exec (.pwrBrakeNRelease t) s = .next u ∧ u.pins =
    { s.pins with brakeN := true } ∧ u.dget 0x2100 0x12 = s.dget 0x2100 0x12 + (max s.uptime t - max
    s.pins.brakeSince s.power.brakeCounted) / 1000 ∧ Frame [.uptime, .pins, .entries] s u) ∧
  (∀ (t : Nat) (s : State), s.pins.brakeN = true → ∃ u, exec (.pwrBrakeNRelease t) s = .next u ∧ u = s ∧ Frame [] s u) ∧
  (∀ (t : Nat) (s : State), Canonical s → s.pins.brakeN = false → s.pins.brakeLogged = false →
    s.pins.brakeSince + 1000000000 < t → ∃ u, exec (.pwrBrakeLong t) s = .next u ∧
    u.pins = { s.pins with brakeLogged := true } ∧ Logged u 1 4 0 ∧ Frame [.free, .out, .uptime, .pins, .entries,
    .msix, .health] s u) ∧
  (∀ (t : Nat) (s : State), (s.pins.brakeN = true ∨ s.pins.brakeLogged = true ∨ t ≤ s.pins.brakeSince + 1000000000) →
    ∃ u, exec (.pwrBrakeLong t) s = .next u ∧ u = s ∧ Frame [] s u) ∧
  (∀ (t mw : Nat) (s : State), Canonical s → s.powered = true → s.power.lastCap + 20000 ≤ t →
    s.dget 0x2100 1 * 1000 < mw → 0 < s.dget 0x2100 8 → s.dget 0x2100 15 + 1 < 2 ^ 32 → ∃ u,
    exec (.powerCapCheck t mw) s = .next u ∧ u.dget 0x2100 8 = s.dget 0x2100 8 - 1 ∧
    u.dget 0x2100 15 = s.dget 0x2100 15 + 1 ∧ u.power = { s.power with lastCap := t, belowCap := none } ∧
    Frame [.uptime, .entries, .power] s u) ∧
  (∀ (t mw : Nat) (s : State), Canonical s → s.powered = true → s.power.lastCap + 20000 ≤ t →
    s.dget 0x2100 1 * 1000 < mw → s.dget 0x2100 8 = 0 → bit (s.dget 0x2100 14) 0 = false → ∃ u,
    exec (.powerCapCheck t mw) s = .next u ∧ u.dget 0x2100 14 = s.dget 0x2100 14 + 1 ∧ Logged u 1 5 0 ∧
    u.dget 0x2100 8 = 0 ∧ Frame [.free, .out, .uptime, .entries, .msix, .health, .power] s u) ∧
  (∀ (t mw : Nat) (s : State), Canonical s → s.powered = true → s.power.lastCap + 20000 ≤ t →
    mw ≤ s.dget 0x2100 1 * 1000 → mw * 100 < s.dget 0x2100 1 * 1000 * 97 → s.power.belowCap = none → ∃ u,
    exec (.powerCapCheck t mw) s = .next u ∧ u.power = { s.power with lastCap := t, belowCap := some t } ∧
    u.dget 0x2100 8 = s.dget 0x2100 8 ∧ bit (u.dget 0x2100 14) 0 = false ∧ Frame [.uptime, .entries, .power] s u) ∧
  (∀ (t mw : Nat) (t0 : Nat) (s : State), Canonical s → s.powered = true → s.power.lastCap + 20000 ≤ t →
    mw ≤ s.dget 0x2100 1 * 1000 → mw * 100 < s.dget 0x2100 1 * 1000 * 97 → s.power.belowCap = some t0 →
    t0 + 1000000 ≤ t → s.dget 0x2100 8 < 11 → ∃ u, exec (.powerCapCheck t mw) s = .next u ∧
    u.power = { s.power with lastCap := t, belowCap := some t } ∧ u.dget 0x2100 8 = s.dget 0x2100 8 + 1 ∧
    Frame [.uptime, .entries, .power] s u) ∧
  (∀ (t mw : Nat) (s : State), (s.powered = false ∨ t < s.power.lastCap + 20000) → ∃ u,
    exec (.powerCapCheck t mw) s = .next u ∧ u = s ∧ Frame [] s u) ∧
  (∀ (t : Nat) (die : Fin 4) (ma : Nat) (s : State), Canonical s → s.powered = true → (((tfind s.power.lastVin
    die.val).all fun t0 => decide (t0 + 5000 ≤ t)) = true) → s.dget 0x2100 2 * 1000 < ma → ∃ u, exec
    (.vinCmpLimitCheck t die ma) s = .next u ∧ (u.dget 0x2100 9 die.val = ((List.range 16).map fun i =>
    s.effectivePoint (die.val * 16 + i)).foldl max 0 - 1) ∧ bit u.powerFlags 2 = true ∧ tfind u.power.lastVin die.val
    = some t ∧ Frame [.uptime, .entries, .power] s u) ∧
  (∀ (t : Nat) (die : Fin 4) (ma : Nat) (s : State), Canonical s → s.powered = true →
    (((tfind s.power.lastVin die.val).all fun t0 => decide (t0 + 5000 ≤ t)) = true) → ma ≤ s.dget 0x2100 2 * 1000 →
    ma * 10 < s.dget 0x2100 2 * 1000 * 9 → tfind s.power.belowVin die.val = none → ∃ u,
    exec (.vinCmpLimitCheck t die ma) s = .next u ∧ u.dget 0x2100 9 die.val = s.dget 0x2100 9 die.val ∧
    tfind u.power.belowVin die.val = some t ∧ bit (u.dget 0x2100 14) 2 = false ∧ Frame [.uptime, .entries,
    .power] s u) ∧
  (∀ (t : Nat) (die : Fin 4) (ma : Nat) (t0 : Nat) (s : State), Canonical s → s.powered = true →
    (((tfind s.power.lastVin die.val).all fun t0 => decide (t0 + 5000 ≤ t)) = true) → ma ≤ s.dget 0x2100 2 * 1000 →
    ma * 10 < s.dget 0x2100 2 * 1000 * 9 → tfind s.power.belowVin die.val = some t0 → t0 + 1000000 ≤ t →
    s.dget 0x2100 9 die.val < 11 → ∃ u, exec (.vinCmpLimitCheck t die ma) s = .next u ∧
    u.dget 0x2100 9 die.val = s.dget 0x2100 9 die.val + 1 ∧ tfind u.power.belowVin die.val = some t ∧ Frame [.uptime,
    .entries, .power] s u) ∧
  (∀ (t : Nat) (die : Fin 4) (ma : Nat) (s : State), s.powered = false → ∃ u,
    exec (.vinCmpLimitCheck t die ma) s = .next u ∧ u = s ∧ Frame [] s u) ∧
  (∀ (cluster : ClusterId) (s : State), Canonical s → s.clusterUp cluster.val = true → s.domain cluster.val = 2 →
    ∃ u, exec (.clusterPointTransition cluster) s = .next u ∧ u.point cluster.val = s.effectivePoint cluster.val ∧
    u.dget 0x2100 6 cluster.val = max (pointVoltage (u.point cluster.val)) (u.liftFloor cluster.val) ∧
    u.dget 0x2100 7 cluster.val = u.dget 0x2100 6 cluster.val - pointVoltage (u.point cluster.val) ∧
    Frame [.entries] s u) ∧
  (∀ (cluster : ClusterId) (s : State), (s.clusterUp cluster.val = false ∨ s.domain cluster.val ≠ 2) → ∃ u,
    exec (.clusterPointTransition cluster) s = .next u ∧ u = s ∧ Frame [] s u) ∧
  (∀ (cluster : ClusterId) (t : Nat) (s : State), Canonical s → s.dget 0x2100 4 ≠ 0 → s.domain cluster.val = 2 →
    s.stepOn cluster.val = false → tget 0 s.power.lastWork cluster.val + s.dget 0x2100 4 * 1000 ≤ t → ∃ u,
    exec (.clusterIdle cluster t) s = .next u ∧ u.domain cluster.val = 1 ∧ u.uptime = max s.uptime t ∧ (∀ n,
    n < 65536 → n ≠ cluster.val → u.domain n = s.domain n) ∧ Frame [.uptime, .entries] s u) ∧
  (∀ (cluster : ClusterId) (t : Nat) (s : State),
    (s.dget 0x2100 4 = 0 ∨ s.domain cluster.val ≠ 2 ∨ s.stepOn cluster.val = true ∨ t < tget 0 s.power.lastWork cluster.val + s.dget 0x2100 4 * 1000) →
    ∃ u, exec (.clusterIdle cluster t) s = .next u ∧ u = s ∧ Frame [] s u)

/-- Thermal sensors: readings, throttling, trips, failed sensors and differences between neighbours (R550, R556,
R557, R558, R559). Chosen by the model: a row whose condition does not hold changes nothing (log entry 2), the times
of comparisons and the supply after a trip (108). Commands: THERMAL_SENSOR_READ, SENSOR_FAILED,
TEMPERATURE_DIFFERENCE_CHECK. -/
def Obligations.Temperatures : Prop :=
  (∀ (t : Nat) (sensor : Fin 100) (reading : BitVec 16) (s : State), Canonical s → s.powered = true →
    s.dev.mode ≠ .tripped → reading.toInt < 460 → ∃ u, exec (.thermalSensorRead t sensor reading) s = .next u ∧
    u.dget 0x2100 13 sensor.val = reading.toNat ∧ u.dev = s.dev ∧ u.steps = s.steps ∧ u.cmds = s.cmds ∧
    u.uptime = max s.uptime t ∧ Frame [.free, .uptime, .entries, .power] s u) ∧
  (∀ (t : Nat) (sensor : Fin 100) (reading : BitVec 16) (s : State), Canonical s → s.powered = true →
    s.dev.mode ≠ .tripped → reading.toInt < 460 → 380 ≤ reading.toInt → sensor.val < 64 →
    tfind s.power.lastThrottle sensor.val = none → 0 < s.dget 0x2100 10 sensor.val →
    s.dget 0x2100 10 sensor.val ≤ 11 → ∃ u, exec (.thermalSensorRead t sensor reading) s = .next u ∧
    u.dget 0x2100 10 sensor.val = 11 - max (12 - s.dget 0x2100 10 sensor.val) (tget 0 s.power.region sensor.val) ∧
    Frame [.free, .uptime, .entries, .power] s u) ∧
  (∀ (t : Nat) (sensor : Fin 100) (reading : BitVec 16) (s : State), Canonical s → s.powered = true → s.dev.mode ≠
    .tripped → 460 ≤ reading.toInt → ∃ u, exec (.thermalSensorRead t sensor reading) s = .next u ∧ u.dev.mode =
    .tripped ∧ u.pins = { s.pins with tripLow := true } ∧ u.steps = [] ∧ u.cmds = [] ∧ u.hif.linkUp = false ∧ (u.role
    true).grantUntil = none ∧ Logged u 6 2 sensor.val ∧ (∀ n < 80, u.domain n = 0) ∧ (∀ p < 16, (u.port p).state =
    .off) ∧ Frame [.free, .out, .uptime, .pins, .dev, .entries, .hif, .msix, .cmds, .steps, .array, .links, .kop,
    .health, .power] s u) ∧
  (∀ (t : Nat) (sensor : Fin 100) (reading : BitVec 16) (s : State), s.powered = false → ∃ u, exec (.thermalSensorRead
    t sensor reading) s = .next u ∧ u = s ∧ Frame [] s u) ∧
  (∀ (t : Nat) (sensor : Fin 100) (s : State), Canonical s → s.powered = true →
    thas s.power.failed sensor.val = false → ∃ u, exec (.sensorFailed t sensor) s = .next u ∧
    thas u.power.failed sensor.val = true ∧ Logged u 6 1 sensor.val ∧
    (((sensorClusters sensor.val).all fun cl => decide (u.dget 0x2100 10 cl = 0)) = true) ∧ (∀ cl < 64,
    cl ∉ sensorClusters sensor.val → u.dget 0x2100 10 cl = s.dget 0x2100 10 cl) ∧ Frame [.free, .out, .uptime,
    .entries, .msix, .health, .power] s u) ∧
  (∀ (t : Nat) (sensor : Fin 100) (s : State), (s.powered = false ∨ thas s.power.failed sensor.val = true) → ∃ u,
    exec (.sensorFailed t sensor) s = .next u ∧ u = s ∧ Frame [] s u) ∧
  (∀ (t : Nat) (cl : Nat) (s : State), Canonical s → s.powered = true → cl < 64 → s.hotterBy cl 108 = true →
    0 < s.dget 0x2100 10 cl → s.dget 0x2100 10 cl ≤ 11 → ∃ u, exec (.temperatureDifferenceCheck t) s = .next u ∧
    u.dget 0x2100 10 cl = 11 - max (tget 0 s.power.thermal cl) (12 - s.dget 0x2100 10 cl) ∧
    u.uptime = max s.uptime t ∧ Frame [.free, .uptime, .entries, .power] s u) ∧
  (∀ (t : Nat) (cl : Nat) (s : State), Canonical s → s.powered = true → cl < 64 → s.hotterBy cl 108 = false →
    tget 0 s.power.region cl = 0 → ∃ u, exec (.temperatureDifferenceCheck t) s = .next u ∧
    u.dget 0x2100 10 cl = s.dget 0x2100 10 cl ∧ tget 0 u.power.region cl = 0 ∧ Frame [.free, .uptime, .entries,
    .power] s u) ∧
  (∀ (t : Nat) (s : State), s.powered = false → ∃ u, exec (.temperatureDifferenceCheck t) s = .next u ∧ u = s ∧
    Frame [] s u) ∧
  (∀ (t : Nat) (sensor : Fin 100) (reading : BitVec 16) (s : State), Canonical s → s.powered = true → s.dev.mode =
    .tripped → ∃ u, exec (.thermalSensorRead t sensor reading) s = .next u ∧ u.dget 0x2100 13 sensor.val =
    reading.toNat ∧ u.uptime = max s.uptime t ∧ Frame [.uptime, .entries, .power] s u)

/-- Basecamp's takeover, core rotation, cluster tests and wear (R606, R607, R608, R610, R611, R612). Chosen by the
model: a row whose condition does not hold changes nothing (log entry 2), the place of a takeover in bring-up (82),
failing spares (86), the rounding of the weight of life (89), from when a rotation period counts (108), the
self-test of a spare (114). Commands: BASECAMP_TAKEOVER, CORE_ROTATE_PERIOD, CORE_ROTATION, ROTATION_TEST_END,
CLUSTER_TEST_END, LIFE_ACCUMULATE. -/
def Obligations.CoresAndWear : Prop :=
  (∀ (t : Nat) (s : State), Canonical s → s.powered = true → s.dget 0x3010 6 = 1 → ∃ u, exec (.basecampTakeover t) s =
    .next u ∧ u.dget 0x1010 1 = 3 ∧ u.dget 0x3010 6 = 0 ∧ Logged u 8 9 3 ∧ ((u.hif.mailbox.all fun kv => !kv.2.busy
    && kv.2.due.isEmpty) = true) ∧ ((s.dev.mode = .recovery → u.dev =
    { s.dev with since := max s.uptime t, attempt := 1, railWait := 0, railOut := if s.pins.railsOut.isEmpty then none else some (max s.uptime t), profileLoaded := !s.dev.drained && s.dev.profileLoaded, selfTested := !s.dev.drained && s.dev.selfTested }))
    ∧ ((s.dev.mode = .bringUp → u.dev =
    { s.dev with dTime := max (max s.uptime t) 10000000, profileLoaded := false, selfTested := false, hifOut := false }))
    ∧ ((s.dev.mode = .service → u.dev = s.dev)) ∧ Frame [.free, .out, .uptime, .dev, .entries, .hif, .msix, .links,
    .kop, .health] s u) ∧
  (∀ (t : Nat) (s : State), Canonical s → s.powered = true → s.dget 0x3010 6 ≠ 1 → ∃ u,
    exec (.basecampTakeover t) s = .next u ∧ u.health = { s.health with safe := true } ∧ (∀ cl < 64,
    s.clusterUp cl = true → u.point cl = 0) ∧ Frame [.uptime, .entries, .health] s u) ∧
  (∀ (t : Nat) (s : State), s.powered = false → ∃ u, exec (.basecampTakeover t) s = .next u ∧ u = s ∧ Frame [] s u) ∧
  (∀ (cluster : ClusterId) (t : Nat) (s : State), s.powered = true → tsorted none s.health.rotatedAt = true →
    s.periodOver cluster.val t = true → ∃ u, exec (.coreRotatePeriod cluster t) s = .next u ∧ thas
    u.health.rotationDue cluster.val = true ∧ tget 0 u.health.rotatedAt cluster.val = max s.uptime t ∧
    u.health.coreState = s.health.coreState ∧ u.uptime = max s.uptime t ∧ Frame [.uptime, .health] s u) ∧
  (∀ (cluster : ClusterId) (t : Nat) (s : State), (s.powered = false ∨ s.periodOver cluster.val t = false) → ∃ u, exec
    (.coreRotatePeriod cluster t) s = .next u ∧ u = s ∧ Frame [] s u) ∧
  (∀ (cluster : ClusterId) (p q : Nat) (s : State), s.serving? cluster.val (tget 0 s.health.nextPosition cluster.val)
    = some p → s.spareOf cluster.val = some q → thas s.health.rotationDue cluster.val = true → s.mayRotate
    cluster.val = true → p < 17 → q < 17 → (tget 0 s.health.nextPosition cluster.val) < 16 → tsorted none
    s.health.nextPosition = true → tsorted none s.health.rotationDue = true → ∃ u, exec (.coreRotation cluster) s =
    .next u ∧ u.coreState cluster.val p = 0xF2 ∧ u.coreState cluster.val q = (tget 0 s.health.nextPosition
    cluster.val) * 16 ∧ tfind u.health.rotating cluster.val = some p ∧ thas u.health.rotationDue cluster.val = false
    ∧ tget 0 u.health.nextPosition cluster.val = ((tget 0 s.health.nextPosition cluster.val) + 1) % 16 ∧ Frame
    [.entries, .health, .power] s u) ∧
  (∀ (cluster : ClusterId) (p q : Nat) (s : State),
    s.serving? cluster.val (tget 0 s.health.nextPosition cluster.val) = some p → s.spareOf cluster.val = some q →
    (thas s.health.rotationDue cluster.val = false ∨ s.mayRotate cluster.val = false) → ∃ u,
    exec (.coreRotation cluster) s = .next u ∧ u = s ∧ Frame [] s u) ∧
  (∀ (cluster : ClusterId) (pass : Bool) (p : Nat) (s : State), Canonical s → tsorted none s.health.rotating = true →
    tfind s.health.rotating cluster.val = some p → s.dget 0x3020 3 + 1 < 2 ^ 32 → pass = true → ∃ u,
    exec (.rotationTestEnd cluster pass) s = .next u ∧ u.coreState cluster.val p = 0xF1 ∧
    tfind u.health.rotating cluster.val = none ∧ u.dget 0x3020 3 = s.dget 0x3020 3 + 1 ∧ Frame [.entries,
    .health] s u) ∧
  (∀ (cluster : ClusterId) (pass : Bool) (p : Nat) (s : State), Canonical s → tsorted none s.health.rotating = true →
    tfind s.health.rotating cluster.val = some p → s.dget 0x3020 3 + 1 < 2 ^ 32 → pass = false → ∃ u,
    exec (.rotationTestEnd cluster pass) s = .next u ∧ u.coreState cluster.val p = 0xF3 ∧
    tfind u.health.rotating cluster.val = none ∧ u.dget 0x3020 3 = s.dget 0x3020 3 + 1 ∧ Logged u 8 8 cluster.val ∧
    Frame [.free, .out, .entries, .msix, .health] s u) ∧
  (∀ (cluster : ClusterId) (pass : Bool) (s : State), tfind s.health.rotating cluster.val = none → thas
    s.health.spareTests cluster.val = false → ∃ u, exec (.rotationTestEnd cluster pass) s = .next u ∧ u = s ∧ Frame
    [] s u) ∧
  (∀ (cluster : ClusterId) (failed : List (Fin 17)) (restPassed : Bool) (iso : Bool) (s : State), Canonical s →
    s.health.testing = some (cluster.val, iso) → failed = [] → restPassed = true → (iso = false ∨ s.poolOf
    cluster.val = none) → ∃ u, exec (.clusterTestEnd cluster failed restPassed) s = .next u ∧ u.health.testing = none
    ∧ u.dget 0x3020 2 = testResult cluster.val 0 0xFF ∧ Logged u 10 3 cluster.val ∧ u.array = s.array ∧ Frame [.free,
    .out, .entries, .msix, .array, .health] s u) ∧
  (∀ (cluster : ClusterId) (failed : List (Fin 17)) (restPassed : Bool) (s : State), Canonical s →
    s.health.testing = some (cluster.val, true) → restPassed = false → failed = [] → ∃ u,
    exec (.clusterTestEnd cluster failed restPassed) s = .next u ∧ u.health.testing = none ∧
    u.dget 0x3020 2 = testResult cluster.val 1 0xFF ∧ u.domain cluster.val = 0 ∧ Logged u 10 3 cluster.val ∧
    Frame [.free, .out, .entries, .msix, .array, .health] s u) ∧
  (∀ (cluster : ClusterId) (failed : List (Fin 17)) (restPassed : Bool) (s : State),
    ((s.health.testing.any fun x => decide (x.1 = cluster.val)) = false) → ∃ u,
    exec (.clusterTestEnd cluster failed restPassed) s = .next u ∧ u = s ∧ Frame [] s u) ∧
  (∀ (t : Nat) (means : List (Int × Nat)) (i : Nat) (m : Int × Nat) (s : State), s.powered = true →
    s.health.lastLife + 1000000000 ≤ t → tsorted none s.health.lifeUs = true → i < 64 → means[i]? = some m →
    s.domain i ≠ 0 → ∃ u, exec (.lifeAccumulate t means) s = .next u ∧ u.health.lastLife = t ∧
    u.uptime = max s.uptime t ∧ tget 0 u.health.lifeUs i = tget 0 s.health.lifeUs i + lifeWeight m.1 m.2 ∧
    Frame [.free, .out, .uptime, .entries, .msix, .health] s u) ∧
  (∀ (t : Nat) (means : List (Int × Nat)) (i : Nat) (s : State), s.powered = true →
    s.health.lastLife + 1000000000 ≤ t → tsorted none s.health.lifeUs = true →
    (s.domain i = 0 ∨ means.length ≤ i ∨ 64 ≤ i) → ∃ u, exec (.lifeAccumulate t means) s = .next u ∧
    u.health.lastLife = t ∧ tget 0 u.health.lifeUs i = tget 0 s.health.lifeUs i ∧ Frame [.free, .out, .uptime,
    .entries, .msix, .health] s u) ∧
  (∀ (t : Nat) (means : List (Int × Nat)) (s : State), (s.powered = false ∨ t < s.health.lastLife + 1000000000) →
    ∃ u, exec (.lifeAccumulate t means) s = .next u ∧ u = s ∧ Frame [] s u) ∧
  (∀ (cluster : ClusterId) (failed : List (Fin 17)) (restPassed : Bool) (s : State), s.health.testing = some
    (cluster.val, true) → failed = [] → restPassed = true → ∃ u, exec (.clusterTestEnd cluster failed restPassed) s =
    .next u ∧ u = ((({ s with health := { s.health with testing := none } } : State).dset 0x3020 2 0 (testResult
    cluster.val 0 0xFF)).returnCluster cluster.val).event 10 3 cluster.val (testResult cluster.val 0 0xFF) ∧ Frame
    [.free, .out, .entries, .ctxEntries, .host, .near, .nearMem, .bulk, .bulkMem, .rings, .loops, .msix, .pages,
    .cmds, .steps, .array, .ctxs, .serve, .links, .health, .power] s u) ∧
  (∀ (cluster : ClusterId) (pass : Bool) (s : State), tfind s.health.rotating cluster.val = none → thas
    s.health.spareTests cluster.val = true → tsorted none s.health.spareTests = true → pass = true → ∃ u, exec
    (.rotationTestEnd cluster pass) s = .next u ∧ thas u.health.spareTests cluster.val = false ∧ u.health =
    { s.health with spareTests := u.health.spareTests } ∧ Frame [.health] s u) ∧
  (∀ (cluster : ClusterId) (pass : Bool) (q : Nat) (s : State), tfind s.health.rotating cluster.val = none → thas
    s.health.spareTests cluster.val = true → tsorted none s.health.spareTests = true → pass = false → s.spareOf
    cluster.val = some q → q < 17 → ∃ u, exec (.rotationTestEnd cluster pass) s = .next u ∧ thas u.health.spareTests
    cluster.val = false ∧ u.coreState cluster.val q = 0xF3 ∧ Logged u 8 8 cluster.val ∧ Frame [.free, .out, .entries,
    .msix, .health] s u)

/-- TCK edges and TRST_N at the test access port (R72, R613, R614, R615). Chosen by the model: the TAP controller
(log entry 79), the instants of the lock (80). Commands: TCK_EDGE, TRST_N_ASSERT. -/
def Obligations.TestAccessPort : Prop :=
  (∀ (rising : Bool) (tms tdi : Bool) (observed : BitVec 500) (s : State),
    (s.powered = false ∨ s.dget 0x6010 2 = 0) → ∃ u, exec (.tckEdge rising tms tdi observed) s = .next u ∧ u = s ∧
    Frame [] s u) ∧
  (∀ (rising : Bool) (tms tdi : Bool) (observed : BitVec 500) (s : State), s.powered = true → s.dget 0x6010 2 ≠ 0 →
    rising = true → ∃ u, exec (.tckEdge rising tms tdi observed) s = .next u ∧
    u.health.tap.state = s.health.tap.state.next tms ∧
    u.health.tap.ir = (if s.health.tap.state.next tms = .reset then 1 else s.health.tap.ir) ∧
    u.health.tap.tdo = s.health.tap.tdo ∧ u.health.tap.boundary = s.health.tap.boundary ∧ Frame [.health] s u) ∧
  (∀ (rising : Bool) (tms tdi : Bool) (observed : BitVec 500) (s : State), s.powered = true → s.dget 0x6010 2 ≠ 0 →
    rising = true → s.health.tap.state = .shiftDr → ∃ u, exec (.tckEdge rising tms tdi observed) s = .next u ∧
    u.health.tap.shift = shiftIn (drBits s.instruction) s.health.tap.shift tdi ∧ Frame [.health] s u) ∧
  (∀ (rising : Bool) (tms tdi : Bool) (observed : BitVec 500) (s : State), s.powered = true → s.dget 0x6010 2 ≠ 0 →
    rising = true → s.health.tap.state = .captureDr → ∃ u, exec (.tckEdge rising tms tdi observed) s = .next u ∧
    u.health.tap.shift = drCapture s.instruction observed ∧ Frame [.health] s u) ∧
  (∀ (rising : Bool) (tms tdi : Bool) (observed : BitVec 500) (s : State), s.powered = true → s.dget 0x6010 2 ≠ 0 →
    rising = true → s.health.tap.state = .shiftIr → ∃ u, exec (.tckEdge rising tms tdi observed) s = .next u ∧
    u.health.tap.irShift = shiftIn 8 s.health.tap.irShift tdi ∧ Frame [.health] s u) ∧
  (∀ (rising : Bool) (tms tdi : Bool) (observed : BitVec 500) (s : State), s.powered = true → s.dget 0x6010 2 ≠ 0 →
    rising = false → s.health.tap.state ≠ .shiftDr → s.health.tap.state ≠ .shiftIr → ∃ u,
    exec (.tckEdge rising tms tdi observed) s = .next u ∧ u.health.tap.tdo = none ∧
    u.health.tap.state = s.health.tap.state ∧
    u.health.tap.ir = (if s.health.tap.state = .updateIr then s.health.tap.irShift else s.health.tap.ir) ∧
    Frame [.health] s u) ∧
  (∀ (rising : Bool) (tms tdi : Bool) (observed : BitVec 500) (s : State), s.powered = true → s.dget 0x6010 2 ≠ 0 →
    s.driven = true → rising = false → s.health.tap.state = .shiftDr → ∃ u, exec (.tckEdge rising tms tdi observed) s
    = .next u ∧ u.health.tap = { s.health.tap with tdo := some (s.health.tap.shift.getLsbD 0) } ∧ u.out = .tdo
    (s.health.tap.shift.getLsbD 0) :: s.out ∧ Frame [.out, .health] s u) ∧
  (∀ (rising : Bool) (tms tdi : Bool) (observed : BitVec 500) (s : State), s.powered = true → s.dget 0x6010 2 ≠ 0 →
    s.driven = true → rising = false → s.health.tap.state = .shiftIr → ∃ u, exec (.tckEdge rising tms tdi observed) s
    = .next u ∧ u.health.tap = { s.health.tap with tdo := some (s.health.tap.irShift.getLsbD 0) } ∧ u.out = .tdo
    (s.health.tap.irShift.getLsbD 0) :: s.out ∧ Frame [.out, .health] s u) ∧
  (∀ (s : State), s.powered = true → ∃ u, exec .trstNAssert s = .next u ∧
    u.health.tap = { s.health.tap with state := .reset, ir := 1, tdo := none } ∧ Frame [.health] s u) ∧
  (∀ (s : State), s.powered = false → ∃ u, exec .trstNAssert s = .next u ∧ u = s ∧ Frame [] s u)

/-- READ, DESCRIBE and NEXT of the object protocol (R502, R506, R511, R512, R513, R514, R523). Chosen by the model:
the order of checks (log entry 67), partial reads of a challenge (68), bounds without a statement (65), the domain
of an entry (107), the SEQ of a row (69). Commands: KOP_READ, KOP_DESCRIBE, KOP_NEXT. -/
def Obligations.Reads : Prop :=
  (∀ (r : Requester) (index : BitVec 16) (sub type : BitVec 8) (length : BitVec 16) (offset : BitVec 32) (e : Entry)
    (b : Bytes) (s : State), s.reaches r = true → s.loading = false → findEntry index.toNat sub.toNat = some e →
    mayRead r index.toNat = true → (s.onlyAlwaysOn = false ∨ alwaysOn index.toNat = true) → s.entryOff index.toNat =
    false → (type.toNat = 0 ∨ type.toNat = e.type) → e.index * 256 + e.sub ≠ 0x112001 → (s.readValue e
    { op := 1, index := index.toNat, sub := sub.toNat, type := type.toNat, length := length.toNat, offset := offset.toNat }).toOption
    = some b → b.length ≤ dataLimit r → ∃ u, exec (.kopRead r index sub type length offset) s = .next u ∧ u.result =
    kOk ∧ u.kop.response.drop 16 = b ∧ Frame [.kop] s u) ∧
  (∀ (r : Requester) (index : BitVec 16) (sub type : BitVec 8) (length : BitVec 16) (offset : BitVec 32) (s : State),
    s.reaches r = true → s.loading = false → findEntry index.toNat sub.toNat = none → ∃ u,
    exec (.kopRead r index sub type length offset) s = .next u ∧ u.result = kNoEntry ∧ Frame [.kop] s u) ∧
  (∀ (r : Requester) (index : BitVec 16) (sub type : BitVec 8) (length : BitVec 16) (offset : BitVec 32) (e : Entry)
    (s : State), s.reaches r = true → s.loading = false → findEntry index.toNat sub.toNat = some e → ((s.onlyAlwaysOn
    = true ∧ alwaysOn index.toNat = false) ∨ s.entryOff index.toNat = true) → ∃ u, exec (.kopRead r index sub type
    length offset) s = .next u ∧ u.result = kUnavailable ∧ Frame [.kop] s u) ∧
  (∀ (r : Requester) (index : BitVec 16) (sub type : BitVec 8) (length : BitVec 16) (offset : BitVec 32) (e : Entry)
    (s : State), s.reaches r = true → s.loading = false → findEntry index.toNat sub.toNat = some e → (s.onlyAlwaysOn
    = false ∨ alwaysOn index.toNat = true) → s.entryOff index.toNat = false → mayRead r index.toNat = false → ∃ u,
    exec (.kopRead r index sub type length offset) s = .next u ∧ u.result = kPermission ∧ Frame [.kop] s u) ∧
  (∀ (r : Requester) (index : BitVec 16) (sub type : BitVec 8) (length : BitVec 16) (offset : BitVec 32) (e : Entry)
    (s : State), s.reaches r = true → s.loading = false → findEntry index.toNat sub.toNat = some e → mayRead r
    index.toNat = true → (s.onlyAlwaysOn = false ∨ alwaysOn index.toNat = true) → s.entryOff index.toNat = false →
    type.toNat ≠ 0 → type.toNat ≠ e.type → ∃ u, exec (.kopRead r index sub type length offset) s = .next u ∧ u.result
    = kType ∧ Frame [.kop] s u) ∧
  (∀ (r : Requester) (index : BitVec 16) (sub type : BitVec 8) (length : BitVec 16) (offset : BitVec 32) (s : State),
    s.reaches r = false → ∃ u, exec (.kopRead r index sub type length offset) s = .next u ∧ u = s ∧ Frame [] s u) ∧
  (∀ (r : Requester) (index : BitVec 16) (sub : BitVec 8) (e : Entry) (s : State), s.reaches r = true →
    s.loading = false → findEntry index.toNat sub.toNat = some e → mayRead r index.toNat = true → ∃ u,
    exec (.kopDescribe r index sub) s = .next u ∧ u.result = kOk ∧ u.kop.response.drop 16 = describe e index.toNat ∧
    Frame [.kop] s u) ∧
  (∀ (r : Requester) (index : BitVec 16) (sub : BitVec 8) (s : State), s.reaches r = true → s.loading = false →
    findEntry index.toNat sub.toNat = none → ∃ u, exec (.kopDescribe r index sub) s = .next u ∧ u.result = kNoEntry ∧
    Frame [.kop] s u) ∧
  (∀ (r : Requester) (index : BitVec 16) (sub : BitVec 8) (e : Entry) (s : State), s.reaches r = true →
    s.loading = false → findEntry index.toNat sub.toNat = some e → mayRead r index.toNat = false → ∃ u,
    exec (.kopDescribe r index sub) s = .next u ∧ u.result = kPermission ∧ Frame [.kop] s u) ∧
  (∀ (r : Requester) (index : BitVec 16) (sub : BitVec 8) (s : State), s.reaches r = false → ∃ u,
    exec (.kopDescribe r index sub) s = .next u ∧ u = s ∧ Frame [] s u) ∧
  (∀ (r : Requester) (index : BitVec 16) (sub : BitVec 8) (x : Nat × Nat) (s : State), s.reaches r = true →
    s.loading = false → nextEntry r 8192 index.toNat (some sub.toNat) = some x → x.1 < 2 ^ 16 → x.2 < 2 ^ 8 → ∃ u,
    exec (.kopNext r index sub) s = .next u ∧ u.result = kOk ∧ field u.kop.response 6 2 = x.1 ∧
    byteAt u.kop.response 8 = x.2 ∧ Frame [.kop] s u) ∧
  (∀ (r : Requester) (index : BitVec 16) (sub : BitVec 8) (s : State), s.reaches r = true → s.loading = false →
    nextEntry r 8192 index.toNat (some sub.toNat) = none → ∃ u, exec (.kopNext r index sub) s = .next u ∧
    u.result = kNoEntry ∧ Frame [.kop] s u) ∧
  (∀ (r : Requester) (index : BitVec 16) (sub : BitVec 8) (s : State), s.reaches r = false → ∃ u,
    exec (.kopNext r index sub) s = .next u ∧ u = s ∧ Frame [] s u)

/-- WRITE of the object protocol: one value (R501, R502, R503, R504, R506, R511, R512, R513). Chosen by the model:
the order of checks (log entry 67), the SEQ of a row (69). Commands: KOP_WRITE. -/
def Obligations.Writes : Prop :=
  (∀ (r : Requester) (index : BitVec 16) (sub type : BitVec 8) (offset : BitVec 32) (data : Bytes) (e : Entry) (v :
    State) (s : State), s.admits r index.toNat sub.toNat = true → data.length < 65536 → findEntry index.toNat
    sub.toNat = some e → 2 ≤ e.access → (writeCount e
    { op := 2, index := index.toNat, sub := sub.toNat, type := type.toNat, length := data.length, offset := offset.toNat, data := data }).toOption
    = some 1 → (s.writeElem (decide (Requester.class r = 2)) e index.toNat offset.toNat (e.part data 0)).1 = v →
    (s.writeElem (decide (Requester.class r = 2)) e index.toNat offset.toNat (e.part data 0)).2 = kOk → e.access ≠ 4
    → ∃ u, exec (.kopWrite r index sub type offset data) s = .next u ∧ u.result = kOk ∧ u =
    { v with kop := { v.kop with response := u.kop.response } } ∧ Frame [.free, .out, .dev, .cdu, .entries,
    .ctxEntries, .host, .near, .nearMem, .bulk, .bulkMem, .store, .storeMem, .hif, .rings, .loops, .msix, .pages,
    .cmds, .steps, .array, .ctxs, .serve, .tru, .links, .kop, .health, .power] s u) ∧
  (∀ (r : Requester) (index : BitVec 16) (sub type : BitVec 8) (offset : BitVec 32) (data : Bytes) (e : Entry) (v :
    State) (s : State), s.admits r index.toNat sub.toNat = true → data.length < 65536 → findEntry index.toNat
    sub.toNat = some e → 2 ≤ e.access → (writeCount e
    { op := 2, index := index.toNat, sub := sub.toNat, type := type.toNat, length := data.length, offset := offset.toNat, data := data }).toOption
    = some 1 → (s.writeElem (decide (Requester.class r = 2)) e index.toNat offset.toNat (e.part data 0)).1 = v →
    (s.writeElem (decide (Requester.class r = 2)) e index.toNat offset.toNat (e.part data 0)).2 = kOk → e.access = 4
    → ∃ u, exec (.kopWrite r index sub type offset data) s = .next u ∧ u.result = kOk ∧ u =
    { v.noteSaved with kop := { v.noteSaved.kop with response := u.kop.response } } ∧ Frame [.free, .out, .dev, .cdu,
    .entries, .ctxEntries, .host, .near, .nearMem, .bulk, .bulkMem, .store, .storeMem, .hif, .rings, .loops, .msix,
    .pages, .cmds, .steps, .array, .ctxs, .serve, .tru, .links, .kop, .health, .power] s u) ∧
  (∀ (r : Requester) (index : BitVec 16) (sub type : BitVec 8) (offset : BitVec 32) (data : Bytes) (e : Entry) (n :
    Nat) (s : State), s.admits r index.toNat sub.toNat = true → data.length < 65536 → findEntry index.toNat sub.toNat
    = some e → 2 ≤ e.access → (writeCount e
    { op := 2, index := index.toNat, sub := sub.toNat, type := type.toNat, length := data.length, offset := offset.toNat, data := data }).toOption
    = some 1 → (s.writeElem (decide (Requester.class r = 2)) e index.toNat offset.toNat (e.part data 0)).2 = n → n ≠
    kOk → ¬ (index.toNat = 0x1120 ∧ sub.toNat = 2) → ¬ (index.toNat = 0x7000 ∧ 3 ≤ sub.toNat ∧ sub.toNat ≤ 5) → ∃ u,
    exec (.kopWrite r index sub type offset data) s = .next u ∧ u.result = n ∧ (n = kRange ∨ n = kState) ∧ u =
    { s with kop := { s.kop with response := u.kop.response } } ∧ u.dict = s.dict ∧ u.cdict = s.cdict ∧ Frame [.kop]
    s u) ∧
  (∀ (r : Requester) (index : BitVec 16) (sub type : BitVec 8) (offset : BitVec 32) (data : Bytes) (e : Entry) (s : State),
    s.admits r index.toNat sub.toNat = true → data.length < 65536 → findEntry index.toNat sub.toNat = some e →
    2 ≤ e.access → type.toNat ≠ e.type → ∃ u, exec (.kopWrite r index sub type offset data) s = .next u ∧
    u.result = kType ∧ Frame [.kop] s u) ∧
  (∀ (r : Requester) (index : BitVec 16) (sub type : BitVec 8) (offset : BitVec 32) (data : Bytes) (e : Entry) (s : State),
    s.admits r index.toNat sub.toNat = true → data.length < 65536 → findEntry index.toNat sub.toNat = some e →
    2 ≤ e.access → type.toNat = e.type → e.type < 8 → offset = 0 → data.length ≠ e.size → ∃ u,
    exec (.kopWrite r index sub type offset data) s = .next u ∧ u.result = kType ∧ Frame [.kop] s u) ∧
  (∀ (r : Requester) (index : BitVec 16) (sub type : BitVec 8) (offset : BitVec 32) (data : Bytes) (s : State),
    s.reaches r = true → s.loading = false → findEntry index.toNat sub.toNat = none → Requester.class r ≠ 3 → ∃ u,
    exec (.kopWrite r index sub type offset data) s = .next u ∧ u.result = kNoEntry ∧ Frame [.kop] s u) ∧
  (∀ (r : Requester) (index : BitVec 16) (sub type : BitVec 8) (offset : BitVec 32) (data : Bytes) (e : Entry) (s : State),
    s.reaches r = true → s.loading = false → findEntry index.toNat sub.toNat = some e →
    mayRead r index.toNat = true → s.onlyAlwaysOn = false → Requester.class r ≠ 3 → e.access < 2 → ∃ u,
    exec (.kopWrite r index sub type offset data) s = .next u ∧ u.result = kAccess ∧ Frame [.kop] s u) ∧
  (∀ (r : Requester) (index : BitVec 16) (sub type : BitVec 8) (offset : BitVec 32) (data : Bytes) (e : Entry) (s : State),
    s.reaches r = true → s.loading = false → findEntry index.toNat sub.toNat = some e →
    mayRead r index.toNat = true → s.onlyAlwaysOn = false → Requester.class r ≠ 3 → 2 ≤ e.access →
    s.mayWrite r index.toNat sub.toNat = false → ∃ u, exec (.kopWrite r index sub type offset data) s = .next u ∧
    u.result = kPermission ∧ Frame [.kop] s u) ∧
  (∀ (r : Requester) (index : BitVec 16) (sub type : BitVec 8) (offset : BitVec 32) (data : Bytes) (e : Entry) (s : State),
    s.reaches r = true → s.loading = false → findEntry index.toNat sub.toNat = some e → Requester.class r = 3 → ∃ u,
    exec (.kopWrite r index sub type offset data) s = .next u ∧ u.result = kPermission ∧ Frame [.kop] s u) ∧
  (∀ (r : Requester) (index : BitVec 16) (sub type : BitVec 8) (offset : BitVec 32) (data : Bytes) (s : State),
    s.reaches r = false → ∃ u, exec (.kopWrite r index sub type offset data) s = .next u ∧ u = s ∧ Frame [] s u) ∧
  (∀ (r : Requester) (index : BitVec 16) (sub type : BitVec 8) (offset : BitVec 32) (data : Bytes) (e : Entry) (n :
    Nat) (s : State), s.admits r index.toNat sub.toNat = true → data.length < 65536 → findEntry index.toNat sub.toNat
    = some e → 2 ≤ e.access → (writeCount e
    { op := 2, index := index.toNat, sub := sub.toNat, type := type.toNat, length := data.length, offset := offset.toNat, data := data }).toOption
    = some 1 → (s.writeElem (decide (Requester.class r = 2)) e index.toNat offset.toNat (e.part data 0)).2 = n → n ≠
    kOk → index.toNat = 0x1120 → sub.toNat = 2 → ∃ u, exec (.kopWrite r index sub type offset data) s = .next u ∧
    u.result = n ∧ n = kAuth ∧ u.cdict = s.cdict ∧ (u.role (decide (Requester.class r = 2))).grantUntil = (s.role
    (decide (Requester.class r = 2))).grantUntil ∧ (Canonical s → s.dget 0x1120 6 + 1 < 2 ^ 32 → u.dget 0x1120 6 =
    s.dget 0x1120 6 + 1) ∧ Frame [.free, .entries, .kop] s u) ∧
  (∀ (r : Requester) (index : BitVec 16) (sub type : BitVec 8) (offset : BitVec 32) (data : Bytes) (e : Entry) (n :
    Nat) (s : State), s.admits r index.toNat sub.toNat = true → data.length < 65536 → findEntry index.toNat sub.toNat
    = some e → 2 ≤ e.access → (writeCount e
    { op := 2, index := index.toNat, sub := sub.toNat, type := type.toNat, length := data.length, offset := offset.toNat, data := data }).toOption
    = some 1 → (s.writeElem (decide (Requester.class r = 2)) e index.toNat offset.toNat (e.part data 0)).2 = n → n ≠
    kOk → index.toNat = 0x7000 → 3 ≤ sub.toNat → sub.toNat ≤ 5 → ∃ u, exec (.kopWrite r index sub type offset data) s
    = .next u ∧ u.result = n ∧ (n = kRange ∨ n = kState) ∧ u.cdict = s.cdict ∧ u.store.slots = s.store.slots ∧
    (Canonical s → ∀ k, k ≠ 6 → k ≠ 7 → u.dget 0x7000 k = s.dget 0x7000 k) ∧ Frame [.entries, .store, .kop] s u)

/-- The Installer role: challenge, response, and the end of a grant (R507, R508, R509, R510). Chosen by the model: a
row whose condition does not hold changes nothing (log entry 2), partial reads, renewals and the seconds of
ROLE_STATE (68). Commands: ROLE_CHALLENGE, ROLE_RESPONSE, ROLE_DROP, ROLE_LEASE_EXPIRED, MANAGEMENT_LINK_DOWN. -/
def Obligations.Roles : Prop :=
  (∀ (r : Requester) (drawn : Bytes) (s : State), s.reaches r = true → s.loading = false → s.onlyAlwaysOn = false →
    s.entryOff 0x1120 = false → mayRead r 0x1120 = true → ∃ u, exec (.roleChallenge r drawn) s = .next u ∧ u.result =
    kOk ∧ (u.role (decide (Requester.class r = 2))).challenge = some (padTo drawn 48) ∧ u.kop.response.drop 16 =
    padTo drawn 48 ∧ u.role (!(decide (Requester.class r = 2))) = s.role (!(decide (Requester.class r = 2))) ∧
    (u.role (decide (Requester.class r = 2))).grantUntil = (s.role (decide (Requester.class r = 2))).grantUntil ∧
    Frame [.kop] s u) ∧
  (∀ (r : Requester) (drawn : Bytes) (s : State), s.reaches r = true → s.loading = false → s.onlyAlwaysOn = false →
    s.entryOff 0x1120 = false → mayRead r 0x1120 = false → ∃ u, exec (.roleChallenge r drawn) s = .next u ∧ u.result
    = kPermission ∧ u.kop.rolePf = s.kop.rolePf ∧ u.kop.roleMgt = s.kop.roleMgt ∧ Frame [.kop] s u) ∧
  (∀ (r : Requester) (drawn : Bytes) (s : State), s.reaches r = false → ∃ u,
    exec (.roleChallenge r drawn) s = .next u ∧ u = s ∧ Frame [] s u) ∧
  (∀ (r : Requester) (response : Bytes) (t : Nat) (s : State), Canonical s → s.powered = true →
    (s.at t).admits r 0x1120 2 = true → response.length = 97 → s.dget 0x1120 6 + 1 < 2 ^ 32 →
    max s.uptime t < (s.role (decide (Requester.class r = 2))).lockedUntil → ∃ u,
    exec (.roleResponse r response t) s = .next u ∧ u.result = kAuth ∧
    u.role (decide (Requester.class r = 2)) = s.role (decide (Requester.class r = 2)) ∧
    u.dget 0x1120 6 = s.dget 0x1120 6 + 1 ∧ Frame [.uptime, .entries, .kop] s u) ∧
  (∀ (r : Requester) (response : Bytes) (t : Nat) (s : State), Canonical s → s.powered = true →
    (s.at t).admits r 0x1120 2 = true → response.length = 97 → s.dget 0x1120 6 + 1 < 2 ^ 32 →
    (s.role (decide (Requester.class r = 2))).lockedUntil ≤ max s.uptime t →
    ((s.role (decide (Requester.class r = 2))).challenge = none ∨ 3 < byteAt response 0 ∨ s.keyState (byteAt response 0) ≠ 1) →
    (s.role (decide (Requester.class r = 2))).fails < 7 → ∃ u, exec (.roleResponse r response t) s = .next u ∧
    u.result = kAuth ∧
    u.role (decide (Requester.class r = 2)) = { s.role (decide (Requester.class r = 2)) with challenge := none, fails := (s.role (decide (Requester.class r = 2))).fails + 1 } ∧
    u.dget 0x1120 6 = s.dget 0x1120 6 + 1 ∧ Frame [.uptime, .entries, .kop] s u) ∧
  (∀ (r : Requester) (response : Bytes) (t : Nat) (s : State), Canonical s → s.powered = true →
    (s.at t).admits r 0x1120 2 = true → response.length = 97 → s.dget 0x1120 6 + 1 < 2 ^ 32 →
    (s.role (decide (Requester.class r = 2))).lockedUntil ≤ max s.uptime t →
    ((s.role (decide (Requester.class r = 2))).challenge = none ∨ 3 < byteAt response 0 ∨ s.keyState (byteAt response 0) ≠ 1) →
    7 ≤ (s.role (decide (Requester.class r = 2))).fails → ∃ u, exec (.roleResponse r response t) s = .next u ∧
    u.result = kAuth ∧
    u.role (decide (Requester.class r = 2)) = { s.role (decide (Requester.class r = 2)) with challenge := none, fails := 0, lockedUntil := max s.uptime t + 60000000000 } ∧
    u.dget 0x1120 6 = s.dget 0x1120 6 + 1 ∧ Frame [.uptime, .entries, .kop] s u) ∧
  (∀ (r : Requester) (response : Bytes) (t : Nat) (ch : Bytes) (s : State), Canonical s → s.powered = true →
    (s.at t).admits r 0x1120 2 = true → response.length = 97 → s.dget 0x1120 6 + 1 < 2 ^ 32 →
    (s.role (decide (Requester.class r = 2))).lockedUntil ≤ max s.uptime t →
    (s.role (decide (Requester.class r = 2))).challenge = some ch → byteAt response 0 ≤ 3 →
    s.keyState (byteAt response 0) = 1 → (s.role (decide (Requester.class r = 2))).fails < 7 → ∃ u,
    exec (.roleResponse r response t) s = .next u ∧
    ((ecdsaOk (s.storeKey (byteAt response 0)) (roleMessage ch (if (decide (Requester.class r = 2)) then 2 else 0)) (slice response 1 96) = true →
    u.result = kOk ∧
    u.role (decide (Requester.class r = 2)) = { s.role (decide (Requester.class r = 2)) with grantUntil := some (max s.uptime t + s.dget 0x1120 3 * 1000000000), challenge := none, fails := 0 } ∧
    Logged u 9 1 (if (decide (Requester.class r = 2)) then 2 else 0) = true)) ∧
    ((ecdsaOk (s.storeKey (byteAt response 0)) (roleMessage ch (if (decide (Requester.class r = 2)) then 2 else 0)) (slice response 1 96) = false →
    u.result = kAuth ∧
    u.role (decide (Requester.class r = 2)) = { s.role (decide (Requester.class r = 2)) with challenge := none, fails := (s.role (decide (Requester.class r = 2))).fails + 1 } ∧
    u.dget 0x1120 6 = s.dget 0x1120 6 + 1)) ∧ Frame [.free, .out, .uptime, .entries, .msix, .kop, .health] s u) ∧
  (∀ (r : Requester) (response : Bytes) (t : Nat) (s : State), s.powered = false → ∃ u,
    exec (.roleResponse r response t) s = .next u ∧ u = s ∧ Frame [] s u) ∧
  (∀ (r : Requester) (s : State), Canonical s → s.admits r 0x1120 4 = true → ∃ u, exec (.roleDrop r) s = .next u ∧
    u.result = kOk ∧ (u.role (decide (Requester.class r = 2))).grantUntil = none ∧
    (((s.role (decide (Requester.class r = 2))).grantUntil.isSome = true →
    Logged u 9 2 (if (decide (Requester.class r = 2)) then 2 else 0) = true)) ∧ Frame [.free, .out, .entries, .msix,
    .kop, .health] s u) ∧
  (∀ (r : Requester) (s : State), s.reaches r = false → ∃ u, exec (.roleDrop r) s = .next u ∧ u = s ∧ Frame [] s u) ∧
  (∀ (management : Bool) (t : Nat) (e : Nat) (s : State), s.powered = true →
    (s.role management).grantUntil = some e → e ≤ t → ∃ u, exec (.roleLeaseExpired management t) s = .next u ∧
    (u.role management).grantUntil = none ∧ u.role (!management) = s.role (!management) ∧
    Logged u 9 2 (if management then 2 else 0) = true ∧ u.uptime = max s.uptime t ∧ Frame [.free, .out, .uptime,
    .entries, .msix, .kop, .health] s u) ∧
  (∀ (management : Bool) (t : Nat) (s : State), (s.powered = false ∨ (s.role management).grantUntil = none) → ∃ u,
    exec (.roleLeaseExpired management t) s = .next u ∧ u = s ∧ Frame [] s u) ∧
  (∀ (management : Bool) (t : Nat) (e : Nat) (s : State), (s.role management).grantUntil = some e → t < e → ∃ u,
    exec (.roleLeaseExpired management t) s = .next u ∧ u = s ∧ Frame [] s u) ∧
  (∀ (t : Nat) (s : State), s.powered = true → (s.role true).grantUntil.isSome = true → ∃ u,
    exec (.managementLinkDown t) s = .next u ∧ (u.role true).grantUntil = none ∧ u.role false = s.role false ∧
    Logged u 9 2 2 ∧ u.uptime = max s.uptime t ∧ Frame [.free, .out, .uptime, .entries, .msix, .kop, .health] s u) ∧
  (∀ (t : Nat) (s : State), s.powered = true → (s.role true).grantUntil = none → ∃ u,
    exec (.managementLinkDown t) s = .next u ∧ u.role true = s.role true ∧ u.role false = s.role false ∧
    u.health = s.health ∧ u.uptime = max s.uptime t ∧ Frame [.uptime] s u) ∧
  (∀ (t : Nat) (s : State), s.powered = false → ∃ u, exec (.managementLinkDown t) s = .next u ∧ u = s ∧ Frame [] s u)

/-- The management port and the host mailboxes (R515, R516, R517, R518, R519). Chosen by the model: a row whose
condition does not hold changes nothing (log entry 2), the time of a mailbox response (15), ARP and the window of a
repeat (70). Commands: MANAGEMENT_DATAGRAM, ARP_REQUEST, ICMP_ECHO, MBX_GO. -/
def Obligations.Transports : Prop :=
  (∀ (t : Nat) (srcIp : BitVec 32) (srcPort : BitVec 16) (frame : MgtUdp) (pdu : Bytes) (k : Kept) (s : State), (s.at
    t).mgtListens = true → mgtFrameOk frame.toMgtFrame = true → (s.at t).mgtPort frame = true → frame.checksummed =
    true → samePrefix ((s.at t).bootGet 0x1100 8) srcIp.toNat ((s.at t).bootGet 0x1100 7) = true → 16 ≤ pdu.length →
    pdu.length ≤ 1472 → s.keptOf srcIp.toNat srcPort.toNat = some k → k.request = pdu → max s.uptime t ≤ k.time +
    1000000000 → ∃ u, exec (.managementDatagram t srcIp srcPort frame pdu) s = .next u ∧ u = (s.at t).sendDatagram
    srcIp.toNat srcPort.toNat k.response ∧ u.keptOf srcIp.toNat srcPort.toNat = some k ∧ (((s.at t).nextHop
    srcIp.toNat = none → u.out = s.out)) ∧ (∀ hop, (s.at t).nextHop srcIp.toNat = some hop → u.out = .datagram hop
    srcIp.toNat srcPort.toNat k.response :: ((s.at t).resolve hop).out) ∧ Frame [.free, .out, .uptime, .kop] s u) ∧
  (∀ (t : Nat) (srcIp : BitVec 32) (srcPort : BitVec 16) (frame : MgtUdp) (pdu : Bytes) (v : State × Bytes) (s :
    State), (s.at t).mgtListens = true → mgtFrameOk frame.toMgtFrame = true → (s.at t).mgtPort frame = true →
    frame.checksummed = true → samePrefix ((s.at t).bootGet 0x1100 8) srcIp.toNat ((s.at t).bootGet 0x1100 7) = true
    → 16 ≤ pdu.length → pdu.length ≤ 1472 → (s.keptOf srcIp.toNat srcPort.toNat = none ∨ (s.keptOf srcIp.toNat
    srcPort.toNat).any (fun k => decide (k.request ≠ pdu) || decide (k.time + 1000000000 < max s.uptime t)) = true) →
    (s.at t).kopPdu .management pdu pdu.length = v → ∃ u, exec (.managementDatagram t srcIp srcPort frame pdu) s =
    .next u ∧ u = (v.1.keep ⟨srcIp.toNat, srcPort.toNat, v.1.uptime, pdu, v.2⟩).sendDatagram srcIp.toNat
    srcPort.toNat v.2 ∧ u.keptOf srcIp.toNat srcPort.toNat = some ⟨srcIp.toNat, srcPort.toNat, v.1.uptime, pdu, v.2⟩
    ∧ u.dict = v.1.dict ∧ u.cdict = v.1.cdict ∧ (v.1.nextHop srcIp.toNat = none → u.out = v.1.out) ∧ Frame [.free,
    .out, .uptime, .dev, .cdu, .entries, .ctxEntries, .host, .near, .nearMem, .bulk, .bulkMem, .store, .storeMem,
    .hif, .rings, .loops, .msix, .pages, .cmds, .steps, .array, .ctxs, .serve, .tru, .links, .kop, .health, .power] s
    u) ∧
  (∀ (t : Nat) (srcIp : BitVec 32) (srcPort : BitVec 16) (frame : MgtUdp) (pdu : Bytes) (s : State), ((s.at
    t).mgtListens = false ∨ mgtFrameOk frame.toMgtFrame = false ∨ (s.at t).mgtPort frame = false ∨ frame.checksummed
    = false ∨ samePrefix ((s.at t).bootGet 0x1100 8) srcIp.toNat ((s.at t).bootGet 0x1100 7) = false ∨ pdu.length <
    16 ∨ 1472 < pdu.length) → ∃ u, exec (.managementDatagram t srcIp srcPort frame pdu) s = .next u ∧ u = s ∧ Frame
    [] s u) ∧
  (∀ (sender : ArpSender) (senderIp targetIp : BitVec 32) (s : State), s.mgtListens = true → sender.tagged = false →
    forMgt sender.dst = true → targetIp.toNat = s.mgtIp → ∃ u, exec (.arpRequest sender senderIp targetIp) s = .next
    u ∧ u.out = .arp sender.mac.toNat senderIp.toNat :: s.out ∧ (u.kop =
    { s.kop with arp := ((sender.mac.toNat, senderIp.toNat) :: s.kop.arp.filter fun x => decide (x.2 ≠ senderIp.toNat)).take 16 })
    ∧ Frame [.out, .kop] s u) ∧
  (∀ (sender : ArpSender) (senderIp targetIp : BitVec 32) (s : State), s.mgtListens = true → sender.tagged = false →
    forMgt sender.dst = true → targetIp.toNat ≠ s.mgtIp → (s.kop.arp.any (fun x => decide (x.2 = senderIp.toNat)) =
    true) → ∃ u, exec (.arpRequest sender senderIp targetIp) s = .next u ∧ (u.kop =
    { s.kop with arp := ((sender.mac.toNat, senderIp.toNat) :: s.kop.arp.filter fun x => decide (x.2 ≠ senderIp.toNat)).take 16 })
    ∧ Frame [.kop] s u) ∧
  (∀ (sender : ArpSender) (senderIp targetIp : BitVec 32) (s : State), (s.mgtListens = false ∨ sender.tagged = true ∨
    forMgt sender.dst = false ∨ (targetIp.toNat ≠ s.mgtIp ∧ s.kop.arp.all (fun x => decide (x.2 ≠ senderIp.toNat)) =
    true)) → ∃ u, exec (.arpRequest sender senderIp targetIp) s = .next u ∧ u = s ∧ Frame [] s u) ∧
  (∀ (srcIp dstIp : BitVec 32) (hop : Nat) (echo : MgtEcho) (s : State), s.mgtListens = true → mgtFrameOk echo.frame =
    true → dstIp.toNat = s.mgtIp → echo.payload.length ≤ 1472 → s.nextHop srcIp.toNat = some hop → ∃ u, exec
    (.icmpEcho srcIp dstIp echo) s = .next u ∧ u = (s.resolve hop).emit (.echo srcIp.toNat echo.payload) ∧
    (s.kop.arp.any (fun x => decide (x.2 = hop)) = true → u.out = .echo srcIp.toNat echo.payload :: s.out) ∧ Frame
    [.free, .out, .kop] s u) ∧
  (∀ (srcIp dstIp : BitVec 32) (echo : MgtEcho) (s : State), (s.mgtListens = false ∨ s.nextHop srcIp.toNat = none ∨
    mgtFrameOk echo.frame = false ∨ dstIp.toNat ≠ s.mgtIp ∨ 1472 < echo.payload.length) → ∃ u, exec (.icmpEcho srcIp
    dstIp echo) s = .next u ∧ u = s ∧ Frame [] s u) ∧
  (∀ (f : Func) (value : BitVec 64) (s : State), Canonical s → s.reachable f = true → (s.mail f).busy = true →
    s.dget 0x1120 7 + 1 < 2 ^ 32 → ∃ u, exec (.mbxGo f value) s = .next u ∧ u.dget 0x1120 7 = s.dget 0x1120 7 + 1 ∧
    Frame [.entries] s u) ∧
  (∀ (f : Func) (value : BitVec 64) (m : Mailbox) (v : State × Bytes) (s : State), s.reachable f = true → (s.mail
    f).busy = false → tsorted none s.hif.mailbox = true → m =
    { s.mail f with irqEn := bit (value ||| 1).toNat 3, reqBytes := bits (value ||| 1).toNat 31 16, vector := (match f with | .pf => 0 | .vf _ => bits (value ||| 1).toNat 58 56), done := (s.mail f).done && !bit (value ||| 1).toNat 2 }
    → 16 ≤ m.reqBytes → (s.setMail f { m with busy := true }).kopPdu (mailRequester f) (padTo m.request m.reqBytes)
    (if requestArea f < m.reqBytes then 0 else m.reqBytes) = v → (v.1.mail f).busy = true → ∃ u, exec (.mbxGo f
    value) s = .next u ∧ u = v.1.setMail f { v.1.mail f with due := v.2 } ∧ (u.mail f).busy = true ∧ (u.mail f).due =
    v.2 ∧ (u.mail f).done = (v.1.mail f).done ∧ u.dict = v.1.dict ∧ u.cdict = v.1.cdict ∧ Frame [.free, .out, .dev,
    .cdu, .entries, .ctxEntries, .host, .near, .nearMem, .bulk, .bulkMem, .store, .storeMem, .hif, .rings, .loops,
    .msix, .pages, .cmds, .steps, .array, .ctxs, .serve, .tru, .links, .kop, .health, .power] s u) ∧
  (∀ (f : Func) (value : BitVec 64) (s : State), s.reachable f = false → ∃ u, exec (.mbxGo f value) s = .next u ∧
    u = s ∧ Frame [] s u) ∧
  (∀ (f : Func) (value : BitVec 64) (m : Mailbox) (s : State), s.reachable f = true → (s.mail f).busy = false →
    tsorted none s.hif.mailbox = true → m =
    { s.mail f with irqEn := bit (value ||| 1).toNat 3, reqBytes := bits (value ||| 1).toNat 31 16, vector := (match f with | .pf => 0 | .vf _ => bits (value ||| 1).toNat 58 56), done := (s.mail f).done && !bit (value ||| 1).toNat 2 }
    → m.reqBytes < 16 → ∃ u, exec (.mbxGo f value) s = .next u ∧ u = s.setMail f m ∧ Frame [.hif] s u)

/-- Segments and the status frame of the service bus (R521, R522, R523, R524). Chosen by the model: a row whose
condition does not hold changes nothing (log entry 2), faults of a segment sequence (71), STATE of the status frame
(72). Commands: SERVICE_BUS_SEGMENT, SERVICE_BUS_SEGMENT_TIMEOUT, SB_STATUS_PERIOD. -/
def Obligations.ServiceBus : Prop :=
  (∀ (t : Nat) (segment : Bytes) (s : State), s.reaches .serviceBus = true → segment.length = 64 → s.kop.sbNext = 0 →
    bit (byteAt segment 0) 7 = true → bit (byteAt segment 0) 6 = false → byteAt segment 0 % 16 = 0 → ∃ u,
    exec (.serviceBusSegment t segment) s = .next u ∧ u.kop.sbNext = 1 ∧
    u.kop.sbBytes = s.kop.sbBytes ++ slice segment 1 63 ∧ u.kop.sbTime = max s.uptime t ∧ Frame [.uptime, .kop] s u) ∧
  (∀ (t : Nat) (segment : Bytes) (s : State), s.reaches .serviceBus = true → segment.length = 64 → s.kop.sbNext ≠ 0 →
    bit (byteAt segment 0) 7 = false → max s.uptime t ≤ s.kop.sbTime + 100000000 →
    byteAt segment 0 % 16 = s.kop.sbNext → bit (byteAt segment 0) 6 = false → byteAt segment 0 % 16 < 15 → ∃ u,
    exec (.serviceBusSegment t segment) s = .next u ∧ u.kop.sbNext = s.kop.sbNext + 1 ∧
    u.kop.sbBytes = s.kop.sbBytes ++ slice segment 1 63 ∧ u.kop.sbTime = max s.uptime t ∧ Frame [.uptime, .kop] s u) ∧
  (∀ (t : Nat) (segment : Bytes) (n : Nat) (s : State), s.reaches .serviceBus = true → segment.length = 64 →
    s.kop.sbNext ≠ 0 → bit (byteAt segment 0) 7 = false → max s.uptime t ≤ s.kop.sbTime + 100000000 → byteAt segment
    0 % 16 = s.kop.sbNext → bit (byteAt segment 0) 6 = true → n = (if (pduLength (parsePdu (s.kop.sbBytes ++ slice
    segment 1 63)) + 62) / 63 = byteAt segment 0 % 16 + 1 then pduLength (parsePdu (s.kop.sbBytes ++ slice segment 1
    63)) else 63 * (byteAt segment 0 % 16 + 1)) → ∃ u, exec (.serviceBusSegment t segment) s = .next u ∧ (∀ p, p =
    (s.at t).sbClear.kopPdu .serviceBus ((s.kop.sbBytes ++ slice segment 1 63).take n) n → u.dict = p.1.dict ∧
    u.kop.sbNext = 0 ∧ u.kop.sbBytes = [] ∧ (p.1.canSends = true → u.out = ((segments p.2).map fun b => Out.can
    (0x480 + p.1.bootGet 0x1110 2) b).reverse ++ p.1.out)) ∧ Frame [.free, .out, .uptime, .dev, .cdu, .entries,
    .ctxEntries, .host, .near, .nearMem, .bulk, .bulkMem, .store, .storeMem, .hif, .rings, .loops, .msix, .pages,
    .cmds, .steps, .array, .ctxs, .serve, .tru, .links, .kop, .health, .power] s u) ∧
  (∀ (t : Nat) (segment : Bytes) (s : State), Canonical s → s.reaches .serviceBus = true → segment.length = 64 →
    s.dget 0x1110 6 + 1 < 2 ^ 32 → s.kop.sbNext ≠ 0 → bit (byteAt segment 0) 7 = false →
    (s.kop.sbTime + 100000000 < max s.uptime t ∨ byteAt segment 0 % 16 ≠ s.kop.sbNext) → ∃ u,
    exec (.serviceBusSegment t segment) s = .next u ∧ u.kop.sbNext = 0 ∧ u.kop.sbBytes = [] ∧
    u.dget 0x1110 6 = s.dget 0x1110 6 + 1 ∧ u.uptime = max s.uptime t ∧ u.out = s.out ∧ Frame [.uptime, .entries,
    .kop] s u) ∧
  (∀ (t : Nat) (segment : Bytes) (s : State), (s.reaches .serviceBus = false ∨ segment.length ≠ 64) → ∃ u,
    exec (.serviceBusSegment t segment) s = .next u ∧ u = s ∧ Frame [] s u) ∧
  (∀ (t : Nat) (s : State), Canonical s → s.powered = true → s.kop.sbNext ≠ 0 →
    s.kop.sbTime + 100000000 < max s.uptime t → s.dget 0x1110 6 + 1 < 2 ^ 32 → ∃ u,
    exec (.serviceBusSegmentTimeout t) s = .next u ∧ u.kop.sbNext = 0 ∧ u.kop.sbBytes = [] ∧
    u.dget 0x1110 6 = s.dget 0x1110 6 + 1 ∧ u.uptime = max s.uptime t ∧ u.out = s.out ∧ Frame [.uptime, .entries,
    .kop] s u) ∧
  (∀ (t : Nat) (s : State), (s.powered = false ∨ s.kop.sbNext = 0 ∨ max s.uptime t ≤ s.kop.sbTime + 100000000) → ∃ u,
    exec (.serviceBusSegmentTimeout t) s = .next u ∧ u = s ∧ Frame [] s u) ∧
  (∀ (t : Nat) (s : State), s.canSends = true →
    (s.kop.sbLast.all (fun x => decide (x + s.bootGet 0x1110 5 * 1000000 ≤ max s.uptime t)) = true) →
    s.dev.mode ≠ .tripped → ∃ u, exec (.sbStatusPeriod t) s = .next u ∧
    u.kop = { s.kop with sbLast := some (max s.uptime t) } ∧ u.uptime = max s.uptime t ∧
    u.out = .can (0x500 + (s.at t).bootGet 0x1110 2) ((s.at t).statusFrame ((s.at t).sbState).1) :: s.out ∧
    Frame [.out, .uptime, .kop] s u) ∧
  (∀ (t : Nat) (s : State),
    (s.canSends = false ∨ s.kop.sbLast.all (fun x => decide (x + s.bootGet 0x1110 5 * 1000000 ≤ max s.uptime t)) = false) →
    ∃ u, exec (.sbStatusPeriod t) s = .next u ∧ u = s ∧ Frame [] s u)

/-- Installation mode, images and keys of the Store (R263, R264, R266, R267, R273). Chosen by the model: a row whose
condition does not hold changes nothing (log entry 2), when a check of an image is made (57), spare blocks (58),
keys written over (59), the directory's stacks (101). Commands: INSTALL_MODE_ENTER, INSTALL_MODE_EXIT, STORE_OPEN,
STORE_COMMIT, STORE_ERASE, STORE_KEY_WRITE, STORE_KEY_REVOKE. -/
def Obligations.StoreInstallation : Prop :=
  (∀ (r : Requester) (s : State), Canonical s → s.admits r 0x7000 1 = true → s.dget 0x7000 2 = 0 → ∃ u, exec
    (.installModeEnter r) s = .next u ∧ u.result = kOk ∧ u.dget 0x7000 1 = 1 ∧ u.dget 0x7000 2 = 1 ∧ u.store =
    s.store ∧ Frame [.free, .out, .entries, .ctxEntries, .host, .near, .nearMem, .bulk, .bulkMem, .rings, .msix,
    .pages, .cmds, .steps, .array, .ctxs, .serve, .tru, .links, .kop, .health, .power] s u) ∧
  (∀ (r : Requester) (s : State), Canonical s → s.admits r 0x7000 1 = true → s.dget 0x7000 2 ≠ 0 → ∃ u,
    exec (.installModeEnter r) s = .next u ∧ u.result = kOk ∧ u.dget 0x7000 1 = 1 ∧
    u.dget 0x7000 2 = s.dget 0x7000 2 ∧ u.store = s.store ∧ Frame [.entries, .kop] s u) ∧
  (∀ (r : Requester) (s : State), s.reaches r = false → ∃ u, exec (.installModeEnter r) s = .next u ∧ u = s ∧
    Frame [] s u) ∧
  (∀ (r : Requester) (s : State), Canonical s → s.admits r 0x7000 1 = true → ∃ u,
    exec (.installModeExit r) s = .next u ∧ u.result = kOk ∧ u.dget 0x7000 1 = 0 ∧ u.dget 0x7000 2 = 0 ∧
    u.store = { s.store with opened := none } ∧ Frame [.entries, .store, .kop] s u) ∧
  (∀ (r : Requester) (s : State), s.reaches r = false → ∃ u, exec (.installModeExit r) s = .next u ∧ u = s ∧
    Frame [] s u) ∧
  (∀ (r : Requester) (slot : BitVec 16) (s : State), Canonical s → s.admits r 0x7000 3 = true → slot.toNat ≤ 1023 →
    s.dget 0x7000 2 = 2 → s.store.opened = none → s.slotBound slot.toNat = false → ∃ u,
    exec (.storeOpen r slot) s = .next u ∧ u.result = kOk ∧ u.dget 0x7000 6 = slot.toNat + 0 * 65536 ∧
    u.store = { s.store with opened := some { slot := slot.toNat } } ∧ Frame [.entries, .store, .kop] s u) ∧
  (∀ (r : Requester) (slot : BitVec 16) (s : State), Canonical s → s.admits r 0x7000 3 = true → slot.toNat ≤ 1023 →
    s.dget 0x7000 2 ≠ 2 → ∃ u, exec (.storeOpen r slot) s = .next u ∧ u.result = kState ∧
    u.dget 0x7000 6 = slot.toNat + 9 * 65536 ∧ Frame [.entries, .kop] s u) ∧
  (∀ (r : Requester) (slot : BitVec 16) (s : State), Canonical s → s.admits r 0x7000 3 = true → slot.toNat ≤ 1023 →
    s.dget 0x7000 2 = 2 → s.store.opened.isSome = true → ∃ u, exec (.storeOpen r slot) s = .next u ∧
    u.result = kState ∧ u.dget 0x7000 6 = slot.toNat + 12 * 65536 ∧ Frame [.entries, .kop] s u) ∧
  (∀ (r : Requester) (slot : BitVec 16) (s : State), Canonical s → s.admits r 0x7000 3 = true → slot.toNat ≤ 1023 →
    s.dget 0x7000 2 = 2 → s.store.opened = none → s.slotBound slot.toNat = true → ∃ u,
    exec (.storeOpen r slot) s = .next u ∧ u.result = kState ∧ u.dget 0x7000 6 = slot.toNat + 7 * 65536 ∧
    Frame [.entries, .kop] s u) ∧
  (∀ (r : Requester) (slot : BitVec 16) (s : State), Canonical s → s.admits r 0x7000 3 = true → 1023 < slot.toNat →
    ∃ u, exec (.storeOpen r slot) s = .next u ∧ u.result = kRange ∧ Frame [.kop] s u) ∧
  (∀ (r : Requester) (slot : BitVec 16) (s : State), s.reaches r = false → ∃ u,
    exec (.storeOpen r slot) s = .next u ∧ u = s ∧ Frame [] s u) ∧
  (∀ (r : Requester) (slot : BitVec 16) (t : Nat) (o : OpenSlot) (s : State), Canonical s → s.powered = true →
    (s.at t).admits r 0x7000 4 = true → slot.toNat ≤ 1023 → s.dget 0x7000 2 = 2 → s.store.opened = some o →
    o.slot = slot.toNat → o.checked = true → o.chunks ≤ o.written → ∃ u, exec (.storeCommit r slot t) s = .next u ∧
    u.result = kOk ∧ u.uptime = max s.uptime t ∧ u.dget 0x7000 6 = slot.toNat + 0 * 65536 ∧
    u.slot slot.toNat = newSlot (s.slot slot.toNat) o ∧ u.store.opened = none ∧ u.store.mem = s.store.mem ∧
    Frame [.uptime, .entries, .store, .kop] s u) ∧
  (∀ (r : Requester) (slot : BitVec 16) (t : Nat) (o : OpenSlot) (s : State), Canonical s → s.powered = true →
    (s.at t).admits r 0x7000 4 = true → slot.toNat ≤ 1023 → s.dget 0x7000 2 = 2 → s.store.opened = some o →
    o.slot = slot.toNat → (o.checked = false ∨ o.written < o.chunks) → ∃ u,
    exec (.storeCommit r slot t) s = .next u ∧ u.result = kState ∧ u.uptime = max s.uptime t ∧
    u.dget 0x7000 6 = slot.toNat + 11 * 65536 ∧ u.dget 0x7000 7 = o.written ∧
    u.store = { s.store with opened := none } ∧ Frame [.uptime, .entries, .store, .kop] s u) ∧
  (∀ (r : Requester) (slot : BitVec 16) (t : Nat) (s : State), Canonical s → s.powered = true →
    (s.at t).admits r 0x7000 4 = true → slot.toNat ≤ 1023 → s.dget 0x7000 2 = 2 →
    (s.store.opened.all (fun o => decide (o.slot ≠ slot.toNat)) = true) → ∃ u,
    exec (.storeCommit r slot t) s = .next u ∧ u.result = kState ∧ u.uptime = max s.uptime t ∧
    u.dget 0x7000 6 = slot.toNat + 12 * 65536 ∧ Frame [.uptime, .entries, .kop] s u) ∧
  (∀ (r : Requester) (slot : BitVec 16) (t : Nat) (s : State), Canonical s → s.powered = true →
    (s.at t).admits r 0x7000 4 = true → slot.toNat ≤ 1023 → s.dget 0x7000 2 ≠ 2 → ∃ u,
    exec (.storeCommit r slot t) s = .next u ∧ u.result = kState ∧ u.uptime = max s.uptime t ∧
    u.dget 0x7000 6 = slot.toNat + 9 * 65536 ∧ Frame [.uptime, .entries, .kop] s u) ∧
  (∀ (r : Requester) (slot : BitVec 16) (t : Nat) (s : State), Canonical s → s.powered = true →
    (s.at t).admits r 0x7000 4 = true → 1023 < slot.toNat → ∃ u, exec (.storeCommit r slot t) s = .next u ∧
    u.result = kRange ∧ u.uptime = max s.uptime t ∧ Frame [.uptime, .kop] s u) ∧
  (∀ (r : Requester) (slot : BitVec 16) (t : Nat) (s : State), s.powered = false → ∃ u,
    exec (.storeCommit r slot t) s = .next u ∧ u = s ∧ Frame [] s u) ∧
  (∀ (r : Requester) (slot : BitVec 16) (s : State), Canonical s → s.admits r 0x7000 5 = true → slot.toNat ≤ 1023 →
    s.dget 0x7000 2 = 2 → s.slotBound slot.toNat = false →
    (s.store.opened.all (fun o => decide (o.slot ≠ slot.toNat)) = true) → tsorted none s.store.slots = true → ∃ u,
    exec (.storeErase r slot) s = .next u ∧ u.result = kOk ∧ u.dget 0x7000 6 = slot.toNat + 0 * 65536 ∧
    u.slot slot.toNat = { writes := (s.slot slot.toNat).writes } ∧ u.store.mem = s.store.mem ∧ Frame [.entries,
    .store, .kop] s u) ∧
  (∀ (r : Requester) (slot : BitVec 16) (s : State), Canonical s → s.admits r 0x7000 5 = true → slot.toNat ≤ 1023 →
    s.dget 0x7000 2 = 2 →
    (s.slotBound slot.toNat = true ∨ s.store.opened.any (fun o => decide (o.slot = slot.toNat)) = true) → ∃ u,
    exec (.storeErase r slot) s = .next u ∧ u.result = kState ∧ u.dget 0x7000 6 = slot.toNat + 7 * 65536 ∧
    Frame [.entries, .kop] s u) ∧
  (∀ (r : Requester) (slot : BitVec 16) (s : State), Canonical s → s.admits r 0x7000 5 = true → slot.toNat ≤ 1023 →
    s.dget 0x7000 2 ≠ 2 → ∃ u, exec (.storeErase r slot) s = .next u ∧ u.result = kState ∧
    u.dget 0x7000 6 = slot.toNat + 9 * 65536 ∧ Frame [.entries, .kop] s u) ∧
  (∀ (r : Requester) (slot : BitVec 16) (s : State), Canonical s → s.admits r 0x7000 5 = true → 1023 < slot.toNat →
    ∃ u, exec (.storeErase r slot) s = .next u ∧ u.result = kRange ∧ Frame [.kop] s u) ∧
  (∀ (r : Requester) (slot : BitVec 16) (s : State), s.reaches r = false → ∃ u,
    exec (.storeErase r slot) s = .next u ∧ u = s ∧ Frame [] s u) ∧
  (∀ (r : Requester) (slot : Fin 4) (key : Bytes) (s : State), Canonical s →
    s.admits r 0x7010 (slot.val + 1) = true → 0 < slot.val → key.length = 97 → s.dget 0x7000 2 = 2 → ∃ u,
    exec (.storeKeyWrite r slot key) s = .next u ∧ u.result = u.result ∧ ((keyOk key = true → u.result = kOk ∧
    u.storeKey slot.val = key ∧ u.keyState slot.val = 1)) ∧ ((keyOk key = false → u.result = kRange ∧
    u.store = s.store)) ∧ Frame [.store, .kop] s u) ∧
  (∀ (r : Requester) (slot : Fin 4) (key : Bytes) (s : State), Canonical s →
    s.admits r 0x7010 (slot.val + 1) = true → 0 < slot.val → key.length = 97 → s.dget 0x7000 2 ≠ 2 → ∃ u,
    exec (.storeKeyWrite r slot key) s = .next u ∧ u.result = kState ∧ Frame [.kop] s u) ∧
  (∀ (r : Requester) (slot : Fin 4) (key : Bytes) (s : State), Canonical s →
    s.admits r 0x7010 (slot.val + 1) = true → 0 < slot.val → key.length ≠ 97 → key.length < 65536 → ∃ u,
    exec (.storeKeyWrite r slot key) s = .next u ∧ u.result = kType ∧ Frame [.kop] s u) ∧
  (∀ (r : Requester) (slot : Fin 4) (key : Bytes) (s : State), Canonical s →
    s.admits r 0x7010 (slot.val + 1) = true → slot.val = 0 → ∃ u, exec (.storeKeyWrite r slot key) s = .next u ∧
    u.result = kAccess ∧ Frame [.kop] s u) ∧
  (∀ (r : Requester) (slot : Fin 4) (key : Bytes) (s : State), s.reaches r = false → ∃ u,
    exec (.storeKeyWrite r slot key) s = .next u ∧ u = s ∧ Frame [] s u) ∧
  (∀ (r : Requester) (slot : BitVec 8) (s : State), Canonical s → s.admits r 0x7010 5 = true → slot.toNat ≤ 3 →
    s.dget 0x7000 2 = 2 → ∃ u, exec (.storeKeyRevoke r slot) s = .next u ∧ u.result = kOk ∧
    u.keyState slot.toNat = 2 ∧ u.store.keys = s.store.keys ∧ (u.store.slots = s.store.slots.map fun x => (x.1,
    if x.2.state ≠ 0 ∧ x.2.keyId = slot.toNat then { x.2 with keyRevoked := true } else x.2)) ∧ Frame [.store,
    .kop] s u) ∧
  (∀ (r : Requester) (slot : BitVec 8) (s : State), Canonical s → s.admits r 0x7010 5 = true → slot.toNat ≤ 3 →
    s.dget 0x7000 2 ≠ 2 → ∃ u, exec (.storeKeyRevoke r slot) s = .next u ∧ u.result = kState ∧ Frame [.kop] s u) ∧
  (∀ (r : Requester) (slot : BitVec 8) (s : State), Canonical s → s.admits r 0x7010 5 = true → 3 < slot.toNat → ∃ u,
    exec (.storeKeyRevoke r slot) s = .next u ∧ u.result = kRange ∧ Frame [.kop] s u) ∧
  (∀ (r : Requester) (slot : BitVec 8) (s : State), s.reaches r = false → ∃ u,
    exec (.storeKeyRevoke r slot) s = .next u ∧ u = s ∧ Frame [] s u)

/-- CLUSTER_ASSIGN, POOL, BIVOUAC_VA, SHARE and POOL_SLACK (R365, R366, R368, R384, R393). Chosen by the model: the
order of dictionary checks (log entry 67). Commands: CLUSTER_ASSIGN, POOL, BIVOUAC_VA, SHARE, POOL_SLACK. -/
def Obligations.PoolsAndShares : Prop :=
  (∀ (r : Requester) (cluster : ClusterId) (value : BitVec 16) (s : State), Canonical s →
    s.admits r 0x2300 1 = true → assignOk value.toNat = true → s.routeFree cluster.val = true →
    s.stepOn cluster.val = false →
    ((poolNamed (s.assign cluster.val)).all (fun p => !s.holderMaps p cluster.val) = true) →
    (poolNamed (s.assign cluster.val) = poolNamed value.toNat ∨ ((poolNamed (s.assign cluster.val)).all (fun p => !s.poolUsed p) = true ∧
    (poolNamed value.toNat).all (fun p => !s.poolUsed p) = true)) → ∃ u,
    exec (.clusterAssign r cluster value) s = .next u ∧ u.result = kOk ∧ u.dget 0x2300 1 cluster.val = value.toNat ∧
    u.dget 0x2000 7 = 1 ∧ u.kop.lastWrite = s.uptime ∧ Frame [.entries, .kop] s u) ∧
  (∀ (r : Requester) (cluster : ClusterId) (value : BitVec 16) (s : State), Canonical s →
    s.admits r 0x2300 1 = true → assignOk value.toNat = true →
    (s.routeFree cluster.val = false ∨ s.stepOn cluster.val = true ∨ (poolNamed (s.assign cluster.val)).any (fun p => s.holderMaps p cluster.val) = true) →
    ∃ u, exec (.clusterAssign r cluster value) s = .next u ∧ u.result = kState ∧ u.dict = s.dict ∧ Frame [.kop] s u) ∧
  (∀ (r : Requester) (cluster : ClusterId) (value : BitVec 16) (s : State), Canonical s →
    s.admits r 0x2300 1 = true → assignOk value.toNat = true →
    poolNamed (s.assign cluster.val) ≠ poolNamed value.toNat →
    ((poolNamed (s.assign cluster.val)).any s.poolUsed = true ∨ (poolNamed value.toNat).any s.poolUsed = true) → ∃ u,
    exec (.clusterAssign r cluster value) s = .next u ∧ u.result = kState ∧ u.dict = s.dict ∧ Frame [.kop] s u) ∧
  (∀ (r : Requester) (cluster : ClusterId) (value : BitVec 16) (s : State), Canonical s →
    s.admits r 0x2300 1 = true → assignOk value.toNat = false → ∃ u,
    exec (.clusterAssign r cluster value) s = .next u ∧ u.result = kRange ∧ u.dict = s.dict ∧ Frame [.kop] s u) ∧
  (∀ (r : Requester) (cluster : ClusterId) (value : BitVec 16) (s : State), s.reaches r = false → ∃ u,
    exec (.clusterAssign r cluster value) s = .next u ∧ u = s ∧ Frame [] s u) ∧
  (∀ (r : Requester) (ctx : Fin 256) (value : BitVec 8) (s : State), Canonical s →
    s.admits r (0x4001 + ctx.val * 16) 3 = true → (value.toNat < 16 ∨ value.toNat = 0xFF) →
    s.attached ctx.val = none →
    (s.cmds.any (fun d => decide (d.ctx = ctx.val) && decide (d.stage = .grant)) = false) →
    (s.cget ctx.val 1 4 ≠ 0 ∨ value.toNat = 0xFF) → ∃ u, exec (.pool r ctx value) s = .next u ∧ u.result = kOk ∧
    u.cget ctx.val 1 3 = value.toNat ∧ ((value.toNat ≠ s.cget ctx.val 1 3 →
    u.near.bivouac = tclear s.near.bivouac (ctx.val * 32768) ((ctx.val + 1) * 32768))) ∧ Frame [.ctxEntries, .near,
    .kop] s u) ∧
  (∀ (r : Requester) (ctx : Fin 256) (value : BitVec 8) (s : State), Canonical s →
    s.admits r (0x4001 + ctx.val * 16) 3 = true → (value.toNat < 16 ∨ value.toNat = 0xFF) →
    ((s.attached ctx.val).any (fun p => decide (s.holder p = some ctx.val)) = true ∨ s.cmds.any (fun d => decide (d.ctx = ctx.val) && decide (d.stage = .grant)) = true ∨ (s.cget ctx.val 1 4 = 0 ∧
    value.toNat ≠ 0xFF)) → ∃ u, exec (.pool r ctx value) s = .next u ∧ u.result = kState ∧ u.cdict = s.cdict ∧
    Frame [.kop] s u) ∧
  (∀ (r : Requester) (ctx : Fin 256) (value : BitVec 8) (p : Nat) (s : State), Canonical s →
    s.admits r (0x4001 + ctx.val * 16) 3 = true → (value.toNat < 16 ∨ value.toNat = 0xFF) →
    s.attached ctx.val = some p →
    (s.array.routes.any (fun q => decide (q.ctx = ctx.val) && decide (s.poolOfFootprint q.footprint = some p)) = true) →
    ∃ u, exec (.pool r ctx value) s = .next u ∧ u.result = kState ∧ u.cdict = s.cdict ∧ Frame [.kop] s u) ∧
  (∀ (r : Requester) (ctx : Fin 256) (value : BitVec 8) (s : State), Canonical s →
    s.admits r (0x4001 + ctx.val * 16) 3 = true → 16 ≤ value.toNat → value.toNat ≠ 0xFF → ∃ u,
    exec (.pool r ctx value) s = .next u ∧ u.result = kRange ∧ u.cdict = s.cdict ∧ Frame [.kop] s u) ∧
  (∀ (r : Requester) (ctx : Fin 256) (value : BitVec 8) (s : State), s.reaches r = false → ∃ u,
    exec (.pool r ctx value) s = .next u ∧ u = s ∧ Frame [] s u) ∧
  (∀ (r : Requester) (ctx : Fin 256) (value : BitVec 64) (s : State), Canonical s →
    s.admits r (0x4001 + ctx.val * 16) 4 = true → bulkOrZero value.toNat (2 ^ 21) = true →
    s.cget ctx.val 1 3 = 0xFF → ∃ u, exec (.bivouacVa r ctx value) s = .next u ∧ u.result = kOk ∧
    u.cget ctx.val 1 4 = value.toNat ∧ Frame [.ctxEntries, .kop] s u) ∧
  (∀ (r : Requester) (ctx : Fin 256) (value : BitVec 64) (s : State), Canonical s →
    s.admits r (0x4001 + ctx.val * 16) 4 = true → bulkOrZero value.toNat (2 ^ 21) = true →
    s.cget ctx.val 1 3 ≠ 0xFF → ∃ u, exec (.bivouacVa r ctx value) s = .next u ∧ u.result = kState ∧
    u.cdict = s.cdict ∧ Frame [.kop] s u) ∧
  (∀ (r : Requester) (ctx : Fin 256) (value : BitVec 64) (s : State), Canonical s →
    s.admits r (0x4001 + ctx.val * 16) 4 = true → bulkOrZero value.toNat (2 ^ 21) = false → ∃ u,
    exec (.bivouacVa r ctx value) s = .next u ∧ u.result = kRange ∧ u.cdict = s.cdict ∧ Frame [.kop] s u) ∧
  (∀ (r : Requester) (ctx : Fin 256) (value : BitVec 64) (s : State), s.reaches r = false → ∃ u,
    exec (.bivouacVa r ctx value) s = .next u ∧ u = s ∧ Frame [] s u) ∧
  (∀ (r : Requester) (ctx : Fin 256) (value : BitVec 16) (s : State), Canonical s → s.admits r (0x4001 + ctx.val * 16)
    1 = true → value ≠ 0 → (s.steps.any (fun q => decide (q.ctx = ctx.val) && q.launched) = true ∨ s.switchingWith
    ctx.val = true) → ∃ u, exec (.share r ctx value) s = .next u ∧ u.result = kOk ∧ u.cget ctx.val 1 1 = value.toNat
    ∧ u.cget ctx.val 1 2 = s.cget ctx.val 1 2 ∧ u.account ctx.val =
    { s.account ctx.val with shareDue := some value.toNat, shareAtStep := true } ∧ Frame [.ctxEntries, .ctxs, .kop] s
    u) ∧
  (∀ (r : Requester) (ctx : Fin 256) (value : BitVec 16) (s : State), Canonical s → s.admits r (0x4001 + ctx.val * 16)
    1 = true → value ≠ 0 → (s.steps.any (fun q => decide (q.ctx = ctx.val) && q.launched) = false) → s.switchingWith
    ctx.val = false → ((s.attached ctx.val).any (fun p => decide (s.holder p = some ctx.val)) = true) → tsorted none
    s.ctxs.accounts = true → ∃ u, exec (.share r ctx value) s = .next u ∧ u.result = kOk ∧ u.cget ctx.val 1 1 =
    value.toNat ∧ u.cget ctx.val 1 2 = value.toNat ∧ u.account ctx.val =
    { s.account ctx.val with shareDue := none, shareAtStep := false } ∧ Frame [.ctxEntries, .ctxs, .kop] s u) ∧
  (∀ (r : Requester) (ctx : Fin 256) (value : BitVec 16) (s : State), Canonical s → s.admits r (0x4001 + ctx.val * 16)
    1 = true → value ≠ 0 → (s.steps.any (fun q => decide (q.ctx = ctx.val) && q.launched) = false) → s.switchingWith
    ctx.val = false → ((s.attached ctx.val).any (fun p => decide (s.holder p = some ctx.val)) = false) → ∃ u, exec
    (.share r ctx value) s = .next u ∧ u.result = kOk ∧ u.cget ctx.val 1 1 = value.toNat ∧ u.cget ctx.val 1 2 =
    s.cget ctx.val 1 2 ∧ u.account ctx.val =
    { s.account ctx.val with shareDue := some value.toNat, shareAtStep := false } ∧ Frame [.ctxEntries, .ctxs, .kop]
    s u) ∧
  (∀ (r : Requester) (ctx : Fin 256) (value : BitVec 16) (s : State), Canonical s →
    s.admits r (0x4001 + ctx.val * 16) 1 = true → value = 0 → ∃ u, exec (.share r ctx value) s = .next u ∧
    u.result = kRange ∧ u.cdict = s.cdict ∧ Frame [.kop] s u) ∧
  (∀ (r : Requester) (ctx : Fin 256) (value : BitVec 16) (s : State), s.reaches r = false → ∃ u,
    exec (.share r ctx value) s = .next u ∧ u = s ∧ Frame [] s u) ∧
  (∀ (r : Requester) (pool : Fin 16) (value : BitVec 32) (s : State), Canonical s → s.admits r 0x2300 3 = true →
    value.toNat ≤ 4000000000 → ∃ u, exec (.poolSlack r pool value) s = .next u ∧ u.result = kOk ∧
    u.dget 0x2300 3 pool.val = value.toNat ∧ u.dget 0x2000 7 = 1 ∧ u.kop.lastWrite = s.uptime ∧ Frame [.entries,
    .kop] s u) ∧
  (∀ (r : Requester) (pool : Fin 16) (value : BitVec 32) (s : State), Canonical s → s.admits r 0x2300 3 = true →
    4000000000 < value.toNat → ∃ u, exec (.poolSlack r pool value) s = .next u ∧ u.result = kRange ∧
    u.dict = s.dict ∧ Frame [.kop] s u) ∧
  (∀ (r : Requester) (pool : Fin 16) (value : BitVec 32) (s : State), s.reaches r = false → ∃ u,
    exec (.poolSlack r pool value) s = .next u ∧ u = s ∧ Frame [] s u)

/-- LANE_SIDE, LOOP_LANE, LANE_SWITCH, LANE_CANCEL and TRU_EXCHANGES: what a write that the dictionary admits sets,
and where it is refused with STATE or RANGE and sets nothing (R416, R417, R421, R424, R450). Chosen by the model:
the order of dictionary checks (log entry 67), records with TRIGGER_ROUTE 0 (51). Commands: LANE_SIDE, LOOP_LANE,
LANE_SWITCH, LANE_CANCEL, TRU_EXCHANGES. -/
def Obligations.LaneTables : Prop :=
  (∀ (r : Requester) (ctx : Fin 256) (entry : Fin 16) (record : Bytes) (s : State), Canonical s → s.admits r (0x400C +
    ctx.val * 16) 1 = true → (s.lane ctx.val (entry.val / 2)).active ≠ entry.val % 2 → (s.lane ctx.val (entry.val /
    2)).switching = false → s.sideOk ctx.val record = true → tsorted none s.serve.lanes = true → ∃ u, exec (.laneSide
    r ctx entry record) s = .next u ∧ u.result = kOk ∧ u.lane ctx.val (entry.val / 2) = (s.lane ctx.val (entry.val /
    2)).setSide (entry.val % 2) (laneSideOf record) ∧ Frame [.serve, .kop] s u) ∧
  (∀ (r : Requester) (ctx : Fin 256) (entry : Fin 16) (record : Bytes) (s : State), Canonical s → s.admits r (0x400C +
    ctx.val * 16) 1 = true → record.length = 64 → ((s.lane ctx.val (entry.val / 2)).active = entry.val % 2 ∨ (s.lane
    ctx.val (entry.val / 2)).switching = true) → ∃ u, exec (.laneSide r ctx entry record) s = .next u ∧ u.result =
    kState ∧ u.dict = s.dict ∧ Frame [.kop] s u) ∧
  (∀ (r : Requester) (ctx : Fin 256) (entry : Fin 16) (record : Bytes) (s : State), Canonical s → s.admits r (0x400C +
    ctx.val * 16) 1 = true → record.length = 64 → (s.lane ctx.val (entry.val / 2)).active ≠ entry.val % 2 → (s.lane
    ctx.val (entry.val / 2)).switching = false → s.sideOk ctx.val record = false → ∃ u, exec (.laneSide r ctx entry
    record) s = .next u ∧ u.result = kRange ∧ u.dict = s.dict ∧ Frame [.kop] s u) ∧
  (∀ (r : Requester) (ring : RingId) (value : BitVec 8) (s : State), Canonical s → s.admits r 0x2A00 4 = true → (value
    = 0xFF ∨ (value.toNat < 64 ∧ bit value.toNat 3 = false ∧ bits value.toNat 5 4 ≠ 3)) → s.drained ring.val = true →
    (value = 0xFF ∨ (s.ring ring.val).ctx ≠ 256) → ∃ u, exec (.loopLane r ring value) s = .next u ∧ u.result = kOk ∧
    u.dget 0x2A00 4 ring.val = value.toNat ∧ Frame [.entries, .kop] s u) ∧
  (∀ (r : Requester) (ring : RingId) (value : BitVec 8) (s : State), Canonical s → s.admits r 0x2A00 4 = true → (value
    = 0xFF ∨ (value.toNat < 64 ∧ bit value.toNat 3 = false ∧ bits value.toNat 5 4 ≠ 3)) → (s.drained ring.val = false
    ∨ (value ≠ 0xFF ∧ (s.ring ring.val).ctx = 256)) → ∃ u, exec (.loopLane r ring value) s = .next u ∧ u.result =
    kState ∧ u.dict = s.dict ∧ Frame [.kop] s u) ∧
  (∀ (r : Requester) (ring : RingId) (value : BitVec 8) (s : State), Canonical s → s.admits r 0x2A00 4 = true → value
    ≠ 0xFF → (64 ≤ value.toNat ∨ bit value.toNat 3 = true ∨ bits value.toNat 5 4 = 3) → ∃ u, exec (.loopLane r ring
    value) s = .next u ∧ u.result = kRange ∧ u.dict = s.dict ∧ Frame [.kop] s u) ∧
  (∀ (r : Requester) (ctx : Fin 256) (lane : BitVec 8) (s : State), Canonical s → s.admits r (0x400C + ctx.val * 16) 3
    = true → lane.toNat ≤ 7 → (s.lane ctx.val lane.toNat).switching = false → s.loopsOf ctx.val lane.toNat ≠ [] →
    (((s.lane ctx.val lane.toNat).side (1 - (s.lane ctx.val lane.toNat).active)).base = 0xFFFF ∨ s.isBound ((s.lane
    ctx.val lane.toNat).side (1 - (s.lane ctx.val lane.toNat).active)).base = true) → (((s.lane ctx.val
    lane.toNat).side (1 - (s.lane ctx.val lane.toNat).active)).variant = 0xFFFF ∨ s.isBound ((s.lane ctx.val
    lane.toNat).side (1 - (s.lane ctx.val lane.toNat).active)).variant = true) → tsorted none s.serve.lanes = true →
    ∃ u, exec (.laneSwitch r ctx lane) s = .next u ∧ u.result = kOk ∧ u.lane ctx.val lane.toNat =
    { (s.lane ctx.val lane.toNat) with switching := true, openLoops := (s.loopsOf ctx.val lane.toNat).filter s.loopOpen }
    ∧ Frame [.serve, .kop] s u) ∧
  (∀ (r : Requester) (ctx : Fin 256) (lane : BitVec 8) (s : State), Canonical s → s.admits r (0x400C + ctx.val * 16) 3
    = true → lane.toNat ≤ 7 → ((s.lane ctx.val lane.toNat).switching = true ∨ s.loopsOf ctx.val lane.toNat = [] ∨
    (((s.lane ctx.val lane.toNat).side (1 - (s.lane ctx.val lane.toNat).active)).base ≠ 0xFFFF ∧ s.isBound ((s.lane
    ctx.val lane.toNat).side (1 - (s.lane ctx.val lane.toNat).active)).base = false) ∨ (((s.lane ctx.val
    lane.toNat).side (1 - (s.lane ctx.val lane.toNat).active)).variant ≠ 0xFFFF ∧ s.isBound ((s.lane ctx.val
    lane.toNat).side (1 - (s.lane ctx.val lane.toNat).active)).variant = false)) → ∃ u, exec (.laneSwitch r ctx lane)
    s = .next u ∧ u.result = kState ∧ u.dict = s.dict ∧ Frame [.kop] s u) ∧
  (∀ (r : Requester) (ctx : Fin 256) (lane : BitVec 8) (s : State), Canonical s → s.admits r (0x400C + ctx.val * 16) 3
    = true → 7 < lane.toNat → ∃ u, exec (.laneSwitch r ctx lane) s = .next u ∧ u.result = kRange ∧ u.dict = s.dict ∧
    Frame [.kop] s u) ∧
  (∀ (r : Requester) (ctx : Fin 256) (lane : BitVec 8) (s : State), Canonical s → s.admits r (0x400C + ctx.val * 16) 4
    = true → lane.toNat ≤ 7 → (s.lane ctx.val lane.toNat).switching = true → tsorted none s.serve.lanes = true → ∃ u,
    exec (.laneCancel r ctx lane) s = .next u ∧ u.result = kOk ∧ u.lane ctx.val lane.toNat =
    { (s.lane ctx.val lane.toNat) with switching := false, openLoops := [] } ∧ Frame [.serve, .kop] s u) ∧
  (∀ (r : Requester) (ctx : Fin 256) (lane : BitVec 8) (s : State), Canonical s → s.admits r (0x400C + ctx.val * 16) 4
    = true → lane.toNat ≤ 7 → (s.lane ctx.val lane.toNat).switching = false → ∃ u, exec (.laneCancel r ctx lane) s =
    .next u ∧ u.result = kState ∧ u.dict = s.dict ∧ Frame [.kop] s u) ∧
  (∀ (r : Requester) (ctx : Fin 256) (lane : BitVec 8) (s : State), Canonical s → s.admits r (0x400C + ctx.val * 16) 4
    = true → 7 < lane.toNat → ∃ u, exec (.laneCancel r ctx lane) s = .next u ∧ u.result = kRange ∧ u.dict = s.dict ∧
    Frame [.kop] s u) ∧
  (∀ (r : Requester) (ctx : Fin 256) (entry : Fin 32) (record : Bytes) (s : State), Canonical s → s.admits r (0x400E +
    ctx.val * 16) 1 = true → exRecordOk record = true → tsorted none s.tru.table = true → ∃ u, exec (.truExchanges r
    ctx entry record) s = .next u ∧ u.result = kOk ∧ tget (leBytes 128 0) u.tru.table (ctx.val * 32 + entry.val) =
    record ∧ u.tru = { s.tru with table := u.tru.table } ∧ Frame [.tru, .kop] s u) ∧
  (∀ (r : Requester) (ctx : Fin 256) (entry : Fin 32) (record : Bytes) (s : State), Canonical s → s.admits r (0x400E +
    ctx.val * 16) 1 = true → record.length = 128 → exRecordOk record = false → ∃ u, exec (.truExchanges r ctx entry
    record) s = .next u ∧ u.result = kRange ∧ u.dict = s.dict ∧ Frame [.kop] s u)

/-- CDU_APPLY, PARTITION_APPLY, PORT_LANE_TEST and CLUSTER_POINT_REQ: the staged cadence values become the active
ones, the fence of a moving border starts, the port enters Test, and the requested point is taken; and where each is
refused (R395, R491, R496, R543). Chosen by the model: a change of a border (log entry 78), the order of dictionary
checks (67). Commands: CDU_APPLY, PARTITION_APPLY, PORT_LANE_TEST, CLUSTER_POINT_REQ. -/
def Obligations.UnitCommands : Prop :=
  (∀ (r : Requester) (value : BitVec 8) (s : State), Canonical s → s.admits r 0x2200 4 = true → value = 1 → cadenceOk
    (s.dget 0x2200 1) (s.dget 0x2200 2) (s.dget 0x2200 3) = true → ∃ u, exec (.cduApply r value) s = .next u ∧
    u.result = kOk ∧ u.cdu.mode = s.dget 0x2200 1 ∧ u.cdu.hz = s.dget 0x2200 2 ∧ u.cdu.spt = s.dget 0x2200 3 ∧
    (u.cdu.applyDue = true ∨ u.cdu.state = (if s.dget 0x2200 1 = 2 then 4 else 0)) ∧ Frame [.free, .cdu, .entries,
    .kop] s u) ∧
  (∀ (r : Requester) (value : BitVec 8) (s : State), Canonical s → s.admits r 0x2200 4 = true → value = 1 → cadenceOk
    (s.dget 0x2200 1) (s.dget 0x2200 2) (s.dget 0x2200 3) = false → ∃ u, exec (.cduApply r value) s = .next u ∧
    u.result = kState ∧ u.dict = s.dict ∧ Frame [.kop] s u) ∧
  (∀ (r : Requester) (value : BitVec 8) (s : State), Canonical s → s.admits r 0x2200 4 = true → 1 < value.toNat → ∃ u,
    exec (.cduApply r value) s = .next u ∧ u.result ≠ kOk ∧ u.dict = s.dict ∧ Frame [.kop] s u) ∧
  (∀ (r : Requester) (value : BitVec 8) (s : State), Canonical s → s.admits r 0x5000 11 = true → value = 1 → s.dget
    0x5000 12 = 0 → s.groupBlocks s.changingPorts = false → s.changingPorts.any (fun p => (s.port p).carries) = true
    → tsorted none s.links.ports = true → ∃ u, exec (.partitionApply r value) s = .next u ∧ u.result = kOk ∧ u.dget
    0x5000 12 = 1 ∧ u.links.moving = ((s.changingPorts.map (2 ^ ·)).foldl (· + ·) 0) ∧ u.changingPorts = [] ∧ Frame
    [.free, .out, .entries, .ctxEntries, .host, .near, .nearMem, .bulk, .bulkMem, .store, .storeMem, .rings, .msix,
    .pages, .cmds, .steps, .array, .ctxs, .links, .health, .kop, .power] s u) ∧
  (∀ (r : Requester) (value : BitVec 8) (s : State), Canonical s → s.admits r 0x5000 11 = true → value = 1 → (s.dget
    0x5000 12 ≠ 0 ∨ s.groupBlocks s.changingPorts = true) → ∃ u, exec (.partitionApply r value) s = .next u ∧
    u.result = kState ∧ u.dict = s.dict ∧ Frame [.kop] s u) ∧
  (∀ (r : Requester) (port : PortId) (value : BitVec 16) (s : State), Canonical s → s.admits r (0x5010 + port.val) 15
    = true → (value.toNat % 4 = 1 ∨ value.toNat % 4 = 2) → 4 ≤ value.toNat → ((s.port port.val).state = .isolated ∨
    (s.port port.val).state = .off ∨ (s.port port.val).state = .down) → tsorted none s.links.ports = true → ∃ u, exec
    (.portLaneTest r port value) s = .next u ∧ u.result = kOk ∧ u.port port.val =
    { (s.port port.val).renewed .test s.uptime with labTest := value.toNat } ∧ u.domain (96 + port.val) = 2 ∧ Frame
    [.entries, .links, .kop] s u) ∧
  (∀ (r : Requester) (port : PortId) (value : BitVec 16) (s : State), Canonical s → s.admits r (0x5010 + port.val) 15
    = true → (value.toNat % 4 = 1 ∨ value.toNat % 4 = 2) → 4 ≤ value.toNat → ¬ ((s.port port.val).state = .isolated ∨
    (s.port port.val).state = .off ∨ (s.port port.val).state = .down) → ∃ u, exec (.portLaneTest r port value) s =
    .next u ∧ u.result = kState ∧ u.dict = s.dict ∧ Frame [.kop] s u) ∧
  (∀ (r : Requester) (port : PortId) (value : BitVec 16) (s : State), Canonical s → s.admits r (0x5010 + port.val) 15
    = true → (value.toNat < 4 ∨ value.toNat % 4 = 0 ∨ value.toNat % 4 = 3) → ∃ u, exec (.portLaneTest r port value) s
    = .next u ∧ u.result = kRange ∧ u.dict = s.dict ∧ Frame [.kop] s u) ∧
  (∀ (r : Requester) (cluster : ClusterId) (value : BitVec 8) (s : State), Canonical s → s.admits r 0x2100 3 = true →
    value.toNat ≤ 11 → ∃ u, exec (.clusterPointReq r cluster value) s = .next u ∧ u.result = kOk ∧ u.dget 0x2100 3
    cluster.val = value.toNat ∧ u.dget 0x2000 7 = 1 ∧ u.kop.lastWrite = s.uptime ∧ Frame [.entries, .kop] s u) ∧
  (∀ (r : Requester) (cluster : ClusterId) (value : BitVec 8) (s : State), Canonical s → s.admits r 0x2100 3 = true →
    11 < value.toNat → ∃ u, exec (.clusterPointReq r cluster value) s = .next u ∧ u.result = kRange ∧ u.dict = s.dict
    ∧ Frame [.kop] s u)

/-- Saving, autosaving, writing and erasing profile slots (R534, R535, R536, R537). Chosen by the model: a row whose
condition does not hold changes nothing (log entry 2), what counts as a write and when an image is captured (63),
the copies of the flash (64, 84). Commands: PROFILE_SAVE, PROFILE_AUTOSAVE, PROFILE_IMAGE, PROFILE_ERASE,
PROFILE_SAVE_DONE. -/
def Obligations.ProfileSlots : Prop :=
  (∀ (r : Requester) (slot : BitVec 8) (s : State), Canonical s → s.admits r 0x2000 5 = true → slot.toNat ≤ 3 →
    s.kop.saving = none → ∃ u, exec (.profileSave r slot) s = .next u ∧ u.result = kOk ∧ u.kop.saving = some
    { slot := slot.toNat, image := s.buildImage (s.nextSequence slot.toNat), waiting := [] } ∧ u.dget 0x2000 4 =
    slot.toNat ∧ Frame [.entries, .kop] s u) ∧
  (∀ (r : Requester) (slot : BitVec 8) (v : Save) (s : State), Canonical s → s.admits r 0x2000 5 = true → slot.toNat ≤
    3 → s.kop.saving = some v → ∃ u, exec (.profileSave r slot) s = .next u ∧ u.result = kOk ∧ u.kop.saving = some
    { v with waiting := v.waiting ++ [slot.toNat] } ∧ Frame [.kop] s u) ∧
  (∀ (r : Requester) (slot : BitVec 8) (s : State), Canonical s → s.admits r 0x2000 5 = true → 3 < slot.toNat → ∃ u,
    exec (.profileSave r slot) s = .next u ∧ u.result = kRange ∧ u.dict = s.dict ∧ Frame [.kop] s u) ∧
  (∀ (t : Nat) (s : State), Canonical s → s.powered = true → s.dget 0x2000 6 ≠ 0 → s.dget 0x2000 4 ≠ 0xFF → s.dget
    0x2000 7 = 1 → s.kop.saving = none → s.kop.lastWrite + s.dget 0x2000 6 * 1000000000 ≤ t → ∃ u, exec
    (.profileAutosave t) s = .next u ∧ u.kop.saving = some
    { slot := s.dget 0x2000 4, image := (s.at t).buildImage (s.nextSequence (s.dget 0x2000 4)), waiting := [] } ∧
    u.uptime = max s.uptime t ∧ Frame [.uptime, .entries, .kop] s u) ∧
  (∀ (t : Nat) (s : State), (s.dget 0x2000 6 = 0 ∨ s.dget 0x2000 4 = 0xFF ∨ s.dget 0x2000 7 ≠ 1 ∨ t < s.kop.lastWrite
    + s.dget 0x2000 6 * 1000000000) → ∃ u, exec (.profileAutosave t) s = .next u ∧ u = s ∧ Frame [] s u) ∧
  (∀ (r : Requester) (slot : Fin 4) (image : Bytes) (s : State), Canonical s → s.admits r 0x2010 (slot.val + 1) = true
    → copyIntact image = true → s.dget 0x2000 4 ≠ slot.val → tsorted none s.kop.copies = true → s.copyThere 0 = true
    → ∃ u, exec (.profileImage r slot image) s = .next u ∧ u.result = kOk ∧ u.profileCopy slot.val 0 = image ∧
    u.profileCopy slot.val 1 = image ∧ Frame [.free, .entries, .kop] s u) ∧
  (∀ (r : Requester) (slot : Fin 4) (image : Bytes) (s : State), Canonical s → s.admits r 0x2010 (slot.val + 1) = true
    → copyIntact image = true → s.dget 0x2000 4 = slot.val → ∃ u, exec (.profileImage r slot image) s = .next u ∧
    u.result = kState ∧ u.dict = s.dict ∧ Frame [.kop] s u) ∧
  (∀ (r : Requester) (slot : Fin 4) (image : Bytes) (s : State), Canonical s → s.admits r 0x2010 (slot.val + 1) = true
    → 64 < image.length → image.length ≤ 65536 → copyIntact image = false → s.dget 0x2000 4 ≠ slot.val → ∃ u, exec
    (.profileImage r slot image) s = .next u ∧ u.result = kRange ∧ u.dict = s.dict ∧ Frame [.kop] s u) ∧
  (∀ (r : Requester) (slot : BitVec 8) (s : State), Canonical s → s.admits r 0x2000 11 = true → slot.toNat ≤ 3 →
    tsorted none s.kop.copies = true → s.copyThere 0 = true → ∃ u, exec (.profileErase r slot) s = .next u ∧ u.result
    = kOk ∧ u.profileCopy slot.toNat 0 = [] ∧ u.profileCopy slot.toNat 1 = [] ∧ u.slotState slot.toNat % 4 ≠ 1 ∧
    Frame [.free, .entries, .kop] s u) ∧
  (∀ (r : Requester) (slot : BitVec 8) (s : State), Canonical s → s.admits r 0x2000 11 = true → 3 < slot.toNat → ∃ u,
    exec (.profileErase r slot) s = .next u ∧ u.result = kRange ∧ u.dict = s.dict ∧ Frame [.kop] s u) ∧
  (∀ (t : Nat) (v : Save) (s : State), Canonical s → s.powered = true → s.kop.saving = some v → v.waiting = [] →
    tsorted none s.kop.copies = true → s.copyThere 0 = true → ∃ u, exec (.profileSaveDone t) s = .next u ∧
    u.kop.saving = none ∧ u.profileCopy v.slot 0 = v.image ∧ u.profileCopy v.slot 1 = v.image ∧ u.uptime = max
    s.uptime t ∧ Frame [.free, .uptime, .entries, .kop] s u) ∧
  (∀ (t : Nat) (v : Save) (w : Nat) (ws : List Nat) (s : State), Canonical s → s.powered = true → s.kop.saving = some
    v → v.waiting = w :: ws → ∃ u, exec (.profileSaveDone t) s = .next u ∧ u.kop.saving.map (fun x => (x.slot,
    x.waiting)) = some (w, ws) ∧ u.dget 0x2000 4 = w ∧ u.uptime = max s.uptime t ∧ Frame [.free, .uptime, .entries,
    .kop] s u) ∧
  (∀ (t : Nat) (s : State), s.kop.saving = none → ∃ u, exec (.profileSaveDone t) s = .next u ∧ u = s ∧ Frame [] s u) ∧
  (∀ (r : Requester) (slot : Fin 4) (image : Bytes) (s : State), Canonical s → s.admits r 0x2010 (slot.val + 1) = true
    → copyIntact image = true → s.dget 0x2000 4 ≠ slot.val → tsorted none s.kop.copies = true → s.copyThere 0 = false
    → ∃ u, exec (.profileImage r slot image) s = .next u ∧ u.result = kOk ∧ u.profileCopy slot.val 0 = s.profileCopy
    slot.val 0 ∧ u.profileCopy slot.val 1 = image ∧ Frame [.free, .entries, .kop] s u) ∧
  (∀ (r : Requester) (slot : BitVec 8) (s : State), Canonical s → s.admits r 0x2000 11 = true → slot.toNat ≤ 3 →
    tsorted none s.kop.copies = true → s.copyThere 0 = false → ∃ u, exec (.profileErase r slot) s = .next u ∧
    u.result = kOk ∧ u.profileCopy slot.toNat 0 = s.profileCopy slot.toNat 0 ∧ u.profileCopy slot.toNat 1 = [] ∧
    u.slotState slot.toNat % 4 ≠ 1 ∧ Frame [.free, .entries, .kop] s u) ∧
  (∀ (t : Nat) (v : Save) (s : State), Canonical s → s.powered = true → s.kop.saving = some v → v.waiting = [] →
    tsorted none s.kop.copies = true → s.copyThere 0 = false → ∃ u, exec (.profileSaveDone t) s = .next u ∧
    u.kop.saving = none ∧ u.profileCopy v.slot 0 = s.profileCopy v.slot 0 ∧ u.profileCopy v.slot 1 = v.image ∧
    u.uptime = max s.uptime t ∧ Frame [.free, .uptime, .entries, .kop] s u)

/-- HEALTH_ACK, HEALTH_MASK, TEST_REQUEST of both kinds, PERTURB_ENABLE and PERTURB_SLOTS: the counts an
acknowledgement takes down, the cluster under test, the rotation that falls due, the events of arming and disarming,
and where a write is refused (R601, R602, R607, R610, R617, R618). Chosen by the model: a row whose condition does
not hold changes nothing (log entry 2), tests that are cut (86), perturbation slots (87). Commands: HEALTH_ACK,
HEALTH_MASK, TEST_REQUEST_CLUSTER, TEST_REQUEST_ROTATE, PERTURB_ENABLE, PERTURB_SLOTS. -/
def Obligations.HealthCommands : Prop :=
  (∀ (r : Requester) (seq : BitVec 32) (s : State), Canonical s → s.admits r 0x3000 5 = true → (∀ v ∈
    s.health.unacked, 1 ≤ v.2) → ∃ u, exec (.healthAck r seq) s = .next u ∧ u.result = kOk ∧ u.health =
    { s.health with unacked := s.health.unacked.filter fun v => !s.ackedBy seq.toNat v } ∧ (∀ ty, 1 ≤ ty → u.dget
    0x3000 4 (ty - 1) = s.dget 0x3000 4 (ty - 1) - (s.health.unacked.filter fun v => s.ackedBy seq.toNat v && decide
    (v.2 = ty)).length) ∧ Frame [.entries, .health, .kop] s u) ∧
  (∀ (r : Requester) (value : BitVec 16) (s : State), Canonical s → s.admits r 0x3000 3 = true → value.toNat ≤ 0xFFE →
    ∃ u, exec (.healthMask r value) s = .next u ∧ u.result = kOk ∧ u.dget 0x3000 3 = value.toNat ∧ u.dget 0x2000 7 =
    1 ∧ u.kop.lastWrite = s.uptime ∧ Frame [.entries, .kop] s u) ∧
  (∀ (r : Requester) (value : BitVec 16) (s : State), Canonical s → s.admits r 0x3000 3 = true → 0xFFE < value.toNat →
    ∃ u, exec (.healthMask r value) s = .next u ∧ u.result = kRange ∧ u.dict = s.dict ∧ Frame [.kop] s u) ∧
  (∀ (r : Requester) (cluster : BitVec 8) (s : State), Canonical s → s.admits r 0x3020 1 = true → cluster.toNat < 64 →
    s.health.testing = none → (s.dget 0x3033 1 cluster.toNat = 1 ∨ s.routeFree cluster.toNat = true) → ∃ u, exec
    (.testRequestCluster r cluster) s = .next u ∧ u.result = kOk ∧ u.health.testing = some (cluster.toNat, decide
    (s.dget 0x3033 1 cluster.toNat = 1)) ∧ u.domain cluster.toNat = 2 ∧ u.isolated cluster.toNat = true ∧ Frame
    [.entries, .kop, .health, .power] s u) ∧
  (∀ (r : Requester) (cluster : BitVec 8) (s : State), Canonical s → s.admits r 0x3020 1 = true → cluster.toNat < 64 →
    (s.health.testing ≠ none ∨ (s.dget 0x3033 1 cluster.toNat ≠ 1 ∧ s.routeFree cluster.toNat = false)) → ∃ u, exec
    (.testRequestCluster r cluster) s = .next u ∧ u.result = kState ∧ u.dict = s.dict ∧ Frame [.kop] s u) ∧
  (∀ (r : Requester) (cluster : BitVec 8) (s : State), Canonical s → s.admits r 0x3020 1 = true → 64 ≤ cluster.toNat →
    ∃ u, exec (.testRequestCluster r cluster) s = .next u ∧ u.result = kRange ∧ u.dict = s.dict ∧ Frame [.kop] s u) ∧
  (∀ (r : Requester) (cluster : BitVec 8) (s : State), Canonical s → s.admits r 0x3020 1 = true → cluster.toNat < 64 →
    ∃ u, exec (.testRequestRotate r cluster) s = .next u ∧ u.result = kOk ∧ u.health =
    { s.health with rotationDue := tins s.health.rotationDue cluster.toNat } ∧ thas u.health.rotationDue
    cluster.toNat = true ∧ Frame [.health, .kop] s u) ∧
  (∀ (r : Requester) (cluster : BitVec 8) (s : State), Canonical s → s.admits r 0x3020 1 = true → 64 ≤ cluster.toNat →
    ∃ u, exec (.testRequestRotate r cluster) s = .next u ∧ u.result = kRange ∧ u.dict = s.dict ∧ Frame [.kop] s u) ∧
  (∀ (r : Requester) (value : BitVec 8) (s : State), Canonical s → s.admits r 0x6000 1 = true → value = 1 → s.dget
    0x6000 1 = 0 → ∃ u, exec (.perturbEnable r value) s = .next u ∧ u.result = kOk ∧ u.dget 0x6000 1 = 1 ∧ Logged u
    10 1 0 = true ∧ Frame [.free, .out, .entries, .msix, .health, .kop] s u) ∧
  (∀ (r : Requester) (value : BitVec 8) (s : State), Canonical s → s.admits r 0x6000 1 = true → value = 0 → s.dget
    0x6000 1 = 1 → ∃ u, exec (.perturbEnable r value) s = .next u ∧ u.result = kOk ∧ u.dget 0x6000 1 = 0 ∧ Logged u
    10 2 0 = true ∧ Frame [.free, .out, .entries, .msix, .health, .kop] s u) ∧
  (∀ (r : Requester) (value : BitVec 8) (s : State), Canonical s → s.admits r 0x6000 1 = true → value.toNat ≤ 1 →
    s.dget 0x6000 1 = value.toNat → ∃ u, exec (.perturbEnable r value) s = .next u ∧ u.result = kOk ∧ u.dget 0x6000 1
    = value.toNat ∧ u.health = s.health ∧ Frame [.entries, .kop] s u) ∧
  (∀ (r : Requester) (value : BitVec 8) (s : State), Canonical s → s.admits r 0x6000 1 = true → 1 < value.toNat → ∃ u,
    exec (.perturbEnable r value) s = .next u ∧ u.result = kRange ∧ u.dict = s.dict ∧ Frame [.kop] s u) ∧
  (∀ (r : Requester) (slot : Fin 16) (record : Bytes) (s : State), Canonical s → s.admits r 0x6000 2 = true →
    record.length = 16 → perturbOk record = true → tsorted none s.health.perturb = true → ∃ u, exec (.perturbSlots r
    slot record) s = .next u ∧ u.result = kOk ∧ tget {} u.health.perturb slot.val = perturbOf record ∧ u.health =
    { s.health with perturb := u.health.perturb } ∧ Frame [.health, .kop] s u) ∧
  (∀ (r : Requester) (slot : Fin 16) (record : Bytes) (s : State), Canonical s → s.admits r 0x6000 2 = true →
    record.length = 16 → perturbOk record = false → ∃ u, exec (.perturbSlots r slot record) s = .next u ∧ u.result =
    kRange ∧ u.dict = s.dict ∧ Frame [.kop] s u)

/-- CTX_RESET, RECOVER_REQUEST and SNAPSHOT_RELEASE: a context reset starts or joins the running one, a device
recovery starts or joins the running one, and SNAPSHOT_VALID clears; a requester whose transport does not reach the
device changes nothing (R572, R587, R592). Chosen by the model: SYS has no context reset (log entry 25), Snapshots
(52), the second attempt (85). Commands: CTX_RESET, RECOVER_REQUEST, SNAPSHOT_RELEASE. -/
def Obligations.ResetRequests : Prop :=
  (∀ (r : Requester) (ctx : Fin 256) (s : State), Canonical s → s.admits r (0x4004 + ctx.val * 16) 1 = true → s.fenced
    ctx.val = false → ∃ u, exec (.ctxReset r ctx) s = .next u ∧ u.result = kOk ∧ u.fenced ctx.val = true ∧ u.cget
    ctx.val 4 3 = 1 ∧ u.cget ctx.val 4 4 = s.uptime ∧ Frame [.free, .out, .entries, .ctxEntries, .host, .near,
    .nearMem, .bulk, .bulkMem, .rings, .loops, .msix, .pages, .cmds, .steps, .array, .ctxs, .serve, .links, .health,
    .kop, .power] s u) ∧
  (∀ (r : Requester) (ctx : Fin 256) (s : State), Canonical s → s.admits r (0x4004 + ctx.val * 16) 1 = true → s.fenced
    ctx.val = true → ∃ u, exec (.ctxReset r ctx) s = .next u ∧ u.result = kOk ∧ u.ctxs = s.ctxs ∧ u.cdict = s.cdict ∧
    Frame [.kop] s u) ∧
  (∀ (r : Requester) (ctx : Fin 256) (s : State), s.reaches r = false → ∃ u, exec (.ctxReset r ctx) s = .next u ∧ u =
    s ∧ Frame [] s u) ∧
  (∀ (r : Requester) (s : State), Canonical s → s.admits r 0x3030 1 = true → s.dev.mode = .service → ∃ u, exec
    (.recoverRequest r) s = .next u ∧ u.result = kOk ∧ u.dev.mode = .recovery ∧ u.dev.cause = .requested ∧
    u.dev.attempt = 1 ∧ u.dev.since = s.uptime ∧ u.hif.ready = false ∧ Frame [.free, .out, .dev, .entries,
    .ctxEntries, .host, .near, .nearMem, .bulk, .bulkMem, .store, .hif, .rings, .loops, .msix, .pages, .cmds, .steps,
    .array, .ctxs, .serve, .tru, .links, .kop, .health, .power] s u) ∧
  (∀ (r : Requester) (s : State), Canonical s → s.admits r 0x3030 1 = true → s.dev.mode = .recovery → ∃ u, exec
    (.recoverRequest r) s = .next u ∧ u.result = kOk ∧ u.dev = s.dev ∧ Frame [.kop] s u) ∧
  (∀ (r : Requester) (s : State), s.reaches r = false → ∃ u, exec (.recoverRequest r) s = .next u ∧ u = s ∧ Frame [] s
    u) ∧
  (∀ (r : Requester) (s : State), Canonical s → s.admits r 0x3032 4 = true → ∃ u, exec (.snapshotRelease r) s = .next
    u ∧ u.result = kOk ∧ u.dget 0x3032 3 = 0 ∧ Frame [.entries, .kop] s u) ∧
  (∀ (r : Requester) (s : State), s.reaches r = false → ∃ u, exec (.snapshotRelease r) s = .next u ∧ u = s ∧ Frame []
    s u)

/-- The units that act outside the rings complete: power, rails, clocks, bring-up, Cadence, brake, sensors, cores
and profiles (spec/02_lands_rails_domains.md, spec/11_cadence_and_elapsed_time.md,
spec/15_object_dictionary_and_profiles.md, spec/16_power_and_regional_limits.md,
spec/17_belay_reset_and_recovery.md, spec/18_health_spares_and_perturbation.md,
spec/19_bring_up_and_rolling_upgrade.md). Chosen by the model: the same as in the statements of these units (log
entries 2, 66, 82, 84, 86, 90, 92, 108). Commands: PWR_GOOD_FALL, DEV_RST_N_ASSERT, RESET_HOLD, DEV_RST_N_DEASSERT,
PROFILE_LOAD, CLUSTER_SELF_TEST_END, HOST_INTERFACE_RESET_END, DEVICE_READY, RECOVERY_TIMEOUT,
RAIL_OUT_OF_TOLERANCE, RAIL_MONITOR_SAMPLE, REFCLK_SYS_LOST, REFCLK_SYS_RESTORED, REFCLK_LINK_LOST,
REFCLK_LINK_RESTORED, REFCLK_PCIE_LOST, REFCLK_PCIE_RESTORED, CAN_RXD_DOMINANT_TIMEOUT, CAN_RXD_RECESSIVE_RESUME,
CADENCE_INPUT_EVENT, CADENCE_PERIOD_MISSING, HOLDOVER_ENTRY, CADENCE_SYNC_MARK, EPOCH_END, CDU_APPLY,
PWR_BRAKE_N_ASSERT, PWR_BRAKE_N_RELEASE, PWR_BRAKE_LONG, POWER_CAP_CHECK, VIN_CMP_LIMIT_CHECK,
CLUSTER_POINT_TRANSITION, CLUSTER_IDLE, THERMAL_SENSOR_READ, SENSOR_FAILED, TEMPERATURE_DIFFERENCE_CHECK,
BASECAMP_TAKEOVER, CORE_ROTATE_PERIOD, CORE_ROTATION, ROTATION_TEST_END, CLUSTER_TEST_END, LIFE_ACCUMULATE,
PROFILE_SAVE, PROFILE_AUTOSAVE, PROFILE_IMAGE, PROFILE_ERASE, PROFILE_SAVE_DONE. -/
def Obligations.UnitsComplete : Prop :=
  (∀ (t : Nat) (s : State), s.powered = true → s.kop.saving = none → ∃ u, exec (.pwrGoodFall t) s = .next u ∧
    u.powered = false ∧ u.cmds = [] ∧ u.steps = [] ∧ u.kop.copies = s.kop.copies) ∧
  (∀ (t : Nat) (s : State), s.powered = true → s.pins.devRstN = true → s.dev.mode ≠ .tripped → ∃ u, exec
    (.devRstNAssert t) s = .next u ∧ u.dev.mode = .reset ∧ u.pins.devRstN = false ∧ u.cmds = [] ∧ u.steps = []) ∧
  (∀ (t : Nat) (s : State), s.dev.mode = .reset → s.pins.devRstN = false → s.driven = true → s.dev.since + 30000000000
    ≤ t → ∃ u, exec (.resetHold t) s = .next u ∧ u.dev.mode = .hold ∧ u.alertLow = true) ∧
  (∀ (t : Nat) (samples : List (BitVec 2)) (s : State), s.pins.devRstN = false → s.pins.tripLow = false → (s.dev.mode
    = .reset ∨ s.dev.mode = .hold) → s.pins.railsOut = [] → ∃ u, exec (.devRstNDeassert t samples) s = .next u ∧
    u.dev.mode = .bringUp ∧ u.pins.devRstN = true ∧ u.health.tap.state = .reset) ∧
  (∀ (t : Nat) (s : State), s.dev.profileLoaded = false → s.pins.railsOut = [] → s.dev.mode = .bringUp → s.dev.dTime ≤
    t → ∃ u, exec (.profileLoad t) s = .next u ∧ u.dev.profileLoaded = true ∧ u.bulk.mem = bootstrapMap ∧ u.uptime =
    max s.uptime t) ∧
  (∀ (t : Nat) (cores : List (ClusterId × Fin 17)) (clusters : List ClusterId) (s : State), s.dev.profileLoaded = true
    → s.dev.selfTested = false → s.pins.brakeN = true → s.pins.railsOut = [] → (s.dev.mode = .bringUp ∨ s.dev.mode =
    .recovery) → ∃ u, exec (.clusterSelfTestEnd t cores clusters) s = .next u ∧ u.dev.selfTested = true) ∧
  (∀ (t : Nat) (s : State), s.dev.hifOut = false → s.dev.mode = .bringUp → s.dev.profileLoaded = true → s.dev.dTime +
    20000000 ≤ t → ∃ u, exec (.hostInterfaceResetEnd t) s = .next u ∧ u.dev.hifOut = true ∧ u.pins.perstN = true ∧
    u.uptime = max s.uptime t) ∧
  (∀ (t : Nat) (speed : BitVec 4) (width : BitVec 5) (flit : Bool) (s : State), s.mayServe t = true → s.dev.mode =
    .bringUp → (s.hif.linkUp = true ∨ linkOk (s.trained speed) width flit = true) → ∃ u, exec (.deviceReady t speed
    width flit) s = .next u ∧ u.dev.mode = .service ∧ u.hif.ready = true ∧ u.hif.linkUp = true) ∧
  (∀ (t : Nat) (s : State), s.dev.mode = .recovery → s.recoveryEnds t ≤ t → s.dev.attempt < 2 → s.dev.drained = false
    → ∃ u, exec (.recoveryTimeout t) s = .next u ∧ u.dev.attempt = 2 ∧ u.dev.mode = .recovery) ∧
  (∀ (t : Nat) (s : State), s.dev.mode = .recovery → s.recoveryEnds t ≤ t → 2 ≤ s.dev.attempt → s.driven = true → ∃ u,
    exec (.recoveryTimeout t) s = .next u ∧ u.dev.mode = .failed ∧ u.alertLow = true) ∧
  (∀ (t : Nat) (rail : Fin 15) (mv : Nat) (s : State), s.pins.railsOut.contains rail.val = false → rail.val < 13 →
    s.dev.mode = .service → ∃ u, exec (.railOutOfTolerance t rail mv) s = .next u ∧ rail.val ∈ u.pins.railsOut ∧
    u.dev.mode = .recovery ∧ u.dev.cause = .rail ∧ u.hif.ready = false) ∧
  (∀ (t : Nat) (mw : List Nat) (inTolerance : List (Fin 15)) (s : State), s.powered = true → s.power.samples < 99 → ∃
    u, exec (.railMonitorSample t mw inTolerance) s = .next u ∧ u.power.samples = s.power.samples + 1) ∧
  (∀ (t : Nat) (s : State), s.powered = true → s.pins.refsysLost = false → ∃ u, exec (.refclkSysLost t) s = .next u ∧
    u.pins.refsysLost = true ∧ Logged u 1 2 0) ∧
  (∀ (t : Nat) (s : State), s.powered = true → s.pins.refsysLost = true → ∃ u, exec (.refclkSysRestored t) s = .next u
    ∧ u.pins.refsysLost = false ∧ Logged u 1 3 0) ∧
  (∀ (t : Nat) (s : State), s.powered = true → s.pins.reflinkLost = false → ∃ u, exec (.refclkLinkLost t) s = .next u
    ∧ u.pins.reflinkLost = true) ∧
  (∀ (t : Nat) (s : State), s.powered = true → s.pins.reflinkLost = true → ∃ u, exec (.refclkLinkRestored t) s = .next
    u ∧ u.pins.reflinkLost = false) ∧
  (∀ (t : Nat) (s : State), s.powered = true → s.pins.refpcieLost = false → ∃ u, exec (.refclkPcieLost t) s = .next u
    ∧ u.pins.refpcieLost = true ∧ u.hif.linkUp = false) ∧
  (∀ (t : Nat) (s : State), s.powered = true → s.pins.refpcieLost = true → ∃ u, exec (.refclkPcieRestored t) s = .next
    u ∧ u.pins.refpcieLost = false) ∧
  (∀ (t : Nat) (s : State), s.powered = true → s.pins.canStopped = false → ∃ u, exec (.canRxdDominantTimeout t) s =
    .next u ∧ u.pins.canStopped = true ∧ Logged u 4 3 0) ∧
  (∀ (t : Nat) (s : State), s.powered = true → ∃ u, exec (.canRxdRecessiveResume t) s = .next u ∧ u.pins.canStopped =
    false) ∧
  (∀ (t : Nat) (sync : Bool) (s : State), s.powered = true → s.cdu.mode ≠ 2 → s.cdu.tracking = true → s.perturbing =
    false → s.cdu.inWindow t = true → ∃ u, exec (.cadenceInputEvent t sync) s = .next u ∧ u.cdu.missing = 0 ∧
    u.uptime = max s.uptime t) ∧
  (∀ (t : Nat) (s : State), Canonical s → s.powered = true → s.cdu.tracking = true → s.cdu.mode ≠ 2 →
    s.cdu.windowClosed t = true → s.dget 0x30A0 7 + 1 < 2 ^ 32 → ∃ u, exec (.cadencePeriodMissing t) s = .next u ∧
    u.cdu.missing = s.cdu.missing + 1 ∧ u.dget 0x30A0 7 = s.dget 0x30A0 7 + 1) ∧
  (∀ (t : Nat) (s : State), s.powered = true → s.cdu.tracking = true → (4 ≤ s.cdu.missing ∨ s.cdu.outOfRange = true) →
    ∃ u, exec (.holdoverEntry t) s = .next u ∧ u.cdu.state = 3 ∧ u.cdu.holdover = true ∧ Logged u 5 1 0) ∧
  (∀ (t : Nat) (s : State), s.powered = true → s.cdu.mode = 1 → s.cdu.state = 2 → s.cdu.markDue = some 0 → ∃ u, exec
    (.cadenceSyncMark t) s = .next u ∧ u.cdu.syncMismatch = false ∧ u.cdu.markDue = none) ∧
  (∀ (t : Nat) (s : State), Canonical s → s.serving = true → s.cdu.ticked = true → s.cdu.tick % s.dget 0x2300 2 = 0 →
    s.cdu.epochTick ≠ some s.cdu.tick → tsorted none s.ctxs.accounts = true → ∃ u, exec (.epochEnd t) s = .next u ∧
    u.cdu.epochTick = some s.cdu.tick) ∧
  (∀ (r : Requester) (value : BitVec 8) (s : State), Canonical s → s.admits r 0x2200 4 = true → value = 1 → cadenceOk
    (s.dget 0x2200 1) (s.dget 0x2200 2) (s.dget 0x2200 3) = true → ∃ u, exec (.cduApply r value) s = .next u ∧
    u.result = kOk) ∧
  (∀ (t : Nat) (s : State), Canonical s → s.pins.brakeN = true → ∃ u, exec (.pwrBrakeNAssert t) s = .next u ∧
    u.pins.brakeN = false ∧ (∀ cl < 64, s.domain cl ≠ 0 → u.point cl = 0)) ∧
  (∀ (t : Nat) (s : State), Canonical s → s.pins.brakeN = false → s.dget 0x2100 0x12 + (max s.uptime t -
    s.pins.brakeSince) / 1000 < 2 ^ 64 → ∃ u, exec (.pwrBrakeNRelease t) s = .next u ∧ u.pins.brakeN = true) ∧
  (∀ (t : Nat) (s : State), Canonical s → s.pins.brakeN = false → s.pins.brakeLogged = false → s.pins.brakeSince +
    1000000000 < t → ∃ u, exec (.pwrBrakeLong t) s = .next u ∧ u.pins.brakeLogged = true ∧ Logged u 1 4 0) ∧
  (∀ (t mw : Nat) (s : State), Canonical s → s.powered = true → s.power.lastCap + 20000 ≤ t → s.dget 0x2100 1 * 1000 <
    mw → 0 < s.dget 0x2100 8 → s.dget 0x2100 15 + 1 < 2 ^ 32 → ∃ u, exec (.powerCapCheck t mw) s = .next u ∧ u.dget
    0x2100 8 = s.dget 0x2100 8 - 1 ∧ u.dget 0x2100 15 = s.dget 0x2100 15 + 1) ∧
  (∀ (t : Nat) (die : Fin 4) (ma : Nat) (s : State), Canonical s → s.powered = true → (((tfind s.power.lastVin
    die.val).all fun t0 => decide (t0 + 5000 ≤ t)) = true) → ma ≤ s.dget 0x2100 2 * 1000 → ma * 10 < s.dget 0x2100 2
    * 1000 * 9 → tfind s.power.belowVin die.val = none → ∃ u, exec (.vinCmpLimitCheck t die ma) s = .next u ∧ u.dget
    0x2100 9 die.val = s.dget 0x2100 9 die.val ∧ bit (u.dget 0x2100 14) 2 = false) ∧
  (∀ (cluster : ClusterId) (s : State), Canonical s → s.clusterUp cluster.val = true → s.domain cluster.val = 2 → ∃ u,
    exec (.clusterPointTransition cluster) s = .next u ∧ u.point cluster.val = s.effectivePoint cluster.val) ∧
  (∀ (cluster : ClusterId) (t : Nat) (s : State), Canonical s → s.dget 0x2100 4 ≠ 0 → s.domain cluster.val = 2 →
    s.stepOn cluster.val = false → tget 0 s.power.lastWork cluster.val + s.dget 0x2100 4 * 1000 ≤ t → ∃ u, exec
    (.clusterIdle cluster t) s = .next u ∧ u.domain cluster.val = 1 ∧ u.uptime = max s.uptime t) ∧
  (∀ (t : Nat) (sensor : Fin 100) (reading : BitVec 16) (s : State), Canonical s → s.powered = true → s.dev.mode ≠
    .tripped → reading.toInt < 460 → ∃ u, exec (.thermalSensorRead t sensor reading) s = .next u ∧ u.dget 0x2100 13
    sensor.val = reading.toNat ∧ u.uptime = max s.uptime t) ∧
  (∀ (t : Nat) (sensor : Fin 100) (s : State), Canonical s → s.powered = true → thas s.power.failed sensor.val = false
    → ∃ u, exec (.sensorFailed t sensor) s = .next u ∧ Logged u 6 1 sensor.val) ∧
  (∀ (t : Nat) (cl : Nat) (s : State), Canonical s → s.powered = true → cl < 64 → s.hotterBy cl 108 = false → tget 0
    s.power.region cl = 0 → ∃ u, exec (.temperatureDifferenceCheck t) s = .next u ∧ u.dget 0x2100 10 cl = s.dget
    0x2100 10 cl) ∧
  (∀ (t : Nat) (s : State), Canonical s → s.powered = true → s.dget 0x3010 6 = 1 → ∃ u, exec (.basecampTakeover t) s =
    .next u ∧ u.dget 0x1010 1 = 3 ∧ Logged u 8 9 3) ∧
  (∀ (cluster : ClusterId) (t : Nat) (s : State), s.powered = true → s.periodOver cluster.val t = true → ∃ u, exec
    (.coreRotatePeriod cluster t) s = .next u ∧ thas u.health.rotationDue cluster.val = true) ∧
  (∀ (cluster : ClusterId) (p q : Nat) (s : State), s.serving? cluster.val (tget 0 s.health.nextPosition cluster.val)
    = some p → s.spareOf cluster.val = some q → thas s.health.rotationDue cluster.val = true → s.mayRotate
    cluster.val = true → p < 17 → q < 17 → (tget 0 s.health.nextPosition cluster.val) < 16 → tsorted none
    s.health.nextPosition = true → tsorted none s.health.rotationDue = true → ∃ u, exec (.coreRotation cluster) s =
    .next u ∧ u.coreState cluster.val p = 0xF2) ∧
  (∀ (cluster : ClusterId) (pass : Bool) (p : Nat) (s : State), Canonical s → tsorted none s.health.rotating = true →
    tfind s.health.rotating cluster.val = some p → s.dget 0x3020 3 + 1 < 2 ^ 32 → pass = true → ∃ u, exec
    (.rotationTestEnd cluster pass) s = .next u ∧ u.coreState cluster.val p = 0xF1 ∧ u.dget 0x3020 3 = s.dget 0x3020
    3 + 1) ∧
  (∀ (cluster : ClusterId) (failed : List (Fin 17)) (restPassed : Bool) (s : State), Canonical s → s.health.testing =
    some (cluster.val, true) → restPassed = false → failed = [] → ∃ u, exec (.clusterTestEnd cluster failed
    restPassed) s = .next u ∧ u.health.testing = none ∧ Logged u 10 3 cluster.val) ∧
  (∀ (t : Nat) (means : List (Int × Nat)) (i : Nat) (m : Int × Nat) (s : State), s.powered = true → s.health.lastLife
    + 1000000000 ≤ t → tsorted none s.health.lifeUs = true → i < 64 → means[i]? = some m → s.domain i ≠ 0 → ∃ u, exec
    (.lifeAccumulate t means) s = .next u ∧ u.health.lastLife = t ∧ u.uptime = max s.uptime t) ∧
  (∀ (r : Requester) (slot : BitVec 8) (s : State), Canonical s → s.admits r 0x2000 5 = true → slot.toNat ≤ 3 →
    s.kop.saving = none → ∃ u, exec (.profileSave r slot) s = .next u ∧ u.result = kOk ∧ u.dget 0x2000 4 = slot.toNat) ∧
  (∀ (t : Nat) (s : State), Canonical s → s.powered = true → s.dget 0x2000 6 ≠ 0 → s.dget 0x2000 4 ≠ 0xFF → s.dget
    0x2000 7 = 1 → s.kop.saving = none → s.kop.lastWrite + s.dget 0x2000 6 * 1000000000 ≤ t → ∃ u, exec
    (.profileAutosave t) s = .next u ∧ u.uptime = max s.uptime t ∧ u.kop.saving.isSome = true) ∧
  (∀ (r : Requester) (slot : Fin 4) (image : Bytes) (s : State), Canonical s → s.admits r 0x2010 (slot.val + 1) = true
    → copyIntact image = true → s.dget 0x2000 4 ≠ slot.val → tsorted none s.kop.copies = true → s.copyThere 0 = true
    → ∃ u, exec (.profileImage r slot image) s = .next u ∧ u.result = kOk ∧ u.profileCopy slot.val 0 = image ∧
    u.profileCopy slot.val 1 = image) ∧
  (∀ (r : Requester) (slot : BitVec 8) (s : State), Canonical s → s.admits r 0x2000 11 = true → slot.toNat ≤ 3 →
    tsorted none s.kop.copies = true → s.copyThere 0 = true → ∃ u, exec (.profileErase r slot) s = .next u ∧ u.result
    = kOk ∧ u.slotState slot.toNat % 4 ≠ 1) ∧
  (∀ (t : Nat) (v : Save) (s : State), Canonical s → s.powered = true → s.kop.saving = some v → v.waiting = [] →
    tsorted none s.kop.copies = true → s.copyThere 0 = true → ∃ u, exec (.profileSaveDone t) s = .next u ∧
    u.kop.saving = none ∧ u.profileCopy v.slot 0 = v.image ∧ u.profileCopy v.slot 1 = v.image)

end
end

