-- ==== Sys2Proof/Laws/Frame.lean ====
section
/-! SUPPORT. How frames compose, and the frame of a change of one or a few fields of the state. -/

namespace Sys2Proof.Machine

theorem Frame.refl (g : List Zone) (s : State) : Frame g s s :=
  ⟨fun p => .inr (by cases p <;> first | rfl | exact ⟨rfl, rfl⟩), rfl, rfl, Nat.le_refl _, id⟩

theorem Zone.same_trans {s t u : State} (p : Zone) (h : p.same s t) (k : p.same t u) : p.same s u := by
  cases p <;> first | exact Eq.trans k h | exact ⟨k.1.trans h.1, k.2.trans h.2⟩

/-- A change after another one: the zones of both. -/
theorem Frame.step {g g' : List Zone} {r s t : State} (k : Frame g' s t) (sub : g'.all g.contains = true)
    (h : Frame g r s) : Frame g r t where
  same p := by
    rcases k.same p with hp | hp
    · exact .inl (by simpa using List.all_eq_true.mp sub p hp)
    · rcases h.same p with hq | hq
      · exact .inl hq
      · exact .inr (p.same_trans hq hp)
  queue := k.queue.trans h.queue
  hostDown := k.hostDown.trans h.hostDown
  clock := Nat.le_trans h.clock k.clock
  canonical c := k.canonical (h.canonical c)

theorem Frame.mono {g g' : List Zone} {s t : State} (k : Frame g' s t) (sub : g'.all g.contains = true) :
    Frame g s t := Frame.step k sub (Frame.refl g s)

theorem Frame.trans {g : List Zone} {r s t : State} (h : Frame g r s) (k : Frame g s t) : Frame g r t :=
  Frame.step k (List.all_eq_true.mpr fun p hp => by simpa using hp) h

theorem Frame.ite {g : List Zone} {r : State} {p : Prop} [Decidable p] {a b : State} (h : Frame g r a)
    (k : Frame g r b) : Frame g r (if p then a else b) := by split <;> assumption

theorem Frame.ite_fst {α : Type} {g : List Zone} {r : State} {p : Prop} [Decidable p] {a b : State × α} (h : Frame g r a.1)
    (k : Frame g r b.1) : Frame g r (if p then a else b).1 := by split <;> assumption

theorem Frame.ite_snd {α : Type} {g : List Zone} {r : State} {p : Prop} [Decidable p] {a b : α × State} (h : Frame g r a.2)
    (k : Frame g r b.2) : Frame g r (if p then a else b).2 := by split <;> assumption

theorem Frame.of_fst {α : Type} {g : List Zone} {s t : State} {p : State × α} {x : α} (h : Frame g s p.1) (e : p = (t, x)) :
    Frame g s t := by subst e; exact h

theorem Frame.of_snd {α : Type} {g : List Zone} {s t : State} {p : α × State} {x : α} (h : Frame g s p.2) (e : p = (x, t)) :
    Frame g s t := by subst e; exact h

/-- A choice, seen through a projection to the state. -/
theorem Frame.ite_of {β : Type} (π : β → State) {g : List Zone} {r : State} {p : Prop} [Decidable p] {a b : β}
    (h : Frame g r (π a)) (k : Frame g r (π b)) : Frame g r (π (if p then a else b)) := by split <;> assumption

theorem Frame.of_fstfst {α β : Type} {g : List Zone} {s : State} {p : (State × α) × β} (h : Frame g s p.1.1) :
    Frame g s p.1.1 := h

/-- A loop whose value carries the state. -/
theorem Frame.foldl_of {α β : Type} (π : β → State) {g : List Zone} {f : β → α → β} (l : List α) {r : State} {p : β}
    (k : ∀ p x, Frame g (π p) (π (f p x))) (h : Frame g r (π p)) : Frame g r (π (l.foldl f p)) := by
  induction l generalizing p with
  | nil => exact h
  | cons x l ih => exact ih (h.trans (k p x))

/-- A loop over a list, each turn of which stays in the zones. -/
theorem Frame.foldl {α : Type} {g : List Zone} {f : State → α → State} (l : List α) {r s : State}
    (k : ∀ s x, Frame g s (f s x)) (h : Frame g r s) : Frame g r (l.foldl f s) := by
  induction l generalizing s with
  | nil => exact h
  | cons x l ih => exact ih (h.trans (k s x))

theorem Frame.foldl_fst {α β : Type} {g : List Zone} {f : State × β → α → State × β} (l : List α) {r : State} {p : State × β}
    (k : ∀ p x, Frame g p.1 (f p x).1) (h : Frame g r p.1) : Frame g r (l.foldl f p).1 := by
  induction l generalizing p with
  | nil => exact h
  | cons x l ih => exact ih (h.trans (k p x))

/-- A computation that fails with a state: what holds of its value, and the zones its failing state changes. -/
def Frame.Res {α : Type} (g : List Zone) (r : State) (post : α → Prop) : Except State α → Prop
  | .ok a => post a
  | .error t => Frame g r t

theorem Frame.Res.pure {α : Type} {g : List Zone} {r : State} {post : α → Prop} {a : α} (h : post a) :
    Frame.Res g r post (.ok a) := h

theorem Frame.Res.ok {α : Type} {g : List Zone} {r : State} {post : α → Prop} {e : Except State α} {a : α}
    (h : Frame.Res g r post e) (k : e = .ok a) : post a := by subst k; exact h

theorem Frame.Res.error {α : Type} {g : List Zone} {r t : State} {post : α → Prop} {e : Except State α}
    (h : Frame.Res g r post e) (k : e = .error t) : Frame g r t := by subst k; exact h

theorem Frame.Res.bind {α β : Type} {g : List Zone} {r : State} {post : α → Prop} {post' : β → Prop} {e : Except State α}
    {f : α → Except State β} (h : Frame.Res g r post e) (k : ∀ a, post a → Frame.Res g r post' (f a)) :
    Frame.Res g r post' (e >>= f) := by
  cases e with
  | ok a => exact k a h
  | error t => exact h

theorem Frame.Res.of {α : Type} {g : List Zone} {r : State} {post : α → Prop} {e : Except State α}
    (k : ∀ a, e = .ok a → post a) (h : ∀ t, e = .error t → Frame g r t) : Frame.Res g r post e := by
  cases e with
  | ok a => exact k a rfl
  | error t => exact h t rfl

theorem Frame.Res.ite {α : Type} {g : List Zone} {r : State} {post : α → Prop} {p : Prop} [Decidable p] {a b : Except State α}
    (h : Frame.Res g r post a) (k : Frame.Res g r post b) : Frame.Res g r post (if p then a else b) := by split <;> assumption

/-- A list of computations that pass no state on. -/
theorem Frame.Res.mapM {α β : Type} {g : List Zone} {r : State} {f : α → Except State β} (l : List α)
    (h : ∀ a, Frame.Res g r (fun _ => True) (f a)) : Frame.Res g r (fun _ => True) (l.mapM f) := by
  induction l with
  | nil => rw [List.mapM_nil]; exact .pure trivial
  | cons a l ih =>
    rw [List.mapM_cons]
    exact Frame.Res.bind (h a) fun _ _ => Frame.Res.bind ih fun _ _ => .pure trivial

/-- A computation begun after a change. -/
theorem Frame.Res.after {α : Type} {g : List Zone} {r s : State} {post post' : α → Prop} {e : Except State α}
    (h : Frame g r s) (k : Frame.Res g s post e) (imp : ∀ a, post a → post' a) : Frame.Res g r post' e := by
  cases e with
  | ok a => exact imp a k
  | error t => exact h.trans k

/-- A computation that may fail: what holds of its value. -/
def Frame.Run {ε α : Type} (post : α → Prop) : Except ε α → Prop
  | .ok a => post a
  | .error _ => True

theorem Frame.Run.pure {ε α : Type} {post : α → Prop} {a : α} (h : post a) : Frame.Run post (.ok a : Except ε α) := h

theorem Frame.Run.ok {ε α : Type} {post : α → Prop} {e : Except ε α} {a : α} (h : Frame.Run post e) (k : e = .ok a) :
    post a := by subst k; exact h

theorem Frame.Run.of {ε α : Type} {post : α → Prop} {e : Except ε α} (k : ∀ a, e = .ok a → post a) : Frame.Run post e := by
  cases e with
  | ok a => exact k a rfl
  | error t => trivial

theorem Frame.Run.any {ε α : Type} {e : Except ε α} : Frame.Run (fun _ => True) e := .of fun _ _ => trivial

theorem Frame.Run.bind {ε α β : Type} {post : α → Prop} {post' : β → Prop} {e : Except ε α} {f : α → Except ε β}
    (h : Frame.Run post e) (k : ∀ a, post a → Frame.Run post' (f a)) : Frame.Run post' (e >>= f) := by
  cases e with
  | ok a => exact k a h
  | error t => trivial

theorem Frame.Run.ite {ε α : Type} {post : α → Prop} {p : Prop} [Decidable p] {a b : Except ε α}
    (h : Frame.Run post a) (k : Frame.Run post b) : Frame.Run post (if p then a else b) := by split <;> assumption

/-! ### Changes of fields of the state

Each lemma says what a structure update changes; its premises are the zones of the fields, and for memories and
register tables that the new value keeps the canonical form. -/

theorem Frame.set_array {g : List Zone} {r s : State} (v_array : Array)
    (hz_array : g.contains .array = true)
    (h : Frame g r s) :
    Frame g r { s with array := v_array } := by
  refine h.trans ⟨fun p => ?_, rfl, rfl, ?_, fun c => ?_⟩
  · cases p
    all_goals first
      | exact .inr rfl
      | exact .inr ⟨rfl, rfl⟩
      | exact .inl (by simpa using hz_array)
  · exact Nat.le_refl _
  · exact ⟨c.near, c.bulk, c.store, c.host, c.entries, c.ctxEntries, c.counters, c.owners⟩

theorem Frame.set_bulk {g : List Zone} {r s : State} (v_bulk : Bulk)
    (hw_bulk : memWf s.bulk.mem = true → memWf v_bulk.mem = true)
    (hm_bulk : g.contains .bulkMem = true ∨ v_bulk.mem = s.bulk.mem)
    (hr_bulk : g.contains .bulk = true ∨ { v_bulk with mem := [] } = { s.bulk with mem := [] })
    (h : Frame g r s) :
    Frame g r { s with bulk := v_bulk } := by
  refine h.trans ⟨fun p => ?_, rfl, rfl, ?_, fun c => ?_⟩
  · cases p
    all_goals first
      | exact .inr rfl
      | exact .inr ⟨rfl, rfl⟩
      | exact hm_bulk.imp (by simp) id
      | exact hr_bulk.imp (by simp) id
  · exact Nat.le_refl _
  · exact ⟨c.near, hw_bulk c.bulk, c.store, c.host, c.entries, c.ctxEntries, c.counters, c.owners⟩

theorem Frame.set_cdict {g : List Zone} {r s : State} (v_cdict : Tab Nat)
    (hz_cdict : g.contains .ctxEntries = true)
    (hw_cdict : tsorted none s.cdict = true → tsorted none v_cdict = true)
    (h : Frame g r s) :
    Frame g r { s with cdict := v_cdict } := by
  refine h.trans ⟨fun p => ?_, rfl, rfl, ?_, fun c => ?_⟩
  · cases p
    all_goals first
      | exact .inr rfl
      | exact .inr ⟨rfl, rfl⟩
      | exact .inl (by simpa using hz_cdict)
  · exact Nat.le_refl _
  · exact ⟨c.near, c.bulk, c.store, c.host, c.entries, hw_cdict c.ctxEntries, c.counters, c.owners⟩

theorem Frame.set_cdu {g : List Zone} {r s : State} (v_cdu : Cdu)
    (hz_cdu : g.contains .cdu = true)
    (h : Frame g r s) :
    Frame g r { s with cdu := v_cdu } := by
  refine h.trans ⟨fun p => ?_, rfl, rfl, ?_, fun c => ?_⟩
  · cases p
    all_goals first
      | exact .inr rfl
      | exact .inr ⟨rfl, rfl⟩
      | exact .inl (by simpa using hz_cdu)
  · exact Nat.le_refl _
  · exact ⟨c.near, c.bulk, c.store, c.host, c.entries, c.ctxEntries, c.counters, c.owners⟩

theorem Frame.set_cmds {g : List Zone} {r s : State} (v_cmds : List Cmd)
    (hz_cmds : g.contains .cmds = true)
    (h : Frame g r s) :
    Frame g r { s with cmds := v_cmds } := by
  refine h.trans ⟨fun p => ?_, rfl, rfl, ?_, fun c => ?_⟩
  · cases p
    all_goals first
      | exact .inr rfl
      | exact .inr ⟨rfl, rfl⟩
      | exact .inl (by simpa using hz_cmds)
  · exact Nat.le_refl _
  · exact ⟨c.near, c.bulk, c.store, c.host, c.entries, c.ctxEntries, c.counters, c.owners⟩

theorem Frame.set_counters {g : List Zone} {r s : State} (v_counters : Tab (BitVec 64))
    (hz_counters : g.contains .counters = true)
    (hw_counters : twf 0 s.counters = true → twf 0 v_counters = true)
    (h : Frame g r s) :
    Frame g r { s with counters := v_counters } := by
  refine h.trans ⟨fun p => ?_, rfl, rfl, ?_, fun c => ?_⟩
  · cases p
    all_goals first
      | exact .inr rfl
      | exact .inr ⟨rfl, rfl⟩
      | exact .inl (by simpa using hz_counters)
  · exact Nat.le_refl _
  · exact ⟨c.near, c.bulk, c.store, c.host, c.entries, c.ctxEntries, hw_counters c.counters, c.owners⟩

theorem Frame.set_ctxs {g : List Zone} {r s : State} (v_ctxs : Ctxs)
    (hz_ctxs : g.contains .ctxs = true)
    (h : Frame g r s) :
    Frame g r { s with ctxs := v_ctxs } := by
  refine h.trans ⟨fun p => ?_, rfl, rfl, ?_, fun c => ?_⟩
  · cases p
    all_goals first
      | exact .inr rfl
      | exact .inr ⟨rfl, rfl⟩
      | exact .inl (by simpa using hz_ctxs)
  · exact Nat.le_refl _
  · exact ⟨c.near, c.bulk, c.store, c.host, c.entries, c.ctxEntries, c.counters, c.owners⟩

theorem Frame.set_dev {g : List Zone} {r s : State} (v_dev : Dev)
    (hz_dev : g.contains .dev = true)
    (h : Frame g r s) :
    Frame g r { s with dev := v_dev } := by
  refine h.trans ⟨fun p => ?_, rfl, rfl, ?_, fun c => ?_⟩
  · cases p
    all_goals first
      | exact .inr rfl
      | exact .inr ⟨rfl, rfl⟩
      | exact .inl (by simpa using hz_dev)
  · exact Nat.le_refl _
  · exact ⟨c.near, c.bulk, c.store, c.host, c.entries, c.ctxEntries, c.counters, c.owners⟩

theorem Frame.set_dict {g : List Zone} {r s : State} (v_dict : Tab Nat)
    (hz_dict : g.contains .entries = true)
    (hw_dict : tsorted none s.dict = true → tsorted none v_dict = true)
    (h : Frame g r s) :
    Frame g r { s with dict := v_dict } := by
  refine h.trans ⟨fun p => ?_, rfl, rfl, ?_, fun c => ?_⟩
  · cases p
    all_goals first
      | exact .inr rfl
      | exact .inr ⟨rfl, rfl⟩
      | exact .inl (by simpa using hz_dict)
  · exact Nat.le_refl _
  · exact ⟨c.near, c.bulk, c.store, c.host, hw_dict c.entries, c.ctxEntries, c.counters, c.owners⟩

theorem Frame.set_free {g : List Zone} {r s : State} (v_free : Nat)
    (hz_free : g.contains .free = true)
    (h : Frame g r s) :
    Frame g r { s with free := v_free } := by
  refine h.trans ⟨fun p => ?_, rfl, rfl, ?_, fun c => ?_⟩
  · cases p
    all_goals first
      | exact .inr rfl
      | exact .inr ⟨rfl, rfl⟩
      | exact .inl (by simpa using hz_free)
  · exact Nat.le_refl _
  · exact ⟨c.near, c.bulk, c.store, c.host, c.entries, c.ctxEntries, c.counters, c.owners⟩

theorem Frame.set_health {g : List Zone} {r s : State} (v_health : Health)
    (hz_health : g.contains .health = true)
    (h : Frame g r s) :
    Frame g r { s with health := v_health } := by
  refine h.trans ⟨fun p => ?_, rfl, rfl, ?_, fun c => ?_⟩
  · cases p
    all_goals first
      | exact .inr rfl
      | exact .inr ⟨rfl, rfl⟩
      | exact .inl (by simpa using hz_health)
  · exact Nat.le_refl _
  · exact ⟨c.near, c.bulk, c.store, c.host, c.entries, c.ctxEntries, c.counters, c.owners⟩

theorem Frame.set_hif {g : List Zone} {r s : State} (v_hif : Hif)
    (hm_rings : g.contains .rings = true ∨ v_hif.rings = s.hif.rings)
    (hm_loops : g.contains .loops = true ∨ v_hif.loops = s.hif.loops)
    (hm_msix : g.contains .msix = true ∨ v_hif.msix = s.hif.msix)
    (hm_pages : g.contains .pages = true ∨ v_hif.pages = s.hif.pages)
    (hr_hif : g.contains .hif = true ∨ { v_hif with rings := [], loops := [], msix := [], pages := [] } = { s.hif with rings := [], loops := [], msix := [], pages := [] })
    (h : Frame g r s) :
    Frame g r { s with hif := v_hif } := by
  refine h.trans ⟨fun p => ?_, rfl, rfl, ?_, fun c => ?_⟩
  · cases p
    all_goals first
      | exact .inr rfl
      | exact .inr ⟨rfl, rfl⟩
      | exact hm_rings.imp (by simp) id
      | exact hm_loops.imp (by simp) id
      | exact hm_msix.imp (by simp) id
      | exact hm_pages.imp (by simp) id
      | exact hr_hif.imp (by simp) id
  · exact Nat.le_refl _
  · exact ⟨c.near, c.bulk, c.store, c.host, c.entries, c.ctxEntries, c.counters, c.owners⟩

theorem Frame.set_host {g : List Zone} {r s : State} (v_host : List Host.Cell)
    (hz_host : g.contains .host = true)
    (hw_host : memWf s.host = true → memWf v_host = true)
    (h : Frame g r s) :
    Frame g r { s with host := v_host } := by
  refine h.trans ⟨fun p => ?_, rfl, rfl, ?_, fun c => ?_⟩
  · cases p
    all_goals first
      | exact .inr rfl
      | exact .inr ⟨rfl, rfl⟩
      | exact .inl (by simpa using hz_host)
  · exact Nat.le_refl _
  · exact ⟨c.near, c.bulk, c.store, hw_host c.host, c.entries, c.ctxEntries, c.counters, c.owners⟩

theorem Frame.set_kop {g : List Zone} {r s : State} (v_kop : Kop)
    (hz_kop : g.contains .kop = true)
    (h : Frame g r s) :
    Frame g r { s with kop := v_kop } := by
  refine h.trans ⟨fun p => ?_, rfl, rfl, ?_, fun c => ?_⟩
  · cases p
    all_goals first
      | exact .inr rfl
      | exact .inr ⟨rfl, rfl⟩
      | exact .inl (by simpa using hz_kop)
  · exact Nat.le_refl _
  · exact ⟨c.near, c.bulk, c.store, c.host, c.entries, c.ctxEntries, c.counters, c.owners⟩

theorem Frame.set_links {g : List Zone} {r s : State} (v_links : Links)
    (hz_links : g.contains .links = true)
    (h : Frame g r s) :
    Frame g r { s with links := v_links } := by
  refine h.trans ⟨fun p => ?_, rfl, rfl, ?_, fun c => ?_⟩
  · cases p
    all_goals first
      | exact .inr rfl
      | exact .inr ⟨rfl, rfl⟩
      | exact .inl (by simpa using hz_links)
  · exact Nat.le_refl _
  · exact ⟨c.near, c.bulk, c.store, c.host, c.entries, c.ctxEntries, c.counters, c.owners⟩

theorem Frame.set_near {g : List Zone} {r s : State} (v_near : Near)
    (hw_near : memWf s.near.mem = true → memWf v_near.mem = true)
    (hm_near : g.contains .nearMem = true ∨ v_near.mem = s.near.mem)
    (hr_near : g.contains .near = true ∨ { v_near with mem := [] } = { s.near with mem := [] })
    (h : Frame g r s) :
    Frame g r { s with near := v_near } := by
  refine h.trans ⟨fun p => ?_, rfl, rfl, ?_, fun c => ?_⟩
  · cases p
    all_goals first
      | exact .inr rfl
      | exact .inr ⟨rfl, rfl⟩
      | exact hm_near.imp (by simp) id
      | exact hr_near.imp (by simp) id
  · exact Nat.le_refl _
  · exact ⟨hw_near c.near, c.bulk, c.store, c.host, c.entries, c.ctxEntries, c.counters, c.owners⟩

theorem Frame.set_out {g : List Zone} {r s : State} (v_out : List Out)
    (hz_out : g.contains .out = true)
    (h : Frame g r s) :
    Frame g r { s with out := v_out } := by
  refine h.trans ⟨fun p => ?_, rfl, rfl, ?_, fun c => ?_⟩
  · cases p
    all_goals first
      | exact .inr rfl
      | exact .inr ⟨rfl, rfl⟩
      | exact .inl (by simpa using hz_out)
  · exact Nat.le_refl _
  · exact ⟨c.near, c.bulk, c.store, c.host, c.entries, c.ctxEntries, c.counters, c.owners⟩

theorem Frame.set_owners {g : List Zone} {r s : State} (v_owners : Tab (BitVec 16))
    (hz_owners : g.contains .owners = true)
    (hw_owners : twf 0xFFFF s.owners = true → twf 0xFFFF v_owners = true)
    (h : Frame g r s) :
    Frame g r { s with owners := v_owners } := by
  refine h.trans ⟨fun p => ?_, rfl, rfl, ?_, fun c => ?_⟩
  · cases p
    all_goals first
      | exact .inr rfl
      | exact .inr ⟨rfl, rfl⟩
      | exact .inl (by simpa using hz_owners)
  · exact Nat.le_refl _
  · exact ⟨c.near, c.bulk, c.store, c.host, c.entries, c.ctxEntries, c.counters, hw_owners c.owners⟩

theorem Frame.set_pins {g : List Zone} {r s : State} (v_pins : Pins)
    (hz_pins : g.contains .pins = true)
    (h : Frame g r s) :
    Frame g r { s with pins := v_pins } := by
  refine h.trans ⟨fun p => ?_, rfl, rfl, ?_, fun c => ?_⟩
  · cases p
    all_goals first
      | exact .inr rfl
      | exact .inr ⟨rfl, rfl⟩
      | exact .inl (by simpa using hz_pins)
  · exact Nat.le_refl _
  · exact ⟨c.near, c.bulk, c.store, c.host, c.entries, c.ctxEntries, c.counters, c.owners⟩

theorem Frame.set_power {g : List Zone} {r s : State} (v_power : Power)
    (hz_power : g.contains .power = true)
    (h : Frame g r s) :
    Frame g r { s with power := v_power } := by
  refine h.trans ⟨fun p => ?_, rfl, rfl, ?_, fun c => ?_⟩
  · cases p
    all_goals first
      | exact .inr rfl
      | exact .inr ⟨rfl, rfl⟩
      | exact .inl (by simpa using hz_power)
  · exact Nat.le_refl _
  · exact ⟨c.near, c.bulk, c.store, c.host, c.entries, c.ctxEntries, c.counters, c.owners⟩

theorem Frame.set_serve {g : List Zone} {r s : State} (v_serve : Serving)
    (hz_serve : g.contains .serve = true)
    (h : Frame g r s) :
    Frame g r { s with serve := v_serve } := by
  refine h.trans ⟨fun p => ?_, rfl, rfl, ?_, fun c => ?_⟩
  · cases p
    all_goals first
      | exact .inr rfl
      | exact .inr ⟨rfl, rfl⟩
      | exact .inl (by simpa using hz_serve)
  · exact Nat.le_refl _
  · exact ⟨c.near, c.bulk, c.store, c.host, c.entries, c.ctxEntries, c.counters, c.owners⟩

theorem Frame.set_steps {g : List Zone} {r s : State} (v_steps : List Step)
    (hz_steps : g.contains .steps = true)
    (h : Frame g r s) :
    Frame g r { s with steps := v_steps } := by
  refine h.trans ⟨fun p => ?_, rfl, rfl, ?_, fun c => ?_⟩
  · cases p
    all_goals first
      | exact .inr rfl
      | exact .inr ⟨rfl, rfl⟩
      | exact .inl (by simpa using hz_steps)
  · exact Nat.le_refl _
  · exact ⟨c.near, c.bulk, c.store, c.host, c.entries, c.ctxEntries, c.counters, c.owners⟩

theorem Frame.set_store {g : List Zone} {r s : State} (v_store : Store)
    (hw_store : memWf s.store.mem = true → memWf v_store.mem = true)
    (hm_store : g.contains .storeMem = true ∨ v_store.mem = s.store.mem)
    (hr_store : g.contains .store = true ∨ { v_store with mem := [] } = { s.store with mem := [] })
    (h : Frame g r s) :
    Frame g r { s with store := v_store } := by
  refine h.trans ⟨fun p => ?_, rfl, rfl, ?_, fun c => ?_⟩
  · cases p
    all_goals first
      | exact .inr rfl
      | exact .inr ⟨rfl, rfl⟩
      | exact hm_store.imp (by simp) id
      | exact hr_store.imp (by simp) id
  · exact Nat.le_refl _
  · exact ⟨c.near, c.bulk, hw_store c.store, c.host, c.entries, c.ctxEntries, c.counters, c.owners⟩

theorem Frame.set_tru {g : List Zone} {r s : State} (v_tru : Tru)
    (hz_tru : g.contains .tru = true)
    (h : Frame g r s) :
    Frame g r { s with tru := v_tru } := by
  refine h.trans ⟨fun p => ?_, rfl, rfl, ?_, fun c => ?_⟩
  · cases p
    all_goals first
      | exact .inr rfl
      | exact .inr ⟨rfl, rfl⟩
      | exact .inl (by simpa using hz_tru)
  · exact Nat.le_refl _
  · exact ⟨c.near, c.bulk, c.store, c.host, c.entries, c.ctxEntries, c.counters, c.owners⟩

theorem Frame.set_uptime {g : List Zone} {r s : State} (v_uptime : Nat)
    (hz_uptime : g.contains .uptime = true)
    (hw_uptime : s.uptime ≤ v_uptime)
    (h : Frame g r s) :
    Frame g r { s with uptime := v_uptime } := by
  refine h.trans ⟨fun p => ?_, rfl, rfl, ?_, fun c => ?_⟩
  · cases p
    all_goals first
      | exact .inr rfl
      | exact .inr ⟨rfl, rfl⟩
      | exact .inl (by simpa using hz_uptime)
  · exact hw_uptime
  · exact ⟨c.near, c.bulk, c.store, c.host, c.entries, c.ctxEntries, c.counters, c.owners⟩

theorem Frame.set_cmds_nextCmd {g : List Zone} {r s : State} (v_cmds : List Cmd) (v_nextCmd : Nat)
    (hz_cmds : g.contains .cmds = true)
    (h : Frame g r s) :
    Frame g r { s with cmds := v_cmds, nextCmd := v_nextCmd } := by
  refine h.trans ⟨fun p => ?_, rfl, rfl, ?_, fun c => ?_⟩
  · cases p
    all_goals first
      | exact .inr rfl
      | exact .inr ⟨rfl, rfl⟩
      | exact .inl (by simpa using hz_cmds)
  · exact Nat.le_refl _
  · exact ⟨c.near, c.bulk, c.store, c.host, c.entries, c.ctxEntries, c.counters, c.owners⟩

theorem Frame.set_dev_bulk {g : List Zone} {r s : State} (v_dev : Dev) (v_bulk : Bulk)
    (hz_dev : g.contains .dev = true)
    (hw_bulk : memWf s.bulk.mem = true → memWf v_bulk.mem = true)
    (hm_bulk : g.contains .bulkMem = true ∨ v_bulk.mem = s.bulk.mem)
    (hr_bulk : g.contains .bulk = true ∨ { v_bulk with mem := [] } = { s.bulk with mem := [] })
    (h : Frame g r s) :
    Frame g r { s with dev := v_dev, bulk := v_bulk } := by
  refine h.trans ⟨fun p => ?_, rfl, rfl, ?_, fun c => ?_⟩
  · cases p
    all_goals first
      | exact .inr rfl
      | exact .inr ⟨rfl, rfl⟩
      | exact .inl (by simpa using hz_dev)
      | exact hm_bulk.imp (by simp) id
      | exact hr_bulk.imp (by simp) id
  · exact Nat.le_refl _
  · exact ⟨c.near, hw_bulk c.bulk, c.store, c.host, c.entries, c.ctxEntries, c.counters, c.owners⟩

theorem Frame.set_dev_hif {g : List Zone} {r s : State} (v_dev : Dev) (v_hif : Hif)
    (hz_dev : g.contains .dev = true)
    (hm_rings : g.contains .rings = true ∨ v_hif.rings = s.hif.rings)
    (hm_loops : g.contains .loops = true ∨ v_hif.loops = s.hif.loops)
    (hm_msix : g.contains .msix = true ∨ v_hif.msix = s.hif.msix)
    (hm_pages : g.contains .pages = true ∨ v_hif.pages = s.hif.pages)
    (hr_hif : g.contains .hif = true ∨ { v_hif with rings := [], loops := [], msix := [], pages := [] } = { s.hif with rings := [], loops := [], msix := [], pages := [] })
    (h : Frame g r s) :
    Frame g r { s with dev := v_dev, hif := v_hif } := by
  refine h.trans ⟨fun p => ?_, rfl, rfl, ?_, fun c => ?_⟩
  · cases p
    all_goals first
      | exact .inr rfl
      | exact .inr ⟨rfl, rfl⟩
      | exact .inl (by simpa using hz_dev)
      | exact hm_rings.imp (by simp) id
      | exact hm_loops.imp (by simp) id
      | exact hm_msix.imp (by simp) id
      | exact hm_pages.imp (by simp) id
      | exact hr_hif.imp (by simp) id
  · exact Nat.le_refl _
  · exact ⟨c.near, c.bulk, c.store, c.host, c.entries, c.ctxEntries, c.counters, c.owners⟩

theorem Frame.set_dev_links {g : List Zone} {r s : State} (v_dev : Dev) (v_links : Links)
    (hz_dev : g.contains .dev = true)
    (hz_links : g.contains .links = true)
    (h : Frame g r s) :
    Frame g r { s with dev := v_dev, links := v_links } := by
  refine h.trans ⟨fun p => ?_, rfl, rfl, ?_, fun c => ?_⟩
  · cases p
    all_goals first
      | exact .inr rfl
      | exact .inr ⟨rfl, rfl⟩
      | exact .inl (by simpa using hz_dev)
      | exact .inl (by simpa using hz_links)
  · exact Nat.le_refl _
  · exact ⟨c.near, c.bulk, c.store, c.host, c.entries, c.ctxEntries, c.counters, c.owners⟩

theorem Frame.set_dict_cdict {g : List Zone} {r s : State} (v_dict : Tab Nat) (v_cdict : Tab Nat)
    (hz_dict : g.contains .entries = true)
    (hz_cdict : g.contains .ctxEntries = true)
    (hw_dict : tsorted none s.dict = true → tsorted none v_dict = true)
    (hw_cdict : tsorted none s.cdict = true → tsorted none v_cdict = true)
    (h : Frame g r s) :
    Frame g r { s with dict := v_dict, cdict := v_cdict } := by
  refine h.trans ⟨fun p => ?_, rfl, rfl, ?_, fun c => ?_⟩
  · cases p
    all_goals first
      | exact .inr rfl
      | exact .inr ⟨rfl, rfl⟩
      | exact .inl (by simpa using hz_dict)
      | exact .inl (by simpa using hz_cdict)
  · exact Nat.le_refl _
  · exact ⟨c.near, c.bulk, c.store, c.host, hw_dict c.entries, hw_cdict c.ctxEntries, c.counters, c.owners⟩

theorem Frame.set_near_bulk {g : List Zone} {r s : State} (v_near : Near) (v_bulk : Bulk)
    (hw_near : memWf s.near.mem = true → memWf v_near.mem = true)
    (hm_near : g.contains .nearMem = true ∨ v_near.mem = s.near.mem)
    (hr_near : g.contains .near = true ∨ { v_near with mem := [] } = { s.near with mem := [] })
    (hw_bulk : memWf s.bulk.mem = true → memWf v_bulk.mem = true)
    (hm_bulk : g.contains .bulkMem = true ∨ v_bulk.mem = s.bulk.mem)
    (hr_bulk : g.contains .bulk = true ∨ { v_bulk with mem := [] } = { s.bulk with mem := [] })
    (h : Frame g r s) :
    Frame g r { s with near := v_near, bulk := v_bulk } := by
  refine h.trans ⟨fun p => ?_, rfl, rfl, ?_, fun c => ?_⟩
  · cases p
    all_goals first
      | exact .inr rfl
      | exact .inr ⟨rfl, rfl⟩
      | exact hm_near.imp (by simp) id
      | exact hr_near.imp (by simp) id
      | exact hm_bulk.imp (by simp) id
      | exact hr_bulk.imp (by simp) id
  · exact Nat.le_refl _
  · exact ⟨hw_near c.near, hw_bulk c.bulk, c.store, c.host, c.entries, c.ctxEntries, c.counters, c.owners⟩

theorem Frame.set_pins_dev {g : List Zone} {r s : State} (v_pins : Pins) (v_dev : Dev)
    (hz_pins : g.contains .pins = true)
    (hz_dev : g.contains .dev = true)
    (h : Frame g r s) :
    Frame g r { s with pins := v_pins, dev := v_dev } := by
  refine h.trans ⟨fun p => ?_, rfl, rfl, ?_, fun c => ?_⟩
  · cases p
    all_goals first
      | exact .inr rfl
      | exact .inr ⟨rfl, rfl⟩
      | exact .inl (by simpa using hz_pins)
      | exact .inl (by simpa using hz_dev)
  · exact Nat.le_refl _
  · exact ⟨c.near, c.bulk, c.store, c.host, c.entries, c.ctxEntries, c.counters, c.owners⟩

theorem Frame.set_pins_hif {g : List Zone} {r s : State} (v_pins : Pins) (v_hif : Hif)
    (hz_pins : g.contains .pins = true)
    (hm_rings : g.contains .rings = true ∨ v_hif.rings = s.hif.rings)
    (hm_loops : g.contains .loops = true ∨ v_hif.loops = s.hif.loops)
    (hm_msix : g.contains .msix = true ∨ v_hif.msix = s.hif.msix)
    (hm_pages : g.contains .pages = true ∨ v_hif.pages = s.hif.pages)
    (hr_hif : g.contains .hif = true ∨ { v_hif with rings := [], loops := [], msix := [], pages := [] } = { s.hif with rings := [], loops := [], msix := [], pages := [] })
    (h : Frame g r s) :
    Frame g r { s with pins := v_pins, hif := v_hif } := by
  refine h.trans ⟨fun p => ?_, rfl, rfl, ?_, fun c => ?_⟩
  · cases p
    all_goals first
      | exact .inr rfl
      | exact .inr ⟨rfl, rfl⟩
      | exact .inl (by simpa using hz_pins)
      | exact hm_rings.imp (by simp) id
      | exact hm_loops.imp (by simp) id
      | exact hm_msix.imp (by simp) id
      | exact hm_pages.imp (by simp) id
      | exact hr_hif.imp (by simp) id
  · exact Nat.le_refl _
  · exact ⟨c.near, c.bulk, c.store, c.host, c.entries, c.ctxEntries, c.counters, c.owners⟩

theorem Frame.set_steps_ctxs {g : List Zone} {r s : State} (v_steps : List Step) (v_ctxs : Ctxs)
    (hz_steps : g.contains .steps = true)
    (hz_ctxs : g.contains .ctxs = true)
    (h : Frame g r s) :
    Frame g r { s with steps := v_steps, ctxs := v_ctxs } := by
  refine h.trans ⟨fun p => ?_, rfl, rfl, ?_, fun c => ?_⟩
  · cases p
    all_goals first
      | exact .inr rfl
      | exact .inr ⟨rfl, rfl⟩
      | exact .inl (by simpa using hz_steps)
      | exact .inl (by simpa using hz_ctxs)
  · exact Nat.le_refl _
  · exact ⟨c.near, c.bulk, c.store, c.host, c.entries, c.ctxEntries, c.counters, c.owners⟩

theorem Frame.set_hif_array_ctxs {g : List Zone} {r s : State} (v_hif : Hif) (v_array : Array) (v_ctxs : Ctxs)
    (hz_array : g.contains .array = true)
    (hz_ctxs : g.contains .ctxs = true)
    (hm_rings : g.contains .rings = true ∨ v_hif.rings = s.hif.rings)
    (hm_loops : g.contains .loops = true ∨ v_hif.loops = s.hif.loops)
    (hm_msix : g.contains .msix = true ∨ v_hif.msix = s.hif.msix)
    (hm_pages : g.contains .pages = true ∨ v_hif.pages = s.hif.pages)
    (hr_hif : g.contains .hif = true ∨ { v_hif with rings := [], loops := [], msix := [], pages := [] } = { s.hif with rings := [], loops := [], msix := [], pages := [] })
    (h : Frame g r s) :
    Frame g r { s with hif := v_hif, array := v_array, ctxs := v_ctxs } := by
  refine h.trans ⟨fun p => ?_, rfl, rfl, ?_, fun c => ?_⟩
  · cases p
    all_goals first
      | exact .inr rfl
      | exact .inr ⟨rfl, rfl⟩
      | exact .inl (by simpa using hz_array)
      | exact .inl (by simpa using hz_ctxs)
      | exact hm_rings.imp (by simp) id
      | exact hm_loops.imp (by simp) id
      | exact hm_msix.imp (by simp) id
      | exact hm_pages.imp (by simp) id
      | exact hr_hif.imp (by simp) id
  · exact Nat.le_refl _
  · exact ⟨c.near, c.bulk, c.store, c.host, c.entries, c.ctxEntries, c.counters, c.owners⟩

theorem Frame.set_dev_links_kop_health {g : List Zone} {r s : State} (v_dev : Dev) (v_links : Links) (v_kop : Kop) (v_health : Health)
    (hz_dev : g.contains .dev = true)
    (hz_links : g.contains .links = true)
    (hz_kop : g.contains .kop = true)
    (hz_health : g.contains .health = true)
    (h : Frame g r s) :
    Frame g r { s with dev := v_dev, links := v_links, kop := v_kop, health := v_health } := by
  refine h.trans ⟨fun p => ?_, rfl, rfl, ?_, fun c => ?_⟩
  · cases p
    all_goals first
      | exact .inr rfl
      | exact .inr ⟨rfl, rfl⟩
      | exact .inl (by simpa using hz_dev)
      | exact .inl (by simpa using hz_links)
      | exact .inl (by simpa using hz_kop)
      | exact .inl (by simpa using hz_health)
  · exact Nat.le_refl _
  · exact ⟨c.near, c.bulk, c.store, c.host, c.entries, c.ctxEntries, c.counters, c.owners⟩

theorem Frame.set_steps_array_ctxs_serve_tru {g : List Zone} {r s : State} (v_steps : List Step) (v_array : Array) (v_ctxs : Ctxs) (v_serve : Serving) (v_tru : Tru)
    (hz_steps : g.contains .steps = true)
    (hz_array : g.contains .array = true)
    (hz_ctxs : g.contains .ctxs = true)
    (hz_serve : g.contains .serve = true)
    (hz_tru : g.contains .tru = true)
    (h : Frame g r s) :
    Frame g r { s with steps := v_steps, array := v_array, ctxs := v_ctxs, serve := v_serve, tru := v_tru } := by
  refine h.trans ⟨fun p => ?_, rfl, rfl, ?_, fun c => ?_⟩
  · cases p
    all_goals first
      | exact .inr rfl
      | exact .inr ⟨rfl, rfl⟩
      | exact .inl (by simpa using hz_steps)
      | exact .inl (by simpa using hz_array)
      | exact .inl (by simpa using hz_ctxs)
      | exact .inl (by simpa using hz_serve)
      | exact .inl (by simpa using hz_tru)
  · exact Nat.le_refl _
  · exact ⟨c.near, c.bulk, c.store, c.host, c.entries, c.ctxEntries, c.counters, c.owners⟩

theorem Frame.set_pins_dev_hif_cmds_steps_array {g : List Zone} {r s : State} (v_pins : Pins) (v_dev : Dev) (v_hif : Hif) (v_cmds : List Cmd) (v_steps : List Step) (v_array : Array)
    (hz_pins : g.contains .pins = true)
    (hz_dev : g.contains .dev = true)
    (hz_cmds : g.contains .cmds = true)
    (hz_steps : g.contains .steps = true)
    (hz_array : g.contains .array = true)
    (hm_rings : g.contains .rings = true ∨ v_hif.rings = s.hif.rings)
    (hm_loops : g.contains .loops = true ∨ v_hif.loops = s.hif.loops)
    (hm_msix : g.contains .msix = true ∨ v_hif.msix = s.hif.msix)
    (hm_pages : g.contains .pages = true ∨ v_hif.pages = s.hif.pages)
    (hr_hif : g.contains .hif = true ∨ { v_hif with rings := [], loops := [], msix := [], pages := [] } = { s.hif with rings := [], loops := [], msix := [], pages := [] })
    (h : Frame g r s) :
    Frame g r { s with pins := v_pins, dev := v_dev, hif := v_hif, cmds := v_cmds, steps := v_steps, array := v_array } := by
  refine h.trans ⟨fun p => ?_, rfl, rfl, ?_, fun c => ?_⟩
  · cases p
    all_goals first
      | exact .inr rfl
      | exact .inr ⟨rfl, rfl⟩
      | exact .inl (by simpa using hz_pins)
      | exact .inl (by simpa using hz_dev)
      | exact .inl (by simpa using hz_cmds)
      | exact .inl (by simpa using hz_steps)
      | exact .inl (by simpa using hz_array)
      | exact hm_rings.imp (by simp) id
      | exact hm_loops.imp (by simp) id
      | exact hm_msix.imp (by simp) id
      | exact hm_pages.imp (by simp) id
      | exact hr_hif.imp (by simp) id
  · exact Nat.le_refl _
  · exact ⟨c.near, c.bulk, c.store, c.host, c.entries, c.ctxEntries, c.counters, c.owners⟩

theorem Frame.set_near_bulk_hif_cmds_steps_array_ctxs {g : List Zone} {r s : State} (v_near : Near) (v_bulk : Bulk) (v_hif : Hif) (v_cmds : List Cmd) (v_steps : List Step) (v_array : Array) (v_ctxs : Ctxs)
    (hz_cmds : g.contains .cmds = true)
    (hz_steps : g.contains .steps = true)
    (hz_array : g.contains .array = true)
    (hz_ctxs : g.contains .ctxs = true)
    (hw_near : memWf s.near.mem = true → memWf v_near.mem = true)
    (hm_near : g.contains .nearMem = true ∨ v_near.mem = s.near.mem)
    (hr_near : g.contains .near = true ∨ { v_near with mem := [] } = { s.near with mem := [] })
    (hw_bulk : memWf s.bulk.mem = true → memWf v_bulk.mem = true)
    (hm_bulk : g.contains .bulkMem = true ∨ v_bulk.mem = s.bulk.mem)
    (hr_bulk : g.contains .bulk = true ∨ { v_bulk with mem := [] } = { s.bulk with mem := [] })
    (hm_rings : g.contains .rings = true ∨ v_hif.rings = s.hif.rings)
    (hm_loops : g.contains .loops = true ∨ v_hif.loops = s.hif.loops)
    (hm_msix : g.contains .msix = true ∨ v_hif.msix = s.hif.msix)
    (hm_pages : g.contains .pages = true ∨ v_hif.pages = s.hif.pages)
    (hr_hif : g.contains .hif = true ∨ { v_hif with rings := [], loops := [], msix := [], pages := [] } = { s.hif with rings := [], loops := [], msix := [], pages := [] })
    (h : Frame g r s) :
    Frame g r { s with near := v_near, bulk := v_bulk, hif := v_hif, cmds := v_cmds, steps := v_steps, array := v_array, ctxs := v_ctxs } := by
  refine h.trans ⟨fun p => ?_, rfl, rfl, ?_, fun c => ?_⟩
  · cases p
    all_goals first
      | exact .inr rfl
      | exact .inr ⟨rfl, rfl⟩
      | exact .inl (by simpa using hz_cmds)
      | exact .inl (by simpa using hz_steps)
      | exact .inl (by simpa using hz_array)
      | exact .inl (by simpa using hz_ctxs)
      | exact hm_near.imp (by simp) id
      | exact hr_near.imp (by simp) id
      | exact hm_bulk.imp (by simp) id
      | exact hr_bulk.imp (by simp) id
      | exact hm_rings.imp (by simp) id
      | exact hm_loops.imp (by simp) id
      | exact hm_msix.imp (by simp) id
      | exact hm_pages.imp (by simp) id
      | exact hr_hif.imp (by simp) id
  · exact Nat.le_refl _
  · exact ⟨hw_near c.near, hw_bulk c.bulk, c.store, c.host, c.entries, c.ctxEntries, c.counters, c.owners⟩

theorem Frame.set_pins_dev_cdu_bulk_links_kop_health_power {g : List Zone} {r s : State} (v_pins : Pins) (v_dev : Dev) (v_cdu : Cdu) (v_bulk : Bulk) (v_links : Links) (v_kop : Kop) (v_health : Health) (v_power : Power)
    (hz_pins : g.contains .pins = true)
    (hz_dev : g.contains .dev = true)
    (hz_cdu : g.contains .cdu = true)
    (hz_links : g.contains .links = true)
    (hz_kop : g.contains .kop = true)
    (hz_health : g.contains .health = true)
    (hz_power : g.contains .power = true)
    (hw_bulk : memWf s.bulk.mem = true → memWf v_bulk.mem = true)
    (hm_bulk : g.contains .bulkMem = true ∨ v_bulk.mem = s.bulk.mem)
    (hr_bulk : g.contains .bulk = true ∨ { v_bulk with mem := [] } = { s.bulk with mem := [] })
    (h : Frame g r s) :
    Frame g r { s with pins := v_pins, dev := v_dev, cdu := v_cdu, bulk := v_bulk, links := v_links, kop := v_kop, health := v_health, power := v_power } := by
  refine h.trans ⟨fun p => ?_, rfl, rfl, ?_, fun c => ?_⟩
  · cases p
    all_goals first
      | exact .inr rfl
      | exact .inr ⟨rfl, rfl⟩
      | exact .inl (by simpa using hz_pins)
      | exact .inl (by simpa using hz_dev)
      | exact .inl (by simpa using hz_cdu)
      | exact .inl (by simpa using hz_links)
      | exact .inl (by simpa using hz_kop)
      | exact .inl (by simpa using hz_health)
      | exact .inl (by simpa using hz_power)
      | exact hm_bulk.imp (by simp) id
      | exact hr_bulk.imp (by simp) id
  · exact Nat.le_refl _
  · exact ⟨c.near, hw_bulk c.bulk, c.store, c.host, c.entries, c.ctxEntries, c.counters, c.owners⟩

theorem Frame.set_near_bulk_store_hif_counters_owners_cmds_steps_array_ctxs_serve_tru {g : List Zone} {r s : State} (v_near : Near) (v_bulk : Bulk) (v_store : Store) (v_hif : Hif) (v_counters : Tab (BitVec 64)) (v_owners : Tab (BitVec 16)) (v_cmds : List Cmd) (v_steps : List Step) (v_array : Array) (v_ctxs : Ctxs) (v_serve : Serving) (v_tru : Tru)
    (hz_counters : g.contains .counters = true)
    (hz_owners : g.contains .owners = true)
    (hz_cmds : g.contains .cmds = true)
    (hz_steps : g.contains .steps = true)
    (hz_array : g.contains .array = true)
    (hz_ctxs : g.contains .ctxs = true)
    (hz_serve : g.contains .serve = true)
    (hz_tru : g.contains .tru = true)
    (hw_near : memWf s.near.mem = true → memWf v_near.mem = true)
    (hm_near : g.contains .nearMem = true ∨ v_near.mem = s.near.mem)
    (hr_near : g.contains .near = true ∨ { v_near with mem := [] } = { s.near with mem := [] })
    (hw_bulk : memWf s.bulk.mem = true → memWf v_bulk.mem = true)
    (hm_bulk : g.contains .bulkMem = true ∨ v_bulk.mem = s.bulk.mem)
    (hr_bulk : g.contains .bulk = true ∨ { v_bulk with mem := [] } = { s.bulk with mem := [] })
    (hw_store : memWf s.store.mem = true → memWf v_store.mem = true)
    (hm_store : g.contains .storeMem = true ∨ v_store.mem = s.store.mem)
    (hr_store : g.contains .store = true ∨ { v_store with mem := [] } = { s.store with mem := [] })
    (hm_rings : g.contains .rings = true ∨ v_hif.rings = s.hif.rings)
    (hm_loops : g.contains .loops = true ∨ v_hif.loops = s.hif.loops)
    (hm_msix : g.contains .msix = true ∨ v_hif.msix = s.hif.msix)
    (hm_pages : g.contains .pages = true ∨ v_hif.pages = s.hif.pages)
    (hr_hif : g.contains .hif = true ∨ { v_hif with rings := [], loops := [], msix := [], pages := [] } = { s.hif with rings := [], loops := [], msix := [], pages := [] })
    (hw_counters : twf 0 s.counters = true → twf 0 v_counters = true)
    (hw_owners : twf 0xFFFF s.owners = true → twf 0xFFFF v_owners = true)
    (h : Frame g r s) :
    Frame g r { s with near := v_near, bulk := v_bulk, store := v_store, hif := v_hif, counters := v_counters, owners := v_owners, cmds := v_cmds, steps := v_steps, array := v_array, ctxs := v_ctxs, serve := v_serve, tru := v_tru } := by
  refine h.trans ⟨fun p => ?_, rfl, rfl, ?_, fun c => ?_⟩
  · cases p
    all_goals first
      | exact .inr rfl
      | exact .inr ⟨rfl, rfl⟩
      | exact .inl (by simpa using hz_counters)
      | exact .inl (by simpa using hz_owners)
      | exact .inl (by simpa using hz_cmds)
      | exact .inl (by simpa using hz_steps)
      | exact .inl (by simpa using hz_array)
      | exact .inl (by simpa using hz_ctxs)
      | exact .inl (by simpa using hz_serve)
      | exact .inl (by simpa using hz_tru)
      | exact hm_near.imp (by simp) id
      | exact hr_near.imp (by simp) id
      | exact hm_bulk.imp (by simp) id
      | exact hr_bulk.imp (by simp) id
      | exact hm_store.imp (by simp) id
      | exact hr_store.imp (by simp) id
      | exact hm_rings.imp (by simp) id
      | exact hm_loops.imp (by simp) id
      | exact hm_msix.imp (by simp) id
      | exact hm_pages.imp (by simp) id
      | exact hr_hif.imp (by simp) id
  · exact Nat.le_refl _
  · exact ⟨hw_near c.near, hw_bulk c.bulk, hw_store c.store, c.host, c.entries, c.ctxEntries, hw_counters c.counters, hw_owners c.owners⟩

theorem Frame.set_hostUncommitted {g : List Zone} {r s : State} (v_hostUncommitted : Tab Nat)
    (hz_hostUncommitted : g.contains .host = true)
    (h : Frame g r s) :
    Frame g r { s with hostUncommitted := v_hostUncommitted } := by
  refine h.trans ⟨fun p => ?_, rfl, rfl, ?_, fun c => ?_⟩
  · cases p
    all_goals first
      | exact .inr rfl
      | exact .inr ⟨rfl, rfl⟩
      | exact .inl (by simpa using hz_hostUncommitted)
  · exact Nat.le_refl _
  · exact ⟨c.near, c.bulk, c.store, c.host, c.entries, c.ctxEntries, c.counters, c.owners⟩

theorem Frame.set_host_hostUncommitted {g : List Zone} {r s : State} (v_host : List Host.Cell) (v_hostUncommitted : Tab Nat)
    (hz_host : g.contains .host = true)
    (hw_host : memWf s.host = true → memWf v_host = true)
    (h : Frame g r s) :
    Frame g r { s with host := v_host, hostUncommitted := v_hostUncommitted } := by
  refine h.trans ⟨fun p => ?_, rfl, rfl, ?_, fun c => ?_⟩
  · cases p
    all_goals first
      | exact .inr rfl
      | exact .inr ⟨rfl, rfl⟩
      | exact .inl (by simpa using hz_host)
  · exact Nat.le_refl _
  · exact ⟨c.near, c.bulk, c.store, hw_host c.host, c.entries, c.ctxEntries, c.counters, c.owners⟩

theorem Frame.set_host_hostUncommitted_near_bulk {g : List Zone} {r s : State} (v_host : List Host.Cell) (v_hostUncommitted : Tab Nat) (v_near : Near) (v_bulk : Bulk)
    (hz_host : g.contains .host = true)
    (hw_host : memWf s.host = true → memWf v_host = true)
    (hw_near : memWf s.near.mem = true → memWf v_near.mem = true)
    (hm_near : g.contains .nearMem = true ∨ v_near.mem = s.near.mem)
    (hr_near : g.contains .near = true ∨ { v_near with mem := [] } = { s.near with mem := [] })
    (hw_bulk : memWf s.bulk.mem = true → memWf v_bulk.mem = true)
    (hm_bulk : g.contains .bulkMem = true ∨ v_bulk.mem = s.bulk.mem)
    (hr_bulk : g.contains .bulk = true ∨ { v_bulk with mem := [] } = { s.bulk with mem := [] })
    (h : Frame g r s) :
    Frame g r { s with host := v_host, hostUncommitted := v_hostUncommitted, near := v_near, bulk := v_bulk } := by
  refine h.trans ⟨fun p => ?_, rfl, rfl, ?_, fun c => ?_⟩
  · cases p
    all_goals first
      | exact .inr rfl
      | exact .inr ⟨rfl, rfl⟩
      | exact .inl (by simpa using hz_host)
      | exact hm_near.imp (by simp) id
      | exact hr_near.imp (by simp) id
      | exact hm_bulk.imp (by simp) id
      | exact hr_bulk.imp (by simp) id
  · exact Nat.le_refl _
  · exact ⟨hw_near c.near, hw_bulk c.bulk, c.store, hw_host c.host, c.entries, c.ctxEntries, c.counters, c.owners⟩

theorem Frame.set_hostUncommitted_near_bulk {g : List Zone} {r s : State} (v_hostUncommitted : Tab Nat) (v_near : Near) (v_bulk : Bulk)
    (hz_hostUncommitted : g.contains .host = true)
    (hw_near : memWf s.near.mem = true → memWf v_near.mem = true)
    (hm_near : g.contains .nearMem = true ∨ v_near.mem = s.near.mem)
    (hr_near : g.contains .near = true ∨ { v_near with mem := [] } = { s.near with mem := [] })
    (hw_bulk : memWf s.bulk.mem = true → memWf v_bulk.mem = true)
    (hm_bulk : g.contains .bulkMem = true ∨ v_bulk.mem = s.bulk.mem)
    (hr_bulk : g.contains .bulk = true ∨ { v_bulk with mem := [] } = { s.bulk with mem := [] })
    (h : Frame g r s) :
    Frame g r { s with hostUncommitted := v_hostUncommitted, near := v_near, bulk := v_bulk } := by
  refine h.trans ⟨fun p => ?_, rfl, rfl, ?_, fun c => ?_⟩
  · cases p
    all_goals first
      | exact .inr rfl
      | exact .inr ⟨rfl, rfl⟩
      | exact .inl (by simpa using hz_hostUncommitted)
      | exact hm_near.imp (by simp) id
      | exact hr_near.imp (by simp) id
      | exact hm_bulk.imp (by simp) id
      | exact hr_bulk.imp (by simp) id
  · exact Nat.le_refl _
  · exact ⟨hw_near c.near, hw_bulk c.bulk, c.store, c.host, c.entries, c.ctxEntries, c.counters, c.owners⟩

theorem Frame.set_free_host_hostUncommitted_near_bulk {g : List Zone} {r s : State} (v_free : Nat) (v_host : List Host.Cell) (v_hostUncommitted : Tab Nat) (v_near : Near) (v_bulk : Bulk)
    (hz_free : g.contains .free = true)
    (hz_host : g.contains .host = true)
    (hw_host : memWf s.host = true → memWf v_host = true)
    (hw_near : memWf s.near.mem = true → memWf v_near.mem = true)
    (hm_near : g.contains .nearMem = true ∨ v_near.mem = s.near.mem)
    (hr_near : g.contains .near = true ∨ { v_near with mem := [] } = { s.near with mem := [] })
    (hw_bulk : memWf s.bulk.mem = true → memWf v_bulk.mem = true)
    (hm_bulk : g.contains .bulkMem = true ∨ v_bulk.mem = s.bulk.mem)
    (hr_bulk : g.contains .bulk = true ∨ { v_bulk with mem := [] } = { s.bulk with mem := [] })
    (h : Frame g r s) :
    Frame g r { s with free := v_free, host := v_host, hostUncommitted := v_hostUncommitted, near := v_near, bulk := v_bulk } := by
  refine h.trans ⟨fun p => ?_, rfl, rfl, ?_, fun c => ?_⟩
  · cases p
    all_goals first
      | exact .inr rfl
      | exact .inr ⟨rfl, rfl⟩
      | exact .inl (by simpa using hz_free)
      | exact .inl (by simpa using hz_host)
      | exact hm_near.imp (by simp) id
      | exact hr_near.imp (by simp) id
      | exact hm_bulk.imp (by simp) id
      | exact hr_bulk.imp (by simp) id
  · exact Nat.le_refl _
  · exact ⟨hw_near c.near, hw_bulk c.bulk, c.store, hw_host c.host, c.entries, c.ctxEntries, c.counters, c.owners⟩

theorem Frame.set_free_steps {g : List Zone} {r s : State} (v_free : Nat) (v_steps : List Step)
    (hz_free : g.contains .free = true)
    (hz_steps : g.contains .steps = true)
    (h : Frame g r s) :
    Frame g r { s with free := v_free, steps := v_steps } := by
  refine h.trans ⟨fun p => ?_, rfl, rfl, ?_, fun c => ?_⟩
  · cases p
    all_goals first
      | exact .inr rfl
      | exact .inr ⟨rfl, rfl⟩
      | exact .inl (by simpa using hz_free)
      | exact .inl (by simpa using hz_steps)
  · exact Nat.le_refl _
  · exact ⟨c.near, c.bulk, c.store, c.host, c.entries, c.ctxEntries, c.counters, c.owners⟩

theorem Frame.set_cdu_ctxs {g : List Zone} {r s : State} (v_cdu : Cdu) (v_ctxs : Ctxs)
    (hz_cdu : g.contains .cdu = true)
    (hz_ctxs : g.contains .ctxs = true)
    (h : Frame g r s) :
    Frame g r { s with cdu := v_cdu, ctxs := v_ctxs } := by
  refine h.trans ⟨fun p => ?_, rfl, rfl, ?_, fun c => ?_⟩
  · cases p
    all_goals first
      | exact .inr rfl
      | exact .inr ⟨rfl, rfl⟩
      | exact .inl (by simpa using hz_cdu)
      | exact .inl (by simpa using hz_ctxs)
  · exact Nat.le_refl _
  · exact ⟨c.near, c.bulk, c.store, c.host, c.entries, c.ctxEntries, c.counters, c.owners⟩

theorem Frame.set_near_array {g : List Zone} {r s : State} (v_near : Near) (v_array : Array)
    (hz_array : g.contains .array = true)
    (hw_near : memWf s.near.mem = true → memWf v_near.mem = true)
    (hm_near : g.contains .nearMem = true ∨ v_near.mem = s.near.mem)
    (hr_near : g.contains .near = true ∨ { v_near with mem := [] } = { s.near with mem := [] })
    (h : Frame g r s) :
    Frame g r { s with near := v_near, array := v_array } := by
  refine h.trans ⟨fun p => ?_, rfl, rfl, ?_, fun c => ?_⟩
  · cases p
    all_goals first
      | exact .inr rfl
      | exact .inr ⟨rfl, rfl⟩
      | exact .inl (by simpa using hz_array)
      | exact hm_near.imp (by simp) id
      | exact hr_near.imp (by simp) id
  · exact Nat.le_refl _
  · exact ⟨hw_near c.near, c.bulk, c.store, c.host, c.entries, c.ctxEntries, c.counters, c.owners⟩

theorem Frame.set_steps_array {g : List Zone} {r s : State} (v_steps : List Step) (v_array : Array)
    (hz_steps : g.contains .steps = true)
    (hz_array : g.contains .array = true)
    (h : Frame g r s) :
    Frame g r { s with steps := v_steps, array := v_array } := by
  refine h.trans ⟨fun p => ?_, rfl, rfl, ?_, fun c => ?_⟩
  · cases p
    all_goals first
      | exact .inr rfl
      | exact .inr ⟨rfl, rfl⟩
      | exact .inl (by simpa using hz_steps)
      | exact .inl (by simpa using hz_array)
  · exact Nat.le_refl _
  · exact ⟨c.near, c.bulk, c.store, c.host, c.entries, c.ctxEntries, c.counters, c.owners⟩

theorem Frame.set_dev_ctxs {g : List Zone} {r s : State} (v_dev : Dev) (v_ctxs : Ctxs)
    (hz_dev : g.contains .dev = true)
    (hz_ctxs : g.contains .ctxs = true)
    (h : Frame g r s) :
    Frame g r { s with dev := v_dev, ctxs := v_ctxs } := by
  refine h.trans ⟨fun p => ?_, rfl, rfl, ?_, fun c => ?_⟩
  · cases p
    all_goals first
      | exact .inr rfl
      | exact .inr ⟨rfl, rfl⟩
      | exact .inl (by simpa using hz_dev)
      | exact .inl (by simpa using hz_ctxs)
  · exact Nat.le_refl _
  · exact ⟨c.near, c.bulk, c.store, c.host, c.entries, c.ctxEntries, c.counters, c.owners⟩

theorem Frame.set_uptime_pins_dev_cdu {g : List Zone} {r s : State} (v_uptime : Nat) (v_pins : Pins) (v_dev : Dev) (v_cdu : Cdu)
    (hz_uptime : g.contains .uptime = true)
    (hz_pins : g.contains .pins = true)
    (hz_dev : g.contains .dev = true)
    (hz_cdu : g.contains .cdu = true)
    (hw_uptime : s.uptime ≤ v_uptime)
    (h : Frame g r s) :
    Frame g r { s with uptime := v_uptime, pins := v_pins, dev := v_dev, cdu := v_cdu } := by
  refine h.trans ⟨fun p => ?_, rfl, rfl, ?_, fun c => ?_⟩
  · cases p
    all_goals first
      | exact .inr rfl
      | exact .inr ⟨rfl, rfl⟩
      | exact .inl (by simpa using hz_uptime)
      | exact .inl (by simpa using hz_pins)
      | exact .inl (by simpa using hz_dev)
      | exact .inl (by simpa using hz_cdu)
  · exact hw_uptime
  · exact ⟨c.near, c.bulk, c.store, c.host, c.entries, c.ctxEntries, c.counters, c.owners⟩

end Sys2Proof.Machine
end

