-- ==== Sys2Proof/Laws/Tables.lean ====
section
/-! SUPPORT. Sparse tables and memories: every operation keeps the canonical form, and what a read after a
write gives. -/

namespace Sys2Proof.Machine

/-- Keys strictly rising above a bound, as a proposition. -/
theorem tsorted_cons {α : Type} (b : Option Nat) (kv : Nat × α) (t : Tab α) :
    tsorted b (kv :: t) = true ↔ (∀ m, b = some m → m < kv.1) ∧ tsorted (some kv.1) t = true := by
  obtain ⟨k, v⟩ := kv
  cases b <;> simp [tsorted]

theorem tsorted_weaken {α : Type} {m n : Nat} (t : Tab α) (hm : m ≤ n) (h : tsorted (some n) t = true) :
    tsorted (some m) t = true := by
  cases t with
  | nil => rfl
  | cons kv t =>
    simp only [tsorted_cons, Option.some.injEq, forall_eq'] at h ⊢
    exact ⟨by omega, h.2⟩

theorem tsorted_none {α : Type} {b : Option Nat} (t : Tab α) (h : tsorted b t = true) : tsorted none t = true := by
  cases t with
  | nil => rfl
  | cons kv t =>
    simp only [tsorted_cons] at h ⊢
    exact ⟨by simp, h.2⟩

theorem tsorted_terase {α : Type} (b : Option Nat) (t : Tab α) (k : Nat) (h : tsorted b t = true) :
    tsorted b (terase t k) = true := by
  induction t generalizing b with
  | nil => rfl
  | cons kv t ih =>
    simp only [tsorted_cons] at h
    simp only [terase]
    split
    · cases b with
      | none => exact tsorted_none t h.2
      | some m => exact tsorted_weaken t (Nat.le_of_lt (h.1 m rfl)) h.2
    · split
      · simp only [tsorted_cons]; exact h
      · simp only [tsorted_cons]; exact ⟨h.1, ih _ h.2⟩

theorem tsorted_tput {α : Type} (b : Option Nat) (t : Tab α) (k : Nat) (v : α) (h : tsorted b t = true)
    (hk : ∀ m, b = some m → m < k) : tsorted b (tput t k v) = true := by
  induction t generalizing b with
  | nil => simp only [tput, tsorted_cons]; exact ⟨hk, rfl⟩
  | cons kv t ih =>
    simp only [tsorted_cons] at h
    simp only [tput]
    split
    · next e => simp only [tsorted_cons]; exact ⟨hk, e ▸ h.2⟩
    · split
      · next lt => simp only [tsorted_cons, Option.some.injEq, forall_eq']; exact ⟨hk, lt, h.2⟩
      · simp only [tsorted_cons]
        exact ⟨h.1, ih _ h.2 (by simp only [Option.some.injEq, forall_eq']; omega)⟩

theorem tsorted_tset {α : Type} [DecidableEq α] (d : α) (t : Tab α) (k : Nat) (v : α) (h : tsorted none t = true) :
    tsorted none (tset d t k v) = true := by
  simp only [tset]
  split
  · exact tsorted_terase none t k h
  · exact tsorted_tput none t k v h (by simp)

theorem tsorted_filter {α : Type} (b : Option Nat) (t : Tab α) (p : Nat × α → Bool) (h : tsorted b t = true) :
    tsorted b (t.filter p) = true := by
  induction t generalizing b with
  | nil => rfl
  | cons kv t ih =>
    simp only [tsorted_cons] at h
    simp only [List.filter_cons]
    split
    · simp only [tsorted_cons]; exact ⟨h.1, ih _ h.2⟩
    · refine ih b ?_
      cases b with
      | none => exact tsorted_none t h.2
      | some m => exact tsorted_weaken t (Nat.le_of_lt (h.1 m rfl)) h.2

theorem twf_iff {α : Type} [DecidableEq α] (d : α) (t : Tab α) :
    twf d t = true ↔ tsorted none t = true ∧ ∀ kv ∈ t, kv.2 ≠ d := by
  simp [twf, List.all_eq_true]

theorem mem_terase {α : Type} {x : Nat × α} (t : Tab α) (k : Nat) (h : x ∈ terase t k) : x ∈ t := by
  induction t with
  | nil => exact h
  | cons kv t ih =>
    simp only [terase] at h
    split at h
    · exact List.mem_cons_of_mem _ h
    · split at h
      · exact h
      · rcases List.mem_cons.mp h with e | e
        · exact e ▸ List.mem_cons_self ..
        · exact List.mem_cons_of_mem _ (ih e)

theorem mem_tput {α : Type} {x : Nat × α} (t : Tab α) (k : Nat) (v : α) (h : x ∈ tput t k v) : x = (k, v) ∨ x ∈ t := by
  induction t with
  | nil => exact .inl (by simpa [tput] using h)
  | cons kv t ih =>
    simp only [tput] at h
    split at h
    · rcases List.mem_cons.mp h with e | e
      · exact .inl e
      · exact .inr (List.mem_cons_of_mem _ e)
    · split at h
      · rcases List.mem_cons.mp h with e | e
        · exact .inl e
        · exact .inr e
      · rcases List.mem_cons.mp h with e | e
        · exact .inr (e ▸ List.mem_cons_self ..)
        · exact (ih e).imp id (List.mem_cons_of_mem _)

theorem twf_tset {α : Type} [DecidableEq α] (d : α) (t : Tab α) (k : Nat) (v : α) (h : twf d t = true) :
    twf d (tset d t k v) = true := by
  rw [twf_iff] at h ⊢
  refine ⟨tsorted_tset d t k v h.1, fun kv m => ?_⟩
  simp only [tset] at m
  split at m
  · exact h.2 kv (mem_terase t k m)
  · next ne =>
    rcases mem_tput t k v m with e | e
    · exact e ▸ ne
    · exact h.2 kv e

theorem twf_filter {α : Type} [DecidableEq α] (d : α) (t : Tab α) (p : Nat × α → Bool) (h : twf d t = true) :
    twf d (t.filter p) = true := by
  rw [twf_iff] at h ⊢
  exact ⟨tsorted_filter none t p h.1, fun kv m => h.2 kv (List.mem_filter.mp m).1⟩

theorem twf_tclear {α : Type} [DecidableEq α] (d : α) (t : Tab α) (lo hi : Nat) (h : twf d t = true) :
    twf d (tclear t lo hi) = true := twf_filter d t _ h

theorem tsorted_tclear {α : Type} (t : Tab α) (lo hi : Nat) (h : tsorted none t = true) :
    tsorted none (tclear t lo hi) = true := tsorted_filter none t _ h

/-! ### Reading after writing -/

theorem tget_above {α : Type} (d : α) (t : Tab α) (k n : Nat) (h : tsorted (some n) t = true) (hk : k ≤ n) :
    tget d t k = d := by
  cases t with
  | nil => rfl
  | cons kv t =>
    simp only [tsorted_cons, Option.some.injEq, forall_eq'] at h
    simp only [tget]
    rw [if_neg (by omega), if_pos (by omega)]

theorem tget_tput {α : Type} (d : α) (b : Option Nat) (t : Tab α) (k j : Nat) (v : α) (h : tsorted b t = true) :
    tget d (tput t k v) j = if j = k then v else tget d t j := by
  induction t generalizing b with
  | nil =>
    simp only [tput, tget]
    split
    · rfl
    · split <;> rfl
  | cons kv t ih =>
    simp only [tsorted_cons] at h
    simp only [tput]
    by_cases hk : k = kv.1
    · rw [if_pos hk]
      subst hk
      simp only [tget]
      by_cases hj : j = kv.1 <;> simp [hj]
    · rw [if_neg hk]
      by_cases lt : k < kv.1
      · rw [if_pos lt]
        by_cases hj : j = k
        · subst hj; simp [tget]
        · by_cases jk : j < k
          · have h1 : ¬ j = kv.1 := by omega
            have h2 : j < kv.1 := by omega
            simp [tget, hj, jk, h1, h2]
          · simp [tget, hj, jk]
      · rw [if_neg lt]
        simp only [tget]
        by_cases hj : j = kv.1
        · rw [if_pos hj, if_pos hj, if_neg (by omega)]
        · rw [if_neg hj, if_neg hj]
          by_cases jl : j < kv.1
          · rw [if_pos jl, if_pos jl, if_neg (by omega)]
          · rw [if_neg jl, if_neg jl]
            exact ih _ h.2

theorem tget_terase {α : Type} (d : α) (b : Option Nat) (t : Tab α) (k j : Nat) (h : tsorted b t = true) :
    tget d (terase t k) j = if j = k then d else tget d t j := by
  induction t generalizing b with
  | nil => simp [terase, tget]
  | cons kv t ih =>
    simp only [tsorted_cons] at h
    simp only [terase]
    by_cases hk : k = kv.1
    · rw [if_pos hk]
      subst hk
      simp only [tget]
      by_cases hj : j = kv.1
      · simp [hj, tget_above d t kv.1 kv.1 h.2 (Nat.le_refl _)]
      · rw [if_neg hj, if_neg hj]
        by_cases jl : j < kv.1
        · rw [if_pos jl]; exact tget_above d t j kv.1 h.2 (by omega)
        · rw [if_neg jl]
    · rw [if_neg hk]
      by_cases lt : k < kv.1
      · rw [if_pos lt]
        by_cases hj : j = k
        · subst hj; simp [tget, hk, lt]
        · simp [hj]
      · rw [if_neg lt]
        simp only [tget]
        by_cases hj : j = kv.1
        · rw [if_pos hj, if_pos hj, if_neg (by omega)]
        · rw [if_neg hj, if_neg hj]
          by_cases jl : j < kv.1
          · rw [if_pos jl, if_pos jl, if_neg (by omega)]
          · rw [if_neg jl, if_neg jl]
            exact ih _ h.2

/-- A read after a write: the value written at its key, the value before at every other. -/
theorem tget_tset {α : Type} [DecidableEq α] (d : α) (t : Tab α) (k j : Nat) (v : α) (h : tsorted none t = true) :
    tget d (tset d t k v) j = if j = k then v else tget d t j := by
  simp only [tset]
  split
  · next e => rw [tget_terase d none t k j h, e]
  · exact tget_tput d none t k j v h

/-! ### Memories -/

theorem memWf_nil : memWf [] = true := rfl

theorem memWf_sorted {m : List Host.Cell} (h : memWf m = true) : tsorted none m = true := ((twf_iff _ _).mp h).1

theorem memWf_memWrite (m : List Host.Cell) (a : Nat) (b : Byte) (h : memWf m = true) : memWf (memWrite m a b) = true :=
  twf_tset 0 m a b h

theorem memWf_memWrites (m : List Host.Cell) (a : Nat) (bs : Bytes) (h : memWf m = true) :
    memWf (memWrites m a bs) = true := by
  induction bs generalizing m a with
  | nil => exact h
  | cons b bs ih => exact ih _ _ (memWf_memWrite m a b h)

theorem memWf_tclear (m : List Host.Cell) (lo hi : Nat) (h : memWf m = true) : memWf (tclear m lo hi) = true :=
  twf_tclear 0 m lo hi h

theorem memWf_filter (m : List Host.Cell) (p : Host.Cell → Bool) (h : memWf m = true) : memWf (m.filter p) = true :=
  twf_filter 0 m p h

/-- A byte read after a byte written. -/
theorem memRead_memWrite (m : List Host.Cell) (a j : Nat) (b : Byte) (h : memWf m = true) :
    memRead (memWrite m a b) j = if j = a then b else memRead m j := tget_tset 0 m a j b (memWf_sorted h)

/-- A byte outside the bytes written reads as before. -/
theorem memRead_memWrites_of_not_mem (m : List Host.Cell) (a j : Nat) (bs : Bytes) (h : memWf m = true)
    (out : j < a ∨ a + bs.length ≤ j) : memRead (memWrites m a bs) j = memRead m j := by
  induction bs generalizing m a with
  | nil => rfl
  | cons b bs ih =>
    simp only [List.length_cons] at out
    rw [memWrites, ih _ _ (memWf_memWrite m a b h) (by omega), memRead_memWrite m a j b h, if_neg (by omega)]

end Sys2Proof.Machine
end

