-- ==== Sys2Proof/Laws/Ops.lean ====
section
/-! SUPPORT. What the operations of Ops can change: one frame each. -/

namespace Sys2Proof.Machine

theorem State.at_frame (a0) (a1) :
    Frame [.uptime] a0 (State.at a0 a1) := by
  unfold State.at
  refine Frame.set_uptime _ rfl (Nat.le_max_left ..) ?_
  exact Frame.refl _ _

theorem State.fresh_frame (a0) :
    Frame [.free] a0 (State.fresh a0).2 := by
  unfold State.fresh
  refine Frame.set_free _ rfl ?_
  exact Frame.refl _ _

theorem State.emit_frame (a0) (a1) :
    Frame [.out] a0 (State.emit a0 a1) := by
  unfold State.emit
  refine Frame.set_out _ rfl ?_
  exact Frame.refl _ _

theorem State.dset_frame (a0) (a1) (a2) (a3) (a4) :
    Frame [.entries] a0 (State.dset a0 a1 a2 a3 a4) := by
  unfold State.dset
  refine Frame.set_dict _ rfl (tsorted_tset _ _ _ _) ?_
  exact Frame.refl _ _

theorem State.cset_frame (a0) (a1) (a2) (a3) (a4) :
    Frame [.ctxEntries] a0 (State.cset a0 a1 a2 a3 a4) := by
  unfold State.cset
  refine Frame.ite ?_ ?_
  · refine Frame.set_cdict _ rfl (tsorted_tset _ _ _ _) ?_
    exact Frame.refl _ _
  · exact Frame.refl _ _

theorem State.dbump_frame (a0) (a1) (a2) (a3) (a4) (a5) :
    Frame [.free, .entries] a0 (State.dbump a0 a1 a2 a3 a4 a5) := by
  unfold State.dbump
  refine Frame.ite ?_ ?_
  · refine Frame.step (State.dset_frame ..) rfl ?_
    exact Frame.refl _ _
  · refine Frame.step (State.dset_frame ..) rfl ?_
    refine Frame.step (State.fresh_frame ..) rfl ?_
    exact Frame.refl _ _

theorem State.cbump_frame (a0) (a1) (a2) (a3) (a4) (a5) :
    Frame [.free, .ctxEntries] a0 (State.cbump a0 a1 a2 a3 a4 a5) := by
  unfold State.cbump
  refine Frame.ite ?_ ?_
  · refine Frame.ite ?_ ?_
    · refine Frame.step (State.cset_frame ..) rfl ?_
      exact Frame.refl _ _
    · refine Frame.step (State.cset_frame ..) rfl ?_
      refine Frame.step (State.fresh_frame ..) rfl ?_
      exact Frame.refl _ _
  · exact Frame.refl _ _

theorem State.cput_frame (a0) (a1) (a2) (a3) (a4) (a5) :
    Frame [.free, .ctxEntries] a0 (State.cput a0 a1 a2 a3 a4 a5) := by
  unfold State.cput
  refine Frame.ite ?_ ?_
  · refine Frame.step (State.cset_frame ..) rfl ?_
    exact Frame.refl _ _
  · refine Frame.step (State.cset_frame ..) rfl ?_
    refine Frame.step (State.fresh_frame ..) rfl ?_
    exact Frame.refl _ _

theorem State.dput_frame (a0) (a1) (a2) (a3) (a4) (a5) :
    Frame [.free, .entries] a0 (State.dput a0 a1 a2 a3 a4 a5) := by
  unfold State.dput
  refine Frame.ite ?_ ?_
  · refine Frame.step (State.dset_frame ..) rfl ?_
    exact Frame.refl _ _
  · refine Frame.step (State.dset_frame ..) rfl ?_
    refine Frame.step (State.fresh_frame ..) rfl ?_
    exact Frame.refl _ _

theorem State.interrupt_frame (a0) (a1) (a2) :
    Frame [.out, .msix] a0 (State.interrupt a0 a1 a2) := by
  unfold State.interrupt
  refine Frame.ite ?_ ?_
  · refine Frame.set_hif _ (.inr rfl) (.inr rfl) (.inl rfl) (.inr rfl) (.inr rfl) ?_
    exact Frame.refl _ _
  · refine Frame.step (State.emit_frame ..) rfl ?_
    exact Frame.refl _ _

theorem State.perturbed_frame (a0) (a1) (a2) (a3) (a4) (a5) :
    Frame [.free, .entries, .health] a0 (State.perturbed a0 a1 a2 a3 a4 a5).1 := by
  unfold State.perturbed
  refine Frame.ite_of Prod.fst ?_ ?_
  · exact Frame.refl _ _
  · refine Frame.foldl_of Prod.fst _ (fun _ _ => ?_) ?_
    · refine Frame.ite_of Prod.fst ?_ ?_
      · refine Frame.step (State.dbump_frame ..) rfl ?_
        refine Frame.set_health _ rfl ?_
        exact Frame.refl _ _
      · exact Frame.refl _ _
    · exact Frame.refl _ _

theorem State.event_frame (a0) (a1) (a2) (a3) (a4) :
    Frame [.free, .out, .entries, .msix, .health] a0 (State.event a0 a1 a2 a3 a4) := by
  unfold State.event
  refine Frame.ite ?_ ?_
  · refine Frame.step (State.interrupt_frame ..) rfl ?_
    refine Frame.ite ?_ ?_
    · refine Frame.step (State.dbump_frame ..) rfl ?_
      refine Frame.step (State.dbump_frame ..) rfl ?_
      refine Frame.step (State.dset_frame ..) rfl ?_
      refine Frame.set_health _ rfl ?_
      exact Frame.refl _ _
    · refine Frame.step (State.dbump_frame ..) rfl ?_
      refine Frame.step (State.dset_frame ..) rfl ?_
      refine Frame.set_health _ rfl ?_
      exact Frame.refl _ _
  · refine Frame.ite ?_ ?_
    · refine Frame.step (State.dbump_frame ..) rfl ?_
      refine Frame.step (State.dbump_frame ..) rfl ?_
      refine Frame.step (State.dset_frame ..) rfl ?_
      refine Frame.set_health _ rfl ?_
      exact Frame.refl _ _
    · refine Frame.step (State.dbump_frame ..) rfl ?_
      refine Frame.step (State.dset_frame ..) rfl ?_
      refine Frame.set_health _ rfl ?_
      exact Frame.refl _ _

end Sys2Proof.Machine
end

