-- ==== Sys2Proof/Laws/Memory.lean ====
section
/-! SUPPORT. What the operations of Memory can change: one frame each. -/

namespace Sys2Proof.Machine

theorem State.setRegion_frame (a0) (a1) (a2) :
    Frame [.near] a0 (State.setRegion a0 a1 a2) := by
  unfold State.setRegion
  refine Frame.set_near _ id (.inr rfl) (.inl rfl) ?_
  exact Frame.refl _ _

theorem State.touchNear_frame (a0) (a1) :
    Frame [.entries, .power] a0 (State.touchNear a0 a1) := by
  unfold State.touchNear
  dsimp only
  refine Frame.ite ?_ ?_
  · refine Frame.step (State.dset_frame ..) rfl ?_
    refine Frame.ite ?_ ?_
    · refine Frame.step (State.dset_frame ..) rfl ?_
      refine Frame.set_power _ rfl ?_
      exact Frame.refl _ _
    · refine Frame.set_power _ rfl ?_
      exact Frame.refl _ _
  · refine Frame.ite ?_ ?_
    · refine Frame.step (State.dset_frame ..) rfl ?_
      refine Frame.set_power _ rfl ?_
      exact Frame.refl _ _
    · refine Frame.set_power _ rfl ?_
      exact Frame.refl _ _

theorem State.touchBulk_frame (a0) (a1) :
    Frame [.entries, .bulk] a0 (State.touchBulk a0 a1) := by
  unfold State.touchBulk
  refine Frame.ite ?_ ?_
  · refine Frame.step (State.dset_frame ..) rfl ?_
    refine Frame.set_bulk _ id (.inr rfl) (.inl rfl) ?_
    exact Frame.refl _ _
  · refine Frame.set_bulk _ id (.inr rfl) (.inl rfl) ?_
    exact Frame.refl _ _

theorem State.touchWalk_frame (a0) (a1) (a2) :
    Frame [.entries, .bulk] a0 (State.touchWalk a0 a1 a2) := by
  unfold State.touchWalk
  refine Frame.foldl _ (fun _ _ => ?_) ?_
  · refine Frame.step (State.touchBulk_frame ..) rfl ?_
    exact Frame.refl _ _
  · exact Frame.refl _ _

theorem State.cacheWalk_frame (a0) (a1) (a2) (a3) (a4) :
    Frame [.bulk] a0 (State.cacheWalk a0 a1 a2 a3 a4) := by
  unfold State.cacheWalk
  dsimp only
  refine Frame.set_bulk _ id (.inr rfl) (.inl rfl) ?_
  exact Frame.refl _ _

theorem State.takePage_frame (a0) (a1) (a2) :
    Frame [.bulk] a0 (State.takePage a0 a1 a2) := by
  unfold State.takePage
  dsimp only
  refine Frame.set_bulk _ id (.inr rfl) (.inl rfl) ?_
  exact Frame.refl _ _

theorem State.translateBulk_frame (a0) (a1) (a2) (a3) :
    Frame [.entries, .bulk] a0 (State.translateBulk a0 a1 a2 a3) := by
  unfold State.translateBulk
  dsimp only
  split
  · refine Frame.ite ?_ ?_
    · exact Frame.refl _ _
    · refine Frame.ite ?_ ?_
      · refine Frame.step (State.takePage_frame ..) rfl ?_
        exact Frame.refl _ _
      · refine Frame.step (State.cacheWalk_frame ..) rfl ?_
        refine Frame.step (State.touchWalk_frame ..) rfl ?_
        exact Frame.refl _ _
  · refine Frame.step (State.touchWalk_frame ..) rfl ?_
    exact Frame.refl _ _

theorem State.cachePage_frame (a0) (a1) (a2) (a3) :
    Frame [.entries, .bulk] a0 (State.cachePage a0 a1 a2 a3) := by
  unfold State.cachePage
  split
  · refine Frame.step (State.touchBulk_frame ..) rfl ?_
    refine Frame.step (State.translateBulk_frame ..) rfl ?_
    exact Frame.refl _ _
  · refine Frame.step (State.translateBulk_frame ..) rfl ?_
    exact Frame.refl _ _

theorem State.cacheRegion_frame (a0) (a1) (a2) (a3) :
    Frame [.bulk] a0 (State.cacheRegion a0 a1 a2 a3) := by
  unfold State.cacheRegion
  dsimp only
  refine Frame.set_bulk _ id (.inr rfl) (.inl rfl) ?_
  exact Frame.refl _ _

theorem State.dropRegion_frame (a0) (a1) :
    Frame [.bulk] a0 (State.dropRegion a0 a1) := by
  unfold State.dropRegion
  refine Frame.set_bulk _ id (.inr rfl) (.inl rfl) ?_
  exact Frame.refl _ _

theorem State.cacheHost_frame (a0) (a1) (a2) :
    Frame [.bulk] a0 (State.cacheHost a0 a1 a2) := by
  unfold State.cacheHost
  dsimp only
  split
  · refine Frame.set_bulk _ id (.inr rfl) (.inl rfl) ?_
    exact Frame.refl _ _
  · refine Frame.set_bulk _ id (.inr rfl) (.inl rfl) ?_
    exact Frame.refl _ _
  · exact Frame.refl _ _

theorem State.translatePage_frame (a0) (a1) (a2) (a3) :
    Frame [.entries, .bulk] a0 (State.translatePage a0 a1 a2 a3) := by
  unfold State.translatePage
  split
  · refine Frame.step (State.cacheRegion_frame ..) rfl ?_
    exact Frame.refl _ _
  · refine Frame.step (State.translateBulk_frame ..) rfl ?_
    exact Frame.refl _ _
  · refine Frame.step (State.cacheHost_frame ..) rfl ?_
    exact Frame.refl _ _
  · exact Frame.refl _ _

theorem State.cacheNear_frame (a0) (a1) (a2) (a3) :
    Frame [.entries, .bulk, .power] a0 (State.cacheNear a0 a1 a2 a3) := by
  unfold State.cacheNear
  split
  · refine Frame.step (State.cacheRegion_frame ..) rfl ?_
    refine Frame.step (State.touchNear_frame ..) rfl ?_
    exact Frame.refl _ _
  · refine Frame.step (State.cacheRegion_frame ..) rfl ?_
    exact Frame.refl _ _

theorem State.accessPage_frame (a0) (a1) (a2) (a3) :
    Frame [.entries, .bulk, .power] a0 (State.accessPage a0 a1 a2 a3) := by
  unfold State.accessPage
  split
  · refine Frame.step (State.cacheNear_frame ..) rfl ?_
    exact Frame.refl _ _
  · refine Frame.step (State.cachePage_frame ..) rfl ?_
    exact Frame.refl _ _
  · refine Frame.step (State.cacheHost_frame ..) rfl ?_
    exact Frame.refl _ _
  · exact Frame.refl _ _

theorem State.accessed_frame (a0) (a1) (a2) (a3) (a4) :
    Frame [.entries, .bulk, .power] a0 (State.accessed a0 a1 a2 a3 a4) := by
  unfold State.accessed
  refine Frame.foldl _ (fun _ _ => ?_) ?_
  · refine Frame.step (State.accessPage_frame ..) rfl ?_
    exact Frame.refl _ _
  · exact Frame.refl _ _

theorem State.ownView_frame (a0) (a1) :
    Frame [.host, .near, .bulk] a0 (State.ownView a0 a1) := by
  unfold State.ownView
  dsimp only
  refine Frame.set_hostUncommitted_near_bulk _ _ _ rfl id (.inr rfl) (.inl rfl) id (.inr rfl) (.inl rfl) ?_
  exact Frame.refl _ _

theorem State.uncurrent_frame (a0) (a1) (a2) :
    Frame [.near] a0 (State.uncurrent a0 a1 a2) := by
  unfold State.uncurrent
  refine Frame.ite ?_ ?_
  · refine Frame.set_near _ id (.inr rfl) (.inl rfl) ?_
    exact Frame.refl _ _
  · exact Frame.refl _ _

theorem State.nearWrite_frame (a0) (a1) (a2) (a3) (a4) (a5) :
    Frame [.near, .nearMem] a0 (State.nearWrite a0 a1 a2 a3 a4 a5) := by
  unfold State.nearWrite
  refine Frame.step (State.uncurrent_frame ..) rfl ?_
  refine Frame.set_near _ (memWf_memWrite _ _ _) (.inl rfl) (.inl rfl) ?_
  exact Frame.refl _ _

theorem State.zeroRegion_frame (a0) (a1) :
    Frame [.near, .nearMem] a0 (State.zeroRegion a0 a1) := by
  unfold State.zeroRegion
  refine Frame.set_near _ (memWf_tclear _ _ _) (.inl rfl) (.inl rfl) ?_
  exact Frame.refl _ _

theorem State.bulkWrite_frame (a0) (a1) (a2) (a3) (a4) (a5) :
    Frame [.bulk, .bulkMem] a0 (State.bulkWrite a0 a1 a2 a3 a4 a5) := by
  unfold State.bulkWrite
  refine Frame.set_bulk _ (memWf_memWrite _ _ _) (.inl rfl) (.inl rfl) ?_
  exact Frame.refl _ _

theorem State.placeWrite_frame (a0) (a1) (a2) (a3) (a4) (a5) (a6) (a7) (a8) :
    Frame [.entries, .host, .near, .nearMem, .bulk, .bulkMem, .power] a0 (State.placeWrite a0 a1 a2 a3 a4 a5 a6 a7 a8) := by
  unfold State.placeWrite
  split
  · refine Frame.step (State.cacheNear_frame ..) rfl ?_
    refine Frame.step (State.nearWrite_frame ..) rfl ?_
    exact Frame.refl _ _
  · refine Frame.step (State.cachePage_frame ..) rfl ?_
    refine Frame.step (State.bulkWrite_frame ..) rfl ?_
    exact Frame.refl _ _
  · refine Frame.step (State.cacheHost_frame ..) rfl ?_
    refine Frame.set_host_hostUncommitted _ _ rfl (memWf_memWrite _ _ _) ?_
    exact Frame.refl _ _
  · exact Frame.refl _ _

theorem State.writeFrom_frame (s) (unit) (c) (who) (va0) (n) (va) (bs) :
    Frame [.entries, .host, .near, .nearMem, .bulk, .bulkMem, .power] s (State.writeFrom s unit c who va0 n va bs).1 := by
  induction bs generalizing s va with
  | nil => exact Frame.refl _ _
  | cons b bs ih =>
    unfold State.writeFrom
    split
    · exact (Frame.mono (State.placeWrite_frame ..) rfl).trans (ih ..)
    · exact Frame.refl _ _
    · exact Frame.refl _ _

theorem State.writesBy_frame (a0) (a1) (a2) (a3) (a4) (a5) :
    Frame [.entries, .host, .near, .nearMem, .bulk, .bulkMem, .power] a0 (State.writesBy a0 a1 a2 a3 a4 a5).1 := by
  unfold State.writesBy
  refine Frame.step (State.writeFrom_frame ..) rfl ?_
  exact Frame.refl _ _

theorem State.writes_frame (a0) (a1) (a2) (a3) (a4) :
    Frame [.entries, .host, .near, .nearMem, .bulk, .bulkMem, .power] a0 (State.writes a0 a1 a2 a3 a4).1 := by
  unfold State.writes
  refine Frame.step (State.writesBy_frame ..) rfl ?_
  exact Frame.refl _ _

theorem State.hostWrite_frame (a0) (a1) (a2) (a3) :
    Frame [.entries, .host, .near, .nearMem, .bulk, .bulkMem, .power] a0 (State.hostWrite a0 a1 a2 a3).1 := by
  unfold State.hostWrite
  refine Frame.step (State.writes_frame ..) rfl ?_
  exact Frame.refl _ _

theorem State.reportAer_frame (a0) (a1) (a2) :
    Frame [.free, .out, .entries] a0 (State.reportAer a0 a1 a2) := by
  unfold State.reportAer
  dsimp only
  refine Frame.ite ?_ ?_
  · refine Frame.step (State.dbump_frame ..) rfl ?_
    refine Frame.step (State.emit_frame ..) rfl ?_
    exact Frame.refl _ _
  · refine Frame.step (State.emit_frame ..) rfl ?_
    exact Frame.refl _ _

theorem State.noteMiss_frame (a0) (a1) (a2) :
    Frame [.free, .out, .entries, .ctxEntries] a0 (State.noteMiss a0 a1 a2) := by
  unfold State.noteMiss
  refine Frame.ite ?_ ?_
  · refine Frame.step (State.cset_frame ..) rfl ?_
    refine Frame.step (State.cbump_frame ..) rfl ?_
    exact Frame.refl _ _
  · refine Frame.ite ?_ ?_
    · refine Frame.step (State.reportAer_frame ..) rfl ?_
      refine Frame.step (State.fresh_frame ..) rfl ?_
      exact Frame.refl _ _
    · exact Frame.refl _ _

theorem State.noteDamage_frame (a0) (a1) (a2) :
    Frame [.free, .ctxEntries] a0 (State.noteDamage a0 a1 a2) := by
  unfold State.noteDamage
  split
  · refine Frame.step (State.cbump_frame ..) rfl ?_
    exact Frame.refl _ _
  · refine Frame.step (State.cbump_frame ..) rfl ?_
    exact Frame.refl _ _
  · exact Frame.refl _ _

theorem State.sliceWriteFrom_frame (s) (c) (who) (core) (off0) (n) (off) (bs) :
    Frame [.near, .nearMem] s (State.sliceWriteFrom s c who core off0 n off bs) := by
  induction bs generalizing s off with
  | nil => exact Frame.refl _ _
  | cons b bs ih =>
    unfold State.sliceWriteFrom
    exact (Frame.ite (Frame.mono (State.nearWrite_frame ..) rfl) (Frame.refl _ _)).trans (ih ..)

theorem State.sliceWrite_frame (a0) (a1) (a2) (a3) (a4) (a5) :
    Frame [.near, .nearMem] a0 (State.sliceWrite a0 a1 a2 a3 a4 a5) := by
  unfold State.sliceWrite
  refine Frame.step (State.sliceWriteFrom_frame ..) rfl ?_
  exact Frame.refl _ _

end Sys2Proof.Machine
end

