-- ==== Sys2Proof/Laws/Rings.lean ====
section
/-! SUPPORT. What the operations of Rings can change: one frame each. -/

namespace Sys2Proof.Machine

theorem State.setRing_frame (a0) (a1) (a2) :
    Frame [.rings] a0 (State.setRing a0 a1 a2) := by
  unfold State.setRing
  refine Frame.set_hif _ (.inl rfl) (.inr rfl) (.inr rfl) (.inr rfl) (.inr rfl) ?_
  exact Frame.refl _ _

theorem State.setLoop_frame (a0) (a1) (a2) :
    Frame [.loops] a0 (State.setLoop a0 a1 a2) := by
  unfold State.setLoop
  refine Frame.set_hif _ (.inr rfl) (.inl rfl) (.inr rfl) (.inr rfl) (.inr rfl) ?_
  exact Frame.refl _ _

theorem State.setPage_frame (a0) (a1) (a2) :
    Frame [.pages] a0 (State.setPage a0 a1 a2) := by
  unfold State.setPage
  refine Frame.set_hif _ (.inr rfl) (.inr rfl) (.inr rfl) (.inl rfl) (.inr rfl) ?_
  exact Frame.refl _ _

theorem State.ifHost_frame_k {g : List Zone} {r s : State} {f : Func} {w : State → State}
    (_sub : ([] : List Zone).all g.contains = true) (k : ∀ s, Frame g s (w s)) (h : Frame g r s) :
    Frame g r (s.ifHost f w) := by
  unfold State.ifHost
  exact Frame.ite (h.trans (k s)) h

theorem State.postEvent_frame (a0) (a1) (a2) (a3) (a4) :
    Frame [.free, .out, .entries, .ctxEntries, .host, .near, .nearMem, .bulk, .bulkMem, .msix, .pages, .power] a0 (State.postEvent a0 a1 a2 a3 a4) := by
  unfold State.postEvent
  dsimp only
  refine Frame.ite ?_ ?_
  · refine Frame.step (State.cbump_frame ..) rfl ?_
    exact Frame.refl _ _
  · split
    · refine Frame.step (State.cbump_frame ..) rfl ?_
      refine Frame.step (State.setPage_frame ..) rfl ?_
      exact Frame.refl _ _
    · refine Frame.step (State.interrupt_frame ..) rfl ?_
      refine Frame.step (State.setPage_frame ..) rfl ?_
      refine Frame.step (Frame.of_fst (State.writes_frame ..) (by assumption)) rfl ?_
      exact Frame.refl _ _

theorem State.writeCompletion_frame (a0) (a1) (a2) (a3) (a4) (a5) (a6) (a7) (a8) (a9) (a10) :
    Frame [.free, .out, .entries, .ctxEntries, .host, .near, .nearMem, .bulk, .bulkMem, .rings, .msix, .pages, .health, .power] a0 (State.writeCompletion a0 a1 a2 a3 a4 a5 a6 a7 a8 a9 a10) := by
  unfold State.writeCompletion
  dsimp only
  refine Frame.ite ?_ ?_
  · exact Frame.refl _ _
  · split
    · refine Frame.step (State.postEvent_frame ..) rfl ?_
      refine Frame.step (State.reportAer_frame ..) rfl ?_
      refine Frame.step (State.setRing_frame ..) rfl ?_
      refine Frame.step (State.fresh_frame ..) rfl ?_
      exact Frame.refl _ _
    · refine Frame.ite ?_ ?_
      · refine Frame.ite ?_ ?_
        · refine Frame.step (State.cbump_frame ..) rfl ?_
          refine Frame.step (State.perturbed_frame ..) rfl ?_
          refine Frame.step (State.setRing_frame ..) rfl ?_
          refine Frame.step (Frame.of_fst (State.writes_frame ..) (by assumption)) rfl ?_
          exact Frame.refl _ _
        · refine Frame.step (State.cbump_frame ..) rfl ?_
          refine Frame.step (State.cbump_frame ..) rfl ?_
          refine Frame.step (State.perturbed_frame ..) rfl ?_
          refine Frame.step (State.setRing_frame ..) rfl ?_
          refine Frame.step (Frame.of_fst (State.writes_frame ..) (by assumption)) rfl ?_
          exact Frame.refl _ _
      · refine Frame.step (State.interrupt_frame ..) rfl ?_
        refine Frame.ite ?_ ?_
        · refine Frame.step (State.cbump_frame ..) rfl ?_
          refine Frame.step (State.perturbed_frame ..) rfl ?_
          refine Frame.step (State.setRing_frame ..) rfl ?_
          refine Frame.step (Frame.of_fst (State.writes_frame ..) (by assumption)) rfl ?_
          exact Frame.refl _ _
        · refine Frame.step (State.cbump_frame ..) rfl ?_
          refine Frame.step (State.cbump_frame ..) rfl ?_
          refine Frame.step (State.perturbed_frame ..) rfl ?_
          refine Frame.step (State.setRing_frame ..) rfl ?_
          refine Frame.step (Frame.of_fst (State.writes_frame ..) (by assumption)) rfl ?_
          exact Frame.refl _ _

theorem State.dropCmd_frame (a0) (a1) :
    Frame [.cmds] a0 (State.dropCmd a0 a1) := by
  unfold State.dropCmd
  refine Frame.set_cmds _ rfl ?_
  exact Frame.refl _ _

theorem State.setCmd_frame (a0) (a1) :
    Frame [.cmds] a0 (State.setCmd a0 a1) := by
  unfold State.setCmd
  refine Frame.set_cmds _ rfl ?_
  exact Frame.refl _ _

theorem State.finish_frame (a0) (a1) (a2) (a3) (a4) (a5) :
    Frame [.free, .out, .entries, .ctxEntries, .host, .near, .nearMem, .bulk, .bulkMem, .rings, .msix, .pages, .cmds, .health, .power] a0 (State.finish a0 a1 a2 a3 a4 a5) := by
  unfold State.finish
  refine Frame.step (State.dropCmd_frame ..) rfl ?_
  refine Frame.step (State.writeCompletion_frame ..) rfl ?_
  exact Frame.refl _ _

theorem settleFences_frame (n) (s) :
    Frame [.free, .out, .entries, .ctxEntries, .host, .near, .nearMem, .bulk, .bulkMem, .rings, .msix, .pages, .cmds, .health, .power] s
      (settleFences n s) := by
  induction n generalizing s with
  | zero => exact Frame.refl _ _
  | succ n ih =>
    unfold settleFences
    split
    · exact Frame.refl _ _
    · exact (Frame.mono (State.finish_frame ..) rfl).trans (ih ..)

theorem State.complete_frame (a0) (a1) (a2) (a3) (a4) (a5) :
    Frame [.free, .out, .entries, .ctxEntries, .host, .near, .nearMem, .bulk, .bulkMem, .rings, .msix, .pages, .cmds, .health, .power] a0 (State.complete a0 a1 a2 a3 a4 a5) := by
  unfold State.complete
  dsimp only
  refine Frame.step (settleFences_frame ..) rfl ?_
  refine Frame.step (State.finish_frame ..) rfl ?_
  exact Frame.refl _ _

theorem settleWaits_frame (k) (n) (s) :
    Frame [.free, .out, .entries, .ctxEntries, .host, .near, .nearMem, .bulk, .bulkMem, .rings, .msix, .pages, .cmds, .health, .power] s
      (settleWaits k n s) := by
  induction k generalizing s with
  | zero => exact Frame.refl _ _
  | succ k ih =>
    unfold settleWaits
    split
    · exact Frame.refl _ _
    · exact (Frame.mono (State.complete_frame ..) rfl).trans (ih ..)

theorem State.setCounter_frame (a0) (a1) (a2) :
    Frame [.free, .out, .entries, .ctxEntries, .host, .near, .nearMem, .bulk, .bulkMem, .rings, .msix, .pages, .counters, .cmds, .health, .power] a0 (State.setCounter a0 a1 a2) := by
  unfold State.setCounter
  dsimp only
  refine Frame.step (settleWaits_frame ..) rfl ?_
  refine Frame.set_counters _ rfl (twf_tset _ _ _ _) ?_
  exact Frame.refl _ _

theorem State.applySignal_frame (a0) (a1) (a2) (a3) :
    Frame [.free, .out, .entries, .ctxEntries, .host, .near, .nearMem, .bulk, .bulkMem, .rings, .msix, .pages, .counters, .cmds, .health, .power] a0 (State.applySignal a0 a1 a2 a3) := by
  unfold State.applySignal
  refine Frame.step (State.setCounter_frame ..) rfl ?_
  exact Frame.refl _ _

theorem State.settleLanes_frame (a0) :
    Frame [.serve] a0 (State.settleLanes a0) := by
  unfold State.settleLanes
  refine Frame.set_serve _ rfl ?_
  exact Frame.refl _ _

theorem State.fetch_frame (a0) (a1) :
    Frame [.free, .out, .entries, .ctxEntries, .host, .near, .nearMem, .bulk, .bulkMem, .hif, .rings, .msix, .pages, .cmds, .serve, .health, .power] a0 (State.fetch a0 a1) := by
  unfold State.fetch
  dsimp only
  split
  · refine Frame.ite ?_ ?_
    · refine Frame.step (State.complete_frame ..) rfl ?_
      refine Frame.ite ?_ ?_
      · refine Frame.step (State.dset_frame ..) rfl ?_
        refine Frame.set_cmds_nextCmd _ _ rfl ?_
        refine Frame.step (State.setRing_frame ..) rfl ?_
        refine Frame.step (State.settleLanes_frame ..) rfl ?_
        refine Frame.step (State.accessed_frame ..) rfl ?_
        refine Frame.set_hif _ (.inr rfl) (.inr rfl) (.inr rfl) (.inr rfl) (.inl rfl) ?_
        exact Frame.refl _ _
      · refine Frame.set_cmds_nextCmd _ _ rfl ?_
        refine Frame.step (State.setRing_frame ..) rfl ?_
        refine Frame.step (State.settleLanes_frame ..) rfl ?_
        refine Frame.step (State.accessed_frame ..) rfl ?_
        refine Frame.set_hif _ (.inr rfl) (.inr rfl) (.inr rfl) (.inr rfl) (.inl rfl) ?_
        exact Frame.refl _ _
    · split
      · refine Frame.step (State.complete_frame ..) rfl ?_
        refine Frame.ite ?_ ?_
        · refine Frame.step (State.dset_frame ..) rfl ?_
          refine Frame.set_cmds_nextCmd _ _ rfl ?_
          refine Frame.step (State.setRing_frame ..) rfl ?_
          refine Frame.step (State.settleLanes_frame ..) rfl ?_
          refine Frame.step (State.accessed_frame ..) rfl ?_
          refine Frame.set_hif _ (.inr rfl) (.inr rfl) (.inr rfl) (.inr rfl) (.inl rfl) ?_
          exact Frame.refl _ _
        · refine Frame.set_cmds_nextCmd _ _ rfl ?_
          refine Frame.step (State.setRing_frame ..) rfl ?_
          refine Frame.step (State.settleLanes_frame ..) rfl ?_
          refine Frame.step (State.accessed_frame ..) rfl ?_
          refine Frame.set_hif _ (.inr rfl) (.inr rfl) (.inr rfl) (.inr rfl) (.inl rfl) ?_
          exact Frame.refl _ _
      · refine Frame.ite ?_ ?_
        · refine Frame.step (State.dset_frame ..) rfl ?_
          refine Frame.set_cmds_nextCmd _ _ rfl ?_
          refine Frame.step (State.setRing_frame ..) rfl ?_
          refine Frame.step (State.settleLanes_frame ..) rfl ?_
          refine Frame.step (State.accessed_frame ..) rfl ?_
          refine Frame.set_hif _ (.inr rfl) (.inr rfl) (.inr rfl) (.inr rfl) (.inl rfl) ?_
          exact Frame.refl _ _
        · refine Frame.set_cmds_nextCmd _ _ rfl ?_
          refine Frame.step (State.setRing_frame ..) rfl ?_
          refine Frame.step (State.settleLanes_frame ..) rfl ?_
          refine Frame.step (State.accessed_frame ..) rfl ?_
          refine Frame.set_hif _ (.inr rfl) (.inr rfl) (.inr rfl) (.inr rfl) (.inl rfl) ?_
          exact Frame.refl _ _
  · refine Frame.step (State.writeCompletion_frame ..) rfl ?_
    refine Frame.step (State.setRing_frame ..) rfl ?_
    refine Frame.step (State.noteMiss_frame ..) rfl ?_
    refine Frame.set_hif _ (.inr rfl) (.inr rfl) (.inr rfl) (.inr rfl) (.inl rfl) ?_
    exact Frame.refl _ _
  · refine Frame.step (State.writeCompletion_frame ..) rfl ?_
    refine Frame.step (State.setRing_frame ..) rfl ?_
    refine Frame.set_hif _ (.inr rfl) (.inr rfl) (.inr rfl) (.inr rfl) (.inl rfl) ?_
    exact Frame.refl _ _

theorem execCommandFetch_frame {a0} {a1} {t : State} (h : execCommandFetch a0 a1 = .next t) :
    Frame [.free, .out, .entries, .ctxEntries, .host, .near, .nearMem, .bulk, .bulkMem, .hif, .rings, .msix, .pages, .cmds, .serve, .health, .power] a1 t := by
  cases h
  refine Frame.ite ?_ ?_
  · refine Frame.step (State.fetch_frame ..) rfl ?_
    exact Frame.refl _ _
  · exact Frame.refl _ _

theorem State.dropDoorbell_frame (a0) :
    Frame [.free, .entries] a0 (State.dropDoorbell a0) := by
  unfold State.dropDoorbell
  refine Frame.step (State.dbump_frame ..) rfl ?_
  exact Frame.refl _ _

theorem State.writeSqTail_frame (a0) (a1) (a2) :
    Frame [.free, .entries, .rings] a0 (State.writeSqTail a0 a1 a2) := by
  unfold State.writeSqTail
  refine Frame.ite ?_ ?_
  · refine Frame.step (State.dropDoorbell_frame ..) rfl ?_
    exact Frame.refl _ _
  · refine Frame.step (State.setRing_frame ..) rfl ?_
    exact Frame.refl _ _

theorem State.writeCqHead_frame (a0) (a1) (a2) :
    Frame [.free, .entries, .rings] a0 (State.writeCqHead a0 a1 a2) := by
  unfold State.writeCqHead
  refine Frame.ite ?_ ?_
  · refine Frame.step (State.dropDoorbell_frame ..) rfl ?_
    exact Frame.refl _ _
  · refine Frame.step (State.setRing_frame ..) rfl ?_
    exact Frame.refl _ _

theorem execSqTail_frame {a0} {a1} {a2} {a3} {t : State} (h : execSqTail a0 a1 a2 a3 = .next t) :
    Frame [.free, .entries, .rings] a3 t := by
  cases h
  refine State.ifHost_frame_k rfl (fun _ => ?_) ?_
  · split
    · exact Frame.refl _ _
    · refine Frame.step (State.writeSqTail_frame ..) rfl ?_
      exact Frame.refl _ _
  · exact Frame.refl _ _

theorem execCqHead_frame {a0} {a1} {a2} {a3} {t : State} (h : execCqHead a0 a1 a2 a3 = .next t) :
    Frame [.free, .entries, .rings] a3 t := by
  cases h
  refine State.ifHost_frame_k rfl (fun _ => ?_) ?_
  · split
    · exact Frame.refl _ _
    · refine Frame.step (State.writeCqHead_frame ..) rfl ?_
      exact Frame.refl _ _
  · exact Frame.refl _ _

theorem State.enableRing_frame (a0) (a1) (a2) (a3) :
    Frame [.rings] a0 (State.enableRing a0 a1 a2 a3) := by
  unfold State.enableRing
  refine Frame.ite ?_ ?_
  · exact Frame.refl _ _
  · refine Frame.ite ?_ ?_
    · refine Frame.step (State.setRing_frame ..) rfl ?_
      exact Frame.refl _ _
    · dsimp only
      split
      · refine Frame.step (State.setRing_frame ..) rfl ?_
        exact Frame.refl _ _
      · refine Frame.step (State.setRing_frame ..) rfl ?_
        exact Frame.refl _ _

theorem State.disableRing_frame (a0) (a1) :
    Frame [.rings, .loops] a0 (State.disableRing a0 a1) := by
  unfold State.disableRing
  refine Frame.step (State.setLoop_frame ..) rfl ?_
  refine Frame.step (State.setRing_frame ..) rfl ?_
  exact Frame.refl _ _

theorem execRingEnable_frame {a0} {a1} {a2} {a3} {t : State} (h : execRingEnable a0 a1 a2 a3 = .next t) :
    Frame [.rings] a3 t := by
  cases h
  refine State.ifHost_frame_k rfl (fun _ => ?_) ?_
  · refine Frame.step (State.enableRing_frame ..) rfl ?_
    exact Frame.refl _ _
  · exact Frame.refl _ _

theorem execRingDisable_frame {a0} {a1} {t : State} (h : execRingDisable a0 a1 = .next t) :
    Frame [.rings, .loops] a1 t := by
  cases h
  refine State.ifHost_frame_k rfl (fun _ => ?_) ?_
  · refine Frame.step (State.disableRing_frame ..) rfl ?_
    exact Frame.refl _ _
  · exact Frame.refl _ _

end Sys2Proof.Machine
end

