-- ==== Sys2Proof/Laws/Cadence.lean ====
section
/-! SUPPORT. What the operations of Cadence can change: one frame each. -/

namespace Sys2Proof.Machine

theorem State.holdTime_frame (a0) :
    Frame [.free, .cdu, .entries] a0 (State.holdTime a0) := by
  unfold State.holdTime
  refine Frame.ite ?_ ?_
  · refine Frame.set_cdu _ rfl ?_
    refine Frame.step (State.dbump_frame ..) rfl ?_
    exact Frame.refl _ _
  · exact Frame.refl _ _

theorem State.inputEvent_frame (a0) (a1) (a2) :
    Frame [.free, .cdu, .entries, .health] a0 (State.inputEvent a0 a1 a2) := by
  unfold State.inputEvent
  refine Frame.ite ?_ ?_
  · exact Frame.refl _ _
  · refine Frame.ite ?_ ?_
    · refine Frame.ite ?_ ?_
      · refine Frame.set_cdu _ rfl ?_
        refine Frame.step (State.perturbed_frame ..) rfl ?_
        exact Frame.refl _ _
      · refine Frame.step (State.dbump_frame ..) rfl ?_
        exact Frame.refl _ _
    · refine Frame.ite ?_ ?_
      · refine Frame.set_cdu _ rfl ?_
        refine Frame.step (State.holdTime_frame ..) rfl ?_
        exact Frame.refl _ _
      · refine Frame.set_cdu _ rfl ?_
        exact Frame.refl _ _

theorem execCadenceInputEvent_frame {a0} {a1} {a2} {t : State} (h : execCadenceInputEvent a0 a1 a2 = .next t) :
    Frame [.free, .uptime, .cdu, .entries, .health] a2 t := by
  cases h
  refine Frame.ite ?_ ?_
  · refine Frame.step (State.inputEvent_frame ..) rfl ?_
    refine Frame.step (State.at_frame ..) rfl ?_
    exact Frame.refl _ _
  · exact Frame.refl _ _

theorem execCadencePeriodMissing_frame {a0} {a1} {t : State} (h : execCadencePeriodMissing a0 a1 = .next t) :
    Frame [.free, .uptime, .cdu, .entries] a1 t := by
  cases h
  refine Frame.ite ?_ ?_
  · refine Frame.set_cdu _ rfl ?_
    refine Frame.step (State.dbump_frame ..) rfl ?_
    refine Frame.step (State.at_frame ..) rfl ?_
    exact Frame.refl _ _
  · exact Frame.refl _ _

theorem execHoldoverEntry_frame {a0} {a1} {t : State} (h : execHoldoverEntry a0 a1 = .next t) :
    Frame [.free, .out, .uptime, .cdu, .entries, .msix, .health] a1 t := by
  cases h
  refine Frame.ite ?_ ?_
  · refine Frame.step (State.event_frame ..) rfl ?_
    refine Frame.step (State.dbump_frame ..) rfl ?_
    refine Frame.set_cdu _ rfl ?_
    refine Frame.step (State.at_frame ..) rfl ?_
    exact Frame.refl _ _
  · exact Frame.refl _ _

theorem State.checkMark_frame (a0) (a1) :
    Frame [.free, .cdu, .entries] a0 (State.checkMark a0 a1) := by
  unfold State.checkMark
  refine Frame.ite ?_ ?_
  · refine Frame.set_cdu _ rfl ?_
    exact Frame.refl _ _
  · refine Frame.ite ?_ ?_
    · refine Frame.set_cdu _ rfl ?_
      refine Frame.step (State.dbump_frame ..) rfl ?_
      exact Frame.refl _ _
    · refine Frame.set_cdu _ rfl ?_
      refine Frame.step (State.dbump_frame ..) rfl ?_
      exact Frame.refl _ _

theorem execCadenceSyncMark_frame {a0} {a1} {t : State} (h : execCadenceSyncMark a0 a1 = .next t) :
    Frame [.free, .uptime, .cdu, .entries] a1 t := by
  cases h
  split
  · refine Frame.step (State.checkMark_frame ..) rfl ?_
    refine Frame.step (State.at_frame ..) rfl ?_
    exact Frame.refl _ _
  · exact Frame.refl _ _

theorem State.launchTicks_frame (a0) (a1) (a2) :
    Frame [.loops] a0 (State.launchTicks a0 a1 a2) := by
  unfold State.launchTicks
  refine Frame.ite ?_ ?_
  · refine Frame.set_hif _ (.inr rfl) (.inl rfl) (.inr rfl) (.inr rfl) (.inr rfl) ?_
    exact Frame.refl _ _
  · exact Frame.refl _ _

theorem State.pullIn_frame (a0) (a1) :
    Frame [.free, .out, .cdu, .entries, .msix, .health] a0 (State.pullIn a0 a1) := by
  unfold State.pullIn
  dsimp only
  refine Frame.ite ?_ ?_
  · refine Frame.step (State.event_frame ..) rfl ?_
    refine Frame.set_cdu _ rfl ?_
    exact Frame.refl _ _
  · refine Frame.set_cdu _ rfl ?_
    exact Frame.refl _ _

theorem State.acquire_frame (a0) :
    Frame [.free, .cdu, .entries] a0 (State.acquire a0) := by
  unfold State.acquire
  refine Frame.set_cdu _ rfl ?_
  refine Frame.step (State.holdTime_frame ..) rfl ?_
  exact Frame.refl _ _

theorem execCadenceTick_frame {a0} {a1} {t : State} (h : execCadenceTick a0 a1 = .next t) :
    Frame [.free, .out, .uptime, .cdu, .entries, .loops, .msix, .health] a1 t := by
  cases h
  dsimp only
  refine Frame.ite ?_ ?_
  · refine Frame.step (State.launchTicks_frame ..) rfl ?_
    refine Frame.ite ?_ ?_
    · refine Frame.set_cdu _ rfl ?_
      refine Frame.step (State.acquire_frame ..) rfl ?_
      refine Frame.set_cdu _ rfl ?_
      refine Frame.step (State.holdTime_frame ..) rfl ?_
      refine Frame.step (State.at_frame ..) rfl ?_
      exact Frame.refl _ _
    · refine Frame.ite ?_ ?_
      · refine Frame.step (State.pullIn_frame ..) rfl ?_
        refine Frame.set_cdu _ rfl ?_
        refine Frame.step (State.holdTime_frame ..) rfl ?_
        refine Frame.step (State.at_frame ..) rfl ?_
        exact Frame.refl _ _
      · refine Frame.set_cdu _ rfl ?_
        refine Frame.step (State.holdTime_frame ..) rfl ?_
        refine Frame.step (State.at_frame ..) rfl ?_
        exact Frame.refl _ _
  · exact Frame.refl _ _

theorem State.applyCadence_frame (a0) (a1) (a2) (a3) :
    Frame [.free, .cdu, .entries] a0 (State.applyCadence a0 a1 a2 a3) := by
  unfold State.applyCadence
  dsimp only
  refine Frame.ite ?_ ?_
  · refine Frame.set_cdu _ rfl ?_
    exact Frame.refl _ _
  · refine Frame.set_cdu _ rfl ?_
    refine Frame.step (State.acquire_frame ..) rfl ?_
    refine Frame.set_cdu _ rfl ?_
    exact Frame.refl _ _

theorem State.cduApply_frame (a0) :
    Frame [.free, .cdu, .entries] a0 (State.cduApply a0).1 := by
  unfold State.cduApply
  refine Frame.ite_of Prod.fst ?_ ?_
  · refine Frame.step (State.applyCadence_frame ..) rfl ?_
    exact Frame.refl _ _
  · exact Frame.refl _ _

theorem State.cduLoad_frame (a0) :
    Frame [.free, .out, .cdu, .entries, .msix, .health] a0 (State.cduLoad a0) := by
  unfold State.cduLoad
  refine Frame.ite ?_ ?_
  · refine Frame.step (State.applyCadence_frame ..) rfl ?_
    exact Frame.refl _ _
  · refine Frame.step (State.event_frame ..) rfl ?_
    refine Frame.step (State.applyCadence_frame ..) rfl ?_
    exact Frame.refl _ _

end Sys2Proof.Machine
end

