-- ==== Sys2Proof/Laws/Power.lean ====
section
/-! SUPPORT. What the operations of Power can change: one frame each. -/

namespace Sys2Proof.Machine

theorem State.setPort_frame (a0) (a1) (a2) :
    Frame [.links] a0 (State.setPort a0 a1 a2) := by
  unfold State.setPort
  refine Frame.set_links _ rfl ?_
  exact Frame.refl _ _

theorem State.settleSlice_frame (a0) :
    Frame [.entries] a0 (State.settleSlice a0) := by
  unfold State.settleSlice
  dsimp only
  refine Frame.step (State.dset_frame ..) rfl ?_
  exact Frame.refl _ _

theorem State.portsOff_frame (a0) :
    Frame [.entries, .links] a0 (State.portsOff a0) := by
  unfold State.portsOff
  refine Frame.step (State.settleSlice_frame ..) rfl ?_
  refine Frame.foldl _ (fun _ _ => ?_) ?_
  · refine Frame.step (State.setPort_frame ..) rfl ?_
    exact Frame.refl _ _
  · exact Frame.refl _ _

theorem State.setDomain_frame (a0) (a1) (a2) :
    Frame [.entries] a0 (State.setDomain a0 a1 a2) := by
  unfold State.setDomain
  refine Frame.step (State.dset_frame ..) rfl ?_
  exact Frame.refl _ _

theorem State.setDomains_frame (a0) (a1) (a2) :
    Frame [.entries] a0 (State.setDomains a0 a1 a2) := by
  unfold State.setDomains
  refine Frame.foldl _ (fun _ _ => ?_) ?_
  · refine Frame.step (State.setDomain_frame ..) rfl ?_
    exact Frame.refl _ _
  · exact Frame.refl _ _

theorem State.resupply_frame (a0) :
    Frame [.entries] a0 (State.resupply a0) := by
  unfold State.resupply
  refine Frame.foldl _ (fun _ _ => ?_) ?_
  · dsimp only
    refine Frame.step (State.dset_frame ..) rfl ?_
    refine Frame.step (State.dset_frame ..) rfl ?_
    exact Frame.refl _ _
  · exact Frame.refl _ _

theorem State.worked_frame (a0) (a1) :
    Frame [.power] a0 (State.worked a0 a1) := by
  unfold State.worked
  refine Frame.set_power _ rfl ?_
  exact Frame.refl _ _

theorem State.powerOn_frame (a0) (a1) :
    Frame [.entries, .power] a0 (State.powerOn a0 a1) := by
  unfold State.powerOn
  refine Frame.step (State.worked_frame ..) rfl ?_
  refine Frame.step (State.setDomain_frame ..) rfl ?_
  refine Frame.ite ?_ ?_
  · refine Frame.step (State.dset_frame ..) rfl ?_
    exact Frame.refl _ _
  · exact Frame.refl _ _

theorem execClusterPointTransition_frame {a0} {a1} {t : State} (h : execClusterPointTransition a0 a1 = .next t) :
    Frame [.entries] a1 t := by
  cases h
  refine Frame.ite ?_ ?_
  · refine Frame.step (State.resupply_frame ..) rfl ?_
    refine Frame.step (State.dset_frame ..) rfl ?_
    exact Frame.refl _ _
  · exact Frame.refl _ _

theorem execClusterIdle_frame {a0} {a1} {a2} {t : State} (h : execClusterIdle a0 a1 a2 = .next t) :
    Frame [.uptime, .entries] a2 t := by
  cases h
  refine Frame.ite ?_ ?_
  · refine Frame.step (State.setDomain_frame ..) rfl ?_
    refine Frame.step (State.at_frame ..) rfl ?_
    exact Frame.refl _ _
  · exact Frame.refl _ _

theorem State.lowestPoints_frame (a0) :
    Frame [.entries] a0 (State.lowestPoints a0) := by
  unfold State.lowestPoints
  refine Frame.foldl _ (fun _ _ => ?_) ?_
  · refine Frame.ite ?_ ?_
    · exact Frame.refl _ _
    · refine Frame.step (State.dset_frame ..) rfl ?_
      exact Frame.refl _ _
  · exact Frame.refl _ _

theorem execPwrBrakeNAssert_frame {a0} {a1} {t : State} (h : execPwrBrakeNAssert a0 a1 = .next t) :
    Frame [.uptime, .pins, .entries] a1 t := by
  cases h
  refine Frame.ite ?_ ?_
  · dsimp only
    refine Frame.step (State.resupply_frame ..) rfl ?_
    refine Frame.step (State.lowestPoints_frame ..) rfl ?_
    refine Frame.set_pins _ rfl ?_
    refine Frame.step (State.at_frame ..) rfl ?_
    exact Frame.refl _ _
  · exact Frame.refl _ _

theorem execPwrBrakeNRelease_frame {a0} {a1} {t : State} (h : execPwrBrakeNRelease a0 a1 = .next t) :
    Frame [.free, .uptime, .pins, .entries] a1 t := by
  cases h
  refine Frame.ite ?_ ?_
  · exact Frame.refl _ _
  · refine Frame.set_pins _ rfl ?_
    refine Frame.step (State.dbump_frame ..) rfl ?_
    refine Frame.step (State.at_frame ..) rfl ?_
    exact Frame.refl _ _

theorem execPwrBrakeLong_frame {a0} {a1} {t : State} (h : execPwrBrakeLong a0 a1 = .next t) :
    Frame [.free, .out, .uptime, .pins, .entries, .msix, .health] a1 t := by
  cases h
  refine Frame.ite ?_ ?_
  · refine Frame.step (State.event_frame ..) rfl ?_
    refine Frame.set_pins _ rfl ?_
    refine Frame.step (State.at_frame ..) rfl ?_
    exact Frame.refl _ _
  · exact Frame.refl _ _

theorem State.capCheck_frame (a0) (a1) (a2) :
    Frame [.free, .out, .entries, .msix, .health, .power] a0 (State.capCheck a0 a1 a2) := by
  unfold State.capCheck
  refine Frame.ite ?_ ?_
  · refine Frame.ite ?_ ?_
    · refine Frame.step (State.dbump_frame ..) rfl ?_
      refine Frame.step (State.dset_frame ..) rfl ?_
      refine Frame.set_power _ rfl ?_
      refine Frame.set_power _ rfl ?_
      exact Frame.refl _ _
    · refine Frame.ite ?_ ?_
      · refine Frame.set_power _ rfl ?_
        refine Frame.set_power _ rfl ?_
        exact Frame.refl _ _
      · refine Frame.step (State.event_frame ..) rfl ?_
        refine Frame.step (State.dset_frame ..) rfl ?_
        refine Frame.set_power _ rfl ?_
        refine Frame.set_power _ rfl ?_
        exact Frame.refl _ _
  · refine Frame.ite ?_ ?_
    · split
      · refine Frame.set_power _ rfl ?_
        refine Frame.step (State.dset_frame ..) rfl ?_
        refine Frame.set_power _ rfl ?_
        exact Frame.refl _ _
      · refine Frame.ite ?_ ?_
        · refine Frame.set_power _ rfl ?_
          refine Frame.ite ?_ ?_
          · refine Frame.step (State.dset_frame ..) rfl ?_
            refine Frame.step (State.dset_frame ..) rfl ?_
            refine Frame.set_power _ rfl ?_
            exact Frame.refl _ _
          · refine Frame.step (State.dset_frame ..) rfl ?_
            refine Frame.set_power _ rfl ?_
            exact Frame.refl _ _
        · refine Frame.step (State.dset_frame ..) rfl ?_
          refine Frame.set_power _ rfl ?_
          exact Frame.refl _ _
    · refine Frame.set_power _ rfl ?_
      refine Frame.step (State.dset_frame ..) rfl ?_
      refine Frame.set_power _ rfl ?_
      exact Frame.refl _ _

theorem execPowerCapCheck_frame {a0} {a1} {a2} {t : State} (h : execPowerCapCheck a0 a1 a2 = .next t) :
    Frame [.free, .out, .uptime, .entries, .msix, .health, .power] a2 t := by
  cases h
  refine Frame.ite ?_ ?_
  · refine Frame.step (State.capCheck_frame ..) rfl ?_
    refine Frame.step (State.at_frame ..) rfl ?_
    exact Frame.refl _ _
  · exact Frame.refl _ _

theorem State.vinCheck_frame (a0) (a1) (a2) (a3) :
    Frame [.entries, .power] a0 (State.vinCheck a0 a1 a2 a3) := by
  unfold State.vinCheck
  dsimp only
  refine Frame.ite ?_ ?_
  · refine Frame.step (State.dset_frame ..) rfl ?_
    refine Frame.set_power _ rfl ?_
    exact Frame.refl _ _
  · refine Frame.ite ?_ ?_
    · split
      · refine Frame.set_power _ rfl ?_
        exact Frame.refl _ _
      · refine Frame.ite ?_ ?_
        · refine Frame.set_power _ rfl ?_
          refine Frame.ite ?_ ?_
          · refine Frame.step (State.dset_frame ..) rfl ?_
            refine Frame.set_power _ rfl ?_
            exact Frame.refl _ _
          · refine Frame.set_power _ rfl ?_
            exact Frame.refl _ _
        · refine Frame.set_power _ rfl ?_
          exact Frame.refl _ _
    · refine Frame.set_power _ rfl ?_
      exact Frame.refl _ _

theorem execVinCmpLimitCheck_frame {a0} {a1} {a2} {a3} {t : State} (h : execVinCmpLimitCheck a0 a1 a2 a3 = .next t) :
    Frame [.uptime, .entries, .power] a3 t := by
  cases h
  refine Frame.ite ?_ ?_
  · refine Frame.step (State.vinCheck_frame ..) rfl ?_
    refine Frame.step (State.at_frame ..) rfl ?_
    exact Frame.refl _ _
  · exact Frame.refl _ _

theorem State.setCeiling_frame (a0) (a1) :
    Frame [.entries] a0 (State.setCeiling a0 a1) := by
  unfold State.setCeiling
  refine Frame.step (State.dset_frame ..) rfl ?_
  exact Frame.refl _ _

theorem State.throttleTime_frame (a0) (a1) (a2) :
    Frame [.free, .entries, .power] a0 (State.throttleTime a0 a1 a2) := by
  unfold State.throttleTime
  split
  · refine Frame.ite ?_ ?_
    · refine Frame.set_power _ rfl ?_
      exact Frame.refl _ _
    · exact Frame.refl _ _
  · refine Frame.set_power _ rfl ?_
    refine Frame.step (State.dbump_frame ..) rfl ?_
    exact Frame.refl _ _

theorem State.setThermal_frame (a0) (a1) (a2) (a3) :
    Frame [.entries, .power] a0 (State.setThermal a0 a1 a2 a3) := by
  unfold State.setThermal
  refine Frame.step (State.setCeiling_frame ..) rfl ?_
  refine Frame.set_power _ rfl ?_
  exact Frame.refl _ _

theorem State.heatUp_frame (a0) (a1) (a2) :
    Frame [.free, .entries, .power] a0 (State.heatUp a0 a1 a2) := by
  unfold State.heatUp
  refine Frame.step (State.throttleTime_frame ..) rfl ?_
  refine Frame.step (State.setThermal_frame ..) rfl ?_
  exact Frame.refl _ _

theorem State.coolDown_frame (a0) (a1) (a2) :
    Frame [.free, .entries, .power] a0 (State.coolDown a0 a1 a2) := by
  unfold State.coolDown
  dsimp only
  refine Frame.step (State.throttleTime_frame ..) rfl ?_
  refine Frame.ite ?_ ?_
  · refine Frame.step (State.setThermal_frame ..) rfl ?_
    exact Frame.refl _ _
  · exact Frame.refl _ _

theorem State.throttle_frame (a0) (a1) (a2) (a3) :
    Frame [.free, .entries, .power] a0 (State.throttle a0 a1 a2 a3) := by
  unfold State.throttle
  dsimp only
  refine Frame.foldl _ (fun _ _ => ?_) ?_
  · refine Frame.ite ?_ ?_
    · refine Frame.step (State.heatUp_frame ..) rfl ?_
      exact Frame.refl _ _
    · refine Frame.step (State.coolDown_frame ..) rfl ?_
      exact Frame.refl _ _
  · refine Frame.set_power _ rfl ?_
    exact Frame.refl _ _

theorem State.endGrant_frame (a0) (a1) :
    Frame [.free, .out, .entries, .msix, .kop, .health] a0 (State.endGrant a0 a1) := by
  unfold State.endGrant
  dsimp only
  refine Frame.ite ?_ ?_
  · refine Frame.step (State.event_frame ..) rfl ?_
    refine Frame.set_kop _ rfl ?_
    exact Frame.refl _ _
  · refine Frame.set_kop _ rfl ?_
    exact Frame.refl _ _

theorem State.trip_frame (a0) (a1) (a2) :
    Frame [.free, .out, .pins, .dev, .entries, .hif, .msix, .cmds, .steps, .array, .links, .kop, .health] a0 (State.trip a0 a1 a2) := by
  unfold State.trip
  dsimp only
  refine Frame.step (State.endGrant_frame ..) rfl ?_
  refine Frame.step (State.event_frame ..) rfl ?_
  refine Frame.step (State.resupply_frame ..) rfl ?_
  refine Frame.step (State.dset_frame ..) rfl ?_
  refine Frame.step (State.dbump_frame ..) rfl ?_
  refine Frame.step (State.setDomains_frame ..) rfl ?_
  refine Frame.step (State.setDomains_frame ..) rfl ?_
  refine Frame.step (State.portsOff_frame ..) rfl ?_
  refine Frame.set_pins_dev_hif_cmds_steps_array _ _ _ _ _ _ rfl rfl rfl rfl rfl (.inr rfl) (.inr rfl) (.inr rfl) (.inr rfl) (.inl rfl) ?_
  exact Frame.refl _ _

theorem execThermalSensorRead_frame {a0} {a1} {a2} {a3} {t : State} (h : execThermalSensorRead a0 a1 a2 a3 = .next t) :
    Frame [.free, .out, .uptime, .pins, .dev, .entries, .hif, .msix, .cmds, .steps, .array, .links, .kop, .health, .power] a3 t := by
  cases h
  refine Frame.ite ?_ ?_
  · dsimp only
    refine Frame.ite ?_ ?_
    · refine Frame.set_power _ rfl ?_
      refine Frame.step (State.dset_frame ..) rfl ?_
      refine Frame.step (State.at_frame ..) rfl ?_
      exact Frame.refl _ _
    · refine Frame.ite ?_ ?_
      · refine Frame.step (State.trip_frame ..) rfl ?_
        refine Frame.set_power _ rfl ?_
        refine Frame.step (State.dset_frame ..) rfl ?_
        refine Frame.step (State.at_frame ..) rfl ?_
        exact Frame.refl _ _
      · refine Frame.step (State.throttle_frame ..) rfl ?_
        refine Frame.set_power _ rfl ?_
        refine Frame.step (State.dset_frame ..) rfl ?_
        refine Frame.step (State.at_frame ..) rfl ?_
        exact Frame.refl _ _
  · exact Frame.refl _ _

theorem execSensorFailed_frame {a0} {a1} {a2} {t : State} (h : execSensorFailed a0 a1 a2 = .next t) :
    Frame [.free, .out, .uptime, .entries, .msix, .health, .power] a2 t := by
  cases h
  refine Frame.ite ?_ ?_
  · refine Frame.step (State.event_frame ..) rfl ?_
    refine Frame.foldl _ (fun _ _ => ?_) ?_
    · refine Frame.step (State.throttleTime_frame ..) rfl ?_
      refine Frame.step (State.setCeiling_frame ..) rfl ?_
      refine Frame.set_power _ rfl ?_
      exact Frame.refl _ _
    · refine Frame.set_power _ rfl ?_
      refine Frame.step (State.at_frame ..) rfl ?_
      exact Frame.refl _ _
  · exact Frame.refl _ _

theorem State.regionCheck_frame (a0) (a1) (a2) :
    Frame [.free, .entries, .power] a0 (State.regionCheck a0 a1 a2) := by
  unfold State.regionCheck
  refine Frame.step (State.throttleTime_frame ..) rfl ?_
  refine Frame.ite ?_ ?_
  · refine Frame.ite ?_ ?_
    · refine Frame.step (State.dbump_frame ..) rfl ?_
      refine Frame.step (State.setCeiling_frame ..) rfl ?_
      refine Frame.set_power _ rfl ?_
      exact Frame.refl _ _
    · exact Frame.refl _ _
  · refine Frame.ite ?_ ?_
    · refine Frame.step (State.setCeiling_frame ..) rfl ?_
      refine Frame.set_power _ rfl ?_
      exact Frame.refl _ _
    · exact Frame.refl _ _

theorem execTemperatureDifferenceCheck_frame {a0} {a1} {t : State} (h : execTemperatureDifferenceCheck a0 a1 = .next t) :
    Frame [.free, .uptime, .entries, .power] a1 t := by
  cases h
  refine Frame.ite ?_ ?_
  · refine Frame.foldl _ (fun _ _ => ?_) ?_
    · refine Frame.step (State.regionCheck_frame ..) rfl ?_
      exact Frame.refl _ _
    · refine Frame.step (State.at_frame ..) rfl ?_
      exact Frame.refl _ _
  · exact Frame.refl _ _

theorem State.recount_frame (a0) :
    Frame [.power] a0 (State.recount a0) := by
  unfold State.recount
  refine Frame.set_power _ rfl ?_
  exact Frame.refl _ _

theorem State.railSample_frame (a0) (a1) :
    Frame [.entries, .power] a0 (State.railSample a0 a1) := by
  unfold State.railSample
  refine Frame.ite ?_ ?_
  · refine Frame.set_power _ rfl ?_
    exact Frame.refl _ _
  · refine Frame.step (State.dset_frame ..) rfl ?_
    refine Frame.foldl _ (fun _ _ => ?_) ?_
    · refine Frame.step (State.dset_frame ..) rfl ?_
      exact Frame.refl _ _
    · refine Frame.set_power _ rfl ?_
      exact Frame.refl _ _

end Sys2Proof.Machine
end

