-- ==== Sys2Proof/Laws/LinkOps.lean ====
section
/-! SUPPORT. What the operations of LinkOps can change: one frame each. -/

namespace Sys2Proof.Machine

theorem State.queuePacket_frame (a0) (a1) (a2) :
    Frame [.links] a0 (State.queuePacket a0 a1 a2) := by
  unfold State.queuePacket
  refine Frame.step (State.setPort_frame ..) rfl ?_
  exact Frame.refl _ _

theorem State.noteAddressed_frame (a0) (a1) (a2) :
    Frame [.links] a0 (State.noteAddressed a0 a1 a2) := by
  unfold State.noteAddressed
  refine Frame.set_links _ rfl ?_
  exact Frame.refl _ _

theorem State.sendMemory_frame (a0) (a1) :
    Frame [.links] a0 (State.sendMemory a0 a1).1 := by
  unfold State.sendMemory
  split
  · dsimp only
    refine Frame.step (State.queuePacket_frame ..) rfl ?_
    refine Frame.step (State.noteAddressed_frame ..) rfl ?_
    exact Frame.refl _ _
  · refine Frame.ite_of Prod.fst ?_ ?_
    · dsimp only
      refine Frame.set_links _ rfl ?_
      refine Frame.step (State.noteAddressed_frame ..) rfl ?_
      exact Frame.refl _ _
    · exact Frame.refl _ _

theorem State.sendControl_frame (a0) (a1) :
    Frame [.links] a0 (State.sendControl a0 a1) := by
  unfold State.sendControl
  split
  · refine Frame.step (State.queuePacket_frame ..) rfl ?_
    exact Frame.refl _ _
  · refine Frame.ite ?_ ?_
    · refine Frame.set_links _ rfl ?_
      exact Frame.refl _ _
    · exact Frame.refl _ _

theorem State.setEpoch_frame (a0) (a1) (a2) :
    Frame [.ctxEntries, .ctxs] a0 (State.setEpoch a0 a1 a2) := by
  unfold State.setEpoch
  refine Frame.ite ?_ ?_
  · refine Frame.step (State.cset_frame ..) rfl ?_
    exact Frame.refl _ _
  · refine Frame.set_ctxs _ rfl ?_
    exact Frame.refl _ _

theorem State.advanceEpoch_frame (a0) (a1) :
    Frame [.ctxEntries, .ctxs, .links] a0 (State.advanceEpoch a0 a1) := by
  unfold State.advanceEpoch
  refine Frame.set_links _ rfl ?_
  refine Frame.foldl _ (fun _ _ => ?_) ?_
  · refine Frame.step (State.sendControl_frame ..) rfl ?_
    exact Frame.refl _ _
  · refine Frame.step (State.setEpoch_frame ..) rfl ?_
    exact Frame.refl _ _

theorem State.beginConfirm_frame (a0) (a1) (a2) :
    Frame [.links] a0 (State.beginConfirm a0 a1 a2) := by
  unfold State.beginConfirm
  refine Frame.set_links _ rfl ?_
  exact Frame.refl _ _

theorem State.endConfirm_frame (a0) (a1) (a2) :
    Frame [.links] a0 (State.endConfirm a0 a1 a2) := by
  unfold State.endConfirm
  refine Frame.set_links _ rfl ?_
  exact Frame.refl _ _

theorem State.groupMessage_frame (a0) (a1) (a2) (a3) (a4) (a5) (a6) :
    Frame [.links] a0 (State.groupMessage a0 a1 a2 a3 a4 a5 a6) := by
  unfold State.groupMessage
  refine Frame.step (State.sendControl_frame ..) rfl ?_
  refine Frame.step (State.noteAddressed_frame ..) rfl ?_
  exact Frame.refl _ _

theorem State.groupCast_frame (a0) (a1) (a2) (a3) (a4) (a5) :
    Frame [.links] a0 (State.groupCast a0 a1 a2 a3 a4 a5) := by
  unfold State.groupCast
  refine Frame.foldl _ (fun _ _ => ?_) ?_
  · refine Frame.step (State.groupMessage_frame ..) rfl ?_
    exact Frame.refl _ _
  · exact Frame.refl _ _

theorem State.sendAbort_frame (a0) (a1) (a2) (a3) :
    Frame [.links] a0 (State.sendAbort a0 a1 a2 a3) := by
  unfold State.sendAbort
  refine Frame.ite ?_ ?_
  · exact Frame.refl _ _
  · refine Frame.step (State.groupCast_frame ..) rfl ?_
    exact Frame.refl _ _

end Sys2Proof.Machine
end

