-- ==== Sys2Proof/Laws/Array.lean ====
section
/-! SUPPORT. What the operations of Array can change: one frame each. -/

namespace Sys2Proof.Machine

theorem State.setStep_frame (a0) (a1) :
    Frame [.steps] a0 (State.setStep a0 a1) := by
  unfold State.setStep
  refine Frame.set_steps _ rfl ?_
  exact Frame.refl _ _

theorem State.dropStep_frame (a0) (a1) :
    Frame [.steps] a0 (State.dropStep a0 a1) := by
  unfold State.dropStep
  refine Frame.set_steps _ rfl ?_
  exact Frame.refl _ _

theorem State.discardIn_frame (a0) (a1) (a2) (a3) :
    Frame [.array] a0 (State.discardIn a0 a1 a2 a3) := by
  unfold State.discardIn
  refine Frame.set_array _ rfl ?_
  exact Frame.refl _ _

theorem State.trimStage_frame (a0) (a1) :
    Frame [.array] a0 (State.trimStage a0 a1) := by
  unfold State.trimStage
  refine Frame.ite ?_ ?_
  · exact Frame.refl _ _
  · split
    · exact Frame.refl _ _
    · refine Frame.step (State.discardIn_frame ..) rfl ?_
      exact Frame.refl _ _

theorem State.trimStages_frame (a0) (a1) :
    Frame [.array] a0 (State.trimStages a0 a1) := by
  unfold State.trimStages
  refine Frame.foldl _ (fun _ _ => ?_) ?_
  · refine Frame.step (State.trimStage_frame ..) rfl ?_
    exact Frame.refl _ _
  · exact Frame.refl _ _

theorem State.cleanStage_frame (a0) (a1) :
    Frame [.near] a0 (State.cleanStage a0 a1) := by
  unfold State.cleanStage
  dsimp only
  refine Frame.set_near _ id (.inr rfl) (.inl rfl) ?_
  exact Frame.refl _ _

theorem State.stageImage_frame (a0) (a1) (a2) (a3) (a4) (a5) :
    Frame [.near, .array] a0 (State.stageImage a0 a1 a2 a3 a4 a5) := by
  unfold State.stageImage
  dsimp only
  refine Frame.foldl _ (fun _ _ => ?_) ?_
  · refine Frame.step (State.cleanStage_frame ..) rfl ?_
    exact Frame.refl _ _
  · refine Frame.step (State.trimStages_frame ..) rfl ?_
    refine Frame.set_array _ rfl ?_
    exact Frame.refl _ _

theorem State.evictRoute_frame (a0) (a1) (a2) :
    Frame [.array] a0 (State.evictRoute a0 a1 a2) := by
  unfold State.evictRoute
  dsimp only
  refine Frame.step (State.trimStages_frame ..) rfl ?_
  refine Frame.set_array _ rfl ?_
  exact Frame.refl _ _

theorem State.endWait_frame (a0) (a1) :
    Frame [.steps, .array] a0 (State.endWait a0 a1) := by
  unfold State.endWait
  dsimp only
  split
  · exact Frame.refl _ _
  · refine Frame.set_steps_array _ _ rfl rfl ?_
    exact Frame.refl _ _

theorem State.startWait_frame (a0) (a1) :
    Frame [.array] a0 (State.startWait a0 a1) := by
  unfold State.startWait
  dsimp only
  refine Frame.ite ?_ ?_
  · refine Frame.set_array _ rfl ?_
    exact Frame.refl _ _
  · exact Frame.refl _ _

theorem State.countFreeze_frame (a0) (a1) :
    Frame [.free, .entries, .steps, .array] a0 (State.countFreeze a0 a1) := by
  unfold State.countFreeze
  refine Frame.ite ?_ ?_
  · refine Frame.step (State.dbump_frame ..) rfl ?_
    refine Frame.step (State.endWait_frame ..) rfl ?_
    refine Frame.set_free _ rfl ?_
    exact Frame.refl _ _
  · exact Frame.refl _ _

theorem State.clearFootprint_frame (a0) (a1) :
    Frame [.free, .entries, .steps, .array] a0 (State.clearFootprint a0 a1) := by
  unfold State.clearFootprint
  dsimp only
  refine Frame.set_array _ rfl ?_
  refine Frame.foldl _ (fun _ _ => ?_) ?_
  · refine Frame.step (State.countFreeze_frame ..) rfl ?_
    exact Frame.refl _ _
  · exact Frame.refl _ _

theorem State.launchFootprint_frame (a0) (a1) (a2) :
    Frame [.free, .entries, .steps, .array] a0 (State.launchFootprint a0 a1 a2) := by
  unfold State.launchFootprint
  dsimp only
  refine Frame.set_array _ rfl ?_
  refine Frame.step (State.clearFootprint_frame ..) rfl ?_
  exact Frame.refl _ _

theorem State.powerCluster_frame (a0) (a1) :
    Frame [.entries, .power] a0 (State.powerCluster a0 a1) := by
  unfold State.powerCluster
  refine Frame.ite ?_ ?_
  · refine Frame.step (State.worked_frame ..) rfl ?_
    exact Frame.refl _ _
  · refine Frame.step (State.resupply_frame ..) rfl ?_
    refine Frame.step (State.powerOn_frame ..) rfl ?_
    exact Frame.refl _ _

theorem State.preload_frame (a0) (a1) (a2) (a3) (a4) :
    Frame [.near, .nearMem, .array] a0 (State.preload a0 a1 a2 a3 a4) := by
  unfold State.preload
  dsimp only
  refine Frame.set_array _ rfl ?_
  refine Frame.step (State.sliceWrite_frame ..) rfl ?_
  exact Frame.refl _ _

theorem State.activate_frame (a0) (a1) (a2) (a3) (a4) (a5) :
    Frame [.free, .entries, .ctxEntries, .near, .nearMem, .steps, .array, .power] a0 (State.activate a0 a1 a2 a3 a4 a5) := by
  unfold State.activate
  dsimp only
  refine Frame.step (State.cbump_frame ..) rfl ?_
  refine Frame.foldl _ (fun _ _ => ?_) ?_
  · refine Frame.step (State.preload_frame ..) rfl ?_
    exact Frame.refl _ _
  · refine Frame.foldl _ (fun _ _ => ?_) ?_
    · refine Frame.step (State.powerCluster_frame ..) rfl ?_
      exact Frame.refl _ _
    · refine Frame.step (State.clearFootprint_frame ..) rfl ?_
      refine Frame.step (State.trimStages_frame ..) rfl ?_
      refine Frame.set_array _ rfl ?_
      exact Frame.refl _ _

theorem State.rappel_frame (a0) (a1) (a2) (a3) :
    Frame [.free, .ctxEntries, .array] a0 (State.rappel a0 a1 a2 a3) := by
  unfold State.rappel
  refine Frame.ite ?_ ?_
  · refine Frame.set_array _ rfl ?_
    exact Frame.refl _ _
  · refine Frame.step (State.cbump_frame ..) rfl ?_
    refine Frame.set_array _ rfl ?_
    exact Frame.refl _ _

theorem State.failStep_frame (a0) (a1) (a2) (a3) :
    Frame [.free, .ctxEntries, .steps, .array] a0 (State.failStep a0 a1 a2 a3) := by
  unfold State.failStep
  refine Frame.ite ?_ ?_
  · exact Frame.refl _ _
  · split
    · exact Frame.refl _ _
    · refine Frame.step (State.rappel_frame ..) rfl ?_
      refine Frame.step (State.setStep_frame ..) rfl ?_
      exact Frame.refl _ _

theorem State.replayStep_frame (a0) (a1) (a2) :
    Frame [.free, .ctxEntries, .steps, .array, .links] a0 (State.replayStep a0 a1 a2) := by
  unfold State.replayStep
  refine Frame.ite ?_ ?_
  · exact Frame.refl _ _
  · refine Frame.step (State.failStep_frame ..) rfl ?_
    refine Frame.ite ?_ ?_
    · refine Frame.step (State.sendAbort_frame ..) rfl ?_
      exact Frame.refl _ _
    · exact Frame.refl _ _

theorem State.endStep_frame (a0) (a1) (a2) (a3) :
    Frame [.free, .ctxEntries, .steps, .array, .links] a0 (State.endStep a0 a1 a2 a3) := by
  unfold State.endStep
  refine Frame.ite ?_ ?_
  · exact Frame.refl _ _
  · refine Frame.step (State.failStep_frame ..) rfl ?_
    refine Frame.ite ?_ ?_
    · refine Frame.step (State.sendAbort_frame ..) rfl ?_
      exact Frame.refl _ _
    · exact Frame.refl _ _

end Sys2Proof.Machine
end

