-- ==== Sys2Proof/Laws/Requests.lean ====
section
/-! SUPPORT. What the operations of Requests can change: one frame each. -/

namespace Sys2Proof.Machine

theorem State.flits_frame (a0) (a1) (a2) (a3) (a4) :
    Frame [.free, .entries, .health] a0 (State.flits a0 a1 a2 a3 a4) := by
  unfold State.flits
  refine Frame.foldl _ (fun _ _ => ?_) ?_
  · refine Frame.foldl _ (fun _ _ => ?_) ?_
    · refine Frame.step (State.perturbed_frame ..) rfl ?_
      exact Frame.refl _ _
    · exact Frame.refl _ _
  · exact Frame.refl _ _

theorem State.pathEvent_frame (a0) (a1) (a2) (a3) (a4) (a5) :
    Frame [.free, .entries, .health] a0 (State.pathEvent a0 a1 a2 a3 a4 a5) := by
  unfold State.pathEvent
  dsimp only
  split
  · refine Frame.ite ?_ ?_
    · refine Frame.step (State.perturbed_frame ..) rfl ?_
      exact Frame.refl _ _
    · refine Frame.ite ?_ ?_
      · refine Frame.step (State.flits_frame ..) rfl ?_
        refine Frame.step (State.perturbed_frame ..) rfl ?_
        exact Frame.refl _ _
      · refine Frame.step (State.flits_frame ..) rfl ?_
        refine Frame.step (State.perturbed_frame ..) rfl ?_
        exact Frame.refl _ _
  · refine Frame.ite ?_ ?_
    · refine Frame.step (State.perturbed_frame ..) rfl ?_
      exact Frame.refl _ _
    · refine Frame.ite ?_ ?_
      · refine Frame.step (State.flits_frame ..) rfl ?_
        refine Frame.step (State.perturbed_frame ..) rfl ?_
        exact Frame.refl _ _
      · refine Frame.step (State.flits_frame ..) rfl ?_
        refine Frame.step (State.perturbed_frame ..) rfl ?_
        exact Frame.refl _ _
  · exact Frame.refl _ _

theorem State.pathEvents_frame (a0) (a1) (a2) (a3) (a4) (a5) :
    Frame [.free, .entries, .health] a0 (State.pathEvents a0 a1 a2 a3 a4 a5) := by
  unfold State.pathEvents
  refine Frame.foldl _ (fun _ _ => ?_) ?_
  · refine Frame.step (State.pathEvent_frame ..) rfl ?_
    exact Frame.refl _ _
  · exact Frame.refl _ _

theorem State.sendTo_frame (a0) (a1) :
    Frame [.links] a0 (State.sendTo a0 a1).1 := by
  unfold State.sendTo
  split
  · dsimp only
    refine Frame.step (State.queuePacket_frame ..) rfl ?_
    refine Frame.step (State.noteAddressed_frame ..) rfl ?_
    exact Frame.refl _ _
  · dsimp only
    refine Frame.step (State.sendMemory_frame ..) rfl ?_
    exact Frame.refl _ _

theorem State.writeRemote_frame (a0) (a1) (a2) (a3) (a4) (a5) :
    Frame [.free, .ctxEntries, .links] a0 (State.writeRemote a0 a1 a2 a3 a4 a5).1 := by
  induction a4 generalizing a0 a5 with
  | nil => exact Frame.refl _ _
  | cons p ps ih =>
    unfold State.writeRemote
    dsimp only
    split
    · rename_i e
      exact Frame.step (State.cbump_frame ..) rfl ((Frame.of_fst (State.sendTo_frame ..) e).mono rfl)
    · rename_i e
      exact (Frame.step (State.cbump_frame ..) rfl ((Frame.of_fst (State.sendTo_frame ..) e).mono rfl)).trans (ih ..)

theorem State.remoteWrite_frame (a0) (a1) (a2) (a3) (a4) :
    Frame [.free, .ctxEntries, .links] a0 (State.remoteWrite a0 a1 a2 a3 a4).1 := by
  unfold State.remoteWrite
  refine Frame.step (State.writeRemote_frame ..) rfl ?_
  exact Frame.refl _ _

theorem State.request_frame (a0) (a1) (a2) (a3) (a4) (a5) (a6) :
    Frame [.links] a0 (State.request a0 a1 a2 a3 a4 a5 a6).1 := by
  unfold State.request
  dsimp only
  refine Frame.set_links _ rfl ?_
  exact Frame.refl _ _

theorem State.dropRequest_frame (a0) (a1) :
    Frame [.links] a0 (State.dropRequest a0 a1) := by
  unfold State.dropRequest
  refine Frame.set_links _ rfl ?_
  exact Frame.refl _ _

theorem State.readRemote_frame (a0) (a1) (a2) (a3) (a4) (a5) :
    Frame [.free, .ctxEntries, .links] a0 (State.readRemote a0 a1 a2 a3 a4 a5).1 := by
  induction a5 generalizing a0 with
  | nil => exact Frame.refl _ _
  | cons p ps ih =>
    unfold State.readRemote
    dsimp only
    split
    · rename_i e
      exact Frame.step (State.cbump_frame ..) rfl (Frame.step (State.dropRequest_frame ..) rfl
        (((State.request_frame ..).trans (Frame.of_fst (State.sendTo_frame ..) e)).mono rfl))
    · rename_i e
      exact (((State.request_frame ..).trans (Frame.of_fst (State.sendTo_frame ..) e)).mono rfl).trans (ih ..)

theorem State.remoteRead_frame (a0) (a1) (a2) (a3) (a4) (a5) :
    Frame [.free, .ctxEntries, .links] a0 (State.remoteRead a0 a1 a2 a3 a4 a5).1 := by
  unfold State.remoteRead
  refine Frame.step (State.readRemote_frame ..) rfl ?_
  exact Frame.refl _ _

theorem State.moreFlushes_frame (a0) (a1) (a2) :
    Frame [.ctxs, .links] a0 (State.moreFlushes a0 a1 a2) := by
  unfold State.moreFlushes
  split
  · dsimp only
    refine Frame.set_ctxs _ rfl ?_
    exact Frame.refl _ _
  · dsimp only
    refine Frame.set_links _ rfl ?_
    exact Frame.refl _ _
  · exact Frame.refl _ _

theorem State.flushOn_frame (a0) (a1) (a2) (a3) (a4) :
    Frame [.links] a0 (State.flushOn a0 a1 a2 a3 a4) := by
  unfold State.flushOn
  split
  dsimp only
  refine Frame.ite ?_ ?_
  · refine Frame.step (State.queuePacket_frame ..) rfl ?_
    refine Frame.step (Frame.of_fst (State.request_frame ..) (by assumption)) rfl ?_
    refine Frame.step (State.noteAddressed_frame ..) rfl ?_
    exact Frame.refl _ _
  · refine Frame.set_links _ rfl ?_
    refine Frame.step (Frame.of_fst (State.request_frame ..) (by assumption)) rfl ?_
    refine Frame.step (State.noteAddressed_frame ..) rfl ?_
    exact Frame.refl _ _

theorem State.flushPort_frame (a0) (a1) (a2) (a3) :
    Frame [.ctxs, .links] a0 (State.flushPort a0 a1 a2 a3) := by
  unfold State.flushPort
  dsimp only
  refine Frame.ite ?_ ?_
  · refine Frame.foldl _ (fun _ _ => ?_) ?_
    · refine Frame.step (State.flushOn_frame ..) rfl ?_
      exact Frame.refl _ _
    · refine Frame.step (State.moreFlushes_frame ..) rfl ?_
      exact Frame.refl _ _
  · refine Frame.ite ?_ ?_
    · refine Frame.step (State.flushOn_frame ..) rfl ?_
      exact Frame.refl _ _
    · refine Frame.step (State.flushOn_frame ..) rfl ?_
      exact Frame.refl _ _

theorem State.flushPorts_frame (a0) (a1) (a2) (a3) :
    Frame [.ctxs, .links] a0 (State.flushPorts a0 a1 a2 a3) := by
  unfold State.flushPorts
  refine Frame.foldl _ (fun _ _ => ?_) ?_
  · refine Frame.step (State.flushPort_frame ..) rfl ?_
    exact Frame.refl _ _
  · exact Frame.refl _ _

theorem State.ask_frame (a0) (a1) (a2) (a3) (a4) :
    Frame [.free, .ctxEntries, .links] a0 (State.ask a0 a1 a2 a3 a4) := by
  unfold State.ask
  split
  · exact Frame.refl _ _
  · split
    split
    dsimp only
    refine Frame.set_links _ rfl ?_
    refine Frame.step (Frame.of_fst (State.remoteRead_frame ..) (by assumption)) rfl ?_
    exact Frame.refl _ _

end Sys2Proof.Machine
end

