-- ==== Sys2Proof/Laws/Contexts.lean ====
section
/-! SUPPORT. What the operations of Contexts can change: one frame each. -/

namespace Sys2Proof.Machine

theorem State.setAccount_frame (a0) (a1) (a2) :
    Frame [.ctxs] a0 (State.setAccount a0 a1 a2) := by
  unfold State.setAccount
  refine Frame.set_ctxs _ rfl ?_
  exact Frame.refl _ _

theorem State.report_frame (a0) (a1) :
    Frame [.free, .ctxEntries] a0 (State.report a0 a1) := by
  unfold State.report
  refine Frame.step (State.cput_frame ..) rfl ?_
  refine Frame.step (State.cput_frame ..) rfl ?_
  refine Frame.step (State.cput_frame ..) rfl ?_
  refine Frame.step (State.cput_frame ..) rfl ?_
  refine Frame.step (State.cput_frame ..) rfl ?_
  exact Frame.refl _ _

theorem State.charge_frame (a0) (a1) (a2) (a3) :
    Frame [.free, .entries, .ctxEntries, .ctxs] a0 (State.charge a0 a1 a2 a3) := by
  unfold State.charge
  refine Frame.ite ?_ ?_
  · refine Frame.step (State.report_frame ..) rfl ?_
    refine Frame.step (State.setAccount_frame ..) rfl ?_
    exact Frame.refl _ _
  · refine Frame.step (State.dput_frame ..) rfl ?_
    refine Frame.set_ctxs _ rfl ?_
    exact Frame.refl _ _

theorem State.chargeReplay_frame (a0) (a1) (a2) :
    Frame [.free, .ctxEntries, .ctxs] a0 (State.chargeReplay a0 a1 a2) := by
  unfold State.chargeReplay
  refine Frame.ite ?_ ?_
  · refine Frame.step (State.report_frame ..) rfl ?_
    refine Frame.step (State.setAccount_frame ..) rfl ?_
    exact Frame.refl _ _
  · exact Frame.refl _ _

theorem State.dropPoolEntries_frame (a0) (a1) (a2) :
    Frame [.bulk] a0 (State.dropPoolEntries a0 a1 a2) := by
  unfold State.dropPoolEntries
  dsimp only
  refine Frame.set_bulk _ id (.inr rfl) (.inl rfl) ?_
  exact Frame.refl _ _

theorem State.startSwitch_frame (a0) (a1) (a2) :
    Frame [.free, .entries, .ctxEntries, .bulk, .steps, .array, .ctxs] a0 (State.startSwitch a0 a1 a2) := by
  unfold State.startSwitch
  dsimp only
  split
  · refine Frame.step (State.dropPoolEntries_frame ..) rfl ?_
    refine Frame.step (State.cbump_frame ..) rfl ?_
    refine Frame.step (State.dbump_frame ..) rfl ?_
    refine Frame.step (State.dset_frame ..) rfl ?_
    refine Frame.set_steps_ctxs _ _ rfl rfl ?_
    exact Frame.refl _ _
  · refine Frame.foldl _ (fun _ _ => ?_) ?_
    · refine Frame.step (State.rappel_frame ..) rfl ?_
      exact Frame.refl _ _
    · refine Frame.step (State.dropPoolEntries_frame ..) rfl ?_
      refine Frame.step (State.dropPoolEntries_frame ..) rfl ?_
      refine Frame.step (State.cbump_frame ..) rfl ?_
      refine Frame.step (State.dbump_frame ..) rfl ?_
      refine Frame.step (State.dset_frame ..) rfl ?_
      refine Frame.set_steps_ctxs _ _ rfl rfl ?_
      exact Frame.refl _ _

theorem State.grantDecision_frame (a0) (a1) :
    Frame [.free, .entries, .ctxEntries, .bulk, .steps, .array, .ctxs] a0 (State.grantDecision a0 a1) := by
  unfold State.grantDecision
  refine Frame.ite ?_ ?_
  · exact Frame.refl _ _
  · split
    · refine Frame.step (State.startSwitch_frame ..) rfl ?_
      exact Frame.refl _ _
    · exact Frame.refl _ _

theorem State.decideGrantOf_frame (a0) (a1) :
    Frame [.free, .entries, .ctxEntries, .bulk, .steps, .array, .ctxs] a0 (State.decideGrantOf a0 a1) := by
  unfold State.decideGrantOf
  split
  · refine Frame.step (State.grantDecision_frame ..) rfl ?_
    exact Frame.refl _ _
  · exact Frame.refl _ _

theorem State.writeShare_frame (a0) (a1) (a2) :
    Frame [.ctxEntries, .ctxs] a0 (State.writeShare a0 a1 a2) := by
  unfold State.writeShare
  refine Frame.ite ?_ ?_
  · refine Frame.step (State.setAccount_frame ..) rfl ?_
    refine Frame.step (State.cset_frame ..) rfl ?_
    exact Frame.refl _ _
  · refine Frame.ite ?_ ?_
    · refine Frame.step (State.cset_frame ..) rfl ?_
      refine Frame.step (State.setAccount_frame ..) rfl ?_
      refine Frame.step (State.cset_frame ..) rfl ?_
      exact Frame.refl _ _
    · refine Frame.step (State.setAccount_frame ..) rfl ?_
      refine Frame.step (State.cset_frame ..) rfl ?_
      exact Frame.refl _ _

theorem State.shareAtStepEnd_frame (a0) (a1) :
    Frame [.ctxEntries, .ctxs] a0 (State.shareAtStepEnd a0 a1) := by
  unfold State.shareAtStepEnd
  dsimp only
  split
  · refine Frame.step (State.cset_frame ..) rfl ?_
    refine Frame.step (State.setAccount_frame ..) rfl ?_
    exact Frame.refl _ _
  · exact Frame.refl _ _

theorem State.endEpochOf_frame (a0) (a1) :
    Frame [.free, .ctxEntries, .ctxs] a0 (State.endEpochOf a0 a1) := by
  unfold State.endEpochOf
  refine Frame.step (State.report_frame ..) rfl ?_
  refine Frame.step (State.setAccount_frame ..) rfl ?_
  split
  · refine Frame.step (State.cset_frame ..) rfl ?_
    refine Frame.step (State.cput_frame ..) rfl ?_
    refine Frame.step (State.cput_frame ..) rfl ?_
    refine Frame.step (State.cput_frame ..) rfl ?_
    refine Frame.step (State.cput_frame ..) rfl ?_
    refine Frame.step (State.cput_frame ..) rfl ?_
    exact Frame.refl _ _
  · refine Frame.step (State.cput_frame ..) rfl ?_
    refine Frame.step (State.cput_frame ..) rfl ?_
    refine Frame.step (State.cput_frame ..) rfl ?_
    refine Frame.step (State.cput_frame ..) rfl ?_
    refine Frame.step (State.cput_frame ..) rfl ?_
    exact Frame.refl _ _

theorem execEpochEnd_frame {a0} {a1} {t : State} (h : execEpochEnd a0 a1 = .next t) :
    Frame [.free, .uptime, .cdu, .ctxEntries, .ctxs] a1 t := by
  cases h
  refine Frame.ite ?_ ?_
  · dsimp only
    refine Frame.foldl _ (fun _ _ => ?_) ?_
    · refine Frame.step (State.endEpochOf_frame ..) rfl ?_
      exact Frame.refl _ _
    · refine Frame.set_cdu_ctxs _ _ rfl rfl ?_
      refine Frame.step (State.at_frame ..) rfl ?_
      exact Frame.refl _ _
  · exact Frame.refl _ _

theorem State.setBivouac_frame (a0) (a1) (a2) (a3) :
    Frame [.near] a0 (State.setBivouac a0 a1 a2 a3) := by
  unfold State.setBivouac
  refine Frame.set_near _ id (.inr rfl) (.inl rfl) ?_
  exact Frame.refl _ _

theorem State.saveBytes_frame (a0) (a1) (a2) :
    Frame [.entries, .host, .near, .nearMem, .bulk, .bulkMem, .power] a0 (State.saveBytes a0 a1 a2).1 := by
  unfold State.saveBytes
  dsimp only
  refine Frame.step (State.writes_frame ..) rfl ?_
  exact Frame.refl _ _

theorem regionSaved_frame {s : State} {r : State × Option Nat} (c prn : Nat)
    (h : Frame [.entries, .host, .near, .nearMem, .bulk, .bulkMem, .power] s r.1) :
    Frame [.entries, .host, .near, .nearMem, .bulk, .bulkMem, .power] s (regionSaved c prn r).1 :=
  Frame.ite_fst h (Frame.step (State.setBivouac_frame ..) rfl h)

theorem bitmapSaved_frame {s : State} {r : State × Option Nat} (c p prn i : Nat)
    (h : Frame [.entries, .host, .near, .nearMem, .bulk, .bulkMem, .power] s r.1) :
    Frame [.entries, .host, .near, .nearMem, .bulk, .bulkMem, .power] s (bitmapSaved c p prn i r).1 :=
  Frame.ite_fst h (regionSaved_frame c prn (Frame.step (State.saveBytes_frame ..) rfl h))

theorem State.saveRegion_frame (s) (c) (p) (prn) (i) :
    Frame [.entries, .host, .near, .nearMem, .bulk, .bulkMem, .power] s (State.saveRegion s c p prn i).1 :=
  bitmapSaved_frame c p prn i (State.saveBytes_frame ..)

theorem State.restored_frame (s) (c) (prn) (x) (y) :
    Frame [.near, .nearMem] s (State.restored s c prn x y).1 := by
  unfold State.restored
  split
  · refine Frame.step (State.setBivouac_frame ..) rfl ?_
    exact Frame.set_near _ (fun h => memWf_memWrites _ _ _ (memWf_tclear _ _ _ h)) (.inl rfl) (.inl rfl) (Frame.refl _ _)
  · exact Frame.refl _ _
  · exact Frame.refl _ _

theorem State.restored_after_reads (s : State) (c prn d m k j : Nat) :
    Frame [.entries, .near, .nearMem, .bulk, .power] s (((s.accessed otherUnit 256 d k).accessed otherUnit 256 m j).restored c prn
      (s.readMarked d k) (s.readMarked m j)).1 :=
  Frame.step (State.restored_frame ..) rfl (Frame.step (State.accessed_frame ..) rfl
    (Frame.step (State.accessed_frame ..) rfl (Frame.refl _ _)))

theorem State.restoreRegion_frame (a0) (a1) (a2) (a3) (a4) :
    Frame [.entries, .near, .nearMem, .bulk, .power] a0 (State.restoreRegion a0 a1 a2 a3 a4).1 :=
  State.restored_after_reads ..

theorem State.strand_frame (a0) (a1) (a2) :
    Frame [.near] a0 (State.strand a0 a1 a2) := by
  unfold State.strand
  refine Frame.ite ?_ ?_
  · exact Frame.refl _ _
  · refine Frame.set_near _ id (.inr rfl) (.inl rfl) ?_
    exact Frame.refl _ _

theorem State.saveAll_frame (a0) (a1) (a2) (a3) :
    Frame [.entries, .host, .near, .nearMem, .bulk, .bulkMem, .power] a0 (State.saveAll a0 a1 a2 a3).1 := by
  unfold State.saveAll
  refine Frame.foldl_of Prod.fst _ (fun _ _ => ?_) ?_
  · refine Frame.ite_of Prod.fst ?_ ?_
    · exact Frame.refl _ _
    · refine Frame.ite_of Prod.fst ?_ ?_
      · dsimp only
        refine Frame.step (State.strand_frame ..) rfl ?_
        exact Frame.refl _ _
      · refine Frame.ite_of Prod.fst ?_ ?_
        · refine Frame.step (State.saveRegion_frame ..) rfl ?_
          exact Frame.refl _ _
        · exact Frame.refl _ _
  · exact Frame.refl _ _

theorem State.giveRegion_frame (a0) (a1) (a2) (a3) :
    Frame [.entries, .near, .nearMem, .bulk, .power] a0 (State.giveRegion a0 a1 a2 a3).1 := by
  unfold State.giveRegion
  refine Frame.ite_of Prod.fst ?_ ?_
  · refine Frame.step (State.restoreRegion_frame ..) rfl ?_
    exact Frame.refl _ _
  · dsimp only
    refine Frame.step (State.zeroRegion_frame ..) rfl ?_
    exact Frame.refl _ _

theorem State.restoreAll_frame (a0) (a1) (a2) (a3) :
    Frame [.entries, .near, .nearMem, .bulk, .power] a0 (State.restoreAll a0 a1 a2 a3).1 := by
  unfold State.restoreAll
  refine Frame.foldl_of Prod.fst _ (fun _ _ => ?_) ?_
  · refine Frame.ite_of Prod.fst ?_ ?_
    · exact Frame.refl _ _
    · refine Frame.ite_of Prod.fst ?_ ?_
      · dsimp only
        refine Frame.step (State.strand_frame ..) rfl ?_
        exact Frame.refl _ _
      · refine Frame.step (State.giveRegion_frame ..) rfl ?_
        exact Frame.refl _ _
  · exact Frame.refl _ _

theorem State.clearPool_frame (a0) (a1) :
    Frame [.near, .nearMem] a0 (State.clearPool a0 a1) := by
  unfold State.clearPool
  refine Frame.foldl _ (fun _ _ => ?_) ?_
  · refine Frame.step (State.zeroRegion_frame ..) rfl ?_
    exact Frame.refl _ _
  · exact Frame.refl _ _

theorem State.parkRoutes_frame (a0) (a1) (a2) :
    Frame [.array] a0 (State.parkRoutes a0 a1 a2) := by
  unfold State.parkRoutes
  dsimp only
  refine Frame.step (State.trimStages_frame ..) rfl ?_
  refine Frame.set_array _ rfl ?_
  exact Frame.refl _ _

end Sys2Proof.Machine
end

