-- ==== Sys2Proof/Laws/Lanes.lean ====
section
/-! SUPPORT. What the operations of Lanes can change: one frame each. -/

namespace Sys2Proof.Machine

theorem State.stage_frame (a0) (a1) (a2) :
    Frame [.cmds] a0 (State.stage a0 a1 a2) := by
  unfold State.stage
  refine Frame.step (State.setCmd_frame ..) rfl ?_
  exact Frame.refl _ _

theorem State.awaitGrant_frame (a0) (a1) :
    Frame [.free, .entries, .ctxEntries, .bulk, .cmds, .steps, .array, .ctxs] a0 (State.awaitGrant a0 a1) := by
  unfold State.awaitGrant
  refine Frame.step (State.decideGrantOf_frame ..) rfl ?_
  refine Frame.step (State.stage_frame ..) rfl ?_
  exact Frame.refl _ _

theorem State.completeOn_frame (a0) (a1) (a2) (a3) :
    Frame [.free, .out, .entries, .ctxEntries, .host, .near, .nearMem, .bulk, .bulkMem, .rings, .msix, .pages, .cmds, .steps, .array, .ctxs, .health, .power] a0 (State.completeOn a0 a1 a2 a3) := by
  unfold State.completeOn
  dsimp only
  refine Frame.ite ?_ ?_
  · refine Frame.step (State.decideGrantOf_frame ..) rfl ?_
    refine Frame.step (State.complete_frame ..) rfl ?_
    exact Frame.refl _ _
  · refine Frame.step (State.complete_frame ..) rfl ?_
    exact Frame.refl _ _

theorem State.setBinding_frame (a0) (a1) (a2) :
    Frame [.serve] a0 (State.setBinding a0 a1 a2) := by
  unfold State.setBinding
  refine Frame.set_serve _ rfl ?_
  exact Frame.refl _ _

theorem State.setLane_frame (a0) (a1) (a2) (a3) :
    Frame [.serve] a0 (State.setLane a0 a1 a2 a3) := by
  unfold State.setLane
  refine Frame.set_serve _ rfl ?_
  exact Frame.refl _ _

theorem State.release_frame (a0) (a1) (a2) :
    Frame [.free, .out, .entries, .ctxEntries, .host, .near, .nearMem, .bulk, .bulkMem, .rings, .msix, .pages, .cmds, .serve, .health, .power] a0 (State.release a0 a1 a2) := by
  unfold State.release
  dsimp only
  refine Frame.foldl _ (fun _ _ => ?_) ?_
  · refine Frame.step (State.complete_frame ..) rfl ?_
    exact Frame.refl _ _
  · refine Frame.set_serve _ rfl ?_
    exact Frame.refl _ _

theorem execUnbindModel_frame {a0} {a1} {t : State} (h : execUnbindModel a0 a1 = .next t) :
    Frame [.free, .out, .entries, .ctxEntries, .host, .near, .nearMem, .bulk, .bulkMem, .rings, .msix, .pages, .cmds, .serve, .health, .power] a1 t := by
  cases h
  split
  · exact Frame.refl _ _
  · dsimp only
    split
    · refine Frame.step (State.complete_frame ..) rfl ?_
      exact Frame.refl _ _
    · refine Frame.ite ?_ ?_
      · refine Frame.step (State.complete_frame ..) rfl ?_
        exact Frame.refl _ _
      · refine Frame.ite ?_ ?_
        · refine Frame.step (State.complete_frame ..) rfl ?_
          exact Frame.refl _ _
        · refine Frame.step (State.stage_frame ..) rfl ?_
          refine Frame.step (State.setBinding_frame ..) rfl ?_
          exact Frame.refl _ _

theorem execBindingRelease_frame {a0} {a1} {t : State} (h : execBindingRelease a0 a1 = .next t) :
    Frame [.free, .out, .entries, .ctxEntries, .host, .near, .nearMem, .bulk, .bulkMem, .rings, .msix, .pages, .cmds, .serve, .health, .power] a1 t := by
  cases h
  refine Frame.ite ?_ ?_
  · refine Frame.step (State.release_frame ..) rfl ?_
    exact Frame.refl _ _
  · exact Frame.refl _ _

theorem State.writeLaneSide_frame (a0) (a1) (a2) (a3) :
    Frame [.serve] a0 (State.writeLaneSide a0 a1 a2 a3).1 := by
  unfold State.writeLaneSide
  refine Frame.ite_of Prod.fst ?_ ?_
  · exact Frame.refl _ _
  · refine Frame.ite_of Prod.fst ?_ ?_
    · exact Frame.refl _ _
    · refine Frame.step (State.setLane_frame ..) rfl ?_
      exact Frame.refl _ _

theorem State.writeLoopLane_frame (a0) (a1) (a2) :
    Frame [.entries] a0 (State.writeLoopLane a0 a1 a2).1 := by
  unfold State.writeLoopLane
  refine Frame.ite_of Prod.fst ?_ ?_
  · exact Frame.refl _ _
  · refine Frame.ite_of Prod.fst ?_ ?_
    · exact Frame.refl _ _
    · refine Frame.step (State.dset_frame ..) rfl ?_
      exact Frame.refl _ _

theorem State.writeLaneSwitch_frame (a0) (a1) (a2) :
    Frame [.serve] a0 (State.writeLaneSwitch a0 a1 a2).1 := by
  unfold State.writeLaneSwitch
  refine Frame.ite_of Prod.fst ?_ ?_
  · exact Frame.refl _ _
  · refine Frame.ite_of Prod.fst ?_ ?_
    · exact Frame.refl _ _
    · refine Frame.step (State.setLane_frame ..) rfl ?_
      exact Frame.refl _ _

theorem State.writeLaneCancel_frame (a0) (a1) (a2) :
    Frame [.serve] a0 (State.writeLaneCancel a0 a1 a2).1 := by
  unfold State.writeLaneCancel
  refine Frame.ite_of Prod.fst ?_ ?_
  · exact Frame.refl _ _
  · refine Frame.ite_of Prod.fst ?_ ?_
    · exact Frame.refl _ _
    · refine Frame.step (State.setLane_frame ..) rfl ?_
      exact Frame.refl _ _

theorem State.flip_frame (a0) (a1) (a2) :
    Frame [.free, .ctxEntries, .serve] a0 (State.flip a0 a1 a2) := by
  unfold State.flip
  refine Frame.step (State.cbump_frame ..) rfl ?_
  refine Frame.step (State.setLane_frame ..) rfl ?_
  exact Frame.refl _ _

theorem execLaneFlip_frame {a0} {a1} {a2} {t : State} (h : execLaneFlip a0 a1 a2 = .next t) :
    Frame [.free, .ctxEntries, .serve] a2 t := by
  cases h
  refine Frame.ite ?_ ?_
  · refine Frame.step (State.flip_frame ..) rfl ?_
    refine Frame.step (State.settleLanes_frame ..) rfl ?_
    exact Frame.refl _ _
  · refine Frame.step (State.settleLanes_frame ..) rfl ?_
    exact Frame.refl _ _

theorem execFence_frame {a0} {a1} {t : State} (h : execFence a0 a1 = .next t) :
    Frame [.free, .out, .entries, .ctxEntries, .host, .near, .nearMem, .bulk, .bulkMem, .rings, .msix, .pages, .cmds, .health, .power] a1 t := by
  cases h
  split
  · exact Frame.refl _ _
  · dsimp only
    refine Frame.step (settleFences_frame ..) rfl ?_
    refine Frame.step (State.stage_frame ..) rfl ?_
    exact Frame.refl _ _

theorem execSignal_frame {a0} {a1} {t : State} (h : execSignal a0 a1 = .next t) :
    Frame [.free, .out, .entries, .ctxEntries, .host, .near, .nearMem, .bulk, .bulkMem, .rings, .msix, .pages, .counters, .cmds, .health, .power] a1 t := by
  cases h
  split
  · exact Frame.refl _ _
  · dsimp only
    refine Frame.ite ?_ ?_
    · refine Frame.step (State.complete_frame ..) rfl ?_
      refine Frame.step (State.applySignal_frame ..) rfl ?_
      exact Frame.refl _ _
    · refine Frame.step (State.complete_frame ..) rfl ?_
      exact Frame.refl _ _

theorem execWait_frame {a0} {a1} {t : State} (h : execWait a0 a1 = .next t) :
    Frame [.free, .out, .entries, .ctxEntries, .host, .near, .nearMem, .bulk, .bulkMem, .rings, .msix, .pages, .cmds, .health, .power] a1 t := by
  cases h
  split
  · exact Frame.refl _ _
  · dsimp only
    refine Frame.ite ?_ ?_
    · refine Frame.step (State.complete_frame ..) rfl ?_
      exact Frame.refl _ _
    · refine Frame.ite ?_ ?_
      · refine Frame.step (State.complete_frame ..) rfl ?_
        exact Frame.refl _ _
      · refine Frame.step (State.setCmd_frame ..) rfl ?_
        exact Frame.refl _ _

theorem execWaitTimeout_frame {a0} {a1} {a2} {t : State} (h : execWaitTimeout a0 a1 a2 = .next t) :
    Frame [.free, .out, .uptime, .entries, .ctxEntries, .host, .near, .nearMem, .bulk, .bulkMem, .rings, .msix, .pages, .cmds, .health, .power] a2 t := by
  cases h
  split
  · exact Frame.refl _ _
  · refine Frame.ite ?_ ?_
    · refine Frame.step (State.complete_frame ..) rfl ?_
      refine Frame.step (State.at_frame ..) rfl ?_
      exact Frame.refl _ _
    · exact Frame.refl _ _

end Sys2Proof.Machine
end

