-- ==== Sys2Proof/Laws/Reset.lean ====
section
/-! SUPPORT. What the operations of Reset can change: one frame each. -/

namespace Sys2Proof.Machine

theorem State.dropRoute_frame (a0) (a1) :
    Frame [.free, .out, .entries, .msix, .array, .health] a0 (State.dropRoute a0 a1) := by
  unfold State.dropRoute
  refine Frame.step (State.event_frame ..) rfl ?_
  refine Frame.step (State.evictRoute_frame ..) rfl ?_
  exact Frame.refl _ _

theorem State.isolateNow_frame (a0) (a1) :
    Frame [.free, .out, .entries, .msix, .array, .health] a0 (State.isolateNow a0 a1) := by
  unfold State.isolateNow
  dsimp only
  refine Frame.step (State.event_frame ..) rfl ?_
  refine Frame.step (State.resupply_frame ..) rfl ?_
  refine Frame.step (State.setDomain_frame ..) rfl ?_
  refine Frame.step (State.dset_frame ..) rfl ?_
  refine Frame.foldl _ (fun _ _ => ?_) ?_
  · refine Frame.step (State.dropRoute_frame ..) rfl ?_
    exact Frame.refl _ _
  · refine Frame.foldl _ (fun _ _ => ?_) ?_
    · refine Frame.step (State.evictRoute_frame ..) rfl ?_
      exact Frame.refl _ _
    · exact Frame.refl _ _

theorem State.isolate_frame (a0) (a1) :
    Frame [.free, .out, .entries, .ctxEntries, .msix, .steps, .array, .links, .health] a0 (State.isolate a0 a1) := by
  unfold State.isolate
  refine Frame.ite ?_ ?_
  · exact Frame.refl _ _
  · split
    · refine Frame.step (State.isolateNow_frame ..) rfl ?_
      exact Frame.refl _ _
    · refine Frame.step (State.rappel_frame ..) rfl ?_
      split
      · exact Frame.refl _ _
      · refine Frame.ite ?_ ?_
        · exact Frame.refl _ _
        · refine Frame.step (State.setStep_frame ..) rfl ?_
          refine Frame.step (State.sendAbort_frame ..) rfl ?_
          exact Frame.refl _ _

theorem State.mapHang_frame (a0) (a1) :
    Frame [.ctxs] a0 (State.mapHang a0 a1) := by
  unfold State.mapHang
  refine Frame.set_ctxs _ rfl ?_
  exact Frame.refl _ _

theorem State.hold_frame (a0) (a1) :
    Frame [.ctxEntries, .ctxs] a0 (State.hold a0 a1) := by
  unfold State.hold
  refine Frame.step (State.cset_frame ..) rfl ?_
  refine Frame.set_ctxs _ rfl ?_
  exact Frame.refl _ _

theorem State.unhold_frame (a0) (a1) :
    Frame [.ctxEntries, .ctxs] a0 (State.unhold a0 a1) := by
  unfold State.unhold
  refine Frame.step (State.cset_frame ..) rfl ?_
  refine Frame.set_ctxs _ rfl ?_
  exact Frame.refl _ _

theorem State.beginHang_frame (a0) (a1) (a2) (a3) :
    Frame [.free, .entries, .ctxEntries, .steps, .array, .ctxs, .links] a0 (State.beginHang a0 a1 a2 a3) := by
  unfold State.beginHang
  refine Frame.foldl _ (fun _ _ => ?_) ?_
  · refine Frame.step (State.rappel_frame ..) rfl ?_
    refine Frame.step (State.setStep_frame ..) rfl ?_
    refine Frame.step (State.sendAbort_frame ..) rfl ?_
    exact Frame.refl _ _
  · refine Frame.foldl _ (fun _ _ => ?_) ?_
    · refine Frame.step (State.hold_frame ..) rfl ?_
      exact Frame.refl _ _
    · refine Frame.step (State.dset_frame ..) rfl ?_
      refine Frame.step (State.dbump_frame ..) rfl ?_
      refine Frame.set_ctxs _ rfl ?_
      exact Frame.refl _ _

theorem State.releaseSuspects_frame (a0) :
    Frame [.free, .entries, .ctxEntries, .bulk, .steps, .array, .ctxs] a0 (State.releaseSuspects a0) := by
  unfold State.releaseSuspects
  dsimp only
  refine Frame.foldl _ (fun _ _ => ?_) ?_
  · refine Frame.step (State.decideGrantOf_frame ..) rfl ?_
    exact Frame.refl _ _
  · refine Frame.foldl _ (fun _ _ => ?_) ?_
    · refine Frame.step (State.unhold_frame ..) rfl ?_
      exact Frame.refl _ _
    · refine Frame.set_ctxs _ rfl ?_
      exact Frame.refl _ _

theorem State.transientHang_frame (a0) (a1) :
    Frame [.free, .out, .entries, .ctxEntries, .bulk, .msix, .steps, .array, .ctxs, .links, .health] a0 (State.transientHang a0 a1) := by
  unfold State.transientHang
  dsimp only
  refine Frame.ite ?_ ?_
  · refine Frame.step (State.isolate_frame ..) rfl ?_
    refine Frame.set_ctxs _ rfl ?_
    refine Frame.step (State.releaseSuspects_frame ..) rfl ?_
    refine Frame.step (State.dbump_frame ..) rfl ?_
    exact Frame.refl _ _
  · refine Frame.set_ctxs _ rfl ?_
    refine Frame.step (State.releaseSuspects_frame ..) rfl ?_
    refine Frame.step (State.dbump_frame ..) rfl ?_
    exact Frame.refl _ _

theorem State.nextTrial_frame (s) (n) : Frame [.free, .out, .entries, .ctxEntries, .bulk, .msix, .steps, .array, .ctxs, .links, .health] s
      (State.nextTrial s n) := by
  induction n generalizing s with
  | zero => exact Frame.refl _ _
  | succ n ih =>
    unfold State.nextTrial
    split
    · exact Frame.refl _ _
    · split
      · exact Frame.mono (State.transientHang_frame ..) rfl
      · split
        · exact (Frame.mono (State.mapHang_frame ..) rfl).trans (ih ..)
        · exact Frame.step (State.decideGrantOf_frame ..) rfl (Frame.step (State.mapHang_frame ..) rfl
            (Frame.step (State.unhold_frame ..) rfl (Frame.refl _ _)))

theorem State.trialPassed_frame (a0) (a1) :
    Frame [.free, .out, .entries, .ctxEntries, .bulk, .msix, .steps, .array, .ctxs, .links, .health] a0 (State.trialPassed a0 a1) := by
  unfold State.trialPassed
  split
  · refine Frame.ite ?_ ?_
    · dsimp only
      refine Frame.step (State.nextTrial_frame ..) rfl ?_
      refine Frame.step (State.mapHang_frame ..) rfl ?_
      split
      · refine Frame.step (State.hold_frame ..) rfl ?_
        exact Frame.refl _ _
      · exact Frame.refl _ _
    · exact Frame.refl _ _
  · exact Frame.refl _ _

theorem State.leaveHang_frame (a0) (a1) :
    Frame [.free, .out, .entries, .ctxEntries, .bulk, .msix, .steps, .array, .ctxs, .links, .health] a0 (State.leaveHang a0 a1) := by
  unfold State.leaveHang
  dsimp only
  split
  · refine Frame.ite ?_ ?_
    · refine Frame.ite ?_ ?_
      · refine Frame.step (State.unhold_frame ..) rfl ?_
        refine Frame.step (State.mapHang_frame ..) rfl ?_
        refine Frame.ite ?_ ?_
        · refine Frame.step (State.unhold_frame ..) rfl ?_
          refine Frame.set_ctxs _ rfl ?_
          exact Frame.refl _ _
        · exact Frame.refl _ _
      · refine Frame.step (State.nextTrial_frame ..) rfl ?_
        refine Frame.step (State.unhold_frame ..) rfl ?_
        refine Frame.step (State.mapHang_frame ..) rfl ?_
        refine Frame.ite ?_ ?_
        · refine Frame.step (State.unhold_frame ..) rfl ?_
          refine Frame.set_ctxs _ rfl ?_
          exact Frame.refl _ _
        · exact Frame.refl _ _
    · refine Frame.ite ?_ ?_
      · refine Frame.step (State.unhold_frame ..) rfl ?_
        refine Frame.set_ctxs _ rfl ?_
        exact Frame.refl _ _
      · exact Frame.refl _ _
  · refine Frame.ite ?_ ?_
    · refine Frame.step (State.unhold_frame ..) rfl ?_
      refine Frame.set_ctxs _ rfl ?_
      exact Frame.refl _ _
    · exact Frame.refl _ _

theorem State.abandonForReset_frame (a0) (a1) :
    Frame [.steps, .links] a0 (State.abandonForReset a0 a1) := by
  unfold State.abandonForReset
  refine Frame.ite ?_ ?_
  · exact Frame.refl _ _
  · refine Frame.ite ?_ ?_
    · refine Frame.step (State.setStep_frame ..) rfl ?_
      refine Frame.step (State.sendAbort_frame ..) rfl ?_
      exact Frame.refl _ _
    · refine Frame.step (State.dropStep_frame ..) rfl ?_
      refine Frame.ite ?_ ?_
      · refine Frame.step (State.sendAbort_frame ..) rfl ?_
        exact Frame.refl _ _
      · exact Frame.refl _ _

theorem State.resetRappels_frame (a0) (a1) :
    Frame [.free, .ctxEntries, .array] a0 (State.resetRappels a0 a1) := by
  unfold State.resetRappels
  refine Frame.foldl _ (fun _ _ => ?_) ?_
  · refine Frame.step (State.rappel_frame ..) rfl ?_
    exact Frame.refl _ _
  · exact Frame.refl _ _

theorem State.leaveBinds_frame (a0) (a1) :
    Frame [.serve] a0 (State.leaveBinds a0 a1) := by
  unfold State.leaveBinds
  dsimp only
  refine Frame.set_serve _ rfl ?_
  exact Frame.refl _ _

theorem State.dropBinds_frame (a0) (a1) :
    Frame [.serve] a0 (State.dropBinds a0 a1) := by
  unfold State.dropBinds
  dsimp only
  refine Frame.set_serve _ rfl ?_
  refine Frame.step (State.leaveBinds_frame ..) rfl ?_
  exact Frame.refl _ _

theorem State.dropUnbinds_frame (a0) (a1) :
    Frame [.serve] a0 (State.dropUnbinds a0 a1) := by
  unfold State.dropUnbinds
  refine Frame.set_serve _ rfl ?_
  exact Frame.refl _ _

theorem State.stopWork_frame (a0) (a1) :
    Frame [.loops, .array, .ctxs, .serve] a0 (State.stopWork a0 a1) := by
  unfold State.stopWork
  refine Frame.step (State.dropUnbinds_frame ..) rfl ?_
  refine Frame.step (State.dropBinds_frame ..) rfl ?_
  refine Frame.set_hif_array_ctxs _ _ _ rfl rfl (.inr rfl) (.inl rfl) (.inr rfl) (.inr rfl) (.inr rfl) ?_
  exact Frame.refl _ _

theorem State.settleReset_frame (a0) (a1) :
    Frame [.ctxEntries, .ctxs, .links] a0 (State.settleReset a0 a1) := by
  unfold State.settleReset
  split
  · refine Frame.ite ?_ ?_
    · refine Frame.step (State.beginConfirm_frame ..) rfl ?_
      refine Frame.step (State.advanceEpoch_frame ..) rfl ?_
      refine Frame.set_ctxs _ rfl ?_
      exact Frame.refl _ _
    · exact Frame.refl _ _
  · exact Frame.refl _ _

theorem State.finishAll_frame (a0) (a1) (a2) :
    Frame [.free, .out, .entries, .ctxEntries, .host, .near, .nearMem, .bulk, .bulkMem, .rings, .msix, .pages, .cmds, .health, .power] a0 (State.finishAll a0 a1 a2) := by
  unfold State.finishAll
  refine Frame.foldl _ (fun _ _ => ?_) ?_
  · refine Frame.step (State.finish_frame ..) rfl ?_
    exact Frame.refl _ _
  · exact Frame.refl _ _

theorem State.startReset_frame (a0) (a1) (a2) :
    Frame [.free, .out, .entries, .ctxEntries, .host, .near, .nearMem, .bulk, .bulkMem, .rings, .loops, .msix, .pages, .cmds, .steps, .array, .ctxs, .serve, .links, .health, .power] a0 (State.startReset a0 a1 a2) := by
  unfold State.startReset
  refine Frame.ite ?_ ?_
  · exact Frame.refl _ _
  · dsimp only
    refine Frame.step (State.settleReset_frame ..) rfl ?_
    refine Frame.step (State.resetRappels_frame ..) rfl ?_
    refine Frame.step (State.finishAll_frame ..) rfl ?_
    refine Frame.step (State.stopWork_frame ..) rfl ?_
    refine Frame.foldl _ (fun _ _ => ?_) ?_
    · refine Frame.step (State.abandonForReset_frame ..) rfl ?_
      exact Frame.refl _ _
    · refine Frame.step (State.leaveHang_frame ..) rfl ?_
      refine Frame.step (State.postEvent_frame ..) rfl ?_
      refine Frame.step (State.cset_frame ..) rfl ?_
      refine Frame.step (State.cset_frame ..) rfl ?_
      refine Frame.step (State.cbump_frame ..) rfl ?_
      refine Frame.set_ctxs _ rfl ?_
      exact Frame.refl _ _

theorem State.bivouacFailed_frame (a0) (a1) (a2) :
    Frame [.free, .out, .entries, .ctxEntries, .host, .near, .nearMem, .bulk, .bulkMem, .rings, .loops, .msix, .pages, .cmds, .steps, .array, .ctxs, .serve, .links, .health, .power] a0 (State.bivouacFailed a0 a1 a2) := by
  unfold State.bivouacFailed
  refine Frame.step (State.startReset_frame ..) rfl ?_
  refine Frame.step (State.event_frame ..) rfl ?_
  exact Frame.refl _ _

theorem State.unstrand_frame (a0) (a1) (a2) :
    Frame [.free, .out, .entries, .ctxEntries, .host, .near, .nearMem, .bulk, .bulkMem, .rings, .loops, .msix, .pages, .cmds, .steps, .array, .ctxs, .serve, .links, .health, .power] a0 (State.unstrand a0 a1 a2) := by
  unfold State.unstrand
  split
  · exact Frame.refl _ _
  · dsimp only
    split
    · refine Frame.step (State.zeroRegion_frame ..) rfl ?_
      refine Frame.set_near _ id (.inr rfl) (.inl rfl) ?_
      exact Frame.refl _ _
    · refine Frame.ite ?_ ?_
      · refine Frame.set_near _ id (.inr rfl) (.inl rfl) ?_
        exact Frame.refl _ _
      · split
        · refine Frame.step (Frame.of_fst (State.giveRegion_frame ..) (by assumption)) rfl ?_
          refine Frame.set_near _ id (.inr rfl) (.inl rfl) ?_
          exact Frame.refl _ _
        · refine Frame.step (State.bivouacFailed_frame ..) rfl ?_
          refine Frame.step (State.zeroRegion_frame ..) rfl ?_
          refine Frame.step (Frame.of_fst (State.giveRegion_frame ..) (by assumption)) rfl ?_
          refine Frame.set_near _ id (.inr rfl) (.inl rfl) ?_
          exact Frame.refl _ _

theorem State.unstrandAll_frame (a0) (a1) :
    Frame [.free, .out, .entries, .ctxEntries, .host, .near, .nearMem, .bulk, .bulkMem, .rings, .loops, .msix, .pages, .cmds, .steps, .array, .ctxs, .serve, .links, .health, .power] a0 (State.unstrandAll a0 a1) := by
  unfold State.unstrandAll
  split
  · exact Frame.refl _ _
  · refine Frame.foldl _ (fun _ _ => ?_) ?_
    · refine Frame.step (State.unstrand_frame ..) rfl ?_
      exact Frame.refl _ _
    · exact Frame.refl _ _

theorem State.returnCluster_frame (a0) (a1) :
    Frame [.free, .out, .entries, .ctxEntries, .host, .near, .nearMem, .bulk, .bulkMem, .rings, .loops, .msix, .pages, .cmds, .steps, .array, .ctxs, .serve, .links, .health, .power] a0 (State.returnCluster a0 a1) := by
  unfold State.returnCluster
  refine Frame.step (State.unstrandAll_frame ..) rfl ?_
  refine Frame.step (State.event_frame ..) rfl ?_
  refine Frame.step (State.resupply_frame ..) rfl ?_
  refine Frame.step (State.powerOn_frame ..) rfl ?_
  refine Frame.step (State.dset_frame ..) rfl ?_
  exact Frame.refl _ _

theorem State.resumeReset_frame (a0) (a1) :
    Frame [.free, .ctxEntries, .array, .ctxs, .links] a0 (State.resumeReset a0 a1) := by
  unfold State.resumeReset
  split
  · refine Frame.ite ?_ ?_
    · refine Frame.step (State.settleReset_frame ..) rfl ?_
      refine Frame.step (State.resetRappels_frame ..) rfl ?_
      refine Frame.set_ctxs _ rfl ?_
      exact Frame.refl _ _
    · refine Frame.step (State.settleReset_frame ..) rfl ?_
      exact Frame.refl _ _
  · exact Frame.refl _ _

theorem State.zeroOwned_frame (a0) (a1) :
    Frame [.near, .nearMem] a0 (State.zeroOwned a0 a1) := by
  unfold State.zeroOwned
  refine Frame.foldl _ (fun _ _ => ?_) ?_
  · refine Frame.step (State.zeroRegion_frame ..) rfl ?_
    exact Frame.refl _ _
  · exact Frame.refl _ _

theorem State.resetPool_frame (a0) (a1) :
    Frame [.entries, .near, .nearMem, .array] a0 (State.resetPool a0 a1) := by
  unfold State.resetPool
  split
  · exact Frame.refl _ _
  · dsimp only
    refine Frame.ite ?_ ?_
    · refine Frame.step (State.dset_frame ..) rfl ?_
      refine Frame.step (State.clearPool_frame ..) rfl ?_
      refine Frame.step (State.parkRoutes_frame ..) rfl ?_
      refine Frame.set_near _ id (.inr rfl) (.inl rfl) ?_
      exact Frame.refl _ _
    · refine Frame.set_near _ id (.inr rfl) (.inl rfl) ?_
      exact Frame.refl _ _

theorem State.clearCounters_frame (a0) (a1) :
    Frame [.ctxEntries] a0 (State.clearCounters a0 a1) := by
  unfold State.clearCounters
  refine Frame.foldl _ (fun _ _ => ?_) ?_
  · refine Frame.step (State.cset_frame ..) rfl ?_
    exact Frame.refl _ _
  · exact Frame.refl _ _

theorem State.flipAll_frame (a0) (a1) :
    Frame [.free, .ctxEntries, .serve] a0 (State.flipAll a0 a1) := by
  unfold State.flipAll
  refine Frame.foldl _ (fun _ _ => ?_) ?_
  · refine Frame.step (State.flip_frame ..) rfl ?_
    exact Frame.refl _ _
  · exact Frame.refl _ _

theorem State.endReset_frame (a0) (a1) :
    Frame [.free, .out, .entries, .ctxEntries, .host, .near, .nearMem, .bulk, .bulkMem, .rings, .msix, .pages, .cmds, .steps, .array, .ctxs, .serve, .links, .health, .power] a0 (State.endReset a0 a1) := by
  unfold State.endReset
  dsimp only
  split
  · refine Frame.step (State.grantDecision_frame ..) rfl ?_
    refine Frame.ite ?_ ?_
    · refine Frame.set_ctxs _ rfl ?_
      refine Frame.step (State.flipAll_frame ..) rfl ?_
      refine Frame.foldl _ (fun _ _ => ?_) ?_
      · refine Frame.step (State.release_frame ..) rfl ?_
        exact Frame.refl _ _
      · refine Frame.step (State.clearCounters_frame ..) rfl ?_
        refine Frame.step (State.resetPool_frame ..) rfl ?_
        refine Frame.step (State.zeroOwned_frame ..) rfl ?_
        refine Frame.step (State.endConfirm_frame ..) rfl ?_
        exact Frame.refl _ _
    · refine Frame.step (State.postEvent_frame ..) rfl ?_
      refine Frame.set_ctxs _ rfl ?_
      refine Frame.step (State.flipAll_frame ..) rfl ?_
      refine Frame.foldl _ (fun _ _ => ?_) ?_
      · refine Frame.step (State.release_frame ..) rfl ?_
        exact Frame.refl _ _
      · refine Frame.step (State.clearCounters_frame ..) rfl ?_
        refine Frame.step (State.resetPool_frame ..) rfl ?_
        refine Frame.step (State.zeroOwned_frame ..) rfl ?_
        refine Frame.step (State.endConfirm_frame ..) rfl ?_
        exact Frame.refl _ _
  · refine Frame.ite ?_ ?_
    · refine Frame.set_ctxs _ rfl ?_
      refine Frame.step (State.flipAll_frame ..) rfl ?_
      refine Frame.foldl _ (fun _ _ => ?_) ?_
      · refine Frame.step (State.release_frame ..) rfl ?_
        exact Frame.refl _ _
      · refine Frame.step (State.clearCounters_frame ..) rfl ?_
        refine Frame.step (State.resetPool_frame ..) rfl ?_
        refine Frame.step (State.zeroOwned_frame ..) rfl ?_
        refine Frame.step (State.endConfirm_frame ..) rfl ?_
        exact Frame.refl _ _
    · refine Frame.step (State.postEvent_frame ..) rfl ?_
      refine Frame.set_ctxs _ rfl ?_
      refine Frame.step (State.flipAll_frame ..) rfl ?_
      refine Frame.foldl _ (fun _ _ => ?_) ?_
      · refine Frame.step (State.release_frame ..) rfl ?_
        exact Frame.refl _ _
      · refine Frame.step (State.clearCounters_frame ..) rfl ?_
        refine Frame.step (State.resetPool_frame ..) rfl ?_
        refine Frame.step (State.zeroOwned_frame ..) rfl ?_
        refine Frame.step (State.endConfirm_frame ..) rfl ?_
        exact Frame.refl _ _

theorem execContextResetEnd_frame {a0} {a1} {a2} {t : State} (h : execContextResetEnd a0 a1 a2 = .next t) :
    Frame [.free, .out, .uptime, .entries, .ctxEntries, .host, .near, .nearMem, .bulk, .bulkMem, .rings, .msix, .pages, .cmds, .steps, .array, .ctxs, .serve, .links, .health, .power] a2 t := by
  cases h
  split
  · refine Frame.ite ?_ ?_
    · refine Frame.step (State.endReset_frame ..) rfl ?_
      refine Frame.step (State.at_frame ..) rfl ?_
      exact Frame.refl _ _
    · exact Frame.refl _ _
  · exact Frame.refl _ _

end Sys2Proof.Machine
end

