-- ==== Sys2Proof/Laws/Steps.lean ====
section
/-! SUPPORT. What the operations of Steps can change: one frame each. -/

namespace Sys2Proof.Machine

theorem State.noteFail_frame (a0) (a1) (a2) :
    Frame [.free, .out, .entries, .ctxEntries] a0 (State.noteFail a0 a1 a2) := by
  unfold State.noteFail
  split
  · refine Frame.step (State.noteMiss_frame ..) rfl ?_
    exact Frame.refl _ _
  · refine Frame.ite ?_ ?_
    · refine Frame.step (State.noteDamage_frame ..) rfl ?_
      exact Frame.refl _ _
    · exact Frame.refl _ _

theorem State.dropExchanges_frame (a0) (a1) :
    Frame [.tru] a0 (State.dropExchanges a0 a1) := by
  unfold State.dropExchanges
  refine Frame.set_tru _ rfl ?_
  exact Frame.refl _ _

theorem memWf_discardBytes (free base : Nat) (m : List Host.Cell) (as : List Nat) (h : memWf m = true) :
    memWf (discardBytes free base m as) = true := by
  unfold discardBytes
  induction as generalizing m with
  | nil => exact h
  | cons a as ih => exact ih _ (memWf_memWrite _ _ _ h)

theorem State.clearWritten_frame (a0) (a1) :
    Frame [.free, .host, .near, .nearMem, .bulk, .bulkMem] a0 (State.clearWritten a0 a1) := by
  unfold State.clearWritten
  refine Frame.set_free_host_hostUncommitted_near_bulk _ _ _ _ _ rfl rfl (memWf_discardBytes _ _ _ _)
    (memWf_discardBytes _ _ _ _) (.inl rfl) (.inl rfl) (memWf_discardBytes _ _ _ _) (.inl rfl) (.inl rfl) ?_
  exact Frame.refl _ _

theorem State.endHalts_frame (a0) (a1) :
    Frame [.free, .out, .entries, .ctxEntries, .host, .near, .nearMem, .bulk, .bulkMem, .rings, .msix, .pages, .cmds, .array, .links, .health, .power] a0 (State.endHalts a0 a1) := by
  unfold State.endHalts
  dsimp only
  refine Frame.foldl _ (fun _ _ => ?_) ?_
  · split
    · refine Frame.step (State.complete_frame ..) rfl ?_
      exact Frame.refl _ _
    · exact Frame.refl _ _
  · refine Frame.set_array _ rfl ?_
    refine Frame.ite ?_ ?_
    · refine Frame.step (State.groupCast_frame ..) rfl ?_
      exact Frame.refl _ _
    · exact Frame.refl _ _

theorem State.accept_frame (a0) (a1) :
    Frame [.array] a0 (State.accept a0 a1) := by
  unfold State.accept
  dsimp only
  refine Frame.set_array _ rfl ?_
  exact Frame.refl _ _

theorem State.closeEviction_frame (a0) (a1) (a2) (a3) :
    Frame [.free, .out, .entries, .ctxEntries, .host, .near, .nearMem, .bulk, .bulkMem, .rings, .msix, .pages, .cmds, .array, .health, .power] a0 (State.closeEviction a0 a1 a2 a3) := by
  unfold State.closeEviction
  dsimp only
  split
  · refine Frame.step (State.complete_frame ..) rfl ?_
    refine Frame.set_array _ rfl ?_
    exact Frame.refl _ _
  · refine Frame.set_array _ rfl ?_
    exact Frame.refl _ _

theorem kickLoad_frame (a0) (a1) :
    Frame [.free, .ctxEntries, .array] a0 (kickLoad a0 a1) := by
  unfold kickLoad
  split
  · exact Frame.refl _ _
  · refine Frame.ite ?_ ?_
    · exact Frame.refl _ _
    · refine Frame.foldl _ (fun _ _ => ?_) ?_
      · refine Frame.step (State.rappel_frame ..) rfl ?_
        exact Frame.refl _ _
      · refine Frame.set_array _ rfl ?_
        exact Frame.refl _ _

theorem kickEviction_frame (a0) (a1) :
    Frame [.free, .out, .entries, .ctxEntries, .host, .near, .nearMem, .bulk, .bulkMem, .rings, .msix, .pages, .cmds, .array, .health, .power] a0 (kickEviction a0 a1) := by
  unfold kickEviction
  split
  · refine Frame.ite ?_ ?_
    · exact Frame.refl _ _
    · refine Frame.step (State.closeEviction_frame ..) rfl ?_
      exact Frame.refl _ _
  · refine Frame.ite ?_ ?_
    · exact Frame.refl _ _
    · refine Frame.ite ?_ ?_
      · refine Frame.step (State.closeEviction_frame ..) rfl ?_
        refine Frame.step (State.evictRoute_frame ..) rfl ?_
        exact Frame.refl _ _
      · refine Frame.ite ?_ ?_
        · exact Frame.refl _ _
        · refine Frame.step (State.rappel_frame ..) rfl ?_
          exact Frame.refl _ _

theorem State.kick_frame (a0) :
    Frame [.free, .out, .entries, .ctxEntries, .host, .near, .nearMem, .bulk, .bulkMem, .rings, .msix, .pages, .cmds, .array, .health, .power] a0 (State.kick a0) := by
  unfold State.kick
  refine Frame.foldl _ (fun _ _ => ?_) ?_
  · refine Frame.step (kickEviction_frame ..) rfl ?_
    exact Frame.refl _ _
  · refine Frame.foldl _ (fun _ _ => ?_) ?_
    · refine Frame.step (kickLoad_frame ..) rfl ?_
      exact Frame.refl _ _
    · exact Frame.refl _ _

theorem State.dropFetches_frame (a0) (a1) :
    Frame [.links] a0 (State.dropFetches a0 a1) := by
  unfold State.dropFetches
  refine Frame.set_links _ rfl ?_
  exact Frame.refl _ _

theorem State.cairnOver_frame (a0) (a1) :
    Frame [.serve, .links] a0 (State.cairnOver a0 a1) := by
  unfold State.cairnOver
  refine Frame.step (State.dropFetches_frame ..) rfl ?_
  refine Frame.set_serve _ rfl ?_
  exact Frame.refl _ _

theorem State.discardWritten_frame (a0) (a1) :
    Frame [.free, .entries, .host, .near, .nearMem, .bulk, .bulkMem, .serve, .links, .power] a0 (State.discardWritten a0 a1) := by
  unfold State.discardWritten
  dsimp only
  refine Frame.ite ?_ ?_
  · refine Frame.step (State.cairnOver_frame ..) rfl ?_
    refine Frame.step (State.clearWritten_frame ..) rfl ?_
    exact Frame.refl _ _
  · refine Frame.foldl _ (fun _ _ => ?_) ?_
    · refine Frame.step (State.writes_frame ..) rfl ?_
      exact Frame.refl _ _
    · refine Frame.step (State.cairnOver_frame ..) rfl ?_
      refine Frame.step (State.clearWritten_frame ..) rfl ?_
      exact Frame.refl _ _

theorem State.dropGroup_frame (a0) (a1) :
    Frame [.links] a0 (State.dropGroup a0 a1) := by
  unfold State.dropGroup
  refine Frame.ite ?_ ?_
  · exact Frame.refl _ _
  · refine Frame.set_links _ rfl ?_
    exact Frame.refl _ _

theorem State.discardGroup_frame (a0) (a1) :
    Frame [.free, .host, .near, .nearMem, .bulk, .bulkMem] a0 (State.discardGroup a0 a1) := by
  unfold State.discardGroup
  refine Frame.ite ?_ ?_
  · exact Frame.refl _ _
  · refine Frame.step (State.clearWritten_frame ..) rfl ?_
    exact Frame.refl _ _

theorem State.afterStep_frame (a0) (a1) :
    Frame [.free, .out, .entries, .ctxEntries, .host, .near, .nearMem, .bulk, .bulkMem, .rings, .msix, .pages, .cmds, .steps, .array, .ctxs, .serve, .tru, .links, .health, .power] a0 (State.afterStep a0 a1) := by
  unfold State.afterStep
  dsimp only
  refine Frame.step (State.trialPassed_frame ..) rfl ?_
  refine Frame.step (State.resumeReset_frame ..) rfl ?_
  split
  · refine Frame.step (State.grantDecision_frame ..) rfl ?_
    refine Frame.step (State.kick_frame ..) rfl ?_
    refine Frame.step (State.shareAtStepEnd_frame ..) rfl ?_
    refine Frame.step (State.settleLanes_frame ..) rfl ?_
    refine Frame.step (State.dropGroup_frame ..) rfl ?_
    refine Frame.step (State.discardGroup_frame ..) rfl ?_
    refine Frame.step (State.discardWritten_frame ..) rfl ?_
    refine Frame.step (State.dropExchanges_frame ..) rfl ?_
    exact Frame.refl _ _
  · refine Frame.step (State.kick_frame ..) rfl ?_
    refine Frame.step (State.shareAtStepEnd_frame ..) rfl ?_
    refine Frame.step (State.settleLanes_frame ..) rfl ?_
    refine Frame.step (State.dropGroup_frame ..) rfl ?_
    refine Frame.step (State.discardGroup_frame ..) rfl ?_
    refine Frame.step (State.discardWritten_frame ..) rfl ?_
    refine Frame.step (State.dropExchanges_frame ..) rfl ?_
    exact Frame.refl _ _

theorem State.noteWork_frame (a0) (a1) :
    Frame [.power] a0 (State.noteWork a0 a1) := by
  unfold State.noteWork
  refine Frame.foldl _ (fun _ _ => ?_) ?_
  · refine Frame.step (State.worked_frame ..) rfl ?_
    exact Frame.refl _ _
  · exact Frame.refl _ _

theorem State.failEnd_frame (a0) (a1) (a2) (a3) :
    Frame [.free, .out, .entries, .ctxEntries, .host, .near, .nearMem, .bulk, .bulkMem, .rings, .msix, .pages, .cmds, .steps, .array, .ctxs, .serve, .tru, .links, .health, .power] a0 (State.failEnd a0 a1 a2 a3) := by
  unfold State.failEnd
  dsimp only
  refine Frame.step (State.afterStep_frame ..) rfl ?_
  split
  · refine Frame.step (State.complete_frame ..) rfl ?_
    refine Frame.step (State.dropStep_frame ..) rfl ?_
    refine Frame.step (State.endHalts_frame ..) rfl ?_
    refine Frame.ite ?_ ?_
    · refine Frame.step (State.noteWork_frame ..) rfl ?_
      refine Frame.step (State.charge_frame ..) rfl ?_
      refine Frame.ite ?_ ?_
      · refine Frame.step (State.cbump_frame ..) rfl ?_
        exact Frame.refl _ _
      · exact Frame.refl _ _
    · refine Frame.ite ?_ ?_
      · refine Frame.step (State.cbump_frame ..) rfl ?_
        exact Frame.refl _ _
      · exact Frame.refl _ _
  · refine Frame.step (State.dropStep_frame ..) rfl ?_
    refine Frame.step (State.endHalts_frame ..) rfl ?_
    refine Frame.ite ?_ ?_
    · refine Frame.step (State.noteWork_frame ..) rfl ?_
      refine Frame.step (State.charge_frame ..) rfl ?_
      refine Frame.ite ?_ ?_
      · refine Frame.step (State.cbump_frame ..) rfl ?_
        exact Frame.refl _ _
      · exact Frame.refl _ _
    · refine Frame.ite ?_ ?_
      · refine Frame.step (State.cbump_frame ..) rfl ?_
        exact Frame.refl _ _
      · exact Frame.refl _ _

theorem State.silentEnd_frame (a0) (a1) :
    Frame [.free, .out, .entries, .ctxEntries, .host, .near, .nearMem, .bulk, .bulkMem, .rings, .msix, .pages, .cmds, .steps, .array, .ctxs, .serve, .tru, .links, .health, .power] a0 (State.silentEnd a0 a1) := by
  unfold State.silentEnd
  refine Frame.step (State.afterStep_frame ..) rfl ?_
  refine Frame.step (State.dropCmd_frame ..) rfl ?_
  refine Frame.step (State.dropStep_frame ..) rfl ?_
  refine Frame.step (State.endHalts_frame ..) rfl ?_
  exact Frame.refl _ _

theorem State.makeReady_frame (a0) (a1) :
    Frame [.free, .entries, .ctxEntries, .bulk, .loops, .cmds, .steps, .array, .ctxs] a0 (State.makeReady a0 a1) := by
  unfold State.makeReady
  split
  dsimp only
  refine Frame.step (State.decideGrantOf_frame ..) rfl ?_
  refine Frame.ite ?_ ?_
  · refine Frame.step (State.cbump_frame ..) rfl ?_
    refine Frame.set_steps _ rfl ?_
    refine Frame.step (State.stage_frame ..) rfl ?_
    refine Frame.step (State.setLoop_frame ..) rfl ?_
    exact Frame.refl _ _
  · refine Frame.set_steps _ rfl ?_
    refine Frame.step (State.stage_frame ..) rfl ?_
    refine Frame.step (State.setLoop_frame ..) rfl ?_
    exact Frame.refl _ _

theorem execStepReady_frame {a0} {a1} {a2} {t : State} (h : execStepReady a0 a1 a2 = .next t) :
    Frame [.free, .uptime, .entries, .ctxEntries, .bulk, .loops, .cmds, .steps, .array, .ctxs] a2 t := by
  cases h
  split
  · exact Frame.refl _ _
  · refine Frame.ite ?_ ?_
    · refine Frame.step (State.makeReady_frame ..) rfl ?_
      refine Frame.step (State.at_frame ..) rfl ?_
      exact Frame.refl _ _
    · exact Frame.refl _ _

theorem execLaunchStep_frame {a0} {a1} {t : State} (h : execLaunchStep a0 a1 = .next t) :
    Frame [.free, .out, .entries, .ctxEntries, .host, .near, .nearMem, .bulk, .bulkMem, .rings, .msix, .pages, .cmds, .health, .power] a1 t := by
  cases h
  split
  · exact Frame.refl _ _
  · refine Frame.ite ?_ ?_
    · refine Frame.step (State.complete_frame ..) rfl ?_
      exact Frame.refl _ _
    · refine Frame.step (State.stage_frame ..) rfl ?_
      exact Frame.refl _ _

theorem State.refusePhase_frame (a0) (a1) (a2) (a3) :
    Frame [.free, .out, .entries, .ctxEntries, .host, .near, .nearMem, .bulk, .bulkMem, .rings, .msix, .pages, .cmds, .steps, .array, .ctxs, .serve, .tru, .links, .health, .power] a0 (State.refusePhase a0 a1 a2 a3) := by
  unfold State.refusePhase
  refine Frame.step (State.failEnd_frame ..) rfl ?_
  refine Frame.ite ?_ ?_
  · refine Frame.step (State.sendAbort_frame ..) rfl ?_
    exact Frame.refl _ _
  · exact Frame.refl _ _

theorem State.activatePhase_frame (a0) (a1) (a2) :
    Frame [.free, .out, .entries, .ctxEntries, .host, .near, .nearMem, .bulk, .bulkMem, .rings, .msix, .pages, .cmds, .steps, .array, .ctxs, .serve, .tru, .links, .health, .power] a0 (State.activatePhase a0 a1 a2) := by
  unfold State.activatePhase
  dsimp only
  split
  · split
    · refine Frame.step (State.refusePhase_frame ..) rfl ?_
      exact Frame.refl _ _
    · refine Frame.step (State.setStep_frame ..) rfl ?_
      refine Frame.ite ?_ ?_
      · refine Frame.step (State.launchFootprint_frame ..) rfl ?_
        refine Frame.step (State.activate_frame ..) rfl ?_
        exact Frame.refl _ _
      · refine Frame.step (State.activate_frame ..) rfl ?_
        exact Frame.refl _ _
  · refine Frame.step (State.refusePhase_frame ..) rfl ?_
    exact Frame.refl _ _

theorem State.beginAttempt_frame (a0) (a1) :
    Frame [.free, .out, .entries, .ctxEntries, .host, .near, .nearMem, .bulk, .bulkMem, .rings, .msix, .pages, .cmds, .steps, .array, .ctxs, .serve, .tru, .links, .health, .power] a0 (State.beginAttempt a0 a1) := by
  unfold State.beginAttempt
  dsimp only
  refine Frame.ite ?_ ?_
  · refine Frame.step (State.launchFootprint_frame ..) rfl ?_
    refine Frame.foldl _ (fun _ _ => ?_) ?_
    · refine Frame.step (State.powerCluster_frame ..) rfl ?_
      exact Frame.refl _ _
    · refine Frame.step (State.setStep_frame ..) rfl ?_
      exact Frame.refl _ _
  · refine Frame.ite ?_ ?_
    · refine Frame.step (State.activatePhase_frame ..) rfl ?_
      refine Frame.step (State.setStep_frame ..) rfl ?_
      exact Frame.refl _ _
    · refine Frame.foldl _ (fun _ _ => ?_) ?_
      · refine Frame.step (State.rappel_frame ..) rfl ?_
        exact Frame.refl _ _
      · refine Frame.step (State.setStep_frame ..) rfl ?_
        refine Frame.step (State.setStep_frame ..) rfl ?_
        exact Frame.refl _ _

theorem State.abortValue_frame (a0) (a1) :
    Frame [.free] a0 (State.abortValue a0 a1).2 := by
  unfold State.abortValue
  refine Frame.ite_of Prod.snd ?_ ?_
  · exact Frame.refl _ _
  · refine Frame.step (State.fresh_frame ..) rfl ?_
    exact Frame.refl _ _

theorem State.abortedEnd_frame (a0) (a1) (a2) :
    Frame [.free, .out, .entries, .ctxEntries, .host, .near, .nearMem, .bulk, .bulkMem, .rings, .msix, .pages, .cmds, .steps, .array, .ctxs, .serve, .tru, .links, .health, .power] a0 (State.abortedEnd a0 a1 a2) := by
  unfold State.abortedEnd
  refine Frame.step (State.failEnd_frame ..) rfl ?_
  refine Frame.step (State.abortValue_frame ..) rfl ?_
  exact Frame.refl _ _

theorem State.startStep_frame (a0) (a1) :
    Frame [.free, .out, .entries, .ctxEntries, .host, .near, .nearMem, .bulk, .bulkMem, .rings, .loops, .msix, .pages, .cmds, .steps, .array, .ctxs, .serve, .tru, .links, .health, .power] a0 (State.startStep a0 a1) := by
  unfold State.startStep
  dsimp only
  split
  · refine Frame.step (State.beginAttempt_frame ..) rfl ?_
    exact Frame.refl _ _
  · refine Frame.ite ?_ ?_
    · refine Frame.step (State.startReset_frame ..) rfl ?_
      refine Frame.step (State.failEnd_frame ..) rfl ?_
      exact Frame.refl _ _
    · refine Frame.step (State.beginAttempt_frame ..) rfl ?_
      exact Frame.refl _ _
  · refine Frame.step (State.abortedEnd_frame ..) rfl ?_
    exact Frame.refl _ _

theorem State.failLaunch_frame (a0) (a1) (a2) :
    Frame [.free, .out, .entries, .ctxEntries, .host, .near, .nearMem, .bulk, .bulkMem, .rings, .msix, .pages, .cmds, .steps, .array, .ctxs, .serve, .tru, .links, .health, .power] a0 (State.failLaunch a0 a1 a2) := by
  unfold State.failLaunch
  refine Frame.step (State.failEnd_frame ..) rfl ?_
  refine Frame.foldl _ (fun _ _ => ?_) ?_
  · refine Frame.step (State.groupMessage_frame ..) rfl ?_
    exact Frame.refl _ _
  · refine Frame.step (State.noteFail_frame ..) rfl ?_
    exact Frame.refl _ _

theorem State.limitEnd_frame (a0) (a1) (a2) (a3) :
    Frame [.free, .out, .entries, .ctxEntries, .host, .near, .nearMem, .bulk, .bulkMem, .rings, .loops, .msix, .pages, .cmds, .steps, .array, .ctxs, .serve, .tru, .links, .health, .power] a0 (State.limitEnd a0 a1 a2 a3) := by
  unfold State.limitEnd
  refine Frame.step (State.startReset_frame ..) rfl ?_
  refine Frame.step (State.failEnd_frame ..) rfl ?_
  exact Frame.refl _ _

theorem State.nextAttempt_frame (a0) (a1) (a2) :
    Frame [.free, .out, .entries, .ctxEntries, .host, .near, .nearMem, .bulk, .bulkMem, .rings, .loops, .msix, .pages, .cmds, .steps, .array, .ctxs, .serve, .tru, .links, .health, .power] a0 (State.nextAttempt a0 a1 a2) := by
  unfold State.nextAttempt
  dsimp only
  split
  · refine Frame.step (State.beginAttempt_frame ..) rfl ?_
    exact Frame.refl _ _
  · refine Frame.ite ?_ ?_
    · refine Frame.step (State.beginAttempt_frame ..) rfl ?_
      exact Frame.refl _ _
    · refine Frame.ite ?_ ?_
      · refine Frame.ite ?_ ?_
        · refine Frame.step (State.limitEnd_frame ..) rfl ?_
          exact Frame.refl _ _
        · refine Frame.step (State.beginAttempt_frame ..) rfl ?_
          exact Frame.refl _ _
      · refine Frame.step (State.abortedEnd_frame ..) rfl ?_
        exact Frame.refl _ _

theorem State.blockSeen_frame (a0) (a1) :
    Frame [.entries, .bulk, .power] a0 (State.blockSeen a0 a1) := by
  unfold State.blockSeen
  dsimp only
  split
  · refine Frame.ite ?_ ?_
    · refine Frame.step (State.accessed_frame ..) rfl ?_
      exact Frame.refl _ _
    · refine Frame.step (State.accessed_frame ..) rfl ?_
      refine Frame.step (State.accessed_frame ..) rfl ?_
      exact Frame.refl _ _
  · refine Frame.step (State.accessed_frame ..) rfl ?_
    exact Frame.refl _ _

theorem State.awaitList_frame (a0) (a1) (a2) (a3) :
    Frame [.free, .out, .entries, .ctxEntries, .host, .near, .nearMem, .bulk, .bulkMem, .rings, .msix, .pages, .cmds, .steps, .array, .ctxs, .serve, .tru, .links, .health, .power] a0 (State.awaitList a0 a1 a2 a3) := by
  unfold State.awaitList
  dsimp only
  split
  · refine Frame.step (State.failLaunch_frame ..) rfl ?_
    refine Frame.step (State.ask_frame ..) rfl ?_
    exact Frame.refl _ _
  · refine Frame.step (State.ask_frame ..) rfl ?_
    exact Frame.refl _ _

theorem State.launch_frame (a0) (a1) (a2) :
    Frame [.free, .out, .entries, .ctxEntries, .host, .near, .nearMem, .bulk, .bulkMem, .rings, .loops, .msix, .pages, .cmds, .steps, .array, .ctxs, .serve, .tru, .links, .health, .power] a0 (State.launch a0 a1 a2) := by
  unfold State.launch
  refine Frame.ite ?_ ?_
  · refine Frame.step (State.nextAttempt_frame ..) rfl ?_
    exact Frame.refl _ _
  · split
    · refine Frame.step (State.startStep_frame ..) rfl ?_
      refine Frame.step (State.dropFetches_frame ..) rfl ?_
      refine Frame.step (State.blockSeen_frame ..) rfl ?_
      exact Frame.refl _ _
    · split
      · refine Frame.step (State.awaitList_frame ..) rfl ?_
        exact Frame.refl _ _
      · refine Frame.step (State.failLaunch_frame ..) rfl ?_
        refine Frame.step (State.blockSeen_frame ..) rfl ?_
        exact Frame.refl _ _

theorem State.relaunch_frame (a0) (a1) :
    Frame [.free, .out, .entries, .ctxEntries, .host, .near, .nearMem, .bulk, .bulkMem, .rings, .loops, .msix, .pages, .cmds, .steps, .array, .ctxs, .serve, .tru, .links, .health, .power] a0 (State.relaunch a0 a1) := by
  unfold State.relaunch
  dsimp only
  refine Frame.step (State.nextAttempt_frame ..) rfl ?_
  refine Frame.step (State.discardWritten_frame ..) rfl ?_
  refine Frame.step (State.dropExchanges_frame ..) rfl ?_
  refine Frame.step (State.endHalts_frame ..) rfl ?_
  refine Frame.step (State.chargeReplay_frame ..) rfl ?_
  exact Frame.refl _ _

theorem State.keepHeld_frame (a0) (a1) :
    Frame [.free, .out, .entries, .ctxEntries, .host, .near, .nearMem, .bulk, .bulkMem, .rings, .msix, .pages, .cmds, .steps, .array, .ctxs, .serve, .tru, .links, .health, .power] a0 (State.keepHeld a0 a1) := by
  unfold State.keepHeld
  dsimp only
  refine Frame.step (State.setStep_frame ..) rfl ?_
  refine Frame.step (State.discardWritten_frame ..) rfl ?_
  refine Frame.step (State.dropExchanges_frame ..) rfl ?_
  refine Frame.step (State.endHalts_frame ..) rfl ?_
  refine Frame.step (State.chargeReplay_frame ..) rfl ?_
  exact Frame.refl _ _

theorem State.endInReset_frame (a0) (a1) (a2) :
    Frame [.free, .out, .entries, .ctxEntries, .host, .near, .nearMem, .bulk, .bulkMem, .rings, .msix, .pages, .cmds, .steps, .array, .ctxs, .serve, .tru, .links, .health, .power] a0 (State.endInReset a0 a1 a2) := by
  unfold State.endInReset
  split
  · refine Frame.ite ?_ ?_
    · refine Frame.step (State.silentEnd_frame ..) rfl ?_
      exact Frame.refl _ _
    · refine Frame.step (State.failEnd_frame ..) rfl ?_
      exact Frame.refl _ _
  · refine Frame.step (State.silentEnd_frame ..) rfl ?_
    exact Frame.refl _ _

theorem State.settleEnding_frame (a0) (a1) :
    Frame [.free, .out, .entries, .ctxEntries, .host, .near, .nearMem, .bulk, .bulkMem, .rings, .loops, .msix, .pages, .cmds, .steps, .array, .ctxs, .serve, .tru, .links, .health, .power] a0 (State.settleEnding a0 a1) := by
  unfold State.settleEnding
  split
  · exact Frame.refl _ _
  · refine Frame.step (State.endInReset_frame ..) rfl ?_
    exact Frame.refl _ _
  · refine Frame.step (State.silentEnd_frame ..) rfl ?_
    exact Frame.refl _ _
  · refine Frame.step (State.endInReset_frame ..) rfl ?_
    refine Frame.step (State.sendAbort_frame ..) rfl ?_
    exact Frame.refl _ _
  · refine Frame.ite ?_ ?_
    · refine Frame.step (State.limitEnd_frame ..) rfl ?_
      exact Frame.refl _ _
    · refine Frame.step (State.relaunch_frame ..) rfl ?_
      exact Frame.refl _ _
  · refine Frame.ite ?_ ?_
    · refine Frame.step (State.limitEnd_frame ..) rfl ?_
      exact Frame.refl _ _
    · refine Frame.step (State.relaunch_frame ..) rfl ?_
      exact Frame.refl _ _
  · refine Frame.step (State.keepHeld_frame ..) rfl ?_
    exact Frame.refl _ _

end Sys2Proof.Machine
end

