-- ==== Sys2Proof/Laws/Remote.lean ====
section
/-! SUPPORT. What the operations of Remote can change: one frame each. -/

namespace Sys2Proof.Machine

theorem State.stepDamage_frame (a0) (a1) (a2) :
    Frame [.free, .ctxEntries, .steps, .array, .links] a0 (State.stepDamage a0 a1 a2) := by
  unfold State.stepDamage
  dsimp only
  split
  · refine Frame.step (State.replayStep_frame ..) rfl ?_
    refine Frame.step (State.noteDamage_frame ..) rfl ?_
    exact Frame.refl _ _
  · refine Frame.ite ?_ ?_
    · refine Frame.step (State.noteDamage_frame ..) rfl ?_
      exact Frame.refl _ _
    · refine Frame.step (State.failStep_frame ..) rfl ?_
      refine Frame.ite ?_ ?_
      · refine Frame.step (State.sendAbort_frame ..) rfl ?_
        refine Frame.step (State.noteDamage_frame ..) rfl ?_
        exact Frame.refl _ _
      · refine Frame.step (State.noteDamage_frame ..) rfl ?_
        exact Frame.refl _ _

theorem State.stepMiss_frame (a0) (a1) (a2) :
    Frame [.free, .out, .entries, .ctxEntries, .steps, .array, .links] a0 (State.stepMiss a0 a1 a2) := by
  unfold State.stepMiss
  refine Frame.ite ?_ ?_
  · refine Frame.step (State.stepDamage_frame ..) rfl ?_
    exact Frame.refl _ _
  · refine Frame.step (State.endStep_frame ..) rfl ?_
    refine Frame.step (State.noteMiss_frame ..) rfl ?_
    exact Frame.refl _ _

theorem State.stepGot_frame_error {a0} {a1} {a2} {t : State} (h : State.stepGot a0 a1 a2 = .error t) :
    Frame [.free, .ctxEntries, .steps, .array, .links, .out, .entries] a0 t := by
  unfold State.stepGot at h
  split at h
  · cases h
  · cases h; exact Frame.mono (State.stepMiss_frame ..) rfl
  · cases h; exact Frame.mono (State.stepDamage_frame ..) rfl

theorem State.stepRead_frame_error {a0} {a1} {a2} {a3} {t : State} (h : State.stepRead a0 a1 a2 a3 = .error t) :
    Frame [.free, .ctxEntries, .steps, .array, .links, .out, .entries] a0 t :=
  State.stepGot_frame_error h

theorem State.stepWrite_frame_error {a0} {a1} {a2} {a3} {t : State} (h : State.stepWrite a0 a1 a2 a3 = .error t) :
    Frame [.free, .entries, .ctxEntries, .host, .near, .nearMem, .bulk, .bulkMem, .steps, .array, .links, .out, .power] a0 t := by
  unfold State.stepWrite at h
  split at h
  · dsimp only at h
    split at h
    · cases h
    · rename_i e
      cases h
      exact Frame.step (State.stepMiss_frame ..) rfl ((Frame.of_fst (State.remoteWrite_frame ..) e).mono rfl)
  · split at h
    · cases h
    · rename_i e
      cases h
      exact Frame.step (State.stepMiss_frame ..) rfl ((Frame.of_fst (State.writes_frame ..) e).mono rfl)

theorem State.stepWrite_frame_ok {s p va bs} {t : State} (h : State.stepWrite s p va bs = .ok t) :
    Frame [.free, .entries, .ctxEntries, .host, .near, .nearMem, .bulk, .bulkMem, .steps, .array, .links, .out, .power] s t := by
  unfold State.stepWrite at h
  split at h
  · dsimp only at h
    split at h
    · rename_i e
      have k := (Frame.of_fst (State.remoteWrite_frame s ..) e).mono (g := [.free, .entries, .ctxEntries, .host, .near, .nearMem, .bulk, .bulkMem, .steps, .array, .links, .out, .power]) rfl
      cases h
      split
      · exact Frame.step (State.setStep_frame ..) rfl k
      · exact k
    · cases h
  · split at h
    · rename_i e
      cases h
      exact (Frame.of_fst (State.writes_frame ..) e).mono rfl
    · cases h

/-- A step's read within a computation. -/
theorem State.stepRead_res {g : List Zone} {r s : State} (p : Step) (va n : Nat)
    (sub : [Zone.free, .ctxEntries, .steps, .array, .links, .out, .entries].all g.contains = true) (h : Frame g r s) :
    Frame.Res g r (fun _ => True) (s.stepRead p va n) :=
  .of (fun _ _ => trivial) fun _ e => Frame.step (State.stepRead_frame_error e) sub h

/-- A step's write within a computation. -/
theorem State.stepWrite_res {g : List Zone} {r s : State} (p : Step) (va : Nat) (bs : Bytes)
    (sub : [Zone.free, .entries, .ctxEntries, .host, .near, .nearMem, .bulk, .bulkMem, .steps, .array, .links, .out, .power].all g.contains =
      true) (h : Frame g r s) : Frame.Res g r (Frame g r) (s.stepWrite p va bs) :=
  .of (fun _ e => Frame.step (State.stepWrite_frame_ok e) sub h) fun _ e => Frame.step (State.stepWrite_frame_error e) sub h

end Sys2Proof.Machine
end

