-- ==== Sys2Proof/Laws/Tru.lean ====
section
/-! SUPPORT. What the operations of Tru can change: one frame each. -/

namespace Sys2Proof.Machine

theorem State.writeExchange_frame (a0) (a1) (a2) (a3) :
    Frame [.tru] a0 (State.writeExchange a0 a1 a2 a3).1 := by
  unfold State.writeExchange
  refine Frame.ite_of Prod.fst ?_ ?_
  · refine Frame.set_tru _ rfl ?_
    exact Frame.refl _ _
  · exact Frame.refl _ _

theorem State.setExchange_frame (a0) (a1) :
    Frame [.tru] a0 (State.setExchange a0 a1) := by
  unfold State.setExchange
  refine Frame.set_tru _ rfl ?_
  exact Frame.refl _ _

theorem State.truRead_res {g : List Zone} {r s : State} (p : Step) (va n : Nat)
    (sub : [Zone.free, .entries, .ctxEntries, .bulk, .steps, .array, .links, .out, .power].all g.contains = true) (h : Frame g r s) :
    Frame.Res g r (fun x => Frame g r x.1) (s.truRead p va n) := by
  have parts : [Zone.free, .ctxEntries, .steps, .array, .links, .out, .entries].all g.contains = true ∧
      [Zone.entries, .bulk, .power].all g.contains = true := by
    simp only [List.all_cons, List.all_nil, Bool.and_true, Bool.and_eq_true] at sub ⊢
    tauto
  unfold State.truRead
  have k := Frame.step (State.accessed_frame s otherUnit p.ctx va n) parts.2 h
  exact Frame.Res.bind (State.stepRead_res _ _ _ parts.1 k) fun _ _ => k

theorem State.beginDispatch_res (s) (p) (e) :
    Frame.Res [.free, .entries, .ctxEntries, .bulk, .steps, .array, .tru, .links, .out, .power] s (Frame [.free, .entries, .ctxEntries, .bulk, .steps, .array, .tru, .links, .out, .power] s) (State.beginDispatch s p e) := by
  unfold State.beginDispatch
  refine Frame.Res.bind (State.truRead_res _ _ _ rfl (Frame.refl _ _)) fun x h => ?_
  obtain ⟨s1, b1⟩ := x
  refine Frame.Res.ite ?_ ?_
  · exact Frame.step (State.endStep_frame ..) rfl h
  · refine Frame.Res.bind (State.truRead_res _ _ _ rfl h) fun x h => ?_
    obtain ⟨s2, b2⟩ := x
    dsimp only
    split
    · exact Frame.Res.bind (State.truRead_res _ _ _ rfl h) fun _ h =>
        Frame.step (State.setExchange_frame ..) rfl (Frame.step (State.groupCast_frame ..) rfl
          (Frame.step (State.cbump_frame ..) rfl h))
    · exact Frame.step (State.setExchange_frame ..) rfl (Frame.step (State.groupCast_frame ..) rfl
        (Frame.step (State.cbump_frame ..) rfl h))

theorem State.beginDispatch_frame_error {s p e} {t : State} (h : State.beginDispatch s p e = .error t) :
    Frame [.free, .entries, .ctxEntries, .bulk, .steps, .array, .tru, .links, .out, .power] s t := (State.beginDispatch_res s p e).error h

theorem State.beginDispatch_frame_ok {s p e} {t : State} (h : State.beginDispatch s p e = .ok t) :
    Frame [.free, .entries, .ctxEntries, .bulk, .steps, .array, .tru, .links, .out, .power] s t := (State.beginDispatch_res s p e).ok h

theorem State.beginReturn_frame_error {s p e} {t : State} (h : State.beginReturn s p e = .error t) :
    Frame [.tru, .links] s t := by cases h

theorem State.beginReturn_frame_ok {s p e} {t : State} (h : State.beginReturn s p e = .ok t) :
    Frame [.tru, .links] s t := by
  cases h
  exact Frame.step (State.setExchange_frame ..) rfl (Frame.mono (State.groupCast_frame ..) rfl)

theorem State.beginExchange_frame (s) (e) : Frame [.free, .entries, .ctxEntries, .bulk, .steps, .array, .tru, .links, .out, .power] s (State.beginExchange s e) := by
  unfold State.beginExchange
  split
  · exact Frame.refl _ _
  · split
    all_goals
      rename_i h
      split at h
      · first | exact State.beginDispatch_frame_ok h | exact State.beginDispatch_frame_error h
      · first | exact (State.beginReturn_frame_ok h).mono rfl | exact (State.beginReturn_frame_error h).mono rfl

theorem State.startQueued_frame (s) (n) : Frame [.free, .entries, .ctxEntries, .bulk, .steps, .array, .tru, .links, .out, .power] s (State.startQueued s n) := by
  induction n generalizing s with
  | zero => exact Frame.refl _ _
  | succ n ih =>
    unfold State.startQueued
    refine Frame.ite (Frame.refl _ _) ?_
    split
    · exact Frame.refl _ _
    · exact (State.beginExchange_frame ..).trans (ih ..)

theorem State.triggerExchange_frame (a0) (a1) (a2) (a3) :
    Frame [.tru] a0 (State.triggerExchange a0 a1 a2 a3) := by
  unfold State.triggerExchange
  dsimp only
  refine Frame.set_tru _ rfl ?_
  exact Frame.refl _ _

theorem State.countQueued_frame (a0) (a1) :
    Frame [.free, .entries, .tru] a0 (State.countQueued a0 a1) := by
  unfold State.countQueued
  dsimp only
  refine Frame.ite ?_ ?_
  · refine Frame.step (State.dbump_frame ..) rfl ?_
    refine Frame.set_tru _ rfl ?_
    exact Frame.refl _ _
  · exact Frame.refl _ _

theorem State.nextExchanges_frame (a0) :
    Frame [.free, .entries, .ctxEntries, .bulk, .steps, .array, .tru, .links, .out, .power] a0 (State.nextExchanges a0) := by
  unfold State.nextExchanges
  refine Frame.step (State.countQueued_frame ..) rfl ?_
  refine Frame.step (State.startQueued_frame ..) rfl ?_
  exact Frame.refl _ _

theorem State.triggerExchanges_frame (a0) (a1) (a2) :
    Frame [.free, .entries, .ctxEntries, .bulk, .steps, .array, .tru, .links, .out, .power] a0 (State.triggerExchanges a0 a1 a2) := by
  unfold State.triggerExchanges
  dsimp only
  refine Frame.step (State.countQueued_frame ..) rfl ?_
  refine Frame.step (State.startQueued_frame ..) rfl ?_
  refine Frame.foldl _ (fun _ _ => ?_) ?_
  · refine Frame.step (State.triggerExchange_frame ..) rfl ?_
    exact Frame.refl _ _
  · exact Frame.refl _ _

theorem State.fillSlot_res {r s : State} (p e slot expert) (h : Frame [.free, .entries, .ctxEntries, .host, .near, .nearMem, .bulk, .bulkMem, .steps, .array, .links, .out, .power] r s) :
    Frame.Res [.free, .entries, .ctxEntries, .host, .near, .nearMem, .bulk, .bulkMem, .steps, .array, .links, .out, .power] r (Frame [.free, .entries, .ctxEntries, .host, .near, .nearMem, .bulk, .bulkMem, .steps, .array, .links, .out, .power] r) (State.fillSlot s p e slot expert) := by
  unfold State.fillSlot
  refine Frame.Res.bind (State.stepWrite_res _ _ _ rfl h) fun _ h => ?_
  refine Frame.Res.bind (State.stepWrite_res _ _ _ rfl h) fun _ h => ?_
  exact Frame.step (State.cbump_frame ..) rfl h

theorem State.fillSlots_res {r s : State} (p e ks) (h : Frame [.free, .entries, .ctxEntries, .host, .near, .nearMem, .bulk, .bulkMem, .steps, .array, .links, .out, .power] r s) :
    Frame.Res [.free, .entries, .ctxEntries, .host, .near, .nearMem, .bulk, .bulkMem, .steps, .array, .links, .out, .power] r (Frame [.free, .entries, .ctxEntries, .host, .near, .nearMem, .bulk, .bulkMem, .steps, .array, .links, .out, .power] r) (State.fillSlots s p e ks) := by
  induction ks generalizing s with
  | nil => exact h
  | cons k ks ih =>
    unfold State.fillSlots
    extract_lets jp
    split
    · exact Frame.Res.bind (State.fillSlot_res _ _ _ _ h) fun _ h => ih h
    · exact Frame.Res.bind (State.stepWrite_res _ _ _ rfl h) fun _ h => ih h

theorem State.gatherRows_res {r s : State} (p b ns) (h : Frame [.free, .entries, .ctxEntries, .host, .near, .nearMem, .bulk, .bulkMem, .steps, .array, .links, .out, .power] r s) :
    Frame.Res [.free, .entries, .ctxEntries, .host, .near, .nearMem, .bulk, .bulkMem, .steps, .array, .links, .out, .power] r (fun x => Frame [.free, .entries, .ctxEntries, .host, .near, .nearMem, .bulk, .bulkMem, .steps, .array, .links, .out, .power] r x.1) (State.gatherRows s p b ns) := by
  induction ns generalizing s with
  | nil => exact h
  | cons n ns ih =>
    unfold State.gatherRows
    refine Frame.Res.bind (State.truRead_res _ _ _ rfl h) fun _ h => ?_
    exact Frame.Res.bind (ih h) fun _ h => h

theorem State.moveExpert_res {r s : State} (p e k) (h : Frame [.free, .entries, .ctxEntries, .host, .near, .nearMem, .bulk, .bulkMem, .steps, .array, .links, .out, .power] r s) :
    Frame.Res [.free, .entries, .ctxEntries, .host, .near, .nearMem, .bulk, .bulkMem, .steps, .array, .links, .out, .power] r (fun x => Frame [.free, .entries, .ctxEntries, .host, .near, .nearMem, .bulk, .bulkMem, .steps, .array, .links, .out, .power] r x.1) (State.moveExpert s p e k) := by
  unfold State.moveExpert
  extract_lets b mine kept s1
  have h1 : Frame [.free, .entries, .ctxEntries, .host, .near, .nearMem, .bulk, .bulkMem, .steps, .array, .links, .out, .power] r s1 :=
    Frame.step (State.cbump_frame ..) rfl h
  clear_value kept
  cases kept with
  | nil => exact h1
  | cons y ys =>
    refine Frame.Res.bind (State.gatherRows_res _ _ _ h1) fun x h => ?_
    obtain ⟨s2, rows⟩ := x
    dsimp only
    refine Frame.Res.ite ?_ ?_
    · exact Frame.Res.bind (State.stepWrite_res _ _ _ rfl h) fun _ h => h
    · split
      · exact Frame.step (Frame.of_fst (State.remoteWrite_frame ..) (by assumption)) rfl h
      · exact Frame.step (State.stepMiss_frame ..) rfl (Frame.step (Frame.of_fst (State.remoteWrite_frame ..) (by assumption)) rfl h)

theorem State.moveRows_res {r s : State} (p e cs) (h : Frame [.free, .entries, .ctxEntries, .host, .near, .nearMem, .bulk, .bulkMem, .steps, .array, .links, .out, .power] r s) :
    Frame.Res [.free, .entries, .ctxEntries, .host, .near, .nearMem, .bulk, .bulkMem, .steps, .array, .links, .out, .power] r (fun x => Frame [.free, .entries, .ctxEntries, .host, .near, .nearMem, .bulk, .bulkMem, .steps, .array, .links, .out, .power] r x.1) (State.moveRows s p e cs) := by
  induction cs generalizing s with
  | nil => exact h
  | cons c cs ih =>
    unfold State.moveRows
    refine Frame.Res.bind (State.moveExpert_res _ _ _ h) fun _ h => ?_
    exact Frame.Res.bind (ih h) fun _ h => h

theorem State.addExchange_frame (a0) (a1) (a2) (a3) (a4) (a5) :
    Frame [.steps] a0 (State.addExchange a0 a1 a2 a3 a4 a5) := by
  unfold State.addExchange
  split
  · exact Frame.refl _ _
  · refine Frame.step (State.setStep_frame ..) rfl ?_
    exact Frame.refl _ _

theorem State.dispatchRows_res (s) (p e) :
    Frame.Res [.free, .entries, .ctxEntries, .host, .near, .nearMem, .bulk, .bulkMem, .steps, .array, .ctxs, .tru, .links, .out, .power] s (Frame [.free, .entries, .ctxEntries, .host, .near, .nearMem, .bulk, .bulkMem, .steps, .array, .ctxs, .tru, .links, .out, .power] s) (State.dispatchRows s p e) := by
  unfold State.dispatchRows
  have big : ∀ {α : Type} {t : State} {post : α → Prop} {x : Except State α}, Frame [.free, .entries, .ctxEntries, .host, .near, .nearMem, .bulk, .bulkMem, .steps, .array, .ctxs, .tru, .links, .out, .power] s t →
      Frame.Res [.free, .entries, .ctxEntries, .host, .near, .nearMem, .bulk, .bulkMem, .steps, .array, .links, .out, .power] t post x → Frame.Res [.free, .entries, .ctxEntries, .host, .near, .nearMem, .bulk, .bulkMem, .steps, .array, .ctxs, .tru, .links, .out, .power] s post x := fun h k => by
    rename_i x
    cases x with
    | ok a => exact k
    | error t => exact Frame.step k rfl h
  refine Frame.Res.bind (State.stepWrite_res _ _ _ rfl (Frame.refl _ _)) fun t h => ?_
  refine Frame.Res.bind (big h (State.fillSlots_res _ _ _ (Frame.refl _ _))) fun u k => ?_
  have h2 := Frame.step (g := [.free, .entries, .ctxEntries, .host, .near, .nearMem, .bulk, .bulkMem, .steps, .array, .ctxs, .tru, .links, .out, .power]) k rfl h
  refine Frame.Res.bind (big h2 (State.moveRows_res _ _ _ (Frame.refl _ _))) fun x k => ?_
  exact Frame.step (State.addExchange_frame ..) rfl (Frame.step (State.setExchange_frame ..) rfl
    (Frame.step (State.flushPorts_frame ..) rfl (Frame.step k rfl h2)))

theorem State.dispatchRows_frame_error {s p e} {t : State} (h : State.dispatchRows s p e = .error t) :
    Frame [.free, .entries, .ctxEntries, .host, .near, .nearMem, .bulk, .bulkMem, .steps, .array, .ctxs, .tru, .links, .out, .power] s t := (State.dispatchRows_res s p e).error h

theorem State.dispatchRows_frame_ok {s p e} {t : State} (h : State.dispatchRows s p e = .ok t) :
    Frame [.free, .entries, .ctxEntries, .host, .near, .nearMem, .bulk, .bulkMem, .steps, .array, .ctxs, .tru, .links, .out, .power] s t := (State.dispatchRows_res s p e).ok h

theorem execDispatchCountsComplete_frame {a0} {a1} {t : State} (h : execDispatchCountsComplete a0 a1 = .next t) :
    Frame [.free, .entries, .ctxEntries, .host, .near, .nearMem, .bulk, .bulkMem, .steps, .array, .ctxs, .tru, .links, .out, .power] a1 t := by
  cases h
  split
  · exact Frame.refl _ _
  · refine Frame.ite ?_ ?_
    · split
      · refine Frame.step (State.dispatchRows_frame_ok (by assumption)) rfl ?_
        exact Frame.refl _ _
      · refine Frame.step (by first | exact State.dispatchRows_frame_ok (by assumption) | exact State.dispatchRows_frame_error (by assumption)) rfl ?_
        exact Frame.refl _ _
    · exact Frame.refl _ _

theorem State.exchangeDone_frame (a0) (a1) :
    Frame [.free, .entries, .ctxEntries, .bulk, .steps, .array, .tru, .links, .out, .power] a0 (State.exchangeDone a0 a1) := by
  unfold State.exchangeDone
  refine Frame.step (State.nextExchanges_frame ..) rfl ?_
  refine Frame.step (State.addExchange_frame ..) rfl ?_
  refine Frame.step (State.setExchange_frame ..) rfl ?_
  exact Frame.refl _ _

theorem execDispatchComplete_frame {a0} {a1} {t : State} (h : execDispatchComplete a0 a1 = .next t) :
    Frame [.free, .entries, .ctxEntries, .bulk, .steps, .array, .tru, .links, .out, .power] a1 t := by
  cases h
  split
  · exact Frame.refl _ _
  · refine Frame.ite ?_ ?_
    · refine Frame.step (State.exchangeDone_frame ..) rfl ?_
      exact Frame.refl _ _
    · exact Frame.refl _ _

theorem State.fetchRow_res {r s : State} (p e d i c) (h : Frame [.free, .entries, .ctxEntries, .host, .near, .nearMem, .bulk, .bulkMem, .steps, .array, .links, .out, .power] r s) :
    Frame.Res [.free, .entries, .ctxEntries, .host, .near, .nearMem, .bulk, .bulkMem, .steps, .array, .links, .out, .power] r (fun x => Frame [.free, .entries, .ctxEntries, .host, .near, .nearMem, .bulk, .bulkMem, .steps, .array, .links, .out, .power] r x.1) (State.fetchRow s p e d i c) := by
  unfold State.fetchRow
  refine Frame.Res.ite ?_ ?_
  · exact Frame.Res.bind (State.stepWrite_res _ _ _ rfl h) fun _ h => h
  · split
    refine Frame.Res.ite ?_ ?_
    · refine Frame.Res.bind (State.truRead_res _ _ _ rfl h) fun _ h => ?_
      exact Frame.Res.bind (State.stepWrite_res _ _ _ rfl h) fun _ h => h
    · split
      · exact Frame.step (Frame.of_fst (State.remoteRead_frame ..) (by assumption)) rfl h
      · exact Frame.step (State.stepMiss_frame ..) rfl (Frame.step (Frame.of_fst (State.remoteRead_frame ..) (by assumption)) rfl h)

theorem State.fetchRows_res {r s : State} (p e d cs) (h : Frame [.free, .entries, .ctxEntries, .host, .near, .nearMem, .bulk, .bulkMem, .steps, .array, .links, .out, .power] r s) :
    Frame.Res [.free, .entries, .ctxEntries, .host, .near, .nearMem, .bulk, .bulkMem, .steps, .array, .links, .out, .power] r (fun x => Frame [.free, .entries, .ctxEntries, .host, .near, .nearMem, .bulk, .bulkMem, .steps, .array, .links, .out, .power] r x.1) (State.fetchRows s p e d cs) := by
  induction cs generalizing s with
  | nil => exact h
  | cons c cs ih =>
    unfold State.fetchRows
    refine Frame.Res.bind (State.fetchRow_res _ _ _ _ _ h) fun _ h => ?_
    exact Frame.Res.bind (ih h) fun _ h => h

theorem State.fetchRows_frame_error {s p e d cs} {t : State} (h : State.fetchRows s p e d cs = .error t) :
    Frame [.free, .entries, .ctxEntries, .host, .near, .nearMem, .bulk, .bulkMem, .steps, .array, .links, .out, .power] s t := (State.fetchRows_res p e d cs (Frame.refl _ s)).error h

theorem State.fetchRows_frame_ok {s p e d cs x} {t : State} (h : State.fetchRows s p e d cs = .ok (t, x)) :
    Frame [.free, .entries, .ctxEntries, .host, .near, .nearMem, .bulk, .bulkMem, .steps, .array, .links, .out, .power] s t := (State.fetchRows_res p e d cs (Frame.refl _ s)).ok h

theorem execReturnAnnounced_frame {a0} {a1} {t : State} (h : execReturnAnnounced a0 a1 = .next t) :
    Frame [.free, .entries, .ctxEntries, .host, .near, .nearMem, .bulk, .bulkMem, .steps, .array, .ctxs, .tru, .links, .out, .power] a1 t := by
  cases h
  split
  · exact Frame.refl _ _
  · split
    · exact Frame.refl _ _
    · refine Frame.ite ?_ ?_
      · split
        · refine Frame.step (State.addExchange_frame ..) rfl ?_
          refine Frame.step (State.setExchange_frame ..) rfl ?_
          refine Frame.step (State.fetchRows_frame_ok (by assumption)) rfl ?_
          exact Frame.refl _ _
        · refine Frame.step (by first | exact State.fetchRows_frame_ok (by assumption) | exact State.fetchRows_frame_error (by assumption)) rfl ?_
          exact Frame.refl _ _
      · exact Frame.refl _ _

theorem execReturnComplete_frame {a0} {a1} {t : State} (h : execReturnComplete a0 a1 = .next t) :
    Frame [.free, .entries, .ctxEntries, .bulk, .steps, .array, .tru, .links, .out, .power] a1 t := by
  cases h
  split
  · exact Frame.refl _ _
  · refine Frame.ite ?_ ?_
    · refine Frame.step (State.exchangeDone_frame ..) rfl ?_
      exact Frame.refl _ _
    · exact Frame.refl _ _

end Sys2Proof.Machine
end

