-- ==== Sys2Proof/Laws/Serve.lean ====
section
/-! SUPPORT. What the operations of Serve can change: one frame each. -/

namespace Sys2Proof.Machine

theorem State.viewFor_frame (a0) (a1) (a2) :
    Frame [.host, .near, .bulk] a0 (State.viewFor a0 a1 a2) := by
  unfold State.viewFor
  split
  · refine Frame.step (State.ownView_frame ..) rfl ?_
    exact Frame.refl _ _
  · exact Frame.refl _ _

theorem State.answer_frame (a0) (a1) (a2) (a3) (a4) (a5) (a6) (a7) (a8) :
    Frame [.links] a0 (State.answer a0 a1 a2 a3 a4 a5 a6 a7 a8) := by
  unfold State.answer
  refine Frame.step (State.queuePacket_frame ..) rfl ?_
  exact Frame.refl _ _

theorem State.poisonWritten_frame (a0) (a1) (a2) (a3) :
    Frame [.free, .near, .bulk] a0 (State.poisonWritten a0 a1 a2 a3) := by
  unfold State.poisonWritten
  dsimp only
  split
  · refine Frame.set_near _ id (.inr rfl) (.inl rfl) ?_
    refine Frame.step (State.fresh_frame ..) rfl ?_
    exact Frame.refl _ _
  · refine Frame.set_bulk _ id (.inr rfl) (.inl rfl) ?_
    refine Frame.step (State.fresh_frame ..) rfl ?_
    exact Frame.refl _ _
  · refine Frame.step (State.fresh_frame ..) rfl ?_
    exact Frame.refl _ _

theorem State.noteRows_frame (a0) (a1) (a2) :
    Frame [.tru] a0 (State.noteRows a0 a1 a2) := by
  unfold State.noteRows
  refine Frame.step (State.setExchange_frame ..) rfl ?_
  exact Frame.refl _ _

theorem State.readPoison_frame_ok {s c va n x y} {t : State} (h : State.readPoison s c va n = .ok (x, y, t)) :
    Frame [.free] s t := by
  induction n generalizing s va x y t with
  | zero => cases h; exact Frame.refl _ _
  | succ n ih =>
    unfold State.readPoison at h
    dsimp only at h
    have go : ∀ (b : Byte) (bad : Bool) (s1 : State), Frame [.free] s s1 →
        (match s1.readPoison c (va + 1) n with
          | .ok (bs, bad', s) => Except.ok (b :: bs, bad || bad', s)
          | .error k => .error k) = .ok (x, y, t) → Frame [.free] s t := by
      intro b bad s1 h1 h2
      split at h2
      · rename_i e; cases h2; exact h1.trans (ih e)
      · cases h2
    cases hb : s.readByte c va with
    | ok b => rw [hb] at h; exact go _ _ _ (Frame.refl _ _) h
    | miss m => rw [hb] at h; cases h
    | damaged d => rw [hb] at h; exact go _ _ _ (State.fresh_frame ..) h

theorem State.serveRead_frame_ok {s c a n x y} {t : State} (h : State.serveRead s c a n = .ok (x, y, t)) :
    Frame [.free, .entries, .ctxEntries, .bulk, .power, .health] s t := by
  unfold State.serveRead at h
  split at h
  · cases h
  · split at h
    · split at h
      · cases h
      · cases h; exact Frame.refl _ _
    · split at h
      · cases h
        refine Frame.step (State.pathEvents_frame ..) rfl (Frame.step (State.accessed_frame ..) rfl (Frame.ite ?_ ?_))
        · exact Frame.step (State.noteDamage_frame ..) rfl (Frame.set_free _ rfl (Frame.refl _ _))
        · exact Frame.set_free _ rfl (Frame.refl _ _)
      · cases h

theorem State.serveWrite_frame_ok {s c src a poison bs} {t : State} (h : State.serveWrite s c src a poison bs = .ok t) :
    Frame [.free, .out, .entries, .ctxEntries, .host, .near, .nearMem, .bulk, .bulkMem, .rings, .msix, .pages, .counters, .cmds, .tru, .health, .power] s t := by
  unfold State.serveWrite at h
  split at h
  · cases h
  · split at h
    · split at h
      · cases h
      · cases h; exact Frame.mono (State.setCounter_frame ..) rfl
    · dsimp only at h
      split at h
      · rename_i e; cases h
        have hw := (Frame.of_fst (State.writes_frame ..) e).mono (g := [.free, .out, .entries, .ctxEntries, .host, .near, .nearMem, .bulk, .bulkMem, .rings, .msix, .pages, .counters, .cmds, .tru, .health, .power]) rfl
        have hp := Frame.step (State.pathEvents_frame _ otherUnit c a bs.length 2) rfl
          (Frame.ite (p := poison = true) (Frame.step (State.poisonWritten_frame _ c a bs.length) rfl hw) hw)
        split
        · exact Frame.step (State.noteRows_frame ..) rfl hp
        · exact hp
      · cases h

theorem State.perform_frame (a0) (a1) :
    Frame [.free, .out, .entries, .ctxEntries, .host, .near, .nearMem, .bulk, .bulkMem, .rings, .msix, .pages, .counters, .cmds, .tru, .links, .health, .power] a0 (State.perform a0 a1) := by
  unfold State.perform
  dsimp only
  split
  · split
    · exact Frame.step (State.answer_frame ..) rfl ((State.serveRead_frame_ok (by assumption)).mono rfl)
    · exact Frame.mono (State.answer_frame ..) rfl
  · split
    · exact Frame.step (State.answer_frame ..) rfl (Frame.mono (State.setPort_frame ..) rfl)
    · exact Frame.step (State.answer_frame ..) rfl (Frame.mono (State.setPort_frame ..) rfl)
  · split
    · exact (State.serveWrite_frame_ok (by assumption)).mono rfl
    · exact Frame.mono (State.setPort_frame ..) rfl

theorem State.epochDrop_frame (a0) (a1) (a2) :
    Frame [.free, .entries, .ctxEntries] a0 (State.epochDrop a0 a1 a2) := by
  unfold State.epochDrop
  refine Frame.step (State.cbump_frame ..) rfl ?_
  refine Frame.step (State.dbump_frame ..) rfl ?_
  exact Frame.refl _ _

theorem State.serveAccess_frame (a0) (a1) :
    Frame [.free, .out, .entries, .ctxEntries, .host, .near, .nearMem, .bulk, .bulkMem, .rings, .msix, .pages, .counters, .cmds, .tru, .links, .health, .power] a0 (State.serveAccess a0 a1) := by
  unfold State.serveAccess
  refine Frame.ite ?_ ?_
  · refine Frame.step (State.epochDrop_frame ..) rfl ?_
    exact Frame.refl _ _
  · refine Frame.ite ?_ ?_
    · refine Frame.set_links _ rfl ?_
      exact Frame.refl _ _
    · refine Frame.step (State.perform_frame ..) rfl ?_
      exact Frame.refl _ _

theorem State.serveHeld_frame (a0) :
    Frame [.free, .out, .entries, .ctxEntries, .host, .near, .nearMem, .bulk, .bulkMem, .rings, .msix, .pages, .counters, .cmds, .tru, .links, .health, .power] a0 (State.serveHeld a0) := by
  unfold State.serveHeld
  refine Frame.foldl _ (fun _ _ => ?_) ?_
  · refine Frame.step (State.serveAccess_frame ..) rfl ?_
    exact Frame.refl _ _
  · refine Frame.set_links _ rfl ?_
    exact Frame.refl _ _

end Sys2Proof.Machine
end

