-- ==== Sys2Proof/Laws/Status.lean ====
section
/-! SUPPORT. What the operations of Status can change: one frame each. -/

namespace Sys2Proof.Machine

theorem State.writeParts_frame (s) (va) (ps) :
    Frame [.entries, .host, .near, .nearMem, .bulk, .bulkMem, .power] s (State.writeParts s va ps).1 := by
  induction ps generalizing s with
  | nil => exact Frame.refl _ _
  | cons x ps ih =>
    unfold State.writeParts
    split
    · exact (Frame.of_fst (State.writes_frame ..) (by assumption)).trans (ih ..)
    · exact Frame.of_fst (State.writes_frame ..) (by assumption)

theorem snapTaken_frame {s : State} {r : State × Bool} (h : Frame [.entries, .host, .near, .nearMem, .bulk, .bulkMem, .power, .free] s r.1) :
    Frame [.entries, .host, .near, .nearMem, .bulk, .bulkMem, .power, .free] s (snapTaken r) :=
  Frame.ite (Frame.step (State.dbump_frame ..) rfl (Frame.step (State.dset_frame ..) rfl h)) h

theorem State.snapshot_frame (s) (reason) (mask) (suspects) (x) (wait) :
    Frame [.entries, .host, .near, .nearMem, .bulk, .bulkMem, .power, .free] s (State.snapshot s reason mask suspects x wait) := by
  unfold State.snapshot
  refine Frame.ite (Frame.mono (State.dbump_frame ..) rfl) (snapTaken_frame ?_)
  exact Frame.mono (State.writeParts_frame ..) rfl

theorem State.imageSeen_frame (a0) (a1) (a2) :
    Frame [.entries, .bulk, .power] a0 (State.imageSeen a0 a1 a2) := by
  unfold State.imageSeen
  split
  · refine Frame.step (State.accessed_frame ..) rfl ?_
    exact Frame.refl _ _
  · refine Frame.step (State.accessed_frame ..) rfl ?_
    exact Frame.refl _ _

end Sys2Proof.Machine
end

