-- ==== Sys2Proof/Laws/Recovery.lean ====
section
/-! SUPPORT. What the operations of Recovery can change: one frame each. -/

namespace Sys2Proof.Machine

theorem State.strikeStep_frame (a0) (a1) (a2) :
    Frame [.steps, .links] a0 (State.strikeStep a0 a1 a2) := by
  unfold State.strikeStep
  refine Frame.ite ?_ ?_
  · refine Frame.step (State.sendAbort_frame ..) rfl ?_
    exact Frame.refl _ _
  · refine Frame.ite ?_ ?_
    · exact Frame.refl _ _
    · refine Frame.ite ?_ ?_
      · refine Frame.ite ?_ ?_
        · refine Frame.step (State.setStep_frame ..) rfl ?_
          exact Frame.refl _ _
        · exact Frame.refl _ _
      · refine Frame.step (State.setStep_frame ..) rfl ?_
        refine Frame.step (State.sendAbort_frame ..) rfl ?_
        exact Frame.refl _ _

theorem State.drainAll_frame (a0) (a1) :
    Frame [.free, .ctxEntries, .array] a0 (State.drainAll a0 a1) := by
  unfold State.drainAll
  refine Frame.foldl _ (fun _ _ => ?_) ?_
  · refine Frame.step (State.rappel_frame ..) rfl ?_
    exact Frame.refl _ _
  · exact Frame.refl _ _

theorem State.dropAllBinds_frame (a0) :
    Frame [.serve] a0 (State.dropAllBinds a0) := by
  unfold State.dropAllBinds
  refine Frame.foldl _ (fun _ _ => ?_) ?_
  · refine Frame.step (State.dropUnbinds_frame ..) rfl ?_
    refine Frame.step (State.dropBinds_frame ..) rfl ?_
    exact Frame.refl _ _
  · exact Frame.refl _ _

theorem State.dropPending_frame (a0) :
    Frame [.loops] a0 (State.dropPending a0) := by
  unfold State.dropPending
  refine Frame.set_hif _ (.inr rfl) (.inl rfl) (.inr rfl) (.inr rfl) (.inr rfl) ?_
  exact Frame.refl _ _

theorem State.leaveInstall_frame (a0) :
    Frame [.entries, .store] a0 (State.leaveInstall a0) := by
  unfold State.leaveInstall
  refine Frame.step (State.dset_frame ..) rfl ?_
  refine Frame.step (State.dset_frame ..) rfl ?_
  refine Frame.set_store _ id (.inr rfl) (.inl rfl) ?_
  exact Frame.refl _ _

theorem State.dropLinkWork_frame (a0) :
    Frame [.entries, .links] a0 (State.dropLinkWork a0) := by
  unfold State.dropLinkWork
  refine Frame.step (State.dset_frame ..) rfl ?_
  refine Frame.set_links _ rfl ?_
  exact Frame.refl _ _

theorem State.powerDownForRecovery_frame (a0) :
    Frame [.dev, .entries] a0 (State.powerDownForRecovery a0) := by
  unfold State.powerDownForRecovery
  refine Frame.step (State.resupply_frame ..) rfl ?_
  refine Frame.set_dev _ rfl ?_
  refine Frame.step (State.setDomains_frame ..) rfl ?_
  refine Frame.step (State.setDomains_frame ..) rfl ?_
  exact Frame.refl _ _

theorem State.portsDown_frame (a0) :
    Frame [.entries, .links] a0 (State.portsDown a0) := by
  unfold State.portsDown
  refine Frame.step (State.setDomains_frame ..) rfl ?_
  refine Frame.step (State.portsOff_frame ..) rfl ?_
  refine Frame.step (State.dropLinkWork_frame ..) rfl ?_
  exact Frame.refl _ _

theorem State.restartRecovery_frame (a0) :
    Frame [.dev, .entries, .links] a0 (State.restartRecovery a0) := by
  unfold State.restartRecovery
  dsimp only
  refine Frame.ite ?_ ?_
  · refine Frame.step (State.powerDownForRecovery_frame ..) rfl ?_
    refine Frame.step (State.portsDown_frame ..) rfl ?_
    refine Frame.set_dev _ rfl ?_
    exact Frame.refl _ _
  · refine Frame.set_dev _ rfl ?_
    exact Frame.refl _ _

theorem State.drainDone_frame (a0) :
    Frame [.dev, .bulk] a0 (State.drainDone a0) := by
  unfold State.drainDone
  refine Frame.set_dev_bulk _ _ rfl id (.inr rfl) (.inl rfl) ?_
  exact Frame.refl _ _

theorem State.clearStaging_frame (a0) :
    Frame [.near, .array] a0 (State.clearStaging a0) := by
  unfold State.clearStaging
  refine Frame.set_near_array _ _ rfl id (.inr rfl) (.inl rfl) ?_
  exact Frame.refl _ _

theorem State.settleRecovery_frame (a0) :
    Frame [.free, .out, .dev, .entries, .ctxEntries, .host, .near, .nearMem, .bulk, .bulkMem, .store, .rings, .loops, .msix, .pages, .cmds, .steps, .array, .ctxs, .serve, .tru, .links, .kop, .health, .power] a0 (State.settleRecovery a0) := by
  unfold State.settleRecovery
  refine Frame.ite ?_ ?_
  · exact Frame.refl _ _
  · dsimp only
    refine Frame.ite ?_ ?_
    · refine Frame.step (State.drainAll_frame ..) rfl ?_
      exact Frame.refl _ _
    · refine Frame.step (State.drainDone_frame ..) rfl ?_
      refine Frame.step (State.powerDownForRecovery_frame ..) rfl ?_
      refine Frame.step (State.endGrant_frame ..) rfl ?_
      refine Frame.step (State.endGrant_frame ..) rfl ?_
      refine Frame.step (State.leaveInstall_frame ..) rfl ?_
      refine Frame.foldl _ (fun _ _ => ?_) ?_
      · refine Frame.step (State.advanceEpoch_frame ..) rfl ?_
        exact Frame.refl _ _
      · refine Frame.step (State.dropPending_frame ..) rfl ?_
        refine Frame.step (State.finishAll_frame ..) rfl ?_
        refine Frame.step (State.dropAllBinds_frame ..) rfl ?_
        refine Frame.step (State.clearStaging_frame ..) rfl ?_
        refine Frame.set_steps_array_ctxs_serve_tru _ _ _ _ _ rfl rfl rfl rfl rfl ?_
        refine Frame.step (State.drainAll_frame ..) rfl ?_
        exact Frame.refl _ _

theorem State.disarm_frame (a0) :
    Frame [.free, .out, .entries, .msix, .health] a0 (State.disarm a0) := by
  unfold State.disarm
  refine Frame.set_health _ rfl ?_
  refine Frame.ite ?_ ?_
  · refine Frame.step (State.event_frame ..) rfl ?_
    refine Frame.step (State.dset_frame ..) rfl ?_
    exact Frame.refl _ _
  · exact Frame.refl _ _

theorem State.abandonTest_frame (a0) :
    Frame [.free, .out, .entries, .ctxEntries, .host, .near, .nearMem, .bulk, .bulkMem, .rings, .loops, .msix, .pages, .cmds, .steps, .array, .ctxs, .serve, .links, .health, .power] a0 (State.abandonTest a0) := by
  unfold State.abandonTest
  split
  · exact Frame.refl _ _
  · dsimp only
    refine Frame.ite ?_ ?_
    · refine Frame.step (State.dset_frame ..) rfl ?_
      refine Frame.set_health _ rfl ?_
      exact Frame.refl _ _
    · refine Frame.step (State.unstrandAll_frame ..) rfl ?_
      refine Frame.step (State.dset_frame ..) rfl ?_
      refine Frame.set_health _ rfl ?_
      exact Frame.refl _ _

theorem State.startRecovery_frame (a0) (a1) (a2) :
    Frame [.free, .out, .dev, .entries, .ctxEntries, .host, .near, .nearMem, .bulk, .bulkMem, .store, .hif, .rings, .loops, .msix, .pages, .cmds, .steps, .array, .ctxs, .serve, .tru, .links, .kop, .health, .power] a0 (State.startRecovery a0 a1 a2) := by
  unfold State.startRecovery
  refine Frame.ite ?_ ?_
  · exact Frame.refl _ _
  · dsimp only
    refine Frame.step (State.settleRecovery_frame ..) rfl ?_
    refine Frame.step (State.drainAll_frame ..) rfl ?_
    refine Frame.foldl _ (fun _ _ => ?_) ?_
    · refine Frame.step (State.strikeStep_frame ..) rfl ?_
      exact Frame.refl _ _
    · refine Frame.set_ctxs _ rfl ?_
      refine Frame.ite ?_ ?_
      · refine Frame.step (State.snapshot_frame ..) rfl ?_
        refine Frame.ite ?_ ?_
        · refine Frame.step (State.interrupt_frame ..) rfl ?_
          refine Frame.step (State.abandonTest_frame ..) rfl ?_
          refine Frame.step (State.disarm_frame ..) rfl ?_
          refine Frame.step (State.event_frame ..) rfl ?_
          refine Frame.step (State.dset_frame ..) rfl ?_
          refine Frame.set_dev_hif _ _ rfl (.inr rfl) (.inr rfl) (.inr rfl) (.inr rfl) (.inl rfl) ?_
          exact Frame.refl _ _
        · refine Frame.step (State.abandonTest_frame ..) rfl ?_
          refine Frame.step (State.disarm_frame ..) rfl ?_
          refine Frame.step (State.event_frame ..) rfl ?_
          refine Frame.step (State.dset_frame ..) rfl ?_
          refine Frame.set_dev_hif _ _ rfl (.inr rfl) (.inr rfl) (.inr rfl) (.inr rfl) (.inl rfl) ?_
          exact Frame.refl _ _
      · refine Frame.ite ?_ ?_
        · refine Frame.step (State.interrupt_frame ..) rfl ?_
          refine Frame.step (State.abandonTest_frame ..) rfl ?_
          refine Frame.step (State.disarm_frame ..) rfl ?_
          refine Frame.step (State.event_frame ..) rfl ?_
          refine Frame.step (State.dset_frame ..) rfl ?_
          refine Frame.set_dev_hif _ _ rfl (.inr rfl) (.inr rfl) (.inr rfl) (.inr rfl) (.inl rfl) ?_
          exact Frame.refl _ _
        · refine Frame.step (State.abandonTest_frame ..) rfl ?_
          refine Frame.step (State.disarm_frame ..) rfl ?_
          refine Frame.step (State.event_frame ..) rfl ?_
          refine Frame.step (State.dset_frame ..) rfl ?_
          refine Frame.set_dev_hif _ _ rfl (.inr rfl) (.inr rfl) (.inr rfl) (.inr rfl) (.inl rfl) ?_
          exact Frame.refl _ _

theorem State.reactivate_frame (a0) (a1) :
    Frame [.free, .out, .entries, .ctxEntries, .near, .nearMem, .bulk, .msix, .steps, .array, .health, .power] a0 (State.reactivate a0 a1) := by
  unfold State.reactivate
  dsimp only
  split
  · refine Frame.step (State.dropRoute_frame ..) rfl ?_
    refine Frame.step (State.imageSeen_frame ..) rfl ?_
    exact Frame.refl _ _
  · refine Frame.ite ?_ ?_
    · refine Frame.step (State.dropRoute_frame ..) rfl ?_
      refine Frame.step (State.imageSeen_frame ..) rfl ?_
      exact Frame.refl _ _
    · refine Frame.step (State.activate_frame ..) rfl ?_
      refine Frame.step (State.stageImage_frame ..) rfl ?_
      refine Frame.step (State.imageSeen_frame ..) rfl ?_
      exact Frame.refl _ _

theorem State.endRecovery_frame (a0) :
    Frame [.free, .out, .entries, .ctxEntries, .host, .near, .nearMem, .bulk, .bulkMem, .rings, .msix, .pages, .cmds, .steps, .array, .ctxs, .serve, .links, .health, .power] a0 (State.endRecovery a0) := by
  unfold State.endRecovery
  dsimp only
  refine Frame.step (State.event_frame ..) rfl ?_
  refine Frame.step (State.dput_frame ..) rfl ?_
  refine Frame.step (State.dbump_frame ..) rfl ?_
  refine Frame.foldl _ (fun _ _ => ?_) ?_
  · refine Frame.step (State.endReset_frame ..) rfl ?_
    exact Frame.refl _ _
  · refine Frame.foldl _ (fun _ _ => ?_) ?_
    · refine Frame.step (State.unhold_frame ..) rfl ?_
      exact Frame.refl _ _
    · refine Frame.foldl _ (fun _ _ => ?_) ?_
      · refine Frame.step (State.reactivate_frame ..) rfl ?_
        exact Frame.refl _ _
      · exact Frame.refl _ _

theorem State.settleHostReset_frame (a0) :
    Frame [.dev, .ctxEntries, .ctxs, .links] a0 (State.settleHostReset a0) := by
  unfold State.settleHostReset
  refine Frame.ite ?_ ?_
  · exact Frame.refl _ _
  · dsimp only
    refine Frame.set_dev _ rfl ?_
    refine Frame.foldl _ (fun _ _ => ?_) ?_
    · refine Frame.step (State.advanceEpoch_frame ..) rfl ?_
      exact Frame.refl _ _
    · exact Frame.refl _ _

theorem State.startHostReset_frame (a0) :
    Frame [.free, .out, .dev, .entries, .ctxEntries, .near, .bulk, .hif, .rings, .loops, .msix, .pages, .cmds, .steps, .array, .ctxs, .serve, .links, .kop, .health] a0 (State.startHostReset a0) := by
  unfold State.startHostReset
  dsimp only
  refine Frame.step (State.settleHostReset_frame ..) rfl ?_
  refine Frame.foldl _ (fun _ _ => ?_) ?_
  · refine Frame.step (State.rappel_frame ..) rfl ?_
    exact Frame.refl _ _
  · refine Frame.step (State.endGrant_frame ..) rfl ?_
    refine Frame.step (State.dropAllBinds_frame ..) rfl ?_
    refine Frame.set_near_bulk_hif_cmds_steps_array_ctxs _ _ _ _ _ _ _ rfl rfl rfl rfl id (.inr rfl) (.inl rfl) id (.inr rfl) (.inl rfl) (.inl rfl) (.inl rfl) (.inl rfl) (.inl rfl) (.inl rfl) ?_
    refine Frame.foldl _ (fun _ _ => ?_) ?_
    · refine Frame.step (State.strikeStep_frame ..) rfl ?_
      exact Frame.refl _ _
    · refine Frame.set_dev_ctxs _ _ rfl rfl ?_
      refine Frame.ite ?_ ?_
      · refine Frame.step (State.dbump_frame ..) rfl ?_
        exact Frame.refl _ _
      · exact Frame.refl _ _

theorem execPerstN_frame {a0} {a1} {t : State} (h : execPerstN a0 a1 = .next t) :
    Frame [.free, .out, .uptime, .pins, .dev, .entries, .ctxEntries, .near, .bulk, .hif, .rings, .loops, .msix, .pages, .cmds, .steps, .array, .ctxs, .serve, .links, .kop, .health] a1 t := by
  cases h
  refine Frame.ite ?_ ?_
  · refine Frame.set_pins _ rfl ?_
    refine Frame.step (State.startHostReset_frame ..) rfl ?_
    refine Frame.step (State.at_frame ..) rfl ?_
    exact Frame.refl _ _
  · exact Frame.refl _ _

theorem execPfFunctionLevelReset_frame {a0} {a1} {t : State} (h : execPfFunctionLevelReset a0 a1 = .next t) :
    Frame [.free, .out, .uptime, .dev, .entries, .ctxEntries, .near, .bulk, .hif, .rings, .loops, .msix, .pages, .cmds, .steps, .array, .ctxs, .serve, .links, .kop, .health] a1 t := by
  cases h
  refine Frame.ite ?_ ?_
  · refine Frame.step (State.startHostReset_frame ..) rfl ?_
    refine Frame.step (State.at_frame ..) rfl ?_
    exact Frame.refl _ _
  · exact Frame.refl _ _

theorem State.resetFunction_frame (a0) (a1) :
    Frame [.hif, .msix, .pages] a0 (State.resetFunction a0 a1) := by
  unfold State.resetFunction
  refine Frame.set_hif _ (.inr rfl) (.inr rfl) (.inl rfl) (.inl rfl) (.inl rfl) ?_
  exact Frame.refl _ _

end Sys2Proof.Machine
end

