-- ==== Sys2Proof/Laws/Rappel.lean ====
section
/-! SUPPORT. What the operations of Rappel can change: one frame each. -/

namespace Sys2Proof.Machine

theorem State.dropLoad_frame (a0) (a1) :
    Frame [.array] a0 (State.dropLoad a0 a1) := by
  unfold State.dropLoad
  refine Frame.set_array _ rfl ?_
  exact Frame.refl _ _

theorem State.addLoad_frame (a0) (a1) :
    Frame [.array] a0 (State.addLoad a0 a1) := by
  unfold State.addLoad
  dsimp only
  refine Frame.step (State.accept_frame ..) rfl ?_
  refine Frame.set_array _ rfl ?_
  refine Frame.step (State.dropLoad_frame ..) rfl ?_
  exact Frame.refl _ _

theorem State.stageOnce_frame (a0) (a1) (a2) (a3) (a4) (a5) :
    Frame [.near, .array] a0 (State.stageOnce a0 a1 a2 a3 a4 a5) := by
  unfold State.stageOnce
  refine Frame.ite ?_ ?_
  · exact Frame.refl _ _
  · refine Frame.step (State.stageImage_frame ..) rfl ?_
    exact Frame.refl _ _

theorem State.beginLoad_frame_k {g : List Zone} {r s : State} {c : Cmd} {only : Bool}
    {go : State → BitVec 64 → Nat → Bytes → State}
    (sub : [Zone.free, .out, .entries, .ctxEntries, .host, .near, .nearMem, .bulk, .bulkMem, .rings, .msix, .pages, .cmds, .steps,
      .array, .ctxs, .health, .power].all g.contains = true)
    (k : ∀ t fp a b, Frame g r t → Frame g r (go t fp a b)) (h : Frame g r s) : Frame g r (s.beginLoad c only go) := by
  have z : ∀ {t u}, Frame g r t → Frame [Zone.free, .out, .entries, .ctxEntries, .host, .near, .nearMem, .bulk, .bulkMem, .rings,
      .msix, .pages, .cmds, .steps, .array, .ctxs, .health, .power] t u → Frame g r u := fun h f => Frame.step f sub h
  have seen : Frame g r (if (s.stagedImage c.ctx (c.at 16 4)).isSome then s else s.imageSeen c.ctx (c.at 8 8)) :=
    Frame.ite h (z h (Frame.mono (State.imageSeen_frame ..) rfl))
  have add : ∀ {t l}, Frame g r t → Frame g r (t.addLoad l) := fun h => z h (Frame.mono (State.addLoad_frame ..) rfl)
  unfold State.beginLoad
  dsimp only
  refine Frame.ite (Frame.ite (z (add h) (Frame.mono (State.decideGrantOf_frame ..) rfl)) (add h)) ?_
  generalize (if (s.stagedImage c.ctx (c.at 16 4)).isSome then s else s.imageSeen c.ctx (c.at 8 8)) = t at seen
  have drop : Frame g r (t.dropLoad c.id) := z seen (Frame.mono (State.dropLoad_frame ..) rfl)
  split
  · exact z drop (Frame.step (State.kick_frame ..) rfl (Frame.step (State.completeOn_frame ..) rfl
      (Frame.mono (State.noteFail_frame ..) rfl)))
  · refine Frame.ite (z (add seen) (Frame.mono (State.awaitGrant_frame ..) rfl)) ?_
    split
    · exact z drop (Frame.step (State.kick_frame ..) rfl (Frame.mono (State.completeOn_frame ..) rfl))
    · exact k _ _ _ _ (z drop (Frame.mono (State.stageOnce_frame ..) rfl))

theorem execLoadRoute_frame {a0} {a1} {t : State} (h : execLoadRoute a0 a1 = .next t) :
    Frame [.free, .out, .entries, .ctxEntries, .host, .near, .nearMem, .bulk, .bulkMem, .rings, .msix, .pages, .cmds, .steps, .array, .ctxs, .health, .power] a1 t := by
  cases h
  split
  · exact Frame.refl _ _
  · refine Frame.ite ?_ ?_
    · exact Frame.refl _ _
    · refine State.beginLoad_frame_k rfl (fun _ _ _ _ _ => ?_) ?_
      · dsimp only
        refine Frame.step (State.kick_frame ..) rfl ?_
        refine Frame.step (State.stage_frame ..) rfl ?_
        refine Frame.step (State.addLoad_frame ..) rfl ?_
        assumption
      · exact Frame.refl _ _

theorem execLoadRouteStage_frame {a0} {a1} {t : State} (h : execLoadRouteStage a0 a1 = .next t) :
    Frame [.free, .out, .entries, .ctxEntries, .host, .near, .nearMem, .bulk, .bulkMem, .rings, .msix, .pages, .cmds, .steps, .array, .ctxs, .health, .power] a1 t := by
  cases h
  split
  · exact Frame.refl _ _
  · refine Frame.ite ?_ ?_
    · exact Frame.refl _ _
    · refine State.beginLoad_frame_k rfl (fun _ _ _ _ _ => ?_) ?_
      · refine Frame.step (State.kick_frame ..) rfl ?_
        refine Frame.step (State.completeOn_frame ..) rfl ?_
        assumption
      · exact Frame.refl _ _

theorem execLoadRouteEvict_frame {a0} {a1} {t : State} (h : execLoadRouteEvict a0 a1 = .next t) :
    Frame [.free, .out, .entries, .ctxEntries, .host, .near, .nearMem, .bulk, .bulkMem, .rings, .msix, .pages, .cmds, .array, .health, .power] a1 t := by
  cases h
  split
  · exact Frame.refl _ _
  · dsimp only
    refine Frame.ite ?_ ?_
    · exact Frame.refl _ _
    · refine Frame.step (State.kick_frame ..) rfl ?_
      refine Frame.step (State.stage_frame ..) rfl ?_
      refine Frame.step (State.accept_frame ..) rfl ?_
      refine Frame.set_array _ rfl ?_
      exact Frame.refl _ _

theorem State.renewCopies_frame (a0) (a1) (a2) :
    Frame [.array] a0 (State.renewCopies a0 a1 a2) := by
  unfold State.renewCopies
  refine Frame.set_array _ rfl ?_
  exact Frame.refl _ _

theorem execRouteLoadDone_frame {a0} {a1} {a2} {t : State} (h : execRouteLoadDone a0 a1 a2 = .next t) :
    Frame [.free, .out, .uptime, .entries, .ctxEntries, .host, .near, .nearMem, .bulk, .bulkMem, .rings, .msix, .pages, .cmds, .steps, .array, .ctxs, .health, .power] a2 t := by
  cases h
  split
  · refine Frame.ite ?_ ?_
    · dsimp only
      refine Frame.step (State.kick_frame ..) rfl ?_
      split
      · refine Frame.step (State.completeOn_frame ..) rfl ?_
        refine Frame.step (State.dropLoad_frame ..) rfl ?_
        refine Frame.step (State.renewCopies_frame ..) rfl ?_
        refine Frame.step (State.activate_frame ..) rfl ?_
        refine Frame.step (State.stageOnce_frame ..) rfl ?_
        refine Frame.step (State.at_frame ..) rfl ?_
        exact Frame.refl _ _
      · refine Frame.step (State.completeOn_frame ..) rfl ?_
        refine Frame.step (State.dropLoad_frame ..) rfl ?_
        refine Frame.step (State.renewCopies_frame ..) rfl ?_
        refine Frame.step (State.activate_frame ..) rfl ?_
        refine Frame.step (State.stageOnce_frame ..) rfl ?_
        refine Frame.step (State.at_frame ..) rfl ?_
        exact Frame.refl _ _
    · exact Frame.refl _ _
  · exact Frame.refl _ _

theorem State.revive_frame (a0) (a1) :
    Frame [.free, .out, .entries, .ctxEntries, .near, .nearMem, .bulk, .msix, .steps, .array, .health, .power] a0 (State.revive a0 a1) := by
  unfold State.revive
  split
  · refine Frame.ite ?_ ?_
    · refine Frame.step (State.dropRoute_frame ..) rfl ?_
      exact Frame.refl _ _
    · refine Frame.step (State.activate_frame ..) rfl ?_
      exact Frame.refl _ _
  · refine Frame.step (State.reactivate_frame ..) rfl ?_
    exact Frame.refl _ _

theorem State.engineReset_frame (a0) :
    Frame [.free, .out, .entries, .ctxEntries, .near, .nearMem, .bulk, .msix, .steps, .array, .ctxs, .links, .health, .power] a0 (State.engineReset a0) := by
  unfold State.engineReset
  split
  · exact Frame.refl _ _
  · dsimp only
    refine Frame.step (State.nextTrial_frame ..) rfl ?_
    refine Frame.step (State.mapHang_frame ..) rfl ?_
    refine Frame.foldl _ (fun _ _ => ?_) ?_
    · refine Frame.step (State.revive_frame ..) rfl ?_
      exact Frame.refl _ _
    · refine Frame.foldl _ (fun _ _ => ?_) ?_
      · refine Frame.step (State.powerCluster_frame ..) rfl ?_
        exact Frame.refl _ _
      · refine Frame.step (State.setDomains_frame ..) rfl ?_
        exact Frame.refl _ _

theorem State.settleFailed_frame (a0) (a1) :
    Frame [.free, .out, .entries, .ctxEntries, .host, .near, .nearMem, .bulk, .bulkMem, .rings, .loops, .msix, .pages, .cmds, .steps, .array, .ctxs, .serve, .tru, .links, .health, .power] a0 (State.settleFailed a0 a1) := by
  unfold State.settleFailed
  split
  · refine Frame.ite ?_ ?_
    · refine Frame.step (State.settleEnding_frame ..) rfl ?_
      exact Frame.refl _ _
    · exact Frame.refl _ _
  · exact Frame.refl _ _

theorem State.goOn_frame (a0) (a1) (a2) :
    Frame [.free, .out, .entries, .ctxEntries, .host, .near, .nearMem, .bulk, .bulkMem, .rings, .loops, .msix, .pages, .cmds, .steps, .array, .ctxs, .serve, .tru, .links, .health, .power] a0 (State.goOn a0 a1 a2) := by
  unfold State.goOn
  split
  · refine Frame.ite ?_ ?_
    · refine Frame.step (State.activatePhase_frame ..) rfl ?_
      exact Frame.refl _ _
    · refine Frame.step (State.settleFailed_frame ..) rfl ?_
      exact Frame.refl _ _
  · exact Frame.refl _ _

theorem State.evictDone_frame (a0) (a1) :
    Frame [.free, .out, .entries, .ctxEntries, .host, .near, .nearMem, .bulk, .bulkMem, .rings, .msix, .pages, .cmds, .array, .health, .power] a0 (State.evictDone a0 a1) := by
  unfold State.evictDone
  split
  · exact Frame.refl _ _
  · refine Frame.step (State.closeEviction_frame ..) rfl ?_
    refine Frame.step (State.evictRoute_frame ..) rfl ?_
    exact Frame.refl _ _

theorem State.parkOutgoing_frame (a0) (a1) :
    Frame [.array] a0 (State.parkOutgoing a0 a1) := by
  unfold State.parkOutgoing
  split
  · refine Frame.step (State.parkRoutes_frame ..) rfl ?_
    exact Frame.refl _ _
  · exact Frame.refl _ _

theorem State.settlePurpose_frame (a0) (a1) (a2) :
    Frame [.free, .out, .dev, .entries, .ctxEntries, .host, .near, .nearMem, .bulk, .bulkMem, .store, .rings, .loops, .msix, .pages, .cmds, .steps, .array, .ctxs, .serve, .tru, .links, .kop, .health, .power] a0 (State.settlePurpose a0 a1 a2) := by
  unfold State.settlePurpose
  split
  · refine Frame.step (State.settleReset_frame ..) rfl ?_
    exact Frame.refl _ _
  · refine Frame.step (State.settleHostReset_frame ..) rfl ?_
    exact Frame.refl _ _
  · refine Frame.step (State.settleRecovery_frame ..) rfl ?_
    exact Frame.refl _ _
  · refine Frame.step (State.settleFailed_frame ..) rfl ?_
    exact Frame.refl _ _
  · refine Frame.step (State.settleFailed_frame ..) rfl ?_
    exact Frame.refl _ _
  · refine Frame.ite ?_ ?_
    · exact Frame.refl _ _
    · refine Frame.step (State.engineReset_frame ..) rfl ?_
      exact Frame.refl _ _
  · refine Frame.ite ?_ ?_
    · exact Frame.refl _ _
    · refine Frame.step (State.isolateNow_frame ..) rfl ?_
      exact Frame.refl _ _
  · refine Frame.step (State.evictDone_frame ..) rfl ?_
    exact Frame.refl _ _
  · refine Frame.step (State.kick_frame ..) rfl ?_
    exact Frame.refl _ _
  · refine Frame.step (State.goOn_frame ..) rfl ?_
    exact Frame.refl _ _
  · refine Frame.ite ?_ ?_
    · exact Frame.refl _ _
    · refine Frame.step (State.goOn_frame ..) rfl ?_
      exact Frame.refl _ _
  · refine Frame.ite ?_ ?_
    · exact Frame.refl _ _
    · refine Frame.step (State.parkOutgoing_frame ..) rfl ?_
      exact Frame.refl _ _

theorem State.failUnclear_frame (a0) (a1) :
    Frame [.steps, .links] a0 (State.failUnclear a0 a1) := by
  unfold State.failUnclear
  refine Frame.foldl _ (fun _ _ => ?_) ?_
  · refine Frame.ite ?_ ?_
    · split
      · exact Frame.refl _ _
      · exact Frame.refl _ _
      · dsimp only
        refine Frame.step (State.setStep_frame ..) rfl ?_
        refine Frame.step (State.sendAbort_frame ..) rfl ?_
        exact Frame.refl _ _
    · exact Frame.refl _ _
  · exact Frame.refl _ _

theorem State.quiesce_frame (a0) (a1) (a2) :
    Frame [.free, .out, .dev, .entries, .ctxEntries, .host, .near, .nearMem, .bulk, .bulkMem, .store, .rings, .loops, .msix, .pages, .cmds, .steps, .array, .ctxs, .serve, .tru, .links, .kop, .health, .power] a0 (State.quiesce a0 a1 a2) := by
  unfold State.quiesce
  dsimp only
  refine Frame.step (State.nextExchanges_frame ..) rfl ?_
  refine Frame.step (State.settleHostReset_frame ..) rfl ?_
  refine Frame.step (State.settleRecovery_frame ..) rfl ?_
  refine Frame.step (State.settleReset_frame ..) rfl ?_
  refine Frame.step (State.kick_frame ..) rfl ?_
  refine Frame.foldl _ (fun _ _ => ?_) ?_
  · refine Frame.step (State.settlePurpose_frame ..) rfl ?_
    exact Frame.refl _ _
  · refine Frame.foldl _ (fun _ _ => ?_) ?_
    · refine Frame.step (State.settleFailed_frame ..) rfl ?_
      exact Frame.refl _ _
    · refine Frame.ite ?_ ?_
      · refine Frame.step (State.clearFootprint_frame ..) rfl ?_
        refine Frame.foldl _ (fun _ _ => ?_) ?_
        · refine Frame.step (State.endHalts_frame ..) rfl ?_
          exact Frame.refl _ _
        · refine Frame.set_array _ rfl ?_
          exact Frame.refl _ _
      · refine Frame.foldl _ (fun _ _ => ?_) ?_
        · refine Frame.step (State.isolateNow_frame ..) rfl ?_
          exact Frame.refl _ _
        · refine Frame.step (State.failUnclear_frame ..) rfl ?_
          refine Frame.step (State.clearFootprint_frame ..) rfl ?_
          refine Frame.foldl _ (fun _ _ => ?_) ?_
          · refine Frame.step (State.endHalts_frame ..) rfl ?_
            exact Frame.refl _ _
          · refine Frame.set_array _ rfl ?_
            exact Frame.refl _ _

theorem State.advanceLosing_frame (a0) (a1) :
    Frame [.free, .ctxEntries, .steps, .array, .ctxs, .links] a0 (State.advanceLosing a0 a1) := by
  unfold State.advanceLosing
  dsimp only
  refine Frame.foldl _ (fun _ _ => ?_) ?_
  · refine Frame.step (State.replayStep_frame ..) rfl ?_
    exact Frame.refl _ _
  · refine Frame.step (State.advanceEpoch_frame ..) rfl ?_
    exact Frame.refl _ _

theorem execRappelCutoff_frame {a0} {a1} {a2} {t : State} (h : execRappelCutoff a0 a1 a2 = .next t) :
    Frame [.free, .uptime, .ctxEntries, .steps, .array, .ctxs, .links] a2 t := by
  cases h
  split
  · refine Frame.ite ?_ ?_
    · exact Frame.refl _ _
    · dsimp only
      refine Frame.step (State.advanceLosing_frame ..) rfl ?_
      refine Frame.set_array _ rfl ?_
      refine Frame.step (State.cbump_frame ..) rfl ?_
      refine Frame.step (State.at_frame ..) rfl ?_
      exact Frame.refl _ _
  · exact Frame.refl _ _

theorem execDeadlineExpired_frame {a0} {a1} {a2} {t : State} (h : execDeadlineExpired a0 a1 a2 = .next t) :
    Frame [.uptime, .steps] a2 t := by
  cases h
  split
  · refine Frame.ite ?_ ?_
    · refine Frame.step (State.setStep_frame ..) rfl ?_
      refine Frame.step (State.at_frame ..) rfl ?_
      exact Frame.refl _ _
    · exact Frame.refl _ _
  · exact Frame.refl _ _

theorem State.unpark_frame (a0) (a1) (a2) :
    Frame [.free, .out, .entries, .ctxEntries, .near, .nearMem, .bulk, .msix, .steps, .array, .health, .power] a0 (State.unpark a0 a1 a2) := by
  unfold State.unpark
  refine Frame.foldl _ (fun _ _ => ?_) ?_
  · refine Frame.step (State.revive_frame ..) rfl ?_
    exact Frame.refl _ _
  · exact Frame.refl _ _

theorem State.endSwitch_frame (a0) (a1) (a2) :
    Frame [.free, .entries, .ctxEntries, .steps, .ctxs] a0 (State.endSwitch a0 a1 a2) := by
  unfold State.endSwitch
  dsimp only
  refine Frame.step (State.charge_frame ..) rfl ?_
  refine Frame.step (State.setAccount_frame ..) rfl ?_
  refine Frame.set_steps_ctxs _ _ rfl rfl ?_
  exact Frame.refl _ _

theorem State.switchDone_frame (a0) (a1) (a2) :
    Frame [.free, .out, .entries, .ctxEntries, .host, .near, .nearMem, .bulk, .bulkMem, .rings, .loops, .msix, .pages, .cmds, .steps, .array, .ctxs, .serve, .links, .health, .power] a0 (State.switchDone a0 a1 a2) := by
  unfold State.switchDone
  dsimp only
  refine Frame.ite ?_ ?_
  · refine Frame.step (State.grantDecision_frame ..) rfl ?_
    refine Frame.step (State.dset_frame ..) rfl ?_
    refine Frame.step (State.endSwitch_frame ..) rfl ?_
    refine Frame.step (State.clearPool_frame ..) rfl ?_
    split
    · exact Frame.refl _ _
    · refine Frame.ite ?_ ?_
      · exact Frame.refl _ _
      · split
        · refine Frame.step (State.bivouacFailed_frame ..) rfl ?_
          refine Frame.step (Frame.of_fst (State.saveAll_frame ..) (by assumption)) rfl ?_
          exact Frame.refl _ _
        · refine Frame.step (Frame.of_fst (State.saveAll_frame ..) (by assumption)) rfl ?_
          exact Frame.refl _ _
  · split
    · refine Frame.step (State.grantDecision_frame ..) rfl ?_
      refine Frame.step (State.dset_frame ..) rfl ?_
      refine Frame.step (State.endSwitch_frame ..) rfl ?_
      refine Frame.step (State.clearPool_frame ..) rfl ?_
      refine Frame.step (State.bivouacFailed_frame ..) rfl ?_
      refine Frame.step (Frame.of_fst (State.restoreAll_frame ..) (by assumption)) rfl ?_
      split
      · exact Frame.refl _ _
      · refine Frame.ite ?_ ?_
        · exact Frame.refl _ _
        · split
          · refine Frame.step (State.bivouacFailed_frame ..) rfl ?_
            refine Frame.step (Frame.of_fst (State.saveAll_frame ..) (by assumption)) rfl ?_
            exact Frame.refl _ _
          · refine Frame.step (Frame.of_fst (State.saveAll_frame ..) (by assumption)) rfl ?_
            exact Frame.refl _ _
    · refine Frame.step (State.unpark_frame ..) rfl ?_
      refine Frame.step (State.endSwitch_frame ..) rfl ?_
      refine Frame.step (Frame.of_fst (State.restoreAll_frame ..) (by assumption)) rfl ?_
      split
      · exact Frame.refl _ _
      · refine Frame.ite ?_ ?_
        · exact Frame.refl _ _
        · split
          · refine Frame.step (State.bivouacFailed_frame ..) rfl ?_
            refine Frame.step (Frame.of_fst (State.saveAll_frame ..) (by assumption)) rfl ?_
            exact Frame.refl _ _
          · refine Frame.step (Frame.of_fst (State.saveAll_frame ..) (by assumption)) rfl ?_
            exact Frame.refl _ _

theorem execContextSwitchDone_frame {a0} {a1} {a2} {t : State} (h : execContextSwitchDone a0 a1 a2 = .next t) :
    Frame [.free, .out, .uptime, .entries, .ctxEntries, .host, .near, .nearMem, .bulk, .bulkMem, .rings, .loops, .msix, .pages, .cmds, .steps, .array, .ctxs, .serve, .links, .health, .power] a2 t := by
  cases h
  split
  · refine Frame.ite ?_ ?_
    · exact Frame.refl _ _
    · refine Frame.step (State.switchDone_frame ..) rfl ?_
      refine Frame.step (State.at_frame ..) rfl ?_
      exact Frame.refl _ _
  · exact Frame.refl _ _

end Sys2Proof.Machine
end

