-- ==== Sys2Proof/Laws/Engines.lean ====
section
/-! SUPPORT. What the operations of Engines can change: one frame each. -/

namespace Sys2Proof.Machine

/-- What the actions of a round can change. -/
abbrev roundZones : List Zone :=
  [.free, .out, .entries, .ctxEntries, .host, .near, .nearMem, .bulk, .bulkMem, .steps, .array, .links, .health, .power]

/-- A part of a round keeps to the zones of a round. -/
abbrev Round.Res (r : State) (p : Part) : Prop := Frame.Res roundZones r (fun y => Frame roundZones r y.s) p

theorem State.setCore_frame (a0) (a1) (a2) :
    Frame [.array] a0 (State.setCore a0 a1 a2) := by
  unfold State.setCore
  refine Frame.set_array _ rfl ?_
  exact Frame.refl _ _

theorem Round.s_frame (a0) :
    Frame [] a0.s (Round.s a0) := by
  unfold Round.s
  exact Frame.refl _ _

theorem Round.setCore_frame (a0) (a1) (a2) :
    Frame [.array] a0.s (Round.setCore a0 a1 a2).s := by
  unfold Round.setCore
  refine Frame.step (State.setCore_frame ..) rfl ?_
  exact Frame.refl _ _

theorem Round.toCores_frame (a0) (a1) (a2) (a3) (a4) :
    Frame [.array] a0.s (Round.toCores a0 a1 a2 a3 a4).s := by
  unfold Round.toCores
  refine Frame.foldl_of Round.s _ (fun _ _ => ?_) ?_
  · split
    · dsimp only
      refine Frame.step (Round.setCore_frame ..) rfl ?_
      exact Frame.refl _ _
    · exact Frame.refl _ _
  · exact Frame.refl _ _

theorem Round.sendOne_frame (a0) (a1) (a2) (a3) (a4) :
    Frame [.free, .entries, .array, .health] a0.s (Round.sendOne a0 a1 a2 a3 a4).s := by
  unfold Round.sendOne
  dsimp only
  refine Frame.ite_of Round.s ?_ ?_
  · refine Frame.step (Round.toCores_frame ..) rfl ?_
    exact Frame.refl _ _
  · dsimp only
    refine Frame.foldl _ (fun _ _ => ?_) ?_
    · refine Frame.step (State.perturbed_frame ..) rfl ?_
      exact Frame.refl _ _
    · refine Frame.step (Round.toCores_frame ..) rfl ?_
      exact Frame.refl _ _

theorem Round.meshIn_frame (a0) (a1) (a2) (a3) (a4) (a5) :
    Frame [.array] a0.s (Round.meshIn a0 a1 a2 a3 a4 a5).s := by
  unfold Round.meshIn
  dsimp only
  refine Frame.ite_of Round.s ?_ ?_
  · refine Frame.step (Round.setCore_frame ..) rfl ?_
    refine Frame.step (Round.toCores_frame ..) rfl ?_
    exact Frame.refl _ _
  · refine Frame.step (Round.toCores_frame ..) rfl ?_
    exact Frame.refl _ _

theorem Round.send_frame (a0) (a1) (a2) (a3) :
    Frame [.free, .entries, .array, .health] a0.s (Round.send a0 a1 a2 a3).s := by
  unfold Round.send
  refine Frame.foldl_of Round.s _ (fun _ _ => ?_) ?_
  · refine Frame.step (Round.sendOne_frame ..) rfl ?_
    exact Frame.refl _ _
  · exact Frame.refl _ _

theorem Round.queueFor_frame (a0) (a1) (a2) (a3) :
    Frame [.array] a0.s (Round.queueFor a0 a1 a2 a3).s := by
  unfold Round.queueFor
  dsimp only
  refine Frame.step (Round.setCore_frame ..) rfl ?_
  exact Frame.refl _ _

theorem Round.emit_frame (a0) (a1) (a2) (a3) (a4) :
    Frame [.free, .entries, .array, .health] a0.s (Round.emit a0 a1 a2 a3 a4).s := by
  unfold Round.emit
  refine Frame.ite_of Round.s ?_ ?_
  · refine Frame.step (Round.queueFor_frame ..) rfl ?_
    exact Frame.refl _ _
  · refine Frame.step (Round.send_frame ..) rfl ?_
    exact Frame.refl _ _

theorem Round.mapStep_frame (a0) (a1) :
    Frame [.steps] a0.s (Round.mapStep a0 a1).s := by
  unfold Round.mapStep
  split
  · refine Frame.step (State.setStep_frame ..) rfl ?_
    exact Frame.refl _ _
  · exact Frame.refl _ _

theorem State.sliceDamage_frame (a0) (a1) (a2) (a3) :
    Frame [.free, .ctxEntries, .steps, .array, .links] a0 (State.sliceDamage a0 a1 a2 a3) := by
  unfold State.sliceDamage
  refine Frame.ite ?_ ?_
  · refine Frame.step (State.replayStep_frame ..) rfl ?_
    refine Frame.step (State.cbump_frame ..) rfl ?_
    exact Frame.refl _ _
  · refine Frame.ite ?_ ?_
    · refine Frame.step (State.cbump_frame ..) rfl ?_
      exact Frame.refl _ _
    · refine Frame.step (State.failStep_frame ..) rfl ?_
      refine Frame.step (State.sendAbort_frame ..) rfl ?_
      refine Frame.step (State.cbump_frame ..) rfl ?_
      exact Frame.refl _ _

theorem State.suppress_frame (a0) (a1) (a2) (a3) :
    Frame [.free, .ctxEntries, .steps, .array, .links] a0 (State.suppress a0 a1 a2 a3) := by
  unfold State.suppress
  refine Frame.step (State.endStep_frame ..) rfl ?_
  exact Frame.refl _ _

theorem Round.load_frame_error {x c off n} {t : State} (h : Round.load x c off n = .error t) :
    Frame [.free, .ctxEntries, .steps, .array, .links] x.s t := by
  unfold Round.load at h
  split at h
  · cases h; exact Frame.refl _ _
  · extract_lets at h
    split at h
    · cases h; exact Frame.mono (State.suppress_frame ..) rfl
    · split at h
      · cases h; exact Frame.mono (State.sliceDamage_frame ..) rfl
      · cases h

/-- A round's read of its slice within a computation. -/
theorem Round.load_res {g : List Zone} {r : State} {x : Round} (c off n : Nat)
    (sub : [Zone.free, .ctxEntries, .steps, .array, .links].all g.contains = true) (h : Frame g r x.s) :
    Frame.Res g r (fun _ => True) (x.load c off n) :=
  .of (fun _ _ => trivial) fun _ e => Frame.step (Round.load_frame_error e) sub h

theorem Round.store_frame (a0) (a1) (a2) (a3) :
    Frame [.free, .ctxEntries, .near, .nearMem, .steps, .array, .links] a0.s (Round.store a0 a1 a2 a3).s := by
  unfold Round.store
  split
  · exact Frame.refl _ _
  · dsimp only
    split
    · refine Frame.step (State.suppress_frame ..) rfl ?_
      refine Frame.step (State.setCore_frame ..) rfl ?_
      refine Frame.step (State.sliceWrite_frame ..) rfl ?_
      exact Frame.refl _ _
    · refine Frame.step (State.setCore_frame ..) rfl ?_
      refine Frame.step (State.sliceWrite_frame ..) rfl ?_
      exact Frame.refl _ _

theorem State.healLines_frame (a0) (a1) (a2) (a3) :
    Frame [.near] a0 (State.healLines a0 a1 a2 a3) := by
  unfold State.healLines
  dsimp only
  refine Frame.set_near _ id (.inr rfl) (.inl rfl) ?_
  exact Frame.refl _ _

theorem Round.heal_frame (a0) (a1) (a2) :
    Frame [.near] a0.s (Round.heal a0 a1 a2).s := by
  unfold Round.heal
  split
  · exact Frame.refl _ _
  · dsimp only
    refine Frame.step (State.healLines_frame ..) rfl ?_
    exact Frame.refl _ _

theorem Round.groupRow_res {g : List Zone} {r : State} {x : Round} (c : Nat) (f : MeOp) (i j : Nat)
    (sub : [Zone.free, .ctxEntries, .steps, .array, .links].all g.contains = true) (h : Frame g r x.s) :
    Frame.Res g r (fun _ => True) (x.groupRow c f i j) := by
  unfold Round.groupRow
  extract_lets
  refine .ite ?_ (.ite ?_ ?_)
  · exact .ite trivial trivial
  · exact Frame.Res.bind (Round.load_res _ _ _ sub h) fun _ _ => Frame.Res.bind (Round.load_res _ _ _ sub h) fun _ _ => trivial
  · exact Frame.Res.bind (Round.load_res _ _ _ sub h) fun _ _ => trivial

theorem Round.markAt_frame (a0) (a1) (a2) (a3) (a4) :
    Frame [.steps, .array] a0.s (Round.markAt a0 a1 a2 a3 a4).s := by
  unfold Round.markAt
  dsimp only
  refine Frame.ite_of Round.s ?_ ?_
  · exact Frame.refl _ _
  · refine Frame.step (Round.mapStep_frame ..) rfl ?_
    refine Frame.step (Round.setCore_frame ..) rfl ?_
    exact Frame.refl _ _

theorem Round.deliver_frame (a0) (a1) (a2) (a3) :
    Frame [.free, .ctxEntries, .near, .nearMem, .steps, .array, .links] a0.s (Round.deliver a0 a1 a2 a3).s := by
  unfold Round.deliver
  dsimp only
  split
  · refine Frame.step (Round.setCore_frame ..) rfl ?_
    exact Frame.refl _ _
  · refine Frame.step (Round.heal_frame ..) rfl ?_
    refine Frame.foldl_of Round.s _ (fun _ _ => ?_) ?_
    · refine Frame.step (Round.markAt_frame ..) rfl ?_
      refine Frame.step (Round.store_frame ..) rfl ?_
      exact Frame.refl _ _
    · exact Frame.refl _ _
  · exact Frame.refl _ _

theorem Round.readParams_res {g : List Zone} {r : State} {x : Round} (c : Nat) (on : Bool) (addr n : Nat)
    (sub : [Zone.free, .ctxEntries, .steps, .array, .links].all g.contains = true) (h : Frame g r x.s) :
    Frame.Res g r (fun _ => True) (x.readParams c on addr n) := by
  unfold Round.readParams
  split
  · exact Frame.Res.bind (Round.load_res _ _ _ sub h) fun _ _ => trivial
  · trivial

theorem Round.through_res {r : State} {x : Round} {go : Round → Part} (c client : Nat) (h : Frame roundZones r x.s)
    (k : Round.Res r (go x)) : Round.Res r (x.through c client go) := .ite k h

theorem Round.beginPass_res {r : State} {x : Round} (c i) (h : Frame roundZones r x.s) :
    Round.Res r (x.beginPass c i) := by
  exact Frame.step (Round.setCore_frame ..) rfl h

theorem Round.takeSums_frame (a0) (a1) (a2) (a3) :
    Frame [.array] a0.s (Round.takeSums a0 a1 a2 a3).s := by
  unfold Round.takeSums
  split
  · refine Frame.ite_of Round.s ?_ ?_
    · dsimp only
      refine Frame.step (Round.setCore_frame ..) rfl ?_
      exact Frame.refl _ _
    · exact Frame.refl _ _
  · exact Frame.refl _ _

theorem Round.fillTile_res {r : State} {x : Round} (c f n off len rope) (h : Frame roundZones r x.s) :
    Round.Res r (x.fillTile c f n off len rope) := by
  unfold Round.fillTile
  split
  · exact Frame.step (Round.setCore_frame ..) rfl h
  · exact Frame.Res.bind (Round.load_res _ _ _ rfl h) fun _ _ => Frame.step (Round.setCore_frame ..) rfl h

theorem Round.moveTile_res {r : State} {x : Round} (c) (h : Frame roundZones r x.s) :
    Round.Res r (x.moveTile c) := by
  exact Frame.step (Round.setCore_frame ..) rfl h

theorem Round.startTile_frame (a0) (a1) (a2) (a3) (a4) :
    Frame [.array] a0.s (Round.startTile a0 a1 a2 a3 a4).s := by
  unfold Round.startTile
  dsimp only
  refine Frame.ite_of Round.s ?_ ?_
  · dsimp only
    refine Frame.step (Round.takeSums_frame ..) rfl ?_
    dsimp only
    refine Frame.step (Round.setCore_frame ..) rfl ?_
    exact Frame.refl _ _
  · dsimp only
    refine Frame.step (Round.setCore_frame ..) rfl ?_
    exact Frame.refl _ _

theorem Round.readRow_res {r : State} {x : Round} (c i f n q) (h : Frame roundZones r x.s) :
    Round.Res r (x.readRow c i f n q) := by
  unfold Round.readRow
  exact Frame.Res.bind (Round.groupRow_res _ _ _ _ rfl h) fun _ _ => h

theorem Round.readColumns_res {r : State} {x : Round} (c i f j) (h : Frame roundZones r x.s) :
    Round.Res r (x.readColumns c i f j) := by
  unfold Round.readColumns
  exact Frame.Res.bind (Round.readParams_res _ _ _ _ rfl h) fun _ _ =>
    Frame.Res.bind (Round.readParams_res _ _ _ _ rfl h) fun _ _ => h

theorem Round.runRow_res {r : State} {x : Round} (c i f n q) (h : Frame roundZones r x.s) :
    Round.Res r (x.runRow c i f n q) := by
  unfold Round.runRow
  extract_lets y
  have hy : Frame roundZones r y.s := Frame.ite_of Round.s (Frame.step (Round.startTile_frame ..) rfl h) h
  clear_value y
  split
  · extract_lets t jp
    have hj : ∀ a, Round.Res r (jp a) := fun _ =>
      Frame.Res.ite (a := .ok _) (b := .ok _) hy (Frame.step (Round.mapStep_frame ..) rfl (Frame.step (Round.setCore_frame ..) rfl hy))
    clear_value jp
    exact .ite (Frame.Res.bind (Round.groupRow_res _ _ _ _ rfl hy) fun _ _ => hj _) (hj _)
  · exact hy
  · exact hy

theorem Round.leave_frame (a0) (a1) (a2) (a3) :
    Frame [.free, .entries, .array, .health] a0.s (Round.leave a0 a1 a2 a3).s := by
  unfold Round.leave
  refine Frame.step (Round.emit_frame ..) rfl ?_
  exact Frame.refl _ _

theorem Round.emitRow_res {r : State} {x : Round} (c i f j q) (h : Frame roundZones r x.s) :
    Round.Res r (x.emitRow c i f j q) := by
  unfold Round.emitRow
  split
  · extract_lets cs scaleOf bank es overs nans sr y
    have hy : Frame roundZones r y.s := Frame.step (Round.mapStep_frame ..) rfl h
    clear_value y
    exact .ite (Frame.step (Round.deliver_frame ..) rfl hy) hy
  · exact h
  · exact h

theorem Round.leaveRow_res {r : State} {x : Round} (c i f q) (h : Frame roundZones r x.s) :
    Round.Res r (x.leaveRow c i f q) := by
  unfold Round.leaveRow
  exact Frame.step (Round.leave_frame ..) rfl h

theorem Round.loadLanes_res {g : List Zone} {r : State} {x : Round} (c w : Nat) (ls : List VeLane)
    (sub : [Zone.free, .ctxEntries, .steps, .array, .links].all g.contains = true) (h : Frame g r x.s) :
    Frame.Res g r (fun _ => True) (x.loadLanes c w ls) := by
  induction ls with
  | nil => trivial
  | cons l ls ih => exact Frame.Res.bind (Round.load_res _ _ _ sub h) fun _ _ => Frame.Res.bind ih fun _ _ => trivial

theorem Round.storeValue_frame (a0) (a1) (a2) (a3) (a4) :
    Frame [.free, .ctxEntries, .near, .nearMem, .steps, .array, .links] a0.s (Round.storeValue a0 a1 a2 a3 a4).s := by
  unfold Round.storeValue
  dsimp only
  split
  · refine Frame.step (Round.markAt_frame ..) rfl ?_
    refine Frame.step (Round.store_frame ..) rfl ?_
    exact Frame.refl _ _
  · refine Frame.ite_of Round.s ?_ ?_
    · refine Frame.step (Round.mapStep_frame ..) rfl ?_
      refine Frame.step (Round.markAt_frame ..) rfl ?_
      refine Frame.step (Round.store_frame ..) rfl ?_
      exact Frame.refl _ _
    · refine Frame.ite_of Round.s ?_ ?_
      · refine Frame.step (Round.setCore_frame ..) rfl ?_
        refine Frame.step (Round.markAt_frame ..) rfl ?_
        refine Frame.step (Round.store_frame ..) rfl ?_
        exact Frame.refl _ _
      · refine Frame.step (Round.markAt_frame ..) rfl ?_
        refine Frame.step (Round.store_frame ..) rfl ?_
        exact Frame.refl _ _

theorem Round.askPilots_frame (a0) (a1) :
    Frame [.free, .ctxEntries, .links] a0.s (Round.askPilots a0 a1).s := by
  unfold Round.askPilots
  split
  · refine Frame.ite_of Round.s ?_ ?_
    · exact Frame.refl _ _
    · dsimp only
      refine Frame.foldl _ (fun _ _ => ?_) ?_
      · refine Frame.step (State.ask_frame ..) rfl ?_
        exact Frame.refl _ _
      · exact Frame.refl _ _
  · exact Frame.refl _ _

theorem Round.normOne_res {r : State} {x : Round} (c o a) (h : Frame roundZones r x.s) : Round.Res r (x.normOne c o a) := by
  unfold Round.normOne
  split
  · exact h
  · rename_i p _
    extract_lets b m n f w xs mode ref on at' jp
    have hj : ∀ sh, Round.Res r (jp sh) := fun sh => by
      simp only [jp]
      have hs := fun (z : Round) (a b e : Nat) (bs cs : Bytes) (u w : FVal) (hz : Frame roundZones r z.s) =>
        Frame.step (Round.storeValue_frame (z.storeValue a b bs u) a e cs w) (g := roundZones) rfl
          (Frame.step (Round.storeValue_frame z a b bs u) rfl hz)
      refine .ite ?_ (hs _ _ _ _ _ _ _ _ h)
      refine Frame.Res.bind (State.stepWrite_res _ _ _ rfl (hs _ _ _ _ _ _ _ _ h)) fun _ k => ?_
      exact Frame.step (Round.mapStep_frame ..) rfl k
    clear_value mode jp
    split
    · refine Frame.Res.bind (post := fun _ => True) ?_ fun _ _ => hj _
      have := State.stepRead_res p (pilotAt p ref ((p.seq.toNat + 1) % 2) m) 4 rfl h
      generalize x.s.stepRead p (pilotAt p ref ((p.seq.toNat + 1) % 2) m) 4 = e at this ⊢
      cases e with
      | ok a => trivial
      | error t => exact this
    · exact hj _
    · exact hj _

theorem Round.waits_frame (a0) (a1) (a2) :
    Frame [] a0.s (Round.waits a0 a1 a2).s := by
  unfold Round.waits
  exact Frame.refl _ _

theorem Round.storeLane_frame (a0) (a1) (a2) (a3) (a4) :
    Frame [.free, .ctxEntries, .near, .nearMem, .steps, .array, .links] a0.s (Round.storeLane a0 a1 a2 a3 a4).s := by
  unfold Round.storeLane
  dsimp only
  refine Frame.step (Round.storeValue_frame ..) rfl ?_
  exact Frame.refl _ _

theorem Round.normGrant_res {r : State} {x : Round} (c o a rest) (h : Frame roundZones r x.s) :
    Round.Res r (x.normGrant c o a rest) := by
  unfold Round.normGrant
  extract_lets n done
  exact .ite (Frame.Res.bind (Round.load_res _ _ _ rfl h) fun _ _ => h)
    (Frame.Res.bind (Round.normOne_res _ _ _ h) fun _ h => h)

theorem Round.ve_frame (x : Round) (c v) : Frame [.steps, .array] x.s (x.ve c v).s := by
  unfold Round.ve
  extract_lets k put zip3
  have hp : ∀ k, Frame [.steps, .array] x.s (put k).s := fun _ => Frame.mono (Round.setCore_frame ..) rfl
  have hz : ∀ f, Frame [.steps, .array] x.s (zip3 f).s := fun _ => hp _
  clear_value zip3 put
  refine Frame.ite_of Round.s (Frame.refl _ _) (Frame.ite_of Round.s (hz _) (Frame.ite_of Round.s (hp _)
    (Frame.ite_of Round.s (hp _) (Frame.ite_of Round.s ?_ (Frame.ite_of Round.s (hp _) (Frame.ite_of Round.s (hp _)
      (Frame.ite_of Round.s ?_ (Frame.ite_of Round.s ?_ (Frame.ite_of Round.s (hz _) (Frame.refl _ _))))))))))
  · split
    · exact hp _
    · exact Frame.refl _ _
  · exact Frame.step (Round.mapStep_frame ..) rfl (hp _)
  · exact Frame.step (Round.mapStep_frame ..) rfl (hp _)

theorem Round.issue_res {r : State} {x : Round} (c sec o) (h : Frame roundZones r x.s) : Round.Res r (x.issue c sec o) := by
  unfold Round.issue
  extract_lets v later ls ro y
  have ha : Frame roundZones r y.s := Frame.step (Round.askPilots_frame ..) rfl h
  clear_value y
  exact .ite (.ite h (Round.through_res _ _ h h)) (.ite (.ite ha (Round.through_res _ _ ha ha))
    (Frame.step (Round.ve_frame ..) rfl h))

theorem Round.veGrant_res {r : State} {x : Round} (c sec) (h : Frame roundZones r x.s) : Round.Res r (x.veGrant c sec) := by
  unfold Round.veGrant
  split
  · exact h
  · extract_lets v now more
    refine .ite h (.ite ?_ (.ite ?_ (Round.normGrant_res _ _ _ _ h)))
    · exact Frame.Res.bind (Round.loadLanes_res _ _ _ rfl h) fun _ _ => h
    · refine Frame.step (Round.heal_frame ..) rfl ?_
      exact Frame.foldl_of Round.s _ (fun _ _ => Frame.mono (Round.storeLane_frame ..) rfl) h

theorem Round.veLand_res {r : State} {x : Round} (c) (h : Frame roundZones r x.s) : Round.Res r (x.veLand c) := by
  unfold Round.veLand
  exact Frame.step (Round.setCore_frame ..) rfl h

theorem Round.steerOut_frame (a0) (a1) (a2) (a3) (a4) :
    Frame [.free, .entries, .array, .health] a0.s (Round.steerOut a0 a1 a2 a3 a4).s := by
  unfold Round.steerOut
  refine Frame.ite_of Round.s ?_ ?_
  · refine Frame.step (Round.send_frame ..) rfl ?_
    exact Frame.refl _ _
  · refine Frame.ite_of Round.s ?_ ?_
    · refine Frame.step (Round.setCore_frame ..) rfl ?_
      exact Frame.refl _ _
    · refine Frame.ite_of Round.s ?_ ?_
      · dsimp only
        refine Frame.step (Round.setCore_frame ..) rfl ?_
        exact Frame.refl _ _
      · refine Frame.step (Round.queueFor_frame ..) rfl ?_
        exact Frame.refl _ _

theorem Round.pop_frame {a0 a1 a2 a3} {x} {t : Round} (h : Round.pop a0 a1 a2 a3 = some (x, t)) : Frame [.array] a0.s t.s := by
  unfold Round.pop at h
  split at h
  · cases h; exact Frame.refl _ _
  · split at h
    · cases h
    · cases h; exact Round.setCore_frame ..

theorem Round.decided_frame (a0) (a1) (a2) (a3) :
    Frame [.array] a0.s (Round.decided a0 a1 a2 a3).s := by
  unfold Round.decided
  refine Frame.step (Round.setCore_frame ..) rfl ?_
  exact Frame.refl _ _

theorem Round.control_frame {a0 a1 a2 a3} {x} {t : Round} (h : Round.control a0 a1 a2 a3 = some (x, t)) :
    Frame [.array] a0.s t.s := by
  unfold Round.control at h
  split at h
  · cases k : Round.pop a0 a1 a2 a3.ctrl with
    | none => rw [k] at h; cases h
    | some p => rw [k] at h; cases h; exact Round.pop_frame k
  · split at h
    · cases h; exact Frame.refl _ _
    · cases h; exact Frame.refl _ _

theorem Round.steer_frame (x : Round) (c j t) : Frame [.free, .entries, .array, .health] x.s (x.steer c j t).s := by
  unfold Round.steer
  extract_lets k n running port ready
  refine Frame.ite_of Round.s ?_ (Frame.ite_of Round.s ?_ (Frame.ite_of Round.s (Frame.refl _ _) ?_))
  · split
    · exact Frame.step (Round.steerOut_frame ..) rfl (Frame.mono (Round.setCore_frame ..) rfl)
    · exact Frame.refl _ _
  · split
    · exact Frame.step (Round.steerOut_frame ..) rfl (Frame.step (Round.setCore_frame ..) rfl
        (Frame.mono (Round.pop_frame (by assumption)) rfl))
    · exact Frame.refl _ _
  · split
    · exact Frame.refl _ _
    · rename_i v y hc
      have hy := Round.control_frame hc
      extract_lets ok port
      split
      · exact Frame.refl _ _
      · rename_i p z hz
        extract_lets z'
        have hd : Frame [.free, .entries, .array, .health] x.s z'.s :=
          Frame.step (Round.decided_frame ..) rfl (Frame.mono (hy.trans (Round.pop_frame hz)) rfl)
        split
        · exact Frame.step (Round.steerOut_frame ..) rfl hd
        · exact Frame.step (Round.steerOut_frame ..) rfl hd
        · exact Frame.ite_of Round.s (Frame.step (Round.steerOut_frame ..) rfl hd) hd
        · exact Frame.step (Round.steerOut_frame ..) rfl (Frame.ite_of Round.s hd (Frame.step (Round.setCore_frame ..) rfl hd))
        · exact Frame.ite_of Round.s (Frame.step (Round.steerOut_frame ..) rfl hd) hd
        · exact Frame.ite_of Round.s (Frame.step (Round.steerOut_frame ..) rfl hd)
            (Frame.step (Round.steerOut_frame ..) rfl (Frame.step (Round.setCore_frame ..) rfl hd))

end Sys2Proof.Machine
end

