-- ==== Sys2Proof/Laws/Streams.lean ====
section
/-! SUPPORT. What the operations of Streams can change: one frame each. -/

namespace Sys2Proof.Machine

theorem State.setStream_frame (a0) (a1) (a2) :
    Frame [.array] a0 (State.setStream a0 a1 a2) := by
  unfold State.setStream
  refine Frame.set_array _ rfl ?_
  exact Frame.refl _ _

theorem State.advance_frame (a0) (a1) (a2) :
    Frame [.array] a0 (State.advance a0 a1 a2) := by
  unfold State.advance
  refine Frame.step (State.setCore_frame ..) rfl ?_
  exact Frame.refl _ _

theorem State.merged_frame (a0) (a1) (a2) (a3) (a4) :
    Frame [.free, .ctxEntries] a0 (State.merged a0 a1 a2 a3 a4).1 := by
  unfold State.merged
  dsimp only
  refine Frame.ite_of Prod.fst ?_ ?_
  · exact Frame.refl _ _
  · dsimp only
    refine Frame.ite ?_ ?_
    · refine Frame.step (State.fresh_frame ..) rfl ?_
      exact Frame.refl _ _
    · refine Frame.step (State.cbump_frame ..) rfl ?_
      refine Frame.step (State.fresh_frame ..) rfl ?_
      exact Frame.refl _ _

theorem State.land_frame (a0) (a1) (a2) (a3) :
    Frame [.array] a0 (State.land a0 a1 a2 a3) := by
  unfold State.land
  refine Frame.step (State.advance_frame ..) rfl ?_
  refine Frame.step (State.setStream_frame ..) rfl ?_
  exact Frame.refl _ _

theorem State.outside_frame (a0) (a1) (a2) :
    Frame [.free, .ctxEntries, .steps, .array, .links] a0 (State.outside a0 a1 a2) := by
  unfold State.outside
  refine Frame.step (State.endStep_frame ..) rfl ?_
  exact Frame.refl _ _

theorem State.translateAhead_frame (k : Nat) (s : State) (x : Strm) (pos : Nat) :
    Frame [.entries, .bulk] s (State.translateAhead k s x pos) := by
  induction k generalizing s pos with
  | zero => exact Frame.refl _ _
  | succ k ih =>
    unfold State.translateAhead
    split
    · exact Frame.refl _ _
    · exact Frame.ite (Frame.refl _ _) (Frame.trans (State.translatePage_frame ..) (ih _ _))

theorem State.streamIn_frame (k : Nat) (s : State) (x : Strm) (n : Nat) :
    Frame [.free, .out, .entries, .ctxEntries, .bulk, .steps, .array, .links, .health, .power] s (State.streamIn k s x n) := by
  induction k generalizing s x n with
  | zero => exact Frame.refl _ _
  | succ k ih =>
    unfold State.streamIn
    dsimp only
    split
    · exact Frame.refl _ _
    · split
      · exact Frame.mono (State.outside_frame ..) rfl
      · split
        · split
          · exact Frame.refl _ _
          · split
            next e =>
              exact Frame.step (State.setStream_frame ..) rfl
                (Frame.step (Frame.of_fst (State.remoteRead_frame ..) e) rfl (Frame.mono (State.merged_frame ..) rfl))
            · exact Frame.refl _ _
        · split
          · exact Frame.refl _ _
          · split
            · refine Frame.trans ?_ (ih _ _ _)
              refine Frame.step (State.translateAhead_frame ..) rfl ?_
              refine Frame.step (State.land_frame ..) rfl ?_
              exact Frame.step (State.pathEvents_frame ..) rfl
                (Frame.step (State.accessed_frame ..) rfl (Frame.mono (State.merged_frame ..) rfl))
            · exact Frame.refl _ _
            · exact Frame.step (State.stepDamage_frame ..) rfl (Frame.mono (State.accessed_frame ..) rfl)

theorem execStreamDataArrival_frame {a0} {a1} {a2} {a3} {t : State} (h : execStreamDataArrival a0 a1 a2 a3 = .next t) :
    Frame [.free, .out, .entries, .ctxEntries, .bulk, .steps, .array, .links, .health, .power] a3 t := by
  cases h
  split
  · refine Frame.ite ?_ ?_
    · refine Frame.step (State.streamIn_frame ..) rfl ?_
      exact Frame.refl _ _
    · exact Frame.refl _ _
  · exact Frame.refl _ _

theorem State.wrote_frame (a0) (a1) (a2) :
    Frame [.steps, .array] a0 (State.wrote a0 a1 a2) := by
  unfold State.wrote
  refine Frame.step (State.advance_frame ..) rfl ?_
  split
  · refine Frame.step (State.setStep_frame ..) rfl ?_
    refine Frame.step (State.setStream_frame ..) rfl ?_
    exact Frame.refl _ _
  · refine Frame.step (State.setStream_frame ..) rfl ?_
    exact Frame.refl _ _

theorem State.streamOut_frame (k : Nat) (s : State) (x : Strm) (n : Nat) :
    Frame [.free, .out, .entries, .ctxEntries, .host, .near, .nearMem, .bulk, .bulkMem, .steps, .array, .links, .health, .power] s
      (State.streamOut k s x n) := by
  induction k generalizing s x n with
  | zero => exact Frame.refl _ _
  | succ k ih =>
    unfold State.streamOut
    dsimp only
    split
    · exact Frame.refl _ _
    · split
      · exact Frame.mono (State.outside_frame ..) rfl
      · split
        · exact Frame.refl _ _
        · split
          next e =>
            refine Frame.trans ?_ (ih _ _ _)
            refine Frame.step (State.translateAhead_frame ..) rfl ?_
            refine Frame.step (State.wrote_frame ..) rfl ?_
            refine Frame.step (State.pathEvents_frame ..) rfl ?_
            refine Frame.step (Frame.of_fst (State.writesBy_frame ..) e) rfl ?_
            exact Frame.step (State.accessed_frame ..) rfl (Frame.mono (State.merged_frame ..) rfl)
          · exact Frame.ite (Frame.mono (State.stepDamage_frame ..) rfl) (Frame.refl _ _)

theorem State.remoteOut_frame (k : Nat) (s : State) (x : Strm) (n : Nat) :
    Frame [.free, .ctxEntries, .ctxs, .steps, .array, .links] s (State.remoteOut k s x n) := by
  induction k generalizing s x n with
  | zero => exact Frame.refl _ _
  | succ k ih =>
    unfold State.remoteOut
    dsimp only
    split
    · exact Frame.refl _ _
    · split
      · split
        · exact Frame.refl _ _
        · refine Frame.step (State.flushPorts_frame ..) rfl ?_
          refine Frame.step (State.setStream_frame ..) rfl ?_
          split
          · exact Frame.mono (State.setStep_frame ..) rfl
          · exact Frame.refl _ _
      · split
        · exact Frame.refl _ _
        · split
          · exact Frame.mono (State.outside_frame ..) rfl
          · split
            next e =>
              refine Frame.trans ?_ (ih _ _ _)
              refine Frame.step (State.setStream_frame ..) rfl ?_
              exact Frame.step (Frame.of_fst (State.remoteWrite_frame ..) e) rfl (Frame.mono (State.merged_frame ..) rfl)
            · exact Frame.refl _ _

theorem execStreamWriteAck_frame {a0} {a1} {a2} {a3} {t : State} (h : execStreamWriteAck a0 a1 a2 a3 = .next t) :
    Frame [.free, .out, .entries, .ctxEntries, .host, .near, .nearMem, .bulk, .bulkMem, .steps, .array, .ctxs, .links, .health, .power] a3 t := by
  cases h
  split
  · refine Frame.ite ?_ ?_
    · refine Frame.ite ?_ ?_
      · refine Frame.step (State.remoteOut_frame ..) rfl ?_
        exact Frame.refl _ _
      · refine Frame.step (State.streamOut_frame ..) rfl ?_
        exact Frame.refl _ _
    · exact Frame.refl _ _
  · exact Frame.refl _ _

theorem State.ropeRead_frame (a0) (a1) (a2) (a3) (a4) :
    Frame [.free, .entries, .ctxEntries, .bulk, .steps, .array, .links, .health, .power] a0 (State.ropeRead a0 a1 a2 a3 a4).1 := by
  unfold State.ropeRead
  dsimp only
  refine Frame.ite_of Prod.fst ?_ ?_
  · refine Frame.ite_of Prod.fst ?_ ?_
    · exact Frame.refl _ _
    · refine Frame.ite_of Prod.fst ?_ ?_
      · dsimp only
        refine Frame.step (State.setStream_frame ..) rfl ?_
        exact Frame.refl _ _
      · split
        · dsimp only
          refine Frame.step (Frame.of_fst (State.remoteRead_frame ..) (by assumption)) rfl ?_
          exact Frame.refl _ _
        · dsimp only
          refine Frame.step (State.setStream_frame ..) rfl ?_
          refine Frame.step (Frame.of_fst (State.remoteRead_frame ..) (by assumption)) rfl ?_
          exact Frame.refl _ _
        · exact Frame.refl _ _
  · refine Frame.ite_of Prod.fst ?_ ?_
    · exact Frame.refl _ _
    · split
      · dsimp only
        refine Frame.step (State.pathEvents_frame ..) rfl ?_
        refine Frame.step (State.accessed_frame ..) rfl ?_
        exact Frame.refl _ _
      · dsimp only
        refine Frame.step (State.stepDamage_frame ..) rfl ?_
        refine Frame.step (State.accessed_frame ..) rfl ?_
        exact Frame.refl _ _
      · exact Frame.refl _ _

theorem State.readTable_frame (a0) (a1) (a2) :
    Frame [.free, .entries, .ctxEntries, .bulk, .steps, .array, .links, .health, .power] a0 (State.readTable a0 a1 a2).1 := by
  unfold State.readTable
  split
  · dsimp only
    refine Frame.step (Frame.of_fst (State.ropeRead_frame ..) (by assumption)) rfl ?_
    exact Frame.refl _ _
  · split
    · dsimp only
      refine Frame.step (State.setStream_frame ..) rfl ?_
      refine Frame.step (Frame.of_fst (State.ropeRead_frame ..) (by assumption)) rfl ?_
      exact Frame.refl _ _
    · dsimp only
      refine Frame.step (State.endStep_frame ..) rfl ?_
      refine Frame.step (Frame.of_fst (State.ropeRead_frame ..) (by assumption)) rfl ?_
      exact Frame.refl _ _

theorem State.sliceBlock_frame_error {s : State} {x : Strm} {n : Nat} {t : State} (h : State.sliceBlock s x n = .error t) :
    Frame [.free, .ctxEntries, .steps, .array, .links] s t := by
  unfold State.sliceBlock at h
  dsimp only at h
  split at h
  · cases h; exact State.suppress_frame ..
  · split at h
    · cases h; exact State.sliceDamage_frame ..
    · cases h

theorem State.putBlock_frame (a0) (a1) (a2) (a3) :
    Frame [.array] a0 (State.putBlock a0 a1 a2 a3) := by
  unfold State.putBlock
  dsimp only
  refine Frame.step (State.advance_frame ..) rfl ?_
  refine Frame.step (State.setCore_frame ..) rfl ?_
  exact Frame.refl _ _

theorem State.readyBlocks_frame (a0) (a1) (a2) :
    Frame [.free, .ctxEntries, .steps, .array, .links] a0 (State.readyBlocks a0 a1 a2) := by
  unfold State.readyBlocks
  dsimp only
  split
  · refine Frame.step (State.endStep_frame ..) rfl ?_
    exact Frame.refl _ _
  · refine Frame.step (State.setCore_frame ..) rfl ?_
    exact Frame.refl _ _

theorem State.nextBlock_frame (a0) (a1) (a2) :
    Frame [.free, .entries, .ctxEntries, .bulk, .steps, .array, .links, .health, .power] a0 (State.nextBlock a0 a1 a2) := by
  unfold State.nextBlock
  dsimp only
  refine Frame.ite ?_ ?_
  · refine Frame.ite ?_ ?_
    · exact Frame.refl _ _
    · refine Frame.ite ?_ ?_
      · refine Frame.ite ?_ ?_
        · exact Frame.refl _ _
        · split
          · refine Frame.step (State.putBlock_frame ..) rfl ?_
            exact Frame.refl _ _
          · refine Frame.step (State.sliceBlock_frame_error (by assumption)) rfl ?_
            exact Frame.refl _ _
      · split
        · refine Frame.step (State.putBlock_frame ..) rfl ?_
          refine Frame.step (Frame.of_fst (State.ropeRead_frame ..) (by assumption)) rfl ?_
          exact Frame.refl _ _
        · refine Frame.step (Frame.of_fst (State.ropeRead_frame ..) (by assumption)) rfl ?_
          exact Frame.refl _ _
  · split
    · exact Frame.refl _ _
    · split
      · exact Frame.refl _ _
      · refine Frame.step (State.putBlock_frame ..) rfl ?_
        refine Frame.step (State.setCore_frame ..) rfl ?_
        exact Frame.refl _ _

theorem State.ropeTable_frame (a0) (a1) (a2) :
    Frame [.free, .entries, .ctxEntries, .bulk, .steps, .array, .links, .health, .power] a0 (State.ropeTable a0 a1 a2) := by
  unfold State.ropeTable
  dsimp only
  refine Frame.ite ?_ ?_
  · refine Frame.step (State.readyBlocks_frame ..) rfl ?_
    split
    · refine Frame.ite_of Prod.fst ?_ ?_
      · exact Frame.refl _ _
      · refine Frame.step (State.readTable_frame ..) rfl ?_
        exact Frame.refl _ _
    · exact Frame.refl _ _
  · split
    · refine Frame.ite_of Prod.fst ?_ ?_
      · exact Frame.refl _ _
      · refine Frame.step (State.readTable_frame ..) rfl ?_
        exact Frame.refl _ _
    · exact Frame.refl _ _

theorem State.ropeBlock_frame (a0) (a1) (a2) :
    Frame [.free, .entries, .ctxEntries, .bulk, .steps, .array, .links, .health, .power] a0 (State.ropeBlock a0 a1 a2) := by
  unfold State.ropeBlock
  dsimp only
  refine Frame.step (State.ropeTable_frame ..) rfl ?_
  refine Frame.ite ?_ ?_
  · refine Frame.step (State.nextBlock_frame ..) rfl ?_
    exact Frame.refl _ _
  · exact Frame.refl _ _

theorem execRopeBlockArrival_frame {a0} {a1} {t : State} (h : execRopeBlockArrival a0 a1 = .next t) :
    Frame [.free, .entries, .ctxEntries, .bulk, .steps, .array, .links, .health, .power] a1 t := by
  cases h
  split
  · refine Frame.step (State.ropeBlock_frame ..) rfl ?_
    exact Frame.refl _ _
  · exact Frame.refl _ _

theorem State.haltStream_frame (a0) (a1) (a2) :
    Frame [.free, .out, .entries, .ctxEntries, .steps, .array, .links] a0 (State.haltStream a0 a1 a2) := by
  unfold State.haltStream
  dsimp only
  refine Frame.ite ?_ ?_
  · refine Frame.step (State.groupCast_frame ..) rfl ?_
    refine Frame.foldl _ (fun _ _ => ?_) ?_
    · refine Frame.step (State.endWait_frame ..) rfl ?_
      exact Frame.refl _ _
    · refine Frame.step (State.setStream_frame ..) rfl ?_
      refine Frame.step (State.cbump_frame ..) rfl ?_
      refine Frame.step (State.noteMiss_frame ..) rfl ?_
      exact Frame.refl _ _
  · refine Frame.foldl _ (fun _ _ => ?_) ?_
    · refine Frame.step (State.endWait_frame ..) rfl ?_
      exact Frame.refl _ _
    · refine Frame.step (State.setStream_frame ..) rfl ?_
      refine Frame.step (State.cbump_frame ..) rfl ?_
      refine Frame.step (State.noteMiss_frame ..) rfl ?_
      exact Frame.refl _ _

theorem State.countUnsent_frame (a0) (a1) (a2) :
    Frame [.free, .ctxEntries] a0 (State.countUnsent a0 a1 a2) := by
  unfold State.countUnsent
  refine Frame.ite ?_ ?_
  · refine Frame.step (State.cbump_frame ..) rfl ?_
    exact Frame.refl _ _
  · exact Frame.refl _ _

theorem execStreamTranslationFault_frame {a0} {a1} {a2} {t : State} (h : execStreamTranslationFault a0 a1 a2 = .next t) :
    Frame [.free, .out, .entries, .ctxEntries, .bulk, .steps, .array, .links, .power] a2 t := by
  cases h
  split
  · refine Frame.ite ?_ ?_
    · exact Frame.refl _ _
    · split
      · refine Frame.step (State.haltStream_frame ..) rfl ?_
        refine Frame.step (State.countUnsent_frame ..) rfl ?_
        refine Frame.step (State.accessPage_frame ..) rfl ?_
        exact Frame.refl _ _
      · exact Frame.refl _ _
  · exact Frame.refl _ _

theorem State.resume_frame (a0) (a1) (a2) :
    Frame [.array, .links] a0 (State.resume a0 a1 a2) := by
  unfold State.resume
  dsimp only
  split
  · refine Frame.ite ?_ ?_
    · refine Frame.step (State.setStream_frame ..) rfl ?_
      exact Frame.refl _ _
    · refine Frame.ite ?_ ?_
      · refine Frame.foldl _ (fun _ _ => ?_) ?_
        · refine Frame.step (State.startWait_frame ..) rfl ?_
          exact Frame.refl _ _
        · refine Frame.step (State.setStream_frame ..) rfl ?_
          exact Frame.refl _ _
      · refine Frame.step (State.groupCast_frame ..) rfl ?_
        refine Frame.foldl _ (fun _ _ => ?_) ?_
        · refine Frame.step (State.startWait_frame ..) rfl ?_
          exact Frame.refl _ _
        · refine Frame.step (State.setStream_frame ..) rfl ?_
          exact Frame.refl _ _
  · refine Frame.step (State.setStream_frame ..) rfl ?_
    exact Frame.refl _ _

theorem execSprSave_frame {a0} {a1} {a2} {a3} {t : State} (h : execSprSave a0 a1 a2 a3 = .next t) :
    Frame [.free, .out, .uptime, .entries, .ctxEntries, .host, .near, .nearMem, .bulk, .bulkMem, .rings, .msix, .pages, .cmds, .array, .links, .health, .power] a3 t := by
  cases h
  dsimp only
  split
  · refine Frame.ite ?_ ?_
    · refine Frame.step (State.postEvent_frame ..) rfl ?_
      refine Frame.step (State.setStream_frame ..) rfl ?_
      refine Frame.step (State.at_frame ..) rfl ?_
      exact Frame.refl _ _
    · refine Frame.foldl _ (fun _ _ => ?_) ?_
      · refine Frame.step (State.complete_frame ..) rfl ?_
        exact Frame.refl _ _
      · refine Frame.step (State.resume_frame ..) rfl ?_
        refine Frame.step (State.postEvent_frame ..) rfl ?_
        refine Frame.step (State.setStream_frame ..) rfl ?_
        refine Frame.step (State.at_frame ..) rfl ?_
        exact Frame.refl _ _
  · exact Frame.refl _ _

theorem execResumeStream_frame {a0} {a1} {t : State} (h : execResumeStream a0 a1 = .next t) :
    Frame [.free, .out, .entries, .ctxEntries, .host, .near, .nearMem, .bulk, .bulkMem, .rings, .msix, .pages, .cmds, .array, .links, .health, .power] a1 t := by
  cases h
  split
  · exact Frame.refl _ _
  · dsimp only
    split
    · refine Frame.ite ?_ ?_
      · refine Frame.step (State.complete_frame ..) rfl ?_
        exact Frame.refl _ _
      · refine Frame.ite ?_ ?_
        · refine Frame.step (State.complete_frame ..) rfl ?_
          refine Frame.step (State.resume_frame ..) rfl ?_
          exact Frame.refl _ _
        · refine Frame.step (State.stage_frame ..) rfl ?_
          refine Frame.step (State.setStream_frame ..) rfl ?_
          exact Frame.refl _ _
    · refine Frame.step (State.complete_frame ..) rfl ?_
      exact Frame.refl _ _

theorem execStreamFaultTimeout_frame {a0} {a1} {a2} {a3} {t : State} (h : execStreamFaultTimeout a0 a1 a2 a3 = .next t) :
    Frame [.free, .uptime, .ctxEntries, .steps, .array, .links] a3 t := by
  cases h
  split
  · refine Frame.ite ?_ ?_
    · refine Frame.step (State.endStep_frame ..) rfl ?_
      refine Frame.step (State.at_frame ..) rfl ?_
      exact Frame.refl _ _
    · exact Frame.refl _ _
  · exact Frame.refl _ _

end Sys2Proof.Machine
end

