-- ==== Sys2Proof/Laws/Rounds.lean ====
section
/-! SUPPORT. What the operations of Rounds can change: one frame each. -/

namespace Sys2Proof.Machine

theorem State.setCluster_frame (a0) (a1) (a2) :
    Frame [.array] a0 (State.setCluster a0 a1 a2) := by
  unfold State.setCluster
  refine Frame.set_array _ rfl ?_
  exact Frame.refl _ _

theorem State.routeFault_frame (a0) (a1) (a2) (a3) (a4) :
    Frame [.free, .ctxEntries, .steps, .array, .links] a0 (State.routeFault a0 a1 a2 a3 a4) := by
  unfold State.routeFault
  refine Frame.step (State.endStep_frame ..) rfl ?_
  refine Frame.step (State.cset_frame ..) rfl ?_
  refine Frame.step (State.cbump_frame ..) rfl ?_
  exact Frame.refl _ _

theorem Due.flushHalves_frame (a0) (a1) :
    Frame [.array] a1 (Due.flushHalves a0 a1) := by
  unfold Due.flushHalves
  refine Frame.foldl _ (fun _ _ => ?_) ?_
  · refine Frame.foldl _ (fun _ _ => ?_) ?_
    · split
      · refine Frame.ite ?_ ?_
        · refine Frame.step (State.setStream_frame ..) rfl ?_
          exact Frame.refl _ _
        · exact Frame.refl _ _
      · exact Frame.refl _ _
    · exact Frame.refl _ _
  · exact Frame.refl _ _

theorem Due.finish_frame (a0) (a1) :
    Frame [.free, .entries, .ctxEntries, .steps, .array, .links] a1 (Due.finish a0 a1) := by
  unfold Due.finish
  split
  · refine Frame.step (State.routeFault_frame ..) rfl ?_
    exact Frame.refl _ _
  · dsimp only
    refine Frame.step (State.setCluster_frame ..) rfl ?_
    refine Frame.step (State.countFreeze_frame ..) rfl ?_
    refine Frame.step (Due.flushHalves_frame ..) rfl ?_
    exact Frame.refl _ _

theorem Round.setStream_frame (a0) (a1) (a2) :
    Frame [.array] a0.s (Round.setStream a0 a1 a2).s := by
  unfold Round.setStream
  refine Frame.step (State.setStream_frame ..) rfl ?_
  exact Frame.refl _ _

theorem Round.fill_frame (a0) (a1) (a2) (a3) (a4) (a5) (a6) :
    Frame [.array] a0.s (Round.fill a0 a1 a2 a3 a4 a5 a6).s := by
  unfold Round.fill
  exact Frame.mono (Round.setStream_frame ..) rfl

theorem Round.sendPiece_frame (a0) (a1) (a2) :
    Frame [.free, .entries, .array, .health] a0.s (Round.sendPiece a0 a1 a2).s := by
  unfold Round.sendPiece
  exact Frame.step (Round.emit_frame ..) rfl (Frame.mono (Round.setStream_frame ..) rfl)

theorem Round.takeIn_frame (a0) (a1) : Frame [.array] a0.s (Round.takeIn a0 a1).s := by
  unfold Round.takeIn
  exact Frame.step (Round.fill_frame ..) rfl (Frame.mono (Round.setCore_frame ..) rfl)

theorem Round.intoSlice_res {r : State} {x : Round} (u : Use) (n : Nat) (h : Frame roundZones r x.s) :
    Frame roundZones r (x.intoSlice u n).s := by
  unfold Round.intoSlice
  extract_lets t k q b room at' first y z mark w
  have hy : Frame roundZones r y.s := Frame.step (Round.store_frame ..) rfl (Frame.step (Round.setCore_frame ..) rfl h)
  have hz : Frame roundZones r z.s := Frame.ite_of Round.s (Frame.step (Round.store_frame ..) rfl hy) hy
  have hm : ∀ (ps : List Pkt) (q : Round × Nat), Frame roundZones r q.1.s → Frame roundZones r (ps.foldl mark q).1.s := by
    intro ps
    induction ps with
    | nil => exact fun _ h => h
    | cons p ps ih => exact fun q h => ih _ (Frame.step (Round.markAt_frame ..) rfl h)
  exact Frame.step (Round.setStream_frame ..) rfl (hm _ (z, t.filled) hz)

theorem Round.piece_res {r : State} {x : Round} (u : Use) (h : Frame roundZones r x.s) : Round.Res r (x.piece u) := by
  unfold Round.piece
  extract_lets done n off y
  have hy : Frame roundZones r y.s := h
  clear_value y
  split
  · exact Frame.step (Round.store_frame ..) rfl hy
  · exact Frame.Res.bind (Round.load_res _ _ _ rfl hy) fun _ _ =>
      Frame.step (Round.fill_frame ..) rfl (Frame.step (Round.mapStep_frame ..) rfl hy)
  · exact Round.intoSlice_res _ _ h

theorem Round.seGrant_res {r : State} {x : Round} (us : List Use) (h : Frame roundZones r x.s) :
    Round.Res r (x.seGrant us) := by
  unfold Round.seGrant
  split
  · exact h
  · exact Round.piece_res _ h

theorem Round.release_frame (a0) (a1) :
    Frame [.array] a0.s (Round.release a0 a1).s := by
  unfold Round.release
  refine Frame.step (Round.setStream_frame ..) rfl ?_
  exact Frame.refl _ _

theorem Round.takeBlock_frame (a0) (a1) :
    Frame [.array] a0.s (Round.takeBlock a0 a1).s := by
  unfold Round.takeBlock
  dsimp only
  refine Frame.step (Round.setCore_frame ..) rfl ?_
  exact Frame.refl _ _

theorem Round.readHead_res {r : State} (c k : Nat) {x : Round} (h : Frame roundZones r x.s) :
    Round.Res r (x.readHead c k) := by
  induction k generalizing x with
  | zero => exact h
  | succ k ih =>
    unfold Round.readHead
    extract_lets core q
    split
    · exact h
    · refine .ite h ?_
      refine Frame.Res.bind (post := fun _ => True) (.of (fun _ _ => trivial) fun t e =>
        Frame.step (State.sliceBlock_frame_error e) rfl h) fun b _ => ?_
      extract_lets s s1
      have hs : Frame roundZones r s1 :=
        Frame.step (State.readyBlocks_frame ..) rfl (Frame.step (State.putBlock_frame ..) rfl h)
      clear_value s1
      exact .ite hs (ih hs)

theorem Round.fillRope_res {r : State} {x : Round} (c : Nat) (f : MeOp) (n off len : Nat) (h : Frame roundZones r x.s) :
    Round.Res r (x.fillRope c f n off len) := by
  unfold Round.fillRope
  extract_lets jp
  have hj : ∀ y : Round, Frame roundZones r y.s → Round.Res r (jp y) := fun y h => by
    simp only [jp]
    clear jp
    split
    · exact h
    · refine Frame.Res.bind (Round.fillTile_res _ _ _ _ _ _ (Frame.ite_of Round.s
        (Frame.step (Round.queueFor_frame ..) rfl ?_) ?_)) fun z hz => ?_
      · exact Frame.ite_of Round.s (Frame.step (Round.mapStep_frame ..) rfl h) h
      · exact Frame.ite_of Round.s (Frame.step (Round.mapStep_frame ..) rfl h) h
      · exact Frame.ite_of Round.s hz (Frame.step (Round.takeBlock_frame ..) rfl hz)
  clear_value jp
  split
  · exact Frame.Res.bind (Round.readHead_res _ _ h) hj
  · exact hj _ h

/-- What an action of a round does: it keeps to the zones of a round. -/
def Action.Ok (a : Action) : Prop := ∀ {r : State} {x : Round}, Frame roundZones r x.s →
  Round.Res r (a.run x)

theorem Action.through_ok {t core c client : Nat} {go : Round → Part}
    (k : ∀ {r : State} {x : Round}, Frame roundZones r x.s → Round.Res r (go x)) :
    Action.Ok { cycle := t, core := core, run := fun x => x.through c client go } :=
  fun h => Round.through_res _ _ h (k h)

theorem insertAction_ok {a : Action} {l : List Action} (h : a.Ok) (k : ∀ b ∈ l, b.Ok) : ∀ b ∈ insertAction a l, b.Ok := by
  induction l with
  | nil => intro b hb; rw [insertAction, List.mem_singleton] at hb; exact hb ▸ h
  | cons c l ih =>
    rw [List.forall_mem_cons] at k
    unfold insertAction
    split
    · exact List.forall_mem_cons.mpr ⟨h, List.forall_mem_cons.mpr k⟩
    · exact List.forall_mem_cons.mpr ⟨k.1, ih k.2⟩

theorem inOrder_ok {l : List Action} (k : ∀ b ∈ l, b.Ok) : ∀ b ∈ inOrder l, b.Ok := by
  have : ∀ (l acc : List Action), (∀ b ∈ l, b.Ok) → (∀ b ∈ acc, b.Ok) →
      ∀ b ∈ l.foldl (fun l a => insertAction a l) acc, b.Ok := by
    intro l
    induction l with
    | nil => intro acc _ h; exact h
    | cons a l ih =>
      intro acc h k
      rw [List.forall_mem_cons] at h
      exact ih _ h.2 (insertAction_ok h.1 k)
  exact this l [] k (fun _ h => nomatch h)

theorem tileActions_ok (b : Bytes) (sec c i : Nat) (f : MeOp) (n at' : Nat) : ∀ a ∈ tileActions b sec c i f n at', a.Ok := by
  intro a ha
  simp only [tileActions, List.mem_append, List.mem_map, List.mem_singleton] at ha
  rcases ha with ((⟨k, _, rfl⟩ | rfl) | ⟨q, _, rfl⟩) | ⟨q, _, rfl⟩
  · intro r x h
    dsimp only
    split
    · exact Round.fillRope_res _ _ _ _ _ h
    · exact Round.through_res _ _ h (Round.fillTile_res _ _ _ _ _ _ h)
  · exact fun h => Round.moveTile_res _ h
  · exact Action.through_ok fun h => Round.readRow_res _ _ _ _ _ h
  · exact fun h => Round.runRow_res _ _ _ _ _ h

theorem emitActions_ok (c i : Nat) (f : MeOp) (j leave : Nat) : ∀ a ∈ emitActions c i f j leave, a.Ok := by
  intro a ha
  simp only [emitActions, List.mem_append, List.mem_flatMap, List.mem_cons] at ha
  rcases ha with ha | ⟨q, _, rfl | ha⟩
  · split at ha
    · rw [List.mem_singleton] at ha; subst ha
      exact Action.through_ok fun h => Round.readColumns_res _ _ _ _ h
    · cases ha
  · intro r x h
    dsimp only
    split
    · exact Round.through_res _ _ h (Round.emitRow_res _ _ _ _ _ h)
    · exact Round.emitRow_res _ _ _ _ _ h
  · split at ha
    · rw [List.mem_singleton] at ha; subst ha; exact fun h => Round.leaveRow_res _ _ _ _ h
    · cases ha

theorem passActions_ok (b : Bytes) (sec c i : Nat) (f : MeOp) (n : Nat) : ∀ a ∈ passActions b sec c i f n, a.Ok := by
  intro a ha
  simp only [passActions, List.mem_cons, List.mem_flatMap, List.mem_append] at ha
  rcases ha with rfl | ⟨q, _, ⟨g, _, ha⟩ | ha⟩
  · exact fun h => Round.beginPass_res _ _ h
  · exact tileActions_ok _ _ _ _ _ _ _ a ha
  · exact emitActions_ok _ _ _ _ _ a ha

theorem coreActions_ok (b : Bytes) (sec c : Nat) (fs : List (Nat × MeOp)) (n : Nat) : ∀ a ∈ coreActions b sec c fs n, a.Ok := by
  induction fs generalizing n with
  | nil => exact fun _ h => nomatch h
  | cons f fs ih =>
    intro a h
    rcases List.mem_append.mp h with h | h
    · exact passActions_ok _ _ _ _ _ _ a h
    · exact ih _ a h

theorem State.headActions_ok (s : State) (core c n : Nat) : ∀ a ∈ s.headActions core c n, a.Ok := by
  intro a ha
  unfold State.headActions at ha
  split at ha
  · extract_lets m at ha
    clear_value m
    split at ha
    · rw [List.mem_singleton] at ha; subst ha
      exact Action.through_ok fun {_ x} h => Round.readHead_res (x := { x with toRead := tset 0 x.toRead c m }) _ _ h
    · cases ha
  · cases ha

theorem Due.streamActions_ok (d : Due) (u : Use) : ∀ a ∈ d.streamActions u, a.Ok := by
  intro a ha
  unfold Due.streamActions at ha
  split at ha
  · obtain ⟨_, _, rfl⟩ := List.mem_map.mp ha
    exact fun h => .pure (Frame.step (Round.sendPiece_frame ..) rfl h)
  · rw [List.mem_singleton] at ha; subst ha
    exact fun h => .pure (Frame.step (Round.takeIn_frame ..) rfl h)
  · cases ha
  · rw [List.mem_singleton] at ha; subst ha
    exact Action.through_ok (go := .ok) fun h => h

theorem Due.seActions_ok (d : Due) (c sec : Nat) (us : List Use) : ∀ a ∈ d.seActions c sec us, a.Ok := by
  intro a ha
  unfold Due.seActions at ha
  extract_lets us n at ha
  split at ha
  · cases ha
  · obtain ⟨_, _, rfl⟩ := List.mem_map.mp ha
    exact fun h => Round.seGrant_res _ h

theorem Due.veActions_ok (d : Due) (c sec : Nat) : ∀ a ∈ d.veActions c sec, a.Ok := by
  intro a ha
  unfold Due.veActions at ha
  extract_lets es n at ha
  rcases List.mem_append.mp ha with ha | ha
  · obtain ⟨_, _, rfl⟩ := List.mem_map.mp ha
    exact fun h => Round.issue_res _ _ _ h
  · split at ha
    · cases ha
    · obtain ⟨t, _, ha⟩ := List.mem_flatMap.mp ha
      rcases List.mem_cons.mp ha with rfl | ha
      · exact fun h => Round.veGrant_res _ _ h
      · rw [List.mem_singleton] at ha; subst ha; exact fun h => Round.veLand_res _ h

theorem Due.actions_ok (d : Due) (s : State) : ∀ a ∈ d.actions s, a.Ok := by
  intro a ha
  simp only [Due.actions, List.mem_append, List.mem_map, List.mem_flatMap] at ha
  rcases ha with ((⟨u, _, ha⟩ | ⟨c, _, ha⟩) | ⟨u, _, rfl⟩) | ⟨c, _, ((ha | ⟨t, _, rfl⟩) | ha) | ha⟩
  · exact d.streamActions_ok u a ha
  · exact d.seActions_ok _ _ _ a ha
  · exact fun h => .pure (Frame.step (Round.release_frame ..) rfl h)
  · exact State.headActions_ok _ _ _ _ a ha
  · exact fun h => .pure (Frame.step (Round.steer_frame ..) rfl h)
  · exact d.veActions_ok _ _ a ha
  · exact coreActions_ok _ _ _ _ _ a ha

theorem runActions_res {r : State} (l : List Action) (n : Nat) {x : Round} (k : ∀ a ∈ l, a.Ok) (h : Frame roundZones r x.s) :
    Frame.Res roundZones r (fun y => Frame roundZones r y.1.s) (runActions l n x) := by
  induction l generalizing x n with
  | nil => exact h
  | cons a l ih =>
    rw [List.forall_mem_cons] at k
    refine Frame.Res.bind (k.1 (x := { x with cycle := a.cycle, idle := false }) h) fun _ h => ?_
    exact .ite h (ih _ k.2 (Frame.ite_of Round.s h (Frame.step (State.advance_frame ..) rfl h)))

theorem Due.consume_frame (a0) (a1) :
    Frame [.array] a0.s (Due.consume a0 a1).s := by
  unfold Due.consume
  dsimp only
  refine Frame.step (State.setCluster_frame ..) rfl ?_
  exact Frame.refl _ _

theorem Due.consumeAll_frame (a0) (a1) (a2) (a3) :
    Frame [.array] a1.s (Due.consumeAll a0 a1 a2 a3).s := by
  unfold Due.consumeAll
  dsimp only
  refine Frame.foldl_of Round.s _ (fun _ _ => ?_) ?_
  · refine Frame.step (Due.consume_frame ..) rfl ?_
    exact Frame.refl _ _
  · dsimp only
    refine Frame.step (State.setCluster_frame ..) rfl ?_
    exact Frame.refl _ _

theorem Due.meshActions_ok (d : Due) (ms : List (Nat × List Message)) : ∀ a ∈ d.meshActions ms, a.Ok := by
  intro a ha
  simp only [Due.meshActions, List.mem_flatMap, List.mem_map] at ha
  obtain ⟨_, _, _, _, rfl⟩ := ha
  exact fun h => .pure (Frame.step (Round.meshIn_frame ..) rfl h)

theorem Due.emit_frame (a0) (a1) (a2) :
    Frame [.array] a1.s (Due.emit a0 a1 a2).s := by
  unfold Due.emit
  refine Frame.ite_of Round.s ?_ ?_
  · exact Frame.refl _ _
  · refine Frame.step (State.setCluster_frame ..) rfl ?_
    exact Frame.refl _ _

theorem Due.goOn_frame (d : Due) (s : State) (w : Pause) :
    Frame roundZones s (d.goOn s w) := by
  unfold Due.goOn
  extract_lets kd d0 acts wk x
  have hx : Frame roundZones s x.s := Frame.refl _ _
  have ha : ∀ a ∈ d.meshActions w.wanted ++ d0.actions s, a.Ok := by
    intro a h
    rcases List.mem_append.mp h with h | h
    · exact d.meshActions_ok _ a h
    · exact d0.actions_ok s a h
  have hr := runActions_res acts w.at' (fun a h => inOrder_ok ha a (List.mem_of_mem_drop h)) hx
  clear_value acts x
  split
  next e => exact Frame.step (State.setCluster_frame ..) rfl (hr.ok e)
  next e =>
    extract_lets kc y t
    have hy : Frame roundZones s y.s := Frame.step (State.setCluster_frame ..) rfl (hr.ok e)
    have ht : Frame roundZones s t := Frame.foldl_of Round.s _ (fun _ _ => Frame.mono (Due.emit_frame ..) rfl) hy
    clear_value t
    split
    · exact Frame.ite (Frame.step (Due.finish_frame ..) rfl ht) ht
    · exact ht
  next e => exact hr.error e

theorem Due.run_frame (d : Due) (s : State) (tag : Nat) :
    Frame roundZones s (d.run s tag) := by
  unfold Due.run
  extract_lets wanted s1 kd s2 x0 x1
  have h2 : Frame roundZones s s2 := Frame.step (State.setCluster_frame ..) rfl (Frame.mono (State.countFreeze_frame ..) rfl)
  have h3 : Frame roundZones s x0.s := Frame.set_free (v_free := s2.free + 1) (by decide) h2
  have h4 : Frame roundZones s x1.s := Frame.foldl_of Round.s _ (fun _ _ => Frame.mono (Due.consumeAll_frame ..) rfl) h3
  exact h4.trans (Due.goOn_frame ..)

theorem Due.start_frame (a0) (a1) :
    Frame roundZones a1 (Due.start a0 a1) := by
  unfold Due.start
  split
  · exact Frame.step (Due.goOn_frame ..) rfl (Frame.mono (State.countFreeze_frame ..) rfl)
  · refine Frame.ite (Frame.mono (Due.finish_frame ..) rfl) ?_
    split
    · exact Frame.mono (State.routeFault_frame ..) rfl
    · refine Frame.ite (Frame.ite (Frame.step (State.startWait_frame ..) rfl (Frame.mono (State.setCluster_frame ..) rfl))
        (Frame.step (State.endWait_frame ..) rfl (Frame.mono (State.setCluster_frame ..) rfl))) ?_
      split
      · exact Frame.mono (State.endStep_frame ..) rfl
      · split
        · exact Frame.mono (Due.run_frame ..) rfl
        · exact Frame.refl _ _

theorem execRoundStart_frame {a0} {a1} {t : State} (h : execRoundStart a0 a1 = .next t) :
    Frame [.free, .out, .entries, .ctxEntries, .host, .near, .nearMem, .bulk, .bulkMem, .rings, .msix, .pages, .counters, .cmds, .steps, .array, .tru, .links, .health, .power] a1 t := by
  cases h
  split
  · refine Frame.ite ?_ ?_
    · exact Frame.refl _ _
    · refine Frame.step (State.serveHeld_frame ..) rfl ?_
      refine Frame.step (Due.start_frame ..) rfl ?_
      exact Frame.refl _ _
  · exact Frame.refl _ _

theorem Due.arrive_frame (a0) (a1) (a2) (a3) :
    Frame [.free, .ctxEntries, .steps, .array, .links] a1 (Due.arrive a0 a1 a2 a3) := by
  unfold Due.arrive
  refine Frame.ite ?_ ?_
  · refine Frame.step (State.setCluster_frame ..) rfl ?_
    exact Frame.refl _ _
  · refine Frame.ite ?_ ?_
    · refine Frame.step (State.routeFault_frame ..) rfl ?_
      exact Frame.refl _ _
    · refine Frame.ite ?_ ?_
      · refine Frame.step (State.routeFault_frame ..) rfl ?_
        exact Frame.refl _ _
      · dsimp only
        split
        · split
          · refine Frame.step (State.routeFault_frame ..) rfl ?_
            refine Frame.step (State.setCluster_frame ..) rfl ?_
            exact Frame.refl _ _
          · refine Frame.step (State.setCluster_frame ..) rfl ?_
            exact Frame.refl _ _
        · refine Frame.step (State.setCluster_frame ..) rfl ?_
          exact Frame.refl _ _

theorem execChannelMessageArrival_frame {a0} {a1} {a2} {t : State} (h : execChannelMessageArrival a0 a1 a2 = .next t) :
    Frame [.free, .entries, .ctxEntries, .steps, .array, .links, .health] a2 t := by
  cases h
  split
  · exact Frame.refl _ _
  · extract_lets
    split
    · exact Frame.refl _ _
    · extract_lets
      split
      · refine Frame.step (Due.arrive_frame ..) rfl ?_
        refine Frame.step (State.perturbed_frame ..) rfl ?_
        refine Frame.foldl _ (fun _ _ => Frame.mono (State.flits_frame ..) rfl) ?_
        refine Frame.step (State.setCluster_frame ..) rfl ?_
        exact Frame.refl _ _
      · refine Frame.step (State.setCluster_frame ..) rfl ?_
        exact Frame.refl _ _

theorem execCreditReturn_frame {a0} {a1} {a2} {t : State} (h : execCreditReturn a0 a1 a2 = .next t) :
    Frame [.free, .entries, .array, .health] a2 t := by
  cases h
  split
  · exact Frame.refl _ _
  · refine Frame.ite ?_ ?_
    · exact Frame.refl _ _
    · refine Frame.step (State.setCluster_frame ..) rfl ?_
      refine Frame.step (State.perturbed_frame ..) rfl ?_
      exact Frame.refl _ _

end Sys2Proof.Machine
end

