-- ==== Sys2Proof/Laws/Cairn.lean ====
section
/-! SUPPORT. What the operations of Cairn can change: one frame each. -/

namespace Sys2Proof.Machine

theorem State.cwrite_run {g : List Zone} {r s : State} (c va b)
    (sub : [Zone.entries, .host, .near, .nearMem, .bulk, .bulkMem, .power].all g.contains = true) (h : Frame g r s) :
    Frame.Run (fun t => Frame g r t) (s.cwrite c va b) := by
  unfold State.cwrite
  split
  next e => exact Frame.step (Frame.of_fst (State.writes_frame ..) e) sub h
  · trivial

theorem State.cwrite_frame_ok {s c va b} {t : State} (h : State.cwrite s c va b = .ok t) : Frame [.entries, .host, .near, .nearMem, .bulk, .bulkMem, .power] s t :=
  (State.cwrite_run _ _ _ rfl (Frame.refl _ _)).ok h

theorem State.noteDead_frame (a0) (a1) :
    Frame [.serve] a0 (State.noteDead a0 a1) := by
  unfold State.noteDead
  refine Frame.set_serve _ rfl ?_
  exact Frame.refl _ _

theorem State.noteMet_frame (a0) (a1) (a2) :
    Frame [.entries, .bulk, .serve, .power] a0 (State.noteMet a0 a1 a2) := by
  unfold State.noteMet
  refine Frame.step (State.noteDead_frame ..) rfl ?_
  refine Frame.foldl _ (fun _ _ => ?_) ?_
  · refine Frame.ite ?_ ?_
    · exact Frame.refl _ _
    · refine Frame.step (State.accessed_frame ..) rfl ?_
      exact Frame.refl _ _
  · exact Frame.refl _ _

theorem State.cairnArrive_frame (a0) (a1) (a2) (a3) :
    Frame [.serve] a0 (State.cairnArrive a0 a1 a2 a3) := by
  unfold State.cairnArrive
  refine Frame.ite ?_ ?_
  · exact Frame.refl _ _
  · refine Frame.set_serve _ rfl ?_
    exact Frame.refl _ _

theorem State.cairnFail_frame (a0) (a1) (a2) :
    Frame [.free, .out, .entries, .ctxEntries, .host, .near, .nearMem, .bulk, .bulkMem, .rings, .msix, .pages, .cmds, .serve, .links, .health, .power] a0 (State.cairnFail a0 a1 a2) := by
  unfold State.cairnFail
  split
  · refine Frame.step (State.complete_frame ..) rfl ?_
    refine Frame.step (State.cbump_frame ..) rfl ?_
    refine Frame.step (State.cairnOver_frame ..) rfl ?_
    exact Frame.refl _ _
  · refine Frame.step (State.complete_frame ..) rfl ?_
    refine Frame.step (State.noteMiss_frame ..) rfl ?_
    refine Frame.step (State.cairnOver_frame ..) rfl ?_
    exact Frame.refl _ _
  · refine Frame.step (State.complete_frame ..) rfl ?_
    refine Frame.step (State.noteDamage_frame ..) rfl ?_
    refine Frame.step (State.cairnOver_frame ..) rfl ?_
    exact Frame.refl _ _
  · refine Frame.step (State.complete_frame ..) rfl ?_
    refine Frame.step (State.cairnOver_frame ..) rfl ?_
    exact Frame.refl _ _
  · refine Frame.step (State.stage_frame ..) rfl ?_
    exact Frame.refl _ _
  · dsimp only
    split
    · refine Frame.step (State.complete_frame ..) rfl ?_
      refine Frame.step (State.noteMiss_frame ..) rfl ?_
      refine Frame.step (State.cairnOver_frame ..) rfl ?_
      refine Frame.step (State.stage_frame ..) rfl ?_
      refine Frame.step (State.ask_frame ..) rfl ?_
      exact Frame.refl _ _
    · refine Frame.step (State.stage_frame ..) rfl ?_
      refine Frame.step (State.ask_frame ..) rfl ?_
      exact Frame.refl _ _

theorem State.touch_frame_ok {s : State} {c : Nat} {ps : List Nat} {t : State} (h : s.touch c ps = .ok t) :
    Frame [.entries, .host, .near, .nearMem, .bulk, .bulkMem, .power] s t := by
  have run : ∀ (ps : List Nat) {s u : State}, Frame [.entries, .host, .near, .nearMem, .bulk, .bulkMem, .power] s u → Frame.Run (fun t => Frame [.entries, .host, .near, .nearMem, .bulk, .bulkMem, .power] s t) (u.touch c ps) := by
    intro ps
    induction ps with
    | nil => exact fun h => h
    | cons p ps ih => exact fun h => Frame.Run.bind (State.cwrite_run _ _ _ rfl h) fun _ h => ih h
  exact (run ps (Frame.refl _ _)).ok h

theorem State.countLookup_frame (a0) (a1) (a2) :
    Frame [.free, .ctxEntries] a0 (State.countLookup a0 a1 a2) := by
  unfold State.countLookup
  refine Frame.step (State.cbump_frame ..) rfl ?_
  refine Frame.step (State.cbump_frame ..) rfl ?_
  exact Frame.refl _ _

theorem State.lookupEnd_frame (a0) (a1) (a2) (a3) :
    Frame [.free, .out, .entries, .ctxEntries, .host, .near, .nearMem, .bulk, .bulkMem, .rings, .msix, .pages, .cmds, .ctxs, .serve, .links, .health, .power] a0 (State.lookupEnd a0 a1 a2 a3) := by
  unfold State.lookupEnd
  dsimp only
  refine Frame.ite ?_ ?_
  · split
    · refine Frame.step (State.stage_frame ..) rfl ?_
      refine Frame.step (State.flushPorts_frame ..) rfl ?_
      refine Frame.set_links _ rfl ?_
      refine Frame.step (State.cairnOver_frame ..) rfl ?_
      refine Frame.step (Frame.of_fst (State.remoteWrite_frame ..) (by assumption)) rfl ?_
      exact Frame.refl _ _
    · refine Frame.step (State.cairnFail_frame ..) rfl ?_
      refine Frame.step (Frame.of_fst (State.remoteWrite_frame ..) (by assumption)) rfl ?_
      exact Frame.refl _ _
  · split
    · refine Frame.step (State.cairnFail_frame ..) rfl ?_
      exact Frame.refl _ _
    · refine Frame.step (State.complete_frame ..) rfl ?_
      refine Frame.step (State.countLookup_frame ..) rfl ?_
      refine Frame.step (State.cairnOver_frame ..) rfl ?_
      refine Frame.step (State.cwrite_frame_ok (by assumption)) rfl ?_
      exact Frame.refl _ _

theorem State.lookup_frame (a0) (a1) (a2) (a3) :
    Frame [.free, .out, .entries, .ctxEntries, .host, .near, .nearMem, .bulk, .bulkMem, .rings, .msix, .pages, .cmds, .ctxs, .serve, .links, .health, .power] a0 (State.lookup a0 a1 a2 a3) := by
  unfold State.lookup
  split
  dsimp only
  split
  · refine Frame.step (State.cairnFail_frame ..) rfl ?_
    refine Frame.step (State.noteMet_frame ..) rfl ?_
    exact Frame.refl _ _
  · split
    · refine Frame.step (State.cairnFail_frame ..) rfl ?_
      refine Frame.step (State.touch_frame_ok (by assumption)) rfl ?_
      refine Frame.step (State.noteMet_frame ..) rfl ?_
      exact Frame.refl _ _
    · refine Frame.step (State.lookupEnd_frame ..) rfl ?_
      refine Frame.step (State.touch_frame_ok (by assumption)) rfl ?_
      refine Frame.step (State.noteMet_frame ..) rfl ?_
      exact Frame.refl _ _

theorem State.cairnSeen_frame (a0) (a1) (a2) :
    Frame [.entries, .bulk, .power] a0 (State.cairnSeen a0 a1 a2) := by
  unfold State.cairnSeen
  refine Frame.step (State.accessed_frame ..) rfl ?_
  refine Frame.step (State.accessed_frame ..) rfl ?_
  exact Frame.refl _ _

theorem State.cairnRun_frame (s : State) (c : Cmd) (go : State → State)
    (h : ∀ t, Frame [.free, .out, .entries, .ctxEntries, .host, .near, .nearMem, .bulk, .bulkMem, .rings, .msix, .pages, .cmds, .ctxs, .serve, .links, .health, .power] t (go t)) : Frame [.free, .out, .entries, .ctxEntries, .host, .near, .nearMem, .bulk, .bulkMem, .rings, .msix, .pages, .cmds, .ctxs, .serve, .links, .health, .power] s (s.cairnRun c go) := by
  unfold State.cairnRun
  refine Frame.ite (Frame.refl _ _) (Frame.ite ?_ ?_)
  · exact (Frame.mono (State.cairnArrive_frame ..) rfl).trans (h _)
  · exact Frame.step (State.stage_frame ..) rfl (Frame.mono (State.cairnArrive_frame ..) rfl)

theorem State.prefixLookup_frame (s : State) (c : Cmd) : Frame [.free, .out, .entries, .ctxEntries, .host, .near, .nearMem, .bulk, .bulkMem, .rings, .msix, .pages, .cmds, .ctxs, .serve, .links, .health, .power] s (s.prefixLookup c) := by
  unfold State.prefixLookup
  refine State.cairnRun_frame _ _ _ fun t => ?_
  dsimp only
  split
  · exact Frame.step (State.cairnFail_frame ..) rfl (Frame.mono (State.cairnSeen_frame ..) rfl)
  · exact Frame.step (State.lookup_frame ..) rfl (Frame.mono (State.cairnSeen_frame ..) rfl)

theorem execPrefixLookup_frame {a0} {a1} {t : State} (h : execPrefixLookup a0 a1 = .next t) :
    Frame [.free, .out, .entries, .ctxEntries, .host, .near, .nearMem, .bulk, .bulkMem, .rings, .msix, .pages, .cmds, .ctxs, .serve, .links, .health, .power] a1 t := by
  cases h
  split
  · exact Frame.refl _ _
  · exact State.prefixLookup_frame ..

theorem Prep.s_frame (a0) :
    Frame [] a0.s (Prep.s a0) := by
  unfold Prep.s
  exact Frame.refl _ _

theorem Prep.put_run {g : List Zone} {r : State} {x : Prep} (c va b)
    (sub : [Zone.entries, .host, .near, .nearMem, .bulk, .bulkMem, .power].all g.contains = true) (h : Frame g r x.s) :
    Frame.Run (fun y => Frame g r y.s) (x.put c va b) :=
  Frame.Run.bind (State.cwrite_run _ _ _ sub h) fun _ h => h

theorem Prep.fill_run {g : List Zone} {r : State} {x : Prep} (c va b)
    (sub : [Zone.entries, .host, .near, .nearMem, .bulk, .bulkMem, .power].all g.contains = true) (h : Frame g r x.s) :
    Frame.Run (fun y => Frame g r y.s) (x.fill c va b) :=
  Frame.Run.bind (Prep.put_run _ _ _ sub h) fun _ h => h

theorem putChain_run {g : List Zone} {r : State} {x : Prep} (c used sibling ps kps)
    (sub : [Zone.entries, .host, .near, .nearMem, .bulk, .bulkMem, .power].all g.contains = true) (h : Frame g r x.s) :
    Frame.Run (fun y => Frame g r y.s) (putChain c used sibling ps kps x) := by
  induction ps generalizing sibling kps x with
  | nil => exact h
  | cons p ps ih => exact Frame.Run.bind (Prep.fill_run _ _ _ sub h) fun _ h => ih _ _ h

/-- What an insertion changes when its search and its writes succeed. -/
theorem State.insert_run (s : State) (h : Tree) (kps : List (Nat × Nat)) (e : Option Nat) :
    Frame.Run (fun p => Frame [.free, .entries, .host, .near, .nearMem, .bulk, .bulkMem, .power] s p.1.s) (s.insert h kps e).1 := by
  unfold State.insert
  split
  rename_i w f _
  extract_lets
  rename_i run
  simp only [run]
  clear run
  split
  · trivial
  · trivial
  · refine .ite (.pure (Frame.refl _ _)) ?_
    refine Frame.Run.bind Frame.Run.any fun got _ => ?_
    split
    · exact .ite trivial trivial
    · have hx : Frame [.free, .entries, .host, .near, .nearMem, .bulk, .bulkMem, .power] s { s with free := s.free + 1 } := Frame.set_free (v_free := s.free + 1) (by decide) (Frame.refl _ _)
      split
      · refine Frame.Run.bind (Prep.fill_run _ _ _ rfl hx) fun _ hx => Frame.Run.bind (Prep.fill_run _ _ _ rfl hx) fun _ hx =>
          Frame.Run.bind (putChain_run _ _ _ _ _ rfl hx) fun _ hx =>
          Frame.Run.bind (post := fun p : Prep × Nat × Option Nat => Frame [.free, .entries, .host, .near, .nearMem, .bulk, .bulkMem, .power] s p.1.s) (.pure hx) fun p hp => ?_
        refine Frame.Run.bind (Prep.put_run _ _ _ rfl hp) fun x hx => ?_
        split
        · exact Frame.Run.bind (Prep.put_run _ _ _ rfl hx) fun _ h => .pure h
        · exact Frame.Run.bind (Prep.put_run _ _ _ rfl hx) fun _ hx => Frame.Run.bind (Prep.put_run _ _ _ rfl hx) fun _ hx =>
            Frame.Run.bind (Prep.put_run _ _ _ rfl hx) fun _ h => .pure h
      · refine Frame.Run.bind (putChain_run _ _ _ _ _ rfl hx) fun _ hx =>
          Frame.Run.bind (post := fun p : Prep × Nat × Option Nat => Frame [.free, .entries, .host, .near, .nearMem, .bulk, .bulkMem, .power] s p.1.s) (.pure hx) fun p hp => ?_
        refine Frame.Run.bind (Prep.put_run _ _ _ rfl hp) fun x hx => ?_
        split
        · exact Frame.Run.bind (Prep.put_run _ _ _ rfl hx) fun _ h => .pure h
        · exact Frame.Run.bind (Prep.put_run _ _ _ rfl hx) fun _ hx => Frame.Run.bind (Prep.put_run _ _ _ rfl hx) fun _ hx =>
            Frame.Run.bind (Prep.put_run _ _ _ rfl hx) fun _ h => .pure h

theorem State.moveLinks_frame (a0) (a1) :
    Frame [.serve] a0 (State.moveLinks a0 a1) := by
  unfold State.moveLinks
  dsimp only
  refine Frame.set_serve _ rfl ?_
  exact Frame.refl _ _

theorem State.insertFor_frame (s : State) (c : Cmd) (h : Tree) (kps : List (Nat × Nat)) :
    Frame [.free, .out, .entries, .ctxEntries, .host, .near, .nearMem, .bulk, .bulkMem, .rings, .msix, .pages, .cmds, .ctxs, .serve, .links, .health, .power] s (s.insertFor c h kps) := by
  unfold State.insertFor
  have hr := s.insert_run h kps none
  split
  next e => exact Frame.step (State.cairnFail_frame ..) rfl (Frame.mono (State.noteMet_frame ..) rfl)
  next x n ds e =>
    rw [e] at hr
    refine Frame.step (State.complete_frame ..) rfl (Frame.step (State.cbump_frame ..) rfl ?_)
    refine Frame.step (State.cairnOver_frame ..) rfl (Frame.step (State.moveLinks_frame ..) rfl ?_)
    exact Frame.step (State.noteMet_frame ..) rfl (Frame.mono hr rfl)

theorem State.prefixInsert_frame (s : State) (c : Cmd) : Frame [.free, .out, .entries, .ctxEntries, .host, .near, .nearMem, .bulk, .bulkMem, .rings, .msix, .pages, .cmds, .ctxs, .serve, .links, .health, .power] s (s.prefixInsert c) := by
  unfold State.prefixInsert
  refine State.cairnRun_frame _ _ _ fun t => ?_
  dsimp only
  have hs : Frame [.free, .out, .entries, .ctxEntries, .host, .near, .nearMem, .bulk, .bulkMem, .rings, .msix, .pages, .cmds, .ctxs, .serve, .links, .health, .power] t ((t.cairnSeen c (c.at 24 4)).accessed otherUnit c.ctx (c.at 32 8) (8 * c.at 24 4)) :=
    Frame.step (State.accessed_frame ..) rfl (Frame.mono (State.cairnSeen_frame ..) rfl)
  split
  · exact Frame.step (State.cairnFail_frame ..) rfl hs
  · exact Frame.step (State.insertFor_frame ..) rfl hs

theorem execPrefixInsert_frame {a0} {a1} {t : State} (h : execPrefixInsert a0 a1 = .next t) :
    Frame [.free, .out, .entries, .ctxEntries, .host, .near, .nearMem, .bulk, .bulkMem, .rings, .msix, .pages, .cmds, .ctxs, .serve, .links, .health, .power] a1 t := by
  cases h
  split
  · exact Frame.refl _ _
  · exact State.prefixInsert_frame ..

theorem State.cairnGoOn_frame (s : State) (cmd : Nat) : Frame [.free, .out, .entries, .ctxEntries, .host, .near, .nearMem, .bulk, .bulkMem, .rings, .msix, .pages, .cmds, .ctxs, .serve, .links, .health, .power] s (s.cairnGoOn cmd) := by
  unfold State.cairnGoOn
  split
  · exact Frame.ite (State.prefixLookup_frame ..) (Frame.ite (State.prefixInsert_frame ..) (Frame.refl _ _))
  · exact Frame.refl _ _

theorem State.freeNode_run {g : List Zone} {r s : State} (h p)
    (sub : [Zone.entries, .host, .near, .nearMem, .bulk, .bulkMem, .power].all g.contains = true) (k : Frame g r s) :
    Frame.Run (fun t => Frame g r t) (s.freeNode h p) :=
  Frame.Run.bind Frame.Run.any fun _ _ => Frame.Run.bind (State.cwrite_run _ _ _ sub k) fun _ k =>
    Frame.Run.bind (State.cwrite_run _ _ _ sub k) fun _ k => State.cwrite_run _ _ _ sub k

theorem State.freeAll_frame (s : State) (h : Tree) (k : Nat) (ps : List (Nat × Bool)) :
    Frame [.entries, .host, .near, .nearMem, .bulk, .bulkMem, .serve, .power] s (s.freeAll h k ps).1 := by
  induction k generalizing s ps with
  | zero => exact Frame.refl _ _
  | succ k ih =>
    match ps with
    | [] => exact Frame.refl _ _
    | (p, alone) :: ps =>
      unfold State.freeAll
      split
      · exact ih _ _
      · dsimp only
        split
        · exact Frame.refl _ _
        · split
          · exact Frame.refl _ _
          next e =>
            exact Frame.trans (Frame.set_serve _ (by decide) ((State.freeNode_run _ _ rfl (Frame.refl [.entries, .host, .near, .nearMem, .bulk, .bulkMem, .serve, .power] s)).ok e)) (ih _ _)

theorem State.freeDead_frame (s : State) (d : DeadNode) :
    Frame [.free, .out, .entries, .ctxEntries, .host, .near, .nearMem, .bulk, .bulkMem, .msix, .pages, .serve, .power] s (s.freeDead d) := by
  unfold State.freeDead
  extract_lets src s0 stop cause unlinked
  have h0 : Frame [.free, .out, .entries, .ctxEntries, .host, .near, .nearMem, .bulk, .bulkMem, .msix, .pages, .serve, .power] s s0 := Frame.set_serve _ (by decide) (Frame.refl _ _)
  have hs : ∀ u p c, Frame [.free, .out, .entries, .ctxEntries, .host, .near, .nearMem, .bulk, .bulkMem, .msix, .pages, .serve, .power] s u → Frame [.free, .out, .entries, .ctxEntries, .host, .near, .nearMem, .bulk, .bulkMem, .msix, .pages, .serve, .power] s (stop u p c) := fun u p c h =>
    Frame.step (State.postEvent_frame ..) rfl (Frame.step (State.cbump_frame ..) rfl h)
  have hu : Frame.Run (fun p : State × Tree => Frame [.free, .out, .entries, .ctxEntries, .host, .near, .nearMem, .bulk, .bulkMem, .msix, .pages, .serve, .power] s p.1) (do
    let h ← s0.tree d.ctx d.tree
    let n ← s0.node h d.node false 0
    let held ← s0.cread d.ctx d.link 8
    if leNat held ≠ d.node then .error .freeing
    else
      let s ← s0.cwrite d.ctx d.link (leBytes 8 n.sibling)
      .ok (s, h) : Except Stop (State × Tree)) := by
    refine Frame.Run.bind Frame.Run.any fun _ _ => Frame.Run.bind Frame.Run.any fun _ _ => Frame.Run.bind Frame.Run.any fun _ _ => ?_
    exact .ite trivial (Frame.Run.bind (State.cwrite_run _ _ _ rfl h0) fun _ h => .pure h)
  change Frame.Run _ unlinked at hu
  clear_value unlinked s0 stop
  split
  · exact h0
  · exact hs _ _ _ h0
  · extract_lets move s1
    have h1 : Frame [.free, .out, .entries, .ctxEntries, .host, .near, .nearMem, .bulk, .bulkMem, .msix, .pages, .serve, .power] s s1 := Frame.set_serve _ (by decide) hu
    clear_value s1
    split
    next e => exact Frame.of_fst (Frame.step (State.freeAll_frame ..) rfl h1) e
    next e => exact hs _ _ _ (Frame.of_fst (Frame.step (State.freeAll_frame ..) rfl h1) e)

theorem execCairnFreeing_frame {a0} {a1} {a2} {a3} {t : State} (h : execCairnFreeing a0 a1 a2 a3 = .next t) :
    Frame [.free, .out, .uptime, .entries, .ctxEntries, .host, .near, .nearMem, .bulk, .bulkMem, .msix, .pages, .serve, .power] a3 t := by
  cases h
  refine Frame.ite ?_ ?_
  · exact Frame.refl _ _
  · refine Frame.foldl _ (fun _ _ => ?_) ?_
    · split
      · refine Frame.step (State.freeDead_frame ..) rfl ?_
        exact Frame.refl _ _
      · exact Frame.refl _ _
    · refine Frame.step (State.at_frame ..) rfl ?_
      exact Frame.refl _ _

theorem State.logSeen_frame (a0) (a1) :
    Frame [.entries, .bulk, .power] a0 (State.logSeen a0 a1) := by
  unfold State.logSeen
  split
  · refine Frame.step (State.accessed_frame ..) rfl ?_
    exact Frame.refl _ _
  · exact Frame.refl _ _

theorem State.writeNodes_res {r : State} (p : Step) (ws old) {s : State} (h : Frame [.free, .entries, .ctxEntries, .host, .near, .nearMem, .bulk, .bulkMem, .steps, .array, .serve, .links, .power, .out] r s) :
    Frame.Res [.free, .entries, .ctxEntries, .host, .near, .nearMem, .bulk, .bulkMem, .steps, .array, .serve, .links, .power, .out] r (fun y => Frame [.free, .entries, .ctxEntries, .host, .near, .nearMem, .bulk, .bulkMem, .steps, .array, .serve, .links, .power, .out] r y.1) (s.writeNodes p ws old) := by
  induction ws generalizing s old with
  | nil => exact h
  | cons w ws ih =>
    obtain ⟨a, b⟩ := w
    unfold State.writeNodes
    split
    · refine .ite (ih _ h) ?_
      have k := State.stepWrite_res p a b rfl h
      split
      next e => exact ih _ (k.ok e)
      next e => exact k.error e
    · exact ih _ h

theorem State.keepLog_frame (s : State) (p : Step) (l : Log) : Frame [.free, .entries, .ctxEntries, .host, .near, .nearMem, .bulk, .bulkMem, .steps, .array, .serve, .links, .power, .out] s (s.keepLog p l).1 := by
  unfold State.keepLog
  extract_lets root noted t
  have ht : Frame [.free, .entries, .ctxEntries, .host, .near, .nearMem, .bulk, .bulkMem, .steps, .array, .serve, .links, .power, .out] s t := by
    refine Frame.step (State.cairnOver_frame ..) rfl ?_
    exact Frame.set_free (v_free := l.x.s.free) (by decide) (Frame.mono (State.noteMet_frame ..) rfl)
  clear_value t
  have k := State.writeNodes_res p l.x.nodes [] ht
  split
  next e => exact k.error e
  next e =>
    have k := k.ok e
    split
    · exact k
    · exact Frame.step (State.setStep_frame ..) rfl k

theorem State.prepareStep_frame (s : State) (p : Step) :
    Frame [.free, .entries, .ctxEntries, .host, .near, .nearMem, .bulk, .bulkMem, .steps, .array, .serve, .links, .power, .out] s (s.prepareStep p).1 := by
  unfold State.prepareStep
  extract_lets s1 s2
  have h1 : Frame [.free, .entries, .ctxEntries, .host, .near, .nearMem, .bulk, .bulkMem, .steps, .array, .serve, .links, .power, .out] s s1 := Frame.mono (State.logSeen_frame ..) rfl
  have h2 : Frame [.free, .entries, .ctxEntries, .host, .near, .nearMem, .bulk, .bulkMem, .steps, .array, .serve, .links, .power, .out] s s2 := by
    simp only [s2]
    clear s2
    cases s1.logTree p with
    | none => exact h1
    | some v => exact Frame.step (State.cairnArrive_frame ..) rfl h1
  clear_value s2
  refine Frame.ite_fst h2 ?_
  split
  next l _ => exact h2.trans (State.keepLog_frame ..)
  next f ds _ =>
    extract_lets s3
    have h3 : Frame [.free, .entries, .ctxEntries, .host, .near, .nearMem, .bulk, .bulkMem, .steps, .array, .serve, .links, .power, .out] s s3 := Frame.step (State.noteMet_frame ..) rfl h2
    have h4 : Frame [.free, .entries, .ctxEntries, .host, .near, .nearMem, .bulk, .bulkMem, .steps, .array, .serve, .links, .power, .out] s (s3.cairnOver p.cmd) := Frame.step (State.cairnOver_frame ..) rfl h3
    clear_value s3
    split
    · exact Frame.step (State.endStep_frame ..) rfl h4
    · exact Frame.step (State.stepMiss_frame ..) rfl h4
    · exact Frame.step (State.stepDamage_frame ..) rfl h4
    · exact Frame.step (State.endStep_frame ..) rfl h4
    · exact h3
    · extract_lets s5
      have h5 : Frame [.free, .entries, .ctxEntries, .host, .near, .nearMem, .bulk, .bulkMem, .steps, .array, .serve, .links, .power, .out] s s5 := Frame.step (State.ask_frame ..) rfl h3
      clear_value s5
      split
      · exact Frame.step (State.stepMiss_frame ..) rfl (Frame.step (State.cairnOver_frame ..) rfl h5)
      · exact h5

theorem State.applyLog_frame (a0) (a1) :
    Frame [.free, .entries, .ctxEntries, .host, .near, .nearMem, .bulk, .bulkMem, .serve, .power] a0 (State.applyLog a0 a1) := by
  unfold State.applyLog
  dsimp only
  refine Frame.ite ?_ ?_
  · refine Frame.step (State.moveLinks_frame ..) rfl ?_
    refine Frame.foldl _ (fun _ _ => ?_) ?_
    · refine Frame.step (State.writes_frame ..) rfl ?_
      exact Frame.refl _ _
    · refine Frame.foldl _ (fun _ _ => ?_) ?_
      · refine Frame.step (State.writes_frame ..) rfl ?_
        exact Frame.refl _ _
      · exact Frame.refl _ _
  · refine Frame.step (State.cbump_frame ..) rfl ?_
    refine Frame.step (State.moveLinks_frame ..) rfl ?_
    refine Frame.foldl _ (fun _ _ => ?_) ?_
    · refine Frame.step (State.writes_frame ..) rfl ?_
      exact Frame.refl _ _
    · refine Frame.foldl _ (fun _ _ => ?_) ?_
      · refine Frame.step (State.writes_frame ..) rfl ?_
        exact Frame.refl _ _
      · exact Frame.refl _ _

end Sys2Proof.Machine
end

