-- ==== Sys2Proof/Laws/Commit.lean ====
section
/-! SUPPORT. What the operations of Commit can change: one frame each. -/

namespace Sys2Proof.Machine

theorem State.search_frame (a0) (a1) (a2) (a3) :
    Frame [.free, .out, .entries, .ctxEntries, .host, .near, .nearMem, .bulk, .bulkMem, .msix, .steps, .array, .ctxs, .links, .health, .power] a0 (State.search a0 a1 a2 a3) := by
  unfold State.search
  dsimp only
  split
  · refine Frame.ite ?_ ?_
    · refine Frame.step (State.beginHang_frame ..) rfl ?_
      refine Frame.step (State.snapshot_frame ..) rfl ?_
      exact Frame.refl _ _
    · refine Frame.step (State.engineReset_frame ..) rfl ?_
      refine Frame.step (State.beginHang_frame ..) rfl ?_
      refine Frame.step (State.snapshot_frame ..) rfl ?_
      exact Frame.refl _ _
  · refine Frame.step (State.snapshot_frame ..) rfl ?_
    exact Frame.refl _ _

theorem State.searches_frame (s : State) (n : Nat) :
    Frame [.free, .out, .entries, .ctxEntries, .host, .near, .nearMem, .bulk, .bulkMem, .msix, .steps, .array, .ctxs, .links, .health, .power] s (s.searches n) := by
  induction n generalizing s with
  | zero => exact Frame.refl _ _
  | succ n ih =>
    unfold State.searches
    split
    · dsimp only
      split
      · exact Frame.trans (Frame.step (State.search_frame ..) rfl (Frame.set_ctxs _ rfl (Frame.refl _ _))) (ih _)
      · exact Frame.trans (Frame.set_ctxs _ rfl (Frame.refl _ _)) (ih _)
    · exact Frame.refl _ _

theorem State.nextSearch_frame (a0) :
    Frame [.free, .out, .entries, .ctxEntries, .host, .near, .nearMem, .bulk, .bulkMem, .msix, .steps, .array, .ctxs, .links, .health, .power] a0 (State.nextSearch a0) := by
  unfold State.nextSearch
  refine Frame.step (State.searches_frame ..) rfl ?_
  exact Frame.refl _ _

theorem State.settleCounts_frame (a0) (a1) :
    Frame [.free, .entries, .ctxEntries] a0 (State.settleCounts a0 a1) := by
  unfold State.settleCounts
  refine Frame.step (State.cbump_frame ..) rfl ?_
  refine Frame.step (State.dbump_frame ..) rfl ?_
  refine Frame.step (State.dbump_frame ..) rfl ?_
  refine Frame.step (State.cbump_frame ..) rfl ?_
  refine Frame.step (State.cbump_frame ..) rfl ?_
  refine Frame.step (State.cbump_frame ..) rfl ?_
  refine Frame.ite ?_ ?_
  · refine Frame.step (State.cset_frame ..) rfl ?_
    refine Frame.step (State.cbump_frame ..) rfl ?_
    refine Frame.step (State.cbump_frame ..) rfl ?_
    refine Frame.step (State.cbump_frame ..) rfl ?_
    refine Frame.step (State.cbump_frame ..) rfl ?_
    exact Frame.refl _ _
  · refine Frame.step (State.cbump_frame ..) rfl ?_
    refine Frame.step (State.cbump_frame ..) rfl ?_
    refine Frame.step (State.cbump_frame ..) rfl ?_
    refine Frame.step (State.cbump_frame ..) rfl ?_
    exact Frame.refl _ _

theorem State.settleTimes_frame (a0) (a1) :
    Frame [.free, .ctxs] a0 (State.settleTimes a0 a1) := by
  unfold State.settleTimes
  refine Frame.ite ?_ ?_
  · refine Frame.set_free _ rfl ?_
    exact Frame.refl _ _
  · refine Frame.step (State.setAccount_frame ..) rfl ?_
    refine Frame.set_free _ rfl ?_
    exact Frame.refl _ _

theorem State.defineOutputs_frame (a0) (a1) :
    Frame [.host, .near, .bulk] a0 (State.defineOutputs a0 a1) := by
  unfold State.defineOutputs
  refine Frame.set_hostUncommitted_near_bulk _ _ _ rfl id (.inr rfl) (.inl rfl) id (.inr rfl) (.inl rfl) ?_
  exact Frame.refl _ _

theorem State.commit_frame (a0) (a1) :
    Frame [.free, .out, .entries, .ctxEntries, .host, .near, .nearMem, .bulk, .bulkMem, .rings, .loops, .msix, .pages, .counters, .cmds, .steps, .array, .ctxs, .serve, .tru, .links, .health, .power] a0 (State.commit a0 a1) := by
  unfold State.commit
  dsimp only
  refine Frame.step (State.nextSearch_frame ..) rfl ?_
  refine Frame.step (State.afterStep_frame ..) rfl ?_
  refine Frame.step (State.setLoop_frame ..) rfl ?_
  split
  · refine Frame.step (State.complete_frame ..) rfl ?_
    refine Frame.step (State.dropStep_frame ..) rfl ?_
    refine Frame.step (State.endHalts_frame ..) rfl ?_
    refine Frame.step (State.charge_frame ..) rfl ?_
    refine Frame.step (State.noteWork_frame ..) rfl ?_
    refine Frame.step (State.settleTimes_frame ..) rfl ?_
    refine Frame.step (State.settleCounts_frame ..) rfl ?_
    refine Frame.foldl _ (fun _ _ => ?_) ?_
    · refine Frame.step (State.applySignal_frame ..) rfl ?_
      exact Frame.refl _ _
    · refine Frame.step (State.setLoop_frame ..) rfl ?_
      refine Frame.step (State.applyLog_frame ..) rfl ?_
      refine Frame.step (State.defineOutputs_frame ..) rfl ?_
      refine Frame.step (State.setStep_frame ..) rfl ?_
      exact Frame.refl _ _
  · refine Frame.step (State.dropStep_frame ..) rfl ?_
    refine Frame.step (State.endHalts_frame ..) rfl ?_
    refine Frame.step (State.charge_frame ..) rfl ?_
    refine Frame.step (State.noteWork_frame ..) rfl ?_
    refine Frame.step (State.settleTimes_frame ..) rfl ?_
    refine Frame.step (State.settleCounts_frame ..) rfl ?_
    refine Frame.foldl _ (fun _ _ => ?_) ?_
    · refine Frame.step (State.applySignal_frame ..) rfl ?_
      exact Frame.refl _ _
    · refine Frame.step (State.setLoop_frame ..) rfl ?_
      refine Frame.step (State.applyLog_frame ..) rfl ?_
      refine Frame.step (State.defineOutputs_frame ..) rfl ?_
      refine Frame.step (State.setStep_frame ..) rfl ?_
      exact Frame.refl _ _

theorem execPhaseEnd_frame {a0} {a1} {a2} {t : State} (h : execPhaseEnd a0 a1 a2 = .next t) :
    Frame [.free, .out, .uptime, .entries, .ctxEntries, .bulk, .steps, .array, .tru, .links, .power] a2 t := by
  cases h
  split
  · refine Frame.ite ?_ ?_
    · dsimp only
      split
      · refine Frame.ite ?_ ?_
        · refine Frame.step (State.triggerExchanges_frame ..) rfl ?_
          refine Frame.step (State.at_frame ..) rfl ?_
          exact Frame.refl _ _
        · refine Frame.step (State.rappel_frame ..) rfl ?_
          refine Frame.step (State.triggerExchanges_frame ..) rfl ?_
          refine Frame.step (State.at_frame ..) rfl ?_
          exact Frame.refl _ _
      · refine Frame.step (State.triggerExchanges_frame ..) rfl ?_
        refine Frame.step (State.at_frame ..) rfl ?_
        exact Frame.refl _ _
    · exact Frame.refl _ _
  · exact Frame.refl _ _

theorem State.disagree_frame (a0) (a1) (a2) :
    Frame [.free, .ctxEntries, .steps, .array, .links] a0 (State.disagree a0 a1 a2) := by
  unfold State.disagree
  refine Frame.step (State.endStep_frame ..) rfl ?_
  refine Frame.step (State.setStep_frame ..) rfl ?_
  refine Frame.ite_of Prod.snd ?_ ?_
  · exact Frame.refl _ _
  · refine Frame.step (State.fresh_frame ..) rfl ?_
    exact Frame.refl _ _

theorem State.endPhaseOne_frame (a0) (a1) :
    Frame [.free, .out, .entries, .ctxEntries, .host, .near, .nearMem, .bulk, .bulkMem, .rings, .loops, .msix, .pages, .counters, .cmds, .steps, .array, .ctxs, .serve, .tru, .links, .health, .power] a0 (State.endPhaseOne a0 a1) := by
  unfold State.endPhaseOne
  refine Frame.ite ?_ ?_
  · refine Frame.step (State.commit_frame ..) rfl ?_
    exact Frame.refl _ _
  · split
    · refine Frame.step (State.disagree_frame ..) rfl ?_
      exact Frame.refl _ _
    · refine Frame.step (State.setStep_frame ..) rfl ?_
      refine Frame.step (State.groupCast_frame ..) rfl ?_
      exact Frame.refl _ _

theorem State.sendRecord_res {s : State} (p : Step) :
    Frame.Res [.free, .out, .entries, .ctxEntries, .steps, .array, .links] s (fun x => Frame [.free, .out, .entries, .ctxEntries, .steps, .array, .links] s x.1)
      (s.sendRecord p) := by
  unfold State.sendRecord
  refine .ite ?_ (Frame.refl _ _)
  dsimp only
  split
  next e => exact Frame.step (State.setStep_frame ..) rfl (Frame.of_fst (Frame.mono (State.remoteWrite_frame ..) rfl) e)
  next e => exact Frame.step (State.stepMiss_frame ..) rfl (Frame.of_fst (Frame.mono (State.remoteWrite_frame ..) rfl) e)

theorem State.finishWrites_frame (s : State) (p : Step) :
    Frame [.free, .out, .entries, .ctxEntries, .host, .near, .nearMem, .bulk, .bulkMem, .rings, .loops, .msix, .pages, .counters, .cmds, .steps, .array, .ctxs, .serve, .tru, .links, .health, .power] s (s.finishWrites p) := by
  unfold State.finishWrites
  refine Frame.ite (Frame.mono (State.stepMiss_frame ..) rfl) (Frame.ite ?_ ?_)
  · exact Frame.step (State.flushPorts_frame ..) rfl (Frame.mono (State.setStep_frame ..) rfl)
  · have hw : Frame.Res [.free, .out, .entries, .ctxEntries, .host, .near, .nearMem, .bulk, .bulkMem, .rings, .loops, .msix, .pages, .counters, .cmds, .steps, .array, .ctxs, .serve, .tru, .links, .health, .power] s (fun t => Frame [.free, .out, .entries, .ctxEntries, .host, .near, .nearMem, .bulk, .bulkMem, .rings, .loops, .msix, .pages, .counters, .cmds, .steps, .array, .ctxs, .serve, .tru, .links, .health, .power] s t)
        (if p.cruxEn && !p.recordSent then s.stepWrite p p.cruxRecord (cruxBytes p (s.dget 0x2400 3)) else .ok s) :=
      Frame.Res.ite (State.stepWrite_res _ _ _ rfl (Frame.refl _ _)) (.pure (Frame.refl _ _))
    extract_lets written
    change Frame.Res _ _ _ written at hw
    clear_value written
    split
    · exact hw
    · split
      next e => exact Frame.of_fst (Frame.step (State.prepareStep_frame ..) rfl hw) e
      next e =>
        have h2 := Frame.of_fst (Frame.step (State.prepareStep_frame ..) rfl hw) e
        split
        · exact Frame.step (State.endPhaseOne_frame ..) rfl h2
        · exact h2

theorem State.executionEnd_frame (s : State) (p : Step) :
    Frame [.free, .out, .entries, .ctxEntries, .host, .near, .nearMem, .bulk, .bulkMem, .rings, .loops, .msix, .pages, .counters, .cmds, .steps, .array, .ctxs, .serve, .tru, .links, .health, .power] s (s.executionEnd p) := by
  unfold State.executionEnd
  extract_lets s1
  have h1 : Frame [.free, .out, .entries, .ctxEntries, .host, .near, .nearMem, .bulk, .bulkMem, .rings, .loops, .msix, .pages, .counters, .cmds, .steps, .array, .ctxs, .serve, .tru, .links, .health, .power] s s1 := by
    refine Frame.ite (Frame.refl _ _) ?_
    exact Frame.step (State.triggerExchanges_frame ..) rfl (Frame.mono (State.setStep_frame ..) rfl)
  clear_value s1
  split
  · exact h1
  · refine Frame.ite h1 ?_
    split
    next e => exact Frame.step ((State.sendRecord_res _).error e) rfl h1
    next e => exact Frame.step (State.finishWrites_frame ..) rfl (Frame.step ((State.sendRecord_res _).ok e) rfl h1)

theorem execStepExecutionEnd_frame {a0} {a1} {a2} {t : State} (h : execStepExecutionEnd a0 a1 a2 = .next t) :
    Frame [.free, .out, .uptime, .entries, .ctxEntries, .host, .near, .nearMem, .bulk, .bulkMem, .rings, .loops, .msix, .pages, .counters, .cmds, .steps, .array, .ctxs, .serve, .tru, .links, .health, .power] a2 t := by
  cases h
  split
  · refine Frame.ite ?_ ?_
    · refine Frame.step (State.executionEnd_frame ..) rfl ?_
      refine Frame.step (State.at_frame ..) rfl ?_
      exact Frame.refl _ _
    · exact Frame.refl _ _
  · exact Frame.refl _ _

end Sys2Proof.Machine
end

