-- ==== Sys2Proof/Laws/Hang.lean ====
section
/-! SUPPORT. What the operations of Hang can change: one frame each. -/

namespace Sys2Proof.Machine

theorem State.abandonRequests_frame (a0) (a1) :
    Frame [.links] a0 (State.abandonRequests a0 a1) := by
  unfold State.abandonRequests
  refine Frame.set_links _ rfl ?_
  exact Frame.refl _ _

theorem execRappelQuiescence_frame {a0} {a1} {a2} {a3} {t : State} (h : execRappelQuiescence a0 a1 a2 a3 = .next t) :
    Frame [.free, .out, .uptime, .dev, .entries, .ctxEntries, .host, .near, .nearMem, .bulk, .bulkMem, .store, .rings, .loops, .msix, .pages, .counters, .cmds, .steps, .array, .ctxs, .serve, .tru, .links, .kop, .health, .power] a3 t := by
  cases h
  split
  · refine Frame.ite ?_ ?_
    · exact Frame.refl _ _
    · refine Frame.step (State.serveHeld_frame ..) rfl ?_
      refine Frame.step (State.nextSearch_frame ..) rfl ?_
      refine Frame.step (State.quiesce_frame ..) rfl ?_
      refine Frame.step (State.abandonRequests_frame ..) rfl ?_
      refine Frame.step (State.at_frame ..) rfl ?_
      exact Frame.refl _ _
  · exact Frame.refl _ _

theorem execStepLaunch_frame {a0} {a1} {a2} {t : State} (h : execStepLaunch a0 a1 a2 = .next t) :
    Frame [.free, .out, .uptime, .entries, .ctxEntries, .host, .near, .nearMem, .bulk, .bulkMem, .rings, .loops, .msix, .pages, .cmds, .steps, .array, .ctxs, .serve, .tru, .links, .health, .power] a2 t := by
  cases h
  split
  · dsimp only
    refine Frame.ite ?_ ?_
    · refine Frame.step (State.nextSearch_frame ..) rfl ?_
      refine Frame.step (State.launch_frame ..) rfl ?_
      refine Frame.step (State.stage_frame ..) rfl ?_
      refine Frame.step (State.at_frame ..) rfl ?_
      exact Frame.refl _ _
    · exact Frame.refl _ _
  · exact Frame.refl _ _

theorem execVfFunctionLevelReset_frame {a0} {a1} {a2} {t : State} (h : execVfFunctionLevelReset a0 a1 a2 = .next t) :
    Frame [.free, .out, .uptime, .entries, .ctxEntries, .host, .near, .nearMem, .bulk, .bulkMem, .hif, .rings, .loops, .msix, .pages, .cmds, .steps, .array, .ctxs, .serve, .links, .health, .power] a2 t := by
  cases h
  refine Frame.ite ?_ ?_
  · refine Frame.step (State.nextSearch_frame ..) rfl ?_
    refine Frame.step (State.resetFunction_frame ..) rfl ?_
    refine Frame.step (State.startReset_frame ..) rfl ?_
    refine Frame.step (State.at_frame ..) rfl ?_
    exact Frame.refl _ _
  · exact Frame.refl _ _

theorem State.guilty_frame (a0) (a1) (a2) :
    Frame [.free, .out, .entries, .ctxEntries, .host, .near, .nearMem, .bulk, .bulkMem, .rings, .loops, .msix, .pages, .cmds, .steps, .array, .ctxs, .serve, .tru, .links, .health, .power] a0 (State.guilty a0 a1 a2) := by
  unfold State.guilty
  dsimp only
  refine Frame.step (State.nextExchanges_frame ..) rfl ?_
  refine Frame.step (State.nextSearch_frame ..) rfl ?_
  refine Frame.step (State.startReset_frame ..) rfl ?_
  refine Frame.step (State.event_frame ..) rfl ?_
  refine Frame.step (State.cbump_frame ..) rfl ?_
  refine Frame.ite ?_ ?_
  · refine Frame.step (State.failEnd_frame ..) rfl ?_
    refine Frame.step (State.releaseSuspects_frame ..) rfl ?_
    refine Frame.step (State.sendAbort_frame ..) rfl ?_
    exact Frame.refl _ _
  · refine Frame.step (State.failEnd_frame ..) rfl ?_
    refine Frame.step (State.releaseSuspects_frame ..) rfl ?_
    refine Frame.step (State.sendAbort_frame ..) rfl ?_
    exact Frame.refl _ _

theorem State.stall_frame (a0) (a1) (a2) (a3) :
    Frame [.free, .out, .entries, .ctxEntries, .host, .near, .nearMem, .bulk, .bulkMem, .rings, .loops, .msix, .pages, .cmds, .steps, .array, .ctxs, .serve, .tru, .links, .health, .power] a0 (State.stall a0 a1 a2 a3) := by
  unfold State.stall
  split
  · refine Frame.ite ?_ ?_
    · refine Frame.step (State.guilty_frame ..) rfl ?_
      exact Frame.refl _ _
    · refine Frame.ite ?_ ?_
      · refine Frame.step (State.replayStep_frame ..) rfl ?_
        refine Frame.step (State.setStep_frame ..) rfl ?_
        exact Frame.refl _ _
      · refine Frame.step (State.failStep_frame ..) rfl ?_
        refine Frame.step (State.sendAbort_frame ..) rfl ?_
        refine Frame.step (State.hold_frame ..) rfl ?_
        refine Frame.set_ctxs _ rfl ?_
        exact Frame.refl _ _
  · refine Frame.ite ?_ ?_
    · refine Frame.step (State.replayStep_frame ..) rfl ?_
      refine Frame.step (State.setStep_frame ..) rfl ?_
      exact Frame.refl _ _
    · refine Frame.step (State.search_frame ..) rfl ?_
      exact Frame.refl _ _

theorem execStepStalled_frame {a0} {a1} {a2} {a3} {a4} {t : State} (h : execStepStalled a0 a1 a2 a3 a4 = .next t) :
    Frame [.free, .out, .uptime, .entries, .ctxEntries, .host, .near, .nearMem, .bulk, .bulkMem, .rings, .loops, .msix, .pages, .cmds, .steps, .array, .ctxs, .serve, .tru, .links, .health, .power] a4 t := by
  cases h
  split
  · refine Frame.ite ?_ ?_
    · refine Frame.step (State.stall_frame ..) rfl ?_
      refine Frame.step (State.at_frame ..) rfl ?_
      exact Frame.refl _ _
    · exact Frame.refl _ _
  · exact Frame.refl _ _

end Sys2Proof.Machine
end

