-- ==== Sys2Proof/Laws/NearMap.lean ====
section
/-! SUPPORT. What the operations of NearMap can change: one frame each. -/

namespace Sys2Proof.Machine

theorem State.setMap_frame (a0) (a1) (a2) (a3) (a4) :
    Frame [.near, .nearMem] a0 (State.setMap a0 a1 a2 a3 a4) := by
  unfold State.setMap
  dsimp only
  split
  · refine Frame.ite ?_ ?_
    · refine Frame.step (State.zeroRegion_frame ..) rfl ?_
      refine Frame.set_near _ id (.inr rfl) (.inl rfl) ?_
      exact Frame.refl _ _
    · refine Frame.set_near _ id (.inr rfl) (.inl rfl) ?_
      exact Frame.refl _ _
  · refine Frame.ite ?_ ?_
    · refine Frame.step (State.setRegion_frame ..) rfl ?_
      refine Frame.set_near _ id (.inr rfl) (.inl rfl) ?_
      exact Frame.refl _ _
    · refine Frame.set_near _ id (.inr rfl) (.inl rfl) ?_
      exact Frame.refl _ _

theorem State.clearMap_frame (a0) (a1) (a2) (a3) :
    Frame [.near, .bulk] a0 (State.clearMap a0 a1 a2 a3) := by
  unfold State.clearMap
  dsimp only
  refine Frame.step (State.setRegion_frame ..) rfl ?_
  refine Frame.step (State.dropRegion_frame ..) rfl ?_
  refine Frame.set_near _ id (.inr rfl) (.inl rfl) ?_
  exact Frame.refl _ _

theorem State.writeNmMap_frame (a0) (a1) (a2) (a3) (a4) (a5) :
    Frame [.near, .nearMem, .bulk, .links] a0 (State.writeNmMap a0 a1 a2 a3 a4 a5) := by
  unfold State.writeNmMap
  refine Frame.ite ?_ ?_
  · exact Frame.refl _ _
  · dsimp only
    refine Frame.ite ?_ ?_
    · split
      · refine Frame.set_near _ id (.inr rfl) (.inl rfl) ?_
        exact Frame.refl _ _
      · split
        · refine Frame.set_near _ id (.inr rfl) (.inl rfl) ?_
          refine Frame.step (State.setMap_frame ..) rfl ?_
          exact Frame.refl _ _
        · refine Frame.ite ?_ ?_
          · refine Frame.set_near _ id (.inr rfl) (.inl rfl) ?_
            exact Frame.refl _ _
          · refine Frame.set_near _ id (.inr rfl) (.inl rfl) ?_
            refine Frame.step (State.beginConfirm_frame ..) rfl ?_
            refine Frame.set_near _ id (.inr rfl) (.inl rfl) ?_
            refine Frame.step (State.clearMap_frame ..) rfl ?_
            exact Frame.refl _ _
    · refine Frame.ite ?_ ?_
      · refine Frame.set_near _ id (.inr rfl) (.inl rfl) ?_
        exact Frame.refl _ _
      · split
        · refine Frame.set_near _ id (.inr rfl) (.inl rfl) ?_
          exact Frame.refl _ _
        · refine Frame.set_near _ id (.inr rfl) (.inl rfl) ?_
          refine Frame.step (State.beginConfirm_frame ..) rfl ?_
          refine Frame.set_near _ id (.inr rfl) (.inl rfl) ?_
          refine Frame.step (State.clearMap_frame ..) rfl ?_
          exact Frame.refl _ _

theorem execNmMapMap_frame {a0} {a1} {a2} {a3} {a4} {t : State} (h : execNmMapMap a0 a1 a2 a3 a4 = .next t) :
    Frame [.near, .nearMem, .bulk, .links] a4 t := by
  cases h
  refine State.ifHost_frame_k rfl (fun _ => ?_) ?_
  · refine Frame.step (State.writeNmMap_frame ..) rfl ?_
    exact Frame.refl _ _
  · exact Frame.refl _ _

theorem execNmMapUnmap_frame {a0} {a1} {a2} {a3} {a4} {t : State} (h : execNmMapUnmap a0 a1 a2 a3 a4 = .next t) :
    Frame [.near, .nearMem, .bulk, .links] a4 t := by
  cases h
  refine State.ifHost_frame_k rfl (fun _ => ?_) ?_
  · refine Frame.step (State.writeNmMap_frame ..) rfl ?_
    exact Frame.refl _ _
  · exact Frame.refl _ _

theorem State.dropBivouac_frame (a0) (a1) (a2) :
    Frame [.near] a0 (State.dropBivouac a0 a1 a2) := by
  unfold State.dropBivouac
  refine Frame.ite ?_ ?_
  · refine Frame.set_near _ id (.inr rfl) (.inl rfl) ?_
    exact Frame.refl _ _
  · exact Frame.refl _ _

theorem State.unmapQuiesced_frame (a0) :
    Frame [.near, .nearMem, .links] a0 (State.unmapQuiesced a0) := by
  unfold State.unmapQuiesced
  split
  · exact Frame.refl _ _
  · dsimp only
    refine Frame.ite ?_ ?_
    · refine Frame.step (State.dropBivouac_frame ..) rfl ?_
      split
      · refine Frame.step (State.setMap_frame ..) rfl ?_
        refine Frame.step (State.setRegion_frame ..) rfl ?_
        refine Frame.set_near _ id (.inr rfl) (.inl rfl) ?_
        refine Frame.step (State.endConfirm_frame ..) rfl ?_
        exact Frame.refl _ _
      · refine Frame.step (State.setRegion_frame ..) rfl ?_
        refine Frame.set_near _ id (.inr rfl) (.inl rfl) ?_
        refine Frame.step (State.endConfirm_frame ..) rfl ?_
        exact Frame.refl _ _
    · refine Frame.step (State.setRegion_frame ..) rfl ?_
      refine Frame.step (State.dropBivouac_frame ..) rfl ?_
      split
      · refine Frame.step (State.setMap_frame ..) rfl ?_
        refine Frame.step (State.setRegion_frame ..) rfl ?_
        refine Frame.set_near _ id (.inr rfl) (.inl rfl) ?_
        refine Frame.step (State.endConfirm_frame ..) rfl ?_
        exact Frame.refl _ _
      · refine Frame.step (State.setRegion_frame ..) rfl ?_
        refine Frame.set_near _ id (.inr rfl) (.inl rfl) ?_
        refine Frame.step (State.endConfirm_frame ..) rfl ?_
        exact Frame.refl _ _

theorem execUnmapQuiesced_frame {a0} {t : State} (h : execUnmapQuiesced a0 = .next t) :
    Frame [.near, .nearMem, .links] a0 t := by
  cases h
  refine Frame.ite ?_ ?_
  · refine Frame.step (State.unmapQuiesced_frame ..) rfl ?_
    exact Frame.refl _ _
  · exact Frame.refl _ _

theorem execRegionClearDone_frame {a0} {a1} {t : State} (h : execRegionClearDone a0 a1 = .next t) :
    Frame [.near, .nearMem] a1 t := by
  cases h
  refine Frame.ite ?_ ?_
  · refine Frame.ite ?_ ?_
    · refine Frame.step (State.setRegion_frame ..) rfl ?_
      refine Frame.step (State.zeroRegion_frame ..) rfl ?_
      exact Frame.refl _ _
    · refine Frame.step (State.setRegion_frame ..) rfl ?_
      refine Frame.step (State.zeroRegion_frame ..) rfl ?_
      exact Frame.refl _ _
  · exact Frame.refl _ _

theorem State.nearLastError_frame (a0) (a1) (a2) (a3) (a4) :
    Frame [.entries] a0 (State.nearLastError a0 a1 a2 a3 a4) := by
  unfold State.nearLastError
  refine Frame.step (State.dset_frame ..) rfl ?_
  exact Frame.refl _ _

theorem State.sparesExhausted_frame (a0) (a1) :
    Frame [.free, .out, .entries, .near, .msix, .health] a0 (State.sparesExhausted a0 a1) := by
  unfold State.sparesExhausted
  dsimp only
  split
  · refine Frame.step (State.setRegion_frame ..) rfl ?_
    refine Frame.step (State.event_frame ..) rfl ?_
    exact Frame.refl _ _
  · refine Frame.step (State.event_frame ..) rfl ?_
    exact Frame.refl _ _
  · refine Frame.step (State.event_frame ..) rfl ?_
    exact Frame.refl _ _
  · refine Frame.step (State.setRegion_frame ..) rfl ?_
    refine Frame.step (State.event_frame ..) rfl ?_
    exact Frame.refl _ _

theorem State.repairRow_frame (a0) (a1) (a2) :
    Frame [.free, .out, .entries, .near, .msix, .health] a0 (State.repairRow a0 a1 a2) := by
  unfold State.repairRow
  dsimp only
  refine Frame.ite ?_ ?_
  · exact Frame.refl _ _
  · refine Frame.ite ?_ ?_
    · refine Frame.step (State.dset_frame ..) rfl ?_
      refine Frame.set_near _ id (.inr rfl) (.inl rfl) ?_
      exact Frame.refl _ _
    · refine Frame.step (State.sparesExhausted_frame ..) rfl ?_
      exact Frame.refl _ _

theorem State.nearCorrected_frame (a0) (a1) (a2) (a3) :
    Frame [.free, .out, .entries, .near, .msix, .health] a0 (State.nearCorrected a0 a1 a2 a3) := by
  unfold State.nearCorrected
  dsimp only
  refine Frame.ite ?_ ?_
  · refine Frame.step (State.repairRow_frame ..) rfl ?_
    refine Frame.set_near _ id (.inr rfl) (.inl rfl) ?_
    refine Frame.step (State.nearLastError_frame ..) rfl ?_
    refine Frame.step (State.dbump_frame ..) rfl ?_
    exact Frame.refl _ _
  · refine Frame.set_near _ id (.inr rfl) (.inl rfl) ?_
    refine Frame.step (State.nearLastError_frame ..) rfl ?_
    refine Frame.step (State.dbump_frame ..) rfl ?_
    exact Frame.refl _ _

theorem State.nearRebuilt_frame (a0) (a1) (a2) (a3) :
    Frame [.free, .out, .entries, .near, .msix, .health] a0 (State.nearRebuilt a0 a1 a2 a3) := by
  unfold State.nearRebuilt
  dsimp only
  refine Frame.step (State.repairRow_frame ..) rfl ?_
  refine Frame.step (State.event_frame ..) rfl ?_
  refine Frame.step (State.nearLastError_frame ..) rfl ?_
  refine Frame.step (State.dbump_frame ..) rfl ?_
  exact Frame.refl _ _

theorem State.nearBad_frame (a0) (a1) (a2) :
    Frame [.free, .out, .entries, .near, .msix, .health] a0 (State.nearBad a0 a1 a2) := by
  unfold State.nearBad
  refine Frame.step (State.repairRow_frame ..) rfl ?_
  refine Frame.step (State.nearLastError_frame ..) rfl ?_
  refine Frame.step (State.dbump_frame ..) rfl ?_
  exact Frame.refl _ _

theorem State.loseImage_frame (a0) (a1) (a2) :
    Frame [.array] a0 (State.loseImage a0 a1 a2) := by
  unfold State.loseImage
  dsimp only
  split
  · exact Frame.refl _ _
  · refine Frame.ite ?_ ?_
    · refine Frame.step (State.discardIn_frame ..) rfl ?_
      refine Frame.set_array _ rfl ?_
      exact Frame.refl _ _
    · refine Frame.step (State.discardIn_frame ..) rfl ?_
      exact Frame.refl _ _

theorem State.nearPoisonLine_frame (a0) (a1) (a2) :
    Frame [.free, .out, .entries, .near, .msix, .array, .health] a0 (State.nearPoisonLine a0 a1 a2) := by
  unfold State.nearPoisonLine
  dsimp only
  refine Frame.ite ?_ ?_
  · refine Frame.step (State.loseImage_frame ..) rfl ?_
    refine Frame.step (State.nearBad_frame ..) rfl ?_
    refine Frame.set_near _ id (.inr rfl) (.inl rfl) ?_
    exact Frame.refl _ _
  · refine Frame.step (State.nearBad_frame ..) rfl ?_
    refine Frame.set_near _ id (.inr rfl) (.inl rfl) ?_
    exact Frame.refl _ _

theorem State.writeBack_frame (a0) (a1) (a2) (a3) :
    Frame [.nearMem] a0 (State.writeBack a0 a1 a2 a3) := by
  unfold State.writeBack
  refine Frame.set_near _ (memWf_memWrites _ _ _) (.inl rfl) (.inr rfl) ?_
  exact Frame.refl _ _

theorem State.lineRead_frame (a0) (a1) (a2) (a3) (a4) :
    Frame [.free, .out, .entries, .near, .nearMem, .bulk, .msix, .array, .health] a0 (State.lineRead a0 a1 a2 a3 a4) := by
  unfold State.lineRead
  split
  · exact Frame.refl _ _
  · refine Frame.step (State.nearCorrected_frame ..) rfl ?_
    refine Frame.ite ?_ ?_
    · exact Frame.refl _ _
    · refine Frame.step (State.writeBack_frame ..) rfl ?_
      exact Frame.refl _ _
  · refine Frame.step (State.nearRebuilt_frame ..) rfl ?_
    refine Frame.ite ?_ ?_
    · exact Frame.refl _ _
    · refine Frame.step (State.writeBack_frame ..) rfl ?_
      exact Frame.refl _ _
  · refine Frame.ite ?_ ?_
    · refine Frame.step (State.nearBad_frame ..) rfl ?_
      exact Frame.refl _ _
    · split
      · refine Frame.step (State.nearBad_frame ..) rfl ?_
        refine Frame.set_bulk _ id (.inr rfl) (.inl rfl) ?_
        exact Frame.refl _ _
      · refine Frame.step (State.nearPoisonLine_frame ..) rfl ?_
        exact Frame.refl _ _

theorem execNearScrubLine_frame {a0} {a1} {a2} {a3} {a4} {a5} {t : State} (h : execNearScrubLine a0 a1 a2 a3 a4 a5 = .next t) :
    Frame [.free, .out, .uptime, .entries, .near, .nearMem, .bulk, .msix, .array, .health] a5 t := by
  cases h
  dsimp only
  refine Frame.ite ?_ ?_
  · exact Frame.refl _ _
  · refine Frame.step (State.lineRead_frame ..) rfl ?_
    refine Frame.set_near _ id (.inr rfl) (.inl rfl) ?_
    refine Frame.step (State.at_frame ..) rfl ?_
    exact Frame.refl _ _

theorem execNearRowRepairDone_frame {a0} {a1} {a2} {t : State} (h : execNearRowRepairDone a0 a1 a2 = .next t) :
    Frame [.free, .out, .entries, .near, .nearMem, .bulk, .msix, .array, .health] a2 t := by
  cases h
  dsimp only
  split
  · refine Frame.set_near _ id (.inr rfl) (.inl rfl) ?_
    refine Frame.foldl _ (fun _ _ => ?_) ?_
    · refine Frame.step (State.lineRead_frame ..) rfl ?_
      exact Frame.refl _ _
    · exact Frame.refl _ _
  · exact Frame.refl _ _

end Sys2Proof.Machine
end

