-- ==== Sys2Proof/Laws/Errors.lean ====
section
/-! SUPPORT. What the operations of Errors can change: one frame each. -/

namespace Sys2Proof.Machine

theorem State.setCoreState_frame (a0) (a1) (a2) (a3) :
    Frame [.health] a0 (State.setCoreState a0 a1 a2 a3) := by
  unfold State.setCoreState
  refine Frame.set_health _ rfl ?_
  exact Frame.refl _ _

theorem State.replaceCore_frame (a0) (a1) (a2) (a3) (a4) (a5) :
    Frame [.health] a0 (State.replaceCore a0 a1 a2 a3 a4 a5) := by
  unfold State.replaceCore
  refine Frame.step (State.setCoreState_frame ..) rfl ?_
  refine Frame.step (State.setCoreState_frame ..) rfl ?_
  exact Frame.refl _ _

theorem State.endRotation_frame (a0) (a1) :
    Frame [.health] a0 (State.endRotation a0 a1) := by
  unfold State.endRotation
  refine Frame.set_health _ rfl ?_
  exact Frame.refl _ _

theorem State.freshCore_frame (a0) (a1) :
    Frame [.array] a0 (State.freshCore a0 a1) := by
  unfold State.freshCore
  refine Frame.set_array _ rfl ?_
  exact Frame.refl _ _

theorem State.coreFails_frame (a0) (a1) (a2) :
    Frame [.free, .out, .entries, .ctxEntries, .msix, .steps, .array, .links, .health] a0 (State.coreFails a0 a1 a2) := by
  unfold State.coreFails
  dsimp only
  split
  · refine Frame.step (State.isolate_frame ..) rfl ?_
    exact Frame.refl _ _
  · refine Frame.ite ?_ ?_
    · refine Frame.step (State.isolate_frame ..) rfl ?_
      exact Frame.refl _ _
    · split
      · refine Frame.step (State.replayStep_frame ..) rfl ?_
        refine Frame.step (State.event_frame ..) rfl ?_
        refine Frame.step (State.endRotation_frame ..) rfl ?_
        refine Frame.step (State.replaceCore_frame ..) rfl ?_
        exact Frame.refl _ _
      · refine Frame.step (State.freshCore_frame ..) rfl ?_
        refine Frame.step (State.event_frame ..) rfl ?_
        refine Frame.step (State.endRotation_frame ..) rfl ?_
        refine Frame.step (State.replaceCore_frame ..) rfl ?_
        exact Frame.refl _ _

theorem execCoreError_frame {a0} {a1} {a2} {t : State} (h : execCoreError a0 a1 a2 = .next t) :
    Frame [.free, .out, .uptime, .dev, .entries, .ctxEntries, .host, .near, .nearMem, .bulk, .bulkMem, .store, .hif, .rings, .loops, .msix, .pages, .cmds, .steps, .array, .ctxs, .serve, .tru, .links, .kop, .health, .power] a2 t := by
  cases h
  split
  · refine Frame.ite ?_ ?_
    · exact Frame.refl _ _
    · refine Frame.ite ?_ ?_
      · refine Frame.step (State.startRecovery_frame ..) rfl ?_
        refine Frame.step (State.at_frame ..) rfl ?_
        exact Frame.refl _ _
      · refine Frame.ite ?_ ?_
        · refine Frame.step (State.coreFails_frame ..) rfl ?_
          refine Frame.step (State.at_frame ..) rfl ?_
          exact Frame.refl _ _
        · exact Frame.refl _ _
  · exact Frame.refl _ _

theorem State.damagedStep_frame (a0) (a1) (a2) :
    Frame [.free, .ctxEntries, .steps, .array, .links] a0 (State.damagedStep a0 a1 a2) := by
  unfold State.damagedStep
  refine Frame.ite ?_ ?_
  · exact Frame.refl _ _
  · refine Frame.step (State.failStep_frame ..) rfl ?_
    refine Frame.ite ?_ ?_
    · refine Frame.step (State.sendAbort_frame ..) rfl ?_
      exact Frame.refl _ _
    · exact Frame.refl _ _

theorem State.damageVa_frame (a0) (a1) :
    Frame [.free] a0 (State.damageVa a0 a1).2 := by
  unfold State.damageVa
  split
  · exact Frame.refl _ _
  · refine Frame.step (State.fresh_frame ..) rfl ?_
    exact Frame.refl _ _

theorem State.stepNearDamage_frame (a0) (a1) (a2) :
    Frame [.free, .ctxEntries, .steps, .array, .links] a0 (State.stepNearDamage a0 a1 a2) := by
  unfold State.stepNearDamage
  refine Frame.ite ?_ ?_
  · refine Frame.step (State.replayStep_frame ..) rfl ?_
    refine Frame.step (State.cbump_frame ..) rfl ?_
    exact Frame.refl _ _
  · split
    · refine Frame.step (State.damagedStep_frame ..) rfl ?_
      refine Frame.step (Frame.of_snd (State.damageVa_frame ..) (by assumption)) rfl ?_
      refine Frame.step (State.cbump_frame ..) rfl ?_
      exact Frame.refl _ _

theorem State.nearReader_frame (a0) (a1) (a2) (a3) :
    Frame [.free, .ctxEntries, .steps, .array, .links] a0 (State.nearReader a0 a1 a2 a3) := by
  unfold State.nearReader
  split
  · split
    · refine Frame.ite ?_ ?_
      · refine Frame.step (State.stepNearDamage_frame ..) rfl ?_
        exact Frame.refl _ _
      · exact Frame.refl _ _
    · exact Frame.refl _ _
  · refine Frame.step (State.cbump_frame ..) rfl ?_
    exact Frame.refl _ _
  · exact Frame.refl _ _
  · exact Frame.refl _ _

theorem execNearUncorrectable_frame {a0} {a1} {a2} {a3} {a4} {t : State} (h : execNearUncorrectable a0 a1 a2 a3 a4 = .next t) :
    Frame [.free, .out, .uptime, .entries, .ctxEntries, .near, .nearMem, .bulk, .msix, .steps, .array, .links, .health] a4 t := by
  cases h
  dsimp only
  refine Frame.ite ?_ ?_
  · exact Frame.refl _ _
  · split
    · refine Frame.step (State.nearBad_frame ..) rfl ?_
      refine Frame.step (State.at_frame ..) rfl ?_
      exact Frame.refl _ _
    · refine Frame.step (State.nearReader_frame ..) rfl ?_
      refine Frame.step (State.nearPoisonLine_frame ..) rfl ?_
      refine Frame.step (State.at_frame ..) rfl ?_
      exact Frame.refl _ _
    · refine Frame.step (State.lineRead_frame ..) rfl ?_
      refine Frame.step (State.at_frame ..) rfl ?_
      exact Frame.refl _ _

theorem State.bulkLastError_frame (a0) (a1) (a2) :
    Frame [.entries] a0 (State.bulkLastError a0 a1 a2) := by
  unfold State.bulkLastError
  refine Frame.step (State.dset_frame ..) rfl ?_
  exact Frame.refl _ _

theorem State.channelFails_frame (a0) (a1) (a2) :
    Frame [.free, .out, .entries, .bulk, .msix, .health] a0 (State.channelFails a0 a1 a2) := by
  unfold State.channelFails
  refine Frame.ite ?_ ?_
  · exact Frame.refl _ _
  · refine Frame.ite ?_ ?_
    · refine Frame.step (State.dset_frame ..) rfl ?_
      refine Frame.set_bulk _ id (.inr rfl) (.inl rfl) ?_
      exact Frame.refl _ _
    · refine Frame.step (State.event_frame ..) rfl ?_
      refine Frame.step (State.dset_frame ..) rfl ?_
      exact Frame.refl _ _

theorem State.channelCounts_frame (a0) (a1) (a2) :
    Frame [.free, .out, .entries, .bulk, .msix, .health] a0 (State.channelCounts a0 a1 a2) := by
  unfold State.channelCounts
  dsimp only
  refine Frame.ite ?_ ?_
  · refine Frame.step (State.channelFails_frame ..) rfl ?_
    refine Frame.set_bulk _ id (.inr rfl) (.inl rfl) ?_
    exact Frame.refl _ _
  · exact Frame.refl _ _

theorem State.bulkBad_frame (a0) (a1) :
    Frame [.free, .out, .entries, .bulk, .msix, .health] a0 (State.bulkBad a0 a1) := by
  unfold State.bulkBad
  dsimp only
  refine Frame.step (State.channelCounts_frame ..) rfl ?_
  refine Frame.step (State.bulkLastError_frame ..) rfl ?_
  refine Frame.step (State.dbump_frame ..) rfl ?_
  refine Frame.set_bulk _ id (.inr rfl) (.inl rfl) ?_
  exact Frame.refl _ _

theorem State.bulkPoisonLine_frame (a0) (a1) :
    Frame [.free, .out, .entries, .bulk, .msix, .health] a0 (State.bulkPoisonLine a0 a1) := by
  unfold State.bulkPoisonLine
  refine Frame.step (State.bulkBad_frame ..) rfl ?_
  refine Frame.set_bulk _ id (.inr rfl) (.inl rfl) ?_
  exact Frame.refl _ _

theorem State.bulkCorrected_frame (a0) (a1) :
    Frame [.free, .entries] a0 (State.bulkCorrected a0 a1) := by
  unfold State.bulkCorrected
  refine Frame.step (State.bulkLastError_frame ..) rfl ?_
  refine Frame.step (State.dbump_frame ..) rfl ?_
  exact Frame.refl _ _

theorem State.bulkShows_frame (a0) (a1) (a2) :
    Frame [.free, .out, .entries, .bulk, .msix, .health] a0 (State.bulkShows a0 a1 a2) := by
  unfold State.bulkShows
  split
  · exact Frame.refl _ _
  · refine Frame.step (State.bulkCorrected_frame ..) rfl ?_
    exact Frame.refl _ _
  · dsimp only
    refine Frame.step (State.bulkLastError_frame ..) rfl ?_
    refine Frame.set_bulk _ id (.inr rfl) (.inl rfl) ?_
    refine Frame.ite ?_ ?_
    · refine Frame.step (State.bulkCorrected_frame ..) rfl ?_
      exact Frame.refl _ _
    · exact Frame.refl _ _
  · refine Frame.step (State.bulkPoisonLine_frame ..) rfl ?_
    exact Frame.refl _ _
  · refine Frame.ite ?_ ?_
    · refine Frame.step (State.bulkPoisonLine_frame ..) rfl ?_
      exact Frame.refl _ _
    · exact Frame.refl _ _
  · exact Frame.refl _ _

theorem State.stepBulkDamage_frame (a0) (a1) (a2) :
    Frame [.free, .ctxEntries, .steps, .array, .links] a0 (State.stepBulkDamage a0 a1 a2) := by
  unfold State.stepBulkDamage
  dsimp only
  refine Frame.ite ?_ ?_
  · refine Frame.step (State.replayStep_frame ..) rfl ?_
    refine Frame.step (State.cbump_frame ..) rfl ?_
    exact Frame.refl _ _
  · split
    · refine Frame.step (State.damagedStep_frame ..) rfl ?_
      refine Frame.step (State.cbump_frame ..) rfl ?_
      exact Frame.refl _ _
    · refine Frame.step (State.damagedStep_frame ..) rfl ?_
      refine Frame.step (State.fresh_frame ..) rfl ?_
      refine Frame.step (State.cbump_frame ..) rfl ?_
      exact Frame.refl _ _

theorem State.lineDamaged_frame (a0) (a1) (a2) :
    Frame [.free, .ctxEntries, .steps, .array, .links] a0 (State.lineDamaged a0 a1 a2) := by
  unfold State.lineDamaged
  split
  · split
    · refine Frame.ite ?_ ?_
      · refine Frame.step (State.stepBulkDamage_frame ..) rfl ?_
        exact Frame.refl _ _
      · exact Frame.refl _ _
    · exact Frame.refl _ _
  · refine Frame.step (State.cbump_frame ..) rfl ?_
    exact Frame.refl _ _
  · exact Frame.refl _ _
  · exact Frame.refl _ _

theorem State.meshDamaged_frame (a0) (a1) :
    Frame [.free, .ctxEntries, .steps, .array, .links] a0 (State.meshDamaged a0 a1) := by
  unfold State.meshDamaged
  split
  · split
    · refine Frame.ite ?_ ?_
      · refine Frame.step (State.replayStep_frame ..) rfl ?_
        exact Frame.refl _ _
      · exact Frame.refl _ _
    · exact Frame.refl _ _
  · exact Frame.refl _ _

theorem execBulkUncorrectable_frame {a0} {a1} {a2} {a3} {t : State} (h : execBulkUncorrectable a0 a1 a2 a3 = .next t) :
    Frame [.free, .out, .uptime, .entries, .ctxEntries, .bulk, .msix, .steps, .array, .links, .health] a3 t := by
  cases h
  dsimp only
  refine Frame.ite ?_ ?_
  · exact Frame.refl _ _
  · split
    · refine Frame.step (State.lineDamaged_frame ..) rfl ?_
      refine Frame.step (State.bulkShows_frame ..) rfl ?_
      refine Frame.step (State.at_frame ..) rfl ?_
      exact Frame.refl _ _
    · refine Frame.step (State.meshDamaged_frame ..) rfl ?_
      refine Frame.step (State.bulkShows_frame ..) rfl ?_
      refine Frame.step (State.at_frame ..) rfl ?_
      exact Frame.refl _ _
    · refine Frame.step (State.bulkShows_frame ..) rfl ?_
      refine Frame.step (State.at_frame ..) rfl ?_
      exact Frame.refl _ _

theorem State.beginPass_frame (a0) (a1) :
    Frame [.bulk] a0 (State.beginPass a0 a1) := by
  unfold State.beginPass
  refine Frame.set_bulk _ id (.inr rfl) (.inl rfl) ?_
  exact Frame.refl _ _

theorem execBulkScrubLine_frame {a0} {a1} {a2} {a3} {a4} {t : State} (h : execBulkScrubLine a0 a1 a2 a3 a4 = .next t) :
    Frame [.free, .out, .uptime, .entries, .bulk, .msix, .health] a4 t := by
  cases h
  dsimp only
  refine Frame.ite ?_ ?_
  · exact Frame.refl _ _
  · refine Frame.ite ?_ ?_
    · refine Frame.step (State.bulkBad_frame ..) rfl ?_
      refine Frame.set_bulk _ id (.inr rfl) (.inl rfl) ?_
      refine Frame.ite ?_ ?_
      · refine Frame.step (State.beginPass_frame ..) rfl ?_
        refine Frame.step (State.at_frame ..) rfl ?_
        exact Frame.refl _ _
      · refine Frame.step (State.at_frame ..) rfl ?_
        exact Frame.refl _ _
    · refine Frame.step (State.bulkShows_frame ..) rfl ?_
      refine Frame.set_bulk _ id (.inr rfl) (.inl rfl) ?_
      refine Frame.ite ?_ ?_
      · refine Frame.step (State.beginPass_frame ..) rfl ?_
        refine Frame.step (State.at_frame ..) rfl ?_
        exact Frame.refl _ _
      · refine Frame.step (State.at_frame ..) rfl ?_
        exact Frame.refl _ _

theorem execBulkLaneRepair_frame {a0} {a1} {a2} {a3} {a4} {t : State} (h : execBulkLaneRepair a0 a1 a2 a3 a4 = .next t) :
    Frame [.free, .out, .entries, .bulk, .msix, .health] a4 t := by
  cases h
  dsimp only
  refine Frame.ite ?_ ?_
  · exact Frame.refl _ _
  · refine Frame.ite ?_ ?_
    · refine Frame.step (State.dbump_frame ..) rfl ?_
      refine Frame.set_bulk _ id (.inr rfl) (.inl rfl) ?_
      exact Frame.refl _ _
    · refine Frame.step (State.channelFails_frame ..) rfl ?_
      exact Frame.refl _ _

theorem execBulkChannelSpareDone_frame {a0} {a1} {a2} {t : State} (h : execBulkChannelSpareDone a0 a1 a2 = .next t) :
    Frame [.free, .out, .uptime, .entries, .bulk, .msix, .health] a2 t := by
  cases h
  split
  · exact Frame.refl _ _
  · refine Frame.ite ?_ ?_
    · exact Frame.refl _ _
    · dsimp only
      refine Frame.step (State.event_frame ..) rfl ?_
      refine Frame.ite ?_ ?_
      · refine Frame.step (State.dset_frame ..) rfl ?_
        refine Frame.step (State.dset_frame ..) rfl ?_
        refine Frame.set_bulk _ id (.inr rfl) (.inl rfl) ?_
        refine Frame.step (State.at_frame ..) rfl ?_
        exact Frame.refl _ _
      · refine Frame.step (State.dset_frame ..) rfl ?_
        refine Frame.set_bulk _ id (.inr rfl) (.inl rfl) ?_
        refine Frame.step (State.at_frame ..) rfl ?_
        exact Frame.refl _ _

theorem execBulkSelfRefreshEntry_frame {a0} {a1} {a2} {t : State} (h : execBulkSelfRefreshEntry a0 a1 a2 = .next t) :
    Frame [.uptime, .entries] a2 t := by
  cases h
  refine Frame.ite ?_ ?_
  · refine Frame.step (State.setDomain_frame ..) rfl ?_
    refine Frame.step (State.at_frame ..) rfl ?_
    exact Frame.refl _ _
  · exact Frame.refl _ _

theorem execBridgeFlitError_frame {a0} {a1} {a2} {a3} {a4} {a5} {t : State} (h : execBridgeFlitError a0 a1 a2 a3 a4 a5 = .next t) :
    Frame [.free, .out, .uptime, .dev, .entries, .ctxEntries, .host, .near, .nearMem, .bulk, .bulkMem, .store, .hif, .rings, .loops, .msix, .pages, .cmds, .steps, .array, .ctxs, .serve, .tru, .links, .kop, .health, .power] a5 t := by
  cases h
  dsimp only
  refine Frame.ite ?_ ?_
  · exact Frame.refl _ _
  · refine Frame.ite ?_ ?_
    · refine Frame.step (State.dbump_frame ..) rfl ?_
      refine Frame.step (State.at_frame ..) rfl ?_
      exact Frame.refl _ _
    · split
      · refine Frame.step (State.replayStep_frame ..) rfl ?_
        refine Frame.step (State.dbump_frame ..) rfl ?_
        refine Frame.step (State.at_frame ..) rfl ?_
        exact Frame.refl _ _
      · refine Frame.ite ?_ ?_
        · refine Frame.step (State.startRecovery_frame ..) rfl ?_
          refine Frame.step (State.dbump_frame ..) rfl ?_
          refine Frame.step (State.at_frame ..) rfl ?_
          exact Frame.refl _ _
        · refine Frame.step (State.dbump_frame ..) rfl ?_
          refine Frame.step (State.at_frame ..) rfl ?_
          exact Frame.refl _ _

end Sys2Proof.Machine
end

