-- ==== Sys2Proof/Laws/Store.lean ====
section
/-! SUPPORT. What the operations of Store can change: one frame each. -/

namespace Sys2Proof.Machine

theorem State.setSlot_frame (a0) (a1) (a2) :
    Frame [.store] a0 (State.setSlot a0 a1 a2) := by
  unfold State.setSlot
  refine Frame.set_store _ id (.inr rfl) (.inl rfl) ?_
  exact Frame.refl _ _

theorem State.touchStore_frame (a0) (a1) :
    Frame [.entries, .store] a0 (State.touchStore a0 a1) := by
  unfold State.touchStore
  refine Frame.step (State.setDomain_frame ..) rfl ?_
  refine Frame.set_store _ id (.inr rfl) (.inl rfl) ?_
  exact Frame.refl _ _

theorem State.takeTurn_frame (a0) (a1) (a2) :
    Frame [.entries, .store, .serve] a0 (State.takeTurn a0 a1 a2) :=
  Frame.set_serve _ rfl (Frame.mono (State.touchStore_frame ..) rfl)

theorem State.storeResult_frame (a0) (a1) (a2) :
    Frame [.entries] a0 (State.storeResult a0 a1 a2) := by
  unfold State.storeResult
  refine Frame.step (State.dset_frame ..) rfl ?_
  exact Frame.refl _ _

theorem State.endOpen_frame (a0) (a1) (a2) :
    Frame [.entries, .store] a0 (State.endOpen a0 a1 a2) := by
  unfold State.endOpen
  refine Frame.step (State.storeResult_frame ..) rfl ?_
  refine Frame.set_store _ id (.inr rfl) (.inl rfl) ?_
  exact Frame.refl _ _

theorem State.setOpened_frame (a0) (a1) :
    Frame [.store] a0 (State.setOpened a0 a1) := by
  unfold State.setOpened
  refine Frame.set_store _ id (.inr rfl) (.inl rfl) ?_
  exact Frame.refl _ _

theorem State.programBlock_frame (a0) (a1) :
    Frame [.free, .out, .entries, .store, .msix, .health] a0 (State.programBlock a0 a1) := by
  unfold State.programBlock
  dsimp only
  refine Frame.ite ?_ ?_
  · refine Frame.step (State.event_frame ..) rfl ?_
    refine Frame.set_store _ id (.inr rfl) (.inl rfl) ?_
    refine Frame.step (State.fresh_frame ..) rfl ?_
    exact Frame.refl _ _
  · refine Frame.ite ?_ ?_
    · refine Frame.step (State.event_frame ..) rfl ?_
      refine Frame.set_store _ id (.inr rfl) (.inl rfl) ?_
      refine Frame.step (State.fresh_frame ..) rfl ?_
      exact Frame.refl _ _
    · refine Frame.set_store _ id (.inr rfl) (.inl rfl) ?_
      refine Frame.step (State.fresh_frame ..) rfl ?_
      exact Frame.refl _ _

theorem State.writeChunk_frame (a0) (a1) (a2) (a3) :
    Frame [.free, .out, .entries, .store, .storeMem, .msix, .health] a0 (State.writeChunk a0 a1 a2 a3) := by
  unfold State.writeChunk
  dsimp only
  refine Frame.step (State.programBlock_frame ..) rfl ?_
  refine Frame.step (State.touchStore_frame ..) rfl ?_
  refine Frame.set_store _ (memWf_memWrites _ _ _) (.inl rfl) (.inl rfl) ?_
  exact Frame.refl _ _

theorem State.chunkCame_frame (a0) (a1) (a2) :
    Frame [.free, .out, .entries, .store, .storeMem, .msix, .health] a0 (State.chunkCame a0 a1 a2).1 := by
  unfold State.chunkCame
  refine Frame.ite_of Prod.fst ?_ ?_
  · refine Frame.step (State.dset_frame ..) rfl ?_
    refine Frame.step (State.endOpen_frame ..) rfl ?_
    exact Frame.refl _ _
  · refine Frame.ite_of Prod.fst ?_ ?_
    · refine Frame.step (State.endOpen_frame ..) rfl ?_
      exact Frame.refl _ _
    · refine Frame.step (State.writeChunk_frame ..) rfl ?_
      refine Frame.step (State.setOpened_frame ..) rfl ?_
      exact Frame.refl _ _

theorem State.feedPart_frame (s : State) (bs : Bytes) :
    Frame [.free, .out, .entries, .store, .storeMem, .msix, .health] s (s.feedPart bs).1 := by
  have bad : ∀ a b, Frame [.free, .out, .entries, .store, .storeMem, .msix, .health] s (s.endOpen a b) :=
    fun _ _ => Frame.mono (State.endOpen_frame ..) rfl
  have put : ∀ o, Frame [.free, .out, .entries, .store, .storeMem, .msix, .health] s (s.setOpened o) :=
    fun _ => Frame.mono (State.setOpened_frame ..) rfl
  unfold State.feedPart
  split
  · exact Frame.refl _ _
  · exact Frame.refl _ _
  · extract_lets take top n h m b
    clear_value take top n h m b
    refine Frame.ite_fst (Frame.ite_fst (put _) (Frame.ite_fst (put _) ?_)) (Frame.ite_fst (put _) (Frame.ite_fst (bad _ _)
      (Frame.ite_fst (put _) ?_)))
    · split
      · exact bad _ _
      · exact put _
    · split
      next e => exact Frame.of_fst (Frame.mono (State.chunkCame_frame ..) rfl) e
      next e => exact Frame.of_fst (Frame.mono (State.chunkCame_frame ..) rfl) e

theorem State.feed_frame (k : Nat) (s : State) (bs : Bytes) :
    Frame [.free, .out, .entries, .store, .storeMem, .msix, .health] s (State.feed k s bs).1 := by
  induction k generalizing s bs with
  | zero => exact Frame.refl _ _
  | succ k ih =>
    unfold State.feed
    split
    next e => exact Frame.of_fst (State.feedPart_frame ..) e
    next e => exact Frame.trans (Frame.of_fst (State.feedPart_frame ..) e) (ih _ _)

theorem State.storeIn_frame (a0) (a1) (a2) :
    Frame [.free, .out, .entries, .store, .storeMem, .msix, .health] a0 (State.storeIn a0 a1 a2).1 := by
  unfold State.storeIn
  refine Frame.ite_of Prod.fst ?_ ?_
  · exact Frame.refl _ _
  · split
    · exact Frame.refl _ _
    · refine Frame.ite_of Prod.fst ?_ ?_
      · refine Frame.step (State.endOpen_frame ..) rfl ?_
        exact Frame.refl _ _
      · refine Frame.step (State.feed_frame ..) rfl ?_
        exact Frame.refl _ _

theorem State.writeStoreOpen_frame (a0) (a1) :
    Frame [.entries, .store] a0 (State.writeStoreOpen a0 a1).1 := by
  unfold State.writeStoreOpen
  refine Frame.ite_of Prod.fst ?_ ?_
  · exact Frame.refl _ _
  · refine Frame.ite_of Prod.fst ?_ ?_
    · refine Frame.step (State.storeResult_frame ..) rfl ?_
      exact Frame.refl _ _
    · refine Frame.ite_of Prod.fst ?_ ?_
      · refine Frame.step (State.storeResult_frame ..) rfl ?_
        exact Frame.refl _ _
      · refine Frame.ite_of Prod.fst ?_ ?_
        · refine Frame.step (State.storeResult_frame ..) rfl ?_
          exact Frame.refl _ _
        · refine Frame.step (State.storeResult_frame ..) rfl ?_
          refine Frame.set_store _ id (.inr rfl) (.inl rfl) ?_
          exact Frame.refl _ _

theorem State.writeStoreCommit_frame (a0) (a1) :
    Frame [.entries, .store] a0 (State.writeStoreCommit a0 a1).1 := by
  unfold State.writeStoreCommit
  refine Frame.ite_of Prod.fst ?_ ?_
  · exact Frame.refl _ _
  · refine Frame.ite_of Prod.fst ?_ ?_
    · refine Frame.step (State.storeResult_frame ..) rfl ?_
      exact Frame.refl _ _
    · split
      · refine Frame.step (State.storeResult_frame ..) rfl ?_
        exact Frame.refl _ _
      · refine Frame.ite_of Prod.fst ?_ ?_
        · refine Frame.step (State.storeResult_frame ..) rfl ?_
          exact Frame.refl _ _
        · refine Frame.ite_of Prod.fst ?_ ?_
          · refine Frame.step (State.dset_frame ..) rfl ?_
            refine Frame.step (State.endOpen_frame ..) rfl ?_
            exact Frame.refl _ _
          · refine Frame.step (State.endOpen_frame ..) rfl ?_
            refine Frame.step (State.setSlot_frame ..) rfl ?_
            exact Frame.refl _ _

theorem State.writeStoreErase_frame (a0) (a1) :
    Frame [.entries, .store] a0 (State.writeStoreErase a0 a1).1 := by
  unfold State.writeStoreErase
  refine Frame.ite_of Prod.fst ?_ ?_
  · exact Frame.refl _ _
  · refine Frame.ite_of Prod.fst ?_ ?_
    · refine Frame.step (State.storeResult_frame ..) rfl ?_
      exact Frame.refl _ _
    · refine Frame.ite_of Prod.fst ?_ ?_
      · refine Frame.step (State.storeResult_frame ..) rfl ?_
        exact Frame.refl _ _
      · refine Frame.step (State.storeResult_frame ..) rfl ?_
        refine Frame.step (State.setSlot_frame ..) rfl ?_
        exact Frame.refl _ _

theorem State.stopService_frame (a0) :
    Frame [.free, .out, .entries, .ctxEntries, .host, .near, .nearMem, .bulk, .bulkMem, .rings, .msix, .pages, .cmds, .steps, .array, .ctxs, .serve, .tru, .links, .health, .power] a0 (State.stopService a0) := by
  unfold State.stopService
  refine Frame.foldl _ (fun _ _ => ?_) ?_
  · dsimp only
    refine Frame.ite ?_ ?_
    · exact Frame.refl _ _
    · split
      · refine Frame.step (State.failEnd_frame ..) rfl ?_
        exact Frame.refl _ _
      · refine Frame.step (State.completeOn_frame ..) rfl ?_
        exact Frame.refl _ _
  · exact Frame.refl _ _

theorem State.writeInstallMode_frame (a0) (a1) :
    Frame [.free, .out, .entries, .ctxEntries, .host, .near, .nearMem, .bulk, .bulkMem, .store, .rings, .msix, .pages, .cmds, .steps, .array, .ctxs, .serve, .tru, .links, .health, .power] a0 (State.writeInstallMode a0 a1).1 := by
  unfold State.writeInstallMode
  refine Frame.ite_of Prod.fst ?_ ?_
  · exact Frame.refl _ _
  · refine Frame.ite_of Prod.fst ?_ ?_
    · dsimp only
      refine Frame.step (State.leaveInstall_frame ..) rfl ?_
      exact Frame.refl _ _
    · dsimp only
      refine Frame.ite ?_ ?_
      · refine Frame.step (State.nextSearch_frame ..) rfl ?_
        refine Frame.step (State.stopService_frame ..) rfl ?_
        refine Frame.step (State.dset_frame ..) rfl ?_
        refine Frame.step (State.dset_frame ..) rfl ?_
        exact Frame.refl _ _
      · refine Frame.step (State.dset_frame ..) rfl ?_
        exact Frame.refl _ _

theorem execInstallModeActive_frame {a0} {t : State} (h : execInstallModeActive a0 = .next t) :
    Frame [.entries] a0 t := by
  cases h
  refine Frame.ite ?_ ?_
  · refine Frame.step (State.dset_frame ..) rfl ?_
    exact Frame.refl _ _
  · exact Frame.refl _ _

theorem State.writeStoreKey_frame (a0) (a1) (a2) :
    Frame [.store] a0 (State.writeStoreKey a0 a1 a2).1 := by
  unfold State.writeStoreKey
  refine Frame.ite_of Prod.fst ?_ ?_
  · exact Frame.refl _ _
  · refine Frame.ite_of Prod.fst ?_ ?_
    · exact Frame.refl _ _
    · refine Frame.set_store _ id (.inr rfl) (.inl rfl) ?_
      exact Frame.refl _ _

theorem State.writeKeyRevoke_frame (a0) (a1) :
    Frame [.store] a0 (State.writeKeyRevoke a0 a1).1 := by
  unfold State.writeKeyRevoke
  refine Frame.ite_of Prod.fst ?_ ?_
  · exact Frame.refl _ _
  · refine Frame.ite_of Prod.fst ?_ ?_
    · exact Frame.refl _ _
    · refine Frame.set_store _ id (.inr rfl) (.inl rfl) ?_
      exact Frame.refl _ _

theorem State.suspectSlot_frame (a0) (a1) (a2) :
    Frame [.free, .out, .entries, .store, .msix, .health] a0 (State.suspectSlot a0 a1 a2) := by
  unfold State.suspectSlot
  refine Frame.step (State.event_frame ..) rfl ?_
  refine Frame.step (State.setSlot_frame ..) rfl ?_
  exact Frame.refl _ _

theorem State.refresh_frame (a0) (a1) (a2) (a3) :
    Frame [.free, .out, .entries, .store, .msix, .health] a0 (State.refresh a0 a1 a2 a3) := by
  unfold State.refresh
  dsimp only
  refine Frame.ite ?_ ?_
  · refine Frame.step (State.programBlock_frame ..) rfl ?_
    refine Frame.set_store _ id (.inr rfl) (.inl rfl) ?_
    exact Frame.refl _ _
  · refine Frame.set_store _ id (.inr rfl) (.inl rfl) ?_
    exact Frame.refl _ _

theorem execStorePatrolChunk_frame {a0} {a1} {a2} {a3} {t : State} (h : execStorePatrolChunk a0 a1 a2 a3 = .next t) :
    Frame [.free, .out, .uptime, .entries, .store, .msix, .health] a3 t := by
  cases h
  dsimp only
  refine Frame.ite ?_ ?_
  · exact Frame.refl _ _
  · refine Frame.ite ?_ ?_
    · refine Frame.step (State.refresh_frame ..) rfl ?_
      refine Frame.step (State.touchStore_frame ..) rfl ?_
      refine Frame.step (State.at_frame ..) rfl ?_
      exact Frame.refl _ _
    · refine Frame.step (State.suspectSlot_frame ..) rfl ?_
      refine Frame.step (State.refresh_frame ..) rfl ?_
      refine Frame.step (State.touchStore_frame ..) rfl ?_
      refine Frame.step (State.at_frame ..) rfl ?_
      exact Frame.refl _ _

theorem execStoreChannelIdleOff_frame {a0} {a1} {a2} {t : State} (h : execStoreChannelIdleOff a0 a1 a2 = .next t) :
    Frame [.uptime, .entries] a2 t := by
  cases h
  refine Frame.ite ?_ ?_
  · refine Frame.step (State.setDomain_frame ..) rfl ?_
    refine Frame.step (State.at_frame ..) rfl ?_
    exact Frame.refl _ _
  · exact Frame.refl _ _

theorem State.freeBytes_frame (a0) (a1) :
    Frame [.free] a0 (State.freeBytes a0 a1).2 := by
  unfold State.freeBytes
  refine Frame.set_free _ rfl ?_
  exact Frame.refl _ _

theorem State.undefinePlace_frame (a0) (a1) (a2) :
    Frame [.host, .near, .bulk] a0 (State.undefinePlace a0 a1 a2) := by
  unfold State.undefinePlace
  split
  · refine Frame.set_near _ id (.inr rfl) (.inl rfl) ?_
    exact Frame.refl _ _
  · refine Frame.set_bulk _ id (.inr rfl) (.inl rfl) ?_
    exact Frame.refl _ _
  · refine Frame.set_hostUncommitted _ rfl ?_
    exact Frame.refl _ _
  · exact Frame.refl _ _

theorem State.undefine_frame (a0) (a1) (a2) (a3) (a4) :
    Frame [.host, .near, .bulk] a0 (State.undefine a0 a1 a2 a3 a4) := by
  unfold State.undefine
  refine Frame.foldl _ (fun _ _ => ?_) ?_
  · split
    · refine Frame.step (State.undefinePlace_frame ..) rfl ?_
      exact Frame.refl _ _
    · exact Frame.refl _ _
  · exact Frame.refl _ _

theorem State.undefineSection_frame (a0) (a1) (a2) (a3) :
    Frame [.host, .near, .bulk] a0 (State.undefineSection a0 a1 a2 a3) := by
  unfold State.undefineSection
  dsimp only
  split
  · refine Frame.step (State.undefine_frame ..) rfl ?_
    refine Frame.step (State.undefine_frame ..) rfl ?_
    exact Frame.refl _ _
  · refine Frame.step (State.undefine_frame ..) rfl ?_
    exact Frame.refl _ _

theorem State.define_frame (a0) (a1) :
    Frame [.host, .near, .bulk] a0 (State.define a0 a1) := by
  unfold State.define
  refine Frame.set_hostUncommitted_near_bulk _ _ _ rfl id (.inr rfl) (.inl rfl) id (.inr rfl) (.inl rfl) ?_
  exact Frame.refl _ _

theorem State.refuseBind_frame (a0) (a1) (a2) :
    Frame [.free, .out, .entries, .ctxEntries, .host, .near, .nearMem, .bulk, .bulkMem, .rings, .msix, .pages, .cmds, .steps, .array, .ctxs, .health, .power] a0 (State.refuseBind a0 a1 a2) := by
  unfold State.refuseBind
  dsimp only
  refine Frame.step (State.completeOn_frame ..) rfl ?_
  refine Frame.step (State.noteFail_frame ..) rfl ?_
  refine Frame.ite ?_ ?_
  · refine Frame.step (State.clearWritten_frame ..) rfl ?_
    refine Frame.foldl _ (fun _ _ => ?_) ?_
    · refine Frame.step (State.undefineSection_frame ..) rfl ?_
      exact Frame.refl _ _
    · exact Frame.refl _ _
  · exact Frame.refl _ _

theorem State.underGrant_frame {g : List Zone} {s : State} {c : Cmd} {pooled : Bool} {go : Cmd → State}
    (sub : [Zone.free, .entries, .ctxEntries, .bulk, .cmds, .steps, .array, .ctxs].all g.contains = true)
    (k : ∀ c, Frame g s (go c)) : Frame g s (s.underGrant c pooled go) :=
  Frame.ite (Frame.mono (State.awaitGrant_frame ..) sub) (k _)

theorem execBindModel_frame {a0} {a1} {t : State} (h : execBindModel a0 a1 = .next t) :
    Frame [.free, .out, .entries, .ctxEntries, .host, .near, .nearMem, .bulk, .bulkMem, .rings, .msix, .pages, .cmds, .steps, .array, .ctxs, .serve, .health, .power] a1 t := by
  cases h
  split
  · exact Frame.refl _ _
  · split
    · refine Frame.step (State.refuseBind_frame ..) rfl ?_
      refine Frame.step (State.accessed_frame ..) rfl ?_
      exact Frame.refl _ _
    · dsimp only
      refine State.underGrant_frame rfl fun _ => ?_
      · refine Frame.foldl _ (fun _ _ => ?_) ?_
        · refine Frame.step (State.undefineSection_frame ..) rfl ?_
          exact Frame.refl _ _
        · refine Frame.step (State.stage_frame ..) rfl ?_
          refine Frame.step (State.accessed_frame ..) rfl ?_
          refine Frame.set_serve _ rfl ?_
          refine Frame.step (State.setBinding_frame ..) rfl ?_
          exact Frame.refl _ _

theorem State.endBind_frame (a0) (a1) (a2) (a3) :
    Frame [.free, .out, .entries, .ctxEntries, .host, .near, .nearMem, .bulk, .bulkMem, .rings, .msix, .pages, .cmds, .steps, .array, .ctxs, .serve, .health, .power] a0 (State.endBind a0 a1 a2 a3) := by
  unfold State.endBind
  dsimp only
  split
  · refine Frame.step (State.completeOn_frame ..) rfl ?_
    split
    · refine Frame.ite ?_ ?_
      · refine Frame.step (State.setBinding_frame ..) rfl ?_
        refine Frame.ite ?_ ?_
        · refine Frame.step (State.define_frame ..) rfl ?_
          refine Frame.step (State.leaveBinds_frame ..) rfl ?_
          exact Frame.refl _ _
        · refine Frame.step (State.clearWritten_frame ..) rfl ?_
          refine Frame.step (State.leaveBinds_frame ..) rfl ?_
          exact Frame.refl _ _
      · refine Frame.set_serve _ rfl ?_
        refine Frame.ite ?_ ?_
        · refine Frame.step (State.define_frame ..) rfl ?_
          refine Frame.step (State.leaveBinds_frame ..) rfl ?_
          exact Frame.refl _ _
        · refine Frame.step (State.clearWritten_frame ..) rfl ?_
          refine Frame.step (State.leaveBinds_frame ..) rfl ?_
          exact Frame.refl _ _
    · refine Frame.ite ?_ ?_
      · refine Frame.step (State.define_frame ..) rfl ?_
        refine Frame.step (State.leaveBinds_frame ..) rfl ?_
        exact Frame.refl _ _
      · refine Frame.step (State.clearWritten_frame ..) rfl ?_
        refine Frame.step (State.leaveBinds_frame ..) rfl ?_
        exact Frame.refl _ _
  · split
    · refine Frame.ite ?_ ?_
      · refine Frame.step (State.setBinding_frame ..) rfl ?_
        refine Frame.ite ?_ ?_
        · refine Frame.step (State.define_frame ..) rfl ?_
          refine Frame.step (State.leaveBinds_frame ..) rfl ?_
          exact Frame.refl _ _
        · refine Frame.step (State.clearWritten_frame ..) rfl ?_
          refine Frame.step (State.leaveBinds_frame ..) rfl ?_
          exact Frame.refl _ _
      · refine Frame.set_serve _ rfl ?_
        refine Frame.ite ?_ ?_
        · refine Frame.step (State.define_frame ..) rfl ?_
          refine Frame.step (State.leaveBinds_frame ..) rfl ?_
          exact Frame.refl _ _
        · refine Frame.step (State.clearWritten_frame ..) rfl ?_
          refine Frame.step (State.leaveBinds_frame ..) rfl ?_
          exact Frame.refl _ _
    · refine Frame.ite ?_ ?_
      · refine Frame.step (State.define_frame ..) rfl ?_
        refine Frame.step (State.leaveBinds_frame ..) rfl ?_
        exact Frame.refl _ _
      · refine Frame.step (State.clearWritten_frame ..) rfl ?_
        refine Frame.step (State.leaveBinds_frame ..) rfl ?_
        exact Frame.refl _ _

theorem State.bindWrite_frame (a0) (a1) (a2) (a3) :
    Frame [.entries, .host, .near, .nearMem, .bulk, .bulkMem, .power] a0 (State.bindWrite a0 a1 a2 a3).1 := by
  unfold State.bindWrite
  dsimp only
  refine Frame.step (State.undefine_frame ..) rfl ?_
  refine Frame.step (State.writes_frame ..) rfl ?_
  exact Frame.refl _ _

theorem State.bindParts_frame (s : State) (r : BindRun) (es n) (xs : List BindSection) :
    Frame [.entries, .host, .near, .nearMem, .bulk, .bulkMem, .power] s (s.bindParts r es n xs).1 := by
  induction xs generalizing s with
  | nil => exact Frame.refl _ _
  | cons x xs ih =>
    unfold State.bindParts
    dsimp only
    split
    next e => exact Frame.of_fst (State.bindWrite_frame ..) e
    next e => exact Frame.trans (Frame.of_fst (State.bindWrite_frame ..) e) (ih _)

theorem State.setBindRun_frame (a0) (a1) :
    Frame [.serve] a0 (State.setBindRun a0 a1) := by
  unfold State.setBindRun
  refine Frame.set_serve _ rfl ?_
  exact Frame.refl _ _

theorem State.bindStop_frame (a0) (a1) (a2) :
    Frame [.free, .ctxEntries] a0 (State.bindStop a0 a1 a2).1 := by
  unfold State.bindStop
  refine Frame.ite_of Prod.fst ?_ ?_
  · dsimp only
    refine Frame.step (State.noteDamage_frame ..) rfl ?_
    exact Frame.refl _ _
  · exact Frame.refl _ _

/-- The fault with which a bind stops, where it has one, is recorded. -/
theorem State.noteStop_frame (s : State) (c : Nat) (m : Option Miss) :
    Frame [.free, .out, .entries, .ctxEntries] s ((m.map (s.noteMiss c ·)).getD s) := by
  cases m with
  | none => exact Frame.refl _ _
  | some m => exact Frame.mono (State.noteMiss_frame ..) rfl

theorem State.copyParts_frame (s : State) (r : BindRun) (n : Nat) (xs : List BindSection) :
    Frame [.free, .entries, .ctxEntries, .host, .near, .nearMem, .bulk, .bulkMem, .power] s (s.copyParts r n xs).1 := by
  induction xs generalizing s with
  | nil => exact Frame.refl _ _
  | cons x xs ih =>
    unfold State.copyParts
    split
    · exact ih _
    · dsimp only
      split
      · exact Frame.step (State.noteDamage_frame ..) rfl (Frame.mono (State.accessed_frame ..) rfl)
      · exact Frame.mono (State.accessed_frame ..) rfl
      · split
        next e =>
          exact Frame.step (State.bindStop_frame ..) rfl
            (Frame.of_fst (Frame.step (State.bindWrite_frame ..) rfl (Frame.mono (State.accessed_frame ..) rfl)) e)
        next e =>
          exact Frame.trans (Frame.of_fst (Frame.step (State.bindWrite_frame ..) rfl (Frame.mono (State.accessed_frame ..) rfl)) e) (ih _)

theorem State.copyChunks_frame (s : State) (r : BindRun) (ns : List Nat) :
    Frame [.free, .out, .entries, .ctxEntries, .host, .near, .nearMem, .bulk, .bulkMem, .rings, .msix, .pages, .cmds, .steps, .array, .ctxs, .serve, .health, .power] s (s.copyChunks r ns).1 := by
  induction ns generalizing s r with
  | nil => exact Frame.refl _ _
  | cons n ns ih =>
    unfold State.copyChunks
    refine Frame.ite_of Prod.fst (ih _ _) ?_
    split
    next st v m e =>
      have h := Frame.mono (g := [.free, .out, .entries, .ctxEntries, .host, .near, .nearMem, .bulk, .bulkMem, .rings, .msix, .pages, .cmds, .steps, .array, .ctxs, .serve, .health, .power]) (Frame.of_fst (State.copyParts_frame ..) e) rfl
      exact Frame.step (State.endBind_frame ..) rfl (Frame.step (State.noteStop_frame ..) rfl h)
    next e =>
      refine Frame.trans ?_ (ih _ _)
      exact Frame.step (State.setBindRun_frame ..) rfl (Frame.mono (Frame.of_fst (State.copyParts_frame ..) e) rfl)

theorem execBindChunk_frame {a0} {a1} {a2} {a3} {t : State} (h : execBindChunk a0 a1 a2 a3 = .next t) :
    Frame [.free, .out, .uptime, .entries, .ctxEntries, .host, .near, .nearMem, .bulk, .bulkMem, .store, .rings, .msix, .pages, .cmds, .steps, .array, .ctxs, .serve, .health, .power] a3 t := by
  cases h
  split
  · exact Frame.refl _ _
  · refine Frame.ite (Frame.refl _ _) ?_
    split
    next e => exact Frame.of_fst (Frame.step (State.copyChunks_frame ..) rfl (Frame.mono (State.at_frame ..) rfl)) e
    next s1 e =>
      have h1 : Frame [.free, .out, .uptime, .entries, .ctxEntries, .host, .near, .nearMem, .bulk, .bulkMem, .store, .rings, .msix, .pages, .cmds, .steps, .array, .ctxs, .serve, .health, .power] a3 s1 :=
        Frame.of_fst (Frame.step (State.copyChunks_frame ..) rfl (Frame.mono (State.at_frame ..) rfl)) e
      extract_lets v s3
      have h3 : Frame [.free, .out, .uptime, .entries, .ctxEntries, .host, .near, .nearMem, .bulk, .bulkMem, .store, .rings, .msix, .pages, .cmds, .steps, .array, .ctxs, .serve, .health, .power] a3 s3 :=
        Frame.step (State.takeTurn_frame ..) rfl h1
      clear_value s3
      refine Frame.ite (Frame.step (State.endBind_frame ..) rfl (Frame.step (State.suspectSlot_frame ..) rfl h3)) ?_
      split
      next e =>
        have h4 := Frame.step (Frame.of_fst (State.bindParts_frame ..) e) rfl h3
        split
        next e => exact Frame.step (State.endBind_frame ..) rfl (Frame.step (State.noteStop_frame ..) rfl
          (Frame.step (Frame.of_fst (State.bindStop_frame ..) e) rfl h4))
        next e => exact Frame.step (Frame.of_fst (State.bindStop_frame ..) e) rfl h4
      next e _ => exact Frame.step (State.setBindRun_frame ..) rfl (Frame.step (Frame.of_fst (State.bindParts_frame ..) e) rfl h3)
      next e _ => exact Frame.step (Frame.of_fst (State.bindParts_frame ..) e) rfl h3

theorem execBindComplete_frame {a0} {a1} {a2} {t : State} (h : execBindComplete a0 a1 a2 = .next t) :
    Frame [.free, .out, .uptime, .entries, .ctxEntries, .host, .near, .nearMem, .bulk, .bulkMem, .rings, .msix, .pages, .cmds, .steps, .array, .ctxs, .serve, .health, .power] a2 t := by
  cases h
  split
  · exact Frame.refl _ _
  · refine Frame.ite ?_ ?_
    · exact Frame.refl _ _
    · split
      · refine Frame.step (Frame.of_fst (State.copyChunks_frame ..) (by assumption)) rfl ?_
        refine Frame.step (State.at_frame ..) rfl ?_
        exact Frame.refl _ _
      · refine Frame.ite ?_ ?_
        · refine Frame.step (Frame.of_fst (State.copyChunks_frame ..) (by assumption)) rfl ?_
          refine Frame.step (State.at_frame ..) rfl ?_
          exact Frame.refl _ _
        · refine Frame.step (State.endBind_frame ..) rfl ?_
          refine Frame.step (Frame.of_fst (State.copyChunks_frame ..) (by assumption)) rfl ?_
          refine Frame.step (State.at_frame ..) rfl ?_
          exact Frame.refl _ _

end Sys2Proof.Machine
end

