-- ==== Sys2Proof/Laws/Copy.lean ====
section
/-! SUPPORT. What the operations of Copy can change: one frame each. -/

namespace Sys2Proof.Machine

theorem State.undefinedTail_frame (s : State) (c src dst i n : Nat) :
    Frame [.free, .entries, .host, .near, .nearMem, .bulk, .bulkMem, .power] s (s.undefinedTail c src dst i n) := by
  induction n generalizing s i with
  | zero => exact Frame.refl _ _
  | succ n ih =>
    unfold State.undefinedTail
    extract_lets hurt s1
    refine Frame.trans ?_ (ih _ _)
    exact Frame.ite (Frame.refl _ _) (Frame.step (State.writes_frame ..) rfl (Frame.mono (State.fresh_frame ..) rfl))

theorem State.sendParts_frame (s : State) (c dst : Nat) (bs : Bytes) (ps : List (Nat × Nat)) :
    Frame [.free, .ctxEntries, .links] s (s.sendParts c dst bs ps).1 := by
  induction ps generalizing s with
  | nil => exact Frame.refl _ _
  | cons p ps ih =>
    unfold State.sendParts
    have h := State.remoteWrite_frame s c (remoteOf p.1).1 (remoteOf p.1).2 (slice bs (p.1 - dst) p.2)
    dsimp only
    exact Frame.ite_fst (Frame.trans h (ih _)) h

theorem State.putBytes_frame (a0) (a1) (a2) (a3) :
    Frame [.free, .entries, .ctxEntries, .host, .near, .nearMem, .bulk, .bulkMem, .links, .health, .power] a0 (State.putBytes a0 a1 a2 a3).1 := by
  unfold State.putBytes
  dsimp only
  split
  · dsimp only
    split
    · dsimp only
      refine Frame.step (Frame.of_fst (State.writeFrom_frame ..) (by assumption)) rfl ?_
      refine Frame.step (State.pathEvents_frame ..) rfl ?_
      refine Frame.ite_of Prod.snd ?_ ?_
      · refine Frame.step (State.freeBytes_frame ..) rfl ?_
        exact Frame.refl _ _
      · exact Frame.refl _ _
    · dsimp only
      refine Frame.step (State.sendParts_frame ..) rfl ?_
      refine Frame.step (Frame.of_fst (State.writeFrom_frame ..) (by assumption)) rfl ?_
      refine Frame.step (State.pathEvents_frame ..) rfl ?_
      refine Frame.ite_of Prod.snd ?_ ?_
      · refine Frame.step (State.freeBytes_frame ..) rfl ?_
        exact Frame.refl _ _
      · exact Frame.refl _ _
  · dsimp only
    refine Frame.step (State.undefinedTail_frame ..) rfl ?_
    split
    · dsimp only
      refine Frame.step (Frame.of_fst (State.writeFrom_frame ..) (by assumption)) rfl ?_
      refine Frame.step (State.pathEvents_frame ..) rfl ?_
      refine Frame.ite_of Prod.snd ?_ ?_
      · refine Frame.step (State.freeBytes_frame ..) rfl ?_
        exact Frame.refl _ _
      · exact Frame.refl _ _
    · dsimp only
      refine Frame.step (State.sendParts_frame ..) rfl ?_
      refine Frame.step (Frame.of_fst (State.writeFrom_frame ..) (by assumption)) rfl ?_
      refine Frame.step (State.pathEvents_frame ..) rfl ?_
      refine Frame.ite_of Prod.snd ?_ ?_
      · refine Frame.step (State.freeBytes_frame ..) rfl ?_
        exact Frame.refl _ _
      · exact Frame.refl _ _

theorem State.putStore_frame (a0) (a1) (a2) (a3) :
    Frame [.free, .out, .entries, .store, .storeMem, .msix, .health] a0 (State.putStore a0 a1 a2 a3).1 := by
  unfold State.putStore
  extract_lets
  split
  · split
    · refine Frame.step (Frame.of_fst (State.storeIn_frame ..) (by assumption)) rfl ?_
      exact Frame.refl _ _
    · refine Frame.step (Frame.of_fst (State.storeIn_frame ..) (by assumption)) rfl ?_
      exact Frame.refl _ _

theorem State.endCopy_frame (a0) (a1) (a2) :
    Frame [.free, .out, .entries, .ctxEntries, .host, .near, .nearMem, .bulk, .bulkMem, .rings, .msix, .pages, .cmds, .steps, .array, .ctxs, .health, .power] a0 (State.endCopy a0 a1 a2) := by
  unfold State.endCopy
  dsimp only
  split
  · refine Frame.step (State.completeOn_frame ..) rfl ?_
    split
    · split
      · refine Frame.ite ?_ ?_
        · refine Frame.step (State.noteDamage_frame ..) rfl ?_
          refine Frame.set_ctxs _ rfl ?_
          exact Frame.refl _ _
        · refine Frame.step (State.noteMiss_frame ..) rfl ?_
          refine Frame.set_ctxs _ rfl ?_
          exact Frame.refl _ _
      · refine Frame.ite ?_ ?_
        · refine Frame.step (State.noteDamage_frame ..) rfl ?_
          refine Frame.set_ctxs _ rfl ?_
          exact Frame.refl _ _
        · refine Frame.set_ctxs _ rfl ?_
          exact Frame.refl _ _
    · refine Frame.set_ctxs _ rfl ?_
      exact Frame.refl _ _
  · refine Frame.step (State.completeOn_frame ..) rfl ?_
    split
    · split
      · refine Frame.ite ?_ ?_
        · refine Frame.step (State.noteDamage_frame ..) rfl ?_
          refine Frame.set_ctxs _ rfl ?_
          exact Frame.refl _ _
        · refine Frame.step (State.noteMiss_frame ..) rfl ?_
          refine Frame.set_ctxs _ rfl ?_
          exact Frame.refl _ _
      · refine Frame.ite ?_ ?_
        · refine Frame.step (State.noteDamage_frame ..) rfl ?_
          refine Frame.set_ctxs _ rfl ?_
          exact Frame.refl _ _
        · refine Frame.set_ctxs _ rfl ?_
          exact Frame.refl _ _
    · refine Frame.set_ctxs _ rfl ?_
      exact Frame.refl _ _

theorem State.setCopy_frame (a0) (a1) :
    Frame [.ctxs] a0 (State.setCopy a0 a1) := by
  unfold State.setCopy
  refine Frame.set_ctxs _ rfl ?_
  exact Frame.refl _ _

theorem State.copyOut_frame (a0) (a1) (a2) :
    Frame [.free, .out, .entries, .ctxEntries, .host, .near, .nearMem, .bulk, .bulkMem, .store, .storeMem, .rings, .msix, .pages, .cmds, .steps, .array, .ctxs, .links, .health, .power] a0 (State.copyOut a0 a1 a2) := by
  unfold State.copyOut
  dsimp only
  refine Frame.ite ?_ ?_
  · refine Frame.step (State.endCopy_frame ..) rfl ?_
    refine Frame.step (State.putStore_frame ..) rfl ?_
    refine Frame.step (State.pathEvents_frame ..) rfl ?_
    refine Frame.step (State.accessed_frame ..) rfl ?_
    exact Frame.refl _ _
  · refine Frame.ite ?_ ?_
    · refine Frame.step (State.endCopy_frame ..) rfl ?_
      refine Frame.step (State.putBytes_frame ..) rfl ?_
      refine Frame.step (State.pathEvents_frame ..) rfl ?_
      refine Frame.step (State.accessed_frame ..) rfl ?_
      exact Frame.refl _ _
    · refine Frame.step (State.flushPorts_frame ..) rfl ?_
      refine Frame.step (State.setCopy_frame ..) rfl ?_
      refine Frame.step (State.putBytes_frame ..) rfl ?_
      refine Frame.step (State.pathEvents_frame ..) rfl ?_
      refine Frame.step (State.accessed_frame ..) rfl ?_
      exact Frame.refl _ _

theorem State.copyGoesOn_frame (a0) (a1) :
    Frame [.free, .out, .entries, .ctxEntries, .host, .near, .nearMem, .bulk, .bulkMem, .store, .storeMem, .rings, .msix, .pages, .cmds, .steps, .array, .ctxs, .links, .health, .power] a0 (State.copyGoesOn a0 a1) := by
  unfold State.copyGoesOn
  split
  · refine Frame.ite ?_ ?_
    · exact Frame.refl _ _
    · split
      · refine Frame.ite ?_ ?_
        · exact Frame.refl _ _
        · refine Frame.step (State.copyOut_frame ..) rfl ?_
          exact Frame.refl _ _
      · refine Frame.step (State.endCopy_frame ..) rfl ?_
        exact Frame.refl _ _
  · exact Frame.refl _ _

theorem State.askParts_frame (s : State) (c id src : Nat) (ps : List (Nat × Nat)) :
    Frame [.free, .ctxEntries, .links] s (s.askParts c id src ps).1 := by
  induction ps generalizing s with
  | nil => exact Frame.refl _ _
  | cons p ps ih =>
    unfold State.askParts
    have h := State.remoteRead_frame s c (remoteOf p.1).1 (remoteOf p.1).2 p.2 (fun rel => .copyRead id (p.1 - src + rel))
    dsimp only
    exact Frame.ite_fst (Frame.trans h (ih _)) h

theorem State.beginCopy_frame (a0) (a1) :
    Frame [.free, .out, .entries, .ctxEntries, .host, .near, .nearMem, .bulk, .bulkMem, .store, .storeMem, .rings, .msix, .pages, .cmds, .steps, .array, .ctxs, .links, .health, .power] a0 (State.beginCopy a0 a1) := by
  unfold State.beginCopy
  split
  dsimp only
  refine Frame.step (State.copyGoesOn_frame ..) rfl ?_
  refine Frame.step (State.stage_frame ..) rfl ?_
  refine Frame.set_ctxs _ rfl ?_
  refine Frame.step (Frame.of_fst (State.askParts_frame ..) (by assumption)) rfl ?_
  exact Frame.refl _ _

theorem execCopy_frame {a0} {a1} {t : State} (h : execCopy a0 a1 = .next t) :
    Frame [.free, .out, .entries, .ctxEntries, .host, .near, .nearMem, .bulk, .bulkMem, .store, .storeMem, .rings, .msix, .pages, .cmds, .steps, .array, .ctxs, .links, .health, .power] a1 t := by
  cases h
  split
  · refine Frame.step (State.copyGoesOn_frame ..) rfl ?_
    exact Frame.refl _ _
  · dsimp only
    refine Frame.ite ?_ ?_
    · refine Frame.step (State.complete_frame ..) rfl ?_
      refine Frame.step (State.fresh_frame ..) rfl ?_
      exact Frame.refl _ _
    · exact State.underGrant_frame rfl fun _ => Frame.mono (State.beginCopy_frame ..) rfl

end Sys2Proof.Machine
end

