-- ==== Sys2Proof/Laws/Profiles.lean ====
section
/-! SUPPORT. What the operations of Profiles can change: one frame each. -/

namespace Sys2Proof.Machine

theorem State.writeCopy_frame (a0) (a1) (a2) (a3) :
    Frame [.free, .entries, .kop] a0 (State.writeCopy a0 a1 a2 a3) := by
  unfold State.writeCopy
  refine Frame.step (State.dbump_frame ..) rfl ?_
  refine Frame.set_kop _ rfl ?_
  exact Frame.refl _ _

theorem State.writeSlot_frame (a0) (a1) (a2) :
    Frame [.free, .entries, .kop] a0 (State.writeSlot a0 a1 a2) := by
  unfold State.writeSlot
  refine Frame.ite ?_ ?_
  · dsimp only
    refine Frame.ite ?_ ?_
    · refine Frame.step (State.writeCopy_frame ..) rfl ?_
      refine Frame.step (State.writeCopy_frame ..) rfl ?_
      exact Frame.refl _ _
    · refine Frame.step (State.writeCopy_frame ..) rfl ?_
      exact Frame.refl _ _
  · refine Frame.step (State.writeCopy_frame ..) rfl ?_
    exact Frame.refl _ _

theorem State.repairSlot_frame (a0) (a1) :
    Frame [.free, .entries, .kop] a0 (State.repairSlot a0 a1) := by
  unfold State.repairSlot
  split
  · exact Frame.refl _ _
  · refine Frame.ite ?_ ?_
    · refine Frame.step (State.writeCopy_frame ..) rfl ?_
      exact Frame.refl _ _
    · exact Frame.refl _ _

theorem State.profileLog_frame (a0) (a1) (a2) (a3) (a4) :
    Frame [.entries, .kop] a0 (State.profileLog a0 a1 a2 a3 a4) := by
  unfold State.profileLog
  refine Frame.step (State.dset_frame ..) rfl ?_
  refine Frame.step (State.dset_frame ..) rfl ?_
  refine Frame.set_kop _ rfl ?_
  exact Frame.refl _ _

theorem State.setValue_frame (a0) (a1) (a2) (a3) :
    Frame [.entries] a0 (State.setValue a0 a1 a2 a3) := by
  unfold State.setValue
  refine Frame.foldl _ (fun _ _ => ?_) ?_
  · refine Frame.step (State.dset_frame ..) rfl ?_
    exact Frame.refl _ _
  · exact Frame.refl _ _

theorem State.setDefault_frame (a0) (a1) (a2) :
    Frame [.entries] a0 (State.setDefault a0 a1 a2) := by
  unfold State.setDefault
  refine Frame.foldl _ (fun _ _ => ?_) ?_
  · refine Frame.step (State.dset_frame ..) rfl ?_
    exact Frame.refl _ _
  · exact Frame.refl _ _

theorem State.applyProfile_frame (a0) (a1) :
    Frame [.entries] a0 (State.applyProfile a0 a1) := by
  unfold State.applyProfile
  refine Frame.foldl _ (fun _ _ => ?_) ?_
  · split
    · refine Frame.step (State.setValue_frame ..) rfl ?_
      exact Frame.refl _ _
    · refine Frame.step (State.setDefault_frame ..) rfl ?_
      exact Frame.refl _ _
  · exact Frame.refl _ _

theorem State.loaded_frame (a0) (a1) (a2) (a3) :
    Frame [.free, .out, .entries, .msix, .health] a0 (State.loaded a0 a1 a2 a3) := by
  unfold State.loaded
  refine Frame.ite ?_ ?_
  · refine Frame.step (State.dset_frame ..) rfl ?_
    refine Frame.ite ?_ ?_
    · refine Frame.step (State.dset_frame ..) rfl ?_
      refine Frame.step (State.dset_frame ..) rfl ?_
      refine Frame.step (State.dset_frame ..) rfl ?_
      refine Frame.step (State.dset_frame ..) rfl ?_
      refine Frame.step (State.applyProfile_frame ..) rfl ?_
      exact Frame.refl _ _
    · refine Frame.step (State.dset_frame ..) rfl ?_
      refine Frame.step (State.dset_frame ..) rfl ?_
      refine Frame.step (State.dset_frame ..) rfl ?_
      refine Frame.step (State.applyProfile_frame ..) rfl ?_
      exact Frame.refl _ _
  · refine Frame.step (State.event_frame ..) rfl ?_
    refine Frame.step (State.dset_frame ..) rfl ?_
    refine Frame.ite ?_ ?_
    · refine Frame.step (State.dset_frame ..) rfl ?_
      refine Frame.step (State.dset_frame ..) rfl ?_
      refine Frame.step (State.dset_frame ..) rfl ?_
      refine Frame.step (State.dset_frame ..) rfl ?_
      refine Frame.step (State.applyProfile_frame ..) rfl ?_
      exact Frame.refl _ _
    · refine Frame.step (State.dset_frame ..) rfl ?_
      refine Frame.step (State.dset_frame ..) rfl ?_
      refine Frame.step (State.dset_frame ..) rfl ?_
      refine Frame.step (State.applyProfile_frame ..) rfl ?_
      exact Frame.refl _ _

theorem State.loadFailed_frame (a0) (a1) (a2) (a3) (a4) :
    Frame [.free, .out, .entries, .msix, .kop, .health] a0 (State.loadFailed a0 a1 a2 a3 a4) := by
  unfold State.loadFailed
  dsimp only
  refine Frame.step (State.event_frame ..) rfl ?_
  refine Frame.step (State.profileLog_frame ..) rfl ?_
  exact Frame.refl _ _

theorem State.trySlot_frame (s : State) (requested slot : Nat) :
    Frame [.free, .out, .entries, .msix, .kop, .health] s (s.trySlot requested slot).1 := by
  have hl : ∀ (s : State) (slot : Nat) (r : ProfileRead),
      Frame [.free, .out, .entries, .msix, .kop, .health] s (s.loaded requested slot r) := fun s slot r =>
    Frame.mono (State.loaded_frame s requested slot r) rfl
  have he : ∀ (s : State) (slot copy : Nat) (b : ProfileBad) (d : Nat),
      Frame [.free, .out, .entries, .msix, .kop, .health] s ((s.profileLog requested slot copy b).event 7 1 slot d) :=
    fun s slot copy b d =>
      Frame.step (State.event_frame ..) rfl (Frame.mono (State.profileLog_frame s requested slot copy b) rfl)
  have h1 : Frame [.free, .out, .entries, .msix, .kop, .health] s (s.repairSlot slot) :=
    Frame.mono (State.repairSlot_frame s slot) rfl
  unfold State.trySlot
  extract_lets s1
  replace h1 : Frame [.free, .out, .entries, .msix, .kop, .health] s s1 := h1
  clear_value s1
  split
  · exact Frame.trans h1 (hl s1 slot _)
  · exact Frame.trans h1 (he s1 slot _ _ _)

theorem State.tryLoad_frame (s : State) (requested : Nat) (slots : List Nat) :
    Frame [.free, .out, .entries, .msix, .kop, .health] s (s.tryLoad requested slots) := by
  have hl : ∀ (s : State) (slot : Nat) (r : ProfileRead),
      Frame [.free, .out, .entries, .msix, .kop, .health] s (s.loaded requested slot r) := fun s slot r =>
    Frame.mono (State.loaded_frame s requested slot r) rfl
  induction slots generalizing s with
  | nil => rw [State.tryLoad]; exact hl s 0xFF {}
  | cons slot rest ih =>
    rw [State.tryLoad]
    exact Frame.ite (Frame.ite (Frame.trans (State.loadFailed_frame ..) (ih _)) (hl s 0x0F {})) (Frame.ite (State.trySlot_frame ..) (Frame.trans (State.trySlot_frame ..) (ih _)))

theorem State.requestSlot_frame (a0) (a1) :
    Frame [.entries] a0 (State.requestSlot a0 a1).2 := by
  unfold State.requestSlot
  refine Frame.step (State.dset_frame ..) rfl ?_
  refine Frame.step (State.dset_frame ..) rfl ?_
  exact Frame.refl _ _

theorem State.loadProfile_frame (a0) (a1) :
    Frame [.free, .out, .cdu, .entries, .msix, .kop, .health] a0 (State.loadProfile a0 a1) := by
  unfold State.loadProfile
  split
  dsimp only
  refine Frame.set_kop _ rfl ?_
  refine Frame.step (State.settleSlice_frame ..) rfl ?_
  refine Frame.step (State.cduLoad_frame ..) rfl ?_
  refine Frame.step (State.dset_frame ..) rfl ?_
  refine Frame.foldl _ (fun _ _ => ?_) ?_
  · refine Frame.step (State.dset_frame ..) rfl ?_
    exact Frame.refl _ _
  · refine Frame.step (State.tryLoad_frame ..) rfl ?_
    refine Frame.step (Frame.of_snd (State.requestSlot_frame ..) (by assumption)) rfl ?_
    exact Frame.refl _ _

theorem State.beginSave_frame (a0) (a1) (a2) :
    Frame [.entries, .kop] a0 (State.beginSave a0 a1 a2) := by
  unfold State.beginSave
  refine Frame.step (State.dset_frame ..) rfl ?_
  refine Frame.set_kop _ rfl ?_
  exact Frame.refl _ _

theorem State.writeProfileSave_frame (a0) (a1) :
    Frame [.entries, .kop] a0 (State.writeProfileSave a0 a1).1 := by
  unfold State.writeProfileSave
  split
  · refine Frame.step (State.beginSave_frame ..) rfl ?_
    exact Frame.refl _ _
  · refine Frame.set_kop _ rfl ?_
    exact Frame.refl _ _

theorem execProfileSaveDone_frame {a0} {a1} {t : State} (h : execProfileSaveDone a0 a1 = .next t) :
    Frame [.free, .uptime, .entries, .kop] a1 t := by
  cases h
  split
  · exact Frame.refl _ _
  · refine Frame.ite ?_ ?_
    · exact Frame.refl _ _
    · dsimp only
      split
      · refine Frame.set_kop _ rfl ?_
        refine Frame.ite ?_ ?_
        · refine Frame.step (State.dset_frame ..) rfl ?_
          refine Frame.step (State.writeSlot_frame ..) rfl ?_
          refine Frame.step (State.at_frame ..) rfl ?_
          exact Frame.refl _ _
        · refine Frame.step (State.writeSlot_frame ..) rfl ?_
          refine Frame.step (State.at_frame ..) rfl ?_
          exact Frame.refl _ _
      · refine Frame.step (State.beginSave_frame ..) rfl ?_
        refine Frame.ite ?_ ?_
        · refine Frame.step (State.dset_frame ..) rfl ?_
          refine Frame.step (State.writeSlot_frame ..) rfl ?_
          refine Frame.step (State.at_frame ..) rfl ?_
          exact Frame.refl _ _
        · refine Frame.step (State.writeSlot_frame ..) rfl ?_
          refine Frame.step (State.at_frame ..) rfl ?_
          exact Frame.refl _ _

theorem execProfileAutosave_frame {a0} {a1} {t : State} (h : execProfileAutosave a0 a1 = .next t) :
    Frame [.uptime, .entries, .kop] a1 t := by
  cases h
  refine Frame.ite ?_ ?_
  · refine Frame.step (State.beginSave_frame ..) rfl ?_
    refine Frame.step (State.at_frame ..) rfl ?_
    exact Frame.refl _ _
  · exact Frame.refl _ _

theorem State.writeProfileImage_frame (a0) (a1) (a2) :
    Frame [.free, .entries, .kop] a0 (State.writeProfileImage a0 a1 a2).1 := by
  unfold State.writeProfileImage
  refine Frame.ite_of Prod.fst ?_ ?_
  · exact Frame.refl _ _
  · refine Frame.ite_of Prod.fst ?_ ?_
    · exact Frame.refl _ _
    · refine Frame.step (State.writeSlot_frame ..) rfl ?_
      exact Frame.refl _ _

theorem State.writeProfileErase_frame (a0) (a1) :
    Frame [.free, .entries, .kop] a0 (State.writeProfileErase a0 a1).1 := by
  unfold State.writeProfileErase
  refine Frame.step (State.writeSlot_frame ..) rfl ?_
  exact Frame.refl _ _

theorem State.noteSaved_frame (a0) :
    Frame [.entries, .kop] a0 (State.noteSaved a0) := by
  unfold State.noteSaved
  refine Frame.step (State.dset_frame ..) rfl ?_
  refine Frame.set_kop _ rfl ?_
  exact Frame.refl _ _

end Sys2Proof.Machine
end

