-- ==== Sys2Proof/Laws/Ports.lean ====
section
/-! SUPPORT. What the operations of Ports can change: one frame each. -/

namespace Sys2Proof.Machine

theorem State.streamReadFailed_frame (a0) (a1) (a2) (a3) :
    Frame [.free, .out, .entries, .ctxEntries, .steps, .array, .links] a0 (State.streamReadFailed a0 a1 a2 a3) := by
  unfold State.streamReadFailed
  split
  · exact Frame.refl _ _
  · split
    · refine Frame.step (State.haltStream_frame ..) rfl ?_
      exact Frame.refl _ _
    · refine Frame.ite ?_ ?_
      · exact Frame.refl _ _
      · refine Frame.step (State.setStream_frame ..) rfl ?_
        exact Frame.refl _ _

theorem State.dropRopeReads_frame (a0) (a1) (a2) :
    Frame [.links] a0 (State.dropRopeReads a0 a1 a2) := by
  unfold State.dropRopeReads
  dsimp only
  refine Frame.set_links _ rfl ?_
  exact Frame.refl _ _

theorem State.ropeReadFailed_frame (a0) (a1) (a2) (a3) (a4) :
    Frame [.free, .out, .entries, .ctxEntries, .steps, .array, .links] a0 (State.ropeReadFailed a0 a1 a2 a3 a4) := by
  unfold State.ropeReadFailed
  split
  · exact Frame.refl _ _
  · dsimp only
    split
    · refine Frame.step (State.haltStream_frame ..) rfl ?_
      exact Frame.refl _ _
    · refine Frame.ite ?_ ?_
      · refine Frame.step (State.setStream_frame ..) rfl ?_
        refine Frame.step (State.dropRopeReads_frame ..) rfl ?_
        exact Frame.refl _ _
      · refine Frame.ite ?_ ?_
        · exact Frame.refl _ _
        · refine Frame.step (State.setStream_frame ..) rfl ?_
          exact Frame.refl _ _

theorem State.streamFlushed_frame (a0) (a1) (a2) :
    Frame [.free, .out, .entries, .ctxEntries, .steps, .array, .links] a0 (State.streamFlushed a0 a1 a2) := by
  unfold State.streamFlushed
  split
  · exact Frame.refl _ _
  · dsimp only
    refine Frame.ite ?_ ?_
    · refine Frame.step (State.setStream_frame ..) rfl ?_
      exact Frame.refl _ _
    · split
      · refine Frame.step (State.setStream_frame ..) rfl ?_
        refine Frame.step (State.wrote_frame ..) rfl ?_
        exact Frame.refl _ _
      · refine Frame.ite ?_ ?_
        · refine Frame.step (State.setStream_frame ..) rfl ?_
          refine Frame.step (State.wrote_frame ..) rfl ?_
          exact Frame.refl _ _
        · refine Frame.step (State.haltStream_frame ..) rfl ?_
          refine Frame.step (State.setStream_frame ..) rfl ?_
          refine Frame.step (State.wrote_frame ..) rfl ?_
          exact Frame.refl _ _

theorem State.setFetch_frame (a0) (a1) (a2) (a3) :
    Frame [.links] a0 (State.setFetch a0 a1 a2 a3) := by
  unfold State.setFetch
  dsimp only
  refine Frame.set_links _ rfl ?_
  exact Frame.refl _ _

theorem State.fetchFailed_frame (a0) (a1) (a2) (a3) (a4) :
    Frame [.links] a0 (State.fetchFailed a0 a1 a2 a3 a4) := by
  unfold State.fetchFailed
  refine Frame.step (State.setFetch_frame ..) rfl ?_
  exact Frame.refl _ _

theorem State.fetchGoesOn_frame (a0) (a1) (a2) :
    Frame [.free, .out, .entries, .ctxEntries, .host, .near, .nearMem, .bulk, .bulkMem, .rings, .msix, .pages, .cmds, .ctxs, .serve, .links, .health, .power] a0 (State.fetchGoesOn a0 a1 a2) := by
  unfold State.fetchGoesOn
  refine Frame.ite ?_ ?_
  · refine Frame.step (State.cairnGoOn_frame ..) rfl ?_
    exact Frame.refl _ _
  · exact Frame.refl _ _

theorem State.endAnswered_frame (a0) (a1) (a2) :
    Frame [.free, .out, .entries, .ctxEntries, .host, .near, .nearMem, .bulk, .bulkMem, .rings, .msix, .pages, .cmds, .links, .health, .power] a0 (State.endAnswered a0 a1 a2) := by
  unfold State.endAnswered
  dsimp only
  split
  · refine Frame.ite ?_ ?_
    · refine Frame.set_links _ rfl ?_
      exact Frame.refl _ _
    · refine Frame.step (State.complete_frame ..) rfl ?_
      refine Frame.ite ?_ ?_
      · refine Frame.step (State.countLookup_frame ..) rfl ?_
        refine Frame.set_links _ rfl ?_
        exact Frame.refl _ _
      · refine Frame.set_links _ rfl ?_
        exact Frame.refl _ _
  · refine Frame.set_links _ rfl ?_
    exact Frame.refl _ _

theorem State.requestFailed_frame (a0) (a1) (a2) (a3) :
    Frame [.free, .out, .entries, .ctxEntries, .host, .near, .nearMem, .bulk, .bulkMem, .store, .storeMem, .rings, .msix, .pages, .cmds, .steps, .array, .ctxs, .serve, .links, .health, .power] a0 (State.requestFailed a0 a1 a2 a3) := by
  unfold State.requestFailed
  dsimp only
  split
  · split
    · refine Frame.step (State.copyGoesOn_frame ..) rfl ?_
      refine Frame.step (State.setCopy_frame ..) rfl ?_
      refine Frame.step (State.cbump_frame ..) rfl ?_
      refine Frame.step (State.dropRequest_frame ..) rfl ?_
      exact Frame.refl _ _
    · refine Frame.step (State.cbump_frame ..) rfl ?_
      refine Frame.step (State.dropRequest_frame ..) rfl ?_
      exact Frame.refl _ _
  · split
    · refine Frame.step (State.copyGoesOn_frame ..) rfl ?_
      refine Frame.step (State.setCopy_frame ..) rfl ?_
      refine Frame.step (State.cbump_frame ..) rfl ?_
      refine Frame.step (State.dropRequest_frame ..) rfl ?_
      exact Frame.refl _ _
    · refine Frame.step (State.cbump_frame ..) rfl ?_
      refine Frame.step (State.dropRequest_frame ..) rfl ?_
      exact Frame.refl _ _
  · refine Frame.step (State.streamReadFailed_frame ..) rfl ?_
    refine Frame.step (State.cbump_frame ..) rfl ?_
    refine Frame.step (State.dropRequest_frame ..) rfl ?_
    exact Frame.refl _ _
  · refine Frame.step (State.ropeReadFailed_frame ..) rfl ?_
    refine Frame.step (State.cbump_frame ..) rfl ?_
    refine Frame.step (State.dropRequest_frame ..) rfl ?_
    exact Frame.refl _ _
  · refine Frame.step (State.streamFlushed_frame ..) rfl ?_
    refine Frame.step (State.cbump_frame ..) rfl ?_
    refine Frame.step (State.dropRequest_frame ..) rfl ?_
    exact Frame.refl _ _
  · split
    · split
      · refine Frame.step (State.stepMiss_frame ..) rfl ?_
        refine Frame.step (State.cbump_frame ..) rfl ?_
        refine Frame.step (State.dropRequest_frame ..) rfl ?_
        exact Frame.refl _ _
      · refine Frame.step (State.cbump_frame ..) rfl ?_
        refine Frame.step (State.dropRequest_frame ..) rfl ?_
        exact Frame.refl _ _
    · refine Frame.step (State.cbump_frame ..) rfl ?_
      refine Frame.step (State.dropRequest_frame ..) rfl ?_
      exact Frame.refl _ _
  · split
    · split
      · refine Frame.step (State.stepMiss_frame ..) rfl ?_
        refine Frame.step (State.cbump_frame ..) rfl ?_
        refine Frame.step (State.dropRequest_frame ..) rfl ?_
        exact Frame.refl _ _
      · refine Frame.step (State.cbump_frame ..) rfl ?_
        refine Frame.step (State.dropRequest_frame ..) rfl ?_
        exact Frame.refl _ _
    · refine Frame.step (State.cbump_frame ..) rfl ?_
      refine Frame.step (State.dropRequest_frame ..) rfl ?_
      exact Frame.refl _ _
  · split
    · refine Frame.step (State.stepMiss_frame ..) rfl ?_
      refine Frame.step (State.cbump_frame ..) rfl ?_
      refine Frame.step (State.dropRequest_frame ..) rfl ?_
      exact Frame.refl _ _
    · refine Frame.step (State.cbump_frame ..) rfl ?_
      refine Frame.step (State.dropRequest_frame ..) rfl ?_
      exact Frame.refl _ _
  · refine Frame.step (State.cbump_frame ..) rfl ?_
    refine Frame.step (State.dropRequest_frame ..) rfl ?_
    exact Frame.refl _ _
  · refine Frame.step (State.fetchGoesOn_frame ..) rfl ?_
    refine Frame.step (State.fetchFailed_frame ..) rfl ?_
    refine Frame.step (State.cbump_frame ..) rfl ?_
    refine Frame.step (State.dropRequest_frame ..) rfl ?_
    exact Frame.refl _ _
  · refine Frame.step (State.endAnswered_frame ..) rfl ?_
    refine Frame.step (State.cbump_frame ..) rfl ?_
    refine Frame.step (State.dropRequest_frame ..) rfl ?_
    exact Frame.refl _ _

theorem State.flushAnswered_frame (a0) (a1) :
    Frame [.free, .out, .entries, .ctxEntries, .host, .near, .nearMem, .bulk, .bulkMem, .store, .storeMem, .rings, .msix, .pages, .cmds, .steps, .array, .ctxs, .links, .health, .power] a0 (State.flushAnswered a0 a1) := by
  unfold State.flushAnswered
  dsimp only
  split
  · split
    · refine Frame.step (State.copyGoesOn_frame ..) rfl ?_
      refine Frame.step (State.setCopy_frame ..) rfl ?_
      refine Frame.step (State.dropRequest_frame ..) rfl ?_
      exact Frame.refl _ _
    · refine Frame.step (State.dropRequest_frame ..) rfl ?_
      exact Frame.refl _ _
  · refine Frame.step (State.streamFlushed_frame ..) rfl ?_
    refine Frame.step (State.dropRequest_frame ..) rfl ?_
    exact Frame.refl _ _
  · refine Frame.step (State.endAnswered_frame ..) rfl ?_
    refine Frame.step (State.dropRequest_frame ..) rfl ?_
    exact Frame.refl _ _
  · refine Frame.step (State.dropRequest_frame ..) rfl ?_
    exact Frame.refl _ _

theorem State.enterExchange_frame (a0) (a1) :
    Frame [.links] a0 (State.enterExchange a0 a1) := by
  unfold State.enterExchange
  refine Frame.step (State.setPort_frame ..) rfl ?_
  exact Frame.refl _ _

theorem State.requestOn_frame (a0) (a1) (a2) :
    Frame [.links] a0 (State.requestOn a0 a1 a2) := by
  unfold State.requestOn
  refine Frame.set_links _ rfl ?_
  exact Frame.refl _ _

theorem State.releaseFlush_frame (a0) (a1) (a2) (a3) :
    Frame [.free, .out, .entries, .ctxEntries, .host, .near, .nearMem, .bulk, .bulkMem, .store, .storeMem, .rings, .msix, .pages, .cmds, .steps, .array, .ctxs, .serve, .links, .health, .power] a0 (State.releaseFlush a0 a1 a2 a3) := by
  unfold State.releaseFlush
  split
  · refine Frame.step (State.requestFailed_frame ..) rfl ?_
    exact Frame.refl _ _
  · dsimp only
    refine Frame.foldl _ (fun _ _ => ?_) ?_
    · refine Frame.step (State.queuePacket_frame ..) rfl ?_
      refine Frame.step (State.request_frame ..) rfl ?_
      refine Frame.step (State.moreFlushes_frame ..) rfl ?_
      exact Frame.refl _ _
    · refine Frame.step (State.queuePacket_frame ..) rfl ?_
      refine Frame.step (State.requestOn_frame ..) rfl ?_
      exact Frame.refl _ _

theorem State.releasePacket_frame (a0) (a1) :
    Frame [.free, .out, .entries, .ctxEntries, .host, .near, .nearMem, .bulk, .bulkMem, .store, .storeMem, .rings, .msix, .pages, .cmds, .steps, .array, .ctxs, .serve, .links, .health, .power] a0 (State.releasePacket a0 a1) := by
  unfold State.releasePacket
  dsimp only
  refine Frame.ite ?_ ?_
  · refine Frame.step (State.sendControl_frame ..) rfl ?_
    exact Frame.refl _ _
  · refine Frame.ite ?_ ?_
    · split
      · refine Frame.step (State.releaseFlush_frame ..) rfl ?_
        exact Frame.refl _ _
      · exact Frame.refl _ _
    · split
      · refine Frame.ite ?_ ?_
        · refine Frame.step (State.queuePacket_frame ..) rfl ?_
          refine Frame.step (State.requestOn_frame ..) rfl ?_
          exact Frame.refl _ _
        · refine Frame.step (State.queuePacket_frame ..) rfl ?_
          exact Frame.refl _ _
      · refine Frame.ite ?_ ?_
        · exact Frame.refl _ _
        · refine Frame.step (State.queuePacket_frame ..) rfl ?_
          exact Frame.refl _ _
      · refine Frame.ite ?_ ?_
        · refine Frame.step (State.requestFailed_frame ..) rfl ?_
          exact Frame.refl _ _
        · refine Frame.step (State.cbump_frame ..) rfl ?_
          exact Frame.refl _ _
      · refine Frame.ite ?_ ?_
        · exact Frame.refl _ _
        · refine Frame.step (State.cbump_frame ..) rfl ?_
          exact Frame.refl _ _

theorem State.takePartition_frame (a0) (a1) :
    Frame [.entries, .links] a0 (State.takePartition a0 a1) := by
  unfold State.takePartition
  refine Frame.ite ?_ ?_
  · refine Frame.step (State.enterExchange_frame ..) rfl ?_
    refine Frame.step (State.setPort_frame ..) rfl ?_
    refine Frame.step (State.dset_frame ..) rfl ?_
    exact Frame.refl _ _
  · refine Frame.step (State.setPort_frame ..) rfl ?_
    refine Frame.step (State.dset_frame ..) rfl ?_
    exact Frame.refl _ _

theorem State.settleBorder_frame (a0) :
    Frame [.free, .out, .entries, .ctxEntries, .host, .near, .nearMem, .bulk, .bulkMem, .store, .storeMem, .rings, .msix, .pages, .cmds, .steps, .array, .ctxs, .serve, .links, .health, .power] a0 (State.settleBorder a0) := by
  unfold State.settleBorder
  dsimp only
  refine Frame.ite ?_ ?_
  · refine Frame.step (State.event_frame ..) rfl ?_
    refine Frame.step (State.dset_frame ..) rfl ?_
    refine Frame.foldl _ (fun _ _ => ?_) ?_
    · refine Frame.step (State.releasePacket_frame ..) rfl ?_
      exact Frame.refl _ _
    · refine Frame.set_links _ rfl ?_
      refine Frame.ite ?_ ?_
      · refine Frame.step (State.settleSlice_frame ..) rfl ?_
        refine Frame.step (State.dset_frame ..) rfl ?_
        refine Frame.foldl _ (fun _ _ => ?_) ?_
        · refine Frame.step (State.takePartition_frame ..) rfl ?_
          exact Frame.refl _ _
        · exact Frame.refl _ _
      · exact Frame.refl _ _
  · refine Frame.ite ?_ ?_
    · refine Frame.step (State.settleSlice_frame ..) rfl ?_
      refine Frame.step (State.dset_frame ..) rfl ?_
      refine Frame.foldl _ (fun _ _ => ?_) ?_
      · refine Frame.step (State.takePartition_frame ..) rfl ?_
        exact Frame.refl _ _
      · exact Frame.refl _ _
    · exact Frame.refl _ _

theorem State.linkLost_frame (a0) (a1) (a2) :
    Frame [.free, .out, .entries, .ctxEntries, .host, .near, .nearMem, .bulk, .bulkMem, .store, .storeMem, .rings, .msix, .pages, .cmds, .steps, .array, .ctxs, .serve, .links, .health, .power] a0 (State.linkLost a0 a1 a2) := by
  unfold State.linkLost
  dsimp only
  refine Frame.step (State.settleBorder_frame ..) rfl ?_
  refine Frame.set_links _ rfl ?_
  refine Frame.foldl _ (fun _ _ => ?_) ?_
  · refine Frame.ite ?_ ?_
    · refine Frame.step (State.requestFailed_frame ..) rfl ?_
      exact Frame.refl _ _
    · exact Frame.refl _ _
  · refine Frame.foldl _ (fun _ _ => ?_) ?_
    · refine Frame.step (State.replayStep_frame ..) rfl ?_
      exact Frame.refl _ _
    · refine Frame.step (State.settleSlice_frame ..) rfl ?_
      refine Frame.step (State.setPort_frame ..) rfl ?_
      exact Frame.refl _ _

theorem State.portTo_frame (a0) (a1) (a2) :
    Frame [.links] a0 (State.portTo a0 a1 a2) := by
  unfold State.portTo
  refine Frame.step (State.setPort_frame ..) rfl ?_
  exact Frame.refl _ _

theorem State.portUp_frame (a0) (a1) :
    Frame [.entries, .links] a0 (State.portUp a0 a1) := by
  unfold State.portUp
  refine Frame.ite ?_ ?_
  · refine Frame.step (State.setDomain_frame ..) rfl ?_
    refine Frame.step (State.setPort_frame ..) rfl ?_
    exact Frame.refl _ _
  · refine Frame.step (State.setDomain_frame ..) rfl ?_
    refine Frame.step (State.setPort_frame ..) rfl ?_
    exact Frame.refl _ _

theorem State.writePortEnable_frame (a0) (a1) (a2) :
    Frame [.free, .out, .entries, .ctxEntries, .host, .near, .nearMem, .bulk, .bulkMem, .store, .storeMem, .rings, .msix, .pages, .cmds, .steps, .array, .ctxs, .serve, .links, .health, .power] a0 (State.writePortEnable a0 a1 a2) := by
  unfold State.writePortEnable
  dsimp only
  refine Frame.ite ?_ ?_
  · refine Frame.ite ?_ ?_
    · refine Frame.step (State.dset_frame ..) rfl ?_
      exact Frame.refl _ _
    · refine Frame.step (State.setDomain_frame ..) rfl ?_
      refine Frame.step (State.linkLost_frame ..) rfl ?_
      refine Frame.step (State.dset_frame ..) rfl ?_
      exact Frame.refl _ _
  · refine Frame.ite ?_ ?_
    · refine Frame.step (State.portUp_frame ..) rfl ?_
      refine Frame.step (State.dset_frame ..) rfl ?_
      exact Frame.refl _ _
    · refine Frame.step (State.dset_frame ..) rfl ?_
      exact Frame.refl _ _

theorem State.portMove_frame (a0) (a1) (a2) (a3) :
    Frame [.links] a0 (State.portMove a0 a1 a2 a3) := by
  unfold State.portMove
  refine Frame.ite ?_ ?_
  · refine Frame.step (State.portTo_frame ..) rfl ?_
    exact Frame.refl _ _
  · exact Frame.refl _ _

theorem execPortSignalDetect_frame {a0} {a1} {t : State} (h : execPortSignalDetect a0 a1 = .next t) :
    Frame [.links] a1 t := by
  cases h
  refine Frame.step (State.portMove_frame ..) rfl ?_
  exact Frame.refl _ _

theorem execPortTrainDone_frame {a0} {a1} {t : State} (h : execPortTrainDone a0 a1 = .next t) :
    Frame [.links] a1 t := by
  cases h
  refine Frame.step (State.portMove_frame ..) rfl ?_
  exact Frame.refl _ _

theorem execPortAlignDone_frame {a0} {a1} {t : State} (h : execPortAlignDone a0 a1 = .next t) :
    Frame [.links] a1 t := by
  cases h
  refine Frame.ite ?_ ?_
  · refine Frame.step (State.enterExchange_frame ..) rfl ?_
    exact Frame.refl _ _
  · exact Frame.refl _ _

theorem execPortStateTimeout_frame {a0} {a1} {t : State} (h : execPortStateTimeout a0 a1 = .next t) :
    Frame [.entries, .links] a1 t := by
  cases h
  split
  · refine Frame.step (State.portUp_frame ..) rfl ?_
    exact Frame.refl _ _
  · refine Frame.step (State.portTo_frame ..) rfl ?_
    exact Frame.refl _ _
  · refine Frame.step (State.portUp_frame ..) rfl ?_
    exact Frame.refl _ _
  · exact Frame.refl _ _

theorem State.retrain_frame (a0) (a1) :
    Frame [.free, .entries, .links] a0 (State.retrain a0 a1) := by
  unfold State.retrain
  refine Frame.ite ?_ ?_
  · exact Frame.refl _ _
  · refine Frame.step (State.settleSlice_frame ..) rfl ?_
    refine Frame.step (State.dbump_frame ..) rfl ?_
    refine Frame.step (State.setPort_frame ..) rfl ?_
    exact Frame.refl _ _

theorem execPortRetrain_frame {a0} {a1} {a2} {t : State} (h : execPortRetrain a0 a1 a2 = .next t) :
    Frame [.free, .entries, .links] a2 t := by
  cases h
  refine Frame.step (State.retrain_frame ..) rfl ?_
  exact Frame.refl _ _

theorem execPortRetrainActive_frame {a0} {a1} {t : State} (h : execPortRetrainActive a0 a1 = .next t) :
    Frame [.entries, .links] a1 t := by
  cases h
  refine Frame.ite ?_ ?_
  · refine Frame.step (State.settleSlice_frame ..) rfl ?_
    refine Frame.step (State.setPort_frame ..) rfl ?_
    exact Frame.refl _ _
  · exact Frame.refl _ _

theorem execPortDown_frame {a0} {a1} {a2} {t : State} (h : execPortDown a0 a1 a2 = .next t) :
    Frame [.free, .out, .uptime, .entries, .ctxEntries, .host, .near, .nearMem, .bulk, .bulkMem, .store, .storeMem, .rings, .msix, .pages, .cmds, .steps, .array, .ctxs, .serve, .links, .health, .power] a2 t := by
  cases h
  dsimp only
  refine Frame.ite ?_ ?_
  · refine Frame.step (State.linkLost_frame ..) rfl ?_
    refine Frame.step (State.event_frame ..) rfl ?_
    refine Frame.step (State.at_frame ..) rfl ?_
    exact Frame.refl _ _
  · exact Frame.refl _ _

theorem State.spareRequested_frame (a0) (a1) (a2) :
    Frame [.free, .out, .entries, .msix, .links, .health] a0 (State.spareRequested a0 a1 a2) := by
  unfold State.spareRequested
  dsimp only
  refine Frame.ite ?_ ?_
  · exact Frame.refl _ _
  · refine Frame.ite ?_ ?_
    · refine Frame.step (State.event_frame ..) rfl ?_
      refine Frame.step (State.setPort_frame ..) rfl ?_
      exact Frame.refl _ _
    · refine Frame.step (State.setPort_frame ..) rfl ?_
      exact Frame.refl _ _

theorem State.frameFields_frame (a0) (a1) (a2) :
    Frame [.free, .out, .entries, .msix, .links, .health] a0 (State.frameFields a0 a1 a2) := by
  unfold State.frameFields
  refine Frame.ite ?_ ?_
  · refine Frame.ite ?_ ?_
    · refine Frame.step (State.retrain_frame ..) rfl ?_
      refine Frame.step (State.setPort_frame ..) rfl ?_
      refine Frame.step (State.spareRequested_frame ..) rfl ?_
      refine Frame.step (State.setPort_frame ..) rfl ?_
      exact Frame.refl _ _
    · refine Frame.step (State.setPort_frame ..) rfl ?_
      refine Frame.step (State.spareRequested_frame ..) rfl ?_
      refine Frame.step (State.setPort_frame ..) rfl ?_
      exact Frame.refl _ _
  · refine Frame.step (State.spareRequested_frame ..) rfl ?_
    refine Frame.step (State.setPort_frame ..) rfl ?_
    exact Frame.refl _ _

theorem State.goodFrame_frame (a0) (a1) (a2) :
    Frame [.free, .out, .entries, .msix, .links, .health] a0 (State.goodFrame a0 a1 a2) := by
  unfold State.goodFrame
  refine Frame.ite ?_ ?_
  · refine Frame.ite ?_ ?_
    · exact Frame.refl _ _
    · refine Frame.step (State.frameFields_frame ..) rfl ?_
      exact Frame.refl _ _
  · refine Frame.ite ?_ ?_
    · exact Frame.refl _ _
    · refine Frame.ite ?_ ?_
      · refine Frame.step (State.frameFields_frame ..) rfl ?_
        refine Frame.step (State.setPort_frame ..) rfl ?_
        exact Frame.refl _ _
      · refine Frame.ite ?_ ?_
        · exact Frame.refl _ _
        · refine Frame.step (State.setPort_frame ..) rfl ?_
          exact Frame.refl _ _

theorem State.laneFails_frame (a0) (a1) (a2) :
    Frame [.free, .out, .entries, .msix, .links, .health] a0 (State.laneFails a0 a1 a2) := by
  unfold State.laneFails
  dsimp only
  refine Frame.ite ?_ ?_
  · exact Frame.refl _ _
  · refine Frame.ite ?_ ?_
    · refine Frame.step (State.retrain_frame ..) rfl ?_
      exact Frame.refl _ _
    · refine Frame.step (State.event_frame ..) rfl ?_
      refine Frame.step (State.setPort_frame ..) rfl ?_
      exact Frame.refl _ _

theorem State.symbolsCorrected_frame (a0) (a1) (a2) :
    Frame [.free, .out, .entries, .msix, .links, .health] a0 (State.symbolsCorrected a0 a1 a2) := by
  unfold State.symbolsCorrected
  dsimp only
  refine Frame.foldl _ (fun _ _ => ?_) ?_
  · refine Frame.ite ?_ ?_
    · refine Frame.step (State.laneFails_frame ..) rfl ?_
      exact Frame.refl _ _
    · exact Frame.refl _ _
  · refine Frame.step (State.setPort_frame ..) rfl ?_
    exact Frame.refl _ _

theorem execFrameReceived_frame {a0} {a1} {a2} {a3} {t : State} (h : execFrameReceived a0 a1 a2 a3 = .next t) :
    Frame [.free, .out, .entries, .msix, .links, .health] a3 t := by
  cases h
  dsimp only
  refine Frame.ite ?_ ?_
  · split
    · refine Frame.step (State.goodFrame_frame ..) rfl ?_
      exact Frame.refl _ _
    · refine Frame.step (State.goodFrame_frame ..) rfl ?_
      refine Frame.step (State.symbolsCorrected_frame ..) rfl ?_
      refine Frame.step (State.dbump_frame ..) rfl ?_
      exact Frame.refl _ _
    · refine Frame.step (State.setPort_frame ..) rfl ?_
      refine Frame.step (State.dbump_frame ..) rfl ?_
      exact Frame.refl _ _
    · refine Frame.step (State.setPort_frame ..) rfl ?_
      exact Frame.refl _ _
  · exact Frame.refl _ _

theorem State.perturbSent_frame (a0) (a1) (a2) (a3) :
    Frame [.free, .entries, .health] a0 (State.perturbSent a0 a1 a2 a3) := by
  unfold State.perturbSent
  refine Frame.foldl _ (fun _ _ => ?_) ?_
  · refine Frame.foldl _ (fun _ _ => ?_) ?_
    · refine Frame.step (State.perturbed_frame ..) rfl ?_
      exact Frame.refl _ _
    · exact Frame.refl _ _
  · exact Frame.refl _ _

theorem State.perturbCredits_frame (a0) (a1) (a2) :
    Frame [.free, .entries, .health] a0 (State.perturbCredits a0 a1 a2) := by
  unfold State.perturbCredits
  refine Frame.foldl _ (fun _ _ => ?_) ?_
  · refine Frame.ite ?_ ?_
    · exact Frame.refl _ _
    · refine Frame.step (State.perturbed_frame ..) rfl ?_
      exact Frame.refl _ _
  · exact Frame.refl _ _

theorem State.sendFrame_frame (a0) (a1) (a2) (a3) :
    Frame [.out, .links] a0 (State.sendFrame a0 a1 a2 a3) := by
  unfold State.sendFrame
  refine Frame.step (State.emit_frame ..) rfl ?_
  refine Frame.step (State.setPort_frame ..) rfl ?_
  exact Frame.refl _ _

theorem State.newFrame_frame (a0) (a1) (a2) (a3) (a4) (a5) (a6) :
    Frame [.free, .out, .entries, .links, .health] a0 (State.newFrame a0 a1 a2 a3 a4 a5 a6) := by
  unfold State.newFrame
  refine Frame.step (State.sendFrame_frame ..) rfl ?_
  refine Frame.step (State.perturbCredits_frame ..) rfl ?_
  exact Frame.refl _ _

theorem State.nextFrame_frame (a0) (a1) :
    Frame [.free, .out, .entries, .links, .health] a0 (State.nextFrame a0 a1) := by
  unfold State.nextFrame
  refine Frame.ite ?_ ?_
  · refine Frame.step (State.sendFrame_frame ..) rfl ?_
    exact Frame.refl _ _
  · split
    · refine Frame.step (State.sendFrame_frame ..) rfl ?_
      refine Frame.step (State.dbump_frame ..) rfl ?_
      exact Frame.refl _ _
    · refine Frame.ite ?_ ?_
      · refine Frame.step (State.sendFrame_frame ..) rfl ?_
        exact Frame.refl _ _
      · refine Frame.ite ?_ ?_
        · refine Frame.step (State.newFrame_frame ..) rfl ?_
          exact Frame.refl _ _
        · refine Frame.ite ?_ ?_
          · extract_lets
            split
            · refine Frame.step (State.newFrame_frame ..) rfl ?_
              refine Frame.step (State.perturbSent_frame ..) rfl ?_
              exact Frame.refl _ _
          · refine Frame.step (State.newFrame_frame ..) rfl ?_
            exact Frame.refl _ _

theorem execFrameTransmit_frame {a0} {a1} {t : State} (h : execFrameTransmit a0 a1 = .next t) :
    Frame [.free, .out, .entries, .ctxEntries, .host, .near, .nearMem, .bulk, .bulkMem, .store, .storeMem, .rings, .msix, .pages, .cmds, .steps, .array, .ctxs, .serve, .links, .health, .power] a1 t := by
  cases h
  split
  · refine Frame.step (State.nextFrame_frame ..) rfl ?_
    exact Frame.refl _ _
  · refine Frame.step (State.nextFrame_frame ..) rfl ?_
    exact Frame.refl _ _
  · refine Frame.step (State.settleBorder_frame ..) rfl ?_
    refine Frame.step (State.nextFrame_frame ..) rfl ?_
    exact Frame.refl _ _
  · refine Frame.step (State.nextFrame_frame ..) rfl ?_
    exact Frame.refl _ _
  · exact Frame.refl _ _

end Sys2Proof.Machine
end

