-- ==== Sys2Proof/Laws/Partition.lean ====
section
/-! SUPPORT. What the operations of Partition can change: one frame each. -/

namespace Sys2Proof.Machine

theorem State.linkInfo_frame (a0) (a1) (a2) :
    Frame [.free, .out, .entries, .ctxEntries, .host, .near, .nearMem, .bulk, .bulkMem, .store, .storeMem, .rings, .msix, .pages, .cmds, .steps, .array, .ctxs, .serve, .links, .health, .power] a0 (State.linkInfo a0 a1 a2) := by
  unfold State.linkInfo
  dsimp only
  refine Frame.step (State.settleBorder_frame ..) rfl ?_
  refine Frame.step (State.settleSlice_frame ..) rfl ?_
  refine Frame.step (State.setPort_frame ..) rfl ?_
  exact Frame.refl _ _

theorem execLinkInfo_frame {a0} {a1} {a2} {t : State} (h : execLinkInfo a0 a1 a2 = .next t) :
    Frame [.free, .out, .entries, .ctxEntries, .host, .near, .nearMem, .bulk, .bulkMem, .store, .storeMem, .rings, .msix, .pages, .cmds, .steps, .array, .ctxs, .serve, .links, .health, .power] a2 t := by
  cases h
  refine Frame.ite ?_ ?_
  · refine Frame.step (State.linkInfo_frame ..) rfl ?_
    exact Frame.refl _ _
  · exact Frame.refl _ _

theorem State.fencePort_frame (a0) (a1) :
    Frame [.links] a0 (State.fencePort a0 a1) := by
  unfold State.fencePort
  refine Frame.ite ?_ ?_
  · refine Frame.foldl _ (fun _ _ => ?_) ?_
    · split
      · refine Frame.step (State.queuePacket_frame ..) rfl ?_
        refine Frame.step (Frame.of_fst (State.request_frame ..) (by assumption)) rfl ?_
        exact Frame.refl _ _
    · refine Frame.step (State.setPort_frame ..) rfl ?_
      exact Frame.refl _ _
  · refine Frame.step (State.setPort_frame ..) rfl ?_
    exact Frame.refl _ _

theorem State.writePartitionApply_frame (a0) :
    Frame [.free, .out, .entries, .ctxEntries, .host, .near, .nearMem, .bulk, .bulkMem, .store, .storeMem, .rings, .msix, .pages, .cmds, .steps, .array, .ctxs, .serve, .links, .health, .power] a0 (State.writePartitionApply a0).1 := by
  unfold State.writePartitionApply
  dsimp only
  refine Frame.ite_of Prod.fst ?_ ?_
  · exact Frame.refl _ _
  · dsimp only
    refine Frame.step (State.settleBorder_frame ..) rfl ?_
    refine Frame.foldl _ (fun _ _ => ?_) ?_
    · refine Frame.step (State.fencePort_frame ..) rfl ?_
      exact Frame.refl _ _
    · refine Frame.step (State.dset_frame ..) rfl ?_
      refine Frame.set_links _ rfl ?_
      exact Frame.refl _ _

theorem execPartitionDrained_frame {a0} {a1} {t : State} (h : execPartitionDrained a0 a1 = .next t) :
    Frame [.free, .out, .entries, .ctxEntries, .host, .near, .nearMem, .bulk, .bulkMem, .store, .storeMem, .rings, .msix, .pages, .cmds, .steps, .array, .ctxs, .serve, .links, .health, .power] a1 t := by
  cases h
  dsimp only
  refine Frame.ite ?_ ?_
  · refine Frame.step (State.settleBorder_frame ..) rfl ?_
    refine Frame.step (State.queuePacket_frame ..) rfl ?_
    refine Frame.step (State.setPort_frame ..) rfl ?_
    exact Frame.refl _ _
  · exact Frame.refl _ _

theorem State.borderCame_frame (a0) (a1) :
    Frame [.free, .out, .entries, .ctxEntries, .host, .near, .nearMem, .bulk, .bulkMem, .store, .storeMem, .rings, .msix, .pages, .cmds, .steps, .array, .ctxs, .serve, .links, .health, .power] a0 (State.borderCame a0 a1) := by
  unfold State.borderCame
  dsimp only
  refine Frame.ite ?_ ?_
  · refine Frame.step (State.settleBorder_frame ..) rfl ?_
    refine Frame.step (State.setPort_frame ..) rfl ?_
    exact Frame.refl _ _
  · refine Frame.step (State.setPort_frame ..) rfl ?_
    exact Frame.refl _ _

theorem execBorderWaitTimeout_frame {a0} {a1} {a2} {t : State} (h : execBorderWaitTimeout a0 a1 a2 = .next t) :
    Frame [.free, .out, .uptime, .entries, .ctxEntries, .host, .near, .nearMem, .bulk, .bulkMem, .store, .storeMem, .rings, .msix, .pages, .cmds, .steps, .array, .ctxs, .serve, .links, .health, .power] a2 t := by
  cases h
  dsimp only
  refine Frame.ite ?_ ?_
  · refine Frame.step (State.settleBorder_frame ..) rfl ?_
    refine Frame.step (State.setPort_frame ..) rfl ?_
    refine Frame.step (State.at_frame ..) rfl ?_
    exact Frame.refl _ _
  · exact Frame.refl _ _

theorem execLaneTestInterval_frame {a0} {a1} {t : State} (h : execLaneTestInterval a0 a1 = .next t) :
    Frame [.links] a1 t := by
  cases h
  refine Frame.ite ?_ ?_
  · refine Frame.step (State.setPort_frame ..) rfl ?_
    exact Frame.refl _ _
  · exact Frame.refl _ _

theorem State.laneChecked_frame (a0) (a1) (a2) (a3) (a4) :
    Frame [.entries, .links] a0 (State.laneChecked a0 a1 a2 a3 a4) := by
  unfold State.laneChecked
  refine Frame.ite ?_ ?_
  · exact Frame.refl _ _
  · dsimp only
    refine Frame.step (State.dset_frame ..) rfl ?_
    refine Frame.step (State.setPort_frame ..) rfl ?_
    exact Frame.refl _ _

theorem State.laneMeasured_frame (a0) (a1) (a2) (a3) :
    Frame [.free, .out, .entries, .msix, .links, .health] a0 (State.laneMeasured a0 a1 a2 a3) := by
  unfold State.laneMeasured
  dsimp only
  refine Frame.ite ?_ ?_
  · exact Frame.refl _ _
  · refine Frame.ite ?_ ?_
    · refine Frame.step (State.laneFails_frame ..) rfl ?_
      refine Frame.step (State.laneChecked_frame ..) rfl ?_
      exact Frame.refl _ _
    · refine Frame.step (State.laneChecked_frame ..) rfl ?_
      exact Frame.refl _ _

theorem execLaneTestDwellEnd_frame {a0} {a1} {a2} {a3} {a4} {t : State} (h : execLaneTestDwellEnd a0 a1 a2 a3 a4 = .next t) :
    Frame [.free, .out, .uptime, .entries, .msix, .links, .health] a4 t := by
  cases h
  refine Frame.ite ?_ ?_
  · refine Frame.step (State.laneMeasured_frame ..) rfl ?_
    refine Frame.step (State.setPort_frame ..) rfl ?_
    refine Frame.step (State.at_frame ..) rfl ?_
    exact Frame.refl _ _
  · exact Frame.refl _ _

theorem State.writePortLaneTest_frame (a0) (a1) (a2) :
    Frame [.entries, .links] a0 (State.writePortLaneTest a0 a1 a2).1 := by
  unfold State.writePortLaneTest
  refine Frame.ite_of Prod.fst ?_ ?_
  · refine Frame.step (State.setDomain_frame ..) rfl ?_
    refine Frame.step (State.setPort_frame ..) rfl ?_
    exact Frame.refl _ _
  · exact Frame.refl _ _

theorem execPortLaneTestEnd_frame {a0} {a1} {t : State} (h : execPortLaneTestEnd a0 a1 = .next t) :
    Frame [.uptime, .entries, .links] a1 t := by
  cases h
  dsimp only
  refine Frame.ite ?_ ?_
  · refine Frame.step (State.portUp_frame ..) rfl ?_
    refine Frame.foldl _ (fun _ _ => ?_) ?_
    · refine Frame.step (State.laneChecked_frame ..) rfl ?_
      exact Frame.refl _ _
    · refine Frame.step (State.at_frame ..) rfl ?_
      exact Frame.refl _ _
  · exact Frame.refl _ _

end Sys2Proof.Machine
end

