-- ==== Sys2Proof/Laws/Packets.lean ====
section
/-! SUPPORT. What the operations of Packets can change: one frame each. -/

namespace Sys2Proof.Machine

theorem State.packetIn_frame_k {g : List Zone} {r s : State} {port type units : Nat} {h : PacketHeader} {ok : Port → Bool}
    {go : State → State} (sub : [Zone.free, .entries, .links].all g.contains = true) (k : ∀ s, Frame g s (go s))
    (f : Frame g r s) : Frame g r (s.packetIn port type units h ok go) := by
  have z : ∀ {t}, Frame [Zone.free, .entries, .links] s t → Frame g r t := fun e => Frame.step e sub f
  unfold State.packetIn
  extract_lets q vc s1
  have h1 : Frame [Zone.free, .entries, .links] s s1 := Frame.mono (State.setPort_frame ..) rfl
  clear_value s1
  exact Frame.ite f (Frame.ite ((z h1).trans (k s1)) (z (Frame.step (State.dbump_frame ..) rfl h1)))

theorem execRead_frame {a0} {a1} {a2} {t : State} (h : execRead a0 a1 a2 = .next t) :
    Frame [.free, .out, .entries, .ctxEntries, .host, .near, .nearMem, .bulk, .bulkMem, .rings, .msix, .pages, .counters, .cmds, .tru, .links, .health, .power] a2 t := by
  cases h
  refine State.packetIn_frame_k rfl (fun _ => ?_) ?_
  · refine Frame.step (State.serveAccess_frame ..) rfl ?_
    exact Frame.refl _ _
  · exact Frame.refl _ _

theorem execFlush_frame {a0} {a1} {a2} {t : State} (h : execFlush a0 a1 a2 = .next t) :
    Frame [.free, .out, .entries, .ctxEntries, .host, .near, .nearMem, .bulk, .bulkMem, .rings, .msix, .pages, .counters, .cmds, .tru, .links, .health, .power] a2 t := by
  cases h
  refine State.packetIn_frame_k rfl (fun _ => ?_) ?_
  · refine Frame.step (State.serveAccess_frame ..) rfl ?_
    exact Frame.refl _ _
  · exact Frame.refl _ _

theorem State.responded_frame_k {g : List Zone} {r s : State} {port : Nat} {h : PacketHeader} {go : State → Request → State}
    (sub : [Zone.free, .entries, .ctxEntries].all g.contains = true) (k : ∀ s q, Frame g s (go s q))
    (f : Frame g r s) : Frame g r (s.responded port h go) := by
  unfold State.responded
  refine Frame.ite (Frame.step (State.epochDrop_frame ..) sub f) ?_
  split
  · exact f.trans (k s _)
  · exact f

theorem State.streamLanded_frame (a0) (a1) (a2) (a3) (a4) :
    Frame [.free, .ctxEntries, .steps, .array, .links] a0 (State.streamLanded a0 a1 a2 a3 a4) := by
  unfold State.streamLanded
  split
  · exact Frame.refl _ _
  · refine Frame.ite ?_ ?_
    · refine Frame.step (State.stepDamage_frame ..) rfl ?_
      exact Frame.refl _ _
    · dsimp only
      refine Frame.ite ?_ ?_
      · refine Frame.step (State.advance_frame ..) rfl ?_
        refine Frame.step (State.setStream_frame ..) rfl ?_
        exact Frame.refl _ _
      · refine Frame.ite ?_ ?_
        · refine Frame.step (State.land_frame ..) rfl ?_
          exact Frame.refl _ _
        · refine Frame.step (State.setStream_frame ..) rfl ?_
          refine Frame.step (State.land_frame ..) rfl ?_
          exact Frame.refl _ _

theorem State.ropeLanded_frame (a0) (a1) (a2) (a3) (a4) (a5) :
    Frame [.free, .ctxEntries, .steps, .array, .links] a0 (State.ropeLanded a0 a1 a2 a3 a4 a5) := by
  unfold State.ropeLanded
  split
  · exact Frame.refl _ _
  · refine Frame.ite ?_ ?_
    · refine Frame.step (State.stepDamage_frame ..) rfl ?_
      exact Frame.refl _ _
    · dsimp only
      refine Frame.ite ?_ ?_
      · refine Frame.ite ?_ ?_
        · exact Frame.refl _ _
        · refine Frame.step (State.setStream_frame ..) rfl ?_
          exact Frame.refl _ _
      · refine Frame.step (State.setStream_frame ..) rfl ?_
        exact Frame.refl _ _

theorem State.readAnswered_frame (a0) (a1) (a2) (a3) :
    Frame [.free, .out, .entries, .ctxEntries, .host, .near, .nearMem, .bulk, .bulkMem, .store, .storeMem, .rings, .msix, .pages, .cmds, .steps, .array, .ctxs, .serve, .tru, .links, .health, .power] a0 (State.readAnswered a0 a1 a2 a3) := by
  unfold State.readAnswered
  dsimp only
  split
  · split
    · refine Frame.step (State.copyGoesOn_frame ..) rfl ?_
      refine Frame.step (State.setCopy_frame ..) rfl ?_
      refine Frame.step (State.cbump_frame ..) rfl ?_
      refine Frame.step (State.dropRequest_frame ..) rfl ?_
      exact Frame.refl _ _
    · refine Frame.step (State.cbump_frame ..) rfl ?_
      refine Frame.step (State.dropRequest_frame ..) rfl ?_
      exact Frame.refl _ _
  · refine Frame.step (State.streamLanded_frame ..) rfl ?_
    refine Frame.step (State.cbump_frame ..) rfl ?_
    refine Frame.step (State.dropRequest_frame ..) rfl ?_
    exact Frame.refl _ _
  · refine Frame.step (State.ropeLanded_frame ..) rfl ?_
    refine Frame.step (State.cbump_frame ..) rfl ?_
    refine Frame.step (State.dropRequest_frame ..) rfl ?_
    exact Frame.refl _ _
  · split
    · refine Frame.step (State.cbump_frame ..) rfl ?_
      refine Frame.step (State.dropRequest_frame ..) rfl ?_
      exact Frame.refl _ _
    · split
      · refine Frame.step (State.cbump_frame ..) rfl ?_
        refine Frame.step (State.dropRequest_frame ..) rfl ?_
        exact Frame.refl _ _
      · refine Frame.ite ?_ ?_
        · refine Frame.step (State.stepDamage_frame ..) rfl ?_
          refine Frame.step (State.cbump_frame ..) rfl ?_
          refine Frame.step (State.dropRequest_frame ..) rfl ?_
          exact Frame.refl _ _
        · split
          · refine Frame.step (State.setExchange_frame ..) rfl ?_
            refine Frame.step (State.stepWrite_frame_ok (by assumption)) rfl ?_
            refine Frame.step (State.cbump_frame ..) rfl ?_
            refine Frame.step (State.dropRequest_frame ..) rfl ?_
            exact Frame.refl _ _
          · refine Frame.step (State.stepWrite_frame_error (by assumption)) rfl ?_
            refine Frame.step (State.cbump_frame ..) rfl ?_
            refine Frame.step (State.dropRequest_frame ..) rfl ?_
            exact Frame.refl _ _
  · refine Frame.step (State.fetchGoesOn_frame ..) rfl ?_
    refine Frame.ite ?_ ?_
    · refine Frame.step (State.fetchFailed_frame ..) rfl ?_
      refine Frame.step (State.cbump_frame ..) rfl ?_
      refine Frame.step (State.dropRequest_frame ..) rfl ?_
      exact Frame.refl _ _
    · refine Frame.step (State.setFetch_frame ..) rfl ?_
      refine Frame.step (State.cbump_frame ..) rfl ?_
      refine Frame.step (State.dropRequest_frame ..) rfl ?_
      exact Frame.refl _ _
  · refine Frame.step (State.cbump_frame ..) rfl ?_
    refine Frame.step (State.dropRequest_frame ..) rfl ?_
    exact Frame.refl _ _

theorem execReadData_frame {a0} {a1} {a2} {a3} {t : State} (h : execReadData a0 a1 a2 a3 = .next t) :
    Frame [.free, .out, .entries, .ctxEntries, .host, .near, .nearMem, .bulk, .bulkMem, .store, .storeMem, .rings, .msix, .pages, .cmds, .steps, .array, .ctxs, .serve, .tru, .links, .health, .power] a3 t := by
  cases h
  refine State.packetIn_frame_k rfl (fun _ => ?_) ?_
  · refine State.responded_frame_k rfl (fun _ _ => ?_) ?_
    · refine Frame.ite ?_ ?_
      · refine Frame.step (State.readAnswered_frame ..) rfl ?_
        exact Frame.refl _ _
      · exact Frame.refl _ _
    · exact Frame.refl _ _
  · exact Frame.refl _ _

theorem execReadFault_frame {a0} {a1} {a2} {t : State} (h : execReadFault a0 a1 a2 = .next t) :
    Frame [.free, .out, .entries, .ctxEntries, .host, .near, .nearMem, .bulk, .bulkMem, .store, .storeMem, .rings, .msix, .pages, .cmds, .steps, .array, .ctxs, .serve, .links, .health, .power] a2 t := by
  cases h
  refine State.packetIn_frame_k rfl (fun _ => ?_) ?_
  · refine State.responded_frame_k rfl (fun _ _ => ?_) ?_
    · refine Frame.step (State.requestFailed_frame ..) rfl ?_
      exact Frame.refl _ _
    · exact Frame.refl _ _
  · exact Frame.refl _ _

theorem execFlushDone_frame {a0} {a1} {a2} {t : State} (h : execFlushDone a0 a1 a2 = .next t) :
    Frame [.free, .out, .entries, .ctxEntries, .host, .near, .nearMem, .bulk, .bulkMem, .store, .storeMem, .rings, .msix, .pages, .cmds, .steps, .array, .ctxs, .serve, .links, .health, .power] a2 t := by
  cases h
  refine State.packetIn_frame_k rfl (fun _ => ?_) ?_
  · refine State.responded_frame_k rfl (fun _ _ => ?_) ?_
    · refine Frame.ite ?_ ?_
      · refine Frame.step (State.flushAnswered_frame ..) rfl ?_
        exact Frame.refl _ _
      · dsimp only
        refine Frame.step (State.requestFailed_frame ..) rfl ?_
        exact Frame.refl _ _
    · exact Frame.refl _ _
  · exact Frame.refl _ _

theorem State.earlyNote_frame (a0) (a1) (a2) :
    Frame [.free, .entries, .links] a0 (State.earlyNote a0 a1 a2) := by
  unfold State.earlyNote
  refine Frame.ite ?_ ?_
  · refine Frame.set_links _ rfl ?_
    exact Frame.refl _ _
  · refine Frame.ite ?_ ?_
    · refine Frame.step (State.dbump_frame ..) rfl ?_
      exact Frame.refl _ _
    · refine Frame.set_links _ rfl ?_
      exact Frame.refl _ _

theorem execReady_frame {a0} {a1} {a2} {a3} {t : State} (h : execReady a0 a1 a2 a3 = .next t) :
    Frame [.free, .uptime, .entries, .steps, .links] a3 t := by
  cases h
  refine State.packetIn_frame_k rfl (fun _ => ?_) ?_
  · skip
    split
    · refine Frame.step (State.setStep_frame ..) rfl ?_
      exact Frame.refl _ _
    · exact Frame.refl _ _
    · refine Frame.step (State.earlyNote_frame ..) rfl ?_
      exact Frame.refl _ _
  · refine Frame.step (State.at_frame ..) rfl ?_
    exact Frame.refl _ _

theorem State.abortAttempt_frame (a0) (a1) (a2) (a3) :
    Frame [.free, .ctxEntries, .steps, .array] a0 (State.abortAttempt a0 a1 a2 a3) := by
  unfold State.abortAttempt
  refine Frame.step (State.rappel_frame ..) rfl ?_
  refine Frame.step (State.setStep_frame ..) rfl ?_
  refine Frame.ite_of Prod.snd ?_ ?_
  · refine Frame.ite ?_ ?_
    · exact Frame.refl _ _
    · refine Frame.step (State.cbump_frame ..) rfl ?_
      exact Frame.refl _ _
  · refine Frame.step (State.abortValue_frame ..) rfl ?_
    refine Frame.ite ?_ ?_
    · exact Frame.refl _ _
    · refine Frame.step (State.cbump_frame ..) rfl ?_
      exact Frame.refl _ _

theorem State.abortHeld_frame (a0) (a1) (a2) :
    Frame [.free, .out, .entries, .ctxEntries, .host, .near, .nearMem, .bulk, .bulkMem, .rings, .msix, .pages, .cmds, .steps, .array, .ctxs, .serve, .tru, .links, .health, .power] a0 (State.abortHeld a0 a1 a2) := by
  unfold State.abortHeld
  split
  · refine Frame.ite ?_ ?_
    · refine Frame.step (State.abortedEnd_frame ..) rfl ?_
      exact Frame.refl _ _
    · exact Frame.refl _ _
  · exact Frame.refl _ _

theorem execAbort_frame {a0} {a1} {a2} {a3} {t : State} (h : execAbort a0 a1 a2 a3 = .next t) :
    Frame [.free, .out, .uptime, .entries, .ctxEntries, .host, .near, .nearMem, .bulk, .bulkMem, .rings, .msix, .pages, .cmds, .steps, .array, .ctxs, .serve, .tru, .links, .health, .power] a3 t := by
  cases h
  refine State.packetIn_frame_k rfl (fun _ => ?_) ?_
  · split
    · refine Frame.ite ?_ ?_
      · exact Frame.refl _ _
      · refine Frame.step (State.abortAttempt_frame ..) rfl ?_
        exact Frame.refl _ _
    · refine Frame.step (State.nextSearch_frame ..) rfl ?_
      refine Frame.step (State.abortHeld_frame ..) rfl ?_
      exact Frame.refl _ _
    · refine Frame.step (State.earlyNote_frame ..) rfl ?_
      exact Frame.refl _ _
  · refine Frame.step (State.at_frame ..) rfl ?_
    exact Frame.refl _ _

theorem State.noteGroup_frame (a0) (a1) (a2) (a3) :
    Frame [.links] a0 (State.noteGroup a0 a1 a2 a3) := by
  unfold State.noteGroup
  refine Frame.ite ?_ ?_
  · exact Frame.refl _ _
  · refine Frame.set_links _ rfl ?_
    exact Frame.refl _ _

theorem State.exchangeNote_frame (a0) (a1) (a2) (a3) (a4) :
    Frame [.free, .entries, .tru, .links] a0 (State.exchangeNote a0 a1 a2 a3 a4) := by
  unfold State.exchangeNote
  split
  · split
    · refine Frame.step (State.setExchange_frame ..) rfl ?_
      exact Frame.refl _ _
    · refine Frame.step (State.noteGroup_frame ..) rfl ?_
      exact Frame.refl _ _
  · exact Frame.refl _ _
  · refine Frame.ite ?_ ?_
    · refine Frame.step (State.noteGroup_frame ..) rfl ?_
      refine Frame.step (State.earlyNote_frame ..) rfl ?_
      exact Frame.refl _ _
    · refine Frame.step (State.earlyNote_frame ..) rfl ?_
      exact Frame.refl _ _

theorem execCounts_frame {a0} {a1} {a2} {a3} {a4} {t : State} (h : execCounts a0 a1 a2 a3 a4 = .next t) :
    Frame [.free, .uptime, .entries, .tru, .links] a4 t := by
  cases h
  refine State.packetIn_frame_k rfl (fun _ => ?_) ?_
  · refine Frame.step (State.exchangeNote_frame ..) rfl ?_
    exact Frame.refl _ _
  · refine Frame.step (State.at_frame ..) rfl ?_
    exact Frame.refl _ _

theorem execAnnounce_frame {a0} {a1} {a2} {a3} {t : State} (h : execAnnounce a0 a1 a2 a3 = .next t) :
    Frame [.free, .uptime, .entries, .tru, .links] a3 t := by
  cases h
  refine State.packetIn_frame_k rfl (fun _ => ?_) ?_
  · refine Frame.step (State.exchangeNote_frame ..) rfl ?_
    exact Frame.refl _ _
  · refine Frame.step (State.at_frame ..) rfl ?_
    exact Frame.refl _ _

theorem execHold_frame {a0} {a1} {a2} {a3} {t : State} (h : execHold a0 a1 a2 a3 = .next t) :
    Frame [.free, .uptime, .entries, .steps, .links] a3 t := by
  cases h
  refine State.packetIn_frame_k rfl (fun _ => ?_) ?_
  · split
    · refine Frame.step (State.setStep_frame ..) rfl ?_
      exact Frame.refl _ _
    · exact Frame.refl _ _
    · refine Frame.step (State.earlyNote_frame ..) rfl ?_
      exact Frame.refl _ _
  · refine Frame.step (State.at_frame ..) rfl ?_
    exact Frame.refl _ _

theorem execEpoch_frame {a0} {a1} {a2} {t : State} (h : execEpoch a0 a1 a2 = .next t) :
    Frame [.free, .entries, .links] a2 t := by
  cases h
  refine State.packetIn_frame_k rfl (fun _ => ?_) ?_
  · refine Frame.step (State.sendControl_frame ..) rfl ?_
    refine Frame.ite ?_ ?_
    · refine Frame.set_links _ rfl ?_
      exact Frame.refl _ _
    · exact Frame.refl _ _
  · exact Frame.refl _ _

theorem execEpochAck_frame {a0} {a1} {a2} {t : State} (h : execEpochAck a0 a1 a2 = .next t) :
    Frame [.free, .entries, .links] a2 t := by
  cases h
  refine State.packetIn_frame_k rfl (fun _ => ?_) ?_
  · refine Frame.set_links _ rfl ?_
    exact Frame.refl _ _
  · exact Frame.refl _ _

theorem execBorder_frame {a0} {a1} {a2} {t : State} (h : execBorder a0 a1 a2 = .next t) :
    Frame [.free, .out, .entries, .ctxEntries, .host, .near, .nearMem, .bulk, .bulkMem, .store, .storeMem, .rings, .msix, .pages, .cmds, .steps, .array, .ctxs, .serve, .links, .health, .power] a2 t := by
  cases h
  refine State.packetIn_frame_k rfl (fun _ => ?_) ?_
  · refine Frame.step (State.borderCame_frame ..) rfl ?_
    exact Frame.refl _ _
  · exact Frame.refl _ _

theorem execGroupCommit_frame {a0} {a1} {a2} {t : State} (h : execGroupCommit a0 a1 a2 = .next t) :
    Frame [.free, .out, .uptime, .dev, .entries, .ctxEntries, .host, .near, .nearMem, .bulk, .bulkMem, .store, .rings, .loops, .msix, .pages, .counters, .cmds, .steps, .array, .ctxs, .serve, .tru, .links, .kop, .health, .power] a2 t := by
  cases h
  split
  · refine Frame.ite ?_ ?_
    · split
      · refine Frame.step (State.disagree_frame ..) rfl ?_
        refine Frame.step (State.at_frame ..) rfl ?_
        exact Frame.refl _ _
      · refine Frame.ite ?_ ?_
        · refine Frame.step (State.settleHostReset_frame ..) rfl ?_
          refine Frame.step (State.settleRecovery_frame ..) rfl ?_
          refine Frame.step (State.commit_frame ..) rfl ?_
          refine Frame.step (State.at_frame ..) rfl ?_
          exact Frame.refl _ _
        · exact Frame.refl _ _
    · exact Frame.refl _ _
  · exact Frame.refl _ _

theorem execGroupOutcomeUnknown_frame {a0} {a1} {a2} {t : State} (h : execGroupOutcomeUnknown a0 a1 a2 = .next t) :
    Frame [.free, .out, .uptime, .dev, .entries, .ctxEntries, .host, .near, .nearMem, .bulk, .bulkMem, .store, .rings, .loops, .msix, .pages, .cmds, .steps, .array, .ctxs, .serve, .tru, .links, .kop, .health, .power] a2 t := by
  cases h
  split
  · refine Frame.ite ?_ ?_
    · split
      · exact Frame.refl _ _
      · dsimp only
        refine Frame.step (State.nextSearch_frame ..) rfl ?_
        refine Frame.step (State.settleHostReset_frame ..) rfl ?_
        refine Frame.step (State.settleRecovery_frame ..) rfl ?_
        refine Frame.step (State.startReset_frame ..) rfl ?_
        refine Frame.ite ?_ ?_
        · refine Frame.ite ?_ ?_
          · refine Frame.step (State.silentEnd_frame ..) rfl ?_
            refine Frame.step (State.event_frame ..) rfl ?_
            refine Frame.step (State.at_frame ..) rfl ?_
            exact Frame.refl _ _
          · refine Frame.step (State.failEnd_frame ..) rfl ?_
            refine Frame.step (State.event_frame ..) rfl ?_
            refine Frame.step (State.at_frame ..) rfl ?_
            exact Frame.refl _ _
        · refine Frame.foldl _ (fun _ _ => ?_) ?_
          · refine Frame.step (State.rappel_frame ..) rfl ?_
            exact Frame.refl _ _
          · refine Frame.ite ?_ ?_
            · refine Frame.step (State.silentEnd_frame ..) rfl ?_
              refine Frame.step (State.event_frame ..) rfl ?_
              refine Frame.step (State.at_frame ..) rfl ?_
              exact Frame.refl _ _
            · refine Frame.step (State.failEnd_frame ..) rfl ?_
              refine Frame.step (State.event_frame ..) rfl ?_
              refine Frame.step (State.at_frame ..) rfl ?_
              exact Frame.refl _ _
    · exact Frame.refl _ _
  · exact Frame.refl _ _

theorem execGroupEntryExpired_frame {a0} {a1} {a2} {a3} {t : State} (h : execGroupEntryExpired a0 a1 a2 a3 = .next t) :
    Frame [.free, .uptime, .entries, .links] a3 t := by
  cases h
  dsimp only
  split
  · refine Frame.ite ?_ ?_
    · refine Frame.step (State.dbump_frame ..) rfl ?_
      refine Frame.set_links _ rfl ?_
      refine Frame.step (State.at_frame ..) rfl ?_
      exact Frame.refl _ _
    · exact Frame.refl _ _
  · exact Frame.refl _ _

theorem execQuiescenceLimit_frame {a0} {a1} {a2} {t : State} (h : execQuiescenceLimit a0 a1 a2 = .next t) :
    Frame [.free, .uptime, .ctxEntries, .steps, .array, .ctxs, .links] a2 t := by
  cases h
  dsimp only
  refine Frame.ite ?_ ?_
  · exact Frame.refl _ _
  · refine Frame.step (State.advanceLosing_frame ..) rfl ?_
    refine Frame.set_links _ rfl ?_
    refine Frame.foldl _ (fun _ _ => ?_) ?_
    · refine Frame.step (State.endConfirm_frame ..) rfl ?_
      exact Frame.refl _ _
    · refine Frame.step (State.at_frame ..) rfl ?_
      exact Frame.refl _ _

theorem execWrite_frame {a0} {a1} {a2} {a3} {t : State} (h : execWrite a0 a1 a2 a3 = .next t) :
    Frame [.free, .out, .entries, .ctxEntries, .host, .near, .nearMem, .bulk, .bulkMem, .rings, .msix, .pages, .counters, .cmds, .tru, .links, .health, .power] a3 t := by
  cases h
  refine State.packetIn_frame_k rfl (fun _ => ?_) ?_
  · refine Frame.step (State.serveAccess_frame ..) rfl ?_
    exact Frame.refl _ _
  · exact Frame.refl _ _

end Sys2Proof.Machine
end

