-- ==== Sys2Proof/Laws/Health.lean ====
section
/-! SUPPORT. What the operations of Health can change: one frame each. -/

namespace Sys2Proof.Machine

theorem State.writeHealthAck_frame (a0) (a1) :
    Frame [.entries, .health] a0 (State.writeHealthAck a0 a1).1 := by
  unfold State.writeHealthAck
  refine Frame.foldl _ (fun _ _ => ?_) ?_
  · refine Frame.step (State.dset_frame ..) rfl ?_
    exact Frame.refl _ _
  · refine Frame.set_health _ rfl ?_
    exact Frame.refl _ _

theorem State.writeHealthMask_frame (a0) (a1) :
    Frame [.entries] a0 (State.writeHealthMask a0 a1).1 := by
  unfold State.writeHealthMask
  refine Frame.step (State.dset_frame ..) rfl ?_
  exact Frame.refl _ _

theorem State.dropMails_frame (a0) :
    Frame [.hif] a0 (State.dropMails a0) := by
  unfold State.dropMails
  dsimp only
  refine Frame.set_hif _ (.inr rfl) (.inr rfl) (.inr rfl) (.inr rfl) (.inl rfl) ?_
  exact Frame.refl _ _

theorem execBasecampTakeover_frame {a0} {a1} {t : State} (h : execBasecampTakeover a0 a1 = .next t) :
    Frame [.free, .out, .uptime, .dev, .entries, .hif, .msix, .links, .kop, .health] a1 t := by
  cases h
  refine Frame.ite ?_ ?_
  · exact Frame.refl _ _
  · dsimp only
    refine Frame.ite ?_ ?_
    · split
      · refine Frame.step (State.restartRecovery_frame ..) rfl ?_
        refine Frame.set_dev _ rfl ?_
        refine Frame.step (State.event_frame ..) rfl ?_
        refine Frame.step (State.dset_frame ..) rfl ?_
        refine Frame.step (State.dset_frame ..) rfl ?_
        refine Frame.step (State.dropMails_frame ..) rfl ?_
        refine Frame.set_kop _ rfl ?_
        refine Frame.step (State.at_frame ..) rfl ?_
        exact Frame.refl _ _
      · refine Frame.set_dev _ rfl ?_
        refine Frame.step (State.event_frame ..) rfl ?_
        refine Frame.step (State.dset_frame ..) rfl ?_
        refine Frame.step (State.dset_frame ..) rfl ?_
        refine Frame.step (State.dropMails_frame ..) rfl ?_
        refine Frame.set_kop _ rfl ?_
        refine Frame.step (State.at_frame ..) rfl ?_
        exact Frame.refl _ _
      · refine Frame.step (State.event_frame ..) rfl ?_
        refine Frame.step (State.dset_frame ..) rfl ?_
        refine Frame.step (State.dset_frame ..) rfl ?_
        refine Frame.step (State.dropMails_frame ..) rfl ?_
        refine Frame.set_kop _ rfl ?_
        refine Frame.step (State.at_frame ..) rfl ?_
        exact Frame.refl _ _
    · refine Frame.step (State.resupply_frame ..) rfl ?_
      refine Frame.step (State.lowestPoints_frame ..) rfl ?_
      refine Frame.set_health _ rfl ?_
      refine Frame.step (State.at_frame ..) rfl ?_
      exact Frame.refl _ _

theorem State.dueRotation_frame (a0) (a1) :
    Frame [.health] a0 (State.dueRotation a0 a1) := by
  unfold State.dueRotation
  refine Frame.set_health _ rfl ?_
  exact Frame.refl _ _

theorem execCoreRotatePeriod_frame {a0} {a1} {a2} {t : State} (h : execCoreRotatePeriod a0 a1 a2 = .next t) :
    Frame [.uptime, .health] a2 t := by
  cases h
  refine Frame.ite ?_ ?_
  · dsimp only
    refine Frame.set_health _ rfl ?_
    refine Frame.step (State.dueRotation_frame ..) rfl ?_
    refine Frame.step (State.at_frame ..) rfl ?_
    exact Frame.refl _ _
  · exact Frame.refl _ _

theorem State.rotate_frame (a0) (a1) (a2) (a3) :
    Frame [.entries, .health, .power] a0 (State.rotate a0 a1 a2 a3) := by
  unfold State.rotate
  dsimp only
  refine Frame.set_health _ rfl ?_
  refine Frame.step (State.replaceCore_frame ..) rfl ?_
  refine Frame.step (State.powerCluster_frame ..) rfl ?_
  exact Frame.refl _ _

theorem execCoreRotation_frame {a0} {a1} {t : State} (h : execCoreRotation a0 a1 = .next t) :
    Frame [.entries, .health, .power] a1 t := by
  cases h
  dsimp only
  split
  · refine Frame.ite ?_ ?_
    · refine Frame.step (State.rotate_frame ..) rfl ?_
      exact Frame.refl _ _
    · exact Frame.refl _ _
  · exact Frame.refl _ _

theorem State.spareTested_frame (a0) (a1) (a2) :
    Frame [.free, .out, .entries, .msix, .health] a0 (State.spareTested a0 a1 a2) := by
  unfold State.spareTested
  dsimp only
  split
  · refine Frame.ite ?_ ?_
    · refine Frame.set_health _ rfl ?_
      exact Frame.refl _ _
    · refine Frame.step (State.event_frame ..) rfl ?_
      refine Frame.step (State.setCoreState_frame ..) rfl ?_
      refine Frame.set_health _ rfl ?_
      exact Frame.refl _ _
  · refine Frame.set_health _ rfl ?_
    exact Frame.refl _ _

theorem execRotationTestEnd_frame {a0} {a1} {a2} {t : State} (h : execRotationTestEnd a0 a1 a2 = .next t) :
    Frame [.free, .out, .entries, .msix, .health] a2 t := by
  cases h
  split
  · refine Frame.ite ?_ ?_
    · refine Frame.step (State.spareTested_frame ..) rfl ?_
      exact Frame.refl _ _
    · exact Frame.refl _ _
  · dsimp only
    refine Frame.ite ?_ ?_
    · refine Frame.step (State.setCoreState_frame ..) rfl ?_
      refine Frame.step (State.dbump_frame ..) rfl ?_
      refine Frame.step (State.endRotation_frame ..) rfl ?_
      exact Frame.refl _ _
    · refine Frame.step (State.event_frame ..) rfl ?_
      refine Frame.step (State.setCoreState_frame ..) rfl ?_
      refine Frame.step (State.dbump_frame ..) rfl ?_
      refine Frame.step (State.endRotation_frame ..) rfl ?_
      exact Frame.refl _ _

theorem State.startTest_frame (a0) (a1) :
    Frame [.entries, .health, .power] a0 (State.startTest a0 a1).1 := by
  unfold State.startTest
  dsimp only
  refine Frame.ite_of Prod.fst ?_ ?_
  · exact Frame.refl _ _
  · dsimp only
    refine Frame.step (State.dset_frame ..) rfl ?_
    refine Frame.step (State.resupply_frame ..) rfl ?_
    refine Frame.step (State.powerOn_frame ..) rfl ?_
    refine Frame.set_health _ rfl ?_
    exact Frame.refl _ _

theorem State.writeTestRequest_frame (a0) (a1) :
    Frame [.entries, .health, .power] a0 (State.writeTestRequest a0 a1).1 := by
  unfold State.writeTestRequest
  refine Frame.ite_of Prod.fst ?_ ?_
  · refine Frame.step (State.startTest_frame ..) rfl ?_
    exact Frame.refl _ _
  · dsimp only
    refine Frame.step (State.dueRotation_frame ..) rfl ?_
    exact Frame.refl _ _

theorem State.retireTested_frame {s cl p} {t : State} (h : State.retireTested s cl p = some t) :
    Frame [.array, .health] s t := by
  unfold State.retireTested at h
  split at h
  · cases h
  · split at h
    · cases h; exact Frame.mono (State.setCoreState_frame ..) rfl
    · cases h
      exact Frame.step (State.freshCore_frame ..) rfl (Frame.mono (State.replaceCore_frame ..) rfl)

theorem State.testServes_frame (a0) (a1) (a2) :
    Frame [.free, .out, .entries, .ctxEntries, .host, .near, .nearMem, .bulk, .bulkMem, .rings, .loops, .msix, .pages, .cmds, .steps, .array, .ctxs, .serve, .links, .health, .power] a0 (State.testServes a0 a1 a2) := by
  unfold State.testServes
  refine Frame.ite ?_ ?_
  · refine Frame.step (State.returnCluster_frame ..) rfl ?_
    exact Frame.refl _ _
  · refine Frame.step (State.unstrandAll_frame ..) rfl ?_
    exact Frame.refl _ _

theorem State.endTest_frame (s : State) (cl iso failed rest) :
    Frame [.free, .out, .entries, .ctxEntries, .host, .near, .nearMem, .bulk, .bulkMem, .rings, .loops, .msix, .pages, .cmds, .steps, .array, .ctxs, .serve, .links, .health, .power] s (s.endTest cl iso failed rest) := by
  unfold State.endTest
  extract_lets failed src s1 isolate core r s2 s3
  have h2 : Frame [.free, .out, .entries, .ctxEntries, .host, .near, .nearMem, .bulk, .bulkMem, .rings, .loops, .msix, .pages, .cmds, .steps, .array, .ctxs, .serve, .links, .health, .power] s s2 := Frame.step (State.dset_frame ..) rfl (Frame.set_health _ rfl (Frame.refl _ _))
  have hi : ∀ t, Frame [.free, .out, .entries, .ctxEntries, .host, .near, .nearMem, .bulk, .bulkMem, .rings, .loops, .msix, .pages, .cmds, .steps, .array, .ctxs, .serve, .links, .health, .power] s t → Frame [.free, .out, .entries, .ctxEntries, .host, .near, .nearMem, .bulk, .bulkMem, .rings, .loops, .msix, .pages, .cmds, .steps, .array, .ctxs, .serve, .links, .health, .power] s (isolate t) := fun t h =>
    Frame.ite (Frame.step (State.resupply_frame ..) rfl (Frame.step (State.setDomain_frame ..) rfl h))
      (Frame.step (State.isolateNow_frame ..) rfl h)
  clear_value s2 isolate
  have h3 : Frame [.free, .out, .entries, .ctxEntries, .host, .near, .nearMem, .bulk, .bulkMem, .rings, .loops, .msix, .pages, .cmds, .steps, .array, .ctxs, .serve, .links, .health, .power] s s3 := by
    refine Frame.ite (Frame.step (State.testServes_frame ..) rfl h2) ?_
    clear_value s3
    clear_value failed
    split
    · split
      next e => exact Frame.step (State.testServes_frame ..) rfl (Frame.step (State.retireTested_frame e) rfl h2)
      · exact hi _ h2
    · exact hi _ h2
  exact Frame.step (State.event_frame ..) rfl h3

theorem execClusterTestEnd_frame {a0} {a1} {a2} {a3} {t : State} (h : execClusterTestEnd a0 a1 a2 a3 = .next t) :
    Frame [.free, .out, .entries, .ctxEntries, .host, .near, .nearMem, .bulk, .bulkMem, .rings, .loops, .msix, .pages, .cmds, .steps, .array, .ctxs, .serve, .links, .health, .power] a3 t := by
  cases h
  split
  · refine Frame.ite ?_ ?_
    · refine Frame.step (State.endTest_frame ..) rfl ?_
      exact Frame.refl _ _
    · exact Frame.refl _ _
  · exact Frame.refl _ _

theorem State.age_frame (a0) (a1) (a2) (a3) :
    Frame [.free, .out, .entries, .msix, .health] a0 (State.age a0 a1 a2 a3) := by
  unfold State.age
  refine Frame.ite ?_ ?_
  · exact Frame.refl _ _
  · refine Frame.foldl _ (fun _ _ => ?_) ?_
    · refine Frame.ite ?_ ?_
      · refine Frame.step (State.event_frame ..) rfl ?_
        exact Frame.refl _ _
      · exact Frame.refl _ _
    · refine Frame.set_health _ rfl ?_
      exact Frame.refl _ _

theorem execLifeAccumulate_frame {a0} {a1} {a2} {t : State} (h : execLifeAccumulate a0 a1 a2 = .next t) :
    Frame [.free, .out, .uptime, .entries, .msix, .health] a2 t := by
  cases h
  refine Frame.ite ?_ ?_
  · refine Frame.foldl _ (fun _ _ => ?_) ?_
    · refine Frame.step (State.age_frame ..) rfl ?_
      exact Frame.refl _ _
    · refine Frame.set_health _ rfl ?_
      refine Frame.step (State.at_frame ..) rfl ?_
      exact Frame.refl _ _
  · exact Frame.refl _ _

theorem State.writePerturbEnable_frame (a0) (a1) :
    Frame [.free, .out, .entries, .msix, .health] a0 (State.writePerturbEnable a0 a1).1 := by
  unfold State.writePerturbEnable
  refine Frame.ite ?_ ?_
  · refine Frame.step (State.event_frame ..) rfl ?_
    refine Frame.step (State.dset_frame ..) rfl ?_
    exact Frame.refl _ _
  · refine Frame.ite ?_ ?_
    · refine Frame.step (State.event_frame ..) rfl ?_
      refine Frame.step (State.dset_frame ..) rfl ?_
      exact Frame.refl _ _
    · refine Frame.step (State.dset_frame ..) rfl ?_
      exact Frame.refl _ _

theorem State.writePerturbSlot_frame (a0) (a1) (a2) :
    Frame [.health] a0 (State.writePerturbSlot a0 a1 a2).1 := by
  unfold State.writePerturbSlot
  refine Frame.ite_of Prod.fst ?_ ?_
  · refine Frame.set_health _ rfl ?_
    exact Frame.refl _ _
  · exact Frame.refl _ _

theorem State.settleLock_frame (a0) :
    Frame [.free, .out, .entries, .msix, .health] a0 (State.settleLock a0) := by
  unfold State.settleLock
  dsimp only
  refine Frame.ite ?_ ?_
  · exact Frame.refl _ _
  · refine Frame.ite ?_ ?_
    · refine Frame.set_health _ rfl ?_
      refine Frame.step (State.dset_frame ..) rfl ?_
      exact Frame.refl _ _
    · refine Frame.step (State.event_frame ..) rfl ?_
      refine Frame.step (State.dset_frame ..) rfl ?_
      exact Frame.refl _ _

theorem State.setTap_frame (a0) (a1) :
    Frame [.health] a0 (State.setTap a0 a1) := by
  unfold State.setTap
  refine Frame.set_health _ rfl ?_
  exact Frame.refl _ _

theorem execTckEdge_frame {a0} {a1} {a2} {a3} {a4} {t : State} (h : execTckEdge a0 a1 a2 a3 a4 = .next t) :
    Frame [.out, .health] a4 t := by
  cases h
  refine Frame.ite ?_ ?_
  · exact Frame.refl _ _
  · refine Frame.ite ?_ ?_
    · refine Frame.step (State.setTap_frame ..) rfl ?_
      exact Frame.refl _ _
    · dsimp only
      split
      · refine Frame.step (State.emit_frame ..) rfl ?_
        refine Frame.step (State.setTap_frame ..) rfl ?_
        exact Frame.refl _ _
      · refine Frame.step (State.setTap_frame ..) rfl ?_
        exact Frame.refl _ _

theorem execTrstNAssert_frame {a0} {t : State} (h : execTrstNAssert a0 = .next t) :
    Frame [.health] a0 t := by
  cases h
  refine Frame.ite ?_ ?_
  · refine Frame.step (State.setTap_frame ..) rfl ?_
    exact Frame.refl _ _
  · exact Frame.refl _ _

end Sys2Proof.Machine
end

