-- ==== Sys2Proof/Laws/Bringup.lean ====
section
/-! SUPPORT. What the operations of Bringup can change: one frame each. -/

namespace Sys2Proof.Machine

/-! ### The bootstrap map is a canonical memory -/

theorem tsorted_pairwise {α : Type} (t : Tab α) (h : t.Pairwise fun x y => x.1 < y.1) : ∀ b : Option Nat,
    (∀ m, b = some m → ∀ kv ∈ t, m < kv.1) → tsorted b t = true := by
  induction t with
  | nil => intros; rfl
  | cons kv t ih =>
    intro b hb
    rw [List.pairwise_cons] at h
    exact (tsorted_cons ..).mpr ⟨fun m e => hb m e kv (by simp),
      ih h.2 _ fun m e x hx => by cases e; exact h.1 x hx⟩

theorem leBytes_length (n v : Nat) : (leBytes n v).length = n := by
  induction n generalizing v with
  | zero => rfl
  | succ n ih => simp [leBytes, ih]

theorem zipIdx_cells (bs : Bytes) (a k : Nat) :
    (((bs.zipIdx k).map fun (x : Byte × Nat) => (a + x.2, x.1)).Pairwise fun x y => x.1 < y.1) ∧
    ∀ c ∈ (bs.zipIdx k).map fun (x : Byte × Nat) => (a + x.2, x.1), a + k ≤ c.1 ∧ c.1 < a + k + bs.length := by
  induction bs generalizing k with
  | nil => simp
  | cons b bs ih =>
    obtain ⟨hp, hm⟩ := ih (k + 1)
    simp only [List.zipIdx_cons, List.map_cons, List.pairwise_cons, List.mem_cons, List.length_cons]
    refine ⟨⟨fun c hc => ?_, hp⟩, fun c hc => ?_⟩
    · have := hm c hc; omega
    · rcases hc with rfl | hc
      · simp
      · have := hm c hc; omega

theorem entryCells_pairwise (a v : Nat) : (entryCells a v).Pairwise fun x y => x.1 < y.1 :=
  (zipIdx_cells (leBytes 8 v) a 0).1.sublist List.filter_sublist

theorem entryCells_mem {a v : Nat} {c : Host.Cell} (h : c ∈ entryCells a v) : a ≤ c.1 ∧ c.1 < a + 8 ∧ c.2 ≠ 0 := by
  unfold entryCells at h
  rw [List.mem_filter] at h
  have := (zipIdx_cells (leBytes 8 v) a 0).2 c h.1
  rw [leBytes_length] at this
  exact ⟨by omega, by omega, by simpa using h.2⟩

theorem bootstrapTable_mem {i : Nat} {c : Host.Cell} (h : c ∈ bootstrapTable i) :
    (i + 1) * 0x20000 ≤ c.1 ∧ c.1 < (i + 2) * 0x20000 ∧ c.2 ≠ 0 := by
  unfold bootstrapTable at h
  obtain ⟨j, hj, hc⟩ := List.mem_flatMap.mp h
  have hj := List.mem_range.mp (List.mem_filter.mp hj).1
  have := entryCells_mem hc
  exact ⟨by omega, by omega, this.2.2⟩

theorem bootstrapTable_pairwise (i : Nat) : (bootstrapTable i).Pairwise fun x y => x.1 < y.1 := by
  unfold bootstrapTable
  refine List.pairwise_flatMap.mpr ⟨fun j _ => entryCells_pairwise _ _, ?_⟩
  refine (List.pairwise_lt_range (n := 16384)).sublist List.filter_sublist |>.imp fun {j k} hjk x hx y hy => ?_
  have h1 := entryCells_mem hx
  have h2 := entryCells_mem hy
  omega

theorem memWf_bootstrapMap : memWf bootstrapMap = true := by
  rw [memWf, twf_iff]
  have hl : ∀ c ∈ (List.range 16).flatMap fun i => entryCells ((2 + i) * 8) (1 + (i + 1) * 0x20000),
      c.1 < 0x20000 ∧ c.2 ≠ 0 := fun c hc => by
    obtain ⟨i, hi, hc⟩ := List.mem_flatMap.mp hc
    have := List.mem_range.mp hi
    have := entryCells_mem hc
    exact ⟨by omega, this.2.2⟩
  have hr : ∀ c ∈ (List.range 16).flatMap bootstrapTable, 0x20000 ≤ c.1 ∧ c.2 ≠ 0 := fun c hc => by
    obtain ⟨i, -, hc⟩ := List.mem_flatMap.mp hc
    have := bootstrapTable_mem hc
    exact ⟨by omega, this.2.2⟩
  refine ⟨tsorted_pairwise _ ?_ none (by simp), fun c hc => ?_⟩
  · refine List.pairwise_append.mpr ⟨?_, ?_, fun x hx y hy => ?_⟩
    · refine List.pairwise_flatMap.mpr ⟨fun j _ => entryCells_pairwise _ _, ?_⟩
      refine (List.pairwise_lt_range (n := 16)).imp fun {j k} hjk x hx y hy => ?_
      have h1 := entryCells_mem hx
      have h2 := entryCells_mem hy
      omega
    · refine List.pairwise_flatMap.mpr ⟨fun j _ => bootstrapTable_pairwise _, ?_⟩
      refine (List.pairwise_lt_range (n := 16)).imp fun {j k} hjk x hx y hy => ?_
      have h1 := bootstrapTable_mem hx
      have h2 := bootstrapTable_mem hy
      omega
    · have h1 := hl x hx
      have h2 := hr y hy
      omega
  · rcases List.mem_append.mp hc with h | h
    · exact (hl c h).2
    · exact (hr c h).2

/-! ### Frames -/

theorem State.keepEntries_frame (a0) (a1) :
    Frame [.entries, .ctxEntries] a0 (State.keepEntries a0 a1) := by
  unfold State.keepEntries
  refine Frame.set_dict_cdict _ _ rfl rfl (tsorted_filter _ _ _) (by first | exact id | exact memWf_memWrite _ _ _ | exact memWf_memWrites _ _ _ | exact memWf_tclear _ _ _ | exact memWf_filter _ _ | exact tsorted_tset _ _ _ _ | exact tsorted_filter _ _ _ | exact twf_tset _ _ _ _ | exact fun _ => rfl) ?_
  exact Frame.refl _ _

theorem State.loseUnits_frame (a0) :
    Frame [.near, .nearMem, .bulk, .bulkMem, .store, .hif, .rings, .loops, .msix, .pages, .counters, .owners, .cmds, .steps, .array, .ctxs, .serve, .tru, .power] a0 (State.loseUnits a0) := by
  unfold State.loseUnits
  refine Frame.set_near_bulk_store_hif_counters_owners_cmds_steps_array_ctxs_serve_tru _ _ _ _ _ _ _ _ _ _ _ _ rfl rfl rfl rfl rfl rfl rfl rfl (by first | exact id | exact memWf_memWrite _ _ _ | exact memWf_memWrites _ _ _ | exact memWf_tclear _ _ _ | exact memWf_filter _ _ | exact tsorted_tset _ _ _ _ | exact tsorted_filter _ _ _ | exact twf_tset _ _ _ _ | exact fun _ => rfl) (.inl rfl) (.inl rfl) (by first | exact id | exact memWf_memWrite _ _ _ | exact memWf_memWrites _ _ _ | exact memWf_tclear _ _ _ | exact memWf_filter _ _ | exact tsorted_tset _ _ _ _ | exact tsorted_filter _ _ _ | exact twf_tset _ _ _ _ | exact fun _ => rfl) (.inl rfl) (.inl rfl) id (.inr rfl) (.inl rfl) (.inl rfl) (.inl rfl) (.inl rfl) (.inl rfl) (.inl rfl) (by first | exact id | exact memWf_memWrite _ _ _ | exact memWf_memWrites _ _ _ | exact memWf_tclear _ _ _ | exact memWf_filter _ _ | exact tsorted_tset _ _ _ _ | exact tsorted_filter _ _ _ | exact twf_tset _ _ _ _ | exact fun _ => rfl) (by first | exact id | exact memWf_memWrite _ _ _ | exact memWf_memWrites _ _ _ | exact memWf_tclear _ _ _ | exact memWf_filter _ _ | exact tsorted_tset _ _ _ _ | exact tsorted_filter _ _ _ | exact twf_tset _ _ _ _ | exact fun _ => rfl) ?_
  exact Frame.refl _ _

theorem State.powerHeld_frame (a0) :
    Frame [.entries] a0 (State.powerHeld a0) := by
  unfold State.powerHeld
  refine Frame.step (State.setDomains_frame ..) rfl ?_
  refine Frame.step (State.setDomains_frame ..) rfl ?_
  exact Frame.refl _ _

theorem execPwrGoodRise_frame {s t : State} (h : execPwrGoodRise s = .next t) :
    t = s ∨ ∃ pins, Frame [.free, .out, .entries, .msix, .health, .power]
      { s with uptime := 0, cdu := {}, pins := pins, dev := { mode := .reset } } t := by
  cases h
  split
  · exact .inl rfl
  · refine .inr ⟨{ s.pins with pwrGood := true, devRstN := false, tripLow := false, brakeSince := 0, brakeLogged := false }, ?_⟩
    have h := fun u : State => Frame.step (g := [.free, .out, .entries, .msix, .health, .power])
      (State.settleLock_frame (u.dset 0x3010 6 0 1)) rfl (Frame.mono (State.dset_frame ..) rfl)
    refine Frame.ite (Frame.step (State.powerHeld_frame ..) rfl (h _)) ?_
    exact Frame.foldl _ (fun _ _ => Frame.mono (State.event_frame ..) rfl) (h _)

/-- The rise of PWR_GOOD leaves canonical tables canonical, and the queue and the host's pages alone. -/
theorem execPwrGoodRise_canonical {s t : State} (h : execPwrGoodRise s = .next t) (c : Canonical s) :
    Canonical t ∧ t.pending = s.pending ∧ t.hostDown = s.hostDown := by
  rcases execPwrGoodRise_frame h with rfl | ⟨pins, f⟩
  · exact ⟨c, rfl, rfl⟩
  · exact ⟨f.canonical ⟨c.near, c.bulk, c.store, c.host, c.entries, c.ctxEntries, c.counters, c.owners⟩, f.queue, f.hostDown⟩

theorem State.cutSave_frame (a0) :
    Frame [.free, .entries, .kop] a0 (State.cutSave a0) := by
  unfold State.cutSave
  split
  · exact Frame.refl _ _
  · split
    dsimp only
    refine Frame.step (State.writeCopy_frame ..) rfl ?_
    refine Frame.ite ?_ ?_
    · refine Frame.step (State.writeCopy_frame ..) rfl ?_
      refine Frame.step (Frame.of_snd (State.fresh_frame ..) (by assumption)) rfl ?_
      exact Frame.refl _ _
    · refine Frame.step (Frame.of_snd (State.fresh_frame ..) (by assumption)) rfl ?_
      exact Frame.refl _ _

theorem State.powerDown_frame (a0) :
    Frame [.free, .pins, .dev, .cdu, .entries, .ctxEntries, .near, .nearMem, .bulk, .bulkMem, .store, .hif, .rings, .loops, .msix, .pages, .counters, .owners, .cmds, .steps, .array, .ctxs, .serve, .tru, .links, .kop, .health, .power] a0 (State.powerDown a0) := by
  unfold State.powerDown
  dsimp only
  refine Frame.set_pins_dev_cdu_bulk_links_kop_health_power _ _ _ _ _ _ _ _ rfl rfl rfl rfl rfl rfl rfl id (.inr rfl) (.inl rfl) ?_
  refine Frame.step (State.keepEntries_frame ..) rfl ?_
  refine Frame.step (State.loseUnits_frame ..) rfl ?_
  refine Frame.step (State.cutSave_frame ..) rfl ?_
  exact Frame.refl _ _

theorem execPwrGoodFall_frame {a0} {a1} {t : State} (h : execPwrGoodFall a0 a1 = .next t) :
    Frame [.free, .uptime, .pins, .dev, .cdu, .entries, .ctxEntries, .near, .nearMem, .bulk, .bulkMem, .store, .hif, .rings, .loops, .msix, .pages, .counters, .owners, .cmds, .steps, .array, .ctxs, .serve, .tru, .links, .kop, .health, .power] a1 t := by
  cases h
  refine Frame.ite ?_ ?_
  · exact Frame.refl _ _
  · refine Frame.set_pins_dev_cdu_bulk_links_kop_health_power _ _ _ _ _ _ _ _ rfl rfl rfl rfl rfl rfl rfl id (.inl rfl) (.inl rfl) ?_
    refine Frame.step (State.keepEntries_frame ..) rfl ?_
    refine Frame.step (State.loseUnits_frame ..) rfl ?_
    refine Frame.step (State.cutSave_frame ..) rfl ?_
    refine Frame.step (State.at_frame ..) rfl ?_
    exact Frame.refl _ _

theorem State.coldReset_frame (a0) :
    Frame [.free, .out, .dev, .entries, .ctxEntries, .host, .near, .nearMem, .bulk, .bulkMem, .store, .hif, .rings, .loops, .msix, .pages, .counters, .owners, .cmds, .steps, .array, .ctxs, .serve, .tru, .links, .kop, .health, .power] a0 (State.coldReset a0) := by
  unfold State.coldReset
  dsimp only
  refine Frame.step (State.recount_frame ..) rfl ?_
  refine Frame.step (State.resupply_frame ..) rfl ?_
  refine Frame.set_dev_links_kop_health _ _ _ _ rfl rfl rfl rfl ?_
  refine Frame.step (State.powerHeld_frame ..) rfl ?_
  refine Frame.step (State.setDomains_frame ..) rfl ?_
  refine Frame.step (State.keepEntries_frame ..) rfl ?_
  refine Frame.step (State.loseUnits_frame ..) rfl ?_
  refine Frame.step (State.leaveInstall_frame ..) rfl ?_
  refine Frame.step (State.abandonTest_frame ..) rfl ?_
  refine Frame.step (State.disarm_frame ..) rfl ?_
  refine Frame.step (State.endGrant_frame ..) rfl ?_
  refine Frame.step (State.endGrant_frame ..) rfl ?_
  refine Frame.set_hif _ (.inl rfl) (.inl rfl) (.inl rfl) (.inl rfl) (.inl rfl) ?_
  exact Frame.refl _ _

theorem execDevRstNAssert_frame {a0} {a1} {t : State} (h : execDevRstNAssert a0 a1 = .next t) :
    Frame [.free, .out, .uptime, .pins, .dev, .entries, .ctxEntries, .host, .near, .nearMem, .bulk, .bulkMem, .store, .hif, .rings, .loops, .msix, .pages, .counters, .owners, .cmds, .steps, .array, .ctxs, .serve, .tru, .links, .kop, .health, .power] a1 t := by
  cases h
  refine Frame.ite ?_ ?_
  · exact Frame.refl _ _
  · dsimp only
    refine Frame.step (State.settleLock_frame ..) rfl ?_
    refine Frame.ite ?_ ?_
    · refine Frame.step (State.dbump_frame ..) rfl ?_
      refine Frame.set_pins _ rfl ?_
      refine Frame.step (State.at_frame ..) rfl ?_
      exact Frame.refl _ _
    · refine Frame.step (State.dset_frame ..) rfl ?_
      refine Frame.step (State.dset_frame ..) rfl ?_
      refine Frame.step (State.dset_frame ..) rfl ?_
      refine Frame.step (State.coldReset_frame ..) rfl ?_
      refine Frame.step (State.dbump_frame ..) rfl ?_
      refine Frame.set_pins _ rfl ?_
      refine Frame.step (State.at_frame ..) rfl ?_
      exact Frame.refl _ _

theorem execResetHold_frame {a0} {a1} {t : State} (h : execResetHold a0 a1 = .next t) :
    Frame [.uptime, .dev, .entries] a1 t := by
  cases h
  refine Frame.ite ?_ ?_
  · refine Frame.set_dev _ rfl ?_
    refine Frame.step (State.setDomains_frame ..) rfl ?_
    refine Frame.step (State.at_frame ..) rfl ?_
    exact Frame.refl _ _
  · exact Frame.refl _ _

theorem State.beginBringup_frame (a0) :
    Frame [.dev] a0 (State.beginBringup a0) := by
  unfold State.beginBringup
  refine Frame.set_dev _ rfl ?_
  exact Frame.refl _ _

theorem execDevRstNDeassert_frame {a0} {a1} {a2} {t : State} (h : execDevRstNDeassert a0 a1 a2 = .next t) :
    Frame [.free, .out, .uptime, .pins, .dev, .entries, .msix, .kop, .health] a2 t := by
  cases h
  refine Frame.ite ?_ ?_
  · exact Frame.refl _ _
  · dsimp only
    refine Frame.step (State.settleLock_frame ..) rfl ?_
    refine Frame.ite ?_ ?_
    · refine Frame.step (State.beginBringup_frame ..) rfl ?_
      refine Frame.ite ?_ ?_
      · refine Frame.step (State.powerHeld_frame ..) rfl ?_
        refine Frame.set_pins_dev _ _ rfl rfl ?_
        refine Frame.step (State.setTap_frame ..) rfl ?_
        split
        · refine Frame.set_pins _ rfl ?_
          refine Frame.ite ?_ ?_
          · refine Frame.step (State.dput_frame ..) rfl ?_
            refine Frame.step (State.at_frame ..) rfl ?_
            exact Frame.refl _ _
          · refine Frame.step (State.at_frame ..) rfl ?_
            exact Frame.refl _ _
        · refine Frame.step (State.profileLog_frame ..) rfl ?_
          refine Frame.set_pins _ rfl ?_
          refine Frame.ite ?_ ?_
          · refine Frame.step (State.dput_frame ..) rfl ?_
            refine Frame.step (State.at_frame ..) rfl ?_
            exact Frame.refl _ _
          · refine Frame.step (State.at_frame ..) rfl ?_
            exact Frame.refl _ _
      · refine Frame.set_pins_dev _ _ rfl rfl ?_
        refine Frame.step (State.setTap_frame ..) rfl ?_
        split
        · refine Frame.set_pins _ rfl ?_
          refine Frame.ite ?_ ?_
          · refine Frame.step (State.dput_frame ..) rfl ?_
            refine Frame.step (State.at_frame ..) rfl ?_
            exact Frame.refl _ _
          · refine Frame.step (State.at_frame ..) rfl ?_
            exact Frame.refl _ _
        · refine Frame.step (State.profileLog_frame ..) rfl ?_
          refine Frame.set_pins _ rfl ?_
          refine Frame.ite ?_ ?_
          · refine Frame.step (State.dput_frame ..) rfl ?_
            refine Frame.step (State.at_frame ..) rfl ?_
            exact Frame.refl _ _
          · refine Frame.step (State.at_frame ..) rfl ?_
            exact Frame.refl _ _
    · refine Frame.set_pins_dev _ _ rfl rfl ?_
      refine Frame.step (State.setTap_frame ..) rfl ?_
      split
      · refine Frame.set_pins _ rfl ?_
        refine Frame.ite ?_ ?_
        · refine Frame.step (State.dput_frame ..) rfl ?_
          refine Frame.step (State.at_frame ..) rfl ?_
          exact Frame.refl _ _
        · refine Frame.step (State.at_frame ..) rfl ?_
          exact Frame.refl _ _
      · refine Frame.step (State.profileLog_frame ..) rfl ?_
        refine Frame.set_pins _ rfl ?_
        refine Frame.ite ?_ ?_
        · refine Frame.step (State.dput_frame ..) rfl ?_
          refine Frame.step (State.at_frame ..) rfl ?_
          exact Frame.refl _ _
        · refine Frame.step (State.at_frame ..) rfl ?_
          exact Frame.refl _ _

theorem State.unpower_frame (a0) :
    Frame [.entries] a0 (State.unpower a0) := by
  unfold State.unpower
  refine Frame.step (State.resupply_frame ..) rfl ?_
  refine Frame.step (State.setDomains_frame ..) rfl ?_
  refine Frame.step (State.setDomains_frame ..) rfl ?_
  exact Frame.refl _ _

theorem State.restartBringup_frame (a0) :
    Frame [.free, .out, .dev, .entries, .near, .nearMem, .bulk, .bulkMem, .store, .hif, .rings, .loops, .msix, .pages, .counters, .owners, .cmds, .steps, .array, .ctxs, .serve, .tru, .links, .kop, .health, .power] a0 (State.restartBringup a0) := by
  unfold State.restartBringup
  dsimp only
  refine Frame.set_dev_links _ _ rfl rfl ?_
  refine Frame.step (State.endGrant_frame ..) rfl ?_
  refine Frame.step (State.unpower_frame ..) rfl ?_
  refine Frame.step (State.loseUnits_frame ..) rfl ?_
  exact Frame.refl _ _

theorem execRailOutOfTolerance_frame {a0} {a1} {a2} {a3} {t : State} (h : execRailOutOfTolerance a0 a1 a2 a3 = .next t) :
    Frame [.free, .out, .uptime, .pins, .dev, .cdu, .entries, .ctxEntries, .host, .near, .nearMem, .bulk, .bulkMem, .store, .hif, .rings, .loops, .msix, .pages, .counters, .owners, .cmds, .steps, .array, .ctxs, .serve, .tru, .links, .kop, .health, .power] a3 t := by
  cases h
  refine Frame.ite ?_ ?_
  · exact Frame.refl _ _
  · dsimp only
    refine Frame.ite ?_ ?_
    · refine Frame.set_pins _ rfl ?_
      refine Frame.ite ?_ ?_
      · refine Frame.step (State.at_frame ..) rfl ?_
        exact Frame.refl _ _
      · exact Frame.refl _ _
    · refine Frame.ite ?_ ?_
      · refine Frame.step (State.powerDown_frame ..) rfl ?_
        refine Frame.step (State.event_frame ..) rfl ?_
        refine Frame.set_pins _ rfl ?_
        refine Frame.ite ?_ ?_
        · refine Frame.step (State.at_frame ..) rfl ?_
          exact Frame.refl _ _
        · exact Frame.refl _ _
      · split
        · refine Frame.step (State.startRecovery_frame ..) rfl ?_
          refine Frame.step (State.event_frame ..) rfl ?_
          refine Frame.set_pins _ rfl ?_
          refine Frame.ite ?_ ?_
          · refine Frame.step (State.at_frame ..) rfl ?_
            exact Frame.refl _ _
          · exact Frame.refl _ _
        · refine Frame.set_dev _ rfl ?_
          refine Frame.step (State.event_frame ..) rfl ?_
          refine Frame.set_pins _ rfl ?_
          refine Frame.ite ?_ ?_
          · refine Frame.step (State.at_frame ..) rfl ?_
            exact Frame.refl _ _
          · exact Frame.refl _ _
        · refine Frame.step (State.restartBringup_frame ..) rfl ?_
          refine Frame.step (State.event_frame ..) rfl ?_
          refine Frame.set_pins _ rfl ?_
          refine Frame.ite ?_ ?_
          · refine Frame.step (State.at_frame ..) rfl ?_
            exact Frame.refl _ _
          · exact Frame.refl _ _
        · refine Frame.step (State.endGrant_frame ..) rfl ?_
          refine Frame.step (State.unpower_frame ..) rfl ?_
          refine Frame.step (State.event_frame ..) rfl ?_
          refine Frame.set_pins _ rfl ?_
          refine Frame.ite ?_ ?_
          · refine Frame.step (State.at_frame ..) rfl ?_
            exact Frame.refl _ _
          · exact Frame.refl _ _
        · refine Frame.step (State.event_frame ..) rfl ?_
          refine Frame.set_pins _ rfl ?_
          refine Frame.ite ?_ ?_
          · refine Frame.step (State.at_frame ..) rfl ?_
            exact Frame.refl _ _
          · exact Frame.refl _ _

theorem State.railsBack_frame (a0) :
    Frame [.dev, .entries] a0 (State.railsBack a0) := by
  unfold State.railsBack
  split
  · refine Frame.step (State.powerHeld_frame ..) rfl ?_
    refine Frame.set_dev _ rfl ?_
    exact Frame.refl _ _
  · refine Frame.set_dev _ rfl ?_
    exact Frame.refl _ _
  · refine Frame.ite ?_ ?_
    · refine Frame.step (State.beginBringup_frame ..) rfl ?_
      refine Frame.step (State.powerHeld_frame ..) rfl ?_
      exact Frame.refl _ _
    · refine Frame.step (State.powerHeld_frame ..) rfl ?_
      exact Frame.refl _ _
  · exact Frame.refl _ _

theorem execRailMonitorSample_frame {a0} {a1} {a2} {a3} {t : State} (h : execRailMonitorSample a0 a1 a2 a3 = .next t) :
    Frame [.uptime, .pins, .dev, .entries, .power] a3 t := by
  cases h
  dsimp only
  refine Frame.ite ?_ ?_
  · refine Frame.set_pins _ rfl ?_
    exact Frame.refl _ _
  · refine Frame.ite ?_ ?_
    · refine Frame.step (State.railsBack_frame ..) rfl ?_
      refine Frame.step (State.railSample_frame ..) rfl ?_
      refine Frame.step (State.at_frame ..) rfl ?_
      refine Frame.set_pins _ rfl ?_
      exact Frame.refl _ _
    · refine Frame.step (State.railSample_frame ..) rfl ?_
      refine Frame.step (State.at_frame ..) rfl ?_
      refine Frame.set_pins _ rfl ?_
      exact Frame.refl _ _

theorem execRefclkSysLost_frame {a0} {a1} {t : State} (h : execRefclkSysLost a0 a1 = .next t) :
    Frame [.free, .out, .uptime, .pins, .entries, .msix, .health] a1 t := by
  cases h
  refine Frame.ite ?_ ?_
  · refine Frame.step (State.event_frame ..) rfl ?_
    refine Frame.set_pins _ rfl ?_
    refine Frame.step (State.at_frame ..) rfl ?_
    exact Frame.refl _ _
  · exact Frame.refl _ _

theorem execRefclkSysRestored_frame {a0} {a1} {t : State} (h : execRefclkSysRestored a0 a1 = .next t) :
    Frame [.free, .out, .uptime, .pins, .entries, .msix, .health] a1 t := by
  cases h
  refine Frame.ite ?_ ?_
  · refine Frame.step (State.event_frame ..) rfl ?_
    refine Frame.set_pins _ rfl ?_
    refine Frame.step (State.at_frame ..) rfl ?_
    exact Frame.refl _ _
  · exact Frame.refl _ _

theorem execRefclkLinkLost_frame {a0} {a1} {t : State} (h : execRefclkLinkLost a0 a1 = .next t) :
    Frame [.free, .out, .uptime, .pins, .entries, .ctxEntries, .host, .near, .nearMem, .bulk, .bulkMem, .store, .storeMem, .rings, .msix, .pages, .cmds, .steps, .array, .ctxs, .serve, .links, .health, .power] a1 t := by
  cases h
  refine Frame.ite ?_ ?_
  · dsimp only
    refine Frame.foldl _ (fun _ _ => ?_) ?_
    · refine Frame.ite ?_ ?_
      · exact Frame.refl _ _
      · refine Frame.step (State.setDomain_frame ..) rfl ?_
        refine Frame.step (State.linkLost_frame ..) rfl ?_
        exact Frame.refl _ _
    · refine Frame.set_pins _ rfl ?_
      refine Frame.step (State.at_frame ..) rfl ?_
      exact Frame.refl _ _
  · exact Frame.refl _ _

theorem execRefclkLinkRestored_frame {a0} {a1} {t : State} (h : execRefclkLinkRestored a0 a1 = .next t) :
    Frame [.uptime, .pins, .entries, .links] a1 t := by
  cases h
  refine Frame.ite ?_ ?_
  · refine Frame.ite ?_ ?_
    · refine Frame.foldl _ (fun _ _ => ?_) ?_
      · refine Frame.step (State.portUp_frame ..) rfl ?_
        exact Frame.refl _ _
      · refine Frame.set_pins _ rfl ?_
        refine Frame.step (State.at_frame ..) rfl ?_
        exact Frame.refl _ _
    · refine Frame.set_pins _ rfl ?_
      refine Frame.step (State.at_frame ..) rfl ?_
      exact Frame.refl _ _
  · exact Frame.refl _ _

theorem execRefclkPcieLost_frame {a0} {a1} {t : State} (h : execRefclkPcieLost a0 a1 = .next t) :
    Frame [.uptime, .pins, .hif] a1 t := by
  cases h
  refine Frame.ite ?_ ?_
  · refine Frame.set_pins_hif _ _ rfl (.inr rfl) (.inr rfl) (.inr rfl) (.inr rfl) (.inl rfl) ?_
    refine Frame.step (State.at_frame ..) rfl ?_
    exact Frame.refl _ _
  · exact Frame.refl _ _

theorem execRefclkPcieRestored_frame {a0} {a1} {t : State} (h : execRefclkPcieRestored a0 a1 = .next t) :
    Frame [.uptime, .pins, .hif] a1 t := by
  cases h
  refine Frame.ite ?_ ?_
  · refine Frame.set_pins_hif _ _ rfl (.inr rfl) (.inr rfl) (.inr rfl) (.inr rfl) (.inl rfl) ?_
    refine Frame.step (State.at_frame ..) rfl ?_
    exact Frame.refl _ _
  · exact Frame.refl _ _

theorem execCanRxdDominantTimeout_frame {a0} {a1} {t : State} (h : execCanRxdDominantTimeout a0 a1 = .next t) :
    Frame [.free, .out, .uptime, .pins, .entries, .msix, .health] a1 t := by
  cases h
  refine Frame.ite ?_ ?_
  · refine Frame.step (State.event_frame ..) rfl ?_
    refine Frame.set_pins _ rfl ?_
    refine Frame.step (State.at_frame ..) rfl ?_
    exact Frame.refl _ _
  · exact Frame.refl _ _

theorem execCanRxdRecessiveResume_frame {a0} {a1} {t : State} (h : execCanRxdRecessiveResume a0 a1 = .next t) :
    Frame [.uptime, .pins] a1 t := by
  cases h
  refine Frame.ite ?_ ?_
  · refine Frame.set_pins _ rfl ?_
    refine Frame.step (State.at_frame ..) rfl ?_
    exact Frame.refl _ _
  · exact Frame.refl _ _

theorem State.testPower_frame (a0) :
    Frame [.entries, .power] a0 (State.testPower a0) := by
  unfold State.testPower
  refine Frame.step (State.resupply_frame ..) rfl ?_
  refine Frame.foldl _ (fun _ _ => ?_) ?_
  · refine Frame.step (State.powerOn_frame ..) rfl ?_
    exact Frame.refl _ _
  · exact Frame.refl _ _

theorem State.bringUnits_frame (a0) :
    Frame [.entries, .bulk, .bulkMem, .links, .power] a0 (State.bringUnits a0) := by
  have hm : ∀ m : List Host.Cell, memWf m = true → ∀ s : State, Frame [.bulk, .bulkMem, .power] s
      { s with bulk := { s.bulk with mem := m, roots := [(256, 1)], lastAccess := [] } } := fun m hm s =>
    Frame.set_bulk _ (fun _ => hm) (.inl rfl) (.inl rfl) (Frame.refl _ _)
  unfold State.bringUnits
  refine Frame.foldl _ (fun _ _ => Frame.mono (State.portUp_frame ..) rfl) ?_
  refine Frame.step (State.testPower_frame ..) rfl ?_
  refine Frame.step (hm _ memWf_bootstrapMap _) rfl ?_
  exact Frame.step (State.setDomain_frame ..) rfl
      (Frame.step (State.setDomains_frame ..) rfl (Frame.mono (State.setDomains_frame ..) rfl))

theorem execProfileLoad_frame {a0} {a1} {t : State} (h : execProfileLoad a0 a1 = .next t) :
    Frame [.free, .out, .uptime, .dev, .cdu, .entries, .bulk, .bulkMem, .msix, .links, .kop, .health, .power] a1 t := by
  cases h
  refine Frame.ite ?_ ?_
  · exact Frame.refl _ _
  · refine Frame.ite ?_ ?_
    · dsimp only
      refine Frame.step (State.settleLock_frame ..) rfl ?_
      refine Frame.step (State.bringUnits_frame ..) rfl ?_
      refine Frame.set_dev _ rfl ?_
      refine Frame.step (State.loadProfile_frame ..) rfl ?_
      refine Frame.step (State.at_frame ..) rfl ?_
      exact Frame.refl _ _
    · refine Frame.ite ?_ ?_
      · dsimp only
        refine Frame.foldl _ (fun _ _ => ?_) ?_
        · refine Frame.step (State.portUp_frame ..) rfl ?_
          exact Frame.refl _ _
        · refine Frame.step (State.testPower_frame ..) rfl ?_
          refine Frame.step (State.settleLock_frame ..) rfl ?_
          refine Frame.step (State.setDomain_frame ..) rfl ?_
          refine Frame.step (State.setDomains_frame ..) rfl ?_
          refine Frame.set_dev _ rfl ?_
          refine Frame.step (State.loadProfile_frame ..) rfl ?_
          refine Frame.step (State.portsDown_frame ..) rfl ?_
          refine Frame.step (State.at_frame ..) rfl ?_
          exact Frame.refl _ _
      · exact Frame.refl _ _

theorem State.testCores_frame (s : State) (cl bad ps) : Frame [.health] s (s.testCores cl bad ps).1 := by
  induction ps generalizing s with
  | nil => exact Frame.refl _ _
  | cons p ps ih =>
    unfold State.testCores
    refine Frame.ite_of Prod.fst (ih _) (Frame.ite_of Prod.fst ?_ ?_)
    · exact Frame.trans (Frame.step (State.endRotation_frame ..) rfl (Frame.mono (State.setCoreState_frame ..) rfl)) (ih _)
    · split
      · exact Frame.ite_of Prod.fst (Frame.refl _ _) (Frame.trans (Frame.mono (State.replaceCore_frame ..) rfl) (ih _))
      · exact Frame.refl _ _

theorem State.settleReleased_frame (a0) (a1) :
    Frame [.health] a0 (State.settleReleased a0 a1) := by
  unfold State.settleReleased
  split
  · refine Frame.step (State.endRotation_frame ..) rfl ?_
    refine Frame.step (State.setCoreState_frame ..) rfl ?_
    exact Frame.refl _ _
  · exact Frame.refl _ _

theorem State.testCluster_frame (s : State) (cl bad fails) :
    Frame [.free, .out, .entries, .ctxEntries, .host, .near, .nearMem, .bulk, .bulkMem, .rings, .loops, .msix, .pages, .cmds, .steps, .array, .ctxs, .serve, .links, .health, .power] s (s.testCluster cl bad fails) := by
  unfold State.testCluster
  extract_lets iso tested s1 s2
  have ht : Frame [.free, .out, .entries, .ctxEntries, .host, .near, .nearMem, .bulk, .bulkMem, .rings, .loops, .msix, .pages, .cmds, .steps, .array, .ctxs, .serve, .links, .health, .power] s tested.1 := Frame.ite_of Prod.fst (Frame.refl _ _) (Frame.mono (State.testCores_frame ..) rfl)
  clear_value tested
  have h1 : Frame [.free, .out, .entries, .ctxEntries, .host, .near, .nearMem, .bulk, .bulkMem, .rings, .loops, .msix, .pages, .cmds, .steps, .array, .ctxs, .serve, .links, .health, .power] s s1 := Frame.step (State.settleReleased_frame ..) rfl ht
  have h2 : Frame [.free, .out, .entries, .ctxEntries, .host, .near, .nearMem, .bulk, .bulkMem, .rings, .loops, .msix, .pages, .cmds, .steps, .array, .ctxs, .serve, .links, .health, .power] s s2 := Frame.ite (Frame.step (State.returnCluster_frame ..) rfl h1) (Frame.step (State.setDomain_frame ..) rfl h1)
  exact Frame.ite (Frame.step (State.dset_frame ..) rfl h2)
    (Frame.ite (Frame.step (State.setDomain_frame ..) rfl ht) (Frame.step (State.isolateNow_frame ..) rfl ht))

theorem execClusterSelfTestEnd_frame {a0} {a1} {a2} {a3} {t : State} (h : execClusterSelfTestEnd a0 a1 a2 a3 = .next t) :
    Frame [.free, .out, .uptime, .dev, .entries, .ctxEntries, .host, .near, .nearMem, .bulk, .bulkMem, .rings, .loops, .msix, .pages, .cmds, .steps, .array, .ctxs, .serve, .links, .health, .power] a3 t := by
  cases h
  refine Frame.ite ?_ ?_
  · exact Frame.refl _ _
  · dsimp only
    refine Frame.step (State.resupply_frame ..) rfl ?_
    refine Frame.set_dev _ rfl ?_
    refine Frame.step (State.setDomains_frame ..) rfl ?_
    refine Frame.foldl _ (fun _ _ => ?_) ?_
    · refine Frame.step (State.testCluster_frame ..) rfl ?_
      exact Frame.refl _ _
    · refine Frame.step (State.at_frame ..) rfl ?_
      exact Frame.refl _ _

theorem execHostInterfaceResetEnd_frame {a0} {a1} {t : State} (h : execHostInterfaceResetEnd a0 a1 = .next t) :
    Frame [.uptime, .pins, .dev] a1 t := by
  cases h
  refine Frame.ite ?_ ?_
  · refine Frame.set_pins_dev _ _ rfl rfl ?_
    refine Frame.step (State.at_frame ..) rfl ?_
    exact Frame.refl _ _
  · exact Frame.refl _ _

theorem execDeviceReady_frame {a0} {a1} {a2} {a3} {a4} {t : State} (h : execDeviceReady a0 a1 a2 a3 a4 = .next t) :
    Frame [.free, .out, .uptime, .dev, .entries, .ctxEntries, .host, .near, .nearMem, .bulk, .bulkMem, .hif, .rings, .msix, .pages, .cmds, .steps, .array, .ctxs, .serve, .links, .health, .power] a4 t := by
  cases h
  refine Frame.ite ?_ ?_
  · exact Frame.refl _ _
  · dsimp only
    refine Frame.step (State.interrupt_frame ..) rfl ?_
    refine Frame.set_dev_hif _ _ rfl (.inr rfl) (.inr rfl) (.inr rfl) (.inr rfl) (.inl rfl) ?_
    refine Frame.ite ?_ ?_
    · refine Frame.step (State.endRecovery_frame ..) rfl ?_
      refine Frame.ite ?_ ?_
      · refine Frame.step (State.at_frame ..) rfl ?_
        exact Frame.refl _ _
      · refine Frame.set_hif _ (.inr rfl) (.inr rfl) (.inr rfl) (.inr rfl) (.inl rfl) ?_
        refine Frame.step (State.at_frame ..) rfl ?_
        exact Frame.refl _ _
    · refine Frame.ite ?_ ?_
      · refine Frame.step (State.at_frame ..) rfl ?_
        exact Frame.refl _ _
      · refine Frame.set_hif _ (.inr rfl) (.inr rfl) (.inr rfl) (.inr rfl) (.inl rfl) ?_
        refine Frame.step (State.at_frame ..) rfl ?_
        exact Frame.refl _ _

theorem execRecoveryTimeout_frame {a0} {a1} {t : State} (h : execRecoveryTimeout a0 a1 = .next t) :
    Frame [.uptime, .dev, .entries, .links] a1 t := by
  cases h
  refine Frame.ite ?_ ?_
  · dsimp only
    refine Frame.ite ?_ ?_
    · refine Frame.step (State.restartRecovery_frame ..) rfl ?_
      refine Frame.set_dev _ rfl ?_
      refine Frame.step (State.at_frame ..) rfl ?_
      exact Frame.refl _ _
    · refine Frame.set_dev _ rfl ?_
      refine Frame.step (State.at_frame ..) rfl ?_
      exact Frame.refl _ _
  · exact Frame.refl _ _

end Sys2Proof.Machine
end

