-- ==== Sys2Proof/Laws/Kop.lean ====
section
/-! SUPPORT. What the operations of Kop can change: one frame each. -/

namespace Sys2Proof.Machine

theorem State.setRole_frame (a0) (a1) (a2) :
    Frame [.kop] a0 (State.setRole a0 a1 a2) := by
  unfold State.setRole
  refine Frame.set_kop _ rfl ?_
  exact Frame.refl _ _

theorem State.roleRefused_frame (a0) (a1) :
    Frame [.free, .entries, .kop] a0 (State.roleRefused a0 a1).1 := by
  unfold State.roleRefused
  refine Frame.step (State.dbump_frame ..) rfl ?_
  refine Frame.step (State.setRole_frame ..) rfl ?_
  exact Frame.refl _ _

theorem State.writeRoleResponse_frame (a0) (a1) (a2) :
    Frame [.free, .out, .entries, .msix, .kop, .health] a0 (State.writeRoleResponse a0 a1 a2).1 := by
  unfold State.writeRoleResponse
  refine Frame.ite_of Prod.fst ?_ ?_
  · refine Frame.step (State.dbump_frame ..) rfl ?_
    exact Frame.refl _ _
  · split
    · refine Frame.step (State.roleRefused_frame ..) rfl ?_
      exact Frame.refl _ _
    · refine Frame.ite_of Prod.fst ?_ ?_
      · refine Frame.step (State.event_frame ..) rfl ?_
        refine Frame.step (State.setRole_frame ..) rfl ?_
        exact Frame.refl _ _
      · refine Frame.step (State.roleRefused_frame ..) rfl ?_
        exact Frame.refl _ _

theorem State.writeClusterAssign_frame (a0) (a1) (a2) :
    Frame [.entries] a0 (State.writeClusterAssign a0 a1 a2).1 := by
  unfold State.writeClusterAssign
  refine Frame.ite_of Prod.fst ?_ ?_
  · exact Frame.refl _ _
  · refine Frame.step (State.dset_frame ..) rfl ?_
    exact Frame.refl _ _

theorem State.writePool_frame (a0) (a1) (a2) :
    Frame [.ctxEntries, .near] a0 (State.writePool a0 a1 a2).1 := by
  unfold State.writePool
  refine Frame.ite_of Prod.fst ?_ ?_
  · exact Frame.refl _ _
  · refine Frame.ite_of Prod.fst ?_ ?_
    · exact Frame.refl _ _
    · refine Frame.step (State.cset_frame ..) rfl ?_
      refine Frame.set_near _ id (.inr rfl) (.inl rfl) ?_
      exact Frame.refl _ _

theorem State.writeBivouacVa_frame (a0) (a1) (a2) :
    Frame [.ctxEntries] a0 (State.writeBivouacVa a0 a1 a2).1 := by
  unfold State.writeBivouacVa
  refine Frame.ite_of Prod.fst ?_ ?_
  · exact Frame.refl _ _
  · refine Frame.step (State.cset_frame ..) rfl ?_
    exact Frame.refl _ _

theorem State.writeMgtEnable_frame (a0) (a1) :
    Frame [.free, .out, .entries, .msix, .kop, .health] a0 (State.writeMgtEnable a0 a1).1 := by
  unfold State.writeMgtEnable
  dsimp only
  refine Frame.ite ?_ ?_
  · refine Frame.step (State.endGrant_frame ..) rfl ?_
    refine Frame.step (State.setDomain_frame ..) rfl ?_
    refine Frame.step (State.dset_frame ..) rfl ?_
    exact Frame.refl _ _
  · refine Frame.step (State.setDomain_frame ..) rfl ?_
    refine Frame.step (State.dset_frame ..) rfl ?_
    exact Frame.refl _ _

theorem State.writeRecover_frame (a0) :
    Frame [.free, .out, .dev, .entries, .ctxEntries, .host, .near, .nearMem, .bulk, .bulkMem, .store, .hif, .rings, .loops, .msix, .pages, .cmds, .steps, .array, .ctxs, .serve, .tru, .links, .kop, .health, .power] a0 (State.writeRecover a0).1 := by
  unfold State.writeRecover
  dsimp only
  refine Frame.step (State.startRecovery_frame ..) rfl ?_
  exact Frame.refl _ _

theorem State.writeRelease_frame (a0) :
    Frame [.entries] a0 (State.writeRelease a0).1 := by
  unfold State.writeRelease
  refine Frame.step (State.dset_frame ..) rfl ?_
  exact Frame.refl _ _

theorem State.writeCtxReset_frame (a0) (a1) :
    Frame [.free, .out, .entries, .ctxEntries, .host, .near, .nearMem, .bulk, .bulkMem, .rings, .loops, .msix, .pages, .cmds, .steps, .array, .ctxs, .serve, .links, .health, .power] a0 (State.writeCtxReset a0 a1).1 := by
  unfold State.writeCtxReset
  dsimp only
  refine Frame.step (State.nextSearch_frame ..) rfl ?_
  refine Frame.step (State.startReset_frame ..) rfl ?_
  exact Frame.refl _ _

theorem State.writeCeiling_frame (a0) (a1) :
    Frame [.entries] a0 (State.writeCeiling a0 a1).1 := by
  unfold State.writeCeiling
  refine Frame.step (State.settleSlice_frame ..) rfl ?_
  refine Frame.step (State.dset_frame ..) rfl ?_
  exact Frame.refl _ _

theorem State.writePartitionNext_frame (a0) (a1) (a2) :
    Frame [.entries, .links] a0 (State.writePartitionNext a0 a1 a2).1 := by
  unfold State.writePartitionNext
  refine Frame.step (State.dset_frame ..) rfl ?_
  refine Frame.step (State.setPort_frame ..) rfl ?_
  exact Frame.refl _ _

theorem State.writeLockMode_frame (a0) (a1) :
    Frame [.free, .out, .entries, .msix, .health] a0 (State.writeLockMode a0 a1).1 := by
  unfold State.writeLockMode
  refine Frame.step (State.settleLock_frame ..) rfl ?_
  refine Frame.step (State.dset_frame ..) rfl ?_
  exact Frame.refl _ _

theorem State.writeCduApply_frame (a0) :
    Frame [.free, .cdu, .entries] a0 (State.writeCduApply a0).1 := by
  unfold State.writeCduApply
  split
  · refine Frame.step (Frame.of_fst (State.cduApply_frame ..) (by assumption)) rfl ?_
    exact Frame.refl _ _
  · refine Frame.step (Frame.of_fst (State.cduApply_frame ..) (by assumption)) rfl ?_
    exact Frame.refl _ _

theorem State.writePointReq_frame (a0) (a1) (a2) :
    Frame [.entries] a0 (State.writePointReq a0 a1 a2).1 := by
  unfold State.writePointReq
  refine Frame.step (State.dset_frame ..) rfl ?_
  exact Frame.refl _ _

theorem State.writePoolSlack_frame (a0) (a1) (a2) :
    Frame [.entries] a0 (State.writePoolSlack a0 a1 a2).1 := by
  unfold State.writePoolSlack
  refine Frame.step (State.dset_frame ..) rfl ?_
  exact Frame.refl _ _

theorem State.writeStoreSetting_frame (a0) (a1) (a2) :
    Frame [.entries] a0 (State.writeStoreSetting a0 a1 a2).1 := by
  unfold State.writeStoreSetting
  refine Frame.ite_of Prod.fst ?_ ?_
  · exact Frame.refl _ _
  · refine Frame.step (State.dset_frame ..) rfl ?_
    exact Frame.refl _ _

theorem State.writePlain_frame (a0) (a1) (a2) (a3) (a4) :
    Frame [.entries, .ctxEntries] a0 (State.writePlain a0 a1 a2 a3 a4).1 := by
  unfold State.writePlain
  refine Frame.ite ?_ ?_
  · refine Frame.step (State.cset_frame ..) rfl ?_
    exact Frame.refl _ _
  · refine Frame.step (State.dset_frame ..) rfl ?_
    exact Frame.refl _ _

theorem State.writeOctets_frame (a0) (a1) (a2) (a3) :
    Frame [.free, .out, .entries, .store, .msix, .kop, .health] a0 (State.writeOctets a0 a1 a2 a3).1 := by
  unfold State.writeOctets
  split
  · refine Frame.step (State.writeRoleResponse_frame ..) rfl ?_
    exact Frame.refl _ _
  · refine Frame.step (State.writeProfileImage_frame ..) rfl ?_
    exact Frame.refl _ _
  · refine Frame.step (State.writeProfileImage_frame ..) rfl ?_
    exact Frame.refl _ _
  · refine Frame.step (State.writeProfileImage_frame ..) rfl ?_
    exact Frame.refl _ _
  · refine Frame.step (State.writeProfileImage_frame ..) rfl ?_
    exact Frame.refl _ _
  · refine Frame.step (State.writeStoreKey_frame ..) rfl ?_
    exact Frame.refl _ _
  · refine Frame.step (State.writeStoreKey_frame ..) rfl ?_
    exact Frame.refl _ _
  · refine Frame.step (State.writeStoreKey_frame ..) rfl ?_
    exact Frame.refl _ _

theorem State.writeDevice_frame (a0) (a1) (a2) (a3) (a4) (a5) :
    Frame [.free, .out, .dev, .cdu, .entries, .ctxEntries, .host, .near, .nearMem, .bulk, .bulkMem, .store, .storeMem, .hif, .rings, .loops, .msix, .pages, .cmds, .steps, .array, .ctxs, .serve, .tru, .links, .kop, .health, .power] a0 (State.writeDevice a0 a1 a2 a3 a4 a5).1 := by
  unfold State.writeDevice
  split
  · refine Frame.step (State.writeMgtEnable_frame ..) rfl ?_
    exact Frame.refl _ _
  · dsimp only
    refine Frame.step (State.endGrant_frame ..) rfl ?_
    exact Frame.refl _ _
  · refine Frame.step (State.writeProfileSave_frame ..) rfl ?_
    exact Frame.refl _ _
  · refine Frame.step (State.writeProfileErase_frame ..) rfl ?_
    exact Frame.refl _ _
  · refine Frame.step (State.writePointReq_frame ..) rfl ?_
    exact Frame.refl _ _
  · refine Frame.step (State.writeCduApply_frame ..) rfl ?_
    exact Frame.refl _ _
  · refine Frame.step (State.writeClusterAssign_frame ..) rfl ?_
    exact Frame.refl _ _
  · refine Frame.step (State.writePoolSlack_frame ..) rfl ?_
    exact Frame.refl _ _
  · refine Frame.step (State.writeLoopLane_frame ..) rfl ?_
    exact Frame.refl _ _
  · refine Frame.step (State.writeHealthMask_frame ..) rfl ?_
    exact Frame.refl _ _
  · refine Frame.step (State.writeHealthAck_frame ..) rfl ?_
    exact Frame.refl _ _
  · refine Frame.step (State.writeTestRequest_frame ..) rfl ?_
    exact Frame.refl _ _
  · refine Frame.step (State.writeRecover_frame ..) rfl ?_
    exact Frame.refl _ _
  · refine Frame.step (State.writeRelease_frame ..) rfl ?_
    exact Frame.refl _ _
  · refine Frame.step (State.writeCeiling_frame ..) rfl ?_
    exact Frame.refl _ _
  · refine Frame.step (State.writePartitionApply_frame ..) rfl ?_
    exact Frame.refl _ _
  · refine Frame.step (State.writePerturbEnable_frame ..) rfl ?_
    exact Frame.refl _ _
  · refine Frame.step (State.writeLockMode_frame ..) rfl ?_
    exact Frame.refl _ _
  · refine Frame.step (State.writeInstallMode_frame ..) rfl ?_
    exact Frame.refl _ _
  · refine Frame.step (State.writeStoreOpen_frame ..) rfl ?_
    exact Frame.refl _ _
  · refine Frame.step (State.writeStoreCommit_frame ..) rfl ?_
    exact Frame.refl _ _
  · refine Frame.step (State.writeStoreErase_frame ..) rfl ?_
    exact Frame.refl _ _
  · refine Frame.step (State.writeStoreSetting_frame ..) rfl ?_
    exact Frame.refl _ _
  · refine Frame.step (State.writeStoreSetting_frame ..) rfl ?_
    exact Frame.refl _ _
  · refine Frame.step (State.writeKeyRevoke_frame ..) rfl ?_
    exact Frame.refl _ _
  · refine Frame.step (State.writePlain_frame ..) rfl ?_
    exact Frame.refl _ _

theorem State.writeBlock_frame (a0) (a1) (a2) (a3) (a4) (a5) :
    Frame [.free, .out, .entries, .ctxEntries, .host, .near, .nearMem, .bulk, .bulkMem, .store, .storeMem, .rings, .loops, .msix, .pages, .cmds, .steps, .array, .ctxs, .serve, .links, .health, .power] a0 (State.writeBlock a0 a1 a2 a3 a4 a5).1 := by
  unfold State.writeBlock
  dsimp only
  split
  · dsimp only
    refine Frame.step (State.writeShare_frame ..) rfl ?_
    exact Frame.refl _ _
  · refine Frame.step (State.writePool_frame ..) rfl ?_
    exact Frame.refl _ _
  · refine Frame.step (State.writeBivouacVa_frame ..) rfl ?_
    exact Frame.refl _ _
  · refine Frame.step (State.writeCtxReset_frame ..) rfl ?_
    exact Frame.refl _ _
  · refine Frame.step (State.writeLaneSwitch_frame ..) rfl ?_
    exact Frame.refl _ _
  · refine Frame.step (State.writeLaneCancel_frame ..) rfl ?_
    exact Frame.refl _ _
  · dsimp only
    refine Frame.step (State.writePortEnable_frame ..) rfl ?_
    exact Frame.refl _ _
  · refine Frame.step (State.writePartitionNext_frame ..) rfl ?_
    exact Frame.refl _ _
  · refine Frame.step (State.writePortLaneTest_frame ..) rfl ?_
    exact Frame.refl _ _
  · refine Frame.step (State.writePlain_frame ..) rfl ?_
    exact Frame.refl _ _

theorem State.writeElem_frame (a0) (a1) (a2) (a3) (a4) (a5) :
    Frame [.free, .out, .dev, .cdu, .entries, .ctxEntries, .host, .near, .nearMem, .bulk, .bulkMem, .store, .storeMem, .hif, .rings, .loops, .msix, .pages, .cmds, .steps, .array, .ctxs, .serve, .tru, .links, .kop, .health, .power] a0 (State.writeElem a0 a1 a2 a3 a4 a5).1 := by
  unfold State.writeElem
  dsimp only
  split
  · refine Frame.step (State.writeLaneSide_frame ..) rfl ?_
    exact Frame.refl _ _
  · refine Frame.step (State.writeExchange_frame ..) rfl ?_
    exact Frame.refl _ _
  · refine Frame.step (State.writePerturbSlot_frame ..) rfl ?_
    exact Frame.refl _ _
  · refine Frame.ite_of Prod.fst ?_ ?_
    · refine Frame.step (State.writeOctets_frame ..) rfl ?_
      exact Frame.refl _ _
    · refine Frame.ite_of Prod.fst ?_ ?_
      · exact Frame.refl _ _
      · refine Frame.ite_of Prod.fst ?_ ?_
        · refine Frame.step (State.writeBlock_frame ..) rfl ?_
          exact Frame.refl _ _
        · refine Frame.step (State.writeDevice_frame ..) rfl ?_
          exact Frame.refl _ _

theorem State.firstRefused_frame {s m e index off data n x} {w : Written}
    (h : State.firstRefused s m e index off data n = some (x, w)) :
    Frame [.free, .out, .dev, .cdu, .entries, .ctxEntries, .host, .near, .nearMem, .bulk, .bulkMem, .store, .storeMem, .hif, .rings, .loops, .msix, .pages, .cmds, .steps, .array, .ctxs, .serve, .tru, .links, .kop, .health, .power] s w.1 := by
  have hm := List.mem_of_find?_eq_some h
  obtain ⟨j, -, hj⟩ := List.mem_map.mp hm
  rw [← (Prod.mk.inj hj).2]
  exact Frame.mono (State.writeElem_frame ..) rfl

theorem State.writeAll_frame (s : State) (m : Bool) (e : Entry) (index off : Nat) (data : Bytes) (n : Nat) :
    Frame [.free, .out, .dev, .cdu, .entries, .ctxEntries, .host, .near, .nearMem, .bulk, .bulkMem, .store, .storeMem, .hif, .rings, .loops, .msix, .pages, .cmds, .steps, .array, .ctxs, .serve, .tru, .links, .kop, .health, .power] s (s.writeAll m e index off data n).1.1 := by
  unfold State.writeAll
  split
  · rename_i h; exact State.firstRefused_frame h
  · have hf : ∀ l : List Nat, Frame [.free, .out, .dev, .cdu, .entries, .ctxEntries, .host, .near, .nearMem, .bulk, .bulkMem, .store, .storeMem, .hif, .rings, .loops, .msix, .pages, .cmds, .steps, .array, .ctxs, .serve, .tru, .links, .kop, .health, .power] s
        (l.foldl (fun s j => (s.writeElem m e index (off + j) (e.part data j)).1) s) := fun l =>
      Frame.foldl _ (fun _ _ => Frame.mono (State.writeElem_frame ..) rfl) (Frame.refl _ _)
    exact Frame.ite (Frame.step (State.noteSaved_frame ..) rfl (hf _)) (hf _)

theorem State.drawChallenge_frame (a0) (a1) (a2) :
    Frame [.kop] a0 (State.drawChallenge a0 a1 a2) := by
  unfold State.drawChallenge
  refine Frame.step (State.setRole_frame ..) rfl ?_
  exact Frame.refl _ _

theorem State.kopReadOp_frame (s : State) (r : Requester) (e : Entry) (q : KopReq) (drawn : Option Bytes) :
    Frame [.free, .kop] s (s.kopReadOp r e q drawn).1 := by
  unfold State.kopReadOp
  extract_lets answer
  clear_value answer
  refine Frame.ite_fst (Frame.refl _ _) (Frame.ite_fst ?_ (Frame.refl _ _))
  cases drawn with
  | some b => exact Frame.mono (State.drawChallenge_frame ..) rfl
  | none => exact Frame.step (State.drawChallenge_frame ..) rfl (Frame.mono (State.freeBytes_frame ..) rfl)

theorem State.kopWriteOp_frame (a0) (a1) (a2) (a3) :
    Frame [.free, .out, .dev, .cdu, .entries, .ctxEntries, .host, .near, .nearMem, .bulk, .bulkMem, .store, .storeMem, .hif, .rings, .loops, .msix, .pages, .cmds, .steps, .array, .ctxs, .serve, .tru, .links, .kop, .health, .power] a0 (State.kopWriteOp a0 a1 a2 a3).1 := by
  unfold State.kopWriteOp
  refine Frame.ite_of Prod.fst ?_ ?_
  · exact Frame.refl _ _
  · refine Frame.ite_of Prod.fst ?_ ?_
    · exact Frame.refl _ _
    · split
      · exact Frame.refl _ _
      · refine Frame.step (State.writeAll_frame ..) rfl ?_
        exact Frame.refl _ _

theorem State.kopEntry_frame (a0) (a1) (a2) (a3) (a4) :
    Frame [.free, .out, .dev, .cdu, .entries, .ctxEntries, .host, .near, .nearMem, .bulk, .bulkMem, .store, .storeMem, .hif, .rings, .loops, .msix, .pages, .cmds, .steps, .array, .ctxs, .serve, .tru, .links, .kop, .health, .power] a0 (State.kopEntry a0 a1 a2 a3 a4).1 := by
  unfold State.kopEntry
  refine Frame.ite_of Prod.fst ?_ ?_
  · exact Frame.refl _ _
  · refine Frame.ite_of Prod.fst ?_ ?_
    · exact Frame.refl _ _
    · refine Frame.ite_of Prod.fst ?_ ?_
      · exact Frame.refl _ _
      · refine Frame.ite_of Prod.fst ?_ ?_
        · refine Frame.step (State.kopReadOp_frame ..) rfl ?_
          exact Frame.refl _ _
        · refine Frame.ite_of Prod.fst ?_ ?_
          · refine Frame.step (State.kopWriteOp_frame ..) rfl ?_
            exact Frame.refl _ _
          · exact Frame.refl _ _

theorem State.kopServe_frame (a0) (a1) (a2) (a3) :
    Frame [.free, .out, .dev, .cdu, .entries, .ctxEntries, .host, .near, .nearMem, .bulk, .bulkMem, .store, .storeMem, .hif, .rings, .loops, .msix, .pages, .cmds, .steps, .array, .ctxs, .serve, .tru, .links, .kop, .health, .power] a0 (State.kopServe a0 a1 a2 a3).1 := by
  unfold State.kopServe
  refine Frame.ite_of Prod.fst ?_ ?_
  · exact Frame.refl _ _
  · refine Frame.ite_of Prod.fst ?_ ?_
    · exact Frame.refl _ _
    · split
      · exact Frame.refl _ _
      · refine Frame.step (State.kopEntry_frame ..) rfl ?_
        exact Frame.refl _ _

theorem State.kopPdu_frame (a0) (a1) (a2) (a3) :
    Frame [.free, .out, .dev, .cdu, .entries, .ctxEntries, .host, .near, .nearMem, .bulk, .bulkMem, .store, .storeMem, .hif, .rings, .loops, .msix, .pages, .cmds, .steps, .array, .ctxs, .serve, .tru, .links, .kop, .health, .power] a0 (State.kopPdu a0 a1 a2 a3).1 := by
  unfold State.kopPdu
  dsimp only
  refine Frame.ite_of Prod.fst ?_ ?_
  · exact Frame.refl _ _
  · dsimp only
    refine Frame.step (State.kopServe_frame ..) rfl ?_
    exact Frame.refl _ _

theorem State.request'_frame (a0) (a1) (a2) (a3) :
    Frame [.free, .out, .dev, .cdu, .entries, .ctxEntries, .host, .near, .nearMem, .bulk, .bulkMem, .store, .storeMem, .hif, .rings, .loops, .msix, .pages, .cmds, .steps, .array, .ctxs, .serve, .tru, .links, .kop, .health, .power] a0 (State.request' a0 a1 a2 a3) := by
  unfold State.request'
  refine Frame.ite ?_ ?_
  · split
    refine Frame.set_kop _ rfl ?_
    refine Frame.step (Frame.of_fst (State.kopServe_frame ..) (by assumption)) rfl ?_
    exact Frame.refl _ _
  · exact Frame.refl _ _

theorem State.writeEntry_frame (a0) (a1) (a2) (a3) (a4) (a5) (a6) :
    Frame [.free, .out, .dev, .cdu, .entries, .ctxEntries, .host, .near, .nearMem, .bulk, .bulkMem, .store, .storeMem, .hif, .rings, .loops, .msix, .pages, .cmds, .steps, .array, .ctxs, .serve, .tru, .links, .kop, .health, .power] a0 (State.writeEntry a0 a1 a2 a3 a4 a5 a6) := by
  unfold State.writeEntry
  refine Frame.step (State.request'_frame ..) rfl ?_
  exact Frame.refl _ _

theorem execKopRead_frame {a0} {a1} {a2} {a3} {a4} {a5} {a6} {t : State} (h : execKopRead a0 a1 a2 a3 a4 a5 a6 = .next t) :
    Frame [.free, .out, .dev, .cdu, .entries, .ctxEntries, .host, .near, .nearMem, .bulk, .bulkMem, .store, .storeMem, .hif, .rings, .loops, .msix, .pages, .cmds, .steps, .array, .ctxs, .serve, .tru, .links, .kop, .health, .power] a6 t := by
  cases h
  refine Frame.step (State.request'_frame ..) rfl ?_
  exact Frame.refl _ _

theorem execKopWrite_frame {a0} {a1} {a2} {a3} {a4} {a5} {a6} {t : State} (h : execKopWrite a0 a1 a2 a3 a4 a5 a6 = .next t) :
    Frame [.free, .out, .dev, .cdu, .entries, .ctxEntries, .host, .near, .nearMem, .bulk, .bulkMem, .store, .storeMem, .hif, .rings, .loops, .msix, .pages, .cmds, .steps, .array, .ctxs, .serve, .tru, .links, .kop, .health, .power] a6 t := by
  cases h
  refine Frame.step (State.writeEntry_frame ..) rfl ?_
  exact Frame.refl _ _

theorem execKopDescribe_frame {a0} {a1} {a2} {a3} {t : State} (h : execKopDescribe a0 a1 a2 a3 = .next t) :
    Frame [.free, .out, .dev, .cdu, .entries, .ctxEntries, .host, .near, .nearMem, .bulk, .bulkMem, .store, .storeMem, .hif, .rings, .loops, .msix, .pages, .cmds, .steps, .array, .ctxs, .serve, .tru, .links, .kop, .health, .power] a3 t := by
  cases h
  refine Frame.step (State.request'_frame ..) rfl ?_
  exact Frame.refl _ _

theorem execKopNext_frame {a0} {a1} {a2} {a3} {t : State} (h : execKopNext a0 a1 a2 a3 = .next t) :
    Frame [.free, .out, .dev, .cdu, .entries, .ctxEntries, .host, .near, .nearMem, .bulk, .bulkMem, .store, .storeMem, .hif, .rings, .loops, .msix, .pages, .cmds, .steps, .array, .ctxs, .serve, .tru, .links, .kop, .health, .power] a3 t := by
  cases h
  refine Frame.step (State.request'_frame ..) rfl ?_
  exact Frame.refl _ _

theorem execRoleChallenge_frame {a0} {a1} {a2} {t : State} (h : execRoleChallenge a0 a1 a2 = .next t) :
    Frame [.free, .out, .dev, .cdu, .entries, .ctxEntries, .host, .near, .nearMem, .bulk, .bulkMem, .store, .storeMem, .hif, .rings, .loops, .msix, .pages, .cmds, .steps, .array, .ctxs, .serve, .tru, .links, .kop, .health, .power] a2 t := by
  cases h
  refine Frame.step (State.request'_frame ..) rfl ?_
  exact Frame.refl _ _

theorem execRoleResponse_frame {a0} {a1} {a2} {a3} {t : State} (h : execRoleResponse a0 a1 a2 a3 = .next t) :
    Frame [.free, .out, .uptime, .dev, .cdu, .entries, .ctxEntries, .host, .near, .nearMem, .bulk, .bulkMem, .store, .storeMem, .hif, .rings, .loops, .msix, .pages, .cmds, .steps, .array, .ctxs, .serve, .tru, .links, .kop, .health, .power] a3 t := by
  cases h
  refine Frame.step (State.writeEntry_frame ..) rfl ?_
  refine Frame.ite ?_ ?_
  · refine Frame.step (State.at_frame ..) rfl ?_
    exact Frame.refl _ _
  · exact Frame.refl _ _

theorem execRoleDrop_frame {a0} {a1} {t : State} (h : execRoleDrop a0 a1 = .next t) :
    Frame [.free, .out, .dev, .cdu, .entries, .ctxEntries, .host, .near, .nearMem, .bulk, .bulkMem, .store, .storeMem, .hif, .rings, .loops, .msix, .pages, .cmds, .steps, .array, .ctxs, .serve, .tru, .links, .kop, .health, .power] a1 t := by
  cases h
  refine Frame.step (State.writeEntry_frame ..) rfl ?_
  exact Frame.refl _ _

theorem execRoleLeaseExpired_frame {a0} {a1} {a2} {t : State} (h : execRoleLeaseExpired a0 a1 a2 = .next t) :
    Frame [.free, .out, .uptime, .entries, .msix, .kop, .health] a2 t := by
  cases h
  refine Frame.ite ?_ ?_
  · refine Frame.step (State.endGrant_frame ..) rfl ?_
    refine Frame.step (State.at_frame ..) rfl ?_
    exact Frame.refl _ _
  · exact Frame.refl _ _

theorem execManagementLinkDown_frame {a0} {a1} {t : State} (h : execManagementLinkDown a0 a1 = .next t) :
    Frame [.free, .out, .uptime, .entries, .msix, .kop, .health] a1 t := by
  cases h
  refine Frame.ite ?_ ?_
  · refine Frame.step (State.endGrant_frame ..) rfl ?_
    refine Frame.step (State.at_frame ..) rfl ?_
    exact Frame.refl _ _
  · exact Frame.refl _ _

theorem execCduApply_frame {a0} {a1} {a2} {t : State} (h : execCduApply a0 a1 a2 = .next t) :
    Frame [.free, .out, .dev, .cdu, .entries, .ctxEntries, .host, .near, .nearMem, .bulk, .bulkMem, .store, .storeMem, .hif, .rings, .loops, .msix, .pages, .cmds, .steps, .array, .ctxs, .serve, .tru, .links, .kop, .health, .power] a2 t := by
  cases h
  refine Frame.step (State.writeEntry_frame ..) rfl ?_
  exact Frame.refl _ _

theorem execInstallModeEnter_frame {a0} {a1} {t : State} (h : execInstallModeEnter a0 a1 = .next t) :
    Frame [.free, .out, .dev, .cdu, .entries, .ctxEntries, .host, .near, .nearMem, .bulk, .bulkMem, .store, .storeMem, .hif, .rings, .loops, .msix, .pages, .cmds, .steps, .array, .ctxs, .serve, .tru, .links, .kop, .health, .power] a1 t := by
  cases h
  refine Frame.step (State.writeEntry_frame ..) rfl ?_
  exact Frame.refl _ _

theorem execInstallModeExit_frame {a0} {a1} {t : State} (h : execInstallModeExit a0 a1 = .next t) :
    Frame [.free, .out, .dev, .cdu, .entries, .ctxEntries, .host, .near, .nearMem, .bulk, .bulkMem, .store, .storeMem, .hif, .rings, .loops, .msix, .pages, .cmds, .steps, .array, .ctxs, .serve, .tru, .links, .kop, .health, .power] a1 t := by
  cases h
  refine Frame.step (State.writeEntry_frame ..) rfl ?_
  exact Frame.refl _ _

theorem execStoreOpen_frame {a0} {a1} {a2} {t : State} (h : execStoreOpen a0 a1 a2 = .next t) :
    Frame [.free, .out, .dev, .cdu, .entries, .ctxEntries, .host, .near, .nearMem, .bulk, .bulkMem, .store, .storeMem, .hif, .rings, .loops, .msix, .pages, .cmds, .steps, .array, .ctxs, .serve, .tru, .links, .kop, .health, .power] a2 t := by
  cases h
  refine Frame.step (State.writeEntry_frame ..) rfl ?_
  exact Frame.refl _ _

theorem execStoreCommit_frame {a0} {a1} {a2} {a3} {t : State} (h : execStoreCommit a0 a1 a2 a3 = .next t) :
    Frame [.free, .out, .uptime, .dev, .cdu, .entries, .ctxEntries, .host, .near, .nearMem, .bulk, .bulkMem, .store, .storeMem, .hif, .rings, .loops, .msix, .pages, .cmds, .steps, .array, .ctxs, .serve, .tru, .links, .kop, .health, .power] a3 t := by
  cases h
  refine Frame.step (State.writeEntry_frame ..) rfl ?_
  refine Frame.ite ?_ ?_
  · refine Frame.step (State.at_frame ..) rfl ?_
    exact Frame.refl _ _
  · exact Frame.refl _ _

theorem execStoreErase_frame {a0} {a1} {a2} {t : State} (h : execStoreErase a0 a1 a2 = .next t) :
    Frame [.free, .out, .dev, .cdu, .entries, .ctxEntries, .host, .near, .nearMem, .bulk, .bulkMem, .store, .storeMem, .hif, .rings, .loops, .msix, .pages, .cmds, .steps, .array, .ctxs, .serve, .tru, .links, .kop, .health, .power] a2 t := by
  cases h
  refine Frame.step (State.writeEntry_frame ..) rfl ?_
  exact Frame.refl _ _

theorem execStoreKeyWrite_frame {a0} {a1} {a2} {a3} {t : State} (h : execStoreKeyWrite a0 a1 a2 a3 = .next t) :
    Frame [.free, .out, .dev, .cdu, .entries, .ctxEntries, .host, .near, .nearMem, .bulk, .bulkMem, .store, .storeMem, .hif, .rings, .loops, .msix, .pages, .cmds, .steps, .array, .ctxs, .serve, .tru, .links, .kop, .health, .power] a3 t := by
  cases h
  refine Frame.step (State.writeEntry_frame ..) rfl ?_
  exact Frame.refl _ _

theorem execStoreKeyRevoke_frame {a0} {a1} {a2} {t : State} (h : execStoreKeyRevoke a0 a1 a2 = .next t) :
    Frame [.free, .out, .dev, .cdu, .entries, .ctxEntries, .host, .near, .nearMem, .bulk, .bulkMem, .store, .storeMem, .hif, .rings, .loops, .msix, .pages, .cmds, .steps, .array, .ctxs, .serve, .tru, .links, .kop, .health, .power] a2 t := by
  cases h
  refine Frame.step (State.writeEntry_frame ..) rfl ?_
  exact Frame.refl _ _

theorem execClusterAssign_frame {a0} {a1} {a2} {a3} {t : State} (h : execClusterAssign a0 a1 a2 a3 = .next t) :
    Frame [.free, .out, .dev, .cdu, .entries, .ctxEntries, .host, .near, .nearMem, .bulk, .bulkMem, .store, .storeMem, .hif, .rings, .loops, .msix, .pages, .cmds, .steps, .array, .ctxs, .serve, .tru, .links, .kop, .health, .power] a3 t := by
  cases h
  refine Frame.step (State.writeEntry_frame ..) rfl ?_
  exact Frame.refl _ _

theorem execPool_frame {a0} {a1} {a2} {a3} {t : State} (h : execPool a0 a1 a2 a3 = .next t) :
    Frame [.free, .out, .dev, .cdu, .entries, .ctxEntries, .host, .near, .nearMem, .bulk, .bulkMem, .store, .storeMem, .hif, .rings, .loops, .msix, .pages, .cmds, .steps, .array, .ctxs, .serve, .tru, .links, .kop, .health, .power] a3 t := by
  cases h
  refine Frame.step (State.writeEntry_frame ..) rfl ?_
  exact Frame.refl _ _

theorem execBivouacVa_frame {a0} {a1} {a2} {a3} {t : State} (h : execBivouacVa a0 a1 a2 a3 = .next t) :
    Frame [.free, .out, .dev, .cdu, .entries, .ctxEntries, .host, .near, .nearMem, .bulk, .bulkMem, .store, .storeMem, .hif, .rings, .loops, .msix, .pages, .cmds, .steps, .array, .ctxs, .serve, .tru, .links, .kop, .health, .power] a3 t := by
  cases h
  refine Frame.step (State.writeEntry_frame ..) rfl ?_
  exact Frame.refl _ _

theorem execShare_frame {a0} {a1} {a2} {a3} {t : State} (h : execShare a0 a1 a2 a3 = .next t) :
    Frame [.free, .out, .dev, .cdu, .entries, .ctxEntries, .host, .near, .nearMem, .bulk, .bulkMem, .store, .storeMem, .hif, .rings, .loops, .msix, .pages, .cmds, .steps, .array, .ctxs, .serve, .tru, .links, .kop, .health, .power] a3 t := by
  cases h
  refine Frame.step (State.writeEntry_frame ..) rfl ?_
  exact Frame.refl _ _

theorem execPoolSlack_frame {a0} {a1} {a2} {a3} {t : State} (h : execPoolSlack a0 a1 a2 a3 = .next t) :
    Frame [.free, .out, .dev, .cdu, .entries, .ctxEntries, .host, .near, .nearMem, .bulk, .bulkMem, .store, .storeMem, .hif, .rings, .loops, .msix, .pages, .cmds, .steps, .array, .ctxs, .serve, .tru, .links, .kop, .health, .power] a3 t := by
  cases h
  refine Frame.step (State.writeEntry_frame ..) rfl ?_
  exact Frame.refl _ _

theorem execLaneSide_frame {a0} {a1} {a2} {a3} {a4} {t : State} (h : execLaneSide a0 a1 a2 a3 a4 = .next t) :
    Frame [.free, .out, .dev, .cdu, .entries, .ctxEntries, .host, .near, .nearMem, .bulk, .bulkMem, .store, .storeMem, .hif, .rings, .loops, .msix, .pages, .cmds, .steps, .array, .ctxs, .serve, .tru, .links, .kop, .health, .power] a4 t := by
  cases h
  refine Frame.step (State.writeEntry_frame ..) rfl ?_
  exact Frame.refl _ _

theorem execLoopLane_frame {a0} {a1} {a2} {a3} {t : State} (h : execLoopLane a0 a1 a2 a3 = .next t) :
    Frame [.free, .out, .dev, .cdu, .entries, .ctxEntries, .host, .near, .nearMem, .bulk, .bulkMem, .store, .storeMem, .hif, .rings, .loops, .msix, .pages, .cmds, .steps, .array, .ctxs, .serve, .tru, .links, .kop, .health, .power] a3 t := by
  cases h
  refine Frame.step (State.writeEntry_frame ..) rfl ?_
  exact Frame.refl _ _

theorem execLaneSwitch_frame {a0} {a1} {a2} {a3} {t : State} (h : execLaneSwitch a0 a1 a2 a3 = .next t) :
    Frame [.free, .out, .dev, .cdu, .entries, .ctxEntries, .host, .near, .nearMem, .bulk, .bulkMem, .store, .storeMem, .hif, .rings, .loops, .msix, .pages, .cmds, .steps, .array, .ctxs, .serve, .tru, .links, .kop, .health, .power] a3 t := by
  cases h
  refine Frame.step (State.writeEntry_frame ..) rfl ?_
  exact Frame.refl _ _

theorem execLaneCancel_frame {a0} {a1} {a2} {a3} {t : State} (h : execLaneCancel a0 a1 a2 a3 = .next t) :
    Frame [.free, .out, .dev, .cdu, .entries, .ctxEntries, .host, .near, .nearMem, .bulk, .bulkMem, .store, .storeMem, .hif, .rings, .loops, .msix, .pages, .cmds, .steps, .array, .ctxs, .serve, .tru, .links, .kop, .health, .power] a3 t := by
  cases h
  refine Frame.step (State.writeEntry_frame ..) rfl ?_
  exact Frame.refl _ _

theorem execTruExchanges_frame {a0} {a1} {a2} {a3} {a4} {t : State} (h : execTruExchanges a0 a1 a2 a3 a4 = .next t) :
    Frame [.free, .out, .dev, .cdu, .entries, .ctxEntries, .host, .near, .nearMem, .bulk, .bulkMem, .store, .storeMem, .hif, .rings, .loops, .msix, .pages, .cmds, .steps, .array, .ctxs, .serve, .tru, .links, .kop, .health, .power] a4 t := by
  cases h
  refine Frame.step (State.writeEntry_frame ..) rfl ?_
  exact Frame.refl _ _

theorem execPartitionApply_frame {a0} {a1} {a2} {t : State} (h : execPartitionApply a0 a1 a2 = .next t) :
    Frame [.free, .out, .dev, .cdu, .entries, .ctxEntries, .host, .near, .nearMem, .bulk, .bulkMem, .store, .storeMem, .hif, .rings, .loops, .msix, .pages, .cmds, .steps, .array, .ctxs, .serve, .tru, .links, .kop, .health, .power] a2 t := by
  cases h
  refine Frame.step (State.writeEntry_frame ..) rfl ?_
  exact Frame.refl _ _

theorem execPortLaneTest_frame {a0} {a1} {a2} {a3} {t : State} (h : execPortLaneTest a0 a1 a2 a3 = .next t) :
    Frame [.free, .out, .dev, .cdu, .entries, .ctxEntries, .host, .near, .nearMem, .bulk, .bulkMem, .store, .storeMem, .hif, .rings, .loops, .msix, .pages, .cmds, .steps, .array, .ctxs, .serve, .tru, .links, .kop, .health, .power] a3 t := by
  cases h
  refine Frame.step (State.writeEntry_frame ..) rfl ?_
  exact Frame.refl _ _

theorem execProfileSave_frame {a0} {a1} {a2} {t : State} (h : execProfileSave a0 a1 a2 = .next t) :
    Frame [.free, .out, .dev, .cdu, .entries, .ctxEntries, .host, .near, .nearMem, .bulk, .bulkMem, .store, .storeMem, .hif, .rings, .loops, .msix, .pages, .cmds, .steps, .array, .ctxs, .serve, .tru, .links, .kop, .health, .power] a2 t := by
  cases h
  refine Frame.step (State.writeEntry_frame ..) rfl ?_
  exact Frame.refl _ _

theorem execProfileImage_frame {a0} {a1} {a2} {a3} {t : State} (h : execProfileImage a0 a1 a2 a3 = .next t) :
    Frame [.free, .out, .dev, .cdu, .entries, .ctxEntries, .host, .near, .nearMem, .bulk, .bulkMem, .store, .storeMem, .hif, .rings, .loops, .msix, .pages, .cmds, .steps, .array, .ctxs, .serve, .tru, .links, .kop, .health, .power] a3 t := by
  cases h
  refine Frame.step (State.writeEntry_frame ..) rfl ?_
  exact Frame.refl _ _

theorem execProfileErase_frame {a0} {a1} {a2} {t : State} (h : execProfileErase a0 a1 a2 = .next t) :
    Frame [.free, .out, .dev, .cdu, .entries, .ctxEntries, .host, .near, .nearMem, .bulk, .bulkMem, .store, .storeMem, .hif, .rings, .loops, .msix, .pages, .cmds, .steps, .array, .ctxs, .serve, .tru, .links, .kop, .health, .power] a2 t := by
  cases h
  refine Frame.step (State.writeEntry_frame ..) rfl ?_
  exact Frame.refl _ _

theorem execCtxReset_frame {a0} {a1} {a2} {t : State} (h : execCtxReset a0 a1 a2 = .next t) :
    Frame [.free, .out, .dev, .cdu, .entries, .ctxEntries, .host, .near, .nearMem, .bulk, .bulkMem, .store, .storeMem, .hif, .rings, .loops, .msix, .pages, .cmds, .steps, .array, .ctxs, .serve, .tru, .links, .kop, .health, .power] a2 t := by
  cases h
  refine Frame.step (State.writeEntry_frame ..) rfl ?_
  exact Frame.refl _ _

theorem execRecoverRequest_frame {a0} {a1} {t : State} (h : execRecoverRequest a0 a1 = .next t) :
    Frame [.free, .out, .dev, .cdu, .entries, .ctxEntries, .host, .near, .nearMem, .bulk, .bulkMem, .store, .storeMem, .hif, .rings, .loops, .msix, .pages, .cmds, .steps, .array, .ctxs, .serve, .tru, .links, .kop, .health, .power] a1 t := by
  cases h
  refine Frame.step (State.writeEntry_frame ..) rfl ?_
  exact Frame.refl _ _

theorem execSnapshotRelease_frame {a0} {a1} {t : State} (h : execSnapshotRelease a0 a1 = .next t) :
    Frame [.free, .out, .dev, .cdu, .entries, .ctxEntries, .host, .near, .nearMem, .bulk, .bulkMem, .store, .storeMem, .hif, .rings, .loops, .msix, .pages, .cmds, .steps, .array, .ctxs, .serve, .tru, .links, .kop, .health, .power] a1 t := by
  cases h
  refine Frame.step (State.writeEntry_frame ..) rfl ?_
  exact Frame.refl _ _

theorem execHealthAck_frame {a0} {a1} {a2} {t : State} (h : execHealthAck a0 a1 a2 = .next t) :
    Frame [.free, .out, .dev, .cdu, .entries, .ctxEntries, .host, .near, .nearMem, .bulk, .bulkMem, .store, .storeMem, .hif, .rings, .loops, .msix, .pages, .cmds, .steps, .array, .ctxs, .serve, .tru, .links, .kop, .health, .power] a2 t := by
  cases h
  refine Frame.step (State.writeEntry_frame ..) rfl ?_
  exact Frame.refl _ _

theorem execHealthMask_frame {a0} {a1} {a2} {t : State} (h : execHealthMask a0 a1 a2 = .next t) :
    Frame [.free, .out, .dev, .cdu, .entries, .ctxEntries, .host, .near, .nearMem, .bulk, .bulkMem, .store, .storeMem, .hif, .rings, .loops, .msix, .pages, .cmds, .steps, .array, .ctxs, .serve, .tru, .links, .kop, .health, .power] a2 t := by
  cases h
  refine Frame.step (State.writeEntry_frame ..) rfl ?_
  exact Frame.refl _ _

theorem execTestRequestCluster_frame {a0} {a1} {a2} {t : State} (h : execTestRequestCluster a0 a1 a2 = .next t) :
    Frame [.free, .out, .dev, .cdu, .entries, .ctxEntries, .host, .near, .nearMem, .bulk, .bulkMem, .store, .storeMem, .hif, .rings, .loops, .msix, .pages, .cmds, .steps, .array, .ctxs, .serve, .tru, .links, .kop, .health, .power] a2 t := by
  cases h
  refine Frame.step (State.writeEntry_frame ..) rfl ?_
  exact Frame.refl _ _

theorem execTestRequestRotate_frame {a0} {a1} {a2} {t : State} (h : execTestRequestRotate a0 a1 a2 = .next t) :
    Frame [.free, .out, .dev, .cdu, .entries, .ctxEntries, .host, .near, .nearMem, .bulk, .bulkMem, .store, .storeMem, .hif, .rings, .loops, .msix, .pages, .cmds, .steps, .array, .ctxs, .serve, .tru, .links, .kop, .health, .power] a2 t := by
  cases h
  refine Frame.step (State.writeEntry_frame ..) rfl ?_
  exact Frame.refl _ _

theorem execPerturbEnable_frame {a0} {a1} {a2} {t : State} (h : execPerturbEnable a0 a1 a2 = .next t) :
    Frame [.free, .out, .dev, .cdu, .entries, .ctxEntries, .host, .near, .nearMem, .bulk, .bulkMem, .store, .storeMem, .hif, .rings, .loops, .msix, .pages, .cmds, .steps, .array, .ctxs, .serve, .tru, .links, .kop, .health, .power] a2 t := by
  cases h
  refine Frame.step (State.writeEntry_frame ..) rfl ?_
  exact Frame.refl _ _

theorem execPerturbSlots_frame {a0} {a1} {a2} {a3} {t : State} (h : execPerturbSlots a0 a1 a2 a3 = .next t) :
    Frame [.free, .out, .dev, .cdu, .entries, .ctxEntries, .host, .near, .nearMem, .bulk, .bulkMem, .store, .storeMem, .hif, .rings, .loops, .msix, .pages, .cmds, .steps, .array, .ctxs, .serve, .tru, .links, .kop, .health, .power] a3 t := by
  cases h
  refine Frame.step (State.writeEntry_frame ..) rfl ?_
  exact Frame.refl _ _

theorem execClusterPointReq_frame {a0} {a1} {a2} {a3} {t : State} (h : execClusterPointReq a0 a1 a2 a3 = .next t) :
    Frame [.free, .out, .dev, .cdu, .entries, .ctxEntries, .host, .near, .nearMem, .bulk, .bulkMem, .store, .storeMem, .hif, .rings, .loops, .msix, .pages, .cmds, .steps, .array, .ctxs, .serve, .tru, .links, .kop, .health, .power] a3 t := by
  cases h
  refine Frame.step (State.writeEntry_frame ..) rfl ?_
  exact Frame.refl _ _

end Sys2Proof.Machine
end

