-- ==== Sys2Proof/Laws/Query.lean ====
section
/-! SUPPORT. What the operations of Query can change: one frame each. -/

namespace Sys2Proof.Machine

theorem State.queryParameter_frame (a0) (a1) (a2) :
    Frame [.free, .kop] a0 (State.queryParameter a0 a1 a2).1 := by
  unfold State.queryParameter
  extract_lets
  split
  · exact Frame.refl _ _
  · refine Frame.ite_of Prod.fst ?_ ?_
    · exact Frame.refl _ _
    · refine Frame.ite_of Prod.fst ?_ ?_
      · split
        · refine Frame.step (State.drawChallenge_frame ..) rfl ?_
          refine Frame.step (Frame.of_snd (State.freeBytes_frame ..) (by assumption)) rfl ?_
          exact Frame.refl _ _
      · split
        · exact Frame.refl _ _
        · exact Frame.refl _ _

theorem State.queryData_frame (a0) (a1) :
    Frame [.free, .kop] a0 (State.queryData a0 a1).1 := by
  unfold State.queryData
  dsimp only
  split
  · exact Frame.refl _ _
  · exact Frame.refl _ _
  · exact Frame.refl _ _
  · exact Frame.refl _ _
  · refine Frame.step (State.queryParameter_frame ..) rfl ?_
    exact Frame.refl _ _

theorem State.answerQuery_frame (a0) (a1) (a2) :
    Frame [.free, .out, .entries, .ctxEntries, .host, .near, .nearMem, .bulk, .bulkMem, .rings, .msix, .pages, .cmds, .serve, .links, .health, .power] a0 (State.answerQuery a0 a1 a2) := by
  unfold State.answerQuery
  dsimp only
  split
  · refine Frame.step (State.complete_frame ..) rfl ?_
    refine Frame.step (State.cwrite_frame_ok (by assumption)) rfl ?_
    exact Frame.refl _ _
  · refine Frame.step (State.cairnFail_frame ..) rfl ?_
    exact Frame.refl _ _

theorem execQuery_frame {a0} {a1} {t : State} (h : execQuery a0 a1 = .next t) :
    Frame [.free, .out, .entries, .ctxEntries, .host, .near, .nearMem, .bulk, .bulkMem, .rings, .msix, .pages, .cmds, .serve, .links, .kop, .health, .power] a1 t := by
  cases h
  split
  · exact Frame.refl _ _
  · split
    · refine Frame.step (State.answerQuery_frame ..) rfl ?_
      refine Frame.step (Frame.of_fst (State.queryData_frame ..) (by assumption)) rfl ?_
      exact Frame.refl _ _
    · refine Frame.step (State.complete_frame ..) rfl ?_
      refine Frame.step (Frame.of_fst (State.queryData_frame ..) (by assumption)) rfl ?_
      exact Frame.refl _ _

end Sys2Proof.Machine
end

