-- ==== Sys2Proof/Laws/Transports.lean ====
section
/-! SUPPORT. What the operations of Transports can change: one frame each. -/

namespace Sys2Proof.Machine

theorem State.resolve_frame (a0) (a1) :
    Frame [.free, .out, .kop] a0 (State.resolve a0 a1) := by
  unfold State.resolve
  refine Frame.ite ?_ ?_
  · exact Frame.refl _ _
  · dsimp only
    refine Frame.step (State.emit_frame ..) rfl ?_
    refine Frame.set_kop _ rfl ?_
    refine Frame.step (State.fresh_frame ..) rfl ?_
    exact Frame.refl _ _

theorem State.sendDatagram_frame (a0) (a1) (a2) (a3) :
    Frame [.free, .out, .kop] a0 (State.sendDatagram a0 a1 a2 a3) := by
  unfold State.sendDatagram
  split
  · refine Frame.step (State.emit_frame ..) rfl ?_
    refine Frame.step (State.resolve_frame ..) rfl ?_
    exact Frame.refl _ _
  · exact Frame.refl _ _

theorem State.keep_frame (a0) (a1) :
    Frame [.kop] a0 (State.keep a0 a1) := by
  unfold State.keep
  refine Frame.set_kop _ rfl ?_
  exact Frame.refl _ _

theorem State.takeDatagram_frame (a0) (a1) (a2) (a3) :
    Frame [.free, .out, .dev, .cdu, .entries, .ctxEntries, .host, .near, .nearMem, .bulk, .bulkMem, .store, .storeMem, .hif, .rings, .loops, .msix, .pages, .cmds, .steps, .array, .ctxs, .serve, .tru, .links, .kop, .health, .power] a0 (State.takeDatagram a0 a1 a2 a3) := by
  unfold State.takeDatagram
  dsimp only
  split
  · refine Frame.ite ?_ ?_
    · refine Frame.step (State.sendDatagram_frame ..) rfl ?_
      refine Frame.step (State.keep_frame ..) rfl ?_
      exact Frame.refl _ _
    · refine Frame.step (State.sendDatagram_frame ..) rfl ?_
      refine Frame.step (State.keep_frame ..) rfl ?_
      refine Frame.step (State.kopPdu_frame ..) rfl ?_
      exact Frame.refl _ _
  · refine Frame.step (State.sendDatagram_frame ..) rfl ?_
    refine Frame.step (State.keep_frame ..) rfl ?_
    refine Frame.step (State.kopPdu_frame ..) rfl ?_
    exact Frame.refl _ _

theorem execManagementDatagram_frame {a0} {a1} {a2} {a3} {a4} {a5} {t : State} (h : execManagementDatagram a0 a1 a2 a3 a4 a5 = .next t) :
    Frame [.free, .out, .uptime, .dev, .cdu, .entries, .ctxEntries, .host, .near, .nearMem, .bulk, .bulkMem, .store, .storeMem, .hif, .rings, .loops, .msix, .pages, .cmds, .steps, .array, .ctxs, .serve, .tru, .links, .kop, .health, .power] a5 t := by
  cases h
  dsimp only
  refine Frame.ite ?_ ?_
  · refine Frame.step (State.takeDatagram_frame ..) rfl ?_
    refine Frame.step (State.at_frame ..) rfl ?_
    exact Frame.refl _ _
  · exact Frame.refl _ _

theorem execArpRequest_frame {a0} {a1} {a2} {a3} {t : State} (h : execArpRequest a0 a1 a2 a3 = .next t) :
    Frame [.out, .kop] a3 t := by
  cases h
  refine Frame.ite ?_ ?_
  · refine Frame.ite ?_ ?_
    · refine Frame.step (State.emit_frame ..) rfl ?_
      refine Frame.set_kop _ rfl ?_
      exact Frame.refl _ _
    · refine Frame.set_kop _ rfl ?_
      exact Frame.refl _ _
  · exact Frame.refl _ _

theorem execIcmpEcho_frame {a0} {a1} {a2} {a3} {t : State} (h : execIcmpEcho a0 a1 a2 a3 = .next t) :
    Frame [.free, .out, .kop] a3 t := by
  cases h
  refine Frame.ite ?_ ?_
  · split
    · refine Frame.step (State.emit_frame ..) rfl ?_
      refine Frame.step (State.resolve_frame ..) rfl ?_
      exact Frame.refl _ _
    · exact Frame.refl _ _
  · exact Frame.refl _ _

theorem State.setMail_frame (a0) (a1) (a2) :
    Frame [.hif] a0 (State.setMail a0 a1 a2) := by
  unfold State.setMail
  refine Frame.set_hif _ (.inr rfl) (.inr rfl) (.inr rfl) (.inr rfl) (.inl rfl) ?_
  exact Frame.refl _ _

theorem State.serveMail_frame (a0) (a1) :
    Frame [.free, .out, .dev, .cdu, .entries, .ctxEntries, .host, .near, .nearMem, .bulk, .bulkMem, .store, .storeMem, .hif, .rings, .loops, .msix, .pages, .cmds, .steps, .array, .ctxs, .serve, .tru, .links, .kop, .health, .power] a0 (State.serveMail a0 a1) := by
  unfold State.serveMail
  dsimp only
  refine Frame.ite ?_ ?_
  · exact Frame.refl _ _
  · refine Frame.ite ?_ ?_
    · refine Frame.step (State.setMail_frame ..) rfl ?_
      refine Frame.step (State.kopPdu_frame ..) rfl ?_
      refine Frame.step (State.setMail_frame ..) rfl ?_
      exact Frame.refl _ _
    · refine Frame.step (State.kopPdu_frame ..) rfl ?_
      refine Frame.step (State.setMail_frame ..) rfl ?_
      exact Frame.refl _ _

theorem State.endMail_frame (a0) (a1) :
    Frame [.out, .hif, .msix] a0 (State.endMail a0 a1) := by
  unfold State.endMail
  dsimp only
  refine Frame.ite ?_ ?_
  · refine Frame.step (State.interrupt_frame ..) rfl ?_
    refine Frame.step (State.setMail_frame ..) rfl ?_
    exact Frame.refl _ _
  · refine Frame.step (State.setMail_frame ..) rfl ?_
    exact Frame.refl _ _

theorem State.idle_frame (a0) :
    Frame [.out, .hif, .msix] a0 (State.idle a0) := by
  unfold State.idle
  split
  · refine Frame.step (State.endMail_frame ..) rfl ?_
    exact Frame.refl _ _
  · exact Frame.refl _ _

theorem State.writeMail_frame (a0) (a1) (a2) :
    Frame [.free, .out, .dev, .cdu, .entries, .ctxEntries, .host, .near, .nearMem, .bulk, .bulkMem, .store, .storeMem, .hif, .rings, .loops, .msix, .pages, .cmds, .steps, .array, .ctxs, .serve, .tru, .links, .kop, .health, .power] a0 (State.writeMail a0 a1 a2) := by
  unfold State.writeMail
  dsimp only
  refine Frame.ite ?_ ?_
  · refine Frame.step (State.dbump_frame ..) rfl ?_
    exact Frame.refl _ _
  · refine Frame.ite ?_ ?_
    · refine Frame.step (State.serveMail_frame ..) rfl ?_
      refine Frame.step (State.setMail_frame ..) rfl ?_
      exact Frame.refl _ _
    · refine Frame.step (State.setMail_frame ..) rfl ?_
      exact Frame.refl _ _

theorem execMbxGo_frame {a0} {a1} {a2} {t : State} (h : execMbxGo a0 a1 a2 = .next t) :
    Frame [.free, .out, .dev, .cdu, .entries, .ctxEntries, .host, .near, .nearMem, .bulk, .bulkMem, .store, .storeMem, .hif, .rings, .loops, .msix, .pages, .cmds, .steps, .array, .ctxs, .serve, .tru, .links, .kop, .health, .power] a2 t := by
  cases h
  refine State.ifHost_frame_k rfl (fun _ => ?_) ?_
  · refine Frame.step (State.writeMail_frame ..) rfl ?_
    exact Frame.refl _ _
  · exact Frame.refl _ _

theorem State.sbClear_frame (a0) :
    Frame [.kop] a0 (State.sbClear a0) := by
  unfold State.sbClear
  refine Frame.set_kop _ rfl ?_
  exact Frame.refl _ _

theorem State.sbDiscard_frame (a0) :
    Frame [.free, .entries, .kop] a0 (State.sbDiscard a0) := by
  unfold State.sbDiscard
  refine Frame.step (State.dbump_frame ..) rfl ?_
  refine Frame.step (State.sbClear_frame ..) rfl ?_
  exact Frame.refl _ _

theorem State.sbServe_frame (a0) (a1) (a2) :
    Frame [.free, .out, .dev, .cdu, .entries, .ctxEntries, .host, .near, .nearMem, .bulk, .bulkMem, .store, .storeMem, .hif, .rings, .loops, .msix, .pages, .cmds, .steps, .array, .ctxs, .serve, .tru, .links, .kop, .health, .power] a0 (State.sbServe a0 a1 a2) := by
  unfold State.sbServe
  dsimp only
  refine Frame.ite ?_ ?_
  · refine Frame.foldl _ (fun _ _ => ?_) ?_
    · refine Frame.step (State.emit_frame ..) rfl ?_
      exact Frame.refl _ _
    · refine Frame.step (State.kopPdu_frame ..) rfl ?_
      exact Frame.refl _ _
  · refine Frame.step (State.kopPdu_frame ..) rfl ?_
    exact Frame.refl _ _

theorem State.sbAppend_frame (a0) (a1) (a2) (a3) :
    Frame [.free, .out, .dev, .cdu, .entries, .ctxEntries, .host, .near, .nearMem, .bulk, .bulkMem, .store, .storeMem, .hif, .rings, .loops, .msix, .pages, .cmds, .steps, .array, .ctxs, .serve, .tru, .links, .kop, .health, .power] a0 (State.sbAppend a0 a1 a2 a3) := by
  unfold State.sbAppend
  dsimp only
  refine Frame.ite ?_ ?_
  · refine Frame.step (State.sbServe_frame ..) rfl ?_
    refine Frame.step (State.sbClear_frame ..) rfl ?_
    exact Frame.refl _ _
  · refine Frame.ite ?_ ?_
    · refine Frame.step (State.sbDiscard_frame ..) rfl ?_
      exact Frame.refl _ _
    · refine Frame.set_kop _ rfl ?_
      exact Frame.refl _ _

theorem State.sbSegment_frame (a0) (a1) :
    Frame [.free, .out, .dev, .cdu, .entries, .ctxEntries, .host, .near, .nearMem, .bulk, .bulkMem, .store, .storeMem, .hif, .rings, .loops, .msix, .pages, .cmds, .steps, .array, .ctxs, .serve, .tru, .links, .kop, .health, .power] a0 (State.sbSegment a0 a1) := by
  unfold State.sbSegment
  dsimp only
  refine Frame.ite ?_ ?_
  · refine Frame.ite ?_ ?_
    · refine Frame.step (State.sbAppend_frame ..) rfl ?_
      refine Frame.ite ?_ ?_
      · refine Frame.step (State.sbDiscard_frame ..) rfl ?_
        exact Frame.refl _ _
      · exact Frame.refl _ _
    · refine Frame.step (State.sbDiscard_frame ..) rfl ?_
      refine Frame.ite ?_ ?_
      · refine Frame.step (State.sbDiscard_frame ..) rfl ?_
        exact Frame.refl _ _
      · exact Frame.refl _ _
  · refine Frame.ite ?_ ?_
    · exact Frame.refl _ _
    · refine Frame.ite ?_ ?_
      · refine Frame.step (State.sbDiscard_frame ..) rfl ?_
        exact Frame.refl _ _
      · refine Frame.step (State.sbAppend_frame ..) rfl ?_
        exact Frame.refl _ _

theorem execServiceBusSegment_frame {a0} {a1} {a2} {t : State} (h : execServiceBusSegment a0 a1 a2 = .next t) :
    Frame [.free, .out, .uptime, .dev, .cdu, .entries, .ctxEntries, .host, .near, .nearMem, .bulk, .bulkMem, .store, .storeMem, .hif, .rings, .loops, .msix, .pages, .cmds, .steps, .array, .ctxs, .serve, .tru, .links, .kop, .health, .power] a2 t := by
  cases h
  refine Frame.ite ?_ ?_
  · refine Frame.step (State.sbSegment_frame ..) rfl ?_
    refine Frame.step (State.at_frame ..) rfl ?_
    exact Frame.refl _ _
  · exact Frame.refl _ _

theorem execServiceBusSegmentTimeout_frame {a0} {a1} {t : State} (h : execServiceBusSegmentTimeout a0 a1 = .next t) :
    Frame [.free, .uptime, .entries, .kop] a1 t := by
  cases h
  refine Frame.ite ?_ ?_
  · refine Frame.step (State.sbDiscard_frame ..) rfl ?_
    refine Frame.step (State.at_frame ..) rfl ?_
    exact Frame.refl _ _
  · exact Frame.refl _ _

theorem State.sbState_frame (a0) :
    Frame [.free] a0 (State.sbState a0).2 := by
  unfold State.sbState
  dsimp only
  refine Frame.ite_of Prod.snd ?_ ?_
  · exact Frame.refl _ _
  · split
    · exact Frame.refl _ _
    · exact Frame.refl _ _
    · exact Frame.refl _ _
    · exact Frame.refl _ _
    · refine Frame.ite_of Prod.snd ?_ ?_
      · exact Frame.refl _ _
      · refine Frame.ite_of Prod.snd ?_ ?_
        · exact Frame.refl _ _
        · dsimp only
          refine Frame.step (State.fresh_frame ..) rfl ?_
          exact Frame.refl _ _
    · exact Frame.refl _ _
    · exact Frame.refl _ _

theorem execSbStatusPeriod_frame {a0} {a1} {t : State} (h : execSbStatusPeriod a0 a1 = .next t) :
    Frame [.free, .out, .uptime, .kop] a1 t := by
  cases h
  refine Frame.ite ?_ ?_
  · extract_lets
    split
    · refine Frame.step (State.emit_frame ..) rfl ?_
      refine Frame.set_kop _ rfl ?_
      refine Frame.step (Frame.of_snd (State.sbState_frame ..) (by assumption)) rfl ?_
      refine Frame.step (State.at_frame ..) rfl ?_
      exact Frame.refl _ _
  · exact Frame.refl _ _

end Sys2Proof.Machine
end

