-- ==== Sys2Proof/Laws/Registers.lean ====
section
/-! SUPPORT. What the operations of Registers can change: one frame each. -/

namespace Sys2Proof.Machine

theorem State.writeLoopWord_frame (a0) (a1) (a2) (a3) :
    Frame [.loops] a0 (State.writeLoopWord a0 a1 a2 a3) := by
  unfold State.writeLoopWord
  refine Frame.ite ?_ ?_
  · refine Frame.step (State.setLoop_frame ..) rfl ?_
    exact Frame.refl _ _
  · dsimp only
    split
    · refine Frame.step (State.setLoop_frame ..) rfl ?_
      exact Frame.refl _ _
    · refine Frame.step (State.setLoop_frame ..) rfl ?_
      exact Frame.refl _ _

theorem execLoopTableWrite_frame {a0} {a1} {a2} {a3} {t : State} (h : execLoopTableWrite a0 a1 a2 a3 = .next t) :
    Frame [.loops] a3 t := by
  cases h
  refine State.ifHost_frame_k rfl (fun _ => ?_) ?_
  · refine Frame.step (State.writeLoopWord_frame ..) rfl ?_
    exact Frame.refl _ _
  · exact Frame.refl _ _

theorem State.writeEvqBase_frame (a0) (a1) (a2) :
    Frame [.pages] a0 (State.writeEvqBase a0 a1 a2) := by
  unfold State.writeEvqBase
  refine Frame.ite ?_ ?_
  · refine Frame.step (State.setPage_frame ..) rfl ?_
    exact Frame.refl _ _
  · exact Frame.refl _ _

theorem State.writeEvqControl_frame (a0) (a1) (a2) :
    Frame [.pages] a0 (State.writeEvqControl a0 a1 a2) := by
  unfold State.writeEvqControl
  refine Frame.ite ?_ ?_
  · refine Frame.step (State.setPage_frame ..) rfl ?_
    exact Frame.refl _ _
  · exact Frame.refl _ _

theorem State.writeEvqHead_frame (a0) (a1) (a2) :
    Frame [.pages] a0 (State.writeEvqHead a0 a1 a2) := by
  unfold State.writeEvqHead
  refine Frame.ite ?_ ?_
  · refine Frame.step (State.setPage_frame ..) rfl ?_
    exact Frame.refl _ _
  · exact Frame.refl _ _

theorem State.writePasid_frame (a0) (a1) (a2) :
    Frame [.pages] a0 (State.writePasid a0 a1 a2) := by
  unfold State.writePasid
  refine Frame.step (State.setPage_frame ..) rfl ?_
  exact Frame.refl _ _

theorem State.writePage_frame (a0) (a1) (a2) (a3) (a4) :
    Frame [.pages] a0 (State.writePage a0 a1 a2 a3 a4) := by
  unfold State.writePage
  split
  · refine Frame.step (State.writeEvqBase_frame ..) rfl ?_
    exact Frame.refl _ _
  · refine Frame.step (State.writeEvqControl_frame ..) rfl ?_
    exact Frame.refl _ _
  · refine Frame.step (State.writeEvqHead_frame ..) rfl ?_
    exact Frame.refl _ _
  · refine Frame.ite ?_ ?_
    · exact Frame.refl _ _
    · refine Frame.step (State.writePasid_frame ..) rfl ?_
      exact Frame.refl _ _
  · exact Frame.refl _ _

theorem State.writePageOf_frame (a0) (a1) (a2) (a3) (a4) :
    Frame [.pages] a0 (State.writePageOf a0 a1 a2 a3 a4) := by
  unfold State.writePageOf
  split
  · refine Frame.step (State.writePage_frame ..) rfl ?_
    exact Frame.refl _ _
  · refine Frame.ite ?_ ?_
    · refine Frame.step (State.writePage_frame ..) rfl ?_
      exact Frame.refl _ _
    · exact Frame.refl _ _

theorem execContextControlWrite_frame {a0} {a1} {a2} {a3} {a4} {t : State} (h : execContextControlWrite a0 a1 a2 a3 a4 = .next t) :
    Frame [.pages] a4 t := by
  cases h
  refine State.ifHost_frame_k rfl (fun _ => ?_) ?_
  · refine Frame.step (State.writePageOf_frame ..) rfl ?_
    exact Frame.refl _ _
  · exact Frame.refl _ _

theorem State.forgetPages_frame (a0) (a1) (a2) (a3) :
    Frame [.bulk] a0 (State.forgetPages a0 a1 a2 a3) := by
  unfold State.forgetPages
  refine Frame.set_bulk _ id (.inr rfl) (.inl rfl) ?_
  exact Frame.refl _ _

theorem State.writeRoot_frame (a0) (a1) (a2) :
    Frame [.bulk] a0 (State.writeRoot a0 a1 a2) := by
  unfold State.writeRoot
  refine Frame.step (State.forgetPages_frame ..) rfl ?_
  refine Frame.set_bulk _ id (.inr rfl) (.inl rfl) ?_
  exact Frame.refl _ _

theorem execBkiCtxRootWrite_frame {a0} {a1} {a2} {t : State} (h : execBkiCtxRootWrite a0 a1 a2 = .next t) :
    Frame [.bulk] a2 t := by
  cases h
  refine State.ifHost_frame_k rfl (fun _ => ?_) ?_
  · refine Frame.step (State.writeRoot_frame ..) rfl ?_
    exact Frame.refl _ _
  · exact Frame.refl _ _

theorem State.writeInval_frame (a0) (a1) :
    Frame [.bulk, .links] a0 (State.writeInval a0 a1) := by
  unfold State.writeInval
  refine Frame.ite ?_ ?_
  · exact Frame.refl _ _
  · refine Frame.ite ?_ ?_
    · refine Frame.set_bulk _ id (.inr rfl) (.inl rfl) ?_
      exact Frame.refl _ _
    · refine Frame.ite ?_ ?_
      · refine Frame.set_bulk _ id (.inr rfl) (.inl rfl) ?_
        refine Frame.step (State.beginConfirm_frame ..) rfl ?_
        refine Frame.ite ?_ ?_
        · refine Frame.step (State.forgetPages_frame ..) rfl ?_
          exact Frame.refl _ _
        · refine Frame.step (State.forgetPages_frame ..) rfl ?_
          exact Frame.refl _ _
      · refine Frame.set_bulk _ id (.inr rfl) (.inl rfl) ?_
        refine Frame.ite ?_ ?_
        · refine Frame.step (State.forgetPages_frame ..) rfl ?_
          exact Frame.refl _ _
        · refine Frame.step (State.forgetPages_frame ..) rfl ?_
          exact Frame.refl _ _

theorem execBkiInval_frame {a0} {a1} {t : State} (h : execBkiInval a0 a1 = .next t) :
    Frame [.bulk, .links] a1 t := by
  cases h
  refine State.ifHost_frame_k rfl (fun _ => ?_) ?_
  · refine Frame.step (State.writeInval_frame ..) rfl ?_
    exact Frame.refl _ _
  · exact Frame.refl _ _

theorem execBkiInvalQuiesced_frame {a0} {t : State} (h : execBkiInvalQuiesced a0 = .next t) :
    Frame [.bulk, .links] a0 t := by
  cases h
  refine Frame.ite ?_ ?_
  · refine Frame.set_bulk _ id (.inr rfl) (.inl rfl) ?_
    refine Frame.step (State.endConfirm_frame ..) rfl ?_
    exact Frame.refl _ _
  · exact Frame.refl _ _

theorem execSyncCounterWrite_frame {a0} {a1} {a2} {t : State} (h : execSyncCounterWrite a0 a1 a2 = .next t) :
    Frame [.free, .out, .entries, .ctxEntries, .host, .near, .nearMem, .bulk, .bulkMem, .rings, .msix, .pages, .counters, .cmds, .health, .power] a2 t := by
  cases h
  refine State.ifHost_frame_k rfl (fun _ => ?_) ?_
  · refine Frame.step (State.setCounter_frame ..) rfl ?_
    exact Frame.refl _ _
  · exact Frame.refl _ _

theorem State.writeOwner_frame (a0) (a1) (a2) :
    Frame [.owners] a0 (State.writeOwner a0 a1 a2) := by
  unfold State.writeOwner
  refine Frame.ite ?_ ?_
  · refine Frame.set_owners _ rfl (twf_tset _ _ _ _) ?_
    exact Frame.refl _ _
  · exact Frame.refl _ _

theorem execSyncOwnerWrite_frame {a0} {a1} {a2} {t : State} (h : execSyncOwnerWrite a0 a1 a2 = .next t) :
    Frame [.owners] a2 t := by
  cases h
  refine State.ifHost_frame_k rfl (fun _ => ?_) ?_
  · refine Frame.step (State.writeOwner_frame ..) rfl ?_
    exact Frame.refl _ _
  · exact Frame.refl _ _

theorem State.setVector_frame (a0) (a1) (a2) (a3) :
    Frame [.msix] a0 (State.setVector a0 a1 a2 a3) := by
  unfold State.setVector
  refine Frame.set_hif _ (.inr rfl) (.inr rfl) (.inl rfl) (.inr rfl) (.inr rfl) ?_
  exact Frame.refl _ _

theorem State.maskVector_frame (a0) (a1) (a2) (a3) :
    Frame [.out, .msix] a0 (State.maskVector a0 a1 a2 a3) := by
  unfold State.maskVector
  refine Frame.ite ?_ ?_
  · refine Frame.step (State.emit_frame ..) rfl ?_
    refine Frame.step (State.setVector_frame ..) rfl ?_
    exact Frame.refl _ _
  · refine Frame.step (State.setVector_frame ..) rfl ?_
    exact Frame.refl _ _

theorem execMsixUnmask_frame {a0} {a1} {a2} {t : State} (h : execMsixUnmask a0 a1 a2 = .next t) :
    Frame [.out, .msix] a2 t := by
  cases h
  refine State.ifHost_frame_k rfl (fun _ => ?_) ?_
  · refine Frame.ite ?_ ?_
    · refine Frame.step (State.maskVector_frame ..) rfl ?_
      exact Frame.refl _ _
    · exact Frame.refl _ _
  · exact Frame.refl _ _

theorem execAtsInvalidationRequest_frame {a0} {a1} {a2} {a3} {t : State} (h : execAtsInvalidationRequest a0 a1 a2 a3 = .next t) :
    Frame [.out, .bulk] a3 t := by
  cases h
  refine State.ifHost_frame_k rfl (fun _ => ?_) ?_
  · dsimp only
    refine Frame.step (State.emit_frame ..) rfl ?_
    refine Frame.set_bulk _ id (.inr rfl) (.inl rfl) ?_
    exact Frame.refl _ _
  · exact Frame.refl _ _

theorem State.writeRingFields_frame (a0) (a1) (a2) (a3) :
    Frame [.rings] a0 (State.writeRingFields a0 a1 a2 a3) := by
  unfold State.writeRingFields
  refine Frame.ite ?_ ?_
  · refine Frame.step (State.setRing_frame ..) rfl ?_
    exact Frame.refl _ _
  · refine Frame.step (State.setRing_frame ..) rfl ?_
    exact Frame.refl _ _

theorem State.writeRingControl_frame (a0) (a1) (a2) :
    Frame [.rings, .loops] a0 (State.writeRingControl a0 a1 a2) := by
  unfold State.writeRingControl
  refine Frame.ite ?_ ?_
  · refine Frame.step (State.enableRing_frame ..) rfl ?_
    exact Frame.refl _ _
  · refine Frame.step (State.disableRing_frame ..) rfl ?_
    refine Frame.ite ?_ ?_
    · refine Frame.step (State.writeRingFields_frame ..) rfl ?_
      exact Frame.refl _ _
    · exact Frame.refl _ _

theorem State.writeRingWord_frame (a0) (a1) (a2) (a3) :
    Frame [.rings, .loops] a0 (State.writeRingWord a0 a1 a2 a3) := by
  unfold State.writeRingWord
  refine Frame.ite ?_ ?_
  · refine Frame.step (State.writeRingControl_frame ..) rfl ?_
    exact Frame.refl _ _
  · refine Frame.step (State.writeRingFields_frame ..) rfl ?_
    exact Frame.refl _ _

theorem State.writeReg_frame (a0) (a1) (a2) :
    Frame [.free, .out, .dev, .cdu, .entries, .ctxEntries, .host, .near, .nearMem, .bulk, .bulkMem, .store, .storeMem, .hif, .rings, .loops, .msix, .pages, .counters, .owners, .cmds, .steps, .array, .ctxs, .serve, .tru, .links, .kop, .health, .power] a0 (State.writeReg a0 a1 a2) := by
  unfold State.writeReg
  split
  · refine Frame.step (State.writeNmMap_frame ..) rfl ?_
    exact Frame.refl _ _
  · refine Frame.step (State.writeInval_frame ..) rfl ?_
    exact Frame.refl _ _
  · refine Frame.step (State.writeRoot_frame ..) rfl ?_
    exact Frame.refl _ _
  · refine Frame.step (State.writeMail_frame ..) rfl ?_
    exact Frame.refl _ _
  · dsimp only
    refine Frame.step (State.setMail_frame ..) rfl ?_
    exact Frame.refl _ _
  · refine Frame.step (State.writeRingWord_frame ..) rfl ?_
    exact Frame.refl _ _
  · refine Frame.step (State.writeLoopWord_frame ..) rfl ?_
    exact Frame.refl _ _
  · refine Frame.step (State.setVector_frame ..) rfl ?_
    exact Frame.refl _ _
  · refine Frame.step (State.maskVector_frame ..) rfl ?_
    refine Frame.step (State.setVector_frame ..) rfl ?_
    exact Frame.refl _ _
  · refine Frame.step (State.setCounter_frame ..) rfl ?_
    exact Frame.refl _ _
  · refine Frame.foldl _ (fun _ _ => ?_) ?_
    · refine Frame.step (State.writeOwner_frame ..) rfl ?_
      exact Frame.refl _ _
    · exact Frame.refl _ _
  · refine Frame.step (State.writePageOf_frame ..) rfl ?_
    exact Frame.refl _ _
  · refine Frame.step (State.writeSqTail_frame ..) rfl ?_
    exact Frame.refl _ _
  · refine Frame.step (State.writeCqHead_frame ..) rfl ?_
    exact Frame.refl _ _
  · exact Frame.refl _ _
  · exact Frame.refl _ _
  · exact Frame.refl _ _
  · exact Frame.refl _ _

theorem State.writeHalf_frame (a0) (a1) (a2) (a3) :
    Frame [.free, .out, .dev, .cdu, .entries, .ctxEntries, .host, .near, .nearMem, .bulk, .bulkMem, .store, .storeMem, .hif, .rings, .loops, .msix, .pages, .counters, .owners, .cmds, .steps, .array, .ctxs, .serve, .tru, .links, .kop, .health, .power] a0 (State.writeHalf a0 a1 a2 a3) := by
  unfold State.writeHalf
  split
  · exact Frame.refl _ _
  · exact Frame.refl _ _
  · refine Frame.foldl _ (fun _ _ => ?_) ?_
    · refine Frame.step (State.writeOwner_frame ..) rfl ?_
      exact Frame.refl _ _
    · exact Frame.refl _ _
  · refine Frame.ite ?_ ?_
    · refine Frame.step (State.writeSqTail_frame ..) rfl ?_
      exact Frame.refl _ _
    · exact Frame.refl _ _
  · refine Frame.ite ?_ ?_
    · refine Frame.step (State.writeCqHead_frame ..) rfl ?_
      exact Frame.refl _ _
    · exact Frame.refl _ _
  · refine Frame.ite ?_ ?_
    · refine Frame.step (State.writeRingControl_frame ..) rfl ?_
      exact Frame.refl _ _
    · exact Frame.refl _ _
  · refine Frame.ite ?_ ?_
    · refine Frame.step (State.writePageOf_frame ..) rfl ?_
      exact Frame.refl _ _
    · exact Frame.refl _ _
  · dsimp only
    refine Frame.step (State.writeReg_frame ..) rfl ?_
    exact Frame.refl _ _

theorem State.writeBar_frame (a0) (a1) (a2) (a3) (a4) (a5) :
    Frame [.free, .out, .dev, .cdu, .entries, .ctxEntries, .host, .near, .nearMem, .bulk, .bulkMem, .store, .storeMem, .hif, .rings, .loops, .msix, .pages, .counters, .owners, .cmds, .steps, .array, .ctxs, .serve, .tru, .links, .kop, .health, .power] a0 (State.writeBar a0 a1 a2 a3 a4 a5) := by
  unfold State.writeBar
  split
  · exact Frame.refl _ _
  · refine Frame.ite ?_ ?_
    · refine Frame.ite ?_ ?_
      · refine Frame.step (State.writeReg_frame ..) rfl ?_
        exact Frame.refl _ _
      · exact Frame.refl _ _
    · refine Frame.ite ?_ ?_
      · refine Frame.step (State.writeHalf_frame ..) rfl ?_
        exact Frame.refl _ _
      · exact Frame.refl _ _

theorem execRegisterWrite_frame {a0} {a1} {a2} {a3} {a4} {a5} {t : State} (h : execRegisterWrite a0 a1 a2 a3 a4 a5 = .next t) :
    Frame [.free, .out, .dev, .cdu, .entries, .ctxEntries, .host, .near, .nearMem, .bulk, .bulkMem, .store, .storeMem, .hif, .rings, .loops, .msix, .pages, .counters, .owners, .cmds, .steps, .array, .ctxs, .serve, .tru, .links, .kop, .health, .power] a5 t := by
  cases h
  refine State.ifHost_frame_k rfl (fun _ => ?_) ?_
  · refine Frame.step (State.writeBar_frame ..) rfl ?_
    exact Frame.refl _ _
  · exact Frame.refl _ _

end Sys2Proof.Machine
end

