-- ==== Sys2Proof/Laws/State.lean ====
section
/-! SUPPORT. The named changes of one part of State, field by field: each leaves every other field as it was, and what it
sets is what is read. -/

namespace Sys2Proof.Machine

section
variable (s : State)

@[simp] theorem State.at_pending (t : Nat) : (s.at t).pending = s.pending := rfl
@[simp] theorem State.at_free (t : Nat) : (s.at t).free = s.free := rfl
@[simp] theorem State.at_out (t : Nat) : (s.at t).out = s.out := rfl
@[simp] theorem State.at_pins (t : Nat) : (s.at t).pins = s.pins := rfl
@[simp] theorem State.at_dev (t : Nat) : (s.at t).dev = s.dev := rfl
@[simp] theorem State.at_cdu (t : Nat) : (s.at t).cdu = s.cdu := rfl
@[simp] theorem State.at_dict (t : Nat) : (s.at t).dict = s.dict := rfl
@[simp] theorem State.at_cdict (t : Nat) : (s.at t).cdict = s.cdict := rfl
@[simp] theorem State.at_host (t : Nat) : (s.at t).host = s.host := rfl
@[simp] theorem State.at_hostUncommitted (t : Nat) : (s.at t).hostUncommitted = s.hostUncommitted := rfl
@[simp] theorem State.at_hostDown (t : Nat) : (s.at t).hostDown = s.hostDown := rfl
@[simp] theorem State.at_near (t : Nat) : (s.at t).near = s.near := rfl
@[simp] theorem State.at_bulk (t : Nat) : (s.at t).bulk = s.bulk := rfl
@[simp] theorem State.at_store (t : Nat) : (s.at t).store = s.store := rfl
@[simp] theorem State.at_hif (t : Nat) : (s.at t).hif = s.hif := rfl
@[simp] theorem State.at_counters (t : Nat) : (s.at t).counters = s.counters := rfl
@[simp] theorem State.at_owners (t : Nat) : (s.at t).owners = s.owners := rfl
@[simp] theorem State.at_cmds (t : Nat) : (s.at t).cmds = s.cmds := rfl
@[simp] theorem State.at_nextCmd (t : Nat) : (s.at t).nextCmd = s.nextCmd := rfl
@[simp] theorem State.at_steps (t : Nat) : (s.at t).steps = s.steps := rfl
@[simp] theorem State.at_array (t : Nat) : (s.at t).array = s.array := rfl
@[simp] theorem State.at_ctxs (t : Nat) : (s.at t).ctxs = s.ctxs := rfl
@[simp] theorem State.at_serve (t : Nat) : (s.at t).serve = s.serve := rfl
@[simp] theorem State.at_tru (t : Nat) : (s.at t).tru = s.tru := rfl
@[simp] theorem State.at_links (t : Nat) : (s.at t).links = s.links := rfl
@[simp] theorem State.at_kop (t : Nat) : (s.at t).kop = s.kop := rfl
@[simp] theorem State.at_health (t : Nat) : (s.at t).health = s.health := rfl
@[simp] theorem State.at_power (t : Nat) : (s.at t).power = s.power := rfl

@[simp] theorem State.emit_pending (o : Out) : (s.emit o).pending = s.pending := rfl
@[simp] theorem State.emit_free (o : Out) : (s.emit o).free = s.free := rfl
@[simp] theorem State.emit_uptime (o : Out) : (s.emit o).uptime = s.uptime := rfl
@[simp] theorem State.emit_pins (o : Out) : (s.emit o).pins = s.pins := rfl
@[simp] theorem State.emit_dev (o : Out) : (s.emit o).dev = s.dev := rfl
@[simp] theorem State.emit_cdu (o : Out) : (s.emit o).cdu = s.cdu := rfl
@[simp] theorem State.emit_dict (o : Out) : (s.emit o).dict = s.dict := rfl
@[simp] theorem State.emit_cdict (o : Out) : (s.emit o).cdict = s.cdict := rfl
@[simp] theorem State.emit_host (o : Out) : (s.emit o).host = s.host := rfl
@[simp] theorem State.emit_hostUncommitted (o : Out) : (s.emit o).hostUncommitted = s.hostUncommitted := rfl
@[simp] theorem State.emit_hostDown (o : Out) : (s.emit o).hostDown = s.hostDown := rfl
@[simp] theorem State.emit_near (o : Out) : (s.emit o).near = s.near := rfl
@[simp] theorem State.emit_bulk (o : Out) : (s.emit o).bulk = s.bulk := rfl
@[simp] theorem State.emit_store (o : Out) : (s.emit o).store = s.store := rfl
@[simp] theorem State.emit_hif (o : Out) : (s.emit o).hif = s.hif := rfl
@[simp] theorem State.emit_counters (o : Out) : (s.emit o).counters = s.counters := rfl
@[simp] theorem State.emit_owners (o : Out) : (s.emit o).owners = s.owners := rfl
@[simp] theorem State.emit_cmds (o : Out) : (s.emit o).cmds = s.cmds := rfl
@[simp] theorem State.emit_nextCmd (o : Out) : (s.emit o).nextCmd = s.nextCmd := rfl
@[simp] theorem State.emit_steps (o : Out) : (s.emit o).steps = s.steps := rfl
@[simp] theorem State.emit_array (o : Out) : (s.emit o).array = s.array := rfl
@[simp] theorem State.emit_ctxs (o : Out) : (s.emit o).ctxs = s.ctxs := rfl
@[simp] theorem State.emit_serve (o : Out) : (s.emit o).serve = s.serve := rfl
@[simp] theorem State.emit_tru (o : Out) : (s.emit o).tru = s.tru := rfl
@[simp] theorem State.emit_links (o : Out) : (s.emit o).links = s.links := rfl
@[simp] theorem State.emit_kop (o : Out) : (s.emit o).kop = s.kop := rfl
@[simp] theorem State.emit_health (o : Out) : (s.emit o).health = s.health := rfl
@[simp] theorem State.emit_power (o : Out) : (s.emit o).power = s.power := rfl

@[simp] theorem State.dset_pending (i j e v : Nat) : (s.dset i j e v).pending = s.pending := rfl
@[simp] theorem State.dset_free (i j e v : Nat) : (s.dset i j e v).free = s.free := rfl
@[simp] theorem State.dset_out (i j e v : Nat) : (s.dset i j e v).out = s.out := rfl
@[simp] theorem State.dset_uptime (i j e v : Nat) : (s.dset i j e v).uptime = s.uptime := rfl
@[simp] theorem State.dset_pins (i j e v : Nat) : (s.dset i j e v).pins = s.pins := rfl
@[simp] theorem State.dset_dev (i j e v : Nat) : (s.dset i j e v).dev = s.dev := rfl
@[simp] theorem State.dset_cdu (i j e v : Nat) : (s.dset i j e v).cdu = s.cdu := rfl
@[simp] theorem State.dset_cdict (i j e v : Nat) : (s.dset i j e v).cdict = s.cdict := rfl
@[simp] theorem State.dset_host (i j e v : Nat) : (s.dset i j e v).host = s.host := rfl
@[simp] theorem State.dset_hostUncommitted (i j e v : Nat) : (s.dset i j e v).hostUncommitted = s.hostUncommitted := rfl
@[simp] theorem State.dset_hostDown (i j e v : Nat) : (s.dset i j e v).hostDown = s.hostDown := rfl
@[simp] theorem State.dset_near (i j e v : Nat) : (s.dset i j e v).near = s.near := rfl
@[simp] theorem State.dset_bulk (i j e v : Nat) : (s.dset i j e v).bulk = s.bulk := rfl
@[simp] theorem State.dset_store (i j e v : Nat) : (s.dset i j e v).store = s.store := rfl
@[simp] theorem State.dset_hif (i j e v : Nat) : (s.dset i j e v).hif = s.hif := rfl
@[simp] theorem State.dset_counters (i j e v : Nat) : (s.dset i j e v).counters = s.counters := rfl
@[simp] theorem State.dset_owners (i j e v : Nat) : (s.dset i j e v).owners = s.owners := rfl
@[simp] theorem State.dset_cmds (i j e v : Nat) : (s.dset i j e v).cmds = s.cmds := rfl
@[simp] theorem State.dset_nextCmd (i j e v : Nat) : (s.dset i j e v).nextCmd = s.nextCmd := rfl
@[simp] theorem State.dset_steps (i j e v : Nat) : (s.dset i j e v).steps = s.steps := rfl
@[simp] theorem State.dset_array (i j e v : Nat) : (s.dset i j e v).array = s.array := rfl
@[simp] theorem State.dset_ctxs (i j e v : Nat) : (s.dset i j e v).ctxs = s.ctxs := rfl
@[simp] theorem State.dset_serve (i j e v : Nat) : (s.dset i j e v).serve = s.serve := rfl
@[simp] theorem State.dset_tru (i j e v : Nat) : (s.dset i j e v).tru = s.tru := rfl
@[simp] theorem State.dset_links (i j e v : Nat) : (s.dset i j e v).links = s.links := rfl
@[simp] theorem State.dset_kop (i j e v : Nat) : (s.dset i j e v).kop = s.kop := rfl
@[simp] theorem State.dset_health (i j e v : Nat) : (s.dset i j e v).health = s.health := rfl
@[simp] theorem State.dset_power (i j e v : Nat) : (s.dset i j e v).power = s.power := rfl

@[simp] theorem State.setPort_pending (p : Nat) (q : Port) : (s.setPort p q).pending = s.pending := rfl
@[simp] theorem State.setPort_free (p : Nat) (q : Port) : (s.setPort p q).free = s.free := rfl
@[simp] theorem State.setPort_out (p : Nat) (q : Port) : (s.setPort p q).out = s.out := rfl
@[simp] theorem State.setPort_uptime (p : Nat) (q : Port) : (s.setPort p q).uptime = s.uptime := rfl
@[simp] theorem State.setPort_pins (p : Nat) (q : Port) : (s.setPort p q).pins = s.pins := rfl
@[simp] theorem State.setPort_dev (p : Nat) (q : Port) : (s.setPort p q).dev = s.dev := rfl
@[simp] theorem State.setPort_cdu (p : Nat) (q : Port) : (s.setPort p q).cdu = s.cdu := rfl
@[simp] theorem State.setPort_dict (p : Nat) (q : Port) : (s.setPort p q).dict = s.dict := rfl
@[simp] theorem State.setPort_cdict (p : Nat) (q : Port) : (s.setPort p q).cdict = s.cdict := rfl
@[simp] theorem State.setPort_host (p : Nat) (q : Port) : (s.setPort p q).host = s.host := rfl
@[simp] theorem State.setPort_hostUncommitted (p : Nat) (q : Port) : (s.setPort p q).hostUncommitted = s.hostUncommitted := rfl
@[simp] theorem State.setPort_hostDown (p : Nat) (q : Port) : (s.setPort p q).hostDown = s.hostDown := rfl
@[simp] theorem State.setPort_near (p : Nat) (q : Port) : (s.setPort p q).near = s.near := rfl
@[simp] theorem State.setPort_bulk (p : Nat) (q : Port) : (s.setPort p q).bulk = s.bulk := rfl
@[simp] theorem State.setPort_store (p : Nat) (q : Port) : (s.setPort p q).store = s.store := rfl
@[simp] theorem State.setPort_hif (p : Nat) (q : Port) : (s.setPort p q).hif = s.hif := rfl
@[simp] theorem State.setPort_counters (p : Nat) (q : Port) : (s.setPort p q).counters = s.counters := rfl
@[simp] theorem State.setPort_owners (p : Nat) (q : Port) : (s.setPort p q).owners = s.owners := rfl
@[simp] theorem State.setPort_cmds (p : Nat) (q : Port) : (s.setPort p q).cmds = s.cmds := rfl
@[simp] theorem State.setPort_nextCmd (p : Nat) (q : Port) : (s.setPort p q).nextCmd = s.nextCmd := rfl
@[simp] theorem State.setPort_steps (p : Nat) (q : Port) : (s.setPort p q).steps = s.steps := rfl
@[simp] theorem State.setPort_array (p : Nat) (q : Port) : (s.setPort p q).array = s.array := rfl
@[simp] theorem State.setPort_ctxs (p : Nat) (q : Port) : (s.setPort p q).ctxs = s.ctxs := rfl
@[simp] theorem State.setPort_serve (p : Nat) (q : Port) : (s.setPort p q).serve = s.serve := rfl
@[simp] theorem State.setPort_tru (p : Nat) (q : Port) : (s.setPort p q).tru = s.tru := rfl
@[simp] theorem State.setPort_kop (p : Nat) (q : Port) : (s.setPort p q).kop = s.kop := rfl
@[simp] theorem State.setPort_health (p : Nat) (q : Port) : (s.setPort p q).health = s.health := rfl
@[simp] theorem State.setPort_power (p : Nat) (q : Port) : (s.setPort p q).power = s.power := rfl

@[simp] theorem State.setRing_pending (g : Nat) (r : Ring) : (s.setRing g r).pending = s.pending := rfl
@[simp] theorem State.setRing_free (g : Nat) (r : Ring) : (s.setRing g r).free = s.free := rfl
@[simp] theorem State.setRing_out (g : Nat) (r : Ring) : (s.setRing g r).out = s.out := rfl
@[simp] theorem State.setRing_uptime (g : Nat) (r : Ring) : (s.setRing g r).uptime = s.uptime := rfl
@[simp] theorem State.setRing_pins (g : Nat) (r : Ring) : (s.setRing g r).pins = s.pins := rfl
@[simp] theorem State.setRing_dev (g : Nat) (r : Ring) : (s.setRing g r).dev = s.dev := rfl
@[simp] theorem State.setRing_cdu (g : Nat) (r : Ring) : (s.setRing g r).cdu = s.cdu := rfl
@[simp] theorem State.setRing_dict (g : Nat) (r : Ring) : (s.setRing g r).dict = s.dict := rfl
@[simp] theorem State.setRing_cdict (g : Nat) (r : Ring) : (s.setRing g r).cdict = s.cdict := rfl
@[simp] theorem State.setRing_host (g : Nat) (r : Ring) : (s.setRing g r).host = s.host := rfl
@[simp] theorem State.setRing_hostUncommitted (g : Nat) (r : Ring) : (s.setRing g r).hostUncommitted = s.hostUncommitted := rfl
@[simp] theorem State.setRing_hostDown (g : Nat) (r : Ring) : (s.setRing g r).hostDown = s.hostDown := rfl
@[simp] theorem State.setRing_near (g : Nat) (r : Ring) : (s.setRing g r).near = s.near := rfl
@[simp] theorem State.setRing_bulk (g : Nat) (r : Ring) : (s.setRing g r).bulk = s.bulk := rfl
@[simp] theorem State.setRing_store (g : Nat) (r : Ring) : (s.setRing g r).store = s.store := rfl
@[simp] theorem State.setRing_counters (g : Nat) (r : Ring) : (s.setRing g r).counters = s.counters := rfl
@[simp] theorem State.setRing_owners (g : Nat) (r : Ring) : (s.setRing g r).owners = s.owners := rfl
@[simp] theorem State.setRing_cmds (g : Nat) (r : Ring) : (s.setRing g r).cmds = s.cmds := rfl
@[simp] theorem State.setRing_nextCmd (g : Nat) (r : Ring) : (s.setRing g r).nextCmd = s.nextCmd := rfl
@[simp] theorem State.setRing_steps (g : Nat) (r : Ring) : (s.setRing g r).steps = s.steps := rfl
@[simp] theorem State.setRing_array (g : Nat) (r : Ring) : (s.setRing g r).array = s.array := rfl
@[simp] theorem State.setRing_ctxs (g : Nat) (r : Ring) : (s.setRing g r).ctxs = s.ctxs := rfl
@[simp] theorem State.setRing_serve (g : Nat) (r : Ring) : (s.setRing g r).serve = s.serve := rfl
@[simp] theorem State.setRing_tru (g : Nat) (r : Ring) : (s.setRing g r).tru = s.tru := rfl
@[simp] theorem State.setRing_links (g : Nat) (r : Ring) : (s.setRing g r).links = s.links := rfl
@[simp] theorem State.setRing_kop (g : Nat) (r : Ring) : (s.setRing g r).kop = s.kop := rfl
@[simp] theorem State.setRing_health (g : Nat) (r : Ring) : (s.setRing g r).health = s.health := rfl
@[simp] theorem State.setRing_power (g : Nat) (r : Ring) : (s.setRing g r).power = s.power := rfl

@[simp] theorem State.setLoop_pending (g : Nat) (l : Loop) : (s.setLoop g l).pending = s.pending := rfl
@[simp] theorem State.setLoop_free (g : Nat) (l : Loop) : (s.setLoop g l).free = s.free := rfl
@[simp] theorem State.setLoop_out (g : Nat) (l : Loop) : (s.setLoop g l).out = s.out := rfl
@[simp] theorem State.setLoop_uptime (g : Nat) (l : Loop) : (s.setLoop g l).uptime = s.uptime := rfl
@[simp] theorem State.setLoop_pins (g : Nat) (l : Loop) : (s.setLoop g l).pins = s.pins := rfl
@[simp] theorem State.setLoop_dev (g : Nat) (l : Loop) : (s.setLoop g l).dev = s.dev := rfl
@[simp] theorem State.setLoop_cdu (g : Nat) (l : Loop) : (s.setLoop g l).cdu = s.cdu := rfl
@[simp] theorem State.setLoop_dict (g : Nat) (l : Loop) : (s.setLoop g l).dict = s.dict := rfl
@[simp] theorem State.setLoop_cdict (g : Nat) (l : Loop) : (s.setLoop g l).cdict = s.cdict := rfl
@[simp] theorem State.setLoop_host (g : Nat) (l : Loop) : (s.setLoop g l).host = s.host := rfl
@[simp] theorem State.setLoop_hostUncommitted (g : Nat) (l : Loop) : (s.setLoop g l).hostUncommitted = s.hostUncommitted := rfl
@[simp] theorem State.setLoop_hostDown (g : Nat) (l : Loop) : (s.setLoop g l).hostDown = s.hostDown := rfl
@[simp] theorem State.setLoop_near (g : Nat) (l : Loop) : (s.setLoop g l).near = s.near := rfl
@[simp] theorem State.setLoop_bulk (g : Nat) (l : Loop) : (s.setLoop g l).bulk = s.bulk := rfl
@[simp] theorem State.setLoop_store (g : Nat) (l : Loop) : (s.setLoop g l).store = s.store := rfl
@[simp] theorem State.setLoop_counters (g : Nat) (l : Loop) : (s.setLoop g l).counters = s.counters := rfl
@[simp] theorem State.setLoop_owners (g : Nat) (l : Loop) : (s.setLoop g l).owners = s.owners := rfl
@[simp] theorem State.setLoop_cmds (g : Nat) (l : Loop) : (s.setLoop g l).cmds = s.cmds := rfl
@[simp] theorem State.setLoop_nextCmd (g : Nat) (l : Loop) : (s.setLoop g l).nextCmd = s.nextCmd := rfl
@[simp] theorem State.setLoop_steps (g : Nat) (l : Loop) : (s.setLoop g l).steps = s.steps := rfl
@[simp] theorem State.setLoop_array (g : Nat) (l : Loop) : (s.setLoop g l).array = s.array := rfl
@[simp] theorem State.setLoop_ctxs (g : Nat) (l : Loop) : (s.setLoop g l).ctxs = s.ctxs := rfl
@[simp] theorem State.setLoop_serve (g : Nat) (l : Loop) : (s.setLoop g l).serve = s.serve := rfl
@[simp] theorem State.setLoop_tru (g : Nat) (l : Loop) : (s.setLoop g l).tru = s.tru := rfl
@[simp] theorem State.setLoop_links (g : Nat) (l : Loop) : (s.setLoop g l).links = s.links := rfl
@[simp] theorem State.setLoop_kop (g : Nat) (l : Loop) : (s.setLoop g l).kop = s.kop := rfl
@[simp] theorem State.setLoop_health (g : Nat) (l : Loop) : (s.setLoop g l).health = s.health := rfl
@[simp] theorem State.setLoop_power (g : Nat) (l : Loop) : (s.setLoop g l).power = s.power := rfl

@[simp] theorem State.setStep_pending (p : Step) : (s.setStep p).pending = s.pending := rfl
@[simp] theorem State.setStep_free (p : Step) : (s.setStep p).free = s.free := rfl
@[simp] theorem State.setStep_out (p : Step) : (s.setStep p).out = s.out := rfl
@[simp] theorem State.setStep_uptime (p : Step) : (s.setStep p).uptime = s.uptime := rfl
@[simp] theorem State.setStep_pins (p : Step) : (s.setStep p).pins = s.pins := rfl
@[simp] theorem State.setStep_dev (p : Step) : (s.setStep p).dev = s.dev := rfl
@[simp] theorem State.setStep_cdu (p : Step) : (s.setStep p).cdu = s.cdu := rfl
@[simp] theorem State.setStep_dict (p : Step) : (s.setStep p).dict = s.dict := rfl
@[simp] theorem State.setStep_cdict (p : Step) : (s.setStep p).cdict = s.cdict := rfl
@[simp] theorem State.setStep_host (p : Step) : (s.setStep p).host = s.host := rfl
@[simp] theorem State.setStep_hostUncommitted (p : Step) : (s.setStep p).hostUncommitted = s.hostUncommitted := rfl
@[simp] theorem State.setStep_hostDown (p : Step) : (s.setStep p).hostDown = s.hostDown := rfl
@[simp] theorem State.setStep_near (p : Step) : (s.setStep p).near = s.near := rfl
@[simp] theorem State.setStep_bulk (p : Step) : (s.setStep p).bulk = s.bulk := rfl
@[simp] theorem State.setStep_store (p : Step) : (s.setStep p).store = s.store := rfl
@[simp] theorem State.setStep_hif (p : Step) : (s.setStep p).hif = s.hif := rfl
@[simp] theorem State.setStep_counters (p : Step) : (s.setStep p).counters = s.counters := rfl
@[simp] theorem State.setStep_owners (p : Step) : (s.setStep p).owners = s.owners := rfl
@[simp] theorem State.setStep_cmds (p : Step) : (s.setStep p).cmds = s.cmds := rfl
@[simp] theorem State.setStep_nextCmd (p : Step) : (s.setStep p).nextCmd = s.nextCmd := rfl
@[simp] theorem State.setStep_array (p : Step) : (s.setStep p).array = s.array := rfl
@[simp] theorem State.setStep_ctxs (p : Step) : (s.setStep p).ctxs = s.ctxs := rfl
@[simp] theorem State.setStep_serve (p : Step) : (s.setStep p).serve = s.serve := rfl
@[simp] theorem State.setStep_tru (p : Step) : (s.setStep p).tru = s.tru := rfl
@[simp] theorem State.setStep_links (p : Step) : (s.setStep p).links = s.links := rfl
@[simp] theorem State.setStep_kop (p : Step) : (s.setStep p).kop = s.kop := rfl
@[simp] theorem State.setStep_health (p : Step) : (s.setStep p).health = s.health := rfl
@[simp] theorem State.setStep_power (p : Step) : (s.setStep p).power = s.power := rfl

@[simp] theorem State.setCore_pending (i : Nat) (k : Core) : (s.setCore i k).pending = s.pending := rfl
@[simp] theorem State.setCore_free (i : Nat) (k : Core) : (s.setCore i k).free = s.free := rfl
@[simp] theorem State.setCore_out (i : Nat) (k : Core) : (s.setCore i k).out = s.out := rfl
@[simp] theorem State.setCore_uptime (i : Nat) (k : Core) : (s.setCore i k).uptime = s.uptime := rfl
@[simp] theorem State.setCore_pins (i : Nat) (k : Core) : (s.setCore i k).pins = s.pins := rfl
@[simp] theorem State.setCore_dev (i : Nat) (k : Core) : (s.setCore i k).dev = s.dev := rfl
@[simp] theorem State.setCore_cdu (i : Nat) (k : Core) : (s.setCore i k).cdu = s.cdu := rfl
@[simp] theorem State.setCore_dict (i : Nat) (k : Core) : (s.setCore i k).dict = s.dict := rfl
@[simp] theorem State.setCore_cdict (i : Nat) (k : Core) : (s.setCore i k).cdict = s.cdict := rfl
@[simp] theorem State.setCore_host (i : Nat) (k : Core) : (s.setCore i k).host = s.host := rfl
@[simp] theorem State.setCore_hostUncommitted (i : Nat) (k : Core) : (s.setCore i k).hostUncommitted = s.hostUncommitted := rfl
@[simp] theorem State.setCore_hostDown (i : Nat) (k : Core) : (s.setCore i k).hostDown = s.hostDown := rfl
@[simp] theorem State.setCore_near (i : Nat) (k : Core) : (s.setCore i k).near = s.near := rfl
@[simp] theorem State.setCore_bulk (i : Nat) (k : Core) : (s.setCore i k).bulk = s.bulk := rfl
@[simp] theorem State.setCore_store (i : Nat) (k : Core) : (s.setCore i k).store = s.store := rfl
@[simp] theorem State.setCore_hif (i : Nat) (k : Core) : (s.setCore i k).hif = s.hif := rfl
@[simp] theorem State.setCore_counters (i : Nat) (k : Core) : (s.setCore i k).counters = s.counters := rfl
@[simp] theorem State.setCore_owners (i : Nat) (k : Core) : (s.setCore i k).owners = s.owners := rfl
@[simp] theorem State.setCore_cmds (i : Nat) (k : Core) : (s.setCore i k).cmds = s.cmds := rfl
@[simp] theorem State.setCore_nextCmd (i : Nat) (k : Core) : (s.setCore i k).nextCmd = s.nextCmd := rfl
@[simp] theorem State.setCore_steps (i : Nat) (k : Core) : (s.setCore i k).steps = s.steps := rfl
@[simp] theorem State.setCore_ctxs (i : Nat) (k : Core) : (s.setCore i k).ctxs = s.ctxs := rfl
@[simp] theorem State.setCore_serve (i : Nat) (k : Core) : (s.setCore i k).serve = s.serve := rfl
@[simp] theorem State.setCore_tru (i : Nat) (k : Core) : (s.setCore i k).tru = s.tru := rfl
@[simp] theorem State.setCore_links (i : Nat) (k : Core) : (s.setCore i k).links = s.links := rfl
@[simp] theorem State.setCore_kop (i : Nat) (k : Core) : (s.setCore i k).kop = s.kop := rfl
@[simp] theorem State.setCore_health (i : Nat) (k : Core) : (s.setCore i k).health = s.health := rfl
@[simp] theorem State.setCore_power (i : Nat) (k : Core) : (s.setCore i k).power = s.power := rfl

@[simp] theorem State.setStream_pending (i : Nat) (t : Stream) : (s.setStream i t).pending = s.pending := rfl
@[simp] theorem State.setStream_free (i : Nat) (t : Stream) : (s.setStream i t).free = s.free := rfl
@[simp] theorem State.setStream_out (i : Nat) (t : Stream) : (s.setStream i t).out = s.out := rfl
@[simp] theorem State.setStream_uptime (i : Nat) (t : Stream) : (s.setStream i t).uptime = s.uptime := rfl
@[simp] theorem State.setStream_pins (i : Nat) (t : Stream) : (s.setStream i t).pins = s.pins := rfl
@[simp] theorem State.setStream_dev (i : Nat) (t : Stream) : (s.setStream i t).dev = s.dev := rfl
@[simp] theorem State.setStream_cdu (i : Nat) (t : Stream) : (s.setStream i t).cdu = s.cdu := rfl
@[simp] theorem State.setStream_dict (i : Nat) (t : Stream) : (s.setStream i t).dict = s.dict := rfl
@[simp] theorem State.setStream_cdict (i : Nat) (t : Stream) : (s.setStream i t).cdict = s.cdict := rfl
@[simp] theorem State.setStream_host (i : Nat) (t : Stream) : (s.setStream i t).host = s.host := rfl
@[simp] theorem State.setStream_hostUncommitted (i : Nat) (t : Stream) : (s.setStream i t).hostUncommitted = s.hostUncommitted := rfl
@[simp] theorem State.setStream_hostDown (i : Nat) (t : Stream) : (s.setStream i t).hostDown = s.hostDown := rfl
@[simp] theorem State.setStream_near (i : Nat) (t : Stream) : (s.setStream i t).near = s.near := rfl
@[simp] theorem State.setStream_bulk (i : Nat) (t : Stream) : (s.setStream i t).bulk = s.bulk := rfl
@[simp] theorem State.setStream_store (i : Nat) (t : Stream) : (s.setStream i t).store = s.store := rfl
@[simp] theorem State.setStream_hif (i : Nat) (t : Stream) : (s.setStream i t).hif = s.hif := rfl
@[simp] theorem State.setStream_counters (i : Nat) (t : Stream) : (s.setStream i t).counters = s.counters := rfl
@[simp] theorem State.setStream_owners (i : Nat) (t : Stream) : (s.setStream i t).owners = s.owners := rfl
@[simp] theorem State.setStream_cmds (i : Nat) (t : Stream) : (s.setStream i t).cmds = s.cmds := rfl
@[simp] theorem State.setStream_nextCmd (i : Nat) (t : Stream) : (s.setStream i t).nextCmd = s.nextCmd := rfl
@[simp] theorem State.setStream_steps (i : Nat) (t : Stream) : (s.setStream i t).steps = s.steps := rfl
@[simp] theorem State.setStream_ctxs (i : Nat) (t : Stream) : (s.setStream i t).ctxs = s.ctxs := rfl
@[simp] theorem State.setStream_serve (i : Nat) (t : Stream) : (s.setStream i t).serve = s.serve := rfl
@[simp] theorem State.setStream_tru (i : Nat) (t : Stream) : (s.setStream i t).tru = s.tru := rfl
@[simp] theorem State.setStream_links (i : Nat) (t : Stream) : (s.setStream i t).links = s.links := rfl
@[simp] theorem State.setStream_kop (i : Nat) (t : Stream) : (s.setStream i t).kop = s.kop := rfl
@[simp] theorem State.setStream_health (i : Nat) (t : Stream) : (s.setStream i t).health = s.health := rfl
@[simp] theorem State.setStream_power (i : Nat) (t : Stream) : (s.setStream i t).power = s.power := rfl

@[simp] theorem State.setCluster_pending (i : Nat) (k : Cluster) : (s.setCluster i k).pending = s.pending := rfl
@[simp] theorem State.setCluster_free (i : Nat) (k : Cluster) : (s.setCluster i k).free = s.free := rfl
@[simp] theorem State.setCluster_out (i : Nat) (k : Cluster) : (s.setCluster i k).out = s.out := rfl
@[simp] theorem State.setCluster_uptime (i : Nat) (k : Cluster) : (s.setCluster i k).uptime = s.uptime := rfl
@[simp] theorem State.setCluster_pins (i : Nat) (k : Cluster) : (s.setCluster i k).pins = s.pins := rfl
@[simp] theorem State.setCluster_dev (i : Nat) (k : Cluster) : (s.setCluster i k).dev = s.dev := rfl
@[simp] theorem State.setCluster_cdu (i : Nat) (k : Cluster) : (s.setCluster i k).cdu = s.cdu := rfl
@[simp] theorem State.setCluster_dict (i : Nat) (k : Cluster) : (s.setCluster i k).dict = s.dict := rfl
@[simp] theorem State.setCluster_cdict (i : Nat) (k : Cluster) : (s.setCluster i k).cdict = s.cdict := rfl
@[simp] theorem State.setCluster_host (i : Nat) (k : Cluster) : (s.setCluster i k).host = s.host := rfl
@[simp] theorem State.setCluster_hostUncommitted (i : Nat) (k : Cluster) : (s.setCluster i k).hostUncommitted = s.hostUncommitted := rfl
@[simp] theorem State.setCluster_hostDown (i : Nat) (k : Cluster) : (s.setCluster i k).hostDown = s.hostDown := rfl
@[simp] theorem State.setCluster_near (i : Nat) (k : Cluster) : (s.setCluster i k).near = s.near := rfl
@[simp] theorem State.setCluster_bulk (i : Nat) (k : Cluster) : (s.setCluster i k).bulk = s.bulk := rfl
@[simp] theorem State.setCluster_store (i : Nat) (k : Cluster) : (s.setCluster i k).store = s.store := rfl
@[simp] theorem State.setCluster_hif (i : Nat) (k : Cluster) : (s.setCluster i k).hif = s.hif := rfl
@[simp] theorem State.setCluster_counters (i : Nat) (k : Cluster) : (s.setCluster i k).counters = s.counters := rfl
@[simp] theorem State.setCluster_owners (i : Nat) (k : Cluster) : (s.setCluster i k).owners = s.owners := rfl
@[simp] theorem State.setCluster_cmds (i : Nat) (k : Cluster) : (s.setCluster i k).cmds = s.cmds := rfl
@[simp] theorem State.setCluster_nextCmd (i : Nat) (k : Cluster) : (s.setCluster i k).nextCmd = s.nextCmd := rfl
@[simp] theorem State.setCluster_steps (i : Nat) (k : Cluster) : (s.setCluster i k).steps = s.steps := rfl
@[simp] theorem State.setCluster_ctxs (i : Nat) (k : Cluster) : (s.setCluster i k).ctxs = s.ctxs := rfl
@[simp] theorem State.setCluster_serve (i : Nat) (k : Cluster) : (s.setCluster i k).serve = s.serve := rfl
@[simp] theorem State.setCluster_tru (i : Nat) (k : Cluster) : (s.setCluster i k).tru = s.tru := rfl
@[simp] theorem State.setCluster_links (i : Nat) (k : Cluster) : (s.setCluster i k).links = s.links := rfl
@[simp] theorem State.setCluster_kop (i : Nat) (k : Cluster) : (s.setCluster i k).kop = s.kop := rfl
@[simp] theorem State.setCluster_health (i : Nat) (k : Cluster) : (s.setCluster i k).health = s.health := rfl
@[simp] theorem State.setCluster_power (i : Nat) (k : Cluster) : (s.setCluster i k).power = s.power := rfl

@[simp] theorem State.setSlot_pending (k : Nat) (v : Slot) : (s.setSlot k v).pending = s.pending := rfl
@[simp] theorem State.setSlot_free (k : Nat) (v : Slot) : (s.setSlot k v).free = s.free := rfl
@[simp] theorem State.setSlot_out (k : Nat) (v : Slot) : (s.setSlot k v).out = s.out := rfl
@[simp] theorem State.setSlot_uptime (k : Nat) (v : Slot) : (s.setSlot k v).uptime = s.uptime := rfl
@[simp] theorem State.setSlot_pins (k : Nat) (v : Slot) : (s.setSlot k v).pins = s.pins := rfl
@[simp] theorem State.setSlot_dev (k : Nat) (v : Slot) : (s.setSlot k v).dev = s.dev := rfl
@[simp] theorem State.setSlot_cdu (k : Nat) (v : Slot) : (s.setSlot k v).cdu = s.cdu := rfl
@[simp] theorem State.setSlot_dict (k : Nat) (v : Slot) : (s.setSlot k v).dict = s.dict := rfl
@[simp] theorem State.setSlot_cdict (k : Nat) (v : Slot) : (s.setSlot k v).cdict = s.cdict := rfl
@[simp] theorem State.setSlot_host (k : Nat) (v : Slot) : (s.setSlot k v).host = s.host := rfl
@[simp] theorem State.setSlot_hostUncommitted (k : Nat) (v : Slot) : (s.setSlot k v).hostUncommitted = s.hostUncommitted := rfl
@[simp] theorem State.setSlot_hostDown (k : Nat) (v : Slot) : (s.setSlot k v).hostDown = s.hostDown := rfl
@[simp] theorem State.setSlot_near (k : Nat) (v : Slot) : (s.setSlot k v).near = s.near := rfl
@[simp] theorem State.setSlot_bulk (k : Nat) (v : Slot) : (s.setSlot k v).bulk = s.bulk := rfl
@[simp] theorem State.setSlot_hif (k : Nat) (v : Slot) : (s.setSlot k v).hif = s.hif := rfl
@[simp] theorem State.setSlot_counters (k : Nat) (v : Slot) : (s.setSlot k v).counters = s.counters := rfl
@[simp] theorem State.setSlot_owners (k : Nat) (v : Slot) : (s.setSlot k v).owners = s.owners := rfl
@[simp] theorem State.setSlot_cmds (k : Nat) (v : Slot) : (s.setSlot k v).cmds = s.cmds := rfl
@[simp] theorem State.setSlot_nextCmd (k : Nat) (v : Slot) : (s.setSlot k v).nextCmd = s.nextCmd := rfl
@[simp] theorem State.setSlot_steps (k : Nat) (v : Slot) : (s.setSlot k v).steps = s.steps := rfl
@[simp] theorem State.setSlot_array (k : Nat) (v : Slot) : (s.setSlot k v).array = s.array := rfl
@[simp] theorem State.setSlot_ctxs (k : Nat) (v : Slot) : (s.setSlot k v).ctxs = s.ctxs := rfl
@[simp] theorem State.setSlot_serve (k : Nat) (v : Slot) : (s.setSlot k v).serve = s.serve := rfl
@[simp] theorem State.setSlot_tru (k : Nat) (v : Slot) : (s.setSlot k v).tru = s.tru := rfl
@[simp] theorem State.setSlot_links (k : Nat) (v : Slot) : (s.setSlot k v).links = s.links := rfl
@[simp] theorem State.setSlot_kop (k : Nat) (v : Slot) : (s.setSlot k v).kop = s.kop := rfl
@[simp] theorem State.setSlot_health (k : Nat) (v : Slot) : (s.setSlot k v).health = s.health := rfl
@[simp] theorem State.setSlot_power (k : Nat) (v : Slot) : (s.setSlot k v).power = s.power := rfl

end

theorem State.port_setPort (s : State) (p j : Nat) (q : Port) (h : tsorted none s.links.ports = true) :
    (s.setPort p q).port j = if j = p then q else s.port j := tget_tset _ _ _ _ _ h

theorem State.ring_setRing (s : State) (g j : Nat) (r : Ring) (h : tsorted none s.hif.rings = true) :
    (s.setRing g r).ring j = if j = g then r else s.ring j := tget_tset _ _ _ _ _ h

theorem State.core_setCore (s : State) (i j : Nat) (k : Core) (h : tsorted none s.array.cores = true) :
    (s.setCore i k).core j = if j = i then k else s.core j := tget_tset _ _ _ _ _ h

theorem State.cluster_setCluster (s : State) (i j : Nat) (k : Cluster) (h : tsorted none s.array.clusters = true) :
    (s.setCluster i k).cluster j = if j = i then k else s.cluster j := tget_tset _ _ _ _ _ h

theorem State.slot_setSlot (s : State) (k j : Nat) (v : Slot) (h : tsorted none s.store.slots = true) :
    (s.setSlot k v).slot j = if j = k then v else s.slot j := tget_tset _ _ _ _ _ h

theorem State.uptime_at (s : State) (t : Nat) : (s.at t).uptime = max s.uptime t := rfl

end Sys2Proof.Machine
end

