-- ==== Sys2Proof/WellFormed.lean ====
section
/-! DEFINITION. Well-formed commands: operands whose lengths the spec fixes. -/

namespace Sys2Proof

/-- What the operands' types do not already fix: the lengths of byte strings, records and sample lists. -/
def WellFormed : Instr → Bool
  | .railMonitorSample _ mw _ => mw.length == 15
  | .devRstNDeassert _ samples => samples.length == 100
  | .storeKeyWrite _ slot key => key.length == 97 && 0 < slot.val
  | .laneSide _ _ _ record => record.length == 64
  | .truExchanges _ _ _ record => record.length == 128
  | .perturbSlots _ _ record => record.length == 16
  | .linkInfo _ info => info.credits.length == 4
  | .frameReceived _ check fcu => fcu.credit.length == 4 && (match check with
    | .corrected symbols => 0 < symbols.length && symbols.length ≤ 15 && decide symbols.Nodup
    | _ => true)
  | .readData _ h data => data.length == h.length.toNat
  | .write _ h data => data.length == h.length.toNat
  | .serviceBusSegment _ segment => segment.length == 64
  | .roleChallenge _ drawn => drawn.length == 48
  | .roleResponse _ response _ => response.length == 97
  | .lifeAccumulate _ means => means.length == 64
  | _ => true

end Sys2Proof
end

