-- ==== Sys2Proof/Tests/Slice0.lean ====
section
/-! SUPPORT. Tests: ill-formed commands that WellFormed refuses, and for each clause of each statement a state and
operands that meet its hypotheses. -/

namespace Sys2Proof.Tests

open Sys2Proof Sys2Proof.Machine

set_option Elab.async false
set_option linter.unusedVariables false

/-- In service, the host's link up. -/
def on : State :=
  { dev := { mode := .service, profileLoaded := true, hifOut := true, selfTested := true }
    pins := { pwrGood := true, devRstN := true, perstN := true }
    hif := { ready := true, linkUp := true }
    kop := { loadedOnce := true } }

/-- The bytes of a command: its header and its fields from byte 8. -/
def raw (op : Nat) (fields : Bytes) : Bytes := leBytes 8 op ++ fields

/-- A command of SYS on ring 0. -/
def cm (op : Nat) (fields : Bytes) (stage : Stage := .waiting) : Cmd :=
  { id := 1, ring := 0, ctx := 256, raw := raw op fields, stage := stage }

/-- Ring 0 of SYS, enabled, its queues in host memory. -/
def ring0 : Ring :=
  { sqBase := 0x100000000000, cqBase := 0x100000001000, ctx := 256, maxInflight := 8, enable := true, sqLog2 := 4, cqLog2 := 4 }

/-- In service with ring 0 and the given commands in flight. -/
def busy (cs : List Cmd) : State :=
  { on with cmds := cs, nextCmd := 2, hif := { on.hif with rings := [(0, ring0)] } }

/-- A Route image on cluster 0 with the given section; an image section with no ingress, egress or core. -/
def im (sec : Bytes) : Bytes :=
  leBytes 16 0 ++ leBytes 8 1 ++ [1] ++ leBytes 231 0 ++ leBytes 4 0 ++ leBytes 4 272 ++ leBytes 8 0 ++ sec

def noPorts : Bytes := leBytes 4 0 ++ [0xFF]

/-- A step of SYS on cluster 0. -/
def st1 : Step :=
  { cmd := 1, ring := 0, ctx := 256, seq := 3, launched := true, latched := true, footprint := 1, routes := [5] }

/-- The step executes on cluster 0 with the given image. -/
def running (b : Bytes) (p : Step := st1) : State :=
  { busy [cm 1 [] .running] with
    steps := [p], array := { routes := [{ id := 5, ctx := 256, footprint := 1, image := 0, bytes := b }] } }

/-- Cluster 0 has ended. -/
def ended (p : Step := st1) : State :=
  let s := running (im noPorts) p
  { s with array := { s.array with clusters := [(0, { ended := true })] } }

/-- A step of SYS that is ready. -/
def rs1 : Step := { cmd := 1, ring := 0, ctx := 256, seq := 3 }

/-- An image whose core 0 of cluster 0 has one stream descriptor; the common part of a descriptor. -/
def strmIm (d : Bytes) : Bytes :=
  im (leBytes 4 0 ++ leBytes 124 0xFF ++ leBytes 4 256 ++ leBytes 4 4 ++ leBytes 120 0 ++
    (leBytes 10 0 ++ leBytes 2 64 ++ leBytes 16 0 ++ leBytes 2 64 ++ leBytes 34 0 ++ d))

def linear (kind : Nat) : Bytes :=
  leBytes 4 kind ++ leBytes 8 0 ++ leBytes 4 512 ++ leBytes 2 1 ++ leBytes 2 1 ++ leBytes 2 1 ++ leBytes 30 0 ++
    leBytes 4 512 ++ leBytes 8 0

/-- The step of the streaming states: range 0 is in region 40 of the Near memory, which SYS maps at VRN 0. -/
def st2 : Step := { st1 with ranges := [⟨0, 1024, 1⟩] }

/-- SYS maps VRN 0 to region 40, which holds the given bytes. -/
def mapped (s : State) (cells : List (Nat × Byte) := []) : State :=
  { s with near := { s.near with map := [(256 * 65536, ⟨40, true⟩)], mem := cells.map fun c => (40 * 2 ^ 20 + c.1, c.2) } }

/-- A Cairn command of SYS: the tree at 0, one key at 64, the output or the page at 96. -/
def cairnCmd (op : Nat) : Cmd := cm op (leBytes 8 0 ++ leBytes 8 64 ++ leBytes 4 1 ++ leBytes 4 0 ++ leBytes 8 96)

/-- The command waits; key 7 and page 9 stand in memory behind an empty tree of one node, which is free when free is 128. -/
def cairn (op free : Nat) : State :=
  mapped (busy [cairnCmd op]) [(0, 0x56), (1, 0x4B), (2, 0x43), (3, 0x4E), (4, 1), (16, BitVec.ofNat 8 free), (28, 1),
    (32, 0x80), (64, 7), (96, 9)]

/-- A stream of core 0, its step executing. -/
def streaming (d : Bytes) (t : Stream) : State :=
  let s := mapped (running (strmIm d) st2)
  { s with array := { s.array with streams := [(0, t)] } }

theorem readByte_streaming (d : Bytes) (t : Stream) (va : Nat) (h : va < 2 ^ 20) :
    (streaming d t).readByte 256 va = .ok 0 := by
  have hw : windowOf va = 0 := if_pos (by omega)
  have hm : (streaming d t).mapEntry 256 (va / 2 ^ 20) = some ⟨40, true⟩ := by rw [Nat.div_eq_of_lt h]; rfl
  have hp : (streaming d t).prnPool 40 = none := rfl
  have hi : (streaming d t).isolated (prnCluster 40) = false := rfl
  simp only [State.readByte, State.place, hw, State.nearPlace, hm, hp, hi, Option.isSome_none, Bool.false_and, Bool.not_true,
    Bool.false_eq_true, if_false]
  rfl

theorem read_streaming (d : Bytes) (t : Stream) (n : Nat) : ∀ va, va + n ≤ 2 ^ 20 →
    (streaming d t).read 256 va n = .ok (List.replicate n 0) := by
  induction n with
  | zero => intro va _; rfl
  | succ n ih =>
    intro va h
    rw [State.read, readByte_streaming d t va (by omega), ih (va + 1) (by omega)]
    rfl

/-- Cluster 0 has an egress to ingress 0 of cluster 1, of the given mode. -/
def im2 (mode : Nat) : Bytes :=
  leBytes 16 0 ++ leBytes 8 3 ++ leBytes 232 2 ++ leBytes 4 0 ++ leBytes 4 288 ++ leBytes 8 0 ++
    leBytes 4 1 ++ leBytes 4 352 ++ leBytes 8 0 ++
    (leBytes 4 0 ++ [0xFF, 0, 1] ++ leBytes 5 0 ++ leBytes 20 32 ++ leBytes 4 0x01000000 ++ leBytes 28 0) ++
    (leBytes 4 0 ++ [0xFF, 1, 0] ++ leBytes 3 0 ++ leBytes 22 32 ++ leBytes 1 mode ++ [8, 1, 1] ++ leBytes 12 2)

/-- Clusters 0 and 1 execute a step of SYS. -/
def st3 : Step := { st1 with footprint := 3 }

def pair (mode : Nat) (a b : Cluster) : State :=
  let s := running (im2 mode) st3
  { s with array := { routes := [{ id := 5, ctx := 256, footprint := 3, image := 0, bytes := im2 mode }], clusters := [(0, a), (1, b)] } }

/-- A step of three rounds. -/
def st4 : Step := { st1 with iterations := 3 }

/-- A packet's header from device 4, of SYS. -/
def hd (type addr len : Nat) (status : Nat := 0) (units : Nat := 0) : PacketHeader :=
  { type := BitVec.ofNat 8 type, poison := false, reserved := false, units := BitVec.ofNat 16 units, src := 4, dst := 0, ctx := 256
    epoch := 0, tag := 0, addr := BitVec.ofNat 64 addr, length := BitVec.ofNat 32 len, status := BitVec.ofNat 16 status }

/-- Port 0 is Active. -/
def linked (q : Port := { state := .active }) : State := { on with links := { ports := [(0, q)] } }

/-- A request of SYS to device 4 that awaits its answer. -/
def asked (a : Asker) (n : Nat) : State :=
  { linked with links := { linked.links with
    requests := [{ tag := 0, port := 0, dst := 4, ctx := 256, epoch := 0, va := 0x200000000000, length := n, asker := a }] } }

/-- A step of a group of devices 0 and 4. -/
def st5 : Step := { st1 with groupId := 9, members := [0, 4] }

def grouped (p : Step := st5) : State :=
  let s := running (im noPorts) p
  { s with links := linked.links }

/-- In service, the Host-PF holding an Installer grant. -/
def adm : State := { on with kop := { loadedOnce := true, rolePf := { grantUntil := some 1000000000000 } } }

/-- A profile image that holds no record. -/
def profile : Bytes :=
  let h := fun (crc : Nat) => leBytes 4 0x46504B56 ++ leBytes 12 0 ++ leBytes 4 64 ++ leBytes 4 crc ++ leBytes 40 0
  h (crc32c (h 0)).toNat

/-- Installation mode is active. -/
def inst : State := { adm with dict := [(dkey 0x7000 1 0, 1), (dkey 0x7000 2 0, 2)] }

/-- An image of slot 3 is being written: its first chunk is all there is. -/
def writing (o : OpenSlot) : State := { inst with store := { opened := some o } }

/-- A slot whose first digest is that of a chunk of zeros; the chunk it holds is one. -/
theorem digest_slice (m : Bytes) : slice (leBytes 36 0 ++ leBytes 4 40 ++ sha384 m) 40 48 = sha384 m := by
  have h : ((leBytes 36 0 ++ leBytes 4 40 : Bytes)).length = 40 := by decide
  have hb : ∀ n, (beBytes 8 n).length = 8 := fun n => rfl
  have hl : (sha384 m).length ≤ 48 := by
    simp only [sha384, List.length_flatMap, hb]
    rw [List.map_const', List.sum_replicate, List.length_take]
    simp only [smul_eq_mul]
    omega
  rw [slice, List.drop_append_of_le_length (by omega), List.drop_of_length_le (by omega), List.nil_append,
    List.take_of_length_le hl]

theorem chunk_of_digest (s : State) (v : Slot) (hm : s.store.mem = [])
    (hv : v = { state := 2, chunks := 1, manifest := leBytes 36 0 ++ leBytes 4 40 ++ sha384 (memReads [] 0 chunkBytes) }) :
    s.chunkGood v 0 .first = true := by
  subst hv
  simp only [State.chunkGood, Bool.and_eq_true, decide_eq_true_eq]
  refine ⟨by decide, ?_⟩
  rw [State.readChunk, hm]
  exact (digest_slice _).symm

/-! ### Premises of the statements about every command -/

theorem test_stepRunsFront : ∃ (c : Instr) (rest : List Instr) (s : State), s.pending = c :: rest :=
  ⟨.profileSaveDone 0, [], { on with pending := [.profileSaveDone 0] }, rfl⟩

theorem test_stepIdles_1 : ∃ s : State, s.pending = [] ∧ ∀ kv ∈ s.hif.mailbox, kv.2.busy = false :=
  ⟨on, rfl, by decide⟩

theorem test_stepIdles_2 :
    ∃ (f : Func) (m : Mailbox) (s : State), s.pending = [] ∧
      (s.hif.mailbox.find? fun kv => kv.2.busy) = some (funcNumber f, m) ∧ m.irqEn = false ∧
      tsorted none s.hif.mailbox = true :=
  ⟨.vf 2, { busy := true, due := [1, 2] },
    { on with hif := { on.hif with mailbox := [(3, { busy := true, due := [1, 2] })] } }, rfl, rfl, by decide +kernel⟩

theorem test_queueKept : ∃ (c : Instr) (s u : State), exec c s = .next u := ⟨.profileSaveDone 0, on, on, rfl⟩

theorem test_uptimeNeverRunsBack_1 : ∃ (c : Instr) (s u : State), c ≠ .pwrGoodRise ∧ exec c s = .next u :=
  ⟨.profileSaveDone 0, on, on, by decide, rfl⟩

theorem test_uptimeNeverRunsBack_2 : ∃ s : State, s.powered = false ∧ s.pins.railsOut.any railAlwaysOn = false :=
  ⟨State.reset, by decide +kernel⟩

theorem test_uptimeStartsFromZero : ∃ s : State, s.powered = false ∧ s.pins.railsOut.any railAlwaysOn = false :=
  ⟨{ pins := { railsOut := [3] }, uptime := 7 }, by decide +kernel⟩

theorem test_tickNumbers_1 :
    ∃ (t : Nat) (s : State), s.powered = true ∧ s.cdu.tickAt t ≤ t * atto :=
  ⟨10, { on with cdu := { ticked := true, due := 9500000000 } }, by decide +kernel⟩

theorem test_tickNumbers_2 : ∃ s : State, s.powered = false ∧ s.pins.railsOut.any railAlwaysOn = false :=
  ⟨{ cdu := { ticked := true } }, by decide +kernel⟩

theorem test_stepKeepsCanonical : ∃ s u : State, Canonical s ∧ step s = .next u :=
  ⟨on, on, by constructor <;> decide, rfl⟩

theorem test_countersWrittenBy :
    ∃ (c : Instr) (s u : State), (∀ k ∈ s.links.held, k.kind = .write → k.h.addr.toNat < counterBase) ∧
      exec c s = .next u ∧ writesCounters c = false ∧ writesOwners c = false :=
  ⟨.profileSaveDone 0, on, on, by decide, rfl, by decide⟩

theorem test_pinsDrivenBy : ∃ (c : Instr) (s u : State), movesPins c = false ∧ exec c s = .next u :=
  ⟨.profileSaveDone 0, on, on, by decide, rfl⟩

theorem test_alertFollowsEvents_1 :
    ∃ (s : State) (type code subject detail : Nat), Canonical s ∧ 1 ≤ type ∧ type ≤ 11 ∧ s.driven = true ∧
      bit (s.dget 0x3000 3) type = false ∧ s.dget 0x3000 4 (type - 1) + 1 < 2 ^ 16 :=
  ⟨on, 11, 1, 0, 0, (by constructor <;> decide), (by decide +kernel)⟩

theorem test_alertFollowsEvents_2 : ∃ s : State, s.dev.mode = .hold ∧ s.driven = true :=
  ⟨{ on with dev := { mode := .hold } }, by decide +kernel⟩

theorem test_nearTranslation_1 :
    ∃ (s : State) (c va : Nat) (e : MapEntry) (w : Bool), va < 2 ^ 36 ∧ s.mapEntry c (va / 2 ^ 20) = some e ∧
      s.prnPool e.prn = none ∧ s.isolated (prnCluster e.prn) = false ∧ (w = true → e.w = true) :=
  ⟨mapped on, 256, 5, { prn := 40, w := true }, true, by decide +kernel⟩

theorem test_nearTranslation_2 : ∃ (m : List Host.Cell) (a : Nat) (bs : Bytes) (b : Nat), memWf m = true :=
  ⟨[(0, 5)], 0, [0, 6], 1, by decide⟩

theorem test_completionEntry_1 :
    ∃ (s : State) (c : Cmd), Canonical s ∧ s.dev.hostReset = false ∧ s.hif.linkUp = true ∧
      tsorted none s.hif.rings = true ∧ 2 ^ 44 ≤ (s.ring c.ring).cqBase.toNat + (s.ring c.ring).cqTail * 16 ∧
      (s.ring c.ring).cqBase.toNat + (s.ring c.ring).cqTail * 16 + 16 ≤ 2 ^ 45 ∧
      (∀ i < 16, tget 0 s.hostDown (s.hostTag c.ctx * 2 ^ 32 +
        ((s.ring c.ring).cqBase.toNat + (s.ring c.ring).cqTail * 16 + i - 2 ^ 44) / 4096) = 0) :=
  ⟨busy [cm 5 []], cm 5 [], (by constructor <;> decide), (by decide +kernel), (by decide +kernel), (by decide +kernel),
    (by decide +kernel), (by decide +kernel), fun _ _ => rfl⟩

theorem test_completionEntry_2 :
    ∃ (cmd : Nat) (s : State) (c : Cmd), s.starting cmd 5 = some c ∧ s.binding (c.at 8 2) = none ∧
      s.cmds.all (fun d => !decide (d.op = 8)) = true :=
  ⟨1, busy [cm 5 (leBytes 8 7)], cm 5 (leBytes 8 7), by decide +kernel⟩

theorem test_powerAndReset_1_pwrGoodRise :
    ∃ (s : State), s.powered = false ∧ s.pins.railsOut.any railAlwaysOn = false :=
  ⟨{}, (by decide +kernel)⟩

theorem test_powerAndReset_2_pwrGoodFall :
    ∃ (t : Nat) (s : State), s.powered = true ∧ s.kop.saving = none :=
  ⟨7, on, (by decide +kernel)⟩

theorem test_powerAndReset_3_devRstNAssert :
    ∃ (t : Nat) (s : State), s.powered = true ∧ s.pins.devRstN = true ∧ s.dev.mode ≠ .tripped :=
  ⟨7, on, (by decide +kernel)⟩

theorem test_powerAndReset_4_resetHold :
    ∃ (t : Nat) (s : State), s.dev.mode = .reset ∧ s.pins.devRstN = false ∧ s.driven = true ∧ s.dev.since +
      30000000000 ≤ t :=
  ⟨30000000000, { dev := { mode := .reset } }, (by decide +kernel)⟩

theorem test_powerAndReset_5_devRstNDeassert :
    ∃ (t : Nat) (samples : List (BitVec 2)) (s : State), s.pins.devRstN = false ∧ s.pins.tripLow = false ∧
      (s.dev.mode = .reset ∨ s.dev.mode = .hold) ∧ s.pins.railsOut = [] :=
  ⟨9, [1, 1], { dev := { mode := .reset } }, (by decide +kernel)⟩

theorem test_powerAndReset_6_devRstNDeassert :
    ∃ (t : Nat) (samples : List (BitVec 2)) (s : State), s.pins.devRstN = false ∧ s.pins.tripLow = false ∧
      (s.dev.mode = .reset ∨ s.dev.mode = .hold) ∧ s.pins.railsOut ≠ [] :=
  ⟨9, [1, 1], { dev := { mode := .reset }, pins := { railsOut := [3] } }, (by decide +kernel)⟩

theorem test_powerAndReset_7_pwrGoodRise :
    ∃ (s : State), s.powered = false ∧ s.pins.railsOut.any railAlwaysOn = true :=
  ⟨{ pins := { railsOut := [14] } }, (by decide +kernel)⟩

theorem test_powerAndReset_8_pwrGoodFall :
    ∃ (t : Nat) (v : Save) (s : State), s.powered = true ∧ s.kop.saving = some v ∧ tsorted none s.kop.copies = true
      ∧ s.copyThere 0 = true :=
  ⟨7, { slot := 1, image := [7, 8, 9] }, { on with kop := { loadedOnce := true, saving := some { slot := 1, image := [7, 8, 9], waiting := [] } } }, (by decide +kernel)⟩

theorem test_powerAndReset_9_pwrGoodFall :
    ∃ (t : Nat) (v : Save) (s : State), s.powered = true ∧ s.kop.saving = some v ∧ tsorted none s.kop.copies = true
      ∧ s.copyThere 0 = false :=
  ⟨7, { slot := 1, image := [7, 8, 9] }, { on with kop := { loadedOnce := true, saving := some { slot := 1, image := [7, 8, 9], waiting := [] } }, dict := [(dkey 0x1010 1 0, 3)] }, (by decide +kernel)⟩

theorem test_railsAndClocks_1_railOutOfTolerance :
    ∃ (t : Nat) (rail : Fin 15) (mv : Nat) (s : State), s.powered = true ∧ s.pins.railsOut.contains rail.val = false
      ∧ 13 ≤ rail.val :=
  ⟨5, 13, 900, on, (by decide +kernel)⟩

theorem test_railsAndClocks_2_railOutOfTolerance :
    ∃ (t : Nat) (rail : Fin 15) (mv : Nat) (s : State), s.pins.railsOut.contains rail.val = false ∧ rail.val < 13 ∧
      s.dev.mode = .service :=
  ⟨5, 2, 900, on, (by decide +kernel)⟩

theorem test_railsAndClocks_3_railMonitorSample :
    ∃ (t : Nat) (mw : List Nat) (inTolerance : List (Fin 15)) (s : State), s.powered = true ∧ s.power.samples < 99 :=
  ⟨5, List.replicate 15 100, [3], { dev := { mode := .reset }, pins := { railsOut := [3] } }, (by decide +kernel)⟩

theorem test_railsAndClocks_4_refclkSysLost :
    ∃ (t : Nat) (s : State), s.powered = true ∧ s.pins.refsysLost = false :=
  ⟨5, on, (by decide +kernel)⟩

theorem test_railsAndClocks_5_refclkSysRestored :
    ∃ (t : Nat) (s : State), s.powered = true ∧ s.pins.refsysLost = true :=
  ⟨5, { dev := { mode := .service }, pins := { refsysLost := true } }, (by decide +kernel)⟩

theorem test_railsAndClocks_6_refclkLinkLost :
    ∃ (t : Nat) (s : State), s.powered = true ∧ s.pins.reflinkLost = false :=
  ⟨5, on, (by decide +kernel)⟩

theorem test_railsAndClocks_7_refclkLinkRestored :
    ∃ (t : Nat) (s : State), s.powered = true ∧ s.pins.reflinkLost = true :=
  ⟨5, { dev := { mode := .service }, pins := { reflinkLost := true } }, (by decide +kernel)⟩

theorem test_railsAndClocks_8_refclkPcieLost :
    ∃ (t : Nat) (s : State), s.powered = true ∧ s.pins.refpcieLost = false :=
  ⟨5, on, (by decide +kernel)⟩

theorem test_railsAndClocks_9_refclkPcieRestored :
    ∃ (t : Nat) (s : State), s.powered = true ∧ s.pins.refpcieLost = true :=
  ⟨5, { dev := { mode := .service }, pins := { refpcieLost := true } }, (by decide +kernel)⟩

theorem test_railsAndClocks_10_canRxdDominantTimeout :
    ∃ (t : Nat) (s : State), s.powered = true ∧ s.pins.canStopped = false :=
  ⟨5, on, (by decide +kernel)⟩

theorem test_railsAndClocks_11_canRxdRecessiveResume :
    ∃ (t : Nat) (s : State), s.powered = true :=
  ⟨5, on, (by decide +kernel)⟩

theorem test_railsAndClocks_12_railMonitorSample :
    ∃ (t : Nat) (mw : List Nat) (inTolerance : List (Fin 15)) (s : State), s.dev.mode = .reset ∧ s.pins.devRstN =
      true ∧ s.power.samples < 99 ∧ s.pins.railsOut ≠ [] ∧ (s.pins.railsOut.all fun r => inTolerance.any fun i =>
      decide (i.val = r)) = true :=
  ⟨5, List.replicate 15 100, [3], { dev := { mode := .reset }, pins := { devRstN := true, railsOut := [3] } }, (by decide +kernel)⟩

theorem test_railsAndClocks_13_railOutOfTolerance :
    ∃ (t : Nat) (rail : Fin 15) (mv : Nat) (s : State), s.powered = true ∧ s.pins.railsOut.contains rail.val = false
      ∧ rail.val < 13 ∧ (s.dev.mode = .recovery ∨ s.dev.mode = .hold ∨ s.dev.mode = .tripped ∨ s.dev.mode = .failed) :=
  ⟨5, 2, 900, { on with dev := { mode := .recovery, attempt := 1 } }, (by decide +kernel)⟩

theorem test_railsAndClocks_14_railOutOfTolerance :
    ∃ (t : Nat) (rail : Fin 15) (mv : Nat) (s : State), s.powered = true ∧ s.pins.railsOut.contains rail.val = false
      ∧ rail.val < 13 ∧ (s.dev.mode = .bringUp ∨ s.dev.mode = .reset) :=
  ⟨5, 2, 900, { on with dev := { mode := .bringUp, profileLoaded := true } }, (by decide +kernel)⟩

theorem test_railsAndClocks_15_railOutOfTolerance :
    ∃ (t : Nat) (rail : Fin 15) (mv : Nat) (s : State), s.powered = false ∧ s.pins.railsOut.contains rail.val =
      false :=
  ⟨5, 2, 900, {}, (by decide +kernel)⟩

theorem test_railsAndClocks_16_railOutOfTolerance :
    ∃ (t : Nat) (rail : Fin 15) (mv : Nat) (s : State), s.pins.railsOut.contains rail.val = true :=
  ⟨5, 2, 900, { on with pins := { on.pins with railsOut := [2] } }, (by decide +kernel)⟩

theorem test_bringUp_1_profileLoad :
    ∃ (t : Nat) (s : State), s.dev.profileLoaded = false ∧ s.pins.railsOut = [] ∧ s.dev.mode = .bringUp ∧
      s.dev.dTime ≤ t :=
  ⟨10000000, { dev := { mode := .bringUp, dTime := 10000000 }, pins := { devRstN := true } }, (by decide +kernel)⟩

theorem test_bringUp_2_clusterSelfTestEnd :
    ∃ (t : Nat) (cores : List (ClusterId × Fin 17)) (clusters : List ClusterId) (s : State), s.dev.profileLoaded =
      true ∧ s.dev.selfTested = false ∧ s.pins.brakeN = true ∧ s.pins.railsOut = [] ∧ (s.dev.mode = .bringUp ∨
      s.dev.mode = .recovery) :=
  ⟨5, [], [], { dev := { mode := .bringUp, profileLoaded := true } }, (by decide +kernel)⟩

theorem test_bringUp_3_hostInterfaceResetEnd :
    ∃ (t : Nat) (s : State), s.dev.hifOut = false ∧ s.dev.mode = .bringUp ∧ s.dev.profileLoaded = true ∧
      s.dev.dTime + 20000000 ≤ t :=
  ⟨30000000, { dev := { mode := .bringUp, profileLoaded := true, dTime := 10000000 } }, (by decide +kernel)⟩

theorem test_bringUp_4_deviceReady :
    ∃ (t : Nat) (speed : BitVec 4) (width : BitVec 5) (flit : Bool) (s : State), s.mayServe t = true ∧ s.dev.mode =
      .bringUp ∧ (s.hif.linkUp = true ∨ linkOk (s.trained speed) width flit = true) :=
  ⟨40000000, 5, 16, true, { dev := { mode := .bringUp, profileLoaded := true, selfTested := true, hifOut := true } }, (by decide +kernel)⟩

theorem test_bringUp_5_recoveryTimeout :
    ∃ (t : Nat) (s : State), s.dev.mode = .recovery ∧ s.recoveryEnds t ≤ t ∧ s.dev.attempt < 2 ∧ s.dev.drained =
      false :=
  ⟨6000000000, { dev := { mode := .recovery, attempt := 1 } }, (by decide +kernel)⟩

theorem test_bringUp_6_recoveryTimeout :
    ∃ (t : Nat) (s : State), s.dev.mode = .recovery ∧ s.recoveryEnds t ≤ t ∧ 2 ≤ s.dev.attempt ∧ s.driven = true :=
  ⟨6000000000, { dev := { mode := .recovery, attempt := 2 } }, (by decide +kernel)⟩

theorem test_bringUp_7_deviceReady :
    ∃ (t : Nat) (speed : BitVec 4) (width : BitVec 5) (flit : Bool) (s : State), (s.mayServe t = false ∨
      (s.hif.linkUp = false ∧ linkOk (s.trained speed) width flit = false)) :=
  ⟨40000000, 6, 16, false, { dev := { mode := .bringUp, profileLoaded := true, selfTested := true, hifOut := true } }, (by decide +kernel)⟩

theorem test_bringUp_8_recoveryTimeout :
    ∃ (t : Nat) (s : State), (s.dev.mode ≠ .recovery ∨ t < s.recoveryEnds t) :=
  ⟨6000000000, { dev := { mode := .recovery, attempt := 1, railWait := 5 } }, (by decide +kernel)⟩

theorem test_hostAndContextResets_1_perstN :
    ∃ (t : Nat) (s : State), s.powered = true :=
  ⟨5, on, (by decide +kernel)⟩

theorem test_hostAndContextResets_2_pfFunctionLevelReset :
    ∃ (t : Nat) (s : State), s.powered = true ∧ s.hif.linkUp = true :=
  ⟨5, on, (by decide +kernel)⟩

theorem test_hostAndContextResets_3_vfFunctionLevelReset :
    ∃ (c : Fin 256) (t : Nat) (s : State), Canonical s ∧ s.hif.linkUp = true ∧ s.vfOn c.val = true ∧
      s.fenced c.val = false :=
  ⟨3, 5, { on with hif := { linkUp := true, ready := true, numVfs := 8 } }, (by constructor <;> decide), (by decide +kernel)⟩

theorem test_hostAndContextResets_4_contextResetEnd :
    ∃ (ctx : Fin 256) (t : Nat) (r : ResetRun) (s : State), tfind s.ctxs.resets ctx.val = some r ∧ r.phase = 3 ∧
      s.epochAcked ctx.val = true ∧ s.switchingWith ctx.val = false ∧ s.dev.mode ≠ .recovery ∧ s.dev.mode ≠ .failed ∧
      tsorted none s.ctxs.resets = true :=
  ⟨3, 5, { phase := 3, cause := 1, start := 0 }, { on with ctxs := { resets := [(3, { phase := 3, cause := 1, start := 0 })] } }, (by decide +kernel)⟩

theorem test_hostAndContextResets_5_contextResetEnd :
    ∃ (ctx : Fin 256) (t : Nat) (s : State), (s.dev.mode = .recovery ∨ s.dev.mode = .failed) :=
  ⟨3, 5, { on with dev := { mode := .recovery }, ctxs := { resets := [(3, { phase := 3, cause := 1, start := 0 })] } }, (by decide +kernel)⟩

theorem test_cadence_1_cadenceInputEvent :
    ∃ (t : Nat) (sync : Bool) (s : State), s.powered = true ∧ s.cdu.mode ≠ 2 ∧ s.cdu.tracking = true ∧ s.perturbing
      = false ∧ s.cdu.inWindow t = true :=
  ⟨100, true, { on with cdu := { state := 2, predicted := 100 } }, (by decide +kernel)⟩

theorem test_cadence_2_cadenceInputEvent :
    ∃ (t : Nat) (sync : Bool) (s : State), Canonical s ∧ s.powered = true ∧ s.cdu.mode ≠ 2 ∧ s.cdu.tracking = true ∧
      s.cdu.inWindow t = false ∧ s.dget 0x30A0 8 + 1 < 2 ^ 32 :=
  ⟨100000000, true, { on with cdu := { state := 2, predicted := 100 } }, (by constructor <;> decide), (by decide +kernel)⟩

theorem test_cadence_3_cadenceInputEvent :
    ∃ (t : Nat) (sync : Bool) (s : State), s.powered = true ∧ s.cdu.mode ≠ 2 ∧ s.cdu.tracking = false ∧
      s.cdu.edges = [] :=
  ⟨100, true, on, (by decide +kernel)⟩

theorem test_cadence_4_cadencePeriodMissing :
    ∃ (t : Nat) (s : State), Canonical s ∧ s.powered = true ∧ s.cdu.tracking = true ∧ s.cdu.mode ≠ 2 ∧
      s.cdu.windowClosed t = true ∧ s.dget 0x30A0 7 + 1 < 2 ^ 32 :=
  ⟨100000000, { on with cdu := { state := 2, predicted := 100 } }, (by constructor <;> decide), (by decide +kernel)⟩

theorem test_cadence_5_holdoverEntry :
    ∃ (t : Nat) (s : State), s.powered = true ∧ s.cdu.tracking = true ∧
      (4 ≤ s.cdu.missing ∨ s.cdu.outOfRange = true) :=
  ⟨100, { on with cdu := { state := 2, missing := 4 } }, (by decide +kernel)⟩

theorem test_cadence_6_cadenceSyncMark :
    ∃ (t : Nat) (s : State), s.powered = true ∧ s.cdu.mode = 1 ∧ s.cdu.state = 2 ∧ s.cdu.markDue = some 0 :=
  ⟨100, { on with cdu := { mode := 1, state := 2, markDue := some 0 } }, (by decide +kernel)⟩

theorem test_cadence_7_cadenceSyncMark :
    ∃ (t : Nat) (off : Nat) (s : State), s.powered = true ∧ s.cdu.mode = 1 ∧ s.cdu.state = 2 ∧
      s.cdu.markDue = some off ∧ off ≠ 0 ∧ (s.cdu.firstMark = true ∨ s.cdu.lastMark = some off) :=
  ⟨100, 7, { on with cdu := { mode := 1, state := 2, markDue := some 7, firstMark := true } }, (by decide +kernel), (by decide +kernel)⟩

theorem test_cadence_8_cadenceTick :
    ∃ (t : Nat) (s : State), s.powered = true ∧ s.cdu.tickAt t ≤ t * atto :=
  ⟨100, { on with cdu := { applyDue := true } }, (by decide +kernel)⟩

theorem test_cadence_9_epochEnd :
    ∃ (t : Nat) (s : State), Canonical s ∧ s.serving = true ∧ s.cdu.ticked = true ∧
      s.cdu.tick % s.dget 0x2300 2 = 0 ∧ s.cdu.epochTick ≠ some s.cdu.tick ∧ tsorted none s.ctxs.accounts = true :=
  ⟨100, { on with cdu := { ticked := true, tick := 100 } }, (by constructor <;> decide), (by decide +kernel)⟩

theorem test_cadence_10_cadenceTick :
    ∃ (t : Nat) (c : Cdu) (s : State), s.powered = true ∧ s.cdu.tickAt t ≤ t * atto ∧ s.cdu.counted (s.cdu.tickAt t)
      = c ∧ s.cdu.applyDue = false ∧ (s.cdu.state = 2 ∨ s.cdu.state = 4) :=
  ⟨10, ({ state := 2, ticked := true, due := 9500000000 } : Cdu).counted 9500000000, { on with cdu := { state := 2, ticked := true, due := 9500000000 } }, (by decide +kernel)⟩

theorem test_cadence_11_cadenceTick :
    ∃ (t : Nat) (c : Cdu) (s : State), s.powered = true ∧ s.cdu.tickAt t ≤ t * atto ∧ s.cdu.counted (s.cdu.tickAt t)
      = c ∧ s.cdu.applyDue = false ∧ s.cdu.state = 1 ∧ 100 * atto < (c.pullOffset (s.cdu.tickAt t)).natAbs :=
  ⟨10, ({ state := 1, ticked := true, due := 9500000000, predicted := 5000000000000 } : Cdu).counted 9500000000, { on with cdu := { state := 1, ticked := true, due := 9500000000, predicted := 5000000000000 } }, (by decide +kernel)⟩

theorem test_cadence_12_cadenceTick :
    ∃ (t : Nat) (c : Cdu) (s : State), s.powered = true ∧ s.cdu.tickAt t ≤ t * atto ∧ s.cdu.counted (s.cdu.tickAt t)
      = c ∧ s.cdu.applyDue = false ∧ s.cdu.state = 1 ∧ (c.pullOffset (s.cdu.tickAt t)).natAbs ≤ 100 * atto :=
  ⟨10, ({ state := 1, ticked := true, due := 9500000000, predicted := 9500000001 } : Cdu).counted 9500000000, { on with cdu := { state := 1, ticked := true, due := 9500000000, predicted := 9500000001 } }, (by decide +kernel)⟩

theorem test_cadence_13_cadenceTick :
    ∃ (t : Nat) (s : State), (s.powered = false ∨ t * atto < s.cdu.tickAt t) :=
  ⟨9, { on with cdu := { state := 2, ticked := true, due := 9500000000 } }, (by decide +kernel)⟩

theorem test_syncCommands_1_fence :
    ∃ (cmd : Nat) (c : Cmd) (s : State), s.starting cmd 8 = some c ∧ s.fenceHeld c = false :=
  ⟨1, cm 8 [0], busy [cm 8 [0]], (by decide +kernel)⟩

theorem test_syncCommands_2_fence :
    ∃ (cmd : Nat) (c : Cmd) (s : State), s.starting cmd 8 = some c ∧ s.fenceHeld c = true ∧
      (s.cmds.all (fun d => !(decide (d.op = 8) && decide (d.stage = .running))) = true) :=
  ⟨1, cm 8 [0], busy [{ cm 2 [] .running with id := 0 }, cm 8 [0]], (by decide +kernel)⟩

theorem test_syncCommands_3_signal :
    ∃ (cmd : Nat) (c : Cmd) (s : State), Canonical s ∧ s.starting cmd 9 = some c ∧ s.mayUse c.ctx (c.at 8 2) = true :=
  ⟨1, cm 9 [5, 0, 0, 0, 0, 0, 0, 0, 3], busy [cm 9 [5, 0, 0, 0, 0, 0, 0, 0, 3]], (by constructor <;> decide), (by decide +kernel)⟩

theorem test_syncCommands_4_signal :
    ∃ (cmd : Nat) (c : Cmd) (s : State), s.starting cmd 9 = some c ∧ s.mayUse c.ctx (c.at 8 2) = false :=
  ⟨1, { cm 9 [5] with ctx := 3 }, busy [{ cm 9 [5] with ctx := 3 }], (by decide +kernel)⟩

theorem test_syncCommands_5_wait :
    ∃ (cmd : Nat) (c : Cmd) (s : State), s.starting cmd 10 = some c ∧ s.mayUse c.ctx (c.at 8 2) = true ∧
      waitHolds c (s.counter (c.at 8 2)) = true :=
  ⟨1, cm 10 [5], busy [cm 10 [5]], (by decide +kernel)⟩

theorem test_syncCommands_6_wait :
    ∃ (cmd : Nat) (c : Cmd) (s : State), s.starting cmd 10 = some c ∧ s.mayUse c.ctx (c.at 8 2) = true ∧
      waitHolds c (s.counter (c.at 8 2)) = false :=
  ⟨1, cm 10 [5, 0, 0, 0, 0, 0, 0, 0, 9], busy [cm 10 [5, 0, 0, 0, 0, 0, 0, 0, 9]], (by decide +kernel)⟩

theorem test_syncCommands_7_waitTimeout :
    ∃ (cmd t : Nat) (c : Cmd) (s : State), s.cmd cmd = some c ∧ c.op = 10 ∧ c.stage = .running ∧ c.at 12 4 ≠ 0 ∧
      c.startPhase + ctField (c.at 12 4) ≤ s.cdu.phase (max s.uptime t) :=
  ⟨1, 9, cm 10 [5, 0, 0, 0, 1] .running, { busy [cm 10 [5, 0, 0, 0, 1] .running] with cdu := { ticked := true, tick := 8 } }, (by decide +kernel)⟩

theorem test_bindingsAndQueries_1_unbindModel :
    ∃ (cmd : Nat) (c : Cmd) (b : Binding) (s : State), s.starting cmd 5 = some c ∧ s.binding (c.at 8 2) = some b ∧
      b.owner = c.ctx ∧ b.state ≠ .binding :=
  ⟨1, cm 5 [7], { owner := 256, slot := 1, state := .bound, modelId := 1, generation := 1, nearSections := false }, { busy [cm 5 [7]] with serve := { bindings := [(7, { owner := 256, slot := 1, state := .bound, modelId := 1, generation := 1, nearSections := false })] } }, (by decide +kernel)⟩

theorem test_bindingsAndQueries_2_bindingRelease :
    ∃ (handle : Fin 4096) (s : State), s.releasable handle.val = true ∧ tsorted none s.serve.bindings = true :=
  ⟨7, { busy [cm 5 [7] .running] with serve := { bindings := [(7, { owner := 256, slot := 1, state := .unbinding, modelId := 1, generation := 1, nearSections := false })] } }, (by decide +kernel)⟩

theorem test_bindingsAndQueries_3_laneFlip :
    ∃ (ctx : Fin 256) (lane : Fin 8) (s : State), s.settleLanes.canFlip ctx.val lane.val = true ∧
      tsorted none s.serve.lanes = true :=
  ⟨3, 2, { on with serve := { lanes := [(26, { switching := true })] } }, (by decide +kernel)⟩

theorem test_bindingsAndQueries_4_resumeStream :
    ∃ (cmd : Nat) (c : Cmd) (r : Spr) (s : State), s.starting cmd 11 = some c ∧
      (tget {} s.array.streams (c.at 10 2 * 32 + c.at 12 1)).fault = some r ∧ r.ctx = c.at 8 2 ∧ r.seq = c.at 16 4 ∧
      (tget {} s.array.streams (c.at 10 2 * 32 + c.at 12 1)).spr.isSome = true :=
  ⟨1, cm 11 [0, 1, 2, 0, 1, 0, 0, 0, 4], ⟨2, 1, 0, 1, 4, 0, 0, 0, 256, 0, 0⟩, { busy [cm 11 [0, 1, 2, 0, 1, 0, 0, 0, 4]] with array := { streams := [(65, { fault := some ⟨2, 1, 0, 1, 4, 0, 0, 0, 256, 0, 0⟩, spr := some ⟨2, 1, 0, 1, 4, 0, 0, 0, 256, 0, 0⟩ })] } }, (by decide +kernel)⟩

theorem test_bindingsAndQueries_5_resumeStream :
    ∃ (cmd : Nat) (c : Cmd) (r : Spr) (s : State), s.starting cmd 11 = some c ∧
      (tget {} s.array.streams (c.at 10 2 * 32 + c.at 12 1)).fault = some r ∧ r.ctx = c.at 8 2 ∧ r.seq = c.at 16 4 ∧
      (tget {} s.array.streams (c.at 10 2 * 32 + c.at 12 1)).spr = none :=
  ⟨1, cm 11 [0, 1, 2, 0, 1, 0, 0, 0, 4], ⟨2, 1, 0, 1, 4, 0, 0, 0, 256, 0, 0⟩, { busy [cm 11 [0, 1, 2, 0, 1, 0, 0, 0, 4]] with array := { streams := [(65, { fault := some ⟨2, 1, 0, 1, 4, 0, 0, 0, 256, 0, 0⟩ })] } }, (by decide +kernel)⟩

theorem test_bindingsAndQueries_6_query :
    ∃ (cmd : Nat) (c : Cmd) (v : State) (s : State), s.starting cmd 12 = some c ∧ c.at 8 1 = 3 ∧
      s.mayUse c.ctx (c.at 12 4) = true ∧
      s.writes c.ctx none (c.at 16 8) ((leBytes 8 (s.counter (c.at 12 4)).toNat).take (c.at 24 4)) = (v, none) :=
  ⟨1, cm 12 [3, 0, 0, 1, 5, 0, 0, 0, 0, 0, 0, 0, 0, 0x10], busy [cm 12 [3, 0, 0, 1, 5, 0, 0, 0, 0, 0, 0, 0, 0, 0x10]], busy [cm 12 [3, 0, 0, 1, 5, 0, 0, 0, 0, 0, 0, 0, 0, 0x10]], (by decide +kernel), (by decide +kernel), (by decide +kernel), (by rfl)⟩

theorem test_bindingsAndQueries_7_query :
    ∃ (cmd : Nat) (c : Cmd) (v : State) (status value : Nat) (s : State), s.starting cmd 12 = some c ∧
      s.queryData c = (v, .error (status, value)) :=
  ⟨1, { cm 12 [3, 0, 0, 1, 5, 0, 0, 0, 0, 0, 0, 0, 0, 0x10] with ctx := 3 }, busy [{ cm 12 [3, 0, 0, 1, 5, 0, 0, 0, 0, 0, 0, 0, 0, 0x10] with ctx := 3 }], 5, 12, busy [{ cm 12 [3, 0, 0, 1, 5, 0, 0, 0, 0, 0, 0, 0, 0, 0x10] with ctx := 3 }], (by decide +kernel), (by rfl)⟩

theorem test_ringsAndDoorbells_1_commandFetch :
    ∃ (ring : RingId) (b : Bytes) (s : State), s.fetching = true ∧ s.nextRing = some ring.val ∧ s.read (s.ring
      ring.val).ctx.toNat ((s.ring ring.val).sqBase.toNat + (s.ring ring.val).sqHead * 64) 64 = .ok b ∧ s.fenced
      (s.ring ring.val).ctx.toNat = false ∧ checkCmd s
      { id := s.nextCmd, ring := ring.val, ctx := (s.ring ring.val).ctx.toNat, raw := b } = none :=
  ⟨0, 8 :: List.replicate 63 0, mapped { on with hif := { on.hif with rings := [(0, { ring0 with sqBase := 0, sqTail := 1 })] } } [(0, 8)], (by decide +kernel)⟩

theorem test_ringsAndDoorbells_2_sqTail :
    ∃ (f : Func) (page : RingId) (value : BitVec 32) (g : Nat) (s : State), s.reachable f = true ∧
      s.doorbellRing f page.val = some g ∧ (s.ring g).enable = true ∧ value.toNat < 2 ^ (s.ring g).sqLog2.toNat :=
  ⟨.pf, 0, 3, 0, busy [], (by decide +kernel)⟩

theorem test_ringsAndDoorbells_3_sqTail :
    ∃ (f : Func) (page : RingId) (value : BitVec 32) (g : Nat) (s : State), Canonical s ∧ s.reachable f = true ∧
      s.doorbellRing f page.val = some g ∧ (s.ring g).enable = false ∧ s.dget 0x3090 2 + 1 < 2 ^ 32 :=
  ⟨.pf, 5, 3, 5, busy [], (by constructor <;> decide), (by decide +kernel)⟩

theorem test_ringsAndDoorbells_4_cqHead :
    ∃ (f : Func) (page : RingId) (value : BitVec 32) (g : Nat) (s : State), s.reachable f = true ∧
      s.doorbellRing f page.val = some g ∧ (s.ring g).enable = true ∧ value.toNat < 2 ^ (s.ring g).cqLog2.toNat ∧
      (value.toNat + 2 ^ (s.ring g).cqLog2.toNat - (s.ring g).cqHead) % 2 ^ (s.ring g).cqLog2.toNat ≤ ((s.ring g).cqTail + 2 ^ (s.ring g).cqLog2.toNat - (s.ring g).cqHead) % 2 ^ (s.ring g).cqLog2.toNat :=
  ⟨.pf, 0, 2, 0, { on with hif := { on.hif with rings := [(0, { ring0 with cqTail := 3 })] } }, (by decide +kernel)⟩

theorem test_ringsAndDoorbells_5_ringEnable :
    ∃ (ring : RingId) (maxInflight : BitVec 13) (loop : Bool) (s : State), s.hostUp = true ∧ s.hif.ready = true ∧
      s.drained ring.val = true ∧
      s.ringCheck ring.val { s.ring ring.val with maxInflight := maxInflight, loop := loop } = none :=
  ⟨0, 8, false, { on with hif := { on.hif with rings := [(0, { ring0 with enable := false, vector := 2 })] } }, (by decide +kernel)⟩

theorem test_ringsAndDoorbells_6_ringEnable :
    ∃ (ring : RingId) (maxInflight : BitVec 13) (loop : Bool) (k : Nat) (s : State), s.hostUp = true ∧
      s.hif.ready = true ∧ s.drained ring.val = true ∧
      s.ringCheck ring.val { s.ring ring.val with maxInflight := maxInflight, loop := loop } = some k :=
  ⟨0, 8, false, 4, { on with hif := { on.hif with rings := [(0, { ring0 with enable := false, vector := 2, sqBase := 0 })] } }, (by decide +kernel)⟩

theorem test_ringsAndDoorbells_7_ringDisable :
    ∃ (ring : RingId) (s : State), s.hostUp = true ∧ tsorted none s.hif.rings = true ∧
      tsorted none s.hif.loops = true :=
  ⟨0, busy [], (by decide +kernel)⟩

theorem test_hostRegisters_1_loopTableWrite :
    ∃ (ring : RingId) (q : Fin 4) (value : BitVec 64) (s : State), s.hostUp = true ∧ s.drained ring.val = true ∧
      ((s.loopOf ring.val).setWord q.val value.toNat).check = 0 ∧ tsorted none s.hif.loops = true :=
  ⟨0, 1, 5, on, (by decide +kernel)⟩

theorem test_hostRegisters_2_loopTableWrite :
    ∃ (ring : RingId) (q : Fin 4) (value : BitVec 64) (s : State), s.hostUp = true ∧ s.drained ring.val = false ∧
      tsorted none s.hif.loops = true :=
  ⟨0, 1, 5, busy [], (by decide +kernel)⟩

theorem test_hostRegisters_3_contextControlWrite :
    ∃ (f : Func) (ctx : CtxId) (off : BitVec 12) (value : BitVec 64) (s : State), s.reachable f = true ∧ f = .pf ∧
      off = 8 ∧ value.toNat % 4096 = 0 ∧ windowOf (value.toNat % 2 ^ 52) = 2 ∧ tsorted none s.hif.pages = true :=
  ⟨.pf, 3, 8, 0x100000000000, on, (by decide +kernel), (by decide +kernel)⟩

theorem test_hostRegisters_4_contextControlWrite :
    ∃ (f : Func) (ctx : CtxId) (off : BitVec 12) (value : BitVec 64) (s : State), s.reachable f = true ∧ f ≠ .pf ∧
      (funcNumber f ≠ ctx.val + 1) :=
  ⟨.vf 4, 3, 8, 0x100000000000, { on with hif := { on.hif with numVfs := 8 } }, (by decide +kernel)⟩

theorem test_hostRegisters_5_bkiCtxRootWrite :
    ∃ (ctx : CtxId) (value : BitVec 64) (s : State), s.hostUp = true ∧ tsorted none s.bulk.roots = true :=
  ⟨3, 0x5001, on, (by decide +kernel)⟩

theorem test_hostRegisters_6_bkiInval :
    ∃ (value : BitVec 64) (s : State), s.hostUp = true ∧ s.bulk.inval.getLsbD 63 = false ∧
      invalBad value.toNat = false ∧ bits value.toNat 43 28 = 0 :=
  ⟨0, on, (by decide +kernel)⟩

theorem test_hostRegisters_7_bkiInval :
    ∃ (value : BitVec 64) (s : State), s.hostUp = true ∧ s.bulk.inval.getLsbD 63 = true :=
  ⟨0, { on with bulk := { inval := 0x8000000000000000 } }, (by decide +kernel)⟩

theorem test_hostRegisters_8_bkiInvalQuiesced :
    ∃ (s : State), s.bulk.inval.getLsbD 63 = true ∧ s.epochAcked (bits s.bulk.inval.toNat 52 44) = true :=
  ⟨{ on with bulk := { inval := 0x8000000000000000 } }, (by decide +kernel)⟩

theorem test_hostRegisters_9_syncCounterWrite :
    ∃ (n : BitVec 16) (value : BitVec 64) (s : State), Canonical s ∧ s.hostUp = true :=
  ⟨5, 9, on, (by constructor <;> decide), (by decide +kernel)⟩

theorem test_hostRegisters_10_syncOwnerWrite :
    ∃ (n value : BitVec 16) (s : State), Canonical s ∧ s.hostUp = true ∧ (value.toNat ≤ 256 ∨ value = 0xFFFF) :=
  ⟨5, 256, on, (by constructor <;> decide), (by decide +kernel)⟩

theorem test_hostRegisters_11_syncOwnerWrite :
    ∃ (n value : BitVec 16) (s : State), s.hostUp = true ∧ 256 < value.toNat ∧ value ≠ 0xFFFF :=
  ⟨5, 257, on, (by decide +kernel)⟩

theorem test_hostRegisters_12_msixUnmask :
    ∃ (f : Func) (vector : Fin 2048) (s : State), s.reachable f = true ∧ vector.val < vectorsOf f ∧
      tsorted none s.hif.msix = true :=
  ⟨.pf, 2, { on with hif := { on.hif with msix := [(2, { pend := true })] } }, (by decide +kernel)⟩

theorem test_hostRegisters_13_atsInvalidationRequest :
    ∃ (ctx : CtxId) (page : BitVec 52) (pages : Nat) (s : State), s.hostUp = true ∧ tsorted none s.bulk.ats = true :=
  ⟨3, 5, 2, { on with bulk := { ats := [(3 * 2 ^ 52 + 5, 1)] } }, (by decide +kernel)⟩

theorem test_hostRegisters_14_registerWrite :
    ∃ (f : Func) (bar2 : Bool) (off : BitVec 26) (eight : Bool) (value : BitVec 64) (x : Reg) (s : State),
      s.reachable f = true ∧ s.regAt f bar2 (off.toNat / 8 * 8) = some x ∧ eight = true ∧ off.toNat % 8 = 0 :=
  ⟨.pf, false, 0x400028, true, 9, .counter 5, on, (by decide +kernel)⟩

theorem test_hostRegisters_15_registerWrite :
    ∃ (f : Func) (bar2 : Bool) (off : BitVec 26) (eight : Bool) (value : BitVec 64) (s : State), Canonical s ∧
      s.hostUp = true ∧ f = .pf ∧ bar2 = false ∧ eight = true ∧ off.toNat % 8 = 0 ∧ 0x400000 ≤ off.toNat ∧
      off.toNat < 0x480000 :=
  ⟨.pf, false, 0x400028, true, 9, on, (by constructor <;> decide), (by decide +kernel), (by decide +kernel), (by decide +kernel)⟩

theorem test_hostRegisters_16_registerWrite :
    ∃ (f : Func) (bar2 : Bool) (off : BitVec 26) (eight : Bool) (value : BitVec 64) (s : State),
      s.reachable f = true ∧ s.regAt f bar2 (off.toNat / 8 * 8) = none :=
  ⟨.vf 4, false, 0x5000, true, 9, { on with hif := { on.hif with numVfs := 8 } }, (by decide +kernel)⟩

theorem test_nearMap_1_nmMapMap :
    ∃ (vrn : BitVec 16) (ctx : BitVec 9) (prn : BitVec 15) (w : Bool) (s : State), s.hostUp = true ∧
      s.near.op = none ∧ s.mapRefused ctx.toNat prn.toNat w = none ∧ s.prnPool prn.toNat = none ∧
      (s.region prn.toNat).kind = .free ∧ s.mapEntry ctx.toNat vrn.toNat = none :=
  ⟨5, 3, 7, true, on, (by decide +kernel), (by decide +kernel)⟩

theorem test_nearMap_2_nmMapMap :
    ∃ (vrn : BitVec 16) (ctx : BitVec 9) (prn : BitVec 15) (w : Bool) (k : Nat) (s : State), s.hostUp = true ∧
      s.near.op = none ∧ s.mapRefused ctx.toNat prn.toNat w = some k :=
  ⟨5, 3, 30, true, 1, on, (by decide +kernel)⟩

theorem test_nearMap_3_nmMapMap :
    ∃ (vrn : BitVec 16) (ctx : BitVec 9) (prn : BitVec 15) (w : Bool) (s : State), s.hostUp = true ∧
      s.near.op.isSome = true :=
  ⟨5, 3, 7, true, { on with near := { op := some ⟨1, 2, 3, none⟩ } }, (by decide +kernel)⟩

theorem test_nearMap_4_nmMapUnmap :
    ∃ (vrn : BitVec 16) (ctx : BitVec 9) (prn : BitVec 15) (w : Bool) (e : MapEntry) (s : State), s.hostUp = true ∧
      s.near.op = none ∧ ctx.toNat ≤ 256 ∧ s.mapEntry ctx.toNat vrn.toNat = some e ∧ s.prnPool e.prn = none ∧
      e.prn % 32 < 30 ∧ tsorted none s.near.map = true :=
  ⟨5, 3, 0, false, ⟨7, true⟩, { on with near := { map := [(3 * 65536 + 5, ⟨7, true⟩)], regions := [(7, { kind := .owned, owner := 3 })] } }, (by decide +kernel), (by decide +kernel), (by decide +kernel)⟩

theorem test_nearMap_5_unmapQuiesced :
    ∃ (op : MapOp) (s : State), s.near.op = some op ∧ op.new = none ∧ s.epochAcked op.ctx = true ∧
      s.prnPool op.oldPrn = none ∧ s.named op.oldPrn = false ∧ op.oldPrn % 32 < 30 :=
  ⟨⟨5, 3, 7, none⟩, { on with near := { op := some ⟨5, 3, 7, none⟩, regions := [(7, { kind := .pendingUnmap, owner := 3 })] } }, (by decide +kernel), (by decide +kernel)⟩

theorem test_nearMap_6_regionClearDone :
    ∃ (prn : BitVec 15) (s : State), Canonical s ∧ (s.region prn.toNat).kind = .clearing ∧
      tsorted none s.near.regions = true :=
  ⟨7, { on with near := { regions := [(7, { kind := .clearing, owner := 3 })], mem := [(7 * 2 ^ 20, 5)] } }, (by constructor <;> decide), (by decide +kernel)⟩

theorem test_memoryErrors_1_nearUncorrectable :
    ∃ (prn line : BitVec 15) (flips : List (BitVec 32)) (reader : LineReader) (t : Nat) (s : State), Canonical s ∧
      s.quadrantOn prn.toNat = true ∧ s.isolated (prnCluster prn.toNat) = false ∧ s.readLine prn.toNat line.toNat
      flips = .bad ∧ mapCopyBad prn.toNat line.toNat = none ∧ (readsQuietly reader = true) ∧ prn.toNat % 32 ≠ 30 :=
  ⟨5, 9, [3, 0, 5], .scrub, 4, { on with dict := [(dkey 0x3040 1 64, 2)] }, (by constructor <;> decide), (by decide +kernel)⟩

theorem test_memoryErrors_2_nearScrubLine :
    ∃ (prn line : BitVec 15) (flips : List (BitVec 32)) (raced : Bool) (t : Nat) (s : State), s.quadrantOn prn.toNat
      = true ∧ tget 0 s.near.scrub (prn.toNat / 32) = prn.toNat % 32 * 32768 + line.toNat ∧ s.readLine prn.toNat
      line.toNat flips = .clean :=
  ⟨5, 9, [], false, 4, { on with dict := [(dkey 0x3040 1 64, 2)], near := { scrub := [(0, 5 * 32768 + 9)] } }, (by decide +kernel)⟩

theorem test_memoryErrors_3_nearScrubLine :
    ∃ (prn line : BitVec 15) (flips : List (BitVec 32)) (raced : Bool) (t : Nat) (s : State), s.quadrantOn prn.toNat
      = true ∧ tget 0 s.near.scrub (prn.toNat / 32) = prn.toNat % 32 * 32768 + line.toNat ∧ s.readLine prn.toNat
      line.toNat flips = .bad ∧ mapCopyBad prn.toNat line.toNat = none ∧ raced = false :=
  ⟨5, 9, [3, 0, 5], false, 4, { on with dict := [(dkey 0x3040 1 64, 2)], near := { scrub := [(0, 5 * 32768 + 9)] } }, (by decide +kernel)⟩

theorem test_memoryErrors_4_nearScrubLine :
    ∃ (prn line : BitVec 15) (flips : List (BitVec 32)) (raced : Bool) (t k : Nat) (data : Bytes) (s : State),
      Canonical s ∧ s.quadrantOn prn.toNat = true ∧ tget 0 s.near.scrub (prn.toNat / 32) = prn.toNat % 32 * 32768 +
      line.toNat ∧ s.readLine prn.toNat line.toNat flips = .single data [k] ∧ raced = true ∧ s.dget 0x3060 3
      (prn.toNat / 32) + 1 < 2 ^ 32 :=
  ⟨5, 9, [4], true, 4, 0, List.replicate 32 0, { on with dict := [(dkey 0x3040 1 64, 2)], near := { scrub := [(0, 5 * 32768 + 9)] } }, (by constructor <;> decide), (by decide +kernel)⟩

theorem test_memoryErrors_5_nearRowRepairDone :
    ∃ (core : CoreId) (row : RowCopy) (spare : Nat) (s : State), tfind s.near.repairing (core.val * 4096 +
      row.row.toNat) = some spare ∧ tsorted none s.near.repairing = true :=
  ⟨2, ⟨9, [(4, [3, 0, 5])]⟩, 3, { on with near := { repairing := [(2 * 4096 + 9, 3)] } }, (by decide +kernel)⟩

theorem test_memoryErrors_6_bulkUncorrectable :
    ∃ (bpa : BitVec 39) (read : BulkRead) (reader : LineReader) (t : Nat) (s : State), bpaExists bpa.toNat = true ∧
      s.stackOn (stackOf bpa.toNat) = true ∧ s.bulkOutcome bpa.toNat read = .uncorrectable ∧ (readsQuietly reader =
      true) :=
  ⟨640, .read [1, 2] [3, 4] [5, 6] 0, .scrub, 4, { on with dict := [(dkey 0x3040 1 80, 2)] }, (by decide +kernel)⟩

theorem test_memoryErrors_7_bulkScrubLine :
    ∃ (bpa : BitVec 39) (read : BulkRead) (raced : Bool) (t : Nat) (s : State), bpaExists bpa.toNat = true ∧
      s.stackOn (stackOf bpa.toNat) = true ∧ s.bulkOutcome bpa.toNat read = .clean :=
  ⟨640, .read [] [] [] 0, false, 4, { on with dict := [(dkey 0x3040 1 80, 2)] }, (by decide +kernel)⟩

theorem test_memoryErrors_8_bulkScrubLine :
    ∃ (bpa : BitVec 39) (read : BulkRead) (raced : Bool) (t : Nat) (s : State), Canonical s ∧ bpaExists bpa.toNat =
      true ∧ s.stackOn (stackOf bpa.toNat) = true ∧ s.bulkOutcome bpa.toNat read = .corrected ∧ s.dget 0x3070 1
      (stackOf bpa.toNat) + 1 < 2 ^ 32 :=
  ⟨640, .read [7] [] [] 0, false, 4, { on with dict := [(dkey 0x3040 1 80, 2)] }, (by constructor <;> decide), (by decide +kernel)⟩

theorem test_memoryErrors_9_bulkLaneRepair :
    ∃ (stack : Fin 8) (channel : Fin 32) (lane : Fin 256) (redundantLeft : Bool) (s : State), Canonical s ∧
      s.stackOn stack.val = true ∧ 64 ≤ tget 0 s.bulk.laneErrors (laneKey stack.val channel.val lane.val) ∧
      redundantLeft = true ∧ s.dget 0x3070 3 stack.val + 1 < 2 ^ 16 :=
  ⟨1, 2, 3, true, { on with dict := [(dkey 0x3040 1 81, 2)], bulk := { laneErrors := [(laneKey 1 2 3, 64)] } }, (by constructor <;> decide), (by decide +kernel)⟩

theorem test_memoryErrors_10_bulkLaneRepair :
    ∃ (stack : Fin 8) (channel : Fin 32) (lane : Fin 256) (redundantLeft : Bool) (s : State), Canonical s ∧
      s.stackOn stack.val = true ∧ 64 ≤ tget 0 s.bulk.laneErrors (laneKey stack.val channel.val lane.val) ∧
      redundantLeft = false ∧ thas s.bulk.sparing stack.val = false ∧ s.dget 0x3070 4 stack.val = 0xFF :=
  ⟨1, 2, 3, false, { on with dict := [(dkey 0x3040 1 81, 2)], bulk := { laneErrors := [(laneKey 1 2 3, 64)] } }, (by constructor <;> decide), (by decide +kernel)⟩

theorem test_memoryErrors_11_bulkChannelSpareDone :
    ∃ (stack : Fin 8) (t : Nat) (ch : Nat) (s : State), Canonical s ∧ tfind s.bulk.sparing stack.val = some ch ∧
      tsorted none s.bulk.sparing = true ∧ s.stackOn stack.val = true :=
  ⟨1, 4, 9, { on with bulk := { sparing := [(1, 9)] }, dict := [(dkey 0x3040 1 81, 2)] }, (by constructor <;> decide), (by decide +kernel)⟩

theorem test_memoryErrors_12_bulkSelfRefreshEntry :
    ∃ (stack : Fin 8) (t : Nat) (s : State), Canonical s ∧ s.serving = true ∧ s.dget 0x2700 4 ≠ 0 ∧
      s.stackOn stack.val = true ∧ tget 0 s.bulk.lastAccess stack.val + s.dget 0x2700 4 * 1000 ≤ max s.uptime t :=
  ⟨1, 4000, { on with dict := [(dkey 0x2700 4 0, 4), (dkey 0x3040 1 81, 2)] }, (by constructor <;> decide), (by decide +kernel)⟩

theorem test_memoryErrors_13_bridgeFlitError :
    ∃ (edge : Fin 4) (dir : Fin 2) (resends : Fin 4) (cmd t : Nat) (s : State), Canonical s ∧ s.powered = true ∧
      resends.val < 3 ∧ s.dget 0x3080 1 (2 * edge.val + dir.val) + 1 < 2 ^ 32 :=
  ⟨1, 0, 2, 0, 4, on, (by constructor <;> decide), (by decide +kernel)⟩

theorem test_memoryErrors_14_bridgeFlitError :
    ∃ (edge : Fin 4) (dir : Fin 2) (resends : Fin 4) (cmd t : Nat) (p : Step) (s : State), s.powered = true ∧
      resends.val = 3 ∧ s.step? cmd = some p ∧ p.launched = true ∧ p.ending = none ∧ p.readySent = false ∧
      p.committed = false :=
  ⟨1, 0, 3, 1, 4, { cmd := 1, ring := 0, ctx := 256, seq := 0, launched := true, footprint := 1 }, { on with steps := [{ cmd := 1, ring := 0, ctx := 256, seq := 0, launched := true, footprint := 1 }] }, (by decide +kernel), (by decide +kernel), (by decide +kernel)⟩

theorem test_memoryErrors_15_coreError :
    ∃ (core : CoreId) (t : Nat) (old q : Nat) (s : State), s.serving? (core.val / 16) (core.val % 16) = some old ∧
      s.serving = true ∧ s.clusterUp (core.val / 16) = true ∧ s.substitute (core.val / 16) = some q ∧ q ≠ old ∧
      q < 17 ∧ s.copyLost (core.val / 16) = false :=
  ⟨0, 4, 0, 1, { on with dict := [(dkey 0x3040 1 0, 2)], health := { coreState := [(0, 0), (1, 0xF1)] } }, (by decide +kernel), (by decide +kernel), (by decide +kernel)⟩

theorem test_memoryErrors_16_bulkChannelSpareDone :
    ∃ (stack : Fin 8) (t : Nat) (s : State), (tfind s.bulk.sparing stack.val = none ∨ s.stackOn stack.val = false) :=
  ⟨2, 5, { on with bulk := { sparing := [(2, 7)] }, dict := [(dkey 0x3040 1 82, 1)] }, (by decide +kernel)⟩

theorem test_memoryErrors_17_nearUncorrectable :
    ∃ (prn line : BitVec 15) (flips : List (BitVec 32)) (reader : LineReader) (c : CtxId) (t : Nat) (s : State),
      Canonical s ∧ s.quadrantOn prn.toNat = true ∧ s.isolated (prnCluster prn.toNat) = false ∧ s.readLine prn.toNat
      line.toNat flips = .bad ∧ mapCopyBad prn.toNat line.toNat = none ∧ reader = .other c ∧ prn.toNat % 32 ≠ 30 ∧
      c.val < 256 ∧ s.cget c.val 8 3 + 1 < 2 ^ 32 :=
  ⟨5, 9, [3, 0, 5], .other 7, 7, 4, { on with dict := [(dkey 0x3040 1 64, 2)] }, (by constructor <;> decide), (by decide +kernel)⟩

theorem test_memoryErrors_18_nearUncorrectable :
    ∃ (prn line : BitVec 15) (flips : List (BitVec 32)) (reader : LineReader) (cmd : Nat) (p : Step) (t : Nat) (s :
      State), s.quadrantOn prn.toNat = true ∧ s.isolated (prnCluster prn.toNat) = false ∧ s.readLine prn.toNat
      line.toNat flips = .bad ∧ mapCopyBad prn.toNat line.toNat = none ∧ reader = .step cmd ∧ s.step? cmd = some p ∧
      p.launched = true ∧ p.readySent = false ∧ p.committed = false ∧ p.ending = none ∧ tfind s.near.written
      ((prn.toNat * 2 ^ 20 + line.toNat * 32) / 65536) = some p.cmd ∧ prn.toNat % 32 ≠ 30 :=
  ⟨5, 9, [3, 0, 5], .step 1, 1, st1, 4, { running (im noPorts) with dict := [(dkey 0x3040 1 64, 2)], near := { written := [(80, 1)] } }, (by decide +kernel)⟩

theorem test_memoryErrors_19_nearUncorrectable :
    ∃ (prn line : BitVec 15) (flips : List (BitVec 32)) (reader : LineReader) (cmd : Nat) (p : Step) (t : Nat) (s :
      State), s.quadrantOn prn.toNat = true ∧ s.isolated (prnCluster prn.toNat) = false ∧ s.readLine prn.toNat
      line.toNat flips = .bad ∧ mapCopyBad prn.toNat line.toNat = none ∧ reader = .step cmd ∧ s.step? cmd = some p ∧
      p.launched = true ∧ p.readySent = false ∧ p.committed = false ∧ p.ending = none ∧ tfind s.near.written
      ((prn.toNat * 2 ^ 20 + line.toNat * 32) / 65536) ≠ some p.cmd ∧ prn.toNat % 32 ≠ 30 :=
  ⟨5, 9, [3, 0, 5], .step 1, 1, st1, 4, { running (im noPorts) with dict := [(dkey 0x3040 1 64, 2)] }, (by decide +kernel)⟩

theorem test_memoryErrors_20_nearUncorrectable :
    ∃ (prn line : BitVec 15) (flips : List (BitVec 32)) (reader : LineReader) (t : Nat) (s : State), s.quadrantOn
      prn.toNat = true ∧ s.isolated (prnCluster prn.toNat) = false ∧ s.readLine prn.toNat line.toNat flips = .bad ∧
      mapCopyBad prn.toNat line.toNat = none ∧ (readsQuietly reader = true) ∧ prn.toNat % 32 = 30 :=
  ⟨30, 9, [3, 0, 5], .scrub, 4, { on with dict := [(dkey 0x3040 1 64, 2)] }, (by decide +kernel)⟩

theorem test_memoryErrors_21_nearScrubLine :
    ∃ (prn line : BitVec 15) (flips : List (BitVec 32)) (raced : Bool) (t : Nat) (s : State), Canonical s ∧
      s.quadrantOn prn.toNat = true ∧ tget 0 s.near.scrub (prn.toNat / 32) = prn.toNat % 32 * 32768 + line.toNat ∧
      s.readLine prn.toNat line.toNat flips = .bad ∧ raced = true ∧ s.dget 0x3060 5 (prn.toNat / 32) + 1 < 2 ^ 32 :=
  ⟨5, 9, [3, 0, 5], true, 4, { on with dict := [(dkey 0x3040 1 64, 2)], near := { scrub := [(0, 5 * 32768 + 9)] } }, (by constructor <;> decide), (by decide +kernel)⟩

theorem test_memoryErrors_22_bulkUncorrectable :
    ∃ (bpa : BitVec 39) (read : BulkRead) (reader : LineReader) (c : CtxId) (t : Nat) (s : State), Canonical s ∧
      bpaExists bpa.toNat = true ∧ s.stackOn (stackOf bpa.toNat) = true ∧ s.bulkOutcome bpa.toNat read =
      .uncorrectable ∧ reader = .other c ∧ c.val < 256 ∧ s.cget c.val 9 3 + 1 < 2 ^ 32 :=
  ⟨640, .read [1, 2] [3, 4] [5, 6] 0, .other 7, 7, 4, { on with dict := [(dkey 0x3040 1 80, 2)] }, (by constructor <;> decide), (by decide +kernel)⟩

theorem test_memoryErrors_23_bulkUncorrectable :
    ∃ (bpa : BitVec 39) (read : BulkRead) (reader : LineReader) (cmd : Nat) (p : Step) (t : Nat) (s : State),
      bpaExists bpa.toNat = true ∧ s.stackOn (stackOf bpa.toNat) = true ∧ s.bulkOutcome bpa.toNat read =
      .uncorrectable ∧ reader = .step cmd ∧ s.step? cmd = some p ∧ p.launched = true ∧ p.readySent = false ∧
      p.committed = false ∧ p.ending = none ∧ tfind s.bulk.written (bpa.toNat / 64) = some p.cmd :=
  ⟨640, .read [1, 2] [3, 4] [5, 6] 0, .step 1, 1, st1, 4, { running (im noPorts) with dict := [(dkey 0x3040 1 80, 2)], bulk := { written := [(10, 1)] } }, (by decide +kernel)⟩

theorem test_memoryErrors_24_bulkUncorrectable :
    ∃ (bpa : BitVec 39) (read : BulkRead) (reader : LineReader) (cmd : Nat) (p : Step) (t : Nat) (s : State),
      bpaExists bpa.toNat = true ∧ s.stackOn (stackOf bpa.toNat) = true ∧ s.bulkOutcome bpa.toNat read =
      .uncorrectable ∧ reader = .step cmd ∧ s.step? cmd = some p ∧ p.launched = true ∧ p.readySent = false ∧
      p.committed = false ∧ p.ending = none ∧ tfind s.bulk.written (bpa.toNat / 64) ≠ some p.cmd :=
  ⟨640, .read [1, 2] [3, 4] [5, 6] 0, .step 1, 1, st1, 4, { running (im noPorts) with dict := [(dkey 0x3040 1 80, 2)] }, (by decide +kernel)⟩

theorem test_memoryErrors_25_bulkUncorrectable :
    ∃ (bpa : BitVec 39) (read : BulkRead) (reader : LineReader) (cmd : Nat) (p : Step) (t : Nat) (s : State),
      bpaExists bpa.toNat = true ∧ s.stackOn (stackOf bpa.toNat) = true ∧ s.bulkOutcome bpa.toNat read = .mesh ∧
      reader = .step cmd ∧ s.step? cmd = some p ∧ p.launched = true ∧ p.readySent = false ∧ p.committed = false ∧
      p.ending = none :=
  ⟨640, .mesh, .step 1, 1, st1, 4, { running (im noPorts) with dict := [(dkey 0x3040 1 80, 2)] }, (by decide +kernel)⟩

theorem test_memoryErrors_26_bulkScrubLine :
    ∃ (bpa : BitVec 39) (read : BulkRead) (raced : Bool) (t : Nat) (s : State), bpaExists bpa.toNat = true ∧
      s.stackOn (stackOf bpa.toNat) = true ∧ s.bulkOutcome bpa.toNat read = .uncorrectable ∧ raced = false :=
  ⟨640, .read [1, 2] [3, 4] [5, 6] 0, false, 4, { on with dict := [(dkey 0x3040 1 80, 2)] }, (by decide +kernel)⟩

theorem test_memoryErrors_27_bulkScrubLine :
    ∃ (bpa : BitVec 39) (read : BulkRead) (raced : Bool) (t : Nat) (s : State), Canonical s ∧ bpaExists bpa.toNat =
      true ∧ s.stackOn (stackOf bpa.toNat) = true ∧ s.bulkOutcome bpa.toNat read = .uncorrectable ∧ raced = true ∧
      s.dget 0x3070 2 (stackOf bpa.toNat) + 1 < 2 ^ 32 :=
  ⟨640, .read [1, 2] [3, 4] [5, 6] 0, true, 4, { on with dict := [(dkey 0x3040 1 80, 2)] }, (by constructor <;> decide), (by decide +kernel)⟩

theorem test_storeAndBinds_1_bindModel :
    ∃ (cmd : Nat) (c : Cmd) (f : Fail) (s : State), s.starting cmd 4 = some c ∧ s.bindChecks c = .error f :=
  ⟨1, cm 4 [], { status := stBind, value := 1 }, busy [cm 4 []], (by decide +kernel)⟩

theorem test_storeAndBinds_2_bindModel :
    ∃ (cmd : Nat) (c : Cmd) (x : Nat × Bytes × List Bytes) (s : State), s.starting cmd 4 = some c ∧ s.bindChecks c =
      .ok x ∧ (((bindSections x.2.1 x.2.2).any fun y => y.nearVa.any fun va => s.onPool c.ctx va y.length) = false ∨
      s.holdsGrant c.ctx = true) :=
  ⟨1, cm 4 (leBytes 2 0 ++ leBytes 2 1 ++ leBytes 4 0 ++ leBytes 8 64), (0, leBytes 28 0 ++ leBytes 4 1 ++ leBytes 480 0 ++ (leBytes 2 9 ++ leBytes 2 0 ++ [1] ++ leBytes 3 0 ++ leBytes 8 0 ++ leBytes 8 64 ++ leBytes 8 0), [leBytes 2 9 ++ leBytes 6 0 ++ leBytes 8 0x1000000000 ++ leBytes 16 0]), { mapped (busy [cm 4 (leBytes 2 0 ++ leBytes 2 1 ++ leBytes 4 0 ++ leBytes 8 64)]) [(64, 9), (76, 0x10)] with store := { slots := [(0, { state := 2, chunks := 1, manifest := leBytes 28 0 ++ leBytes 4 1 ++ leBytes 480 0 ++ (leBytes 2 9 ++ leBytes 2 0 ++ [1] ++ leBytes 3 0 ++ leBytes 8 0 ++ leBytes 8 64 ++ leBytes 8 0) })] } }, (by decide +kernel)⟩

theorem test_storeAndBinds_3_bindChunk :
    ∃ (handle : Fin 4096) (chunk : Nat) (read : ChunkRead) (t : Nat) (r : BindRun) (s : State), s.runningBind
      handle.val = some r ∧ r.left.contains chunk = true ∧ ((r.left.any fun n => decide (n % 8 = chunk % 8) && decide
      (n < chunk)) = false) ∧ s.turnOf (chunk % 8) = some r.handle ∧ ((s.at t).copyChunks r r.toCopy).2 = true ∧
      (((s.at t).copyChunks r r.toCopy).1.takeTurn (chunk % 8) r.handle).chunkGood (s.slot r.slot) chunk read = false :=
  ⟨3, 0, .neither, 9, { handle := 3, cmd := 1, ctx := 256, slot := 0, sections := [], left := [0] }, { on with serve := { binds := [{ handle := 3, cmd := 1, ctx := 256, slot := 0, sections := [], left := [0] }] } }, (by decide +kernel)⟩

theorem test_storeAndBinds_4_bindComplete :
    ∃ (handle : Fin 4096) (t : Nat) (r : BindRun) (b : Binding) (c : Cmd) (s : State), s.runningBind handle.val =
      some r ∧ r.left = [] ∧ ((s.at t).copyChunks r r.toCopy).2 = true ∧ (((s.at t).copyChunks r
      r.toCopy).1.runningBind handle.val).all (fun q => q.toCopy.isEmpty) = true ∧ s.binding r.handle = some b ∧ s.cmd
      r.cmd = some c :=
  ⟨3, 9, { handle := 3, cmd := 1, ctx := 256, slot := 0, sections := [], left := [] }, { owner := 256, slot := 0, state := .binding, modelId := 1, generation := 1, nearSections := false }, cm 4 [] .running, { busy [cm 4 [] .running] with serve := { binds := [{ handle := 3, cmd := 1, ctx := 256, slot := 0, sections := [], left := [] }], bindings := [(3, { owner := 256, slot := 0, state := .binding, modelId := 1, generation := 1, nearSections := false })] } }, (by decide +kernel)⟩

theorem test_storeAndBinds_5_storePatrolChunk :
    ∃ (slot : Fin 1024) (chunk : Nat) (read : ChunkRead) (corrected t : Nat) (s : State), s.serving = true ∧ (s.slot
      slot.val).state = 2 ∧ chunk < (s.slot slot.val).chunks ∧ s.bindReads (chunk % 8) = false :=
  ⟨3, 0, .neither, 0, 9, { on with store := { slots := [(3, { state := 2, chunks := 1 })] } }, (by decide +kernel)⟩

theorem test_storeAndBinds_6_storeChannelIdleOff :
    ∃ (stack : Fin 8) (t : Nat) (s : State), Canonical s ∧ s.serving = true ∧ s.domain (88 + stack.val) = 2 ∧
      tget 0 s.store.lastAccess stack.val + s.dget 0x7000 10 * 1000000 ≤ max s.uptime t :=
  ⟨3, 1000000000, { on with dict := [(dkey 0x3040 1 91, 2)] }, (by constructor <;> decide), (by decide +kernel)⟩

theorem test_storeAndBinds_7_installModeActive :
    ∃ (s : State), s.dget 0x7000 2 = 1 ∧ ((s.steps.any fun p => p.launched && decide (p.ctx < 256)) = false) ∧
      s.serve.binds = [] :=
  ⟨{ on with dict := [(dkey 0x7000 2 0, 1)] }, (by decide +kernel)⟩

theorem test_storeAndBinds_8_bindModel :
    ∃ (cmd : Nat) (c : Cmd) (x : Nat × Bytes × List Bytes) (s : State), s.starting cmd 4 = some c ∧ s.bindChecks c =
      .ok x ∧ ((bindSections x.2.1 x.2.2).any fun y => y.nearVa.any fun va => s.onPool c.ctx va y.length) = true ∧
      s.holdsGrant c.ctx = false :=
  ⟨1, { cm 4 (leBytes 2 0 ++ leBytes 2 1 ++ leBytes 4 0 ++ leBytes 8 64) with ctx := 3 }, (0, leBytes 28 0 ++ leBytes 4 1 ++ leBytes 480 0 ++ (leBytes 2 9 ++ leBytes 2 0 ++ [0] ++ leBytes 3 0 ++ leBytes 8 0 ++ leBytes 8 64 ++ leBytes 8 0), [leBytes 2 9 ++ [1] ++ leBytes 5 0 ++ leBytes 8 0x1000000000 ++ leBytes 8 0x100000 ++ leBytes 8 0]), { busy [{ cm 4 (leBytes 2 0 ++ leBytes 2 1 ++ leBytes 4 0 ++ leBytes 8 64) with ctx := 3 }] with dict := [(dkey 0x2300 1 0, 0x203)], cdict := [(ckey 3 1 3, 3)], store := { slots := [(0, { state := 2, chunks := 1, manifest := leBytes 28 0 ++ leBytes 4 1 ++ leBytes 480 0 ++ (leBytes 2 9 ++ leBytes 2 0 ++ [0] ++ leBytes 3 0 ++ leBytes 8 0 ++ leBytes 8 64 ++ leBytes 8 0) })] }, near := { map := [(3 * 65536, ⟨600, true⟩), (3 * 65536 + 1, ⟨40, true⟩)], mem := [(600 * 2 ^ 20 + 64, 9), (600 * 2 ^ 20 + 66, 1), (600 * 2 ^ 20 + 76, 0x10), (600 * 2 ^ 20 + 82, 0x10)] } }, (by decide +kernel)⟩

theorem test_storeAndBinds_9_bindChunk :
    ∃ (handle : Fin 4096) (chunk : Nat) (read : ChunkRead) (t : Nat) (r : BindRun) (s : State), s.runningBind
      handle.val = some r ∧ r.left.contains chunk = true ∧ ((r.left.any fun n => decide (n % 8 = chunk % 8) && decide
      (n < chunk)) = false) ∧ s.turnOf (chunk % 8) = some r.handle ∧ ((s.at t).copyChunks r r.toCopy).2 = true ∧
      (((s.at t).copyChunks r r.toCopy).1.takeTurn (chunk % 8) r.handle).chunkGood (s.slot r.slot) chunk read = true ∧
      ((((s.at t).copyChunks r r.toCopy).1.takeTurn (chunk % 8) r.handle).bindParts r (s.slot r.slot).extents chunk r.sections).2 = none :=
  ⟨3, 0, .first, 9, { handle := 3, cmd := 1, ctx := 256, slot := 0, sections := [{ offset := 2097152, length := 64, bulkVa := 0x1000000000, nearVa := none }], left := [0] }, { busy [cm 4 [] .running] with serve := { binds := [{ handle := 3, cmd := 1, ctx := 256, slot := 0, sections := [{ offset := 2097152, length := 64, bulkVa := 0x1000000000, nearVa := none }], left := [0] }], bindings := [(3, { owner := 256, slot := 0, state := .binding, modelId := 1, generation := 1, nearSections := false })] }, store := { slots := [(0, { state := 2, chunks := 1, manifest := leBytes 36 0 ++ leBytes 4 40 ++ sha384 (memReads [] 0 chunkBytes) })] } }, (by decide +kernel), (by decide +kernel), (by decide +kernel), (by decide +kernel), (by decide +kernel), chunk_of_digest _ _ rfl rfl, (by decide +kernel)⟩

theorem test_storeAndBinds_10_bindChunk :
    ∃ (handle : Fin 4096) (chunk : Nat) (read : ChunkRead) (t : Nat) (r : BindRun) (s : State), s.runningBind
      handle.val = some r ∧ r.left.contains chunk = true ∧ ((r.left.any fun n => decide (n % 8 = chunk % 8) && decide
      (n < chunk)) = false) ∧ s.turnOf (chunk % 8) = some r.handle ∧ ((s.at t).copyChunks r r.toCopy).2 = true ∧
      (((s.at t).copyChunks r r.toCopy).1.takeTurn (chunk % 8) r.handle).chunkGood (s.slot r.slot) chunk read = true ∧
      ((((s.at t).copyChunks r r.toCopy).1.takeTurn (chunk % 8) r.handle).bindParts r (s.slot r.slot).extents chunk r.sections).2.isSome = true ∧ ((s.cmd r.cmd).isSome = true) :=
  ⟨3, 0, .first, 9, { handle := 3, cmd := 1, ctx := 256, slot := 0, sections := [{ offset := 0, length := 64, bulkVa := 0, nearVa := none }], left := [0] }, { busy [cm 4 [] .running] with serve := { binds := [{ handle := 3, cmd := 1, ctx := 256, slot := 0, sections := [{ offset := 0, length := 64, bulkVa := 0, nearVa := none }], left := [0] }], bindings := [(3, { owner := 256, slot := 0, state := .binding, modelId := 1, generation := 1, nearSections := false })] }, store := { slots := [(0, { state := 2, chunks := 1, manifest := leBytes 36 0 ++ leBytes 4 40 ++ sha384 (memReads [] 0 chunkBytes) })] } }, (by decide +kernel), (by decide +kernel), (by decide +kernel), (by decide +kernel), (by decide +kernel), chunk_of_digest _ _ rfl rfl, (by decide +kernel), (by decide +kernel)⟩

theorem test_storeAndBinds_11_bindChunk :
    ∃ (handle : Fin 4096) (chunk : Nat) (read : ChunkRead) (t : Nat) (r : BindRun) (s : State), s.runningBind
      handle.val = some r ∧ (r.left.contains chunk = false ∨ ((r.left.any fun n => decide (n % 8 = chunk % 8) &&
      decide (n < chunk)) = true) ∨ s.turnOf (chunk % 8) ≠ some r.handle) :=
  ⟨3, 1, .neither, 9, { handle := 3, cmd := 1, ctx := 256, slot := 0, sections := [], left := [0] }, { on with serve := { binds := [{ handle := 3, cmd := 1, ctx := 256, slot := 0, sections := [], left := [0] }] } }, (by decide +kernel)⟩

theorem test_storeAndBinds_12_bindComplete :
    ∃ (handle : Fin 4096) (t : Nat) (r : BindRun) (s : State), s.runningBind handle.val = some r ∧ r.left = [] ∧
      ((s.at t).copyChunks r r.toCopy).2 = true ∧ (((s.at t).copyChunks r r.toCopy).1.runningBind handle.val).any (fun
      q => !q.toCopy.isEmpty) = true :=
  ⟨3, 9, { handle := 3, cmd := 1, ctx := 256, slot := 0, sections := [{ offset := 0, length := 64, bulkVa := 0x1000000000, nearVa := some 0 }], left := [], toCopy := [0] }, { mapped (busy [cm 4 [] .running]) with array := { clusters := [(0, { frozen := true })] }, serve := { binds := [{ handle := 3, cmd := 1, ctx := 256, slot := 0, sections := [{ offset := 0, length := 64, bulkVa := 0x1000000000, nearVa := some 0 }], left := [], toCopy := [0] }] } }, (by decide +kernel)⟩

theorem test_storeAndBinds_13_bindComplete :
    ∃ (handle : Fin 4096) (t : Nat) (s : State), ((s.runningBind handle.val).all (fun r => !r.left.isEmpty) = true) :=
  ⟨3, 9, on, (by decide +kernel)⟩

theorem test_copies_1_copy :
    ∃ (cmd : Nat) (c : Cmd) (s : State), Canonical s ∧ s.starting cmd 2 = some c ∧ c.at 32 1 = 0 ∧
      c.at 8 8 < c.at 16 8 + c.at 24 8 ∧ c.at 16 8 < c.at 8 8 + c.at 24 8 :=
  ⟨1, cm 2 [0, 0, 0, 0, 0, 0, 0, 0, 4, 0, 0, 0, 0, 0, 0, 0, 8], busy [cm 2 [0, 0, 0, 0, 0, 0, 0, 0, 4, 0, 0, 0, 0, 0, 0, 0, 8]], (by constructor <;> decide), (by decide +kernel)⟩

theorem test_copies_2_copy :
    ∃ (cmd : Nat) (c : Cmd) (s : State), Canonical s ∧ s.starting cmd 2 = some c ∧ c.at 32 1 = 0 ∧ s.ctxs.copies =
      [] ∧ s.dev.hostReset = false ∧ (s.cmds.all (fun d => !decide (d.op = 8)) = true) ∧ s.hif.linkUp = true ∧
      s.hostDown = [] ∧ s.hostUncommitted = [] ∧ 2 ^ 44 ≤ c.at 8 8 ∧ c.at 8 8 + c.at 24 8 ≤ 2 ^ 45 ∧ 2 ^ 44 ≤ c.at 16
      8 ∧ c.at 16 8 + c.at 24 8 ≤ 2 ^ 45 ∧ (c.at 8 8 + c.at 24 8 ≤ c.at 16 8 ∨ c.at 16 8 + c.at 24 8 ≤ c.at 8 8) ∧ 2 ^
      44 ≤ (s.ring c.ring).cqBase.toNat ∧ (s.ring c.ring).cqBase.toNat + (s.ring c.ring).cqTail * 16 + 16 ≤ 2 ^ 45 ∧
      ((s.ring c.ring).cqBase.toNat + (s.ring c.ring).cqTail * 16 + 16 ≤ c.at 16 8 ∨ c.at 16 8 + c.at 24 8 ≤ (s.ring
      c.ring).cqBase.toNat + (s.ring c.ring).cqTail * 16) :=
  ⟨1, cm 2 (leBytes 8 0x100000000000 ++ leBytes 8 0x100000000100 ++ leBytes 8 3 ++ [0]), { busy [cm 2 (leBytes 8 0x100000000000 ++ leBytes 8 0x100000000100 ++ leBytes 8 3 ++ [0])] with host := [(0, 7), (2, 9)] }, (by constructor <;> decide), (by decide +kernel)⟩

theorem test_cairnTrees_1_prefixLookup :
    ∃ (cmd : Nat) (c : Cmd) (s : State), s.starting cmd 6 = some c ∧ (s.links.ends.any fun e => decide (e.cmd =
      c.id)) = false ∧ (s.cairnArrive c.id c.ctx (c.at 8 8)).cairnTurn c.id c.ctx (c.at 8 8) = false :=
  ⟨1, cm 6 (leBytes 8 0x100000000000 ++ leBytes 8 0x100000000040 ++ leBytes 4 1 ++ leBytes 4 0 ++ leBytes 8 0x100000000060), { busy [cm 6 (leBytes 8 0x100000000000 ++ leBytes 8 0x100000000040 ++ leBytes 4 1 ++ leBytes 4 0 ++ leBytes 8 0x100000000060)] with steps := [{ cmd := 2, ring := 1, ctx := 256, seq := 0, trees := [0x100000000000] }] }, (by decide +kernel)⟩

theorem test_cairnTrees_2_prefixLookup :
    ∃ (cmd : Nat) (c : Cmd) (n m : Nat) (s v : State), s.starting cmd 6 = some c ∧ (s.links.ends.any fun e => decide
      (e.cmd = c.id)) = false ∧ s.cairnArrive c.id c.ctx (c.at 8 8) = v ∧ v.cairnTurn c.id c.ctx (c.at 8 8) = true ∧
      v.ckeys c.id c.ctx (c.at 16 8) (c.at 24 4) 0 = .error (.code n m) :=
  ⟨1, cm 6 (leBytes 8 0x100000000000 ++ leBytes 8 0x100000000040 ++ leBytes 4 1 ++ leBytes 4 0 ++ leBytes 8 0x100000000060), 5, 0, busy [cm 6 (leBytes 8 0x100000000000 ++ leBytes 8 0x100000000040 ++ leBytes 4 1 ++ leBytes 4 0 ++ leBytes 8 0x100000000060)], (busy [cm 6 (leBytes 8 0x100000000000 ++ leBytes 8 0x100000000040 ++ leBytes 4 1 ++ leBytes 4 0 ++ leBytes 8 0x100000000060)]).cairnArrive 1 256 0x100000000000, (by decide +kernel)⟩

theorem test_cairnTrees_3_prefixLookup :
    ∃ (cmd : Nat) (c : Cmd) (ks : List Nat) (s v : State), s.starting cmd 6 = some c ∧ (s.links.ends.any fun e =>
      decide (e.cmd = c.id)) = false ∧ s.cairnArrive c.id c.ctx (c.at 8 8) = v ∧ v.cairnTurn c.id c.ctx (c.at 8 8) =
      true ∧ (v.ckeys c.id c.ctx (c.at 16 8) (c.at 24 4) 0).toOption = some ks ∧ (v.tree c.ctx (c.at 8
      8)).toOption.map (·.root) = some 0 :=
  ⟨1, cairnCmd 6, [7], cairn 6 0, (cairn 6 0).cairnArrive 1 256 0, (by decide +kernel)⟩

theorem test_cairnTrees_4_prefixLookup :
    ∃ (cmd : Nat) (c : Cmd) (ks : List Nat) (s v : State), s.starting cmd 6 = some c ∧ (s.links.ends.any fun e =>
      decide (e.cmd = c.id)) = false ∧ s.cairnArrive c.id c.ctx (c.at 8 8) = v ∧ v.cairnTurn c.id c.ctx (c.at 8 8) =
      true ∧ (v.ckeys c.id c.ctx (c.at 16 8) (c.at 24 4) 0).toOption = some ks ∧ (v.tree c.ctx (c.at 8
      8)).toOption.isSome = true :=
  ⟨1, cairnCmd 6, [7], cairn 6 0, (cairn 6 0).cairnArrive 1 256 0, (by decide +kernel)⟩

theorem test_cairnTrees_5_prefixInsert :
    ∃ (cmd : Nat) (c : Cmd) (s : State), s.starting cmd 7 = some c ∧ (s.links.ends.any fun e => decide (e.cmd =
      c.id)) = false ∧ (s.cairnArrive c.id c.ctx (c.at 8 8)).cairnTurn c.id c.ctx (c.at 8 8) = false :=
  ⟨1, cm 7 (leBytes 8 0x100000000000 ++ leBytes 8 0x100000000040 ++ leBytes 4 1 ++ leBytes 4 0 ++ leBytes 8 0x100000000060), { busy [cm 7 (leBytes 8 0x100000000000 ++ leBytes 8 0x100000000040 ++ leBytes 4 1 ++ leBytes 4 0 ++ leBytes 8 0x100000000060)] with steps := [{ cmd := 2, ring := 1, ctx := 256, seq := 0, trees := [0x100000000000] }] }, (by decide +kernel)⟩

theorem test_cairnTrees_6_prefixInsert :
    ∃ (cmd : Nat) (c : Cmd) (n m : Nat) (s v : State), s.starting cmd 7 = some c ∧ (s.links.ends.any fun e => decide
      (e.cmd = c.id)) = false ∧ s.cairnArrive c.id c.ctx (c.at 8 8) = v ∧ v.cairnTurn c.id c.ctx (c.at 8 8) = true ∧
      v.ckeys c.id c.ctx (c.at 16 8) (c.at 24 4) 0 = .error (.code n m) :=
  ⟨1, cm 7 (leBytes 8 0x100000000000 ++ leBytes 8 0x100000000040 ++ leBytes 4 1 ++ leBytes 4 0 ++ leBytes 8 0x100000000060), 5, 0, busy [cm 7 (leBytes 8 0x100000000000 ++ leBytes 8 0x100000000040 ++ leBytes 4 1 ++ leBytes 4 0 ++ leBytes 8 0x100000000060)], (busy [cm 7 (leBytes 8 0x100000000000 ++ leBytes 8 0x100000000040 ++ leBytes 4 1 ++ leBytes 4 0 ++ leBytes 8 0x100000000060)]).cairnArrive 1 256 0x100000000000, (by decide +kernel)⟩

theorem test_cairnTrees_7_prefixInsert :
    ∃ (cmd : Nat) (c : Cmd) (ks ps : List Nat) (h : Tree) (s v : State), s.starting cmd 7 = some c ∧
      (s.links.ends.any fun e => decide (e.cmd = c.id)) = false ∧ s.cairnArrive c.id c.ctx (c.at 8 8) = v ∧
      v.cairnTurn c.id c.ctx (c.at 8 8) = true ∧ (v.ckeys c.id c.ctx (c.at 16 8) (c.at 24 4) 0).toOption = some ks ∧
      (v.cvalues c.id c.ctx (c.at 32 8) (c.at 24 4)).toOption = some ps ∧ (v.tree c.ctx (c.at 8 8)).toOption = some h
      ∧ (((v.cairnSeen c (c.at 24 4)).accessed otherUnit c.ctx (c.at 32 8) (8 * c.at 24 4)).insert h (ks.zip ps)
      none).1.toOption.isSome = true :=
  ⟨1, cairnCmd 7, [7], [9], ⟨256, 0, 0, 128, 0, 1, 128⟩, cairn 7 128, (cairn 7 128).cairnArrive 1 256 0, (by decide +kernel)⟩

theorem test_cairnTrees_8_cairnFreeing :
    ∃ (ctx : CtxId) (tree : BitVec 64) (t : Nat) (d : DeadNode) (s : State), s.treeHeld ctx.val tree.toNat = false ∧
      ((s.serve.dead.filter fun e => decide (e.ctx = ctx.val) && decide (e.tree = tree.toNat)) = [d]) ∧
      ((s.serve.dead.find? fun e => decide (e.ctx = d.ctx) && decide (e.node = d.node)) = some d) :=
  ⟨256, 0x100000000000, 9, ⟨256, 0x100000000000, 0x100000000008, 0x100000000080⟩, { on with serve := { dead := [⟨256, 0x100000000000, 0x100000000008, 0x100000000080⟩] } }, (by decide +kernel)⟩

theorem test_routeLoads_1_loadRoute :
    ∃ (cmd : Nat) (c : Cmd) (f : Fail) (s : State), s.starting cmd 3 = some c ∧ c.at 20 1 = 0 ∧ s.earlierLoad c.id
      (s.loadFootprint c) = false ∧ s.earlierEviction c.id (s.loadFootprint c) = false ∧ (s.array.rappels.any fun r =>
      overlaps r.footprint (s.loadFootprint c)) = false ∧ s.checkLoad c = .error f :=
  ⟨1, cm 3 (leBytes 8 0x100000000000 ++ leBytes 4 5 ++ [0]), { status := 0x14, value := 0x1000000005 }, { busy [cm 3 (leBytes 8 0x100000000000 ++ leBytes 4 5 ++ [0])] with array := { staged := [{ id := 5, ctx := 256, footprint := 1, address := 0x100000000000, bytes := leBytes 16 0 ++ [1] ++ leBytes 239 0, rank := [(0, 0)] }] } }, (by decide +kernel)⟩

theorem test_routeLoads_2_loadRoute :
    ∃ (cmd : Nat) (c : Cmd) (x : BitVec 64 × Nat × Bytes) (s : State), s.starting cmd 3 = some c ∧ c.at 20 1 = 0 ∧
      s.earlierLoad c.id (s.loadFootprint c) = false ∧ s.earlierEviction c.id (s.loadFootprint c) = false ∧
      (s.array.rappels.any fun r => overlaps r.footprint (s.loadFootprint c)) = false ∧ s.checkLoad c = .ok x ∧
      s.poolOfFootprint x.1 = none ∧ s.array.evictions = [] ∧ (if (s.stagedImage c.ctx (c.at 16 4)).isSome then s else
      s.imageSeen c.ctx (c.at 8 8)).preloadFails c.ctx x.2.2 = none :=
  ⟨1, cm 3 (leBytes 8 0x100000000000 ++ leBytes 4 5 ++ [0]), (1, 0x100000000000, leBytes 16 0 ++ [1] ++ leBytes 239 0), { busy [cm 3 (leBytes 8 0x100000000000 ++ leBytes 4 5 ++ [0])] with dict := [(dkey 0x2300 1 0, 256)], array := { staged := [{ id := 5, ctx := 256, footprint := 1, address := 0x100000000000, bytes := leBytes 16 0 ++ [1] ++ leBytes 239 0, rank := [(0, 0)] }] } }, (by decide +kernel)⟩

theorem test_routeLoads_3_loadRoute :
    ∃ (cmd : Nat) (c : Cmd) (x : BitVec 64 × Nat × Bytes) (s : State), s.starting cmd 3 = some c ∧ c.at 20 1 = 0 ∧
      s.earlierLoad c.id (s.loadFootprint c) = false ∧ s.earlierEviction c.id (s.loadFootprint c) = false ∧
      (s.array.rappels.any fun r => overlaps r.footprint (s.loadFootprint c)) = false ∧ s.checkLoad c = .ok x ∧
      (s.poolOfFootprint x.1).isSome = true ∧ s.holdsGrant c.ctx = false :=
  ⟨1, { cm 3 (leBytes 8 0x100000000000 ++ leBytes 4 5 ++ [0]) with ctx := 3 }, (1, 0x100000000000, leBytes 16 0 ++ [1] ++ leBytes 239 0), { busy [{ cm 3 (leBytes 8 0x100000000000 ++ leBytes 4 5 ++ [0]) with ctx := 3 }] with dict := [(dkey 0x2300 1 0, 0x203)], cdict := [(ckey 3 1 3, 3)], array := { staged := [{ id := 5, ctx := 3, footprint := 1, address := 0x100000000000, bytes := leBytes 16 0 ++ [1] ++ leBytes 239 0, rank := [(0, 0)] }] } }, (by decide +kernel)⟩

theorem test_routeLoads_4_loadRouteStage :
    ∃ (cmd : Nat) (c : Cmd) (f : Fail) (s : State), s.starting cmd 3 = some c ∧ c.at 20 1 = 1 ∧ s.earlierLoad c.id
      (s.loadFootprint c) = false ∧ s.earlierEviction c.id (s.loadFootprint c) = false ∧ (s.array.rappels.any fun r =>
      overlaps r.footprint (s.loadFootprint c)) = false ∧ s.checkLoad c = .error f :=
  ⟨1, cm 3 (leBytes 8 0x100000000000 ++ leBytes 4 5 ++ [1]), { status := 0x14, value := 0x1000000005 }, { busy [cm 3 (leBytes 8 0x100000000000 ++ leBytes 4 5 ++ [1])] with array := { staged := [{ id := 5, ctx := 256, footprint := 1, address := 0x100000000000, bytes := leBytes 16 0 ++ [1] ++ leBytes 239 0, rank := [(0, 0)] }] } }, (by decide +kernel)⟩

theorem test_routeLoads_5_loadRouteStage :
    ∃ (cmd : Nat) (c : Cmd) (x : BitVec 64 × Nat × Bytes) (s : State), s.starting cmd 3 = some c ∧ c.at 20 1 = 1 ∧
      s.earlierLoad c.id (s.loadFootprint c) = false ∧ s.earlierEviction c.id (s.loadFootprint c) = false ∧
      (s.array.rappels.any fun r => overlaps r.footprint (s.loadFootprint c)) = false ∧ s.checkLoad c = .ok x ∧
      s.poolOfFootprint x.1 = none ∧ (if (s.stagedImage c.ctx (c.at 16 4)).isSome then s else s.imageSeen c.ctx (c.at
      8 8)).preloadFails c.ctx x.2.2 = none :=
  ⟨1, cm 3 (leBytes 8 0x100000000000 ++ leBytes 4 5 ++ [1]), (1, 0x100000000000, leBytes 16 0 ++ [1] ++ leBytes 239 0), { busy [cm 3 (leBytes 8 0x100000000000 ++ leBytes 4 5 ++ [1])] with dict := [(dkey 0x2300 1 0, 256)], array := { staged := [{ id := 5, ctx := 256, footprint := 1, address := 0x100000000000, bytes := leBytes 16 0 ++ [1] ++ leBytes 239 0, rank := [(0, 0)] }] } }, (by decide +kernel)⟩

theorem test_routeLoads_6_loadRouteEvict :
    ∃ (cmd : Nat) (c : Cmd) (s : State), s.starting cmd 3 = some c ∧ c.at 20 1 = 2 ∧ s.array.loads = [] ∧
      s.array.evictions = [] ∧ s.routeOf c.ctx (c.at 16 4) = none :=
  ⟨1, cm 3 (leBytes 8 0x100000000000 ++ leBytes 4 5 ++ [2]), { busy [cm 3 (leBytes 8 0x100000000000 ++ leBytes 4 5 ++ [2])] with dict := [(dkey 0x2300 1 0, 256)], array := { staged := [{ id := 5, ctx := 256, footprint := 1, address := 0x100000000000, bytes := leBytes 16 0 ++ [1] ++ leBytes 239 0, rank := [(0, 0)] }] } }, (by decide +kernel)⟩

theorem test_routeLoads_7_loadRouteEvict :
    ∃ (cmd : Nat) (c : Cmd) (r : Route) (s : State), s.starting cmd 3 = some c ∧ c.at 20 1 = 2 ∧ s.array.loads = []
      ∧ s.array.evictions = [] ∧ s.routeOf c.ctx (c.at 16 4) = some r ∧ r.parked = true ∧ s.busy r.footprint = false :=
  ⟨1, cm 3 (leBytes 8 0x100000000000 ++ leBytes 4 5 ++ [2]), { id := 5, ctx := 256, footprint := 1, image := 0x100000000000, bytes := [], parked := true }, { busy [cm 3 (leBytes 8 0x100000000000 ++ leBytes 4 5 ++ [2])] with array := { routes := [{ id := 5, ctx := 256, footprint := 1, image := 0x100000000000, bytes := [], parked := true }] } }, (by decide +kernel)⟩

theorem test_routeLoads_8_loadRouteEvict :
    ∃ (cmd : Nat) (c : Cmd) (r : Route) (s : State), s.starting cmd 3 = some c ∧ c.at 20 1 = 2 ∧ s.array.loads = []
      ∧ s.array.evictions = [] ∧ s.routeOf c.ctx (c.at 16 4) = some r ∧ r.parked = false :=
  ⟨1, cm 3 (leBytes 8 0x100000000000 ++ leBytes 4 5 ++ [2]), { id := 5, ctx := 256, footprint := 1, image := 0x100000000000, bytes := [] }, { busy [cm 3 (leBytes 8 0x100000000000 ++ leBytes 4 5 ++ [2])] with array := { routes := [{ id := 5, ctx := 256, footprint := 1, image := 0x100000000000, bytes := [] }] } }, (by decide +kernel)⟩

theorem test_routeLoads_9_routeLoadDone :
    ∃ (cmd t : Nat) (c : Cmd) (l : LoadRun) (s : State), s.cmd cmd = some c ∧ ((s.array.loads.find? fun m => decide
      (m.cmd = cmd)) = some l) ∧ l.draining = true ∧ s.stillFor (.load cmd) = false ∧ s.busy l.footprint = false ∧
      s.preloadFails l.ctx l.bytes = none ∧ s.attached l.ctx = none ∧ c.ctx = l.ctx :=
  ⟨1, 9, cm 3 (leBytes 8 0x100000000000 ++ leBytes 4 5 ++ [0]) .running, { cmd := 1, ctx := 256, id := 5, footprint := 1, image := 0x100000000000, bytes := [], draining := true }, { busy [cm 3 (leBytes 8 0x100000000000 ++ leBytes 4 5 ++ [0]) .running] with array := { loads := [{ cmd := 1, ctx := 256, id := 5, footprint := 1, image := 0x100000000000, bytes := [], draining := true }], routes := [{ id := 4, ctx := 256, footprint := 1, image := 0x100000000000, bytes := [] }] } }, (by decide +kernel)⟩

theorem test_routeLoads_10_loadRoute :
    ∃ (cmd : Nat) (c : Cmd) (s : State), s.starting cmd 3 = some c ∧ c.at 20 1 = 0 ∧ (s.earlierLoad c.id
      (s.loadFootprint c) = true ∨ s.earlierEviction c.id (s.loadFootprint c) = true ∨ (s.array.rappels.any fun r =>
      overlaps r.footprint (s.loadFootprint c)) = true) ∧ (s.poolOfFootprint (s.loadFootprint c) = none ∨ s.holdsGrant
      c.ctx = true) :=
  ⟨1, cm 3 (leBytes 8 0x100000000000 ++ leBytes 4 5 ++ [0]), { busy [cm 3 (leBytes 8 0x100000000000 ++ leBytes 4 5 ++ [0])] with array := { staged := [{ id := 5, ctx := 256, footprint := 1, address := 0x100000000000, bytes := leBytes 16 0 ++ [1] ++ leBytes 239 0, rank := [(0, 0)] }], loads := [{ cmd := 9, ctx := 256, id := 6, footprint := 1, image := 0, bytes := [] }], order := [9, 1] } }, (by decide +kernel)⟩

theorem test_routeLoads_11_loadRouteStage :
    ∃ (cmd : Nat) (c : Cmd) (s : State), s.starting cmd 3 = some c ∧ c.at 20 1 = 1 ∧ (s.earlierLoad c.id
      (s.loadFootprint c) = true ∨ s.earlierEviction c.id (s.loadFootprint c) = true ∨ (s.array.rappels.any fun r =>
      overlaps r.footprint (s.loadFootprint c)) = true) ∧ (s.poolOfFootprint (s.loadFootprint c) = none ∨ s.holdsGrant
      c.ctx = true) :=
  ⟨1, cm 3 (leBytes 8 0x100000000000 ++ leBytes 4 5 ++ [1]), { busy [cm 3 (leBytes 8 0x100000000000 ++ leBytes 4 5 ++ [1])] with array := { staged := [{ id := 5, ctx := 256, footprint := 1, address := 0x100000000000, bytes := leBytes 16 0 ++ [1] ++ leBytes 239 0, rank := [(0, 0)] }], loads := [{ cmd := 9, ctx := 256, id := 6, footprint := 1, image := 0, bytes := [] }], order := [9, 1] } }, (by decide +kernel)⟩

theorem test_routeLoads_12_loadRoute :
    ∃ (cmd : Nat) (c : Cmd) (s : State), s.starting cmd 3 = some c ∧ c.at 20 1 = 0 ∧ (s.earlierLoad c.id
      (s.loadFootprint c) = true ∨ s.earlierEviction c.id (s.loadFootprint c) = true ∨ (s.array.rappels.any fun r =>
      overlaps r.footprint (s.loadFootprint c)) = true) ∧ (s.poolOfFootprint (s.loadFootprint c)).isSome = true ∧
      s.holdsGrant c.ctx = false :=
  ⟨1, { cm 3 (leBytes 8 0x100000000000 ++ leBytes 4 5 ++ [0]) with ctx := 3 }, { busy [{ cm 3 (leBytes 8 0x100000000000 ++ leBytes 4 5 ++ [0]) with ctx := 3 }] with dict := [(dkey 0x2300 1 0, 0x203)], cdict := [(ckey 3 1 3, 3)], array := { staged := [{ id := 5, ctx := 3, footprint := 1, address := 0x100000000000, bytes := leBytes 16 0 ++ [1] ++ leBytes 239 0, rank := [(0, 0)] }], loads := [{ cmd := 9, ctx := 3, id := 6, footprint := 1, image := 0, bytes := [] }], order := [9, 1] } }, (by decide +kernel)⟩

theorem test_routeLoads_13_loadRouteStage :
    ∃ (cmd : Nat) (c : Cmd) (s : State), s.starting cmd 3 = some c ∧ c.at 20 1 = 1 ∧ (s.earlierLoad c.id
      (s.loadFootprint c) = true ∨ s.earlierEviction c.id (s.loadFootprint c) = true ∨ (s.array.rappels.any fun r =>
      overlaps r.footprint (s.loadFootprint c)) = true) ∧ (s.poolOfFootprint (s.loadFootprint c)).isSome = true ∧
      s.holdsGrant c.ctx = false :=
  ⟨1, { cm 3 (leBytes 8 0x100000000000 ++ leBytes 4 5 ++ [1]) with ctx := 3 }, { busy [{ cm 3 (leBytes 8 0x100000000000 ++ leBytes 4 5 ++ [1]) with ctx := 3 }] with dict := [(dkey 0x2300 1 0, 0x203)], cdict := [(ckey 3 1 3, 3)], array := { staged := [{ id := 5, ctx := 3, footprint := 1, address := 0x100000000000, bytes := leBytes 16 0 ++ [1] ++ leBytes 239 0, rank := [(0, 0)] }], loads := [{ cmd := 9, ctx := 3, id := 6, footprint := 1, image := 0, bytes := [] }], order := [9, 1] } }, (by decide +kernel)⟩

theorem test_rappels_1_rappelCutoff :
    ∃ (footprint : BitVec 64) (t : Nat) (r : Rappel) (s : State), Canonical s ∧
      ((s.array.rappels.find? fun q => decide (q.footprint = footprint)) = some r) ∧ r.cut = false ∧
      r.start + s.dget 0x2500 2 * 1000 ≤ t :=
  ⟨1, 9000000, { footprint := 1, ctx := 3, purposes := [], start := 5 }, { on with array := { rappels := [{ footprint := 1, ctx := 3, purposes := [], start := 5 }] } }, (by constructor <;> decide), (by decide +kernel)⟩

theorem test_rappels_2_rappelCutoff :
    ∃ (footprint : BitVec 64) (t : Nat) (r : Rappel) (s : State),
      ((s.array.rappels.find? fun q => decide (q.footprint = footprint)) = some r) ∧
      t < r.start + s.dget 0x2500 2 * 1000 :=
  ⟨1, 9, { footprint := 1, ctx := 3, purposes := [], start := 5 }, { on with dict := [(dkey 0x2500 2 0, 4)], array := { rappels := [{ footprint := 1, ctx := 3, purposes := [], start := 5 }] } }, (by decide +kernel)⟩

theorem test_rappels_3_rappelQuiescence :
    ∃ (footprint : BitVec 64) (t : Nat) (unclear : List ClusterId) (r : Rappel) (s : State), ((s.array.rappels.find?
      fun q => decide (q.footprint = footprint)) = some r) ∧ (r.cut = true ∨ s.runsOn r = false) :=
  ⟨1, 9, [], { footprint := 1, ctx := 3, purposes := [], start := 5 }, { on with array := { rappels := [{ footprint := 1, ctx := 3, purposes := [], start := 5 }] } }, (by decide +kernel)⟩

theorem test_rappels_4_rappelQuiescence :
    ∃ (footprint : BitVec 64) (t : Nat) (unclear : List ClusterId) (r : Rappel) (s : State), s.array.rappels = [r] ∧
      r.footprint = footprint ∧ unclear = [] ∧ r.purposes = [] ∧ s.array.loads = [] ∧ s.array.evictions = [] ∧ s.steps
      = [] ∧ s.ctxs.hang = none ∧ s.ctxs.stalls = [] ∧ s.ctxs.resets = [] ∧ s.links.requests = [] ∧ ((clustersOf
      footprint).all (fun k => !(s.cluster k).frozen) = true) ∧ s.dev.mode = .service :=
  ⟨1, 9, [], { footprint := 1, ctx := 3, purposes := [], start := 5 }, { on with array := { rappels := [{ footprint := 1, ctx := 3, purposes := [], start := 5 }], cores := [(3, {}), (20, {})] } }, (by decide +kernel)⟩

theorem test_rappels_5_deadlineExpired :
    ∃ (cmd t : Nat) (c : Cmd) (p : Step) (s : State), s.cmd cmd = some c ∧ s.step? cmd = some p ∧ c.at 20 4 ≠ 0 ∧
      p.missed = false ∧ p.committed = false ∧ p.origin + ctField (c.at 20 4) ≤ s.cdu.phase (max s.uptime t) :=
  ⟨1, 90000000000, cm 1 (leBytes 12 0 ++ leBytes 4 1), { cmd := 1, ring := 0, ctx := 256, seq := 0, launched := true, footprint := 1 }, { busy [cm 1 (leBytes 12 0 ++ leBytes 4 1)] with cdu := { ticked := true, tick := 2 }, steps := [{ cmd := 1, ring := 0, ctx := 256, seq := 0, launched := true, footprint := 1 }] }, (by decide +kernel), (by decide +kernel)⟩

theorem test_rappels_6_contextSwitchDone :
    ∃ (pool : Fin 16) (t : Nat) (w : Switch) (s : State), tfind s.ctxs.switches pool.val = some w ∧
      s.stillFor (.switch pool.val) = false ∧ w.outgoing = none ∧ s.fenced w.incoming = false ∧
      ((s.at t).restoreAll w.incoming pool.val ((s.at t).poolRegions pool.val)).2 = none ∧
      tsorted none s.ctxs.switches = true :=
  ⟨2, 9, { outgoing := none, incoming := 3, start := 0 }, { on with ctxs := { switches := [(2, { outgoing := none, incoming := 3, start := 0 })] } }, (by decide +kernel), (by decide +kernel)⟩

theorem test_rappels_7_contextSwitchDone :
    ∃ (pool : Fin 16) (t : Nat) (s : State), tfind s.ctxs.switches pool.val = none :=
  ⟨2, 9, on, (by decide +kernel)⟩

theorem test_stepLaunches_1_launchStep :
    ∃ (cmd : Nat) (c : Cmd) (s : State), s.starting cmd 1 = some c ∧ s.installing = true ∧ c.ctx ≠ 256 :=
  ⟨1, { cm 1 [] with ctx := 3 }, { busy [{ cm 1 [] with ctx := 3 }] with dict := [(dkey 0x7000 2 0, 2)] }, (by decide +kernel)⟩

theorem test_stepLaunches_2_launchStep :
    ∃ (cmd : Nat) (c : Cmd) (s : State), s.starting cmd 1 = some c ∧ (s.installing = false ∨ c.ctx = 256) :=
  ⟨1, cm 1 [], busy [cm 1 []], (by decide +kernel)⟩

theorem test_stepLaunches_3_stepReady :
    ∃ (cmd t : Nat) (c : Cmd) (s : State), s.cmd cmd = some c ∧ s.serving = true ∧ c.op = 1 ∧ c.stage = .queued ∧
      s.loopBusy c = false ∧ s.launchHolds c = true ∧ s.attached c.ctx = none :=
  ⟨1, 9, cm 1 [] .queued, busy [cm 1 [] .queued], (by decide +kernel), (by decide +kernel), (by decide +kernel)⟩

theorem test_stepLaunches_4_stepReady :
    ∃ (cmd t : Nat) (c : Cmd) (s : State), s.cmd cmd = some c ∧ s.serving = true ∧ c.op = 1 ∧ c.stage = .queued ∧
      s.loopBusy c = false ∧ s.launchHolds c = true :=
  ⟨1, 9, cm 1 [] .queued, busy [cm 1 [] .queued], (by decide +kernel), (by decide +kernel)⟩

theorem test_stepLaunches_5_stepReady :
    ∃ (cmd t : Nat) (c : Cmd) (s : State), s.cmd cmd = some c ∧ s.serving = true ∧ c.op = 1 ∧ c.stage = .queued ∧
      (s.loopBusy c = true ∨ s.launchHolds c = false) :=
  ⟨2, 9, { cm 1 [] .queued with id := 2 }, { busy [cm 1 [], { cm 1 [] .queued with id := 2 }] with nextCmd := 3 }, (by decide +kernel)⟩

theorem test_stepLaunches_6_stepLaunch :
    ∃ (cmd t : Nat) (c : Cmd) (p : Step) (q : Step) (s : State), s.cmd cmd = some c ∧ s.step? cmd = some p ∧
      p.latched = false ∧ s.canLaunch { p with footprint := s.firstFootprint c } = true ∧
      (((s.at t).stage c .running).launchChecks c { p with footprint := s.firstFootprint c }) = .ok q :=
  ⟨1, 9, cm 1 (leBytes 8 0x100000000000 ++ leBytes 4 7 ++ leBytes 4 0 ++ [1] ++ leBytes 7 0 ++ leBytes 4 5) .ready, rs1, { rs1 with footprint := 1, routes := [5], iterations := 7, bitExact := true, escalate := true, threshold := 0x1000 }, { busy [cm 1 (leBytes 8 0x100000000000 ++ leBytes 4 7 ++ leBytes 4 0 ++ [1] ++ leBytes 7 0 ++ leBytes 4 5) .ready] with steps := [rs1], dict := [(dkey 0x2300 1 0, 256)], array := { staged := [{ id := 5, ctx := 256, footprint := 1, address := 0x100000000000, bytes := leBytes 16 0 ++ [1] ++ leBytes 239 0, rank := [(0, 0)] }] } }, (by decide +kernel)⟩

theorem test_stepLaunches_7_stepLaunch :
    ∃ (cmd t : Nat) (c : Cmd) (p : Step) (q : Step) (s : State), s.cmd cmd = some c ∧ s.step? cmd = some p ∧
      p.latched = false ∧ s.canLaunch { p with footprint := s.firstFootprint c } = true ∧
      (((s.at t).stage c .running).launchChecks c { p with footprint := s.firstFootprint c }) = .ok q ∧
      q.members = [] ∧ ((s.at t).stage c .running).phaseResident q = true :=
  ⟨1, 9, cm 1 (leBytes 8 0x100000000000 ++ leBytes 4 7 ++ leBytes 4 0 ++ [1] ++ leBytes 7 0 ++ leBytes 4 5) .ready, rs1, { rs1 with footprint := 1, routes := [5], iterations := 7, bitExact := true, escalate := true, threshold := 0x1000 }, { busy [cm 1 (leBytes 8 0x100000000000 ++ leBytes 4 7 ++ leBytes 4 0 ++ [1] ++ leBytes 7 0 ++ leBytes 4 5) .ready] with steps := [rs1], dict := [(dkey 0x2300 1 0, 256)], array := { routes := [{ id := 5, ctx := 256, footprint := 1, image := 0 }], staged := [{ id := 5, ctx := 256, footprint := 1, address := 0x100000000000, bytes := leBytes 16 0 ++ [1] ++ leBytes 239 0, rank := [(0, 0)] }] } }, (by decide +kernel), (by decide +kernel), (by decide +kernel)⟩

theorem test_stepLaunches_8_stepLaunch :
    ∃ (cmd t : Nat) (c : Cmd) (p : Step) (f : Fail) (s : State), s.cmd cmd = some c ∧ s.step? cmd = some p ∧
      p.latched = false ∧ s.canLaunch { p with footprint := s.firstFootprint c } = true ∧
      (((s.at t).stage c .running).launchChecks c { p with footprint := s.firstFootprint c }) = .error f :=
  ⟨1, 9, cm 1 (leBytes 8 0x100000000000 ++ leBytes 4 7 ++ leBytes 4 0 ++ [1] ++ leBytes 7 0 ++ leBytes 4 5) .ready, rs1, { status := 7, value := 5 }, { busy [cm 1 (leBytes 8 0x100000000000 ++ leBytes 4 7 ++ leBytes 4 0 ++ [1] ++ leBytes 7 0 ++ leBytes 4 5) .ready] with steps := [rs1] }, (by decide +kernel)⟩

theorem test_stepLaunches_9_stepLaunch :
    ∃ (cmd t : Nat) (c : Cmd) (p : Step) (s : State), s.cmd cmd = some c ∧ s.step? cmd = some p ∧ p.latched = true ∧
      s.canLaunch p = true ∧ s.phaseResident p = true ∧ p.members = [] :=
  ⟨1, 9, cm 1 [] .running, { st1 with launched := false }, running (im noPorts) { st1 with launched := false }, (by decide +kernel), (by decide +kernel)⟩

theorem test_stepLaunches_10_stepLaunch :
    ∃ (cmd t : Nat) (c : Cmd) (p : Step) (s : State), s.cmd cmd = some c ∧ s.step? cmd = some p ∧ p.launched = true :=
  ⟨1, 9, cm 1 [] .running, st1, running (im noPorts), (by decide +kernel)⟩

theorem test_stepEnds_1_phaseEnd :
    ∃ (cmd t : Nat) (p : Step) (s : State), s.step? cmd = some p ∧ s.phaseOver p = true ∧
      p.phase + 1 < p.routes.length ∧ p.exchanges = [] ∧ s.tru.exchanges = [] :=
  ⟨1, 9, { st1 with routes := [5, 6] }, ended { st1 with routes := [5, 6] }, (by decide +kernel)⟩

theorem test_stepEnds_2_phaseEnd :
    ∃ (cmd t : Nat) (p : Step) (s : State), s.step? cmd = some p ∧
      (s.phaseOver p = false ∨ p.routes.length ≤ p.phase + 1) :=
  ⟨1, 9, st1, ended, (by decide +kernel)⟩

theorem test_stepEnds_3_stepExecutionEnd :
    ∃ (cmd t : Nat) (p : Step) (c : Cmd) (s : State), s.step? cmd = some p ∧ s.phaseOver p = true ∧
      p.routes.length ≤ p.phase + 1 ∧ p.triggered = true ∧ s.exchangesDone cmd = true ∧ s.flushing cmd = false ∧
      p.portsUsed = [] ∧ p.cruxEn = false ∧ p.lane = none ∧ p.members = [] ∧ s.cmd cmd = some c ∧
      tsorted none s.hif.loops = true :=
  ⟨1, 9, { st1 with triggered := true }, cm 1 [] .running, ended { st1 with triggered := true }, (by decide +kernel), (by decide +kernel), (by decide +kernel), (by decide +kernel), (by decide +kernel), (by decide +kernel), (by decide +kernel), (by decide +kernel)⟩

theorem test_stepEnds_4_stepExecutionEnd :
    ∃ (cmd t : Nat) (p : Step) (g : Signal) (s : State), Canonical s ∧ s.step? cmd = some p ∧ s.phaseOver p = true ∧
      p.routes.length ≤ p.phase + 1 ∧ p.triggered = true ∧ s.exchangesDone cmd = true ∧ s.flushing cmd = false ∧
      p.portsUsed = [] ∧ p.cruxEn = false ∧ p.lane = none ∧ p.members = [] ∧ p.signals = [g] :=
  ⟨1, 9, { st1 with triggered := true, signals := [⟨4, false, 2⟩] }, ⟨4, false, 2⟩, ended { st1 with triggered := true, signals := [⟨4, false, 2⟩] }, (by constructor <;> decide), (by decide +kernel), (by decide +kernel), (by decide +kernel), (by decide +kernel), (by decide +kernel), (by decide +kernel), (by decide +kernel)⟩

theorem test_stepEnds_5_stepExecutionEnd :
    ∃ (cmd t : Nat) (p : Step) (s : State), s.step? cmd = some p ∧ s.phaseOver p = true ∧ p.routes.length ≤ p.phase
      + 1 ∧ p.triggered = true ∧ s.exchangesDone cmd = true ∧ s.flushing cmd = false ∧ p.portsUsed = [] ∧ p.cruxEn =
      false ∧ p.lane = none ∧ p.members ≠ [] ∧ readyBad p = none :=
  ⟨1, 9, { st1 with triggered := true, members := [0, 4] }, ended { st1 with triggered := true, members := [0, 4] }, (by decide +kernel)⟩

theorem test_stepEnds_6_stepExecutionEnd :
    ∃ (cmd t : Nat) (p : Step) (s : State), s.step? cmd = some p ∧ s.phaseOver p = true ∧
      p.routes.length ≤ p.phase + 1 :=
  ⟨1, 9, st1, ended, (by decide +kernel)⟩

theorem test_stepEnds_7_stepExecutionEnd :
    ∃ (cmd t : Nat) (p : Step) (s : State), s.step? cmd = some p ∧ s.phaseOver p = false :=
  ⟨1, 9, st1, running (im noPorts), (by decide +kernel)⟩

theorem test_groupOutcomes_1_groupCommit :
    ∃ (cmd t : Nat) (p : Step) (s : State), s.step? cmd = some p ∧ p.readySent = true ∧ p.committed = false ∧
      p.ending = none ∧ readyBad p = none ∧ s.allReady p = true :=
  ⟨1, 9, { st1 with sliceFl := 3, readySent := true, ended := true, members := [0, 4], readies := [(4, 3, memberCheck [0, 4]), (0, 3, memberCheck [0, 4])] }, { running (im noPorts) ({ st1 with sliceFl := 3, readySent := true, ended := true, members := [0, 4], readies := [(4, 3, memberCheck [0, 4]), (0, 3, memberCheck [0, 4])] }) with dict := [(dkey 0x5000 4 0, 3)] }, (by decide +kernel)⟩

theorem test_groupOutcomes_2_groupCommit :
    ∃ (cmd t : Nat) (p : Step) (st : Nat) (s : State), s.step? cmd = some p ∧ p.readySent = true ∧ p.committed =
      false ∧ p.ending = none ∧ readyBad p = some st :=
  ⟨1, 9, { st1 with readySent := true, ended := true, members := [0, 4], readies := [(4, 9, 0)] }, stFeature, { running (im noPorts) ({ st1 with readySent := true, ended := true, members := [0, 4], readies := [(4, 9, 0)] }) with dict := [(dkey 0x5000 4 0, 3)] }, (by decide +kernel)⟩

theorem test_groupOutcomes_3_groupCommit :
    ∃ (cmd t : Nat) (p : Step) (s : State), s.step? cmd = some p ∧ p.readySent = true ∧ p.committed = false ∧
      p.ending = none ∧ readyBad p = none ∧ s.allReady p = false :=
  ⟨1, 9, { st1 with readySent := true, ended := true, members := [0, 4] }, running (im noPorts) ({ st1 with readySent := true, ended := true, members := [0, 4] }), (by decide +kernel)⟩

theorem test_groupOutcomes_4_groupOutcomeUnknown :
    ∃ (cmd t : Nat) (p : Step) (d : Nat) (s : State), s.step? cmd = some p ∧ p.readySent = true ∧
      p.committed = false ∧ p.ending = none ∧ s.unknownMember p t = some d :=
  ⟨1, 9000000000000, { st1 with ctx := 3, readySent := true, ended := true, members := [0, 4] }, 4, { running (im noPorts) ({ st1 with ctx := 3, readySent := true, ended := true, members := [0, 4] }) with ctxs := { resets := [(3, { phase := 2, cause := 1, start := 0 })] } }, (by decide +kernel)⟩

theorem test_groupOutcomes_5_groupOutcomeUnknown :
    ∃ (cmd t : Nat) (p : Step) (s : State), s.step? cmd = some p ∧ p.readySent = true ∧ p.committed = false ∧
      p.ending = none ∧ s.unknownMember p t = none :=
  ⟨1, 9, { st1 with readySent := true, ended := true, members := [0, 4], readies := [(4, 0, 0), (0, 0, 0)] }, running (im noPorts) ({ st1 with readySent := true, ended := true, members := [0, 4], readies := [(4, 0, 0), (0, 0, 0)] }), (by decide +kernel)⟩

theorem test_groupOutcomes_6_stepStalled :
    ∃ (cmd t : Nat) (core : CoreId) (awaited : List ClusterId) (c : Cmd) (p : Step) (s : State), s.cmd cmd = some c
      ∧ s.step? cmd = some p ∧ s.canStall p core.val = true ∧ s.stallDue c p t = true ∧ s.stallsAt p core.val t = true
      ∧ s.ctxs.hang = none ∧ p.stalled = 0 ∧ p.readySent = false ∧ p.committed = false :=
  ⟨1, 9, 0, [], cm 1 [] .running, st1, { running (im (leBytes 4 0 ++ [0xFF] ++ leBytes 123 0 ++ leBytes 4 8 ++ leBytes 4 4)) with cdu := { ticked := true, tick := 900000000 } }, (by decide +kernel)⟩

theorem test_groupOutcomes_7_stepStalled :
    ∃ (cmd t : Nat) (core : CoreId) (awaited : List ClusterId) (c : Cmd) (p : Step) (s : State), s.cmd cmd = some c
      ∧ s.step? cmd = some p ∧ s.canStall p core.val = true ∧ s.stallDue c p t = true ∧ s.stallsAt p core.val t = true
      ∧ s.ctxs.hang = none ∧ p.stalled ≠ 0 :=
  ⟨1, 9, 0, [], cm 1 [] .running, { st1 with stalled := 1 }, { running (im (leBytes 4 0 ++ [0xFF] ++ leBytes 123 0 ++ leBytes 4 8 ++ leBytes 4 4)) { st1 with stalled := 1 } with cdu := { ticked := true, tick := 900000000 } }, (by decide +kernel)⟩

theorem test_groupOutcomes_8_stepStalled :
    ∃ (cmd t : Nat) (core : CoreId) (awaited : List ClusterId) (c : Cmd) (p : Step) (s : State), s.cmd cmd = some c
      ∧ s.step? cmd = some p ∧ s.canStall p core.val = true ∧ (s.stallDue c p t = false ∨ s.stallsAt p core.val t =
      false) :=
  ⟨1, 9, 0, [], cm 1 [] .running, st1, { running (im (leBytes 4 0 ++ [0xFF] ++ leBytes 123 0 ++ leBytes 4 8 ++ leBytes 4 4)) with dict := [(dkey 0x3031 2 0, 5)] }, (by decide +kernel)⟩

theorem test_rounds_1_roundStart :
    ∃ (cluster : ClusterId) (d : Due) (s : State), s.due cluster.val = some d ∧ d.k.ended = true :=
  ⟨0, ⟨st1, (im noPorts), 272, 0, { ended := true }⟩, { running (im noPorts) with array := { (running (im noPorts)).array with clusters := [(0, { ended := true })] } }, (by decide +kernel)⟩

theorem test_rounds_2_roundStart :
    ∃ (cluster : ClusterId) (d : Due) (s : State), s.due cluster.val = some d ∧ d.k.round = 0 ∧
      s.gated d.p (d.p.routes.getD d.p.phase 0) = true :=
  ⟨0, ⟨st1, (im noPorts), 272, 0, {}⟩, { running (im noPorts) with tru := { exchanges := [{ serial := 0, cmd := 1, ctx := 256, desc := 0, run := 0, record := leBytes 12 0 ++ leBytes 4 5 }] } }, (by decide +kernel)⟩

theorem test_rounds_3_roundStart :
    ∃ (cluster : ClusterId) (d : Due) (s : State), s.due cluster.val = some d ∧ d.k.ended = false ∧ (d.k.round ≠ 0 ∨
      s.gated d.p (d.p.routes.getD d.p.phase 0) = false) ∧ d.ends s = true ∧ ((d.ingresses.all fun i => (d.ingress
      i).held.isEmpty) = true) ∧ d.k.paused = none ∧ s.links.held = [] :=
  ⟨0, ⟨st1, (im noPorts), 272, 0, { round := 1 }⟩, { running (im noPorts) with array := { (running (im noPorts)).array with clusters := [(0, { round := 1 })] } }, (by decide +kernel)⟩

theorem test_rounds_4_roundStart :
    ∃ (cluster : ClusterId) (d : Due) (s : State), s.due cluster.val = some d ∧ d.k.ended = false ∧ (d.k.round ≠ 0 ∨
      s.gated d.p (d.p.routes.getD d.p.phase 0) = false) ∧ d.ends s = false ∧ d.jammed s = none ∧ d.waiting s ≠ 0 ∧
      d.k.paused = none ∧ s.links.held = [] :=
  ⟨1, ⟨st3, (im2 1), 352, 1, {}⟩, pair 1 {} {}, (by decide +kernel)⟩

theorem test_rounds_5_roundStart :
    ∃ (cluster : ClusterId) (d : Due) (i : Nat) (s : State), s.due cluster.val = some d ∧ d.k.ended = false ∧
      (d.k.round ≠ 0 ∨ s.gated d.p (d.p.routes.getD d.p.phase 0) = false) ∧ d.ends s = false ∧ d.jammed s = some i ∧
      d.k.paused = none ∧ s.links.held = [] :=
  ⟨1, ⟨st3, (im2 2), 352, 1, { ingress := [(0, { held := [{ tag := 20 }, { tag := 21 }, { tag := 22 }, { tag := 23 }, { tag := 24 }, { tag := 25 }, { tag := 26 }, { tag := 27 }] })], round := 8 }⟩, 0, pair 2 {} { ingress := [(0, { held := [{ tag := 20 }, { tag := 21 }, { tag := 22 }, { tag := 23 }, { tag := 24 }, { tag := 25 }, { tag := 26 }, { tag := 27 }] })], round := 8 }, (by decide +kernel)⟩

theorem test_rounds_6_roundStart :
    ∃ (cluster : ClusterId) (d : Due) (n : Nat) (s : State), s.due cluster.val = some d ∧ d.k.ended = false ∧
      (d.k.round ≠ 0 ∨ s.gated d.p (d.p.routes.getD d.p.phase 0) = false) ∧ d.ends s = false ∧ d.jammed s = none ∧
      d.waiting s = 0 ∧ (d.uses s).any Use.beyond = false ∧ d.tag s = some n ∧ d.k.paused = none :=
  ⟨0, ⟨st4, (im noPorts), 272, 0, {}⟩, 0, running (im noPorts) st4, (by decide +kernel)⟩

theorem test_rounds_7_roundStart :
    ∃ (cluster : ClusterId) (d : Due) (n : Nat) (s : State), s.due cluster.val = some d ∧ d.k.ended = false ∧
      (d.k.round ≠ 0 ∨ s.gated d.p (d.p.routes.getD d.p.phase 0) = false) ∧ d.ends s = false ∧ d.jammed s = none ∧
      d.waiting s = 0 ∧ (d.uses s).any Use.beyond = false ∧ d.tag s = some n ∧ d.cores = [] ∧ d.ingresses = [] ∧
      d.egresses = [] ∧ d.k.frozen = false ∧ d.k.paused = none ∧ s.links.held = [] :=
  ⟨0, ⟨st4, (im noPorts), 272, 0, {}⟩, 0, running (im noPorts) st4, (by decide +kernel)⟩

theorem test_rounds_8_channelMessageArrival :
    ∃ (cluster : ClusterId) (egress : Fin 32) (d : Due) (s : State), s.due cluster.val = some d ∧
      (tget {} d.k.egress egress.val).transit = [] :=
  ⟨0, 0, ⟨st3, (im2 1), 288, 0, {}⟩, pair 1 {} {}, (by decide +kernel)⟩

theorem test_rounds_9_channelMessageArrival :
    ∃ (cluster : ClusterId) (egress : Fin 32) (d : Due) (e : Due) (m : Message) (ms : List Message) (s : State),
      tsorted none s.array.clusters = true ∧ tsorted none d.k.egress = true ∧ s.due cluster.val = some d ∧
      (tget {} d.k.egress egress.val).transit = m :: ms ∧
      (byteAt d.image (d.egressAt egress.val + 3)) ≠ cluster.val ∧
      s.due (byteAt d.image (d.egressAt egress.val + 3)) = some e ∧ m.last = true :=
  ⟨0, 0, ⟨st3, (im2 1), 288, 0, { egress := [(0, { transit := [{ tag := 0, last := true }], sent := 1 })] }⟩, ⟨st3, (im2 1), 352, 1, {}⟩, { tag := 0, last := true }, [], pair 1 { egress := [(0, { transit := [{ tag := 0, last := true }], sent := 1 })] } {}, (by decide +kernel), (by decide +kernel), (by decide +kernel)⟩

theorem test_rounds_10_channelMessageArrival :
    ∃ (cluster : ClusterId) (egress : Fin 32) (d : Due) (e : Due) (m : Message) (ms : List Message) (s : State),
      tsorted none s.array.clusters = true ∧ tsorted none d.k.egress = true ∧ s.due cluster.val = some d ∧
      (tget {} d.k.egress egress.val).transit = m :: ms ∧
      (byteAt d.image (d.egressAt egress.val + 3)) ≠ cluster.val ∧
      s.due (byteAt d.image (d.egressAt egress.val + 3)) = some e ∧ m.last = false ∧ e.k.ended = false ∧
      e.duplicate (byteAt d.image (d.egressAt egress.val + 4)) m = false :=
  ⟨0, 0, ⟨st3, (im2 1), 288, 0, { egress := [(0, { transit := [{ tag := 7 }], sent := 1 })] }⟩, ⟨st3, (im2 1), 352, 1, {}⟩, { tag := 7 }, [], pair 1 { egress := [(0, { transit := [{ tag := 7 }], sent := 1 })] } {}, (by decide +kernel), (by decide +kernel), (by decide +kernel), (by decide +kernel), (by decide +kernel)⟩

theorem test_rounds_11_channelMessageArrival :
    ∃ (cluster : ClusterId) (egress : Fin 32) (d : Due) (e : Due) (m : Message) (ms : List Message) (s : State),
      tsorted none s.array.clusters = true ∧ tsorted none d.k.egress = true ∧ s.due cluster.val = some d ∧
      (tget {} d.k.egress egress.val).transit = m :: ms ∧
      (byteAt d.image (d.egressAt egress.val + 3)) ≠ cluster.val ∧
      s.due (byteAt d.image (d.egressAt egress.val + 3)) = some e ∧ m.last = false ∧ e.k.ended = false ∧
      e.duplicate (byteAt d.image (d.egressAt egress.val + 4)) m = true ∧ e.p.launched = true ∧
      e.p.readySent = false ∧ e.p.committed = false ∧ e.p.ending = none :=
  ⟨0, 0, ⟨st3, (im2 2), 288, 0, { egress := [(0, { transit := [{ tag := 7 }], sent := 1 })] }⟩, ⟨st3, (im2 2), 352, 1, { ingress := [(0, { held := [{ tag := 7 }] })] }⟩, { tag := 7 }, [], pair 2 { egress := [(0, { transit := [{ tag := 7 }], sent := 1 })] } { ingress := [(0, { held := [{ tag := 7 }] })] }, (by decide +kernel), (by decide +kernel), (by decide +kernel), (by decide +kernel), (by decide +kernel), (by decide +kernel), (by decide +kernel), (by decide +kernel), (by decide +kernel)⟩

theorem test_rounds_12_creditReturn :
    ∃ (cluster : ClusterId) (egress : Fin 32) (d : Due) (s : State), s.due cluster.val = some d ∧
      (tget {} d.k.egress egress.val).returning = 0 :=
  ⟨0, 0, ⟨st3, (im2 1), 288, 0, {}⟩, pair 1 {} {}, (by decide +kernel)⟩

theorem test_rounds_13_creditReturn :
    ∃ (cluster : ClusterId) (egress : Fin 32) (d : Due) (s : State), tsorted none s.array.clusters = true ∧
      tsorted none d.k.egress = true ∧ s.due cluster.val = some d ∧ (tget {} d.k.egress egress.val).returning ≠ 0 :=
  ⟨0, 0, ⟨st3, (im2 1), 288, 0, { egress := [(0, { returning := 1, spent := 2 })] }⟩, pair 1 { egress := [(0, { returning := 1, spent := 2 })] } {}, (by decide +kernel)⟩

theorem test_rounds_14_roundStart :
    ∃ (cluster : ClusterId) (d : Due) (w : Pause) (s : State), s.due cluster.val = some d ∧ d.k.ended = false ∧
      (d.k.round ≠ 0 ∨ s.gated d.p (d.p.routes.getD d.p.phase 0) = false) ∧ d.k.paused = some w :=
  ⟨0, ⟨st4, (im noPorts), 272, 0, { round := 1, paused := some { num := 0, wanted := [], work := {}, at' := 0 } }⟩, { num := 0, wanted := [], work := {}, at' := 0 }, { running (im noPorts) st4 with array := { (running (im noPorts) st4).array with clusters := [(0, { round := 1, paused := some { num := 0, wanted := [], work := {}, at' := 0 } })] } }, (by decide +kernel)⟩

theorem test_streams_1_streamDataArrival :
    ∃ (core : CoreId) (stream : Fin 32) (bytes : Nat) (x : Strm) (a : Nat) (b : Bytes) (s : State), s.strm core.val
      stream.val = some x ∧ x.reads = true ∧ x.st.fault = none ∧ x.st.half0.busy = false ∧ x.st.half1.busy = false ∧ 0
      < bytes ∧ bytes ≤ x.limit - x.st.position ∧ x.addr x.st.position = some a ∧ windowOf a ≠ 3 ∧ bit (byteAt x.image
      (x.o + 1)) 0 = true ∧ x.pieceAt x.st.position a bytes = bytes ∧ s.waitsFrozen x.p.ctx a bytes = false ∧
      (s.ownView x.p.cmd).read x.p.ctx a bytes = .ok b :=
  ⟨0, 0, 3, ⟨st2, strmIm (linear 256), 592, 0, {}⟩, 0, [0, 9, 0], mapped (streaming (linear 256) {}) [(1, 9)], (by decide +kernel)⟩

theorem test_streams_2_streamDataArrival :
    ∃ (core : CoreId) (stream : Fin 32) (bytes : Nat) (x : Strm) (s : State), s.strm core.val stream.val = some x ∧
      (x.reads = false ∨ x.st.fault.isSome = true) :=
  ⟨0, 0, 3, ⟨st2, strmIm (linear 1), 592, 0, {}⟩, streaming (linear 1) {}, (by decide +kernel)⟩

theorem test_streams_3_streamWriteAck :
    ∃ (core : CoreId) (stream : Fin 32) (bytes : Nat) (x : Strm) (a : Nat) (s : State), s.strm core.val stream.val =
      some x ∧ x.writes = true ∧ x.st.fault = none ∧ 0 < bytes ∧ bytes ≤ x.limit - x.st.position ∧ x.addr
      x.st.position = some a ∧ x.goesRemote = false ∧ bit (byteAt x.image (x.o + 1)) 0 = true ∧ x.pieceAt
      x.st.position a bytes = bytes ∧ s.waitsFrozen x.p.ctx a bytes = false ∧ ((s.accessed (x.key / 32) x.p.ctx a
      bytes).writesBy (x.key / 32) x.p.ctx (some x.p.cmd) a (slice (x.st.halfOf (x.st.position / max 1 x.half)).data
      (x.st.position % max 1 x.half) bytes)).2 = none :=
  ⟨0, 0, 3, ⟨st2, strmIm (linear 257), 592, 0, { half0 := { data := [4, 5, 6] }, released := 1, filled := 512 }⟩, 0, streaming (linear 257) { half0 := { data := [4, 5, 6] }, released := 1, filled := 512 }, (by decide +kernel)⟩

theorem test_streams_4_streamWriteAck :
    ∃ (core : CoreId) (stream : Fin 32) (bytes : Nat) (x : Strm) (s : State), s.strm core.val stream.val = some x ∧
      (x.writes = false ∨ x.st.fault.isSome = true) :=
  ⟨0, 0, 3, ⟨st2, strmIm (linear 0), 592, 0, {}⟩, streaming (linear 0) {}, (by decide +kernel)⟩

theorem test_streams_5_ropeBlockArrival :
    ∃ (core : CoreId) (i : Nat) (x : Strm) (b : Bytes) (s : State), s.ropeAt core.val = some (i, x) ∧ x.st.fault =
      none ∧ (s.core core.val).rope.length < 4 ∧ x.kind = 5 ∧ x.srcSlice = false ∧ (s.core core.val).ropeCame <
      x.blocks * x.passes ∧ x.deltaOn = false ∧ windowOf (x.src + (s.core core.val).ropeCame % max 1 x.blocks *
      x.size) ≠ 3 ∧ s.waitsFrozen x.p.ctx (x.src + (s.core core.val).ropeCame % max 1 x.blocks * x.size) x.size =
      false ∧ (s.ownView x.p.cmd).read x.p.ctx (x.src + (s.core core.val).ropeCame % max 1 x.blocks * x.size) x.size =
      .ok b :=
  ⟨0, 0, ⟨st2, strmIm (leBytes 5 5 ++ leBytes 3 1 ++ leBytes 4 2 ++ leBytes 4 1 ++ leBytes 48 0), 592, 0, { filled := 1 }⟩, _, streaming (leBytes 5 5 ++ leBytes 3 1 ++ leBytes 4 2 ++ leBytes 4 1 ++ leBytes 48 0) { filled := 1 }, (by decide +kernel), (by decide +kernel), (by decide +kernel), (by decide +kernel), (by decide +kernel), (by decide +kernel), (by decide +kernel), (by decide +kernel), (by decide +kernel), read_streaming _ _ _ _ (by decide +kernel)⟩

theorem test_streams_6_ropeBlockArrival :
    ∃ (core : CoreId) (i : Nat) (x : Strm) (s : State), s.ropeAt core.val = some (i, x) ∧ s.takesBlock core.val x =
      false ∧ s.tableDue core.val (s.restrm x) = none :=
  ⟨0, 0, ⟨st2, strmIm (leBytes 5 5 ++ leBytes 3 1 ++ leBytes 4 2 ++ leBytes 4 1 ++ leBytes 48 0), 592, 0, { filled := 1 }⟩, { streaming (leBytes 5 5 ++ leBytes 3 1 ++ leBytes 4 2 ++ leBytes 4 1 ++ leBytes 48 0) { filled := 1 } with array := { (streaming (leBytes 5 5 ++ leBytes 3 1 ++ leBytes 4 2 ++ leBytes 4 1 ++ leBytes 48 0) { filled := 1 }).array with cores := [(0, { rope := List.replicate 4 { num := 0, data := [] } })] } }, (by decide +kernel)⟩

theorem test_streams_7_streamTranslationFault :
    ∃ (core : CoreId) (stream : Fin 32) (x : Strm) (f : Halt) (s : State), s.strm core.val stream.val = some x ∧
      x.st.fault = none ∧ s.nextMiss x = some f :=
  ⟨0, 0, ⟨st2, strmIm (linear 0), 592, 0, { filled := 1 }⟩, { miss := { window := 0, kind := 1, level := 0, va := 0 }, position := 0 }, { streaming (linear 0) { filled := 1 } with near := {} }, (by decide +kernel)⟩

theorem test_streams_8_streamTranslationFault :
    ∃ (core : CoreId) (stream : Fin 32) (x : Strm) (s : State), s.strm core.val stream.val = some x ∧
      x.st.fault = none ∧ s.nextMiss x = none :=
  ⟨0, 0, ⟨st2, strmIm (linear 0), 592, 0, {}⟩, streaming (linear 0) {}, (by decide +kernel)⟩

theorem test_streams_9_sprSave :
    ∃ (core : CoreId) (stream : Fin 32) (t : Nat) (st : Stream) (r : Spr) (s : State), tget {} s.array.streams
      (core.val * 32 + stream.val) = st ∧ st.fault = some r ∧ st.spr = none ∧ s.streamPending (core.val * 32 +
      stream.val) = false ∧ st.held.filterMap s.cmd = [] :=
  ⟨0, 0, 9, { fault := some ⟨0, 0, 2, 1, 3, 0x100000000000, 0, 0, 256, 1, 0⟩ }, ⟨0, 0, 2, 1, 3, 0x100000000000, 0, 0, 256, 1, 0⟩, streaming (linear 0) { fault := some ⟨0, 0, 2, 1, 3, 0x100000000000, 0, 0, 256, 1, 0⟩ }, (by decide +kernel)⟩

theorem test_streams_10_sprSave :
    ∃ (core : CoreId) (stream : Fin 32) (t : Nat) (st : Stream) (r : Spr) (s : State), tget {} s.array.streams
      (core.val * 32 + stream.val) = st ∧ st.fault = some r ∧ st.spr = none ∧ s.streamPending (core.val * 32 +
      stream.val) = false ∧ (st.held.filterMap s.cmd).isEmpty = false ∧ tsorted none s.array.streams = true :=
  ⟨0, 0, 9, { fault := some ⟨0, 0, 2, 1, 3, 0x100000000000, 0, 0, 256, 1, 0⟩, held := [1] }, ⟨0, 0, 2, 1, 3, 0x100000000000, 0, 0, 256, 1, 0⟩, streaming (linear 0) { fault := some ⟨0, 0, 2, 1, 3, 0x100000000000, 0, 0, 256, 1, 0⟩, held := [1] }, (by decide +kernel)⟩

theorem test_streams_11_sprSave :
    ∃ (core : CoreId) (stream : Fin 32) (t : Nat) (s : State),
      ((tget {} s.array.streams (core.val * 32 + stream.val)).fault = none ∨ s.streamPending (core.val * 32 + stream.val) = true) :=
  ⟨0, 0, 9, streaming (linear 0) {}, (by decide +kernel)⟩

theorem test_streams_12_streamFaultTimeout :
    ∃ (core : CoreId) (stream : Fin 32) (t : Nat) (x : Strm) (s : State), s.strm core.val stream.val = some x ∧
      x.st.fault.isSome = true ∧ x.st.spr.isSome = true ∧
      x.st.savedPhase + s.dget 0x2800 1 * 65536 ≤ s.cdu.phase (max s.uptime t) ∧ x.p.readySent = false ∧
      x.p.committed = false ∧ x.p.ending = none :=
  ⟨0, 0, 9, ⟨st2, strmIm (linear 0), 592, 0, { fault := some ⟨0, 0, 2, 1, 3, 0x100000000000, 0, 0, 256, 1, 0⟩, spr := some ⟨0, 0, 2, 1, 3, 0x100000000000, 0, 0, 256, 1, 0⟩ }⟩, { streaming (linear 0) { fault := some ⟨0, 0, 2, 1, 3, 0x100000000000, 0, 0, 256, 1, 0⟩, spr := some ⟨0, 0, 2, 1, 3, 0x100000000000, 0, 0, 256, 1, 0⟩ } with cdu := { ticked := true, tick := 90000000 } }, (by decide +kernel), (by decide +kernel), (by decide +kernel)⟩

theorem test_streams_13_streamFaultTimeout :
    ∃ (core : CoreId) (stream : Fin 32) (t : Nat) (x : Strm) (s : State), s.strm core.val stream.val = some x ∧
      x.st.fault.isSome = true ∧ x.st.spr.isSome = true ∧
      s.cdu.phase (max s.uptime t) < x.st.savedPhase + s.dget 0x2800 1 * 65536 :=
  ⟨0, 0, 9, ⟨st2, strmIm (linear 0), 592, 0, { fault := some ⟨0, 0, 2, 1, 3, 0x100000000000, 0, 0, 256, 1, 0⟩, spr := some ⟨0, 0, 2, 1, 3, 0x100000000000, 0, 0, 256, 1, 0⟩ }⟩, { streaming (linear 0) { fault := some ⟨0, 0, 2, 1, 3, 0x100000000000, 0, 0, 256, 1, 0⟩, spr := some ⟨0, 0, 2, 1, 3, 0x100000000000, 0, 0, 256, 1, 0⟩ } with dict := [(dkey 0x2800 1 0, 4)] }, (by decide +kernel)⟩

theorem test_streams_14_streamWriteAck :
    ∃ (core : CoreId) (stream : Fin 32) (bytes : Nat) (x : Strm) (s : State), s.strm core.val stream.val = some x ∧
      x.writes = true ∧ x.st.fault = none ∧ x.goesRemote = true :=
  ⟨0, 0, 3, ⟨st2, strmIm (linear (257 + 256 * 0)), 592, 0, { half0 := { data := [4, 5, 6], done := 3, busy := true }, released := 1, filled := 512 }⟩, streaming (linear 257) { half0 := { data := [4, 5, 6], done := 3, busy := true }, released := 1, filled := 512 }, (by decide +kernel)⟩

theorem test_remoteRequests_1_read :
    ∃ (port : PortId) (h : PacketHeader) (s : State), s.takes port.val 0x10 0 h = false ∧
      (s.port port.val).state ≠ .active :=
  ⟨0, hd 0x10 0 8, on, (by decide +kernel)⟩

theorem test_remoteRequests_2_read :
    ∃ (port : PortId) (h : PacketHeader) (s : State), (s.port port.val).state = .active ∧ packetOk (s.port port.val)
      0x10 0 h = false :=
  ⟨0, { hd 0x10 0 8 with reserved := true }, linked, (by decide +kernel)⟩

theorem test_remoteRequests_3_read :
    ∃ (port : PortId) (h : PacketHeader) (s : State), s.takes port.val 0x10 0 h = true ∧
      accessOk (s.port port.val) h = true ∧ s.tooOld h = true :=
  ⟨0, hd 0x10 0 8, { linked with links := { linked.links with epochs := [(4 * 512 + 256, 9)] } }, (by decide +kernel)⟩

theorem test_remoteRequests_4_read :
    ∃ (port : PortId) (h : PacketHeader) (s : State), s.takes port.val 0x10 0 h = true ∧ accessOk (s.port port.val)
      h = true ∧ s.tooOld h = false ∧ ((s.took port.val 0 0).serveRead h.ctx.toNat h.addr.toNat
      h.length.toNat).toOption.isSome = true ∧ (s.took port.val 0 0).heldWaits
      { port := port.val, kind := .read, h := h } = false :=
  ⟨0, hd 0x10 0x300000 8, { linked with near := { map := [(256 * 65536 + 3, ⟨7, true⟩)], regions := [(7, { kind := .owned, owner := 256 })] } }, (by decide +kernel)⟩

theorem test_remoteRequests_5_read :
    ∃ (port : PortId) (h : PacketHeader) (s : State), s.takes port.val 0x10 0 h = true ∧
      accessOk (s.port port.val) h = true ∧ s.tooOld h = false ∧ s.fenced h.ctx.toNat = false ∧
      counterBase ≤ h.addr.toNat ∧ s.counterRefuses h.ctx.toNat h.addr.toNat h.length.toNat = none :=
  ⟨0, hd 0x10 0xFFFFF80010 8, { linked with owners := [(2, 256)] }, (by decide +kernel), (by decide +kernel)⟩

theorem test_remoteRequests_6_read :
    ∃ (port : PortId) (h : PacketHeader) (k : Nat) (s : State), s.takes port.val 0x10 0 h = true ∧
      accessOk (s.port port.val) h = true ∧ s.tooOld h = false ∧ s.fenced h.ctx.toNat = false ∧
      counterBase ≤ h.addr.toNat ∧ s.counterRefuses h.ctx.toNat h.addr.toNat h.length.toNat = some k :=
  ⟨0, hd 0x10 0xFFFFF80011 8, 3, linked, (by decide +kernel), (by decide +kernel)⟩

theorem test_remoteRequests_7_flush :
    ∃ (port : PortId) (h : PacketHeader) (s : State), s.takes port.val 0x11 0 h = true ∧ h.addr.toNat < 2 ^ 40 ∧
      s.tooOld h = false ∧ (((s.port port.val).refused.find? fun r => decide (r.src = h.src.toNat)) = none) ∧ (s.took
      port.val 0 0).heldWaits { port := port.val, kind := .flush, h := h } = false :=
  ⟨0, hd 0x11 0 0, linked, (by decide +kernel)⟩

theorem test_remoteRequests_8_flush :
    ∃ (port : PortId) (h : PacketHeader) (r : Refused) (s : State), s.takes port.val 0x11 0 h = true ∧ h.addr.toNat
      < 2 ^ 40 ∧ s.tooOld h = false ∧ (((s.port port.val).refused.find? fun r => decide (r.src = h.src.toNat)) = some
      r) ∧ (s.took port.val 0 0).heldWaits { port := port.val, kind := .flush, h := h } = false :=
  ⟨0, hd 0x11 0 0, ⟨4, 3, 80⟩, linked { state := .active, refused := [⟨4, 3, 80⟩] }, (by decide +kernel)⟩

theorem test_remoteRequests_9_write :
    ∃ (port : PortId) (h : PacketHeader) (data : Bytes) (s : State), s.takes port.val 0x30 (unitsOf data.length) h = true ∧
      accessOk (s.port port.val) h = true ∧ data.length = h.length.toNat ∧ s.tooOld h = true :=
  ⟨0, hd 0x30 0 2 (units := 1), [1, 2], { linked with links := { linked.links with epochs := [(4 * 512 + 256, 9)] } }, (by decide +kernel)⟩

theorem test_remoteRequests_10_write :
    ∃ (port : PortId) (h : PacketHeader) (data : Bytes) (s : State), s.takes port.val 0x30 (unitsOf data.length) h =
      true ∧ accessOk (s.port port.val) h = true ∧ data.length = h.length.toNat ∧ s.tooOld h = false ∧ s.fenced
      h.ctx.toNat = false ∧ h.addr.toNat < counterBase ∧ h.poison = false ∧ ((s.took port.val 2 (unitsOf
      data.length)).writes h.ctx.toNat (s.remoteWriter h.ctx.toNat h.src.toNat h.addr.toNat) h.addr.toNat data).2 =
      none ∧ (s.took port.val 2 (unitsOf data.length)).heldWaits
      { port := port.val, kind := .write, h := h, data := data } = false ∧ s.rowsInto h.ctx.toNat h.addr.toNat = none :=
  ⟨0, hd 0x30 0x300000 2 (units := 1), [1, 2], { linked with near := { map := [(256 * 65536 + 3, ⟨7, true⟩)], regions := [(7, { kind := .owned, owner := 256 })] } }, (by decide +kernel)⟩

theorem test_remoteRequests_11_write :
    ∃ (port : PortId) (h : PacketHeader) (data : Bytes) (s : State), Canonical s ∧ s.takes port.val 0x30 (unitsOf data.length) h = true ∧
      accessOk (s.port port.val) h = true ∧ data.length = h.length.toNat ∧ s.tooOld h = false ∧
      s.fenced h.ctx.toNat = false ∧ counterBase ≤ h.addr.toNat ∧
      s.counterRefuses h.ctx.toNat h.addr.toNat data.length = none :=
  ⟨0, hd 0x30 0xFFFFF80010 8 (units := 1), [1, 2, 0, 0, 0, 0, 0, 0], { linked with owners := [(2, 256)] }, (by constructor <;> decide), (by decide +kernel), (by decide +kernel), (by decide +kernel)⟩

theorem test_remoteRequests_12_write :
    ∃ (port : PortId) (h : PacketHeader) (data : Bytes) (k : Nat) (s : State), s.takes port.val 0x30 (unitsOf data.length) h = true ∧
      accessOk (s.port port.val) h = true ∧ data.length = h.length.toNat ∧ s.tooOld h = false ∧
      s.fenced h.ctx.toNat = false ∧ counterBase ≤ h.addr.toNat ∧
      s.counterRefuses h.ctx.toNat h.addr.toNat data.length = some k :=
  ⟨0, hd 0x30 0xFFFFF80011 2 (units := 1), [1, 2], 3, linked, (by decide +kernel), (by decide +kernel), (by decide +kernel)⟩

theorem test_remoteRequests_13_read :
    ∃ (port : PortId) (h : PacketHeader) (s : State), s.takes port.val 0x10 0 h = true ∧ accessOk (s.port port.val)
      h = true ∧ s.tooOld h = false ∧ (s.took port.val 0 0).heldWaits { port := port.val, kind := .read, h := h } =
      true :=
  ⟨0, hd 0x10 0x300000 8, { linked with near := { map := [(256 * 65536 + 3, ⟨7, true⟩)], regions := [(7, { kind := .owned, owner := 256 })] }, array := { clusters := [(0, { frozen := true })] } }, (by decide +kernel)⟩

theorem test_remoteRequests_14_flush :
    ∃ (port : PortId) (h : PacketHeader) (s : State), s.takes port.val 0x11 0 h = true ∧ h.addr.toNat < 2 ^ 40 ∧
      s.tooOld h = false ∧ (s.links.held.any fun j => decide (j.kind = .write) && decide (j.port = port.val) && decide
      (j.h.src = h.src)) = true :=
  ⟨0, hd 0x11 0 0, { linked with links := { linked.links with held := [{ port := 0, kind := .write, h := hd 0x30 0 2 (units := 1), data := [1, 2] }] } }, (by decide +kernel)⟩

theorem test_remoteRequests_15_write :
    ∃ (port : PortId) (h : PacketHeader) (data : Bytes) (s : State), s.takes port.val 0x30 (unitsOf data.length) h =
      true ∧ accessOk (s.port port.val) h = true ∧ data.length = h.length.toNat ∧ s.tooOld h = false ∧ (s.took
      port.val 2 (unitsOf data.length)).heldWaits { port := port.val, kind := .write, h := h, data := data } = true :=
  ⟨0, hd 0x30 0x300000 2 (units := 1), [1, 2], { linked with near := { map := [(256 * 65536 + 3, ⟨7, true⟩)], regions := [(7, { kind := .owned, owner := 256 })] }, array := { clusters := [(0, { frozen := true })] } }, (by decide +kernel)⟩

theorem test_remoteRequests_16_write :
    ∃ (port : PortId) (h : PacketHeader) (data : Bytes) (e : Exchange) (s : State), s.takes port.val 0x30 (unitsOf
      data.length) h = true ∧ accessOk (s.port port.val) h = true ∧ data.length = h.length.toNat ∧ s.tooOld h = false
      ∧ s.fenced h.ctx.toNat = false ∧ h.addr.toNat < counterBase ∧ h.poison = false ∧ (s.took port.val 2 (unitsOf
      data.length)).heldWaits { port := port.val, kind := .write, h := h, data := data } = false ∧ s.rowsInto
      h.ctx.toNat h.addr.toNat = some e ∧ ((s.took port.val 2 (unitsOf data.length)).writes h.ctx.toNat (some e.cmd)
      h.addr.toNat data).2 = none :=
  ⟨0, hd 0x30 0x300000 2 (units := 1), [1, 2], { serial := 2, cmd := 1, ctx := 256, desc := 0, run := 0, record := leBytes 18 0 ++ leBytes 2 1 ++ leBytes 4 64 ++ leBytes 24 0 ++ leBytes 8 0x2FFC00, stage := .moving }, { linked with near := { map := [(256 * 65536 + 3, ⟨7, true⟩)], regions := [(7, { kind := .owned, owner := 256 })] }, tru := { exchanges := [{ serial := 2, cmd := 1, ctx := 256, desc := 0, run := 0, record := leBytes 18 0 ++ leBytes 2 1 ++ leBytes 4 64 ++ leBytes 24 0 ++ leBytes 8 0x2FFC00, stage := .moving }] } }, (by decide +kernel)⟩

theorem test_remoteAnswers_1_readData :
    ∃ (port : PortId) (h : PacketHeader) (data : Bytes) (s : State), s.takes port.val 0x20 (unitsOf data.length) h = true ∧
      accessOk (s.port port.val) h = true ∧ data.length = h.length.toNat ∧ h.epoch.toNat ≠ s.epochOf h.ctx.toNat :=
  ⟨0, { hd 0x20 0 2 (units := 1) with epoch := 5 }, [1, 2], linked, (by decide +kernel)⟩

theorem test_remoteAnswers_2_readData :
    ∃ (port : PortId) (h : PacketHeader) (data : Bytes) (s : State), s.takes port.val 0x20 (unitsOf data.length) h = true ∧
      accessOk (s.port port.val) h = true ∧ data.length = h.length.toNat ∧ h.epoch.toNat = s.epochOf h.ctx.toNat ∧
      ((s.links.requests.find? fun r => decide (r.tag = h.tag.toNat) && decide (r.dst = h.src.toNat) && decide (r.ctx = h.ctx.toNat)) = none) :=
  ⟨0, hd 0x20 0 2 (units := 1), [1, 2], linked, (by decide +kernel)⟩

theorem test_remoteAnswers_3_readData :
    ∃ (port : PortId) (h : PacketHeader) (data : Bytes) (r : Request) (s : State), s.takes port.val 0x20 (unitsOf data.length) h = true ∧
      accessOk (s.port port.val) h = true ∧ data.length = h.length.toNat ∧ h.epoch.toNat = s.epochOf h.ctx.toNat ∧
      ((s.links.requests.find? fun r => decide (r.tag = h.tag.toNat) && decide (r.dst = h.src.toNat) && decide (r.ctx = h.ctx.toNat)) = some r) ∧
      r.length = data.length :=
  ⟨0, hd 0x20 0 2 (units := 1), [1, 2], { tag := 0, port := 0, dst := 4, ctx := 256, epoch := 0, va := 0x200000000000, length := 2, asker := .stream 0 0 }, asked (.stream 0 0) 2, (by decide +kernel), (by decide +kernel)⟩

theorem test_remoteAnswers_4_readData :
    ∃ (port : PortId) (h : PacketHeader) (data : Bytes) (r : Request) (key pos : Nat) (x : Strm) (s : State),
      s.takes port.val 0x20 (unitsOf data.length) h = true ∧ accessOk (s.port port.val) h = true ∧ data.length = h.length.toNat ∧
      h.epoch.toNat = s.epochOf h.ctx.toNat ∧
      ((s.links.requests.find? fun r => decide (r.tag = h.tag.toNat) && decide (r.dst = h.src.toNat) && decide (r.ctx = h.ctx.toNat)) = some r) ∧
      r.length = data.length ∧ r.asker = .stream key pos ∧ h.poison = false ∧ s.strm (key / 32) (key % 32) = some x :=
  ⟨0, hd 0x20 0 2 (units := 1), [1, 2], { tag := 0, port := 0, dst := 4, ctx := 256, epoch := 0, va := 0x200000000000, length := 2, asker := .stream 0 0 }, 0, 0, ⟨st2, strmIm (linear 0), 592, 0, { half0 := { busy := true } }⟩, { streaming (linear 0) { half0 := { busy := true } } with links := (asked (.stream 0 0) 2).links }, (by decide +kernel), (by decide +kernel), (by decide +kernel), (by decide +kernel), (by decide +kernel)⟩

theorem test_remoteAnswers_5_readFault :
    ∃ (port : PortId) (h : PacketHeader) (s : State), s.takes port.val 0x21 0 h = true ∧ h.addr.toNat < 2 ^ 40 ∧
      h.epoch.toNat ≠ s.epochOf h.ctx.toNat :=
  ⟨0, { hd 0x21 0 2 with epoch := 5 }, linked, (by decide +kernel)⟩

theorem test_remoteAnswers_6_readFault :
    ∃ (port : PortId) (h : PacketHeader) (s : State), s.takes port.val 0x21 0 h = true ∧ h.addr.toNat < 2 ^ 40 ∧
      h.epoch.toNat = s.epochOf h.ctx.toNat ∧ ((s.links.requests.find? fun r => decide (r.tag = h.tag.toNat) && decide
      (r.dst = h.src.toNat) && decide (r.ctx = h.ctx.toNat)) = none) :=
  ⟨0, hd 0x21 0 2, linked, (by decide +kernel)⟩

theorem test_remoteAnswers_7_readFault :
    ∃ (port : PortId) (h : PacketHeader) (r : Request) (s : State), s.takes port.val 0x21 0 h = true ∧ h.addr.toNat
      < 2 ^ 40 ∧ h.epoch.toNat = s.epochOf h.ctx.toNat ∧ ((s.links.requests.find? fun r => decide (r.tag =
      h.tag.toNat) && decide (r.dst = h.src.toNat) && decide (r.ctx = h.ctx.toNat)) = some r) :=
  ⟨0, hd 0x21 0 2 2, { tag := 0, port := 0, dst := 4, ctx := 256, epoch := 0, va := 0x200000000000, length := 2, asker := .stream 0 0 }, asked (.stream 0 0) 2, (by decide +kernel)⟩

theorem test_remoteAnswers_8_flushDone :
    ∃ (port : PortId) (h : PacketHeader) (s : State), s.takes port.val 0x22 0 h = true ∧ h.addr.toNat < 2 ^ 40 ∧
      h.epoch.toNat ≠ s.epochOf h.ctx.toNat :=
  ⟨0, { hd 0x22 0 2 with epoch := 5 }, linked, (by decide +kernel)⟩

theorem test_remoteAnswers_9_flushDone :
    ∃ (port : PortId) (h : PacketHeader) (s : State), s.takes port.val 0x22 0 h = true ∧ h.addr.toNat < 2 ^ 40 ∧
      h.epoch.toNat = s.epochOf h.ctx.toNat ∧ ((s.links.requests.find? fun r => decide (r.tag = h.tag.toNat) && decide
      (r.dst = h.src.toNat) && decide (r.ctx = h.ctx.toNat)) = none) :=
  ⟨0, hd 0x22 0 2, linked, (by decide +kernel)⟩

theorem test_remoteAnswers_10_flushDone :
    ∃ (port : PortId) (h : PacketHeader) (r : Request) (s : State), s.takes port.val 0x22 0 h = true ∧ h.addr.toNat
      < 2 ^ 40 ∧ h.epoch.toNat = s.epochOf h.ctx.toNat ∧ ((s.links.requests.find? fun r => decide (r.tag =
      h.tag.toNat) && decide (r.dst = h.src.toNat) && decide (r.ctx = h.ctx.toNat)) = some r) ∧ h.status = 0 :=
  ⟨0, hd 0x22 0 0, { tag := 0, port := 0, dst := 4, ctx := 256, epoch := 0, va := 0x200000000000, length := 0, asker := .stepFlush 1 }, asked (.stepFlush 1) 0, (by decide +kernel)⟩

theorem test_remoteAnswers_11_flushDone :
    ∃ (port : PortId) (h : PacketHeader) (r : Request) (s : State), s.takes port.val 0x22 0 h = true ∧ h.addr.toNat
      < 2 ^ 40 ∧ h.epoch.toNat = s.epochOf h.ctx.toNat ∧ ((s.links.requests.find? fun r => decide (r.tag =
      h.tag.toNat) && decide (r.dst = h.src.toNat) && decide (r.ctx = h.ctx.toNat)) = some r) ∧ h.status ≠ 0 :=
  ⟨0, hd 0x22 0 0 2, { tag := 0, port := 0, dst := 4, ctx := 256, epoch := 0, va := 0x200000000000, length := 0, asker := .stepFlush 1 }, asked (.stepFlush 1) 0, (by decide +kernel)⟩

theorem test_groupMessages_1_ready :
    ∃ (port : PortId) (h : PacketHeader) (t : Nat) (p : Step) (s : State), s.takes port.val 0x40 0 h = true ∧
      groupOk h = true ∧ s.groupPlace h = .current p ∧ bits h.length.toNat 15 8 = 0 :=
  ⟨0, hd 0x40 9 0x30002, 5, st5, grouped, (by decide +kernel)⟩

theorem test_groupMessages_2_ready :
    ∃ (port : PortId) (h : PacketHeader) (t : Nat) (s : State), s.takes port.val 0x40 0 h = true ∧ groupOk h = true ∧
      bits h.length.toNat 15 8 = 0 ∧ s.groupPlace h = .late :=
  ⟨0, hd 0x40 9 2, 5, grouped { st5 with attempt := 2 }, (by decide +kernel)⟩

theorem test_groupMessages_3_ready :
    ∃ (port : PortId) (h : PacketHeader) (t : Nat) (s : State), s.takes port.val 0x40 0 h = true ∧ groupOk h = true ∧
      bits h.length.toNat 15 8 = 0 ∧ s.groupPlace h = .early :=
  ⟨0, hd 0x40 9 2, 5, linked, (by decide +kernel)⟩

theorem test_groupMessages_4_abort :
    ∃ (port : PortId) (h : PacketHeader) (t : Nat) (p : Step) (s : State), s.takes port.val 0x41 0 h = true ∧
      groupOk h = true ∧ s.groupPlace h = .current p ∧ p.committed = true :=
  ⟨0, hd 0x41 9 2, 5, { st5 with committed := true }, grouped { st5 with committed := true }, (by decide +kernel)⟩

theorem test_groupMessages_5_abort :
    ∃ (port : PortId) (h : PacketHeader) (t : Nat) (p : Step) (s : State), s.takes port.val 0x41 0 h = true ∧
      groupOk h = true ∧ s.groupPlace h = .current p ∧ p.committed = false ∧ p.ending = none ∧ h.status = 0 :=
  ⟨0, hd 0x41 9 2, 5, st5, grouped, (by decide +kernel), (by decide +kernel)⟩

theorem test_groupMessages_6_abort :
    ∃ (port : PortId) (h : PacketHeader) (t : Nat) (p : Step) (s : State), s.takes port.val 0x41 0 h = true ∧
      groupOk h = true ∧ s.groupPlace h = .current p ∧ p.committed = false ∧ p.ending = none ∧ h.status ≠ 0 :=
  ⟨0, hd 0x41 9 2 4, 5, st5, grouped, (by decide +kernel), (by decide +kernel)⟩

theorem test_groupMessages_7_abort :
    ∃ (port : PortId) (h : PacketHeader) (t : Nat) (s : State), s.takes port.val 0x41 0 h = true ∧ groupOk h = true
      ∧ s.groupPlace h = .late ∧ h.status = 0 :=
  ⟨0, hd 0x41 9 2, 5, grouped { st5 with attempt := 2 }, (by decide +kernel)⟩

theorem test_groupMessages_8_counts :
    ∃ (port : PortId) (h : PacketHeader) (data : Bytes) (t : Nat) (p : Step) (e : Exchange) (s : State),
      s.takes port.val 0x42 (unitsOf data.length) h = true ∧ groupOk h = true ∧ data.length % 4 = 0 ∧ data.length ≤ 1024 ∧
      s.groupPlace h = .current p ∧ s.gathering p h = some e ∧
      ((e.counts.any fun x => decide (x.1 = h.src.toNat)) = false) :=
  ⟨0, hd 0x42 9 0 (units := 1), [5, 0, 0, 0], 5, st5, { serial := 2, cmd := 1, ctx := 256, desc := 0, run := 0, record := [0, 0, 1, 1], stage := .gathering }, { grouped with tru := { exchanges := [{ serial := 2, cmd := 1, ctx := 256, desc := 0, run := 0, record := [0, 0, 1, 1], stage := .gathering }] } }, (by decide +kernel), (by decide +kernel), (by decide +kernel)⟩

theorem test_groupMessages_9_counts :
    ∃ (port : PortId) (h : PacketHeader) (data : Bytes) (t : Nat) (p : Step) (s : State), s.takes port.val 0x42 (unitsOf data.length) h = true ∧
      groupOk h = true ∧ data.length % 4 = 0 ∧ data.length ≤ 1024 ∧ s.groupPlace h = .current p ∧
      s.gathering p h = none :=
  ⟨0, hd 0x42 9 0 (units := 1), [5, 0, 0, 0], 5, st5, grouped, (by decide +kernel), (by decide +kernel)⟩

theorem test_groupMessages_10_counts :
    ∃ (port : PortId) (h : PacketHeader) (data : Bytes) (t : Nat) (s : State), s.takes port.val 0x42 (unitsOf data.length) h = true ∧
      groupOk h = true ∧ data.length % 4 = 0 ∧ data.length ≤ 1024 ∧ s.groupPlace h = .late :=
  ⟨0, hd 0x42 9 0 (units := 1), [5, 0, 0, 0], 5, grouped { st5 with attempt := 2 }, (by decide +kernel)⟩

theorem test_groupMessages_11_announce :
    ∃ (port : PortId) (h : PacketHeader) (t : Nat) (p : Step) (e : Exchange) (s : State), s.takes port.val 0x43 0 h = true ∧
      groupOk h = true ∧ s.groupPlace h = .current p ∧ s.gathering p h = some e ∧
      e.announced.contains h.src.toNat = false :=
  ⟨0, hd 0x43 9 0, 5, st5, { serial := 2, cmd := 1, ctx := 256, desc := 0, run := 0, record := [0, 0, 1, 1], stage := .gathering }, { grouped with tru := { exchanges := [{ serial := 2, cmd := 1, ctx := 256, desc := 0, run := 0, record := [0, 0, 1, 1], stage := .gathering }] } }, (by decide +kernel)⟩

theorem test_groupMessages_12_announce :
    ∃ (port : PortId) (h : PacketHeader) (t : Nat) (p : Step) (s : State), s.takes port.val 0x43 0 h = true ∧
      groupOk h = true ∧ s.groupPlace h = .current p ∧ s.gathering p h = none :=
  ⟨0, hd 0x43 9 0, 5, st5, grouped, (by decide +kernel)⟩

theorem test_groupMessages_13_hold :
    ∃ (port : PortId) (h : PacketHeader) (t : Nat) (p : Step) (s : State), s.takes port.val 0x44 0 h = true ∧
      groupOk h = true ∧ s.groupPlace h = .current p ∧ h.status.toNat ≤ 1 :=
  ⟨0, hd 0x44 9 0 1, 5, st5, grouped, (by decide +kernel)⟩

theorem test_groupMessages_14_hold :
    ∃ (port : PortId) (h : PacketHeader) (t : Nat) (s : State), s.takes port.val 0x44 0 h = true ∧ groupOk h = true ∧
      h.status.toNat ≤ 1 ∧ s.groupPlace h = .late :=
  ⟨0, hd 0x44 9 0 1, 5, grouped { st5 with attempt := 2 }, (by decide +kernel)⟩

theorem test_groupMessages_15_abort :
    ∃ (port : PortId) (h : PacketHeader) (t : Nat) (s : State), s.takes port.val 0x41 0 h = true ∧ groupOk h = true
      ∧ s.groupPlace h = .late ∧ h.status ≠ 0 :=
  ⟨0, hd 0x41 9 2 4, 5, grouped { st5 with attempt := 2 }, (by decide +kernel)⟩

theorem test_linkMessages_1_epoch :
    ∃ (port : PortId) (h : PacketHeader) (s : State), s.takes port.val 0x45 0 h = true ∧ h.addr = 0 ∧
      (((tfind s.links.epochs (h.src.toNat * 512 + h.ctx.toNat)).all fun f => olderEpoch f (h.length.toNat % 65536)) = true) :=
  ⟨0, hd 0x45 0 9, linked, (by decide +kernel)⟩

theorem test_linkMessages_2_epoch :
    ∃ (port : PortId) (h : PacketHeader) (f : Nat) (s : State), s.takes port.val 0x45 0 h = true ∧ h.addr = 0 ∧
      tfind s.links.epochs (h.src.toNat * 512 + h.ctx.toNat) = some f ∧
      olderEpoch f (h.length.toNat % 65536) = false :=
  ⟨0, hd 0x45 0 8, 9, { linked with links := { linked.links with epochs := [(4 * 512 + 256, 9)] } }, (by decide +kernel)⟩

theorem test_linkMessages_3_epochAck :
    ∃ (port : PortId) (h : PacketHeader) (s : State), s.takes port.val 0x46 0 h = true ∧ h.addr = 0 :=
  ⟨0, hd 0x46 0 9, { linked with links := { linked.links with acks := [⟨256, 4, 9⟩, ⟨3, 4, 9⟩] } }, (by decide +kernel)⟩

theorem test_linkMessages_4_epochAck :
    ∃ (port : PortId) (h : PacketHeader) (s : State), s.takes port.val 0x46 0 h = false ∧
      (s.port port.val).state ≠ .active :=
  ⟨0, hd 0x46 0 9, on, (by decide +kernel)⟩

theorem test_linkMessages_5_border :
    ∃ (port : PortId) (h : PacketHeader) (s : State), s.takes port.val 0x47 0 h = true ∧ h.addr = 0 ∧ h.ctx = 256 :=
  ⟨0, hd 0x47 0 0, linked, (by decide +kernel)⟩

theorem test_linkMessages_6_border :
    ∃ (port : PortId) (h : PacketHeader) (s : State), s.takes port.val 0x47 0 h = true ∧ (h.addr ≠ 0 ∨ h.ctx ≠ 256) :=
  ⟨0, hd 0x47 8 0, linked, (by decide +kernel)⟩

theorem test_linkMessages_7_groupEntryExpired :
    ∃ (ctx : CtxId) (group : BitVec 32) (t : Nat) (e : EarlyGroup) (s : State), Canonical s ∧
      ((s.links.early.find? fun e => decide (e.ctx = ctx.val) && decide (e.group = group.toNat)) = some e) ∧
      ((s.steps.any fun p => decide (p.ctx = ctx.val) && decide (p.groupId = group.toNat) && !p.members.isEmpty && p.latched) = false) ∧
      e.arrived + 1000 * 65536 ≤ s.cdu.phase (max s.uptime t) ∧ s.dget 0x5000 13 + 1 < 2 ^ 32 :=
  ⟨256, 9, 5, { ctx := 256, group := 9, arrived := 0 }, { linked with cdu := { ticked := true, tick := 5000 }, links := { early := [{ ctx := 256, group := 9, arrived := 0 }] } }, (by constructor <;> decide), (by decide +kernel)⟩

theorem test_linkMessages_8_groupEntryExpired :
    ∃ (ctx : CtxId) (group : BitVec 32) (t : Nat) (e : EarlyGroup) (s : State),
      ((s.links.early.find? fun e => decide (e.ctx = ctx.val) && decide (e.group = group.toNat)) = some e) ∧
      ((s.steps.any fun p => decide (p.ctx = ctx.val) && decide (p.groupId = group.toNat) && !p.members.isEmpty && p.latched) = false) ∧
      s.cdu.phase (max s.uptime t) < e.arrived + 1000 * 65536 :=
  ⟨256, 9, 5, { ctx := 256, group := 9, arrived := 0 }, { linked with links := { early := [{ ctx := 256, group := 9, arrived := 0 }] } }, (by decide +kernel)⟩

theorem test_linkMessages_9_quiescenceLimit :
    ∃ (ctx : CtxId) (t : Nat) (s : State), Canonical s ∧ tsorted none s.links.confirm = true ∧ s.unconfirmed ctx.val
      t = true ∧ (((List.range 3).any fun k => (tfind s.links.confirm (k * 512 + ctx.val)).any fun t0 => decide (t0 +
      50000 ≤ t)) = true) :=
  ⟨256, 50009, { asked (.copyRead 7 0) 64 with links := { (asked (.copyRead 7 0) 64).links with confirm := [(256, 9)] } }, (by constructor <;> decide), (by decide +kernel)⟩

theorem test_linkMessages_10_quiescenceLimit :
    ∃ (ctx : CtxId) (t : Nat) (s : State), (s.unconfirmed ctx.val t = false ∨ ((List.range 3).any fun k => (tfind
      s.links.confirm (k * 512 + ctx.val)).any fun t0 => decide (t0 + 50000 ≤ t)) = false) :=
  ⟨256, 50008, { linked with links := { confirm := [(256, 9)] } }, (by decide +kernel)⟩

theorem test_exchanges_1_dispatchCountsComplete :
    ∃ (exchange : Nat) (s : State), s.liveExchange exchange .gathering 0 = none :=
  ⟨2, on, (by decide +kernel)⟩

theorem test_exchanges_2_dispatchCountsComplete :
    ∃ (exchange : Nat) (e : Exchange) (p : Step) (s : State), s.liveExchange exchange .gathering 0 = some (e, p) ∧
      (((s.exMembers p).all fun d => e.counts.any fun x => decide (x.1 = d)) = false) :=
  ⟨2, { serial := 2, cmd := 1, ctx := 256, desc := 0, run := 0, record := (leBytes 48 0 ++ leBytes 8 0x100000000000 ++ leBytes 8 0x100000000800 ++ leBytes 64 0), stage := .gathering }, st1, { running (im noPorts) with tru := { exchanges := [{ serial := 2, cmd := 1, ctx := 256, desc := 0, run := 0, record := (leBytes 48 0 ++ leBytes 8 0x100000000000 ++ leBytes 8 0x100000000800 ++ leBytes 64 0), stage := .gathering }] } }, (by decide +kernel)⟩

theorem test_exchanges_3_dispatchCountsComplete :
    ∃ (exchange : Nat) (e : Exchange) (p : Step) (s : State), s.liveExchange exchange .gathering 0 = some (e, p) ∧
      (((s.exMembers p).all fun d => e.counts.any fun x => decide (x.1 = d)) = true) ∧
      (s.dispatchRows p e).toOption.isSome = true :=
  ⟨2, { serial := 2, cmd := 1, ctx := 256, desc := 0, run := 0, record := (leBytes 48 0 ++ leBytes 8 0x100000000000 ++ leBytes 8 0x100000000800 ++ leBytes 64 0), stage := .gathering, counts := [(0, [])] }, st1, { running (im noPorts) with tru := { exchanges := [{ serial := 2, cmd := 1, ctx := 256, desc := 0, run := 0, record := (leBytes 48 0 ++ leBytes 8 0x100000000000 ++ leBytes 8 0x100000000800 ++ leBytes 64 0), stage := .gathering, counts := [(0, [])] }] } }, (by decide +kernel)⟩

theorem test_exchanges_4_dispatchComplete :
    ∃ (exchange : Nat) (s : State), s.liveExchange exchange .moving 0 = none :=
  ⟨2, on, (by decide +kernel)⟩

theorem test_exchanges_5_dispatchComplete :
    ∃ (exchange : Nat) (e : Exchange) (p : Step) (s : State), s.liveExchange exchange .moving 0 = some (e, p) ∧
      expectedBytes s.ownDevice e ≤ e.progress :=
  ⟨2, { serial := 2, cmd := 1, ctx := 256, desc := 0, run := 0, record := (leBytes 48 0 ++ leBytes 8 0x100000000000 ++ leBytes 8 0x100000000800 ++ leBytes 64 0), stage := .moving }, st1, { running (im noPorts) with tru := { exchanges := [{ serial := 2, cmd := 1, ctx := 256, desc := 0, run := 0, record := (leBytes 48 0 ++ leBytes 8 0x100000000000 ++ leBytes 8 0x100000000800 ++ leBytes 64 0), stage := .moving }] } }, (by decide +kernel)⟩

theorem test_exchanges_6_dispatchComplete :
    ∃ (exchange : Nat) (e : Exchange) (p : Step) (s : State), s.liveExchange exchange .moving 0 = some (e, p) ∧
      e.progress < expectedBytes s.ownDevice e :=
  ⟨2, { serial := 2, cmd := 1, ctx := 256, desc := 0, run := 0, record := (leBytes 18 0 ++ leBytes 2 9 ++ leBytes 4 64 ++ leBytes 24 0 ++ leBytes 8 0x100000000000 ++ leBytes 8 0x100000000800 ++ leBytes 64 0), stage := .moving, map := [(0, 0)], counts := [(4, [3])] }, st1, { running (im noPorts) with tru := { exchanges := [{ serial := 2, cmd := 1, ctx := 256, desc := 0, run := 0, record := (leBytes 18 0 ++ leBytes 2 9 ++ leBytes 4 64 ++ leBytes 24 0 ++ leBytes 8 0x100000000000 ++ leBytes 8 0x100000000800 ++ leBytes 64 0), stage := .moving, map := [(0, 0)], counts := [(4, [3])] }] } }, (by decide +kernel)⟩

theorem test_exchanges_7_returnAnnounced :
    ∃ (exchange : Nat) (s : State), s.liveExchange exchange .gathering 1 = none :=
  ⟨2, on, (by decide +kernel)⟩

theorem test_exchanges_8_returnAnnounced :
    ∃ (exchange : Nat) (e d : Exchange) (p : Step) (s : State), s.liveExchange exchange .gathering 1 = some (e, p) ∧
      s.pairOf e = some d ∧ (s.exMembers p).all e.announced.contains = false :=
  ⟨2, { serial := 2, cmd := 1, ctx := 256, desc := 1, run := 0, record := (leBytes 1 1 ++ leBytes 127 0), pair := some 1, stage := .gathering }, { serial := 1, cmd := 1, ctx := 256, desc := 0, run := 0, record := (leBytes 48 0 ++ leBytes 8 0x100000000000 ++ leBytes 8 0x100000000800 ++ leBytes 64 0), stage := .done }, st1, { running (im noPorts) with tru := { exchanges := [{ serial := 1, cmd := 1, ctx := 256, desc := 0, run := 0, record := (leBytes 48 0 ++ leBytes 8 0x100000000000 ++ leBytes 8 0x100000000800 ++ leBytes 64 0), stage := .done }, { serial := 2, cmd := 1, ctx := 256, desc := 1, run := 0, record := (leBytes 1 1 ++ leBytes 127 0), pair := some 1, stage := .gathering }] } }, (by decide +kernel)⟩

theorem test_exchanges_9_returnAnnounced :
    ∃ (exchange : Nat) (e d : Exchange) (p : Step) (s : State), s.liveExchange exchange .gathering 1 = some (e, p) ∧
      s.pairOf e = some d ∧ (s.exMembers p).all e.announced.contains = true ∧
      (s.fetchRows p e d d.choices.zipIdx).toOption.isSome = true :=
  ⟨2, { serial := 2, cmd := 1, ctx := 256, desc := 1, run := 0, record := (leBytes 1 1 ++ leBytes 127 0), pair := some 1, stage := .gathering, announced := [0] }, { serial := 1, cmd := 1, ctx := 256, desc := 0, run := 0, record := (leBytes 48 0 ++ leBytes 8 0x100000000000 ++ leBytes 8 0x100000000800 ++ leBytes 64 0), stage := .done }, st1, { running (im noPorts) with tru := { exchanges := [{ serial := 1, cmd := 1, ctx := 256, desc := 0, run := 0, record := (leBytes 48 0 ++ leBytes 8 0x100000000000 ++ leBytes 8 0x100000000800 ++ leBytes 64 0), stage := .done }, { serial := 2, cmd := 1, ctx := 256, desc := 1, run := 0, record := (leBytes 1 1 ++ leBytes 127 0), pair := some 1, stage := .gathering, announced := [0] }] } }, (by decide +kernel)⟩

theorem test_exchanges_10_returnComplete :
    ∃ (exchange : Nat) (s : State), s.liveExchange exchange .moving 1 = none :=
  ⟨2, on, (by decide +kernel)⟩

theorem test_exchanges_11_returnComplete :
    ∃ (exchange : Nat) (e : Exchange) (p : Step) (s : State), s.liveExchange exchange .moving 1 = some (e, p) ∧
      e.outstanding = 0 :=
  ⟨2, { serial := 2, cmd := 1, ctx := 256, desc := 1, run := 0, record := (leBytes 1 1 ++ leBytes 127 0), stage := .moving }, st1, { running (im noPorts) with tru := { exchanges := [{ serial := 2, cmd := 1, ctx := 256, desc := 1, run := 0, record := (leBytes 1 1 ++ leBytes 127 0), stage := .moving }] } }, (by decide +kernel)⟩

theorem test_exchanges_12_returnComplete :
    ∃ (exchange : Nat) (e : Exchange) (p : Step) (s : State), s.liveExchange exchange .moving 1 = some (e, p) ∧
      e.outstanding ≠ 0 :=
  ⟨2, { serial := 2, cmd := 1, ctx := 256, desc := 1, run := 0, record := (leBytes 1 1 ++ leBytes 127 0), stage := .moving, outstanding := 3 }, st1, { running (im noPorts) with tru := { exchanges := [{ serial := 2, cmd := 1, ctx := 256, desc := 1, run := 0, record := (leBytes 1 1 ++ leBytes 127 0), stage := .moving, outstanding := 3 }] } }, (by decide +kernel)⟩

theorem test_portStates_1_portSignalDetect :
    ∃ (port : PortId) (s : State), (s.port port.val).state = .detect :=
  ⟨0, linked { state := .detect }, (by decide +kernel)⟩

theorem test_portStates_2_portSignalDetect :
    ∃ (port : PortId) (s : State), (s.port port.val).state ≠ .detect :=
  ⟨0, linked { state := .active }, (by decide +kernel)⟩

theorem test_portStates_3_portTrainDone :
    ∃ (port : PortId) (s : State), (s.port port.val).state = .train :=
  ⟨0, linked { state := .train }, (by decide +kernel)⟩

theorem test_portStates_4_portTrainDone :
    ∃ (port : PortId) (s : State), (s.port port.val).state ≠ .train :=
  ⟨0, linked { state := .active }, (by decide +kernel)⟩

theorem test_portStates_5_portAlignDone :
    ∃ (port : PortId) (s : State), (s.port port.val).state = .align :=
  ⟨0, linked { state := .align }, (by decide +kernel)⟩

theorem test_portStates_6_portAlignDone :
    ∃ (port : PortId) (s : State), (s.port port.val).state ≠ .align :=
  ⟨0, linked { state := .active }, (by decide +kernel)⟩

theorem test_portStates_7_portStateTimeout :
    ∃ (port : PortId) (s : State), Canonical s ∧
      ((s.port port.val).state = .train ∨ (s.port port.val).state = .down) ∧ s.dget (0x5010 + port.val) 1 ≠ 0 ∧
      s.pins.reflinkLost = false :=
  ⟨0, { linked { state := .train } with dict := [(dkey 0x5010 1 0, 1)] }, (by constructor <;> decide), (by decide +kernel)⟩

theorem test_portStates_8_portStateTimeout :
    ∃ (port : PortId) (s : State), Canonical s ∧ tsorted none s.links.ports = true ∧
      ((s.port port.val).state = .train ∨ (s.port port.val).state = .down) ∧ s.pins.reflinkLost = true :=
  ⟨0, { linked { state := .train } with pins := { on.pins with reflinkLost := true } }, (by constructor <;> decide), (by decide +kernel)⟩

theorem test_portStates_9_portStateTimeout :
    ∃ (port : PortId) (s : State), (s.port port.val).state = .align :=
  ⟨0, linked { state := .align }, (by decide +kernel)⟩

theorem test_portStates_10_portStateTimeout :
    ∃ (port : PortId) (s : State), (s.port port.val).state ≠ .train ∧ (s.port port.val).state ≠ .align ∧
      (s.port port.val).state ≠ .down :=
  ⟨0, linked { state := .active }, (by decide +kernel)⟩

theorem test_portStates_11_portRetrain :
    ∃ (port : PortId) (cause : RetrainCause) (s : State), Canonical s ∧ (s.port port.val).state = .active ∧
      s.dget (0x5010 + port.val) 11 + 1 < 2 ^ 32 :=
  ⟨0, .retries, linked { state := .active }, (by constructor <;> decide), (by decide +kernel)⟩

theorem test_portStates_12_portRetrain :
    ∃ (port : PortId) (cause : RetrainCause) (s : State), (s.port port.val).state ≠ .active :=
  ⟨0, .retries, linked { state := .retrain }, (by decide +kernel)⟩

theorem test_portStates_13_portRetrainActive :
    ∃ (port : PortId) (s : State), (s.port port.val).state = .retrain :=
  ⟨0, linked { state := .retrain }, (by decide +kernel)⟩

theorem test_portStates_14_portRetrainActive :
    ∃ (port : PortId) (s : State), (s.port port.val).state ≠ .retrain :=
  ⟨0, linked { state := .active }, (by decide +kernel)⟩

theorem test_portStates_15_portDown :
    ∃ (port : PortId) (t : Nat) (s : State), (s.port port.val).state = .retrain ∧
      (s.port port.val).since + s.dget 0x5000 7 * 1000 ≤ t :=
  ⟨0, 9000000000, linked { state := .retrain }, (by decide +kernel)⟩

theorem test_portStates_16_portDown :
    ∃ (port : PortId) (t : Nat) (s : State),
      ((s.port port.val).state ≠ .retrain ∨ t < (s.port port.val).since + s.dget 0x5000 7 * 1000) :=
  ⟨0, 9, linked { state := .active }, (by decide +kernel)⟩

theorem test_portStates_17_linkInfo :
    ∃ (port : PortId) (info : LinkInfo) (s : State), (s.port port.val).state = .exchange ∧ info.magic = 0x5653 ∧
      s.dget 0x5000 12 = 0 ∧ s.isolationCause port.val info = 0 :=
  ⟨0, { magic := 0x5653, flCeiling := 9, flSupported := 0xFF, deviceId := 4, isSwitch := false, partition := 7, port := 2, credits := [64, 258, 258, 64] }, { linked { state := .exchange } with dict := [(dkey 0x5000 2 0, 255), (dkey 0x5010 2 0, 7)] }, (by decide +kernel)⟩

theorem test_portStates_18_linkInfo :
    ∃ (port : PortId) (info : LinkInfo) (s : State), (s.port port.val).state = .exchange ∧ info.magic = 0x5653 ∧
      s.dget 0x5000 12 = 0 ∧ s.isolationCause port.val info ≠ 0 :=
  ⟨0, { magic := 0x5653, flCeiling := 9, flSupported := 0xFF, deviceId := 4, isSwitch := false, partition := 7, port := 2, credits := [64, 258, 258, 64] }, linked { state := .exchange }, (by decide +kernel)⟩

theorem test_portStates_19_linkInfo :
    ∃ (port : PortId) (info : LinkInfo) (s : State), ((s.port port.val).state ≠ .exchange ∨ info.magic ≠ 0x5653) :=
  ⟨0, { magic := 0x5653, flCeiling := 9, flSupported := 0xFF, deviceId := 4, isSwitch := false, partition := 7, port := 2, credits := [64, 258, 258, 64] }, linked { state := .active }, (by decide +kernel)⟩

theorem test_portStates_20_linkInfo :
    ∃ (port : PortId) (info : LinkInfo) (s : State), (s.port port.val).state = .exchange ∧ info.magic = 0x5653 :=
  ⟨0, { magic := 0x5653, flCeiling := 9, flSupported := 0xFF, deviceId := 4, isSwitch := false, partition := 7, port := 2, credits := [64, 258, 258, 64] }, linked { state := .exchange }, (by decide +kernel)⟩

theorem test_frames_1_frameReceived :
    ∃ (port : PortId) (check : FrameCheck) (fcu : FrameControl) (s : State), (s.port port.val).state ≠ .exchange ∧
      (s.port port.val).state ≠ .active ∧ (s.port port.val).state ≠ .isolated :=
  ⟨0, .good, { fseq := 0, kind := 0, ack := 4095, nak := false, credit := [1, 0, 0, 0], firstHdr := 0, spareTx := 15, spareUse := 15, test := 15, spareRq := 15 }, linked { state := .train }, (by decide +kernel)⟩

theorem test_frames_2_frameReceived :
    ∃ (port : PortId) (check : FrameCheck) (fcu : FrameControl) (s : State),
      ((s.port port.val).state = .exchange ∨ (s.port port.val).state = .active ∨ (s.port port.val).state = .isolated) ∧
      check = .badCrc :=
  ⟨0, .badCrc, { fseq := 0, kind := 0, ack := 4095, nak := false, credit := [1, 0, 0, 0], firstHdr := 0, spareTx := 15, spareUse := 15, test := 15, spareRq := 15 }, linked { state := .active }, (by decide +kernel)⟩

theorem test_frames_3_frameReceived :
    ∃ (port : PortId) (check : FrameCheck) (fcu : FrameControl) (s : State), Canonical s ∧
      ((s.port port.val).state = .exchange ∨ (s.port port.val).state = .active ∨ (s.port port.val).state = .isolated) ∧
      check = .uncorrectable ∧ s.dget (0x5010 + port.val) 9 + 1 < 2 ^ 32 :=
  ⟨0, .uncorrectable, { fseq := 0, kind := 0, ack := 4095, nak := false, credit := [1, 0, 0, 0], firstHdr := 0, spareTx := 15, spareUse := 15, test := 15, spareRq := 15 }, linked { state := .active }, (by constructor <;> decide), (by decide +kernel)⟩

theorem test_frames_4_frameReceived :
    ∃ (port : PortId) (check : FrameCheck) (fcu : FrameControl) (s : State),
      ((s.port port.val).state = .exchange ∨ (s.port port.val).state = .active ∨ (s.port port.val).state = .isolated) ∧
      check = .good ∧ fcu.kind ≠ 2 ∧ fcu.kind ≠ 3 ∧ fcu.fseq.toNat = nextSeqOf (s.port port.val).ackSeq :=
  ⟨0, .good, { fseq := 0, kind := 0, ack := 4095, nak := false, credit := [1, 0, 0, 0], firstHdr := 0, spareTx := 15, spareUse := 15, test := 15, spareRq := 15 }, linked { state := .active }, (by decide +kernel)⟩

theorem test_frames_5_frameReceived :
    ∃ (port : PortId) (check : FrameCheck) (fcu : FrameControl) (s : State),
      ((s.port port.val).state = .exchange ∨ (s.port port.val).state = .active ∨ (s.port port.val).state = .isolated) ∧
      check = .good ∧ fcu.kind ≠ 2 ∧ fcu.kind ≠ 3 ∧ fcu.fseq.toNat ≠ nextSeqOf (s.port port.val).ackSeq ∧
      (s.port port.val).discarding = false ∧ 2048 ≤ ((s.port port.val).ackSeq + 4096 - fcu.fseq.toNat) % 4096 :=
  ⟨0, .good, { fseq := 5, kind := 0, ack := 4095, nak := false, credit := [1, 0, 0, 0], firstHdr := 0, spareTx := 15, spareUse := 15, test := 15, spareRq := 15 }, linked { state := .active }, (by decide +kernel), (by decide +kernel), (by decide +kernel)⟩

theorem test_frames_6_frameReceived :
    ∃ (port : PortId) (check : FrameCheck) (fcu : FrameControl) (s : State),
      ((s.port port.val).state = .exchange ∨ (s.port port.val).state = .active ∨ (s.port port.val).state = .isolated) ∧
      check = .good ∧ fcu.kind ≠ 2 ∧ fcu.kind ≠ 3 ∧ fcu.fseq.toNat ≠ nextSeqOf (s.port port.val).ackSeq ∧
      ((s.port port.val).discarding = true ∨ ((s.port port.val).ackSeq + 4096 - fcu.fseq.toNat) % 4096 < 2048) :=
  ⟨0, .good, { fseq := 4090, kind := 0, ack := 4095, nak := false, credit := [1, 0, 0, 0], firstHdr := 0, spareTx := 15, spareUse := 15, test := 15, spareRq := 15 }, linked { state := .active }, (by decide +kernel), (by decide +kernel)⟩

theorem test_frames_7_frameReceived :
    ∃ (port : PortId) (check : FrameCheck) (fcu : FrameControl) (s : State),
      ((s.port port.val).state = .exchange ∨ (s.port port.val).state = .active ∨ (s.port port.val).state = .isolated) ∧
      check = .good ∧ (fcu.kind = 3 ∨ (fcu.kind = 2 ∧ (s.port port.val).discarding = true)) :=
  ⟨0, .good, { fseq := 0, kind := 3, ack := 4095, nak := false, credit := [1, 0, 0, 0], firstHdr := 0, spareTx := 15, spareUse := 15, test := 15, spareRq := 15 }, linked { state := .active }, (by decide +kernel)⟩

theorem test_frames_8_frameReceived :
    ∃ (port : PortId) (check : FrameCheck) (fcu : FrameControl) (s : State),
      ((s.port port.val).state = .exchange ∨ (s.port port.val).state = .active ∨ (s.port port.val).state = .isolated) ∧
      check = .good ∧ fcu.kind = 2 ∧ (s.port port.val).discarding = false :=
  ⟨0, .good, { fseq := 0, kind := 2, ack := 4095, nak := false, credit := [1, 0, 0, 0], firstHdr := 0, spareTx := 15, spareUse := 15, test := 15, spareRq := 15 }, linked { state := .active }, (by decide +kernel)⟩

theorem test_frames_9_frameReceived :
    ∃ (port : PortId) (check : FrameCheck) (symbols : List (Fin 544)) (fcu : FrameControl) (s : State), ((s.port
      port.val).state = .exchange ∨ (s.port port.val).state = .active ∨ (s.port port.val).state = .isolated) ∧ check =
      .corrected symbols :=
  ⟨0, .corrected [9, 17], [9, 17], { fseq := 0, kind := 0, ack := 4095, nak := false, credit := [1, 0, 0, 0], firstHdr := 0, spareTx := 15, spareUse := 15, test := 15, spareRq := 15 }, linked { state := .active }, (by decide +kernel)⟩

theorem test_frames_10_frameTransmit :
    ∃ (port : PortId) (s : State), (s.port port.val).state ≠ .align ∧ (s.port port.val).state ≠ .exchange ∧
      (s.port port.val).state ≠ .active ∧ (s.port port.val).state ≠ .isolated :=
  ⟨0, linked { state := .train }, (by decide +kernel)⟩

theorem test_frames_11_frameTransmit :
    ∃ (port : PortId) (s : State), ((s.port port.val).state = .align ∨ ((s.port port.val).state = .active ∧ 2047 ≤
      (s.port port.val).sinceComp)) ∧ s.dget 0x5000 12 = 0 :=
  ⟨0, linked { state := .align }, (by decide +kernel)⟩

theorem test_frames_12_frameTransmit :
    ∃ (port : PortId) (f : SentFrame) (fs : List SentFrame) (s : State), Canonical s ∧ (s.port port.val).state =
      .active ∧ (s.port port.val).sinceComp < 2047 ∧ (s.port port.val).resend = f :: fs ∧ s.dget (0x5010 + port.val)
      10 + 1 < 2 ^ 32 ∧ f.kind ≠ 2 ∧ s.dget 0x5000 12 = 0 :=
  ⟨0, { seq := 3, kind := 0, credit := [0, 0, 0, 0], firstHdr := 0, body := [] }, [], linked { state := .active, resend := [{ seq := 3, kind := 0, credit := [0, 0, 0, 0], firstHdr := 0, body := [] }], unacked := [{ seq := 3, kind := 0, credit := [0, 0, 0, 0], firstHdr := 0, body := [] }] }, (by constructor <;> decide), (by decide +kernel)⟩

theorem test_frames_13_frameTransmit :
    ∃ (port : PortId) (s : State), (s.port port.val).state = .active ∧ (s.port port.val).sinceComp < 2047 ∧ (s.port
      port.val).resend = [] ∧ 1024 ≤ (s.port port.val).unacked.length ∧ s.dget 0x5000 12 = 0 :=
  ⟨0, linked { state := .active, unacked := List.replicate 1024 { seq := 3, kind := 0, credit := [0, 0, 0, 0], firstHdr := 0, body := [] } }, (by decide +kernel)⟩

theorem test_frames_14_frameTransmit :
    ∃ (port : PortId) (s : State), (s.port port.val).state = .active ∧ (s.port port.val).sinceComp < 2047 ∧ (s.port
      port.val).resend = [] ∧ (s.port port.val).unacked.length < 1024 ∧ (s.port port.val).infoSent = true ∧ s.dget
      0x5000 12 = 0 :=
  ⟨0, linked { state := .active, infoSent := true }, (by decide +kernel)⟩

theorem test_frames_15_frameTransmit :
    ∃ (port : PortId) (s : State), (s.port port.val).state = .exchange ∧ (s.port port.val).sinceComp < 2047 ∧
      (s.port port.val).resend = [] ∧ (s.port port.val).unacked.length < 1024 :=
  ⟨0, linked { state := .exchange }, (by decide +kernel)⟩

theorem test_frames_16_frameTransmit :
    ∃ (port : PortId) (s : State), (s.port port.val).state = .active :=
  ⟨0, linked { state := .active, infoSent := true }, (by decide +kernel)⟩

theorem test_frames_17_frameTransmit :
    ∃ (port : PortId) (s : State), (s.port port.val).state = .isolated ∧ (s.port port.val).sinceComp < 2047 ∧
      (s.port port.val).resend = [] ∧ (s.port port.val).unacked.length < 1024 ∧ (s.port port.val).infoSent = true :=
  ⟨0, linked { state := .isolated, infoSent := true }, (by decide +kernel)⟩

theorem test_bordersAndLanes_1_partitionDrained :
    ∃ (port : PortId) (s : State), (s.port port.val).border = 1 ∧ s.portDrained port.val = true :=
  ⟨0, linked { state := .active, border := 1 }, (by decide +kernel)⟩

theorem test_bordersAndLanes_2_partitionDrained :
    ∃ (port : PortId) (s : State), (s.port port.val).border = 1 ∧ s.portDrained port.val = true ∧
      (s.port port.val).borderHeld = false ∧ bit s.links.moving port.val = true ∧ s.dget 0x5000 12 = 1 :=
  ⟨0, { linked with dict := [(dkey 0x5000 12 0, 1)], links := { ports := [(0, { state := .active, border := 1 })], moving := 1 } }, (by decide +kernel)⟩

theorem test_bordersAndLanes_3_partitionDrained :
    ∃ (port : PortId) (s : State), ((s.port port.val).border ≠ 1 ∨ s.portDrained port.val = false) :=
  ⟨0, linked { state := .active }, (by decide +kernel)⟩

theorem test_bordersAndLanes_4_borderWaitTimeout :
    ∃ (port : PortId) (t : Nat) (s : State), (s.port port.val).border = 2 ∧
      (s.port port.val).borderSince + 1000000 ≤ t :=
  ⟨0, 1000000, linked { state := .active, border := 2 }, (by decide +kernel)⟩

theorem test_bordersAndLanes_5_borderWaitTimeout :
    ∃ (port : PortId) (t : Nat) (s : State),
      ((s.port port.val).border ≠ 2 ∨ t < (s.port port.val).borderSince + 1000000) :=
  ⟨0, 999999, linked { state := .active, border := 2 }, (by decide +kernel)⟩

theorem test_bordersAndLanes_6_laneTestInterval :
    ∃ (port : PortId) (s : State), (s.port port.val).state = .active ∧ (s.port port.val).testPhase = 0 ∧
      (s.port port.val).txPermanent = false ∧ (s.port port.val).nextLane = 8 :=
  ⟨0, linked { state := .active }, (by decide +kernel)⟩

theorem test_bordersAndLanes_7_laneTestInterval :
    ∃ (port : PortId) (s : State), (s.port port.val).state = .active ∧ (s.port port.val).testPhase = 0 ∧
      (s.port port.val).txPermanent = false ∧ (s.port port.val).nextLane ≠ 8 :=
  ⟨0, linked { state := .active, nextLane := 3 }, (by decide +kernel)⟩

theorem test_bordersAndLanes_8_laneTestInterval :
    ∃ (port : PortId) (s : State),
      ((s.port port.val).state ≠ .active ∨ (s.port port.val).testPhase ≠ 0 ∨ (s.port port.val).txPermanent = true) :=
  ⟨0, linked { state := .retrain }, (by decide +kernel)⟩

theorem test_bordersAndLanes_9_laneTestDwellEnd :
    ∃ (port : PortId) (errors bits : Nat) (t : Nat) (s : State), (s.port port.val).state = .active ∧ (s.port
      port.val).testPhase = 2 ∧ (s.port port.val).testLane = 8 ∧ (s.port port.val).testSince + s.dget 0x5000 9 *
      1000000 ≤ max s.uptime t ∧ (s.port port.val).partnerTest = 15 :=
  ⟨0, 0, 9, 100000000000, linked { state := .active, testPhase := 2, testLane := 8 }, (by decide +kernel)⟩

theorem test_bordersAndLanes_10_laneTestDwellEnd :
    ∃ (port : PortId) (errors bits : Nat) (t : Nat) (s : State), (s.port port.val).state = .active ∧ (s.port
      port.val).testPhase = 2 ∧ (s.port port.val).testLane ≠ 8 ∧ (s.port port.val).testSince + s.dget 0x5000 9 *
      1000000 ≤ max s.uptime t ∧ (s.port port.val).partnerTest = 15 :=
  ⟨0, 0, 9, 100000000000, linked { state := .active, testPhase := 2, testLane := 3 }, (by decide +kernel)⟩

theorem test_bordersAndLanes_11_laneTestDwellEnd :
    ∃ (port : PortId) (errors bits : Nat) (t : Nat) (s : State), Canonical s ∧ (s.port port.val).state = .active ∧
      (s.port port.val).testPhase ≠ 2 ∧ (s.port port.val).partnerTest ≠ 15 ∧ bits ≠ 0 ∧
      s.worseBer errors bits = false :=
  ⟨0, 0, 9, 5, linked { state := .active, partnerTest := 3 }, (by constructor <;> decide), (by decide +kernel)⟩

theorem test_bordersAndLanes_12_laneTestDwellEnd :
    ∃ (port : PortId) (errors bits : Nat) (t : Nat) (s : State), Canonical s ∧ (s.port port.val).state = .active ∧
      (s.port port.val).testPhase ≠ 2 ∧ (s.port port.val).partnerTest < 8 ∧ bits ≠ 0 ∧
      s.worseBer errors bits = true ∧ (s.port port.val).rxPermanent = false :=
  ⟨0, 9, 9, 5, linked { state := .active, partnerTest := 3 }, (by constructor <;> decide), (by decide +kernel), (by decide +kernel)⟩

theorem test_bordersAndLanes_13_laneTestDwellEnd :
    ∃ (port : PortId) (errors bits : Nat) (t : Nat) (s : State), (s.port port.val).state ≠ .active :=
  ⟨0, 0, 9, 5, linked { state := .retrain }, (by decide +kernel)⟩

theorem test_bordersAndLanes_14_portLaneTestEnd :
    ∃ (test : LabTest) (s : State), Canonical s ∧ (s.port test.port.val).state = .test ∧ (s.port
      test.port.val).since + (s.port test.port.val).labTest / 4 * 1000000000 ≤ max s.uptime test.t ∧ s.dget (0x5010 +
      test.port.val) 1 ≠ 0 ∧ s.pins.reflinkLost = false :=
  ⟨⟨0, 5, [(1, 8), (0, 8)]⟩, { linked { state := .test } with dict := [(dkey 0x5010 1 0, 1)] }, (by constructor <;> decide), (by decide +kernel)⟩

theorem test_bordersAndLanes_15_portLaneTestEnd :
    ∃ (test : LabTest) (s : State), ((s.port test.port.val).state ≠ .test ∨ max s.uptime test.t < (s.port
      test.port.val).since + (s.port test.port.val).labTest / 4 * 1000000000) :=
  ⟨⟨0, 5, []⟩, linked { state := .test, labTest := 4 }, (by decide +kernel)⟩

theorem test_bordersAndLanes_16_laneTestDwellEnd :
    ∃ (port : PortId) (errors bits : Nat) (t : Nat) (s : State), (s.port port.val).state = .active ∧ (s.port
      port.val).testPhase = 2 ∧ max s.uptime t < (s.port port.val).testSince + s.dget 0x5000 9 * 1000000 ∧ ((s.port
      port.val).partnerTest = 15 ∨ bits = 0) :=
  ⟨0, 0, 9, 5, { linked { state := .active, testPhase := 2, testLane := 3 } with dict := [(dkey 0x5000 9 0, 1)] }, (by decide +kernel)⟩

theorem test_brakeAndPoints_1_pwrBrakeNAssert :
    ∃ (t : Nat) (s : State), Canonical s ∧ s.pins.brakeN = true :=
  ⟨5, { on with dict := [(dkey 0x3040 1 0, 2)] }, (by constructor <;> decide), (by decide +kernel)⟩

theorem test_brakeAndPoints_2_pwrBrakeNAssert :
    ∃ (t : Nat) (s : State), s.pins.brakeN = false :=
  ⟨5, { on with pins := { on.pins with brakeN := false } }, (by decide +kernel)⟩

theorem test_brakeAndPoints_3_pwrBrakeNRelease :
    ∃ (t : Nat) (s : State), Canonical s ∧ s.pins.brakeN = false ∧ s.dget 0x2100 0x12 + (max s.uptime t - max
      s.pins.brakeSince s.power.brakeCounted) / 1000 < 2 ^ 64 :=
  ⟨5000, { on with pins := { on.pins with brakeN := false } }, (by constructor <;> decide), (by decide +kernel)⟩

theorem test_brakeAndPoints_4_pwrBrakeNRelease :
    ∃ (t : Nat) (s : State), s.pins.brakeN = true :=
  ⟨5, on, (by decide +kernel)⟩

theorem test_brakeAndPoints_5_pwrBrakeLong :
    ∃ (t : Nat) (s : State), Canonical s ∧ s.pins.brakeN = false ∧ s.pins.brakeLogged = false ∧
      s.pins.brakeSince + 1000000000 < t :=
  ⟨1000000001, { on with pins := { on.pins with brakeN := false } }, (by constructor <;> decide), (by decide +kernel)⟩

theorem test_brakeAndPoints_6_pwrBrakeLong :
    ∃ (t : Nat) (s : State),
      (s.pins.brakeN = true ∨ s.pins.brakeLogged = true ∨ t ≤ s.pins.brakeSince + 1000000000) :=
  ⟨5, on, (by decide +kernel)⟩

theorem test_brakeAndPoints_7_powerCapCheck :
    ∃ (t mw : Nat) (s : State), Canonical s ∧ s.powered = true ∧ s.power.lastCap + 20000 ≤ t ∧
      s.dget 0x2100 1 * 1000 < mw ∧ 0 < s.dget 0x2100 8 ∧ s.dget 0x2100 15 + 1 < 2 ^ 32 :=
  ⟨20000, 2000000, on, (by constructor <;> decide), (by decide +kernel)⟩

theorem test_brakeAndPoints_8_powerCapCheck :
    ∃ (t mw : Nat) (s : State), Canonical s ∧ s.powered = true ∧ s.power.lastCap + 20000 ≤ t ∧
      s.dget 0x2100 1 * 1000 < mw ∧ s.dget 0x2100 8 = 0 ∧ bit (s.dget 0x2100 14) 0 = false :=
  ⟨20000, 2000000, { on with dict := [(dkey 0x2100 8 0, 0)] }, (by constructor <;> decide), (by decide +kernel)⟩

theorem test_brakeAndPoints_9_powerCapCheck :
    ∃ (t mw : Nat) (s : State), Canonical s ∧ s.powered = true ∧ s.power.lastCap + 20000 ≤ t ∧
      mw ≤ s.dget 0x2100 1 * 1000 ∧ mw * 100 < s.dget 0x2100 1 * 1000 * 97 ∧ s.power.belowCap = none :=
  ⟨20000, 20, on, (by constructor <;> decide), (by decide +kernel)⟩

theorem test_brakeAndPoints_10_powerCapCheck :
    ∃ (t mw : Nat) (t0 : Nat) (s : State), Canonical s ∧ s.powered = true ∧ s.power.lastCap + 20000 ≤ t ∧
      mw ≤ s.dget 0x2100 1 * 1000 ∧ mw * 100 < s.dget 0x2100 1 * 1000 * 97 ∧ s.power.belowCap = some t0 ∧
      t0 + 1000000 ≤ t ∧ s.dget 0x2100 8 < 11 :=
  ⟨1020000, 20, 20000, { on with dict := [(dkey 0x2100 8 0, 3)], power := { belowCap := some 20000 } }, (by constructor <;> decide), (by decide +kernel), (by decide +kernel), (by decide +kernel)⟩

theorem test_brakeAndPoints_11_powerCapCheck :
    ∃ (t mw : Nat) (s : State), (s.powered = false ∨ t < s.power.lastCap + 20000) :=
  ⟨5, 5, on, (by decide +kernel)⟩

theorem test_brakeAndPoints_12_vinCmpLimitCheck :
    ∃ (t : Nat) (die : Fin 4) (ma : Nat) (s : State), Canonical s ∧ s.powered = true ∧
      (((tfind s.power.lastVin die.val).all fun t0 => decide (t0 + 5000 ≤ t)) = true) ∧ s.dget 0x2100 2 * 1000 < ma :=
  ⟨5000, 1, 9000000, on, (by constructor <;> decide), (by decide +kernel)⟩

theorem test_brakeAndPoints_13_vinCmpLimitCheck :
    ∃ (t : Nat) (die : Fin 4) (ma : Nat) (s : State), Canonical s ∧ s.powered = true ∧
      (((tfind s.power.lastVin die.val).all fun t0 => decide (t0 + 5000 ≤ t)) = true) ∧ ma ≤ s.dget 0x2100 2 * 1000 ∧
      ma * 10 < s.dget 0x2100 2 * 1000 * 9 ∧ tfind s.power.belowVin die.val = none :=
  ⟨5000, 1, 9, on, (by constructor <;> decide), (by decide +kernel)⟩

theorem test_brakeAndPoints_14_vinCmpLimitCheck :
    ∃ (t : Nat) (die : Fin 4) (ma : Nat) (t0 : Nat) (s : State), Canonical s ∧ s.powered = true ∧
      (((tfind s.power.lastVin die.val).all fun t0 => decide (t0 + 5000 ≤ t)) = true) ∧ ma ≤ s.dget 0x2100 2 * 1000 ∧
      ma * 10 < s.dget 0x2100 2 * 1000 * 9 ∧ tfind s.power.belowVin die.val = some t0 ∧ t0 + 1000000 ≤ t ∧
      s.dget 0x2100 9 die.val < 11 :=
  ⟨1005000, 1, 9, 5000, { on with dict := [(dkey 0x2100 9 1, 3)], power := { belowVin := [(1, 5000)] } }, (by constructor <;> decide), (by decide +kernel), (by decide +kernel), (by decide +kernel)⟩

theorem test_brakeAndPoints_15_vinCmpLimitCheck :
    ∃ (t : Nat) (die : Fin 4) (ma : Nat) (s : State), s.powered = false :=
  ⟨5, 1, 5, {}, (by decide +kernel)⟩

theorem test_brakeAndPoints_16_clusterPointTransition :
    ∃ (cluster : ClusterId) (s : State), Canonical s ∧ s.clusterUp cluster.val = true ∧ s.domain cluster.val = 2 :=
  ⟨0, { on with dict := [(dkey 0x3040 1 0, 2)] }, (by constructor <;> decide), (by decide +kernel)⟩

theorem test_brakeAndPoints_17_clusterPointTransition :
    ∃ (cluster : ClusterId) (s : State), (s.clusterUp cluster.val = false ∨ s.domain cluster.val ≠ 2) :=
  ⟨0, { on with dict := [(dkey 0x3033 1 0, 1)] }, (by decide +kernel)⟩

theorem test_brakeAndPoints_18_clusterIdle :
    ∃ (cluster : ClusterId) (t : Nat) (s : State), Canonical s ∧ s.dget 0x2100 4 ≠ 0 ∧ s.domain cluster.val = 2 ∧
      s.stepOn cluster.val = false ∧ tget 0 s.power.lastWork cluster.val + s.dget 0x2100 4 * 1000 ≤ t :=
  ⟨0, 5000, { on with dict := [(dkey 0x2100 4 0, 5), (dkey 0x3040 1 0, 2)] }, (by constructor <;> decide), (by decide +kernel)⟩

theorem test_brakeAndPoints_19_clusterIdle :
    ∃ (cluster : ClusterId) (t : Nat) (s : State),
      (s.dget 0x2100 4 = 0 ∨ s.domain cluster.val ≠ 2 ∨ s.stepOn cluster.val = true ∨ t < tget 0 s.power.lastWork cluster.val + s.dget 0x2100 4 * 1000) :=
  ⟨0, 5, on, (by decide +kernel)⟩

theorem test_temperatures_1_thermalSensorRead :
    ∃ (t : Nat) (sensor : Fin 100) (reading : BitVec 16) (s : State), Canonical s ∧ s.powered = true ∧
      s.dev.mode ≠ .tripped ∧ reading.toInt < 460 :=
  ⟨5, 3, 300, on, (by constructor <;> decide), (by decide +kernel)⟩

theorem test_temperatures_2_thermalSensorRead :
    ∃ (t : Nat) (sensor : Fin 100) (reading : BitVec 16) (s : State), Canonical s ∧ s.powered = true ∧
      s.dev.mode ≠ .tripped ∧ reading.toInt < 460 ∧ 380 ≤ reading.toInt ∧ sensor.val < 64 ∧
      tfind s.power.lastThrottle sensor.val = none ∧ 0 < s.dget 0x2100 10 sensor.val ∧
      s.dget 0x2100 10 sensor.val ≤ 11 :=
  ⟨5, 3, 390, on, (by constructor <;> decide), (by decide +kernel), (by decide +kernel), (by decide +kernel), (by decide +kernel)⟩

theorem test_temperatures_3_thermalSensorRead :
    ∃ (t : Nat) (sensor : Fin 100) (reading : BitVec 16) (s : State), Canonical s ∧ s.powered = true ∧
      s.dev.mode ≠ .tripped ∧ 460 ≤ reading.toInt :=
  ⟨5, 3, 470, on, (by constructor <;> decide), (by decide +kernel)⟩

theorem test_temperatures_4_thermalSensorRead :
    ∃ (t : Nat) (sensor : Fin 100) (reading : BitVec 16) (s : State), s.powered = false :=
  ⟨5, 3, 470, {}, (by decide +kernel)⟩

theorem test_temperatures_5_sensorFailed :
    ∃ (t : Nat) (sensor : Fin 100) (s : State), Canonical s ∧ s.powered = true ∧
      thas s.power.failed sensor.val = false :=
  ⟨5, 66, on, (by constructor <;> decide), (by decide +kernel)⟩

theorem test_temperatures_6_sensorFailed :
    ∃ (t : Nat) (sensor : Fin 100) (s : State), (s.powered = false ∨ thas s.power.failed sensor.val = true) :=
  ⟨5, 3, {}, (by decide +kernel)⟩

theorem test_temperatures_7_temperatureDifferenceCheck :
    ∃ (t : Nat) (cl : Nat) (s : State), Canonical s ∧ s.powered = true ∧ cl < 64 ∧ s.hotterBy cl 108 = true ∧
      0 < s.dget 0x2100 10 cl ∧ s.dget 0x2100 10 cl ≤ 11 :=
  ⟨5, 0, { on with dict := [(dkey 0x2100 13 0, 300), (dkey 0x3040 1 0, 2), (dkey 0x3040 1 1, 2)] }, (by constructor <;> decide), (by decide +kernel)⟩

theorem test_temperatures_8_temperatureDifferenceCheck :
    ∃ (t : Nat) (cl : Nat) (s : State), Canonical s ∧ s.powered = true ∧ cl < 64 ∧ s.hotterBy cl 108 = false ∧
      tget 0 s.power.region cl = 0 :=
  ⟨5, 0, on, (by constructor <;> decide), (by decide +kernel)⟩

theorem test_temperatures_9_temperatureDifferenceCheck :
    ∃ (t : Nat) (s : State), s.powered = false :=
  ⟨5, {}, (by decide +kernel)⟩

theorem test_temperatures_10_thermalSensorRead :
    ∃ (t : Nat) (sensor : Fin 100) (reading : BitVec 16) (s : State), Canonical s ∧ s.powered = true ∧ s.dev.mode =
      .tripped :=
  ⟨5, 7, 300, { on with dev := { mode := .tripped } }, (by constructor <;> decide), (by decide +kernel)⟩

theorem test_coresAndWear_1_basecampTakeover :
    ∃ (t : Nat) (s : State), Canonical s ∧ s.powered = true ∧ s.dget 0x3010 6 = 1 :=
  ⟨5, { on with dict := [(dkey 0x3010 6 0, 1)] }, (by constructor <;> decide), (by decide +kernel)⟩

theorem test_coresAndWear_2_basecampTakeover :
    ∃ (t : Nat) (s : State), Canonical s ∧ s.powered = true ∧ s.dget 0x3010 6 ≠ 1 :=
  ⟨5, { on with dict := [(dkey 0x3010 6 0, 0), (dkey 0x3040 1 0, 2)] }, (by constructor <;> decide), (by decide +kernel)⟩

theorem test_coresAndWear_3_basecampTakeover :
    ∃ (t : Nat) (s : State), s.powered = false :=
  ⟨5, {}, (by decide +kernel)⟩

theorem test_coresAndWear_4_coreRotatePeriod :
    ∃ (cluster : ClusterId) (t : Nat) (s : State), s.powered = true ∧ tsorted none s.health.rotatedAt = true ∧
      s.periodOver cluster.val t = true :=
  ⟨3, 3600000000000, { on with dict := [(dkey 0x3010 3 0, 1)] }, (by decide +kernel)⟩

theorem test_coresAndWear_5_coreRotatePeriod :
    ∃ (cluster : ClusterId) (t : Nat) (s : State), (s.powered = false ∨ s.periodOver cluster.val t = false) :=
  ⟨3, 3599999999999, { on with dict := [(dkey 0x3010 3 0, 1)] }, (by decide +kernel)⟩

theorem test_coresAndWear_6_coreRotation :
    ∃ (cluster : ClusterId) (p q : Nat) (s : State),
      s.serving? cluster.val (tget 0 s.health.nextPosition cluster.val) = some p ∧ s.spareOf cluster.val = some q ∧
      thas s.health.rotationDue cluster.val = true ∧ s.mayRotate cluster.val = true ∧ p < 17 ∧ q < 17 ∧
      (tget 0 s.health.nextPosition cluster.val) < 16 ∧ tsorted none s.health.nextPosition = true ∧
      tsorted none s.health.rotationDue = true :=
  ⟨0, 0, 1, { on with dict := [(dkey 0x3040 1 0, 2)], health := { coreState := [(0, 0), (1, 0xF1)], rotationDue := [(0, ())] } }, (by decide +kernel), (by decide +kernel), (by decide +kernel), (by decide +kernel), (by decide +kernel)⟩

theorem test_coresAndWear_7_coreRotation :
    ∃ (cluster : ClusterId) (p q : Nat) (s : State),
      s.serving? cluster.val (tget 0 s.health.nextPosition cluster.val) = some p ∧ s.spareOf cluster.val = some q ∧
      (thas s.health.rotationDue cluster.val = false ∨ s.mayRotate cluster.val = false) :=
  ⟨0, 0, 1, { on with health := { coreState := [(0, 0), (1, 0xF1)] } }, (by decide +kernel)⟩

theorem test_coresAndWear_8_rotationTestEnd :
    ∃ (cluster : ClusterId) (pass : Bool) (p : Nat) (s : State), Canonical s ∧
      tsorted none s.health.rotating = true ∧ tfind s.health.rotating cluster.val = some p ∧
      s.dget 0x3020 3 + 1 < 2 ^ 32 ∧ pass = true :=
  ⟨0, true, 4, { on with health := { rotating := [(0, 4)] } }, (by constructor <;> decide), (by decide +kernel)⟩

theorem test_coresAndWear_9_rotationTestEnd :
    ∃ (cluster : ClusterId) (pass : Bool) (p : Nat) (s : State), Canonical s ∧
      tsorted none s.health.rotating = true ∧ tfind s.health.rotating cluster.val = some p ∧
      s.dget 0x3020 3 + 1 < 2 ^ 32 ∧ pass = false :=
  ⟨0, false, 4, { on with health := { rotating := [(0, 4)] } }, (by constructor <;> decide), (by decide +kernel)⟩

theorem test_coresAndWear_10_rotationTestEnd :
    ∃ (cluster : ClusterId) (pass : Bool) (s : State), tfind s.health.rotating cluster.val = none ∧ thas
      s.health.spareTests cluster.val = false :=
  ⟨0, true, on, (by decide +kernel)⟩

theorem test_coresAndWear_11_clusterTestEnd :
    ∃ (cluster : ClusterId) (failed : List (Fin 17)) (restPassed : Bool) (iso : Bool) (s : State), Canonical s ∧
      s.health.testing = some (cluster.val, iso) ∧ failed = [] ∧ restPassed = true ∧ (iso = false ∨ s.poolOf
      cluster.val = none) :=
  ⟨3, [], true, false, { on with health := { testing := some (3, false) } }, (by constructor <;> decide), (by decide +kernel)⟩

theorem test_coresAndWear_12_clusterTestEnd :
    ∃ (cluster : ClusterId) (failed : List (Fin 17)) (restPassed : Bool) (s : State), Canonical s ∧
      s.health.testing = some (cluster.val, true) ∧ restPassed = false ∧ failed = [] :=
  ⟨3, [], false, { on with health := { testing := some (3, true) } }, (by constructor <;> decide), (by decide +kernel)⟩

theorem test_coresAndWear_13_clusterTestEnd :
    ∃ (cluster : ClusterId) (failed : List (Fin 17)) (restPassed : Bool) (s : State),
      ((s.health.testing.any fun x => decide (x.1 = cluster.val)) = false) :=
  ⟨3, [], true, on, (by decide +kernel)⟩

theorem test_coresAndWear_14_lifeAccumulate :
    ∃ (t : Nat) (means : List (Int × Nat)) (i : Nat) (m : Int × Nat) (s : State), s.powered = true ∧
      s.health.lastLife + 1000000000 ≤ t ∧ tsorted none s.health.lifeUs = true ∧ i < 64 ∧ means[i]? = some m ∧
      s.domain i ≠ 0 :=
  ⟨1000000000, [(20, 800)], 0, (20, 800), { on with dict := [(dkey 0x3040 1 0, 2)] }, (by decide +kernel), (by decide +kernel)⟩

theorem test_coresAndWear_15_lifeAccumulate :
    ∃ (t : Nat) (means : List (Int × Nat)) (i : Nat) (s : State), s.powered = true ∧
      s.health.lastLife + 1000000000 ≤ t ∧ tsorted none s.health.lifeUs = true ∧
      (s.domain i = 0 ∨ means.length ≤ i ∨ 64 ≤ i) :=
  ⟨1000000000, [(20, 800)], 5, { on with dict := [(dkey 0x3040 1 0, 2)] }, (by decide +kernel)⟩

theorem test_coresAndWear_16_lifeAccumulate :
    ∃ (t : Nat) (means : List (Int × Nat)) (s : State), (s.powered = false ∨ t < s.health.lastLife + 1000000000) :=
  ⟨5, [], on, (by decide +kernel)⟩

theorem test_coresAndWear_17_clusterTestEnd :
    ∃ (cluster : ClusterId) (failed : List (Fin 17)) (restPassed : Bool) (s : State), s.health.testing = some
      (cluster.val, true) ∧ failed = [] ∧ restPassed = true :=
  ⟨3, [], true, { on with health := { testing := some (3, true) } }, (by decide +kernel)⟩

theorem test_coresAndWear_18_rotationTestEnd :
    ∃ (cluster : ClusterId) (pass : Bool) (s : State), tfind s.health.rotating cluster.val = none ∧ thas
      s.health.spareTests cluster.val = true ∧ tsorted none s.health.spareTests = true ∧ pass = true :=
  ⟨3, true, { on with health := { spareTests := [(3, ())] } }, (by decide +kernel)⟩

theorem test_coresAndWear_19_rotationTestEnd :
    ∃ (cluster : ClusterId) (pass : Bool) (q : Nat) (s : State), tfind s.health.rotating cluster.val = none ∧ thas
      s.health.spareTests cluster.val = true ∧ tsorted none s.health.spareTests = true ∧ pass = false ∧ s.spareOf
      cluster.val = some q ∧ q < 17 :=
  ⟨0, false, 0, { on with health := { coreState := [(0, 0xF1)], spareTests := [(0, ())] } }, (by decide +kernel)⟩

theorem test_testAccessPort_1_tckEdge :
    ∃ (rising : Bool) (tms tdi : Bool) (observed : BitVec 500) (s : State),
      (s.powered = false ∨ s.dget 0x6010 2 = 0) :=
  ⟨true, true, false, 0, on, (by decide +kernel)⟩

theorem test_testAccessPort_2_tckEdge :
    ∃ (rising : Bool) (tms tdi : Bool) (observed : BitVec 500) (s : State), s.powered = true ∧ s.dget 0x6010 2 ≠ 0 ∧
      rising = true :=
  ⟨true, true, false, 0, { on with dict := [(dkey 0x6010 2 0, 1)], health := { tap := { state := .shiftIr } } }, (by decide +kernel)⟩

theorem test_testAccessPort_3_tckEdge :
    ∃ (rising : Bool) (tms tdi : Bool) (observed : BitVec 500) (s : State), s.powered = true ∧ s.dget 0x6010 2 ≠ 0 ∧
      rising = true ∧ s.health.tap.state = .shiftDr :=
  ⟨true, true, false, 0, { on with dict := [(dkey 0x6010 2 0, 1)], health := { tap := { state := .shiftDr } } }, (by decide +kernel)⟩

theorem test_testAccessPort_4_tckEdge :
    ∃ (rising : Bool) (tms tdi : Bool) (observed : BitVec 500) (s : State), s.powered = true ∧ s.dget 0x6010 2 ≠ 0 ∧
      rising = true ∧ s.health.tap.state = .captureDr :=
  ⟨true, true, false, 0, { on with dict := [(dkey 0x6010 2 0, 1)], health := { tap := { state := .captureDr } } }, (by decide +kernel)⟩

theorem test_testAccessPort_5_tckEdge :
    ∃ (rising : Bool) (tms tdi : Bool) (observed : BitVec 500) (s : State), s.powered = true ∧ s.dget 0x6010 2 ≠ 0 ∧
      rising = true ∧ s.health.tap.state = .shiftIr :=
  ⟨true, true, true, 0, { on with dict := [(dkey 0x6010 2 0, 1)], health := { tap := { state := .shiftIr } } }, (by decide +kernel)⟩

theorem test_testAccessPort_6_tckEdge :
    ∃ (rising : Bool) (tms tdi : Bool) (observed : BitVec 500) (s : State), s.powered = true ∧ s.dget 0x6010 2 ≠ 0 ∧
      rising = false ∧ s.health.tap.state ≠ .shiftDr ∧ s.health.tap.state ≠ .shiftIr :=
  ⟨false, true, false, 0, { on with dict := [(dkey 0x6010 2 0, 1)], health := { tap := { state := .updateIr } } }, (by decide +kernel)⟩

theorem test_testAccessPort_7_tckEdge :
    ∃ (rising : Bool) (tms tdi : Bool) (observed : BitVec 500) (s : State), s.powered = true ∧ s.dget 0x6010 2 ≠ 0 ∧
      s.driven = true ∧ rising = false ∧ s.health.tap.state = .shiftDr :=
  ⟨false, true, false, 0, { on with dict := [(dkey 0x6010 2 0, 1)], health := { tap := { state := .shiftDr } } }, (by decide +kernel)⟩

theorem test_testAccessPort_8_tckEdge :
    ∃ (rising : Bool) (tms tdi : Bool) (observed : BitVec 500) (s : State), s.powered = true ∧ s.dget 0x6010 2 ≠ 0 ∧
      s.driven = true ∧ rising = false ∧ s.health.tap.state = .shiftIr :=
  ⟨false, true, false, 0, { on with dict := [(dkey 0x6010 2 0, 1)], health := { tap := { state := .shiftIr } } }, (by decide +kernel)⟩

theorem test_testAccessPort_9_trstNAssert :
    ∃ (s : State), s.powered = true :=
  ⟨{ on with dict := [(dkey 0x6010 2 0, 1)], health := { tap := { state := .shiftDr } } }, (by decide +kernel)⟩

theorem test_testAccessPort_10_trstNAssert :
    ∃ (s : State), s.powered = false :=
  ⟨{}, (by decide +kernel)⟩

theorem test_reads_1_kopRead :
    ∃ (r : Requester) (index : BitVec 16) (sub type : BitVec 8) (length : BitVec 16) (offset : BitVec 32) (e :
      Entry) (b : Bytes) (s : State), s.reaches r = true ∧ s.loading = false ∧ findEntry index.toNat sub.toNat = some
      e ∧ mayRead r index.toNat = true ∧ (s.onlyAlwaysOn = false ∨ alwaysOn index.toNat = true) ∧ s.entryOff
      index.toNat = false ∧ (type.toNat = 0 ∨ type.toNat = e.type) ∧ e.index * 256 + e.sub ≠ 0x112001 ∧ (s.readValue e
      { op := 1, index := index.toNat, sub := sub.toNat, type := type.toNat, length := length.toNat, offset := offset.toNat }).toOption
      = some b ∧ b.length ≤ dataLimit r :=
  ⟨.hostPf, 0x2200, 2, 0, 0, 0, ⟨0x2200, 2, 4, 4, 1, 4, some (100, 192000), []⟩, [100, 0, 0, 0], { on with dict := [(dkey 0x3040 1 112, 2)] }, (by decide +kernel)⟩

theorem test_reads_2_kopRead :
    ∃ (r : Requester) (index : BitVec 16) (sub type : BitVec 8) (length : BitVec 16) (offset : BitVec 32) (s : State),
      s.reaches r = true ∧ s.loading = false ∧ findEntry index.toNat sub.toNat = none :=
  ⟨.hostPf, 0x2F00, 2, 0, 0, 0, on, (by decide +kernel)⟩

theorem test_reads_3_kopRead :
    ∃ (r : Requester) (index : BitVec 16) (sub type : BitVec 8) (length : BitVec 16) (offset : BitVec 32) (e :
      Entry) (s : State), s.reaches r = true ∧ s.loading = false ∧ findEntry index.toNat sub.toNat = some e ∧
      ((s.onlyAlwaysOn = true ∧ alwaysOn index.toNat = false) ∨ s.entryOff index.toNat = true) :=
  ⟨.hostPf, 0x2200, 4, 0, 0, 0, ⟨0x2200, 4, 1, 3, 1, 1, some (1, 1), []⟩, { on with dev := { on.dev with mode := .recovery } }, (by decide +kernel)⟩

theorem test_reads_4_kopRead :
    ∃ (r : Requester) (index : BitVec 16) (sub type : BitVec 8) (length : BitVec 16) (offset : BitVec 32) (e :
      Entry) (s : State), s.reaches r = true ∧ s.loading = false ∧ findEntry index.toNat sub.toNat = some e ∧
      (s.onlyAlwaysOn = false ∨ alwaysOn index.toNat = true) ∧ s.entryOff index.toNat = false ∧ mayRead r index.toNat
      = false :=
  ⟨.hostVf 3, 0x2200, 4, 0, 0, 0, ⟨0x2200, 4, 1, 3, 1, 1, some (1, 1), []⟩, { on with dict := [(dkey 0x3040 1 112, 2)], hif := { on.hif with numVfs := 16 } }, (by decide +kernel)⟩

theorem test_reads_5_kopRead :
    ∃ (r : Requester) (index : BitVec 16) (sub type : BitVec 8) (length : BitVec 16) (offset : BitVec 32) (e :
      Entry) (s : State), s.reaches r = true ∧ s.loading = false ∧ findEntry index.toNat sub.toNat = some e ∧ mayRead
      r index.toNat = true ∧ (s.onlyAlwaysOn = false ∨ alwaysOn index.toNat = true) ∧ s.entryOff index.toNat = false ∧
      type.toNat ≠ 0 ∧ type.toNat ≠ e.type :=
  ⟨.hostPf, 0x2200, 4, 7, 0, 0, ⟨0x2200, 4, 1, 3, 1, 1, some (1, 1), []⟩, { on with dict := [(dkey 0x3040 1 112, 2)] }, (by decide +kernel)⟩

theorem test_reads_6_kopRead :
    ∃ (r : Requester) (index : BitVec 16) (sub type : BitVec 8) (length : BitVec 16) (offset : BitVec 32) (s : State),
      s.reaches r = false :=
  ⟨.hostPf, 0x2200, 4, 7, 0, 0, {}, (by decide +kernel)⟩

theorem test_reads_7_kopDescribe :
    ∃ (r : Requester) (index : BitVec 16) (sub : BitVec 8) (e : Entry) (s : State), s.reaches r = true ∧
      s.loading = false ∧ findEntry index.toNat sub.toNat = some e ∧ mayRead r index.toNat = true :=
  ⟨.hostPf, 0x2200, 4, ⟨0x2200, 4, 1, 3, 1, 1, some (1, 1), []⟩, on, (by decide +kernel)⟩

theorem test_reads_8_kopDescribe :
    ∃ (r : Requester) (index : BitVec 16) (sub : BitVec 8) (s : State), s.reaches r = true ∧ s.loading = false ∧
      findEntry index.toNat sub.toNat = none :=
  ⟨.hostPf, 0x2F00, 2, on, (by decide +kernel)⟩

theorem test_reads_9_kopDescribe :
    ∃ (r : Requester) (index : BitVec 16) (sub : BitVec 8) (e : Entry) (s : State), s.reaches r = true ∧
      s.loading = false ∧ findEntry index.toNat sub.toNat = some e ∧ mayRead r index.toNat = false :=
  ⟨.hostVf 3, 0x2200, 4, ⟨0x2200, 4, 1, 3, 1, 1, some (1, 1), []⟩, { on with hif := { on.hif with numVfs := 16 } }, (by decide +kernel)⟩

theorem test_reads_10_kopDescribe :
    ∃ (r : Requester) (index : BitVec 16) (sub : BitVec 8) (s : State), s.reaches r = false :=
  ⟨.hostPf, 0x2200, 4, {}, (by decide +kernel)⟩

theorem test_reads_11_kopNext :
    ∃ (r : Requester) (index : BitVec 16) (sub : BitVec 8) (x : Nat × Nat) (s : State), s.reaches r = true ∧
      s.loading = false ∧ nextEntry r 8192 index.toNat (some sub.toNat) = some x ∧ x.1 < 2 ^ 16 ∧ x.2 < 2 ^ 8 :=
  ⟨.hostPf, 0x2200, 3, (0x2200, 4), on, (by decide +kernel)⟩

theorem test_reads_12_kopNext :
    ∃ (r : Requester) (index : BitVec 16) (sub : BitVec 8) (s : State), s.reaches r = true ∧ s.loading = false ∧
      nextEntry r 8192 index.toNat (some sub.toNat) = none :=
  ⟨.hostPf, 0xFFFF, 3, on, (by decide +kernel)⟩

theorem test_reads_13_kopNext :
    ∃ (r : Requester) (index : BitVec 16) (sub : BitVec 8) (s : State), s.reaches r = false :=
  ⟨.hostPf, 0x2200, 4, {}, (by decide +kernel)⟩

theorem test_writes_1_kopWrite :
    ∃ (r : Requester) (index : BitVec 16) (sub type : BitVec 8) (offset : BitVec 32) (data : Bytes) (e : Entry) (v : State) (s : State),
      s.admits r index.toNat sub.toNat = true ∧ data.length < 65536 ∧ findEntry index.toNat sub.toNat = some e ∧
      2 ≤ e.access ∧
      (writeCount e { op := 2, index := index.toNat, sub := sub.toNat, type := type.toNat, length := data.length, offset := offset.toNat, data := data }).toOption = some 1 ∧
      (s.writeElem (decide (Requester.class r = 2)) e index.toNat offset.toNat (e.part data 0)).1 = v ∧
      (s.writeElem (decide (Requester.class r = 2)) e index.toNat offset.toNat (e.part data 0)).2 = kOk ∧
      e.access ≠ 4 :=
  ⟨.hostPf, 0x3032, 4, 1, 0, [1], ⟨0x3032, 4, 1, 3, 1, 1, some (1, 1), []⟩, on.dset 0x3032 3 0 0, on, (by decide +kernel), (by decide +kernel), (by decide +kernel), (by decide +kernel)⟩

theorem test_writes_2_kopWrite :
    ∃ (r : Requester) (index : BitVec 16) (sub type : BitVec 8) (offset : BitVec 32) (data : Bytes) (e : Entry) (v : State) (s : State),
      s.admits r index.toNat sub.toNat = true ∧ data.length < 65536 ∧ findEntry index.toNat sub.toNat = some e ∧
      2 ≤ e.access ∧
      (writeCount e { op := 2, index := index.toNat, sub := sub.toNat, type := type.toNat, length := data.length, offset := offset.toNat, data := data }).toOption = some 1 ∧
      (s.writeElem (decide (Requester.class r = 2)) e index.toNat offset.toNat (e.part data 0)).1 = v ∧
      (s.writeElem (decide (Requester.class r = 2)) e index.toNat offset.toNat (e.part data 0)).2 = kOk ∧
      e.access = 4 :=
  ⟨.hostPf, 0x2200, 2, 4, 0, [0, 1, 0, 0], ⟨0x2200, 2, 4, 4, 1, 4, some (100, 192000), []⟩, on.dset 0x2200 2 0 256, on, (by decide +kernel), (by decide +kernel), (by decide +kernel), (by decide +kernel)⟩

theorem test_writes_3_kopWrite :
    ∃ (r : Requester) (index : BitVec 16) (sub type : BitVec 8) (offset : BitVec 32) (data : Bytes) (e : Entry) (n :
      Nat) (s : State), s.admits r index.toNat sub.toNat = true ∧ data.length < 65536 ∧ findEntry index.toNat
      sub.toNat = some e ∧ 2 ≤ e.access ∧ (writeCount e
      { op := 2, index := index.toNat, sub := sub.toNat, type := type.toNat, length := data.length, offset := offset.toNat, data := data }).toOption
      = some 1 ∧ (s.writeElem (decide (Requester.class r = 2)) e index.toNat offset.toNat (e.part data 0)).2 = n ∧ n ≠
      kOk ∧ ¬ (index.toNat = 0x1120 ∧ sub.toNat = 2) ∧ ¬ (index.toNat = 0x7000 ∧ 3 ≤ sub.toNat ∧ sub.toNat ≤ 5) :=
  ⟨.hostPf, 0x2200, 2, 4, 0, [1, 0, 0, 0], ⟨0x2200, 2, 4, 4, 1, 4, some (100, 192000), []⟩, kRange, on, (by decide +kernel)⟩

theorem test_writes_4_kopWrite :
    ∃ (r : Requester) (index : BitVec 16) (sub type : BitVec 8) (offset : BitVec 32) (data : Bytes) (e : Entry) (s : State),
      s.admits r index.toNat sub.toNat = true ∧ data.length < 65536 ∧ findEntry index.toNat sub.toNat = some e ∧
      2 ≤ e.access ∧ type.toNat ≠ e.type :=
  ⟨.hostPf, 0x2200, 2, 5, 0, [1, 0, 0, 0], ⟨0x2200, 2, 4, 4, 1, 4, some (100, 192000), []⟩, on, (by decide +kernel)⟩

theorem test_writes_5_kopWrite :
    ∃ (r : Requester) (index : BitVec 16) (sub type : BitVec 8) (offset : BitVec 32) (data : Bytes) (e : Entry) (s : State),
      s.admits r index.toNat sub.toNat = true ∧ data.length < 65536 ∧ findEntry index.toNat sub.toNat = some e ∧
      2 ≤ e.access ∧ type.toNat = e.type ∧ e.type < 8 ∧ offset = 0 ∧ data.length ≠ e.size :=
  ⟨.hostPf, 0x2200, 2, 4, 0, [1, 0, 0], ⟨0x2200, 2, 4, 4, 1, 4, some (100, 192000), []⟩, on, (by decide +kernel), (by decide +kernel), (by decide +kernel), (by decide +kernel)⟩

theorem test_writes_6_kopWrite :
    ∃ (r : Requester) (index : BitVec 16) (sub type : BitVec 8) (offset : BitVec 32) (data : Bytes) (s : State),
      s.reaches r = true ∧ s.loading = false ∧ findEntry index.toNat sub.toNat = none ∧ Requester.class r ≠ 3 :=
  ⟨.hostPf, 0x2F00, 2, 0, 0, [], on, (by decide +kernel)⟩

theorem test_writes_7_kopWrite :
    ∃ (r : Requester) (index : BitVec 16) (sub type : BitVec 8) (offset : BitVec 32) (data : Bytes) (e : Entry) (s : State),
      s.reaches r = true ∧ s.loading = false ∧ findEntry index.toNat sub.toNat = some e ∧
      mayRead r index.toNat = true ∧ s.onlyAlwaysOn = false ∧ Requester.class r ≠ 3 ∧ e.access < 2 :=
  ⟨.hostPf, 0x1000, 1, 3, 0, [1, 0], ⟨0x1000, 1, 3, 0, 1, 2, none, []⟩, on, (by decide +kernel), (by decide +kernel), (by decide +kernel)⟩

theorem test_writes_8_kopWrite :
    ∃ (r : Requester) (index : BitVec 16) (sub type : BitVec 8) (offset : BitVec 32) (data : Bytes) (e : Entry) (s : State),
      s.reaches r = true ∧ s.loading = false ∧ findEntry index.toNat sub.toNat = some e ∧
      mayRead r index.toNat = true ∧ s.onlyAlwaysOn = false ∧ Requester.class r ≠ 3 ∧ 2 ≤ e.access ∧
      s.mayWrite r index.toNat sub.toNat = false :=
  ⟨.hostPf, 0x7000, 1, 1, 0, [1], ⟨0x7000, 1, 1, 2, 1, 1, some (0, 1), []⟩, on, (by decide +kernel), (by decide +kernel), (by decide +kernel), (by decide +kernel)⟩

theorem test_writes_9_kopWrite :
    ∃ (r : Requester) (index : BitVec 16) (sub type : BitVec 8) (offset : BitVec 32) (data : Bytes) (e : Entry) (s : State),
      s.reaches r = true ∧ s.loading = false ∧ findEntry index.toNat sub.toNat = some e ∧ Requester.class r = 3 :=
  ⟨.serviceBus, 0x2200, 2, 4, 0, [1, 0, 0, 0], ⟨0x2200, 2, 4, 4, 1, 4, some (100, 192000), []⟩, { on with dict := [(dkey 0x1110 1 0, 1), (dkey 0x2000 1 0, 0)] }, (by decide +kernel)⟩

theorem test_writes_10_kopWrite :
    ∃ (r : Requester) (index : BitVec 16) (sub type : BitVec 8) (offset : BitVec 32) (data : Bytes) (s : State),
      s.reaches r = false :=
  ⟨.hostPf, 0x2200, 2, 4, 0, [1, 0, 0, 0], {}, (by decide +kernel)⟩

theorem test_writes_11_kopWrite :
    ∃ (r : Requester) (index : BitVec 16) (sub type : BitVec 8) (offset : BitVec 32) (data : Bytes) (e : Entry) (n :
      Nat) (s : State), s.admits r index.toNat sub.toNat = true ∧ data.length < 65536 ∧ findEntry index.toNat
      sub.toNat = some e ∧ 2 ≤ e.access ∧ (writeCount e
      { op := 2, index := index.toNat, sub := sub.toNat, type := type.toNat, length := data.length, offset := offset.toNat, data := data }).toOption
      = some 1 ∧ (s.writeElem (decide (Requester.class r = 2)) e index.toNat offset.toNat (e.part data 0)).2 = n ∧ n ≠
      kOk ∧ index.toNat = 0x1120 ∧ sub.toNat = 2 :=
  ⟨.hostPf, 0x1120, 2, 9, 0, leBytes 97 0, ⟨0x1120, 2, 9, 3, 97, 1, some (97, 97), []⟩, kAuth, on, (by decide +kernel)⟩

theorem test_writes_12_kopWrite :
    ∃ (r : Requester) (index : BitVec 16) (sub type : BitVec 8) (offset : BitVec 32) (data : Bytes) (e : Entry) (n :
      Nat) (s : State), s.admits r index.toNat sub.toNat = true ∧ data.length < 65536 ∧ findEntry index.toNat
      sub.toNat = some e ∧ 2 ≤ e.access ∧ (writeCount e
      { op := 2, index := index.toNat, sub := sub.toNat, type := type.toNat, length := data.length, offset := offset.toNat, data := data }).toOption
      = some 1 ∧ (s.writeElem (decide (Requester.class r = 2)) e index.toNat offset.toNat (e.part data 0)).2 = n ∧ n ≠
      kOk ∧ index.toNat = 0x7000 ∧ 3 ≤ sub.toNat ∧ sub.toNat ≤ 5 :=
  ⟨.hostPf, 0x7000, 3, 3, 0, [5, 0], ⟨0x7000, 3, 3, 3, 1, 2, some (0, 1023), []⟩, kState, adm, (by decide +kernel)⟩

theorem test_roles_1_roleChallenge :
    ∃ (r : Requester) (drawn : Bytes) (s : State), s.reaches r = true ∧ s.loading = false ∧ s.onlyAlwaysOn = false ∧
      s.entryOff 0x1120 = false ∧ mayRead r 0x1120 = true :=
  ⟨.hostPf, [7], { on with dict := [(dkey 0x3040 1 112, 2)] }, (by decide +kernel)⟩

theorem test_roles_2_roleChallenge :
    ∃ (r : Requester) (drawn : Bytes) (s : State), s.reaches r = true ∧ s.loading = false ∧ s.onlyAlwaysOn = false ∧
      s.entryOff 0x1120 = false ∧ mayRead r 0x1120 = false :=
  ⟨.hostVf 3, [7], { on with dict := [(dkey 0x3040 1 112, 2)], hif := { on.hif with numVfs := 16 } }, (by decide +kernel)⟩

theorem test_roles_3_roleChallenge :
    ∃ (r : Requester) (drawn : Bytes) (s : State), s.reaches r = false :=
  ⟨.hostPf, [7], {}, (by decide +kernel)⟩

theorem test_roles_4_roleResponse :
    ∃ (r : Requester) (response : Bytes) (t : Nat) (s : State), Canonical s ∧ s.powered = true ∧
      (s.at t).admits r 0x1120 2 = true ∧ response.length = 97 ∧ s.dget 0x1120 6 + 1 < 2 ^ 32 ∧
      max s.uptime t < (s.role (decide (Requester.class r = 2))).lockedUntil :=
  ⟨.hostPf, List.replicate 97 1, 5, { on with kop := { loadedOnce := true, rolePf := { lockedUntil := 9 } } }, (by constructor <;> decide), (by decide +kernel)⟩

theorem test_roles_5_roleResponse :
    ∃ (r : Requester) (response : Bytes) (t : Nat) (s : State), Canonical s ∧ s.powered = true ∧
      (s.at t).admits r 0x1120 2 = true ∧ response.length = 97 ∧ s.dget 0x1120 6 + 1 < 2 ^ 32 ∧
      (s.role (decide (Requester.class r = 2))).lockedUntil ≤ max s.uptime t ∧
      ((s.role (decide (Requester.class r = 2))).challenge = none ∨ 3 < byteAt response 0 ∨ s.keyState (byteAt response 0) ≠ 1) ∧
      (s.role (decide (Requester.class r = 2))).fails < 7 :=
  ⟨.hostPf, List.replicate 97 1, 5, on, (by constructor <;> decide), (by decide +kernel), (by decide +kernel), (by decide +kernel)⟩

theorem test_roles_6_roleResponse :
    ∃ (r : Requester) (response : Bytes) (t : Nat) (s : State), Canonical s ∧ s.powered = true ∧
      (s.at t).admits r 0x1120 2 = true ∧ response.length = 97 ∧ s.dget 0x1120 6 + 1 < 2 ^ 32 ∧
      (s.role (decide (Requester.class r = 2))).lockedUntil ≤ max s.uptime t ∧
      ((s.role (decide (Requester.class r = 2))).challenge = none ∨ 3 < byteAt response 0 ∨ s.keyState (byteAt response 0) ≠ 1) ∧
      7 ≤ (s.role (decide (Requester.class r = 2))).fails :=
  ⟨.hostPf, List.replicate 97 1, 5, { on with kop := { loadedOnce := true, rolePf := { fails := 7 } } }, (by constructor <;> decide), (by decide +kernel), (by decide +kernel), (by decide +kernel)⟩

theorem test_roles_7_roleResponse :
    ∃ (r : Requester) (response : Bytes) (t : Nat) (ch : Bytes) (s : State), Canonical s ∧ s.powered = true ∧
      (s.at t).admits r 0x1120 2 = true ∧ response.length = 97 ∧ s.dget 0x1120 6 + 1 < 2 ^ 32 ∧
      (s.role (decide (Requester.class r = 2))).lockedUntil ≤ max s.uptime t ∧
      (s.role (decide (Requester.class r = 2))).challenge = some ch ∧ byteAt response 0 ≤ 3 ∧
      s.keyState (byteAt response 0) = 1 ∧ (s.role (decide (Requester.class r = 2))).fails < 7 :=
  ⟨.hostPf, List.replicate 97 0, 5, [7], { on with kop := { loadedOnce := true, rolePf := { challenge := some [7] } } }, (by constructor <;> decide), (by decide +kernel), (by decide +kernel), (by decide +kernel), (by decide +kernel), (by decide +kernel)⟩

theorem test_roles_8_roleResponse :
    ∃ (r : Requester) (response : Bytes) (t : Nat) (s : State), s.powered = false :=
  ⟨.hostPf, [7], 5, {}, (by decide +kernel)⟩

theorem test_roles_9_roleDrop :
    ∃ (r : Requester) (s : State), Canonical s ∧ s.admits r 0x1120 4 = true :=
  ⟨.hostPf, adm, (by constructor <;> decide), (by decide +kernel)⟩

theorem test_roles_10_roleDrop :
    ∃ (r : Requester) (s : State), s.reaches r = false :=
  ⟨.hostPf, {}, (by decide +kernel)⟩

theorem test_roles_11_roleLeaseExpired :
    ∃ (management : Bool) (t : Nat) (e : Nat) (s : State), s.powered = true ∧
      (s.role management).grantUntil = some e ∧ e ≤ t :=
  ⟨false, 1000000000000, 1000000000000, adm, (by decide +kernel)⟩

theorem test_roles_12_roleLeaseExpired :
    ∃ (management : Bool) (t : Nat) (s : State), (s.powered = false ∨ (s.role management).grantUntil = none) :=
  ⟨false, 5, on, (by decide +kernel)⟩

theorem test_roles_13_roleLeaseExpired :
    ∃ (management : Bool) (t : Nat) (e : Nat) (s : State), (s.role management).grantUntil = some e ∧ t < e :=
  ⟨false, 5, 1000000000000, adm, (by decide +kernel)⟩

theorem test_roles_14_managementLinkDown :
    ∃ (t : Nat) (s : State), s.powered = true ∧ (s.role true).grantUntil.isSome = true :=
  ⟨5, { on with kop := { loadedOnce := true, roleMgt := { grantUntil := some 9 } } }, (by decide +kernel)⟩

theorem test_roles_15_managementLinkDown :
    ∃ (t : Nat) (s : State), s.powered = true ∧ (s.role true).grantUntil = none :=
  ⟨5, on, (by decide +kernel)⟩

theorem test_roles_16_managementLinkDown :
    ∃ (t : Nat) (s : State), s.powered = false :=
  ⟨5, {}, (by decide +kernel)⟩

theorem test_transports_1_managementDatagram :
    ∃ (t : Nat) (srcIp : BitVec 32) (srcPort : BitVec 16) (frame : MgtUdp) (pdu : Bytes) (k : Kept) (s : State),
      (s.at t).mgtListens = true ∧ mgtFrameOk frame.toMgtFrame = true ∧ (s.at t).mgtPort frame = true ∧
      frame.checksummed = true ∧ samePrefix ((s.at t).bootGet 0x1100 8) srcIp.toNat ((s.at t).bootGet 0x1100 7) = true
      ∧ 16 ≤ pdu.length ∧ pdu.length ≤ 1472 ∧ s.keptOf srcIp.toNat srcPort.toNat = some k ∧ k.request = pdu ∧ max
      s.uptime t ≤ k.time + 1000000000 :=
  ⟨5, 0x0A000003, 9, { dst := BitVec.allOnes 48, dstIp := 0x0A000002, dstPort := 5720 }, [1, 4, 0, 0, 7, 0, 0, 0x22, 3, 0, 0, 0, 0, 0, 0, 0], { ip := 0x0A000003, port := 9, time := 0, request := [1, 4, 0, 0, 7, 0, 0, 0x22, 3, 0, 0, 0, 0, 0, 0, 0], response := [1] }, { on with dict := [(dkey 0x1100 1 0, 1), (dkey 0x1100 3 0, 0x0A000002), (dkey 0x1100 4 0, 24), (dkey 0x2000 1 0, 0), (dkey 0x3040 1 117, 2)], kop := { loadedOnce := true, kept := [{ ip := 0x0A000003, port := 9, time := 0, request := [1, 4, 0, 0, 7, 0, 0, 0x22, 3, 0, 0, 0, 0, 0, 0, 0], response := [1] }] } }, (by decide +kernel)⟩

theorem test_transports_2_managementDatagram :
    ∃ (t : Nat) (srcIp : BitVec 32) (srcPort : BitVec 16) (frame : MgtUdp) (pdu : Bytes) (v : State × Bytes) (s :
      State), (s.at t).mgtListens = true ∧ mgtFrameOk frame.toMgtFrame = true ∧ (s.at t).mgtPort frame = true ∧
      frame.checksummed = true ∧ samePrefix ((s.at t).bootGet 0x1100 8) srcIp.toNat ((s.at t).bootGet 0x1100 7) = true
      ∧ 16 ≤ pdu.length ∧ pdu.length ≤ 1472 ∧ (s.keptOf srcIp.toNat srcPort.toNat = none ∨ (s.keptOf srcIp.toNat
      srcPort.toNat).any (fun k => decide (k.request ≠ pdu) || decide (k.time + 1000000000 < max s.uptime t)) = true)
      ∧ (s.at t).kopPdu .management pdu pdu.length = v :=
  ⟨5, 0x0A000003, 9, { dst := BitVec.allOnes 48, dstIp := 0x0A000002, dstPort := 5720 }, [1, 4, 0, 0, 7, 0, 0, 0x22, 3, 0, 0, 0, 0, 0, 0, 0], _, { on with dict := [(dkey 0x1100 1 0, 1), (dkey 0x1100 3 0, 0x0A000002), (dkey 0x1100 4 0, 24), (dkey 0x2000 1 0, 0), (dkey 0x3040 1 117, 2)] }, (by decide +kernel), (by decide +kernel), (by decide +kernel), (by decide +kernel), (by decide +kernel), (by decide +kernel), (by decide +kernel), (by decide +kernel), rfl⟩

theorem test_transports_3_managementDatagram :
    ∃ (t : Nat) (srcIp : BitVec 32) (srcPort : BitVec 16) (frame : MgtUdp) (pdu : Bytes) (s : State), ((s.at
      t).mgtListens = false ∨ mgtFrameOk frame.toMgtFrame = false ∨ (s.at t).mgtPort frame = false ∨ frame.checksummed
      = false ∨ samePrefix ((s.at t).bootGet 0x1100 8) srcIp.toNat ((s.at t).bootGet 0x1100 7) = false ∨ pdu.length <
      16 ∨ 1472 < pdu.length) :=
  ⟨5, 0x0A000003, 9, { dst := 1, checksummed := false, dstIp := 0, dstPort := 0 }, [], on, (by decide +kernel)⟩

theorem test_transports_4_arpRequest :
    ∃ (sender : ArpSender) (senderIp targetIp : BitVec 32) (s : State), s.mgtListens = true ∧ sender.tagged = false
      ∧ forMgt sender.dst = true ∧ targetIp.toNat = s.mgtIp :=
  ⟨{ mac := 7, dst := BitVec.allOnes 48 }, 0x0A000003, 0x0A000002, { on with dict := [(dkey 0x1100 1 0, 1), (dkey 0x1100 3 0, 0x0A000002), (dkey 0x1100 4 0, 24), (dkey 0x2000 1 0, 0), (dkey 0x3040 1 117, 2)] }, (by decide +kernel)⟩

theorem test_transports_5_arpRequest :
    ∃ (sender : ArpSender) (senderIp targetIp : BitVec 32) (s : State), s.mgtListens = true ∧ sender.tagged = false
      ∧ forMgt sender.dst = true ∧ targetIp.toNat ≠ s.mgtIp ∧ (s.kop.arp.any (fun x => decide (x.2 = senderIp.toNat))
      = true) :=
  ⟨{ mac := 7, dst := BitVec.allOnes 48 }, 0x0A000003, 0x0A000004, { on with dict := [(dkey 0x1100 1 0, 1), (dkey 0x1100 3 0, 0x0A000002), (dkey 0x1100 4 0, 24), (dkey 0x2000 1 0, 0), (dkey 0x3040 1 117, 2)], kop := { loadedOnce := true, arp := [(5, 0x0A000003)] } }, (by decide +kernel)⟩

theorem test_transports_6_arpRequest :
    ∃ (sender : ArpSender) (senderIp targetIp : BitVec 32) (s : State), (s.mgtListens = false ∨ sender.tagged = true
      ∨ forMgt sender.dst = false ∨ (targetIp.toNat ≠ s.mgtIp ∧ s.kop.arp.all (fun x => decide (x.2 ≠ senderIp.toNat))
      = true)) :=
  ⟨{ mac := 7, dst := BitVec.allOnes 48 }, 0x0A000003, 0x0A000004, { on with dict := [(dkey 0x1100 1 0, 1), (dkey 0x1100 3 0, 0x0A000002), (dkey 0x1100 4 0, 24), (dkey 0x2000 1 0, 0), (dkey 0x3040 1 117, 2)] }, (by decide +kernel)⟩

theorem test_transports_7_icmpEcho :
    ∃ (srcIp dstIp : BitVec 32) (hop : Nat) (echo : MgtEcho) (s : State), s.mgtListens = true ∧ mgtFrameOk
      echo.frame = true ∧ dstIp.toNat = s.mgtIp ∧ echo.payload.length ≤ 1472 ∧ s.nextHop srcIp.toNat = some hop :=
  ⟨0x0A000003, 0x0A000002, 0x0A000003, { frame := { dst := BitVec.allOnes 48 }, payload := [1, 2] }, { on with dict := [(dkey 0x1100 1 0, 1), (dkey 0x1100 3 0, 0x0A000002), (dkey 0x1100 4 0, 24), (dkey 0x2000 1 0, 0), (dkey 0x3040 1 117, 2)] }, (by decide +kernel)⟩

theorem test_transports_8_icmpEcho :
    ∃ (srcIp dstIp : BitVec 32) (echo : MgtEcho) (s : State), (s.mgtListens = false ∨ s.nextHop srcIp.toNat = none ∨
      mgtFrameOk echo.frame = false ∨ dstIp.toNat ≠ s.mgtIp ∨ 1472 < echo.payload.length) :=
  ⟨0x0A000003, 0x0A000002, { frame := { dst := BitVec.allOnes 48 }, payload := [1, 2] }, on, (by decide +kernel)⟩

theorem test_transports_9_mbxGo :
    ∃ (f : Func) (value : BitVec 64) (s : State), Canonical s ∧ s.reachable f = true ∧ (s.mail f).busy = true ∧
      s.dget 0x1120 7 + 1 < 2 ^ 32 :=
  ⟨.pf, 5, { on with hif := { on.hif with mailbox := [(0, { busy := true })] } }, (by constructor <;> decide), (by decide +kernel)⟩

theorem test_transports_10_mbxGo :
    ∃ (f : Func) (value : BitVec 64) (m : Mailbox) (v : State × Bytes) (s : State), s.reachable f = true ∧ (s.mail
      f).busy = false ∧ tsorted none s.hif.mailbox = true ∧ m =
      { s.mail f with irqEn := bit (value ||| 1).toNat 3, reqBytes := bits (value ||| 1).toNat 31 16, vector := (match f with | .pf => 0 | .vf _ => bits (value ||| 1).toNat 58 56), done := (s.mail f).done && !bit (value ||| 1).toNat 2 }
      ∧ 16 ≤ m.reqBytes ∧ (s.setMail f { m with busy := true }).kopPdu (mailRequester f) (padTo m.request m.reqBytes)
      (if requestArea f < m.reqBytes then 0 else m.reqBytes) = v ∧ (v.1.mail f).busy = true :=
  ⟨.pf, 0x00100008, _, _, { on with hif := { on.hif with mailbox := [(0, { request := [1, 4, 0, 0, 7, 0, 0, 0x22, 3, 0, 0, 0, 0, 0, 0, 0] })] } }, (by decide +kernel), (by decide +kernel), (by decide +kernel), rfl, (by decide +kernel), rfl, (by decide +kernel)⟩

theorem test_transports_11_mbxGo :
    ∃ (f : Func) (value : BitVec 64) (s : State), s.reachable f = false :=
  ⟨.pf, 5, {}, (by decide +kernel)⟩

theorem test_transports_13_mbxGo :
    ∃ (f : Func) (value : BitVec 64) (m : Mailbox) (s : State), s.reachable f = true ∧ (s.mail f).busy = false ∧
      tsorted none s.hif.mailbox = true ∧ m =
      { s.mail f with irqEn := bit (value ||| 1).toNat 3, reqBytes := bits (value ||| 1).toNat 31 16, vector := (match f with | .pf => 0 | .vf _ => bits (value ||| 1).toNat 58 56), done := (s.mail f).done && !bit (value ||| 1).toNat 2 }
      ∧ m.reqBytes < 16 :=
  ⟨.pf, 0x00020008, _, on, (by decide +kernel), (by decide +kernel), (by decide +kernel), rfl, (by decide +kernel)⟩

theorem test_transports_12_mbxGo :
    ∃ (f : Func) (value : BitVec 64) (m : Mailbox) (s : State), s.reachable f = true ∧ (s.mail f).busy = false ∧
      tsorted none s.hif.mailbox = true ∧ m =
      { s.mail f with irqEn := bit (value ||| 1).toNat 3, reqBytes := bits (value ||| 1).toNat 31 16, vector := (match f with | .pf => 0 | .vf _ => bits (value ||| 1).toNat 58 56), done := (s.mail f).done && !bit (value ||| 1).toNat 2 }
      ∧ m.reqBytes < 16 :=
  ⟨.pf, 0x00020008, _, on, (by decide +kernel), (by decide +kernel), (by decide +kernel), rfl, (by decide +kernel)⟩

theorem test_serviceBus_1_serviceBusSegment :
    ∃ (t : Nat) (segment : Bytes) (s : State), s.reaches .serviceBus = true ∧ segment.length = 64 ∧
      s.kop.sbNext = 0 ∧ bit (byteAt segment 0) 7 = true ∧ bit (byteAt segment 0) 6 = false ∧
      byteAt segment 0 % 16 = 0 :=
  ⟨5, 128 :: List.replicate 63 7, { on with dict := [(dkey 0x1110 1 0, 1), (dkey 0x2000 1 0, 0)] }, (by decide +kernel), (by decide +kernel)⟩

theorem test_serviceBus_2_serviceBusSegment :
    ∃ (t : Nat) (segment : Bytes) (s : State), s.reaches .serviceBus = true ∧ segment.length = 64 ∧
      s.kop.sbNext ≠ 0 ∧ bit (byteAt segment 0) 7 = false ∧ max s.uptime t ≤ s.kop.sbTime + 100000000 ∧
      byteAt segment 0 % 16 = s.kop.sbNext ∧ bit (byteAt segment 0) 6 = false ∧ byteAt segment 0 % 16 < 15 :=
  ⟨5, 3 :: List.replicate 63 7, { on with dict := [(dkey 0x1110 1 0, 1), (dkey 0x2000 1 0, 0)], kop := { loadedOnce := true, sbNext := 3, sbBytes := [1] } }, (by decide +kernel), (by decide +kernel), (by decide +kernel), (by decide +kernel)⟩

theorem test_serviceBus_3_serviceBusSegment :
    ∃ (t : Nat) (segment : Bytes) (n : Nat) (s : State), s.reaches .serviceBus = true ∧ segment.length = 64 ∧
      s.kop.sbNext ≠ 0 ∧ bit (byteAt segment 0) 7 = false ∧ max s.uptime t ≤ s.kop.sbTime + 100000000 ∧
      byteAt segment 0 % 16 = s.kop.sbNext ∧ bit (byteAt segment 0) 6 = true ∧
      n = (if (pduLength (parsePdu (s.kop.sbBytes ++ slice segment 1 63)) + 62) / 63 = byteAt segment 0 % 16 + 1 then pduLength (parsePdu (s.kop.sbBytes ++ slice segment 1 63)) else 63 * (byteAt segment 0 % 16 + 1)) :=
  ⟨5, 65 :: List.replicate 63 0, 126, { on with dict := [(dkey 0x1110 1 0, 1), (dkey 0x2000 1 0, 0)], kop := { loadedOnce := true, sbNext := 1, sbBytes := [1, 1] ++ List.replicate 61 0 } }, (by decide +kernel), (by decide +kernel), (by decide +kernel), (by decide +kernel)⟩

theorem test_serviceBus_4_serviceBusSegment :
    ∃ (t : Nat) (segment : Bytes) (s : State), Canonical s ∧ s.reaches .serviceBus = true ∧ segment.length = 64 ∧
      s.dget 0x1110 6 + 1 < 2 ^ 32 ∧ s.kop.sbNext ≠ 0 ∧ bit (byteAt segment 0) 7 = false ∧
      (s.kop.sbTime + 100000000 < max s.uptime t ∨ byteAt segment 0 % 16 ≠ s.kop.sbNext) :=
  ⟨5, 4 :: List.replicate 63 7, { on with dict := [(dkey 0x1110 1 0, 1), (dkey 0x2000 1 0, 0)], kop := { loadedOnce := true, sbNext := 3, sbBytes := [1] } }, (by constructor <;> decide), (by decide +kernel), (by decide +kernel)⟩

theorem test_serviceBus_5_serviceBusSegment :
    ∃ (t : Nat) (segment : Bytes) (s : State), (s.reaches .serviceBus = false ∨ segment.length ≠ 64) :=
  ⟨5, [], on, (by decide +kernel)⟩

theorem test_serviceBus_6_serviceBusSegmentTimeout :
    ∃ (t : Nat) (s : State), Canonical s ∧ s.powered = true ∧ s.kop.sbNext ≠ 0 ∧
      s.kop.sbTime + 100000000 < max s.uptime t ∧ s.dget 0x1110 6 + 1 < 2 ^ 32 :=
  ⟨100000001, { on with kop := { loadedOnce := true, sbNext := 3, sbBytes := [1] } }, (by constructor <;> decide), (by decide +kernel)⟩

theorem test_serviceBus_7_serviceBusSegmentTimeout :
    ∃ (t : Nat) (s : State), (s.powered = false ∨ s.kop.sbNext = 0 ∨ max s.uptime t ≤ s.kop.sbTime + 100000000) :=
  ⟨5, on, (by decide +kernel)⟩

theorem test_serviceBus_8_sbStatusPeriod :
    ∃ (t : Nat) (s : State), s.canSends = true ∧
      (s.kop.sbLast.all (fun x => decide (x + s.bootGet 0x1110 5 * 1000000 ≤ max s.uptime t)) = true) ∧
      s.dev.mode ≠ .tripped :=
  ⟨5, { on with dict := [(dkey 0x1110 1 0, 1), (dkey 0x2000 1 0, 0)] }, (by decide +kernel)⟩

theorem test_serviceBus_9_sbStatusPeriod :
    ∃ (t : Nat) (s : State),
      (s.canSends = false ∨ s.kop.sbLast.all (fun x => decide (x + s.bootGet 0x1110 5 * 1000000 ≤ max s.uptime t)) = false) :=
  ⟨5, {}, (by decide +kernel)⟩

theorem test_storeInstallation_1_installModeEnter :
    ∃ (r : Requester) (s : State), Canonical s ∧ s.admits r 0x7000 1 = true ∧ s.dget 0x7000 2 = 0 :=
  ⟨.hostPf, adm, (by constructor <;> decide), (by decide +kernel)⟩

theorem test_storeInstallation_2_installModeEnter :
    ∃ (r : Requester) (s : State), Canonical s ∧ s.admits r 0x7000 1 = true ∧ s.dget 0x7000 2 ≠ 0 :=
  ⟨.hostPf, inst, (by constructor <;> decide), (by decide +kernel)⟩

theorem test_storeInstallation_3_installModeEnter :
    ∃ (r : Requester) (s : State), s.reaches r = false :=
  ⟨.hostPf, {}, (by decide +kernel)⟩

theorem test_storeInstallation_4_installModeExit :
    ∃ (r : Requester) (s : State), Canonical s ∧ s.admits r 0x7000 1 = true :=
  ⟨.hostPf, inst, (by constructor <;> decide), (by decide +kernel)⟩

theorem test_storeInstallation_5_installModeExit :
    ∃ (r : Requester) (s : State), s.reaches r = false :=
  ⟨.hostPf, {}, (by decide +kernel)⟩

theorem test_storeInstallation_6_storeOpen :
    ∃ (r : Requester) (slot : BitVec 16) (s : State), Canonical s ∧ s.admits r 0x7000 3 = true ∧ slot.toNat ≤ 1023 ∧
      s.dget 0x7000 2 = 2 ∧ s.store.opened = none ∧ s.slotBound slot.toNat = false :=
  ⟨.hostPf, 3, inst, (by constructor <;> decide), (by decide +kernel)⟩

theorem test_storeInstallation_7_storeOpen :
    ∃ (r : Requester) (slot : BitVec 16) (s : State), Canonical s ∧ s.admits r 0x7000 3 = true ∧ slot.toNat ≤ 1023 ∧
      s.dget 0x7000 2 ≠ 2 :=
  ⟨.hostPf, 3, adm, (by constructor <;> decide), (by decide +kernel)⟩

theorem test_storeInstallation_8_storeOpen :
    ∃ (r : Requester) (slot : BitVec 16) (s : State), Canonical s ∧ s.admits r 0x7000 3 = true ∧ slot.toNat ≤ 1023 ∧
      s.dget 0x7000 2 = 2 ∧ s.store.opened.isSome = true :=
  ⟨.hostPf, 3, writing { slot := 3 }, (by constructor <;> decide), (by decide +kernel)⟩

theorem test_storeInstallation_9_storeOpen :
    ∃ (r : Requester) (slot : BitVec 16) (s : State), Canonical s ∧ s.admits r 0x7000 3 = true ∧ slot.toNat ≤ 1023 ∧
      s.dget 0x7000 2 = 2 ∧ s.store.opened = none ∧ s.slotBound slot.toNat = true :=
  ⟨.hostPf, 3, { inst with serve := { bindings := [(2, { owner := 0, slot := 3, state := .bound, modelId := 0, generation := 0, nearSections := false })] } }, (by constructor <;> decide), (by decide +kernel)⟩

theorem test_storeInstallation_10_storeOpen :
    ∃ (r : Requester) (slot : BitVec 16) (s : State), Canonical s ∧ s.admits r 0x7000 3 = true ∧ 1023 < slot.toNat :=
  ⟨.hostPf, 1024, inst, (by constructor <;> decide), (by decide +kernel)⟩

theorem test_storeInstallation_11_storeOpen :
    ∃ (r : Requester) (slot : BitVec 16) (s : State), s.reaches r = false :=
  ⟨.hostPf, 3, {}, (by decide +kernel)⟩

theorem test_storeInstallation_12_storeCommit :
    ∃ (r : Requester) (slot : BitVec 16) (t : Nat) (o : OpenSlot) (s : State), Canonical s ∧ s.powered = true ∧
      (s.at t).admits r 0x7000 4 = true ∧ slot.toNat ≤ 1023 ∧ s.dget 0x7000 2 = 2 ∧ s.store.opened = some o ∧
      o.slot = slot.toNat ∧ o.checked = true ∧ o.chunks ≤ o.written :=
  ⟨.hostPf, 3, 5, { slot := 3, checked := true, chunks := 1, written := 1 }, writing { slot := 3, checked := true, chunks := 1, written := 1 }, (by constructor <;> decide), (by decide +kernel), (by decide +kernel), (by decide +kernel), (by decide +kernel)⟩

theorem test_storeInstallation_13_storeCommit :
    ∃ (r : Requester) (slot : BitVec 16) (t : Nat) (o : OpenSlot) (s : State), Canonical s ∧ s.powered = true ∧
      (s.at t).admits r 0x7000 4 = true ∧ slot.toNat ≤ 1023 ∧ s.dget 0x7000 2 = 2 ∧ s.store.opened = some o ∧
      o.slot = slot.toNat ∧ (o.checked = false ∨ o.written < o.chunks) :=
  ⟨.hostPf, 3, 5, { slot := 3, checked := true, chunks := 1, written := 0 }, writing { slot := 3, checked := true, chunks := 1, written := 0 }, (by constructor <;> decide), (by decide +kernel), (by decide +kernel), (by decide +kernel)⟩

theorem test_storeInstallation_14_storeCommit :
    ∃ (r : Requester) (slot : BitVec 16) (t : Nat) (s : State), Canonical s ∧ s.powered = true ∧
      (s.at t).admits r 0x7000 4 = true ∧ slot.toNat ≤ 1023 ∧ s.dget 0x7000 2 = 2 ∧
      (s.store.opened.all (fun o => decide (o.slot ≠ slot.toNat)) = true) :=
  ⟨.hostPf, 3, 5, inst, (by constructor <;> decide), (by decide +kernel)⟩

theorem test_storeInstallation_15_storeCommit :
    ∃ (r : Requester) (slot : BitVec 16) (t : Nat) (s : State), Canonical s ∧ s.powered = true ∧
      (s.at t).admits r 0x7000 4 = true ∧ slot.toNat ≤ 1023 ∧ s.dget 0x7000 2 ≠ 2 :=
  ⟨.hostPf, 3, 5, adm, (by constructor <;> decide), (by decide +kernel)⟩

theorem test_storeInstallation_16_storeCommit :
    ∃ (r : Requester) (slot : BitVec 16) (t : Nat) (s : State), Canonical s ∧ s.powered = true ∧
      (s.at t).admits r 0x7000 4 = true ∧ 1023 < slot.toNat :=
  ⟨.hostPf, 1024, 5, inst, (by constructor <;> decide), (by decide +kernel)⟩

theorem test_storeInstallation_17_storeCommit :
    ∃ (r : Requester) (slot : BitVec 16) (t : Nat) (s : State), s.powered = false :=
  ⟨.hostPf, 3, 5, {}, (by decide +kernel)⟩

theorem test_storeInstallation_18_storeErase :
    ∃ (r : Requester) (slot : BitVec 16) (s : State), Canonical s ∧ s.admits r 0x7000 5 = true ∧ slot.toNat ≤ 1023 ∧
      s.dget 0x7000 2 = 2 ∧ s.slotBound slot.toNat = false ∧
      (s.store.opened.all (fun o => decide (o.slot ≠ slot.toNat)) = true) ∧ tsorted none s.store.slots = true :=
  ⟨.hostPf, 3, inst, (by constructor <;> decide), (by decide +kernel), (by decide +kernel)⟩

theorem test_storeInstallation_19_storeErase :
    ∃ (r : Requester) (slot : BitVec 16) (s : State), Canonical s ∧ s.admits r 0x7000 5 = true ∧ slot.toNat ≤ 1023 ∧
      s.dget 0x7000 2 = 2 ∧
      (s.slotBound slot.toNat = true ∨ s.store.opened.any (fun o => decide (o.slot = slot.toNat)) = true) :=
  ⟨.hostPf, 3, writing { slot := 3 }, (by constructor <;> decide), (by decide +kernel)⟩

theorem test_storeInstallation_20_storeErase :
    ∃ (r : Requester) (slot : BitVec 16) (s : State), Canonical s ∧ s.admits r 0x7000 5 = true ∧ slot.toNat ≤ 1023 ∧
      s.dget 0x7000 2 ≠ 2 :=
  ⟨.hostPf, 3, adm, (by constructor <;> decide), (by decide +kernel)⟩

theorem test_storeInstallation_21_storeErase :
    ∃ (r : Requester) (slot : BitVec 16) (s : State), Canonical s ∧ s.admits r 0x7000 5 = true ∧ 1023 < slot.toNat :=
  ⟨.hostPf, 1024, inst, (by constructor <;> decide), (by decide +kernel)⟩

theorem test_storeInstallation_22_storeErase :
    ∃ (r : Requester) (slot : BitVec 16) (s : State), s.reaches r = false :=
  ⟨.hostPf, 3, {}, (by decide +kernel)⟩

theorem test_storeInstallation_23_storeKeyWrite :
    ∃ (r : Requester) (slot : Fin 4) (key : Bytes) (s : State), Canonical s ∧
      s.admits r 0x7010 (slot.val + 1) = true ∧ 0 < slot.val ∧ key.length = 97 ∧ s.dget 0x7000 2 = 2 :=
  ⟨.hostPf, 2, List.replicate 97 0, inst, (by constructor <;> decide), (by decide +kernel)⟩

theorem test_storeInstallation_24_storeKeyWrite :
    ∃ (r : Requester) (slot : Fin 4) (key : Bytes) (s : State), Canonical s ∧
      s.admits r 0x7010 (slot.val + 1) = true ∧ 0 < slot.val ∧ key.length = 97 ∧ s.dget 0x7000 2 ≠ 2 :=
  ⟨.hostPf, 2, List.replicate 97 0, adm, (by constructor <;> decide), (by decide +kernel)⟩

theorem test_storeInstallation_25_storeKeyWrite :
    ∃ (r : Requester) (slot : Fin 4) (key : Bytes) (s : State), Canonical s ∧
      s.admits r 0x7010 (slot.val + 1) = true ∧ 0 < slot.val ∧ key.length ≠ 97 ∧ key.length < 65536 :=
  ⟨.hostPf, 2, [], inst, (by constructor <;> decide), (by decide +kernel)⟩

theorem test_storeInstallation_26_storeKeyWrite :
    ∃ (r : Requester) (slot : Fin 4) (key : Bytes) (s : State), Canonical s ∧
      s.admits r 0x7010 (slot.val + 1) = true ∧ slot.val = 0 :=
  ⟨.hostPf, 0, List.replicate 97 0, inst, (by constructor <;> decide), (by decide +kernel)⟩

theorem test_storeInstallation_27_storeKeyWrite :
    ∃ (r : Requester) (slot : Fin 4) (key : Bytes) (s : State), s.reaches r = false :=
  ⟨.hostPf, 2, [], {}, (by decide +kernel)⟩

theorem test_storeInstallation_28_storeKeyRevoke :
    ∃ (r : Requester) (slot : BitVec 8) (s : State), Canonical s ∧ s.admits r 0x7010 5 = true ∧ slot.toNat ≤ 3 ∧
      s.dget 0x7000 2 = 2 :=
  ⟨.hostPf, 2, inst, (by constructor <;> decide), (by decide +kernel)⟩

theorem test_storeInstallation_29_storeKeyRevoke :
    ∃ (r : Requester) (slot : BitVec 8) (s : State), Canonical s ∧ s.admits r 0x7010 5 = true ∧ slot.toNat ≤ 3 ∧
      s.dget 0x7000 2 ≠ 2 :=
  ⟨.hostPf, 2, adm, (by constructor <;> decide), (by decide +kernel)⟩

theorem test_storeInstallation_30_storeKeyRevoke :
    ∃ (r : Requester) (slot : BitVec 8) (s : State), Canonical s ∧ s.admits r 0x7010 5 = true ∧ 3 < slot.toNat :=
  ⟨.hostPf, 4, inst, (by constructor <;> decide), (by decide +kernel)⟩

theorem test_storeInstallation_31_storeKeyRevoke :
    ∃ (r : Requester) (slot : BitVec 8) (s : State), s.reaches r = false :=
  ⟨.hostPf, 2, {}, (by decide +kernel)⟩

theorem test_poolsAndShares_1_clusterAssign :
    ∃ (r : Requester) (cluster : ClusterId) (value : BitVec 16) (s : State), Canonical s ∧
      s.admits r 0x2300 1 = true ∧ assignOk value.toNat = true ∧ s.routeFree cluster.val = true ∧
      s.stepOn cluster.val = false ∧
      ((poolNamed (s.assign cluster.val)).all (fun p => !s.holderMaps p cluster.val) = true) ∧
      (poolNamed (s.assign cluster.val) = poolNamed value.toNat ∨ ((poolNamed (s.assign cluster.val)).all (fun p => !s.poolUsed p) = true ∧
      (poolNamed value.toNat).all (fun p => !s.poolUsed p) = true)) :=
  ⟨.hostPf, 3, 5, on, (by constructor <;> decide), (by decide +kernel), (by decide +kernel)⟩

theorem test_poolsAndShares_2_clusterAssign :
    ∃ (r : Requester) (cluster : ClusterId) (value : BitVec 16) (s : State), Canonical s ∧
      s.admits r 0x2300 1 = true ∧ assignOk value.toNat = true ∧
      (s.routeFree cluster.val = false ∨ s.stepOn cluster.val = true ∨ (poolNamed (s.assign cluster.val)).any (fun p => s.holderMaps p cluster.val) = true) :=
  ⟨.hostPf, 0, 5, running (im noPorts), (by constructor <;> decide), (by decide +kernel)⟩

theorem test_poolsAndShares_3_clusterAssign :
    ∃ (r : Requester) (cluster : ClusterId) (value : BitVec 16) (s : State), Canonical s ∧
      s.admits r 0x2300 1 = true ∧ assignOk value.toNat = true ∧
      poolNamed (s.assign cluster.val) ≠ poolNamed value.toNat ∧
      ((poolNamed (s.assign cluster.val)).any s.poolUsed = true ∨ (poolNamed value.toNat).any s.poolUsed = true) :=
  ⟨.hostPf, 3, 0x201, { on with cdict := [(ckey 7 1 3, 1)] }, (by constructor <;> decide), (by decide +kernel)⟩

theorem test_poolsAndShares_4_clusterAssign :
    ∃ (r : Requester) (cluster : ClusterId) (value : BitVec 16) (s : State), Canonical s ∧
      s.admits r 0x2300 1 = true ∧ assignOk value.toNat = false :=
  ⟨.hostPf, 3, 0x300, on, (by constructor <;> decide), (by decide +kernel)⟩

theorem test_poolsAndShares_5_clusterAssign :
    ∃ (r : Requester) (cluster : ClusterId) (value : BitVec 16) (s : State), s.reaches r = false :=
  ⟨.hostPf, 3, 5, {}, (by decide +kernel)⟩

theorem test_poolsAndShares_6_pool :
    ∃ (r : Requester) (ctx : Fin 256) (value : BitVec 8) (s : State), Canonical s ∧
      s.admits r (0x4001 + ctx.val * 16) 3 = true ∧ (value.toNat < 16 ∨ value.toNat = 0xFF) ∧
      s.attached ctx.val = none ∧
      (s.cmds.any (fun d => decide (d.ctx = ctx.val) && decide (d.stage = .grant)) = false) ∧
      (s.cget ctx.val 1 4 ≠ 0 ∨ value.toNat = 0xFF) :=
  ⟨.hostPf, 7, 2, { on with cdict := [(ckey 7 1 4, 0x200000000000)] }, (by constructor <;> decide), (by decide +kernel)⟩

theorem test_poolsAndShares_7_pool :
    ∃ (r : Requester) (ctx : Fin 256) (value : BitVec 8) (s : State), Canonical s ∧
      s.admits r (0x4001 + ctx.val * 16) 3 = true ∧ (value.toNat < 16 ∨ value.toNat = 0xFF) ∧
      ((s.attached ctx.val).any (fun p => decide (s.holder p = some ctx.val)) = true ∨ s.cmds.any (fun d => decide (d.ctx = ctx.val) && decide (d.stage = .grant)) = true ∨ (s.cget ctx.val 1 4 = 0 ∧
      value.toNat ≠ 0xFF)) :=
  ⟨.hostPf, 7, 2, on, (by constructor <;> decide), (by decide +kernel)⟩

theorem test_poolsAndShares_8_pool :
    ∃ (r : Requester) (ctx : Fin 256) (value : BitVec 8) (p : Nat) (s : State), Canonical s ∧
      s.admits r (0x4001 + ctx.val * 16) 3 = true ∧ (value.toNat < 16 ∨ value.toNat = 0xFF) ∧
      s.attached ctx.val = some p ∧
      (s.array.routes.any (fun q => decide (q.ctx = ctx.val) && decide (s.poolOfFootprint q.footprint = some p)) = true) :=
  ⟨.hostPf, 7, 0xFF, 1, { on with cdict := [(ckey 7 1 3, 1)], dict := [(dkey 0x2300 1 0, 0x201)], array := { routes := [{ id := 5, ctx := 7, footprint := 1, image := 0, bytes := [] }] } }, (by constructor <;> decide), (by decide +kernel)⟩

theorem test_poolsAndShares_9_pool :
    ∃ (r : Requester) (ctx : Fin 256) (value : BitVec 8) (s : State), Canonical s ∧
      s.admits r (0x4001 + ctx.val * 16) 3 = true ∧ 16 ≤ value.toNat ∧ value.toNat ≠ 0xFF :=
  ⟨.hostPf, 7, 16, on, (by constructor <;> decide), (by decide +kernel)⟩

theorem test_poolsAndShares_10_pool :
    ∃ (r : Requester) (ctx : Fin 256) (value : BitVec 8) (s : State), s.reaches r = false :=
  ⟨.hostPf, 7, 2, {}, (by decide +kernel)⟩

theorem test_poolsAndShares_11_bivouacVa :
    ∃ (r : Requester) (ctx : Fin 256) (value : BitVec 64) (s : State), Canonical s ∧
      s.admits r (0x4001 + ctx.val * 16) 4 = true ∧ bulkOrZero value.toNat (2 ^ 21) = true ∧
      s.cget ctx.val 1 3 = 0xFF :=
  ⟨.hostPf, 7, 0x2000000000, on, (by constructor <;> decide), (by decide +kernel)⟩

theorem test_poolsAndShares_12_bivouacVa :
    ∃ (r : Requester) (ctx : Fin 256) (value : BitVec 64) (s : State), Canonical s ∧
      s.admits r (0x4001 + ctx.val * 16) 4 = true ∧ bulkOrZero value.toNat (2 ^ 21) = true ∧
      s.cget ctx.val 1 3 ≠ 0xFF :=
  ⟨.hostPf, 7, 0, { on with cdict := [(ckey 7 1 3, 1)] }, (by constructor <;> decide), (by decide +kernel)⟩

theorem test_poolsAndShares_13_bivouacVa :
    ∃ (r : Requester) (ctx : Fin 256) (value : BitVec 64) (s : State), Canonical s ∧
      s.admits r (0x4001 + ctx.val * 16) 4 = true ∧ bulkOrZero value.toNat (2 ^ 21) = false :=
  ⟨.hostPf, 7, 64, on, (by constructor <;> decide), (by decide +kernel)⟩

theorem test_poolsAndShares_14_bivouacVa :
    ∃ (r : Requester) (ctx : Fin 256) (value : BitVec 64) (s : State), s.reaches r = false :=
  ⟨.hostPf, 7, 0, {}, (by decide +kernel)⟩

theorem test_poolsAndShares_15_share :
    ∃ (r : Requester) (ctx : Fin 256) (value : BitVec 16) (s : State), Canonical s ∧ s.admits r (0x4001 + ctx.val *
      16) 1 = true ∧ value ≠ 0 ∧ (s.steps.any (fun q => decide (q.ctx = ctx.val) && q.launched) = true ∨
      s.switchingWith ctx.val = true) :=
  ⟨.hostPf, 7, 40, running (im noPorts) { st1 with ctx := 7 }, (by constructor <;> decide), (by decide +kernel)⟩

theorem test_poolsAndShares_16_share :
    ∃ (r : Requester) (ctx : Fin 256) (value : BitVec 16) (s : State), Canonical s ∧ s.admits r (0x4001 + ctx.val *
      16) 1 = true ∧ value ≠ 0 ∧ (s.steps.any (fun q => decide (q.ctx = ctx.val) && q.launched) = false) ∧
      s.switchingWith ctx.val = false ∧ ((s.attached ctx.val).any (fun p => decide (s.holder p = some ctx.val)) =
      true) ∧ tsorted none s.ctxs.accounts = true :=
  ⟨.hostPf, 7, 40, { on with cdict := [(ckey 7 1 3, 1)], dict := [(dkey 0x2300 4 1, 7)] }, (by constructor <;> decide), (by decide +kernel)⟩

theorem test_poolsAndShares_17_share :
    ∃ (r : Requester) (ctx : Fin 256) (value : BitVec 16) (s : State), Canonical s ∧ s.admits r (0x4001 + ctx.val *
      16) 1 = true ∧ value ≠ 0 ∧ (s.steps.any (fun q => decide (q.ctx = ctx.val) && q.launched) = false) ∧
      s.switchingWith ctx.val = false ∧ ((s.attached ctx.val).any (fun p => decide (s.holder p = some ctx.val)) =
      false) :=
  ⟨.hostPf, 7, 40, on, (by constructor <;> decide), (by decide +kernel)⟩

theorem test_poolsAndShares_18_share :
    ∃ (r : Requester) (ctx : Fin 256) (value : BitVec 16) (s : State), Canonical s ∧
      s.admits r (0x4001 + ctx.val * 16) 1 = true ∧ value = 0 :=
  ⟨.hostPf, 7, 0, on, (by constructor <;> decide), (by decide +kernel)⟩

theorem test_poolsAndShares_19_share :
    ∃ (r : Requester) (ctx : Fin 256) (value : BitVec 16) (s : State), s.reaches r = false :=
  ⟨.hostPf, 7, 40, {}, (by decide +kernel)⟩

theorem test_poolsAndShares_20_poolSlack :
    ∃ (r : Requester) (pool : Fin 16) (value : BitVec 32) (s : State), Canonical s ∧ s.admits r 0x2300 3 = true ∧
      value.toNat ≤ 4000000000 :=
  ⟨.hostPf, 3, 500, on, (by constructor <;> decide), (by decide +kernel)⟩

theorem test_poolsAndShares_21_poolSlack :
    ∃ (r : Requester) (pool : Fin 16) (value : BitVec 32) (s : State), Canonical s ∧ s.admits r 0x2300 3 = true ∧
      4000000000 < value.toNat :=
  ⟨.hostPf, 3, 4000000001, on, (by constructor <;> decide), (by decide +kernel)⟩

theorem test_poolsAndShares_22_poolSlack :
    ∃ (r : Requester) (pool : Fin 16) (value : BitVec 32) (s : State), s.reaches r = false :=
  ⟨.hostPf, 3, 500, {}, (by decide +kernel)⟩

/-! ### WellFormed refuses an ill-formed operand of each row whose lengths it fixes, and accepts a well-formed one -/

/-- A packet header that names n bytes. -/
def header (n : BitVec 32) : PacketHeader :=
  { type := 0, units := 1, poison := false, reserved := false, src := 1, dst := 2, ctx := 3, epoch := 0, tag := 0, addr := 0, length := n, status := 0 }

theorem test_wf_railMonitorSample :
    WellFormed (.railMonitorSample 0 (List.replicate 14 0) []) = false ∧
    WellFormed (.railMonitorSample 0 (List.replicate 15 0) []) = true := by decide

theorem test_wf_devRstNDeassert :
    WellFormed (.devRstNDeassert 0 (List.replicate 99 0)) = false ∧
    WellFormed (.devRstNDeassert 0 (List.replicate 100 0)) = true := by decide +kernel

theorem test_wf_storeKeyWrite :
    WellFormed (.storeKeyWrite .hostPf 1 (List.replicate 96 0)) = false ∧
    WellFormed (.storeKeyWrite .hostPf 0 (List.replicate 97 0)) = false ∧
    WellFormed (.storeKeyWrite .hostPf 3 (List.replicate 97 0)) = true := by decide +kernel

theorem test_wf_laneSide :
    WellFormed (.laneSide .hostPf 0 0 (List.replicate 63 0)) = false ∧
    WellFormed (.laneSide .hostPf 0 0 (List.replicate 64 0)) = true := by decide

theorem test_wf_truExchanges :
    WellFormed (.truExchanges .hostPf 0 0 (List.replicate 127 0)) = false ∧
    WellFormed (.truExchanges .hostPf 0 0 (List.replicate 128 0)) = true := by decide +kernel

theorem test_wf_perturbSlots :
    WellFormed (.perturbSlots .hostPf 0 (List.replicate 17 0)) = false ∧
    WellFormed (.perturbSlots .hostPf 0 (List.replicate 16 0)) = true := by decide

theorem test_wf_linkInfo :
    WellFormed (.linkInfo 0 ⟨0x5653, 1, 1, 2, false, 0, 0, [1, 2, 3]⟩) = false ∧
    WellFormed (.linkInfo 0 ⟨0x5653, 1, 1, 2, false, 0, 0, [1, 2, 3, 4]⟩) = true := by decide

theorem test_wf_frameReceived :
    WellFormed (.frameReceived 0 .good ⟨0, 0, 0, false, [], 0, 15, 15, 15, 15⟩) = false ∧
    WellFormed (.frameReceived 0 .good ⟨0, 0, 0, false, [0, 0, 0, 0], 0, 15, 15, 15, 15⟩) = true := by decide

theorem test_wf_readData :
    WellFormed (.readData 0 (header 2) [1]) = false ∧ WellFormed (.readData 0 (header 2) [1, 2]) = true := by decide

theorem test_wf_write :
    WellFormed (.write 0 (header 2) [1, 2, 3]) = false ∧ WellFormed (.write 0 (header 3) [1, 2, 3]) = true := by decide

theorem test_wf_serviceBusSegment :
    WellFormed (.serviceBusSegment 0 (List.replicate 65 0)) = false ∧
    WellFormed (.serviceBusSegment 0 (List.replicate 64 0)) = true := by decide

theorem test_wf_roleChallenge :
    WellFormed (.roleChallenge .hostPf (List.replicate 47 0)) = false ∧
    WellFormed (.roleChallenge .hostPf (List.replicate 48 0)) = true := by decide

theorem test_wf_roleResponse :
    WellFormed (.roleResponse .hostPf (List.replicate 96 0) 0) = false ∧
    WellFormed (.roleResponse .hostPf (List.replicate 97 0) 0) = true := by decide +kernel

theorem test_wf_lifeAccumulate :
    WellFormed (.lifeAccumulate 0 (List.replicate 63 (0, 0))) = false ∧
    WellFormed (.lifeAccumulate 0 (List.replicate 64 (0, 0))) = true := by decide

theorem test_laneTables_1_laneSide :
    ∃ (r : Requester) (ctx : Fin 256) (entry : Fin 16) (record : Bytes) (s : State), Canonical s ∧ s.admits r
      (0x400C + ctx.val * 16) 1 = true ∧ (s.lane ctx.val (entry.val / 2)).active ≠ entry.val % 2 ∧ (s.lane ctx.val
      (entry.val / 2)).switching = false ∧ s.sideOk ctx.val record = true ∧ tsorted none s.serve.lanes = true :=
  ⟨.hostPf, 5, 5, (leBytes 4 0xFFFFFFFF ++ leBytes 60 0), on, (by constructor <;> decide), (by decide +kernel)⟩

theorem test_laneTables_2_laneSide :
    ∃ (r : Requester) (ctx : Fin 256) (entry : Fin 16) (record : Bytes) (s : State), Canonical s ∧ s.admits r
      (0x400C + ctx.val * 16) 1 = true ∧ record.length = 64 ∧ ((s.lane ctx.val (entry.val / 2)).active = entry.val % 2
      ∨ (s.lane ctx.val (entry.val / 2)).switching = true) :=
  ⟨.hostPf, 5, 4, (leBytes 4 0xFFFFFFFF ++ leBytes 60 0), on, (by constructor <;> decide), (by decide +kernel)⟩

theorem test_laneTables_3_laneSide :
    ∃ (r : Requester) (ctx : Fin 256) (entry : Fin 16) (record : Bytes) (s : State), Canonical s ∧ s.admits r
      (0x400C + ctx.val * 16) 1 = true ∧ record.length = 64 ∧ (s.lane ctx.val (entry.val / 2)).active ≠ entry.val % 2
      ∧ (s.lane ctx.val (entry.val / 2)).switching = false ∧ s.sideOk ctx.val record = false :=
  ⟨.hostPf, 5, 5, leBytes 64 0, on, (by constructor <;> decide), (by decide +kernel)⟩

theorem test_laneTables_4_loopLane :
    ∃ (r : Requester) (ring : RingId) (value : BitVec 8) (s : State), Canonical s ∧ s.admits r 0x2A00 4 = true ∧
      (value = 0xFF ∨ (value.toNat < 64 ∧ bit value.toNat 3 = false ∧ bits value.toNat 5 4 ≠ 3)) ∧ s.drained ring.val
      = true ∧ (value = 0xFF ∨ (s.ring ring.val).ctx ≠ 256) :=
  ⟨.hostPf, 0, 2, { on with hif := { on.hif with rings := [(0, { ring0 with ctx := 5, enable := false })] } }, (by constructor <;> decide), (by decide +kernel)⟩

theorem test_laneTables_5_loopLane :
    ∃ (r : Requester) (ring : RingId) (value : BitVec 8) (s : State), Canonical s ∧ s.admits r 0x2A00 4 = true ∧
      (value = 0xFF ∨ (value.toNat < 64 ∧ bit value.toNat 3 = false ∧ bits value.toNat 5 4 ≠ 3)) ∧ (s.drained ring.val
      = false ∨ (value ≠ 0xFF ∧ (s.ring ring.val).ctx = 256)) :=
  ⟨.hostPf, 0, 2, { on with hif := { on.hif with rings := [(0, { ring0 with ctx := 5 })] } }, (by constructor <;> decide), (by decide +kernel)⟩

theorem test_laneTables_6_loopLane :
    ∃ (r : Requester) (ring : RingId) (value : BitVec 8) (s : State), Canonical s ∧ s.admits r 0x2A00 4 = true ∧
      value ≠ 0xFF ∧ (64 ≤ value.toNat ∨ bit value.toNat 3 = true ∨ bits value.toNat 5 4 = 3) :=
  ⟨.hostPf, 0, 64, on, (by constructor <;> decide), (by decide +kernel)⟩

theorem test_laneTables_7_laneSwitch :
    ∃ (r : Requester) (ctx : Fin 256) (lane : BitVec 8) (s : State), Canonical s ∧ s.admits r (0x400C + ctx.val *
      16) 3 = true ∧ lane.toNat ≤ 7 ∧ (s.lane ctx.val lane.toNat).switching = false ∧ s.loopsOf ctx.val lane.toNat ≠
      [] ∧ (((s.lane ctx.val lane.toNat).side (1 - (s.lane ctx.val lane.toNat).active)).base = 0xFFFF ∨ s.isBound
      ((s.lane ctx.val lane.toNat).side (1 - (s.lane ctx.val lane.toNat).active)).base = true) ∧ (((s.lane ctx.val
      lane.toNat).side (1 - (s.lane ctx.val lane.toNat).active)).variant = 0xFFFF ∨ s.isBound ((s.lane ctx.val
      lane.toNat).side (1 - (s.lane ctx.val lane.toNat).active)).variant = true) ∧ tsorted none s.serve.lanes = true :=
  ⟨.hostPf, 5, 2, { on with dict := [(dkey 0x2A00 4 0, 2)], hif := { on.hif with rings := [(0, { ring0 with ctx := 5, enable := false })] } }, (by constructor <;> decide), (by decide +kernel)⟩

theorem test_laneTables_8_laneSwitch :
    ∃ (r : Requester) (ctx : Fin 256) (lane : BitVec 8) (s : State), Canonical s ∧ s.admits r (0x400C + ctx.val *
      16) 3 = true ∧ lane.toNat ≤ 7 ∧ ((s.lane ctx.val lane.toNat).switching = true ∨ s.loopsOf ctx.val lane.toNat =
      [] ∨ (((s.lane ctx.val lane.toNat).side (1 - (s.lane ctx.val lane.toNat).active)).base ≠ 0xFFFF ∧ s.isBound
      ((s.lane ctx.val lane.toNat).side (1 - (s.lane ctx.val lane.toNat).active)).base = false) ∨ (((s.lane ctx.val
      lane.toNat).side (1 - (s.lane ctx.val lane.toNat).active)).variant ≠ 0xFFFF ∧ s.isBound ((s.lane ctx.val
      lane.toNat).side (1 - (s.lane ctx.val lane.toNat).active)).variant = false)) :=
  ⟨.hostPf, 5, 2, on, (by constructor <;> decide), (by decide +kernel)⟩

theorem test_laneTables_9_laneSwitch :
    ∃ (r : Requester) (ctx : Fin 256) (lane : BitVec 8) (s : State), Canonical s ∧ s.admits r (0x400C + ctx.val *
      16) 3 = true ∧ 7 < lane.toNat :=
  ⟨.hostPf, 5, 8, on, (by constructor <;> decide), (by decide +kernel)⟩

theorem test_laneTables_10_laneCancel :
    ∃ (r : Requester) (ctx : Fin 256) (lane : BitVec 8) (s : State), Canonical s ∧ s.admits r (0x400C + ctx.val *
      16) 4 = true ∧ lane.toNat ≤ 7 ∧ (s.lane ctx.val lane.toNat).switching = true ∧ tsorted none s.serve.lanes = true :=
  ⟨.hostPf, 5, 2, { on with serve := { lanes := [(42, { switching := true, openLoops := [0] })] } }, (by constructor <;> decide), (by decide +kernel)⟩

theorem test_laneTables_11_laneCancel :
    ∃ (r : Requester) (ctx : Fin 256) (lane : BitVec 8) (s : State), Canonical s ∧ s.admits r (0x400C + ctx.val *
      16) 4 = true ∧ lane.toNat ≤ 7 ∧ (s.lane ctx.val lane.toNat).switching = false :=
  ⟨.hostPf, 5, 2, on, (by constructor <;> decide), (by decide +kernel)⟩

theorem test_laneTables_12_laneCancel :
    ∃ (r : Requester) (ctx : Fin 256) (lane : BitVec 8) (s : State), Canonical s ∧ s.admits r (0x400C + ctx.val *
      16) 4 = true ∧ 7 < lane.toNat :=
  ⟨.hostPf, 5, 8, on, (by constructor <;> decide), (by decide +kernel)⟩

theorem test_laneTables_13_truExchanges :
    ∃ (r : Requester) (ctx : Fin 256) (entry : Fin 32) (record : Bytes) (s : State), Canonical s ∧ s.admits r
      (0x400E + ctx.val * 16) 1 = true ∧ exRecordOk record = true ∧ tsorted none s.tru.table = true :=
  ⟨.hostPf, 5, 31, leBytes 128 0, on, (by constructor <;> decide), (by decide +kernel)⟩

theorem test_laneTables_14_truExchanges :
    ∃ (r : Requester) (ctx : Fin 256) (entry : Fin 32) (record : Bytes) (s : State), Canonical s ∧ s.admits r
      (0x400E + ctx.val * 16) 1 = true ∧ record.length = 128 ∧ exRecordOk record = false :=
  ⟨.hostPf, 5, 31, leBytes 8 0 ++ leBytes 120 1, on, (by constructor <;> decide), (by decide +kernel)⟩

theorem test_unitCommands_1_cduApply :
    ∃ (r : Requester) (value : BitVec 8) (s : State), Canonical s ∧ s.admits r 0x2200 4 = true ∧ value = 1 ∧
      cadenceOk (s.dget 0x2200 1) (s.dget 0x2200 2) (s.dget 0x2200 3) = true :=
  ⟨.hostPf, 1, on, (by constructor <;> decide), (by decide +kernel)⟩

theorem test_unitCommands_2_cduApply :
    ∃ (r : Requester) (value : BitVec 8) (s : State), Canonical s ∧ s.admits r 0x2200 4 = true ∧ value = 1 ∧
      cadenceOk (s.dget 0x2200 1) (s.dget 0x2200 2) (s.dget 0x2200 3) = false :=
  ⟨.hostPf, 1, { on with dict := [(dkey 0x2200 1 0, 1), (dkey 0x2200 2 0, 8000), (dkey 0x2200 3 0, 65535)] }, (by constructor <;> decide), (by decide +kernel)⟩

theorem test_unitCommands_3_cduApply :
    ∃ (r : Requester) (value : BitVec 8) (s : State), Canonical s ∧ s.admits r 0x2200 4 = true ∧ 1 < value.toNat :=
  ⟨.hostPf, 2, on, (by constructor <;> decide), (by decide +kernel)⟩

theorem test_unitCommands_4_partitionApply :
    ∃ (r : Requester) (value : BitVec 8) (s : State), Canonical s ∧ s.admits r 0x5000 11 = true ∧ value = 1 ∧ s.dget
      0x5000 12 = 0 ∧ s.groupBlocks s.changingPorts = false ∧ s.changingPorts.any (fun p => (s.port p).carries) = true
      ∧ tsorted none s.links.ports = true :=
  ⟨.hostPf, 1, linked { state := .active, nextWritten := true }, (by constructor <;> decide), (by decide +kernel)⟩

theorem test_unitCommands_5_partitionApply :
    ∃ (r : Requester) (value : BitVec 8) (s : State), Canonical s ∧ s.admits r 0x5000 11 = true ∧ value = 1 ∧
      (s.dget 0x5000 12 ≠ 0 ∨ s.groupBlocks s.changingPorts = true) :=
  ⟨.hostPf, 1, { on with dict := [(dkey 0x5000 12 0, 1)] }, (by constructor <;> decide), (by decide +kernel)⟩

theorem test_unitCommands_6_portLaneTest :
    ∃ (r : Requester) (port : PortId) (value : BitVec 16) (s : State), Canonical s ∧ s.admits r (0x5010 + port.val)
      15 = true ∧ (value.toNat % 4 = 1 ∨ value.toNat % 4 = 2) ∧ 4 ≤ value.toNat ∧ ((s.port port.val).state = .isolated
      ∨ (s.port port.val).state = .off ∨ (s.port port.val).state = .down) ∧ tsorted none s.links.ports = true :=
  ⟨.hostPf, 15, 5, adm, (by constructor <;> decide), (by decide +kernel)⟩

theorem test_unitCommands_7_portLaneTest :
    ∃ (r : Requester) (port : PortId) (value : BitVec 16) (s : State), Canonical s ∧ s.admits r (0x5010 + port.val)
      15 = true ∧ (value.toNat % 4 = 1 ∨ value.toNat % 4 = 2) ∧ 4 ≤ value.toNat ∧ (¬ ((s.port port.val).state =
      .isolated ∨ (s.port port.val).state = .off ∨ (s.port port.val).state = .down)) :=
  ⟨.hostPf, 0, 5, { adm with links := linked.links }, (by constructor <;> decide), (by decide +kernel)⟩

theorem test_unitCommands_8_portLaneTest :
    ∃ (r : Requester) (port : PortId) (value : BitVec 16) (s : State), Canonical s ∧ s.admits r (0x5010 + port.val)
      15 = true ∧ (value.toNat < 4 ∨ value.toNat % 4 = 0 ∨ value.toNat % 4 = 3) :=
  ⟨.hostPf, 15, 7, adm, (by constructor <;> decide), (by decide +kernel)⟩

theorem test_unitCommands_9_clusterPointReq :
    ∃ (r : Requester) (cluster : ClusterId) (value : BitVec 8) (s : State), Canonical s ∧ s.admits r 0x2100 3 = true
      ∧ value.toNat ≤ 11 :=
  ⟨.hostPf, 63, 11, on, (by constructor <;> decide), (by decide +kernel)⟩

theorem test_unitCommands_10_clusterPointReq :
    ∃ (r : Requester) (cluster : ClusterId) (value : BitVec 8) (s : State), Canonical s ∧ s.admits r 0x2100 3 = true
      ∧ 11 < value.toNat :=
  ⟨.hostPf, 63, 12, on, (by constructor <;> decide), (by decide +kernel)⟩

theorem test_profileSlots_1_profileSave :
    ∃ (r : Requester) (slot : BitVec 8) (s : State), Canonical s ∧ s.admits r 0x2000 5 = true ∧ slot.toNat ≤ 3 ∧
      s.kop.saving = none :=
  ⟨.hostPf, 3, on, (by constructor <;> decide), (by decide +kernel)⟩

theorem test_profileSlots_2_profileSave :
    ∃ (r : Requester) (slot : BitVec 8) (v : Save) (s : State), Canonical s ∧ s.admits r 0x2000 5 = true ∧
      slot.toNat ≤ 3 ∧ s.kop.saving = some v :=
  ⟨.hostPf, 3, { slot := 1, image := [7] }, { on with kop := { loadedOnce := true, saving := some { slot := 1, image := [7] } } }, (by constructor <;> decide), (by decide +kernel)⟩

theorem test_profileSlots_3_profileSave :
    ∃ (r : Requester) (slot : BitVec 8) (s : State), Canonical s ∧ s.admits r 0x2000 5 = true ∧ 3 < slot.toNat :=
  ⟨.hostPf, 4, on, (by constructor <;> decide), (by decide +kernel)⟩

theorem test_profileSlots_4_profileAutosave :
    ∃ (t : Nat) (s : State), Canonical s ∧ s.powered = true ∧ s.dget 0x2000 6 ≠ 0 ∧ s.dget 0x2000 4 ≠ 0xFF ∧ s.dget
      0x2000 7 = 1 ∧ s.kop.saving = none ∧ s.kop.lastWrite + s.dget 0x2000 6 * 1000000000 ≤ t :=
  ⟨2000000000, { on with dict := [(dkey 0x2000 4 0, 1), (dkey 0x2000 6 0, 2), (dkey 0x2000 7 0, 1)] }, (by constructor <;> decide), (by decide +kernel)⟩

theorem test_profileSlots_5_profileAutosave :
    ∃ (t : Nat) (s : State), (s.dget 0x2000 6 = 0 ∨ s.dget 0x2000 4 = 0xFF ∨ s.dget 0x2000 7 ≠ 1 ∨ t <
      s.kop.lastWrite + s.dget 0x2000 6 * 1000000000) :=
  ⟨1999999999, { on with dict := [(dkey 0x2000 4 0, 1), (dkey 0x2000 6 0, 2), (dkey 0x2000 7 0, 1)] }, (by decide +kernel)⟩

theorem test_profileSlots_6_profileImage :
    ∃ (r : Requester) (slot : Fin 4) (image : Bytes) (s : State), Canonical s ∧ s.admits r 0x2010 (slot.val + 1) =
      true ∧ copyIntact image = true ∧ s.dget 0x2000 4 ≠ slot.val ∧ tsorted none s.kop.copies = true ∧ s.copyThere 0 =
      true :=
  ⟨.hostPf, 3, profile, on, (by constructor <;> decide), (by decide +kernel)⟩

theorem test_profileSlots_7_profileImage :
    ∃ (r : Requester) (slot : Fin 4) (image : Bytes) (s : State), Canonical s ∧ s.admits r 0x2010 (slot.val + 1) =
      true ∧ copyIntact image = true ∧ s.dget 0x2000 4 = slot.val :=
  ⟨.hostPf, 3, profile, { on with dict := [(dkey 0x2000 4 0, 3)] }, (by constructor <;> decide), (by decide +kernel)⟩

theorem test_profileSlots_8_profileImage :
    ∃ (r : Requester) (slot : Fin 4) (image : Bytes) (s : State), Canonical s ∧ s.admits r 0x2010 (slot.val + 1) =
      true ∧ 64 < image.length ∧ image.length ≤ 65536 ∧ copyIntact image = false ∧ s.dget 0x2000 4 ≠ slot.val :=
  ⟨.hostPf, 3, leBytes 65 0, on, (by constructor <;> decide), (by decide +kernel)⟩

theorem test_profileSlots_9_profileErase :
    ∃ (r : Requester) (slot : BitVec 8) (s : State), Canonical s ∧ s.admits r 0x2000 11 = true ∧ slot.toNat ≤ 3 ∧
      tsorted none s.kop.copies = true ∧ s.copyThere 0 = true :=
  ⟨.hostPf, 3, on, (by constructor <;> decide), (by decide +kernel)⟩

theorem test_profileSlots_10_profileErase :
    ∃ (r : Requester) (slot : BitVec 8) (s : State), Canonical s ∧ s.admits r 0x2000 11 = true ∧ 3 < slot.toNat :=
  ⟨.hostPf, 4, on, (by constructor <;> decide), (by decide +kernel)⟩

theorem test_profileSlots_11_profileSaveDone :
    ∃ (t : Nat) (v : Save) (s : State), Canonical s ∧ s.powered = true ∧ s.kop.saving = some v ∧ v.waiting = [] ∧
      tsorted none s.kop.copies = true ∧ s.copyThere 0 = true :=
  ⟨5, { slot := 1, image := [7] }, { on with kop := { loadedOnce := true, saving := some { slot := 1, image := [7] } } }, (by constructor <;> decide), (by decide +kernel)⟩

theorem test_profileSlots_12_profileSaveDone :
    ∃ (t : Nat) (v : Save) (w : Nat) (ws : List Nat) (s : State), Canonical s ∧ s.powered = true ∧ s.kop.saving =
      some v ∧ v.waiting = w :: ws :=
  ⟨5, { slot := 1, image := [7], waiting := [3] }, 3, [], { on with kop := { loadedOnce := true, saving := some { slot := 1, image := [7], waiting := [3] } } }, (by constructor <;> decide), (by decide +kernel)⟩

theorem test_profileSlots_13_profileSaveDone :
    ∃ (t : Nat) (s : State), s.kop.saving = none :=
  ⟨5, on, (by decide +kernel)⟩

theorem test_profileSlots_14_profileImage :
    ∃ (r : Requester) (slot : Fin 4) (image : Bytes) (s : State), Canonical s ∧ s.admits r 0x2010 (slot.val + 1) =
      true ∧ copyIntact image = true ∧ s.dget 0x2000 4 ≠ slot.val ∧ tsorted none s.kop.copies = true ∧ s.copyThere 0 =
      false :=
  ⟨.hostPf, 3, profile, { on with dict := [(dkey 0x1010 1 0, 3)] }, (by constructor <;> decide), (by decide +kernel)⟩

theorem test_profileSlots_15_profileErase :
    ∃ (r : Requester) (slot : BitVec 8) (s : State), Canonical s ∧ s.admits r 0x2000 11 = true ∧ slot.toNat ≤ 3 ∧
      tsorted none s.kop.copies = true ∧ s.copyThere 0 = false :=
  ⟨.hostPf, 3, { on with dict := [(dkey 0x1010 1 0, 3)] }, (by constructor <;> decide), (by decide +kernel)⟩

theorem test_profileSlots_16_profileSaveDone :
    ∃ (t : Nat) (v : Save) (s : State), Canonical s ∧ s.powered = true ∧ s.kop.saving = some v ∧ v.waiting = [] ∧
      tsorted none s.kop.copies = true ∧ s.copyThere 0 = false :=
  ⟨5, { slot := 1, image := [7] }, { on with dict := [(dkey 0x1010 1 0, 3)], kop := { loadedOnce := true, saving := some { slot := 1, image := [7] } } }, (by constructor <;> decide), (by decide +kernel)⟩

theorem test_healthCommands_1_healthAck :
    ∃ (r : Requester) (seq : BitVec 32) (s : State), Canonical s ∧ s.admits r 0x3000 5 = true ∧ (∀ v ∈
      s.health.unacked, 1 ≤ v.2) :=
  ⟨.hostPf, 7, { on with dict := [(dkey 0x3000 4 2, 2)], health := { unacked := [(7, 3), (8, 3)] } }, (by constructor <;> decide), (by decide +kernel)⟩

theorem test_healthCommands_2_healthMask :
    ∃ (r : Requester) (value : BitVec 16) (s : State), Canonical s ∧ s.admits r 0x3000 3 = true ∧ value.toNat ≤
      0xFFE :=
  ⟨.hostPf, 0xFFE, on, (by constructor <;> decide), (by decide +kernel)⟩

theorem test_healthCommands_3_healthMask :
    ∃ (r : Requester) (value : BitVec 16) (s : State), Canonical s ∧ s.admits r 0x3000 3 = true ∧ 0xFFE <
      value.toNat :=
  ⟨.hostPf, 0xFFF, on, (by constructor <;> decide), (by decide +kernel)⟩

theorem test_healthCommands_4_testRequestCluster :
    ∃ (r : Requester) (cluster : BitVec 8) (s : State), Canonical s ∧ s.admits r 0x3020 1 = true ∧ cluster.toNat <
      64 ∧ s.health.testing = none ∧ (s.dget 0x3033 1 cluster.toNat = 1 ∨ s.routeFree cluster.toNat = true) :=
  ⟨.hostPf, 63, on, (by constructor <;> decide), (by decide +kernel)⟩

theorem test_healthCommands_5_testRequestCluster :
    ∃ (r : Requester) (cluster : BitVec 8) (s : State), Canonical s ∧ s.admits r 0x3020 1 = true ∧ cluster.toNat <
      64 ∧ (s.health.testing ≠ none ∨ (s.dget 0x3033 1 cluster.toNat ≠ 1 ∧ s.routeFree cluster.toNat = false)) :=
  ⟨.hostPf, 63, { on with health := { testing := some (2, false) } }, (by constructor <;> decide), (by decide +kernel)⟩

theorem test_healthCommands_6_testRequestCluster :
    ∃ (r : Requester) (cluster : BitVec 8) (s : State), Canonical s ∧ s.admits r 0x3020 1 = true ∧ 64 ≤
      cluster.toNat :=
  ⟨.hostPf, 64, on, (by constructor <;> decide), (by decide +kernel)⟩

theorem test_healthCommands_7_testRequestRotate :
    ∃ (r : Requester) (cluster : BitVec 8) (s : State), Canonical s ∧ s.admits r 0x3020 1 = true ∧ cluster.toNat <
      64 :=
  ⟨.hostPf, 63, on, (by constructor <;> decide), (by decide +kernel)⟩

theorem test_healthCommands_8_testRequestRotate :
    ∃ (r : Requester) (cluster : BitVec 8) (s : State), Canonical s ∧ s.admits r 0x3020 1 = true ∧ 64 ≤
      cluster.toNat :=
  ⟨.hostPf, 64, on, (by constructor <;> decide), (by decide +kernel)⟩

theorem test_healthCommands_9_perturbEnable :
    ∃ (r : Requester) (value : BitVec 8) (s : State), Canonical s ∧ s.admits r 0x6000 1 = true ∧ value = 1 ∧ s.dget
      0x6000 1 = 0 :=
  ⟨.hostPf, 1, adm, (by constructor <;> decide), (by decide +kernel)⟩

theorem test_healthCommands_10_perturbEnable :
    ∃ (r : Requester) (value : BitVec 8) (s : State), Canonical s ∧ s.admits r 0x6000 1 = true ∧ value = 0 ∧ s.dget
      0x6000 1 = 1 :=
  ⟨.hostPf, 0, { adm with dict := [(dkey 0x6000 1 0, 1)] }, (by constructor <;> decide), (by decide +kernel)⟩

theorem test_healthCommands_11_perturbEnable :
    ∃ (r : Requester) (value : BitVec 8) (s : State), Canonical s ∧ s.admits r 0x6000 1 = true ∧ value.toNat ≤ 1 ∧
      s.dget 0x6000 1 = value.toNat :=
  ⟨.hostPf, 0, adm, (by constructor <;> decide), (by decide +kernel)⟩

theorem test_healthCommands_12_perturbEnable :
    ∃ (r : Requester) (value : BitVec 8) (s : State), Canonical s ∧ s.admits r 0x6000 1 = true ∧ 1 < value.toNat :=
  ⟨.hostPf, 2, adm, (by constructor <;> decide), (by decide +kernel)⟩

theorem test_healthCommands_13_perturbSlots :
    ∃ (r : Requester) (slot : Fin 16) (record : Bytes) (s : State), Canonical s ∧ s.admits r 0x6000 2 = true ∧
      record.length = 16 ∧ perturbOk record = true ∧ tsorted none s.health.perturb = true :=
  ⟨.hostPf, 15, leBytes 2 1 ++ leBytes 14 0, adm, (by constructor <;> decide), (by decide +kernel)⟩

theorem test_healthCommands_14_perturbSlots :
    ∃ (r : Requester) (slot : Fin 16) (record : Bytes) (s : State), Canonical s ∧ s.admits r 0x6000 2 = true ∧
      record.length = 16 ∧ perturbOk record = false :=
  ⟨.hostPf, 15, leBytes 8 9 ++ leBytes 8 0, adm, (by constructor <;> decide), (by decide +kernel)⟩

theorem test_resetRequests_1_ctxReset :
    ∃ (r : Requester) (ctx : Fin 256) (s : State), Canonical s ∧ s.admits r (0x4004 + ctx.val * 16) 1 = true ∧
      s.fenced ctx.val = false :=
  ⟨.hostPf, 255, on, (by constructor <;> decide), (by decide +kernel)⟩

theorem test_resetRequests_2_ctxReset :
    ∃ (r : Requester) (ctx : Fin 256) (s : State), Canonical s ∧ s.admits r (0x4004 + ctx.val * 16) 1 = true ∧
      s.fenced ctx.val = true :=
  ⟨.hostPf, 255, { on with ctxs := { resets := [(255, { phase := 2, cause := 1, start := 0 })] } }, (by constructor <;> decide), (by decide +kernel)⟩

theorem test_resetRequests_3_ctxReset :
    ∃ (r : Requester) (ctx : Fin 256) (s : State), s.reaches r = false :=
  ⟨.hostVf 3, 3, on, (by decide +kernel)⟩

theorem test_resetRequests_4_recoverRequest :
    ∃ (r : Requester) (s : State), Canonical s ∧ s.admits r 0x3030 1 = true ∧ s.dev.mode = .service :=
  ⟨.hostPf, adm, (by constructor <;> decide), (by decide +kernel)⟩

theorem test_resetRequests_5_recoverRequest :
    ∃ (r : Requester) (s : State), Canonical s ∧ s.admits r 0x3030 1 = true ∧ s.dev.mode = .recovery :=
  ⟨.hostPf, { adm with dev := { adm.dev with mode := .recovery } }, (by constructor <;> decide), (by decide +kernel)⟩

theorem test_resetRequests_6_recoverRequest :
    ∃ (r : Requester) (s : State), s.reaches r = false :=
  ⟨.hostVf 3, on, (by decide +kernel)⟩

theorem test_resetRequests_7_snapshotRelease :
    ∃ (r : Requester) (s : State), Canonical s ∧ s.admits r 0x3032 4 = true :=
  ⟨.hostPf, on, (by constructor <;> decide), (by decide +kernel)⟩

theorem test_resetRequests_8_snapshotRelease :
    ∃ (r : Requester) (s : State), s.reaches r = false :=
  ⟨.hostVf 3, on, (by decide +kernel)⟩

theorem test_unitsComplete_1_pwrGoodFall :
    ∃ (t : Nat) (s : State), s.powered = true ∧ s.kop.saving = none :=
  ⟨7, on, (by decide +kernel)⟩

theorem test_unitsComplete_2_devRstNAssert :
    ∃ (t : Nat) (s : State), s.powered = true ∧ s.pins.devRstN = true ∧ s.dev.mode ≠ .tripped :=
  ⟨7, on, (by decide +kernel)⟩

theorem test_unitsComplete_3_resetHold :
    ∃ (t : Nat) (s : State), s.dev.mode = .reset ∧ s.pins.devRstN = false ∧ s.driven = true ∧ s.dev.since +
      30000000000 ≤ t :=
  ⟨30000000000, { dev := { mode := .reset } }, (by decide +kernel)⟩

theorem test_unitsComplete_4_devRstNDeassert :
    ∃ (t : Nat) (samples : List (BitVec 2)) (s : State), s.pins.devRstN = false ∧ s.pins.tripLow = false ∧
      (s.dev.mode = .reset ∨ s.dev.mode = .hold) ∧ s.pins.railsOut = [] :=
  ⟨9, [1, 1], { dev := { mode := .reset } }, (by decide +kernel)⟩

theorem test_unitsComplete_5_profileLoad :
    ∃ (t : Nat) (s : State), s.dev.profileLoaded = false ∧ s.pins.railsOut = [] ∧ s.dev.mode = .bringUp ∧
      s.dev.dTime ≤ t :=
  ⟨10000000, { dev := { mode := .bringUp, dTime := 10000000 }, pins := { devRstN := true } }, (by decide +kernel)⟩

theorem test_unitsComplete_6_clusterSelfTestEnd :
    ∃ (t : Nat) (cores : List (ClusterId × Fin 17)) (clusters : List ClusterId) (s : State), s.dev.profileLoaded =
      true ∧ s.dev.selfTested = false ∧ s.pins.brakeN = true ∧ s.pins.railsOut = [] ∧ (s.dev.mode = .bringUp ∨
      s.dev.mode = .recovery) :=
  ⟨5, [], [], { dev := { mode := .bringUp, profileLoaded := true } }, (by decide +kernel)⟩

theorem test_unitsComplete_7_hostInterfaceResetEnd :
    ∃ (t : Nat) (s : State), s.dev.hifOut = false ∧ s.dev.mode = .bringUp ∧ s.dev.profileLoaded = true ∧
      s.dev.dTime + 20000000 ≤ t :=
  ⟨30000000, { dev := { mode := .bringUp, profileLoaded := true, dTime := 10000000 } }, (by decide +kernel)⟩

theorem test_unitsComplete_8_deviceReady :
    ∃ (t : Nat) (speed : BitVec 4) (width : BitVec 5) (flit : Bool) (s : State), s.mayServe t = true ∧ s.dev.mode =
      .bringUp ∧ (s.hif.linkUp = true ∨ linkOk (s.trained speed) width flit = true) :=
  ⟨40000000, 5, 16, true, { dev := { mode := .bringUp, profileLoaded := true, selfTested := true, hifOut := true } }, (by decide +kernel)⟩

theorem test_unitsComplete_9_recoveryTimeout :
    ∃ (t : Nat) (s : State), s.dev.mode = .recovery ∧ s.recoveryEnds t ≤ t ∧ s.dev.attempt < 2 ∧ s.dev.drained =
      false :=
  ⟨6000000000, { dev := { mode := .recovery, attempt := 1 } }, (by decide +kernel)⟩

theorem test_unitsComplete_10_recoveryTimeout :
    ∃ (t : Nat) (s : State), s.dev.mode = .recovery ∧ s.recoveryEnds t ≤ t ∧ 2 ≤ s.dev.attempt ∧ s.driven = true :=
  ⟨6000000000, { dev := { mode := .recovery, attempt := 2 } }, (by decide +kernel)⟩

theorem test_unitsComplete_11_railOutOfTolerance :
    ∃ (t : Nat) (rail : Fin 15) (mv : Nat) (s : State), s.pins.railsOut.contains rail.val = false ∧ rail.val < 13 ∧
      s.dev.mode = .service :=
  ⟨5, 2, 900, on, (by decide +kernel)⟩

theorem test_unitsComplete_12_railMonitorSample :
    ∃ (t : Nat) (mw : List Nat) (inTolerance : List (Fin 15)) (s : State), s.powered = true ∧ s.power.samples < 99 :=
  ⟨5, List.replicate 15 100, [3], { dev := { mode := .reset }, pins := { railsOut := [3] } }, (by decide +kernel)⟩

theorem test_unitsComplete_13_refclkSysLost :
    ∃ (t : Nat) (s : State), s.powered = true ∧ s.pins.refsysLost = false :=
  ⟨5, on, (by decide +kernel)⟩

theorem test_unitsComplete_14_refclkSysRestored :
    ∃ (t : Nat) (s : State), s.powered = true ∧ s.pins.refsysLost = true :=
  ⟨5, { dev := { mode := .service }, pins := { refsysLost := true } }, (by decide +kernel)⟩

theorem test_unitsComplete_15_refclkLinkLost :
    ∃ (t : Nat) (s : State), s.powered = true ∧ s.pins.reflinkLost = false :=
  ⟨5, on, (by decide +kernel)⟩

theorem test_unitsComplete_16_refclkLinkRestored :
    ∃ (t : Nat) (s : State), s.powered = true ∧ s.pins.reflinkLost = true :=
  ⟨5, { dev := { mode := .service }, pins := { reflinkLost := true } }, (by decide +kernel)⟩

theorem test_unitsComplete_17_refclkPcieLost :
    ∃ (t : Nat) (s : State), s.powered = true ∧ s.pins.refpcieLost = false :=
  ⟨5, on, (by decide +kernel)⟩

theorem test_unitsComplete_18_refclkPcieRestored :
    ∃ (t : Nat) (s : State), s.powered = true ∧ s.pins.refpcieLost = true :=
  ⟨5, { dev := { mode := .service }, pins := { refpcieLost := true } }, (by decide +kernel)⟩

theorem test_unitsComplete_19_canRxdDominantTimeout :
    ∃ (t : Nat) (s : State), s.powered = true ∧ s.pins.canStopped = false :=
  ⟨5, on, (by decide +kernel)⟩

theorem test_unitsComplete_20_canRxdRecessiveResume :
    ∃ (t : Nat) (s : State), s.powered = true :=
  ⟨5, on, (by decide +kernel)⟩

theorem test_unitsComplete_21_cadenceInputEvent :
    ∃ (t : Nat) (sync : Bool) (s : State), s.powered = true ∧ s.cdu.mode ≠ 2 ∧ s.cdu.tracking = true ∧ s.perturbing
      = false ∧ s.cdu.inWindow t = true :=
  ⟨100, true, { on with cdu := { state := 2, predicted := 100 } }, (by decide +kernel)⟩

theorem test_unitsComplete_22_cadencePeriodMissing :
    ∃ (t : Nat) (s : State), Canonical s ∧ s.powered = true ∧ s.cdu.tracking = true ∧ s.cdu.mode ≠ 2 ∧
      s.cdu.windowClosed t = true ∧ s.dget 0x30A0 7 + 1 < 2 ^ 32 :=
  ⟨100000000, { on with cdu := { state := 2, predicted := 100 } }, (by constructor <;> decide), (by decide +kernel)⟩

theorem test_unitsComplete_23_holdoverEntry :
    ∃ (t : Nat) (s : State), s.powered = true ∧ s.cdu.tracking = true ∧
      (4 ≤ s.cdu.missing ∨ s.cdu.outOfRange = true) :=
  ⟨100, { on with cdu := { state := 2, missing := 4 } }, (by decide +kernel)⟩

theorem test_unitsComplete_24_cadenceSyncMark :
    ∃ (t : Nat) (s : State), s.powered = true ∧ s.cdu.mode = 1 ∧ s.cdu.state = 2 ∧ s.cdu.markDue = some 0 :=
  ⟨100, { on with cdu := { mode := 1, state := 2, markDue := some 0 } }, (by decide +kernel)⟩

theorem test_unitsComplete_25_epochEnd :
    ∃ (t : Nat) (s : State), Canonical s ∧ s.serving = true ∧ s.cdu.ticked = true ∧
      s.cdu.tick % s.dget 0x2300 2 = 0 ∧ s.cdu.epochTick ≠ some s.cdu.tick ∧ tsorted none s.ctxs.accounts = true :=
  ⟨100, { on with cdu := { ticked := true, tick := 100 } }, (by constructor <;> decide), (by decide +kernel)⟩

theorem test_unitsComplete_26_cduApply :
    ∃ (r : Requester) (value : BitVec 8) (s : State), Canonical s ∧ s.admits r 0x2200 4 = true ∧ value = 1 ∧
      cadenceOk (s.dget 0x2200 1) (s.dget 0x2200 2) (s.dget 0x2200 3) = true :=
  ⟨.hostPf, 1, on, (by constructor <;> decide), (by decide +kernel)⟩

theorem test_unitsComplete_27_pwrBrakeNAssert :
    ∃ (t : Nat) (s : State), Canonical s ∧ s.pins.brakeN = true :=
  ⟨5, { on with dict := [(dkey 0x3040 1 0, 2)] }, (by constructor <;> decide), (by decide +kernel)⟩

theorem test_unitsComplete_28_pwrBrakeNRelease :
    ∃ (t : Nat) (s : State), Canonical s ∧ s.pins.brakeN = false ∧
      s.dget 0x2100 0x12 + (max s.uptime t - s.pins.brakeSince) / 1000 < 2 ^ 64 :=
  ⟨5000, { on with pins := { on.pins with brakeN := false } }, (by constructor <;> decide), (by decide +kernel)⟩

theorem test_unitsComplete_29_pwrBrakeLong :
    ∃ (t : Nat) (s : State), Canonical s ∧ s.pins.brakeN = false ∧ s.pins.brakeLogged = false ∧
      s.pins.brakeSince + 1000000000 < t :=
  ⟨1000000001, { on with pins := { on.pins with brakeN := false } }, (by constructor <;> decide), (by decide +kernel)⟩

theorem test_unitsComplete_30_powerCapCheck :
    ∃ (t mw : Nat) (s : State), Canonical s ∧ s.powered = true ∧ s.power.lastCap + 20000 ≤ t ∧
      s.dget 0x2100 1 * 1000 < mw ∧ 0 < s.dget 0x2100 8 ∧ s.dget 0x2100 15 + 1 < 2 ^ 32 :=
  ⟨20000, 2000000, on, (by constructor <;> decide), (by decide +kernel)⟩

theorem test_unitsComplete_31_vinCmpLimitCheck :
    ∃ (t : Nat) (die : Fin 4) (ma : Nat) (s : State), Canonical s ∧ s.powered = true ∧
      (((tfind s.power.lastVin die.val).all fun t0 => decide (t0 + 5000 ≤ t)) = true) ∧ ma ≤ s.dget 0x2100 2 * 1000 ∧
      ma * 10 < s.dget 0x2100 2 * 1000 * 9 ∧ tfind s.power.belowVin die.val = none :=
  ⟨5000, 1, 9, on, (by constructor <;> decide), (by decide +kernel)⟩

theorem test_unitsComplete_32_clusterPointTransition :
    ∃ (cluster : ClusterId) (s : State), Canonical s ∧ s.clusterUp cluster.val = true ∧ s.domain cluster.val = 2 :=
  ⟨0, { on with dict := [(dkey 0x3040 1 0, 2)] }, (by constructor <;> decide), (by decide +kernel)⟩

theorem test_unitsComplete_33_clusterIdle :
    ∃ (cluster : ClusterId) (t : Nat) (s : State), Canonical s ∧ s.dget 0x2100 4 ≠ 0 ∧ s.domain cluster.val = 2 ∧
      s.stepOn cluster.val = false ∧ tget 0 s.power.lastWork cluster.val + s.dget 0x2100 4 * 1000 ≤ t :=
  ⟨0, 5000, { on with dict := [(dkey 0x2100 4 0, 5), (dkey 0x3040 1 0, 2)] }, (by constructor <;> decide), (by decide +kernel)⟩

theorem test_unitsComplete_34_thermalSensorRead :
    ∃ (t : Nat) (sensor : Fin 100) (reading : BitVec 16) (s : State), Canonical s ∧ s.powered = true ∧
      s.dev.mode ≠ .tripped ∧ reading.toInt < 460 :=
  ⟨5, 3, 300, on, (by constructor <;> decide), (by decide +kernel)⟩

theorem test_unitsComplete_35_sensorFailed :
    ∃ (t : Nat) (sensor : Fin 100) (s : State), Canonical s ∧ s.powered = true ∧
      thas s.power.failed sensor.val = false :=
  ⟨5, 66, on, (by constructor <;> decide), (by decide +kernel)⟩

theorem test_unitsComplete_36_temperatureDifferenceCheck :
    ∃ (t : Nat) (cl : Nat) (s : State), Canonical s ∧ s.powered = true ∧ cl < 64 ∧ s.hotterBy cl 108 = false ∧
      tget 0 s.power.region cl = 0 :=
  ⟨5, 0, on, (by constructor <;> decide), (by decide +kernel)⟩

theorem test_unitsComplete_37_basecampTakeover :
    ∃ (t : Nat) (s : State), Canonical s ∧ s.powered = true ∧ s.dget 0x3010 6 = 1 :=
  ⟨5, { on with dict := [(dkey 0x3010 6 0, 1)] }, (by constructor <;> decide), (by decide +kernel)⟩

theorem test_unitsComplete_38_coreRotatePeriod :
    ∃ (cluster : ClusterId) (t : Nat) (s : State), s.powered = true ∧ s.periodOver cluster.val t = true :=
  ⟨3, 3600000000000, { on with dict := [(dkey 0x3010 3 0, 1)] }, (by decide +kernel)⟩

theorem test_unitsComplete_39_coreRotation :
    ∃ (cluster : ClusterId) (p q : Nat) (s : State),
      s.serving? cluster.val (tget 0 s.health.nextPosition cluster.val) = some p ∧ s.spareOf cluster.val = some q ∧
      thas s.health.rotationDue cluster.val = true ∧ s.mayRotate cluster.val = true ∧ p < 17 ∧ q < 17 ∧
      (tget 0 s.health.nextPosition cluster.val) < 16 ∧ tsorted none s.health.nextPosition = true ∧
      tsorted none s.health.rotationDue = true :=
  ⟨0, 0, 1, { on with dict := [(dkey 0x3040 1 0, 2)], health := { coreState := [(0, 0), (1, 0xF1)], rotationDue := [(0, ())] } }, (by decide +kernel), (by decide +kernel), (by decide +kernel), (by decide +kernel), (by decide +kernel)⟩

theorem test_unitsComplete_40_rotationTestEnd :
    ∃ (cluster : ClusterId) (pass : Bool) (p : Nat) (s : State), Canonical s ∧
      tsorted none s.health.rotating = true ∧ tfind s.health.rotating cluster.val = some p ∧
      s.dget 0x3020 3 + 1 < 2 ^ 32 ∧ pass = true :=
  ⟨0, true, 4, { on with health := { rotating := [(0, 4)] } }, (by constructor <;> decide), (by decide +kernel)⟩

theorem test_unitsComplete_41_clusterTestEnd :
    ∃ (cluster : ClusterId) (failed : List (Fin 17)) (restPassed : Bool) (s : State), Canonical s ∧
      s.health.testing = some (cluster.val, true) ∧ restPassed = false ∧ failed = [] :=
  ⟨3, [], false, { on with health := { testing := some (3, true) } }, (by constructor <;> decide), (by decide +kernel)⟩

theorem test_unitsComplete_42_lifeAccumulate :
    ∃ (t : Nat) (means : List (Int × Nat)) (i : Nat) (m : Int × Nat) (s : State), s.powered = true ∧
      s.health.lastLife + 1000000000 ≤ t ∧ tsorted none s.health.lifeUs = true ∧ i < 64 ∧ means[i]? = some m ∧
      s.domain i ≠ 0 :=
  ⟨1000000000, [(20, 800)], 0, (20, 800), { on with dict := [(dkey 0x3040 1 0, 2)] }, (by decide +kernel), (by decide +kernel)⟩

theorem test_unitsComplete_43_profileSave :
    ∃ (r : Requester) (slot : BitVec 8) (s : State), Canonical s ∧ s.admits r 0x2000 5 = true ∧ slot.toNat ≤ 3 ∧
      s.kop.saving = none :=
  ⟨.hostPf, 3, on, (by constructor <;> decide), (by decide +kernel)⟩

theorem test_unitsComplete_44_profileAutosave :
    ∃ (t : Nat) (s : State), Canonical s ∧ s.powered = true ∧ s.dget 0x2000 6 ≠ 0 ∧ s.dget 0x2000 4 ≠ 0xFF ∧ s.dget
      0x2000 7 = 1 ∧ s.kop.saving = none ∧ s.kop.lastWrite + s.dget 0x2000 6 * 1000000000 ≤ t :=
  ⟨2000000000, { on with dict := [(dkey 0x2000 4 0, 1), (dkey 0x2000 6 0, 2), (dkey 0x2000 7 0, 1)] }, (by constructor <;> decide), (by decide +kernel)⟩

theorem test_unitsComplete_45_profileImage :
    ∃ (r : Requester) (slot : Fin 4) (image : Bytes) (s : State), Canonical s ∧ s.admits r 0x2010 (slot.val + 1) =
      true ∧ copyIntact image = true ∧ s.dget 0x2000 4 ≠ slot.val ∧ tsorted none s.kop.copies = true ∧ s.copyThere 0 =
      true :=
  ⟨.hostPf, 3, profile, on, (by constructor <;> decide), (by decide +kernel)⟩

theorem test_unitsComplete_46_profileErase :
    ∃ (r : Requester) (slot : BitVec 8) (s : State), Canonical s ∧ s.admits r 0x2000 11 = true ∧ slot.toNat ≤ 3 ∧
      tsorted none s.kop.copies = true ∧ s.copyThere 0 = true :=
  ⟨.hostPf, 3, on, (by constructor <;> decide), (by decide +kernel)⟩

theorem test_unitsComplete_47_profileSaveDone :
    ∃ (t : Nat) (v : Save) (s : State), Canonical s ∧ s.powered = true ∧ s.kop.saving = some v ∧ v.waiting = [] ∧
      tsorted none s.kop.copies = true ∧ s.copyThere 0 = true :=
  ⟨5, { slot := 1, image := [7] }, { on with kop := { loadedOnce := true, saving := some { slot := 1, image := [7] } } }, (by constructor <;> decide), (by decide +kernel)⟩

/-- The weights of the worked example of R612: 0.5 and 10.392. -/
theorem test_lifeWeight : lifeWeight 300 800 = 500000 ∧ lifeWeight 380 950 / 1000 = 10392 := by decide +kernel

end Sys2Proof.Tests
end

section
/-! SUPPORT. The Host window (R22, R320, R321): where its addresses lie in host memory while the link is up and the host refuses
no page, and what reads and writes of it do there. -/

namespace Sys2Proof.Machine

theorem Frame.keeps {g : List Zone} {s t : State} (k : Frame g s t) (p : Zone) (out : g.contains p = false) : p.same s t :=
  (k.same p).resolve_left (by simpa using out)

/-! ### Bytes of a memory -/

theorem memReads_length (m : List Host.Cell) (a n : Nat) : (memReads m a n).length = n := by
  induction n generalizing a with
  | zero => rfl
  | succ n ih => rw [memReads, List.length_cons, ih]

/-- A byte of a block that was copied inside a memory reads as the byte copied. -/
theorem memRead_memWrites_memReads (m k : List Host.Cell) (a b i n : Nat) (h : memWf m = true) (hi : i < n) :
    memRead (memWrites m b (memReads k a n)) (b + i) = memRead k (a + i) := by
  induction n generalizing m a b i with
  | zero => omega
  | succ n ih =>
    rw [memReads, memWrites]
    cases i with
    | zero =>
      rw [memRead_memWrites_of_not_mem _ _ _ _ (memWf_memWrite m b _ h) (by omega), memRead_memWrite m b _ _ h]
      exact if_pos rfl
    | succ i =>
      have := ih (memWrite m b (memRead k a)) (a + 1) (b + 1) i (memWf_memWrite m b _ h) (by omega)
      rwa [show b + 1 + i = b + (i + 1) by omega, show a + 1 + i = a + (i + 1) by omega] at this

/-! ### The window -/

/-- n bytes from an address lie in the Host window (R22). -/
structure InHost (va n : Nat) : Prop where
  lo : 2 ^ 44 ≤ va
  hi : va + n ≤ 2 ^ 45

theorem InHost.sub {va n va' n' : Nat} (h : InHost va n) (lo : va ≤ va') (hi : va' + n' ≤ va + n) : InHost va' n' :=
  ⟨Nat.le_trans h.lo lo, Nat.le_trans hi h.hi⟩

theorem InHost.tail {va n : Nat} (h : InHost va (n + 1)) : InHost (va + 1) n := h.sub (by omega) (by omega)

theorem windowOf_ne_zero {va : Nat} (h : 2 ^ 44 ≤ va) : windowOf va ≠ 0 := by
  unfold windowOf
  split_ifs <;> omega

theorem InHost.window {va n : Nat} (h : InHost va n) (hn : 0 < n) : windowOf va = 2 := by
  obtain ⟨lo, hi⟩ := h
  unfold windowOf
  rw [if_neg (by omega), if_neg (by omega), if_pos (by omega)]

/-- The link is up and the host refuses no request: every address of the Host window is mapped (R320, R321). -/
structure HostOpen (s : State) : Prop where
  linkUp : s.hif.linkUp = true
  noRefusal : s.hostDown = []

theorem HostOpen.of_frame {g : List Zone} {s t : State} (h : HostOpen s) (k : Frame g s t)
    (out : g.contains .hif = false) : HostOpen t where
  linkUp := (congrArg Hif.linkUp (k.keeps .hif out)).trans h.linkUp
  noRefusal := k.hostDown.trans h.noRefusal

/-- Where an address of a context's Host window lies in host memory. -/
def State.hostAddr (s : State) (c va : Nat) : Nat := Config.hostSpace (s.hostTag c) * 2 ^ 44 + (va - 2 ^ 44)

theorem State.hostAddr_succ (s : State) (c : Nat) {va : Nat} (h : 2 ^ 44 ≤ va) :
    s.hostAddr c (va + 1) = s.hostAddr c va + 1 := by
  unfold State.hostAddr
  omega

theorem State.hostTag_of_frame {g : List Zone} {s t : State} (k : Frame g s t) (c : Nat)
    (hif : g.contains .hif = false) (pages : g.contains .pages = false) : t.hostTag c = s.hostTag c := by
  have hn : t.hif.numVfs = s.hif.numVfs := (congrArg Hif.numVfs (k.keeps .hif hif)).trans rfl
  have hp : t.hif.pages = s.hif.pages := k.keeps .pages pages
  unfold State.hostTag State.function State.vfOn State.page
  rw [hn, hp]

theorem State.hostAddr_of_frame {g : List Zone} {s t : State} (k : Frame g s t) (c va : Nat)
    (hif : g.contains .hif = false) (pages : g.contains .pages = false) : t.hostAddr c va = s.hostAddr c va := by
  unfold State.hostAddr
  rw [State.hostTag_of_frame k c hif pages]

theorem State.place_host {s : State} (o : HostOpen s) (c : Nat) {va n : Nat} (h : InHost va n) (hn : 0 < n) (write : Bool) :
    s.place c va write = .ok (.host (s.hostAddr c va)) := by
  have answered (k : Nat) : tget 0 s.hostDown k = 0 := by rw [o.noRefusal]; rfl
  have here : s.hostPlace c va write = .ok (.host (s.hostAddr c va)) := by
    unfold State.hostPlace State.hostAddr
    dsimp only
    rw [o.linkUp, answered]
    exact (if_neg Bool.false_ne_true).trans (if_pos (.inl rfl))
  unfold State.place
  rw [h.window hn]
  exact here

/-! ### Reads -/

theorem State.readByte_host {s : State} (o : HostOpen s) (u : s.hostUncommitted = []) (c : Nat) {va n : Nat}
    (h : InHost va n) (hn : 0 < n) : s.readByte c va = .ok (memRead s.host (s.hostAddr c va)) := by
  simp only [State.readByte, State.place_host o c h hn, State.placeByte, u, thas, Bool.false_eq_true, if_false]

/-! ### Writes -/

theorem State.placeWrite_host (s : State) (unit c : Nat) (who : Option Nat) (va va0 n : Nat) (b : Byte) (a : Nat) :
    (s.placeWrite unit c who va va0 n b (.host a)).host = memWrite s.host a b :=
  ((State.cacheHost_frame _ c va).keeps .host rfl).1

/-- A write within the Host window takes every byte to host memory. -/
theorem State.writeFrom_host {s : State} (unit : Nat) (c : Nat) (who : Option Nat) (va0 n : Nat) {va : Nat} {bs : Bytes}
    (o : HostOpen s) (h : InHost va bs.length) :
    ∃ t, s.writeFrom unit c who va0 n va bs = (t, none) ∧ t.host = memWrites s.host (s.hostAddr c va) bs := by
  induction bs generalizing s va with
  | nil => exact ⟨s, rfl, rfl⟩
  | cons b bs ih =>
    rw [State.writeFrom, State.place_host o c h (Nat.succ_pos _)]
    have k := State.placeWrite_frame s unit c who va va0 n b (.host (s.hostAddr c va))
    have later := ih (o.of_frame k rfl) h.tail
    rwa [State.placeWrite_host, State.hostAddr_of_frame k c _ rfl rfl, State.hostAddr_succ s c h.lo] at later

end Sys2Proof.Machine
end

section
/-! SUPPORT. The completion of a command (R329, R337, R349): its entry in host memory, and the commands that stay in flight. -/

namespace Sys2Proof.Machine

/-! ### Commands in flight -/

theorem State.cmd_id {s : State} {id : Nat} {c : Cmd} (h : s.cmd id = some c) : c.id = id := by
  simpa using List.find?_some h

theorem State.starting_some {s : State} {id op : Nat} {c : Cmd} (h : s.starting id op = some c) :
    s.cmd id = some c ∧ c.op = op := by
  unfold State.starting at h
  split at h
  · cases h
  next d hd =>
    split at h
    next ok => cases h; exact ⟨hd, ok.1⟩
    · cases h

theorem State.cmd_of_cmds {s t : State} (h : t.cmds = s.cmds) (id : Nat) : t.cmd id = s.cmd id := by
  rw [State.cmd, h, State.cmd]

theorem State.cmd_setCmd {s : State} {c d : Cmd} (h : s.cmd c.id = some d) : (s.setCmd c).cmd c.id = some c := by
  have same : ((fun x => decide (x.id = c.id)) ∘ fun d : Cmd => if d.id = c.id then c else d) = fun x => decide (x.id = c.id) := by
    funext x
    by_cases e : x.id = c.id <;> simp [e]
  rw [State.cmd, State.setCmd, List.find?_map, same]
  rw [State.cmd] at h
  simp [h, State.cmd_id (s := s) h]

theorem State.mem_setCmd {s : State} {c d : Cmd} (h : d ∈ (s.setCmd c).cmds) : d = c ∨ d ∈ s.cmds := by
  obtain ⟨e, he, rfl⟩ := List.mem_map.mp h
  split
  · exact .inl rfl
  · exact .inr he

/-- Completing a command takes it, and no other, out of those in flight. -/
theorem State.finish_cmds (s : State) (c : Cmd) (status value flags replays : Nat) :
    (s.finish c status value flags replays).cmds = s.cmds.filter fun d => decide (d.id ≠ c.id) :=
  congrArg (List.filter _) ((State.writeCompletion_frame s c.ring c.ctx c.tag status flags replays (s.cmdDropped c) c.op value
    c.noIrq).keeps .cmds rfl).1

theorem State.cmd_none_iff (s : State) (id : Nat) : s.cmd id = none ↔ ∀ d ∈ s.cmds, d.id ≠ id := by
  simp [State.cmd]

theorem State.finish_cmd_none {s : State} {id : Nat} (c : Cmd) (status value flags replays : Nat)
    (h : s.cmd id = none ∨ c.id = id) : (s.finish c status value flags replays).cmd id = none := by
  rw [State.cmd_none_iff, State.finish_cmds]
  intro d hd
  obtain ⟨hs, hc⟩ := List.mem_filter.mp hd
  rcases h with h | rfl
  · exact (s.cmd_none_iff id).mp h d hs
  · simpa using hc

theorem settleFences_cmd_none (n : Nat) {s : State} {id : Nat} (h : s.cmd id = none) : (settleFences n s).cmd id = none := by
  induction n generalizing s with
  | zero => exact h
  | succ n ih =>
    unfold settleFences
    split
    · exact h
    · exact ih (State.finish_cmd_none _ 0 0 0 0 (.inl h))

theorem State.complete_cmd (s : State) (c : Cmd) (status value flags replays : Nat) :
    (s.complete c status value flags replays).cmd c.id = none :=
  settleFences_cmd_none _ (State.finish_cmd_none c status value flags replays (.inr rfl))

theorem State.completeOn_cmd (s : State) (c : Cmd) (status value : Nat) : (s.completeOn c status value).cmd c.id = none := by
  unfold State.completeOn
  dsimp only
  split
  · rw [State.cmd_of_cmds ((State.decideGrantOf_frame ..).keeps .cmds rfl).1]
    exact s.complete_cmd c status value 0 0
  · exact s.complete_cmd c status value 0 0

theorem settleFences_of_no_fence (n : Nat) {s : State} (h : ∀ d ∈ s.cmds, d.op ≠ 8) : settleFences n s = s := by
  cases n with
  | zero => rfl
  | succ n =>
    unfold settleFences
    rw [List.find?_eq_none.mpr fun d hd => by simp [h d hd]]

theorem State.complete_of_no_fence {s : State} (h : ∀ d ∈ s.cmds, d.op ≠ 8) (c : Cmd) (status value flags replays : Nat) :
    s.complete c status value flags replays = s.finish c status value flags replays := by
  refine settleFences_of_no_fence _ fun d hd => ?_
  rw [State.finish_cmds] at hd
  exact h d (List.mem_filter.mp hd).1

/-! ### The completion entry -/

theorem completionBytes_length (tag status flags replays dropped op value : Nat) :
    (completionBytes tag status flags replays dropped op value).length = 16 := by
  simp [completionBytes, leBytes_length]

/-- Address of the next completion entry of a ring (R329). -/
def Ring.cqEntry (r : Ring) : Nat := r.cqBase.toNat + r.cqTail * 16

/-- A completion whose entry lies in open host memory changes its 16 bytes there and no other byte of host memory. -/
theorem State.writeCompletion_host {s : State} (g c tag status flags replays dropped op value : Nat) (quiet : Bool)
    (o : HostOpen s) (up : s.dev.hostReset = false) (h : InHost (s.ring g).cqEntry 16) :
    ∃ bs : Bytes, bs.length = 16 ∧ (s.writeCompletion g c tag status flags replays dropped op value quiet).host =
      memWrites s.host (s.hostAddr c (s.ring g).cqEntry) bs := by
  have hl := completionBytes_length tag status (b2n (s.ring g).cqPhase + flags) replays dropped op value
  obtain ⟨t, e, w⟩ := State.writeFrom_host otherUnit c none (s.ring g).cqEntry _ o (hl ▸ h)
  refine ⟨_, hl, ?_⟩
  rw [← w]
  unfold State.writeCompletion
  dsimp only
  rw [up, if_neg Bool.false_ne_true, ← Ring.cqEntry, State.writes, State.writesBy, e]
  dsimp only
  have rung (r : Ring) : Frame [.free, .out, .entries, .ctxEntries, .rings, .msix, .health] t
      (((t.setRing g r).perturbed 7 g 0 c true).1.cbump c 11 1 64) :=
    Frame.step (State.cbump_frame ..) rfl
      (Frame.step (State.perturbed_frame ..) rfl (Frame.mono (State.setRing_frame ..) rfl))
  have counted (r : Ring) := Frame.ite (p := status = 0) (rung r) (Frame.step (State.cbump_frame _ c 11 2 32 1) rfl (rung r))
  exact ((Frame.ite (counted _) (Frame.step (State.interrupt_frame ..) rfl (counted _))).keeps .host rfl).1

end Sys2Proof.Machine
end

section
/-! SUPPORT. COPY within host memory (R22, R321, R344): it meets no pool, no frozen cluster and no Remote window, its source is read
as it stands, and its bytes are written at the destination at once. -/

namespace Sys2Proof.Machine

/-! ### The pieces of a range -/

/-- A piece of a cut range is not empty and lies within it. -/
theorem mem_pieces {w k a n : Nat} {x : Nat × Nat} (hw : 0 < w) (h : x ∈ pieces w k a n) :
    0 < x.2 ∧ a ≤ x.1 ∧ x.1 + x.2 ≤ a + n := by
  induction k generalizing a n with
  | zero => cases h
  | succ k ih =>
    rw [pieces] at h
    split at h
    · cases h
    · have cut := Nat.mod_lt a hw
      rcases List.mem_cons.mp h with rfl | h
      · dsimp only; omega
      · have := ih h
        omega

theorem pieces_zero (w k a : Nat) : pieces w k a 0 = [] := by
  cases k <;> rfl

theorem State.onPool_host (s : State) (c n : Nat) {va : Nat} (h : 2 ^ 44 ≤ va) : s.onPool c va n = false := by
  refine List.any_eq_false.mpr fun x hx => ?_
  have := windowOf_ne_zero (h.trans (mem_pieces (Nat.two_pow_pos 20) hx).2.1)
  simp [this]

theorem State.waitsFrozen_host (s : State) (c n : Nat) {va : Nat} (h : 2 ^ 44 ≤ va) : s.waitsFrozen c va n = false := by
  refine List.any_eq_false.mpr fun i _ => ?_
  have := windowOf_ne_zero (va := va / 2 ^ 20 * 2 ^ 20 + i * 2 ^ 20) (by omega)
  dsimp only
  rw [decide_eq_false this, Bool.false_and]
  exact Bool.false_ne_true

theorem InHost.remoteParts {va n : Nat} (h : InHost va n) : remoteParts va n = [] := by
  have len : va + n - max va remoteBase = 0 := Nat.sub_eq_zero_of_le (h.hi.trans (Nat.le_max_right ..))
  unfold Machine.remoteParts
  dsimp only
  rw [len, pieces_zero]

theorem InHost.localLen {va n : Nat} (h : InHost va n) : localLen va n = n :=
  Nat.min_eq_left (Nat.le_sub_of_add_le' h.hi)

/-! ### Memory that two ranges share -/

/-- The translated pieces of a range of the Host window lie within the range in host memory. -/
theorem State.mem_places_host {s : State} (o : HostOpen s) {c va n : Nat} {write : Bool} {x : Place × Nat} (h : InHost va n)
    (hx : x ∈ s.places c va n write) : ∃ a, x.1 = .host (s.hostAddr c a) ∧ va ≤ a ∧ a + x.2 ≤ va + n := by
  obtain ⟨y, hy, e⟩ := List.mem_filterMap.mp hx
  obtain ⟨pos, lo, hi⟩ := mem_pieces (by omega) hy
  rw [State.place_host o c (h.sub lo hi) pos] at e
  cases e
  exact ⟨y.1, rfl, lo, hi⟩

/-- Two disjoint ranges of one context's Host window share no byte. -/
theorem State.aliased_host {s : State} (o : HostOpen s) {c src dst n : Nat} (hs : InHost src n) (hd : InHost dst n)
    (apart : src + n ≤ dst ∨ dst + n ≤ src) : s.aliased c src dst n = false := by
  refine List.any_eq_false.mpr fun x hx => ?_
  rw [Bool.not_eq_true]
  refine List.any_eq_false.mpr fun y hy => ?_
  obtain ⟨a, ex, la, ha⟩ := State.mem_places_host o hs hx
  obtain ⟨b, ey, lb, hb⟩ := State.mem_places_host o hd hy
  have ls := hs.lo
  have ld := hd.lo
  unfold placesMeet
  rw [ex, ey]
  dsimp only
  rw [Bool.and_eq_true, decide_eq_true_eq, decide_eq_true_eq]
  unfold State.hostAddr
  omega

/-! ### The bytes -/

theorem State.gather_host {s : State} (o : HostOpen s) (u : s.hostUncommitted = []) (c src : Nat) (parts : Tab Bytes)
    (i n : Nat) (h : InHost (src + i) n) :
    s.gather c src parts i n = (memReads s.host (s.hostAddr c (src + i)) n, none) := by
  induction n generalizing i with
  | zero => rfl
  | succ n ih =>
    have near : ¬ remoteBase ≤ src + i := by have := h.hi; unfold remoteBase; omega
    rw [State.gather, if_neg near, State.readByte_host o u c h (Nat.succ_pos _), ih (i + 1) h.tail, memReads, ← Nat.add_assoc,
      State.hostAddr_succ s c h.lo]

/-- A COPY from one range of open host memory to another that is disjoint from it, and no mark of uncommitted bytes. -/
structure HostCopy (s : State) (c : Cmd) : Prop where
  toMemory : c.at 32 1 = 0
  opened : HostOpen s
  committed : s.hostUncommitted = []
  src : InHost (c.at 8 8) (c.at 24 8)
  dst : InHost (c.at 16 8) (c.at 24 8)
  apart : c.at 8 8 + c.at 24 8 ≤ c.at 16 8 ∨ c.at 16 8 + c.at 24 8 ≤ c.at 8 8

theorem HostCopy.of_frame {g : List Zone} {s t : State} {c : Cmd} (h : HostCopy s c) (k : Frame g s t)
    (hif : g.contains .hif = false) (host : g.contains .host = false) : HostCopy t c :=
  { h with opened := h.opened.of_frame k hif, committed := (k.keeps .host host).2.trans h.committed }

/-- Host memory once the source of a COPY within it stands at the destination. -/
def State.hostCopied (s : State) (c : Cmd) : List Host.Cell :=
  memWrites s.host (s.hostAddr c.ctx (c.at 16 8)) (memReads s.host (s.hostAddr c.ctx (c.at 8 8)) (c.at 24 8))

theorem State.hostCopied_of_frame {g : List Zone} {s t : State} (c : Cmd) (k : Frame g s t) (hif : g.contains .hif = false)
    (pages : g.contains .pages = false) (host : g.contains .host = false) : t.hostCopied c = s.hostCopied c := by
  unfold State.hostCopied
  rw [State.hostAddr_of_frame k _ _ hif pages, State.hostAddr_of_frame k _ _ hif pages, (k.keeps .host host).1]

theorem State.putBytes_host {s : State} {c : Cmd} (h : HostCopy s c) :
    ∃ t, s.putBytes c [] none = (t, [], none) ∧ t.host = s.hostCopied c := by
  have k := State.pathEvents_frame s otherUnit c.ctx (c.at 16 8) (c.at 24 8) 1
  have len := memReads_length s.host (s.hostAddr c.ctx (c.at 8 8)) (c.at 24 8)
  have g := State.gather_host h.opened h.committed c.ctx (c.at 8 8) [] 0 (c.at 24 8) h.src
  obtain ⟨t, e, w⟩ := State.writeFrom_host otherUnit c.ctx none (c.at 16 8) (c.at 24 8)
    (bs := memReads s.host (s.hostAddr c.ctx (c.at 8 8)) (c.at 24 8)) (h.opened.of_frame k rfl) (len.symm ▸ h.dst)
  rw [State.hostAddr_of_frame k _ _ rfl rfl, (k.keeps .host rfl).1] at w
  refine ⟨t, ?_, w⟩
  simp only [State.putBytes, g, Nat.add_zero, State.aliased_host h.opened h.src h.dst h.apart, Bool.false_eq_true, if_false,
    h.dst.localLen, len, List.take_of_length_le (Nat.le_of_eq len), h.dst.remoteParts, State.sendParts, e, List.dedup_nil]

/-! ### The command -/

/-- The zones that the bytes of a COPY can change, none of which says where its completion entry goes. -/
def copyZones : List Zone :=
  [.free, .entries, .ctxEntries, .host, .near, .nearMem, .bulk, .bulkMem, .cmds, .ctxs, .links, .health, .power]

theorem State.copyOut_host {s : State} {c : Cmd} (h : HostCopy s c) :
    ∃ t, s.copyOut c { cmd := c.id } = t.endCopy c none ∧ t.host = s.hostCopied c ∧ t.cmds = s.cmds ∧ Frame copyZones s t := by
  have k : Frame [.free, .entries, .bulk, .health, .power] s
      ((s.accessed otherUnit c.ctx (c.at 8 8) (c.at 24 8)).pathEvents otherUnit c.ctx (c.at 8 8) (c.at 24 8) 0) :=
    Frame.step (State.pathEvents_frame ..) rfl (Frame.mono (State.accessed_frame ..) rfl)
  obtain ⟨t, e, w⟩ := State.putBytes_host (h.of_frame k rfl rfl)
  have kt := Frame.of_fst (State.putBytes_frame ..) e
  refine ⟨t, ?_, w.trans (State.hostCopied_of_frame c k rfl rfl rfl), (kt.keeps .cmds rfl).1.trans (k.keeps .cmds rfl).1,
    Frame.step kt rfl (Frame.mono k rfl)⟩
  have mem : ¬ c.at 32 1 = 1 := by rw [h.toMemory]; exact Nat.zero_ne_one
  simp only [State.copyOut, if_neg mem, h.src.localLen, Option.map_none, e, List.any_nil, List.filter_nil, List.isEmpty_nil,
    if_true]

theorem State.copyGoesOn_host {s : State} {c : Cmd} (h : HostCopy s c) (run : s.ctxs.copies = [{ cmd := c.id }])
    (found : s.cmd c.id = some c) : s.copyGoesOn c.id = s.copyOut c { cmd := c.id } := by
  have free : s.copyWaits c = false := by
    rw [State.copyWaits, State.waitsFrozen_host s _ _ h.src.lo, State.waitsFrozen_host s _ _ h.dst.lo, Bool.and_false]
    rfl
  simp [State.copyGoesOn, run, found, free]

/-- A COPY within host memory begins and ends in one step: what it ends from holds its bytes, and has no other command in
flight than before. -/
theorem State.beginCopy_host {s : State} {c : Cmd} (h : HostCopy s c) (idle : s.ctxs.copies = [])
    (found : s.cmd c.id = some c) :
    ∃ t, s.beginCopy c = t.endCopy { c with stage := .running } none ∧ t.host = s.hostCopied c ∧ Frame copyZones s t ∧
      ∀ d ∈ t.cmds, d.op = c.op ∨ d ∈ s.cmds := by
  have listed : Frame [.ctxs] s { s with ctxs := { s.ctxs with copies := [{ cmd := c.id }] } } :=
    Frame.set_ctxs _ rfl (Frame.refl _ _)
  have k := Frame.step (g := [.ctxs, .cmds]) (State.stage_frame _ c .running) rfl (Frame.mono listed rfl)
  have h' : HostCopy _ { c with stage := .running } := { h.of_frame k rfl rfl with }
  obtain ⟨t, e, w, same, kt⟩ := State.copyOut_host h'
  refine ⟨t, ?_, w.trans (State.hostCopied_of_frame c k rfl rfl rfl), Frame.step kt rfl (Frame.mono k rfl), fun d hd => ?_⟩
  · rw [← e, ← State.copyGoesOn_host h' rfl (State.cmd_setCmd (c := { c with stage := .running }) found)]
    simp only [State.beginCopy, h.src.remoteParts, State.askParts, idle]
    rfl
  · rw [same] at hd
    rcases State.mem_setCmd hd with rfl | old
    · exact .inl rfl
    · exact .inr old

theorem State.endCopy_cmd (s : State) (c : Cmd) : (s.endCopy c none).cmd c.id = none :=
  State.completeOn_cmd ..

/-- With no FENCE in flight a COPY that ends well changes the 16 bytes of its completion entry and no other byte of host
memory. -/
theorem State.endCopy_host {s : State} (c : Cmd) (o : HostOpen s) (up : s.dev.hostReset = false)
    (noFence : ∀ d ∈ s.cmds, d.op ≠ 8) (h : InHost (s.ring c.ring).cqEntry 16) :
    ∃ bs : Bytes, bs.length = 16 ∧ (s.endCopy c none).host =
      memWrites s.host (s.hostAddr c.ctx (s.ring c.ring).cqEntry) bs := by
  let t : State := { s with ctxs := { s.ctxs with copies := s.ctxs.copies.filter fun k => decide (k.cmd ≠ c.id) } }
  have done : (s.endCopy c none).host = (t.complete c 0 (c.at 24 8)).host := by
    show (t.completeOn c 0 (c.at 24 8)).host = _
    unfold State.completeOn
    dsimp only
    split
    · exact ((State.decideGrantOf_frame ..).keeps .host rfl).1
    · rfl
  rw [done, State.complete_of_no_fence (s := t) noFence]
  exact State.writeCompletion_host (s := t) c.ring c.ctx _ _ _ _ _ _ _ _ ⟨o.linkUp, o.noRefusal⟩ up h

/-- A COPY whose ranges overlap ends with OVERLAP before a byte of it moves (R344). -/
theorem execCopy_overlap {s : State} {cmd : Nat} {c : Cmd} (h : s.starting cmd 2 = some c) (mem : c.at 32 1 = 0)
    (lo : c.at 8 8 < c.at 16 8 + c.at 24 8) (hi : c.at 16 8 < c.at 8 8 + c.at 24 8) :
    execCopy cmd s = .next (s.fresh.2.complete c stOverlap (s.fresh.1.toNat % 65536)) := by
  rw [execCopy, h]
  dsimp only
  rw [if_pos ⟨mem, lo, hi⟩]

/-- A COPY within host memory starts at once: it waits for no grant. -/
theorem execCopy_host {s : State} {cmd : Nat} {c : Cmd} (h : s.starting cmd 2 = some c) (hc : HostCopy s c) :
    execCopy cmd s = .next (s.beginCopy c) := by
  have apart := hc.apart
  rw [execCopy, h]
  dsimp only
  rw [if_neg (by omega), State.onPool_host s _ _ hc.src.lo, State.onPool_host s _ _ hc.dst.lo, Bool.and_false, Bool.or_false]
  simp only [State.underGrant, Bool.false_and, Bool.false_eq_true, if_false, Bool.or_false]

/-- The bytes of a COPY within host memory, given that its completion entry lies in host memory away from its
destination. -/
theorem execCopy_bytes {s : State} {cmd : Nat} {c : Cmd} (can : Canonical s) (h : s.starting cmd 2 = some c) (hc : HostCopy s c)
    (idle : s.ctxs.copies = []) (up : s.dev.hostReset = false) (noFence : ∀ d ∈ s.cmds, d.op ≠ 8)
    (entry : InHost (s.ring c.ring).cqEntry 16)
    (away : (s.ring c.ring).cqEntry + 16 ≤ c.at 16 8 ∨ c.at 16 8 + c.at 24 8 ≤ (s.ring c.ring).cqEntry) :
    ∃ u, execCopy cmd s = .next u ∧ u.cmd cmd = none ∧
      (∀ i < c.at 24 8, memRead u.host (s.hostAddr c.ctx (c.at 16 8) + i) = memRead s.host (s.hostAddr c.ctx (c.at 8 8) + i)) ∧
      ∀ a, (a < s.hostAddr c.ctx (c.at 16 8) ∨ s.hostAddr c.ctx (c.at 16 8) + c.at 24 8 ≤ a) →
        (a < s.hostAddr c.ctx (s.ring c.ring).cqEntry ∨ s.hostAddr c.ctx (s.ring c.ring).cqEntry + 16 ≤ a) →
        memRead u.host a = memRead s.host a := by
  obtain ⟨found, op⟩ := State.starting_some h
  have named := State.cmd_id found
  obtain ⟨t, e, copied, k, flight⟩ := State.beginCopy_host hc idle (named.symm ▸ found)
  have noFence' : ∀ d ∈ t.cmds, d.op ≠ 8 := fun d hd => (flight d hd).elim (by omega) (noFence d)
  have ring : t.ring c.ring = s.ring c.ring := by
    rw [State.ring, show t.hif.rings = s.hif.rings from k.keeps .rings rfl, State.ring]
  obtain ⟨bs, len, done⟩ := State.endCopy_host { c with stage := .running } (hc.opened.of_frame k rfl)
    ((congrArg Dev.hostReset (k.keeps .dev rfl)).trans up) noFence' (ring.symm ▸ entry)
  have addr := State.hostAddr_of_frame k c.ctx (s.ring c.ring).cqEntry rfl rfl
  dsimp only at done
  rw [ring, addr, copied] at done
  have wf : memWf (s.hostCopied c) = true := memWf_memWrites _ _ _ can.host
  have moved := memReads_length s.host (s.hostAddr c.ctx (c.at 8 8)) (c.at 24 8)
  have apart : s.hostAddr c.ctx (s.ring c.ring).cqEntry + 16 ≤ s.hostAddr c.ctx (c.at 16 8) ∨
      s.hostAddr c.ctx (c.at 16 8) + c.at 24 8 ≤ s.hostAddr c.ctx (s.ring c.ring).cqEntry := by
    have := entry.lo
    have := hc.dst.lo
    unfold State.hostAddr
    omega
  refine ⟨_, (execCopy_host h hc).trans (congrArg _ e), named ▸ t.endCopy_cmd { c with stage := .running }, fun i hi => ?_,
    fun a out off => ?_⟩
  · rw [done, memRead_memWrites_of_not_mem _ _ _ _ wf (by omega)]
    exact memRead_memWrites_memReads _ _ _ _ _ _ can.host hi
  · rw [done, memRead_memWrites_of_not_mem _ _ _ _ wf (by omega)]
    exact memRead_memWrites_of_not_mem _ _ _ _ can.host (by omega)

/-- Settles O27: an overlapping COPY is refused before a byte moves; one within host memory is its bytes at the destination and
then its completion entry, each of which leaves every other byte as it was. -/
theorem copies : Obligations.Copies := by
  unfold Obligations.Copies
  refine ⟨fun cmd c s _ h mem lo hi => ?_, ?_⟩
  · refine ⟨_, execCopy_overlap h mem lo hi, rfl, ?_, ?_⟩
    · exact State.cmd_id (State.starting_some h).1 ▸ State.complete_cmd ..
    · exact Frame.step (State.complete_frame ..) rfl (Frame.mono (State.fresh_frame s) rfl)
  · intro cmd c s can h mem idle up noFence link down marks srcLo srcHi dstLo dstHi apart cqLo cqHi away
    have noFence' : ∀ d ∈ s.cmds, d.op ≠ 8 := by simpa using noFence
    obtain ⟨u, e, gone, bytes, rest⟩ := execCopy_bytes can h ⟨mem, ⟨link, down⟩, marks, ⟨srcLo, srcHi⟩, ⟨dstLo, dstHi⟩, apart⟩
      idle up noFence' ⟨Nat.le_add_right_of_le cqLo, cqHi⟩ away
    unfold State.hostAddr at bytes
    unfold State.hostAddr Ring.cqEntry at rest
    refine ⟨u, e, gone, fun i hi => ?_, fun a out off => rest a ?_ ?_, execCopy_frame e⟩
    · have := bytes i hi
      rwa [Nat.add_assoc, Nat.add_assoc] at this
    · omega
    · omega

end Sys2Proof.Machine
end

section
/-! SUPPORT. The commands of the steps in flight: most operations change steps in place, and only the end of a step takes one
out. -/

namespace Sys2Proof.Machine

/-- Commands of the steps in flight, in their order. -/
def State.stepCmds (s : State) : List Nat := s.steps.map (·.cmd)

theorem State.step?_eq_none_iff (s : State) (id : Nat) : s.step? id = none ↔ id ∉ s.stepCmds := by
  simp [State.step?, State.stepCmds]

theorem State.stepCmds_of_steps {s t : State} (h : t.steps = s.steps) : t.stepCmds = s.stepCmds := by
  rw [State.stepCmds, h, State.stepCmds]

theorem State.stepCmds_of_frame {g : List Zone} {s t : State} (k : Frame g s t) (out : g.contains .steps = false) :
    t.stepCmds = s.stepCmds := State.stepCmds_of_steps (k.keeps .steps out)

theorem State.stepCmds_foldl {α : Type} {f : State → α → State} (k : ∀ s x, (f s x).stepCmds = s.stepCmds) (l : List α)
    (s : State) : (l.foldl f s).stepCmds = s.stepCmds := by
  induction l generalizing s with
  | nil => rfl
  | cons x l ih => exact (ih _).trans (k s x)

theorem State.stepCmds_foldl_frame {α : Type} {g : List Zone} {f : State → α → State} (k : ∀ s x, Frame g s (f s x))
    (out : g.contains .steps = false) (l : List α) (s : State) : (l.foldl f s).stepCmds = s.stepCmds :=
  State.stepCmds_foldl (fun s x => State.stepCmds_of_frame (k s x) out) l s

/-- Steps changed in place keep their commands. -/
theorem stepCmds_map {f : Step → Step} (k : ∀ p, (f p).cmd = p.cmd) (ps : List Step) :
    (ps.map f).map (·.cmd) = ps.map (·.cmd) := by
  simp [List.map_map, Function.comp_def, k]

@[simp] theorem State.stepCmds_setStep (s : State) (p : Step) : (s.setStep p).stepCmds = s.stepCmds :=
  stepCmds_map (fun q => by split <;> simp_all) _

theorem State.stepCmds_dropStep (s : State) (id : Nat) :
    (s.dropStep id).stepCmds = s.stepCmds.filter fun i => decide (i ≠ id) := by
  simp [State.stepCmds, State.dropStep, List.filter_map, Function.comp_def]

/-! ### Activation -/

@[simp] theorem State.stepCmds_endWait (s : State) (cl : Nat) : (s.endWait cl).stepCmds = s.stepCmds := by
  unfold State.endWait
  dsimp only
  split
  · rfl
  · exact stepCmds_map (fun q => by split <;> rfl) _

@[simp] theorem State.stepCmds_countFreeze (s : State) (cl : Nat) : (s.countFreeze cl).stepCmds = s.stepCmds := by
  unfold State.countFreeze
  split
  · exact (State.stepCmds_of_frame (State.dbump_frame ..) rfl).trans (State.stepCmds_endWait _ cl)
  · rfl

@[simp] theorem State.stepCmds_clearFootprint (s : State) (fp : BitVec 64) : (s.clearFootprint fp).stepCmds = s.stepCmds :=
  State.stepCmds_foldl State.stepCmds_countFreeze (clustersOf fp) s

theorem State.stepCmds_activate (s : State) (c id image : Nat) (fp : BitVec 64) (bytes : Bytes) :
    (s.activate c id image fp bytes).stepCmds = s.stepCmds := by
  unfold State.activate
  refine (State.stepCmds_of_frame (State.cbump_frame ..) rfl).trans ?_
  refine (State.stepCmds_foldl_frame (fun _ _ => State.preload_frame ..) rfl _ _).trans ?_
  refine (State.stepCmds_foldl_frame (fun _ _ => State.powerCluster_frame ..) rfl _ _).trans ?_
  exact (State.stepCmds_clearFootprint ..).trans ((State.stepCmds_of_frame (State.trimStages_frame ..) rfl).trans rfl)

theorem State.stepCmds_reactivate (s : State) (r : Route) : (s.reactivate r).stepCmds = s.stepCmds := by
  have seen : (s.imageSeen r.ctx r.image).stepCmds = s.stepCmds := State.stepCmds_of_frame (State.imageSeen_frame ..) rfl
  have dropped (t : State) : (t.dropRoute r).stepCmds = t.stepCmds := State.stepCmds_of_frame (State.dropRoute_frame ..) rfl
  unfold State.reactivate
  dsimp only
  split
  · exact (dropped _).trans seen
  · split
    · exact (dropped _).trans seen
    · exact (State.stepCmds_activate ..).trans ((State.stepCmds_of_frame (State.stageImage_frame ..) rfl).trans seen)

theorem State.stepCmds_revive (s : State) (r : Route) : (s.revive r).stepCmds = s.stepCmds := by
  unfold State.revive
  split
  · split
    · exact State.stepCmds_of_frame (State.dropRoute_frame ..) rfl
    · exact State.stepCmds_activate ..
  · exact State.stepCmds_reactivate ..

/-! ### Grants -/

theorem State.stepCmds_startSwitch (s : State) (p w : Nat) : (s.startSwitch p w).stepCmds = s.stepCmds := by
  have noted (t : State) (h : t.stepCmds = s.stepCmds) :
      ((((t.dset 0x2300 4 p w).dbump 0x2300 5 p 32).cbump w 2 7 32).dropPoolEntries p w).stepCmds = s.stepCmds := by
    refine (State.stepCmds_of_frame (State.dropPoolEntries_frame ..) rfl).trans ?_
    refine (State.stepCmds_of_frame (State.cbump_frame ..) rfl).trans ?_
    exact (State.stepCmds_of_frame (State.dbump_frame ..) rfl).trans h
  unfold State.startSwitch
  dsimp only
  split
  · exact noted _ (stepCmds_map (fun q => by split <;> rfl) _)
  · refine (State.stepCmds_foldl_frame (fun _ _ => State.rappel_frame ..) rfl _ _).trans ?_
    refine (State.stepCmds_of_frame (State.dropPoolEntries_frame ..) rfl).trans ?_
    exact noted _ (stepCmds_map (fun q => by split <;> rfl) _)

theorem State.stepCmds_grantDecision (s : State) (p : Nat) : (s.grantDecision p).stepCmds = s.stepCmds := by
  unfold State.grantDecision
  split
  · rfl
  · split
    · exact State.stepCmds_startSwitch ..
    · rfl

theorem State.stepCmds_decideGrantOf (s : State) (c : Nat) : (s.decideGrantOf c).stepCmds = s.stepCmds := by
  unfold State.decideGrantOf
  split
  · exact State.stepCmds_grantDecision ..
  · rfl

/-! ### Isolation and hang searches -/

theorem State.stepCmds_isolate (s : State) (cl : Nat) : (s.isolate cl).stepCmds = s.stepCmds := by
  have aborted (t : State) (p q : Step) : ((t.sendAbort p stFootprint 0).setStep q).stepCmds = t.stepCmds :=
    (State.stepCmds_setStep ..).trans (State.stepCmds_of_frame (State.sendAbort_frame ..) rfl)
  unfold State.isolate
  split
  · rfl
  · split
    · exact State.stepCmds_of_frame (State.isolateNow_frame ..) rfl
    · refine (State.stepCmds_of_frame (State.rappel_frame ..) rfl).trans ?_
      split
      · rfl
      · split
        · rfl
        · exact aborted ..

theorem State.stepCmds_releaseSuspects (s : State) : s.releaseSuspects.stepCmds = s.stepCmds := by
  unfold State.releaseSuspects
  refine (State.stepCmds_foldl State.stepCmds_decideGrantOf _ _).trans ?_
  exact State.stepCmds_foldl_frame (fun _ _ => State.unhold_frame ..) rfl _ _

theorem State.stepCmds_transientHang (s : State) (h : Hang) : (s.transientHang h).stepCmds = s.stepCmds := by
  have counted : (s.dbump 0x3031 4 0 32).releaseSuspects.stepCmds = s.stepCmds :=
    (State.stepCmds_releaseSuspects _).trans (State.stepCmds_of_frame (State.dbump_frame ..) rfl)
  unfold State.transientHang
  dsimp only
  split
  · exact (State.stepCmds_isolate ..).trans counted
  · exact counted

theorem State.stepCmds_nextTrial (s : State) (n : Nat) : (s.nextTrial n).stepCmds = s.stepCmds := by
  induction n generalizing s with
  | zero => rfl
  | succ n ih =>
    unfold State.nextTrial
    split
    · rfl
    · split
      · exact State.stepCmds_transientHang ..
      · split
        · exact ih _
        · exact (State.stepCmds_decideGrantOf ..).trans ((State.stepCmds_of_frame (State.unhold_frame ..) rfl).trans rfl)

theorem State.stepCmds_trialPassed (s : State) (cmd : Nat) : (s.trialPassed cmd).stepCmds = s.stepCmds := by
  unfold State.trialPassed
  split
  · split
    · refine (State.stepCmds_nextTrial ..).trans ((State.stepCmds_of_frame (State.mapHang_frame ..) rfl).trans ?_)
      split
      · exact State.stepCmds_of_frame (State.hold_frame ..) rfl
      · rfl
    · rfl
  · rfl

theorem State.stepCmds_beginHang (s : State) (p : Step) (core : Nat) (suspects : List Nat) :
    (s.beginHang p core suspects).stepCmds = s.stepCmds := by
  have drained (t : State) (q : Step) :
      (((t.sendAbort q 0 6).setStep { q with ending := some .held }).rappel q.footprint q.ctx .hang).stepCmds = t.stepCmds :=
    (State.stepCmds_of_frame (State.rappel_frame ..) rfl).trans
      ((State.stepCmds_setStep ..).trans (State.stepCmds_of_frame (State.sendAbort_frame ..) rfl))
  unfold State.beginHang
  refine (State.stepCmds_foldl drained _ _).trans ?_
  refine (State.stepCmds_foldl_frame (fun _ _ => State.hold_frame ..) rfl _ _).trans ?_
  exact (State.stepCmds_of_frame (State.dbump_frame ..) rfl).trans rfl

theorem State.stepCmds_engineReset (s : State) : s.engineReset.stepCmds = s.stepCmds := by
  unfold State.engineReset
  split
  · rfl
  · refine (State.stepCmds_nextTrial ..).trans ?_
    refine (State.stepCmds_foldl State.stepCmds_revive _ _).trans ?_
    refine (State.stepCmds_foldl_frame (fun _ _ => State.powerCluster_frame ..) rfl _ _).trans ?_
    exact State.stepCmds_of_frame (State.setDomains_frame ..) rfl

theorem State.stepCmds_search (s : State) (p : Step) (core : Nat) (suspects : List Nat) :
    (s.search p core suspects).stepCmds = s.stepCmds := by
  unfold State.search
  extract_lets mask shot
  have kept : shot.stepCmds = s.stepCmds := State.stepCmds_of_frame (State.snapshot_frame ..) rfl
  clear_value shot
  split
  · dsimp only
    split
    · exact (State.stepCmds_beginHang ..).trans kept
    · exact (State.stepCmds_engineReset _).trans ((State.stepCmds_beginHang ..).trans kept)
  · exact kept

theorem State.stepCmds_searches (s : State) (n : Nat) : (s.searches n).stepCmds = s.stepCmds := by
  induction n generalizing s with
  | zero => rfl
  | succ n ih =>
    unfold State.searches
    split
    · dsimp only
      split
      · exact (ih _).trans (State.stepCmds_search ..)
      · exact ih _
    · rfl

theorem State.stepCmds_nextSearch (s : State) : s.nextSearch.stepCmds = s.stepCmds := State.stepCmds_searches ..

/-! ### What follows a step -/

theorem State.stepCmds_afterStep (s : State) (p : Step) : (s.afterStep p).stepCmds = s.stepCmds := by
  have ended : (((((s.dropExchanges p.cmd).discardWritten p).discardGroup p).dropGroup p).settleLanes.shareAtStepEnd
      p.ctx).kick.stepCmds = s.stepCmds := by
    refine (State.stepCmds_of_frame (State.kick_frame _) rfl).trans ?_
    refine (State.stepCmds_of_frame (State.shareAtStepEnd_frame ..) rfl).trans ?_
    refine (State.stepCmds_of_frame (State.settleLanes_frame _) rfl).trans ?_
    refine (State.stepCmds_of_frame (State.dropGroup_frame ..) rfl).trans ?_
    refine (State.stepCmds_of_frame (State.discardGroup_frame ..) rfl).trans ?_
    refine (State.stepCmds_of_frame (State.discardWritten_frame ..) rfl).trans ?_
    exact State.stepCmds_of_frame (State.dropExchanges_frame ..) rfl
  unfold State.afterStep
  refine (State.stepCmds_trialPassed ..).trans ((State.stepCmds_of_frame (State.resumeReset_frame ..) rfl).trans ?_)
  split
  · exact (State.stepCmds_grantDecision ..).trans ended
  · exact ended

end Sys2Proof.Machine
end

section
/-! SUPPORT. The commit of a step (R36, R377): its parts in their order, and what stands at its end. -/

namespace Sys2Proof.Machine

/-! ### Commands no longer in flight -/

theorem State.cmd_none_of_frame {g : List Zone} {s t : State} {id : Nat} (k : Frame g s t) (out : g.contains .cmds = false)
    (h : s.cmd id = none) : t.cmd id = none :=
  (State.cmd_of_cmds (k.keeps .cmds out).1 id).trans h

theorem State.complete_cmd_none {s : State} {id : Nat} (c : Cmd) (status value flags replays : Nat) (h : s.cmd id = none) :
    (s.complete c status value flags replays).cmd id = none :=
  settleFences_cmd_none _ (State.finish_cmd_none c status value flags replays (.inl h))

theorem State.closeEviction_cmd_none {s : State} {id : Nat} (cmd status value : Nat) (h : s.cmd id = none) :
    (s.closeEviction cmd status value).cmd id = none := by
  unfold State.closeEviction
  dsimp only
  split
  · exact State.complete_cmd_none _ _ _ _ _ h
  · exact h

theorem kickEviction_cmd_none {s : State} {id : Nat} (e : Nat × Nat × Nat) (h : s.cmd id = none) :
    (kickEviction s e).cmd id = none := by
  unfold kickEviction
  split
  · split
    · exact h
    · exact State.closeEviction_cmd_none _ _ _ h
  · split
    · exact h
    · split
      · exact State.closeEviction_cmd_none _ _ _ (State.cmd_none_of_frame (State.evictRoute_frame ..) rfl h)
      · split
        · exact h
        · exact State.cmd_none_of_frame (State.rappel_frame ..) rfl h

theorem State.kick_cmd_none {s : State} {id : Nat} (h : s.cmd id = none) : s.kick.cmd id = none := by
  have loads : (s.array.loads.foldl kickLoad s).cmd id = none :=
    State.cmd_none_of_frame (Frame.foldl _ kickLoad_frame (Frame.refl _ s)) rfl h
  unfold State.kick
  exact List.foldlRecOn (motive := fun t => t.cmd id = none) _ kickEviction loads fun _ h e _ => kickEviction_cmd_none e h

theorem State.afterStep_cmd_none {s : State} {id : Nat} (p : Step) (h : s.cmd id = none) : (s.afterStep p).cmd id = none := by
  have ended : (((((s.dropExchanges p.cmd).discardWritten p).discardGroup p).dropGroup p).settleLanes.shareAtStepEnd
      p.ctx).kick.cmd id = none := by
    refine State.kick_cmd_none ?_
    refine State.cmd_none_of_frame (State.shareAtStepEnd_frame ..) rfl ?_
    refine State.cmd_none_of_frame (State.settleLanes_frame _) rfl ?_
    refine State.cmd_none_of_frame (State.dropGroup_frame ..) rfl ?_
    refine State.cmd_none_of_frame (State.discardGroup_frame ..) rfl ?_
    refine State.cmd_none_of_frame (State.discardWritten_frame ..) rfl ?_
    exact State.cmd_none_of_frame (State.dropExchanges_frame ..) rfl h
  unfold State.afterStep
  refine State.cmd_none_of_frame (State.trialPassed_frame ..) rfl ?_
  refine State.cmd_none_of_frame (State.resumeReset_frame ..) rfl ?_
  split
  · exact State.cmd_none_of_frame (State.grantDecision_frame ..) rfl ended
  · exact ended

/-! ### The parts of a commit -/

/-- The step past its commit point, with its deadline judged (R36, R44). -/
def State.committed (s : State) (p : Step) : Step :=
  let late := (s.cmd p.cmd).any fun c => decide (c.at 20 4 ≠ 0) && decide (p.origin + ctField (c.at 20 4) ≤ s.phase)
  { p with committed := true, missed := p.missed || late }

/-- The log is applied and the loop takes the sequence number. -/
def State.commitLog (s : State) (p : Step) : State :=
  let s := ((s.setStep p).defineOutputs p).applyLog p
  s.setLoop p.ring { s.loopOf p.ring with seq := p.seq }

/-- The signals of the step are applied. -/
def State.commitSignals (s : State) (p : Step) : State :=
  p.signals.foldl (fun s g => s.applySignal g.counter g.set g.value) s

/-- What the step counted and used is accounted for, and its halts end. -/
def State.commitAccounts (s : State) (p : Step) : State :=
  let s := ((s.settleCounts p).settleTimes p).noteWork p.footprint
  (s.charge p.ctx (chargeOf p.footprint (s.uptime - p.launchTime)) (s.poolOfFootprint p.footprint).isSome).endHalts p

/-- The step is gone, and its command completes. -/
def State.commitAnswer (s : State) (p : Step) : State :=
  let s := s.dropStep p.cmd
  match s.cmd p.cmd with
  | some c => s.complete c 0 (p.seq.toNat % 2 ^ 32) (stepFlags p true) p.replays
  | none => s

/-- What follows a commit: the loop counts its dropped ticks anew, and what waited for the step goes on. -/
def State.commitAfter (s : State) (p : Step) : State :=
  ((s.setLoop p.ring { s.loopOf p.ring with ticksDropped := 0 }).afterStep p).nextSearch

theorem State.commit_eq (s : State) (p : Step) :
    s.commit p = ((((s.commitLog (s.committed p)).commitSignals (s.committed p)).commitAccounts (s.committed p)).commitAnswer
      (s.committed p)).commitAfter (s.committed p) := rfl

theorem State.commitLog_frame (s : State) (p : Step) :
    Frame [.free, .entries, .ctxEntries, .host, .near, .nearMem, .bulk, .bulkMem, .loops, .steps, .serve, .power] s
      (s.commitLog p) := by
  refine Frame.step (State.setLoop_frame ..) rfl ?_
  refine Frame.step (State.applyLog_frame ..) rfl ?_
  refine Frame.step (State.defineOutputs_frame ..) rfl ?_
  exact Frame.mono (State.setStep_frame ..) rfl

theorem State.commitSignals_frame (s : State) (p : Step) :
    Frame [.free, .out, .entries, .ctxEntries, .host, .near, .nearMem, .bulk, .bulkMem, .rings, .msix, .pages, .counters,
      .cmds, .health, .power] s (s.commitSignals p) :=
  Frame.foldl _ (fun _ _ => State.applySignal_frame ..) (Frame.refl _ _)

theorem State.commitAccounts_frame (s : State) (p : Step) :
    Frame [.free, .out, .entries, .ctxEntries, .host, .near, .nearMem, .bulk, .bulkMem, .rings, .msix, .pages, .cmds, .array,
      .ctxs, .links, .health, .power] s (s.commitAccounts p) := by
  refine Frame.step (State.endHalts_frame ..) rfl ?_
  refine Frame.step (State.charge_frame ..) rfl ?_
  refine Frame.step (State.noteWork_frame ..) rfl ?_
  exact Frame.step (State.settleTimes_frame ..) rfl (Frame.mono (State.settleCounts_frame ..) rfl)

theorem State.commitAnswer_frame (s : State) (p : Step) :
    Frame [.free, .out, .entries, .ctxEntries, .host, .near, .nearMem, .bulk, .bulkMem, .rings, .msix, .pages, .cmds, .steps,
      .health, .power] s (s.commitAnswer p) := by
  have dropped := Frame.mono (g := [.free, .out, .entries, .ctxEntries, .host, .near, .nearMem, .bulk, .bulkMem, .rings, .msix,
    .pages, .cmds, .steps, .health, .power]) (State.dropStep_frame s p.cmd) rfl
  unfold State.commitAnswer
  dsimp only
  split
  · exact Frame.step (State.complete_frame ..) rfl dropped
  · exact dropped

/-! ### The command and the step -/

theorem State.commitAnswer_cmd (s : State) (p : Step) : (s.commitAnswer p).cmd p.cmd = none := by
  unfold State.commitAnswer
  dsimp only
  split
  next c found => exact State.cmd_id found ▸ State.complete_cmd ..
  next gone => exact gone

theorem State.commitAfter_cmd_none {s : State} {id : Nat} (p : Step) (h : s.cmd id = none) : (s.commitAfter p).cmd id = none :=
  State.cmd_none_of_frame (State.nextSearch_frame _) rfl (State.afterStep_cmd_none p h)

/-- A step that has committed has completed its command. -/
theorem State.commit_cmd (s : State) (p : Step) : (s.commit p).cmd p.cmd = none :=
  State.commitAfter_cmd_none _ (State.commitAnswer_cmd _ (s.committed p))

theorem State.stepCmds_commitAnswer (s : State) (p : Step) :
    (s.commitAnswer p).stepCmds = s.stepCmds.filter fun i => decide (i ≠ p.cmd) := by
  unfold State.commitAnswer
  dsimp only
  split
  · exact (State.stepCmds_of_frame (State.complete_frame ..) rfl).trans (State.stepCmds_dropStep ..)
  · exact State.stepCmds_dropStep ..

theorem State.stepCmds_commitAfter (s : State) (p : Step) : (s.commitAfter p).stepCmds = s.stepCmds :=
  (State.stepCmds_nextSearch _).trans ((State.stepCmds_afterStep ..).trans rfl)

/-- A step that has committed is gone. -/
theorem State.commit_step (s : State) (p : Step) : (s.commit p).step? p.cmd = none := by
  rw [State.step?_eq_none_iff, State.commit_eq, State.stepCmds_commitAfter, State.stepCmds_commitAnswer]
  simp [State.committed]

/-! ### The sequence number of the loop -/

/-- The table of loops is in order, and a loop's SEQ has a value. -/
structure State.LoopAt (s : State) (g : Nat) (n : BitVec 64) : Prop where
  sorted : tsorted none s.hif.loops = true
  seq : (s.loopOf g).seq = n

theorem State.loopAt_setLoop {s : State} {l : Loop} {g : Nat} {n : BitVec 64} (sorted : tsorted none s.hif.loops = true)
    (h : l.seq = n) : (s.setLoop g l).LoopAt g n where
  sorted := tsorted_tset _ _ _ _ sorted
  seq := by rw [State.loopOf, State.setLoop, tget_tset _ _ _ _ _ sorted, if_pos rfl, h]

theorem State.loops_of_frame {f : List Zone} {s t : State} (k : Frame f s t) (out : f.contains .loops = false) :
    t.hif.loops = s.hif.loops := k.keeps .loops out

theorem State.LoopAt.of_frame {f : List Zone} {s t : State} {g : Nat} {n : BitVec 64} (h : s.LoopAt g n) (k : Frame f s t)
    (out : f.contains .loops = false) : t.LoopAt g n := by
  have same := State.loops_of_frame k out
  exact ⟨same ▸ h.sorted, by rw [State.loopOf, same]; exact h.seq⟩

theorem State.commitLog_loopAt {s : State} (p : Step) (sorted : tsorted none s.hif.loops = true) :
    (s.commitLog p).LoopAt p.ring p.seq := by
  have k : Frame [.free, .entries, .ctxEntries, .host, .near, .nearMem, .bulk, .bulkMem, .steps, .serve, .power] s
      (((s.setStep p).defineOutputs p).applyLog p) := by
    refine Frame.step (State.applyLog_frame ..) rfl ?_
    exact Frame.step (State.defineOutputs_frame ..) rfl (Frame.mono (State.setStep_frame ..) rfl)
  exact State.loopAt_setLoop (State.loops_of_frame k rfl ▸ sorted) rfl

theorem State.commitAfter_loopAt {s : State} {p : Step} {n : BitVec 64} (h : s.LoopAt p.ring n) :
    (s.commitAfter p).LoopAt p.ring n := by
  have anew : (s.setLoop p.ring { s.loopOf p.ring with ticksDropped := 0 }).LoopAt p.ring n :=
    State.loopAt_setLoop h.sorted h.seq
  exact (anew.of_frame (State.afterStep_frame ..) rfl).of_frame (State.nextSearch_frame _) rfl

/-- The loop of a step that has committed has its sequence number (R36). -/
theorem State.commit_loopAt {s : State} (p : Step) (sorted : tsorted none s.hif.loops = true) :
    (s.commit p).LoopAt p.ring p.seq := by
  have logged := State.commitLog_loopAt (s.committed p) sorted
  have signalled := logged.of_frame (State.commitSignals_frame _ (s.committed p)) rfl
  have accounted := signalled.of_frame (State.commitAccounts_frame _ (s.committed p)) rfl
  exact State.commitAfter_loopAt (accounted.of_frame (State.commitAnswer_frame ..) rfl)

/-! ### The sync counters -/

theorem State.counters_of_frame {g : List Zone} {s t : State} (k : Frame g s t) (out : g.contains .counters = false) :
    t.counters = s.counters := k.keeps .counters out

theorem State.applySignal_counters (s : State) (n : Nat) (set : Bool) (v : BitVec 64) :
    (s.applySignal n set v).counters = tset 0 s.counters n (if set then v else s.counter n + v) :=
  State.counters_of_frame (settleWaits_frame ..) rfl

theorem State.commitAfter_counters (s : State) (p : Step) : (s.commitAfter p).counters = s.counters := by
  rw [State.commitAfter, State.counters_of_frame (State.nextSearch_frame _) rfl,
    State.counters_of_frame (State.afterStep_frame ..) rfl, State.counters_of_frame (State.setLoop_frame ..) rfl]

/-- The commit of a step changes the counters that its signals name. -/
theorem State.commit_counters (s : State) (p : Step) :
    (s.commit p).counters = ((s.commitLog (s.committed p)).commitSignals (s.committed p)).counters := by
  rw [State.commit_eq, State.commitAfter_counters, State.counters_of_frame (State.commitAnswer_frame ..) rfl,
    State.counters_of_frame (State.commitAccounts_frame ..) rfl]

theorem State.commit_counter_of_signal {s : State} {p : Step} {g : Signal} (can : Canonical s) (one : p.signals = [g]) (n : Nat) :
    (s.commit p).counter n = if n = g.counter then (if g.set then g.value else s.counter g.counter + g.value) else s.counter n := by
  have before : (s.commitLog (s.committed p)).counters = s.counters := State.counters_of_frame (State.commitLog_frame ..) rfl
  have sorted : tsorted none s.counters = true := ((twf_iff _ _).mp can.counters).1
  have after : (s.commit p).counters = tset 0 s.counters g.counter (if g.set then g.value else s.counter g.counter + g.value) := by
    rw [State.commit_counters, State.commitSignals, show (s.committed p).signals = [g] from one]
    rw [List.foldl_cons, List.foldl_nil, State.applySignal_counters, State.counter, before, State.counter]
  rw [State.counter, after, tget_tset _ _ _ _ _ sorted]
  rfl

end Sys2Proof.Machine
end

section
/-! SUPPORT. The end of a phase and of an execution that nothing holds up (R189, R196, R451). -/

namespace Sys2Proof.Machine

theorem exec_phaseEnd (cmd t : Nat) (s : State) : exec (.phaseEnd cmd t) s = execPhaseEnd cmd t s := rfl

theorem exec_stepExecutionEnd (cmd t : Nat) (s : State) : exec (.stepExecutionEnd cmd t) s = execStepExecutionEnd cmd t s := rfl

/-! ### Steps -/

theorem State.step?_cmd {s : State} {id : Nat} {p : Step} (h : s.step? id = some p) : p.cmd = id := by
  simpa using List.find?_some h

theorem State.step?_of_frame {g : List Zone} {s t : State} (k : Frame g s t) (out : g.contains .steps = false) (id : Nat) :
    t.step? id = s.step? id := by
  rw [State.step?, k.keeps .steps out, State.step?]

theorem State.step?_setStep {s : State} {p q : Step} (h : s.step? p.cmd = some q) : (s.setStep p).step? p.cmd = some p := by
  have same : ((fun x => decide (x.cmd = p.cmd)) ∘ fun q : Step => if q.cmd = p.cmd then p else q) =
      fun x => decide (x.cmd = p.cmd) := by
    funext x
    by_cases e : x.cmd = p.cmd <;> simp [e]
  rw [State.step?, State.setStep, List.find?_map, same]
  rw [State.step?] at h
  simp [h, State.step?_cmd (s := s) h]

theorem State.phaseOver_ending {s : State} {p : Step} (h : s.phaseOver p = true) : p.ending = none := by
  simp only [State.phaseOver, Bool.and_eq_true, Option.isNone_iff_eq_none] at h
  obtain ⟨⟨⟨⟨-, going⟩, -⟩, -⟩, -⟩ := h
  exact going

/-! ### The end of a phase -/

/-- Where no Rappel of a footprint stands, a request starts one. -/
theorem State.rappel_array_of_new {s : State} {fp : BitVec 64} (c : Nat) (why : Purpose)
    (new : ¬ (s.array.rappels.any fun r => decide (r.footprint = fp)) = true) :
    (s.rappel fp c why).array = { s.array with
      rappels := s.array.rappels ++ [{ footprint := fp, ctx := c, purposes := [why], start := s.uptime }] } := by
  rw [State.rappel, if_neg new]
  exact (State.cbump_frame ..).keeps .array rfl

/-- A Rappel that was asked for stands for its purpose. -/
theorem State.rappel_stands (s : State) (fp : BitVec 64) (c : Nat) (why : Purpose) :
    ((s.rappel fp c why).array.rappels.any fun r => decide (r.footprint = fp) && r.purposes.contains why) = true := by
  by_cases found : (s.array.rappels.any fun r => decide (r.footprint = fp)) = true
  · rw [State.rappel, if_pos found]
    obtain ⟨r, here, same⟩ := List.any_eq_true.mp found
    refine List.any_eq_true.mpr ⟨_, List.mem_map_of_mem here, ?_⟩
    by_cases told : why ∈ r.purposes <;> simp_all
  · rw [State.rappel_array_of_new c why found]
    simp

theorem State.rappel_routes (s : State) (fp : BitVec 64) (c : Nat) (why : Purpose) :
    (s.rappel fp c why).array.routes = s.array.routes := by
  by_cases found : (s.array.rappels.any fun r => decide (r.footprint = fp)) = true
  · rw [State.rappel, if_pos found]
  · rw [State.rappel_array_of_new c why found]

/-- With no exchange to start, and none in progress, nothing starts. -/
theorem State.triggerExchanges_of_none {s : State} {p : Step} (route : Nat) (empty : p.exchanges = [])
    (idle : s.tru.exchanges = []) : s.triggerExchanges p route = s := by
  simp [State.triggerExchanges, empty, State.startQueued, State.countQueued, State.exchangesOn, idle]

theorem execPhaseEnd_of_over {s : State} {cmd : Nat} {p : Step} (t : Nat) (found : s.step? cmd = some p)
    (ended : s.phaseOver p = true) (more : p.phase + 1 < p.routes.length) (empty : p.exchanges = [])
    (idle : s.tru.exchanges = []) : execPhaseEnd cmd t s = .next ((s.at t).rappel p.footprint p.ctx (.phase cmd)) := by
  have found' : (s.at t).step? cmd = some p := found
  unfold execPhaseEnd
  rw [found]
  dsimp only
  rw [if_pos (by simp [ended, more]), State.triggerExchanges_of_none (s := s.at t) _ empty idle, found']
  dsimp only
  rw [State.phaseOver_ending ended]
  rfl

theorem execPhaseEnd_of_not_over {s : State} {cmd : Nat} {p : Step} (t : Nat) (found : s.step? cmd = some p)
    (going : s.phaseOver p = false ∨ p.routes.length ≤ p.phase + 1) : execPhaseEnd cmd t s = .next s := by
  have no : ¬ (s.phaseOver p && decide (p.phase + 1 < p.routes.length)) = true := by
    rcases going with h | h
    · simp [h]
    · simp [Nat.not_lt.mpr h]
  unfold execPhaseEnd
  rw [found]
  exact congrArg _ (if_neg no)

/-! ### The end of an execution -/

theorem execStepExecutionEnd_of_over {s : State} {cmd : Nat} {p : Step} (t : Nat) (found : s.step? cmd = some p)
    (ended : s.phaseOver p = true) (last : p.routes.length ≤ p.phase + 1) :
    execStepExecutionEnd cmd t s = .next ((s.at t).executionEnd p) := by
  unfold execStepExecutionEnd
  rw [found]
  exact congrArg _ (if_pos (by simp [ended, last]))

theorem execStepExecutionEnd_of_not_over {s : State} {cmd : Nat} {p : Step} (t : Nat) (found : s.step? cmd = some p)
    (going : s.phaseOver p = false) : execStepExecutionEnd cmd t s = .next s := by
  unfold execStepExecutionEnd
  rw [found]
  exact congrArg _ (if_neg (by simp [going]))

/-- A step with nothing of a commit log prepared: it has no lane. -/
def Step.withoutLog (p : Step) : Step :=
  { p with prepared := [], appends := [], inserted := 0, nodes := [], relinks := [], trees := [] }

/-- A step without a lane has no log to prepare: its turn at the Cairn Engine is over (R430). -/
def State.logless (s : State) (p : Step) : State :=
  ({ s.noteMet p.ctx {} with free := s.free } : State).cairnOver p.cmd

theorem State.logless_frame (s : State) (p : Step) : Frame [.free, .entries, .bulk, .serve, .links, .power] s (s.logless p) := by
  refine Frame.step (State.cairnOver_frame ..) rfl ?_
  exact Frame.set_free (v_free := s.free) (by decide) (Frame.mono (State.noteMet_frame ..) rfl)

theorem State.prepareStep_of_no_lane {s : State} {p : Step} (lane : p.lane = none) (found : s.step? p.cmd = some p) :
    s.prepareStep p = ((s.logless p).setStep p.withoutLog, true) := by
  have kept : (s.logless p).step? p.cmd = some p := (State.step?_of_frame (s.logless_frame p) rfl _).trans found
  have seen : s.logSeen p = s := by rw [State.logSeen, lane]; rfl
  have tree : s.logTree p = none := by rw [State.logTree, lane]; rfl
  have log : (s.ownView p.cmd).prepareLog p = .ok { x := { s := s.ownView p.cmd } } := by rw [State.prepareLog, lane]
  have keep : s.keepLog p { x := { s := s.ownView p.cmd } } = ((s.logless p).setStep p.withoutLog, true) := by
    show (match (s.logless p).step? p.cmd with
      | none => (s.logless p, false)
      | some q => _) = _
    rw [kept]
    rfl
  unfold State.prepareStep
  dsimp only
  rw [seen, tree]
  dsimp only [Option.map_none, Option.getD_none]
  rw [if_neg (by simp [tree]), log]
  exact keep

/-- An execution that nothing holds up any more ends phase one of its commit, its log being empty (R189, R451). -/
theorem State.executionEnd_of_done {s : State} {p : Step} (found : s.step? p.cmd = some p) (triggered : p.triggered = true)
    (going : p.ending = none) (done : s.exchangesDone p.cmd = true) (flushed : s.flushing p.cmd = false)
    (ports : p.portsUsed = []) (crux : p.cruxEn = false) (lane : p.lane = none) :
    s.executionEnd p = ((s.logless p).setStep p.withoutLog).endPhaseOne p.withoutLog := by
  have record : s.sendRecord p = .ok (s, p) := by simp [State.sendRecord, crux]
  have kept : ((s.logless p).setStep p.withoutLog).step? p.cmd = some p.withoutLog :=
    State.step?_setStep (p := p.withoutLog) ((State.step?_of_frame (s.logless_frame p) rfl _).trans found)
  have writes : s.finishWrites p = ((s.logless p).setStep p.withoutLog).endPhaseOne p.withoutLog := by
    simp only [State.finishWrites, ports, crux, List.any_nil, Bool.false_eq_true, if_false, List.isEmpty_nil, Bool.not_true,
      Bool.false_and, State.prepareStep_of_no_lane lane found, kept]
  unfold State.executionEnd
  dsimp only
  rw [if_pos triggered, found]
  dsimp only
  rw [if_neg (by simp [going, done, flushed]), record]
  exact writes

/-- What an execution that has ended leaves before phase one of its commit. -/
theorem State.logless_setStep_frame (s : State) (p q : Step) (t : Nat) :
    Frame [.free, .uptime, .entries, .bulk, .steps, .serve, .links, .power] s (((s.at t).logless p).setStep q) := by
  refine Frame.step (State.setStep_frame ..) rfl ?_
  exact Frame.step ((s.at t).logless_frame p) rfl (Frame.mono (State.at_frame ..) rfl)

/-- STEP_EXECUTION_END for a step whose execution is over, with no lane and nothing held up. -/
theorem exec_stepExecutionEnd_of_done {s : State} {p : Step} (t : Nat) (found : s.step? p.cmd = some p)
    (ended : s.phaseOver p = true) (last : p.routes.length ≤ p.phase + 1) (triggered : p.triggered = true)
    (done : s.exchangesDone p.cmd = true) (flushed : s.flushing p.cmd = false) (ports : p.portsUsed = [])
    (crux : p.cruxEn = false) (lane : p.lane = none) :
    exec (.stepExecutionEnd p.cmd t) s = .next ((((s.at t).logless p).setStep p.withoutLog).endPhaseOne p.withoutLog) := by
  rw [exec_stepExecutionEnd, execStepExecutionEnd_of_over t found ended last]
  exact congrArg _ (State.executionEnd_of_done (s := s.at t) found triggered (State.phaseOver_ending ended) done flushed ports
    crux lane)

/-! ### Phase one of a commit -/

theorem State.endPhaseOne_of_alone (s : State) {p : Step} (alone : p.members = []) : s.endPhaseOne p = s.commit p :=
  if_pos (by simp [alone])

/-- A step of a group whose READYs agree so far. -/
def State.readied (s : State) (p : Step) : State :=
  (s.groupCast p 0x40 0 (p.sliceFl + memberCheck p.members * 2 ^ 16) []).setStep
    { p with ended := true, readySent := true, readyTimeNs := s.uptime }

theorem State.endPhaseOne_of_group (s : State) {p : Step} (group : p.members ≠ []) (agree : readyBad p = none) :
    s.endPhaseOne p = s.readied p := by
  have clock := (State.groupCast_frame s p 0x40 0 (p.sliceFl + memberCheck p.members * 2 ^ 16) []).keeps .uptime rfl
  unfold State.endPhaseOne
  rw [if_neg (by simp [group]), agree]
  dsimp only
  rw [clock]
  rfl

theorem State.readied_frame (s : State) (p : Step) : Frame [.steps, .links] s (s.readied p) :=
  Frame.step (State.setStep_frame ..) rfl (Frame.mono (State.groupCast_frame ..) rfl)

theorem State.readied_step {s : State} {p q : Step} (found : s.step? p.cmd = some q) :
    (s.readied p).step? p.cmd = some { p with ended := true, readySent := true, readyTimeNs := s.uptime } :=
  State.step?_setStep (p := { p with ended := true, readySent := true, readyTimeNs := s.uptime })
    ((State.step?_of_frame (State.groupCast_frame ..) rfl _).trans found)

theorem Hif.eq_of_parts {x y : Hif}
    (rest : { x with rings := [], loops := [], msix := [], pages := [] } =
      { y with rings := [], loops := [], msix := [], pages := [] })
    (rings : x.rings = y.rings) (loops : x.loops = y.loops) (msix : x.msix = y.msix) (pages : x.pages = y.pages) : x = y := by
  cases x
  cases y
  simp_all

theorem State.hif_of_frame {g : List Zone} {s t : State} (k : Frame g s t)
    (out : ∀ z ∈ [Zone.hif, .rings, .loops, .msix, .pages], g.contains z = false) : t.hif = s.hif :=
  Hif.eq_of_parts (k.keeps .hif (out _ (by simp))) (k.keeps .rings (out _ (by simp))) (k.keeps .loops (out _ (by simp)))
    (k.keeps .msix (out _ (by simp))) (k.keeps .pages (out _ (by simp)))

/-- Settles O32, by the parts of a commit in their order: with no lane there is no log to prepare, and each part keeps
what an earlier one has left. -/
theorem stepEnds : Obligations.StepEnds := by
  unfold Obligations.StepEnds
  refine ⟨?_, ?_, ?_, ?_, ?_, ?_, ?_⟩
  · intro cmd t p s found ended more empty idle
    have k : Frame [.free, .uptime, .entries, .ctxEntries, .array] s ((s.at t).rappel p.footprint p.ctx (.phase cmd)) :=
      Frame.step (State.rappel_frame ..) rfl (Frame.mono (State.at_frame ..) rfl)
    refine ⟨_, execPhaseEnd_of_over t found ended more empty idle, State.rappel_stands .., ?_, State.rappel_routes .., k⟩
    exact (State.step?_of_frame k rfl cmd).trans found
  · intro cmd t p s found going
    exact ⟨s, execPhaseEnd_of_not_over t found going, rfl, Frame.refl _ _⟩
  · intro cmd t p c s found ended last triggered done flushed ports crux lane alone _ sorted
    obtain rfl := State.step?_cmd found
    have run := exec_stepExecutionEnd_of_done t found ended last triggered done flushed ports crux lane
    have k := s.logless_setStep_frame p p.withoutLog t
    have sorted' := (State.loops_of_frame k rfl).symm ▸ sorted
    refine ⟨_, run, ?_, ?_, ?_, execStepExecutionEnd_frame run⟩
    all_goals rw [State.endPhaseOne_of_alone _ (p := p.withoutLog) alone]
    · exact (State.commit_loopAt p.withoutLog sorted').seq
    · exact State.commit_cmd _ p.withoutLog
    · exact State.commit_step _ p.withoutLog
  · intro cmd t p g s can found ended last triggered done flushed ports crux lane alone one
    obtain rfl := State.step?_cmd found
    have run := exec_stepExecutionEnd_of_done t found ended last triggered done flushed ports crux lane
    have k := s.logless_setStep_frame p p.withoutLog t
    have before (n : Nat) : (((s.at t).logless p).setStep p.withoutLog).counter n = s.counter n := by
      rw [State.counter, State.counters_of_frame k rfl, State.counter]
    have after := State.commit_counter_of_signal (p := p.withoutLog) (g := g) (k.canonical can) one
    simp only [before] at after
    refine ⟨_, run, ?_, ?_, execStepExecutionEnd_frame run⟩
    all_goals rw [State.endPhaseOne_of_alone _ (p := p.withoutLog) alone]
    · rw [after, if_pos rfl]
    · intro n other
      rw [after, if_neg other]
  · intro cmd t p s found ended last triggered done flushed ports crux lane group agree
    obtain rfl := State.step?_cmd found
    have run := exec_stepExecutionEnd_of_done t found ended last triggered done flushed ports crux lane
    rw [State.endPhaseOne_of_group _ (p := p.withoutLog) group agree] at run
    have kept : (((s.at t).logless p).setStep p.withoutLog).step? p.cmd = some p.withoutLog :=
      State.step?_setStep (p := p.withoutLog)
        ((State.step?_of_frame ((s.at t).logless_frame p) rfl p.cmd).trans (found : (s.at t).step? p.cmd = some p))
    have k : Frame [.free, .uptime, .entries, .bulk, .steps, .serve, .links, .power] s
        ((((s.at t).logless p).setStep p.withoutLog).readied p.withoutLog) :=
      Frame.step (State.readied_frame ..) rfl (s.logless_setStep_frame p p.withoutLog t)
    refine ⟨_, run, ?_, (k.keeps .cmds rfl).1, State.hif_of_frame k (by decide), k.keeps .counters rfl,
      Frame.mono k rfl⟩
    rw [show p.cmd = p.withoutLog.cmd from rfl, State.readied_step (p := p.withoutLog) kept]
    rfl
  · intro cmd t p s found ended last
    exact ⟨_, execStepExecutionEnd_of_over t found ended last, rfl,
      execStepExecutionEnd_frame (execStepExecutionEnd_of_over t found ended last)⟩
  · intro cmd t p s found going
    exact ⟨s, execStepExecutionEnd_of_not_over t found going, rfl, Frame.refl _ _⟩

end Sys2Proof.Machine
end

section
/-! SUPPORT. The end of a Rappel while a READ of an earlier epoch is held (R489). -/
namespace Sys2Proof.Machine

theorem execRappelQuiescence_of_runEnded {s : State} {footprint : BitVec 64} {r : Rappel} (t : Nat)
    (unclear : List ClusterId)
    (found : (s.array.rappels.find? fun q => decide (q.footprint = footprint)) = some r)
    (ended : r.cut = true ∨ s.runsOn r = false) :
    execRappelQuiescence footprint t unclear s =
      .next (((s.at t).abandonRequests r).quiesce r (unclear.map (·.val))).nextSearch.serveHeld := by
  have ends : ¬ (!r.cut && s.runsOn r) = true := by rcases ended with h | h <;> simp [h]
  unfold execRappelQuiescence
  rw [found]
  exact congrArg _ (if_neg ends)

/-- A Rappel of SYS on cluster 0 that no requester waits for. -/
def idleRappel : Rappel := { footprint := 1, ctx := 256, purposes := [], start := 0 }

/-- A READ of SYS from device 4, sent in epoch 0. -/
def oldRead : Held :=
  { port := 0, kind := .read
    h := { type := 0x10, poison := false, reserved := false, units := 0, src := 4, dst := 0, ctx := 256, epoch := 0, tag := 0
           addr := 0, length := 64, status := 0 } }

/-- Cluster 0 is drained while a READ waits whose source has since announced epoch 1 of its context. -/
def drainingWithOldRead : State :=
  { dev := { mode := .service }, array := { rappels := [idleRappel] }
    links := { held := [oldRead], epochs := [(4 * 512 + 256, 1)] } }

/-- Refutes O30: the end of a Rappel serves the READs held at its clusters, and one of an epoch that is past is dropped
instead (R489), which changes the zone `links`. -/
theorem not_rappels : ¬ Obligations.Rappels := by
  unfold Obligations.Rappels
  rintro ⟨-, -, -, quiesced, -, -, -⟩
  obtain ⟨u, e, -, -, -, -, -, -, k⟩ := quiesced 1 0 [] idleRappel drainingWithOldRead rfl rfl rfl rfl rfl rfl rfl rfl rfl
    rfl rfl (by decide +kernel) rfl
  have run := execRappelQuiescence_of_runEnded (s := drainingWithOldRead) (footprint := 1) (r := idleRappel) 0 [] rfl
    (.inr (by decide +kernel))
  obtain rfl := Host.Outcome.next.inj (e.symm.trans run)
  have same := congrArg Links.held (k.keeps .links rfl)
  revert same
  decide +kernel

end Sys2Proof.Machine
end

section
/-! SUPPORT. The group commit that was the last thing a host reset waited for (R570, R571). -/
namespace Sys2Proof.Machine

theorem execGroupCommit_of_allReady {s : State} {cmd : Nat} {p : Step} (t : Nat) (found : s.step? cmd = some p)
    (sent : p.readySent = true) (uncommitted : p.committed = false) (going : p.ending = none) (agree : readyBad p = none)
    (all : s.allReady p = true) :
    execGroupCommit cmd t s = .next (((s.at t).commit p).settleRecovery).settleHostReset := by
  unfold execGroupCommit
  rw [found]
  dsimp only
  rw [if_pos (by simp [sent, uncommitted, going]), agree]
  exact congrArg _ (if_pos all)

theorem State.settleRecovery_of_not_recovering {s : State} (h : s.dev.mode ≠ .recovery) : s.settleRecovery = s :=
  if_pos (.inl h)

/-- The last step of a host reset is gone: the epochs of what it abandoned have advanced. -/
theorem State.settleHostReset_hostWork {s : State} (reset : s.dev.hostReset = true) (idle : s.steps.any (·.launched) = false)
    (drained : s.stillFor .hostReset = false) : s.settleHostReset.dev.hostWork = [] := by
  unfold State.settleHostReset
  rw [if_neg (by simp [reset, idle, drained])]

def lastMember : Step :=
  { cmd := 1, ring := 0, ctx := 256, seq := 3, launched := true, latched := true, footprint := 1, routes := [5], groupId := 9
    members := [0, 4], sliceFl := 3, ended := true, readySent := true, readies := [(4, 3, memberCheck [0, 4])] }

def hostResetAwaitsGroup : State :=
  { dev := { mode := .service, hostReset := true, hostWork := [3] }, steps := [lastMember] }

/-- Refutes O33: a commit that leaves a host reset nothing to wait for also ends that reset's wait (R570, R571). -/
theorem not_groupOutcomes : ¬ Obligations.GroupOutcomes := by
  unfold Obligations.GroupOutcomes
  rintro ⟨commits, -⟩
  obtain ⟨u, e, same, -⟩ := commits 1 9 lastMember hostResetAwaitsGroup rfl rfl rfl rfl (by decide +kernel) (by decide +kernel)
  have run := execGroupCommit_of_allReady (s := hostResetAwaitsGroup) (cmd := 1) (p := lastMember) 9 rfl rfl rfl rfl
    (by decide +kernel) (by decide +kernel)
  have k := State.commit_frame (hostResetAwaitsGroup.at 9) lastMember
  have dev : ((hostResetAwaitsGroup.at 9).commit lastMember).dev = hostResetAwaitsGroup.dev := k.keeps .dev rfl
  have dev' := (State.nextSearch_frame ((hostResetAwaitsGroup.at 9).commit lastMember)).keeps .dev rfl
  obtain rfl := Host.Outcome.next.inj (e.symm.trans run)
  rw [State.settleRecovery_of_not_recovering, State.settleRecovery_of_not_recovering] at same
  have w := congrArg (·.dev.hostWork) same
  rw [State.settleHostReset_hostWork, dev', dev] at w
  · exact absurd w (by decide)
  · rw [dev]; rfl
  · decide +kernel
  · decide +kernel
  · rw [dev', dev]; decide
  · rw [dev]; decide

end Sys2Proof.Machine
end

section
/-! SUPPORT. The launch of a group's step whose member list must be fetched (R342, R475). -/
namespace Sys2Proof.Machine

theorem memReads_memWrites (m : List Host.Cell) (a : Nat) (bs : Bytes) (h : memWf m = true) :
    memReads (memWrites m a bs) a bs.length = bs := by
  induction bs generalizing m a with
  | nil => rfl
  | cons b bs ih =>
    have wf := memWf_memWrite m a b h
    rw [memWrites, List.length_cons, memReads, ih _ _ wf, memRead_memWrites_of_not_mem _ _ _ _ wf (by omega),
      memRead_memWrite m a a b h, if_pos rfl]

theorem State.read_host {s : State} (o : HostOpen s) (u : s.hostUncommitted = []) (c : Nat) {va n : Nat} (h : InHost va n) :
    s.read c va n = .ok (memReads s.host (s.hostAddr c va) n) := by
  induction n generalizing va with
  | zero => rfl
  | succ n ih =>
    rw [State.read, State.readByte_host o u c h (Nat.succ_pos _), ih h.tail, memReads, State.hostAddr_succ s c h.lo]

theorem exec_stepLaunch (cmd t : Nat) (s : State) : exec (.stepLaunch cmd t) s = execStepLaunch cmd t s := rfl

/-- The launch of a step that has not run before. -/
theorem execStepLaunch_of_canLaunch {s : State} {cmd : Nat} {c : Cmd} {p : Step} (t : Nat) (found : s.cmd cmd = some c)
    (step : s.step? cmd = some p) (new : p.latched = false) (can : s.canLaunch { p with footprint := s.firstFootprint c } = true) :
    execStepLaunch cmd t s =
      .next (((s.at t).stage c .running).launch c { p with footprint := s.firstFootprint c }).nextSearch := by
  unfold execStepLaunch
  rw [found, step]
  dsimp only
  rw [if_neg (show ¬ p.latched = true by simp [new])]
  exact congrArg _ (if_pos can)

theorem State.launch_of_ask {s : State} {c : Cmd} {p : Step} {f : Fail} {a : Nat × Nat}
    (checks : s.launchChecks c p = .error f) (asks : f.ask = some a) (new : p.latched = false) :
    s.launch c p = s.awaitList c p a := by
  unfold State.launch
  rw [new, if_neg Bool.false_ne_true, checks]
  dsimp only
  rw [asks]

/-- A launch that has asked for its member list goes on when the list has come: meanwhile its command stays (R342, R475). -/
theorem State.awaitList_cmds {s : State} {c : Cmd} {p : Step} {a : Nat × Nat}
    (sent : (s.ask c.ctx c.id a.1 a.2).fetched c.id a.1 = none) : (s.awaitList c p a).cmds = s.cmds := by
  unfold State.awaitList
  dsimp only
  rw [sent]
  exact ((State.ask_frame ..).keeps .cmds rfl).1

/-- A block that stands in open host memory is what a command reads there. -/
theorem State.readOr_stored {s : State} (o : HostOpen s) (u : s.hostUncommitted = []) {c va : Nat} {bs : Bytes}
    (h : InHost va bs.length) (stored : s.host = memWrites [] (s.hostAddr c va) bs) : s.readOr c va bs.length = .ok bs := by
  rw [State.readOr, State.read_host o u c h, stored, memReads_memWrites _ _ _ memWf_nil]

theorem State.hostAddr_congr {s t : State} (h : t.hif = s.hif) (c va : Nat) : t.hostAddr c va = s.hostAddr c va := by
  unfold State.hostAddr State.hostTag State.function State.vfOn State.page
  rw [h]

/-- A LAUNCH_STEP of SYS with its block at the start of the Host window. -/
def groupLaunch : Cmd :=
  { id := 1, ring := 0, ctx := 256, stage := .ready
    raw := leBytes 8 1 ++ leBytes 8 0x100000000000 ++ leBytes 4 7 ++ leBytes 4 0 ++ [1] ++ leBytes 7 0 ++ leBytes 32 5 }

/-- The block: group 9, whose member list of two devices lies in the window of device 4. -/
def groupBlock : Bytes := leBytes 8 0 ++ leBytes 8 0x240000000000 ++ leBytes 4 9 ++ leBytes 44 2

def readyStep : Step := { cmd := 1, ring := 0, ctx := 256, seq := 3 }

/-- The device without its memories: the link of the host is up, and port 0 leads to device 4. -/
def groupLaunching : State :=
  { dev := { mode := .service }, hif := { linkUp := true }, cmds := [groupLaunch], steps := [readyStep]
    dict := [(dkey 0x5000 5 4, 1)], links := { ports := [(0, { state := .active })] } }

/-- The same with the block in host memory. -/
def groupReady : State :=
  { groupLaunching with host := memWrites [] (groupLaunching.hostAddr 256 0x100000000000) groupBlock }

def listUnread : Fail := { status := stTranslation, value := 0, ask := some (0x240000000000, 4) }

theorem readOr_groupBlock : ((groupReady.at 0).stage groupLaunch .running).readOr 256 0x100000000000 64 = .ok groupBlock := by
  have len : groupBlock.length = 64 := by decide +kernel
  rw [← len]
  refine State.readOr_stored ⟨by decide +kernel, by decide +kernel⟩ (by decide +kernel)
    ⟨by norm_num, by rw [len]; norm_num⟩ ?_
  rw [State.hostAddr_congr (s := groupLaunching) (by decide +kernel)]
  simp only [State.stage, State.setCmd, State.at, groupReady]

theorem launchChecks_groupReady : ((groupReady.at 0).stage groupLaunch .running).launchChecks groupLaunch
    { readyStep with footprint := groupReady.firstFootprint groupLaunch } = .error listUnread := by
  unfold State.launchChecks
  rw [show groupLaunch.ctx = 256 from rfl, show groupLaunch.at 8 8 = 0x100000000000 by decide +kernel,
    show groupLaunch.at 25 1 = 0 by decide +kernel, show groupLaunch.at 26 1 = 0 by decide +kernel]
  dsimp only
  rw [readOr_groupBlock]
  decide +kernel

/-- A launch whose member list must be fetched keeps its command (R342, R475). -/
theorem exec_stepLaunch_cmd_of_ask {s u : State} {cmd t : Nat} {c : Cmd} {p : Step} {f : Fail} {a : Nat × Nat}
    (found : s.cmd cmd = some c) (step : s.step? cmd = some p) (new : p.latched = false)
    (can : s.canLaunch { p with footprint := s.firstFootprint c } = true)
    (checks : ((s.at t).stage c .running).launchChecks c { p with footprint := s.firstFootprint c } = .error f)
    (asks : f.ask = some a) (sent : (((s.at t).stage c .running).ask c.ctx c.id a.1 a.2).fetched c.id a.1 = none)
    (run : exec (.stepLaunch cmd t) s = .next u) : u.cmd cmd = some { c with stage := .running } := by
  rw [exec_stepLaunch, execStepLaunch_of_canLaunch t found step new can, State.launch_of_ask checks asks new] at run
  obtain rfl := Host.Outcome.next.inj run
  have id := State.cmd_id found
  rw [State.cmd_of_cmds ((State.nextSearch_frame _).keeps .cmds rfl).1, State.cmd_of_cmds (State.awaitList_cmds sent), ← id]
  exact State.cmd_setCmd (s := s.at t) (c := { c with stage := .running }) (id ▸ found)

/-- Refutes O31: a launch check that asks for the member list of a group in a Remote window does not end the step; the launch
waits for the list, and its command stays (R342, R475). -/
theorem not_stepLaunches : ¬ Obligations.StepLaunches := by
  unfold Obligations.StepLaunches
  rintro ⟨-, -, -, -, -, -, -, fails, -⟩
  have can : groupReady.canLaunch { readyStep with footprint := groupReady.firstFootprint groupLaunch } = true := by decide +kernel
  obtain ⟨u, run, -, gone, -⟩ := fails 1 0 groupLaunch readyStep listUnread groupReady rfl rfl rfl can launchChecks_groupReady
  have stays := exec_stepLaunch_cmd_of_ask rfl rfl rfl can launchChecks_groupReady rfl (by decide +kernel) run
  exact absurd (gone.symm.trans stays) nofun

end Sys2Proof.Machine
end

section
/-! SUPPORT. READ_DATA for a halted stream (R290, R291, R475). -/
namespace Sys2Proof.Machine

/-- A packet that a port takes is given to its handler once its credits are due back. -/
theorem State.packetIn_of_takes {s : State} {port type units : Nat} {h : PacketHeader} {ok : Port → Bool} {go : State → State}
    (takes : s.takes port type units h = true) (allowed : ok (s.port port) = true) :
    s.packetIn port type units h ok go = go (s.took port (vcOf type) units) := by
  obtain ⟨active, form⟩ := Bool.and_eq_true_iff.mp takes
  have counted : h.units.toNat = units := by
    simp only [packetOk, Bool.and_eq_true, decide_eq_true_eq] at form
    obtain ⟨⟨⟨⟨⟨-, counted⟩, -⟩, -⟩, -⟩, -⟩ := form
    exact counted
  have up : (s.port port).state = .active := of_decide_eq_true active
  simp [State.packetIn, up, form, allowed, counted, State.took]

theorem tget_tput_same {α : Type} (d : α) (t : Tab α) (k : Nat) (v : α) : tget d (tput t k v) k = v := by
  induction t with
  | nil => simp [tput, tget]
  | cons kv t ih =>
    rw [tput]
    split_ifs with same below <;> simp [tget, *]

theorem exec_readData (port : PortId) (h : PacketHeader) (data : Bytes) (s : State) :
    exec (.readData port h data) s = execReadData port h data s := rfl

/-- READ_DATA of the current epoch with the data of a request. -/
theorem execReadData_of_answer {s : State} {port : PortId} {h : PacketHeader} {data : Bytes} {r : Request}
    (takes : s.takes port.val 0x20 (unitsOf data.length) h = true) (form : accessOk (s.port port.val) h = true)
    (len : data.length = h.length.toNat) (epoch : h.epoch.toNat = s.epochOf h.ctx.toNat)
    (found : (s.links.requests.find? fun r => decide (r.tag = h.tag.toNat) && decide (r.dst = h.src.toNat) &&
      decide (r.ctx = h.ctx.toNat)) = some r) (fits : r.length = data.length) :
    execReadData port h data s = .next ((s.took port.val 1 (unitsOf data.length)).readAnswered r h.poison data) := by
  unfold execReadData
  rw [State.packetIn_of_takes takes (by simp [form, len])]
  have epoch' : h.epoch.toNat = (s.took port.val 1 (unitsOf data.length)).epochOf h.ctx.toNat := epoch
  have found' : ((s.took port.val 1 (unitsOf data.length)).links.requests.find? fun r => decide (r.tag = h.tag.toNat) &&
      decide (r.dst = h.src.toNat) && decide (r.ctx = h.ctx.toNat)) = some r := found
  show Host.Outcome.next (State.responded (s.took port.val 1 (unitsOf data.length)) _ _ _) = _
  rw [State.responded, if_neg (not_not_intro epoch'), found']
  exact congrArg _ (if_pos fits)

/-- While a stream is halted, data that lands for it leaves its position (R290, R291). -/
theorem State.streamLanded_position_of_halted {s : State} {key : Nat} {x : Strm} (pos : Nat) (b : Bytes)
    (here : s.strm (key / 32) (key % 32) = some x) (halted : x.st.fault.isSome = true) :
    (tget {} (s.streamLanded key pos false b).array.streams key).position = x.st.position := by
  have kept (k : Nat) (h : Half) : x.st.setHalf k h ≠ {} ∧ (x.st.setHalf k h).position = x.st.position := by
    unfold Stream.setHalf
    split_ifs <;> refine ⟨fun e => ?_, rfl⟩ <;>
      exact absurd (congrArg Option.isSome (congrArg Stream.fault e) : x.st.fault.isSome = false) (by simp [halted])
  unfold State.streamLanded
  rw [here]
  dsimp only
  rw [if_neg Bool.false_ne_true, if_pos halted]
  show (tget {} (tset {} s.array.streams key _) key).position = _
  rw [tset, if_neg (kept _ _).1, tget_tput_same]
  exact (kept _ _).2

theorem State.strm_congr {s t : State} (array : t.array = s.array) (steps : t.steps = s.steps) (core i : Nat) :
    t.strm core i = s.strm core i := by
  unfold State.strm State.resident State.stepAt State.stopped
  rw [array, steps]

theorem State.strm_took (s : State) (port vc units core i : Nat) : (s.took port vc units).strm core i = s.strm core i :=
  State.strm_congr rfl rfl core i

/-- The answer of a READ for a halted stream leaves its position. -/
theorem State.readAnswered_position_of_halted {s : State} {r : Request} {key pos : Nat} {x : Strm} (b : Bytes)
    (asks : r.asker = .stream key pos) (here : s.strm (key / 32) (key % 32) = some x) (halted : x.st.fault.isSome = true) :
    (tget {} (s.readAnswered r false b).array.streams key).position = x.st.position := by
  have k : Frame [.free, .ctxEntries, .links] s ((s.dropRequest r.tag).cbump r.ctx 15 1 64 b.length) :=
    Frame.step (State.cbump_frame ..) rfl (Frame.mono (State.dropRequest_frame ..) rfl)
  rw [← State.strm_congr (k.keeps .array rfl) (k.keeps .steps rfl)] at here
  unfold State.readAnswered
  rw [asks]
  exact State.streamLanded_position_of_halted pos b here halted

/-- READ_DATA for a halted stream takes its data and leaves its position (R290, R291). -/
theorem exec_readData_position_of_halted {s u : State} {port : PortId} {h : PacketHeader} {data : Bytes} {r : Request}
    {key pos : Nat} {x : Strm} (takes : s.takes port.val 0x20 (unitsOf data.length) h = true)
    (form : accessOk (s.port port.val) h = true) (len : data.length = h.length.toNat)
    (epoch : h.epoch.toNat = s.epochOf h.ctx.toNat)
    (found : (s.links.requests.find? fun r => decide (r.tag = h.tag.toNat) && decide (r.dst = h.src.toNat) &&
      decide (r.ctx = h.ctx.toNat)) = some r) (fits : r.length = data.length) (asks : r.asker = .stream key pos)
    (good : h.poison = false) (here : s.strm (key / 32) (key % 32) = some x) (halted : x.st.fault.isSome = true)
    (run : exec (.readData port h data) s = .next u) : (tget {} u.array.streams key).position = x.st.position := by
  rw [exec_readData, execReadData_of_answer takes form len epoch found fits, good] at run
  obtain rfl := Host.Outcome.next.inj run
  exact State.readAnswered_position_of_halted data asks ((State.strm_took ..).trans here) halted

/-- An image of a Route on cluster 0 whose core 0 has one stream descriptor. -/
def oneStreamImage : Bytes :=
  leBytes 16 0 ++ leBytes 244 1 ++ leBytes 4 272 ++ leBytes 8 0 ++ (leBytes 128 0 ++ leBytes 4 256 ++ leBytes 124 4) ++
    (leBytes 10 0 ++ leBytes 18 64 ++ leBytes 36 64 ++ leBytes 64 0)

/-- The step that executes it. -/
def streamingStep : Step :=
  { cmd := 1, ring := 0, ctx := 256, seq := 3, launched := true, latched := true, footprint := 1, routes := [5] }

/-- Its stream, halted by a fault at position 256 of the Remote window. -/
def haltedStream : Stream :=
  { fault := some { core := 0, stream := 0, window := 3, kind := 1, seq := 3, va := 0x200000000100, position := 256, pass := 0
                    ctx := 256, count := 1 } }

/-- A READ of the stream's first two bytes, which device 4 has still to answer. -/
def streamRequest : Request :=
  { tag := 0, port := 0, dst := 4, ctx := 256, epoch := 0, va := 0x200000000000, length := 2, asker := .stream 0 0 }

def streamHalted : State :=
  { dev := { mode := .service }, steps := [streamingStep]
    array :=
      { routes := [{ id := 5, ctx := 256, footprint := 1, image := 0, bytes := oneStreamImage }], streams := [(0, haltedStream)] }
    links := { ports := [(0, { state := .active })], requests := [streamRequest] } }

/-- The header of the READ_DATA that answers it. -/
def streamAnswer : PacketHeader :=
  { type := 0x20, poison := false, reserved := false, units := 1, src := 4, dst := 0, ctx := 256, epoch := 0, tag := 0, addr := 0
    length := 2, status := 0 }

/-- Refutes O37: data that lands for a halted stream does not move its position (R290, R291). -/
theorem not_remoteAnswers : ¬ Obligations.RemoteAnswers := by
  unfold Obligations.RemoteAnswers
  rintro ⟨-, -, -, advances, -⟩
  have takes : streamHalted.takes (0 : PortId).val 0x20 (unitsOf [1, 2].length) streamAnswer = true := by decide +kernel
  have form : accessOk (streamHalted.port (0 : PortId).val) streamAnswer = true := by decide +kernel
  have here : streamHalted.strm (0 / 32) (0 % 32) = some ⟨streamingStep, oneStreamImage, 592, 0, haltedStream⟩ := by
    decide +kernel
  obtain ⟨u, run, moved, -⟩ := advances 0 streamAnswer [1, 2] streamRequest 0 0 _ streamHalted takes form rfl rfl rfl rfl
    rfl rfl here
  have stays := exec_readData_position_of_halted takes form rfl rfl rfl rfl rfl rfl here rfl run
  exact absurd (stays.symm.trans moved) (by decide)

end Sys2Proof.Machine
end

section
/-! SUPPORT. What one command can reach: the frame of every meaning, over the whole instruction set at once. -/
namespace Sys2Proof.Machine

/-- Every zone of the state but the low-speed pins. -/
def zonesButPins : List Zone :=
  [.free, .out, .uptime, .dev, .cdu, .entries, .ctxEntries, .host, .near, .nearMem, .bulk, .bulkMem, .store, .storeMem, .hif,
    .rings, .loops, .msix, .pages, .counters, .owners, .cmds, .steps, .array, .ctxs, .serve, .tru, .links, .kop, .health, .power]

/-- The zones that a command may reach: the pins are among them only for those of `movesPins`. -/
def reachedZones (c : Instr) : List Zone := if movesPins c then .pins :: zonesButPins else zonesButPins

/-- Every command but the rise of PWR_GOOD, which sets the uptime counter to 0, keeps to the zones that it may reach. -/
theorem exec_frame {s u : State} : ∀ {c : Instr}, c ≠ .pwrGoodRise → exec c s = .next u → Frame (reachedZones c) s u
  | .launchStep .., _, h => (execLaunchStep_frame h).mono rfl
  | .copy .., _, h => (execCopy_frame h).mono rfl
  | .loadRoute .., _, h => (execLoadRoute_frame h).mono rfl
  | .loadRouteStage .., _, h => (execLoadRouteStage_frame h).mono rfl
  | .loadRouteEvict .., _, h => (execLoadRouteEvict_frame h).mono rfl
  | .bindModel .., _, h => (execBindModel_frame h).mono rfl
  | .unbindModel .., _, h => (execUnbindModel_frame h).mono rfl
  | .prefixLookup .., _, h => (execPrefixLookup_frame h).mono rfl
  | .prefixInsert .., _, h => (execPrefixInsert_frame h).mono rfl
  | .fence .., _, h => (execFence_frame h).mono rfl
  | .signal .., _, h => (execSignal_frame h).mono rfl
  | .wait .., _, h => (execWait_frame h).mono rfl
  | .resumeStream .., _, h => (execResumeStream_frame h).mono rfl
  | .query .., _, h => (execQuery_frame h).mono rfl
  | .commandFetch .., _, h => (execCommandFetch_frame h).mono rfl
  | .sqTail .., _, h => (execSqTail_frame h).mono rfl
  | .cqHead .., _, h => (execCqHead_frame h).mono rfl
  | .ringEnable .., _, h => (execRingEnable_frame h).mono rfl
  | .ringDisable .., _, h => (execRingDisable_frame h).mono rfl
  | .loopTableWrite .., _, h => (execLoopTableWrite_frame h).mono rfl
  | .contextControlWrite .., _, h => (execContextControlWrite_frame h).mono rfl
  | .nmMapMap .., _, h => (execNmMapMap_frame h).mono rfl
  | .nmMapUnmap .., _, h => (execNmMapUnmap_frame h).mono rfl
  | .unmapQuiesced, _, h => (execUnmapQuiesced_frame h).mono rfl
  | .regionClearDone .., _, h => (execRegionClearDone_frame h).mono rfl
  | .bkiCtxRootWrite .., _, h => (execBkiCtxRootWrite_frame h).mono rfl
  | .bkiInval .., _, h => (execBkiInval_frame h).mono rfl
  | .bkiInvalQuiesced, _, h => (execBkiInvalQuiesced_frame h).mono rfl
  | .syncCounterWrite .., _, h => (execSyncCounterWrite_frame h).mono rfl
  | .syncOwnerWrite .., _, h => (execSyncOwnerWrite_frame h).mono rfl
  | .mbxGo .., _, h => (execMbxGo_frame h).mono rfl
  | .msixUnmask .., _, h => (execMsixUnmask_frame h).mono rfl
  | .registerWrite .., _, h => (execRegisterWrite_frame h).mono rfl
  | .atsInvalidationRequest .., _, h => (execAtsInvalidationRequest_frame h).mono rfl
  | .perstN .., _, h => (execPerstN_frame h).mono rfl
  | .pfFunctionLevelReset .., _, h => (execPfFunctionLevelReset_frame h).mono rfl
  | .vfFunctionLevelReset .., _, h => (execVfFunctionLevelReset_frame h).mono rfl
  | .hostInterfaceResetEnd .., _, h => (execHostInterfaceResetEnd_frame h).mono rfl
  | .deviceReady .., _, h => (execDeviceReady_frame h).mono rfl
  | .pwrGoodRise, rise, _ => absurd rfl rise
  | .pwrGoodFall .., _, h => (execPwrGoodFall_frame h).mono rfl
  | .devRstNAssert .., _, h => (execDevRstNAssert_frame h).mono rfl
  | .devRstNDeassert .., _, h => (execDevRstNDeassert_frame h).mono rfl
  | .resetHold .., _, h => (execResetHold_frame h).mono rfl
  | .profileLoad .., _, h => (execProfileLoad_frame h).mono rfl
  | .clusterSelfTestEnd .., _, h => (execClusterSelfTestEnd_frame h).mono rfl
  | .pwrBrakeNAssert .., _, h => (execPwrBrakeNAssert_frame h).mono rfl
  | .pwrBrakeNRelease .., _, h => (execPwrBrakeNRelease_frame h).mono rfl
  | .pwrBrakeLong .., _, h => (execPwrBrakeLong_frame h).mono rfl
  | .railOutOfTolerance .., _, h => (execRailOutOfTolerance_frame h).mono rfl
  | .railMonitorSample .., _, h => (execRailMonitorSample_frame h).mono rfl
  | .refclkSysLost .., _, h => (execRefclkSysLost_frame h).mono rfl
  | .refclkSysRestored .., _, h => (execRefclkSysRestored_frame h).mono rfl
  | .refclkLinkLost .., _, h => (execRefclkLinkLost_frame h).mono rfl
  | .refclkPcieLost .., _, h => (execRefclkPcieLost_frame h).mono rfl
  | .canRxdDominantTimeout .., _, h => (execCanRxdDominantTimeout_frame h).mono rfl
  | .cadenceInputEvent .., _, h => (execCadenceInputEvent_frame h).mono rfl
  | .cadencePeriodMissing .., _, h => (execCadencePeriodMissing_frame h).mono rfl
  | .holdoverEntry .., _, h => (execHoldoverEntry_frame h).mono rfl
  | .cadenceSyncMark .., _, h => (execCadenceSyncMark_frame h).mono rfl
  | .cadenceTick .., _, h => (execCadenceTick_frame h).mono rfl
  | .epochEnd .., _, h => (execEpochEnd_frame h).mono rfl
  | .cduApply .., _, h => (execCduApply_frame h).mono rfl
  | .stepReady .., _, h => (execStepReady_frame h).mono rfl
  | .stepLaunch .., _, h => (execStepLaunch_frame h).mono rfl
  | .roundStart .., _, h => (execRoundStart_frame h).mono rfl
  | .channelMessageArrival .., _, h => (execChannelMessageArrival_frame h).mono rfl
  | .creditReturn .., _, h => (execCreditReturn_frame h).mono rfl
  | .streamDataArrival .., _, h => (execStreamDataArrival_frame h).mono rfl
  | .streamWriteAck .., _, h => (execStreamWriteAck_frame h).mono rfl
  | .streamTranslationFault .., _, h => (execStreamTranslationFault_frame h).mono rfl
  | .sprSave .., _, h => (execSprSave_frame h).mono rfl
  | .streamFaultTimeout .., _, h => (execStreamFaultTimeout_frame h).mono rfl
  | .ropeBlockArrival .., _, h => (execRopeBlockArrival_frame h).mono rfl
  | .phaseEnd .., _, h => (execPhaseEnd_frame h).mono rfl
  | .stepExecutionEnd .., _, h => (execStepExecutionEnd_frame h).mono rfl
  | .deadlineExpired .., _, h => (execDeadlineExpired_frame h).mono rfl
  | .stepStalled .., _, h => (execStepStalled_frame h).mono rfl
  | .rappelCutoff .., _, h => (execRappelCutoff_frame h).mono rfl
  | .rappelQuiescence .., _, h => (execRappelQuiescence_frame h).mono rfl
  | .routeLoadDone .., _, h => (execRouteLoadDone_frame h).mono rfl
  | .coreError .., _, h => (execCoreError_frame h).mono rfl
  | .nearUncorrectable .., _, h => (execNearUncorrectable_frame h).mono rfl
  | .nearScrubLine .., _, h => (execNearScrubLine_frame h).mono rfl
  | .nearRowRepairDone .., _, h => (execNearRowRepairDone_frame h).mono rfl
  | .bulkUncorrectable .., _, h => (execBulkUncorrectable_frame h).mono rfl
  | .bulkScrubLine .., _, h => (execBulkScrubLine_frame h).mono rfl
  | .bulkLaneRepair .., _, h => (execBulkLaneRepair_frame h).mono rfl
  | .bulkChannelSpareDone .., _, h => (execBulkChannelSpareDone_frame h).mono rfl
  | .bulkSelfRefreshEntry .., _, h => (execBulkSelfRefreshEntry_frame h).mono rfl
  | .bridgeFlitError .., _, h => (execBridgeFlitError_frame h).mono rfl
  | .bindChunk .., _, h => (execBindChunk_frame h).mono rfl
  | .bindComplete .., _, h => (execBindComplete_frame h).mono rfl
  | .storePatrolChunk .., _, h => (execStorePatrolChunk_frame h).mono rfl
  | .storeChannelIdleOff .., _, h => (execStoreChannelIdleOff_frame h).mono rfl
  | .installModeEnter .., _, h => (execInstallModeEnter_frame h).mono rfl
  | .installModeActive, _, h => (execInstallModeActive_frame h).mono rfl
  | .installModeExit .., _, h => (execInstallModeExit_frame h).mono rfl
  | .storeOpen .., _, h => (execStoreOpen_frame h).mono rfl
  | .storeCommit .., _, h => (execStoreCommit_frame h).mono rfl
  | .storeErase .., _, h => (execStoreErase_frame h).mono rfl
  | .storeKeyWrite .., _, h => (execStoreKeyWrite_frame h).mono rfl
  | .storeKeyRevoke .., _, h => (execStoreKeyRevoke_frame h).mono rfl
  | .contextSwitchDone .., _, h => (execContextSwitchDone_frame h).mono rfl
  | .clusterAssign .., _, h => (execClusterAssign_frame h).mono rfl
  | .pool .., _, h => (execPool_frame h).mono rfl
  | .bivouacVa .., _, h => (execBivouacVa_frame h).mono rfl
  | .share .., _, h => (execShare_frame h).mono rfl
  | .poolSlack .., _, h => (execPoolSlack_frame h).mono rfl
  | .laneSide .., _, h => (execLaneSide_frame h).mono rfl
  | .loopLane .., _, h => (execLoopLane_frame h).mono rfl
  | .laneSwitch .., _, h => (execLaneSwitch_frame h).mono rfl
  | .laneCancel .., _, h => (execLaneCancel_frame h).mono rfl
  | .laneFlip .., _, h => (execLaneFlip_frame h).mono rfl
  | .bindingRelease .., _, h => (execBindingRelease_frame h).mono rfl
  | .cairnFreeing .., _, h => (execCairnFreeing_frame h).mono rfl
  | .truExchanges .., _, h => (execTruExchanges_frame h).mono rfl
  | .dispatchCountsComplete .., _, h => (execDispatchCountsComplete_frame h).mono rfl
  | .dispatchComplete .., _, h => (execDispatchComplete_frame h).mono rfl
  | .returnAnnounced .., _, h => (execReturnAnnounced_frame h).mono rfl
  | .returnComplete .., _, h => (execReturnComplete_frame h).mono rfl
  | .frameReceived .., _, h => (execFrameReceived_frame h).mono rfl
  | .linkInfo .., _, h => (execLinkInfo_frame h).mono rfl
  | .portSignalDetect .., _, h => (execPortSignalDetect_frame h).mono rfl
  | .portTrainDone .., _, h => (execPortTrainDone_frame h).mono rfl
  | .portAlignDone .., _, h => (execPortAlignDone_frame h).mono rfl
  | .portStateTimeout .., _, h => (execPortStateTimeout_frame h).mono rfl
  | .portRetrain _ cause, _, h => (execPortRetrain_frame (a1 := cause) h).mono rfl
  | .portDown .., _, h => (execPortDown_frame h).mono rfl
  | .read .., _, h => (execRead_frame h).mono rfl
  | .flush .., _, h => (execFlush_frame h).mono rfl
  | .readData .., _, h => (execReadData_frame h).mono rfl
  | .readFault .., _, h => (execReadFault_frame h).mono rfl
  | .flushDone .., _, h => (execFlushDone_frame h).mono rfl
  | .write .., _, h => (execWrite_frame h).mono rfl
  | .ready .., _, h => (execReady_frame h).mono rfl
  | .abort .., _, h => (execAbort_frame h).mono rfl
  | .counts .., _, h => (execCounts_frame h).mono rfl
  | .announce .., _, h => (execAnnounce_frame h).mono rfl
  | .hold .., _, h => (execHold_frame h).mono rfl
  | .epoch .., _, h => (execEpoch_frame h).mono rfl
  | .epochAck .., _, h => (execEpochAck_frame h).mono rfl
  | .border .., _, h => (execBorder_frame h).mono rfl
  | .groupCommit .., _, h => (execGroupCommit_frame h).mono rfl
  | .groupOutcomeUnknown .., _, h => (execGroupOutcomeUnknown_frame h).mono rfl
  | .groupEntryExpired .., _, h => (execGroupEntryExpired_frame h).mono rfl
  | .quiescenceLimit .., _, h => (execQuiescenceLimit_frame h).mono rfl
  | .partitionApply .., _, h => (execPartitionApply_frame h).mono rfl
  | .partitionDrained .., _, h => (execPartitionDrained_frame h).mono rfl
  | .borderWaitTimeout .., _, h => (execBorderWaitTimeout_frame h).mono rfl
  | .laneTestInterval .., _, h => (execLaneTestInterval_frame h).mono rfl
  | .laneTestDwellEnd .., _, h => (execLaneTestDwellEnd_frame h).mono rfl
  | .portLaneTest .., _, h => (execPortLaneTest_frame h).mono rfl
  | .portLaneTestEnd .., _, h => (execPortLaneTestEnd_frame h).mono rfl
  | .kopRead .., _, h => (execKopRead_frame h).mono rfl
  | .kopWrite .., _, h => (execKopWrite_frame h).mono rfl
  | .kopDescribe .., _, h => (execKopDescribe_frame h).mono rfl
  | .kopNext .., _, h => (execKopNext_frame h).mono rfl
  | .managementDatagram .., _, h => (execManagementDatagram_frame h).mono rfl
  | .arpRequest .., _, h => (execArpRequest_frame h).mono rfl
  | .icmpEcho .., _, h => (execIcmpEcho_frame h).mono rfl
  | .serviceBusSegment .., _, h => (execServiceBusSegment_frame h).mono rfl
  | .serviceBusSegmentTimeout .., _, h => (execServiceBusSegmentTimeout_frame h).mono rfl
  | .sbStatusPeriod .., _, h => (execSbStatusPeriod_frame h).mono rfl
  | .roleChallenge .., _, h => (execRoleChallenge_frame h).mono rfl
  | .roleResponse .., _, h => (execRoleResponse_frame h).mono rfl
  | .roleDrop .., _, h => (execRoleDrop_frame h).mono rfl
  | .roleLeaseExpired .., _, h => (execRoleLeaseExpired_frame h).mono rfl
  | .profileSave .., _, h => (execProfileSave_frame h).mono rfl
  | .profileAutosave .., _, h => (execProfileAutosave_frame h).mono rfl
  | .profileImage .., _, h => (execProfileImage_frame h).mono rfl
  | .profileErase .., _, h => (execProfileErase_frame h).mono rfl
  | .ctxReset .., _, h => (execCtxReset_frame h).mono rfl
  | .contextResetEnd .., _, h => (execContextResetEnd_frame h).mono rfl
  | .recoverRequest .., _, h => (execRecoverRequest_frame h).mono rfl
  | .recoveryTimeout .., _, h => (execRecoveryTimeout_frame h).mono rfl
  | .snapshotRelease .., _, h => (execSnapshotRelease_frame h).mono rfl
  | .healthAck .., _, h => (execHealthAck_frame h).mono rfl
  | .healthMask .., _, h => (execHealthMask_frame h).mono rfl
  | .basecampTakeover .., _, h => (execBasecampTakeover_frame h).mono rfl
  | .coreRotatePeriod .., _, h => (execCoreRotatePeriod_frame h).mono rfl
  | .coreRotation .., _, h => (execCoreRotation_frame h).mono rfl
  | .rotationTestEnd .., _, h => (execRotationTestEnd_frame h).mono rfl
  | .testRequestCluster .., _, h => (execTestRequestCluster_frame h).mono rfl
  | .testRequestRotate .., _, h => (execTestRequestRotate_frame h).mono rfl
  | .clusterTestEnd .., _, h => (execClusterTestEnd_frame h).mono rfl
  | .lifeAccumulate .., _, h => (execLifeAccumulate_frame h).mono rfl
  | .perturbEnable .., _, h => (execPerturbEnable_frame h).mono rfl
  | .perturbSlots .., _, h => (execPerturbSlots_frame h).mono rfl
  | .clusterPointReq .., _, h => (execClusterPointReq_frame h).mono rfl
  | .clusterPointTransition .., _, h => (execClusterPointTransition_frame h).mono rfl
  | .clusterIdle .., _, h => (execClusterIdle_frame h).mono rfl
  | .powerCapCheck .., _, h => (execPowerCapCheck_frame h).mono rfl
  | .vinCmpLimitCheck .., _, h => (execVinCmpLimitCheck_frame h).mono rfl
  | .temperatureDifferenceCheck .., _, h => (execTemperatureDifferenceCheck_frame h).mono rfl
  | .thermalSensorRead .., _, h => (execThermalSensorRead_frame h).mono rfl
  | .sensorFailed .., _, h => (execSensorFailed_frame h).mono rfl
  | .portRetrainActive .., _, h => (execPortRetrainActive_frame h).mono rfl
  | .frameTransmit .., _, h => (execFrameTransmit_frame h).mono rfl
  | .waitTimeout .., _, h => (execWaitTimeout_frame h).mono rfl
  | .managementLinkDown .., _, h => (execManagementLinkDown_frame h).mono rfl
  | .refclkLinkRestored .., _, h => (execRefclkLinkRestored_frame h).mono rfl
  | .refclkPcieRestored .., _, h => (execRefclkPcieRestored_frame h).mono rfl
  | .canRxdRecessiveResume .., _, h => (execCanRxdRecessiveResume_frame h).mono rfl
  | .tckEdge .., _, h => (execTckEdge_frame h).mono rfl
  | .trstNAssert, _, h => (execTrstNAssert_frame h).mono rfl
  | .profileSaveDone .., _, h => (execProfileSaveDone_frame h).mono rfl

theorem exec_pwrGoodRise (s : State) : exec .pwrGoodRise s = execPwrGoodRise s := rfl

/-- A command keeps memories and register tables in their canonical form. -/
theorem exec_canonical {c : Instr} {s u : State} (run : exec c s = .next u) (can : Canonical s) : Canonical u := by
  by_cases rise : c = .pwrGoodRise
  · subst rise
    exact (execPwrGoodRise_canonical run can).1
  · exact (exec_frame rise run).canonical can

/-! ### The rise of PWR_GOOD -/

/-- The accepted rise of PWR_GOOD, before Basecamp reports the rails that are out (R61, R76). -/
def State.risen (s : State) : State :=
  { s with
    uptime := 0
    cdu := {}
    pins := { s.pins with pwrGood := true, devRstN := false, tripLow := false, brakeSince := 0, brakeLogged := false }
    dev := { mode := .reset } }

/-- What follows the rise: the debug lock takes its state, and the units are powered or the rails that are out reported. -/
def State.riseSettled (s : State) : State :=
  let s := (s.risen.dset 0x3010 6 0 1).settleLock
  if s.pins.railsOut.isEmpty then s.powerHeld
  else s.pins.railsOut.foldl (fun s r => s.event 1 1 r (tget 0 s.pins.railMv r)) s

/-- The rise is accepted of a device without power whose always-on rails are in tolerance. -/
theorem execPwrGoodRise_of_unpowered {s : State} (off : s.powered = false) (rails : s.pins.railsOut.any railAlwaysOn = false) :
    execPwrGoodRise s = .next s.riseSettled := by
  unfold execPwrGoodRise
  rw [off, rails]
  rfl

theorem State.riseSettled_frame (s : State) : Frame [.free, .out, .entries, .msix, .health] s.risen s.riseSettled := by
  have settled : Frame [.free, .out, .entries, .msix, .health] s.risen (s.risen.dset 0x3010 6 0 1).settleLock :=
    Frame.step (State.settleLock_frame ..) rfl (Frame.mono (State.dset_frame ..) rfl)
  unfold State.riseSettled
  dsimp only
  split
  · exact Frame.step (State.powerHeld_frame _) rfl settled
  · exact Frame.foldl _ (fun _ _ => State.event_frame ..) settled

theorem State.riseSettled_uptime (s : State) : s.riseSettled.uptime = 0 := s.riseSettled_frame.keeps .uptime rfl

/-! ### A memory unit is its bytes and the rest of it -/

theorem State.near_of_frame {g : List Zone} {s t : State} (k : Frame g s t) (rest : g.contains .near = false)
    (mem : g.contains .nearMem = false) : t.near = s.near := by
  have same : ({ t.near with mem := [] } : Near) = { s.near with mem := [] } := k.keeps .near rest
  calc t.near = { ({ t.near with mem := [] } : Near) with mem := t.near.mem } := rfl
    _ = { ({ s.near with mem := [] } : Near) with mem := s.near.mem } := by rw [same, k.keeps .nearMem mem]
    _ = s.near := rfl

theorem State.bulk_of_frame {g : List Zone} {s t : State} (k : Frame g s t) (rest : g.contains .bulk = false)
    (mem : g.contains .bulkMem = false) : t.bulk = s.bulk := by
  have same : ({ t.bulk with mem := [] } : Bulk) = { s.bulk with mem := [] } := k.keeps .bulk rest
  calc t.bulk = { ({ t.bulk with mem := [] } : Bulk) with mem := t.bulk.mem } := rfl
    _ = { ({ s.bulk with mem := [] } : Bulk) with mem := s.bulk.mem } := by rw [same, k.keeps .bulkMem mem]
    _ = s.bulk := rfl

theorem State.store_of_frame {g : List Zone} {s t : State} (k : Frame g s t) (rest : g.contains .store = false)
    (mem : g.contains .storeMem = false) : t.store = s.store := by
  have same : ({ t.store with mem := [] } : Store) = { s.store with mem := [] } := k.keeps .store rest
  calc t.store = { ({ t.store with mem := [] } : Store) with mem := t.store.mem } := rfl
    _ = { ({ s.store with mem := [] } : Store) with mem := s.store.mem } := by rw [same, k.keeps .storeMem mem]
    _ = s.store := rfl

/-! ### The statements -/

/-- Settles O9: on an empty queue the block idles, which touches no table, and every command keeps the canonical form. -/
theorem stepKeepsCanonical : Obligations.StepKeepsCanonical := by
  unfold Obligations.StepKeepsCanonical
  intro s u can run
  unfold step at run
  split at run
  next => exact Host.Outcome.next.inj run ▸ s.idle_frame.canonical can
  next c rest _ =>
    exact exec_canonical run ⟨can.near, can.bulk, can.store, can.host, can.entries, can.ctxEntries, can.counters, can.owners⟩

/-- Settles O5, by the frame of every other command, and by the rise itself. -/
theorem uptimeNeverRunsBack : Obligations.UptimeNeverRunsBack := by
  unfold Obligations.UptimeNeverRunsBack
  exact ⟨fun _ _ _ rise run => (exec_frame rise run).clock,
    fun s off rails => ⟨_, execPwrGoodRise_of_unpowered off rails, s.riseSettled_uptime⟩⟩

/-- Settles O11: the pins are no zone that a command outside the pin rows may reach. -/
theorem pinsDrivenBy : Obligations.PinsDrivenBy := by
  unfold Obligations.PinsDrivenBy
  intro c s u still run
  have other : c ≠ .pwrGoodRise := by rintro rfl; exact absurd still (by decide)
  have out : (reachedZones c).contains .pins = false := by rw [reachedZones, still]; rfl
  exact (exec_frame other run).keeps .pins out

/-- Settles O6: the rise sets the uptime counter to 0, and what follows it keeps the counter and the memories. -/
theorem uptimeStartsFromZero : Obligations.UptimeStartsFromZero := by
  unfold Obligations.UptimeStartsFromZero
  intro s off rails
  have k := s.riseSettled_frame
  have near : s.riseSettled.near = s.near := (State.near_of_frame k rfl rfl).trans rfl
  have bulk : s.riseSettled.bulk = s.bulk := (State.bulk_of_frame k rfl rfl).trans rfl
  have store : s.riseSettled.store = s.store := (State.store_of_frame k rfl rfl).trans rfl
  exact ⟨_, execPwrGoodRise_of_unpowered off rails, s.riseSettled_uptime, near, bulk, store⟩

end Sys2Proof.Machine
end

section
/-! SUPPORT. Two statements that ask nothing of a table they read: the flags of the power entry (R554, R561) and the voltages of
the rails (R62). -/
namespace Sys2Proof.Machine

/-! ### The rail-current check and the flags entry -/

theorem exec_vinCmpLimitCheck (t : Nat) (die : Fin 4) (ma : Nat) (s : State) :
    exec (.vinCmpLimitCheck t die ma) s = execVinCmpLimitCheck t die ma s := rfl

/-- The first check of a die does its comparison. -/
theorem execVinCmpLimitCheck_of_first {s : State} {die : Fin 4} (t ma : Nat) (on : s.powered = true)
    (first : tfind s.power.lastVin die.val = none) :
    execVinCmpLimitCheck t die ma s = .next ((s.at t).vinCheck t die.val ma) := by
  unfold execVinCmpLimitCheck
  rw [first, on]
  rfl

/-- A current that has just come below 90 % of the limit starts the die's millisecond and writes no entry (R554). -/
theorem State.vinCheck_dict_of_low {s : State} {t die ma : Nat} (within : ma ≤ s.dget 0x2100 2 * 1000)
    (low : ma * 10 < s.dget 0x2100 2 * 1000 * 9) (since : tfind s.power.belowVin die = none) :
    (s.vinCheck t die ma).dict = s.dict := by
  unfold State.vinCheck
  dsimp only
  rw [if_neg (Nat.not_lt.mpr within), if_pos low, since]

/-- A device in service in whose flags entry bit 2 is 1, which no row writes there. -/
def straySetFlag : State := { dev := { mode := .service }, dict := [(dkey 0x2100 14 0, 4)] }

theorem straySetFlag_canonical : Canonical straySetFlag := by
  constructor <;> decide

/-- Refutes O44: the check of a rail's current at less than 90 % of its limit leaves the flags entry as it was, and nothing says
that its bit 2 was 0 before: POWER_FLAGS[2] is read from the dies above their limit, not from the entry (R561). -/
theorem not_brakeAndPoints : ¬ Obligations.BrakeAndPoints := by
  unfold Obligations.BrakeAndPoints
  rintro ⟨-, -, -, -, -, -, -, -, -, -, -, -, low, -⟩
  have within : 0 ≤ (straySetFlag.at 0).dget 0x2100 2 * 1000 := Nat.zero_le _
  have under : 0 * 10 < (straySetFlag.at 0).dget 0x2100 2 * 1000 * 9 := by decide +kernel
  obtain ⟨u, run, -, -, cleared, -⟩ := low 0 0 0 straySetFlag straySetFlag_canonical rfl rfl within under rfl
  rw [exec_vinCmpLimitCheck, execVinCmpLimitCheck_of_first 0 0 rfl rfl] at run
  obtain rfl := Host.Outcome.next.inj run
  have kept : ((straySetFlag.at 0).vinCheck 0 (0 : Fin 4).val 0).dict = straySetFlag.dict :=
    State.vinCheck_dict_of_low within under rfl
  rw [State.dget, kept] at cleared
  exact absurd cleared (by decide +kernel)

/-! ### A rail out of tolerance without power -/

theorem exec_railOutOfTolerance (t : Nat) (rail : Fin 15) (mv : Nat) (s : State) :
    exec (.railOutOfTolerance t rail mv) s = execRailOutOfTolerance t rail mv s := rfl

/-- Without power a rail that leaves its tolerance is recorded, with its voltage, and nothing else happens (R62). -/
theorem execRailOutOfTolerance_of_unpowered {s : State} {rail : Fin 15} (t mv : Nat) (off : s.powered = false)
    (fresh : s.pins.railsOut.contains rail.val = false) :
    execRailOutOfTolerance t rail mv s = .next { s with pins := { s.pins with
      railsOut := (s.pins.railsOut.filter (· < rail.val)) ++ [rail.val] ++ s.pins.railsOut.filter (rail.val < ·)
      railMv := tset 0 s.pins.railMv rail.val mv } } := by
  have off' (pins : Pins) : ({ s with pins := pins } : State).powered = false := off
  unfold execRailOutOfTolerance
  rw [fresh, off]
  dsimp only
  rw [if_neg Bool.false_ne_true, if_neg Bool.false_ne_true, off']
  exact congrArg _ (if_pos rfl)

/-- A device without power whose table of voltages lists rail 0 twice. -/
def railListedTwice : State := { pins := { railMv := [(0, 900), (0, 900)] } }

/-- Refutes O15: a rail at 0 mV is unlisted in the table of voltages, and one that the table, of which the statement asks no
order, lists twice still reads its old voltage. -/
theorem not_railsAndClocks : ¬ Obligations.RailsAndClocks := by
  unfold Obligations.RailsAndClocks
  rintro ⟨-, -, -, -, -, -, -, -, -, -, -, -, -, -, recorded, -⟩
  obtain ⟨u, run, -, voltage, -⟩ := recorded 0 0 0 railListedTwice rfl rfl
  rw [exec_railOutOfTolerance, execRailOutOfTolerance_of_unpowered 0 0 rfl rfl] at run
  obtain rfl := Host.Outcome.next.inj run
  exact absurd voltage (by decide)

end Sys2Proof.Machine
end

section
/-! SUPPORT. Reads of tables and of dictionary entries after writes: what a write of one key leaves of another, with no order
asked of the table where none is needed. -/
namespace Sys2Proof.Machine

/-! ### Sparse tables -/

theorem tget_eq_tfind {α : Type} (d : α) (t : Tab α) (k : Nat) : tget d t k = (tfind t k).getD d := by
  induction t with
  | nil => rfl
  | cons kv t ih =>
    simp only [tget, tfind]
    split_ifs
    · rfl
    · rfl
    · exact ih

theorem thas_eq_tfind {α : Type} (t : Tab α) (k : Nat) : thas t k = (tfind t k).isSome := by
  induction t with
  | nil => rfl
  | cons kv t ih =>
    simp only [thas, tfind]
    split_ifs
    · rfl
    · rfl
    · exact ih

theorem tfind_tput_same {α : Type} (t : Tab α) (k : Nat) (v : α) : tfind (tput t k v) k = some v := by
  induction t with
  | nil => simp [tput, tfind]
  | cons kv t ih =>
    rw [tput]
    split_ifs with same below <;> simp [tfind, *]

/-- Listing a key leaves what every other key reads, whether the table is in order or not. -/
theorem tfind_tput_of_ne {α : Type} (t : Tab α) {k j : Nat} (v : α) (ne : j ≠ k) : tfind (tput t k v) j = tfind t j := by
  induction t with
  | nil => simp [tput, tfind, ne]
  | cons kv t ih =>
    rw [tput]
    split_ifs with same below
    · simp [tfind, ne, ← same]
    · by_cases jk : j < k
      · simp [tfind, ne, jk, show j ≠ kv.1 by omega, show j < kv.1 by omega]
      · simp [tfind, ne, jk]
    · simp only [tfind, ih]

theorem tget_tput_of_ne {α : Type} (d : α) (t : Tab α) {k j : Nat} (v : α) (ne : j ≠ k) :
    tget d (tput t k v) j = tget d t j := by
  rw [tget_eq_tfind, tfind_tput_of_ne t v ne, tget_eq_tfind]

theorem thas_tput_same {α : Type} (t : Tab α) (k : Nat) (v : α) : thas (tput t k v) k = true := by
  rw [thas_eq_tfind, tfind_tput_same, Option.isSome_some]

theorem thas_above {α : Type} {t : Tab α} {k n : Nat} (sorted : tsorted (some n) t = true) (le : k ≤ n) :
    thas t k = false := by
  cases t with
  | nil => rfl
  | cons kv t =>
    have := ((tsorted_cons _ kv t).mp sorted).1 n rfl
    rw [thas, if_neg (by omega), if_pos (by omega)]

/-- A key unlisted from a table in order is not listed any more. -/
theorem thas_terase_same {α : Type} {b : Option Nat} {t : Tab α} (k : Nat) (sorted : tsorted b t = true) :
    thas (terase t k) k = false := by
  induction t generalizing b with
  | nil => rfl
  | cons kv t ih =>
    obtain ⟨-, rest⟩ := (tsorted_cons b kv t).mp sorted
    rw [terase]
    split_ifs with same below
    · exact thas_above rest (Nat.le_of_eq same)
    · simp [thas, same, below]
    · rw [thas, if_neg same, if_neg below]
      exact ih rest

/-- A key at which no entry of a table stands is not found there. -/
theorem tfind_eq_none {α : Type} {t : Tab α} {k : Nat} (unlisted : ∀ kv ∈ t, kv.1 ≠ k) : tfind t k = none := by
  induction t with
  | nil => rfl
  | cons kv t ih =>
    have rest := ih fun x hx => unlisted x (List.mem_cons_of_mem _ hx)
    have here : k ≠ kv.1 := (unlisted kv List.mem_cons_self).symm
    simp [tfind, here, rest]

theorem tfind_tclear {α : Type} (t : Tab α) {lo hi k : Nat} (ge : lo ≤ k) (lt : k < hi) : tfind (tclear t lo hi) k = none := by
  refine tfind_eq_none fun kv listed => ?_
  have outside := (List.mem_filter.mp listed).2
  simp only [Bool.or_eq_true, decide_eq_true_eq] at outside
  omega

/-- A write of one key leaves what every other key reads with any default. -/
theorem tget_tset_of_ne {α : Type} [DecidableEq α] (d d' : α) {t : Tab α} {k j : Nat} (v : α) (sorted : tsorted none t = true)
    (ne : j ≠ k) : tget d' (tset d t k v) j = tget d' t j := by
  rw [tset]
  split_ifs
  · rw [tget_terase d' none t k j sorted, if_neg ne]
  · exact tget_tput_of_ne d' t v ne

/-! ### Entries of the device -/

theorem State.dget_of_dict {s t : State} (h : t.dict = s.dict) (i j e : Nat) : t.dget i j e = s.dget i j e := by
  rw [State.dget, h, State.dget]

theorem State.dget_of_frame {g : List Zone} {s t : State} (k : Frame g s t) (out : g.contains .entries = false) (i j e : Nat) :
    t.dget i j e = s.dget i j e := State.dget_of_dict (k.keeps .entries out) i j e

theorem State.dget_dset_same {s : State} (can : Canonical s) (i j e v : Nat) : (s.dset i j e v).dget i j e = v := by
  rw [State.dget, State.dset, tget_tset _ _ _ _ _ can.entries, if_pos rfl]

theorem State.dget_dset_of_ne {s : State} (can : Canonical s) {i j e i' j' e' : Nat} (v : Nat)
    (ne : dkey i' j' e' ≠ dkey i j e) : (s.dset i j e v).dget i' j' e' = s.dget i' j' e' :=
  tget_tset_of_ne _ _ v can.entries ne

theorem State.dget_fresh (s : State) (i j e : Nat) : s.fresh.2.dget i j e = s.dget i j e := rfl

theorem State.dget_dbump_same {s : State} (can : Canonical s) {i j e w n : Nat} (fits : s.dget i j e + n < 2 ^ w) :
    (s.dbump i j e w n).dget i j e = s.dget i j e + n := by
  unfold State.dbump
  dsimp only
  rw [if_pos fits, State.dget_dset_same can]

theorem State.dget_dbump_of_ne {s : State} (can : Canonical s) {i j e i' j' e' : Nat} (w n : Nat)
    (ne : dkey i' j' e' ≠ dkey i j e) : (s.dbump i j e w n).dget i' j' e' = s.dget i' j' e' := by
  unfold State.dbump
  dsimp only
  split_ifs
  · exact State.dget_dset_of_ne can _ ne
  · exact State.dget_dset_of_ne (s := s.fresh.2) (s.fresh_frame.canonical can) _ ne

/-! ### Entries of the contexts -/

theorem State.cget_of_cdict {s t : State} (h : t.cdict = s.cdict) (c k j : Nat) : t.cget c k j = s.cget c k j := by
  rw [State.cget, h, State.cget]

theorem State.cget_cset_same {s : State} (can : Canonical s) {c : Nat} (tenant : c < 256) (k j v : Nat) :
    (s.cset c k j v).cget c k j = v := by
  rw [State.cset, if_pos tenant, State.cget, tget_tset _ _ _ _ _ can.ctxEntries, if_pos rfl]

theorem State.cget_cset_of_ne {s : State} (can : Canonical s) {c k j c' k' j' : Nat} (v : Nat)
    (ne : ckey c' k' j' ≠ ckey c k j) : (s.cset c k j v).cget c' k' j' = s.cget c' k' j' := by
  unfold State.cset
  split_ifs
  · exact tget_tset_of_ne _ _ v can.ctxEntries ne
  · rfl

theorem State.cget_cbump_of_ne {s : State} (can : Canonical s) {c k j c' k' j' : Nat} (w n : Nat)
    (ne : ckey c' k' j' ≠ ckey c k j) : (s.cbump c k j w n).cget c' k' j' = s.cget c' k' j' := by
  unfold State.cbump
  dsimp only
  split_ifs
  · exact State.cget_cset_of_ne can _ ne
  · exact State.cget_cset_of_ne (s := s.fresh.2) (s.fresh_frame.canonical can) _ ne
  · rfl

end Sys2Proof.Machine
end

section
/-! SUPPORT. Health events (R71, R599, R601): the parts of logging one, and what each leaves. -/
namespace Sys2Proof.Machine

/-! ### The parts of an event -/

/-- SEQ of the next event (R599). -/
def State.nextSeq (s : State) : Nat := (s.dget 0x3000 2 + 1) % 2 ^ 32

/-- Its entry of HEALTH_LOG. -/
def State.nextSlot (s : State) : Nat := (s.nextSeq + 2 ^ 32 - 1) % 256

/-- Its record. -/
def State.eventOf (s : State) (type code subject detail : Nat) : Event :=
  ⟨s.nextSeq, type, code, subject, s.uptime, detail, s.cdu.tick⟩

/-- The record stands in the log and waits for its acknowledgement. -/
def State.withRecord (s : State) (type code subject detail : Nat) : State :=
  { s with health := { s.health with
      log := tset {} s.health.log s.nextSlot (s.eventOf type code subject detail)
      unacked := s.health.unacked ++ [(s.nextSeq, type)] } }

/-- SEQ and the count of the type follow. -/
def State.recorded (s : State) (type code subject detail : Nat) : State :=
  ((s.withRecord type code subject detail).dset 0x3000 2 0 s.nextSeq).dbump 0x3000 4 (type - 1) 16

/-- A record that was overwritten unacknowledged is counted. -/
def State.lossCounted (s t : State) : State :=
  let old := tget {} s.health.log s.nextSlot
  if s.health.unacked.any (fun u => decide (u.1 = old.seq) && decide (old.type ≠ 0)) then t.dbump 0x3000 6 0 32 else t

/-- PF vector 0 gives notice of an event of a type that is not masked. -/
def State.noticed (s : State) (type : Nat) : State :=
  if s.hif.ready && !bit (s.dget 0x3000 3) type then s.interrupt 0 0 else s

theorem State.event_eq (s : State) (type code subject detail : Nat) :
    s.event type code subject detail = (s.lossCounted (s.recorded type code subject detail)).noticed type := rfl

theorem State.withRecord_frame (s : State) (type code subject detail : Nat) :
    Frame [.health] s (s.withRecord type code subject detail) := Frame.set_health _ rfl (Frame.refl _ s)

theorem State.recorded_frame (s : State) (type code subject detail : Nat) :
    Frame [.free, .entries, .health] s (s.recorded type code subject detail) :=
  Frame.step (State.dbump_frame ..) rfl (Frame.step (State.dset_frame ..) rfl (Frame.mono (State.withRecord_frame ..) rfl))

theorem State.lossCounted_frame (s t : State) : Frame [.free, .entries] t (s.lossCounted t) :=
  Frame.ite (State.dbump_frame ..) (Frame.refl _ t)

theorem State.noticed_frame (s : State) (type : Nat) : Frame [.out, .msix] s (s.noticed type) :=
  Frame.ite (State.interrupt_frame ..) (Frame.refl _ s)

/-! ### The log -/

theorem State.event_health (s : State) (type code subject detail : Nat) :
    (s.event type code subject detail).health = (s.withRecord type code subject detail).health := by
  rw [State.event_eq, (State.noticed_frame ..).keeps .health rfl, (State.lossCounted_frame ..).keeps .health rfl]
  exact ((State.dbump_frame ..).keeps .health rfl).trans ((State.dset_frame ..).keeps .health rfl)

/-- An event has a type other than 0, so that its record is listed. -/
theorem State.event_log {s : State} {type : Nat} (typed : 1 ≤ type) (code subject detail : Nat) :
    (s.event type code subject detail).health.log =
      tput s.health.log s.nextSlot (s.eventOf type code subject detail) := by
  rw [State.event_health]
  refine if_neg fun none => ?_
  have : type = 0 := congrArg Event.type none
  omega

/-! ### Its entries -/

theorem State.dget_recorded_of_ne {s : State} (can : Canonical s) {i j e : Nat} (type code subject detail : Nat)
    (seq : dkey i j e ≠ dkey 0x3000 2 0) (pending : dkey i j e ≠ dkey 0x3000 4 (type - 1)) :
    (s.recorded type code subject detail).dget i j e = s.dget i j e := by
  have can' := (s.withRecord_frame type code subject detail).canonical can
  rw [State.recorded, State.dget_dbump_of_ne ((State.dset_frame ..).canonical can') _ _ pending,
    State.dget_dset_of_ne can' _ seq, State.dget_of_frame (State.withRecord_frame ..) rfl]

/-- What follows the record counts in HEALTH_LOST alone. -/
theorem State.dget_event_of_recorded {s : State} (can : Canonical s) {i j e : Nat} (type code subject detail : Nat)
    (lost : dkey i j e ≠ dkey 0x3000 6 0) :
    (s.event type code subject detail).dget i j e = (s.recorded type code subject detail).dget i j e := by
  rw [State.event_eq, State.dget_of_frame (State.noticed_frame ..) rfl, State.lossCounted]
  split_ifs
  · exact State.dget_dbump_of_ne ((State.recorded_frame ..).canonical can) _ _ lost
  · rfl

/-- An event writes three entries: HEALTH_SEQ, its type's count of HEALTH_PENDING and HEALTH_LOST. -/
theorem State.dget_event_of_ne {s : State} (can : Canonical s) {i j e : Nat} (type code subject detail : Nat)
    (seq : dkey i j e ≠ dkey 0x3000 2 0) (pending : dkey i j e ≠ dkey 0x3000 4 (type - 1))
    (lost : dkey i j e ≠ dkey 0x3000 6 0) : (s.event type code subject detail).dget i j e = s.dget i j e := by
  rw [State.dget_event_of_recorded can _ _ _ _ lost, State.dget_recorded_of_ne can _ _ _ _ seq pending]

theorem State.dget_event_seq {s : State} (can : Canonical s) (type code subject detail : Nat) :
    (s.event type code subject detail).dget 0x3000 2 = s.nextSeq := by
  have can' := (s.withRecord_frame type code subject detail).canonical can
  rw [State.dget_event_of_recorded can _ _ _ _ (by decide), State.recorded,
    State.dget_dbump_of_ne ((State.dset_frame ..).canonical can') _ _ (by unfold dkey; omega), State.dget_dset_same can']

theorem State.dget_event_pending {s : State} (can : Canonical s) {type : Nat} (code subject detail : Nat) (le : type ≤ 11)
    (fits : s.dget 0x3000 4 (type - 1) + 1 < 2 ^ 16) :
    (s.event type code subject detail).dget 0x3000 4 (type - 1) = s.dget 0x3000 4 (type - 1) + 1 := by
  have can' := (s.withRecord_frame type code subject detail).canonical can
  have before : ((s.withRecord type code subject detail).dset 0x3000 2 0 s.nextSeq).dget 0x3000 4 (type - 1) =
      s.dget 0x3000 4 (type - 1) := by
    rw [State.dget_dset_of_ne can' _ (by unfold dkey; omega), State.dget_of_frame (State.withRecord_frame ..) rfl]
  rw [State.dget_event_of_recorded can _ _ _ _ (by unfold dkey; omega), State.recorded,
    State.dget_dbump_same ((State.dset_frame ..).canonical can') (before ▸ fits), before]

/-! ### ALERT_N -/

/-- A pending event of a type that is not masked is among those that hold ALERT_N low (R601). -/
theorem State.unmasked_pos {s : State} {type : Nat} (ge : 1 ≤ type) (le : type ≤ 11) (unmasked : bit (s.dget 0x3000 3) type = false)
    (pending : 0 < s.dget 0x3000 4 (type - 1)) : 0 < s.unmasked := by
  rw [State.unmasked, ← List.sum_eq_foldl_nat]
  refine Nat.lt_of_lt_of_le pending (List.le_sum_of_mem (List.mem_map.mpr ⟨type - 1, List.mem_range.mpr (by omega), ?_⟩))
  rw [Nat.sub_add_cancel ge, unmasked]
  rfl

theorem State.driven_of_frame {g : List Zone} {s t : State} (k : Frame g s t) (out : g.contains .pins = false) :
    t.driven = s.driven := by
  have same : t.pins = s.pins := k.keeps .pins out
  rw [State.driven, same, State.driven]

theorem State.alertLow_of_event {s : State} (can : Canonical s) {type : Nat} (code subject detail : Nat) (ge : 1 ≤ type)
    (le : type ≤ 11) (driven : s.driven = true) (unmasked : bit (s.dget 0x3000 3) type = false)
    (fits : s.dget 0x3000 4 (type - 1) + 1 < 2 ^ 16) : (s.event type code subject detail).alertLow = true := by
  have mask : (s.event type code subject detail).dget 0x3000 3 = s.dget 0x3000 3 :=
    State.dget_event_of_ne can _ _ _ _ (by decide) (by unfold dkey; omega) (by decide)
  have count := State.dget_event_pending can code subject detail le fits
  have low := State.unmasked_pos ge le (mask ▸ unmasked) (count ▸ Nat.succ_pos _)
  simp [State.alertLow, State.driven_of_frame (State.event_frame s type code subject detail) rfl, driven, low]

/-- Settles O12: the record takes its place in the log and leaves every other, its count is more than 0, and Reset Hold holds
ALERT_N low. -/
theorem alertFollowsEvents : Obligations.AlertFollowsEvents := by
  unfold Obligations.AlertFollowsEvents
  refine ⟨fun s type code subject detail can ge le => ?_, fun s hold driven => ?_⟩
  · refine ⟨State.dget_event_seq can .., ?_, fun e ne => ?_,
      fun driven unmasked fits => State.alertLow_of_event can _ _ _ ge le driven unmasked fits, State.event_frame ..⟩
    · rw [State.event_log ge]
      exact tget_tput_same ..
    · rw [State.event_log ge]
      exact tget_tput_of_ne _ _ _ ne
  · simp [State.alertLow, driven, hold]

end Sys2Proof.Machine
end

section
/-! SUPPORT. A host reset (R323, R570, R571) in its stages: the count, the strike at the steps that may still end silently, the
units it clears, and the Rappels and epochs that follow. -/
namespace Sys2Proof.Machine

/-! ### The stages -/

/-- HOST_RESETS counts the reset, unless an earlier one still holds the Host Interface. -/
def State.hostResetCounted (s : State) : State := if s.dev.hifOut then s.dbump 0x3030 7 0 32 else s

/-- The record of the reset: the contexts at work are those whose epochs are to advance, and no end of a context reset that runs
is posted. -/
def State.hostResetMarked (s : State) : State :=
  { s with
    dev := { s.dev with
      hostReset := true, hostSince := s.uptime, hifOut := false, hostWork := (s.dev.hostWork ++ s.working).dedup }
    ctxs := { s.ctxs with resets := s.ctxs.resets.map fun kv => (kv.1, { kv.2 with silent := true }) } }

def State.allStruck (s : State) : State := s.steps.foldl (fun s p => s.strikeStep .silent p) s

/-- A step of a command has launched. -/
def State.runs (s : State) (i : Nat) : Bool := s.steps.any fun p => decide (p.cmd = i) && p.launched

/-- Only launched steps stay in flight, and the Host Interface has its reset state. -/
def State.hostCleared (s : State) : State :=
  { s with
    cmds := s.cmds.filter fun c => s.runs c.id
    steps := s.steps.filter fun p => p.launched
    array := { s.array with loads := [], evictions := [] }
    ctxs := { s.ctxs with copies := [] }
    near := { s.near with nmMap := 0 }
    bulk := { s.bulk with inval := 0, ats := [] }
    hif := s.hif.afterReset }

/-- The state that the Rappels of a host reset start from. -/
def State.hostResetCut (s : State) : State :=
  s.hostResetCounted.hostResetMarked.allStruck.hostCleared.dropAllBinds.endGrant false

def State.rappelSilent (s : State) : State :=
  (s.steps.filter fun p => decide (p.ending = some .silent)).foldl (fun s p => s.rappel p.footprint p.ctx .hostReset) s

theorem State.startHostReset_eq (s : State) : s.startHostReset = s.hostResetCut.rappelSilent.settleHostReset := rfl

theorem State.hostResetCounted_frame (s : State) : Frame [.free, .entries] s s.hostResetCounted :=
  Frame.ite (State.dbump_frame ..) (Frame.refl _ s)

theorem State.hostResetMarked_frame (s : State) : Frame [.dev, .ctxs] s s.hostResetMarked :=
  Frame.set_dev_ctxs _ _ rfl rfl (Frame.refl _ s)

theorem State.allStruck_frame (s : State) : Frame [.steps, .links] s s.allStruck :=
  Frame.foldl _ (fun _ _ => State.strikeStep_frame ..) (Frame.refl _ s)

theorem State.dropEnd_frame (s : State) :
    Frame [.free, .out, .entries, .msix, .serve, .kop, .health] s (s.dropAllBinds.endGrant false) :=
  Frame.step (State.endGrant_frame ..) rfl (Frame.mono (State.dropAllBinds_frame ..) rfl)

theorem State.rappelSilent_frame (s : State) : Frame [.free, .ctxEntries, .array] s s.rappelSilent :=
  Frame.foldl _ (fun _ _ => State.rappel_frame ..) (Frame.refl _ s)

/-! ### The strike leaves the commands whose steps launched -/

theorem State.runs_of_steps {s t : State} (h : t.steps = s.steps) (i : Nat) : t.runs i = s.runs i := by
  rw [State.runs, h, State.runs]

/-- A launched step that stands for every step of its command leaves the commands that run as they are, when its command runs. -/
theorem State.runs_setStep {s : State} {p : Step} (launched : p.launched = true) (runs : s.runs p.cmd = true) (i : Nat) :
    (s.setStep p).runs i = s.runs i := by
  rw [Bool.eq_iff_iff]
  simp only [State.runs, State.setStep, List.any_map, List.any_eq_true, Bool.and_eq_true, decide_eq_true_eq,
    Function.comp_apply] at runs ⊢
  constructor
  · rintro ⟨q, listed, cmd, on⟩
    split_ifs at cmd on with same
    · exact cmd ▸ runs
    · exact ⟨q, listed, cmd, on⟩
  · rintro ⟨q, listed, cmd, on⟩
    refine ⟨q, listed, ?_⟩
    split_ifs with same
    · exact ⟨same ▸ cmd, launched⟩
    · exact ⟨cmd, on⟩

/-- The strike sets a step only after its launch. -/
theorem State.runs_strikeStep {s : State} {e : Ending} {p : Step} (runs : p.launched = true → s.runs p.cmd = true) (i : Nat) :
    (s.strikeStep e p).runs i = s.runs i := by
  have abort : ∀ t : State, ∀ a b c, (t.sendAbort a b c).steps = t.steps := fun _ _ _ _ =>
    (State.sendAbort_frame ..).keeps .steps rfl
  unfold State.strikeStep
  split_ifs with unlaunched past ended silent
  · exact State.runs_of_steps (abort ..) i
  · rfl
  · exact State.runs_setStep (p := { p with ending := some e }) (by simp_all) (runs (by simp_all)) i
  · rfl
  · have on : p.launched = true := by simp_all
    have same := State.runs_of_steps (abort s p.live stDeviceReset 0)
    rw [← same i]
    exact State.runs_setStep (p := { p with ending := some e }) on ((same p.cmd).trans (runs on)) i

theorem State.runs_allStruck (s : State) (i : Nat) : s.allStruck.runs i = s.runs i := by
  have each : ∀ (l : List Step) (t : State), (∀ j, t.runs j = s.runs j) → (∀ p ∈ l, p.launched = true → s.runs p.cmd = true) →
      ∀ j, (l.foldl (fun s p => s.strikeStep .silent p) t).runs j = s.runs j := by
    intro l
    induction l with
    | nil => exact fun t same _ => same
    | cons p l ih =>
      intro t same listed
      refine ih _ (fun j => ?_) fun q hq => listed q (List.mem_cons_of_mem _ hq)
      rw [State.runs_strikeStep (fun on => (same p.cmd).trans (listed p List.mem_cons_self on)), same]
  refine each s.steps s (fun _ => rfl) (fun p listed on => ?_) i
  exact List.any_eq_true.mpr ⟨p, listed, by simp [on]⟩

theorem State.anyLaunched_iff (s : State) : s.steps.any (·.launched) = true ↔ ∃ i, s.runs i = true := by
  simp only [State.runs, List.any_eq_true, Bool.and_eq_true, decide_eq_true_eq]
  exact ⟨fun ⟨p, listed, on⟩ => ⟨p.cmd, p, listed, rfl, on⟩, fun ⟨_, p, listed, _, on⟩ => ⟨p, listed, on⟩⟩

theorem State.anyLaunched_of_runs {s t : State} (h : ∀ i, t.runs i = s.runs i) :
    t.steps.any (·.launched) = s.steps.any (·.launched) := by
  rw [Bool.eq_iff_iff, State.anyLaunched_iff, State.anyLaunched_iff]
  simp only [h]

/-! ### What the later stages leave -/

theorem State.setEpoch_copies (s : State) (c e : Nat) : (s.setEpoch c e).ctxs.copies = s.ctxs.copies := by
  unfold State.setEpoch
  split_ifs
  · exact congrArg Ctxs.copies ((State.cset_frame ..).keeps .ctxs rfl)
  · rfl

/-- An epoch advances with control packets on the links and nothing else of the contexts. -/
theorem State.advanceEpoch_ctxs (s : State) (c : Nat) :
    (s.advanceEpoch c).ctxs = (s.setEpoch c ((s.epochOf c + 1) % 65536)).ctxs :=
  (Frame.foldl (g := [.links]) _ (fun _ _ => State.sendControl_frame ..) (Frame.refl _ _)).keeps .ctxs rfl

theorem State.advanceEpoch_copies (s : State) (c : Nat) : (s.advanceEpoch c).ctxs.copies = s.ctxs.copies := by
  rw [State.advanceEpoch_ctxs, State.setEpoch_copies]

theorem State.advanceEpochs_copies (l : List Nat) (s : State) :
    (l.foldl State.advanceEpoch s).ctxs.copies = s.ctxs.copies := by
  induction l generalizing s with
  | nil => rfl
  | cons c l ih => rw [List.foldl_cons, ih, State.advanceEpoch_copies]

theorem State.settleHostReset_copies (s : State) : s.settleHostReset.ctxs.copies = s.ctxs.copies := by
  unfold State.settleHostReset
  split_ifs
  · rfl
  · exact State.advanceEpochs_copies ..

theorem State.settleHostReset_dev {s : State} (reset : s.dev.hostReset = true) :
    s.settleHostReset.dev =
      { s.dev with hostWork := if s.steps.any (·.launched) || s.stillFor .hostReset then s.dev.hostWork else [] } := by
  have dev : (s.dev.hostWork.foldl State.advanceEpoch s).dev = s.dev :=
    (Frame.foldl (g := [.ctxEntries, .ctxs, .links]) _ (fun _ _ => State.advanceEpoch_frame ..) (Frame.refl _ s)).keeps .dev rfl
  unfold State.settleHostReset
  rw [reset, Bool.not_true, Bool.false_or]
  split_ifs
  · rfl
  · rfl

theorem State.rappel_loads (s : State) (fp : BitVec 64) (c : Nat) (why : Purpose) :
    (s.rappel fp c why).array.loads = s.array.loads := by
  unfold State.rappel
  dsimp only
  split_ifs
  · rfl
  · rw [show _ = _ from (State.cbump_frame _ c 7 2 64 1).keeps .array rfl]

theorem State.rappelSilent_loads (s : State) : s.rappelSilent.array.loads = s.array.loads := by
  have each : ∀ (l : List Step) (t : State),
      (l.foldl (fun s p => s.rappel p.footprint p.ctx .hostReset) t).array.loads = t.array.loads := by
    intro l
    induction l with
    | nil => exact fun _ => rfl
    | cons p l ih => exact fun t => (ih _).trans (State.rappel_loads ..)
  exact each ..

/-- A role without its grant. -/
def State.ungranted (s : State) (management : Bool) : State :=
  { s with kop :=
    if management then { s.kop with roleMgt := { s.kop.roleMgt with grantUntil := none } }
    else { s.kop with rolePf := { s.kop.rolePf with grantUntil := none } } }

theorem State.endGrant_of_granted {s : State} {management : Bool}
    (granted : (if management then s.kop.roleMgt else s.kop.rolePf).grantUntil.isSome = true) :
    s.endGrant management = (s.ungranted management).event 9 2 (if management then 2 else 0) := by
  cases management <;> exact if_pos granted

theorem State.endGrant_of_not_granted {s : State} {management : Bool}
    (free : ¬(if management then s.kop.roleMgt else s.kop.rolePf).grantUntil.isSome = true) :
    s.endGrant management = s.ungranted management := by
  cases management <;> exact if_neg free

theorem State.ungranted_frame (s : State) (management : Bool) : Frame [.kop] s (s.ungranted management) :=
  Frame.set_kop _ rfl (Frame.refl _ s)

theorem State.endGrant_kop (s : State) (management : Bool) : (s.endGrant management).kop = (s.ungranted management).kop := by
  by_cases granted : (if management then s.kop.roleMgt else s.kop.rolePf).grantUntil.isSome = true
  · rw [State.endGrant_of_granted granted]
    exact (State.event_frame ..).keeps .kop rfl
  · rw [State.endGrant_of_not_granted granted]

/-- The event at the end of a grant leaves the entries that no event writes (`dget_event_of_ne`). -/
theorem State.dget_endGrant_of_ne {s : State} (can : Canonical s) {i j e : Nat} (management : Bool)
    (seq : dkey i j e ≠ dkey 0x3000 2 0) (pending : dkey i j e ≠ dkey 0x3000 4 8) (lost : dkey i j e ≠ dkey 0x3000 6 0) :
    (s.endGrant management).dget i j e = s.dget i j e := by
  have can' := (s.ungranted_frame management).canonical can
  have same := State.dget_of_frame (s.ungranted_frame management) rfl i j e
  by_cases granted : (if management then s.kop.roleMgt else s.kop.rolePf).grantUntil.isSome = true
  · rw [State.endGrant_of_granted granted, State.dget_event_of_ne can' _ _ _ _ seq pending lost, same]
  · rw [State.endGrant_of_not_granted granted, same]

end Sys2Proof.Machine
end

section
/-! SUPPORT. What a host reset leaves (R68, R570, R571, R596), from its stages. -/
namespace Sys2Proof.Machine

/-- The Host Interface, NM_MAP and BKI_INVAL after the clearing, and what is in flight. -/
theorem State.hostResetCut_frame (s : State) :
    Frame [.free, .out, .entries, .msix, .serve, .kop, .health] s.hostResetCounted.hostResetMarked.allStruck.hostCleared
      s.hostResetCut := State.dropEnd_frame _

theorem State.afterCut_frame (s : State) :
    Frame [.free, .dev, .ctxEntries, .array, .ctxs, .links] s.hostResetCut s.startHostReset :=
  Frame.step (State.settleHostReset_frame ..) rfl (Frame.mono (State.rappelSilent_frame ..) rfl)

theorem State.afterClear_frame (s : State) :
    Frame [.free, .out, .dev, .entries, .ctxEntries, .msix, .array, .ctxs, .serve, .links, .kop, .health]
      s.hostResetCounted.hostResetMarked.allStruck.hostCleared s.startHostReset :=
  Frame.step s.afterCut_frame rfl (Frame.mono s.hostResetCut_frame rfl)

/-- The stages before the clearing. -/
theorem State.beforeClear_frame (s : State) :
    Frame [.free, .dev, .entries, .steps, .ctxs, .links] s s.hostResetCounted.hostResetMarked.allStruck :=
  Frame.step (State.allStruck_frame ..) rfl
    (Frame.step (State.hostResetMarked_frame ..) rfl (Frame.mono (State.hostResetCounted_frame ..) rfl))

theorem State.hostCleared_frame (s : State) :
    Frame [.near, .bulk, .hif, .rings, .loops, .msix, .pages, .cmds, .steps, .array, .ctxs] s s.hostCleared :=
  Frame.set_near_bulk_hif_cmds_steps_array_ctxs _ _ _ _ _ _ _ rfl rfl rfl rfl id (.inr rfl) (.inl rfl) id (.inr rfl)
    (.inl rfl) (.inl rfl) (.inl rfl) (.inl rfl) (.inl rfl) (.inl rfl) (Frame.refl _ s)

theorem State.ready_of_frame {g : List Zone} {s t : State} (k : Frame g s t) (out : g.contains .hif = false) :
    t.hif.ready = s.hif.ready := by
  have same := congrArg Hif.ready (k.keeps .hif out)
  exact same

theorem State.linkUp_of_frame {g : List Zone} {s t : State} (k : Frame g s t) (out : g.contains .hif = false) :
    t.hif.linkUp = s.hif.linkUp := by
  have same := congrArg Hif.linkUp (k.keeps .hif out)
  exact same

theorem State.hostCleared_ready (s : State) : s.hostCleared.hif.ready = false := rfl

theorem State.hostCleared_linkUp (s : State) : s.hostCleared.hif.linkUp = false := rfl

theorem State.startHostReset_hif (s : State) :
    s.startHostReset.hif.rings = [] ∧ s.startHostReset.hif.pages = [] ∧ s.startHostReset.hif.ready = false ∧
      s.startHostReset.hif.linkUp = false := by
  have k := s.afterClear_frame
  exact ⟨k.keeps .rings rfl, k.keeps .pages rfl, (State.ready_of_frame k rfl).trans (State.hostCleared_ready _),
    (State.linkUp_of_frame k rfl).trans (State.hostCleared_linkUp _)⟩

theorem State.startHostReset_maps (s : State) :
    s.startHostReset.near.nmMap = 0 ∧ s.startHostReset.bulk.inval = 0 := by
  have k := s.afterClear_frame
  rw [State.near_of_frame k rfl rfl, State.bulk_of_frame k rfl rfl]
  exact ⟨rfl, rfl⟩

theorem State.startHostReset_grantPf (s : State) : s.startHostReset.kop.rolePf.grantUntil = none := by
  rw [show _ = _ from s.afterCut_frame.keeps .kop rfl, State.hostResetCut, State.endGrant_kop]
  rfl

theorem State.startHostReset_loads (s : State) : s.startHostReset.array.loads = [] := by
  rw [State.startHostReset_eq, show _ = _ from (State.settleHostReset_frame ..).keeps .array rfl, State.rappelSilent_loads]
  exact congrArg Array.loads (s.hostResetCut_frame.keeps .array rfl)

theorem State.startHostReset_copies (s : State) : s.startHostReset.ctxs.copies = [] := by
  rw [State.startHostReset_eq, State.settleHostReset_copies]
  exact congrArg Ctxs.copies (((State.rappelSilent_frame _).keeps .ctxs rfl).trans (s.hostResetCut_frame.keeps .ctxs rfl))

/-- Before the clearing the same commands run as before the reset. -/
theorem State.runs_beforeClear (s : State) (i : Nat) : s.hostResetCounted.hostResetMarked.allStruck.runs i = s.runs i := by
  rw [State.runs_allStruck]
  exact State.runs_of_steps ((s.hostResetCounted_frame.keeps .steps rfl)) i

theorem State.startHostReset_cmds (s : State) : s.startHostReset.cmds = s.cmds.filter fun c => s.runs c.id := by
  have cmds := s.beforeClear_frame.keeps .cmds rfl
  rw [(s.afterClear_frame.keeps .cmds rfl).1, State.hostCleared, cmds.1]
  simp only [State.runs_beforeClear]

/-- HOST_RESETS counts the reset, and no event writes the entry. -/
theorem State.startHostReset_count {s : State} (can : Canonical s) (out : s.dev.hifOut = true)
    (fits : s.dget 0x3030 7 + 1 < 2 ^ 32) : s.startHostReset.dget 0x3030 7 = s.dget 0x3030 7 + 1 := by
  have counted : s.hostResetCounted.dget 0x3030 7 = s.dget 0x3030 7 + 1 := by
    rw [State.hostResetCounted, if_pos out, State.dget_dbump_same can fits]
  have bound : Frame [.dev, .near, .bulk, .hif, .rings, .loops, .msix, .pages, .cmds, .steps, .array, .ctxs, .serve, .links]
      s.hostResetCounted s.hostResetCounted.hostResetMarked.allStruck.hostCleared.dropAllBinds :=
    Frame.step (State.dropAllBinds_frame _) rfl (Frame.step (State.hostCleared_frame _) rfl
      (Frame.step (State.allStruck_frame _) rfl (Frame.mono (State.hostResetMarked_frame _) rfl)))
  rw [State.dget_of_frame s.afterCut_frame rfl, State.hostResetCut,
    State.dget_endGrant_of_ne (bound.canonical (s.hostResetCounted_frame.canonical can)) _ (by decide) (by decide) (by decide),
    State.dget_of_frame bound rfl, counted]

/-! ### The record of the reset -/

theorem State.working_of {s t : State} (cmds : t.cmds = s.cmds) (steps : t.steps = s.steps) : t.working = s.working := by
  rw [State.working, cmds, steps, State.working]

theorem State.hostResetMarked_dev (s : State) :
    s.hostResetCounted.hostResetMarked.dev =
      { s.dev with
        hostReset := true, hostSince := s.uptime, hifOut := false, hostWork := (s.dev.hostWork ++ s.working).dedup } := by
  have k := s.hostResetCounted_frame
  have dev : s.hostResetCounted.dev = s.dev := k.keeps .dev rfl
  have time : s.hostResetCounted.uptime = s.uptime := k.keeps .uptime rfl
  have work := State.working_of (k.keeps .cmds rfl).1 (k.keeps .steps rfl)
  rw [State.hostResetMarked]
  dsimp only
  rw [dev, time, work]

theorem State.stillFor_of_array {s t : State} (h : t.array = s.array) (why : Purpose) : t.stillFor why = s.stillFor why := by
  rw [State.stillFor, h, State.stillFor]

/-- Whether a host reset waits for steps or Rappels is settled by what launched and what ran before it: without a launched step
no Rappel begins. -/
theorem State.waits_rappelSilent (s : State) :
    (s.hostResetCut.rappelSilent.steps.any (·.launched) || s.hostResetCut.rappelSilent.stillFor .hostReset) =
      (s.steps.any (·.launched) || s.stillFor .hostReset) := by
  have steps : s.hostResetCut.steps = s.hostResetCounted.hostResetMarked.allStruck.steps.filter (·.launched) :=
    s.hostResetCut_frame.keeps .steps rfl
  have launched : s.hostResetCounted.hostResetMarked.allStruck.steps.any (·.launched) = s.steps.any (·.launched) :=
    State.anyLaunched_of_runs s.runs_beforeClear
  rw [show _ = _ from (State.rappelSilent_frame _).keeps .steps rfl, steps, List.any_filter]
  simp only [Bool.and_self, launched]
  by_cases some : s.steps.any (·.launched) = true
  · rw [some, Bool.true_or, Bool.true_or]
  · have none : s.hostResetCut.steps = [] := by
      rw [steps, List.filter_eq_nil_iff]
      simpa using launched.trans (Bool.eq_false_of_not_eq_true some)
    have idle : s.hostResetCut.rappelSilent = s.hostResetCut := by
      rw [State.rappelSilent, none, List.filter_nil, List.foldl_nil]
    have rappels : s.hostResetCut.array.rappels = s.array.rappels := by
      rw [show _ = _ from s.hostResetCut_frame.keeps .array rfl]
      show s.hostResetCounted.hostResetMarked.allStruck.array.rappels = _
      rw [show _ = _ from s.beforeClear_frame.keeps .array rfl]
    rw [idle, State.stillFor, rappels, State.stillFor]

theorem State.startHostReset_dev (s : State) :
    s.startHostReset.dev =
      { s.dev with
        hostReset := true, hostSince := s.uptime, hifOut := false
        hostWork := if s.steps.any (·.launched) || s.stillFor .hostReset then (s.dev.hostWork ++ s.working).dedup else [] } := by
  have dev : s.hostResetCut.rappelSilent.dev = s.hostResetCounted.hostResetMarked.dev :=
    ((State.rappelSilent_frame _).keeps .dev rfl).trans
      ((s.hostResetCut_frame.keeps .dev rfl).trans ((State.allStruck_frame _).keeps .dev rfl))
  rw [State.hostResetMarked_dev] at dev
  rw [State.startHostReset_eq, State.settleHostReset_dev (by rw [dev]), State.waits_rappelSilent, dev]

end Sys2Proof.Machine
end

section
/-! SUPPORT. Work that a link which is down shelters host memory from: a context reset, and the regions given back when a cluster's
self-test is abandoned. The spare channels of the Bulk stacks stay what they were. -/
namespace Sys2Proof.Machine

/-- The link is as it was, host memory is as it was when the link is down, and so are the spare channels of the stacks. -/
structure Sheltered (s t : State) : Prop where
  link : t.hif.linkUp = s.hif.linkUp
  host : s.hif.linkUp = false → t.host = s.host
  sparing : t.bulk.sparing = s.bulk.sparing

namespace Sheltered

theorem refl (s : State) : Sheltered s s := ⟨rfl, fun _ => rfl, rfl⟩

theorem trans {r s t : State} (h : Sheltered r s) (k : Sheltered s t) : Sheltered r t :=
  ⟨k.link.trans h.link, fun down => (k.host (h.link.trans down)).trans (h.host down), k.sparing.trans h.sparing⟩

theorem of_frame {g : List Zone} {s t : State} (k : Frame g s t) (hif : g.contains .hif = false) (host : g.contains .host = false)
    (bulk : g.contains .bulk = false) : Sheltered s t := by
  have same := congrArg Bulk.sparing (k.keeps .bulk bulk)
  exact ⟨State.linkUp_of_frame k hif, fun _ => (k.keeps .host host).1, same⟩

/-- What follows by a law of the frame. -/
theorem step {g : List Zone} {r s t : State} (h : Sheltered r s) (k : Frame g s t) (hif : g.contains .hif = false)
    (host : g.contains .host = false) (bulk : g.contains .bulk = false) : Sheltered r t := h.trans (.of_frame k hif host bulk)

theorem of_bulk (s : State) {b : Bulk} (same : b.sparing = s.bulk.sparing) : Sheltered s { s with bulk := b } :=
  ⟨rfl, fun _ => rfl, same⟩

theorem foldl {α : Type} {f : State → α → State} (each : ∀ s x, Sheltered s (f s x)) (l : List α) (s : State) :
    Sheltered s (l.foldl f s) := by
  induction l generalizing s with
  | nil => exact refl s
  | cons x l ih => exact (each s x).trans (ih _)

end Sheltered

/-! ### The stages of a context reset (R575) -/

/-- The context leaves the stalls of a hang search that waits. -/
def State.unstalled (s : State) (c : Nat) : State :=
  let mine := fun (x : Nat × Nat × List Nat) => (s.step? x.1).any fun p => decide (p.ctx = c)
  if s.ctxs.stalls.any mine then
    { s with ctxs := { s.ctxs with stalls := s.ctxs.stalls.filter fun x => !mine x } }.unhold c
  else s

/-- The context is no suspect any more. -/
def State.unsuspected (s : State) (c : Nat) (h : Hang) : State :=
  (s.mapHang fun h' => { h' with
    suspects := h'.suspects.filter fun d => decide (d ≠ c)
    trial := if decide (h.suspects.head? = some c) && h.trial.isSome then none else h'.trial }).unhold c

theorem State.leaveHang_eq (s : State) (c : Nat) :
    s.leaveHang c = match (s.unstalled c).ctxs.hang with
      | some h =>
        if h.suspects.contains c then
          if h.draining || !(decide (h.suspects.head? = some c) && h.trial.isSome) then (s.unstalled c).unsuspected c h
          else ((s.unstalled c).unsuspected c h).nextTrial (h.suspects.length + 1)
        else s.unstalled c
      | none => s.unstalled c := rfl

/-- The record of the reset, its count, its cause and its time. -/
def State.resetMarked (s : State) (c cause : Nat) : State :=
  ((({ s with ctxs := { s.ctxs with
      resets := tput s.ctxs.resets c { phase := 2, cause := cause, start := s.uptime, groupWait := s.awaitsGroup c } } } : State).cbump
    c 4 2 32).cset c 4 3 cause).cset c 4 4 s.uptime

/-- The steps of the context are abandoned. -/
def State.abandonAll (s : State) (c : Nat) : State :=
  (s.steps.filter fun p => decide (p.ctx = c)).foldl State.abandonForReset s

/-- The context's work ends. -/
def State.workEnded (s : State) (c : Nat) : State :=
  (((s.stopWork c).finishAll (s.resetEnds c) stReset).resetRappels c).settleReset c

theorem State.startReset_eq (s : State) (c cause : Nat) :
    s.startReset c cause = if 255 < c ∨ s.fenced c then s
      else ((((s.resetMarked c cause).postEvent c 2 0 []).leaveHang c).abandonAll c).workEnded c := rfl

theorem State.resetMarked_frame (s : State) (c cause : Nat) : Frame [.free, .ctxEntries, .ctxs] s (s.resetMarked c cause) :=
  Frame.step (State.cset_frame ..) rfl (Frame.step (State.cset_frame ..) rfl (Frame.step (State.cbump_frame ..) rfl
    (Frame.set_ctxs _ rfl (Frame.refl _ s))))

theorem State.abandonAll_frame (s : State) (c : Nat) : Frame [.steps, .links] s (s.abandonAll c) :=
  Frame.foldl _ (fun _ _ => State.abandonForReset_frame ..) (Frame.refl _ s)

theorem State.unstalled_frame (s : State) (c : Nat) : Frame [.ctxEntries, .ctxs] s (s.unstalled c) :=
  Frame.ite (Frame.step (State.unhold_frame ..) rfl (Frame.set_ctxs _ rfl (Frame.refl _ s))) (Frame.refl _ s)

theorem State.unsuspected_frame (s : State) (c : Nat) (h : Hang) : Frame [.ctxEntries, .ctxs] s (s.unsuspected c h) :=
  Frame.step (State.unhold_frame ..) rfl (Frame.mono (State.mapHang_frame ..) rfl)

/-! ### Accesses -/

theorem State.touchBulk_sheltered (s : State) (stack : Nat) : Sheltered s (s.touchBulk stack) := by
  unfold State.touchBulk
  dsimp only
  split_ifs
  · refine Sheltered.step ?_ (State.dset_frame ..) rfl rfl rfl
    exact .of_bulk s rfl
  · exact .of_bulk s rfl

theorem State.translateBulk_sheltered (s : State) (unit c va : Nat) : Sheltered s (s.translateBulk unit c va) := by
  have walk : Sheltered s (s.touchWalk c va) := Sheltered.foldl (fun _ _ => State.touchBulk_sheltered ..) _ s
  unfold State.translateBulk
  dsimp only
  split
  · split_ifs
    · exact .refl s
    · exact .of_bulk s rfl
    · exact walk.trans (.of_bulk _ rfl)
  · exact walk

theorem State.cachePage_sheltered (s : State) (unit c va : Nat) : Sheltered s (s.cachePage unit c va) := by
  unfold State.cachePage
  split
  · exact (State.translateBulk_sheltered ..).trans (State.touchBulk_sheltered ..)
  · exact State.translateBulk_sheltered ..

theorem State.cacheNear_sheltered (s : State) (unit c va : Nat) : Sheltered s (s.cacheNear unit c va) := by
  unfold State.cacheNear
  split
  · exact (Sheltered.of_frame (State.touchNear_frame ..) rfl rfl rfl).trans (.of_bulk _ rfl)
  · exact .of_bulk s rfl

theorem State.cacheHost_sheltered (s : State) (c va : Nat) : Sheltered s (s.cacheHost c va) := by
  unfold State.cacheHost
  dsimp only
  split
  · exact .of_bulk s rfl
  · exact .of_bulk s rfl
  · exact .refl s

theorem State.accessPage_sheltered (s : State) (unit c va : Nat) : Sheltered s (s.accessPage unit c va) := by
  unfold State.accessPage
  split
  · exact State.cacheNear_sheltered ..
  · exact State.cachePage_sheltered ..
  · exact State.cacheHost_sheltered ..
  · exact .refl s

theorem State.accessed_sheltered (s : State) (unit c va n : Nat) : Sheltered s (s.accessed unit c va n) :=
  Sheltered.foldl (fun _ _ => State.accessPage_sheltered ..) _ s

/-! ### Writes -/

/-- No Near address leads to host memory. -/
theorem State.nearPlace_ne_host (s : State) (c va a : Nat) (w : Bool) : s.nearPlace c va w ≠ .ok (.host a) := by
  unfold State.nearPlace
  split
  · simp
  · split_ifs <;> simp

theorem State.linkUp_of_hostPlace {s : State} {c va : Nat} {w : Bool} {p : Place} (h : s.hostPlace c va w = .ok p) :
    s.hif.linkUp = true := by
  by_contra down
  rw [State.hostPlace] at h
  simp [down] at h

/-- An address leads to host memory only while the link is up. -/
theorem State.linkUp_of_place {s : State} {c va a : Nat} {w : Bool} (h : s.place c va w = .ok (.host a)) :
    s.hif.linkUp = true := by
  unfold State.place at h
  split at h
  · exact absurd h (s.nearPlace_ne_host c va a w)
  · split at h <;> simp at h
  · exact State.linkUp_of_hostPlace h
  · simp at h

theorem State.placeWrite_sheltered {s : State} (unit c : Nat) (who : Option Nat) {va : Nat} (va0 n : Nat) (b : Byte) {p : Place}
    (h : s.place c va true = .ok p) : Sheltered s (s.placeWrite unit c who va va0 n b p) := by
  cases p with
  | near a => exact (Sheltered.of_frame (State.nearWrite_frame ..) rfl rfl rfl).trans (State.cacheNear_sheltered ..)
  | bulk a =>
    have wrote : Sheltered s (s.bulkWrite who (s.declares who va) (coversLine 64 va va0 n) a b) := .of_bulk s rfl
    exact wrote.trans (State.cachePage_sheltered ..)
  | host a =>
    have up := State.linkUp_of_place h
    have wrote : Sheltered s { s with host := memWrite s.host a b, hostUncommitted := noteWriter s.hostUncommitted who a } :=
      ⟨rfl, fun down => absurd (up.symm.trans down) Bool.noConfusion, rfl⟩
    exact wrote.trans (State.cacheHost_sheltered ..)
  | remote d a => exact .refl s

theorem State.writeFrom_sheltered (s : State) (unit c : Nat) (who : Option Nat) (va0 n va : Nat) (bs : Bytes) :
    Sheltered s (s.writeFrom unit c who va0 n va bs).1 := by
  induction bs generalizing s va with
  | nil => exact .refl s
  | cons b bs ih =>
    rw [State.writeFrom]
    split
    · next p placed => exact (State.placeWrite_sheltered unit c who va0 n b placed).trans (ih _ _)
    · exact .refl s
    · exact .refl s

theorem State.writes_sheltered (s : State) (c : Nat) (who : Option Nat) (va : Nat) (bs : Bytes) :
    Sheltered s (s.writes c who va bs).1 := State.writeFrom_sheltered ..

/-! ### Completions -/

theorem State.postEvent_sheltered (s : State) (c type ring : Nat) (tail : Bytes) : Sheltered s (s.postEvent c type ring tail) := by
  unfold State.postEvent
  dsimp only
  split
  · exact .of_frame (State.cbump_frame ..) rfl rfl rfl
  · have k := State.writes_sheltered s c none ((s.page c).evqBase.toNat + (s.page c).evqTail.toNat * 64)
      (eventBytes type (b2n (s.page c).evqPhase) s.uptime ring tail)
    split
    · exact (Sheltered.of_frame (State.setPage_frame ..) rfl rfl rfl).step (State.cbump_frame ..) rfl rfl rfl
    · next t wrote =>
      rw [wrote] at k
      exact (k.step (State.setPage_frame ..) rfl rfl rfl).step (State.interrupt_frame ..) rfl rfl rfl

/-- The entry of the completion queue is counted, and its vector gives notice (R355). -/
def State.completionCounted (s : State) (g : Nat) (r : Ring) (c status fn vector : Nat) (quiet : Bool) : State :=
  let s := (((s.setRing g r).perturbed 7 g 0 c true).1).cbump c 11 1 64
  let s := if status = 0 then s else s.cbump c 11 2 32
  if quiet then s else s.interrupt fn vector

theorem State.completionCounted_frame (s : State) (g : Nat) (r : Ring) (c status fn vector : Nat) (quiet : Bool) :
    Frame [.free, .out, .entries, .ctxEntries, .rings, .msix, .health] s
      (s.completionCounted g r c status fn vector quiet) := by
  have counted : Frame [.free, .out, .entries, .ctxEntries, .rings, .msix, .health] s
      ((((s.setRing g r).perturbed 7 g 0 c true).1).cbump c 11 1 64) :=
    Frame.step (State.cbump_frame ..) rfl (Frame.step (State.perturbed_frame ..) rfl (Frame.mono (State.setRing_frame ..) rfl))
  have ended := Frame.ite (p := status = 0) counted (Frame.step (State.cbump_frame _ c 11 2 32 1) rfl counted)
  exact Frame.ite ended (Frame.step (State.interrupt_frame ..) rfl ended)

theorem State.writeCompletion_sheltered (s : State) (g c tag status flags replays dropped op value : Nat) (quiet : Bool) :
    Sheltered s (s.writeCompletion g c tag status flags replays dropped op value quiet) := by
  unfold State.writeCompletion
  dsimp only
  split
  · exact .refl s
  · have k := State.writes_sheltered s c none ((s.ring g).cqBase.toNat + (s.ring g).cqTail * 16)
      (completionBytes tag status (b2n (s.ring g).cqPhase + flags) replays dropped op value)
    split
    · refine Sheltered.trans ?_ (State.postEvent_sheltered ..)
      refine Sheltered.step ?_ (State.reportAer_frame ..) rfl rfl rfl
      exact (Sheltered.of_frame (State.fresh_frame s) rfl rfl rfl).step (State.setRing_frame ..) rfl rfl rfl
    · next t wrote =>
      rw [wrote] at k
      exact k.step (State.completionCounted_frame ..) rfl rfl rfl

theorem State.finish_sheltered (s : State) (c : Cmd) (status value : Nat) : Sheltered s (s.finish c status value) :=
  (State.writeCompletion_sheltered ..).step (State.dropCmd_frame ..) rfl rfl rfl

theorem State.finishAll_sheltered (s : State) (ds : List Cmd) (status : Nat) : Sheltered s (s.finishAll ds status) :=
  Sheltered.foldl (fun _ _ => State.finish_sheltered ..) ds s

/-! ### Switches and hang searches -/

theorem State.dropPoolEntries_sheltered (s : State) (p c : Nat) : Sheltered s (s.dropPoolEntries p c) := .of_bulk s rfl

/-- The record and the counts of a switch of a pool, before the Rappels of the context that leaves. -/
def State.switchCounted (s : State) (p w : Nat) : State :=
  let mark := fun (q : Step) =>
    if decide (some q.ctx = s.holder p) && !q.launched && decide (s.poolOfFootprint q.footprint = some p) &&
      q.grantSince.isNone then { q with grantSince := some s.uptime } else q
  let t := { s with
    ctxs := { s.ctxs with switches := tput s.ctxs.switches p ⟨s.holder p, w, s.uptime⟩ }
    steps := s.steps.map mark }
  ((t.dset 0x2300 4 p w).dbump 0x2300 5 p 32).cbump w 2 7 32

/-- The Rappels of the routes of a context that leaves a pool. -/
def State.rappelOutgoing (s : State) (p o : Nat) : State :=
  (s.array.routes.filter fun r => !r.parked && decide (r.ctx = o) &&
    decide (s.poolOfFootprint r.footprint = some p)).foldl (fun s r => s.rappel r.footprint o (.switch p)) (s.dropPoolEntries p o)

theorem State.startSwitch_eq (s : State) (p w : Nat) :
    s.startSwitch p w = match s.holder p with
      | none => (s.switchCounted p w).dropPoolEntries p w
      | some o => ((s.switchCounted p w).dropPoolEntries p w).rappelOutgoing p o := rfl

theorem State.switchCounted_frame (s : State) (p w : Nat) :
    Frame [.free, .entries, .ctxEntries, .steps, .ctxs] s (s.switchCounted p w) :=
  Frame.step (State.cbump_frame ..) rfl (Frame.step (State.dbump_frame ..) rfl (Frame.step (State.dset_frame ..) rfl
    (Frame.set_steps_ctxs _ _ rfl rfl (Frame.refl _ s))))

theorem State.rappelOutgoing_sheltered (s : State) (p o : Nat) : Sheltered s (s.rappelOutgoing p o) :=
  (State.dropPoolEntries_sheltered ..).trans (Sheltered.foldl (fun _ _ => .of_frame (State.rappel_frame ..) rfl rfl rfl) _ _)

theorem State.startSwitch_sheltered (s : State) (p w : Nat) : Sheltered s (s.startSwitch p w) := by
  have begun := (Sheltered.of_frame (s.switchCounted_frame p w) rfl rfl rfl).trans (State.dropPoolEntries_sheltered _ p w)
  rw [State.startSwitch_eq]
  split
  · exact begun
  · exact begun.trans (State.rappelOutgoing_sheltered ..)

theorem State.grantDecision_sheltered (s : State) (p : Nat) : Sheltered s (s.grantDecision p) := by
  unfold State.grantDecision
  split
  · exact .refl s
  · split
    · exact State.startSwitch_sheltered ..
    · exact .refl s

theorem State.decideGrantOf_sheltered (s : State) (c : Nat) : Sheltered s (s.decideGrantOf c) := by
  unfold State.decideGrantOf
  split
  · exact State.grantDecision_sheltered ..
  · exact .refl s

theorem State.releaseSuspects_sheltered (s : State) : Sheltered s s.releaseSuspects := by
  have freed : Frame [.ctxEntries, .ctxs] s
      (((s.ctxs.held.map (·.1)).filter fun c => !s.searchAwaited c).foldl State.unhold
        { s with ctxs := { s.ctxs with hang := none } }) :=
    Frame.foldl _ (fun _ _ => State.unhold_frame ..) (Frame.set_ctxs _ rfl (Frame.refl _ s))
  exact (Sheltered.of_frame freed rfl rfl rfl).trans (Sheltered.foldl (fun _ _ => State.decideGrantOf_sheltered ..) _ _)

theorem State.transientHang_sheltered (s : State) (h : Hang) : Sheltered s (s.transientHang h) := by
  have noted : Sheltered s { (s.dbump 0x3031 4 0 32).releaseSuspects with
      ctxs := { (s.dbump 0x3031 4 0 32).releaseSuspects.ctxs with
        transient := tput (s.dbump 0x3031 4 0 32).releaseSuspects.ctxs.transient (h.core / 16)
          (s.dbump 0x3031 4 0 32).releaseSuspects.uptime } } :=
    ((Sheltered.of_frame (State.dbump_frame ..) rfl rfl rfl).trans (State.releaseSuspects_sheltered _)).step
      (Frame.set_ctxs (g := [.ctxs]) _ rfl (Frame.refl _ _)) rfl rfl rfl
  unfold State.transientHang
  dsimp only
  split
  · exact noted.step (State.isolate_frame ..) rfl rfl rfl
  · exact noted

theorem State.nextTrial_sheltered (s : State) (n : Nat) : Sheltered s (s.nextTrial n) := by
  induction n generalizing s with
  | zero => exact .refl s
  | succ n ih =>
    rw [State.nextTrial]
    split
    · exact .refl s
    · split
      · exact State.transientHang_sheltered ..
      · split
        · exact (Sheltered.of_frame (State.mapHang_frame ..) rfl rfl rfl).trans (ih _)
        · exact ((Sheltered.of_frame (State.unhold_frame ..) rfl rfl rfl).step (State.mapHang_frame ..) rfl rfl rfl).trans
            (State.decideGrantOf_sheltered ..)

theorem State.leaveHang_sheltered (s : State) (c : Nat) : Sheltered s (s.leaveHang c) := by
  have k := Sheltered.of_frame (s.unstalled_frame c) rfl rfl rfl
  rw [State.leaveHang_eq]
  split
  · next h _ =>
    have left := k.step (State.unsuspected_frame _ c h) rfl rfl rfl
    split
    · split
      · exact left
      · exact left.trans (State.nextTrial_sheltered ..)
    · exact k
  · exact k

/-! ### A context reset -/

theorem State.startReset_sheltered (s : State) (c cause : Nat) : Sheltered s (s.startReset c cause) := by
  rw [State.startReset_eq]
  split
  · exact .refl s
  · have marked := Sheltered.of_frame (s.resetMarked_frame c cause) rfl rfl rfl
    have left := (marked.trans (State.postEvent_sheltered _ c 2 0 [])).trans (State.leaveHang_sheltered _ c)
    have stopped := (left.step (State.abandonAll_frame _ c) rfl rfl rfl).step (State.stopWork_frame _ c) rfl rfl rfl
    exact ((stopped.trans (State.finishAll_sheltered ..)).step (State.resetRappels_frame ..) rfl rfl rfl).step
      (State.settleReset_frame ..) rfl rfl rfl

/-! ### Regions given back -/

theorem State.giveRegion_sheltered (s : State) (c p : Nat) (x : Nat × Nat) : Sheltered s (s.giveRegion c p x).1 := by
  unfold State.giveRegion
  split
  · exact ((State.accessed_sheltered ..).trans (State.accessed_sheltered ..)).step (State.restored_frame ..) rfl rfl rfl
  · exact .of_frame (State.zeroRegion_frame ..) rfl rfl rfl

theorem State.unstrand_sheltered (s : State) (p : Nat) (x : Nat × Nat) : Sheltered s (s.unstrand p x) := by
  unfold State.unstrand
  split
  · exact .refl s
  · have taken : Sheltered s { s with near := { s.near with stranded := terase s.near.stranded x.1 } } :=
      ⟨rfl, fun _ => rfl, rfl⟩
    dsimp only
    split
    · exact taken.step (State.zeroRegion_frame ..) rfl rfl rfl
    · next h _ =>
      have given := taken.trans (State.giveRegion_sheltered _ h p x)
      split
      · exact taken
      · split
        · next t back =>
          rw [back] at given
          exact given
        · next t a back =>
          rw [back] at given
          exact ((given.step (State.zeroRegion_frame ..) rfl rfl rfl).step (State.event_frame ..) rfl rfl rfl).trans
            (State.startReset_sheltered ..)

theorem State.unstrandAll_sheltered (s : State) (cl : Nat) : Sheltered s (s.unstrandAll cl) := by
  unfold State.unstrandAll
  split
  · exact .refl s
  · exact Sheltered.foldl (fun _ _ => State.unstrand_sheltered ..) _ s

/-- The status of a self-test of a cluster that is abandoned. -/
def State.testEnded (s : State) (cl : Nat) : State :=
  ({ s with health := { s.health with testing := none } } : State).dset 0x3020 2 0 (1 + cl * 2 ^ 8 + 3 * 2 ^ 16 + 0xFF * 2 ^ 24)

theorem State.testEnded_frame (s : State) (cl : Nat) : Frame [.entries, .health] s (s.testEnded cl) :=
  Frame.step (State.dset_frame ..) rfl (Frame.set_health _ rfl (Frame.refl _ s))

theorem State.abandonTest_eq (s : State) :
    s.abandonTest = match s.health.testing with
      | none => s
      | some x =>
        if (s.testEnded x.1).dget 0x3033 1 x.1 = 1 then s.testEnded x.1 else (s.testEnded x.1).unstrandAll x.1 := rfl

theorem State.abandonTest_sheltered (s : State) : Sheltered s s.abandonTest := by
  rw [State.abandonTest_eq]
  split
  · exact .refl s
  · next x _ =>
    have ended := Sheltered.of_frame (s.testEnded_frame x.1) rfl rfl rfl
    split
    · exact ended
    · exact ended.trans (State.unstrandAll_sheltered ..)

end Sys2Proof.Machine
end

section
/-! SUPPORT. What the work of a context reset and of a hang search leaves: the fences of the contexts and the causes of their resets,
and the MSI-X vectors of every function but the physical one's vector 0. -/
namespace Sys2Proof.Machine

/-- The fences and the causes of the contexts' resets are as they were. -/
structure ResetKept (s t : State) : Prop where
  canonical : Canonical s → Canonical t
  fences : ∀ c, t.fenced c = s.fenced c
  causes : Canonical s → ∀ c, t.cget c 4 3 = s.cget c 4 3

/-- So are the vectors, but for vector 0 of the physical function. -/
structure SearchKept (s t : State) : Prop extends ResetKept s t where
  vectors : ∀ k, k ≠ 0 → tfind t.hif.msix k = tfind s.hif.msix k

theorem State.fenced_of_ctxs {s t : State} (h : t.ctxs.resets = s.ctxs.resets) (c : Nat) : t.fenced c = s.fenced c := by
  rw [State.fenced, h, State.fenced]

namespace ResetKept

theorem refl (s : State) : ResetKept s s := ⟨id, fun _ => rfl, fun _ _ => rfl⟩

theorem trans {r s t : State} (h : ResetKept r s) (k : ResetKept s t) : ResetKept r t :=
  ⟨fun can => k.canonical (h.canonical can), fun c => (k.fences c).trans (h.fences c),
    fun can c => (k.causes (h.canonical can) c).trans (h.causes can c)⟩

theorem of_frame {g : List Zone} {s t : State} (k : Frame g s t) (cdict : g.contains .ctxEntries = false)
    (ctxs : g.contains .ctxs = false) : ResetKept s t :=
  ⟨k.canonical, State.fenced_of_ctxs (congrArg Ctxs.resets (k.keeps .ctxs ctxs)),
    fun _ c => State.cget_of_cdict (k.keeps .ctxEntries cdict) c 4 3⟩

theorem step {g : List Zone} {r s t : State} (h : ResetKept r s) (k : Frame g s t) (cdict : g.contains .ctxEntries = false)
    (ctxs : g.contains .ctxs = false) : ResetKept r t := h.trans (.of_frame k cdict ctxs)

theorem foldl {α : Type} {f : State → α → State} (each : ∀ s x, ResetKept s (f s x)) (l : List α) (s : State) :
    ResetKept s (l.foldl f s) := by
  induction l generalizing s with
  | nil => exact refl s
  | cons x l ih => exact (each s x).trans (ih _)

end ResetKept

namespace SearchKept

theorem refl (s : State) : SearchKept s s := ⟨.refl s, fun _ _ => rfl⟩

theorem trans {r s t : State} (h : SearchKept r s) (k : SearchKept s t) : SearchKept r t :=
  ⟨h.toResetKept.trans k.toResetKept, fun i ne => (k.vectors i ne).trans (h.vectors i ne)⟩

/-- What leaves the contexts' records of their resets, their entries and the vectors. -/
theorem of_resets {g : List Zone} {s t : State} (k : Frame g s t) (same : t.ctxs.resets = s.ctxs.resets)
    (cdict : g.contains .ctxEntries = false) (msix : g.contains .msix = false) : SearchKept s t :=
  ⟨⟨k.canonical, State.fenced_of_ctxs same, fun _ c => State.cget_of_cdict (k.keeps .ctxEntries cdict) c 4 3⟩,
    fun i _ => congrArg (tfind · i) (k.keeps .msix msix)⟩

theorem of_frame {g : List Zone} {s t : State} (k : Frame g s t) (cdict : g.contains .ctxEntries = false)
    (ctxs : g.contains .ctxs = false) (msix : g.contains .msix = false) : SearchKept s t :=
  .of_resets k (congrArg Ctxs.resets (k.keeps .ctxs ctxs)) cdict msix

theorem step {g : List Zone} {r s t : State} (h : SearchKept r s) (k : Frame g s t) (cdict : g.contains .ctxEntries = false)
    (ctxs : g.contains .ctxs = false) (msix : g.contains .msix = false) : SearchKept r t := h.trans (.of_frame k cdict ctxs msix)

theorem foldl {α : Type} {f : State → α → State} (each : ∀ s x, SearchKept s (f s x)) (l : List α) (s : State) :
    SearchKept s (l.foldl f s) := by
  induction l generalizing s with
  | nil => exact refl s
  | cons x l ih => exact (each s x).trans (ih _)

theorem ite {p : Prop} [Decidable p] {s a b : State} (h : SearchKept s a) (k : SearchKept s b) :
    SearchKept s (if p then a else b) := by
  split
  · exact h
  · exact k

end SearchKept

/-! ### Entries of the contexts, Rappels and events -/

theorem State.cset_kept (s : State) (c : Nat) {k sub : Nat} (v : Nat) (ne : ∀ c', ckey c' 4 3 ≠ ckey c k sub) :
    SearchKept s (s.cset c k sub v) := by
  have f := State.cset_frame s c k sub v
  exact ⟨⟨f.canonical, State.fenced_of_ctxs (congrArg Ctxs.resets (f.keeps .ctxs rfl)),
    fun can c' => State.cget_cset_of_ne can v (ne c')⟩, fun i _ => congrArg (tfind · i) (f.keeps .msix rfl)⟩

theorem State.cbump_kept (s : State) (c : Nat) {k sub : Nat} (w n : Nat) (ne : ∀ c', ckey c' 4 3 ≠ ckey c k sub) :
    SearchKept s (s.cbump c k sub w n) := by
  have f := State.cbump_frame s c k sub w n
  exact ⟨⟨f.canonical, State.fenced_of_ctxs (congrArg Ctxs.resets (f.keeps .ctxs rfl)),
    fun can c' => State.cget_cbump_of_ne can w n (ne c')⟩, fun i _ => congrArg (tfind · i) (f.keeps .msix rfl)⟩

theorem State.rappel_kept (s : State) (fp : BitVec 64) (c : Nat) (why : Purpose) : SearchKept s (s.rappel fp c why) := by
  unfold State.rappel
  dsimp only
  split
  · exact .of_frame (Frame.set_array (g := [.array]) _ rfl (Frame.refl _ s)) rfl rfl rfl
  · refine SearchKept.trans ?_ (State.cbump_kept _ _ _ _ (by unfold ckey; omega))
    exact .of_frame (Frame.set_array (g := [.array]) _ rfl (Frame.refl _ s)) rfl rfl rfl

/-- An interrupt of the physical function's vector 0 leaves every other vector. -/
theorem State.interrupt_kept (s : State) : SearchKept s (s.interrupt 0 0) := by
  have f := State.interrupt_frame s 0 0
  refine ⟨.of_frame f rfl rfl, fun i ne => ?_⟩
  unfold State.interrupt
  dsimp only
  split
  · have pend : ({ tget {} s.hif.msix (0 * 2048 + 0) with pend := true } : Msix) ≠ {} := fun h => by
      have := congrArg Msix.pend h
      exact absurd this Bool.noConfusion
    show tfind (tset {} s.hif.msix _ _) i = _
    rw [tset, if_neg pend, tfind_tput_of_ne _ _ ne]
  · rfl

theorem State.event_kept (s : State) (type code subject detail : Nat) : SearchKept s (s.event type code subject detail) := by
  have k : SearchKept s (s.lossCounted (s.recorded type code subject detail)) :=
    (SearchKept.of_frame (State.recorded_frame ..) rfl rfl rfl).step (State.lossCounted_frame ..) rfl rfl rfl
  rw [State.event_eq, State.noticed]
  split
  · exact k.trans (State.interrupt_kept _)
  · exact k

/-! ### Switches -/

theorem State.switchCounted_kept (s : State) (p w : Nat) : SearchKept s (s.switchCounted p w) := by
  refine SearchKept.trans ?_ (State.cbump_kept _ _ _ _ (by unfold ckey; omega))
  refine SearchKept.step ?_ (State.dbump_frame ..) rfl rfl rfl
  refine SearchKept.step ?_ (State.dset_frame ..) rfl rfl rfl
  exact .of_resets (Frame.set_steps_ctxs (g := [.steps, .ctxs]) _ _ rfl rfl (Frame.refl _ s)) rfl rfl rfl

theorem State.rappelOutgoing_kept (s : State) (p o : Nat) : SearchKept s (s.rappelOutgoing p o) :=
  (SearchKept.of_frame (State.dropPoolEntries_frame ..) rfl rfl rfl).trans
    (SearchKept.foldl (fun _ _ => State.rappel_kept ..) _ _)

theorem State.startSwitch_kept (s : State) (p w : Nat) : SearchKept s (s.startSwitch p w) := by
  have begun := (s.switchCounted_kept p w).step (State.dropPoolEntries_frame _ p w) rfl rfl rfl
  rw [State.startSwitch_eq]
  split
  · exact begun
  · exact begun.trans (State.rappelOutgoing_kept ..)

theorem State.grantDecision_kept (s : State) (p : Nat) : SearchKept s (s.grantDecision p) := by
  unfold State.grantDecision
  split
  · exact .refl s
  · split
    · exact State.startSwitch_kept ..
    · exact .refl s

theorem State.decideGrantOf_kept (s : State) (c : Nat) : SearchKept s (s.decideGrantOf c) := by
  unfold State.decideGrantOf
  split
  · exact State.grantDecision_kept ..
  · exact .refl s

/-! ### Hang searches -/

theorem State.mapHang_kept (s : State) (f : Hang → Hang) : SearchKept s (s.mapHang f) :=
  .of_resets (State.mapHang_frame s f) rfl rfl rfl

theorem State.hold_kept (s : State) (c : Nat) : SearchKept s (s.hold c) := by
  refine SearchKept.trans ?_ (State.cset_kept _ _ _ (by unfold ckey; omega))
  exact .of_resets (Frame.set_ctxs (g := [.ctxs]) _ rfl (Frame.refl _ s)) rfl rfl rfl

theorem State.unhold_kept (s : State) (c : Nat) : SearchKept s (s.unhold c) := by
  refine SearchKept.trans ?_ (State.cset_kept _ _ _ (by unfold ckey; omega))
  exact .of_resets (Frame.set_ctxs (g := [.ctxs]) _ rfl (Frame.refl _ s)) rfl rfl rfl

theorem State.dropRoute_kept (s : State) (r : Route) : SearchKept s (s.dropRoute r) :=
  (SearchKept.of_frame (State.evictRoute_frame ..) rfl rfl rfl).trans (State.event_kept ..)

theorem State.isolateNow_kept (s : State) (cl : Nat) : SearchKept s (s.isolateNow cl) := by
  refine SearchKept.trans ?_ (State.event_kept ..)
  refine SearchKept.step ?_ (State.resupply_frame ..) rfl rfl rfl
  refine SearchKept.step ?_ (State.setDomain_frame ..) rfl rfl rfl
  refine SearchKept.step ?_ (State.dset_frame ..) rfl rfl rfl
  refine SearchKept.trans ?_ (SearchKept.foldl (fun _ _ => State.dropRoute_kept ..) _ _)
  exact SearchKept.foldl (fun _ _ => .of_frame (State.evictRoute_frame ..) rfl rfl rfl) _ s

theorem State.isolate_kept (s : State) (cl : Nat) : SearchKept s (s.isolate cl) := by
  unfold State.isolate
  split
  · exact .refl s
  · split
    · exact State.isolateNow_kept ..
    · refine SearchKept.trans ?_ (State.rappel_kept ..)
      split
      · exact .refl s
      · split
        · exact .refl s
        · exact (SearchKept.of_frame (State.sendAbort_frame ..) rfl rfl rfl).step (State.setStep_frame ..) rfl rfl rfl

theorem State.releaseSuspects_kept (s : State) : SearchKept s s.releaseSuspects := by
  refine SearchKept.trans ?_ (SearchKept.foldl (fun _ _ => State.decideGrantOf_kept ..) _ _)
  refine SearchKept.trans ?_ (SearchKept.foldl (fun _ _ => State.unhold_kept ..) _ _)
  exact .of_resets (Frame.set_ctxs (g := [.ctxs]) _ rfl (Frame.refl _ s)) rfl rfl rfl

theorem State.transientHang_kept (s : State) (h : Hang) : SearchKept s (s.transientHang h) := by
  have noted : SearchKept s { (s.dbump 0x3031 4 0 32).releaseSuspects with
      ctxs := { (s.dbump 0x3031 4 0 32).releaseSuspects.ctxs with
        transient := tput (s.dbump 0x3031 4 0 32).releaseSuspects.ctxs.transient (h.core / 16)
          (s.dbump 0x3031 4 0 32).releaseSuspects.uptime } } :=
    ((SearchKept.of_frame (State.dbump_frame ..) rfl rfl rfl).trans (State.releaseSuspects_kept _)).trans
      (.of_resets (Frame.set_ctxs (g := [.ctxs]) _ rfl (Frame.refl _ _)) rfl rfl rfl)
  unfold State.transientHang
  dsimp only
  split
  · exact noted.trans (State.isolate_kept ..)
  · exact noted

theorem State.nextTrial_kept (s : State) (n : Nat) : SearchKept s (s.nextTrial n) := by
  induction n generalizing s with
  | zero => exact .refl s
  | succ n ih =>
    rw [State.nextTrial]
    split
    · exact .refl s
    · split
      · exact State.transientHang_kept ..
      · split
        · exact (State.mapHang_kept ..).trans (ih _)
        · exact ((State.unhold_kept ..).trans (State.mapHang_kept ..)).trans (State.decideGrantOf_kept ..)

theorem State.activate_kept (s : State) (c id image : Nat) (fp : BitVec 64) (bytes : Bytes) :
    SearchKept s (s.activate c id image fp bytes) := by
  refine SearchKept.trans ?_ (State.cbump_kept _ _ _ _ (by unfold ckey; omega))
  refine SearchKept.trans ?_ (SearchKept.foldl (fun _ _ => .of_frame (State.preload_frame ..) rfl rfl rfl) _ _)
  refine SearchKept.trans ?_ (SearchKept.foldl (fun _ _ => .of_frame (State.powerCluster_frame ..) rfl rfl rfl) _ _)
  refine SearchKept.step ?_ (State.clearFootprint_frame ..) rfl rfl rfl
  refine SearchKept.step ?_ (State.trimStages_frame ..) rfl rfl rfl
  exact .of_frame (Frame.set_array (g := [.array]) _ rfl (Frame.refl _ s)) rfl rfl rfl

theorem State.reactivate_kept (s : State) (r : Route) : SearchKept s (s.reactivate r) := by
  have seen := SearchKept.of_frame (State.imageSeen_frame s r.ctx r.image) rfl rfl rfl
  unfold State.reactivate
  dsimp only
  split
  · exact seen.trans (State.dropRoute_kept ..)
  · split
    · exact seen.trans (State.dropRoute_kept ..)
    · exact (seen.step (State.stageImage_frame ..) rfl rfl rfl).trans (State.activate_kept ..)

theorem State.revive_kept (s : State) (r : Route) : SearchKept s (s.revive r) := by
  unfold State.revive
  split
  · split
    · exact State.dropRoute_kept ..
    · exact State.activate_kept ..
  · exact State.reactivate_kept ..

theorem State.engineReset_kept (s : State) : SearchKept s s.engineReset := by
  unfold State.engineReset
  split
  · exact .refl s
  · refine SearchKept.trans ?_ (State.nextTrial_kept ..)
    refine SearchKept.trans ?_ (State.mapHang_kept ..)
    refine SearchKept.trans ?_ (SearchKept.foldl (fun _ _ => State.revive_kept ..) _ _)
    refine SearchKept.trans ?_ (SearchKept.foldl (fun _ _ => .of_frame (State.powerCluster_frame ..) rfl rfl rfl) _ _)
    exact .of_frame (State.setDomains_frame ..) rfl rfl rfl

/-- The step of a suspect is held. -/
theorem State.holdStep_kept (s : State) (q : Step) :
    SearchKept s (((s.sendAbort q 0 6).setStep { q with ending := some .held }).rappel q.footprint q.ctx .hang) :=
  ((SearchKept.of_frame (State.sendAbort_frame ..) rfl rfl rfl).step (State.setStep_frame ..) rfl rfl rfl).trans
    (State.rappel_kept ..)

theorem State.beginHang_kept (s : State) (p : Step) (core : Nat) (suspects : List Nat) :
    SearchKept s (s.beginHang p core suspects) := by
  refine SearchKept.trans ?_ (SearchKept.foldl (fun _ _ => State.holdStep_kept ..) _ _)
  refine SearchKept.trans ?_ (SearchKept.foldl (fun _ _ => State.hold_kept ..) _ _)
  refine SearchKept.step ?_ (State.dset_frame ..) rfl rfl rfl
  refine SearchKept.step ?_ (State.dbump_frame ..) rfl rfl rfl
  exact .of_resets (Frame.set_ctxs (g := [.ctxs]) _ rfl (Frame.refl _ s)) rfl rfl rfl

theorem State.search_kept (s : State) (p : Step) (core : Nat) (suspects : List Nat) : SearchKept s (s.search p core suspects) := by
  have shot := SearchKept.of_frame (State.snapshot_frame s 1 (captured (s.suspectSteps suspects) p) suspects
    ⟨p.ctx, core, p.seq.toNat, if p.members.isEmpty then 0 else p.groupId⟩ waitOf) rfl rfl rfl
  unfold State.search
  dsimp only
  split
  · next q _ =>
    have begun := shot.trans (State.beginHang_kept _ q core suspects)
    exact .ite begun (begun.trans (State.engineReset_kept _))
  · exact shot

theorem State.searches_kept (s : State) (n : Nat) : SearchKept s (s.searches n) := by
  induction n generalizing s with
  | zero => exact .refl s
  | succ n ih =>
    rw [State.searches]
    split
    · next cmd core cs rest _ _ =>
      have taken : SearchKept s { s with ctxs := { s.ctxs with stalls := rest } } :=
        .of_resets (Frame.set_ctxs (g := [.ctxs]) _ rfl (Frame.refl _ s)) rfl rfl rfl
      dsimp only
      split
      · exact (taken.trans (State.search_kept ..)).trans (ih _)
      · exact taken.trans (ih _)
    · exact .refl s

theorem State.nextSearch_kept (s : State) : SearchKept s s.nextSearch := s.searches_kept _

/-! ### A context reset -/

theorem State.leaveHang_kept (s : State) (c : Nat) : SearchKept s (s.leaveHang c) := by
  have k : SearchKept s (s.unstalled c) := by
    unfold State.unstalled
    dsimp only
    split
    · refine SearchKept.trans ?_ (State.unhold_kept ..)
      exact .of_resets (Frame.set_ctxs (g := [.ctxs]) _ rfl (Frame.refl _ s)) rfl rfl rfl
    · exact .refl s
  have left : ∀ h, SearchKept s ((s.unstalled c).unsuspected c h) := fun h =>
    (k.trans (State.mapHang_kept ..)).trans (State.unhold_kept ..)
  rw [State.leaveHang_eq]
  split
  · split
    · split
      · exact left _
      · exact (left _).trans (State.nextTrial_kept ..)
    · exact k
  · exact k

theorem State.postEvent_kept (s : State) (c type ring : Nat) (tail : Bytes) : ResetKept s (s.postEvent c type ring tail) := by
  have count : ∀ t : State, ResetKept t (t.cbump c 11 3 32) := fun t =>
    (t.cbump_kept c _ _ (by unfold ckey; omega)).toResetKept
  unfold State.postEvent
  dsimp only
  split
  · exact count s
  · have k := ResetKept.of_frame (State.writes_frame s c none ((s.page c).evqBase.toNat + (s.page c).evqTail.toNat * 64)
      (eventBytes type (b2n (s.page c).evqPhase) s.uptime ring tail)) rfl rfl
    split
    · exact (ResetKept.of_frame (State.setPage_frame ..) rfl rfl).trans (count _)
    · next t wrote =>
      rw [wrote] at k
      exact (k.step (State.setPage_frame ..) rfl rfl).step (State.interrupt_frame ..) rfl rfl

theorem State.completionCounted_kept (s : State) (g : Nat) (r : Ring) (c status fn vector : Nat) (quiet : Bool) :
    ResetKept s (s.completionCounted g r c status fn vector quiet) := by
  have counted : ResetKept s ((((s.setRing g r).perturbed 7 g 0 c true).1).cbump c 11 1 64) := by
    refine ResetKept.trans ?_ (State.cbump_kept _ _ _ _ (by unfold ckey; omega)).toResetKept
    exact (ResetKept.of_frame (State.setRing_frame ..) rfl rfl).step (State.perturbed_frame ..) rfl rfl
  have ended : ResetKept s (if status = 0 then (((s.setRing g r).perturbed 7 g 0 c true).1).cbump c 11 1 64
      else ((((s.setRing g r).perturbed 7 g 0 c true).1).cbump c 11 1 64).cbump c 11 2 32) := by
    split
    · exact counted
    · exact counted.trans (State.cbump_kept _ _ _ _ (by unfold ckey; omega)).toResetKept
  unfold State.completionCounted
  dsimp only
  split
  · exact ended
  · exact ended.step (State.interrupt_frame ..) rfl rfl

theorem State.writeCompletion_kept (s : State) (g c tag status flags replays dropped op value : Nat) (quiet : Bool) :
    ResetKept s (s.writeCompletion g c tag status flags replays dropped op value quiet) := by
  unfold State.writeCompletion
  dsimp only
  split
  · exact .refl s
  · have k := ResetKept.of_frame (State.writes_frame s c none ((s.ring g).cqBase.toNat + (s.ring g).cqTail * 16)
      (completionBytes tag status (b2n (s.ring g).cqPhase + flags) replays dropped op value)) rfl rfl
    split
    · refine ResetKept.trans ?_ (State.postEvent_kept ..)
      refine ResetKept.step ?_ (State.reportAer_frame ..) rfl rfl
      exact (ResetKept.of_frame (State.fresh_frame s) rfl rfl).step (State.setRing_frame ..) rfl rfl
    · next t wrote =>
      rw [wrote] at k
      exact k.trans (State.completionCounted_kept ..)

theorem State.finish_kept (s : State) (c : Cmd) (status value : Nat) : ResetKept s (s.finish c status value) :=
  (State.writeCompletion_kept ..).step (State.dropCmd_frame ..) rfl rfl

theorem State.finishAll_kept (s : State) (ds : List Cmd) (status : Nat) : ResetKept s (s.finishAll ds status) :=
  ResetKept.foldl (fun _ _ => State.finish_kept ..) ds s

theorem State.setEpoch_kept (s : State) (c e : Nat) : ResetKept s (s.setEpoch c e) := by
  unfold State.setEpoch
  split
  · exact (State.cset_kept _ _ _ (by unfold ckey; omega)).toResetKept
  · have noted : SearchKept s { s with ctxs := { s.ctxs with sysEpoch := e } } :=
      .of_resets (Frame.set_ctxs (g := [.ctxs]) _ rfl (Frame.refl _ s)) rfl rfl rfl
    exact noted.toResetKept

theorem State.advanceEpoch_kept (s : State) (c : Nat) : ResetKept s (s.advanceEpoch c) := by
  refine ResetKept.step (s := s.setEpoch c ((s.epochOf c + 1) % 65536)) (g := [.links]) (State.setEpoch_kept ..) ?_ rfl rfl
  exact Frame.set_links _ rfl (Frame.foldl _ (fun _ _ => State.sendControl_frame ..) (Frame.refl _ _))

/-- A key listed again leaves which keys are listed. -/
theorem thas_tput_of_mem {α : Type} {t : Tab α} {k : Nat} {r : α} (listed : tfind t k = some r) (v : α) (j : Nat) :
    thas (tput t k v) j = thas t j := by
  by_cases same : j = k
  · subst same
    rw [thas_tput_same, thas_eq_tfind, listed, Option.isSome_some]
  · rw [thas_eq_tfind, tfind_tput_of_ne t v same, thas_eq_tfind]

theorem State.settleReset_kept (s : State) (c : Nat) : ResetKept s (s.settleReset c) := by
  unfold State.settleReset
  split
  · next r listed =>
    split
    · have phase : ResetKept s { s with ctxs := { s.ctxs with resets := tput s.ctxs.resets c { r with phase := 3 } } } :=
        ⟨(Frame.set_ctxs (g := [.ctxs]) _ rfl (Frame.refl _ s)).canonical, thas_tput_of_mem listed _, fun _ _ => rfl⟩
      exact (phase.trans (State.advanceEpoch_kept ..)).step (State.beginConfirm_frame ..) rfl rfl
    · exact .refl s
  · exact .refl s

theorem State.stopWork_kept (s : State) (c : Nat) : ResetKept s (s.stopWork c) := by
  refine ResetKept.step ?_ (State.dropUnbinds_frame ..) rfl rfl
  refine ResetKept.step ?_ (State.dropBinds_frame ..) rfl rfl
  exact ⟨fun can => ⟨can.near, can.bulk, can.store, can.host, can.entries, can.ctxEntries, can.counters, can.owners⟩,
    fun _ => rfl, fun _ _ => rfl⟩

theorem State.workEnded_kept (s : State) (c : Nat) : ResetKept s (s.workEnded c) := by
  refine ResetKept.trans ?_ (State.settleReset_kept ..)
  refine ResetKept.trans ?_ (ResetKept.foldl (fun _ _ => (State.rappel_kept ..).toResetKept) _ _)
  exact (State.stopWork_kept ..).trans (State.finishAll_kept ..)

end Sys2Proof.Machine
end

section
/-! SUPPORT. Resets by the host and of contexts (R68, R323, R570-R574, R596, R597): each command where its condition holds. -/
namespace Sys2Proof.Machine

theorem exec_perstN (t : Nat) (s : State) : exec (.perstN t) s = execPerstN t s := rfl

theorem exec_pfFunctionLevelReset (t : Nat) (s : State) :
    exec (.pfFunctionLevelReset t) s = execPfFunctionLevelReset t s := rfl

theorem exec_vfFunctionLevelReset (c : Fin 256) (t : Nat) (s : State) :
    exec (.vfFunctionLevelReset c t) s = execVfFunctionLevelReset c t s := rfl

theorem exec_contextResetEnd (c : Fin 256) (t : Nat) (s : State) :
    exec (.contextResetEnd c t) s = execContextResetEnd c t s := rfl

theorem execPerstN_of_powered {s : State} (t : Nat) (on : s.powered = true) :
    execPerstN t s =
      .next { (s.at t).startHostReset with pins := { (s.at t).startHostReset.pins with perstN := false } } := by
  rw [execPerstN, if_pos on]

theorem execPfFunctionLevelReset_of_up {s : State} (t : Nat) (on : s.powered = true) (up : s.hif.linkUp = true) :
    execPfFunctionLevelReset t s = .next (s.at t).startHostReset := by
  rw [execPfFunctionLevelReset, on, up, Bool.and_self, if_pos rfl]

theorem execVfFunctionLevelReset_of_on {s : State} (c : Fin 256) (t : Nat) (up : s.hif.linkUp = true)
    (on : s.vfOn c.val = true) :
    execVfFunctionLevelReset c t s = .next (((s.at t).startReset c.val 2).resetFunction c.val).nextSearch := by
  rw [execVfFunctionLevelReset, up, on, Bool.and_self, if_pos rfl]

theorem execContextResetEnd_of_ended {s : State} {c : Fin 256} {r : ResetRun} (t : Nat)
    (listed : tfind s.ctxs.resets c.val = some r) (phase : r.phase = 3) (acked : s.epochAcked c.val = true)
    (still : s.switchingWith c.val = false) (recovery : s.dev.mode ≠ .recovery) (failed : s.dev.mode ≠ .failed) :
    execContextResetEnd c t s = .next ((s.at t).endReset c.val) := by
  rw [execContextResetEnd, listed]
  dsimp only
  rw [if_pos ⟨phase, acked, by rw [still, Bool.not_false], recovery, failed⟩]

/-- In the middle of a recovery the end of a context reset changes nothing. -/
theorem execContextResetEnd_of_recovery {s : State} (c : Fin 256) (t : Nat)
    (mode : s.dev.mode = .recovery ∨ s.dev.mode = .failed) : execContextResetEnd c t s = .next s := by
  unfold execContextResetEnd
  split
  · rw [if_neg fun ⟨_, _, _, recovery, failed⟩ => mode.elim recovery failed]
  · rfl

/-! ### The start of a host reset -/

theorem State.hostReset_facts (s : State) :
    s.startHostReset.dev =
        { s.dev with
          hostReset := true, hostSince := s.uptime, hifOut := false
          hostWork := if s.steps.any (·.launched) || s.stillFor .hostReset then (s.dev.hostWork ++ s.working).dedup else [] } ∧
      s.startHostReset.hif.rings = [] ∧ s.startHostReset.hif.pages = [] ∧ s.startHostReset.hif.ready = false ∧
      s.startHostReset.hif.linkUp = false ∧ s.startHostReset.near.nmMap = 0 ∧ s.startHostReset.bulk.inval = 0 ∧
      s.startHostReset.kop.rolePf.grantUntil = none ∧ s.startHostReset.array.loads = [] ∧ s.startHostReset.ctxs.copies = [] ∧
      s.startHostReset.cmds = s.cmds.filter fun c => s.steps.any fun p => decide (p.cmd = c.id) && p.launched := by
  obtain ⟨rings, pages, ready, down⟩ := s.startHostReset_hif
  obtain ⟨nmMap, inval⟩ := s.startHostReset_maps
  exact ⟨s.startHostReset_dev, rings, pages, ready, down, nmMap, inval, s.startHostReset_grantPf, s.startHostReset_loads,
    s.startHostReset_copies, s.startHostReset_cmds⟩

/-! ### The start of a context reset -/

theorem State.resetMarked_fenced (s : State) (c cause : Nat) : (s.resetMarked c cause).fenced c = true := by
  have k := Frame.step (g := [.free, .ctxEntries]) (State.cset_frame _ c 4 4 s.uptime) rfl
    (Frame.step (State.cset_frame _ c 4 3 cause) rfl (State.cbump_frame ({ s with ctxs := { s.ctxs with
      resets := tput s.ctxs.resets c { phase := 2, cause := cause, start := s.uptime, groupWait := s.awaitsGroup c } } } : State)
      c 4 2 32 1))
  rw [State.fenced, State.resetMarked, show _ = _ from k.keeps .ctxs rfl]
  exact thas_tput_same ..

theorem State.resetMarked_cause {s : State} (can : Canonical s) {c : Nat} (tenant : c < 256) (cause : Nat) :
    (s.resetMarked c cause).cget c 4 3 = cause := by
  have can' := (Frame.step (g := [.free, .ctxEntries, .ctxs]) (State.cbump_frame _ c 4 2 32 1) rfl
    (Frame.set_ctxs { s.ctxs with
      resets := tput s.ctxs.resets c { phase := 2, cause := cause, start := s.uptime, groupWait := s.awaitsGroup c } } rfl
      (Frame.refl _ s))).canonical can
  rw [State.resetMarked, State.cget_cset_of_ne ((State.cset_frame ..).canonical can') _ (by unfold ckey; omega),
    State.cget_cset_same can' tenant]

/-- What follows the mark of a context reset. -/
theorem State.afterMark_kept (s : State) (c : Nat) : ResetKept s (((s.postEvent c 2 0 []).leaveHang c).abandonAll c |>.workEnded c) :=
  (((State.postEvent_kept ..).trans (State.leaveHang_kept _ c).toResetKept).step (State.abandonAll_frame _ c) rfl rfl).trans
    (State.workEnded_kept ..)

theorem State.startReset_of_open {s : State} {c : Nat} (tenant : c < 256) (unfenced : s.fenced c = false) (cause : Nat) :
    s.startReset c cause = ((((s.resetMarked c cause).postEvent c 2 0 []).leaveHang c).abandonAll c).workEnded c := by
  rw [State.startReset_eq, if_neg]
  rintro (far | fenced)
  · omega
  · exact absurd (fenced.symm.trans unfenced) Bool.noConfusion

theorem State.startReset_fenced {s : State} {c : Nat} (tenant : c < 256) (unfenced : s.fenced c = false) (cause : Nat) :
    (s.startReset c cause).fenced c = true := by
  rw [State.startReset_of_open tenant unfenced, (State.afterMark_kept ..).fences, State.resetMarked_fenced]

theorem State.startReset_cause {s : State} (can : Canonical s) {c : Nat} (tenant : c < 256) (unfenced : s.fenced c = false)
    (cause : Nat) : (s.startReset c cause).cget c 4 3 = cause := by
  rw [State.startReset_of_open tenant unfenced,
    (State.afterMark_kept ..).causes ((State.resetMarked_frame ..).canonical can), State.resetMarked_cause can tenant]

/-! ### The end of a context reset -/

/-- The context gives back what it held, and its fence falls. -/
def State.unfenceAfter (s : State) (c : Nat) : State :=
  let s := (((s.endConfirm 2 c).zeroOwned c).resetPool c).clearCounters c
  let s := ((s.nearBindings c).foldl (fun s h => s.release h true) s).flipAll c
  { s with ctxs := { s.ctxs with resets := terase s.ctxs.resets c } }

/-- The posting of the end, which a host reset silences. -/
def State.endPosted (s : State) (c : Nat) (silent : Bool) : State := if silent then s else s.postEvent c 3 0 []

theorem State.endReset_eq (s : State) (c : Nat) :
    s.endReset c =
      match s.attached c with
      | some p => ((s.unfenceAfter c).endPosted c ((tfind s.ctxs.resets c).any (·.silent))).grantDecision p
      | none => (s.unfenceAfter c).endPosted c ((tfind s.ctxs.resets c).any (·.silent)) := rfl

theorem State.unfenceAfter_fenced {s : State} (sorted : tsorted none s.ctxs.resets = true) (c : Nat) :
    (s.unfenceAfter c).fenced c = false := by
  have k : Frame [.free, .out, .entries, .ctxEntries, .host, .near, .nearMem, .bulk, .bulkMem, .rings, .msix, .pages, .cmds, .array,
      .serve, .links, .health, .power] s
      ((((((s.endConfirm 2 c).zeroOwned c).resetPool c).clearCounters c).nearBindings c).foldl (fun s h => s.release h true)
        ((((s.endConfirm 2 c).zeroOwned c).resetPool c).clearCounters c) |>.flipAll c) := by
    refine Frame.step (State.flipAll_frame ..) rfl (Frame.foldl _ (fun _ _ => Frame.mono (State.release_frame ..) rfl) ?_)
    refine Frame.step (State.clearCounters_frame ..) rfl (Frame.step (State.resetPool_frame ..) rfl ?_)
    exact Frame.step (State.zeroOwned_frame ..) rfl (Frame.mono (State.endConfirm_frame ..) rfl)
  rw [State.fenced, State.unfenceAfter]
  dsimp only
  rw [show _ = _ from k.keeps .ctxs rfl]
  exact thas_terase_same c sorted

theorem State.endPosted_fenced (s : State) (c : Nat) (silent : Bool) (d : Nat) : (s.endPosted c silent).fenced d = s.fenced d := by
  unfold State.endPosted
  split
  · rfl
  · exact (State.postEvent_kept ..).fences d

theorem State.endReset_fenced {s : State} (sorted : tsorted none s.ctxs.resets = true) (c : Nat) :
    (s.endReset c).fenced c = false := by
  rw [State.endReset_eq]
  split
  · rw [(State.grantDecision_kept ..).fences, State.endPosted_fenced, State.unfenceAfter_fenced sorted]
  · rw [State.endPosted_fenced, State.unfenceAfter_fenced sorted]

/-! ### The commands -/

/-- Settles O17: a host reset through its stages, a VF's through the start of its context's reset, and the end of a context reset
through the fence that falls. -/
theorem hostAndContextResets : Obligations.HostAndContextResets := by
  unfold Obligations.HostAndContextResets
  refine ⟨fun t s on => ?_, fun t s on up => ?_, fun c t s can up on unfenced => ?_,
    fun c t r s listed phase acked still recovery failed sorted => ?_, fun c t s mode => ?_⟩
  · have run := execPerstN_of_powered t on
    have k := execPerstN_frame run
    have reset := (s.at t).hostReset_facts
    have pins : (s.at t).startHostReset.pins = s.pins := (State.startHostReset_frame _).keeps .pins rfl
    have count := fun can out fits => State.startHostReset_count ((State.at_frame s t).canonical can) out fits
    generalize (s.at t).startHostReset = v at run k reset pins count
    obtain ⟨dev, rings, pages, ready, down, nmMap, inval, grant, loads, copies, cmds⟩ := reset
    have low : { v.pins with perstN := false } = { s.pins with perstN := false } := by rw [pins]
    exact ⟨_, run, low, dev, rings, pages, ready, down, nmMap, inval, count, grant, loads, copies, cmds, k⟩
  · have run := execPfFunctionLevelReset_of_up t on up
    have k := execPfFunctionLevelReset_frame run
    have count := fun can out fits => State.startHostReset_count ((State.at_frame s t).canonical can) out fits
    obtain ⟨dev, rings, pages, ready, down, nmMap, inval, grant, loads, copies, cmds⟩ := (s.at t).hostReset_facts
    exact ⟨_, run, dev, rings, pages, ready, down, nmMap, inval, count, grant, loads, copies, cmds, k⟩
  · have run := execVfFunctionLevelReset_of_on c t up on
    have can' := (State.at_frame s t).canonical can
    have kept := State.nextSearch_kept (((s.at t).startReset c.val 2).resetFunction c.val)
    have canReset := (State.resetFunction_frame ((s.at t).startReset c.val 2) c.val).canonical
      ((State.startReset_frame (s.at t) c.val 2).canonical can')
    refine ⟨_, run, (kept.fences _).trans ?_, (kept.causes canReset _).trans ?_, fun v lt => ?_, execVfFunctionLevelReset_frame run⟩
    · exact State.startReset_fenced (s := s.at t) c.isLt unfenced 2
    · exact State.startReset_cause can' c.isLt unfenced 2
    · rw [kept.vectors _ (by omega)]
      exact tfind_tclear _ (by omega) (by omega)
  · have run := execContextResetEnd_of_ended t listed phase acked still recovery failed
    refine ⟨_, run, State.endReset_fenced (s := s.at t) sorted c.val, ?_, execContextResetEnd_frame run⟩
    exact (State.endReset_frame (s.at t) c.val).keeps .uptime rfl
  · exact ⟨s, execContextResetEnd_of_recovery c t mode, rfl, Frame.refl _ s⟩

end Sys2Proof.Machine
end

section
/-! SUPPORT. The edges of PWR_GOOD (R59-R61, R565, R567): what a rise settles, what a fall leaves, and the copy of a profile that a
fall cuts. -/
namespace Sys2Proof.Machine

theorem exec_pwrGoodFall (t : Nat) (s : State) : exec (.pwrGoodFall t) s = execPwrGoodFall t s := rfl

/-! ### Power domains -/

theorem State.domain_setDomain {s : State} (can : Canonical s) {m n : Nat} (_small : m < 65536 ∧ n < 65536) (v : Nat) :
    (s.setDomain m v).domain n = if n = m then v else s.domain n := by
  split_ifs with same
  · rw [same]
    exact State.dget_dset_same can ..
  · exact State.dget_dset_of_ne can v (by unfold dkey; omega)

/-- Setting some domains sets these and leaves the others. -/
theorem State.domain_setDomains {s : State} (can : Canonical s) (v : Nat) {ns : List Nat} (small : ∀ m ∈ ns, m < 65536) {n : Nat}
    (lt : n < 65536) : (s.setDomains v ns).domain n = if n ∈ ns then v else s.domain n := by
  induction ns generalizing s with
  | nil => simp [State.setDomains]
  | cons m ns ih =>
    have can' := (State.setDomain_frame s m v).canonical can
    have rest := ih can' fun x hx => small x (List.mem_cons_of_mem m hx)
    rw [State.setDomains, List.foldl_cons]
    refine rest.trans ?_
    rw [State.domain_setDomain can ⟨small m List.mem_cons_self, lt⟩]
    by_cases here : n = m <;> simp [here]

/-- The domains that are held on while the device is powered (R562). -/
theorem State.domain_powerHeld {s : State} (can : Canonical s) :
    (∀ i < 6, s.powerHeld.domain (112 + i) = 2) ∧ ∀ i < 8, s.powerHeld.domain (80 + i) = 1 := by
  have can' := (State.setDomains_frame s 2 ((List.range 6).map (· + 112))).canonical can
  have on : ∀ n < 65536, s.powerHeld.domain n = if n ∈ (List.range 8).map (· + 80) then 1
      else if n ∈ (List.range 6).map (· + 112) then 2 else s.domain n := fun n lt => by
    rw [State.powerHeld, State.domain_setDomains can' _ (by decide) lt, State.domain_setDomains can _ (by decide) lt]
  refine ⟨fun i lt => ?_, fun i lt => ?_⟩
  · rw [on _ (by omega), if_neg, if_pos]
    · exact List.mem_map.mpr ⟨i, List.mem_range.mpr lt, Nat.add_comm ..⟩
    · simp only [List.mem_map, List.mem_range, not_exists, not_and]
      omega
  · rw [on _ (by omega), if_pos]
    exact List.mem_map.mpr ⟨i, List.mem_range.mpr lt, Nat.add_comm ..⟩

/-! ### The rise -/

theorem tput_mem {α : Type} (t : Tab α) (k : Nat) (v : α) : (k, v) ∈ tput t k v := by
  induction t with
  | nil => exact List.mem_singleton.mpr rfl
  | cons kv t ih =>
    rw [tput]
    split_ifs
    · exact List.mem_cons_self
    · exact List.mem_cons_self
    · exact List.mem_cons_of_mem _ ih

/-- An event that was just logged stands in the log. -/
theorem State.logged_event (s : State) {type : Nat} (typed : 1 ≤ type) (code subject detail : Nat) :
    Logged (s.event type code subject detail) type code subject = true := by
  rw [Logged, State.event_log typed]
  refine List.any_eq_true.mpr ⟨_, tput_mem .., ?_⟩
  have time : (s.event type code subject detail).uptime = s.uptime := (State.event_frame ..).keeps .uptime rfl
  simp [State.eventOf, time]

theorem State.risen_frame (s : State) : Frame [.pins, .dev, .cdu] { s with uptime := 0 } s.risen :=
  Frame.set_dev (g := [.pins, .dev, .cdu]) { mode := .reset } rfl (Frame.set_pins
    { s.pins with pwrGood := true, devRstN := false, tripLow := false, brakeSince := 0, brakeLogged := false } rfl
    (Frame.set_cdu {} rfl (Frame.refl _ { s with uptime := 0 })))

/-- The debug lock's own settling leaves the rails that are out. -/
theorem State.lockedRisen_rails (s : State) :
    (s.risen.dset 0x3010 6 0 1).settleLock.pins.railsOut = s.pins.railsOut := by
  have pins : (s.risen.dset 0x3010 6 0 1).settleLock.pins = s.risen.pins :=
    ((State.settleLock_frame _).keeps .pins rfl).trans ((State.dset_frame ..).keeps .pins rfl)
  rw [pins]
  rfl

/-- What the rise settles of a device none of whose rails is out. -/
theorem State.riseSettled_of_rails {s : State} (rails : s.pins.railsOut = []) :
    s.riseSettled = (s.risen.dset 0x3010 6 0 1).settleLock.powerHeld := by
  unfold State.riseSettled
  dsimp only
  rw [s.lockedRisen_rails, rails]
  rfl

theorem State.riseSettled_of_rail {s : State} {r : Nat} (rails : s.pins.railsOut = [r]) :
    s.riseSettled = (s.risen.dset 0x3010 6 0 1).settleLock.event 1 1 r
      (tget 0 (s.risen.dset 0x3010 6 0 1).settleLock.pins.railMv r) := by
  unfold State.riseSettled
  dsimp only
  rw [s.lockedRisen_rails, rails]
  rfl

theorem State.riseSettled_domains {s : State} (can : Canonical s) (rails : s.pins.railsOut = []) :
    (∀ i < 6, s.riseSettled.domain (112 + i) = 2) ∧ ∀ i < 8, s.riseSettled.domain (80 + i) = 1 := by
  have risen : Canonical s.risen :=
    ⟨can.near, can.bulk, can.store, can.host, can.entries, can.ctxEntries, can.counters, can.owners⟩
  rw [State.riseSettled_of_rails rails]
  exact State.domain_powerHeld ((State.settleLock_frame _).canonical ((State.dset_frame ..).canonical risen))

/-! ### The fall -/

theorem execPwrGoodFall_of_powered {s : State} (t : Nat) (on : s.powered = true) :
    execPwrGoodFall t s = .next (s.at t).powerDown := by
  rw [execPwrGoodFall, on, Bool.not_true, if_neg Bool.false_ne_true]

/-- A device that loses its power, but for the copy of a profile under writing. -/
def State.unpowered (s : State) : State :=
  let s := s.loseUnits.keepEntries keptUnpowered
  { s with
    bulk := { sparing := s.bulk.sparing, lanesMapped := s.bulk.lanesMapped }
    links := {}
    cdu := {}
    power := {}
    kop := { copies := s.kop.copies, factoryBad := s.kop.factoryBad }
    health := { coreState := s.health.coreState, lifeUs := s.health.lifeUs, rotating := s.health.rotating }
    pins := { s.pins with pwrGood := false, devRstN := false, perstN := false, tripLow := false, canStopped := false }
    dev := {} }

theorem State.powerDown_eq (s : State) : s.powerDown = s.cutSave.unpowered := rfl

theorem State.powerDown_of_idle {s : State} (idle : s.kop.saving = none) : s.powerDown = s.unpowered := by
  rw [State.powerDown_eq, State.cutSave, idle]

/-! ### The copy that a fall cuts -/

theorem State.writeCopy_copies (s : State) (slot copy : Nat) (img : Bytes) :
    (s.writeCopy slot copy img).kop = { s.kop with copies := tset {} s.kop.copies (2 * slot + copy) ⟨img⟩ } :=
  (State.dbump_frame ..).keeps .kop rfl

theorem State.profileCopy_writeCopy {s : State} (sorted : tsorted none s.kop.copies = true) (slot copy : Nat) (img : Bytes)
    (n k : Nat) : (s.writeCopy slot copy img).profileCopy n k =
      if 2 * n + k = 2 * slot + copy then img else s.profileCopy n k := by
  rw [State.profileCopy, State.writeCopy_copies, tget_tset _ _ _ _ _ sorted, State.profileCopy]
  split_ifs <;> rfl

/-- The copy under writing at a fall: a free number of new bytes before the old ones. -/
def State.torn (s : State) (v : Save) (copy : Nat) : Bytes :=
  v.image.take (s.fresh.1.toNat / 2 % (v.image.length + 1)) ++
    (s.profileCopy v.slot copy).drop (s.fresh.1.toNat / 2 % (v.image.length + 1))

/-- The first copy is whole and the second torn. -/
theorem State.cutSave_second {s : State} {v : Save} (saving : s.kop.saving = some v) (there : s.copyThere 0 = true)
    (odd : s.fresh.1.toNat % 2 = 1) :
    s.cutSave = (s.fresh.2.writeCopy v.slot 0 v.image).writeCopy v.slot 1 (s.torn v 1) := by
  have there' : s.fresh.2.copyThere 0 = true := there
  rw [State.cutSave, saving]
  dsimp only
  rw [there', if_pos rfl, odd, if_pos ⟨rfl, rfl⟩]
  rfl

/-- The first copy is torn and the second old. -/
theorem State.cutSave_first {s : State} {v : Save} (saving : s.kop.saving = some v) (there : s.copyThere 0 = true)
    (even : s.fresh.1.toNat % 2 = 0) : s.cutSave = s.fresh.2.writeCopy v.slot 0 (s.torn v 0) := by
  have there' : s.fresh.2.copyThere 0 = true := there
  rw [State.cutSave, saving]
  dsimp only
  rw [there', if_pos rfl, even, if_neg fun h => absurd h.1 Nat.zero_ne_one]
  rfl

/-- Without its first copy the device writes the second alone. -/
theorem State.cutSave_alone {s : State} {v : Save} (saving : s.kop.saving = some v) (gone : s.copyThere 0 = false) :
    s.cutSave = s.fresh.2.writeCopy v.slot 1 (s.torn v 1) := by
  have gone' : s.fresh.2.copyThere 0 = false := gone
  rw [State.cutSave, saving]
  dsimp only
  rw [gone', if_neg Bool.false_ne_true, if_neg fun h => absurd h.2 Bool.false_ne_true]
  rfl

/-- The copies of a profile's slot after one write. -/
theorem State.profileCopy_once {s : State} (sorted : tsorted none s.kop.copies = true) (slot copy : Nat) (lt : copy < 2)
    (img : Bytes) (n k : Nat) (lt' : k < 2) :
    (s.fresh.2.writeCopy slot copy img).profileCopy n k = if n = slot ∧ k = copy then img else s.profileCopy n k := by
  rw [State.profileCopy_writeCopy (s := s.fresh.2) sorted]
  exact if_congr ⟨fun _ => by omega, fun _ => by omega⟩ rfl rfl

theorem State.profileCopy_twice {s : State} (sorted : tsorted none s.kop.copies = true) (slot : Nat) (img img' : Bytes)
    (n k : Nat) (lt : k < 2) :
    ((s.fresh.2.writeCopy slot 0 img).writeCopy slot 1 img').profileCopy n k =
      if n = slot ∧ k = 1 then img' else if n = slot ∧ k = 0 then img else s.profileCopy n k := by
  have sorted' : tsorted none (s.fresh.2.writeCopy slot 0 img).kop.copies = true := by
    rw [State.writeCopy_copies]
    exact tsorted_tset _ _ _ _ sorted
  rw [State.profileCopy_writeCopy sorted', State.profileCopy_once sorted slot 0 (by omega) img n k lt]
  exact if_congr ⟨fun _ => by omega, fun _ => by omega⟩ rfl rfl

/-- No other slot changes. -/
theorem State.cutSave_others {s : State} {v : Save} (saving : s.kop.saving = some v)
    (sorted : tsorted none s.kop.copies = true) {n : Nat} (ne : n ≠ v.slot) {k : Nat} (lt : k < 2) :
    s.cutSave.profileCopy n k = s.profileCopy n k := by
  by_cases there : s.copyThere 0 = true
  · rcases Nat.mod_two_eq_zero_or_one s.fresh.1.toNat with even | odd
    · rw [State.cutSave_first saving there even, State.profileCopy_once sorted _ _ (by omega) _ _ _ lt,
        if_neg fun h => ne h.1]
    · rw [State.cutSave_second saving there odd, State.profileCopy_twice sorted _ _ _ _ _ lt,
        if_neg fun h => ne h.1, if_neg fun h => ne h.1]
  · rw [State.cutSave_alone saving (Bool.eq_false_of_not_eq_true there), State.profileCopy_once sorted _ _ (by omega) _ _ _ lt,
      if_neg fun h => ne h.1]

theorem State.writeCopy_factoryBad (s : State) (slot copy : Nat) (img : Bytes) :
    (s.writeCopy slot copy img).kop.factoryBad = s.kop.factoryBad := by rw [State.writeCopy_copies]

theorem State.cutSave_factoryBad (s : State) : s.cutSave.kop.factoryBad = s.kop.factoryBad := by
  unfold State.cutSave
  split
  · rfl
  · next v _ =>
    have first : ∀ (p : Prop) [Decidable p],
        (if p then s.fresh.2.writeCopy v.slot 0 v.image else s.fresh.2).kop.factoryBad = s.kop.factoryBad := fun p _ => by
      split
      · exact State.writeCopy_factoryBad ..
      · rfl
    dsimp only
    rw [State.writeCopy_factoryBad, first]

/-- What a fall leaves, whatever it cut. -/
theorem State.unpowered_units {s r : State} (k : Frame [.free, .entries, .kop] s r) :
    r.unpowered.pins =
        { s.pins with pwrGood := false, devRstN := false, perstN := false, tripLow := false, canStopped := false } ∧
      r.unpowered.bulk = { sparing := s.bulk.sparing, lanesMapped := s.bulk.lanesMapped } ∧
      r.unpowered.store.keys = s.store.keys ∧ r.unpowered.store.slots = s.store.slots ∧
      r.unpowered.health =
        { coreState := s.health.coreState, lifeUs := s.health.lifeUs, rotating := s.health.rotating } := by
  have pins : r.pins = s.pins := k.keeps .pins rfl
  have health : r.health = s.health := k.keeps .health rfl
  have bulk := State.bulk_of_frame k rfl rfl
  have store := State.store_of_frame k rfl rfl
  rw [← pins, ← health, ← bulk, ← store]
  exact ⟨rfl, rfl, rfl, rfl, rfl⟩

end Sys2Proof.Machine
end

section
/-! SUPPORT. The edges of DEV_RST_N and Reset Hold (R60, R61, R76, R562, R569): the cold reset in its stages, and the start of
bring-up. -/
namespace Sys2Proof.Machine

theorem exec_devRstNAssert (t : Nat) (s : State) : exec (.devRstNAssert t) s = execDevRstNAssert t s := rfl

theorem exec_resetHold (t : Nat) (s : State) : exec (.resetHold t) s = execResetHold t s := rfl

theorem exec_devRstNDeassert (t : Nat) (samples : List (BitVec 2)) (s : State) :
    exec (.devRstNDeassert t samples) s = execDevRstNDeassert t samples s := rfl

/-! ### The cold reset -/

/-- The grants, the perturbation, the self-test and Installation mode end, with the Host Interface already in reset. -/
def State.coldEnded (s : State) : State :=
  ((({ s with hif := {} } : State).endGrant false).endGrant true).disarm.abandonTest.leaveInstall

/-- The units and their entries are lost. -/
def State.coldLost (s : State) : State := s.loseUnits.keepEntries keptCold

def State.coldPowered (s : State) : State := (s.setDomains 0 (List.range 80 ++ (List.range 24).map (· + 88))).powerHeld

/-- The reset's own record, over the ports' records. -/
def State.coldRecorded (s : State) (ports : Tab Port) : State :=
  { s with
    links := { ports := ports }
    kop := { s.kop with response := [], kept := [], arp := [], sbBytes := [], sbNext := 0 }
    health := { s.health with safe := false }
    dev := { mode := .reset, since := s.uptime } }

theorem State.coldReset_eq (s : State) :
    s.coldReset = (s.coldEnded.coldLost.coldPowered.coldRecorded s.coldEnded.portsOff.links.ports).resupply.recount := rfl

/-- With the Host Interface in reset its link is down, so that the end of a self-test writes nothing to host memory. -/
theorem State.coldEnded_sheltered (s : State) : Sheltered { s with hif := {} } s.coldEnded := by
  refine Sheltered.step ?_ (State.leaveInstall_frame ..) rfl rfl rfl
  refine Sheltered.trans ?_ (State.abandonTest_sheltered ..)
  refine Sheltered.step ?_ (State.disarm_frame ..) rfl rfl rfl
  exact (Sheltered.of_frame (State.endGrant_frame ..) rfl rfl rfl).step (State.endGrant_frame ..) rfl rfl rfl

theorem State.endGrant_copies (s : State) (management : Bool) : (s.endGrant management).kop.copies = s.kop.copies := by
  rw [State.endGrant_kop]
  cases management <;> rfl

theorem State.coldEnded_copies (s : State) : s.coldEnded.kop.copies = s.kop.copies := by
  have k : Frame [.free, .out, .entries, .ctxEntries, .host, .near, .nearMem, .bulk, .bulkMem, .store, .rings, .loops, .msix, .pages,
      .cmds, .steps, .array, .ctxs, .serve, .links, .health, .power] ((({ s with hif := {} } : State).endGrant false).endGrant true)
      s.coldEnded := by
    refine Frame.step (State.leaveInstall_frame ..) rfl (Frame.step (State.abandonTest_frame ..) rfl ?_)
    exact Frame.mono (State.disarm_frame ..) rfl
  rw [show _ = _ from k.keeps .kop rfl, State.endGrant_copies, State.endGrant_copies]

/-- Before the units are lost the pins and the clock are as they were. -/
theorem State.coldEnded_frame (s : State) : Frame [.free, .out, .entries, .ctxEntries, .host, .near, .nearMem, .bulk, .bulkMem, .store,
    .rings, .loops, .msix, .pages, .cmds, .steps, .array, .ctxs, .serve, .links, .kop, .health, .power] { s with hif := {} }
    s.coldEnded := by
  refine Frame.step (State.leaveInstall_frame ..) rfl (Frame.step (State.abandonTest_frame ..) rfl ?_)
  refine Frame.step (State.disarm_frame ..) rfl (Frame.step (State.endGrant_frame ..) rfl ?_)
  exact Frame.mono (State.endGrant_frame ..) rfl

/-- A device whose units a reset of a state lost. -/
structure ColdFrom (s u : State) : Prop where
  pins : u.pins = s.pins
  dev : u.dev = { mode := .reset, since := s.uptime }
  cmds : u.cmds = []
  steps : u.steps = []
  counters : u.counters = []
  owners : u.owners = []
  near : u.near.mem = []
  bulk : u.bulk = { sparing := s.bulk.sparing, lanesMapped := s.bulk.lanesMapped }
  rings : u.hif.rings = []
  array : u.array = {}
  ctxs : u.ctxs = {}
  serve : u.serve = {}
  tru : u.tru = {}
  copies : u.kop.copies = s.kop.copies
  host : u.host = s.host

/-- The domains before the record, and the supply, the events and the lock after it, leave the units lost. -/
theorem ColdFrom.of_frames {s m u : State} {ports : Tab Port} (before : Frame [.entries] s.coldLost m)
    (after : Frame [.free, .out, .entries, .msix, .health, .power] (m.coldRecorded ports) u) : ColdFrom s u where
  pins := (after.keeps .pins rfl).trans (before.keeps .pins rfl)
  dev := (after.keeps .dev rfl).trans (congrArg (fun n => ({ mode := .reset, since := n } : Dev)) (before.keeps .uptime rfl))
  cmds := (after.keeps .cmds rfl).1.trans (before.keeps .cmds rfl).1
  steps := (after.keeps .steps rfl).trans (before.keeps .steps rfl)
  counters := (after.keeps .counters rfl).trans (before.keeps .counters rfl)
  owners := (after.keeps .owners rfl).trans (before.keeps .owners rfl)
  near := (after.keeps .nearMem rfl).trans (before.keeps .nearMem rfl)
  bulk := (State.bulk_of_frame after rfl rfl).trans (State.bulk_of_frame before rfl rfl)
  rings := (after.keeps .rings rfl).trans (before.keeps .rings rfl)
  array := (after.keeps .array rfl).trans (before.keeps .array rfl)
  ctxs := (after.keeps .ctxs rfl).trans (before.keeps .ctxs rfl)
  serve := (after.keeps .serve rfl).trans (before.keeps .serve rfl)
  tru := (after.keeps .tru rfl).trans (before.keeps .tru rfl)
  copies := by
    have recorded := congrArg Kop.copies (after.keeps .kop rfl)
    have lost := congrArg Kop.copies (before.keeps .kop rfl)
    exact recorded.trans lost
  host := (after.keeps .host rfl).1.trans (before.keeps .host rfl).1

theorem State.coldPowered_frame (s : State) : Frame [.entries] s s.coldPowered :=
  Frame.step (State.powerHeld_frame _) rfl (State.setDomains_frame ..)

/-! ### DEV_RST_N_ASSERT -/

/-- The pin falls and is counted. -/
def State.rstNLow (s : State) : State :=
  ({ s with pins := { s.pins with devRstN := false } } : State).dbump 0x3030 6 0 32

/-- The entries that a reset sets, and the debug lock. -/
def State.resetLocked (s : State) : State :=
  (((s.dset 0x3030 2 0 1).dset 0x1010 1 0 0).dset 0x3010 6 0 1).settleLock

theorem State.rstNLow_frame (s : State) :
    Frame [.free, .entries] { s with pins := { s.pins with devRstN := false } } s.rstNLow := State.dbump_frame ..

theorem State.resetLocked_frame (s : State) : Frame [.free, .out, .entries, .msix, .health] s s.resetLocked :=
  Frame.step (State.settleLock_frame _) rfl (Frame.step (State.dset_frame ..) rfl (Frame.step (State.dset_frame ..) rfl
    (Frame.mono (State.dset_frame ..) rfl)))

theorem State.resetLocked_coldFrom (s : State) : ColdFrom s.coldEnded s.coldReset.resetLocked := by
  rw [State.coldReset_eq]
  refine .of_frames (State.coldPowered_frame _) (ports := s.coldEnded.portsOff.links.ports) ?_
  refine Frame.step (State.resetLocked_frame _) rfl (Frame.step (State.recount_frame _) rfl ?_)
  exact Frame.mono (State.resupply_frame _) rfl

theorem execDevRstNAssert_of_up {s : State} (t : Nat) (on : s.powered = true) (high : s.pins.devRstN = true)
    (untripped : s.dev.mode ≠ .tripped) :
    execDevRstNAssert t s = .next (s.at t).rstNLow.coldReset.resetLocked := by
  have mode : (s.at t).rstNLow.dev.mode ≠ .tripped := by
    rw [show _ = _ from (State.rstNLow_frame (s.at t)).keeps .dev rfl]
    exact untripped
  have untaken : ¬(!s.powered || !s.pins.devRstN) = true := by simp [on, high]
  rw [execDevRstNAssert, if_neg untaken]
  exact congrArg Host.Outcome.next (congrArg State.settleLock (if_neg mode))

/-- A cold reset of a powered device: its units are lost, host memory and the spare channels are as they were. -/
theorem State.coldFrom_assert (s : State) :
    s.rstNLow.coldReset.resetLocked.pins = { s.pins with devRstN := false } ∧
      s.rstNLow.coldReset.resetLocked.dev = { mode := .reset, since := s.uptime } ∧
      s.rstNLow.coldReset.resetLocked.bulk.mem = [] ∧
      s.rstNLow.coldReset.resetLocked.bulk.sparing = s.bulk.sparing ∧
      s.rstNLow.coldReset.resetLocked.kop.copies = s.kop.copies ∧
      s.rstNLow.coldReset.resetLocked.host = s.host := by
  have low := s.rstNLow_frame
  have cold := s.rstNLow.resetLocked_coldFrom
  have ended := s.rstNLow.coldEnded_frame
  have sheltered := s.rstNLow.coldEnded_sheltered
  have copies := s.rstNLow.coldEnded_copies
  generalize s.rstNLow.coldReset.resetLocked = u at cold
  generalize s.rstNLow.coldEnded = e at cold ended sheltered copies
  generalize s.rstNLow = r at low ended sheltered copies
  have spare := State.bulk_of_frame low rfl rfl
  have time : e.uptime = s.uptime := (ended.keeps .uptime rfl).trans (low.keeps .uptime rfl)
  refine ⟨cold.pins.trans ((ended.keeps .pins rfl).trans (low.keeps .pins rfl)), cold.dev.trans (by rw [time]),
    congrArg Bulk.mem cold.bulk, ?_, cold.copies.trans (copies.trans (congrArg Kop.copies (low.keeps .kop rfl))),
    cold.host.trans ((sheltered.host rfl).trans (low.keeps .host rfl).1)⟩
  exact (congrArg Bulk.sparing cold.bulk).trans (sheltered.sparing.trans (congrArg Bulk.sparing spare))

/-! ### RESET_HOLD -/

/-- The supply domains are off, and the device is in Reset Hold. -/
def State.held (s : State) : State :=
  let s := s.setDomains 0 ((List.range 6).map (· + 112))
  { s with dev := { s.dev with mode := .hold, since := s.uptime } }

theorem execResetHold_of_due {s : State} {t : Nat} (mode : s.dev.mode = .reset) (low : s.pins.devRstN = false)
    (due : s.dev.since + 30000000000 ≤ t) : execResetHold t s = .next (s.at t).held := by
  rw [execResetHold, if_pos ⟨mode, low, due⟩]
  rfl

theorem State.held_dev (s : State) : s.held.dev = { s.dev with mode := .hold, since := s.uptime } := by
  have k := State.setDomains_frame s 0 ((List.range 6).map (· + 112))
  unfold State.held
  dsimp only
  rw [show _ = _ from k.keeps .dev rfl, show _ = _ from k.keeps .uptime rfl]

theorem State.held_alertLow {s : State} (driven : s.driven = true) : s.held.alertLow = true := by
  have pins : s.held.pins = s.pins := (State.setDomains_frame s 0 _).keeps .pins rfl
  have driven' : s.held.driven = true := by rw [State.driven, pins, ← State.driven, driven]
  simp [State.alertLow, driven', s.held_dev]

/-! ### DEV_RST_N_DEASSERT -/

theorem State.event_tap (s : State) (type code subject detail : Nat) :
    (s.event type code subject detail).health.tap = s.health.tap := by rw [State.event_health, State.withRecord]

/-- The debug lock takes a state: at 0 the output is released, and every other one is an event. -/
def State.locked (s : State) (v : Nat) : State :=
  let t := s.dset 0x6010 2 0 v
  if v = 0 then { t with health := { t.health with tap := { t.health.tap with tdo := none } } } else t.event 10 4 0 v

theorem State.locked_tap (s : State) (v : Nat) : (s.locked v).health.tap.state = s.health.tap.state := by
  have entry : (s.dset 0x6010 2 0 v).health = s.health := (State.dset_frame ..).keeps .health rfl
  unfold State.locked
  dsimp only
  split
  · dsimp only
    rw [entry]
  · rw [State.event_tap, entry]

theorem State.settleLock_tap (s : State) : s.settleLock.health.tap.state = s.health.tap.state := by
  unfold State.settleLock
  dsimp only
  generalize (if !s.pins.devRstN then (if s.lockMode = 0 then 0 else 1) else if s.lockMode = 2 then 2 else 0) = v
  split
  · rfl
  · exact s.locked_tap v

/-- The time in Reset Hold is recorded when it ends. -/
def State.holdTimed (s : State) : State :=
  if s.dev.mode = .hold then s.dput 0x3030 5 0 32 ((s.uptime - 10000 - s.dev.since) / 1000000000) else s

/-- The profile's slot is that of the samples that agree, or 0, which is logged (log entry 83). -/
def State.slotSelected (s : State) (samples : List (BitVec 2)) : State :=
  match selected samples with
  | some v => { s with pins := { s.pins with profileSel := v } }
  | none => ({ s with pins := { s.pins with profileSel := 0 } } : State).profileLog 0 0 0 { cause := 8 }

/-- The pin rises and the test port is in reset. -/
def State.rstNHigh (s : State) : State :=
  { s with
    health := { s.health with tap := s.health.tap.reset }
    pins := { s.pins with devRstN := true }
    dev := { mode := .reset, since := s.uptime } }

/-- The state that the rise of the pin leaves, before bring-up or the wait for the rails. -/
def State.rstNRisen (s : State) (samples : List (BitVec 2)) : State :=
  (s.holdTimed.slotSelected samples).rstNHigh

theorem State.holdTimed_frame (s : State) : Frame [.free, .entries] s s.holdTimed :=
  Frame.ite (State.dput_frame ..) (Frame.refl _ s)

theorem State.slotSelected_frame (s : State) (samples : List (BitVec 2)) :
    Frame [.entries, .kop] { s with pins := { s.pins with profileSel := (selected samples).getD 0 } } (s.slotSelected samples) := by
  unfold State.slotSelected
  split
  · next v agreed =>
    rw [agreed]
    exact Frame.refl _ _
  · next apart =>
    rw [apart]
    exact State.profileLog_frame ..

theorem State.rstNRisen_facts (s : State) (samples : List (BitVec 2)) :
    (s.rstNRisen samples).pins = { s.pins with profileSel := (selected samples).getD 0, devRstN := true } ∧
      (s.rstNRisen samples).dev = { mode := .reset, since := s.uptime } ∧ (s.rstNRisen samples).uptime = s.uptime ∧
      (s.rstNRisen samples).health.tap.state = .reset := by
  have timed := s.holdTimed_frame
  have slot := s.holdTimed.slotSelected_frame samples
  unfold State.rstNRisen
  generalize s.holdTimed.slotSelected samples = r at slot
  generalize s.holdTimed = q at timed slot
  have pins : r.pins = { s.pins with profileSel := (selected samples).getD 0 } :=
    (slot.keeps .pins rfl).trans (congrArg (fun p : Pins => { p with profileSel := (selected samples).getD 0 })
      (timed.keeps .pins rfl))
  have time : r.uptime = s.uptime := (slot.keeps .uptime rfl).trans (timed.keeps .uptime rfl)
  exact ⟨congrArg (fun p : Pins => { p with devRstN := true }) pins,
    congrArg (fun n => ({ mode := .reset, since := n } : Dev)) time, time, rfl⟩

theorem execDevRstNDeassert_of_low {s : State} (t : Nat) (samples : List (BitVec 2)) (low : s.pins.devRstN = false)
    (cool : s.pins.tripLow = false) (mode : s.dev.mode = .reset ∨ s.dev.mode = .hold) :
    execDevRstNDeassert t samples s = .next
      (if ((s.at t).rstNRisen samples).pins.railsOut.isEmpty then
        (if s.dev.mode = .hold then ((s.at t).rstNRisen samples).powerHeld else (s.at t).rstNRisen samples).beginBringup
      else (s.at t).rstNRisen samples).settleLock := by
  have taken : ¬(s.pins.devRstN || s.pins.tripLow || !(decide (s.dev.mode = .reset) || decide (s.dev.mode = .hold))) = true := by
    rcases mode with mode | mode <;> simp [low, cool, mode]
  rw [execDevRstNDeassert, if_neg taken]
  rfl

end Sys2Proof.Machine
end

section
/-! SUPPORT. PWR_GOOD, DEV_RST_N and Reset Hold (R59-R61, R76, R562, R565, R567, R569): the clauses of the obligation. -/
namespace Sys2Proof.Machine

/-- The rise of DEV_RST_N with every rail in tolerance begins bring-up. -/
theorem State.bringup_facts (s : State) (samples : List (BitVec 2)) (held : Prop) [Decidable held] :
    let u := (if held then (s.rstNRisen samples).powerHeld else s.rstNRisen samples).beginBringup.settleLock
    u.pins = { s.pins with profileSel := (selected samples).getD 0, devRstN := true } ∧
      u.dev = { mode := .bringUp, since := s.uptime, dTime := max s.uptime 10000000 } ∧ u.health.tap.state = .reset := by
  obtain ⟨pins, -, time, tap⟩ := s.rstNRisen_facts samples
  have k : Frame [.entries] (s.rstNRisen samples) (if held then (s.rstNRisen samples).powerHeld else s.rstNRisen samples) :=
    Frame.ite (State.powerHeld_frame _) (Frame.refl _ _)
  generalize (if held then (s.rstNRisen samples).powerHeld else s.rstNRisen samples) = r at k
  generalize s.rstNRisen samples = q at k pins time tap
  have lock := r.beginBringup.settleLock_frame
  have clock : r.uptime = s.uptime := (k.keeps .uptime rfl).trans time
  have health : r.health = q.health := k.keeps .health rfl
  have dev : r.beginBringup.dev = { mode := .bringUp, since := s.uptime, dTime := max s.uptime 10000000 } := by
    rw [State.beginBringup, clock]
  refine ⟨(lock.keeps .pins rfl).trans ((k.keeps .pins rfl).trans pins), (lock.keeps .dev rfl).trans dev, ?_⟩
  rw [State.settleLock_tap, State.beginBringup, health, tap]

/-- While a rail is out the rise leaves the device in reset. -/
theorem State.stillReset_facts (s : State) (samples : List (BitVec 2)) :
    (s.rstNRisen samples).settleLock.pins = { s.pins with profileSel := (selected samples).getD 0, devRstN := true } ∧
      (s.rstNRisen samples).settleLock.dev = { mode := .reset, since := s.uptime } ∧
      (s.rstNRisen samples).settleLock.health.tap.state = .reset := by
  obtain ⟨pins, dev, -, tap⟩ := s.rstNRisen_facts samples
  have lock := (s.rstNRisen samples).settleLock_frame
  exact ⟨(lock.keeps .pins rfl).trans pins, (lock.keeps .dev rfl).trans dev, (State.settleLock_tap _).trans tap⟩

theorem State.riseSettled_canonical {s : State} (off : s.powered = false) (rails : s.pins.railsOut.any railAlwaysOn = false)
    (can : Canonical s) : Canonical s.riseSettled :=
  (execPwrGoodRise_canonical (execPwrGoodRise_of_unpowered off rails) can).1

/-- The rise is refused while an always-on rail is out. -/
theorem execPwrGoodRise_of_rail_out {s : State} (out : s.pins.railsOut.any railAlwaysOn = true) :
    execPwrGoodRise s = .next s := by
  rw [execPwrGoodRise, if_pos (by rw [out, Bool.or_true])]

theorem State.profileCopy_unpowered (s : State) (n k : Nat) : s.unpowered.profileCopy n k = s.profileCopy n k := rfl

/-- What a fall in the middle of a save leaves beside the copies of its slot. -/
theorem State.fall_midSave {s : State} {v : Save} (saving : s.kop.saving = some v) (sorted : tsorted none s.kop.copies = true) :
    s.cutSave.unpowered.uptime = s.uptime ∧
      s.cutSave.unpowered.kop = { copies := s.cutSave.unpowered.kop.copies, factoryBad := s.kop.factoryBad } ∧
      (∀ n, n ≠ v.slot → ∀ k < 2, s.cutSave.unpowered.profileCopy n k = s.profileCopy n k) ∧
      s.cutSave.unpowered.pins =
        { s.pins with pwrGood := false, devRstN := false, perstN := false, tripLow := false, canStopped := false } ∧
      s.cutSave.unpowered.bulk = { sparing := s.bulk.sparing, lanesMapped := s.bulk.lanesMapped } ∧
      s.cutSave.unpowered.store.keys = s.store.keys ∧ s.cutSave.unpowered.store.slots = s.store.slots ∧
      s.cutSave.unpowered.health =
        { coreState := s.health.coreState, lifeUs := s.health.lifeUs, rotating := s.health.rotating } := by
  have time : s.cutSave.uptime = s.uptime := s.cutSave_frame.keeps .uptime rfl
  have bad := s.cutSave_factoryBad
  have others : ∀ n, n ≠ v.slot → ∀ k < 2, s.cutSave.profileCopy n k = s.profileCopy n k := fun _ ne _ lt =>
    State.cutSave_others saving sorted ne lt
  have units := State.unpowered_units s.cutSave_frame
  generalize s.cutSave = r at *
  refine ⟨time, ?_, others, units⟩
  rw [← bad]
  rfl

/-- Settles O14: each edge where its condition holds, through the rise, the loss of the units, the torn copy of a profile and the
stages of a cold reset. -/
theorem powerAndReset : Obligations.PowerAndReset := by
  unfold Obligations.PowerAndReset
  refine ⟨fun s off rails => ?_, fun t s on idle => ?_, fun t s on high untripped => ?_, fun t s mode low driven due => ?_,
    fun t samples s low cool mode rails => ?_, fun t samples s low cool mode rails => ?_,
    fun s _ out => (exec_pwrGoodRise s).trans (execPwrGoodRise_of_rail_out out),
    fun t v s on saving sorted there => ?_, fun t v s on saving sorted gone => ?_⟩
  · have k := s.riseSettled_frame
    refine ⟨_, execPwrGoodRise_of_unpowered off rails, s.riseSettled_uptime, k.keeps .cdu rfl, k.keeps .dev rfl, k.keeps .pins rfl,
      fun can none => (State.riseSettled_domains can none).1, fun can none => (State.riseSettled_domains can none).2,
      fun r one => ?_, k.hostDown, State.riseSettled_canonical off rails, ?_⟩
    · rw [State.riseSettled_of_rail one]
      exact State.logged_event _ (le_refl 1) ..
    · exact Frame.step k rfl (Frame.mono s.risen_frame rfl)
  · have run := execPwrGoodFall_of_powered t on
    have k := execPwrGoodFall_frame run
    rw [State.powerDown_of_idle (s := s.at t) idle] at run k
    exact ⟨_, run, rfl, rfl, rfl, rfl, rfl, rfl, rfl, rfl, rfl, rfl, rfl, rfl, rfl, rfl, rfl, rfl, rfl, rfl, rfl, rfl, rfl, rfl, rfl, k⟩
  · have run := execDevRstNAssert_of_up t on high untripped
    have k := execDevRstNAssert_frame run
    have cold := (s.at t).rstNLow.resetLocked_coldFrom
    obtain ⟨pins, dev, mem, sparing, copies, host⟩ := (s.at t).coldFrom_assert
    exact ⟨_, run, pins, dev, cold.cmds, cold.steps, cold.counters, cold.owners, cold.near, mem, cold.rings, cold.array, sparing,
      cold.ctxs, cold.serve, cold.tru, copies, host, k⟩
  · have run := execResetHold_of_due mode low due
    exact ⟨_, run, (s.at t).held_dev, State.held_alertLow (s := s.at t) driven, execResetHold_frame run⟩
  · have run := execDevRstNDeassert_of_low t samples low cool mode
    obtain ⟨risen, -, -, -⟩ := (s.at t).rstNRisen_facts samples
    have none : ((s.at t).rstNRisen samples).pins.railsOut.isEmpty = true := by
      rw [risen]
      exact List.isEmpty_iff.mpr rails
    rw [if_pos none] at run
    obtain ⟨pins, dev, tap⟩ := (s.at t).bringup_facts samples (s.dev.mode = .hold)
    exact ⟨_, run, congrArg Pins.devRstN pins, congrArg Pins.profileSel pins, dev, tap, execDevRstNDeassert_frame run⟩
  · have run := execDevRstNDeassert_of_low t samples low cool mode
    obtain ⟨risen, -, -, -⟩ := (s.at t).rstNRisen_facts samples
    have some : ¬((s.at t).rstNRisen samples).pins.railsOut.isEmpty = true := by
      rw [risen]
      exact fun h => rails (List.isEmpty_iff.mp h)
    rw [if_neg some] at run
    obtain ⟨pins, dev, tap⟩ := (s.at t).stillReset_facts samples
    exact ⟨_, run, congrArg Pins.devRstN pins, congrArg Pins.profileSel pins, dev, tap, execDevRstNDeassert_frame run⟩
  · have run := execPwrGoodFall_of_powered t on
    have k := execPwrGoodFall_frame run
    rw [State.powerDown_eq] at run k
    have second := State.cutSave_second (s := s.at t) saving there
    have first := State.cutSave_first (s := s.at t) saving there
    have twice := State.profileCopy_twice (s := s.at t) sorted v.slot v.image ((s.at t).torn v 1)
    have once := State.profileCopy_once (s := s.at t) sorted v.slot 0 (by omega) ((s.at t).torn v 0)
    obtain ⟨time, kop, others, pins, bulk, keys, slots, health⟩ := State.fall_midSave (s := s.at t) saving sorted
    generalize (s.at t).cutSave = r at *
    refine ⟨_, run, time, rfl, fun odd => ⟨?_, ?_⟩, fun even => ⟨?_, ?_⟩, others, kop, pins, rfl, rfl, rfl, rfl, rfl, bulk, rfl, rfl,
      rfl, rfl, rfl, rfl, rfl, rfl, keys, slots, health, rfl, k⟩
    · rw [State.profileCopy_unpowered, second odd, twice _ _ (by omega), if_neg fun h => absurd h.2 Nat.zero_ne_one, if_pos ⟨rfl, rfl⟩]
    · rw [State.profileCopy_unpowered, second odd, twice _ _ (by omega), if_pos ⟨rfl, rfl⟩]
      rfl
    · rw [State.profileCopy_unpowered, first even, once _ _ (by omega), if_pos ⟨rfl, rfl⟩]
      rfl
    · rw [State.profileCopy_unpowered, first even, once _ _ (by omega), if_neg fun h => absurd h.2 Nat.one_ne_zero]
      rfl
  · have run := execPwrGoodFall_of_powered t on
    have k := execPwrGoodFall_frame run
    rw [State.powerDown_eq] at run k
    have alone := State.cutSave_alone (s := s.at t) saving gone
    have once := State.profileCopy_once (s := s.at t) sorted v.slot 1 (by omega) ((s.at t).torn v 1)
    obtain ⟨time, kop, others, pins, bulk, keys, slots, health⟩ := State.fall_midSave (s := s.at t) saving sorted
    generalize (s.at t).cutSave = r at *
    refine ⟨_, run, time, rfl, ?_, ?_, others, kop, pins, rfl, rfl, rfl, rfl, rfl, bulk, rfl, rfl, rfl, rfl, rfl, rfl, rfl, rfl, keys,
      slots, health, rfl, k⟩
    · rw [State.profileCopy_unpowered, alone, once _ _ (by omega), if_neg fun h => absurd h.2 Nat.zero_ne_one]
      rfl
    · rw [State.profileCopy_unpowered, alone, once _ _ (by omega), if_pos ⟨rfl, rfl⟩]
      rfl

end Sys2Proof.Machine
end

section
/-! SUPPORT. What the read of a Route image leaves of the device dictionary (R85, R176): it brings domains On, and the pools with
their holders read as before. -/

namespace Sys2Proof.Machine

/-- The device entries below those of the domains read the same in two states. -/
def SameBelowDomains (s t : State) : Prop := ∀ i j e, dkey i j e < dkey 0x3040 1 0 → t.dget i j e = s.dget i j e

namespace SameBelowDomains

theorem refl (s : State) : SameBelowDomains s s := fun _ _ _ _ => rfl

theorem trans {r s t : State} (h : SameBelowDomains r s) (k : SameBelowDomains s t) : SameBelowDomains r t :=
  fun i j e low => (k i j e low).trans (h i j e low)

theorem of_frame {g : List Zone} {s t : State} (k : Frame g s t) (out : g.contains .entries = false) : SameBelowDomains s t :=
  fun i j e _ => State.dget_of_frame k out i j e

theorem ite {p : Prop} [Decidable p] {r a b : State} (h : SameBelowDomains r a) (k : SameBelowDomains r b) :
    SameBelowDomains r (if p then a else b) := by
  split <;> assumption

theorem foldl {α : Type} {f : State → α → State} (each : ∀ s x, SameBelowDomains s (f s x)) (l : List α) (s : State) :
    SameBelowDomains s (l.foldl f s) :=
  List.foldlRecOn (motive := SameBelowDomains s) l f (refl s) fun _ h x _ => h.trans (each _ x)

end SameBelowDomains

/-- A domain comes On. -/
theorem State.domainOn_below (s : State) (n : Nat) : SameBelowDomains s (s.dset 0x3040 1 n 2) := by
  intro i j e low
  have ne : dkey i j e ≠ dkey 0x3040 1 n := by unfold dkey at *; omega
  have on : ¬ 2 = deviceDefault 0x3040 1 := by decide
  have put : (s.dset 0x3040 1 n 2).dict = tput s.dict (dkey 0x3040 1 n) 2 := by rw [State.dset, tset, if_neg on]
  rw [State.dget, put, tget_tput_of_ne _ _ _ ne, State.dget]

theorem State.touchNear_below (s : State) (prn : Nat) : SameBelowDomains s (s.touchNear prn) := by
  unfold State.touchNear
  extract_lets on _ t
  have each (u : State) (n : Nat) : SameBelowDomains u (on u n) := .ite (u.domainOn_below n) (.refl u)
  exact (show SameBelowDomains s t from .refl s).trans ((each _ _).trans (each _ _))

theorem State.touchBulk_below (s : State) (stack : Nat) : SameBelowDomains s (s.touchBulk stack) :=
  .ite (State.domainOn_below _ _) (.refl s)

theorem State.touchWalk_below (s : State) (c va : Nat) : SameBelowDomains s (s.touchWalk c va) :=
  .foldl (fun s a => s.touchBulk_below (a / 2 ^ 36)) _ s

theorem State.translateBulk_below (s : State) (unit c va : Nat) : SameBelowDomains s (s.translateBulk unit c va) := by
  unfold State.translateBulk
  dsimp only
  split
  · exact .ite (.refl s) (.ite (.of_frame (State.takePage_frame ..) rfl)
      ((s.touchWalk_below c va).trans (.of_frame (State.cacheWalk_frame ..) rfl)))
  · exact s.touchWalk_below c va

theorem State.cachePage_below (s : State) (unit c va : Nat) : SameBelowDomains s (s.cachePage unit c va) := by
  unfold State.cachePage
  split
  · exact (s.translateBulk_below unit c va).trans (State.touchBulk_below _ _)
  · exact s.translateBulk_below unit c va

theorem State.cacheNear_below (s : State) (unit c va : Nat) : SameBelowDomains s (s.cacheNear unit c va) := by
  unfold State.cacheNear
  split
  · exact (s.touchNear_below _).trans (.of_frame (State.cacheRegion_frame ..) rfl)
  · exact .of_frame (State.cacheRegion_frame ..) rfl

theorem State.accessPage_below (s : State) (unit c va : Nat) : SameBelowDomains s (s.accessPage unit c va) := by
  unfold State.accessPage
  split
  · exact s.cacheNear_below unit c va
  · exact s.cachePage_below unit c va
  · exact .of_frame (State.cacheHost_frame ..) rfl
  · exact .refl s

theorem State.accessed_below (s : State) (unit c va n : Nat) : SameBelowDomains s (s.accessed unit c va n) :=
  .foldl (fun s _ => s.accessPage_below unit c _) _ s

theorem State.imageSeen_below (s : State) (c va : Nat) : SameBelowDomains s (s.imageSeen c va) := by
  unfold State.imageSeen
  split
  · exact s.accessed_below _ _ _ _
  · exact s.accessed_below _ _ _ _

theorem mem_clustersOf {fp : BitVec 64} {cl : Nat} : cl ∈ clustersOf fp ↔ cl < 64 ∧ fp.getLsbD cl = true := by
  simp [clustersOf]

theorem SameBelowDomains.poolOfFootprint {s t : State} (h : SameBelowDomains s t) (fp : BitVec 64) :
    t.poolOfFootprint fp = s.poolOfFootprint fp := by
  unfold State.poolOfFootprint
  split
  next cl _ e =>
    have small : cl < 64 := (mem_clustersOf.mp (e ▸ List.mem_cons_self)).1
    have low : dkey 0x2300 1 cl < dkey 0x3040 1 0 := by unfold dkey; omega
    rw [State.poolOf, State.poolOf, State.assign, State.assign, h _ _ _ low]
  · rfl

theorem State.attached_lt {s : State} {c p : Nat} (h : s.attached c = some p) : p < 16 := by
  unfold State.attached at h
  dsimp only at h
  split_ifs at h with _ lt
  cases h
  exact lt

theorem SameBelowDomains.holdsGrant {s t : State} (h : SameBelowDomains s t) (entries : t.cdict = s.cdict)
    (ctxs : t.ctxs = s.ctxs) (c : Nat) : t.holdsGrant c = s.holdsGrant c := by
  have same : t.attached c = s.attached c := by
    simp only [State.attached, State.cget_of_cdict entries]
  rw [State.holdsGrant, same, State.holdsGrant]
  cases e : s.attached c with
  | none => rfl
  | some p =>
    have lt := State.attached_lt e
    have low : dkey 0x2300 4 p < dkey 0x3040 1 0 := by unfold dkey; omega
    have holder : t.holder p = s.holder p := by simp only [State.holder, h _ _ _ low]
    simp only [Option.any_some, State.holdsPool, holder, ctxs]

end Sys2Proof.Machine
end

section
/-! SUPPORT. What keeps the Routes of the array and the loads that stand, and what a Route that has become resident survives
(R176, R180, R345). -/

namespace Sys2Proof.Machine

/-- The Routes read the same in two states, and so do the commands of the loads that stand. -/
structure RoutesKept (s t : State) : Prop where
  routes : t.array.routes = s.array.routes
  loads : t.array.loads.map (·.cmd) = s.array.loads.map (·.cmd)

namespace RoutesKept

theorem refl (s : State) : RoutesKept s s := ⟨rfl, rfl⟩

theorem trans {r s t : State} (h : RoutesKept r s) (k : RoutesKept s t) : RoutesKept r t :=
  ⟨k.routes.trans h.routes, k.loads.trans h.loads⟩

theorem of_array {s t : State} (h : t.array = s.array) : RoutesKept s t := ⟨by rw [h], by rw [h]⟩

theorem of_frame {g : List Zone} {s t : State} (k : Frame g s t) (out : g.contains .array = false) : RoutesKept s t :=
  .of_array (k.keeps .array out)

theorem ite {p : Prop} [Decidable p] {r a b : State} (h : RoutesKept r a) (k : RoutesKept r b) :
    RoutesKept r (if p then a else b) := by
  split <;> assumption

theorem foldl {α : Type} {f : State → α → State} (each : ∀ s x, RoutesKept s (f s x)) (l : List α) (s : State) :
    RoutesKept s (l.foldl f s) :=
  List.foldlRecOn (motive := RoutesKept s) l f (refl s) fun _ h x _ => h.trans (each _ x)

end RoutesKept

theorem State.rappel_routesKept (s : State) (fp : BitVec 64) (c : Nat) (why : Purpose) : RoutesKept s (s.rappel fp c why) :=
  ⟨State.rappel_routes .., by rw [State.rappel_loads]⟩

theorem State.rappel_evictions (s : State) (fp : BitVec 64) (c : Nat) (why : Purpose) :
    (s.rappel fp c why).array.evictions = s.array.evictions := by
  by_cases found : (s.array.rappels.any fun r => decide (r.footprint = fp)) = true
  · rw [State.rappel, if_pos found]
  · rw [State.rappel_array_of_new c why found]

/-- The staging area of a cluster is cut to its size: nothing of the array changes but the staged images. -/
theorem State.trimStage_array (s : State) (cl : Nat) : ∃ gs, (s.trimStage cl).array = { s.array with staged := gs } := by
  unfold State.trimStage
  dsimp only
  split
  · exact ⟨_, rfl⟩
  · split
    · exact ⟨_, rfl⟩
    · exact ⟨_, rfl⟩

theorem State.trimStages_array (s : State) (fp : BitVec 64) :
    ∃ gs, (s.trimStages fp).array = { s.array with staged := gs } := by
  refine List.foldlRecOn (motive := fun t : State => ∃ gs, t.array = { s.array with staged := gs }) (clustersOf fp)
    State.trimStage ⟨_, rfl⟩ fun t h cl _ => ?_
  obtain ⟨gs, e⟩ := h
  obtain ⟨gs', e'⟩ := t.trimStage_array cl
  exact ⟨gs', by rw [e', e]⟩

theorem State.stageOnce_array (s : State) (c id : Nat) (fp : BitVec 64) (address : Nat) (b : Bytes) :
    ∃ gs k, (s.stageOnce c id fp address b).array = { s.array with staged := gs, rankClock := k } := by
  unfold State.stageOnce
  split
  · exact ⟨_, _, rfl⟩
  · unfold State.stageImage
    dsimp only
    have clean (t : State) : ((clustersOf fp).foldl State.cleanStage t).array = t.array :=
      (Frame.foldl _ State.cleanStage_frame (Frame.refl [.near] t)).keeps .array rfl
    rw [clean]
    obtain ⟨gs, e⟩ := State.trimStages_array _ fp
    exact ⟨gs, _, e⟩

theorem State.trimStages_routesKept (s : State) (fp : BitVec 64) : RoutesKept s (s.trimStages fp) := by
  obtain ⟨gs, e⟩ := s.trimStages_array fp
  exact ⟨by rw [e], by rw [e]⟩

theorem State.stageOnce_routesKept (s : State) (c id : Nat) (fp : BitVec 64) (address : Nat) (b : Bytes) :
    RoutesKept s (s.stageOnce c id fp address b) := by
  obtain ⟨gs, k, e⟩ := s.stageOnce_array c id fp address b
  exact ⟨by rw [e], by rw [e]⟩

theorem State.endWait_routesKept (s : State) (cl : Nat) : RoutesKept s (s.endWait cl) := by
  unfold State.endWait
  dsimp only
  split
  · exact .refl s
  · exact ⟨rfl, rfl⟩

theorem State.countFreeze_routesKept (s : State) (cl : Nat) : RoutesKept s (s.countFreeze cl) := by
  have counted : RoutesKept s ({ s with free := s.free + 1 } : State) := ⟨rfl, rfl⟩
  exact .ite ((counted.trans (State.endWait_routesKept _ cl)).trans (.of_frame (State.dbump_frame ..) rfl)) (.refl s)

theorem State.clearFootprint_routesKept (s : State) (fp : BitVec 64) : RoutesKept s (s.clearFootprint fp) := by
  obtain ⟨routes, loads⟩ := RoutesKept.foldl State.countFreeze_routesKept (clustersOf fp) s
  exact ⟨routes, loads⟩

theorem State.preload_routesKept (s : State) (c core off : Nat) (b : Bytes) : RoutesKept s (s.preload c core off b) := by
  obtain ⟨routes, loads⟩ : RoutesKept s (s.sliceWrite c none core off b) := .of_frame (State.sliceWrite_frame ..) rfl
  exact ⟨routes, loads⟩

theorem State.startSwitch_routesKept (s : State) (p w : Nat) : RoutesKept s (s.startSwitch p w) := by
  unfold State.startSwitch
  extract_lets out _ _ t v
  have noted : RoutesKept s v :=
    (show RoutesKept s t from ⟨rfl, rfl⟩).trans <| .of_frame (g := [.free, .entries, .ctxEntries, .bulk])
      (Frame.step (State.dropPoolEntries_frame ..) rfl (Frame.step (State.cbump_frame ..) rfl
        (Frame.step (State.dbump_frame ..) rfl (Frame.mono (State.dset_frame ..) rfl)))) rfl
  clear_value v out
  split
  · exact noted
  · exact (noted.trans (.of_frame (State.dropPoolEntries_frame ..) rfl)).trans
      (.foldl (fun _ _ => State.rappel_routesKept ..) _ _)

theorem State.grantDecision_routesKept (s : State) (p : Nat) : RoutesKept s (s.grantDecision p) := by
  unfold State.grantDecision
  split
  · exact .refl s
  · split
    · exact s.startSwitch_routesKept ..
    · exact .refl s

theorem State.decideGrantOf_routesKept (s : State) (c : Nat) : RoutesKept s (s.decideGrantOf c) := by
  unfold State.decideGrantOf
  split
  · exact s.grantDecision_routesKept _
  · exact .refl s

theorem State.completeOn_routesKept (s : State) (c : Cmd) (status value : Nat) : RoutesKept s (s.completeOn c status value) := by
  have done : RoutesKept s (s.complete c status value) := .of_frame (State.complete_frame ..) rfl
  exact .ite (done.trans (State.decideGrantOf_routesKept ..)) done

theorem State.closeEviction_routesKept (s : State) (cmd status value : Nat) :
    RoutesKept s (s.closeEviction cmd status value) := by
  unfold State.closeEviction
  extract_lets _ t
  have closed : RoutesKept s t := ⟨rfl, rfl⟩
  split
  · exact closed.trans (.of_frame (State.complete_frame ..) rfl)
  · exact closed

theorem State.closeEviction_evictions (s : State) (cmd status value : Nat) :
    (s.closeEviction cmd status value).array.evictions = s.array.evictions.filter fun e => decide (e.1 ≠ cmd) := by
  unfold State.closeEviction
  extract_lets _ t
  split
  · exact congrArg Array.evictions ((State.complete_frame t ..).keeps .array rfl)
  · rfl

/-- The command of an eviction that is over is no longer in flight. -/
theorem State.closeEviction_cmd (s : State) (cmd status value : Nat) : (s.closeEviction cmd status value).cmd cmd = none := by
  unfold State.closeEviction
  extract_lets _ t
  split
  next d found =>
    have named := t.complete_cmd d status value 0 0
    rwa [State.cmd_id found] at named
  next gone => exact gone

theorem State.evictRoute_routes (s : State) (c id : Nat) :
    (s.evictRoute c id).array.routes = s.array.routes.filter fun r => !(decide (r.ctx = c) && decide (r.id = id)) :=
  (State.trimStages_routesKept _ _).routes

theorem State.evictRoute_loads (s : State) (c id : Nat) :
    (s.evictRoute c id).array.loads.map (·.cmd) = s.array.loads.map (·.cmd) :=
  (State.trimStages_routesKept _ _).loads

theorem State.evictRoute_evictions (s : State) (c id : Nat) :
    (s.evictRoute c id).array.evictions = s.array.evictions := by
  rw [State.evictRoute]
  obtain ⟨gs, e⟩ := State.trimStages_array ({ s with array := { s.array with routes := s.array.routes.filter fun r =>
    !(decide (r.ctx = c) && decide (r.id = id)) } } : State) (((s.routeOf c id).map (·.footprint)).getD 0)
  rw [e]

/-! ### Loads and evictions that go on -/

theorem kickLoad_routesKept (s : State) (l : LoadRun) : RoutesKept s (kickLoad s l) := by
  unfold kickLoad
  split
  · exact .refl s
  next l _ =>
    extract_lets _ _ _ drained
    have drains : RoutesKept s { s with array := drained } := by
      refine ⟨rfl, ?_⟩
      simp only [drained, List.map_map]
      refine List.map_congr_left fun m _ => ?_
      dsimp only [Function.comp]
      split <;> rfl
    exact .ite (.refl s) (drains.trans (.foldl (fun _ _ => State.rappel_routesKept ..) _ _))

theorem kickEviction_loads (s : State) (e : Nat × Nat × Nat) :
    (kickEviction s e).array.loads.map (·.cmd) = s.array.loads.map (·.cmd) := by
  unfold kickEviction
  split
  · split
    · rfl
    · exact (State.closeEviction_routesKept ..).loads
  · split
    · rfl
    · split
      · exact (State.closeEviction_routesKept ..).loads.trans (State.evictRoute_loads ..)
      · split
        · rfl
        · exact (State.rappel_routesKept ..).loads

theorem State.kickLoads_routesKept (s : State) : RoutesKept s (s.array.loads.foldl kickLoad s) :=
  .foldl kickLoad_routesKept _ s

theorem State.kick_loads (s : State) : s.kick.array.loads.map (·.cmd) = s.array.loads.map (·.cmd) :=
  List.foldlRecOn (motive := fun t : State => t.array.loads.map (·.cmd) = s.array.loads.map (·.cmd)) _ kickEviction
    s.kickLoads_routesKept.loads fun t h e _ => (kickEviction_loads t e).trans h

theorem State.kick_of_no_eviction {s : State} (none : s.array.evictions = []) : s.kick = s.array.loads.foldl kickLoad s := by
  rw [State.kick, none, List.foldl_nil]

theorem State.kick_routesKept_of_no_eviction {s : State} (none : s.array.evictions = []) : RoutesKept s s.kick :=
  State.kick_of_no_eviction none ▸ s.kickLoads_routesKept

theorem State.kick_frame_of_no_eviction {s : State} (none : s.array.evictions = []) :
    Frame [.free, .ctxEntries, .array] s s.kick :=
  State.kick_of_no_eviction none ▸ Frame.foldl _ kickLoad_frame (Frame.refl _ s)

theorem State.kick_of_one_eviction {s : State} {e : Nat × Nat × Nat} (idle : s.array.loads = []) (one : s.array.evictions = [e]) :
    s.kick = kickEviction s e := by
  rw [State.kick, idle, one, List.foldl_nil, List.foldl_cons, List.foldl_nil]

/-! ### A resident Route -/

/-- A Route is resident on its footprint, and it is the one that its context knows by its ID. -/
structure State.Stands (s : State) (r : Route) : Prop where
  known : s.routeOf r.ctx r.id = some r
  unparked : r.parked = false
  there : ∀ cl ∈ clustersOf r.footprint, s.resident cl = some r

theorem State.Stands.of_kept {s t : State} {r : Route} (h : s.Stands r) (k : RoutesKept s t) : t.Stands r where
  known := by rw [State.routeOf, k.routes]; exact h.known
  unparked := h.unparked
  there cl on := by rw [State.resident, k.routes]; exact h.there cl on

theorem find?_filter_of_find? {α : Type} {p q : α → Bool} {l : List α} {a : α} (found : l.find? p = some a) (stays : q a = true) :
    (l.filter q).find? p = some a := by
  induction l with
  | nil => cases found
  | cons b l ih =>
    by_cases hb : p b = true
    · obtain rfl : b = a := by simpa [hb] using found
      simp [stays, hb]
    · have later := ih (by simpa [hb] using found)
      by_cases hq : q b = true
      · simpa [hq, hb] using later
      · simpa [hq] using later

/-- The drop of another Route leaves it. -/
theorem State.Stands.evictRoute {s : State} {r : Route} (h : s.Stands r) {c id : Nat} (other : ¬ (r.ctx = c ∧ r.id = id)) :
    (s.evictRoute c id).Stands r := by
  have stays : (!(decide (r.ctx = c) && decide (r.id = id))) = true := by simpa [← not_and_or] using other
  refine ⟨?_, h.unparked, fun cl on => ?_⟩
  · rw [State.routeOf, State.evictRoute_routes]
    exact find?_filter_of_find? h.known stays
  · rw [State.resident, State.evictRoute_routes]
    exact find?_filter_of_find? (h.there cl on) stays

/-- Of the evictions that go on at once only that of a parked Route drops one. -/
theorem State.Stands.kickEviction {s : State} {r : Route} (h : s.Stands r) (e : Nat × Nat × Nat) :
    (kickEviction s e).Stands r := by
  unfold Machine.kickEviction
  split
  · split
    · exact h
    · exact h.of_kept (State.closeEviction_routesKept ..)
  next q found =>
    split
    · exact h
    · split
      next parked =>
        have other : ¬ (r.ctx = e.2.2 ∧ r.id = e.2.1) := by
          rintro ⟨hc, hi⟩
          have same : r = q := Option.some.inj (h.known.symm.trans (hc ▸ hi ▸ found))
          exact absurd (same ▸ parked) (by simp [h.unparked])
        exact (h.evictRoute other).of_kept (State.closeEviction_routesKept ..)
      · split
        · exact h
        · exact h.of_kept (State.rappel_routesKept ..)

theorem State.Stands.kick {s : State} {r : Route} (h : s.Stands r) : s.kick.Stands r :=
  List.foldlRecOn (motive := fun t : State => t.Stands r) _ Machine.kickEviction (h.of_kept s.kickLoads_routesKept)
    fun _ h e _ => h.kickEviction e

end Sys2Proof.Machine
end

section
/-! SUPPORT. LOAD_ROUTE with its options, and ROUTE_LOAD_DONE: what each row does in the cases of its checks (R176, R180, R345). -/

namespace Sys2Proof.Machine

theorem exec_loadRoute (cmd : Nat) (s : State) : exec (.loadRoute cmd) s = execLoadRoute cmd s := rfl

theorem exec_loadRouteStage (cmd : Nat) (s : State) : exec (.loadRouteStage cmd) s = execLoadRouteStage cmd s := rfl

theorem exec_loadRouteEvict (cmd : Nat) (s : State) : exec (.loadRouteEvict cmd) s = execLoadRouteEvict cmd s := rfl

theorem exec_routeLoadDone (cmd t : Nat) (s : State) : exec (.routeLoadDone cmd t) s = execRouteLoadDone cmd t s := rfl

theorem State.starting_cmd {s : State} {id op : Nat} {c : Cmd} (h : s.starting id op = some c) : s.cmd id = some c :=
  (State.starting_some h).1

theorem State.starting_id {s : State} {id op : Nat} {c : Cmd} (h : s.starting id op = some c) : c.id = id :=
  State.cmd_id (State.starting_cmd h)

/-! ### The start of a load -/

/-- The load as it stands while it waits for its turn, or for its pool's grant (R180). -/
def State.waitingLoad (s : State) (c : Cmd) (stageOnly : Bool) : LoadRun :=
  { cmd := c.id, ctx := c.ctx, id := c.at 16 4, footprint := s.loadFootprint c, image := c.at 8 8, bytes := [], checked := false
    stageOnly := stageOnly }

/-- An earlier load or eviction, or a Rappel, stands on the footprint of a load (R180, R200). -/
def State.loadBlocked (s : State) (c : Cmd) : Bool :=
  s.earlierLoad c.id (s.loadFootprint c) || s.earlierEviction c.id (s.loadFootprint c) ||
    s.array.rappels.any fun r => overlaps r.footprint (s.loadFootprint c)

/-- The state after the read of an image that is not staged yet (R176). -/
def State.imageRead (s : State) (c : Cmd) : State :=
  if (s.stagedImage c.ctx (c.at 16 4)).isSome then s else s.imageSeen c.ctx (c.at 8 8)

theorem State.loadBlocked_eq_true {s : State} {c : Cmd} (h : s.earlierLoad c.id (s.loadFootprint c) = true ∨
    s.earlierEviction c.id (s.loadFootprint c) = true ∨
    (s.array.rappels.any fun r => overlaps r.footprint (s.loadFootprint c)) = true) : s.loadBlocked c = true := by
  rw [State.loadBlocked, Bool.or_eq_true, Bool.or_eq_true]
  exact or_assoc.mpr h

theorem State.loadBlocked_eq_false {s : State} {c : Cmd} (load : s.earlierLoad c.id (s.loadFootprint c) = false)
    (eviction : s.earlierEviction c.id (s.loadFootprint c) = false)
    (rappel : (s.array.rappels.any fun r => overlaps r.footprint (s.loadFootprint c)) = false) : s.loadBlocked c = false := by
  rw [State.loadBlocked, load, eviction, rappel]
  rfl

theorem State.imageRead_frame (s : State) (c : Cmd) : Frame [.entries, .bulk, .power] s (s.imageRead c) :=
  Frame.ite (Frame.refl _ s) (State.imageSeen_frame ..)

theorem State.imageRead_below (s : State) (c : Cmd) : SameBelowDomains s (s.imageRead c) :=
  .ite (.refl s) (s.imageSeen_below _ _)

theorem State.poolOfFootprint_imageRead (s : State) (c : Cmd) (fp : BitVec 64) :
    (s.imageRead c).poolOfFootprint fp = s.poolOfFootprint fp := (s.imageRead_below c).poolOfFootprint fp

theorem State.holdsGrant_imageRead (s : State) (c : Cmd) (d : Nat) : (s.imageRead c).holdsGrant d = s.holdsGrant d :=
  (s.imageRead_below c).holdsGrant ((s.imageRead_frame c).keeps .ctxEntries rfl) ((s.imageRead_frame c).keeps .ctxs rfl) d

section
variable {s : State} {c : Cmd} (stageOnly : Bool) (go : State → BitVec 64 → Nat → Bytes → State)

theorem State.beginLoad_of_blocked (blocked : s.loadBlocked c = true) :
    s.beginLoad c stageOnly go = if (s.poolOfFootprint (s.loadFootprint c)).isSome && !s.holdsGrant c.ctx then
      (s.addLoad (s.waitingLoad c stageOnly)).decideGrantOf c.ctx else s.addLoad (s.waitingLoad c stageOnly) :=
  if_pos blocked

theorem State.awaitsGrant_eq_false {fp : BitVec 64} {d : Nat} (h : s.poolOfFootprint fp = none ∨ s.holdsGrant d = true) :
    ((s.poolOfFootprint fp).isSome && !s.holdsGrant d) = false := by
  rcases h with h | h <;> simp [h]

theorem State.beginLoad_of_free (free : s.loadBlocked c = false) :
    s.beginLoad c stageOnly go = match s.checkLoad c with
      | .error f => ((((s.imageRead c).dropLoad c.id).noteFail c.ctx f).completeOn c f.status f.value).kick
      | .ok (fp, address, b) =>
        if ((s.imageRead c).poolOfFootprint fp).isSome && !(s.imageRead c).holdsGrant c.ctx then
          ((s.imageRead c).addLoad (s.waitingLoad c stageOnly)).awaitGrant c
        else match (s.imageRead c).preloadFails c.ctx b with
          | some x => (((s.imageRead c).dropLoad c.id).completeOn c stNearProtection (preloadValue x)).kick
          | none => go (((s.imageRead c).dropLoad c.id).stageOnce c.ctx (c.at 16 4) fp address b) fp address b := by
  have no : ¬ s.loadBlocked c = true := by simp [free]
  exact if_neg no

theorem State.beginLoad_of_error {f : Fail} (free : s.loadBlocked c = false) (fails : s.checkLoad c = .error f) :
    s.beginLoad c stageOnly go =
      ((((s.imageRead c).dropLoad c.id).noteFail c.ctx f).completeOn c f.status f.value).kick := by
  rw [State.beginLoad_of_free stageOnly go free, fails]

theorem State.beginLoad_of_no_grant {x : BitVec 64 × Nat × Bytes} (free : s.loadBlocked c = false)
    (passes : s.checkLoad c = .ok x) (pool : (s.poolOfFootprint x.1).isSome = true) (grant : s.holdsGrant c.ctx = false) :
    s.beginLoad c stageOnly go = ((s.imageRead c).addLoad (s.waitingLoad c stageOnly)).awaitGrant c := by
  rw [State.beginLoad_of_free stageOnly go free, passes]
  dsimp only
  rw [State.poolOfFootprint_imageRead, State.holdsGrant_imageRead, pool, grant]
  rfl

theorem State.beginLoad_of_passed {x : BitVec 64 × Nat × Bytes} (free : s.loadBlocked c = false)
    (passes : s.checkLoad c = .ok x) (pool : s.poolOfFootprint x.1 = none)
    (preload : (s.imageRead c).preloadFails c.ctx x.2.2 = none) :
    s.beginLoad c stageOnly go =
      go (((s.imageRead c).dropLoad c.id).stageOnce c.ctx (c.at 16 4) x.1 x.2.1 x.2.2) x.1 x.2.1 x.2.2 := by
  rw [State.beginLoad_of_free stageOnly go free, passes]
  dsimp only
  rw [State.poolOfFootprint_imageRead, pool, preload]
  rfl

end

/-- The load that an image's passed checks begin (R176). -/
def Cmd.checkedLoad (c : Cmd) (x : BitVec 64 × Nat × Bytes) : LoadRun :=
  { cmd := c.id, ctx := c.ctx, id := c.at 16 4, footprint := x.1, image := x.2.1, bytes := x.2.2 }

/-- What LOAD_ROUTE does with a staged image: the load stands, and drains. -/
def Cmd.loadStaged (c : Cmd) (s : State) (fp : BitVec 64) (address : Nat) (b : Bytes) : State :=
  ((s.addLoad (c.checkedLoad (fp, address, b))).stage { c with waited := c.waited || (s.poolOfFootprint fp).isSome } .running).kick

/-- What LOAD_ROUTE_STAGE does with a staged image: it completes. -/
def Cmd.endStaging (c : Cmd) (s : State) (_ : BitVec 64) (_ : Nat) (_ : Bytes) : State := (s.completeOn c 0 (c.at 16 4)).kick

theorem execLoadRoute_of_starting {s : State} {cmd : Nat} {c : Cmd} (starts : s.starting cmd 3 = some c) (option : c.at 20 1 = 0) :
    execLoadRoute cmd s = .next (s.beginLoad c false c.loadStaged) := by
  unfold execLoadRoute
  rw [starts]
  obtain rfl := State.starting_id starts
  exact congrArg _ (if_neg (not_not.mpr option))

theorem execLoadRouteStage_of_starting {s : State} {cmd : Nat} {c : Cmd} (starts : s.starting cmd 3 = some c)
    (option : c.at 20 1 = 1) : execLoadRouteStage cmd s = .next (s.beginLoad c true c.endStaging) := by
  unfold execLoadRouteStage
  rw [starts]
  exact congrArg _ (if_neg (not_not.mpr option))

/-- A command that has completed is not in flight after what may go on has gone on. -/
theorem State.completeOn_kick_cmd {s : State} {cmd : Nat} {c : Cmd} (named : c.id = cmd) (status value : Nat) :
    (s.completeOn c status value).kick.cmd cmd = none :=
  State.kick_cmd_none (named ▸ s.completeOn_cmd c status value)

/-! ### A load whose checks have passed -/

/-- The load stands in its place, its image staged, and its command runs. -/
def State.loadBegun (s : State) (c : Cmd) (x : BitVec 64 × Nat × Bytes) : State :=
  ((((s.imageRead c).dropLoad c.id).stageOnce c.ctx (c.at 16 4) x.1 x.2.1 x.2.2).addLoad (c.checkedLoad x)).stage c .running

theorem State.beginLoad_loadStaged {s : State} {c : Cmd} {x : BitVec 64 × Nat × Bytes} (free : s.loadBlocked c = false)
    (passes : s.checkLoad c = .ok x) (pool : s.poolOfFootprint x.1 = none)
    (preload : (s.imageRead c).preloadFails c.ctx x.2.2 = none) :
    s.beginLoad c false c.loadStaged = (s.loadBegun c x).kick := by
  have staged := Frame.step (State.stageOnce_frame ((s.imageRead c).dropLoad c.id) c.ctx (c.at 16 4) x.1 x.2.1 x.2.2)
    (g := [.near, .array]) rfl (Frame.mono (State.dropLoad_frame ..) rfl)
  have same : (((s.imageRead c).dropLoad c.id).stageOnce c.ctx (c.at 16 4) x.1 x.2.1 x.2.2).poolOfFootprint x.1 = none :=
    ((SameBelowDomains.of_frame staged rfl).poolOfFootprint x.1).trans ((s.poolOfFootprint_imageRead c x.1).trans pool)
  rw [State.beginLoad_of_passed false c.loadStaged free passes pool preload, Cmd.loadStaged, same, Option.isSome_none, Bool.or_false]
  rfl

theorem State.stage_array (s : State) (c : Cmd) (g : Stage) : (s.stage c g).array = s.array := rfl

theorem State.addLoad_routes (s : State) (l : LoadRun) : (s.addLoad l).array.routes = s.array.routes := rfl

theorem State.addLoad_evictions (s : State) (l : LoadRun) : (s.addLoad l).array.evictions = s.array.evictions := rfl

theorem State.addLoad_loads (s : State) (l : LoadRun) :
    (s.addLoad l).array.loads = (s.array.loads.filter fun m => decide (m.cmd ≠ l.cmd)) ++ [l] := rfl

theorem State.dropLoad_array (s : State) (cmd : Nat) :
    (s.dropLoad cmd).array = { s.array with loads := s.array.loads.filter fun m => decide (m.cmd ≠ cmd) } := rfl

theorem State.imageRead_array (s : State) (c : Cmd) : (s.imageRead c).array = s.array := (s.imageRead_frame c).keeps .array rfl

section
variable (s : State) (c : Cmd) (x : BitVec 64 × Nat × Bytes)

theorem State.loadBegun_routes : (s.loadBegun c x).array.routes = s.array.routes := by
  obtain ⟨gs, k, e⟩ := ((s.imageRead c).dropLoad c.id).stageOnce_array c.ctx (c.at 16 4) x.1 x.2.1 x.2.2
  rw [State.loadBegun, State.stage_array, State.addLoad_routes, e, State.dropLoad_array, State.imageRead_array]

theorem State.loadBegun_evictions : (s.loadBegun c x).array.evictions = s.array.evictions := by
  obtain ⟨gs, k, e⟩ := ((s.imageRead c).dropLoad c.id).stageOnce_array c.ctx (c.at 16 4) x.1 x.2.1 x.2.2
  rw [State.loadBegun, State.stage_array, State.addLoad_evictions, e, State.dropLoad_array, State.imageRead_array]

theorem State.loadBegun_loads : (s.loadBegun c x).array.loads =
    (s.array.loads.filter fun m => decide (m.cmd ≠ c.id)) ++ [c.checkedLoad x] := by
  obtain ⟨gs, k, e⟩ := ((s.imageRead c).dropLoad c.id).stageOnce_array c.ctx (c.at 16 4) x.1 x.2.1 x.2.2
  rw [State.loadBegun, State.stage_array, State.addLoad_loads, e, State.dropLoad_array, State.imageRead_array]
  refine congrArg (· ++ [c.checkedLoad x]) ?_
  dsimp only [Cmd.checkedLoad]
  rw [List.filter_filter]
  exact List.filter_congr fun m _ => Bool.and_self _

theorem State.loadBegun_frame : Frame [.entries, .near, .bulk, .cmds, .array, .power] s (s.loadBegun c x) := by
  refine Frame.step (State.stage_frame ..) rfl (Frame.step (State.addLoad_frame ..) rfl ?_)
  exact Frame.step (State.stageOnce_frame ..) rfl (Frame.step (State.dropLoad_frame ..) rfl
    (Frame.mono (s.imageRead_frame c) rfl))

end

theorem State.loadBegun_cmd {s : State} {c : Cmd} (x : BitVec 64 × Nat × Bytes) (found : s.cmd c.id = some c) :
    (s.loadBegun c x).cmd c.id = some { c with stage := .running } := by
  have before : Frame [.entries, .near, .bulk, .array, .power] s
      ((((s.imageRead c).dropLoad c.id).stageOnce c.ctx (c.at 16 4) x.1 x.2.1 x.2.2).addLoad (c.checkedLoad x)) :=
    Frame.step (State.addLoad_frame ..) rfl (Frame.step (State.stageOnce_frame ..) rfl
      (Frame.step (State.dropLoad_frame ..) rfl (Frame.mono (s.imageRead_frame c) rfl)))
  have still := (State.cmd_of_cmds (before.keeps .cmds rfl).1 c.id).trans found
  exact State.cmd_setCmd (c := { c with stage := .running }) still

/-! ### An eviction -/

/-- An eviction stands, the only one, and its command runs. -/
def State.evictionBegun (s : State) (c : Cmd) : State :=
  (({ s with array := { s.array with evictions := [(c.id, c.at 16 4, c.ctx)] } } : State).accept c.id).stage c .running

theorem execLoadRouteEvict_of_idle {s : State} {cmd : Nat} {c : Cmd} (starts : s.starting cmd 3 = some c) (option : c.at 20 1 = 2)
    (loads : s.array.loads = []) (evictions : s.array.evictions = []) :
    execLoadRouteEvict cmd s = .next (kickEviction (s.evictionBegun c) (c.id, c.at 16 4, c.ctx)) := by
  have alone : (s.evictionBegun c).kick = kickEviction (s.evictionBegun c) (c.id, c.at 16 4, c.ctx) :=
    State.kick_of_one_eviction loads rfl
  rw [← alone]
  unfold execLoadRouteEvict
  rw [starts]
  obtain rfl := State.starting_id starts
  dsimp only
  rw [if_neg (not_not.mpr option), evictions]
  rfl

theorem State.evictionBegun_frame (s : State) (c : Cmd) : Frame [.cmds, .array] s (s.evictionBegun c) :=
  Frame.step (State.stage_frame ..) rfl (Frame.step (State.accept_frame ..) rfl (Frame.set_array _ rfl (Frame.refl _ s)))

theorem State.evictionBegun_cmd {s : State} {c : Cmd} (found : s.cmd c.id = some c) :
    (s.evictionBegun c).cmd c.id = some { c with stage := .running } :=
  State.cmd_setCmd (c := { c with stage := .running }) (d := c) found

theorem State.evictionBegun_evictions (s : State) (c : Cmd) :
    (s.evictionBegun c).array.evictions = [(c.id, c.at 16 4, c.ctx)] := rfl

section
variable {s : State} {c : Cmd} {r : Route}

theorem kickEviction_of_unknown (loads : s.array.loads = []) (unknown : s.routeOf c.ctx (c.at 16 4) = none) :
    kickEviction (s.evictionBegun c) (c.id, c.at 16 4, c.ctx) = (s.evictionBegun c).closeEviction c.id stHandle 0 := by
  have gone : (s.evictionBegun c).routeOf c.ctx (c.at 16 4) = none := unknown
  have idle : (s.evictionBegun c).array.loads = [] := loads
  rw [kickEviction, gone]
  dsimp only
  rw [idle]
  rfl

theorem State.earlierLoad_of_no_load (loads : s.array.loads = []) (cmd : Nat) (fp : BitVec 64) : s.earlierLoad cmd fp = false := by
  rw [State.earlierLoad, loads, List.any_nil]

theorem kickEviction_of_parked (loads : s.array.loads = []) (known : s.routeOf c.ctx (c.at 16 4) = some r)
    (parked : r.parked = true) : kickEviction (s.evictionBegun c) (c.id, c.at 16 4, c.ctx) =
      ((s.evictionBegun c).evictRoute c.ctx (c.at 16 4)).closeEviction c.id 0 (c.at 16 4) := by
  have here : (s.evictionBegun c).routeOf c.ctx (c.at 16 4) = some r := known
  have idle : (s.evictionBegun c).array.loads = [] := loads
  rw [kickEviction, here]
  dsimp only
  rw [State.earlierLoad_of_no_load idle, parked]
  rfl

theorem kickEviction_of_resident (loads : s.array.loads = []) (known : s.routeOf c.ctx (c.at 16 4) = some r)
    (resident : r.parked = false) : kickEviction (s.evictionBegun c) (c.id, c.at 16 4, c.ctx) =
      if s.busy r.footprint then s.evictionBegun c else (s.evictionBegun c).rappel r.footprint r.ctx (.evict c.id) := by
  have here : (s.evictionBegun c).routeOf c.ctx (c.at 16 4) = some r := known
  have idle : (s.evictionBegun c).array.loads = [] := loads
  rw [kickEviction, here]
  dsimp only
  rw [State.earlierLoad_of_no_load idle, resident]
  rfl

end

theorem State.routeOf_evictRoute (s : State) (c id : Nat) : (s.evictRoute c id).routeOf c id = none := by
  rw [State.routeOf, State.evictRoute_routes, List.find?_eq_none]
  intro r here
  simpa [imp_iff_not_or] using (List.mem_filter.mp here).2

end Sys2Proof.Machine
end

section
/-! SUPPORT. ROUTE_LOAD_DONE: the activation makes the Route resident on its footprint, and nothing that goes on after it takes it
away (R176, R639). -/

namespace Sys2Proof.Machine

/-- The Route that an activation makes resident. -/
def State.activatedRoute (s : State) (c id image : Nat) (fp : BitVec 64) (bytes : Bytes) : Route :=
  { id := id, ctx := c, footprint := fp, image := image, bytes := bytes, lost := s.lostCopies c id }

/-- Activation replaces the Routes on its clusters, and an older one of its ID, with the new Route. -/
theorem State.activate_routes (s : State) (c id image : Nat) (fp : BitVec 64) (bytes : Bytes) :
    (s.activate c id image fp bytes).array.routes = (s.array.routes.filter fun r =>
      !((!r.parked && overlaps r.footprint fp) || (decide (r.ctx = c) && decide (r.id = id)))) ++
        [s.activatedRoute c id image fp bytes] := by
  unfold State.activate
  dsimp only
  rw [((State.cbump_frame ..).keeps .array rfl : State.array _ = _)]
  refine (RoutesKept.foldl (fun _ _ => State.preload_routesKept ..) _ _).routes.trans ?_
  refine (RoutesKept.foldl (fun _ _ => .of_frame (State.powerCluster_frame ..) rfl) _ _).routes.trans ?_
  refine (State.clearFootprint_routesKept ..).routes.trans ?_
  exact (State.trimStages_routesKept ..).routes

theorem overlaps_of_getLsbD {a b : BitVec 64} {n : Nat} (ha : a.getLsbD n = true) (hb : b.getLsbD n = true) :
    overlaps a b = true := by
  refine decide_eq_true fun zero => ?_
  have both : (a &&& b).getLsbD n = true := by rw [BitVec.getLsbD_and, ha, hb]; rfl
  exact absurd (zero ▸ both) (by simp)

/-- A Route that an activation leaves is parked or lies elsewhere, and goes by another name. -/
theorem State.left_of_activate {s : State} {c id : Nat} {fp : BitVec 64} {r : Route} (left : r ∈ s.array.routes.filter fun r =>
      !((!r.parked && overlaps r.footprint fp) || (decide (r.ctx = c) && decide (r.id = id)))) :
    (r.parked = false → overlaps r.footprint fp = false) ∧ (r.ctx = c → r.id ≠ id) := by
  have stays := (List.mem_filter.mp left).2
  rw [Bool.not_or, Bool.and_eq_true] at stays
  obtain ⟨away, other⟩ := stays
  exact ⟨fun up => by simpa [up] using away, fun same => by simpa [same] using other⟩

theorem State.activate_stands (s : State) (c id image : Nat) (fp : BitVec 64) (bytes : Bytes) :
    (s.activate c id image fp bytes).Stands (s.activatedRoute c id image fp bytes) where
  unparked := rfl
  known := by
    rw [State.routeOf, State.activate_routes, List.find?_append, List.find?_eq_none.mpr]
    · simp [State.activatedRoute]
    · intro r left named
      rw [Bool.and_eq_true, decide_eq_true_eq, decide_eq_true_eq] at named
      exact (State.left_of_activate left).2 named.1 named.2
  there cl on := by
    have inside := (mem_clustersOf.mp on).2
    rw [State.resident, State.activate_routes, List.find?_append, List.find?_eq_none.mpr]
    · simpa [State.activatedRoute] using inside
    · intro r left up
      rw [Bool.and_eq_true, Bool.not_eq_true'] at up
      have away := (State.left_of_activate left).1 up.1
      exact absurd (overlaps_of_getLsbD up.2 inside) (by simpa [State.activatedRoute] using away)

/-- A Route whose copies in staging are renewed is marked lost nowhere (R178). -/
def Route.renewed (c id : Nat) (r : Route) : Route := if r.ctx = c ∧ r.id = id then { r with lost := [] } else r

section
variable (c id : Nat) (r : Route)

theorem Route.renewed_ctx : (r.renewed c id).ctx = r.ctx := by unfold Route.renewed; split <;> rfl
theorem Route.renewed_id : (r.renewed c id).id = r.id := by unfold Route.renewed; split <;> rfl
theorem Route.renewed_parked : (r.renewed c id).parked = r.parked := by unfold Route.renewed; split <;> rfl
theorem Route.renewed_footprint : (r.renewed c id).footprint = r.footprint := by unfold Route.renewed; split <;> rfl
theorem Route.renewed_image : (r.renewed c id).image = r.image := by unfold Route.renewed; split <;> rfl
theorem Route.renewed_bytes : (r.renewed c id).bytes = r.bytes := by unfold Route.renewed; split <;> rfl

end

theorem State.renewCopies_routes (s : State) (c id : Nat) :
    (s.renewCopies c id).array.routes = s.array.routes.map (Route.renewed c id) := rfl

theorem State.Stands.renewCopies {s : State} {r : Route} (h : s.Stands r) (c id : Nat) :
    (s.renewCopies c id).Stands (r.renewed c id) where
  unparked := (r.renewed_parked c id).trans h.unparked
  known := by
    have known := h.known
    rw [State.routeOf] at known
    simp only [State.routeOf, State.renewCopies_routes, List.find?_map, Function.comp_def, Route.renewed_ctx, Route.renewed_id, known,
      Option.map_some]
  there cl on := by
    have there := h.there cl (r.renewed_footprint c id ▸ on)
    rw [State.resident] at there
    simp only [State.resident, State.renewCopies_routes, List.find?_map, Function.comp_def, Route.renewed_parked,
      Route.renewed_footprint, there, Option.map_some]

/-! ### The end of the load -/

/-- The state with the load's Route activated, its copies renewed and the load gone. -/
def State.loadActivated (s : State) (l : LoadRun) : State :=
  (((s.stageOnce l.ctx l.id l.footprint l.image l.bytes).activate l.ctx l.id l.image l.footprint l.bytes).renewCopies
    l.ctx l.id).dropLoad l.cmd

theorem State.loadActivated_frame (s : State) (l : LoadRun) :
    Frame [.free, .entries, .ctxEntries, .near, .nearMem, .steps, .array, .power] s (s.loadActivated l) := by
  refine Frame.step (State.dropLoad_frame ..) rfl (Frame.step (State.renewCopies_frame ..) rfl ?_)
  exact Frame.step (State.activate_frame ..) rfl (Frame.mono (State.stageOnce_frame ..) rfl)

/-- The Route of a load that is done. -/
def State.loadedRoute (s : State) (l : LoadRun) : Route :=
  ((s.stageOnce l.ctx l.id l.footprint l.image l.bytes).activatedRoute l.ctx l.id l.image l.footprint l.bytes).renewed l.ctx l.id

section
variable (s : State) (l : LoadRun)

theorem State.loadedRoute_ctx : (s.loadedRoute l).ctx = l.ctx := Route.renewed_ctx ..
theorem State.loadedRoute_id : (s.loadedRoute l).id = l.id := Route.renewed_id ..
theorem State.loadedRoute_parked : (s.loadedRoute l).parked = false := Route.renewed_parked ..
theorem State.loadedRoute_footprint : (s.loadedRoute l).footprint = l.footprint := Route.renewed_footprint ..
theorem State.loadedRoute_image : (s.loadedRoute l).image = l.image := Route.renewed_image ..
theorem State.loadedRoute_bytes : (s.loadedRoute l).bytes = l.bytes := Route.renewed_bytes ..

end

theorem State.loadActivated_stands (s : State) (l : LoadRun) : (s.loadActivated l).Stands (s.loadedRoute l) := by
  obtain ⟨known, unparked, there⟩ := (State.activate_stands (s.stageOnce l.ctx l.id l.footprint l.image l.bytes) l.ctx l.id l.image
    l.footprint l.bytes).renewCopies l.ctx l.id
  exact ⟨known, unparked, there⟩

theorem State.loadActivated_loads (s : State) (l : LoadRun) : ∀ m ∈ (s.loadActivated l).array.loads, m.cmd ≠ l.cmd :=
  fun _ here => of_decide_eq_true (List.mem_filter.mp here).2

theorem State.sliceFails_at (s : State) (t c core : Nat) (write : Bool) (off n : Nat) :
    (s.at t).sliceFails c core write off n = s.sliceFails c core write off n := by
  induction n generalizing off with
  | zero => rfl
  | succ n ih =>
    rw [State.sliceFails, State.sliceFails, ih]
    rfl

theorem State.preloadFails_at (s : State) (t c : Nat) (b : Bytes) : (s.at t).preloadFails c b = s.preloadFails c b := by
  simp only [State.preloadFails, State.sliceFails_at]

theorem execRouteLoadDone_of_drained {s : State} {cmd : Nat} {c : Cmd} {l : LoadRun} (t : Nat) (found : s.cmd cmd = some c)
    (stands : (s.array.loads.find? fun m => decide (m.cmd = cmd)) = some l) (draining : l.draining = true)
    (still : s.stillFor (.load cmd) = false) (busy : s.busy l.footprint = false) (reached : s.preloadFails l.ctx l.bytes = none) :
    execRouteLoadDone cmd t s = .next (((s.at t).loadActivated l).completeOn c 0 l.id).kick := by
  have named : l.cmd = cmd := by simpa using List.find?_some stands
  unfold execRouteLoadDone
  rw [found, stands]
  dsimp only
  rw [draining, still, busy, State.preloadFails_at, reached, ← named]
  rfl

section
variable (s : State) (c : Cmd) (l : LoadRun)

theorem State.loadEnded_frame : Frame [.free, .out, .entries, .ctxEntries, .host, .near, .nearMem, .bulk, .bulkMem, .rings, .msix,
    .pages, .cmds, .steps, .array, .ctxs, .health, .power] s ((s.loadActivated l).completeOn c 0 l.id).kick :=
  Frame.step (State.kick_frame ..) rfl (Frame.step (State.completeOn_frame ..) rfl (Frame.mono (s.loadActivated_frame l) rfl))

theorem State.loadEnded_stands : (((s.loadActivated l).completeOn c 0 l.id).kick).Stands (s.loadedRoute l) :=
  ((s.loadActivated_stands l).of_kept (State.completeOn_routesKept ..)).kick

theorem State.loadEnded_loads : ∀ m ∈ (((s.loadActivated l).completeOn c 0 l.id).kick).array.loads, m.cmd ≠ l.cmd := by
  intro m here
  have listed := List.mem_map_of_mem (f := LoadRun.cmd) here
  rw [State.kick_loads, (State.completeOn_routesKept ..).loads] at listed
  obtain ⟨m', here', same⟩ := List.mem_map.mp listed
  exact same ▸ s.loadActivated_loads l m' here'

end

/-- Settles O29: a load is checked, staged, held back or begun as its row says, an eviction goes on at once where its Route is
unknown, parked or resident, and a Route that was loaded stays resident through what may go on after it. -/
theorem routeLoads : Obligations.RouteLoads := by
  unfold Obligations.RouteLoads
  refine ⟨?_, ?_, ?_, ?_, ?_, ?_, ?_, ?_, ?_, ?_, ?_, ?_, ?_⟩
  · intro cmd c f s starts option load eviction rappel fails
    have run := execLoadRoute_of_starting starts option
    have k := execLoadRoute_frame run
    rw [State.beginLoad_of_error false c.loadStaged (State.loadBlocked_eq_false load eviction rappel) fails] at run k
    exact ⟨_, run, rfl, State.completeOn_kick_cmd (State.starting_id starts) .., k⟩
  · intro cmd c x s starts option load eviction rappel passes pool idle preload
    have run := execLoadRoute_of_starting starts option
    rw [State.beginLoad_loadStaged (State.loadBlocked_eq_false load eviction rappel) passes pool preload] at run
    have alone : (s.loadBegun c x).array.evictions = [] := (s.loadBegun_evictions c x).trans idle
    have kept := State.kick_routesKept_of_no_eviction alone
    have k := State.kick_frame_of_no_eviction alone
    obtain rfl := State.starting_id starts
    refine ⟨_, run, rfl, ?_, ?_, kept.routes.trans (s.loadBegun_routes c x), Frame.step k rfl (Frame.mono (s.loadBegun_frame c x) rfl)⟩
    · rw [State.cmd_of_cmds (k.keeps .cmds rfl).1, State.loadBegun_cmd x (State.starting_cmd starts)]
      rfl
    · rw [kept.loads, State.loadBegun_loads, List.map_append]
      rfl
  · intro cmd c x s starts option load eviction rappel passes pool grant
    have run := execLoadRoute_of_starting starts option
    have k := execLoadRoute_frame run
    rw [State.beginLoad_of_no_grant false c.loadStaged (State.loadBlocked_eq_false load eviction rappel) passes pool grant] at run k
    exact ⟨_, run, rfl, k⟩
  · intro cmd c f s starts option load eviction rappel fails
    have run := execLoadRouteStage_of_starting starts option
    have k := execLoadRouteStage_frame run
    rw [State.beginLoad_of_error true c.endStaging (State.loadBlocked_eq_false load eviction rappel) fails] at run k
    exact ⟨_, run, rfl, State.completeOn_kick_cmd (State.starting_id starts) .., k⟩
  · intro cmd c x s starts option load eviction rappel passes pool preload
    have run := execLoadRouteStage_of_starting starts option
    have k := execLoadRouteStage_frame run
    rw [State.beginLoad_of_passed true c.endStaging (State.loadBlocked_eq_false load eviction rappel) passes pool preload] at run k
    exact ⟨_, run, rfl, State.completeOn_kick_cmd (State.starting_id starts) .., k⟩
  · intro cmd c s starts option loads evictions unknown
    have run := execLoadRouteEvict_of_idle starts option loads evictions
    rw [kickEviction_of_unknown loads unknown] at run
    obtain rfl := State.starting_id starts
    refine ⟨_, run, rfl, State.closeEviction_cmd .., (State.closeEviction_routesKept ..).routes, ?_, execLoadRouteEvict_frame run⟩
    rw [State.closeEviction_evictions, State.evictionBegun_evictions]
    simp
  · intro cmd c r s starts option loads evictions known parked _
    have run := execLoadRouteEvict_of_idle starts option loads evictions
    rw [kickEviction_of_parked loads known parked] at run
    obtain rfl := State.starting_id starts
    refine ⟨_, run, ?_, State.closeEviction_cmd .., ?_, execLoadRouteEvict_frame run⟩
    · rw [State.routeOf, (State.closeEviction_routesKept ..).routes]
      exact State.routeOf_evictRoute ..
    · rw [State.closeEviction_evictions, State.evictRoute_evictions, State.evictionBegun_evictions]
      simp
  · intro cmd c r s starts option loads evictions known resident
    have run := execLoadRouteEvict_of_idle starts option loads evictions
    rw [kickEviction_of_resident loads known resident] at run
    obtain rfl := State.starting_id starts
    have found := State.evictionBegun_cmd (State.starting_cmd starts)
    by_cases busy : s.busy r.footprint = true
    · rw [if_pos busy] at run
      exact ⟨_, run, rfl, rfl, by rw [found]; rfl, .inl busy, Frame.mono (s.evictionBegun_frame c) rfl⟩
    · rw [if_neg busy] at run
      have asked := State.rappel_frame (s.evictionBegun c) r.footprint r.ctx (.evict c.id)
      refine ⟨_, run, State.rappel_evictions .., State.rappel_routes .., ?_, .inr (State.rappel_stands ..),
        Frame.step asked rfl (Frame.mono (s.evictionBegun_frame c) rfl)⟩
      rw [State.cmd_of_cmds (asked.keeps .cmds rfl).1, found]
      rfl
  · intro cmd t c l s found stands draining still busy reached _ _
    have run := execRouteLoadDone_of_drained t found stands draining still busy reached
    have route := (s.at t).loadEnded_stands c l
    obtain rfl : l.cmd = cmd := by simpa using List.find?_some stands
    refine ⟨_, run, State.completeOn_kick_cmd (State.cmd_id found) .., ?_, ?_, ?_, ?_, execRouteLoadDone_frame run⟩
    · exact List.all_eq_true.mpr fun m here => decide_eq_true ((s.at t).loadEnded_loads c l m here)
    · have known := route.known
      rw [State.loadedRoute_ctx, State.loadedRoute_id] at known
      rw [known, Option.map_some, State.loadedRoute_footprint, State.loadedRoute_image, State.loadedRoute_bytes,
        State.loadedRoute_parked]
    · refine List.all_eq_true.mpr fun cl on => decide_eq_true ?_
      have there := route.there cl ((State.loadedRoute_footprint ..).symm ▸ on)
      rw [there, Option.map_some, State.loadedRoute_ctx, State.loadedRoute_id]
    · exact ((s.at t).loadEnded_frame c l).keeps .uptime rfl
  · intro cmd c s starts option blocked grant
    have run := execLoadRoute_of_starting starts option
    rw [State.beginLoad_of_blocked false c.loadStaged (State.loadBlocked_eq_true blocked), State.awaitsGrant_eq_false grant] at run
    exact ⟨_, run, rfl, rfl, rfl, State.addLoad_frame ..⟩
  · intro cmd c s starts option blocked grant
    have run := execLoadRouteStage_of_starting starts option
    rw [State.beginLoad_of_blocked true c.endStaging (State.loadBlocked_eq_true blocked), State.awaitsGrant_eq_false grant] at run
    exact ⟨_, run, rfl, rfl, rfl, State.addLoad_frame ..⟩
  · intro cmd c s starts option blocked pool grant
    have run := execLoadRoute_of_starting starts option
    have k := execLoadRoute_frame run
    rw [State.beginLoad_of_blocked false c.loadStaged (State.loadBlocked_eq_true blocked), pool, grant] at run k
    exact ⟨_, run, rfl, congrArg _ (State.decideGrantOf_routesKept ..).routes, k⟩
  · intro cmd c s starts option blocked pool grant
    have run := execLoadRouteStage_of_starting starts option
    have k := execLoadRouteStage_frame run
    rw [State.beginLoad_of_blocked true c.endStaging (State.loadBlocked_eq_true blocked), pool, grant] at run k
    exact ⟨_, run, rfl, congrArg _ (State.decideGrantOf_routesKept ..).routes, k⟩

end Sys2Proof.Machine
end

section
/-! SUPPORT. A round that waits for a request: its cluster notes since when (R390). -/

namespace Sys2Proof.Machine

theorem exec_roundStart (cluster : ClusterId) (s : State) : exec (.roundStart cluster) s = execRoundStart cluster s := rfl

theorem State.due_cl {s : State} {cl : Nat} {d : Due} (h : s.due cl = some d) : d.cl = cl := by
  unfold State.due at h
  split at h
  · split at h
    · cases h
    · obtain ⟨_, _, rfl⟩ := Option.map_eq_some_iff.mp h
      rfl
  · cases h

theorem State.serveHeld_of_none {s : State} (none : s.links.held = []) : s.serveHeld = s := by
  unfold State.serveHeld
  rw [none, List.foldl_nil, ← none]

theorem execRoundStart_of_due {s : State} {cluster : ClusterId} {d : Due} (due : s.due cluster.val = some d)
    (running : d.k.ended = false) (opens : d.k.round ≠ 0 ∨ s.gated d.p (d.p.routes.getD d.p.phase 0) = false) :
    execRoundStart cluster s = .next (d.start s).serveHeld := by
  have goes : (d.k.ended || (decide (d.k.round = 0) && s.gated d.p (d.p.routes.getD d.p.phase 0))) = false := by
    rcases opens with h | h
    · rw [running, decide_eq_false h]; rfl
    · rw [running, h, Bool.and_false]; rfl
  unfold execRoundStart
  rw [due]
  dsimp only
  rw [goes, if_neg Bool.false_ne_true]

/-- The cluster of a round that waits. -/
def Due.waitingCluster (d : Due) (s : State) : Cluster :=
  { d.k with frozen := true, frozenSince := if d.k.frozen then d.k.frozenSince else s.uptime }

/-- A round whose gate waits for a request leaves its cluster waiting for it, with no halted stream in its step (R182, R390). -/
theorem Due.start_of_request {s : State} {d : Due} (paused : d.k.paused = none) (more : d.ends s = false)
    (room : d.jammed s = none) (waits : d.waiting s ≠ 0) (request : d.awaitsRequest s = true)
    (runs : s.halted d.p.footprint = false) : d.start s = (s.setCluster d.cl (d.waitingCluster s)).startWait d.cl := by
  unfold Due.start
  rw [paused]
  dsimp only
  rw [more, if_neg Bool.false_ne_true, room]
  dsimp only
  rw [if_pos waits, request, runs]
  rfl

theorem State.cluster_setCluster_same (s : State) (cl : Nat) {k : Cluster} (listed : k ≠ {}) : (s.setCluster cl k).cluster cl = k := by
  have put : (s.setCluster cl k).array.clusters = tput s.array.clusters cl k := if_neg listed
  rw [State.cluster, put, tget_tput_same]

theorem Due.cluster_waiting (d : Due) (s : State) (cl : Nat) :
    (s.setCluster cl (d.waitingCluster s)).cluster cl = d.waitingCluster s :=
  s.cluster_setCluster_same cl fun same => Bool.false_ne_true (congrArg Cluster.frozen same).symm

/-- From the moment that a frozen cluster waits for a request, it keeps that time (R390). -/
theorem State.startWait_requestSince {s : State} {cl : Nat} (frozen : (s.cluster cl).frozen = true)
    (first : (s.cluster cl).requestSince = none) : ((s.startWait cl).cluster cl).requestSince = some s.uptime := by
  have starts : ((s.cluster cl).frozen && (s.cluster cl).requestSince.isNone) = true := by rw [frozen, first]; rfl
  have noted : s.startWait cl = s.setCluster cl { s.cluster cl with requestSince := some s.uptime } := if_pos starts
  rw [noted, State.cluster_setCluster_same _ _ fun same => Option.some_ne_none _ (congrArg Cluster.requestSince same)]

/-- ROUND_START of a round whose gate waits for a request notes the time in its cluster. -/
theorem exec_roundStart_requestSince {s u : State} {cluster : ClusterId} {d : Due} (due : s.due cluster.val = some d)
    (running : d.k.ended = false) (opens : d.k.round ≠ 0 ∨ s.gated d.p (d.p.routes.getD d.p.phase 0) = false)
    (more : d.ends s = false) (room : d.jammed s = none) (waits : d.waiting s ≠ 0) (paused : d.k.paused = none)
    (held : s.links.held = []) (request : d.awaitsRequest s = true) (runs : s.halted d.p.footprint = false)
    (first : d.k.requestSince = none) (run : exec (.roundStart cluster) s = .next u) :
    (u.cluster cluster.val).requestSince = some s.uptime := by
  rw [exec_roundStart, execRoundStart_of_due due running opens, Due.start_of_request paused more room waits request runs] at run
  have unheld : ((s.setCluster d.cl (d.waitingCluster s)).startWait d.cl).links.held = [] :=
    (congrArg Links.held ((State.startWait_frame ..).keeps .links rfl)).trans held
  rw [State.serveHeld_of_none unheld, State.due_cl due] at run
  obtain rfl := Host.Outcome.next.inj run
  have here := d.cluster_waiting s cluster.val
  exact State.startWait_requestSince (s := s.setCluster cluster.val (d.waitingCluster s)) (by rw [here]; rfl) (by rw [here]; exact first)

/-- An image of a Route on cluster 0 whose core 0 reads 512 bytes of the Near memory into one half of a stream buffer. -/
def halfImage : Bytes :=
  leBytes 16 0 ++ leBytes 244 1 ++ leBytes 4 272 ++ leBytes 8 0 ++
    (leBytes 4 0 ++ leBytes 124 0xFF ++ leBytes 4 256 ++ leBytes 124 4) ++
    (leBytes 10 0 ++ leBytes 18 64 ++ leBytes 36 64 ++
      (leBytes 2 0 ++ leBytes 10 0xFFFF ++ leBytes 4 512 ++ leBytes 2 1 ++ leBytes 2 1 ++ leBytes 32 1 ++ leBytes 12 512))

/-- At time 7 the step that executes it has no byte of its stream yet. -/
def halfAwaited : State :=
  { uptime := 7, dev := { mode := .service }, steps := [streamingStep]
    array := { routes := [{ id := 5, ctx := 256, footprint := 1, image := 0, bytes := halfImage }] } }

/-- Its first round, which is due. -/
def halfDue : Due := ⟨streamingStep, halfImage, 272, 0, {}⟩

/-- Refutes O34: the gate of a round that waits for a stream half awaits a request, so the cluster also notes since when (R390),
and is not the one before with no more than its freeze. -/
theorem not_rounds : ¬ Obligations.Rounds := by
  unfold Obligations.Rounds
  rintro ⟨-, -, -, waits, -⟩
  have due : halfAwaited.due (0 : ClusterId).val = some halfDue := by decide +kernel
  have ungated : halfAwaited.gated halfDue.p (halfDue.p.routes.getD halfDue.p.phase 0) = false := by decide +kernel
  have more : halfDue.ends halfAwaited = false := by decide +kernel
  have room : halfDue.jammed halfAwaited = none := by decide +kernel
  have waiting : halfDue.waiting halfAwaited ≠ 0 := by decide +kernel
  obtain ⟨u, run, same, -⟩ := waits 0 halfDue halfAwaited due rfl (.inr ungated) more room waiting rfl rfl
  have noted := exec_roundStart_requestSince due rfl (.inr ungated) more room waiting rfl rfl (by decide +kernel) rfl rfl run
  rw [same] at noted
  cases noted

end Sys2Proof.Machine
end

section
/-! SUPPORT. The translation of a Near window address (R207, R214, R221, R370) and a byte of memory after a write of several. -/
namespace Sys2Proof.Machine

/-! ### Addresses -/

theorem State.place_of_nearWindow (s : State) (c : Nat) {va : Nat} (w : Bool) (near : va < 2 ^ 36) :
    s.place c va w = s.nearPlace c va w := by
  have window : windowOf va = 0 := if_pos near
  simp only [State.place, window]

/-- The entry of an address names its region, and W of the entry allows its writes. -/
theorem State.nearPlace_of_entry {s : State} {c va : Nat} {e : MapEntry} {w : Bool}
    (entry : s.mapEntry c (va / 2 ^ 20) = some e) (unpooled : s.prnPool e.prn = none)
    (inService : s.isolated (prnCluster e.prn) = false) (writable : w = true → e.w = true) :
    s.nearPlace c va w = .ok (.near (e.prn * 2 ^ 20 + va % 2 ^ 20)) := by
  have allowed : (w && !e.w) = false := by
    cases w with
    | false => rfl
    | true => rw [writable rfl]; rfl
  unfold State.nearPlace
  rw [entry]
  simp [unpooled, allowed, inService]

/-! ### Memories -/

/-- Each byte written is read at its own address: the writes after it lie above. -/
theorem memRead_memWrites_of_mem (m : List Host.Cell) {a b : Nat} {bs : Bytes} (wf : memWf m = true) (ge : a ≤ b)
    (lt : b < a + bs.length) : memRead (memWrites m a bs) b = bs.getD (b - a) 0 := by
  induction bs generalizing m a with
  | nil => exact absurd lt (by simpa using ge)
  | cons x bs ih =>
    have wf' := memWf_memWrite m a x wf
    rw [List.length_cons] at lt
    rw [memWrites]
    rcases Nat.eq_or_lt_of_le ge with rfl | above
    · rw [memRead_memWrites_of_not_mem _ _ _ _ wf' (.inl (Nat.lt_succ_self a)), memRead_memWrite m a a x wf, if_pos rfl,
        Nat.sub_self, List.getD_cons_zero]
    · have next : b - a = b - (a + 1) + 1 := by omega
      rw [ih _ wf' above (by omega), next, List.getD_cons_succ]

/-- Settles O13: the entry's region and the offset make the address, and a byte is inside what was written or outside it. -/
theorem nearTranslation : Obligations.NearTranslation := by
  unfold Obligations.NearTranslation
  refine ⟨fun s c va e w near entry unpooled inService writable => ?_, fun m a bs b wf => ?_⟩
  · rw [s.place_of_nearWindow c w near]
    exact State.nearPlace_of_entry entry unpooled inService writable
  · split_ifs with inside
    · exact memRead_memWrites_of_mem m wf inside.1 inside.2
    · exact memRead_memWrites_of_not_mem m a b bs wf (by omega)

end Sys2Proof.Machine
end

section
/-! SUPPORT. The quiescence confirmation of an unmap while an access translated through the old entry waits (R211, R276, R579). -/
namespace Sys2Proof.Machine

/-- While an access that was translated through the old entry is outstanding, the confirmation does not end. -/
theorem exec_unmapQuiesced_of_staleHeld {s : State} {op : MapOp} (busy : s.near.op = some op) (stale : s.staleHeld op = true) :
    exec .unmapQuiesced s = .next s := by
  show execUnmapQuiesced s = .next s
  unfold execUnmapQuiesced
  rw [busy, Option.any_some, stale, Bool.not_true, Bool.and_false]
  rfl

/-- A READ of device 4 in the Near window of SYS, at VRN 5. -/
def nearRead : Held :=
  { port := 0, kind := .read
    h := { type := 0x10, poison := false, reserved := false, units := 0, src := 4, dst := 0, ctx := 256, epoch := 0, tag := 0
           addr := 0x500000, length := 64, status := 0 } }

/-- Region 7 is mapped at VRN 5 of SYS, and the READ waits for its cluster, which is frozen. -/
def nearReadWaits : State :=
  { dev := { mode := .service, hifOut := true }, hif := { linkUp := true }
    near := { map := [(256 * 65536 + 5, ⟨7, true⟩)], regions := [(7, { kind := .owned, owner := 256 })] }
    array := { clusters := [(0, { frozen := true })] }, links := { held := [nearRead] } }

/-- What NM_MAP_UNMAP of VRN 5 leaves of it. -/
def unmapAwaitsRead : State := nearReadWaits.writeNmMap 5 256 0 false false

/-- Refutes O24: no device's acknowledgement is due and no entry names the region any more, yet a READ that was translated
through the old entry waits for a frozen cluster (R276), so UNMAP_QUIESCED leaves BUSY as it was (R211, R579). -/
theorem not_nearMap : ¬ Obligations.NearMap := by
  unfold Obligations.NearMap
  rintro ⟨-, -, -, -, quiesced, -⟩
  have busy : unmapAwaitsRead.near.op = some ⟨5, 256, 7, none⟩ := by decide +kernel
  have stale : unmapAwaitsRead.staleHeld ⟨5, 256, 7, none⟩ = true := by decide +kernel
  obtain ⟨u, run, ended, -⟩ := quiesced ⟨5, 256, 7, none⟩ unmapAwaitsRead busy rfl (by decide +kernel) (by decide +kernel)
    (by decide +kernel) (by decide)
  obtain rfl := Host.Outcome.next.inj ((exec_unmapQuiesced_of_staleHeld busy stale).symm.trans run)
  exact absurd (busy.symm.trans ended) (by decide)

end Sys2Proof.Machine
end

section
/-! SUPPORT. A BIND_MODEL that fails its checks once the grant has come to it: then a grant decision follows (R346, R382). -/

namespace Sys2Proof.Machine

/-- A BIND_MODEL of context 0 for slot 0, which has waited for the grant of its pool. -/
def grantedBind : Cmd := { id := 1, ring := 0, ctx := 0, stage := .grant, waited := true, raw := leBytes 64 4 }

/-- A BIND_MODEL of context 1, which waits for the grant of the same pool. -/
def waitingBind : Cmd := { id := 2, ring := 1, ctx := 1, stage := .grant, waited := true, raw := leBytes 64 4 }

/-- Contexts 0 and 1 are attached to pool 0 and context 0 holds its grant; slot 0 has become Suspect. -/
def bindGranted : State :=
  { dev := { mode := .service }, cmds := [grantedBind, waitingBind], store := { slots := [(0, { state := 3 })] }
    hif := { linkUp := true, rings := [(0, { cqBase := 0x100000000000, cqLog2 := 8 })] }
    dict := [(dkey 0x2300 4 0, 0)], cdict := [(ckey 0 1 3, 0), (ckey 1 1 3, 0)] }

/-- Sub-code 1 of BIND: the slot is not Valid (R346). -/
def slotNotValid : Fail := { status := stBind, value := 1 }

/-- The bind of context 0 completes, and the switch of pool 0 to context 1 begins. -/
theorem refuseBind_bindGranted : ((bindGranted.accessed otherUnit 0 0 0).refuseBind grantedBind slotNotValid).ctxs.switches =
    [(0, { outgoing := some 0, incoming := 1, start := 0 })] := by
  decide +kernel

/-- Refutes O26: a failing BIND_MODEL that had waited for its pool's grant is followed by a grant decision (R382), and the switch
that this begins changes the zone `ctxs`. -/
theorem not_storeAndBinds : ¬ Obligations.StoreAndBinds := by
  unfold Obligations.StoreAndBinds
  rintro ⟨fails, -⟩
  obtain ⟨u, -, rfl, -, -, k⟩ := fails 1 grantedBind slotNotValid bindGranted (by decide +kernel) (by decide +kernel)
  have kept := congrArg Ctxs.switches (k.keeps .ctxs rfl)
  exact absurd (refuseBind_bindGranted.symm.trans kept) (by decide)

end Sys2Proof.Machine
end

section
/-! SUPPORT. A requester whose transport answers while the device has no power (log entry 2). -/

namespace Sys2Proof.Machine

/-- The device is off, yet its Host Interface stands out of reset with its link up. -/
def offWithLinkUp : State := { dev := { mode := .off, hifOut := true }, hif := { linkUp := true } }

/-- The host's STORE_COMMIT gets a response there. -/
theorem execStoreCommit_offWithLinkUp :
    ∃ u, execStoreCommit .hostPf 0 0 offWithLinkUp = .next u ∧ u.kop.response ≠ offWithLinkUp.kop.response :=
  ⟨_, rfl, by decide +kernel⟩

/-- Refutes O53: STORE_COMMIT of a device without power is asked to change nothing, but whether a request is served depends on its
transport alone, and nothing in the statement says that the link is down when the power is off. -/
theorem not_storeInstallation : ¬ Obligations.StoreInstallation := by
  unfold Obligations.StoreInstallation
  rintro ⟨-, -, -, -, -, -, -, -, -, -, -, -, -, -, -, -, off, -⟩
  obtain ⟨u, run, rfl, -⟩ := off .hostPf 0 0 offWithLinkUp rfl
  obtain ⟨v, answered, ne⟩ := execStoreCommit_offWithLinkUp
  exact ne (congrArg (·.kop.response) (Host.Outcome.next.inj (answered.symm.trans run)))

end Sys2Proof.Machine
end

section
/-! SUPPORT. The host's register writes (R234, R240, R319, R322, R354, R360, R374): what each leaves in the register it names and in
the other entries of its table. -/

namespace Sys2Proof.Machine

/-! ### Functions that reach the device -/

theorem State.reachable_pf {s : State} (up : s.hostUp = true) : s.reachable .pf = true := by
  rw [State.reachable, up, Bool.true_and]

theorem State.next_ifHost {s : State} {f : Func} (reach : s.reachable f = true) (w : State → State) :
    (.next (s.ifHost f w) : Host.Outcome State Fault Refusal) = .next (w s) := congrArg _ (if_pos reach)

/-! ### Entries of the host's tables -/

theorem State.loopOf_setLoop {s : State} (sorted : tsorted none s.hif.loops = true) (g j : Nat) (l : Loop) :
    (s.setLoop g l).loopOf j = if j = g then l else s.loopOf j := tget_tset _ _ _ _ _ sorted

theorem State.page_setPage {s : State} (sorted : tsorted none s.hif.pages = true) (c j : Nat) (p : CtxPage) :
    (s.setPage c p).page j = if j = c then p else s.page j := tget_tset _ _ _ _ _ sorted

theorem State.vector_setVector_same {s : State} (sorted : tsorted none s.hif.msix = true) (f : Func) (v : Nat) (m : Msix) :
    (s.setVector f v m).vector f v = m := (tget_tset _ _ _ _ _ sorted).trans (if_pos rfl)

theorem State.counter_setCounter {s : State} (can : Canonical s) (n m : Nat) (v : BitVec 64) :
    (s.setCounter n v).counter m = if m = n then v else s.counter m := by
  have counters : (s.setCounter n v).counters = tset 0 s.counters n v := State.counters_of_frame (settleWaits_frame ..) rfl
  rw [State.counter, counters]
  exact tget_tset _ _ _ _ _ ((twf_iff _ _).mp can.counters).1

/-! ### Loop table and control pages -/

theorem State.writeLoopWord_of_passed {s : State} {g q v : Nat} (drained : s.drained g = true)
    (passed : ((s.loopOf g).setWord q v).check = 0) :
    s.writeLoopWord g q v = s.setLoop g { (s.loopOf g).setWord q v with cfgResult := 0 } := by
  unfold State.writeLoopWord
  dsimp only
  rw [drained, passed]
  rfl

theorem State.writeLoopWord_of_not_drained {s : State} {g : Nat} (drained : s.drained g = false) (q v : Nat) :
    s.writeLoopWord g q v = s.setLoop g { s.loopOf g with cfgResult := 4 } := by
  unfold State.writeLoopWord
  dsimp only
  rw [drained]
  rfl

theorem State.writeEvqBase_of_host {s : State} (c : Nat) {v : Nat} (aligned : v % 4096 = 0)
    (window : windowOf (v % 2 ^ 52) = 2) : s.writeEvqBase c v = s.setPage c { s.page c with evqBase := BitVec.ofNat 52 v } := by
  have base : BitVec.ofNat 52 (v % 2 ^ 52) = BitVec.ofNat 52 v := BitVec.eq_of_toNat_eq (by simp)
  unfold State.writeEvqBase
  dsimp only
  rw [if_pos ⟨by omega, window⟩, base]

theorem State.writePageOf_of_other {s : State} {f : Func} {c : Nat} (vf : f ≠ .pf) (other : funcNumber f ≠ c + 1) (off v : Nat) :
    s.writePageOf f c off v = s := by
  cases f with
  | pf => exact absurd rfl vf
  | vf own => exact if_neg fun same => other (congrArg (· + 1) same)

/-! ### Translations -/

theorem outside_of_mem_tclear {α : Type} {t : Tab α} {lo hi : Nat} {kv : Nat × α} (h : kv ∈ tclear t lo hi) :
    kv.1 < lo ∨ hi ≤ kv.1 := by
  simpa using (List.mem_filter.mp h).2

/-- No page of a context, small or large, has a cached translation in a table. -/
def ForgottenIn {α : Type} (t : Tab α) (c : Nat) : Prop :=
  (∀ p < 2 ^ 28, tfind t (c * 2 ^ 28 + p) = none) ∧ ∀ p < 2 ^ 23, tfind t (2 ^ 40 + c * 2 ^ 23 + p) = none

theorem State.forgetPages_all (s : State) (c : Nat) : ForgottenIn (s.forgetPages c 0 (2 ^ 28)).bulk.tlb c := by
  refine ⟨fun p lt => tfind_eq_none fun kv listed => ?_, fun p lt => tfind_tclear _ (by omega) (by omega)⟩
  have outside := outside_of_mem_tclear (List.mem_filter.mp listed).1
  omega

theorem State.writeRoot_roots {s : State} (sorted : tsorted none s.bulk.roots = true) (c : Nat) (v : BitVec 64) :
    tget 0 (s.writeRoot c v).bulk.roots c = v &&& 0x7FFFFFF001 := (tget_tset _ _ _ _ _ sorted).trans (if_pos rfl)

theorem State.writeRoot_forgets (s : State) (c : Nat) (v : BitVec 64) : ForgottenIn (s.writeRoot c v).bulk.tlb c :=
  State.forgetPages_all _ c

/-- A request for all pages of a context forgets them, and BUSY rises where it asks for a confirmation (R240). -/
theorem State.writeInval_of_whole {s : State} {v : Nat} (idle : s.bulk.inval.getLsbD 63 = false) (good : invalBad v = false)
    (whole : bits v 43 28 = 0) :
    (s.writeInval v).bulk = { (s.forgetPages (bits v 52 44) 0 (2 ^ 28)).bulk with
      inval := BitVec.ofNat 64 (v % 2 ^ 54 + if bit v 53 then 2 ^ 63 else 0) } := by
  unfold State.writeInval
  dsimp only
  rw [if_neg (Bool.eq_false_iff.mp idle), if_neg (Bool.eq_false_iff.mp good), if_pos whole]
  split_ifs <;> rfl

theorem State.writeInval_of_busy {s : State} (busy : s.bulk.inval.getLsbD 63 = true) (v : Nat) : s.writeInval v = s :=
  if_pos busy

/-- The confirmation has ended and BUSY falls (R240, R579). -/
theorem execBkiInvalQuiesced_of_acked {s : State} (busy : s.bulk.inval.getLsbD 63 = true)
    (acked : s.epochAcked (bits s.bulk.inval.toNat 52 44) = true) :
    execBkiInvalQuiesced s = .next { s.endConfirm 1 (bits s.bulk.inval.toNat 52 44) with
      bulk := { s.bulk with inval := s.bulk.inval &&& 0x7FFFFFFFFFFFFFFF } } :=
  congrArg _ (if_pos (Bool.and_eq_true_iff.mpr ⟨busy, acked⟩))

theorem getLsbD_inval (v : Nat) (b : Bool) : (BitVec.ofNat 64 (v % 2 ^ 54 + if b then 2 ^ 63 else 0)).getLsbD 63 = b := by
  have low : (v % 2 ^ 54).testBit 63 = false := Nat.testBit_lt_two_pow (by omega)
  rw [BitVec.getLsbD_ofNat, decide_eq_true (by omega), Bool.true_and]
  cases b
  · exact low
  · rw [if_pos rfl, Nat.add_comm, Nat.testBit_two_pow_add_eq, low]
    rfl

/-! ### Owners and MSI-X vectors -/

theorem State.writeOwner_of_allowed {s : State} {v : BitVec 16} (allowed : v.toNat ≤ 256 ∨ v = 0xFFFF) (n : Nat) :
    s.writeOwner n v = { s with owners := tset 0xFFFF s.owners n v } := if_pos allowed

theorem State.writeOwner_of_refused {s : State} {v : BitVec 16} (above : 256 < v.toNat) (named : v ≠ 0xFFFF) (n : Nat) :
    s.writeOwner n v = s := if_neg (by rintro (le | eq); exacts [Nat.not_lt.mpr le above, named eq])

/-- An unmasked vector is neither masked nor pending, and its pending message is sent (R360). -/
theorem State.maskVector_unmask (s : State) (f : Func) (v : Nat) :
    s.maskVector f v false =
      { s.setVector f v { s.vector f v with masked := false, pend := false } with
        out := (if (s.vector f v).pend then [Out.msix (funcNumber f) v] else []) ++ s.out } := by
  unfold State.maskVector
  dsimp only
  cases pend : (s.vector f v).pend
  · exact if_neg Bool.false_ne_true
  · rfl

/-! ### Registers by their offset -/

theorem inTable_of_beyond {o base n : Nat} (beyond : base + n ≤ o) : inTable o base n = false := by
  simp only [inTable, decide_eq_false_iff_not]
  omega

theorem pfReg_counter {o : Nat} (ge : 0x400000 ≤ o) (lt : o < 0x480000) :
    pfReg o = some (.counter ((o - 0x400000) / 8)) := by
  have here : inTable o 0x400000 0x80000 = true := by simp only [inTable, decide_eq_true_eq]; omega
  have before {base n : Nat} (le : base + n ≤ 0x400000) : inTable o base n = false := inTable_of_beyond (Nat.le_trans le ge)
  unfold pfReg
  rw [if_neg (by omega), if_neg (by omega), if_neg (by omega)]
  simp [before, here]

theorem State.writeBar_of_reg {s : State} {f : Func} {bar2 : Bool} {off : Nat} {x : Reg}
    (reg : s.regAt f bar2 (off / 8 * 8) = some x) (aligned : off % 8 = 0) (v : Nat) :
    s.writeBar f bar2 off true v = s.writeReg x v := by
  unfold State.writeBar
  rw [reg]
  exact if_pos aligned

theorem State.writeBar_of_none {s : State} {f : Func} {bar2 : Bool} {off : Nat}
    (none : s.regAt f bar2 (off / 8 * 8) = none) (eight : Bool) (v : Nat) : s.writeBar f bar2 off eight v = s := by
  unfold State.writeBar
  rw [none]

/-- A write of 8 bytes in the sync counter table of PF BAR0. -/
theorem State.writeBar_counter (s : State) {off : Nat} (ge : 0x400000 ≤ off) (lt : off < 0x480000) (aligned : off % 8 = 0)
    (v : BitVec 64) : s.writeBar .pf false off true v.toNat = s.setCounter ((off - 0x400000) / 8) v := by
  have reg : s.regAt .pf false (off / 8 * 8) = some (.counter ((off - 0x400000) / 8)) := by
    rw [show off / 8 * 8 = off by omega]
    exact pfReg_counter ge lt
  rw [State.writeBar_of_reg reg aligned, State.writeReg, BitVec.ofNat_toNat, BitVec.setWidth_eq]

/-- Settles O23: each row reaches the write of its register, whose lemma above says what it leaves. -/
theorem hostRegisters : Obligations.HostRegisters := by
  unfold Obligations.HostRegisters
  refine ⟨fun ring q value s up drained passed sorted => ?loopPassed, fun ring q value s up drained sorted => ?loopRefused,
    fun f ctx off value s reach pf at8 aligned window sorted => ?evqBase,
    fun f ctx off value s reach vf other => ?otherPage,
    fun ctx value s up sorted => ?root, fun value s up idle good whole => ?inval, fun value s up busy => ?invalBusy,
    fun s busy acked => ?quiesced, fun n value s can up => ?counter, fun n value s can up allowed => ?owner,
    fun n value s up above named => ?ownerRefused, fun f vector s reach lt sorted => ?unmask,
    fun ctx page pages s up sorted => ?ats, fun f bar2 off eight value x s reach reg wide aligned => ?register,
    fun f bar2 off eight value s can up pf bar0 wide aligned ge lt => ?barCounter,
    fun f bar2 off eight value s reach none => ?noRegister⟩
  case loopPassed =>
    refine ⟨_, State.next_ifHost (State.reachable_pf up) _, ?_, fun h ne => ?_, State.writeLoopWord_frame ..⟩
    all_goals rw [State.writeLoopWord_of_passed drained passed, State.loopOf_setLoop sorted]
    · exact if_pos rfl
    · exact if_neg ne
  case loopRefused =>
    refine ⟨_, State.next_ifHost (State.reachable_pf up) _, ?_, fun h ne => ?_, State.writeLoopWord_frame ..⟩
    all_goals rw [State.writeLoopWord_of_not_drained drained, State.loopOf_setLoop sorted]
    · exact if_pos rfl
    · exact if_neg ne
  case evqBase =>
    subst pf at8
    refine ⟨_, State.next_ifHost reach _, ?_, fun h ne => ?_, State.writePageOf_frame ..⟩
    all_goals
      rw [show s.writePageOf .pf ctx.val (8 : BitVec 12).toNat value.toNat = s.writeEvqBase ctx.val value.toNat from rfl,
        State.writeEvqBase_of_host _ aligned window, State.page_setPage sorted]
    · exact if_pos rfl
    · exact if_neg ne
  case otherPage =>
    refine ⟨s, ?_, rfl, Frame.refl _ _⟩
    exact (State.next_ifHost reach _).trans (congrArg _ (State.writePageOf_of_other vf other ..))
  case root =>
    obtain ⟨small, large⟩ := s.writeRoot_forgets ctx.val value
    exact ⟨_, State.next_ifHost (State.reachable_pf up) _, State.writeRoot_roots sorted .., small, large,
      State.writeRoot_frame ..⟩
  case inval =>
    obtain ⟨small, large⟩ := s.forgetPages_all (bits value.toNat 52 44)
    have after := State.writeInval_of_whole idle good whole
    refine ⟨_, State.next_ifHost (State.reachable_pf up) _, ?_, ?_, ?_, State.writeInval_frame ..⟩
    all_goals rw [after]
    · exact small
    · exact large
    · exact getLsbD_inval _ _
  case invalBusy =>
    exact ⟨s, (State.next_ifHost (State.reachable_pf up) _).trans (congrArg _ (State.writeInval_of_busy busy _)), rfl,
      Frame.refl _ _⟩
  case quiesced =>
    have run := execBkiInvalQuiesced_of_acked busy acked
    exact ⟨_, run, rfl, rfl, execBkiInvalQuiesced_frame run⟩
  case counter =>
    refine ⟨_, State.next_ifHost (State.reachable_pf up) _, ?_, fun m ne => ?_, State.setCounter_frame ..⟩
    all_goals rw [State.counter_setCounter can]
    · exact if_pos rfl
    · exact if_neg ne
  case owner =>
    have sorted : tsorted none s.owners = true := ((twf_iff _ _).mp can.owners).1
    refine ⟨_, State.next_ifHost (State.reachable_pf up) _, ?_, fun m ne => ?_, State.writeOwner_frame ..⟩
    all_goals rw [State.writeOwner_of_allowed allowed, State.ownerOf, tget_tset _ _ _ _ _ sorted]
    · rw [if_pos rfl]
    · rw [if_neg ne]
      rfl
  case ownerRefused =>
    exact ⟨s, (State.next_ifHost (State.reachable_pf up) _).trans (congrArg _ (State.writeOwner_of_refused above named _)), rfl,
      Frame.refl _ _⟩
  case unmask =>
    refine ⟨_, (State.next_ifHost reach _).trans (congrArg _ (if_pos lt)), ?_, ?_, State.maskVector_frame ..⟩
    all_goals rw [State.maskVector_unmask]
    exact State.vector_setVector_same sorted ..
  case ats =>
    refine ⟨_, State.next_ifHost (State.reachable_pf up) _, rfl, fun p ge lt small => ?_, ?_⟩
    · rw [thas_eq_tfind]
      exact congrArg Option.isSome (tfind_tclear s.bulk.ats (by omega) (by omega))
    · exact execAtsInvalidationRequest_frame (State.next_ifHost (State.reachable_pf up) _)
  case register =>
    subst wide
    exact ⟨_, (State.next_ifHost reach _).trans (congrArg _ (State.writeBar_of_reg reg aligned _)), rfl,
      State.writeReg_frame ..⟩
  case barCounter =>
    subst pf bar0 wide
    refine ⟨_, (State.next_ifHost (State.reachable_pf up) _).trans (congrArg _ (s.writeBar_counter ge lt aligned value)), ?_,
      State.setCounter_frame ..⟩
    rw [State.counter_setCounter can, if_pos rfl]
  case noRegister =>
    exact ⟨s, (State.next_ifHost reach _).trans (congrArg _ (State.writeBar_of_none none ..)), rfl, Frame.refl _ _⟩

end Sys2Proof.Machine
end

section
/-! SUPPORT. Bindings, lanes, halted streams and QUERY (R292, R294, R347, R352, R353, R413, R422, R423): what each command leaves of
the commands in flight and of the tables it writes. -/
namespace Sys2Proof.Machine

/-! ### Commands in flight -/

theorem State.complete_cmd_of_starting {s : State} {id op : Nat} {c : Cmd} (starts : s.starting id op = some c) (t : State)
    (status value : Nat) : (t.complete c status value).cmd id = none :=
  State.starting_id starts ▸ State.complete_cmd t c status value 0 0

/-- A command in flight that is moved to a stage stands in it. -/
theorem State.cmd_stage {s : State} {id : Nat} {c : Cmd} (found : s.cmd id = some c) (g : Stage) :
    (s.stage c g).cmd id = some { c with stage := g } := by
  obtain rfl := State.cmd_id found
  exact State.cmd_setCmd (c := { c with stage := g }) found

theorem settleFences_cmds_sublist (n : Nat) (s : State) : (settleFences n s).cmds.Sublist s.cmds := by
  induction n generalizing s with
  | zero => exact .refl _
  | succ n ih =>
    unfold settleFences
    split
    · exact .refl _
    · refine (ih _).trans ?_
      rw [State.finish_cmds]
      exact List.filter_sublist

/-- Completing a command takes it out of those in flight and brings none in. -/
theorem State.complete_cmds_sublist (s : State) (c : Cmd) (status value flags replays : Nat) :
    (s.complete c status value flags replays).cmds.Sublist (s.cmds.filter fun d => decide (d.id ≠ c.id)) :=
  State.finish_cmds s c status value flags replays ▸ settleFences_cmds_sublist _ _

theorem State.complete_cmds_length_lt {s : State} {c : Cmd} (flies : c ∈ s.cmds) (status value : Nat) :
    (s.complete c status value).cmds.length < s.cmds.length :=
  Nat.lt_of_le_of_lt (State.complete_cmds_sublist s c status value 0 0).length_le
    (List.length_filter_lt_length_iff_exists.mpr ⟨c, flies, by simp⟩)

theorem State.completeAll_cmds_sublist (cs : List Cmd) (s : State) :
    (cs.foldl (fun s c => s.complete c 0 0) s).cmds.Sublist s.cmds := by
  induction cs generalizing s with
  | nil => exact .refl _
  | cons c cs ih => exact (ih _).trans ((State.complete_cmds_sublist s c 0 0 0 0).trans List.filter_sublist)

theorem State.completeAll_cmds_length_lt {s : State} {cs : List Cmd} (listed : cs ≠ []) (fly : ∀ c ∈ cs, c ∈ s.cmds) :
    (cs.foldl (fun s c => s.complete c 0 0) s).cmds.length < s.cmds.length := by
  obtain ⟨c, cs, rfl⟩ := List.exists_cons_of_ne_nil listed
  exact Nat.lt_of_le_of_lt (State.completeAll_cmds_sublist cs _).length_le
    (State.complete_cmds_length_lt (fly c List.mem_cons_self) 0 0)

/-! ### Bindings -/

theorem tfind_terase_same {α : Type} {b : Option Nat} {t : Tab α} (k : Nat) (sorted : tsorted b t = true) :
    tfind (terase t k) k = none := by
  have unlisted := thas_terase_same k sorted
  rw [thas_eq_tfind] at unlisted
  exact Option.isSome_eq_false_iff.mp unlisted |> Option.isNone_iff_eq_none.mp

/-- UNBIND_MODEL of a handle of its context that is Bound or Unbinding (R413). -/
theorem execUnbindModel_of_owned {s : State} {cmd : Nat} {c : Cmd} {b : Binding} (starts : s.starting cmd 5 = some c)
    (held : s.binding (c.at 8 2) = some b) (own : b.owner = c.ctx) (named : b.state ≠ .binding) :
    execUnbindModel cmd s = .next ((s.setBinding (c.at 8 2) { b with state := .unbinding }).stage c .running) := by
  simp [execUnbindModel, starts, held, own, named]

/-- The released handle is Free: the completions that follow leave the bindings. -/
theorem State.binding_release {s : State} (sorted : tsorted none s.serve.bindings = true) (h : Nat) (activeToo : Bool) :
    (s.release h activeToo).binding h = none := by
  have kept (cs : List Cmd) (t : State) : (cs.foldl (fun s c => s.complete c 0 0) t).serve = t.serve :=
    (Frame.foldl cs (fun t c => State.complete_frame t c 0 0 0 0) (Frame.refl _ t)).keeps .serve rfl
  unfold State.release State.binding
  rw [kept]
  exact tfind_terase_same h sorted

/-- A release for which UNBIND_MODEL commands waited takes commands out of those in flight. -/
theorem State.release_cmds_length_lt {s : State} {h : Nat} (waited : s.unbinds h ≠ []) (activeToo : Bool) :
    (s.release h activeToo).cmds.length < s.cmds.length :=
  State.completeAll_cmds_length_lt waited fun _ mem => (List.mem_filter.mp mem).1

/-! ### Lanes -/

theorem tget_map {α β : Type} (d : α) (f : α → β) (t : Tab α) (k : Nat) :
    tget (f d) (t.map fun kv => (kv.1, f kv.2)) k = f (tget d t k) := by
  induction t with
  | nil => rfl
  | cons kv t ih =>
    simp only [List.map_cons, tget, ih]
    split_ifs <;> rfl

theorem tsorted_map {α β : Type} (f : α → β) (b : Option Nat) (t : Tab α) :
    tsorted b (t.map fun kv => (kv.1, f kv.2)) = tsorted b t := by
  induction t generalizing b with
  | nil => rfl
  | cons kv t ih => simp only [List.map_cons, tsorted, ih]

/-- A lane whose open loops are those still open (R422). -/
def State.settledLane (s : State) (v : Lane) : Lane := { v with openLoops := v.openLoops.filter s.loopOpen }

theorem State.settleLanes_lanes (s : State) :
    s.settleLanes.serve.lanes = s.serve.lanes.map fun kv => (kv.1, s.settledLane kv.2) := rfl

theorem State.lane_settleLanes (s : State) (c l : Nat) : s.settleLanes.lane c l = s.settledLane (s.lane c l) :=
  tget_map {} s.settledLane s.serve.lanes (c * 8 + l)

theorem State.settleLanes_sorted {s : State} (sorted : tsorted none s.serve.lanes = true) :
    tsorted none s.settleLanes.serve.lanes = true := by
  rw [State.settleLanes_lanes, tsorted_map, sorted]

/-- The flipped lane (R423). -/
theorem State.lane_flip {s : State} (sorted : tsorted none s.serve.lanes = true) (c l : Nat) :
    (s.flip c l).lane c l =
      { s.lane c l with active := 1 - (s.lane c l).active, switching := false, openLoops := [],
                        gen := ((s.lane c l).gen + 1) % 2 ^ 32 } := by
  unfold State.flip
  rw [State.lane, (State.cbump_frame _ c 13 6 32 1).keeps .serve rfl]
  exact (tget_tset _ _ _ _ _ sorted).trans (if_pos rfl)

/-! ### Halted streams -/

/-- RESUME_STREAM of the fault that a saved record names (R292). -/
theorem execResumeStream_of_saved {s : State} {cmd : Nat} {c : Cmd} {r : Spr} {st : Stream} {key : Nat}
    (starts : s.starting cmd 11 = some c) (named : key = c.at 10 2 * 32 + c.at 12 1)
    (here : tget {} s.array.streams key = st) (halted : st.fault = some r) (ctx : r.ctx = c.at 8 2) (seq : r.seq = c.at 16 4)
    (saved : st.spr.isSome = true) : execResumeStream cmd s = .next ((s.resume key st).complete c 0 1) := by
  subst named here
  simp [execResumeStream, starts, halted, ctx, seq, saved]

/-- RESUME_STREAM of a fault whose record is not saved yet is held (R294). -/
theorem execResumeStream_of_unsaved {s : State} {cmd : Nat} {c : Cmd} {r : Spr} {st : Stream} {key : Nat}
    (starts : s.starting cmd 11 = some c) (named : key = c.at 10 2 * 32 + c.at 12 1)
    (here : tget {} s.array.streams key = st) (halted : st.fault = some r) (ctx : r.ctx = c.at 8 2) (seq : r.seq = c.at 16 4)
    (unsaved : st.spr = none) :
    execResumeStream cmd s = .next ((s.setStream key { st with held := st.held ++ [cmd] }).stage c .running) := by
  subst named here
  simp [execResumeStream, starts, halted, ctx, seq, unsaved]

/-- A stream that is not as at reset reads as it was set. -/
theorem State.stream_setStream {st : Stream} (used : st ≠ {}) (s : State) (key : Nat) :
    tget {} (s.setStream key st).array.streams key = st := by
  show tget {} (tset {} s.array.streams key st) key = st
  rw [tset, if_neg used, tget_tput_same]

theorem Stream.ne_reset_of_held {st : Stream} {cmd : Nat} (held : cmd ∈ st.held) : st ≠ {} := by
  rintro rfl
  exact absurd held List.not_mem_nil

/-! ### QUERY -/

/-- QUERY of a counter that the ring's context may name (R353). -/
theorem State.queryData_counter {s : State} {q : Cmd} (kind : q.at 8 1 = 3) (may : s.mayUse q.ctx (q.at 12 4) = true) :
    s.queryData q = (s, .ok (leBytes 8 (s.counter (q.at 12 4)).toNat)) := by
  simp [State.queryData, kind, may]

/-- Data that memory takes completes the QUERY. -/
theorem State.answerQuery_of_written {s v : State} {q : Cmd} {data : Bytes}
    (written : s.writes q.ctx none (q.at 16 8) (data.take (q.at 24 4)) = (v, none)) :
    s.answerQuery q data = v.complete q 0 (min (q.at 24 4) data.length + data.length * 2 ^ 32) := by
  simp [State.answerQuery, State.cwrite, written]

theorem execQuery_of_data {s v : State} {cmd : Nat} {q : Cmd} {data : Bytes} (starts : s.starting cmd 12 = some q)
    (available : s.queryData q = (v, .ok data)) : execQuery cmd s = .next (v.answerQuery q data) := by
  simp [execQuery, starts, available]

theorem execQuery_of_error {s v : State} {cmd status value : Nat} {q : Cmd} (starts : s.starting cmd 12 = some q)
    (fails : s.queryData q = (v, .error (status, value))) : execQuery cmd s = .next (v.complete q status value) := by
  simp [execQuery, starts, fails]

/-- Settles O21: each command is its row of the model under the clause's hypotheses, and the lemmas above say what that leaves. -/
theorem bindingsAndQueries : Obligations.BindingsAndQueries := by
  unfold Obligations.BindingsAndQueries
  refine ⟨fun cmd c b s starts held own named => ?unbind, fun handle s free sorted => ?release,
    fun ctx lane s can sorted => ?flip, fun cmd c r s starts halted ctx seq saved => ?resume,
    fun cmd c r s starts halted ctx seq unsaved => ?hold, fun cmd c v s starts kind may written => ?counter,
    fun cmd c v status value s starts fails => ?fails⟩
  case unbind =>
    refine ⟨_, execUnbindModel_of_owned starts held own named, held, tfind_tput_same .., ?_,
      Frame.step (State.stage_frame ..) rfl (Frame.mono (State.setBinding_frame ..) rfl)⟩
    exact congrArg (Option.map _) (State.cmd_stage (s := s.setBinding _ _) (State.starting_cmd starts) .running)
  case release =>
    have run : exec (.bindingRelease handle) s = .next (s.release handle.val false) := congrArg _ (if_pos free)
    exact ⟨_, run, State.binding_release sorted .., or_iff_not_imp_left.mpr fun waited =>
      State.release_cmds_length_lt waited false, State.release_frame ..⟩
  case flip =>
    have run : exec (.laneFlip ctx lane) s = .next (s.settleLanes.flip ctx.val lane.val) := congrArg _ (if_pos can)
    have flipped := State.lane_flip (State.settleLanes_sorted sorted) ctx.val lane.val
    rw [State.lane_settleLanes] at flipped
    exact ⟨_, run, congrArg Lane.active flipped, congrArg Lane.switching flipped, congrArg Lane.gen flipped,
      execLaneFlip_frame run⟩
  case resume =>
    have run := execResumeStream_of_saved starts rfl rfl halted ctx seq saved
    exact ⟨_, run, rfl, State.complete_cmd_of_starting starts .., execResumeStream_frame run⟩
  case hold =>
    have mine : cmd ∈ (tget {} s.array.streams (c.at 10 2 * 32 + c.at 12 1)).held ++ [cmd] := by simp
    refine ⟨_, execResumeStream_of_unsaved starts rfl rfl halted ctx seq unsaved, ?_, ?_,
      Frame.step (State.stage_frame ..) rfl (Frame.mono (State.setStream_frame ..) rfl)⟩
    · exact congrArg (Option.map _) (State.cmd_stage (s := s.setStream _ _) (State.starting_cmd starts) .running)
    · rw [State.stage_array, State.stream_setStream (Stream.ne_reset_of_held mine)]
      exact mine
  case counter =>
    have run := execQuery_of_data starts (State.queryData_counter kind may)
    rw [State.answerQuery_of_written written, leBytes_length] at run
    exact ⟨_, run, rfl, State.complete_cmd_of_starting starts .., Frame.step (State.complete_frame ..) rfl
      (Frame.mono (Frame.of_fst (State.writes_frame ..) written) rfl)⟩
  case fails =>
    exact ⟨_, execQuery_of_error starts fails, rfl, State.complete_cmd_of_starting starts ..,
      Frame.step (State.complete_frame ..) rfl (Frame.mono (Frame.of_fst (State.queryData_frame ..) fails) rfl)⟩

end Sys2Proof.Machine
end

section
/-! SUPPORT. The record of one reader of a Rope's descriptor while the other reader's accesses are outstanding (R290, R302). -/
namespace Sys2Proof.Machine

/-- A halted stream whose record is saved at a phase. -/
def Stream.saved (st : Stream) (r : Spr) (phase : Nat) : Stream :=
  { st with fault := some r, spr := some r, savedPhase := phase }

theorem Stream.saved_ne_reset (st : Stream) (r : Spr) (phase : Nat) : st.saved r phase ≠ {} :=
  fun e => Option.some_ne_none r (congrArg Stream.fault e)

/-- A record whose own reader has no access outstanding is saved at once, where no RESUME_STREAM is held for it (R290). -/
theorem execSprSave_of_recordDone {s : State} {core : CoreId} {stream : Fin 32} {st : Stream} {r : Spr} (t : Nat)
    (here : tget {} s.array.streams (core.val * 32 + stream.val) = st) (halted : st.fault = some r) (unsaved : st.spr = none)
    (done : s.recordPending (core.val * 32 + stream.val) r = false) (unheld : st.held = []) :
    execSprSave core stream t s = .next (((s.at t).setStream (core.val * 32 + stream.val)
      (st.saved ((s.at t).delivered core.val stream.val r) (s.at t).phase)).postEvent
        ((s.at t).delivered core.val stream.val r).ctx 1 0 ((s.at t).delivered core.val stream.val r).bytes) := by
  subst here
  simp [execSprSave, halted, unsaved, done, unheld, Stream.saved]

theorem State.spr_postEvent_saved (s : State) (key : Nat) (st : Stream) (r : Spr) (phase c kind detail : Nat) (b : Bytes) :
    (tget {} ((s.setStream key (st.saved r phase)).postEvent c kind detail b).array.streams key).spr = some r := by
  rw [(State.postEvent_frame ..).keeps .array rfl, State.stream_setStream (st.saved_ne_reset r phase)]
  rfl

/-- SPR_SAVE of such a record changes the state: the record is saved. -/
theorem execSprSave_ne_of_recordDone {s : State} {core : CoreId} {stream : Fin 32} {st : Stream} {r : Spr} (t : Nat)
    (here : tget {} s.array.streams (core.val * 32 + stream.val) = st) (halted : st.fault = some r) (unsaved : st.spr = none)
    (done : s.recordPending (core.val * 32 + stream.val) r = false) (unheld : st.held = []) :
    execSprSave core stream t s ≠ .next s := by
  intro unchanged
  have same := Host.Outcome.next.inj ((execSprSave_of_recordDone t here halted unsaved done unheld).symm.trans unchanged)
  have saved := congrArg (fun u : State => (tget {} u.array.streams (core.val * 32 + stream.val)).spr) same
  rw [State.spr_postEvent_saved, here, unsaved] at saved
  exact Option.some_ne_none _ saved

/-- The record of a fault that the head of a Rope met at a page that is not valid. -/
def headRecord : Spr :=
  { core := 0, stream := 0, window := 1, kind := 5, seq := 3, va := 0x1000, position := 0, pass := 1, ctx := 256, count := 1
    reader := 0 }

/-- Its descriptor, with the record not saved yet. -/
def headHalted : Stream := { fault := some headRecord }

/-- A READ of the same descriptor's delta table, which device 4 has still to answer. -/
def tableRequest : Request :=
  { tag := 0, port := 0, dst := 4, ctx := 256, epoch := 0, va := 0x200000000000, length := 2, asker := .rope 0 1 0 }

def tableOutstanding : State :=
  { dev := { mode := .service }, array := { streams := [(0, headHalted)] }, links := { requests := [tableRequest] } }

/-- Refutes O35: SPR_SAVE is asked to change nothing while any access of the stream's descriptor is outstanding, but a Rope's
descriptor has two readers (R302), and a record waits for the accesses of its own reader only: here the head's record is saved
while a READ of the delta table is outstanding. -/
theorem not_streams : ¬ Obligations.Streams := by
  unfold Obligations.Streams
  rintro ⟨-, -, -, -, -, -, -, -, -, -, waits, -⟩
  have outstanding : tableOutstanding.streamPending ((0 : CoreId).val * 32 + (0 : Fin 32).val) = true := by decide +kernel
  obtain ⟨u, run, rfl, -⟩ := waits 0 0 0 tableOutstanding (.inr outstanding)
  have done : tableOutstanding.recordPending ((0 : CoreId).val * 32 + (0 : Fin 32).val) headRecord = false := by decide +kernel
  exact execSprSave_ne_of_recordDone (st := headHalted) 0 rfl rfl rfl done rfl run

end Sys2Proof.Machine
end

section
/-! SUPPORT. The queue of commands that wait and the host's own record of refused pages, which belong to the outside. -/
namespace Sys2Proof.Machine

/-- Settles O4: neither the queue nor the refused pages are in any zone of a frame, and the rise of PWR_GOOD keeps both. -/
theorem queueKept : Obligations.QueueKept := by
  unfold Obligations.QueueKept
  intro c s u run
  by_cases rise : c = .pwrGoodRise
  · subst rise
    rcases execPwrGoodRise_frame run with rfl | ⟨pins, k⟩
    · exact ⟨rfl, rfl⟩
    · exact ⟨k.queue, k.hostDown⟩
  · have k := exec_frame rise run
    exact ⟨k.queue, k.hostDown⟩

end Sys2Proof.Machine
end

section
/-! SUPPORT. The completion entry of a command in mapped host memory (R329, R337): its 16 bytes, the place of the next one, and what
stands as before. -/
namespace Sys2Proof.Machine

/-! ### Writes of mapped pages -/

/-- The link is up, and the host takes a context's requests for n bytes from an address of the Host window (R320, R321). -/
structure HostTakes (s : State) (c va n : Nat) : Prop where
  linkUp : s.hif.linkUp = true
  inside : InHost va n
  taken : ∀ i < n, tget 0 s.hostDown (s.hostTag c * 2 ^ 32 + (va + i - 2 ^ 44) / 4096) = 0

theorem HostTakes.place {s : State} {c va n : Nat} (h : HostTakes s c va (n + 1)) (write : Bool) :
    s.place c va write = .ok (.host (s.hostAddr c va)) := by
  have taken : tget 0 s.hostDown (s.hostTag c * 2 ^ 32 + (va - 2 ^ 44) / 4096) = 0 := h.taken 0 n.succ_pos
  have here : s.hostPlace c va write = .ok (.host (s.hostAddr c va)) := by
    unfold State.hostPlace State.hostAddr
    dsimp only
    rw [h.linkUp, taken]
    exact (if_neg Bool.false_ne_true).trans (if_pos (.inl rfl))
  unfold State.place
  rw [h.inside.window n.succ_pos]
  exact here

theorem HostTakes.tail {g : List Zone} {s t : State} {c va n : Nat} (h : HostTakes s c va (n + 1)) (k : Frame g s t)
    (hif : g.contains .hif = false) (pages : g.contains .pages = false) : HostTakes t c (va + 1) n where
  linkUp := State.linkUp_of_frame k hif ▸ h.linkUp
  inside := h.inside.tail
  taken i lt := by
    rw [k.hostDown, State.hostTag_of_frame k c hif pages, Nat.add_assoc va, Nat.add_comm 1]
    exact h.taken (i + 1) (by omega)

theorem State.placeWrite_host_frame (s : State) (unit c : Nat) (who : Option Nat) (va va0 n : Nat) (b : Byte) (a : Nat) :
    Frame [.host, .bulk] s (s.placeWrite unit c who va va0 n b (.host a)) :=
  Frame.step (State.cacheHost_frame ..) rfl (Frame.set_host_hostUncommitted _ _ rfl (memWf_memWrite _ _ _) (Frame.refl _ s))

/-- A write that the host takes changes host memory, and of the device no more than its translation caches. -/
theorem State.writeFrom_taken {s : State} (unit : Nat) (c : Nat) (who : Option Nat) (va0 n : Nat) {va : Nat} {bs : Bytes}
    (h : HostTakes s c va bs.length) :
    ∃ t, s.writeFrom unit c who va0 n va bs = (t, none) ∧ t.host = memWrites s.host (s.hostAddr c va) bs ∧
      Frame [.host, .bulk] s t := by
  induction bs generalizing s va with
  | nil => exact ⟨s, rfl, rfl, .refl _ s⟩
  | cons b bs ih =>
    have k := State.placeWrite_host_frame s unit c who va va0 n b (s.hostAddr c va)
    obtain ⟨t, run, host, kt⟩ := ih (h.tail k rfl rfl)
    rw [State.placeWrite_host, State.hostAddr_of_frame k c _ rfl rfl, State.hostAddr_succ s c h.inside.lo] at host
    refine ⟨t, ?_, host, k.trans kt⟩
    rw [State.writeFrom, h.place]
    exact run

/-! ### The entry -/

theorem State.ring_of_frame {g : List Zone} {s t : State} (k : Frame g s t) (out : g.contains .rings = false) (i : Nat) :
    t.ring i = s.ring i := congrArg (fun rings : Tab Ring => tget ({} : Ring) rings i) (k.keeps .rings out)

/-- The ring once its next completion entry is written: CQ_TAIL advances, and PHASE toggles where it wraps (R329). -/
def Ring.posted (r : Ring) : Ring :=
  { r with cqTail := (r.cqTail + 1) % 2 ^ r.cqLog2.toNat,
           cqPhase := if (r.cqTail + 1) % 2 ^ r.cqLog2.toNat = 0 then !r.cqPhase else r.cqPhase }

/-- A completion is a write of its entry, where memory takes it, and its counting. -/
theorem State.writeCompletion_of_written {s t : State} {g c tag status flags replays dropped op value : Nat} (quiet : Bool)
    (up : s.dev.hostReset = false)
    (written : s.writes c none (s.ring g).cqEntry
      (completionBytes tag status (b2n (s.ring g).cqPhase + flags) replays dropped op value) = (t, none)) :
    ∃ fn, s.writeCompletion g c tag status flags replays dropped op value quiet =
      t.completionCounted g (s.ring g).posted c status fn (s.ring g).vector.toNat quiet := by
  unfold State.writeCompletion
  dsimp only
  rw [up, if_neg Bool.false_ne_true, ← Ring.cqEntry, written]
  exact ⟨_, rfl⟩

/-- What the counting of an entry leaves of the state once its ring has moved on. -/
theorem State.completionCounted_frame_setRing (s : State) (g : Nat) (r : Ring) (c status fn vector : Nat) (quiet : Bool) :
    Frame [.free, .out, .entries, .ctxEntries, .msix, .health] (s.setRing g r)
      (s.completionCounted g r c status fn vector quiet) := by
  have counted : Frame [.free, .out, .entries, .ctxEntries, .msix, .health] (s.setRing g r)
      ((((s.setRing g r).perturbed 7 g 0 c true).1).cbump c 11 1 64) :=
    Frame.step (State.cbump_frame ..) rfl (Frame.mono (State.perturbed_frame ..) rfl)
  have ended := Frame.ite (p := status = 0) counted (Frame.step (State.cbump_frame _ c 11 2 32 1) rfl counted)
  exact Frame.ite ended (Frame.step (State.interrupt_frame ..) rfl ended)

/-- The entry of a command that completes, written at CQ_TAIL of its ring (R329, R337). -/
def State.entryBytes (s : State) (c : Cmd) (status value flags replays : Nat) : Bytes :=
  completionBytes c.tag status (b2n (s.ring c.ring).cqPhase + flags) replays (s.cmdDropped c) c.op value

/-- A completion whose entry the host takes: the entry is written, the ring moves on, and the command leaves. -/
theorem State.finish_of_taken {s : State} {c : Cmd} (status value flags replays : Nat) (up : s.dev.hostReset = false)
    (takes : HostTakes s c.ctx (s.ring c.ring).cqEntry 16) :
    ∃ t u, t.host = memWrites s.host (s.hostAddr c.ctx (s.ring c.ring).cqEntry) (s.entryBytes c status value flags replays) ∧
      Frame [.host, .bulk] s t ∧
      Frame [.free, .out, .entries, .ctxEntries, .msix, .health] (t.setRing c.ring (s.ring c.ring).posted) u ∧
      s.finish c status value flags replays = u.dropCmd c.id := by
  have len : (s.entryBytes c status value flags replays).length = 16 := completionBytes_length ..
  obtain ⟨t, run, host, k⟩ := State.writeFrom_taken otherUnit c.ctx none (s.ring c.ring).cqEntry 16 (len.symm ▸ takes)
  have written : s.writes c.ctx none (s.ring c.ring).cqEntry (s.entryBytes c status value flags replays) = (t, none) := by
    rw [State.writes, State.writesBy, len]
    exact run
  obtain ⟨fn, posted⟩ := State.writeCompletion_of_written c.noIrq up written
  exact ⟨t, _, host, k, t.completionCounted_frame_setRing .., congrArg (State.dropCmd · c.id) posted⟩

/-- Settles O19: the entry is written to host memory as the page is mapped, and UNBIND_MODEL of a Free handle completes with it. -/
theorem completionEntry : Obligations.CompletionEntry := by
  unfold Obligations.CompletionEntry
  refine ⟨fun s c status value flags replays => ?entry, fun cmd s c starts free unfenced => ?unbind⟩
  case entry =>
    intro r a k can up link sorted lo hi taken
    obtain ⟨t, v, host, kt, kv, done⟩ := State.finish_of_taken (c := c) status value flags replays up ⟨link, ⟨lo, hi⟩, taken⟩
    have len : (s.entryBytes c status value flags replays).length = 16 := completionBytes_length ..
    have whole : Frame [.free, .out, .entries, .ctxEntries, .host, .near, .nearMem, .bulk, .bulkMem, .rings, .msix, .pages, .cmds,
        .health] s (v.dropCmd c.id) :=
      Frame.step (State.dropCmd_frame ..) rfl (Frame.step kv rfl (Frame.step (State.setRing_frame ..) rfl (Frame.mono kt rfl)))
    have moved : (v.dropCmd c.id).ring c.ring = r.posted := by
      have same : v.ring c.ring = (t.setRing c.ring r.posted).ring c.ring := State.ring_of_frame kv rfl c.ring
      have sorted' : tsorted none t.hif.rings = true := (congrArg (tsorted none) (kt.keeps .rings rfl)).trans sorted
      exact same.trans ((State.ring_setRing t _ _ _ sorted').trans (if_pos rfl))
    have bytes : (v.dropCmd c.id).host = memWrites s.host k (s.entryBytes c status value flags replays) :=
      (kv.keeps .host rfl).1.trans host
    have near : (v.dropCmd c.id).near.mem = s.near.mem := (kv.keeps .nearMem rfl).trans (kt.keeps .nearMem rfl)
    have bulk : (v.dropCmd c.id).bulk.mem = s.bulk.mem := (kv.keeps .bulkMem rfl).trans (kt.keeps .bulkMem rfl)
    intro u bs
    have ended : u = v.dropCmd c.id := done
    rw [ended]
    refine ⟨fun b => ?_, congrArg Ring.cqTail moved, congrArg Ring.cqPhase moved,
      ended ▸ State.finish_cmd_none c status value flags replays (.inr rfl), near, bulk, whole⟩
    rw [bytes]
    split_ifs with inside
    · exact memRead_memWrites_of_mem _ can.host inside.1 (len.symm ▸ inside.2)
    · exact memRead_memWrites_of_not_mem _ _ _ _ can.host (by omega)
  case unbind =>
    have noFence : ∀ d ∈ s.cmds, d.op ≠ 8 := by simpa using unfenced
    have run : execUnbindModel cmd s = .next (s.complete c stHandle 0) := by simp [execUnbindModel, starts, free]
    exact run.trans (congrArg _ (State.complete_of_no_fence noFence ..))

end Sys2Proof.Machine
end

section
/-! SUPPORT. FENCE, SIGNAL and WAIT (R349-R351): which commands stay in flight once the FENCEs that are free to complete have done
so, and what a signal leaves in its counter. -/
namespace Sys2Proof.Machine

/-! ### FENCEs -/

/-- A FENCE that runs and whose earlier commands have all completed. -/
def State.fenceFree (s : State) (c : Cmd) : Bool := decide (c.op = 8) && decide (c.stage = .running) && !s.fenceHeld c

theorem settleFences_succ (n : Nat) (s : State) :
    settleFences (n + 1) s = (s.cmds.find? s.fenceFree).elim s fun c => settleFences n (s.finish c 0 0) := by
  rw [settleFences]
  split
  · next found => rw [show s.cmds.find? s.fenceFree = none from found]; rfl
  · next c found => rw [show s.cmds.find? s.fenceFree = some c from found]; rfl

theorem settleFences_of_none_free (n : Nat) {s : State} (held : ∀ d ∈ s.cmds, s.fenceFree d = false) : settleFences n s = s := by
  cases n with
  | zero => rfl
  | succ n =>
    rw [settleFences_succ, List.find?_eq_none.mpr fun d mem => by simp [held d mem]]
    rfl

/-- Taking commands out of those in flight takes them out from before a command that stays. -/
theorem takeWhile_filter_subset {α : Type} {p q : α → Bool} {l : List α} (keeps : ∀ x ∈ l, p x = false → q x = true) {y : α}
    (mem : y ∈ (l.filter q).takeWhile p) : y ∈ l.takeWhile p := by
  induction l with
  | nil => exact mem
  | cons x l ih =>
    have later := ih fun z hz => keeps z (List.mem_cons_of_mem _ hz)
    cases px : p x with
    | false => simp [keeps x List.mem_cons_self px, px] at mem
    | true =>
      cases qx : q x with
      | false =>
        rw [List.filter_cons_of_neg (by simp [qx])] at mem
        simpa [List.takeWhile_cons, px] using .inr (later mem)
      | true =>
        rw [List.filter_cons_of_pos qx, List.takeWhile_cons_of_pos px, List.mem_cons] at mem
        rw [List.takeWhile_cons_of_pos px, List.mem_cons]
        exact mem.imp_right later

/-- A FENCE that is free to complete stays so while other commands complete. -/
theorem State.fenceFree_finish {s : State} {c d : Cmd} (free : s.fenceFree c = true) (other : c.id ≠ d.id)
    (status value flags replays : Nat) : (s.finish d status value flags replays).fenceFree c = true := by
  unfold State.fenceFree State.fenceHeld at *
  simp only [Bool.and_eq_true, Bool.not_eq_true', List.any_eq_false] at free ⊢
  refine ⟨free.1, fun e mem => free.2 e ?_⟩
  rw [State.finish_cmds] at mem
  refine takeWhile_filter_subset (fun x _ stop => ?_) mem
  simp only [decide_eq_false_iff_not, not_not] at stop
  simpa [stop] using other

theorem State.finish_cmds_length_lt {s : State} {c : Cmd} (flies : c ∈ s.cmds) (status value flags replays : Nat) :
    (s.finish c status value flags replays).cmds.length < s.cmds.length := by
  rw [State.finish_cmds]
  exact List.length_filter_lt_length_iff_exists.mpr ⟨c, flies, by simp⟩

/-- With a turn for every command in flight a FENCE that is free to complete has completed at the end (R349). -/
theorem settleFences_completes {n : Nat} {s : State} {c : Cmd} (turns : s.cmds.length ≤ n) (flies : c ∈ s.cmds)
    (free : s.fenceFree c = true) : (settleFences n s).cmd c.id = none := by
  induction n generalizing s with
  | zero => exact absurd (List.length_pos_of_mem flies) (by omega)
  | succ n ih =>
    obtain ⟨d, found⟩ := Option.isSome_iff_exists.mp (List.find?_isSome.mpr ⟨c, flies, free⟩)
    rw [settleFences_succ, found, Option.elim_some]
    by_cases same : c.id = d.id
    · exact settleFences_cmd_none n (State.finish_cmd_none d 0 0 0 0 (.inr same.symm))
    · have fewer := State.finish_cmds_length_lt (List.mem_of_find?_eq_some found) 0 0 0 0
      have stays : c ∈ (s.finish d 0 0).cmds := by
        rw [State.finish_cmds]
        exact List.mem_filter.mpr ⟨flies, by simpa using same⟩
      exact ih (by omega) stays (State.fenceFree_finish free same 0 0 0 0)

/-! ### The command itself -/

theorem takeWhile_map_eq {α : Type} {p : α → Bool} {f : α → α} (l : List α) (kept : ∀ x, p (f x) = p x)
    (same : ∀ x, p x = true → f x = x) : (l.map f).takeWhile p = l.takeWhile p := by
  induction l with
  | nil => rfl
  | cons x l ih =>
    simp only [List.map_cons, List.takeWhile_cons, kept, ih]
    split_ifs with px
    · rw [same x px]
    · rfl

/-- Moving a FENCE to a stage leaves the commands before it as they are. -/
theorem State.fenceHeld_stage (s : State) (c : Cmd) (g g' : Stage) :
    (s.stage c g).fenceHeld { c with stage := g' } = s.fenceHeld c := by
  have before : (s.stage c g).cmds.takeWhile (fun d => decide (d.id ≠ c.id)) = s.cmds.takeWhile fun d => decide (d.id ≠ c.id) := by
    refine takeWhile_map_eq _ (fun d => ?_) fun d other => if_neg (by simpa using other)
    split_ifs with same
    · simp [same]
    · rfl
  exact congrArg (List.any · _) before

theorem State.mem_stage {s : State} {id : Nat} {c : Cmd} (found : s.cmd id = some c) (g : Stage) :
    { c with stage := g } ∈ (s.stage c g).cmds := List.mem_of_find?_eq_some (State.cmd_stage found g)

/-- FENCE, where it may start: it runs, and completes unless an earlier command is in flight (R349). -/
theorem execFence_of_starting {s : State} {cmd : Nat} {c : Cmd} (starts : s.starting cmd 8 = some c) :
    execFence cmd s = .next (settleFences (s.stage c .running).cmds.length (s.stage c .running)) := by
  simp [execFence, starts]

theorem State.fenceFree_stage {s : State} {c : Cmd} (op : c.op = 8) :
    (s.stage c .running).fenceFree { c with stage := .running } = !s.fenceHeld c := by
  have op' : ({ c with stage := .running } : Cmd).op = 8 := op
  rw [State.fenceFree, State.fenceHeld_stage, op']
  rfl

/-! ### Counters -/

theorem State.counter_applySignal {s : State} (can : Canonical s) (n m : Nat) (set : Bool) (v : BitVec 64) :
    (s.applySignal n set v).counter m = if m = n then (if set then v else s.counter n + v) else s.counter m :=
  State.counter_setCounter can n m _

theorem State.counter_complete (s : State) (c : Cmd) (status value m : Nat) : (s.complete c status value).counter m = s.counter m :=
  congrArg (fun counters => tget (0 : BitVec 64) counters m) (State.counters_of_frame (State.complete_frame ..) rfl)

/-- SIGNAL of a counter that its context may name (R350, R354). -/
theorem execSignal_of_allowed {s : State} {cmd : Nat} {c : Cmd} (starts : s.starting cmd 9 = some c)
    (may : s.mayUse c.ctx (c.at 8 2) = true) :
    execSignal cmd s = .next ((s.applySignal (c.at 8 2) (decide (c.at 10 1 = 1)) (BitVec.ofNat 64 (c.at 16 8))).complete c 0
      ((s.applySignal (c.at 8 2) (decide (c.at 10 1 = 1)) (BitVec.ofNat 64 (c.at 16 8))).counter (c.at 8 2)).toNat) := by
  simp [execSignal, starts, may]

/-- Settles O20: a FENCE completes with the FENCEs before it or stays behind an earlier command, and the others are their rows. -/
theorem syncCommands : Obligations.SyncCommands := by
  unfold Obligations.SyncCommands
  refine ⟨fun cmd c s starts free => ?fenceFree, fun cmd c s starts held others => ?fenceHeld,
    fun cmd c s can starts may => ?signal, fun cmd c s starts may => ?signalRefused, fun cmd c s starts may holds => ?waitHolds,
    fun cmd c s starts may holds => ?waitRuns, fun cmd t c s found op runs limit passed => ?timeout⟩
  case fenceFree =>
    have run := execFence_of_starting starts
    have k := execFence_frame run
    have free' := (State.fenceFree_stage (s := s) (State.starting_some starts).2).trans (congrArg _ free)
    have settled : (settleFences (s.stage c .running).cmds.length (s.stage c .running)).cmd c.id = none :=
      settleFences_completes (c := { c with stage := .running }) (Nat.le_refl _) (State.mem_stage (State.starting_cmd starts) .running) free'
    exact ⟨_, run, State.starting_id starts ▸ settled, State.counters_of_frame k rfl, k⟩
  case fenceHeld =>
    have run := execFence_of_starting starts
    have noneFree : ∀ d ∈ (s.stage c .running).cmds, (s.stage c .running).fenceFree d = false := by
      intro d mem
      rcases State.mem_setCmd mem with rfl | old
      · exact (State.fenceFree_stage (State.starting_some starts).2).trans (congrArg _ held)
      · have := List.all_eq_true.mp others d old
        simp only [Bool.not_eq_true'] at this
        rw [State.fenceFree, this, Bool.false_and]
    rw [settleFences_of_none_free _ noneFree] at run
    exact ⟨_, run, rfl, congrArg _ (State.cmd_stage (State.starting_cmd starts) .running), State.stage_frame ..⟩
  case signal =>
    have run := execSignal_of_allowed starts may
    refine ⟨_, run, ?_, State.complete_cmd_of_starting starts .., fun m ne => ?_, execSignal_frame run⟩
    · rw [State.counter_complete, State.counter_applySignal can, if_pos rfl]
      simp only [decide_eq_true_eq]
    · rw [State.counter_complete, State.counter_applySignal can, if_neg ne]
  case signalRefused =>
    have run : execSignal cmd s = .next (s.complete c stPermission 8) := by simp [execSignal, starts, may]
    have k := State.complete_frame s c stPermission 8 0 0
    exact ⟨_, run, rfl, State.counters_of_frame k rfl, State.complete_cmd_of_starting starts .., k⟩
  case waitHolds =>
    have run : execWait cmd s = .next (s.complete c 0 (s.counter (c.at 8 2)).toNat) := by simp [execWait, starts, may, holds]
    exact ⟨_, run, rfl, State.complete_cmd_of_starting starts .., State.complete_frame ..⟩
  case waitRuns =>
    have run : execWait cmd s = .next (s.setCmd { c with stage := .running, startPhase := s.phase }) := by
      simp [execWait, starts, may, holds]
    have found := State.starting_cmd starts
    obtain rfl := State.cmd_id found
    exact ⟨_, run, rfl, congrArg (Option.map _) (State.cmd_setCmd (c := { c with stage := .running, startPhase := s.phase }) found),
      State.setCmd_frame ..⟩
  case timeout =>
    obtain rfl := State.cmd_id found
    have run : execWaitTimeout c.id t s = .next ((s.at t).complete c 0x1B (s.counter (c.at 8 2)).toNat) := by
      simp [execWaitTimeout, found, op, runs, limit, passed]
    exact ⟨_, run, rfl, State.complete_cmd .., Frame.step (State.complete_frame ..) rfl (Frame.mono (State.at_frame ..) rfl)⟩

end Sys2Proof.Machine
end

section
/-! SUPPORT. The fetch of a command, the doorbells and the enabling of rings (R325-R328, R330): what each leaves of the rings. -/
namespace Sys2Proof.Machine

/-! ### Rings -/

/-- A ring that is not as at reset reads as it was set, and so does every other ring as before. -/
theorem State.ring_setRing_used {r : Ring} (used : r ≠ {}) (s : State) (g : Nat) :
    (s.setRing g r).ring g = r ∧ ∀ h, h ≠ g → (s.setRing g r).ring h = s.ring h := by
  have put : (s.setRing g r).hif.rings = tput s.hif.rings g r := if_neg used
  unfold State.ring
  rw [put]
  exact ⟨tget_tput_same .., fun h ne => tget_tput_of_ne _ _ _ ne⟩

theorem Ring.used_of_enable {r : Ring} (enabled : r.enable = true) : r ≠ {} := by
  rintro rfl
  exact absurd enabled (by decide)

/-! ### Fetch -/

/-- A ring has been served, for the round-robin order (R328). -/
def State.served (s : State) (g : Nat) : State := { s with hif := { s.hif with lastRing := g } }

theorem State.read_served (s : State) (g c va n : Nat) : (s.served g).read c va n = s.read c va n := by
  induction n generalizing va with
  | zero => rfl
  | succ n ih =>
    simp only [State.read, ih]
    rfl

/-- Address of the next submission entry of a ring (R328). -/
def Ring.sqEntry (r : Ring) : Nat := r.sqBase.toNat + r.sqHead * 64

/-- The ring once its next entry has been fetched: SQ_HEAD advances (R328). -/
def Ring.fetched (r : Ring) : Ring := { r with sqHead := (r.sqHead + 1) % 2 ^ r.sqLog2.toNat }

/-- A ring's next entry has been read. -/
def State.entryRead (s : State) (g : Nat) : State :=
  ((s.served g).accessed otherUnit (s.ring g).ctx.toNat (s.ring g).sqEntry 64).settleLanes

/-- A fetched command is in flight. -/
def State.addCmd (s : State) (c : Cmd) : State := { s with cmds := s.cmds ++ [c], nextCmd := s.nextCmd + 1 }

theorem State.addCmd_cmds (s : State) (c : Cmd) : (s.addCmd c).cmds = s.cmds ++ [c] := rfl

theorem State.addCmd_nextCmd (s : State) (c : Cmd) : (s.addCmd c).nextCmd = s.nextCmd + 1 := rfl

theorem State.addCmd_ring (s : State) (c : Cmd) (g : Nat) : (s.addCmd c).ring g = s.ring g := rfl

theorem State.addCmd_serve (s : State) (c : Cmd) : (s.addCmd c).serve = s.serve := rfl

theorem State.settleLanes_cairnOps (s : State) : s.settleLanes.serve.cairnOps = s.serve.cairnOps := rfl

/-- A ring's next entry has been read, the ring has moved on and a command is in flight for the entry. -/
def State.takenIn (s : State) (g : Nat) (c : Cmd) : State := ((s.entryRead g).setRing g (s.ring g).fetched).addCmd c

/-- The largest number of commands in flight so far is noted (R328). -/
def State.peakNoted (s : State) : State := if s.dget 0x3090 4 < s.cmds.length then s.dset 0x3090 4 0 s.cmds.length else s

theorem State.peakNoted_frame (s : State) : Frame [.entries] s s.peakNoted :=
  Frame.ite (State.dset_frame ..) (Frame.refl _ s)

theorem State.nextRing_fetchable {s : State} {g : Nat} (turn : s.nextRing = some g) : s.fetchable g = true := by
  unfold State.nextRing at turn
  dsimp only at turn
  have able : g ∈ (s.hif.rings.map (·.1)).filter s.fetchable := by
    split at turn
    · next found => exact Option.some.inj turn ▸ List.mem_of_find?_eq_some found
    · exact List.mem_of_head? turn
  exact (List.mem_filter.mp able).2

theorem State.enable_of_fetchable {s : State} {g : Nat} (able : s.fetchable g = true) : (s.ring g).enable = true := by
  simp only [State.fetchable, Bool.and_eq_true] at able
  exact able.1.1.1.1.1.1

/-- The checks of a command read its ring's LOOP, its loop and the owners of the counters (R333). -/
theorem checkCmd_congr {s t : State} {c : Cmd} (loop : (t.ring c.ring).loop = (s.ring c.ring).loop)
    (loops : t.hif.loops = s.hif.loops) (owners : t.owners = s.owners) : checkCmd t c = checkCmd s c := by
  have permission : permissionAt t c = permissionAt s c := by
    unfold permissionAt State.loopOf State.ownerOf
    rw [loops, owners]
  simp only [checkCmd, fieldsAt, loop, permission]

/-- The command of an entry that a ring's context reads. -/
def State.entryCmd (s : State) (g : Nat) (raw : Bytes) : Cmd :=
  { id := s.nextCmd, ring := g, ctx := (s.ring g).ctx.toNat, raw := raw }

theorem State.entryRead_frame (s : State) (g : Nat) : Frame [.entries, .bulk, .hif, .serve, .power] s (s.entryRead g) :=
  Frame.step (State.settleLanes_frame _) rfl (Frame.step (State.accessed_frame ..) rfl
    (Frame.set_hif _ (.inr rfl) (.inr rfl) (.inr rfl) (.inr rfl) (.inl rfl) (Frame.refl _ s)))

theorem State.takenIn_frame (s : State) (g : Nat) (c : Cmd) :
    Frame [.entries, .bulk, .hif, .rings, .cmds, .serve, .power] s (s.takenIn g c) :=
  Frame.set_cmds_nextCmd _ _ rfl (Frame.step (State.setRing_frame ..) rfl (Frame.mono (s.entryRead_frame g) rfl))

theorem State.takenIn_cmds (s : State) (g : Nat) (c : Cmd) :
    (s.takenIn g c).cmds = s.cmds ++ [c] ∧ (s.takenIn g c).nextCmd = s.nextCmd + 1 := by
  obtain ⟨cmds, next⟩ := (s.entryRead_frame g).keeps .cmds rfl
  rw [State.takenIn, State.addCmd_cmds, State.addCmd_nextCmd, State.setRing_cmds, State.setRing_nextCmd, cmds, next]
  exact ⟨rfl, rfl⟩

theorem State.takenIn_ring {s : State} {g : Nat} (enabled : (s.ring g).enable = true) (c : Cmd) :
    (s.takenIn g c).ring g = (s.ring g).fetched ∧ ∀ h, h ≠ g → (s.takenIn g c).ring h = s.ring h := by
  have used : (s.ring g).fetched ≠ {} := Ring.used_of_enable enabled
  obtain ⟨own, others⟩ := State.ring_setRing_used used (s.entryRead g) g
  refine ⟨?_, fun h ne => ?_⟩
  · rw [State.takenIn, State.addCmd_ring, own]
  · rw [State.takenIn, State.addCmd_ring, others h ne, State.ring_of_frame (s.entryRead_frame g) rfl]

/-- The fetch of an entry that is read, behind no fence, and passes its checks (R328). -/
theorem State.fetch_of_passed {s : State} {g : Nat} {raw : Bytes} (enabled : (s.ring g).enable = true)
    (read : s.read (s.ring g).ctx.toNat (s.ring g).sqEntry 64 = .ok raw)
    (unfenced : s.fenced (s.ring g).ctx.toNat = false) (passed : checkCmd s (s.entryCmd g raw) = none) :
    s.fetch g = (s.takenIn g (s.entryCmd g raw)).peakNoted := by
  have k := State.takenIn_frame s g (s.entryCmd g raw)
  have k' := State.peakNoted_frame (s.takenIn g (s.entryCmd g raw))
  have next : (s.entryRead g).nextCmd = s.nextCmd := ((s.entryRead_frame g).keeps .cmds rfl).2
  have stillUnfenced : (s.takenIn g (s.entryCmd g raw)).peakNoted.fenced (s.ring g).ctx.toNat = false := by
    rw [State.fenced, k'.keeps .ctxs rfl, k.keeps .ctxs rfl]
    exact unfenced
  have checked : checkCmd (s.takenIn g (s.entryCmd g raw)).peakNoted (s.entryCmd g raw) = none := by
    rw [← passed]
    refine checkCmd_congr ?_ ((k'.keeps .loops rfl).trans (k.keeps .loops rfl)) ((k'.keeps .owners rfl).trans (k.keeps .owners rfl))
    rw [State.ring_of_frame k' rfl, show (s.entryCmd g raw).ring = g from rfl, (State.takenIn_ring enabled _).1]
    rfl
  unfold State.fetch
  extract_lets r c src t t1 t2
  have read' : t.read c (r.sqBase.toNat + r.sqHead * 64) 64 = .ok raw := (State.read_served ..).trans read
  rw [read']
  dsimp -zeta only
  extract_lets cmd t3 t4
  have moved : t2 = (s.entryRead g).setRing g (s.ring g).fetched := rfl
  have named : cmd = s.entryCmd g raw := by
    rw [State.entryCmd, ← next, ← State.setRing_nextCmd, ← moved]
  have taken : t4 = (s.takenIn g cmd).peakNoted := rfl
  rw [taken, named, stillUnfenced, if_neg Bool.false_ne_true, checked]

theorem execCommandFetch_of_turn {s : State} {ring : RingId} (fetching : s.fetching = true) (turn : s.nextRing = some ring.val) :
    execCommandFetch ring s = .next (s.fetch ring.val) := by
  simp [execCommandFetch, fetching, turn]

theorem State.lastRing_of_frame {g : List Zone} {s t : State} (k : Frame g s t) (out : g.contains .hif = false) :
    t.hif.lastRing = s.hif.lastRing := (congrArg Hif.lastRing (k.keeps .hif out)).trans rfl

theorem State.takenIn_lastRing (s : State) (g : Nat) (c : Cmd) : (s.takenIn g c).hif.lastRing = g := by
  have read : Frame [.entries, .bulk, .serve, .power] (s.served g) (s.entryRead g) :=
    Frame.step (State.settleLanes_frame _) rfl (Frame.mono (State.accessed_frame ..) rfl)
  have moved : Frame [.rings, .cmds] (s.entryRead g) (s.takenIn g c) :=
    Frame.set_cmds_nextCmd _ _ rfl (Frame.mono (State.setRing_frame ..) rfl)
  rw [State.lastRing_of_frame moved rfl, State.lastRing_of_frame read rfl, State.served]

theorem State.takenIn_cairnOps (s : State) (g : Nat) (c : Cmd) : (s.takenIn g c).serve.cairnOps = s.serve.cairnOps := by
  have read : ((s.served g).accessed otherUnit (s.ring g).ctx.toNat (s.ring g).sqEntry 64).serve = (s.served g).serve :=
    (State.accessed_frame ..).keeps .serve rfl
  rw [State.takenIn, State.addCmd_serve, State.setRing_serve, State.entryRead, State.settleLanes_cairnOps, read, State.served]

/-! ### Doorbells -/

theorem State.writeSqTail_of_taken {s : State} {g v : Nat} (enabled : (s.ring g).enable = true)
    (inside : v < 2 ^ (s.ring g).sqLog2.toNat) : s.writeSqTail g v = s.setRing g { s.ring g with sqTail := v } := by
  simp [State.writeSqTail, enabled, inside]

theorem State.writeSqTail_of_disabled {s : State} {g : Nat} (disabled : (s.ring g).enable = false) (v : Nat) :
    s.writeSqTail g v = s.dropDoorbell := by
  simp [State.writeSqTail, disabled]

theorem State.writeCqHead_of_taken {s : State} {g v : Nat} (enabled : (s.ring g).enable = true)
    (inside : v < 2 ^ (s.ring g).cqLog2.toNat)
    (behind : (v + 2 ^ (s.ring g).cqLog2.toNat - (s.ring g).cqHead) % 2 ^ (s.ring g).cqLog2.toNat ≤
      ((s.ring g).cqTail + 2 ^ (s.ring g).cqLog2.toNat - (s.ring g).cqHead) % 2 ^ (s.ring g).cqLog2.toNat) :
    s.writeCqHead g v = s.setRing g { s.ring g with cqHead := v } := by
  simp [State.writeCqHead, enabled, inside, behind]

/-- SQ_TAIL through a function that reaches a ring (R327). -/
theorem execSqTail_of_ring {s : State} {f : Func} {page : RingId} {g : Nat} (reach : s.reachable f = true)
    (names : s.doorbellRing f page.val = some g) (value : BitVec 32) :
    execSqTail f page value s = .next (s.writeSqTail g value.toNat) := by
  rw [execSqTail, State.next_ifHost reach, names]

/-- CQ_HEAD through a function that reaches a ring (R327). -/
theorem execCqHead_of_ring {s : State} {f : Func} {page : RingId} {g : Nat} (reach : s.reachable f = true)
    (names : s.doorbellRing f page.val = some g) (value : BitVec 32) :
    execCqHead f page value s = .next (s.writeCqHead g value.toNat) := by
  rw [execCqHead, State.next_ifHost reach, names]

/-- A counter of the device that does not run over counts on, and takes no free value. -/
theorem State.dbump_of_fits {s : State} {i j e w n : Nat} (fits : s.dget i j e + n < 2 ^ w) :
    s.dbump i j e w n = s.dset i j e (s.dget i j e + n) := if_pos fits

/-! ### Enabling and disabling -/

theorem State.disabled_of_drained {s : State} {g : Nat} (drained : s.drained g = true) : (s.ring g).enable = false := by
  simp only [State.drained, Bool.and_eq_true, Bool.not_eq_true'] at drained
  exact drained.1

/-- The ring enabled from index 0 (R325). -/
def Ring.enabled (r : Ring) : Ring :=
  { r with cfgResult := 0, enable := true, sqHead := 0, sqTail := 0, cqHead := 0, cqTail := 0, cqPhase := true, error := false }

theorem State.enableRing_of_passed {s : State} {g : Nat} {maxInflight : BitVec 13} {loop : Bool} (ready : s.hif.ready = true)
    (drained : s.drained g = true) (passed : s.ringCheck g { s.ring g with maxInflight := maxInflight, loop := loop } = none) :
    s.enableRing g maxInflight loop =
      s.setRing g ({ s.ring g with maxInflight := maxInflight, loop := loop } : Ring).enabled := by
  unfold State.enableRing
  dsimp only at passed ⊢
  rw [if_neg (by simp [ready]), if_neg (by simp [drained, State.disabled_of_drained drained]), passed]
  rfl

theorem State.enableRing_of_failed {s : State} {g k : Nat} {maxInflight : BitVec 13} {loop : Bool} (ready : s.hif.ready = true)
    (drained : s.drained g = true) (failed : s.ringCheck g { s.ring g with maxInflight := maxInflight, loop := loop } = some k) :
    s.enableRing g maxInflight loop =
      s.setRing g { s.ring g with maxInflight := maxInflight, loop := loop, cfgResult := BitVec.ofNat 4 k } := by
  unfold State.enableRing
  dsimp only at failed ⊢
  rw [if_neg (by simp [ready]), if_neg (by simp [drained, State.disabled_of_drained drained]), failed]

/-- The codes of the checks of a ring are 1 to 6 (R325). -/
theorem State.ringCheck_code {s : State} {g k : Nat} {r : Ring} (failed : s.ringCheck g r = some k) : 1 ≤ k ∧ k ≤ 6 := by
  unfold State.ringCheck at failed
  dsimp only at failed
  split_ifs at failed <;> cases failed <;> decide

/-- Settles O22: the fetched entry's command is in flight and its ring has moved on, and each write of a ring is its row. -/
theorem ringsAndDoorbells : Obligations.RingsAndDoorbells := by
  unfold Obligations.RingsAndDoorbells
  refine ⟨fun ring b s fetching turn read unfenced passed => ?fetch, fun f page value g s reach names enabled inside => ?sqTail,
    fun f page value g s can reach names disabled fits => ?dropped,
    fun f page value g s reach names enabled inside behind => ?cqHead,
    fun ring maxInflight loop s up ready drained passed => ?enable,
    fun ring maxInflight loop k s up ready drained failed => ?refuse, fun ring s up rings loops => ?disable⟩
  case fetch =>
    have enabled := State.enable_of_fetchable (State.nextRing_fetchable turn)
    have run : exec (.commandFetch ring) s = .next (s.takenIn ring.val (s.entryCmd ring.val b)).peakNoted :=
      (execCommandFetch_of_turn fetching turn).trans (congrArg _ (State.fetch_of_passed enabled read unfenced passed))
    have k := State.takenIn_frame s ring.val (s.entryCmd ring.val b)
    have k' := State.peakNoted_frame (s.takenIn ring.val (s.entryCmd ring.val b))
    obtain ⟨cmds, next⟩ := k'.keeps .cmds rfl
    obtain ⟨cmds', next'⟩ := State.takenIn_cmds s ring.val (s.entryCmd ring.val b)
    obtain ⟨own, others⟩ := State.takenIn_ring enabled (s.entryCmd ring.val b)
    refine ⟨_, run, cmds.trans cmds', next.trans next', (State.ring_of_frame k' rfl _).trans own,
      (State.lastRing_of_frame k' rfl).trans (State.takenIn_lastRing ..),
      fun g ne => (State.ring_of_frame k' rfl g).trans (others g ne), ?_, Frame.step k' rfl k⟩
    exact (congrArg Serving.cairnOps (k'.keeps .serve rfl)).trans (State.takenIn_cairnOps ..)
  case sqTail =>
    have run := execSqTail_of_ring reach names value
    rw [State.writeSqTail_of_taken enabled inside] at run
    obtain ⟨own, others⟩ := State.ring_setRing_used (r := { s.ring g with sqTail := value.toNat }) (Ring.used_of_enable enabled) s g
    exact ⟨_, run, own, others, State.setRing_frame ..⟩
  case dropped =>
    have run := execSqTail_of_ring reach names value
    rw [State.writeSqTail_of_disabled disabled, State.dropDoorbell, State.dbump_of_fits fits] at run
    exact ⟨_, run, State.dget_dset_same can .., State.dset_frame ..⟩
  case cqHead =>
    have run := execCqHead_of_ring reach names value
    rw [State.writeCqHead_of_taken enabled inside behind] at run
    obtain ⟨own, others⟩ := State.ring_setRing_used (r := { s.ring g with cqHead := value.toNat }) (Ring.used_of_enable enabled) s g
    exact ⟨_, run, own, others, State.setRing_frame ..⟩
  case enable =>
    have run : exec (.ringEnable ring maxInflight loop) s = .next (s.enableRing ring.val maxInflight loop) :=
      State.next_ifHost (State.reachable_pf up) _
    rw [State.enableRing_of_passed ready drained passed] at run
    obtain ⟨own, others⟩ := State.ring_setRing_used (Ring.used_of_enable
      (r := ({ s.ring ring.val with maxInflight := maxInflight, loop := loop } : Ring).enabled) rfl) s ring.val
    exact ⟨_, run, own, others, State.setRing_frame ..⟩
  case refuse =>
    have run : exec (.ringEnable ring maxInflight loop) s = .next (s.enableRing ring.val maxInflight loop) :=
      State.next_ifHost (State.reachable_pf up) _
    rw [State.enableRing_of_failed ready drained failed] at run
    have used : ({ s.ring ring.val with maxInflight := maxInflight, loop := loop, cfgResult := BitVec.ofNat 4 k } : Ring) ≠ {} := by
      intro reset
      have code : BitVec.ofNat 4 k = 0 := congrArg Ring.cfgResult reset
      have small : k % 16 = 0 := congrArg BitVec.toNat code
      obtain ⟨ge, le⟩ := State.ringCheck_code failed
      omega
    obtain ⟨own, -⟩ := State.ring_setRing_used used s ring.val
    exact ⟨_, run, own, (congrArg Ring.enable own).trans (State.disabled_of_drained drained), State.setRing_frame ..⟩
  case disable =>
    have run : exec (.ringDisable ring) s = .next (s.disableRing ring.val) := State.next_ifHost (State.reachable_pf up) _
    refine ⟨_, run, (State.ring_setRing s _ _ _ rings).trans (if_pos rfl), (State.loopOf_setLoop (s := s.setRing _ _) loops _ _ _).trans
      (if_pos rfl), fun h ne => ⟨(State.ring_setRing s _ _ _ rings).trans (if_neg ne),
      (State.loopOf_setLoop (s := s.setRing _ _) loops _ _ _).trans (if_neg ne)⟩, State.disableRing_frame ..⟩

end Sys2Proof.Machine
end

section
/-! SUPPORT. A lookup in an empty tree whose keys have driven the tree's region out of the copy path's cache (R214, R348, R434): the walk
reads the header, as a walk does, and brings the region back. -/
namespace Sys2Proof.Machine

/-! ### A completion that is refused -/

/-- An event of a context whose event ring is disabled is counted lost (R358). -/
theorem State.postEvent_of_disabled {s : State} {c : Nat} (disabled : (s.page c).evqEnable = false) (type ring : Nat) (tail : Bytes) :
    s.postEvent c type ring tail = s.cbump c 11 3 32 := by
  simp [State.postEvent, disabled]

theorem State.page_of_frame {g : List Zone} {s t : State} (k : Frame g s t) (out : g.contains .pages = false) (c : Nat) :
    t.page c = s.page c := congrArg (fun pages : Tab CtxPage => tget ({} : CtxPage) pages c) (k.keeps .pages out)

/-- No address of the Host window is reached while the link is down (R321). -/
theorem State.place_of_linkDown {s : State} (down : s.hif.linkUp = false) (c : Nat) {va : Nat} (window : windowOf va = 2)
    (write : Bool) : s.place c va write = .miss ⟨2, 2, 0, va⟩ := by
  simp [State.place, window, State.hostPlace, down]

theorem State.writes_of_linkDown {s : State} (down : s.hif.linkUp = false) (c : Nat) {va : Nat} (window : windowOf va = 2)
    {bs : Bytes} (nonempty : bs ≠ []) : s.writes c none va bs = (s, some ⟨2, 2, 0, va⟩) := by
  obtain ⟨b, bs, rfl⟩ := List.exists_cons_of_ne_nil nonempty
  rw [State.writes, State.writesBy, State.writeFrom, State.place_of_linkDown down c window]

/-- A completion to a ring in host memory while the link is down reaches no memory (R330). -/
theorem State.finish_of_linkDown {s : State} {c : Cmd} (down : s.hif.linkUp = false)
    (window : windowOf (s.ring c.ring).cqEntry = 2) (disabled : (s.page c.ctx).evqEnable = false) (status value : Nat) :
    Frame [.free, .out, .entries, .ctxEntries, .rings, .cmds] s (s.finish c status value) := by
  refine Frame.step (State.dropCmd_frame ..) rfl ?_
  have nonempty : completionBytes c.tag status (b2n (s.ring c.ring).cqPhase + 0) 0 (s.cmdDropped c) c.op value ≠ [] :=
    List.ne_nil_of_length_pos (by rw [completionBytes_length]; decide)
  unfold State.writeCompletion
  dsimp only
  rw [← Ring.cqEntry, State.writes_of_linkDown down c.ctx window nonempty]
  refine Frame.ite (Frame.refl _ s) ?_
  have k := Frame.step (g := [.free, .out, .entries, .rings]) (State.reportAer_frame (s.fresh.2.setRing c.ring
    { s.ring c.ring with error := true }) (s.function c.ctx) (s.fresh.1.getLsbD 0)) rfl (Frame.step (State.setRing_frame ..) rfl
    (Frame.mono (State.fresh_frame s) rfl))
  dsimp only
  rw [State.postEvent_of_disabled (by rw [State.page_of_frame k rfl]; exact disabled)]
  exact Frame.step (State.cbump_frame ..) rfl (Frame.mono k rfl)

/-! ### Lookups -/

/-- A lookup in its turn whose keys and header are read is the walk of its tree (R434). -/
theorem exec_prefixLookup_of_read {s v : State} {cmd : Nat} {c : Cmd} {ks : List Nat} {h : Tree} (starts : s.starting cmd 6 = some c)
    (first : (s.links.ends.any fun e => decide (e.cmd = c.id)) = false) (arrived : s.cairnArrive c.id c.ctx (c.at 8 8) = v)
    (turn : v.cairnTurn c.id c.ctx (c.at 8 8) = true) (keys : v.ckeys c.id c.ctx (c.at 16 8) (c.at 24 4) 0 = .ok ks)
    (tree : v.tree c.ctx (c.at 8 8) = .ok h) :
    exec (.prefixLookup cmd) s = .next ((v.cairnSeen c (c.at 24 4)).lookup c h ks) := by
  subst arrived
  show execPrefixLookup cmd s = _
  simp only [execPrefixLookup, State.cairnCmd, starts, State.prefixLookup, State.cairnRun, first, turn, keys, tree]
  rfl

/-- The walk of an empty tree reads its header and matches no block (R434). -/
theorem State.walkTree_of_empty {s : State} {h : Tree} (empty : h.root = 0) (ks : List Nat) :
    s.walkTree h ks = ({ holder := h.va + 8, first := 0 }, none) := by
  cases ks <;> simp [State.walkTree, State.walkFrom, State.seek, empty]

/-- A lookup in an empty tree reads the header and completes with VALUE 0 (R348, R443). -/
theorem State.lookup_of_empty {s : State} {c : Cmd} {h : Tree} (empty : h.root = 0) (ks : List Nat) :
    s.lookup c h ks = (((s.noteMet c.ctx { seen := [(h.va, 64)] }).cairnOver c.id).countLookup c.ctx 0).complete c 0 0 := by
  unfold State.lookup
  rw [State.walkTree_of_empty empty]
  simp [State.touch, State.lookupEnd, State.cwrite, State.writes, State.writesBy, State.writeFrom, Walk.met]

/-- What a walk that reads one place of the device leaves of the caches. -/
theorem State.noteMet_bulk (s : State) (c : Nat) {va n : Nat} (own : windowOf va ≠ 3) :
    (s.noteMet c { seen := [(va, n)] }).bulk = (s.accessed otherUnit c va n).bulk := by
  simp [State.noteMet, State.noteDead, own]

/-! ### The copy path's cache of region entries -/

/-- The region entries that the copy path holds (R214). -/
def State.copyHeld (s : State) : List Nat := tget [] s.bulk.regionCache otherUnit

/-- A cache holds what it takes in. -/
theorem cacheIns_contains (free unit n : Nat) (l : List Nat) (k : Nat) : (cacheIns free unit n l k).contains k = true := by
  unfold cacheIns
  by_cases held : l.contains k = true
  · rw [if_pos held, held]
  · rw [if_neg held]
    exact List.contains_iff_mem.mpr List.mem_cons_self

theorem cacheIns_of_held (free unit n : Nat) {l : List Nat} {k : Nat} (held : l.contains k = true) : cacheIns free unit n l k = l :=
  if_pos held

/-- A full cache gives up the entry that it chooses for another one. -/
theorem cacheIns_of_full (free unit n : Nat) {l : List Nat} {k : Nat} (out : l.contains k = false) (full : l.length = n) :
    cacheIns free unit n l k = k :: l.eraseIdx (Config.victim free unit % n) := by
  rw [cacheIns, if_neg (Bool.eq_false_iff.mp out), if_neg (by omega)]

theorem State.cacheRegion_copyHeld (s : State) (c va : Nat) :
    (s.cacheRegion otherUnit c va).copyHeld = cacheIns s.free otherUnit 64 s.copyHeld (c * 65536 + va / 2 ^ 20) :=
  tget_tput_same ..

/-- What a read of a few bytes of the Near window leaves in the copy path's cache: the entry of their region. -/
theorem State.accessed_copyHeld (s : State) {c va n k : Nat} (near : va < 2 ^ 36) (pos : 0 < n) (fits : va % 4096 + n ≤ 4096)
    (key : c * 65536 + va / 2 ^ 20 = k) :
    (s.accessed otherUnit c va n).copyHeld = cacheIns s.free otherUnit 64 s.copyHeld k ∧
      (s.accessed otherUnit c va n).free = s.free := by
  subst key
  refine ⟨?_, (State.accessed_frame ..).keeps .free rfl⟩
  have onePage : (va % 4096 + n + 4095) / 4096 = 1 := by omega
  have page : (va / 4096 * 4096) / 2 ^ 20 = va / 2 ^ 20 := by omega
  have window : windowOf (va / 4096 * 4096) = 0 := if_pos (by omega)
  have one : s.accessed otherUnit c va n = s.cacheNear otherUnit c (va / 4096 * 4096) := by
    simp [State.accessed, onePage, State.accessPage, window]
  rw [one, ← page]
  unfold State.cacheNear
  split
  · next e _ =>
    have k := State.touchNear_frame s e.prn
    have bulk := State.bulk_of_frame k rfl rfl
    rw [State.cacheRegion_copyHeld, k.keeps .free rfl, State.copyHeld, bulk, State.copyHeld]
  · exact State.cacheRegion_copyHeld ..

/-! ### The counterexample -/

/-- A lookup of one key by SYS: the tree at 0, its key in the next region, and no bytes of output. -/
def lookupFar : Cmd :=
  { id := 1, ring := 0, ctx := 256
    raw := leBytes 8 6 ++ leBytes 8 0 ++ leBytes 8 (2 ^ 20) ++ leBytes 4 1 ++ leBytes 4 0 ++ leBytes 8 0 }

/-- Key of the region entry of SYS's VRN 0. -/
def treeRegion : Nat := 256 * 65536

/-- A full cache in which the entry of the tree's region is the one that it gives up next. -/
def fullCache : List Nat := (List.range 64).map fun i => if i = Config.victim 0 otherUnit % 64 then treeRegion else i

/-- In service with the link down, that lookup waiting: SYS maps VRN 0 to region 40, in which an empty tree of one node stands, and
VRN 1 to region 41, in which the key 7 stands. -/
def emptyTreeFar : State :=
  { dev := { mode := .service }
    hif := { rings := [(0, { cqBase := 0x100000000000, ctx := 256, enable := true })] }
    cmds := [lookupFar]
    near := { map := [(treeRegion, ⟨40, true⟩), (treeRegion + 1, ⟨41, true⟩)]
              mem := [(40 * 2 ^ 20, 0x56), (40 * 2 ^ 20 + 1, 0x4B), (40 * 2 ^ 20 + 2, 0x43), (40 * 2 ^ 20 + 3, 0x4E),
                (40 * 2 ^ 20 + 4, 1), (40 * 2 ^ 20 + 28, 1), (40 * 2 ^ 20 + 32, 0x80), (41 * 2 ^ 20, 7)] }
    bulk := { regionCache := [(otherUnit, fullCache)] } }

/-- The empty tree of that state. -/
def emptyTree : Tree := { c := 256, va := 0, root := 0, free := 0, count := 0, nodes := 1, base := 0x80 }

/-- The state in which the lookup has its turn on the tree. -/
def emptyTreeTurn : State := emptyTreeFar.cairnArrive lookupFar.id lookupFar.ctx (lookupFar.at 8 8)

/-- The header and the key have been read. -/
def emptyTreeSeen : State := emptyTreeTurn.cairnSeen lookupFar 1

theorem emptyTreeFar_starting : emptyTreeFar.starting 1 6 = some lookupFar := by decide +kernel

theorem emptyTreeTurn_turn : emptyTreeTurn.cairnTurn lookupFar.id lookupFar.ctx (lookupFar.at 8 8) = true := by decide +kernel

theorem emptyTreeTurn_keys : emptyTreeTurn.ckeys lookupFar.id lookupFar.ctx (lookupFar.at 16 8) (lookupFar.at 24 4) 0 = .ok [7] := by
  decide +kernel

theorem emptyTreeTurn_tree : emptyTreeTurn.tree lookupFar.ctx (lookupFar.at 8 8) = .ok emptyTree := by decide +kernel

theorem fullCache_length : fullCache.length = 64 := by simp [fullCache]

theorem fullCache_getElem (i : Nat) (lt : i < fullCache.length) :
    fullCache[i] = if i = Config.victim 0 otherUnit % 64 then treeRegion else i := by simp [fullCache]

theorem mem_fullCache {k : Nat} : k ∈ fullCache ↔ ∃ i < 64, (if i = Config.victim 0 otherUnit % 64 then treeRegion else i) = k := by
  simp [fullCache]

theorem fullCache_holds_tree : fullCache.contains treeRegion = true :=
  List.contains_iff_mem.mpr (mem_fullCache.mpr ⟨Config.victim 0 otherUnit % 64, Nat.mod_lt _ (by decide), if_pos rfl⟩)

theorem fullCache_lacks_keys : fullCache.contains (treeRegion + 1) = false := by
  refine Bool.eq_false_iff.mpr fun held => ?_
  obtain ⟨i, lt, eq⟩ := mem_fullCache.mp (List.contains_iff_mem.mp held)
  unfold treeRegion at eq
  split_ifs at eq <;> omega

/-- With its next victim gone the cache does not hold the entry of the tree's region. -/
theorem fullCache_erased : treeRegion ∉ fullCache.eraseIdx (Config.victim 0 otherUnit % 64) := by
  intro held
  obtain ⟨i, lt, kept, eq⟩ := List.mem_eraseIdx_iff_getElem.mp held
  rw [fullCache_getElem, if_neg kept] at eq
  have small := fullCache_length ▸ lt
  unfold treeRegion at eq
  omega

theorem emptyTreeSeen_eq :
    emptyTreeSeen = (emptyTreeTurn.accessed otherUnit 256 0 64).accessed otherUnit 256 (2 ^ 20) 8 := by
  have header : lookupFar.at 8 8 = 0 := by decide
  have keys : lookupFar.at 16 8 = 2 ^ 20 := by decide
  rw [emptyTreeSeen, State.cairnSeen, header, keys]
  rfl

/-- The key's region has taken the place of the tree's region in the cache. -/
theorem emptyTreeSeen_lacks_tree : emptyTreeSeen.copyHeld.contains treeRegion = false := by
  obtain ⟨header, free⟩ := emptyTreeTurn.accessed_copyHeld (c := 256) (va := 0) (n := 64) (k := treeRegion) (by decide) (by decide)
    (by decide) rfl
  obtain ⟨keys, -⟩ := (emptyTreeTurn.accessed otherUnit 256 0 64).accessed_copyHeld (c := 256) (va := 2 ^ 20) (n := 8)
    (k := treeRegion + 1) (by decide) (by decide) (by decide) rfl
  have first : emptyTreeTurn.copyHeld = fullCache := rfl
  have untouched : emptyTreeTurn.free = 0 := rfl
  rw [first, cacheIns_of_held _ _ _ fullCache_holds_tree] at header
  rw [header, free, untouched, cacheIns_of_full _ _ _ fullCache_lacks_keys fullCache_length, ← emptyTreeSeen_eq] at keys
  rw [keys]
  refine Bool.eq_false_iff.mpr fun held => ?_
  rcases List.mem_cons.mp (List.contains_iff_mem.mp held) with eq | mem
  · exact absurd eq (by decide)
  · exact fullCache_erased mem

/-- What the completion reads stands in that state and in every one that differs in the given zones only. -/
theorem lookupFar_done {g : List Zone} {t : State} (k : Frame g emptyTreeFar t) (hif : g.contains .hif = false)
    (rings : g.contains .rings = false) (pages : g.contains .pages = false) (cmds : g.contains .cmds = false) :
    Frame [.free, .out, .entries, .ctxEntries, .rings, .cmds, .serve, .links] t
      (((t.cairnOver lookupFar.id).countLookup lookupFar.ctx 0).complete lookupFar 0 0) := by
  have counted : Frame [.free, .ctxEntries, .serve, .links] t ((t.cairnOver lookupFar.id).countLookup lookupFar.ctx 0) :=
    Frame.step (State.countLookup_frame ..) rfl (Frame.mono (State.cairnOver_frame ..) rfl)
  have noFence : ∀ d ∈ ((t.cairnOver lookupFar.id).countLookup lookupFar.ctx 0).cmds, d.op ≠ 8 := by
    rw [(counted.keeps .cmds rfl).1, (k.keeps .cmds cmds).1]
    decide
  rw [State.complete_of_no_fence noFence]
  refine Frame.step (State.finish_of_linkDown ?_ ?_ ?_ 0 0) rfl (Frame.mono counted rfl)
  · rw [State.linkUp_of_frame counted rfl, State.linkUp_of_frame k hif]
    rfl
  · rw [State.ring_of_frame counted rfl, State.ring_of_frame k rings]
    decide
  · rw [State.page_of_frame counted rfl, State.page_of_frame k pages]
    rfl

theorem State.copyHeld_of_frame {g : List Zone} {s t : State} (k : Frame g s t) (bulk : g.contains .bulk = false)
    (mem : g.contains .bulkMem = false) : t.copyHeld = s.copyHeld := by
  rw [State.copyHeld, State.bulk_of_frame k bulk mem, State.copyHeld]

theorem emptyTreeSeen_frame : Frame [.entries, .bulk, .power, .serve] emptyTreeFar emptyTreeSeen :=
  Frame.step (State.cairnSeen_frame ..) rfl (Frame.mono (State.cairnArrive_frame ..) rfl)

/-- The header is read again by the walk. -/
theorem emptyTreeSeen_noteMet :
    (emptyTreeSeen.noteMet lookupFar.ctx { seen := [(emptyTree.va, 64)] }).copyHeld.contains treeRegion = true := by
  have read := (emptyTreeSeen.accessed_copyHeld (c := 256) (va := 0) (n := 64) (k := treeRegion) (by decide) (by decide) (by decide)
    rfl).1
  have met : (emptyTreeSeen.noteMet 256 { seen := [(0, 64)] }).copyHeld = (emptyTreeSeen.accessed otherUnit 256 0 64).copyHeld := by
    rw [State.copyHeld, State.noteMet_bulk _ _ (by decide), State.copyHeld]
  rw [show lookupFar.ctx = 256 from rfl, show emptyTree.va = 0 from rfl, met, read]
  exact cacheIns_contains ..

/-- Refutes O28: a lookup in an empty tree is asked to leave what the reads of the header and of the keys leave, but its walk reads
the header once more (R434), and here the key's region has driven the header's out of the copy path's cache, to which the walk
brings it back. -/
theorem not_cairnTrees : ¬ Obligations.CairnTrees := by
  unfold Obligations.CairnTrees
  rintro ⟨-, -, inEmpty, -⟩
  have keys := emptyTreeTurn_keys
  have tree := emptyTreeTurn_tree
  obtain ⟨u, run, eq, -⟩ := inEmpty 1 lookupFar [7] emptyTreeFar emptyTreeTurn emptyTreeFar_starting rfl rfl emptyTreeTurn_turn
    (by rw [keys]; rfl) (by rw [tree]; rfl)
  have walked := exec_prefixLookup_of_read (v := emptyTreeTurn) emptyTreeFar_starting rfl rfl emptyTreeTurn_turn keys tree
  rw [State.lookup_of_empty rfl] at walked
  have same := congrArg State.copyHeld ((Host.Outcome.next.inj (walked.symm.trans run)).trans eq)
  have one : lookupFar.at 24 4 = 1 := by decide
  rw [one, ← emptyTreeSeen, ← State.countLookup] at same
  have claimed := State.copyHeld_of_frame (lookupFar_done emptyTreeSeen_frame rfl rfl rfl rfl) rfl rfl
  have left := State.copyHeld_of_frame (lookupFar_done (Frame.step (g := [.entries, .bulk, .power, .serve])
    (State.noteMet_frame emptyTreeSeen lookupFar.ctx { seen := [(emptyTree.va, 64)] }) rfl emptyTreeSeen_frame) rfl rfl rfl rfl) rfl rfl
  have brought := emptyTreeSeen_noteMet
  rw [← left, same, claimed, emptyTreeSeen_lacks_tree] at brought
  exact Bool.noConfusion brought

end Sys2Proof.Machine
end


section
/-! SUPPORT. The remote writes that wait for a frozen cluster: none of them addresses a sync counter, and how
that goes through a change of the state. -/

namespace Sys2Proof.Machine

/-- No remote write that waits for a frozen cluster addresses a sync counter. -/
def HeldBelow (s : State) : Prop := ∀ k ∈ s.links.held, k.kind = .write → k.h.addr.toNat < counterBase

namespace HeldBelow

theorem of_eq {s t : State} (h : HeldBelow s) (e : t.links.held = s.links.held) : HeldBelow t := by
  unfold HeldBelow
  rw [e]
  exact h

/-- A change of other fields than the links. -/
theorem same {s : State} {pending free out uptime pins dev cdu dict cdict host hostUncommitted hostDown near bulk store hif
    counters owners cmds nextCmd steps array ctxs serve tru kop health power} (h : HeldBelow s) : HeldBelow
      { pending, free, out, uptime, pins, dev, cdu, dict, cdict, host, hostUncommitted, hostDown, near, bulk, store, hif
        counters, owners, cmds, nextCmd, steps, array, ctxs, serve, tru, kop, health, power, links := s.links } := h

/-- A change of any fields but the list of what waits. -/
theorem links {s : State} {pending free out uptime pins dev cdu dict cdict host hostUncommitted hostDown near bulk store hif
    counters owners cmds nextCmd steps array ctxs serve tru kop health power} {ports requests fetches ends waiting nextTag
    moving early notes addressed acks epochs confirm} (h : HeldBelow s) : HeldBelow
      { pending, free, out, uptime, pins, dev, cdu, dict, cdict, host, hostUncommitted, hostDown, near, bulk, store, hif
        counters, owners, cmds, nextCmd, steps, array, ctxs, serve, tru, kop, health, power
        links := { ports, requests, fetches, ends, waiting, nextTag, moving, early, notes, addressed, acks, epochs
                   confirm, held := s.links.held } } := h

/-- A change outside the links. -/
theorem frame {g : List Zone} {s t : State} (k : Frame g s t) (out : g.contains .links = false)
    (h : HeldBelow s) : HeldBelow t :=
  h.of_eq (congrArg Links.held (k.keeps .links out))

/-- A change after which nothing waits. -/
theorem of_nil {s : State} (e : s.links.held = []) : HeldBelow s := by
  intro k hk
  rw [e] at hk
  cases hk

theorem ite {p : Prop} [Decidable p] {s t : State} (h : HeldBelow s) (k : HeldBelow t) :
    HeldBelow (if p then s else t) := by split <;> assumption

/-- A further change under a condition. -/
theorem when {p : Prop} [Decidable p] {s t : State} (k : HeldBelow s → HeldBelow t) (h : HeldBelow s) :
    HeldBelow (if p then t else s) := .ite (k h) h

theorem whenNot {p : Prop} [Decidable p] {s t : State} (k : HeldBelow s → HeldBelow t) (h : HeldBelow s) :
    HeldBelow (if p then s else t) := .ite h (k h)

/-- A choice, seen through a projection to the state. -/
theorem ite_of {β : Type} (π : β → State) {p : Prop} [Decidable p] {a b : β} (h : HeldBelow (π a))
    (k : HeldBelow (π b)) : HeldBelow (π (if p then a else b)) := by split <;> assumption

theorem of_fst {α : Type} {t : State} {p : State × α} {x : α} (e : p = (t, x)) (h : HeldBelow p.1) : HeldBelow t := by
  subst e
  exact h

theorem of_snd {α : Type} {t : State} {p : α × State} {x : α} (e : p = (x, t)) (h : HeldBelow p.2) : HeldBelow t := by
  subst e
  exact h

/-- A loop whose value carries the state. -/
theorem foldl_of {α β : Type} (π : β → State) {f : β → α → β} (l : List α)
    (k : ∀ p x, HeldBelow (π p) → HeldBelow (π (f p x))) {p : β} (h : HeldBelow (π p)) :
    HeldBelow (π (l.foldl f p)) := by
  induction l generalizing p with
  | nil => exact h
  | cons x l ih => exact ih (k p x h)

theorem foldl {α : Type} {f : State → α → State} (l : List α) (k : ∀ s x, HeldBelow s → HeldBelow (f s x)) {s : State}
    (h : HeldBelow s) : HeldBelow (l.foldl f s) := foldl_of id l k h

/-- A computation that fails with a state: what holds of its value, and nothing at a counter waits in its failing
state. -/
def Res {α : Type} (post : α → Prop) : Except State α → Prop
  | .ok a => post a
  | .error t => HeldBelow t

theorem Res.ok {α : Type} {post : α → Prop} {e : Except State α} {a : α} (h : Res post e) (k : e = .ok a) : post a := by
  subst k
  exact h

theorem Res.error {α : Type} {post : α → Prop} {e : Except State α} {t : State} (h : Res post e) (k : e = .error t) :
    HeldBelow t := by
  subst k
  exact h

theorem Res.bind {α β : Type} {post : α → Prop} {post' : β → Prop} {e : Except State α} {f : α → Except State β}
    (h : Res post e) (k : ∀ a, post a → Res post' (f a)) : Res post' (e >>= f) := by
  cases e with
  | ok a => exact k a h
  | error t => exact h

theorem Res.map {α β : Type} {post : α → Prop} {e : Except State α} {f : α → β} (h : Res post e) :
    Res (fun _ => True) (e.map f) := by
  cases e with
  | ok a => trivial
  | error t => exact h

theorem Res.of {α : Type} {post : α → Prop} {e : Except State α} (k : ∀ a, e = .ok a → post a)
    (h : ∀ t, e = .error t → HeldBelow t) : Res post e := by
  cases e with
  | ok a => exact k a rfl
  | error t => exact h t rfl

theorem Res.ite {α : Type} {post : α → Prop} {p : Prop} [Decidable p] {a b : Except State α} (h : Res post a)
    (k : Res post b) : Res post (if p then a else b) := by split <;> assumption

end HeldBelow

theorem State.ifHost_held_k {s f w} (k : ∀ s, HeldBelow s → HeldBelow (w s)) (h : HeldBelow s) :
    HeldBelow (s.ifHost f w) := by
  unfold State.ifHost
  exact .when (k _) h

theorem State.underGrant_held {s c pooled go} (k : ∀ c, HeldBelow s → HeldBelow (go c)) (h : HeldBelow s) :
    HeldBelow (s.underGrant c pooled go) := .ite (.frame (State.awaitGrant_frame ..) rfl h) (k _ h)

theorem State.responded_held_k {s port hd go} (k : ∀ s q, HeldBelow s → HeldBelow (go s q)) (h : HeldBelow s) :
    HeldBelow (s.responded port hd go) := by
  unfold State.responded
  refine .ite (.frame (State.epochDrop_frame ..) rfl h) ?_
  split
  · exact k _ _ h
  · exact h

end Sys2Proof.Machine
end

section
/-! SUPPORT. Nothing at a counter waits after what a port does: packets, requests and flushes. -/

namespace Sys2Proof.Machine

theorem State.setPort_held {s p q} (h : HeldBelow s) : HeldBelow (s.setPort p q) := by
  unfold State.setPort
  exact .links h

theorem State.portsOff_held {s} (h : HeldBelow s) : HeldBelow s.portsOff := by
  unfold State.portsOff
  exact .frame (State.settleSlice_frame ..) rfl <| .foldl _ (fun _ _ => State.setPort_held) h

theorem State.trip_held {s sensor reading} (h : HeldBelow s) : HeldBelow (s.trip sensor reading) := by
  unfold State.trip
  dsimp only
  exact .frame (State.endGrant_frame ..) rfl <| .frame (State.event_frame ..) rfl <| .frame (State.resupply_frame ..) rfl <|
    .frame (State.dset_frame ..) rfl <| .frame (State.dbump_frame ..) rfl <| .frame (State.setDomains_frame ..) rfl <|
    .frame (State.setDomains_frame ..) rfl <| State.portsOff_held <| .same h

theorem execThermalSensorRead_held {t sensor reading s} {u : State}
    (e : execThermalSensorRead t sensor reading s = .next u) (h : HeldBelow s) : HeldBelow u := by
  cases e
  refine .ite ?_ h
  dsimp only
  exact .ite
      (.same <| .frame (State.dset_frame ..) rfl <| .frame (State.at_frame ..) rfl h)
      (.ite
          (State.trip_held <| .same <| .frame (State.dset_frame ..) rfl <| .frame (State.at_frame ..) rfl h)
          (.frame (State.throttle_frame ..) rfl <| .same <| .frame (State.dset_frame ..) rfl <|
            .frame (State.at_frame ..) rfl h))

theorem State.queuePacket_held {s p k} (h : HeldBelow s) : HeldBelow (s.queuePacket p k) := by
  unfold State.queuePacket
  exact State.setPort_held h

theorem State.noteAddressed_held {s c d} (h : HeldBelow s) : HeldBelow (s.noteAddressed c d) := by
  unfold State.noteAddressed
  exact .links h

theorem State.sendMemory_held {s k} (h : HeldBelow s) : HeldBelow (s.sendMemory k).1 := by
  unfold State.sendMemory
  split
  · dsimp only
    exact State.queuePacket_held <| State.noteAddressed_held h
  · refine .ite_of Prod.fst ?_ h
    dsimp only
    exact .links <| State.noteAddressed_held h

theorem State.sendControl_held {s k} (h : HeldBelow s) : HeldBelow (s.sendControl k) := by
  unfold State.sendControl
  split
  · exact State.queuePacket_held h
  · exact .ite (.links h) h

theorem State.advanceEpoch_held {s c} (h : HeldBelow s) : HeldBelow (s.advanceEpoch c) := by
  unfold State.advanceEpoch
  exact .links <| .foldl _ (fun _ _ => State.sendControl_held) <| .frame (State.setEpoch_frame ..) rfl h

theorem State.beginConfirm_held {s kind c} (h : HeldBelow s) : HeldBelow (s.beginConfirm kind c) := by
  unfold State.beginConfirm
  exact .links h

theorem State.endConfirm_held {s kind c} (h : HeldBelow s) : HeldBelow (s.endConfirm kind c) := by
  unfold State.endConfirm
  exact .links h

theorem State.groupMessage_held {s p type status length data d} (h : HeldBelow s) :
    HeldBelow (s.groupMessage p type status length data d) := by
  unfold State.groupMessage
  exact State.sendControl_held <| State.noteAddressed_held h

theorem State.groupCast_held {s p type status length data} (h : HeldBelow s) :
    HeldBelow (s.groupCast p type status length data) := by
  unfold State.groupCast
  exact .foldl _ (fun _ _ => State.groupMessage_held) h

theorem State.sendAbort_held {s p status event} (h : HeldBelow s) : HeldBelow (s.sendAbort p status event) := by
  unfold State.sendAbort
  exact .ite h (State.groupCast_held h)

theorem State.replayStep_held {s p event} (h : HeldBelow s) : HeldBelow (s.replayStep p event) := by
  unfold State.replayStep
  exact .ite h (.frame (State.failStep_frame ..) rfl <| .ite (State.sendAbort_held h) h)

theorem State.endStep_held {s p code value} (h : HeldBelow s) : HeldBelow (s.endStep p code value) := by
  unfold State.endStep
  exact .ite h (.frame (State.failStep_frame ..) rfl <| .ite (State.sendAbort_held h) h)

theorem State.sendTo_held {s k} (h : HeldBelow s) : HeldBelow (s.sendTo k).1 := by
  unfold State.sendTo
  split
  · dsimp only
    exact State.queuePacket_held <| State.noteAddressed_held h
  · dsimp only
    exact State.sendMemory_held h

theorem State.writeRemote_held {s c d off ps bs} (h : HeldBelow s) : HeldBelow (s.writeRemote c d off ps bs).1 := by
  induction ps generalizing s bs with
  | nil => exact h
  | cons p ps ih =>
    unfold State.writeRemote
    dsimp only
    split
    · exact .frame (State.cbump_frame ..) rfl <| .of_fst (by assumption) <| State.sendTo_held h
    · exact ih <| .frame (State.cbump_frame ..) rfl <| .of_fst (by assumption) <| State.sendTo_held h

theorem State.remoteWrite_held {s c d off bs} (h : HeldBelow s) : HeldBelow (s.remoteWrite c d off bs).1 := by
  unfold State.remoteWrite
  exact State.writeRemote_held h

theorem State.request_held {s port d c va n asker} (h : HeldBelow s) : HeldBelow (s.request port d c va n asker).1 := by
  unfold State.request
  dsimp only
  exact .links h

theorem State.dropRequest_held {s tag} (h : HeldBelow s) : HeldBelow (s.dropRequest tag) := by
  unfold State.dropRequest
  exact .links h

theorem State.readRemote_held {s c d off asker ps} (h : HeldBelow s) : HeldBelow (s.readRemote c d off asker ps).1 := by
  induction ps generalizing s with
  | nil => exact h
  | cons p ps ih =>
    unfold State.readRemote
    dsimp only
    split
    · exact .frame (State.cbump_frame ..) rfl <| State.dropRequest_held <| .of_fst (by assumption) <| State.sendTo_held <|
        State.request_held h
    · exact ih <| .of_fst (by assumption) <| State.sendTo_held <| State.request_held h

theorem State.remoteRead_held {s c d off n asker} (h : HeldBelow s) : HeldBelow (s.remoteRead c d off n asker).1 := by
  unfold State.remoteRead
  exact State.readRemote_held h

theorem State.moreFlushes_held {s a n} (h : HeldBelow s) : HeldBelow (s.moreFlushes a n) := by
  unfold State.moreFlushes
  split
  · dsimp only
    exact .same h
  · dsimp only
    exact .links h
  · exact h

theorem State.flushOn_held {s c d asker p} (h : HeldBelow s) : HeldBelow (s.flushOn c d asker p) := by
  unfold State.flushOn
  split
  dsimp only
  exact .ite
      (State.queuePacket_held <| .of_fst (by assumption) <| State.request_held <| State.noteAddressed_held h)
      (.links <| .of_fst (by assumption) <| State.request_held <| State.noteAddressed_held h)

theorem State.flushPort_held {s c key asker} (h : HeldBelow s) : HeldBelow (s.flushPort c key asker) := by
  unfold State.flushPort
  dsimp only
  exact .ite
      (.foldl _ (fun _ _ => State.flushOn_held) <| State.moreFlushes_held h)
      (.ite (State.flushOn_held h) (State.flushOn_held h))

theorem State.flushPorts_held {s c keys asker} (h : HeldBelow s) : HeldBelow (s.flushPorts c keys asker) := by
  unfold State.flushPorts
  exact .foldl _ (fun _ _ => State.flushPort_held) h

theorem State.ask_held {s c cmd va n} (h : HeldBelow s) : HeldBelow (s.ask c cmd va n) := by
  unfold State.ask
  split
  · exact h
  · split
    split
    dsimp only
    exact .links <| .of_fst (by assumption) <| State.remoteRead_held h

end Sys2Proof.Machine
end

section
/-! SUPPORT. Nothing at a counter waits after an isolation, a reset of a context or the end of a step. -/

namespace Sys2Proof.Machine

theorem State.isolate_held {s cl} (h : HeldBelow s) : HeldBelow (s.isolate cl) := by
  unfold State.isolate
  refine .ite h ?_
  split
  · exact .frame (State.isolateNow_frame ..) rfl h
  · refine .frame (State.rappel_frame ..) rfl ?_
    split
    · exact h
    · exact .ite h (.frame (State.setStep_frame ..) rfl <| State.sendAbort_held h)

theorem State.beginHang_held {s p core suspects} (h : HeldBelow s) : HeldBelow (s.beginHang p core suspects) := by
  unfold State.beginHang
  refine .foldl _ (fun _ _ h => ?_) <| .foldl _ (fun _ _ h => .frame (State.hold_frame ..) rfl h) <|
    .frame (State.dset_frame ..) rfl <| .frame (State.dbump_frame ..) rfl <| .same h
  exact .frame (State.rappel_frame ..) rfl <| .frame (State.setStep_frame ..) rfl <| State.sendAbort_held h

theorem State.transientHang_held {s hd} (h : HeldBelow s) : HeldBelow (s.transientHang hd) := by
  unfold State.transientHang
  dsimp only
  exact .when (fun h => State.isolate_held h) <| .same <| .frame (State.releaseSuspects_frame ..) rfl <|
    .frame (State.dbump_frame ..) rfl h

theorem State.nextTrial_held {s n} (h : HeldBelow s) : HeldBelow (s.nextTrial n) := by
  induction n generalizing s with
  | zero => exact h
  | succ n ih =>
    unfold State.nextTrial
    split
    · exact h
    · split
      · exact State.transientHang_held h
      · split
        · exact ih <| .frame (State.mapHang_frame ..) rfl h
        · exact .frame (State.decideGrantOf_frame ..) rfl <| .frame (State.mapHang_frame ..) rfl <|
            .frame (State.unhold_frame ..) rfl h

theorem State.trialPassed_held {s cmd} (h : HeldBelow s) : HeldBelow (s.trialPassed cmd) := by
  unfold State.trialPassed
  split
  · refine .ite ?_ h
    dsimp only
    refine State.nextTrial_held ?_
    refine .frame (State.mapHang_frame ..) rfl ?_
    split
    · exact .frame (State.hold_frame ..) rfl h
    · exact h
  · exact h

theorem State.leaveHang_held {s c} (h : HeldBelow s) : HeldBelow (s.leaveHang c) := by
  unfold State.leaveHang
  dsimp only
  split
  · exact .when
          (fun h => .whenNot (fun h => State.nextTrial_held h) <| .frame (State.unhold_frame ..) rfl <|
            .frame (State.mapHang_frame ..) rfl h) <|
      .ite (.frame (State.unhold_frame ..) rfl <| .same h) h
  · exact .ite (.frame (State.unhold_frame ..) rfl <| .same h) h

theorem State.abandonForReset_held {s p} (h : HeldBelow s) : HeldBelow (s.abandonForReset p) := by
  unfold State.abandonForReset
  exact .ite h
      (.ite
          (.frame (State.setStep_frame ..) rfl <| State.sendAbort_held h)
          (.frame (State.dropStep_frame ..) rfl <| .ite (State.sendAbort_held h) h))

theorem State.settleReset_held {s c} (h : HeldBelow s) : HeldBelow (s.settleReset c) := by
  unfold State.settleReset
  split
  · exact .ite (State.beginConfirm_held <| State.advanceEpoch_held <| .same h) h
  · exact h

theorem State.startReset_held {s c cause} (h : HeldBelow s) : HeldBelow (s.startReset c cause) := by
  unfold State.startReset
  refine .ite h ?_
  dsimp only
  exact State.settleReset_held <| .frame (State.resetRappels_frame ..) rfl <| .frame (State.finishAll_frame ..) rfl <|
    .frame (State.stopWork_frame ..) rfl <| .foldl _ (fun _ _ => State.abandonForReset_held) <| State.leaveHang_held <|
    .frame (State.postEvent_frame ..) rfl <| .frame (State.cset_frame ..) rfl <| .frame (State.cset_frame ..) rfl <|
    .frame (State.cbump_frame ..) rfl <| .same h

theorem State.bivouacFailed_held {s c a} (h : HeldBelow s) : HeldBelow (s.bivouacFailed c a) := by
  unfold State.bivouacFailed
  exact State.startReset_held <| .frame (State.event_frame ..) rfl h

theorem State.unstrand_held {s p x} (h : HeldBelow s) : HeldBelow (s.unstrand p x) := by
  unfold State.unstrand
  split
  · exact h
  · dsimp only
    split
    · exact .frame (State.zeroRegion_frame ..) rfl <| .same h
    · refine .ite (.same h) ?_
      split
      · exact .frame (Frame.of_fst (State.giveRegion_frame ..) (by assumption)) rfl <| .same h
      · exact State.bivouacFailed_held <| .frame (State.zeroRegion_frame ..) rfl <|
          .frame (Frame.of_fst (State.giveRegion_frame ..) (by assumption)) rfl <| .same h

theorem State.unstrandAll_held {s cl} (h : HeldBelow s) : HeldBelow (s.unstrandAll cl) := by
  unfold State.unstrandAll
  split
  · exact h
  · exact .foldl _ (fun _ _ => State.unstrand_held) h

theorem State.returnCluster_held {s cl} (h : HeldBelow s) : HeldBelow (s.returnCluster cl) := by
  unfold State.returnCluster
  exact State.unstrandAll_held <| .frame (State.event_frame ..) rfl <| .frame (State.resupply_frame ..) rfl <|
    .frame (State.powerOn_frame ..) rfl <| .frame (State.dset_frame ..) rfl h

theorem State.resumeReset_held {s c} (h : HeldBelow s) : HeldBelow (s.resumeReset c) := by
  unfold State.resumeReset
  split
  · exact .ite (State.settleReset_held <| .frame (State.resetRappels_frame ..) rfl <| .same h) (State.settleReset_held h)
  · exact h

theorem State.endReset_held {s c} (h : HeldBelow s) : HeldBelow (s.endReset c) := by
  unfold State.endReset
  dsimp only
  split
  · exact .frame (State.grantDecision_frame ..) rfl <| .whenNot (fun h => .frame (State.postEvent_frame ..) rfl h) <| .same <|
      .frame (State.flipAll_frame ..) rfl <| .foldl _ (fun _ _ h => .frame (State.release_frame ..) rfl h) <|
      .frame (State.clearCounters_frame ..) rfl <| .frame (State.resetPool_frame ..) rfl <|
      .frame (State.zeroOwned_frame ..) rfl <| State.endConfirm_held h
  · exact .whenNot (fun h => .frame (State.postEvent_frame ..) rfl h) <| .same <| .frame (State.flipAll_frame ..) rfl <|
      .foldl _ (fun _ _ h => .frame (State.release_frame ..) rfl h) <| .frame (State.clearCounters_frame ..) rfl <|
      .frame (State.resetPool_frame ..) rfl <| .frame (State.zeroOwned_frame ..) rfl <| State.endConfirm_held h

theorem execContextResetEnd_held {ctx t s} {u : State} (e : execContextResetEnd ctx t s = .next u) (h : HeldBelow s) :
    HeldBelow u := by
  cases e
  split
  · exact .ite (State.endReset_held <| .frame (State.at_frame ..) rfl h) h
  · exact h

theorem State.endHalts_held {s p} (h : HeldBelow s) : HeldBelow (s.endHalts p) := by
  unfold State.endHalts
  dsimp only
  refine .foldl _ (fun _ _ h => ?_) <| .same <| .ite (State.groupCast_held h) h
  split
  · exact .frame (State.complete_frame ..) rfl h
  · exact h

theorem State.dropFetches_held {s cmd} (h : HeldBelow s) : HeldBelow (s.dropFetches cmd) := by
  unfold State.dropFetches
  exact .links h

theorem State.cairnOver_held {s cmd} (h : HeldBelow s) : HeldBelow (s.cairnOver cmd) := by
  unfold State.cairnOver
  exact State.dropFetches_held <| .same h

theorem State.discardWritten_held {s p} (h : HeldBelow s) : HeldBelow (s.discardWritten p) := by
  unfold State.discardWritten
  dsimp only
  exact .whenNot (fun h => .foldl _ (fun _ _ h => .frame (State.writes_frame ..) rfl h) h) <| State.cairnOver_held <|
    .frame (State.clearWritten_frame ..) rfl h

theorem State.dropGroup_held {s p} (h : HeldBelow s) : HeldBelow (s.dropGroup p) := by
  unfold State.dropGroup
  exact .ite h (.links h)

theorem State.afterStep_held {s p} (h : HeldBelow s) : HeldBelow (s.afterStep p) := by
  unfold State.afterStep
  dsimp only
  refine State.trialPassed_held ?_
  refine State.resumeReset_held ?_
  split
  · exact .frame (State.grantDecision_frame ..) rfl <| .frame (State.kick_frame ..) rfl <|
      .frame (State.shareAtStepEnd_frame ..) rfl <| .frame (State.settleLanes_frame ..) rfl <| State.dropGroup_held <|
      .frame (State.discardGroup_frame ..) rfl <| State.discardWritten_held <| .frame (State.dropExchanges_frame ..) rfl h
  · exact .frame (State.kick_frame ..) rfl <| .frame (State.shareAtStepEnd_frame ..) rfl <|
      .frame (State.settleLanes_frame ..) rfl <| State.dropGroup_held <| .frame (State.discardGroup_frame ..) rfl <|
      State.discardWritten_held <| .frame (State.dropExchanges_frame ..) rfl h

theorem State.failEnd_held {s p status value} (h : HeldBelow s) : HeldBelow (s.failEnd p status value) := by
  unfold State.failEnd
  dsimp only
  refine State.afterStep_held ?_
  split
  · exact .frame (State.complete_frame ..) rfl <| .frame (State.dropStep_frame ..) rfl <| State.endHalts_held <|
      .when
          (fun h => .frame (State.noteWork_frame ..) rfl <| .frame (State.charge_frame ..) rfl h) <|
      .ite (.frame (State.cbump_frame ..) rfl h) h
  · exact .frame (State.dropStep_frame ..) rfl <| State.endHalts_held <|
      .when
          (fun h => .frame (State.noteWork_frame ..) rfl <| .frame (State.charge_frame ..) rfl h) <|
      .ite (.frame (State.cbump_frame ..) rfl h) h

theorem State.silentEnd_held {s p} (h : HeldBelow s) : HeldBelow (s.silentEnd p) := by
  unfold State.silentEnd
  exact State.afterStep_held <| .frame (State.dropCmd_frame ..) rfl <| .frame (State.dropStep_frame ..) rfl <|
    State.endHalts_held h

theorem State.refusePhase_held {s p status value} (h : HeldBelow s) : HeldBelow (s.refusePhase p status value) := by
  unfold State.refusePhase
  exact State.failEnd_held <| .ite (State.sendAbort_held h) h

theorem State.activatePhase_held {s p k} (h : HeldBelow s) : HeldBelow (s.activatePhase p k) := by
  unfold State.activatePhase
  dsimp only
  split
  · split
    · exact State.refusePhase_held h
    · exact .frame (State.setStep_frame ..) rfl <| .when (fun h => .frame (State.launchFootprint_frame ..) rfl h) <|
        .frame (State.activate_frame ..) rfl h
  · exact State.refusePhase_held h

theorem State.beginAttempt_held {s p} (h : HeldBelow s) : HeldBelow (s.beginAttempt p) := by
  unfold State.beginAttempt
  dsimp only
  exact .ite
      (.frame (State.launchFootprint_frame ..) rfl <| .foldl _ (fun _ _ h => .frame (State.powerCluster_frame ..) rfl h) <|
        .frame (State.setStep_frame ..) rfl h)
      (.ite
          (State.activatePhase_held <| .frame (State.setStep_frame ..) rfl h)
          (.foldl _ (fun _ _ h => .frame (State.rappel_frame ..) rfl h) <| .frame (State.setStep_frame ..) rfl <|
            .frame (State.setStep_frame ..) rfl h))

theorem State.abortedEnd_held {s p status} (h : HeldBelow s) : HeldBelow (s.abortedEnd p status) := by
  unfold State.abortedEnd
  exact State.failEnd_held <| .frame (State.abortValue_frame ..) rfl h

theorem State.startStep_held {s p} (h : HeldBelow s) : HeldBelow (s.startStep p) := by
  unfold State.startStep
  dsimp only
  split
  · exact State.beginAttempt_held h
  · exact .ite (State.startReset_held <| State.failEnd_held h) (State.beginAttempt_held h)
  · exact State.abortedEnd_held h

theorem State.failLaunch_held {s p f} (h : HeldBelow s) : HeldBelow (s.failLaunch p f) := by
  unfold State.failLaunch
  exact State.failEnd_held <| .foldl _ (fun _ _ => State.groupMessage_held) <| .frame (State.noteFail_frame ..) rfl h

theorem State.limitEnd_held {s p status value} (h : HeldBelow s) : HeldBelow (s.limitEnd p status value) := by
  unfold State.limitEnd
  exact State.startReset_held <| State.failEnd_held h

theorem State.nextAttempt_held {s p ns} (h : HeldBelow s) : HeldBelow (s.nextAttempt p ns) := by
  unfold State.nextAttempt
  dsimp only
  split
  · exact State.beginAttempt_held h
  · exact .ite
        (State.beginAttempt_held h)
        (.ite (.ite (State.limitEnd_held h) (State.beginAttempt_held h)) (State.abortedEnd_held h))

theorem State.awaitList_held {s c p ask} (h : HeldBelow s) : HeldBelow (s.awaitList c p ask) := by
  unfold State.awaitList
  dsimp only
  split
  · exact State.failLaunch_held <| State.ask_held h
  · exact State.ask_held h

theorem State.launch_held {s c p} (h : HeldBelow s) : HeldBelow (s.launch c p) := by
  unfold State.launch
  refine .ite (State.nextAttempt_held h) ?_
  split
  · exact State.startStep_held <| State.dropFetches_held <| .frame (State.blockSeen_frame ..) rfl h
  · split
    · exact State.awaitList_held h
    · exact State.failLaunch_held <| .frame (State.blockSeen_frame ..) rfl h

theorem State.relaunch_held {s p} (h : HeldBelow s) : HeldBelow (s.relaunch p) := by
  unfold State.relaunch
  dsimp only
  exact State.nextAttempt_held <| State.discardWritten_held <| .frame (State.dropExchanges_frame ..) rfl <|
    State.endHalts_held <| .frame (State.chargeReplay_frame ..) rfl h

theorem State.keepHeld_held {s p} (h : HeldBelow s) : HeldBelow (s.keepHeld p) := by
  unfold State.keepHeld
  dsimp only
  exact .frame (State.setStep_frame ..) rfl <| State.discardWritten_held <| .frame (State.dropExchanges_frame ..) rfl <|
    State.endHalts_held <| .frame (State.chargeReplay_frame ..) rfl h

theorem State.endInReset_held {s p e} (h : HeldBelow s) : HeldBelow (s.endInReset p e) := by
  unfold State.endInReset
  split
  · exact .ite (State.silentEnd_held h) (State.failEnd_held h)
  · exact State.silentEnd_held h

theorem State.settleEnding_held {s p} (h : HeldBelow s) : HeldBelow (s.settleEnding p) := by
  unfold State.settleEnding
  split
  · exact h
  · exact State.endInReset_held h
  · exact State.silentEnd_held h
  · exact State.endInReset_held <| State.sendAbort_held h
  · exact .ite (State.limitEnd_held h) (State.relaunch_held h)
  · exact .ite (State.limitEnd_held h) (State.relaunch_held h)
  · exact State.keepHeld_held h

theorem State.stepDamage_held {s p va} (h : HeldBelow s) : HeldBelow (s.stepDamage p va) := by
  unfold State.stepDamage
  dsimp only
  split
  · exact State.replayStep_held <| .frame (State.noteDamage_frame ..) rfl h
  · exact .whenNot (fun h => .frame (State.failStep_frame ..) rfl <| .when (fun h => State.sendAbort_held h) h) <|
      .frame (State.noteDamage_frame ..) rfl h

theorem State.stepMiss_held {s p m} (h : HeldBelow s) : HeldBelow (s.stepMiss p m) := by
  unfold State.stepMiss
  exact .ite (State.stepDamage_held h) (State.endStep_held <| .frame (State.noteMiss_frame ..) rfl h)

end Sys2Proof.Machine
end

section
/-! SUPPORT. Nothing at a counter waits after the accesses of a step's units and its exchanges. -/

namespace Sys2Proof.Machine

theorem State.stepGot_held_error {s p got} {u : State} (e : s.stepGot p got = .error u) (h : HeldBelow s) : HeldBelow u := by
  cases got <;> cases e
  case miss m => exact State.stepMiss_held h
  case damaged a => exact State.stepDamage_held h

theorem State.stepRead_held_error {s p va n} {u : State} (e : s.stepRead p va n = .error u) (h : HeldBelow s) :
    HeldBelow u := State.stepGot_held_error e h

theorem State.stepWrite_heldRes {s p va bs} (h : HeldBelow s) : HeldBelow.Res HeldBelow (s.stepWrite p va bs) := by
  unfold State.stepWrite
  split
  · dsimp only
    have k := @State.remoteWrite_held s p.ctx (remoteOf va).1 (remoteOf va).2 bs h
    split
    next e =>
      have k := HeldBelow.of_fst e k
      show HeldBelow _
      split
      · exact .frame (State.setStep_frame ..) rfl k
      · exact k
    next e => exact State.stepMiss_held <| .of_fst e k
  · split
    next e => exact .of_fst e <| .frame (State.writes_frame ..) rfl h
    next e => exact State.stepMiss_held <| .of_fst e <| .frame (State.writes_frame ..) rfl h

theorem State.stepWrite_held_error {s p va bs} {u : State} (e : s.stepWrite p va bs = .error u) (h : HeldBelow s) :
    HeldBelow u := (State.stepWrite_heldRes h).error e

theorem State.stepWrite_held_ok {s p va bs} {u : State} (e : s.stepWrite p va bs = .ok u) (h : HeldBelow s) :
    HeldBelow u := (State.stepWrite_heldRes h).ok e

theorem State.stepRead_heldRes {s p va n} (h : HeldBelow s) : HeldBelow.Res (fun _ => True) (s.stepRead p va n) :=
  .of (fun _ _ => trivial) fun _ e => State.stepRead_held_error e h

theorem State.truRead_heldRes {s p va n} (h : HeldBelow s) :
    HeldBelow.Res (fun x => HeldBelow x.1) (s.truRead p va n) := by
  unfold State.truRead
  have k : HeldBelow (s.accessed otherUnit p.ctx va n) := .frame (State.accessed_frame ..) rfl h
  exact (State.stepRead_heldRes k).bind fun _ _ => k

theorem State.beginDispatch_heldRes {s p e} (h : HeldBelow s) : HeldBelow.Res HeldBelow (s.beginDispatch p e) := by
  unfold State.beginDispatch
  refine (State.truRead_heldRes h).bind fun x h => .ite (State.endStep_held h) ?_
  refine (State.truRead_heldRes h).bind fun x h => ?_
  dsimp only
  split
  · exact (State.truRead_heldRes h).bind fun _ h =>
      .frame (State.setExchange_frame ..) rfl <| State.groupCast_held <| .frame (State.cbump_frame ..) rfl h
  · exact .frame (State.setExchange_frame ..) rfl <| State.groupCast_held <| .frame (State.cbump_frame ..) rfl h

theorem State.beginReturn_heldRes {s p e} (h : HeldBelow s) : HeldBelow.Res HeldBelow (s.beginReturn p e) := by
  unfold State.beginReturn
  exact .frame (State.setExchange_frame ..) rfl <| State.groupCast_held h

theorem State.beginExchange_held {s e} (h : HeldBelow s) : HeldBelow (s.beginExchange e) := by
  unfold State.beginExchange
  split
  · exact h
  next p _ =>
    have begun := HeldBelow.Res.ite (p := exDir e.record = 0) (State.beginDispatch_heldRes (p := p) (e := e) h)
      (State.beginReturn_heldRes (p := p) (e := e) h)
    split
    next r => exact begun.ok r
    next r => exact begun.error r

theorem State.startQueued_held {s n} (h : HeldBelow s) : HeldBelow (s.startQueued n) := by
  induction n generalizing s with
  | zero => exact h
  | succ n ih =>
    unfold State.startQueued
    refine .ite h ?_
    split
    · exact h
    · exact ih <| State.beginExchange_held h

theorem State.nextExchanges_held {s} (h : HeldBelow s) : HeldBelow s.nextExchanges := by
  unfold State.nextExchanges
  exact .frame (State.countQueued_frame ..) rfl <| State.startQueued_held h

theorem State.triggerExchanges_held {s p route} (h : HeldBelow s) : HeldBelow (s.triggerExchanges p route) := by
  unfold State.triggerExchanges
  dsimp only
  exact .frame (State.countQueued_frame ..) rfl <| State.startQueued_held <|
    .foldl _ (fun _ _ h => .frame (State.triggerExchange_frame ..) rfl h) h

theorem State.fillSlot_heldRes {s p e slot expert} (h : HeldBelow s) :
    HeldBelow.Res HeldBelow (s.fillSlot p e slot expert) := by
  unfold State.fillSlot
  refine (State.stepWrite_heldRes h).bind fun _ h => (State.stepWrite_heldRes h).bind fun _ h => ?_
  exact .frame (State.cbump_frame ..) rfl h

theorem State.fillSlots_heldRes {s p e ks} (h : HeldBelow s) : HeldBelow.Res HeldBelow (s.fillSlots p e ks) := by
  induction ks generalizing s with
  | nil => exact h
  | cons k ks ih =>
    unfold State.fillSlots
    extract_lets jp
    split
    · exact (State.fillSlot_heldRes h).bind fun _ h => ih h
    · exact (State.stepWrite_heldRes h).bind fun _ h => ih h

theorem State.gatherRows_heldRes {s p b ns} (h : HeldBelow s) :
    HeldBelow.Res (fun x => HeldBelow x.1) (s.gatherRows p b ns) := by
  induction ns generalizing s with
  | nil => exact h
  | cons n ns ih =>
    unfold State.gatherRows
    exact (State.truRead_heldRes h).bind fun _ h => (ih h).bind fun _ h => h

theorem State.moveExpert_heldRes {s p e k} (h : HeldBelow s) :
    HeldBelow.Res (fun x => HeldBelow x.1) (s.moveExpert p e k) := by
  unfold State.moveExpert
  extract_lets b mine kept s1
  have h1 : HeldBelow s1 := .frame (State.cbump_frame ..) rfl h
  clear_value kept
  cases kept with
  | nil => exact h1
  | cons y ys =>
    refine (State.gatherRows_heldRes h1).bind fun x h => .ite ?_ ?_
    · exact (State.stepWrite_heldRes h).bind fun _ h => h
    · split
      next e => exact .of_fst e <| State.remoteWrite_held h
      next e => exact State.stepMiss_held <| .of_fst e <| State.remoteWrite_held h

theorem State.moveRows_heldRes {s p e cs} (h : HeldBelow s) :
    HeldBelow.Res (fun x => HeldBelow x.1) (s.moveRows p e cs) := by
  induction cs generalizing s with
  | nil => exact h
  | cons c cs ih =>
    unfold State.moveRows
    exact (State.moveExpert_heldRes h).bind fun _ h => (ih h).bind fun _ h => h

theorem State.dispatchRows_heldRes {s p e} (h : HeldBelow s) : HeldBelow.Res HeldBelow (s.dispatchRows p e) := by
  unfold State.dispatchRows
  refine (State.stepWrite_heldRes h).bind fun _ h => (State.fillSlots_heldRes h).bind fun _ h => ?_
  refine (State.moveRows_heldRes h).bind fun _ h => ?_
  exact .frame (State.addExchange_frame ..) rfl <| .frame (State.setExchange_frame ..) rfl <| State.flushPorts_held h

theorem execDispatchCountsComplete_held {exchange s} {u : State} (e : execDispatchCountsComplete exchange s = .next u)
    (h : HeldBelow s) : HeldBelow u := by
  cases e
  split
  · exact h
  · refine .ite ?_ h
    split
    next r => exact (State.dispatchRows_heldRes h).ok r
    next r => exact (State.dispatchRows_heldRes h).error r

theorem State.exchangeDone_held {s e} (h : HeldBelow s) : HeldBelow (s.exchangeDone e) := by
  unfold State.exchangeDone
  exact State.nextExchanges_held <| .frame (State.addExchange_frame ..) rfl <| .frame (State.setExchange_frame ..) rfl h

theorem execDispatchComplete_held {exchange s} {u : State} (e : execDispatchComplete exchange s = .next u) (h : HeldBelow s) :
    HeldBelow u := by
  cases e
  split
  · exact h
  · exact .ite (State.exchangeDone_held h) h

theorem State.fetchRow_heldRes {s p e d i c} (h : HeldBelow s) :
    HeldBelow.Res (fun x => HeldBelow x.1) (s.fetchRow p e d i c) := by
  unfold State.fetchRow
  refine .ite ((State.stepWrite_heldRes h).bind fun _ h => h) ?_
  dsimp only
  refine .ite ((State.truRead_heldRes h).bind fun _ h => (State.stepWrite_heldRes h).bind fun _ h => h) ?_
  split
  next r => exact .of_fst r <| State.remoteRead_held h
  next r => exact State.stepMiss_held <| .of_fst r <| State.remoteRead_held h

theorem State.fetchRows_heldRes {s p e d cs} (h : HeldBelow s) :
    HeldBelow.Res (fun x => HeldBelow x.1) (s.fetchRows p e d cs) := by
  induction cs generalizing s with
  | nil => exact h
  | cons c cs ih =>
    unfold State.fetchRows
    exact (State.fetchRow_heldRes h).bind fun _ h => (ih h).bind fun _ h => h

theorem execReturnAnnounced_held {exchange s} {u : State} (e : execReturnAnnounced exchange s = .next u)
    (h : HeldBelow s) : HeldBelow u := by
  cases e
  split
  · exact h
  · split
    · exact h
    · refine .ite ?_ h
      split
      next r => exact .frame (State.addExchange_frame ..) rfl <| .frame (State.setExchange_frame ..) rfl <|
        (State.fetchRows_heldRes h).ok r
      next r => exact (State.fetchRows_heldRes h).error r

theorem execReturnComplete_held {exchange s} {u : State} (e : execReturnComplete exchange s = .next u) (h : HeldBelow s) :
    HeldBelow u := by
  cases e
  split
  · exact h
  · exact .ite (State.exchangeDone_held h) h

end Sys2Proof.Machine
end

section
/-! SUPPORT. What waits after an access of another device (R276, R475). -/

namespace Sys2Proof.Machine

theorem State.answer_held {s port hd type poison addr length status data} (h : HeldBelow s) :
    HeldBelow (s.answer port hd type poison addr length status data) := by
  unfold State.answer
  exact State.queuePacket_held h

theorem State.perform_held {s k} (h : HeldBelow s) : HeldBelow (s.perform k) := by
  unfold State.perform
  dsimp only
  split
  · split
    · exact State.answer_held <| .frame (State.serveRead_frame_ok (by assumption)) rfl h
    · exact State.answer_held h
  · split <;> exact State.answer_held <| State.setPort_held h
  · split
    · exact .frame (State.serveWrite_frame_ok (by assumption)) rfl h
    · exact State.setPort_held h

/-- Of the writes only one below the counters is kept waiting (R276). -/
theorem State.below_of_heldWaits {s : State} {k : Held} (w : s.heldWaits k = true) (write : k.kind = .write) :
    k.h.addr.toNat < counterBase := by
  rw [State.heldWaits, write] at w
  exact of_decide_eq_true (Bool.and_eq_true_iff.mp w).1

theorem State.serveAccess_held {s k} (h : HeldBelow s) : HeldBelow (s.serveAccess k) := by
  unfold State.serveAccess
  refine .ite (.frame (State.epochDrop_frame ..) rfl h) ?_
  split
  next w =>
    intro j hj write
    rcases List.mem_append.mp hj with hj | hj
    · exact h j hj write
    · obtain rfl := List.mem_singleton.mp hj
      exact State.below_of_heldWaits w write
  · exact State.perform_held h

theorem State.serveHeld_held {s : State} : HeldBelow s.serveHeld := by
  unfold State.serveHeld
  exact .foldl _ (fun _ _ h => State.serveAccess_held h) (.of_nil rfl)

end Sys2Proof.Machine
end

section
/-! SUPPORT. Nothing at a counter waits after a recovery, a host reset or a Rappel. -/

namespace Sys2Proof.Machine

theorem State.strikeStep_held {s e p} (h : HeldBelow s) : HeldBelow (s.strikeStep e p) := by
  unfold State.strikeStep
  exact .ite
      (State.sendAbort_held h)
      (.ite h
          (.ite
              (.ite (.frame (State.setStep_frame ..) rfl h) h)
              (.frame (State.setStep_frame ..) rfl <| State.sendAbort_held h)))

theorem State.dropLinkWork_held {s : State} : HeldBelow s.dropLinkWork := by
  unfold State.dropLinkWork
  exact .frame (State.dset_frame ..) rfl (.of_nil rfl)

theorem State.portsDown_held {s : State} : HeldBelow s.portsDown := by
  unfold State.portsDown
  exact .frame (State.setDomains_frame ..) rfl <| State.portsOff_held State.dropLinkWork_held

theorem State.restartRecovery_held {s} (h : HeldBelow s) : HeldBelow s.restartRecovery := by
  unfold State.restartRecovery
  dsimp only
  exact .ite (.frame (State.powerDownForRecovery_frame ..) rfl State.portsDown_held) (.same h)

theorem State.settleRecovery_held {s} (h : HeldBelow s) : HeldBelow s.settleRecovery := by
  unfold State.settleRecovery
  refine .ite h ?_
  dsimp only
  exact .whenNot
        (fun h => .frame (State.drainDone_frame ..) rfl <| .frame (State.powerDownForRecovery_frame ..) rfl <|
          .frame (State.endGrant_frame ..) rfl <| .frame (State.endGrant_frame ..) rfl <|
          .frame (State.leaveInstall_frame ..) rfl <| .foldl _ (fun _ _ => State.advanceEpoch_held) <|
          .frame (State.dropPending_frame ..) rfl <| .frame (State.finishAll_frame ..) rfl <|
          .frame (State.dropAllBinds_frame ..) rfl <| .frame (State.clearStaging_frame ..) rfl <| .same h) <|
    .frame (State.drainAll_frame ..) rfl h

theorem State.abandonTest_held {s} (h : HeldBelow s) : HeldBelow s.abandonTest := by
  unfold State.abandonTest
  split
  · exact h
  · dsimp only
    exact .whenNot (fun h => State.unstrandAll_held h) <| .frame (State.dset_frame ..) rfl <| .same h

theorem State.startRecovery_held {s cause wait} (h : HeldBelow s) : HeldBelow (s.startRecovery cause wait) := by
  unfold State.startRecovery
  refine .ite h ?_
  dsimp only
  exact State.settleRecovery_held <| .frame (State.drainAll_frame ..) rfl <| .foldl _ (fun _ _ => State.strikeStep_held) <|
    .same <| .when (fun h => .frame (State.snapshot_frame ..) rfl h) <|
    .when
        (fun h => .frame (State.interrupt_frame ..) rfl h) <|
    State.abandonTest_held <| .frame (State.disarm_frame ..) rfl <| .frame (State.event_frame ..) rfl <|
    .frame (State.dset_frame ..) rfl <| .same h

theorem State.endRecovery_held {s} (h : HeldBelow s) : HeldBelow s.endRecovery := by
  unfold State.endRecovery
  dsimp only
  exact .frame (State.event_frame ..) rfl <| .frame (State.dput_frame ..) rfl <| .frame (State.dbump_frame ..) rfl <|
    .foldl _ (fun _ _ => State.endReset_held) <| .foldl _ (fun _ _ h => .frame (State.unhold_frame ..) rfl h) <|
    .foldl _ (fun _ _ h => .frame (State.reactivate_frame ..) rfl h) h

theorem State.settleHostReset_held {s} (h : HeldBelow s) : HeldBelow s.settleHostReset := by
  unfold State.settleHostReset
  refine .ite h ?_
  dsimp only
  exact .same <| .foldl _ (fun _ _ => State.advanceEpoch_held) h

theorem State.startHostReset_held {s} (h : HeldBelow s) : HeldBelow s.startHostReset := by
  unfold State.startHostReset
  dsimp only
  exact State.settleHostReset_held <| .foldl _ (fun _ _ h => .frame (State.rappel_frame ..) rfl h) <|
    .frame (State.endGrant_frame ..) rfl <| .frame (State.dropAllBinds_frame ..) rfl <| .same <|
    .foldl _ (fun _ _ => State.strikeStep_held) <| .same <| .ite (.frame (State.dbump_frame ..) rfl h) h

theorem execPerstN_held {t s} {u : State} (e : execPerstN t s = .next u) (h : HeldBelow s) : HeldBelow u := by
  cases e
  exact .ite (.same <| State.startHostReset_held <| .frame (State.at_frame ..) rfl h) h

theorem execPfFunctionLevelReset_held {t s} {u : State} (e : execPfFunctionLevelReset t s = .next u) (h : HeldBelow s) :
    HeldBelow u := by
  cases e
  exact .ite (State.startHostReset_held <| .frame (State.at_frame ..) rfl h) h

theorem State.engineReset_held {s} (h : HeldBelow s) : HeldBelow s.engineReset := by
  unfold State.engineReset
  split
  · exact h
  · dsimp only
    exact State.nextTrial_held <| .frame (State.mapHang_frame ..) rfl <|
      .foldl _ (fun _ _ h => .frame (State.revive_frame ..) rfl h) <|
      .foldl _ (fun _ _ h => .frame (State.powerCluster_frame ..) rfl h) <| .frame (State.setDomains_frame ..) rfl h

theorem State.settleFailed_held {s cmd} (h : HeldBelow s) : HeldBelow (s.settleFailed cmd) := by
  unfold State.settleFailed
  split
  · exact .ite (State.settleEnding_held h) h
  · exact h

theorem State.goOn_held {s cmd k} (h : HeldBelow s) : HeldBelow (s.goOn cmd k) := by
  unfold State.goOn
  split
  · exact .ite (State.activatePhase_held h) (State.settleFailed_held h)
  · exact h

theorem State.settlePurpose_held {s c why} (h : HeldBelow s) : HeldBelow (s.settlePurpose c why) := by
  unfold State.settlePurpose
  split
  · exact State.settleReset_held h
  · exact State.settleHostReset_held h
  · exact State.settleRecovery_held h
  · exact State.settleFailed_held h
  · exact State.settleFailed_held h
  · exact .ite h (State.engineReset_held h)
  · exact .ite h (.frame (State.isolateNow_frame ..) rfl h)
  · exact .frame (State.evictDone_frame ..) rfl h
  · exact .frame (State.kick_frame ..) rfl h
  · exact State.goOn_held h
  · exact .ite h (State.goOn_held h)
  · exact .ite h (.frame (State.parkOutgoing_frame ..) rfl h)

theorem State.failUnclear_held {s fp} (h : HeldBelow s) : HeldBelow (s.failUnclear fp) := by
  unfold State.failUnclear
  refine .foldl _ (fun _ _ h => ?_) h
  refine .ite ?_ h
  split
  · exact h
  · exact h
  · dsimp only
    exact .frame (State.setStep_frame ..) rfl <| State.sendAbort_held h

theorem State.quiesce_held {s r unclear} (h : HeldBelow s) : HeldBelow (s.quiesce r unclear) := by
  unfold State.quiesce
  dsimp only
  exact State.nextExchanges_held <| State.settleHostReset_held <| State.settleRecovery_held <| State.settleReset_held <|
    .frame (State.kick_frame ..) rfl <| .foldl _ (fun _ _ => State.settlePurpose_held) <|
    .foldl _ (fun _ _ => State.settleFailed_held) <| .whenNot
        (fun h => .foldl _ (fun _ _ h => .frame (State.isolateNow_frame ..) rfl h) <| State.failUnclear_held h) <|
    .frame (State.clearFootprint_frame ..) rfl <| .foldl _ (fun _ _ => State.endHalts_held) <| .same h

theorem State.advanceLosing_held {s c} (h : HeldBelow s) : HeldBelow (s.advanceLosing c) := by
  unfold State.advanceLosing
  dsimp only
  exact .foldl _ (fun _ _ => State.replayStep_held) <| State.advanceEpoch_held h

theorem execRappelCutoff_held {footprint t s} {u : State} (e : execRappelCutoff footprint t s = .next u) (h : HeldBelow s) :
    HeldBelow u := by
  cases e
  split
  · refine .ite h ?_
    dsimp only
    exact State.advanceLosing_held <| .same <| .frame (State.cbump_frame ..) rfl <| .frame (State.at_frame ..) rfl h
  · exact h

theorem State.switchDone_held {s p w} (h : HeldBelow s) : HeldBelow (s.switchDone p w) := by
  unfold State.switchDone
  extract_lets rs s1 drop
  have h1 : HeldBelow s1 := by
    simp only [s1]
    split
    · exact h
    · refine .ite h ?_
      split
      next e => exact State.bivouacFailed_held <| .of_fst e <| .frame (State.saveAll_frame ..) rfl h
      next e => exact .of_fst e <| .frame (State.saveAll_frame ..) rfl h
  have dropped : ∀ t, HeldBelow t → HeldBelow (drop t) := fun t h =>
    .frame (State.grantDecision_frame ..) rfl <| .frame (State.dset_frame ..) rfl <|
      .frame (State.endSwitch_frame ..) rfl <| .frame (State.clearPool_frame ..) rfl h
  clear_value s1 drop
  refine .ite (dropped _ h1) ?_
  split
  next e => exact dropped _ <| State.bivouacFailed_held <| .of_fst e <| .frame (State.restoreAll_frame ..) rfl h1
  next e => exact .frame (State.unpark_frame ..) rfl <| .frame (State.endSwitch_frame ..) rfl <| .of_fst e <|
      .frame (State.restoreAll_frame ..) rfl h1

theorem execContextSwitchDone_held {pool t s} {u : State} (e : execContextSwitchDone pool t s = .next u) (h : HeldBelow s) :
    HeldBelow u := by
  cases e
  split
  · exact .ite h (State.switchDone_held <| .frame (State.at_frame ..) rfl h)
  · exact h

theorem State.sliceDamage_held {s p core off} (h : HeldBelow s) : HeldBelow (s.sliceDamage p core off) := by
  unfold State.sliceDamage
  exact .ite
      (State.replayStep_held <| .frame (State.cbump_frame ..) rfl h)
      (.whenNot (fun h => .frame (State.failStep_frame ..) rfl <| State.sendAbort_held h) <|
        .frame (State.cbump_frame ..) rfl h)

theorem State.suppress_held {s p core off} (h : HeldBelow s) : HeldBelow (s.suppress p core off) := by
  unfold State.suppress
  exact State.endStep_held h

end Sys2Proof.Machine
end

section
/-! SUPPORT. Nothing at a counter waits after a round's reads and writes and a stream's transfers. -/

namespace Sys2Proof.Machine

theorem Round.load_heldRes {x : Round} {c off n} (h : HeldBelow x.s) : HeldBelow.Res (fun _ => True) (x.load c off n) := by
  refine .of (fun _ _ => trivial) fun t e => ?_
  unfold Round.load at e
  split at e
  · cases e
    exact h
  · extract_lets at e
    split at e
    · cases e
      exact State.suppress_held h
    · split at e
      · cases e
        exact State.sliceDamage_held h
      · cases e

theorem Round.store_held {x : Round} {c off b} (h : HeldBelow x.s) : HeldBelow (x.store c off b).s := by
  unfold Round.store
  split
  · exact h
  · dsimp only
    split
    · exact State.suppress_held <| .frame (State.setCore_frame ..) rfl <| .frame (State.sliceWrite_frame ..) rfl h
    · exact .frame (State.setCore_frame ..) rfl <| .frame (State.sliceWrite_frame ..) rfl h

theorem Round.groupRow_heldRes {x : Round} {c f i j} (h : HeldBelow x.s) :
    HeldBelow.Res (fun _ => True) (x.groupRow c f i j) := by
  unfold Round.groupRow
  extract_lets
  refine .ite (.ite trivial trivial) (.ite ?_ ?_)
  · exact (Round.load_heldRes h).bind fun _ _ => (Round.load_heldRes h).bind fun _ _ => trivial
  · exact (Round.load_heldRes h).bind fun _ _ => trivial

theorem Round.deliver_held {x : Round} {c f es} (h : HeldBelow x.s) : HeldBelow (x.deliver c f es).s := by
  unfold Round.deliver
  dsimp only
  split
  · exact .frame (Round.setCore_frame ..) rfl h
  · exact .frame (Round.heal_frame ..) rfl <|
      .foldl_of Round.s _ (fun _ _ h => .frame (Round.markAt_frame ..) rfl <| Round.store_held h) h
  · exact h

theorem Round.readParams_heldRes {x : Round} {c on addr n} (h : HeldBelow x.s) :
    HeldBelow.Res (fun _ => True) (x.readParams c on addr n) := by
  unfold Round.readParams
  split
  · exact (Round.load_heldRes h).bind fun _ _ => trivial
  · trivial

theorem Round.loadLanes_heldRes {x : Round} {c w ls} (h : HeldBelow x.s) :
    HeldBelow.Res (fun _ => True) (x.loadLanes c w ls) := by
  induction ls with
  | nil => trivial
  | cons l ls ih => exact (Round.load_heldRes h).bind fun _ _ => ih.bind fun _ _ => trivial

theorem Round.storeValue_held {x : Round} {c off b a} (h : HeldBelow x.s) : HeldBelow (x.storeValue c off b a).s := by
  unfold Round.storeValue
  dsimp only
  split
  · exact .frame (Round.markAt_frame ..) rfl <| Round.store_held h
  · exact .ite_of Round.s
        (.frame (Round.mapStep_frame ..) rfl <| .frame (Round.markAt_frame ..) rfl <| Round.store_held h)
        (.ite_of Round.s
            (.frame (Round.setCore_frame ..) rfl <| .frame (Round.markAt_frame ..) rfl <| Round.store_held h)
            (.frame (Round.markAt_frame ..) rfl <| Round.store_held h))

theorem Round.askPilots_held {x : Round} {o} (h : HeldBelow x.s) : HeldBelow (x.askPilots o).s := by
  unfold Round.askPilots
  split
  · refine .ite_of Round.s h ?_
    dsimp only
    exact .foldl _ (fun _ _ => State.ask_held) h
  · exact h

theorem Round.storeLane_held {x : Round} {c v off w} (h : HeldBelow x.s) : HeldBelow (x.storeLane c v off w).s := by
  unfold Round.storeLane
  dsimp only
  exact Round.storeValue_held h

theorem State.outside_held {s x pos} (h : HeldBelow s) : HeldBelow (s.outside x pos) := by
  unfold State.outside
  exact State.endStep_held h

theorem State.streamIn_held {k s x n} (h : HeldBelow s) : HeldBelow (State.streamIn k s x n) := by
  induction k generalizing s x n with
  | zero => exact h
  | succ k ih =>
    unfold State.streamIn
    dsimp only
    split
    · exact h
    · split
      · exact State.outside_held h
      · split
        · split
          · exact h
          · split
            next e => exact .frame (State.setStream_frame ..) rfl <| .of_fst e <| State.remoteRead_held <|
                .frame (State.merged_frame ..) rfl h
            · exact h
        · split
          · exact h
          · split
            · exact ih <| .frame (State.translateAhead_frame ..) rfl <| .frame (State.land_frame ..) rfl <|
                .frame (State.pathEvents_frame ..) rfl <| .frame (State.accessed_frame ..) rfl <|
                .frame (State.merged_frame ..) rfl h
            · exact h
            · exact State.stepDamage_held <| .frame (State.accessed_frame ..) rfl h

theorem execStreamDataArrival_held {core stream bytes s} {u : State}
    (e : execStreamDataArrival core stream bytes s = .next u) (h : HeldBelow s) : HeldBelow u := by
  cases e
  split
  · exact .ite (State.streamIn_held h) h
  · exact h

theorem State.streamOut_held {k s x n} (h : HeldBelow s) : HeldBelow (State.streamOut k s x n) := by
  induction k generalizing s x n with
  | zero => exact h
  | succ k ih =>
    unfold State.streamOut
    dsimp only
    split
    · exact h
    · split
      · exact State.outside_held h
      · split
        · exact h
        · split
          next e => exact ih <| .frame (State.translateAhead_frame ..) rfl <| .frame (State.wrote_frame ..) rfl <|
              .frame (State.pathEvents_frame ..) rfl <| .of_fst e <| .frame (State.writesBy_frame ..) rfl <|
              .frame (State.accessed_frame ..) rfl <| .frame (State.merged_frame ..) rfl h
          · exact .ite (State.stepDamage_held h) h

theorem State.remoteOut_held {k s x n} (h : HeldBelow s) : HeldBelow (State.remoteOut k s x n) := by
  induction k generalizing s x n with
  | zero => exact h
  | succ k ih =>
    unfold State.remoteOut
    dsimp only
    split
    · exact h
    · split
      · split
        · exact h
        · refine State.flushPorts_held <| .frame (State.setStream_frame ..) rfl ?_
          split
          · exact .frame (State.setStep_frame ..) rfl h
          · exact h
      · split
        · exact h
        · split
          · exact State.outside_held h
          · split
            next e => exact ih <| .frame (State.setStream_frame ..) rfl <| .of_fst e <| State.remoteWrite_held <|
                .frame (State.merged_frame ..) rfl h
            · exact h

theorem execStreamWriteAck_held {core stream bytes s} {u : State}
    (e : execStreamWriteAck core stream bytes s = .next u) (h : HeldBelow s) : HeldBelow u := by
  cases e
  split
  · exact .ite (.ite (State.remoteOut_held h) (State.streamOut_held h)) h
  · exact h

theorem State.ropeRead_held {s x part a n} (h : HeldBelow s) : HeldBelow (s.ropeRead x part a n).1 := by
  unfold State.ropeRead
  dsimp only
  refine .ite_of Prod.fst ?_ ?_
  · refine .ite_of Prod.fst h ?_
    refine .ite_of Prod.fst ?_ ?_
    · dsimp only
      exact .frame (State.setStream_frame ..) rfl h
    · split
      · dsimp only
        exact .of_fst (by assumption) <| State.remoteRead_held h
      · dsimp only
        exact .frame (State.setStream_frame ..) rfl <| .of_fst (by assumption) <| State.remoteRead_held h
      · exact h
  · refine .ite_of Prod.fst h ?_
    split
    · dsimp only
      exact .frame (State.pathEvents_frame ..) rfl <| .frame (State.accessed_frame ..) rfl h
    · dsimp only
      exact State.stepDamage_held <| .frame (State.accessed_frame ..) rfl h
    · exact h

theorem State.readTable_held {s x pass} (h : HeldBelow s) : HeldBelow (s.readTable x pass).1 := by
  unfold State.readTable
  split
  · dsimp only
    exact .of_fst (by assumption) <| State.ropeRead_held h
  · split
    · dsimp only
      exact .frame (State.setStream_frame ..) rfl <| .of_fst (by assumption) <| State.ropeRead_held h
    · dsimp only
      exact State.endStep_held <| .of_fst (by assumption) <| State.ropeRead_held h

theorem State.sliceBlock_held_error {s x n} {u : State} (e : s.sliceBlock x n = .error u) (h : HeldBelow s) :
    HeldBelow u := by
  unfold State.sliceBlock at e
  dsimp only at e
  split at e
  · cases e
    exact State.suppress_held h
  · split at e
    · cases e
      exact State.sliceDamage_held h
    · cases e

theorem State.readyBlocks_held {s core x} (h : HeldBelow s) : HeldBelow (s.readyBlocks core x) := by
  unfold State.readyBlocks
  dsimp only
  split
  · exact State.endStep_held h
  · exact .frame (State.setCore_frame ..) rfl h

theorem State.nextBlock_held {s x n} (h : HeldBelow s) : HeldBelow (s.nextBlock x n) := by
  unfold State.nextBlock
  dsimp only
  refine .ite (.ite h <| .ite (.ite h ?_) ?_) ?_
  · split
    · exact .frame (State.putBlock_frame ..) rfl h
    next e => exact State.sliceBlock_held_error e h
  · split
    next e => exact .frame (State.putBlock_frame ..) rfl <| .of_fst e <| State.ropeRead_held h
    next e => exact .of_fst e <| State.ropeRead_held h
  · split
    · exact h
    · split
      · exact h
      · exact .frame (State.putBlock_frame ..) rfl <| .frame (State.setCore_frame ..) rfl h

theorem State.ropeTable_held {s core x} (h : HeldBelow s) : HeldBelow (s.ropeTable core x) := by
  unfold State.ropeTable
  dsimp only
  refine .ite ?_ ?_
  · refine State.readyBlocks_held ?_
    split
    · exact .ite_of Prod.fst h (State.readTable_held h)
    · exact h
  · split
    · exact .ite_of Prod.fst h (State.readTable_held h)
    · exact h

theorem State.ropeBlock_held {s core x} (h : HeldBelow s) : HeldBelow (s.ropeBlock core x) := by
  unfold State.ropeBlock
  dsimp only
  exact State.ropeTable_held <| .ite (State.nextBlock_held h) h

theorem execRopeBlockArrival_held {core s} {u : State} (e : execRopeBlockArrival core s = .next u) (h : HeldBelow s) :
    HeldBelow u := by
  cases e
  split
  · exact State.ropeBlock_held h
  · exact h

theorem State.haltStream_held {s x hd} (h : HeldBelow s) : HeldBelow (s.haltStream x hd) := by
  unfold State.haltStream
  dsimp only
  exact .when (fun h => State.groupCast_held h) <| .foldl _ (fun _ _ h => .frame (State.endWait_frame ..) rfl h) <|
    .frame (State.setStream_frame ..) rfl <| .frame (State.cbump_frame ..) rfl <| .frame (State.noteMiss_frame ..) rfl h

theorem execStreamTranslationFault_held {core stream s} {u : State}
    (e : execStreamTranslationFault core stream s = .next u) (h : HeldBelow s) : HeldBelow u := by
  cases e
  split
  · refine .ite h ?_
    split
    · exact State.haltStream_held <| .frame (State.countUnsent_frame ..) rfl <| .frame (State.accessPage_frame ..) rfl h
    · exact h
  · exact h

theorem State.resume_held {s key t} (h : HeldBelow s) : HeldBelow (s.resume key t) := by
  unfold State.resume
  dsimp only
  split
  · exact .whenNot
          (fun h => .whenNot (fun h => State.groupCast_held h) <|
            .foldl _ (fun _ _ h => .frame (State.startWait_frame ..) rfl h) h) <|
      .frame (State.setStream_frame ..) rfl h
  · exact .frame (State.setStream_frame ..) rfl h

theorem execSprSave_held {core stream t s} {u : State} (e : execSprSave core stream t s = .next u) (h : HeldBelow s) :
    HeldBelow u := by
  cases e
  dsimp only
  split
  · exact .whenNot (fun h => .foldl _ (fun _ _ h => .frame (State.complete_frame ..) rfl h) <| State.resume_held h) <|
      .frame (State.postEvent_frame ..) rfl <| .frame (State.setStream_frame ..) rfl <| .frame (State.at_frame ..) rfl h
  · exact h

theorem execResumeStream_held {cmd s} {u : State} (e : execResumeStream cmd s = .next u) (h : HeldBelow s) : HeldBelow u := by
  cases e
  split
  · exact h
  · dsimp only
    split
    · exact .ite
          (.frame (State.complete_frame ..) rfl h)
          (.ite
              (.frame (State.complete_frame ..) rfl <| State.resume_held h)
              (.frame (State.stage_frame ..) rfl <| .frame (State.setStream_frame ..) rfl h))
    · exact .frame (State.complete_frame ..) rfl h

theorem execStreamFaultTimeout_held {core stream t s} {u : State}
    (e : execStreamFaultTimeout core stream t s = .next u) (h : HeldBelow s) : HeldBelow u := by
  cases e
  split
  · exact .ite (State.endStep_held <| .frame (State.at_frame ..) rfl h) h
  · exact h

theorem State.routeFault_held {s p cl ingress case} (h : HeldBelow s) : HeldBelow (s.routeFault p cl ingress case) := by
  unfold State.routeFault
  exact State.endStep_held <| .frame (State.cset_frame ..) rfl <| .frame (State.cbump_frame ..) rfl h

theorem Due.finish_held {d s} (h : HeldBelow s) : HeldBelow (Due.finish d s) := by
  unfold Due.finish
  split
  · exact State.routeFault_held h
  · dsimp only
    exact .frame (State.setCluster_frame ..) rfl <| .frame (State.countFreeze_frame ..) rfl <|
      .frame (Due.flushHalves_frame ..) rfl h

theorem execRoundStart_held {cluster s} {u : State} (e : execRoundStart cluster s = .next u) (h : HeldBelow s) :
    HeldBelow u := by
  cases e
  split
  · exact .ite h State.serveHeld_held
  · exact h

theorem Due.arrive_held {d s i m} (h : HeldBelow s) : HeldBelow (Due.arrive d s i m) := by
  unfold Due.arrive
  refine .ite (.frame (State.setCluster_frame ..) rfl h) ?_
  refine .ite (State.routeFault_held h) ?_
  refine .ite (State.routeFault_held h) ?_
  dsimp only
  split
  · split
    · exact State.routeFault_held <| .frame (State.setCluster_frame ..) rfl h
    · exact .frame (State.setCluster_frame ..) rfl h
  · exact .frame (State.setCluster_frame ..) rfl h

theorem execChannelMessageArrival_held {cluster egress s} {u : State}
    (e : execChannelMessageArrival cluster egress s = .next u) (h : HeldBelow s) : HeldBelow u := by
  cases e
  split
  · exact h
  · extract_lets
    split
    · exact h
    · extract_lets
      split
      · exact Due.arrive_held <| .frame (State.perturbed_frame ..) rfl <|
          .foldl _ (fun _ _ h => .frame (State.flits_frame ..) rfl h) <| .frame (State.setCluster_frame ..) rfl h
      · exact .frame (State.setCluster_frame ..) rfl h

end Sys2Proof.Machine
end

section
/-! SUPPORT. A round of a cluster keeps writes at the counters out of what waits: its actions one by one, and the round. -/

namespace Sys2Proof.Machine

/-- A part of a round after which, as before it, nothing at a counter waits. -/
abbrev Round.HeldRes (p : Part) : Prop := HeldBelow.Res (fun y => HeldBelow y.s) p

/-! ### The parts of a round -/

theorem Round.through_heldRes {x : Round} {go : Round → Part} {c client} (h : HeldBelow x.s) (k : Round.HeldRes (go x)) :
    Round.HeldRes (x.through c client go) := .ite k h

theorem Round.setCore_held {x : Round} {c k} (h : HeldBelow x.s) : HeldBelow (x.setCore c k).s :=
  .frame (Round.setCore_frame ..) rfl h

theorem Round.mapStep_held {x : Round} {f} (h : HeldBelow x.s) : HeldBelow (x.mapStep f).s :=
  .frame (Round.mapStep_frame ..) rfl h

theorem Round.fillTile_heldRes {x : Round} {c f n off len rope} (h : HeldBelow x.s) :
    Round.HeldRes (x.fillTile c f n off len rope) := by
  unfold Round.fillTile
  split
  · exact Round.setCore_held h
  · exact (Round.load_heldRes h).bind fun _ _ => Round.setCore_held h

theorem Round.readRow_heldRes {x : Round} {c i f n q} (h : HeldBelow x.s) : Round.HeldRes (x.readRow c i f n q) := by
  unfold Round.readRow
  exact (Round.groupRow_heldRes h).bind fun _ _ => h

theorem Round.readColumns_heldRes {x : Round} {c i f j} (h : HeldBelow x.s) :
    Round.HeldRes (x.readColumns c i f j) := by
  unfold Round.readColumns
  exact (Round.readParams_heldRes h).bind fun _ _ => (Round.readParams_heldRes h).bind fun _ _ => h

theorem Round.runRow_heldRes {x : Round} {c i f n q} (h : HeldBelow x.s) : Round.HeldRes (x.runRow c i f n q) := by
  unfold Round.runRow
  extract_lets y
  have hy : HeldBelow y.s := .ite_of Round.s (.frame (Round.startTile_frame ..) rfl h) h
  clear_value y
  split
  · extract_lets t jp
    have hj : ∀ a, Round.HeldRes (jp a) := fun _ =>
      HeldBelow.Res.ite (a := .ok _) (b := .ok _) hy (Round.mapStep_held <| Round.setCore_held hy)
    clear_value jp
    exact .ite ((Round.groupRow_heldRes hy).bind fun _ _ => hj _) (hj _)
  · exact hy
  · exact hy

theorem Round.emitRow_heldRes {x : Round} {c i f j q} (h : HeldBelow x.s) : Round.HeldRes (x.emitRow c i f j q) := by
  unfold Round.emitRow
  split
  · extract_lets cs scaleOf bank es overs nans sr y
    have hy : HeldBelow y.s := Round.mapStep_held h
    clear_value y
    exact .ite (Round.deliver_held hy) hy
  · exact h
  · exact h

theorem Round.normOne_heldRes {x : Round} {c o a} (h : HeldBelow x.s) : Round.HeldRes (x.normOne c o a) := by
  unfold Round.normOne
  split
  · exact h
  next p _ =>
    extract_lets b m n f w xs mode ref on at' jp
    have hj : ∀ sh, Round.HeldRes (jp sh) := fun sh => by
      simp only [jp]
      refine .ite ((State.stepWrite_heldRes ?_).bind fun _ k => Round.mapStep_held k) ?_
      all_goals exact Round.storeValue_held <| Round.storeValue_held h
    clear_value mode jp
    split
    · exact HeldBelow.Res.bind (post := fun _ => True)
        (State.stepRead_heldRes h).map fun _ _ => hj _
    · exact hj _
    · exact hj _

theorem Round.normGrant_heldRes {x : Round} {c o a rest} (h : HeldBelow x.s) :
    Round.HeldRes (x.normGrant c o a rest) := by
  unfold Round.normGrant
  extract_lets n done
  exact .ite ((Round.load_heldRes h).bind fun _ _ => h) ((Round.normOne_heldRes h).bind fun _ h => h)

theorem Round.issue_heldRes {x : Round} {c sec o} (h : HeldBelow x.s) : Round.HeldRes (x.issue c sec o) := by
  unfold Round.issue
  extract_lets v later ls ro y
  have asked : HeldBelow y.s := Round.askPilots_held h
  clear_value y
  exact .ite (.ite h (Round.through_heldRes h h)) (.ite (.ite asked (Round.through_heldRes asked asked))
    (.frame (Round.ve_frame ..) rfl h))

theorem Round.veGrant_heldRes {x : Round} {c sec} (h : HeldBelow x.s) : Round.HeldRes (x.veGrant c sec) := by
  unfold Round.veGrant
  split
  · exact h
  · extract_lets v now more
    refine .ite h (.ite ?_ (.ite ?_ (Round.normGrant_heldRes h)))
    · exact (Round.loadLanes_heldRes h).bind fun _ _ => h
    · exact .frame (Round.heal_frame ..) rfl <| .foldl_of Round.s _ (fun _ _ h => Round.storeLane_held h) h

theorem Round.intoSlice_held {x : Round} {u n} (h : HeldBelow x.s) : HeldBelow (x.intoSlice u n).s := by
  unfold Round.intoSlice
  extract_lets t k q b room at' first y z mark w
  have hy : HeldBelow y.s := Round.store_held <| Round.setCore_held h
  have hz : HeldBelow z.s := .ite_of Round.s (Round.store_held hy) hy
  have marked : ∀ ps : List Pkt, HeldBelow (ps.foldl mark (z, t.filled)).1.s := fun ps =>
    .foldl_of (fun p : Round × Nat => p.1.s) ps (fun _ _ h => .frame (Round.markAt_frame ..) rfl h) hz
  exact .frame (Round.setStream_frame ..) rfl (marked _)

theorem Round.piece_heldRes {x : Round} {u} (h : HeldBelow x.s) : Round.HeldRes (x.piece u) := by
  unfold Round.piece
  extract_lets done n off y
  have hy : HeldBelow y.s := h
  clear_value y
  split
  · exact Round.store_held hy
  · exact (Round.load_heldRes hy).bind fun _ _ => .frame (Round.fill_frame ..) rfl <| Round.mapStep_held hy
  · exact Round.intoSlice_held h

theorem Round.seGrant_heldRes {x : Round} {us} (h : HeldBelow x.s) : Round.HeldRes (x.seGrant us) := by
  unfold Round.seGrant
  split
  · exact h
  · exact Round.piece_heldRes h

theorem Round.readHead_heldRes {c k} {x : Round} (h : HeldBelow x.s) : Round.HeldRes (x.readHead c k) := by
  induction k generalizing x with
  | zero => exact h
  | succ k ih =>
    unfold Round.readHead
    extract_lets core q
    split
    · exact h
    · refine .ite h (.bind (post := fun _ => True)
        (.of (fun _ _ => trivial) fun _ e => State.sliceBlock_held_error e h) fun b _ => ?_)
      extract_lets s s1
      have hs : HeldBelow s1 := State.readyBlocks_held <| .frame (State.putBlock_frame ..) rfl h
      clear_value s1
      exact .ite hs (ih hs)

theorem Round.fillRope_heldRes {x : Round} {c f n off len} (h : HeldBelow x.s) :
    Round.HeldRes (x.fillRope c f n off len) := by
  unfold Round.fillRope
  extract_lets jp
  have hj : ∀ y : Round, HeldBelow y.s → Round.HeldRes (jp y) := fun y h => by
    simp only [jp]
    clear jp
    split
    · exact h
    · refine (Round.fillTile_heldRes (.ite_of Round.s (.frame (Round.queueFor_frame ..) rfl ?_) ?_)).bind fun z hz =>
        HeldBelow.ite_of Round.s hz (.frame (Round.takeBlock_frame ..) rfl hz)
      all_goals exact .ite_of Round.s (Round.mapStep_held h) h
  clear_value jp
  split
  · exact (Round.readHead_heldRes h).bind hj
  · exact hj _ h

/-! ### The actions of a round -/

/-- An action after which, as before it, nothing at a counter waits. -/
def Action.KeepsHeld (a : Action) : Prop := ∀ {x : Round}, HeldBelow x.s → Round.HeldRes (a.run x)

theorem Action.through_keepsHeld {t core c client : Nat} {go : Round → Part}
    (k : ∀ {x : Round}, HeldBelow x.s → Round.HeldRes (go x)) :
    Action.KeepsHeld { cycle := t, core := core, run := fun x => x.through c client go } :=
  fun h => Round.through_heldRes h (k h)

theorem mem_insertAction {a b : Action} {l : List Action} (hb : b ∈ insertAction a l) : b = a ∨ b ∈ l := by
  induction l with
  | nil => exact .inl (List.mem_singleton.mp hb)
  | cons c l ih =>
    unfold insertAction at hb
    split at hb
    · exact List.mem_cons.mp hb
    · rcases List.mem_cons.mp hb with rfl | hb
      · exact .inr List.mem_cons_self
      · exact (ih hb).imp_right (List.mem_cons_of_mem c)

theorem mem_foldl_insertAction {b : Action} {l acc : List Action} (hb : b ∈ l.foldl (fun l a => insertAction a l) acc) :
    b ∈ l ∨ b ∈ acc := by
  induction l generalizing acc with
  | nil => exact .inr hb
  | cons a l ih =>
    rcases ih hb with hb | hb
    · exact .inl (List.mem_cons_of_mem a hb)
    · exact (mem_insertAction hb).imp_left fun e => List.mem_cons.mpr (.inl e)

/-- Putting actions in order adds none. -/
theorem mem_of_mem_inOrder {b : Action} {l : List Action} (hb : b ∈ inOrder l) : b ∈ l :=
  (mem_foldl_insertAction hb).resolve_right List.not_mem_nil

theorem tileActions_keepsHeld {b sec c i f n at'} : ∀ a ∈ tileActions b sec c i f n at', a.KeepsHeld := by
  intro a ha
  simp only [tileActions, List.mem_append, List.mem_map, List.mem_singleton] at ha
  rcases ha with ((⟨k, _, rfl⟩ | rfl) | ⟨q, _, rfl⟩) | ⟨q, _, rfl⟩
  · intro x h
    dsimp only
    split
    · exact Round.fillRope_heldRes h
    · exact Round.through_heldRes h (Round.fillTile_heldRes h)
  · exact fun h => Round.setCore_held h
  · exact Action.through_keepsHeld Round.readRow_heldRes
  · exact Round.runRow_heldRes

theorem emitActions_keepsHeld {c i f j leave} : ∀ a ∈ emitActions c i f j leave, a.KeepsHeld := by
  intro a ha
  simp only [emitActions, List.mem_append, List.mem_flatMap, List.mem_cons] at ha
  rcases ha with ha | ⟨q, _, rfl | ha⟩
  · split at ha
    · obtain rfl := List.mem_singleton.mp ha
      exact Action.through_keepsHeld Round.readColumns_heldRes
    · cases ha
  · intro x h
    dsimp only
    split
    · exact Round.through_heldRes h (Round.emitRow_heldRes h)
    · exact Round.emitRow_heldRes h
  · split at ha
    · obtain rfl := List.mem_singleton.mp ha
      exact fun h => .frame (Round.leave_frame ..) rfl h
    · cases ha

theorem passActions_keepsHeld {b sec c i f n} : ∀ a ∈ passActions b sec c i f n, a.KeepsHeld := by
  intro a ha
  simp only [passActions, List.mem_cons, List.mem_flatMap, List.mem_append] at ha
  rcases ha with rfl | ⟨q, _, ⟨g, _, ha⟩ | ha⟩
  · exact fun h => Round.setCore_held h
  · exact tileActions_keepsHeld a ha
  · exact emitActions_keepsHeld a ha

theorem coreActions_keepsHeld {b sec c fs n} : ∀ a ∈ coreActions b sec c fs n, a.KeepsHeld := by
  induction fs generalizing n with
  | nil => exact fun _ h => nomatch h
  | cons f fs ih =>
    intro a h
    rcases List.mem_append.mp h with h | h
    · exact passActions_keepsHeld a h
    · exact ih a h

theorem State.headActions_keepsHeld {s : State} {core c n} : ∀ a ∈ s.headActions core c n, a.KeepsHeld := by
  intro a ha
  unfold State.headActions at ha
  split at ha
  · extract_lets m at ha
    clear_value m
    split at ha
    · obtain rfl := List.mem_singleton.mp ha
      exact Action.through_keepsHeld fun {x} h => Round.readHead_heldRes (x := { x with toRead := tset 0 x.toRead c m }) h
    · cases ha
  · cases ha

theorem Due.streamActions_keepsHeld {d : Due} {u : Use} : ∀ a ∈ d.streamActions u, a.KeepsHeld := by
  intro a ha
  unfold Due.streamActions at ha
  split at ha
  · obtain ⟨_, _, rfl⟩ := List.mem_map.mp ha
    exact fun h => .frame (Round.sendPiece_frame ..) rfl h
  · obtain rfl := List.mem_singleton.mp ha
    exact fun h => .frame (Round.takeIn_frame ..) rfl h
  · cases ha
  · obtain rfl := List.mem_singleton.mp ha
    exact Action.through_keepsHeld (go := .ok) fun h => h

theorem Due.seActions_keepsHeld {d : Due} {c sec us} : ∀ a ∈ d.seActions c sec us, a.KeepsHeld := by
  intro a ha
  unfold Due.seActions at ha
  extract_lets us n at ha
  split at ha
  · cases ha
  · obtain ⟨_, _, rfl⟩ := List.mem_map.mp ha
    exact Round.seGrant_heldRes

theorem Due.veActions_keepsHeld {d : Due} {c sec} : ∀ a ∈ d.veActions c sec, a.KeepsHeld := by
  intro a ha
  unfold Due.veActions at ha
  extract_lets es n at ha
  rcases List.mem_append.mp ha with ha | ha
  · obtain ⟨_, _, rfl⟩ := List.mem_map.mp ha
    exact Round.issue_heldRes
  · split at ha
    · cases ha
    · obtain ⟨t, _, ha⟩ := List.mem_flatMap.mp ha
      rcases List.mem_cons.mp ha with rfl | ha
      · exact Round.veGrant_heldRes
      · obtain rfl := List.mem_singleton.mp ha
        exact fun h => Round.setCore_held h

theorem Due.actions_keepsHeld {d : Due} {s : State} : ∀ a ∈ d.actions s, a.KeepsHeld := by
  intro a ha
  simp only [Due.actions, List.mem_append, List.mem_map, List.mem_flatMap] at ha
  rcases ha with ((⟨u, _, ha⟩ | ⟨c, _, ha⟩) | ⟨u, _, rfl⟩) | ⟨c, _, ((ha | ⟨t, _, rfl⟩) | ha) | ha⟩
  · exact Due.streamActions_keepsHeld a ha
  · exact Due.seActions_keepsHeld a ha
  · exact fun h => .frame (Round.release_frame ..) rfl h
  · exact State.headActions_keepsHeld a ha
  · exact fun h => .frame (Round.steer_frame ..) rfl h
  · exact Due.veActions_keepsHeld a ha
  · exact coreActions_keepsHeld a ha

theorem Due.meshActions_keepsHeld {d : Due} {ms} : ∀ a ∈ d.meshActions ms, a.KeepsHeld := by
  intro a ha
  simp only [Due.meshActions, List.mem_flatMap, List.mem_map] at ha
  obtain ⟨_, _, _, _, rfl⟩ := ha
  exact fun h => .frame (Round.meshIn_frame ..) rfl h

theorem runActions_heldRes {l : List Action} {n : Nat} {x : Round} (k : ∀ a ∈ l, a.KeepsHeld) (h : HeldBelow x.s) :
    HeldBelow.Res (fun y => HeldBelow y.1.s) (runActions l n x) := by
  induction l generalizing x n with
  | nil => exact h
  | cons a l ih =>
    obtain ⟨first, rest⟩ := List.forall_mem_cons.mp k
    refine (first (x := { x with cycle := a.cycle, idle := false }) h).bind fun _ h => ?_
    exact .ite h (ih rest (.ite_of Round.s h (.frame (State.advance_frame ..) rfl h)))

/-! ### The round -/

theorem Due.goOn_held {d : Due} {s w} (h : HeldBelow s) : HeldBelow (d.goOn s w) := by
  unfold Due.goOn
  extract_lets kd d0 acts wk x
  have keep : ∀ a ∈ acts, a.KeepsHeld := by
    intro a ha
    rcases List.mem_append.mp (mem_of_mem_inOrder (List.mem_of_mem_drop ha)) with ha | ha
    · exact Due.meshActions_keepsHeld a ha
    · exact Due.actions_keepsHeld a ha
  have hx : HeldBelow x.s := h
  have run := runActions_heldRes (n := w.at') keep hx
  clear_value acts x
  split
  next e => exact .frame (State.setCluster_frame ..) rfl (run.ok e)
  next e =>
    extract_lets kc y t
    have hy : HeldBelow y.s := .frame (State.setCluster_frame ..) rfl (run.ok e)
    have ht : HeldBelow t := .foldl_of Round.s _ (fun _ _ h => .frame (Due.emit_frame ..) rfl h) hy
    clear_value t
    split
    · exact .ite (Due.finish_held ht) ht
    · exact ht
  next e => exact run.error e

theorem Due.run_held {d : Due} {s tag} (h : HeldBelow s) : HeldBelow (d.run s tag) := by
  unfold Due.run
  extract_lets wanted s1 kd s2 x0 x1
  have h2 : HeldBelow s2 := .frame (State.setCluster_frame ..) rfl <| .frame (State.countFreeze_frame ..) rfl h
  have h0 : HeldBelow x0.s := h2
  have h1 : HeldBelow x1.s := .foldl_of Round.s _ (fun _ _ h => .frame (Due.consumeAll_frame ..) rfl h) h0
  exact Due.goOn_held h1

theorem Due.start_held {d : Due} {s} (h : HeldBelow s) : HeldBelow (d.start s) := by
  unfold Due.start
  split
  · exact Due.goOn_held <| .frame (State.countFreeze_frame ..) rfl h
  · refine .ite (Due.finish_held h) ?_
    split
    · exact State.routeFault_held h
    · refine .ite (.ite ?_ ?_) ?_
      · exact .frame (State.startWait_frame ..) rfl <| .frame (State.setCluster_frame ..) rfl h
      · exact .frame (State.endWait_frame ..) rfl <| .frame (State.setCluster_frame ..) rfl h
      · split
        · exact State.endStep_held h
        · split
          · exact Due.run_held h
          · exact h

end Sys2Proof.Machine
end

section
/-! SUPPORT. Nothing at a counter waits after a Cairn command, the end of a phase or of a step. -/

namespace Sys2Proof.Machine

theorem State.cairnFail_held {s c stop} (h : HeldBelow s) : HeldBelow (s.cairnFail c stop) := by
  unfold State.cairnFail
  split
  · exact .frame (State.complete_frame ..) rfl <| .frame (State.cbump_frame ..) rfl <| State.cairnOver_held h
  · exact .frame (State.complete_frame ..) rfl <| .frame (State.noteMiss_frame ..) rfl <| State.cairnOver_held h
  · exact .frame (State.complete_frame ..) rfl <| .frame (State.noteDamage_frame ..) rfl <| State.cairnOver_held h
  · exact .frame (State.complete_frame ..) rfl <| State.cairnOver_held h
  · exact .frame (State.stage_frame ..) rfl h
  · dsimp only
    split
    · exact .frame (State.complete_frame ..) rfl <| .frame (State.noteMiss_frame ..) rfl <| State.cairnOver_held <|
        .frame (State.stage_frame ..) rfl <| State.ask_held h
    · exact .frame (State.stage_frame ..) rfl <| State.ask_held h

theorem State.lookupEnd_held {s c y q} (h : HeldBelow s) : HeldBelow (s.lookupEnd c y q) := by
  unfold State.lookupEnd
  dsimp only
  refine .ite ?_ ?_
  · split
    · exact .frame (State.stage_frame ..) rfl <| State.flushPorts_held <| .links <| State.cairnOver_held <|
        .of_fst (by assumption) <| State.remoteWrite_held h
    · exact State.cairnFail_held <| .of_fst (by assumption) <| State.remoteWrite_held h
  · split
    · exact State.cairnFail_held h
    · exact .frame (State.complete_frame ..) rfl <| .frame (State.countLookup_frame ..) rfl <| State.cairnOver_held <|
        .frame (State.cwrite_frame_ok (by assumption)) rfl h

theorem State.lookup_held {s c t ks} (h : HeldBelow s) : HeldBelow (s.lookup c t ks) := by
  unfold State.lookup
  split
  dsimp only
  split
  · exact State.cairnFail_held <| .frame (State.noteMet_frame ..) rfl h
  · split
    · exact State.cairnFail_held <| .frame (State.touch_frame_ok (by assumption)) rfl <| .frame (State.noteMet_frame ..) rfl h
    · exact State.lookupEnd_held <| .frame (State.touch_frame_ok (by assumption)) rfl <| .frame (State.noteMet_frame ..) rfl h

theorem State.cairnRun_held {s c go} (k : ∀ t, HeldBelow t → HeldBelow (go t)) (h : HeldBelow s) :
    HeldBelow (s.cairnRun c go) := by
  unfold State.cairnRun
  have arrived : HeldBelow (s.cairnArrive c.id c.ctx (c.at 8 8)) := .frame (State.cairnArrive_frame ..) rfl h
  exact .ite h (.ite (k _ arrived) (.frame (State.stage_frame ..) rfl arrived))

theorem State.prefixLookup_held {s c} (h : HeldBelow s) : HeldBelow (s.prefixLookup c) := by
  unfold State.prefixLookup
  refine State.cairnRun_held (fun t h => ?_) h
  dsimp only
  split
  · exact State.cairnFail_held <| .frame (State.cairnSeen_frame ..) rfl h
  · exact State.lookup_held <| .frame (State.cairnSeen_frame ..) rfl h

theorem execPrefixLookup_held {cmd s} {u : State} (e : execPrefixLookup cmd s = .next u) (h : HeldBelow s) :
    HeldBelow u := by
  cases e
  split
  · exact h
  · exact State.prefixLookup_held h

theorem State.insertFor_held {s c hd kps} (h : HeldBelow s) : HeldBelow (s.insertFor c hd kps) := by
  unfold State.insertFor
  have run := s.insert_run hd kps none
  split
  · exact State.cairnFail_held <| .frame (State.noteMet_frame ..) rfl h
  next e =>
    rw [e] at run
    exact .frame (State.complete_frame ..) rfl <| .frame (State.cbump_frame ..) rfl <| State.cairnOver_held <|
      .frame (State.moveLinks_frame ..) rfl <| .frame (State.noteMet_frame ..) rfl <| .frame run rfl h

theorem State.prefixInsert_held {s c} (h : HeldBelow s) : HeldBelow (s.prefixInsert c) := by
  unfold State.prefixInsert
  refine State.cairnRun_held (fun t h => ?_) h
  dsimp only
  split
  · exact State.cairnFail_held <| .frame (State.accessed_frame ..) rfl <| .frame (State.cairnSeen_frame ..) rfl h
  · exact State.insertFor_held <| .frame (State.accessed_frame ..) rfl <| .frame (State.cairnSeen_frame ..) rfl h

theorem execPrefixInsert_held {cmd s} {u : State} (e : execPrefixInsert cmd s = .next u) (h : HeldBelow s) :
    HeldBelow u := by
  cases e
  split
  · exact h
  · exact State.prefixInsert_held h

theorem State.cairnGoOn_held {s cmd} (h : HeldBelow s) : HeldBelow (s.cairnGoOn cmd) := by
  unfold State.cairnGoOn
  split
  · exact .ite (State.prefixLookup_held h) (.ite (State.prefixInsert_held h) h)
  · exact h

theorem State.writeNodes_heldRes {s p ws old} (h : HeldBelow s) :
    HeldBelow.Res (fun y => HeldBelow y.1) (s.writeNodes p ws old) := by
  induction ws generalizing s old with
  | nil => exact h
  | cons w ws ih =>
    unfold State.writeNodes
    split
    · refine .ite (ih h) ?_
      split
      next e => exact ih <| State.stepWrite_held_ok e h
      next e => exact State.stepWrite_held_error e h
    · exact ih h

theorem State.keepLog_held {s p l} (h : HeldBelow s) : HeldBelow (s.keepLog p l).1 := by
  unfold State.keepLog
  extract_lets root noted t
  have ht : HeldBelow t := State.cairnOver_held <| .same <| .frame (State.noteMet_frame ..) rfl h
  clear_value t
  have written := State.writeNodes_heldRes (p := p) (ws := l.x.nodes) (old := []) ht
  split
  next e => exact written.error e
  next e =>
    split
    · exact written.ok e
    · exact .frame (State.setStep_frame ..) rfl <| written.ok e

theorem State.prepareStep_held {s p} (h : HeldBelow s) : HeldBelow (s.prepareStep p).1 := by
  unfold State.prepareStep
  extract_lets s1 s2
  have h1 : HeldBelow s1 := .frame (State.logSeen_frame ..) rfl h
  have h2 : HeldBelow s2 := by
    simp only [s2]
    clear s2
    cases s1.logTree p with
    | none => exact h1
    | some v => exact .frame (State.cairnArrive_frame ..) rfl h1
  clear_value s2
  refine .ite_of Prod.fst h2 ?_
  split
  · exact State.keepLog_held h2
  next f ds _ =>
    extract_lets s3
    have h3 : HeldBelow s3 := .frame (State.noteMet_frame ..) rfl h2
    have h4 : HeldBelow (s3.cairnOver p.cmd) := State.cairnOver_held h3
    clear_value s3
    split
    · exact State.endStep_held h4
    · exact State.stepMiss_held h4
    · exact State.stepDamage_held h4
    · exact State.endStep_held h4
    · exact h3
    · extract_lets s5
      have h5 : HeldBelow s5 := State.ask_held h3
      clear_value s5
      split
      · exact State.stepMiss_held <| State.cairnOver_held h5
      · exact h5

theorem State.search_held {s p core suspects} (h : HeldBelow s) : HeldBelow (s.search p core suspects) := by
  unfold State.search
  dsimp only
  split
  · exact .whenNot (fun h => State.engineReset_held h) <| State.beginHang_held <| .frame (State.snapshot_frame ..) rfl h
  · exact .frame (State.snapshot_frame ..) rfl h

theorem State.searches_held {s n} (h : HeldBelow s) : HeldBelow (s.searches n) := by
  induction n generalizing s with
  | zero => exact h
  | succ n ih =>
    unfold State.searches
    split
    · dsimp only
      split
      · exact ih <| State.search_held <| .same h
      · exact ih <| .same h
    · exact h

theorem State.nextSearch_held {s} (h : HeldBelow s) : HeldBelow s.nextSearch := by
  unfold State.nextSearch
  exact State.searches_held h

theorem State.commit_held {s p} (h : HeldBelow s) : HeldBelow (s.commit p) := by
  unfold State.commit
  dsimp only
  refine State.nextSearch_held ?_
  refine State.afterStep_held ?_
  refine .frame (State.setLoop_frame ..) rfl ?_
  split
  · exact .frame (State.complete_frame ..) rfl <| .frame (State.dropStep_frame ..) rfl <| State.endHalts_held <|
      .frame (State.charge_frame ..) rfl <| .frame (State.noteWork_frame ..) rfl <| .frame (State.settleTimes_frame ..) rfl <|
      .frame (State.settleCounts_frame ..) rfl <| .foldl _ (fun _ _ h => .frame (State.applySignal_frame ..) rfl h) <|
      .frame (State.setLoop_frame ..) rfl <| .frame (State.applyLog_frame ..) rfl <|
      .frame (State.defineOutputs_frame ..) rfl <| .frame (State.setStep_frame ..) rfl h
  · exact .frame (State.dropStep_frame ..) rfl <| State.endHalts_held <| .frame (State.charge_frame ..) rfl <|
      .frame (State.noteWork_frame ..) rfl <| .frame (State.settleTimes_frame ..) rfl <|
      .frame (State.settleCounts_frame ..) rfl <| .foldl _ (fun _ _ h => .frame (State.applySignal_frame ..) rfl h) <|
      .frame (State.setLoop_frame ..) rfl <| .frame (State.applyLog_frame ..) rfl <|
      .frame (State.defineOutputs_frame ..) rfl <| .frame (State.setStep_frame ..) rfl h

theorem execPhaseEnd_held {cmd t s} {u : State} (e : execPhaseEnd cmd t s = .next u) (h : HeldBelow s) : HeldBelow u := by
  cases e
  split
  · refine .ite ?_ h
    dsimp only
    split
    · exact .whenNot (fun h => .frame (State.rappel_frame ..) rfl h) <| State.triggerExchanges_held <|
        .frame (State.at_frame ..) rfl h
    · exact State.triggerExchanges_held <| .frame (State.at_frame ..) rfl h
  · exact h

theorem State.disagree_held {s p status} (h : HeldBelow s) : HeldBelow (s.disagree p status) := by
  unfold State.disagree
  exact State.endStep_held <| .frame (State.setStep_frame ..) rfl <| .ite_of Prod.snd h (.frame (State.fresh_frame ..) rfl h)

theorem State.endPhaseOne_held {s p} (h : HeldBelow s) : HeldBelow (s.endPhaseOne p) := by
  unfold State.endPhaseOne
  refine .ite (State.commit_held h) ?_
  split
  · exact State.disagree_held h
  · exact .frame (State.setStep_frame ..) rfl <| State.groupCast_held h

theorem State.sendRecord_heldRes {s p} (h : HeldBelow s) : HeldBelow.Res (fun x => HeldBelow x.1) (s.sendRecord p) := by
  unfold State.sendRecord
  refine .ite ?_ h
  dsimp only
  split
  next e => exact .frame (State.setStep_frame ..) rfl <| .of_fst e <| State.remoteWrite_held h
  next e => exact State.stepMiss_held <| .of_fst e <| State.remoteWrite_held h

theorem State.finishWrites_held {s p} (h : HeldBelow s) : HeldBelow (s.finishWrites p) := by
  unfold State.finishWrites
  refine .ite (State.stepMiss_held h) (.ite (State.flushPorts_held <| .frame (State.setStep_frame ..) rfl h) ?_)
  extract_lets written
  have hw : HeldBelow.Res HeldBelow written := .ite (State.stepWrite_heldRes h) h
  clear_value written
  split
  · exact hw
  · split
    next e => exact .of_fst e <| State.prepareStep_held hw
    next e =>
      have prepared := HeldBelow.of_fst e (State.prepareStep_held hw)
      split
      · exact State.endPhaseOne_held prepared
      · exact prepared

theorem State.executionEnd_held {s p} (h : HeldBelow s) : HeldBelow (s.executionEnd p) := by
  unfold State.executionEnd
  extract_lets s1
  have h1 : HeldBelow s1 := .ite h (State.triggerExchanges_held <| .frame (State.setStep_frame ..) rfl h)
  clear_value s1
  split
  · exact h1
  · refine .ite h1 ?_
    split
    next e => exact (State.sendRecord_heldRes h1).error e
    next e => exact State.finishWrites_held <| (State.sendRecord_heldRes h1).ok e

theorem execStepExecutionEnd_held {cmd t s} {u : State} (e : execStepExecutionEnd cmd t s = .next u) (h : HeldBelow s) :
    HeldBelow u := by
  cases e
  split
  · exact .ite (State.executionEnd_held <| .frame (State.at_frame ..) rfl h) h
  · exact h

theorem State.abandonRequests_held {s r} (h : HeldBelow s) : HeldBelow (s.abandonRequests r) := by
  unfold State.abandonRequests
  exact .links h

theorem execRappelQuiescence_held {footprint t unclear s} {u : State}
    (e : execRappelQuiescence footprint t unclear s = .next u) (h : HeldBelow s) : HeldBelow u := by
  cases e
  split
  · exact .ite h State.serveHeld_held
  · exact h

theorem execStepLaunch_held {cmd t s} {u : State} (e : execStepLaunch cmd t s = .next u) (h : HeldBelow s) : HeldBelow u := by
  cases e
  split
  · dsimp only
    exact .ite
        (State.nextSearch_held <| State.launch_held <| .frame (State.stage_frame ..) rfl <| .frame (State.at_frame ..) rfl h)
        h
  · exact h

theorem execVfFunctionLevelReset_held {c t s} {u : State} (e : execVfFunctionLevelReset c t s = .next u) (h : HeldBelow s) :
    HeldBelow u := by
  cases e
  exact .ite
      (State.nextSearch_held <| .frame (State.resetFunction_frame ..) rfl <| State.startReset_held <|
        .frame (State.at_frame ..) rfl h)
      h

theorem State.guilty_held {s hd p} (h : HeldBelow s) : HeldBelow (s.guilty hd p) := by
  unfold State.guilty
  dsimp only
  exact State.nextExchanges_held <| State.nextSearch_held <| State.startReset_held <| .frame (State.event_frame ..) rfl <|
    .frame (State.cbump_frame ..) rfl <| .ite
      (State.failEnd_held <| .frame (State.releaseSuspects_frame ..) rfl <| State.sendAbort_held h)
      (State.failEnd_held <| .frame (State.releaseSuspects_frame ..) rfl <| State.sendAbort_held h)

theorem State.stall_held {s p core awaited} (h : HeldBelow s) : HeldBelow (s.stall p core awaited) := by
  unfold State.stall
  split
  · exact .ite
        (State.guilty_held h)
        (.ite
            (State.replayStep_held <| .frame (State.setStep_frame ..) rfl h)
            (.frame (State.failStep_frame ..) rfl <| State.sendAbort_held <| .frame (State.hold_frame ..) rfl <| .same h))
  · exact .ite (State.replayStep_held <| .frame (State.setStep_frame ..) rfl h) (State.search_held h)

theorem execStepStalled_held {cmd t core awaited s} {u : State}
    (e : execStepStalled cmd t core awaited s = .next u) (h : HeldBelow s) : HeldBelow u := by
  cases e
  split
  · exact .ite (State.stall_held <| .frame (State.at_frame ..) rfl h) h
  · exact h

end Sys2Proof.Machine
end

section
/-! SUPPORT. Nothing at a counter waits after an unmap, a memory error, a COPY or a fetch. -/

namespace Sys2Proof.Machine

theorem State.writeNmMap_held {s vrn ctx prn v w} (h : HeldBelow s) : HeldBelow (s.writeNmMap vrn ctx prn v w) := by
  unfold State.writeNmMap
  refine .ite h ?_
  dsimp only
  refine .ite ?_ ?_
  · split
    · exact .same h
    · split
      · exact .same <| .frame (State.setMap_frame ..) rfl h
      · exact .ite (.same h) (.same <| State.beginConfirm_held <| .same <| .frame (State.clearMap_frame ..) rfl h)
  · refine .ite (.same h) ?_
    split
    · exact .same h
    · exact .same <| State.beginConfirm_held <| .same <| .frame (State.clearMap_frame ..) rfl h

theorem execNmMapMap_held {vrn ctx prn w s} {u : State} (e : execNmMapMap vrn ctx prn w s = .next u) (h : HeldBelow s) :
    HeldBelow u := by
  cases e
  exact State.ifHost_held_k (fun _ => State.writeNmMap_held) h

theorem execNmMapUnmap_held {vrn ctx prn w s} {u : State} (e : execNmMapUnmap vrn ctx prn w s = .next u) (h : HeldBelow s) :
    HeldBelow u := by
  cases e
  exact State.ifHost_held_k (fun _ => State.writeNmMap_held) h

theorem State.unmapQuiesced_held {s} (h : HeldBelow s) : HeldBelow s.unmapQuiesced := by
  unfold State.unmapQuiesced
  split
  · exact h
  · dsimp only
    refine .ite ?_ ?_
    · refine .frame (State.dropBivouac_frame ..) rfl ?_
      split
      · exact .frame (State.setMap_frame ..) rfl <| .frame (State.setRegion_frame ..) rfl <| .same <| State.endConfirm_held h
      · exact .frame (State.setRegion_frame ..) rfl <| .same <| State.endConfirm_held h
    · refine .frame (State.setRegion_frame ..) rfl ?_
      refine .frame (State.dropBivouac_frame ..) rfl ?_
      split
      · exact .frame (State.setMap_frame ..) rfl <| .frame (State.setRegion_frame ..) rfl <| .same <| State.endConfirm_held h
      · exact .frame (State.setRegion_frame ..) rfl <| .same <| State.endConfirm_held h

theorem execUnmapQuiesced_held {s} {u : State} (e : execUnmapQuiesced s = .next u) (h : HeldBelow s) : HeldBelow u := by
  cases e
  exact .ite (State.unmapQuiesced_held h) h

theorem State.coreFails_held {s core old} (h : HeldBelow s) : HeldBelow (s.coreFails core old) := by
  unfold State.coreFails
  dsimp only
  split
  · exact State.isolate_held h
  · refine .ite (State.isolate_held h) ?_
    split
    · exact State.replayStep_held <| .frame (State.event_frame ..) rfl <| .frame (State.endRotation_frame ..) rfl <|
        .frame (State.replaceCore_frame ..) rfl h
    · exact .frame (State.freshCore_frame ..) rfl <| .frame (State.event_frame ..) rfl <|
        .frame (State.endRotation_frame ..) rfl <| .frame (State.replaceCore_frame ..) rfl h

theorem execCoreError_held {core t s} {u : State} (e : execCoreError core t s = .next u) (h : HeldBelow s) : HeldBelow u := by
  cases e
  split
  · exact .ite h
        (.ite
            (State.startRecovery_held <| .frame (State.at_frame ..) rfl h)
            (.ite (State.coreFails_held <| .frame (State.at_frame ..) rfl h) h))
  · exact h

theorem State.damagedStep_held {s p va} (h : HeldBelow s) : HeldBelow (s.damagedStep p va) := by
  unfold State.damagedStep
  exact .ite h (.frame (State.failStep_frame ..) rfl <| .ite (State.sendAbort_held h) h)

theorem State.stepNearDamage_held {s p a} (h : HeldBelow s) : HeldBelow (s.stepNearDamage p a) := by
  unfold State.stepNearDamage
  refine .ite (State.replayStep_held <| .frame (State.cbump_frame ..) rfl h) ?_
  split
  · exact State.damagedStep_held <| .frame (Frame.of_snd (State.damageVa_frame ..) (by assumption)) rfl <|
      .frame (State.cbump_frame ..) rfl h

theorem State.nearReader_held {s prn line reader} (h : HeldBelow s) : HeldBelow (s.nearReader prn line reader) := by
  unfold State.nearReader
  split
  · split
    · exact .ite (State.stepNearDamage_held h) h
    · exact h
  · exact .frame (State.cbump_frame ..) rfl h
  · exact h
  · exact h

theorem execNearUncorrectable_held {prn line reader t s} {u : State}
    (e : execNearUncorrectable prn line reader t s = .next u) (h : HeldBelow s) : HeldBelow u := by
  cases e
  dsimp only
  refine .ite h ?_
  split
  · exact .frame (State.nearBad_frame ..) rfl <| .frame (State.at_frame ..) rfl h
  · exact State.nearReader_held <| .frame (State.nearPoisonLine_frame ..) rfl <| .frame (State.at_frame ..) rfl h
  · exact .frame (State.lineRead_frame ..) rfl <| .frame (State.at_frame ..) rfl h

theorem State.stepBulkDamage_held {s p bpa} (h : HeldBelow s) : HeldBelow (s.stepBulkDamage p bpa) := by
  unfold State.stepBulkDamage
  dsimp only
  refine .ite (State.replayStep_held <| .frame (State.cbump_frame ..) rfl h) ?_
  split
  · exact State.damagedStep_held <| .frame (State.cbump_frame ..) rfl h
  · exact State.damagedStep_held <| .frame (State.fresh_frame ..) rfl <| .frame (State.cbump_frame ..) rfl h

theorem State.lineDamaged_held {s bpa reader} (h : HeldBelow s) : HeldBelow (s.lineDamaged bpa reader) := by
  unfold State.lineDamaged
  split
  · split
    · exact .ite (State.stepBulkDamage_held h) h
    · exact h
  · exact .frame (State.cbump_frame ..) rfl h
  · exact h
  · exact h

theorem State.meshDamaged_held {s reader} (h : HeldBelow s) : HeldBelow (s.meshDamaged reader) := by
  unfold State.meshDamaged
  split
  · split
    · exact .ite (State.replayStep_held h) h
    · exact h
  · exact h

theorem execBulkUncorrectable_held {bpa access t s} {u : State}
    (e : execBulkUncorrectable bpa access t s = .next u) (h : HeldBelow s) : HeldBelow u := by
  cases e
  dsimp only
  refine .ite h ?_
  split
  · exact State.lineDamaged_held <| .frame (State.bulkShows_frame ..) rfl <| .frame (State.at_frame ..) rfl h
  · exact State.meshDamaged_held <| .frame (State.bulkShows_frame ..) rfl <| .frame (State.at_frame ..) rfl h
  · exact .frame (State.bulkShows_frame ..) rfl <| .frame (State.at_frame ..) rfl h

theorem execBridgeFlitError_held {edge dir resends cmd t s} {u : State}
    (e : execBridgeFlitError edge dir resends cmd t s = .next u) (h : HeldBelow s) : HeldBelow u := by
  cases e
  dsimp only
  refine .ite h ?_
  refine .ite (.frame (State.dbump_frame ..) rfl <| .frame (State.at_frame ..) rfl h) ?_
  split
  · exact State.replayStep_held <| .frame (State.dbump_frame ..) rfl <| .frame (State.at_frame ..) rfl h
  · exact .when (fun h => State.startRecovery_held h) <| .frame (State.dbump_frame ..) rfl <| .frame (State.at_frame ..) rfl h

theorem State.stopService_held {s} (h : HeldBelow s) : HeldBelow s.stopService := by
  unfold State.stopService
  refine .foldl _ (fun _ _ h => ?_) h
  dsimp only
  refine .ite h ?_
  split
  · exact State.failEnd_held h
  · exact .frame (State.completeOn_frame ..) rfl h

theorem State.writeInstallMode_held {s v} (h : HeldBelow s) : HeldBelow (s.writeInstallMode v).1 := by
  unfold State.writeInstallMode
  refine .ite_of Prod.fst h ?_
  refine .ite_of Prod.fst ?_ ?_
  · dsimp only
    exact .frame (State.leaveInstall_frame ..) rfl h
  · dsimp only
    exact .when (fun h => State.nextSearch_held <| State.stopService_held <| .frame (State.dset_frame ..) rfl h) <|
      .frame (State.dset_frame ..) rfl h

theorem State.sendParts_held {s c dst bs ps} (h : HeldBelow s) : HeldBelow (s.sendParts c dst bs ps).1 := by
  induction ps generalizing s with
  | nil => exact h
  | cons p ps ih =>
    unfold State.sendParts
    dsimp only
    exact .ite_of Prod.fst (ih <| State.remoteWrite_held h) (State.remoteWrite_held h)

theorem State.putBytes_held {s c parts failed} (h : HeldBelow s) : HeldBelow (s.putBytes c parts failed).1 := by
  unfold State.putBytes
  dsimp only
  split
  · dsimp only
    split
    · dsimp only
      exact .frame (Frame.of_fst (State.writeFrom_frame ..) (by assumption)) rfl <| .frame (State.pathEvents_frame ..) rfl <|
        .ite_of Prod.snd
          (.frame (State.freeBytes_frame ..) rfl h)
          h
    · dsimp only
      exact State.sendParts_held <| .frame (Frame.of_fst (State.writeFrom_frame ..) (by assumption)) rfl <|
        .frame (State.pathEvents_frame ..) rfl <| .ite_of Prod.snd (.frame (State.freeBytes_frame ..) rfl h) h
  · dsimp only
    refine .frame (State.undefinedTail_frame ..) rfl ?_
    split
    · dsimp only
      exact .frame (Frame.of_fst (State.writeFrom_frame ..) (by assumption)) rfl <| .frame (State.pathEvents_frame ..) rfl <|
        .ite_of Prod.snd
          (.frame (State.freeBytes_frame ..) rfl h)
          h
    · dsimp only
      exact State.sendParts_held <| .frame (Frame.of_fst (State.writeFrom_frame ..) (by assumption)) rfl <|
        .frame (State.pathEvents_frame ..) rfl <| .ite_of Prod.snd (.frame (State.freeBytes_frame ..) rfl h) h

theorem State.copyOut_held {s c k} (h : HeldBelow s) : HeldBelow (s.copyOut c k) := by
  unfold State.copyOut
  dsimp only
  exact .ite
      (.frame (State.endCopy_frame ..) rfl <| .frame (State.putStore_frame ..) rfl <| .frame (State.pathEvents_frame ..) rfl <|
        .frame (State.accessed_frame ..) rfl h)
      (.ite
          (.frame (State.endCopy_frame ..) rfl <| State.putBytes_held <| .frame (State.pathEvents_frame ..) rfl <|
            .frame (State.accessed_frame ..) rfl h)
          (State.flushPorts_held <| .frame (State.setCopy_frame ..) rfl <| State.putBytes_held <|
            .frame (State.pathEvents_frame ..) rfl <| .frame (State.accessed_frame ..) rfl h))

theorem State.copyGoesOn_held {s id} (h : HeldBelow s) : HeldBelow (s.copyGoesOn id) := by
  unfold State.copyGoesOn
  split
  · refine .ite h ?_
    split
    · exact .ite h (State.copyOut_held h)
    · exact .frame (State.endCopy_frame ..) rfl h
  · exact h

theorem State.askParts_held {s c id src ps} (h : HeldBelow s) : HeldBelow (s.askParts c id src ps).1 := by
  induction ps generalizing s with
  | nil => exact h
  | cons p ps ih =>
    unfold State.askParts
    dsimp only
    exact .ite_of Prod.fst (ih <| State.remoteRead_held h) (State.remoteRead_held h)

theorem State.beginCopy_held {s c} (h : HeldBelow s) : HeldBelow (s.beginCopy c) := by
  unfold State.beginCopy
  split
  dsimp only
  exact State.copyGoesOn_held <| .frame (State.stage_frame ..) rfl <| .same <| .of_fst (by assumption) <| State.askParts_held h

theorem execCopy_held {cmd s} {u : State} (e : execCopy cmd s = .next u) (h : HeldBelow s) : HeldBelow u := by
  cases e
  split
  · exact State.copyGoesOn_held h
  · exact .ite (.frame (State.complete_frame ..) rfl <| .frame (State.fresh_frame ..) rfl h)
      (State.underGrant_held (fun _ => State.beginCopy_held) h)

theorem State.streamReadFailed_held {s key pos m} (h : HeldBelow s) : HeldBelow (s.streamReadFailed key pos m) := by
  unfold State.streamReadFailed
  split
  · exact h
  · split
    · exact State.haltStream_held h
    · exact .ite h (.frame (State.setStream_frame ..) rfl h)

theorem State.dropRopeReads_held {s key part} (h : HeldBelow s) : HeldBelow (s.dropRopeReads key part) := by
  unfold State.dropRopeReads
  dsimp only
  exact .links h

theorem State.ropeReadFailed_held {s key part pos m} (h : HeldBelow s) : HeldBelow (s.ropeReadFailed key part pos m) := by
  unfold State.ropeReadFailed
  split
  · exact h
  · dsimp only
    split
    · exact State.haltStream_held h
    · exact .ite
          (.frame (State.setStream_frame ..) rfl <| State.dropRopeReads_held h)
          (.ite h (.frame (State.setStream_frame ..) rfl h))

theorem State.streamFlushed_held {s key bad} (h : HeldBelow s) : HeldBelow (s.streamFlushed key bad) := by
  unfold State.streamFlushed
  split
  · exact h
  · dsimp only
    refine .ite (.frame (State.setStream_frame ..) rfl h) ?_
    split
    · exact .frame (State.setStream_frame ..) rfl <| .frame (State.wrote_frame ..) rfl h
    · exact .whenNot (fun h => State.haltStream_held h) <| .frame (State.setStream_frame ..) rfl <|
        .frame (State.wrote_frame ..) rfl h

theorem State.setFetch_held {s cmd va f} (h : HeldBelow s) : HeldBelow (s.setFetch cmd va f) := by
  unfold State.setFetch
  dsimp only
  exact .links h

theorem State.fetchFailed_held {s cmd va pos kind} (h : HeldBelow s) : HeldBelow (s.fetchFailed cmd va pos kind) := by
  unfold State.fetchFailed
  exact State.setFetch_held h

theorem State.fetchGoesOn_held {s cmd va} (h : HeldBelow s) : HeldBelow (s.fetchGoesOn cmd va) := by
  unfold State.fetchGoesOn
  exact .ite (State.cairnGoOn_held h) h

theorem State.endAnswered_held {s cmd bad} (h : HeldBelow s) : HeldBelow (s.endAnswered cmd bad) := by
  unfold State.endAnswered
  dsimp only
  split
  · exact .whenNot
          (fun h => .frame (State.complete_frame ..) rfl <| .when (fun h => .frame (State.countLookup_frame ..) rfl h) h) <|
      .links h
  · exact .links h

end Sys2Proof.Machine
end

section
/-! SUPPORT. Nothing at a counter waits after the packets and the states of a port. -/

namespace Sys2Proof.Machine

theorem State.requestFailed_held {s r kind addr} (h : HeldBelow s) : HeldBelow (s.requestFailed r kind addr) := by
  unfold State.requestFailed
  extract_lets s1 m fails
  have h1 : HeldBelow s1 := .frame (State.cbump_frame ..) rfl <| State.dropRequest_held h
  have failed : ∀ cmd, HeldBelow (fails cmd) := fun cmd => by
    simp only [fails]
    split
    · exact State.stepMiss_held h1
    · exact h1
  clear_value s1 fails
  split
  · split
    · exact State.copyGoesOn_held <| .frame (State.setCopy_frame ..) rfl h1
    · exact h1
  · split
    · exact State.copyGoesOn_held <| .frame (State.setCopy_frame ..) rfl h1
    · exact h1
  · exact State.streamReadFailed_held h1
  · exact State.ropeReadFailed_held h1
  · exact State.streamFlushed_held h1
  · split
    · exact failed _
    · exact h1
  · split
    · exact failed _
    · exact h1
  · exact failed _
  · exact h1
  · exact State.fetchGoesOn_held <| State.fetchFailed_held h1
  · exact State.endAnswered_held h1

theorem State.flushAnswered_held {s r} (h : HeldBelow s) : HeldBelow (s.flushAnswered r) := by
  unfold State.flushAnswered
  dsimp only
  split
  · split
    · exact State.copyGoesOn_held <| .frame (State.setCopy_frame ..) rfl <| State.dropRequest_held h
    · exact State.dropRequest_held h
  · exact State.streamFlushed_held <| State.dropRequest_held h
  · exact State.endAnswered_held <| State.dropRequest_held h
  · exact State.dropRequest_held h

theorem State.enterExchange_held {s port} (h : HeldBelow s) : HeldBelow (s.enterExchange port) := by
  unfold State.enterExchange
  exact State.setPort_held h

theorem State.requestOn_held {s tag port} (h : HeldBelow s) : HeldBelow (s.requestOn tag port) := by
  unfold State.requestOn
  exact .links h

theorem State.releaseFlush_held {s k r ports} (h : HeldBelow s) : HeldBelow (s.releaseFlush k r ports) := by
  unfold State.releaseFlush
  split
  · exact State.requestFailed_held h
  · dsimp only
    exact .foldl _ (fun _ _ h => State.queuePacket_held <| State.request_held <| State.moreFlushes_held h) <|
      State.queuePacket_held <| State.requestOn_held h

theorem State.releasePacket_held {s k} (h : HeldBelow s) : HeldBelow (s.releasePacket k) := by
  unfold State.releasePacket
  dsimp only
  refine .ite (State.sendControl_held h) ?_
  refine .ite ?_ ?_
  · split
    · exact State.releaseFlush_held h
    · exact h
  · split
    · exact .ite (State.queuePacket_held <| State.requestOn_held h) (State.queuePacket_held h)
    · exact .ite h (State.queuePacket_held h)
    · exact .ite (State.requestFailed_held h) (.frame (State.cbump_frame ..) rfl h)
    · exact .ite h (.frame (State.cbump_frame ..) rfl h)

theorem State.takePartition_held {s port} (h : HeldBelow s) : HeldBelow (s.takePartition port) := by
  unfold State.takePartition
  exact .when (fun h => State.enterExchange_held h) <| State.setPort_held <| .frame (State.dset_frame ..) rfl h

theorem State.settleBorder_held {s} (h : HeldBelow s) : HeldBelow s.settleBorder := by
  unfold State.settleBorder
  dsimp only
  exact .when
        (fun h => .frame (State.event_frame ..) rfl <| .frame (State.dset_frame ..) rfl <|
          .foldl _ (fun _ _ => State.releasePacket_held) <| .links h) <|
    .ite
      (.frame (State.settleSlice_frame ..) rfl <| .frame (State.dset_frame ..) rfl <|
        .foldl _ (fun _ _ => State.takePartition_held) h)
      h

theorem State.linkLost_held {s port st} (h : HeldBelow s) : HeldBelow (s.linkLost port st) := by
  unfold State.linkLost
  dsimp only
  exact State.settleBorder_held <| .links <| .foldl _ (fun _ _ h => .ite (State.requestFailed_held h) h) <|
    .foldl _ (fun _ _ => State.replayStep_held) <| .frame (State.settleSlice_frame ..) rfl <| State.setPort_held h

theorem State.portTo_held {s port st} (h : HeldBelow s) : HeldBelow (s.portTo port st) := by
  unfold State.portTo
  exact State.setPort_held h

theorem State.portUp_held {s port} (h : HeldBelow s) : HeldBelow (s.portUp port) := by
  unfold State.portUp
  exact .ite
      (.frame (State.setDomain_frame ..) rfl <| State.setPort_held h)
      (.frame (State.setDomain_frame ..) rfl <| State.setPort_held h)

theorem State.writePortEnable_held {s port v} (h : HeldBelow s) : HeldBelow (s.writePortEnable port v) := by
  unfold State.writePortEnable
  dsimp only
  exact .ite
      (.whenNot (fun h => .frame (State.setDomain_frame ..) rfl <| State.linkLost_held h) <| .frame (State.dset_frame ..) rfl h)
      (.when (fun h => State.portUp_held h) <| .frame (State.dset_frame ..) rfl h)

theorem State.portMove_held {s port src dst} (h : HeldBelow s) : HeldBelow (s.portMove port src dst) := by
  unfold State.portMove
  exact .ite (State.portTo_held h) h

theorem execPortSignalDetect_held {port s} {u : State} (e : execPortSignalDetect port s = .next u) (h : HeldBelow s) :
    HeldBelow u := by
  cases e
  exact State.portMove_held h

theorem execPortTrainDone_held {port s} {u : State} (e : execPortTrainDone port s = .next u) (h : HeldBelow s) :
    HeldBelow u := by
  cases e
  exact State.portMove_held h

theorem execPortAlignDone_held {port s} {u : State} (e : execPortAlignDone port s = .next u) (h : HeldBelow s) :
    HeldBelow u := by
  cases e
  exact .ite (State.enterExchange_held h) h

theorem execPortStateTimeout_held {port s} {u : State} (e : execPortStateTimeout port s = .next u) (h : HeldBelow s) :
    HeldBelow u := by
  cases e
  split
  · exact State.portUp_held h
  · exact State.portTo_held h
  · exact State.portUp_held h
  · exact h

theorem State.retrain_held {s port} (h : HeldBelow s) : HeldBelow (s.retrain port) := by
  unfold State.retrain
  exact .ite h (.frame (State.settleSlice_frame ..) rfl <| .frame (State.dbump_frame ..) rfl <| State.setPort_held h)

theorem execPortRetrain_held {port _cause s} {u : State} (e : execPortRetrain port _cause s = .next u) (h : HeldBelow s) :
    HeldBelow u := by
  cases e
  exact State.retrain_held h

theorem execPortRetrainActive_held {port s} {u : State} (e : execPortRetrainActive port s = .next u) (h : HeldBelow s) :
    HeldBelow u := by
  cases e
  exact .ite (.frame (State.settleSlice_frame ..) rfl <| State.setPort_held h) h

theorem execPortDown_held {port t s} {u : State} (e : execPortDown port t s = .next u) (h : HeldBelow s) : HeldBelow u := by
  cases e
  dsimp only
  exact .ite (State.linkLost_held <| .frame (State.event_frame ..) rfl <| .frame (State.at_frame ..) rfl h) h

theorem State.spareRequested_held {s port lane} (h : HeldBelow s) : HeldBelow (s.spareRequested port lane) := by
  unfold State.spareRequested
  dsimp only
  exact .ite h (.when (fun h => .frame (State.event_frame ..) rfl h) <| State.setPort_held h)

theorem State.frameFields_held {s port f} (h : HeldBelow s) : HeldBelow (s.frameFields port f) := by
  unfold State.frameFields
  exact .when (fun h => .when (fun h => State.retrain_held h) <| State.setPort_held h) <| State.spareRequested_held <|
    State.setPort_held h

theorem State.goodFrame_held {s port f} (h : HeldBelow s) : HeldBelow (s.goodFrame port f) := by
  unfold State.goodFrame
  exact .ite
      (.ite h (State.frameFields_held h))
      (.ite h (.ite (State.frameFields_held <| State.setPort_held h) (.ite h (State.setPort_held h))))

theorem State.laneFails_held {s port lane} (h : HeldBelow s) : HeldBelow (s.laneFails port lane) := by
  unfold State.laneFails
  dsimp only
  exact .ite h (.ite (State.retrain_held h) (.frame (State.event_frame ..) rfl <| State.setPort_held h))

theorem State.symbolsCorrected_held {s port symbols} (h : HeldBelow s) : HeldBelow (s.symbolsCorrected port symbols) := by
  unfold State.symbolsCorrected
  dsimp only
  exact .foldl _ (fun _ _ h => .ite (State.laneFails_held h) h) <| State.setPort_held h

theorem execFrameReceived_held {port check fcu s} {u : State}
    (e : execFrameReceived port check fcu s = .next u) (h : HeldBelow s) : HeldBelow u := by
  cases e
  dsimp only
  refine .ite ?_ h
  split
  · exact State.goodFrame_held h
  · exact State.goodFrame_held <| State.symbolsCorrected_held <| .frame (State.dbump_frame ..) rfl h
  · exact State.setPort_held <| .frame (State.dbump_frame ..) rfl h
  · exact State.setPort_held h

theorem State.sendFrame_held {s port q f} (h : HeldBelow s) : HeldBelow (s.sendFrame port q f) := by
  unfold State.sendFrame
  exact .frame (State.emit_frame ..) rfl <| State.setPort_held h

theorem State.newFrame_held {s port q kind first packets body} (h : HeldBelow s) :
    HeldBelow (s.newFrame port q kind first packets body) := by
  unfold State.newFrame
  exact State.sendFrame_held <| .frame (State.perturbCredits_frame ..) rfl h

theorem State.nextFrame_held {s p} (h : HeldBelow s) : HeldBelow (s.nextFrame p) := by
  unfold State.nextFrame
  refine .ite (State.sendFrame_held h) ?_
  split
  · exact State.sendFrame_held <| .frame (State.dbump_frame ..) rfl h
  · refine .ite (State.sendFrame_held h) (.ite (State.newFrame_held h) ?_)
    split
    · extract_lets
      split
      exact State.newFrame_held <| .frame (State.perturbSent_frame ..) rfl h
    · exact State.newFrame_held h

theorem execFrameTransmit_held {port s} {u : State} (e : execFrameTransmit port s = .next u) (h : HeldBelow s) :
    HeldBelow u := by
  cases e
  split
  · exact State.nextFrame_held h
  · exact State.nextFrame_held h
  · exact State.settleBorder_held <| State.nextFrame_held h
  · exact State.nextFrame_held h
  · exact h

theorem State.linkInfo_held {s port i} (h : HeldBelow s) : HeldBelow (s.linkInfo port i) := by
  unfold State.linkInfo
  dsimp only
  exact State.settleBorder_held <| .frame (State.settleSlice_frame ..) rfl <| State.setPort_held h

theorem execLinkInfo_held {port info s} {u : State} (e : execLinkInfo port info s = .next u) (h : HeldBelow s) :
    HeldBelow u := by
  cases e
  exact .ite (State.linkInfo_held h) h

theorem State.fencePort_held {s port} (h : HeldBelow s) : HeldBelow (s.fencePort port) := by
  unfold State.fencePort
  refine .ite ?_ (State.setPort_held h)
  refine .foldl _ (fun _ _ h => ?_) <| State.setPort_held h
  split
  · exact State.queuePacket_held <| .of_fst (by assumption) <| State.request_held h

theorem State.writePartitionApply_held {s} (h : HeldBelow s) : HeldBelow (s.writePartitionApply).1 := by
  unfold State.writePartitionApply
  dsimp only
  refine .ite_of Prod.fst h ?_
  dsimp only
  exact State.settleBorder_held <| .foldl _ (fun _ _ => State.fencePort_held) <| .frame (State.dset_frame ..) rfl <| .links h

theorem execPartitionDrained_held {port s} {u : State} (e : execPartitionDrained port s = .next u) (h : HeldBelow s) :
    HeldBelow u := by
  cases e
  dsimp only
  exact .ite (State.settleBorder_held <| State.queuePacket_held <| State.setPort_held h) h

theorem State.borderCame_held {s port} (h : HeldBelow s) : HeldBelow (s.borderCame port) := by
  unfold State.borderCame
  dsimp only
  exact .when (fun h => State.settleBorder_held h) <| State.setPort_held h

theorem execBorderWaitTimeout_held {port t s} {u : State} (e : execBorderWaitTimeout port t s = .next u) (h : HeldBelow s) :
    HeldBelow u := by
  cases e
  dsimp only
  exact .ite (State.settleBorder_held <| State.setPort_held <| .frame (State.at_frame ..) rfl h) h

theorem execLaneTestInterval_held {port s} {u : State} (e : execLaneTestInterval port s = .next u) (h : HeldBelow s) :
    HeldBelow u := by
  cases e
  exact .ite (State.setPort_held h) h

theorem State.laneChecked_held {s port lane errors n} (h : HeldBelow s) : HeldBelow (s.laneChecked port lane errors n) := by
  unfold State.laneChecked
  refine .ite h ?_
  dsimp only
  exact .frame (State.dset_frame ..) rfl <| State.setPort_held h

theorem State.laneMeasured_held {s port errors n} (h : HeldBelow s) : HeldBelow (s.laneMeasured port errors n) := by
  unfold State.laneMeasured
  dsimp only
  exact .ite h (.when (fun h => State.laneFails_held h) <| State.laneChecked_held h)

theorem execLaneTestDwellEnd_held {port errors bits t s} {u : State}
    (e : execLaneTestDwellEnd port errors bits t s = .next u) (h : HeldBelow s) : HeldBelow u := by
  cases e
  exact .ite (State.laneMeasured_held <| State.setPort_held <| .frame (State.at_frame ..) rfl h) h

theorem State.writePortLaneTest_held {s port v} (h : HeldBelow s) : HeldBelow (s.writePortLaneTest port v).1 := by
  unfold State.writePortLaneTest
  exact .ite_of Prod.fst (.frame (State.setDomain_frame ..) rfl <| State.setPort_held h) h

theorem execPortLaneTestEnd_held {test s} {u : State} (e : execPortLaneTestEnd test s = .next u) (h : HeldBelow s) :
    HeldBelow u := by
  cases e
  dsimp only
  exact .ite (State.portUp_held <| .foldl _ (fun _ _ => State.laneChecked_held) <| .frame (State.at_frame ..) rfl h) h

theorem State.packetIn_held_k {s port type units hd ok go} (k : ∀ s, HeldBelow s → HeldBelow (go s)) (h : HeldBelow s) :
    HeldBelow (s.packetIn port type units hd ok go) := by
  unfold State.packetIn
  extract_lets q vc s1
  have h1 : HeldBelow s1 := State.setPort_held h
  clear_value s1
  exact .ite h (.ite (k _ h1) (.frame (State.dbump_frame ..) rfl h1))

theorem execRead_held {port hd s} {u : State} (e : execRead port hd s = .next u) (h : HeldBelow s) : HeldBelow u := by
  cases e
  exact State.packetIn_held_k (fun _ => State.serveAccess_held) h

theorem execFlush_held {port hd s} {u : State} (e : execFlush port hd s = .next u) (h : HeldBelow s) : HeldBelow u := by
  cases e
  exact State.packetIn_held_k (fun _ => State.serveAccess_held) h

theorem State.streamLanded_held {s key pos poison b} (h : HeldBelow s) : HeldBelow (s.streamLanded key pos poison b) := by
  unfold State.streamLanded
  split
  · exact h
  · refine .ite (State.stepDamage_held h) ?_
    dsimp only
    exact .ite
        (.frame (State.advance_frame ..) rfl <| .frame (State.setStream_frame ..) rfl h)
        (.whenNot (fun h => .frame (State.setStream_frame ..) rfl h) <| .frame (State.land_frame ..) rfl h)

theorem State.ropeLanded_held {s key part pos poison b} (h : HeldBelow s) : HeldBelow (s.ropeLanded key part pos poison b) := by
  unfold State.ropeLanded
  split
  · exact h
  · refine .ite (State.stepDamage_held h) ?_
    dsimp only
    exact .ite (.ite h (.frame (State.setStream_frame ..) rfl h)) (.frame (State.setStream_frame ..) rfl h)

theorem State.readAnswered_held {s q bad bs} (h : HeldBelow s) : HeldBelow (s.readAnswered q bad bs) := by
  unfold State.readAnswered
  extract_lets s1
  have h1 : HeldBelow s1 := .frame (State.cbump_frame ..) rfl <| State.dropRequest_held h
  clear_value s1
  split
  · split
    · exact State.copyGoesOn_held <| .frame (State.setCopy_frame ..) rfl h1
    · exact h1
  · exact State.streamLanded_held h1
  · exact State.ropeLanded_held h1
  · split
    · exact h1
    · split
      · exact h1
      · refine .ite (State.stepDamage_held h1) ?_
        split
        next e => exact .frame (State.setExchange_frame ..) rfl <| State.stepWrite_held_ok e h1
        next e => exact State.stepWrite_held_error e h1
  · exact State.fetchGoesOn_held <| .ite (State.fetchFailed_held h1) (State.setFetch_held h1)
  · exact h1

theorem execReadData_held {port hd data s} {u : State} (e : execReadData port hd data s = .next u) (h : HeldBelow s) :
    HeldBelow u := by
  cases e
  exact State.packetIn_held_k (fun _ h => State.responded_held_k (fun _ _ h => .ite (State.readAnswered_held h) h) h) h

theorem execReadFault_held {port hd s} {u : State} (e : execReadFault port hd s = .next u) (h : HeldBelow s) : HeldBelow u := by
  cases e
  exact State.packetIn_held_k (fun _ h => State.responded_held_k (fun _ _ => State.requestFailed_held) h) h

theorem execFlushDone_held {port hd s} {u : State} (e : execFlushDone port hd s = .next u) (h : HeldBelow s) : HeldBelow u := by
  cases e
  refine State.packetIn_held_k (fun _ h => ?_) h
  refine State.responded_held_k (fun _ _ h => ?_) h
  refine .ite (State.flushAnswered_held h) ?_
  dsimp only
  exact State.requestFailed_held h

theorem State.earlyNote_held {s hd f} (h : HeldBelow s) : HeldBelow (s.earlyNote hd f) := by
  unfold State.earlyNote
  exact .ite (.links h) (.ite (.frame (State.dbump_frame ..) rfl h) (.links h))

theorem execReady_held {t port header s} {u : State} (e : execReady t port header s = .next u) (h : HeldBelow s) :
    HeldBelow u := by
  cases e
  refine State.packetIn_held_k (fun _ h => ?_) <| .frame (State.at_frame ..) rfl h
  split
  · exact .frame (State.setStep_frame ..) rfl h
  · exact h
  · exact State.earlyNote_held h

theorem State.abortHeld_held {s hd status} (h : HeldBelow s) : HeldBelow (s.abortHeld hd status) := by
  unfold State.abortHeld
  split
  · exact .ite (State.abortedEnd_held h) h
  · exact h

theorem execAbort_held {port hd t s} {u : State} (e : execAbort port hd t s = .next u) (h : HeldBelow s) : HeldBelow u := by
  cases e
  refine State.packetIn_held_k (fun _ h => ?_) <| .frame (State.at_frame ..) rfl h
  split
  · exact .ite h (.frame (State.abortAttempt_frame ..) rfl h)
  · exact State.nextSearch_held <| State.abortHeld_held h
  · exact State.earlyNote_held h

theorem State.noteGroup_held {s hd type data} (h : HeldBelow s) : HeldBelow (s.noteGroup hd type data) := by
  unfold State.noteGroup
  exact .ite h (.links h)

theorem State.exchangeNote_held {s hd type data put} (h : HeldBelow s) : HeldBelow (s.exchangeNote hd type data put) := by
  unfold State.exchangeNote
  split
  · split
    · exact .frame (State.setExchange_frame ..) rfl h
    · exact State.noteGroup_held h
  · exact h
  · exact .when (fun h => State.noteGroup_held h) <| State.earlyNote_held h

theorem execCounts_held {port hd data t s} {u : State} (e : execCounts port hd data t s = .next u) (h : HeldBelow s) :
    HeldBelow u := by
  cases e
  exact State.packetIn_held_k (fun _ => State.exchangeNote_held) <| .frame (State.at_frame ..) rfl h

theorem execAnnounce_held {port hd t s} {u : State} (e : execAnnounce port hd t s = .next u) (h : HeldBelow s) :
    HeldBelow u := by
  cases e
  exact State.packetIn_held_k (fun _ => State.exchangeNote_held) <| .frame (State.at_frame ..) rfl h

theorem execHold_held {port hd t s} {u : State} (e : execHold port hd t s = .next u) (h : HeldBelow s) : HeldBelow u := by
  cases e
  refine State.packetIn_held_k (fun _ h => ?_) <| .frame (State.at_frame ..) rfl h
  split
  · exact .frame (State.setStep_frame ..) rfl h
  · exact h
  · exact State.earlyNote_held h

theorem execEpoch_held {port hd s} {u : State} (e : execEpoch port hd s = .next u) (h : HeldBelow s) : HeldBelow u := by
  cases e
  exact State.packetIn_held_k (fun _ h => State.sendControl_held <| .ite (.links h) h) h

theorem execEpochAck_held {port hd s} {u : State} (e : execEpochAck port hd s = .next u) (h : HeldBelow s) : HeldBelow u := by
  cases e
  exact State.packetIn_held_k (fun _ h => .links h) h

theorem execBorder_held {port hd s} {u : State} (e : execBorder port hd s = .next u) (h : HeldBelow s) : HeldBelow u := by
  cases e
  exact State.packetIn_held_k (fun _ => State.borderCame_held) h

theorem execGroupCommit_held {cmd t s} {u : State} (e : execGroupCommit cmd t s = .next u) (h : HeldBelow s) : HeldBelow u := by
  cases e
  split
  · refine .ite ?_ h
    split
    · exact State.disagree_held <| .frame (State.at_frame ..) rfl h
    · exact .ite
          (State.settleHostReset_held <| State.settleRecovery_held <| State.commit_held <| .frame (State.at_frame ..) rfl h)
          h
  · exact h

theorem execGroupOutcomeUnknown_held {cmd t s} {u : State} (e : execGroupOutcomeUnknown cmd t s = .next u) (h : HeldBelow s) :
    HeldBelow u := by
  cases e
  split
  · refine .ite ?_ h
    split
    · exact h
    · dsimp only
      exact State.nextSearch_held <| State.settleHostReset_held <| State.settleRecovery_held <| State.startReset_held <|
        .whenNot
            (fun h => .foldl _ (fun _ _ h => .frame (State.rappel_frame ..) rfl h) h) <|
        .ite
          (State.silentEnd_held <| .frame (State.event_frame ..) rfl <| .frame (State.at_frame ..) rfl h)
          (State.failEnd_held <| .frame (State.event_frame ..) rfl <| .frame (State.at_frame ..) rfl h)
  · exact h

theorem execGroupEntryExpired_held {ctx group t s} {u : State}
    (e : execGroupEntryExpired ctx group t s = .next u) (h : HeldBelow s) : HeldBelow u := by
  cases e
  dsimp only
  split
  · exact .ite (.frame (State.dbump_frame ..) rfl <| .links <| .frame (State.at_frame ..) rfl h) h
  · exact h

theorem execQuiescenceLimit_held {ctx t s} {u : State} (e : execQuiescenceLimit ctx t s = .next u) (h : HeldBelow s) :
    HeldBelow u := by
  cases e
  refine .ite h (State.advanceLosing_held fun k hk => ?_)
  refine HeldBelow.foldl _ (fun _ _ h => State.endConfirm_held h) ?_ k (List.mem_of_mem_filter hk)
  exact .frame (State.at_frame ..) rfl h

theorem execWrite_held {port hd data s} {u : State} (e : execWrite port hd data s = .next u) (h : HeldBelow s) :
    HeldBelow u := by
  cases e
  exact State.packetIn_held_k (fun _ => State.serveAccess_held) h

end Sys2Proof.Machine
end

section
/-! SUPPORT. Nothing at a counter waits after a test, a power row or a write of the dictionary. -/

namespace Sys2Proof.Machine

theorem execBasecampTakeover_held {t s} {u : State} (e : execBasecampTakeover t s = .next u) (h : HeldBelow s) :
    HeldBelow u := by
  cases e
  refine .ite h ?_
  dsimp only
  refine .ite ?_
      (.frame (State.resupply_frame ..) rfl <| .frame (State.lowestPoints_frame ..) rfl <| .same <|
        .frame (State.at_frame ..) rfl h)
  split
  · exact State.restartRecovery_held <| .same <| .frame (State.event_frame ..) rfl <| .frame (State.dset_frame ..) rfl <|
      .frame (State.dset_frame ..) rfl <| .frame (State.dropMails_frame ..) rfl <| .same <| .frame (State.at_frame ..) rfl h
  · exact .same <| .frame (State.event_frame ..) rfl <| .frame (State.dset_frame ..) rfl <| .frame (State.dset_frame ..) rfl <|
      .frame (State.dropMails_frame ..) rfl <| .same <| .frame (State.at_frame ..) rfl h
  · exact .frame (State.event_frame ..) rfl <| .frame (State.dset_frame ..) rfl <| .frame (State.dset_frame ..) rfl <|
      .frame (State.dropMails_frame ..) rfl <| .same <| .frame (State.at_frame ..) rfl h

theorem State.testServes_held {s cl iso} (h : HeldBelow s) : HeldBelow (s.testServes cl iso) := by
  unfold State.testServes
  exact .ite (State.returnCluster_held h) (State.unstrandAll_held h)

theorem State.endTest_held {s : State} {cl iso failed rest} (h : HeldBelow s) :
    HeldBelow (s.endTest cl iso failed rest) := by
  unfold State.endTest
  extract_lets failed src s1 isolate core r s2 s3
  have h2 : HeldBelow s2 := .frame (State.dset_frame ..) rfl <| .same h
  have isolated : ∀ t, HeldBelow t → HeldBelow (isolate t) := fun t h =>
    .ite (.frame (State.resupply_frame ..) rfl <| .frame (State.setDomain_frame ..) rfl h)
      (.frame (State.isolateNow_frame ..) rfl h)
  clear_value s2 isolate
  have h3 : HeldBelow s3 := by
    refine .ite (State.testServes_held h2) ?_
    clear_value s3
    clear_value failed
    split
    · split
      next e => exact State.testServes_held <| .frame (State.retireTested_frame e) rfl h2
      · exact isolated _ h2
    · exact isolated _ h2
  exact .frame (State.event_frame ..) rfl h3

theorem execClusterTestEnd_held {cluster failed restPassed s} {u : State}
    (e : execClusterTestEnd cluster failed restPassed s = .next u) (h : HeldBelow s) : HeldBelow u := by
  cases e
  split
  · exact .ite (State.endTest_held h) h
  · exact h

theorem State.powerDown_held {s : State} : HeldBelow s.powerDown := .of_nil rfl

theorem execPwrGoodFall_held {t s} {u : State} (e : execPwrGoodFall t s = .next u) (h : HeldBelow s) : HeldBelow u := by
  cases e
  exact .ite h State.powerDown_held

theorem State.coldReset_held {s : State} : HeldBelow s.coldReset := by
  unfold State.coldReset
  dsimp only
  exact .frame (State.recount_frame ..) rfl <| .frame (State.resupply_frame ..) rfl (.of_nil rfl)

theorem execDevRstNAssert_held {t s} {u : State} (e : execDevRstNAssert t s = .next u) (h : HeldBelow s) : HeldBelow u := by
  cases e
  refine .ite h ?_
  dsimp only
  exact .frame (State.settleLock_frame ..) rfl <|
    .ite
      (.frame (State.dbump_frame ..) rfl <| .same <| .frame (State.at_frame ..) rfl h)
      (.frame (State.dset_frame ..) rfl <| .frame (State.dset_frame ..) rfl <|
        .frame (State.dset_frame ..) rfl State.coldReset_held)

theorem State.restartBringup_held {s : State} : HeldBelow s.restartBringup := .of_nil rfl

theorem execRailOutOfTolerance_held {t rail mv s} {u : State}
    (e : execRailOutOfTolerance t rail mv s = .next u) (h : HeldBelow s) : HeldBelow u := by
  cases e
  refine .ite h ?_
  dsimp only
  refine .ite (.same <| .ite (.frame (State.at_frame ..) rfl h) h) ?_
  refine .ite State.powerDown_held ?_
  split
  · exact State.startRecovery_held <| .frame (State.event_frame ..) rfl <| .same <| .ite (.frame (State.at_frame ..) rfl h) h
  · exact .same <| .frame (State.event_frame ..) rfl <| .same <| .ite (.frame (State.at_frame ..) rfl h) h
  · exact State.restartBringup_held
  · exact .frame (State.endGrant_frame ..) rfl <| .frame (State.unpower_frame ..) rfl <| .frame (State.event_frame ..) rfl <|
      .same <| .ite (.frame (State.at_frame ..) rfl h) h
  · exact .frame (State.event_frame ..) rfl <| .same <| .ite (.frame (State.at_frame ..) rfl h) h

theorem execRefclkLinkLost_held {t s} {u : State} (e : execRefclkLinkLost t s = .next u) (h : HeldBelow s) : HeldBelow u := by
  cases e
  refine .ite ?_ h
  dsimp only
  exact .foldl _ (fun _ _ h => .ite h (.frame (State.setDomain_frame ..) rfl <| State.linkLost_held h)) <| .same <|
    .frame (State.at_frame ..) rfl h

theorem execRefclkLinkRestored_held {t s} {u : State} (e : execRefclkLinkRestored t s = .next u) (h : HeldBelow s) :
    HeldBelow u := by
  cases e
  exact .ite (.when (fun h => .foldl _ (fun _ _ => State.portUp_held) h) <| .same <| .frame (State.at_frame ..) rfl h) h

theorem State.bringUnits_held {s : State} (h : HeldBelow s) : HeldBelow s.bringUnits := by
  unfold State.bringUnits
  exact .foldl _ (fun _ _ h => State.portUp_held h) <| .frame (State.testPower_frame ..) rfl <| .same <|
    .frame (State.setDomain_frame ..) rfl <| .frame (State.setDomains_frame ..) rfl <| .frame (State.setDomains_frame ..) rfl h

theorem execProfileLoad_held {t s} {u : State} (e : execProfileLoad t s = .next u) (h : HeldBelow s) : HeldBelow u := by
  cases e
  refine .ite h ?_
  refine .ite ?_ ?_
  · dsimp only
    exact .frame (State.settleLock_frame ..) rfl <| State.bringUnits_held <| .same <| .frame (State.loadProfile_frame ..) rfl <|
      .frame (State.at_frame ..) rfl h
  · refine .ite ?_ h
    dsimp only
    exact .foldl _ (fun _ _ => State.portUp_held) <| .frame (State.testPower_frame ..) rfl <|
      .frame (State.settleLock_frame ..) rfl <| .frame (State.setDomain_frame ..) rfl <|
      .frame (State.setDomains_frame ..) rfl <| .same <| .frame (State.loadProfile_frame ..) rfl State.portsDown_held

theorem State.testCluster_held {s cl bad fails} (h : HeldBelow s) : HeldBelow (s.testCluster cl bad fails) := by
  unfold State.testCluster
  extract_lets iso tested s1 s2
  have ht : HeldBelow tested.1 := .ite_of Prod.fst h (.frame (State.testCores_frame ..) rfl h)
  clear_value tested
  have h1 : HeldBelow s1 := .frame (State.settleReleased_frame ..) rfl ht
  have h2 : HeldBelow s2 := .ite (State.returnCluster_held h1) (.frame (State.setDomain_frame ..) rfl h1)
  exact .ite (.frame (State.dset_frame ..) rfl h2)
    (.ite (.frame (State.setDomain_frame ..) rfl ht) (.frame (State.isolateNow_frame ..) rfl ht))

theorem execClusterSelfTestEnd_held {t cores clusters s} {u : State}
    (e : execClusterSelfTestEnd t cores clusters s = .next u) (h : HeldBelow s) : HeldBelow u := by
  cases e
  refine .ite h ?_
  dsimp only
  exact .frame (State.resupply_frame ..) rfl <| .same <| .frame (State.setDomains_frame ..) rfl <|
    .foldl _ (fun _ _ => State.testCluster_held) <| .frame (State.at_frame ..) rfl h

theorem execDeviceReady_held {t speed width flit s} {u : State}
    (e : execDeviceReady t speed width flit s = .next u) (h : HeldBelow s) : HeldBelow u := by
  cases e
  refine .ite h ?_
  dsimp only
  exact .frame (State.interrupt_frame ..) rfl <| .same <| .when (fun h => State.endRecovery_held h) <|
    .whenNot
        (fun h => .same h) <|
    .frame (State.at_frame ..) rfl h

theorem execRecoveryTimeout_held {t s} {u : State} (e : execRecoveryTimeout t s = .next u) (h : HeldBelow s) : HeldBelow u := by
  cases e
  refine .ite ?_ h
  dsimp only
  exact .when (fun h => State.restartRecovery_held h) <| .same <| .frame (State.at_frame ..) rfl h

theorem State.writeRecover_held {s} (h : HeldBelow s) : HeldBelow (s.writeRecover).1 := by
  unfold State.writeRecover
  dsimp only
  exact State.startRecovery_held h

theorem State.writeCtxReset_held {s c} (h : HeldBelow s) : HeldBelow (s.writeCtxReset c).1 := by
  unfold State.writeCtxReset
  dsimp only
  exact State.nextSearch_held <| State.startReset_held h

theorem State.writePartitionNext_held {s port v} (h : HeldBelow s) : HeldBelow (s.writePartitionNext port v).1 := by
  unfold State.writePartitionNext
  exact .frame (State.dset_frame ..) rfl <| State.setPort_held h

theorem State.writeDevice_held {s management index sub i v} (h : HeldBelow s) :
    HeldBelow (s.writeDevice management index sub i v).1 := by
  unfold State.writeDevice
  split
  · exact .frame (State.writeMgtEnable_frame ..) rfl h
  · dsimp only
    exact .frame (State.endGrant_frame ..) rfl h
  · exact .frame (State.writeProfileSave_frame ..) rfl h
  · exact .frame (State.writeProfileErase_frame ..) rfl h
  · exact .frame (State.writePointReq_frame ..) rfl h
  · exact .frame (State.writeCduApply_frame ..) rfl h
  · exact .frame (State.writeClusterAssign_frame ..) rfl h
  · exact .frame (State.writePoolSlack_frame ..) rfl h
  · exact .frame (State.writeLoopLane_frame ..) rfl h
  · exact .frame (State.writeHealthMask_frame ..) rfl h
  · exact .frame (State.writeHealthAck_frame ..) rfl h
  · exact .frame (State.writeTestRequest_frame ..) rfl h
  · exact State.writeRecover_held h
  · exact .frame (State.writeRelease_frame ..) rfl h
  · exact .frame (State.writeCeiling_frame ..) rfl h
  · exact State.writePartitionApply_held h
  · exact .frame (State.writePerturbEnable_frame ..) rfl h
  · exact .frame (State.writeLockMode_frame ..) rfl h
  · exact State.writeInstallMode_held h
  · exact .frame (State.writeStoreOpen_frame ..) rfl h
  · exact .frame (State.writeStoreCommit_frame ..) rfl h
  · exact .frame (State.writeStoreErase_frame ..) rfl h
  · exact .frame (State.writeStoreSetting_frame ..) rfl h
  · exact .frame (State.writeStoreSetting_frame ..) rfl h
  · exact .frame (State.writeKeyRevoke_frame ..) rfl h
  · exact .frame (State.writePlain_frame ..) rfl h

theorem State.writeBlock_held {s key index sub i v} (h : HeldBelow s) : HeldBelow (s.writeBlock key index sub i v).1 := by
  unfold State.writeBlock
  dsimp only
  split
  · dsimp only
    exact .frame (State.writeShare_frame ..) rfl h
  · exact .frame (State.writePool_frame ..) rfl h
  · exact .frame (State.writeBivouacVa_frame ..) rfl h
  · exact State.writeCtxReset_held h
  · exact .frame (State.writeLaneSwitch_frame ..) rfl h
  · exact .frame (State.writeLaneCancel_frame ..) rfl h
  · dsimp only
    exact State.writePortEnable_held h
  · exact State.writePartitionNext_held h
  · exact State.writePortLaneTest_held h
  · exact .frame (State.writePlain_frame ..) rfl h

theorem State.writeElem_held {s management e index i b} (h : HeldBelow s) :
    HeldBelow (s.writeElem management e index i b).1 := by
  unfold State.writeElem
  dsimp only
  split
  · exact .frame (State.writeLaneSide_frame ..) rfl h
  · exact .frame (State.writeExchange_frame ..) rfl h
  · exact .frame (State.writePerturbSlot_frame ..) rfl h
  · exact .ite_of Prod.fst
        (.frame (State.writeOctets_frame ..) rfl h)
        (.ite_of Prod.fst h (.ite_of Prod.fst (State.writeBlock_held h) (State.writeDevice_held h)))

theorem State.firstRefused_held {s m en index off data n x} {w : Written}
    (e : State.firstRefused s m en index off data n = some (x, w)) (h : HeldBelow s) : HeldBelow w.1 := by
  obtain ⟨j, -, hj⟩ := List.mem_map.mp (List.mem_of_find?_eq_some e)
  rw [← (Prod.mk.inj hj).2]
  exact State.writeElem_held h

theorem State.writeAll_held {s m en index off data n} (h : HeldBelow s) :
    HeldBelow (s.writeAll m en index off data n).1.1 := by
  unfold State.writeAll
  split
  next e => exact State.firstRefused_held e h
  · have written : ∀ l : List Nat, HeldBelow
        (l.foldl (fun s j => (s.writeElem m en index (off + j) (en.part data j)).1) s) := fun l =>
      .foldl _ (fun _ _ h => State.writeElem_held h) h
    exact .ite (.frame (State.noteSaved_frame ..) rfl (written _)) (written _)

theorem State.kopWriteOp_held {s r e q} (h : HeldBelow s) : HeldBelow (s.kopWriteOp r e q).1 := by
  unfold State.kopWriteOp
  refine .ite_of Prod.fst h ?_
  refine .ite_of Prod.fst h ?_
  split
  · exact h
  · exact State.writeAll_held h

theorem State.kopEntry_held {s r e q drawn} (h : HeldBelow s) : HeldBelow (s.kopEntry r e q drawn).1 := by
  unfold State.kopEntry
  exact .ite_of Prod.fst h
      (.ite_of Prod.fst h
          (.ite_of Prod.fst h
              (.ite_of Prod.fst (.frame (State.kopReadOp_frame ..) rfl h) (.ite_of Prod.fst (State.kopWriteOp_held h) h))))

theorem State.kopServe_held {s r q drawn} (h : HeldBelow s) : HeldBelow (s.kopServe r q drawn).1 := by
  unfold State.kopServe
  refine .ite_of Prod.fst h ?_
  refine .ite_of Prod.fst h ?_
  split
  · exact h
  · exact State.kopEntry_held h

theorem State.kopPdu_held {s r pdu count} (h : HeldBelow s) : HeldBelow (s.kopPdu r pdu count).1 := by
  unfold State.kopPdu
  dsimp only
  refine .ite_of Prod.fst h ?_
  dsimp only
  exact State.kopServe_held h

theorem State.request'_held {s r q drawn} (h : HeldBelow s) : HeldBelow (s.request' r q drawn) := by
  unfold State.request'
  refine .ite ?_ h
  split
  exact .same <| .of_fst (by assumption) <| State.kopServe_held h

theorem State.writeEntry_held {s r index sub type off data} (h : HeldBelow s) :
    HeldBelow (s.writeEntry r index sub type off data) := by
  unfold State.writeEntry
  exact State.request'_held h

end Sys2Proof.Machine
end

section
/-! SUPPORT. Nothing at a counter waits after the commands of the dictionary, the mailbox and the registers. -/

namespace Sys2Proof.Machine

theorem execKopRead_held {r index sub type length offset s} {u : State}
    (e : execKopRead r index sub type length offset s = .next u) (h : HeldBelow s) : HeldBelow u := by
  cases e
  exact State.request'_held h

theorem execKopWrite_held {r index sub type offset data s} {u : State}
    (e : execKopWrite r index sub type offset data s = .next u) (h : HeldBelow s) : HeldBelow u := by
  cases e
  exact State.writeEntry_held h

theorem execKopDescribe_held {r index sub s} {u : State} (e : execKopDescribe r index sub s = .next u) (h : HeldBelow s) :
    HeldBelow u := by
  cases e
  exact State.request'_held h

theorem execKopNext_held {r index sub s} {u : State} (e : execKopNext r index sub s = .next u) (h : HeldBelow s) :
    HeldBelow u := by
  cases e
  exact State.request'_held h

theorem execRoleChallenge_held {r drawn s} {u : State} (e : execRoleChallenge r drawn s = .next u) (h : HeldBelow s) :
    HeldBelow u := by
  cases e
  exact State.request'_held h

theorem execRoleResponse_held {r response t s} {u : State} (e : execRoleResponse r response t s = .next u) (h : HeldBelow s) :
    HeldBelow u := by
  cases e
  exact State.writeEntry_held <| .ite (.frame (State.at_frame ..) rfl h) h

theorem execRoleDrop_held {r s} {u : State} (e : execRoleDrop r s = .next u) (h : HeldBelow s) : HeldBelow u := by
  cases e
  exact State.writeEntry_held h

theorem execCduApply_held {r value s} {u : State} (e : execCduApply r value s = .next u) (h : HeldBelow s) : HeldBelow u := by
  cases e
  exact State.writeEntry_held h

theorem execInstallModeEnter_held {r s} {u : State} (e : execInstallModeEnter r s = .next u) (h : HeldBelow s) :
    HeldBelow u := by
  cases e
  exact State.writeEntry_held h

theorem execInstallModeExit_held {r s} {u : State} (e : execInstallModeExit r s = .next u) (h : HeldBelow s) : HeldBelow u := by
  cases e
  exact State.writeEntry_held h

theorem execStoreOpen_held {r slot s} {u : State} (e : execStoreOpen r slot s = .next u) (h : HeldBelow s) : HeldBelow u := by
  cases e
  exact State.writeEntry_held h

theorem execStoreCommit_held {r slot t s} {u : State} (e : execStoreCommit r slot t s = .next u) (h : HeldBelow s) :
    HeldBelow u := by
  cases e
  exact State.writeEntry_held <| .ite (.frame (State.at_frame ..) rfl h) h

theorem execStoreErase_held {r slot s} {u : State} (e : execStoreErase r slot s = .next u) (h : HeldBelow s) : HeldBelow u := by
  cases e
  exact State.writeEntry_held h

theorem execStoreKeyWrite_held {r slot key s} {u : State} (e : execStoreKeyWrite r slot key s = .next u) (h : HeldBelow s) :
    HeldBelow u := by
  cases e
  exact State.writeEntry_held h

theorem execStoreKeyRevoke_held {r slot s} {u : State} (e : execStoreKeyRevoke r slot s = .next u) (h : HeldBelow s) :
    HeldBelow u := by
  cases e
  exact State.writeEntry_held h

theorem execClusterAssign_held {r cluster value s} {u : State}
    (e : execClusterAssign r cluster value s = .next u) (h : HeldBelow s) : HeldBelow u := by
  cases e
  exact State.writeEntry_held h

theorem execPool_held {r ctx value s} {u : State} (e : execPool r ctx value s = .next u) (h : HeldBelow s) : HeldBelow u := by
  cases e
  exact State.writeEntry_held h

theorem execBivouacVa_held {r ctx value s} {u : State} (e : execBivouacVa r ctx value s = .next u) (h : HeldBelow s) :
    HeldBelow u := by
  cases e
  exact State.writeEntry_held h

theorem execShare_held {r ctx value s} {u : State} (e : execShare r ctx value s = .next u) (h : HeldBelow s) : HeldBelow u := by
  cases e
  exact State.writeEntry_held h

theorem execPoolSlack_held {r pool value s} {u : State} (e : execPoolSlack r pool value s = .next u) (h : HeldBelow s) :
    HeldBelow u := by
  cases e
  exact State.writeEntry_held h

theorem execLaneSide_held {r ctx entry record s} {u : State}
    (e : execLaneSide r ctx entry record s = .next u) (h : HeldBelow s) : HeldBelow u := by
  cases e
  exact State.writeEntry_held h

theorem execLoopLane_held {r ring value s} {u : State} (e : execLoopLane r ring value s = .next u) (h : HeldBelow s) :
    HeldBelow u := by
  cases e
  exact State.writeEntry_held h

theorem execLaneSwitch_held {r ctx lane s} {u : State} (e : execLaneSwitch r ctx lane s = .next u) (h : HeldBelow s) :
    HeldBelow u := by
  cases e
  exact State.writeEntry_held h

theorem execLaneCancel_held {r ctx lane s} {u : State} (e : execLaneCancel r ctx lane s = .next u) (h : HeldBelow s) :
    HeldBelow u := by
  cases e
  exact State.writeEntry_held h

theorem execTruExchanges_held {r ctx entry record s} {u : State}
    (e : execTruExchanges r ctx entry record s = .next u) (h : HeldBelow s) : HeldBelow u := by
  cases e
  exact State.writeEntry_held h

theorem execPartitionApply_held {r value s} {u : State} (e : execPartitionApply r value s = .next u) (h : HeldBelow s) :
    HeldBelow u := by
  cases e
  exact State.writeEntry_held h

theorem execPortLaneTest_held {r port value s} {u : State} (e : execPortLaneTest r port value s = .next u) (h : HeldBelow s) :
    HeldBelow u := by
  cases e
  exact State.writeEntry_held h

theorem execProfileSave_held {r slot s} {u : State} (e : execProfileSave r slot s = .next u) (h : HeldBelow s) :
    HeldBelow u := by
  cases e
  exact State.writeEntry_held h

theorem execProfileImage_held {r slot image s} {u : State} (e : execProfileImage r slot image s = .next u) (h : HeldBelow s) :
    HeldBelow u := by
  cases e
  exact State.writeEntry_held h

theorem execProfileErase_held {r slot s} {u : State} (e : execProfileErase r slot s = .next u) (h : HeldBelow s) :
    HeldBelow u := by
  cases e
  exact State.writeEntry_held h

theorem execCtxReset_held {r ctx s} {u : State} (e : execCtxReset r ctx s = .next u) (h : HeldBelow s) : HeldBelow u := by
  cases e
  exact State.writeEntry_held h

theorem execRecoverRequest_held {r s} {u : State} (e : execRecoverRequest r s = .next u) (h : HeldBelow s) : HeldBelow u := by
  cases e
  exact State.writeEntry_held h

theorem execSnapshotRelease_held {r s} {u : State} (e : execSnapshotRelease r s = .next u) (h : HeldBelow s) : HeldBelow u := by
  cases e
  exact State.writeEntry_held h

theorem execHealthAck_held {r seq s} {u : State} (e : execHealthAck r seq s = .next u) (h : HeldBelow s) : HeldBelow u := by
  cases e
  exact State.writeEntry_held h

theorem execHealthMask_held {r value s} {u : State} (e : execHealthMask r value s = .next u) (h : HeldBelow s) :
    HeldBelow u := by
  cases e
  exact State.writeEntry_held h

theorem execTestRequestCluster_held {r cluster s} {u : State}
    (e : execTestRequestCluster r cluster s = .next u) (h : HeldBelow s) : HeldBelow u := by
  cases e
  exact State.writeEntry_held h

theorem execTestRequestRotate_held {r cluster s} {u : State}
    (e : execTestRequestRotate r cluster s = .next u) (h : HeldBelow s) : HeldBelow u := by
  cases e
  exact State.writeEntry_held h

theorem execPerturbEnable_held {r value s} {u : State} (e : execPerturbEnable r value s = .next u) (h : HeldBelow s) :
    HeldBelow u := by
  cases e
  exact State.writeEntry_held h

theorem execPerturbSlots_held {r slot record s} {u : State} (e : execPerturbSlots r slot record s = .next u) (h : HeldBelow s) :
    HeldBelow u := by
  cases e
  exact State.writeEntry_held h

theorem execClusterPointReq_held {r cluster value s} {u : State}
    (e : execClusterPointReq r cluster value s = .next u) (h : HeldBelow s) : HeldBelow u := by
  cases e
  exact State.writeEntry_held h

theorem State.answerQuery_held {s c n} (h : HeldBelow s) : HeldBelow (s.answerQuery c n) := by
  unfold State.answerQuery
  dsimp only
  split
  · exact .frame (State.complete_frame ..) rfl <| .frame (State.cwrite_frame_ok (by assumption)) rfl h
  · exact State.cairnFail_held h

theorem execQuery_held {cmd s} {u : State} (e : execQuery cmd s = .next u) (h : HeldBelow s) : HeldBelow u := by
  cases e
  split
  · exact h
  · split
    · exact State.answerQuery_held <| .frame (Frame.of_fst (State.queryData_frame ..) (by assumption)) rfl h
    · exact .frame (State.complete_frame ..) rfl <| .frame (Frame.of_fst (State.queryData_frame ..) (by assumption)) rfl h

theorem State.takeDatagram_held {s ip port pdu} (h : HeldBelow s) : HeldBelow (s.takeDatagram ip port pdu) := by
  unfold State.takeDatagram
  dsimp only
  split
  · exact .ite
        (.frame (State.sendDatagram_frame ..) rfl <| .frame (State.keep_frame ..) rfl h)
        (.frame (State.sendDatagram_frame ..) rfl <| .frame (State.keep_frame ..) rfl <| State.kopPdu_held h)
  · exact .frame (State.sendDatagram_frame ..) rfl <| .frame (State.keep_frame ..) rfl <| State.kopPdu_held h

theorem execManagementDatagram_held {t srcIp srcPort frame pdu s} {u : State}
    (e : execManagementDatagram t srcIp srcPort frame pdu s = .next u) (h : HeldBelow s) : HeldBelow u := by
  cases e
  dsimp only
  exact .ite (State.takeDatagram_held <| .frame (State.at_frame ..) rfl h) h

theorem State.serveMail_held {s f} (h : HeldBelow s) : HeldBelow (s.serveMail f) := by
  unfold State.serveMail
  dsimp only
  exact .ite h
      (.when (fun h => .frame (State.setMail_frame ..) rfl h) <| State.kopPdu_held <| .frame (State.setMail_frame ..) rfl h)

theorem State.writeMail_held {s f v} (h : HeldBelow s) : HeldBelow (s.writeMail f v) := by
  unfold State.writeMail
  dsimp only
  exact .ite
      (.frame (State.dbump_frame ..) rfl h)
      (.when (fun h => State.serveMail_held h) <| .frame (State.setMail_frame ..) rfl h)

theorem execMbxGo_held {f value s} {u : State} (e : execMbxGo f value s = .next u) (h : HeldBelow s) : HeldBelow u := by
  cases e
  exact State.ifHost_held_k (fun _ => State.writeMail_held) h

theorem State.sbServe_held {s data k} (h : HeldBelow s) : HeldBelow (s.sbServe data k) := by
  unfold State.sbServe
  dsimp only
  exact .when (fun h => .foldl _ (fun _ _ h => .frame (State.emit_frame ..) rfl h) h) <| State.kopPdu_held h

theorem State.sbAppend_held {s last num body} (h : HeldBelow s) : HeldBelow (s.sbAppend last num body) := by
  unfold State.sbAppend
  dsimp only
  exact .ite
      (State.sbServe_held <| .frame (State.sbClear_frame ..) rfl h)
      (.ite (.frame (State.sbDiscard_frame ..) rfl h) (.same h))

theorem State.sbSegment_held {s frame} (h : HeldBelow s) : HeldBelow (s.sbSegment frame) := by
  unfold State.sbSegment
  dsimp only
  exact .ite
      (.ite
          (State.sbAppend_held <| .ite (.frame (State.sbDiscard_frame ..) rfl h) h)
          (.frame (State.sbDiscard_frame ..) rfl <| .ite (.frame (State.sbDiscard_frame ..) rfl h) h))
      (.ite h (.ite (.frame (State.sbDiscard_frame ..) rfl h) (State.sbAppend_held h)))

theorem execServiceBusSegment_held {t segment s} {u : State}
    (e : execServiceBusSegment t segment s = .next u) (h : HeldBelow s) : HeldBelow u := by
  cases e
  exact .ite (State.sbSegment_held <| .frame (State.at_frame ..) rfl h) h

theorem State.writeInval_held {s v} (h : HeldBelow s) : HeldBelow (s.writeInval v) := by
  unfold State.writeInval
  exact .ite h
      (.ite
          (.same h)
          (.ite
              (.same <| State.beginConfirm_held <|
                .ite
                  (.frame (State.forgetPages_frame ..) rfl h)
                  (.frame (State.forgetPages_frame ..) rfl h))
              (.same <| .ite (.frame (State.forgetPages_frame ..) rfl h) (.frame (State.forgetPages_frame ..) rfl h))))

theorem execBkiInval_held {value s} {u : State} (e : execBkiInval value s = .next u) (h : HeldBelow s) : HeldBelow u := by
  cases e
  exact State.ifHost_held_k (fun _ => State.writeInval_held) h

theorem execBkiInvalQuiesced_held {s} {u : State} (e : execBkiInvalQuiesced s = .next u) (h : HeldBelow s) : HeldBelow u := by
  cases e
  exact .ite (.same <| State.endConfirm_held h) h

theorem State.writeReg_held {s x v} (h : HeldBelow s) : HeldBelow (s.writeReg x v) := by
  unfold State.writeReg
  split
  · exact State.writeNmMap_held h
  · exact State.writeInval_held h
  · exact .frame (State.writeRoot_frame ..) rfl h
  · exact State.writeMail_held h
  · dsimp only
    exact .frame (State.setMail_frame ..) rfl h
  · exact .frame (State.writeRingWord_frame ..) rfl h
  · exact .frame (State.writeLoopWord_frame ..) rfl h
  · exact .frame (State.setVector_frame ..) rfl h
  · exact .frame (State.maskVector_frame ..) rfl <| .frame (State.setVector_frame ..) rfl h
  · exact .frame (State.setCounter_frame ..) rfl h
  · exact .foldl _ (fun _ _ h => .frame (State.writeOwner_frame ..) rfl h) h
  · exact .frame (State.writePageOf_frame ..) rfl h
  · exact .frame (State.writeSqTail_frame ..) rfl h
  · exact .frame (State.writeCqHead_frame ..) rfl h
  · exact h
  · exact h
  · exact h
  · exact h

theorem State.writeHalf_held {s x half v} (h : HeldBelow s) : HeldBelow (s.writeHalf x half v) := by
  unfold State.writeHalf
  split
  · exact h
  · exact h
  · exact .foldl _ (fun _ _ h => .frame (State.writeOwner_frame ..) rfl h) h
  · exact .ite (.frame (State.writeSqTail_frame ..) rfl h) h
  · exact .ite (.frame (State.writeCqHead_frame ..) rfl h) h
  · exact .ite (.frame (State.writeRingControl_frame ..) rfl h) h
  · exact .ite (.frame (State.writePageOf_frame ..) rfl h) h
  · dsimp only
    exact State.writeReg_held h

theorem State.writeBar_held {s f bar2 off eight v} (h : HeldBelow s) : HeldBelow (s.writeBar f bar2 off eight v) := by
  unfold State.writeBar
  split
  · exact h
  · exact .ite (.ite (State.writeReg_held h) h) (.ite (State.writeHalf_held h) h)

theorem execRegisterWrite_held {f bar2 off eight value s} {u : State}
    (e : execRegisterWrite f bar2 off eight value s = .next u) (h : HeldBelow s) : HeldBelow u := by
  cases e
  exact State.ifHost_held_k (fun _ => State.writeBar_held) h

end Sys2Proof.Machine
end

section
/-! SUPPORT. What the accesses of other devices and each command leave of the sync counters and their owners. -/

namespace Sys2Proof.Machine

/-! ### Accesses of other devices -/

/-- A write below the counters changes none of them (R475). -/
theorem State.serveWrite_frame_below {s c src a poison bs} {t : State} (below : a < counterBase)
    (e : State.serveWrite s c src a poison bs = .ok t) :
    Frame [.free, .out, .entries, .ctxEntries, .host, .near, .nearMem, .bulk, .bulkMem, .rings, .msix, .pages, .cmds, .tru,
      .health, .power] s t := by
  unfold State.serveWrite at e
  rw [if_neg (Nat.not_le.mpr below)] at e
  split at e
  · cases e
  · dsimp only at e
    split at e
    next w =>
      cases e
      have k := (State.poisonWritten_frame · c a bs.length)
      split
      · refine .step (State.noteRows_frame ..) rfl (.step (State.pathEvents_frame ..) rfl (.ite (.step (k _) rfl ?_) ?_))
        all_goals exact (Frame.of_fst (State.writes_frame ..) w).mono rfl
      · refine .step (State.pathEvents_frame ..) rfl (.ite (.step (k _) rfl ?_) ?_)
        all_goals exact (Frame.of_fst (State.writes_frame ..) w).mono rfl
    · cases e

theorem State.answer_counters {s : State} {port h type poison addr length status data} :
    (s.answer port h type poison addr length status data).counters = s.counters :=
  State.counters_of_frame (State.answer_frame ..) rfl

/-- An access of another device changes no counter, unless it is a write at the counters (R475). -/
theorem State.perform_counters {s : State} {k : Held} (below : k.kind = .write → k.h.addr.toNat < counterBase) :
    (s.perform k).counters = s.counters := by
  unfold State.perform
  dsimp only
  split
  · split
    next e => exact State.answer_counters.trans (State.counters_of_frame (State.serveRead_frame_ok e) rfl)
    · exact State.answer_counters
  · split <;> exact State.answer_counters.trans (State.setPort_counters ..)
  next write =>
    split
    next e => exact State.counters_of_frame (State.serveWrite_frame_below (below write) e) rfl
    · exact State.setPort_counters ..

theorem State.serveAccess_counters {s : State} {k : Held} (below : k.kind = .write → k.h.addr.toNat < counterBase) :
    (s.serveAccess k).counters = s.counters := by
  unfold State.serveAccess
  split
  · exact State.counters_of_frame (State.epochDrop_frame ..) rfl
  · split
    · rfl
    · exact State.perform_counters below

theorem State.foldl_serveAccess_counters {l : List Held} {s : State}
    (below : ∀ k ∈ l, k.kind = .write → k.h.addr.toNat < counterBase) :
    (l.foldl State.serveAccess s).counters = s.counters := by
  induction l generalizing s with
  | nil => rfl
  | cons k l ih =>
    have first := State.serveAccess_counters (s := s) (below k List.mem_cons_self)
    exact (ih fun j hj => below j (List.mem_cons_of_mem k hj)).trans first

/-- The accesses that waited change no counter, as no write at the counters waits. -/
theorem State.serveHeld_counters {s : State} (h : HeldBelow s) : s.serveHeld.counters = s.counters :=
  State.foldl_serveAccess_counters h

theorem State.packetIn_counters {s : State} {port type units hd ok go} (k : ∀ t : State, (go t).counters = t.counters) :
    (s.packetIn port type units hd ok go).counters = s.counters := by
  unfold State.packetIn
  extract_lets q vc s1
  have h1 : s1.counters = s.counters := State.setPort_counters ..
  clear_value s1
  split
  · rfl
  · split
    · exact (k s1).trans h1
    · exact (State.counters_of_frame (State.dbump_frame ..) rfl).trans h1

theorem execRead_counters {port hd} {s u : State} (e : execRead port hd s = .next u) : u.counters = s.counters := by
  cases e
  exact State.packetIn_counters fun _ => State.serveAccess_counters nofun

theorem execFlush_counters {port hd} {s u : State} (e : execFlush port hd s = .next u) : u.counters = s.counters := by
  cases e
  exact State.packetIn_counters fun _ => State.serveAccess_counters nofun

theorem execRoundStart_counters {cluster} {s u : State} (e : execRoundStart cluster s = .next u) (h : HeldBelow s) :
    u.counters = s.counters := by
  cases e
  split
  next d _ =>
    split
    · rfl
    · have started : HeldBelow (d.start s) := Due.start_held h
      exact (State.serveHeld_counters started).trans (State.counters_of_frame (Due.start_frame ..) rfl)
  · rfl

/-- The work of RAPPEL_QUIESCENCE before the accesses that waited are performed. -/
theorem State.quiesced_counters {s : State} {t : Nat} {r : Rappel} {unclear : List Nat} :
    (((s.at t).abandonRequests r).quiesce r unclear).nextSearch.counters = s.counters := by
  have k : Frame [.free, .out, .uptime, .dev, .entries, .ctxEntries, .host, .near, .nearMem, .bulk, .bulkMem, .store, .rings,
      .loops, .msix, .pages, .cmds, .steps, .array, .ctxs, .serve, .tru, .links, .kop, .health, .power] s
      (((s.at t).abandonRequests r).quiesce r unclear).nextSearch :=
    .step (State.nextSearch_frame _) rfl (.step (State.quiesce_frame ..) rfl
      (.step (State.abandonRequests_frame ..) rfl (.mono (State.at_frame ..) rfl)))
  exact State.counters_of_frame k rfl

theorem execRappelQuiescence_counters {footprint t unclear} {s u : State}
    (e : execRappelQuiescence footprint t unclear s = .next u) (h : HeldBelow s) : u.counters = s.counters := by
  cases e
  split
  next r _ =>
    split
    · rfl
    · have quiet : HeldBelow (((s.at t).abandonRequests r).quiesce r (unclear.map (·.val))).nextSearch :=
        State.nextSearch_held <| State.quiesce_held <| State.abandonRequests_held <| .frame (State.at_frame ..) rfl h
      exact (State.serveHeld_counters quiet).trans State.quiesced_counters
  · rfl

/-! ### Every command -/

/-- What a command leaves of the sync counters: nothing at a counter waits after it, and it changes counters and owners
only when it is one of those that write them. -/
structure SyncKept (c : Instr) (s u : State) : Prop where
  held : HeldBelow u
  counters : writesCounters c = false → u.counters = s.counters
  owners : writesOwners c = false → u.owners = s.owners

/-- A command keeps to zones without the counters and the owners, but for one that writes them. -/
def syncZones (c : Instr) (g : List Zone) : Bool :=
  (writesCounters c || !g.contains .counters) && (writesOwners c || !g.contains .owners)

theorem SyncKept.of_held {c : Instr} {s u : State} {g : List Zone} (k : Frame g s u) (out : syncZones c g = true)
    (held : HeldBelow u) : SyncKept c s u := by
  simp only [syncZones, Bool.and_eq_true, Bool.or_eq_true, Bool.not_eq_true'] at out
  obtain ⟨counters, owners⟩ := out
  exact ⟨held, fun no => k.keeps .counters (counters.resolve_left (Bool.eq_false_iff.mp no)),
    fun no => k.keeps .owners (owners.resolve_left (Bool.eq_false_iff.mp no))⟩

/-- A command that leaves the links alone. -/
theorem SyncKept.of_frame {c : Instr} {s u : State} {g : List Zone} (k : Frame g s u)
    (out : (!g.contains .links && syncZones c g) = true) (h : HeldBelow s) : SyncKept c s u := by
  obtain ⟨links, sync⟩ := Bool.and_eq_true_iff.mp out
  exact .of_held k sync (.frame k (by simpa using links) h)

/-- A command that performs accesses of other devices, none of which is a write at the counters. -/
theorem SyncKept.of_counters {c : Instr} {s u : State} {g : List Zone} (same : u.counters = s.counters) (k : Frame g s u)
    (out : g.contains .owners = false) (held : HeldBelow u) : SyncKept c s u :=
  ⟨held, fun _ => same, fun _ => k.keeps .owners out⟩

theorem execPwrGoodRise_syncKept {s u : State} (e : execPwrGoodRise s = .next u) (h : HeldBelow s) :
    SyncKept .pwrGoodRise s u := by
  rcases execPwrGoodRise_frame e with rfl | ⟨pins, k⟩
  · exact ⟨h, fun _ => rfl, fun _ => rfl⟩
  · exact ⟨.frame k rfl (.same h), fun _ => k.keeps .counters rfl, fun _ => k.keeps .owners rfl⟩

theorem exec_syncKept {s u : State} (h : HeldBelow s) : ∀ {c : Instr}, exec c s = .next u → SyncKept c s u
  | .launchStep .., e => .of_frame (execLaunchStep_frame e) rfl h
  | .copy .., e => .of_held (execCopy_frame e) rfl (execCopy_held e h)
  | .loadRoute .., e => .of_frame (execLoadRoute_frame e) rfl h
  | .loadRouteStage .., e => .of_frame (execLoadRouteStage_frame e) rfl h
  | .loadRouteEvict .., e => .of_frame (execLoadRouteEvict_frame e) rfl h
  | .bindModel .., e => .of_frame (execBindModel_frame e) rfl h
  | .unbindModel .., e => .of_frame (execUnbindModel_frame e) rfl h
  | .prefixLookup .., e => .of_held (execPrefixLookup_frame e) rfl (execPrefixLookup_held e h)
  | .prefixInsert .., e => .of_held (execPrefixInsert_frame e) rfl (execPrefixInsert_held e h)
  | .fence .., e => .of_frame (execFence_frame e) rfl h
  | .signal .., e => .of_frame (execSignal_frame e) rfl h
  | .wait .., e => .of_frame (execWait_frame e) rfl h
  | .resumeStream .., e => .of_held (execResumeStream_frame e) rfl (execResumeStream_held e h)
  | .query .., e => .of_held (execQuery_frame e) rfl (execQuery_held e h)
  | .commandFetch .., e => .of_frame (execCommandFetch_frame e) rfl h
  | .sqTail .., e => .of_frame (execSqTail_frame e) rfl h
  | .cqHead .., e => .of_frame (execCqHead_frame e) rfl h
  | .ringEnable .., e => .of_frame (execRingEnable_frame e) rfl h
  | .ringDisable .., e => .of_frame (execRingDisable_frame e) rfl h
  | .loopTableWrite .., e => .of_frame (execLoopTableWrite_frame e) rfl h
  | .contextControlWrite .., e => .of_frame (execContextControlWrite_frame e) rfl h
  | .nmMapMap .., e => .of_held (execNmMapMap_frame e) rfl (execNmMapMap_held e h)
  | .nmMapUnmap .., e => .of_held (execNmMapUnmap_frame e) rfl (execNmMapUnmap_held e h)
  | .unmapQuiesced, e => .of_held (execUnmapQuiesced_frame e) rfl (execUnmapQuiesced_held e h)
  | .regionClearDone .., e => .of_frame (execRegionClearDone_frame e) rfl h
  | .bkiCtxRootWrite .., e => .of_frame (execBkiCtxRootWrite_frame e) rfl h
  | .bkiInval .., e => .of_held (execBkiInval_frame e) rfl (execBkiInval_held e h)
  | .bkiInvalQuiesced, e => .of_held (execBkiInvalQuiesced_frame e) rfl (execBkiInvalQuiesced_held e h)
  | .syncCounterWrite .., e => .of_frame (execSyncCounterWrite_frame e) rfl h
  | .syncOwnerWrite .., e => .of_frame (execSyncOwnerWrite_frame e) rfl h
  | .mbxGo .., e => .of_held (execMbxGo_frame e) rfl (execMbxGo_held e h)
  | .msixUnmask .., e => .of_frame (execMsixUnmask_frame e) rfl h
  | .registerWrite .., e => .of_held (execRegisterWrite_frame e) rfl (execRegisterWrite_held e h)
  | .atsInvalidationRequest .., e => .of_frame (execAtsInvalidationRequest_frame e) rfl h
  | .perstN .., e => .of_held (execPerstN_frame e) rfl (execPerstN_held e h)
  | .pfFunctionLevelReset .., e => .of_held (execPfFunctionLevelReset_frame e) rfl (execPfFunctionLevelReset_held e h)
  | .vfFunctionLevelReset .., e => .of_held (execVfFunctionLevelReset_frame e) rfl (execVfFunctionLevelReset_held e h)
  | .hostInterfaceResetEnd .., e => .of_frame (execHostInterfaceResetEnd_frame e) rfl h
  | .deviceReady .., e => .of_held (execDeviceReady_frame e) rfl (execDeviceReady_held e h)
  | .pwrGoodRise, e => execPwrGoodRise_syncKept e h
  | .pwrGoodFall .., e => .of_held (execPwrGoodFall_frame e) rfl (execPwrGoodFall_held e h)
  | .devRstNAssert .., e => .of_held (execDevRstNAssert_frame e) rfl (execDevRstNAssert_held e h)
  | .devRstNDeassert .., e => .of_frame (execDevRstNDeassert_frame e) rfl h
  | .resetHold .., e => .of_frame (execResetHold_frame e) rfl h
  | .profileLoad .., e => .of_held (execProfileLoad_frame e) rfl (execProfileLoad_held e h)
  | .clusterSelfTestEnd .., e => .of_held (execClusterSelfTestEnd_frame e) rfl (execClusterSelfTestEnd_held e h)
  | .pwrBrakeNAssert .., e => .of_frame (execPwrBrakeNAssert_frame e) rfl h
  | .pwrBrakeNRelease .., e => .of_frame (execPwrBrakeNRelease_frame e) rfl h
  | .pwrBrakeLong .., e => .of_frame (execPwrBrakeLong_frame e) rfl h
  | .railOutOfTolerance .., e => .of_held (execRailOutOfTolerance_frame e) rfl (execRailOutOfTolerance_held e h)
  | .railMonitorSample .., e => .of_frame (execRailMonitorSample_frame e) rfl h
  | .refclkSysLost .., e => .of_frame (execRefclkSysLost_frame e) rfl h
  | .refclkSysRestored .., e => .of_frame (execRefclkSysRestored_frame e) rfl h
  | .refclkLinkLost .., e => .of_held (execRefclkLinkLost_frame e) rfl (execRefclkLinkLost_held e h)
  | .refclkPcieLost .., e => .of_frame (execRefclkPcieLost_frame e) rfl h
  | .canRxdDominantTimeout .., e => .of_frame (execCanRxdDominantTimeout_frame e) rfl h
  | .cadenceInputEvent .., e => .of_frame (execCadenceInputEvent_frame e) rfl h
  | .cadencePeriodMissing .., e => .of_frame (execCadencePeriodMissing_frame e) rfl h
  | .holdoverEntry .., e => .of_frame (execHoldoverEntry_frame e) rfl h
  | .cadenceSyncMark .., e => .of_frame (execCadenceSyncMark_frame e) rfl h
  | .cadenceTick .., e => .of_frame (execCadenceTick_frame e) rfl h
  | .epochEnd .., e => .of_frame (execEpochEnd_frame e) rfl h
  | .cduApply .., e => .of_held (execCduApply_frame e) rfl (execCduApply_held e h)
  | .stepReady .., e => .of_frame (execStepReady_frame e) rfl h
  | .stepLaunch .., e => .of_held (execStepLaunch_frame e) rfl (execStepLaunch_held e h)
  | .roundStart .., e => .of_counters (execRoundStart_counters e h) (execRoundStart_frame e) rfl (execRoundStart_held e h)
  | .channelMessageArrival .., e => .of_held (execChannelMessageArrival_frame e) rfl (execChannelMessageArrival_held e h)
  | .creditReturn .., e => .of_frame (execCreditReturn_frame e) rfl h
  | .streamDataArrival .., e => .of_held (execStreamDataArrival_frame e) rfl (execStreamDataArrival_held e h)
  | .streamWriteAck .., e => .of_held (execStreamWriteAck_frame e) rfl (execStreamWriteAck_held e h)
  | .streamTranslationFault .., e => .of_held (execStreamTranslationFault_frame e) rfl (execStreamTranslationFault_held e h)
  | .sprSave .., e => .of_held (execSprSave_frame e) rfl (execSprSave_held e h)
  | .streamFaultTimeout .., e => .of_held (execStreamFaultTimeout_frame e) rfl (execStreamFaultTimeout_held e h)
  | .ropeBlockArrival .., e => .of_held (execRopeBlockArrival_frame e) rfl (execRopeBlockArrival_held e h)
  | .phaseEnd .., e => .of_held (execPhaseEnd_frame e) rfl (execPhaseEnd_held e h)
  | .stepExecutionEnd .., e => .of_held (execStepExecutionEnd_frame e) rfl (execStepExecutionEnd_held e h)
  | .deadlineExpired .., e => .of_frame (execDeadlineExpired_frame e) rfl h
  | .stepStalled .., e => .of_held (execStepStalled_frame e) rfl (execStepStalled_held e h)
  | .rappelCutoff .., e => .of_held (execRappelCutoff_frame e) rfl (execRappelCutoff_held e h)
  | .rappelQuiescence .., e =>
    .of_counters (execRappelQuiescence_counters e h) (execRappelQuiescence_frame e) rfl (execRappelQuiescence_held e h)
  | .routeLoadDone .., e => .of_frame (execRouteLoadDone_frame e) rfl h
  | .coreError .., e => .of_held (execCoreError_frame e) rfl (execCoreError_held e h)
  | .nearUncorrectable .., e => .of_held (execNearUncorrectable_frame e) rfl (execNearUncorrectable_held e h)
  | .nearScrubLine .., e => .of_frame (execNearScrubLine_frame e) rfl h
  | .nearRowRepairDone .., e => .of_frame (execNearRowRepairDone_frame e) rfl h
  | .bulkUncorrectable .., e => .of_held (execBulkUncorrectable_frame e) rfl (execBulkUncorrectable_held e h)
  | .bulkScrubLine .., e => .of_frame (execBulkScrubLine_frame e) rfl h
  | .bulkLaneRepair .., e => .of_frame (execBulkLaneRepair_frame e) rfl h
  | .bulkChannelSpareDone .., e => .of_frame (execBulkChannelSpareDone_frame e) rfl h
  | .bulkSelfRefreshEntry .., e => .of_frame (execBulkSelfRefreshEntry_frame e) rfl h
  | .bridgeFlitError .., e => .of_held (execBridgeFlitError_frame e) rfl (execBridgeFlitError_held e h)
  | .bindChunk .., e => .of_frame (execBindChunk_frame e) rfl h
  | .bindComplete .., e => .of_frame (execBindComplete_frame e) rfl h
  | .storePatrolChunk .., e => .of_frame (execStorePatrolChunk_frame e) rfl h
  | .storeChannelIdleOff .., e => .of_frame (execStoreChannelIdleOff_frame e) rfl h
  | .installModeEnter .., e => .of_held (execInstallModeEnter_frame e) rfl (execInstallModeEnter_held e h)
  | .installModeActive, e => .of_frame (execInstallModeActive_frame e) rfl h
  | .installModeExit .., e => .of_held (execInstallModeExit_frame e) rfl (execInstallModeExit_held e h)
  | .storeOpen .., e => .of_held (execStoreOpen_frame e) rfl (execStoreOpen_held e h)
  | .storeCommit .., e => .of_held (execStoreCommit_frame e) rfl (execStoreCommit_held e h)
  | .storeErase .., e => .of_held (execStoreErase_frame e) rfl (execStoreErase_held e h)
  | .storeKeyWrite .., e => .of_held (execStoreKeyWrite_frame e) rfl (execStoreKeyWrite_held e h)
  | .storeKeyRevoke .., e => .of_held (execStoreKeyRevoke_frame e) rfl (execStoreKeyRevoke_held e h)
  | .contextSwitchDone .., e => .of_held (execContextSwitchDone_frame e) rfl (execContextSwitchDone_held e h)
  | .clusterAssign .., e => .of_held (execClusterAssign_frame e) rfl (execClusterAssign_held e h)
  | .pool .., e => .of_held (execPool_frame e) rfl (execPool_held e h)
  | .bivouacVa .., e => .of_held (execBivouacVa_frame e) rfl (execBivouacVa_held e h)
  | .share .., e => .of_held (execShare_frame e) rfl (execShare_held e h)
  | .poolSlack .., e => .of_held (execPoolSlack_frame e) rfl (execPoolSlack_held e h)
  | .laneSide .., e => .of_held (execLaneSide_frame e) rfl (execLaneSide_held e h)
  | .loopLane .., e => .of_held (execLoopLane_frame e) rfl (execLoopLane_held e h)
  | .laneSwitch .., e => .of_held (execLaneSwitch_frame e) rfl (execLaneSwitch_held e h)
  | .laneCancel .., e => .of_held (execLaneCancel_frame e) rfl (execLaneCancel_held e h)
  | .laneFlip .., e => .of_frame (execLaneFlip_frame e) rfl h
  | .bindingRelease .., e => .of_frame (execBindingRelease_frame e) rfl h
  | .cairnFreeing .., e => .of_frame (execCairnFreeing_frame e) rfl h
  | .truExchanges .., e => .of_held (execTruExchanges_frame e) rfl (execTruExchanges_held e h)
  | .dispatchCountsComplete .., e => .of_held (execDispatchCountsComplete_frame e) rfl (execDispatchCountsComplete_held e h)
  | .dispatchComplete .., e => .of_held (execDispatchComplete_frame e) rfl (execDispatchComplete_held e h)
  | .returnAnnounced .., e => .of_held (execReturnAnnounced_frame e) rfl (execReturnAnnounced_held e h)
  | .returnComplete .., e => .of_held (execReturnComplete_frame e) rfl (execReturnComplete_held e h)
  | .frameReceived .., e => .of_held (execFrameReceived_frame e) rfl (execFrameReceived_held e h)
  | .linkInfo .., e => .of_held (execLinkInfo_frame e) rfl (execLinkInfo_held e h)
  | .portSignalDetect .., e => .of_held (execPortSignalDetect_frame e) rfl (execPortSignalDetect_held e h)
  | .portTrainDone .., e => .of_held (execPortTrainDone_frame e) rfl (execPortTrainDone_held e h)
  | .portAlignDone .., e => .of_held (execPortAlignDone_frame e) rfl (execPortAlignDone_held e h)
  | .portStateTimeout .., e => .of_held (execPortStateTimeout_frame e) rfl (execPortStateTimeout_held e h)
  | .portRetrain _ cause, e => .of_held (execPortRetrain_frame (a1 := cause) e) rfl (execPortRetrain_held (_cause := cause) e h)
  | .portDown .., e => .of_held (execPortDown_frame e) rfl (execPortDown_held e h)
  | .read .., e => .of_counters (execRead_counters e) (execRead_frame e) rfl (execRead_held e h)
  | .flush .., e => .of_counters (execFlush_counters e) (execFlush_frame e) rfl (execFlush_held e h)
  | .readData .., e => .of_held (execReadData_frame e) rfl (execReadData_held e h)
  | .readFault .., e => .of_held (execReadFault_frame e) rfl (execReadFault_held e h)
  | .flushDone .., e => .of_held (execFlushDone_frame e) rfl (execFlushDone_held e h)
  | .write .., e => .of_held (execWrite_frame e) rfl (execWrite_held e h)
  | .ready .., e => .of_held (execReady_frame e) rfl (execReady_held e h)
  | .abort .., e => .of_held (execAbort_frame e) rfl (execAbort_held e h)
  | .counts .., e => .of_held (execCounts_frame e) rfl (execCounts_held e h)
  | .announce .., e => .of_held (execAnnounce_frame e) rfl (execAnnounce_held e h)
  | .hold .., e => .of_held (execHold_frame e) rfl (execHold_held e h)
  | .epoch .., e => .of_held (execEpoch_frame e) rfl (execEpoch_held e h)
  | .epochAck .., e => .of_held (execEpochAck_frame e) rfl (execEpochAck_held e h)
  | .border .., e => .of_held (execBorder_frame e) rfl (execBorder_held e h)
  | .groupCommit .., e => .of_held (execGroupCommit_frame e) rfl (execGroupCommit_held e h)
  | .groupOutcomeUnknown .., e => .of_held (execGroupOutcomeUnknown_frame e) rfl (execGroupOutcomeUnknown_held e h)
  | .groupEntryExpired .., e => .of_held (execGroupEntryExpired_frame e) rfl (execGroupEntryExpired_held e h)
  | .quiescenceLimit .., e => .of_held (execQuiescenceLimit_frame e) rfl (execQuiescenceLimit_held e h)
  | .partitionApply .., e => .of_held (execPartitionApply_frame e) rfl (execPartitionApply_held e h)
  | .partitionDrained .., e => .of_held (execPartitionDrained_frame e) rfl (execPartitionDrained_held e h)
  | .borderWaitTimeout .., e => .of_held (execBorderWaitTimeout_frame e) rfl (execBorderWaitTimeout_held e h)
  | .laneTestInterval .., e => .of_held (execLaneTestInterval_frame e) rfl (execLaneTestInterval_held e h)
  | .laneTestDwellEnd .., e => .of_held (execLaneTestDwellEnd_frame e) rfl (execLaneTestDwellEnd_held e h)
  | .portLaneTest .., e => .of_held (execPortLaneTest_frame e) rfl (execPortLaneTest_held e h)
  | .portLaneTestEnd .., e => .of_held (execPortLaneTestEnd_frame e) rfl (execPortLaneTestEnd_held e h)
  | .kopRead .., e => .of_held (execKopRead_frame e) rfl (execKopRead_held e h)
  | .kopWrite .., e => .of_held (execKopWrite_frame e) rfl (execKopWrite_held e h)
  | .kopDescribe .., e => .of_held (execKopDescribe_frame e) rfl (execKopDescribe_held e h)
  | .kopNext .., e => .of_held (execKopNext_frame e) rfl (execKopNext_held e h)
  | .managementDatagram .., e => .of_held (execManagementDatagram_frame e) rfl (execManagementDatagram_held e h)
  | .arpRequest .., e => .of_frame (execArpRequest_frame e) rfl h
  | .icmpEcho .., e => .of_frame (execIcmpEcho_frame e) rfl h
  | .serviceBusSegment .., e => .of_held (execServiceBusSegment_frame e) rfl (execServiceBusSegment_held e h)
  | .serviceBusSegmentTimeout .., e => .of_frame (execServiceBusSegmentTimeout_frame e) rfl h
  | .sbStatusPeriod .., e => .of_frame (execSbStatusPeriod_frame e) rfl h
  | .roleChallenge .., e => .of_held (execRoleChallenge_frame e) rfl (execRoleChallenge_held e h)
  | .roleResponse .., e => .of_held (execRoleResponse_frame e) rfl (execRoleResponse_held e h)
  | .roleDrop .., e => .of_held (execRoleDrop_frame e) rfl (execRoleDrop_held e h)
  | .roleLeaseExpired .., e => .of_frame (execRoleLeaseExpired_frame e) rfl h
  | .profileSave .., e => .of_held (execProfileSave_frame e) rfl (execProfileSave_held e h)
  | .profileAutosave .., e => .of_frame (execProfileAutosave_frame e) rfl h
  | .profileImage .., e => .of_held (execProfileImage_frame e) rfl (execProfileImage_held e h)
  | .profileErase .., e => .of_held (execProfileErase_frame e) rfl (execProfileErase_held e h)
  | .ctxReset .., e => .of_held (execCtxReset_frame e) rfl (execCtxReset_held e h)
  | .contextResetEnd .., e => .of_held (execContextResetEnd_frame e) rfl (execContextResetEnd_held e h)
  | .recoverRequest .., e => .of_held (execRecoverRequest_frame e) rfl (execRecoverRequest_held e h)
  | .recoveryTimeout .., e => .of_held (execRecoveryTimeout_frame e) rfl (execRecoveryTimeout_held e h)
  | .snapshotRelease .., e => .of_held (execSnapshotRelease_frame e) rfl (execSnapshotRelease_held e h)
  | .healthAck .., e => .of_held (execHealthAck_frame e) rfl (execHealthAck_held e h)
  | .healthMask .., e => .of_held (execHealthMask_frame e) rfl (execHealthMask_held e h)
  | .basecampTakeover .., e => .of_held (execBasecampTakeover_frame e) rfl (execBasecampTakeover_held e h)
  | .coreRotatePeriod .., e => .of_frame (execCoreRotatePeriod_frame e) rfl h
  | .coreRotation .., e => .of_frame (execCoreRotation_frame e) rfl h
  | .rotationTestEnd .., e => .of_frame (execRotationTestEnd_frame e) rfl h
  | .testRequestCluster .., e => .of_held (execTestRequestCluster_frame e) rfl (execTestRequestCluster_held e h)
  | .testRequestRotate .., e => .of_held (execTestRequestRotate_frame e) rfl (execTestRequestRotate_held e h)
  | .clusterTestEnd .., e => .of_held (execClusterTestEnd_frame e) rfl (execClusterTestEnd_held e h)
  | .lifeAccumulate .., e => .of_frame (execLifeAccumulate_frame e) rfl h
  | .perturbEnable .., e => .of_held (execPerturbEnable_frame e) rfl (execPerturbEnable_held e h)
  | .perturbSlots .., e => .of_held (execPerturbSlots_frame e) rfl (execPerturbSlots_held e h)
  | .clusterPointReq .., e => .of_held (execClusterPointReq_frame e) rfl (execClusterPointReq_held e h)
  | .clusterPointTransition .., e => .of_frame (execClusterPointTransition_frame e) rfl h
  | .clusterIdle .., e => .of_frame (execClusterIdle_frame e) rfl h
  | .powerCapCheck .., e => .of_frame (execPowerCapCheck_frame e) rfl h
  | .vinCmpLimitCheck .., e => .of_frame (execVinCmpLimitCheck_frame e) rfl h
  | .temperatureDifferenceCheck .., e => .of_frame (execTemperatureDifferenceCheck_frame e) rfl h
  | .thermalSensorRead .., e => .of_held (execThermalSensorRead_frame e) rfl (execThermalSensorRead_held e h)
  | .sensorFailed .., e => .of_frame (execSensorFailed_frame e) rfl h
  | .portRetrainActive .., e => .of_held (execPortRetrainActive_frame e) rfl (execPortRetrainActive_held e h)
  | .frameTransmit .., e => .of_held (execFrameTransmit_frame e) rfl (execFrameTransmit_held e h)
  | .waitTimeout .., e => .of_frame (execWaitTimeout_frame e) rfl h
  | .managementLinkDown .., e => .of_frame (execManagementLinkDown_frame e) rfl h
  | .refclkLinkRestored .., e => .of_held (execRefclkLinkRestored_frame e) rfl (execRefclkLinkRestored_held e h)
  | .refclkPcieRestored .., e => .of_frame (execRefclkPcieRestored_frame e) rfl h
  | .canRxdRecessiveResume .., e => .of_frame (execCanRxdRecessiveResume_frame e) rfl h
  | .tckEdge .., e => .of_frame (execTckEdge_frame e) rfl h
  | .trstNAssert, e => .of_frame (execTrstNAssert_frame e) rfl h
  | .profileSaveDone .., e => .of_frame (execProfileSaveDone_frame e) rfl h

/-- Settles O10: nothing at a counter waits when the accesses that waited are performed, and every other command's frame
leaves the counters and owners out. -/
theorem countersWrittenBy : Obligations.CountersWrittenBy := by
  refine ⟨fun c s u h e => ?_, fun c s u h e => (exec_syncKept h e).held, nofun⟩
  obtain ⟨-, counters, owners⟩ := exec_syncKept h e
  refine ⟨fun no n => ?_, fun no n => ?_⟩
  · rw [State.counter, counters no, State.counter]
  · rw [State.ownerOf, owners no, State.ownerOf]

end Sys2Proof.Machine
end

section
/-! SUPPORT. The Cadence Unit's rows (R394-R404): what an input event, a missing period, Holdover and a frame mark leave of the
unit. -/
namespace Sys2Proof.Machine

/-! ### Input events and missing periods -/

theorem State.perturbed_of_idle {s : State} (idle : s.perturbing = false) (target index sub c : Nat) (delay : Bool) :
    s.perturbed target index sub c delay = (s, 0) := by
  simp [State.perturbed, idle]

theorem execCadenceInputEvent_of_powered {s : State} (t : Nat) (sync : Bool) (on : s.powered = true) :
    execCadenceInputEvent t sync s = .next ((s.at t).inputEvent t sync) := congrArg _ (if_pos on)

theorem State.inputEvent_of_inWindow {s : State} {t : Nat} (sync : Bool) (input : s.cdu.mode ≠ 2) (tracks : s.cdu.tracking = true)
    (idle : s.perturbing = false) (inside : s.cdu.inWindow t = true) :
    s.inputEvent t sync = { s with cdu := s.cdu.accept t 0 sync } := by
  simp [State.inputEvent, input, tracks, inside, State.perturbed_of_idle idle]

theorem State.inputEvent_of_outside {s : State} {t : Nat} (sync : Bool) (input : s.cdu.mode ≠ 2) (tracks : s.cdu.tracking = true)
    (outside : s.cdu.inWindow t = false) : s.inputEvent t sync = s.dbump 0x30A0 8 0 32 := by
  simp [State.inputEvent, input, tracks, outside]

/-- The first candidate alone does not lead to Pull-in (R399). -/
theorem State.inputEvent_of_first {s : State} (t : Nat) (sync : Bool) (input : s.cdu.mode ≠ 2) (free : s.cdu.tracking = false)
    (first : s.cdu.edges = []) : s.inputEvent t sync = { s with cdu := { s.cdu with edges := [t], lastSync := sync } } := by
  simp [State.inputEvent, input, free, first, Cdu.goodEdges]

theorem execCadencePeriodMissing_of_closed {s : State} {t : Nat} (on : s.powered = true) (tracks : s.cdu.tracking = true)
    (input : s.cdu.mode ≠ 2) (closed : s.cdu.windowClosed t = true) (fits : s.dget 0x30A0 7 + 1 < 2 ^ 32) :
    execCadencePeriodMissing t s = .next { (s.at t).dset 0x30A0 7 0 (s.dget 0x30A0 7 + 1) with
      cdu := { s.cdu.sampled t with missing := s.cdu.missing + 1, predicted := s.cdu.predicted + s.cdu.period } } := by
  rw [execCadencePeriodMissing, if_pos (by simp [on, tracks, input, closed]), State.dbump_of_fits (s := s.at t) fits]
  rfl

/-! ### Holdover -/

/-- The unit in Holdover, before what remains of the tick in progress runs at the new rate (R398, R407). -/
def Cdu.inHoldover (c : Cdu) (t since : Nat) : Cdu :=
  { c with
    state := 3, holdover := true
    range := c.range || c.outOfRange
    noInput := c.noInput || decide (4 ≤ c.missing) || (c.outOfRange && decide (0 < c.missing))
    freePeriod := c.holdoverPeriod t
    edges := [], offset := 0, lengthen := 0, heldSince := since }

/-- The state in which Holdover is logged. -/
def State.holding (s : State) (t : Nat) : State :=
  ({ s.at t with cdu := (s.cdu.inHoldover t (max s.uptime t)).rerate (t * atto) s.cdu.tickPeriod } : State).dbump 0x30A0 6 0 32

theorem execHoldoverEntry_of_lost {s : State} (t : Nat) (on : s.powered = true) (tracks : s.cdu.tracking = true)
    (lost : 4 ≤ s.cdu.missing ∨ s.cdu.outOfRange = true) :
    execHoldoverEntry t s = .next ((s.holding t).event 5 1 0 (s.holding t).cduFlags) :=
  congrArg _ (if_pos (by simpa [on, tracks] using lost))

/-- A new rate inside a tick moves its due time and its fraction alone (R403). -/
theorem Cdu.rerate_eq (c : Cdu) (at_ old : Nat) :
    ∃ base time due, c.rerate at_ old = { c with fracBase := base, fracTime := time, due := due } := by
  unfold Cdu.rerate
  split_ifs
  · exact ⟨_, _, _, rfl⟩
  · exact ⟨_, _, _, rfl⟩

theorem State.cdu_holdover (s : State) (t detail : Nat) :
    ((s.holding t).event 5 1 0 detail).cdu = (s.cdu.inHoldover t (max s.uptime t)).rerate (t * atto) s.cdu.tickPeriod :=
  ((State.event_frame ..).keeps .cdu rfl).trans ((State.dbump_frame ..).keeps .cdu rfl)

/-! ### Frame marks -/

theorem execCadenceSyncMark_of_due {s : State} {off : Nat} (t : Nat) (on : s.powered = true) (samples : s.cdu.mode = 1)
    (locked : s.cdu.state = 2) (due : s.cdu.markDue = some off) :
    execCadenceSyncMark t s = .next ((s.at t).checkMark off) := by
  simp [execCadenceSyncMark, on, samples, locked, due]

/-- A mark on the boundary agrees: nothing of earlier marks is left (R401). -/
theorem State.checkMark_zero (s : State) : s.checkMark 0 =
    { s with cdu := { s.cdu with markDue := none, syncMismatch := false, lastMark := none, firstMark := false } } := rfl

/-- The first mark since Locked, and one that disagrees as the last one did, move the boundary (R401). -/
theorem State.checkMark_of_moved {s : State} {off : Nat} (off0 : off ≠ 0)
    (moved : s.cdu.firstMark = true ∨ s.cdu.lastMark = some off) : s.checkMark off =
    { s.dbump 0x30A0 9 0 32 with cdu :=
      { s.cdu with markDue := none, syncMismatch := false, lastMark := none, firstMark := false,
                   lengthen := (s.cdu.lengthen + off) % s.cdu.spt } } := by
  rw [State.checkMark, if_neg off0, if_pos (by simpa using moved)]

end Sys2Proof.Machine
end

section
/-! SUPPORT. Conditioned ticks (R394, R399, R402): a tick that is due is counted, the PLL turns, and every loop that is to launch on it
takes it. -/
namespace Sys2Proof.Machine

/-! ### The stages of a tick -/

/-- The tick that is due has been counted. -/
def State.ticking (s : State) (t : Nat) : State :=
  { (s.at t).holdTime with cdu := (s.at t).holdTime.cdu.counted (s.cdu.tickAt t) }

/-- A counted tick turns the unit: Acquiring begins, Pull-in goes on, or the next tick is due a period later. -/
def State.turned (s : State) (at_ : Nat) : State :=
  if s.cdu.applyDue then { s.acquire with cdu := s.acquire.cdu.nextDue at_ 0 }
  else if s.cdu.state = 1 then s.pullIn at_
  else { s with cdu := s.cdu.nextDue at_ 0 }

/-- The unit Locked at a tick (R399, R401). -/
def Cdu.lockAt (c : Cdu) (at_ : Nat) : Cdu :=
  { c with
    state := 2, offset := 0, holdover := false, range := false, noInput := false
    lockedAt := at_ / atto, locked := [], extra := 0, firstMark := true, lastMark := none
    sampleIndex := if 2 * c.predicted < 2 * at_ + c.period then 0 else 1 }

/-- The state in which the lock is logged. -/
def State.lockAt (s : State) (at_ : Nat) : State :=
  { s with cdu := (s.cdu.lockAt at_).nextDue at_ (s.cdu.pullOffset at_) }

theorem execCadenceTick_of_due {s : State} {t : Nat} (on : s.powered = true) (due : s.cdu.tickAt t ≤ t * atto) :
    execCadenceTick t s = .next (((s.ticking t).turned (s.cdu.tickAt t)).launchTicks
      ((s.ticking t).turned (s.cdu.tickAt t)).cdu.tick ((s.ticking t).turned (s.cdu.tickAt t)).cdu.tickTime) :=
  congrArg _ (if_pos (by simp [on, due]))

theorem execCadenceTick_of_early {s : State} {t : Nat} (early : s.powered = false ∨ t * atto < s.cdu.tickAt t) :
    execCadenceTick t s = .next s :=
  congrArg _ (if_neg (by simpa [Classical.or_iff_not_imp_left] using early))

theorem State.pullIn_of_near {s : State} {at_ : Nat} (near : (s.cdu.pullOffset at_).natAbs ≤ 100 * atto) :
    s.pullIn at_ = (s.lockAt at_).event 5 2 0 (s.lockAt at_).cduFlags := if_pos near

theorem State.pullIn_of_far {s : State} {at_ : Nat} (far : 100 * atto < (s.cdu.pullOffset at_).natAbs) :
    s.pullIn at_ = { s with cdu :=
      { s.cdu with offset := s.cdu.pullOffset at_ }.nextDue at_ (s.cdu.slew (s.cdu.pullOffset at_)) } :=
  if_neg (Nat.not_le.mpr far)

theorem State.cdu_pullIn_of_near {s : State} {at_ : Nat} (near : (s.cdu.pullOffset at_).natAbs ≤ 100 * atto) :
    (s.pullIn at_).cdu = (s.lockAt at_).cdu := by
  rw [State.pullIn_of_near near]
  exact (State.event_frame ..).keeps .cdu rfl

/-! ### What the stages leave -/

theorem State.holdTime_of_state {s : State} (acquired : s.cdu.state ≠ 0) (locked : s.cdu.state ≠ 3) : s.holdTime = s :=
  if_neg (by simp [acquired, locked])

/-- Counting the time held sets only when it was last counted. -/
theorem State.cdu_holdTime (s : State) : ∃ since, s.holdTime.cdu = { s.cdu with heldSince := since } := by
  unfold State.holdTime
  split_ifs
  · exact ⟨_, rfl⟩
  · exact ⟨_, rfl⟩

theorem State.cdu_ticking (s : State) (t : Nat) :
    ∃ since, (s.ticking t).cdu = { s.cdu.counted (s.cdu.tickAt t) with heldSince := since } := by
  obtain ⟨since, eq⟩ := (s.at t).cdu_holdTime
  exact ⟨since, congrArg (Cdu.counted · _) eq⟩

/-- The tick counted where no time in Acquiring or Holdover is. -/
def State.countedAt (s : State) (t : Nat) : State := { s.at t with cdu := s.cdu.counted (s.cdu.tickAt t) }

theorem State.ticking_of_state {s : State} (t : Nat) (acquired : s.cdu.state ≠ 0) (locked : s.cdu.state ≠ 3) :
    s.ticking t = s.countedAt t := by
  rw [State.ticking, State.holdTime_of_state (s := s.at t) acquired locked]
  rfl

theorem State.ticking_frame (s : State) (t : Nat) : Frame [.free, .uptime, .cdu, .entries] s (s.ticking t) :=
  Frame.set_cdu _ rfl (Frame.step (State.holdTime_frame ..) rfl (Frame.mono (State.at_frame ..) rfl))

theorem State.countedAt_frame (s : State) (t : Nat) : Frame [.uptime, .cdu] s (s.countedAt t) :=
  Frame.set_cdu _ rfl (Frame.mono (State.at_frame ..) rfl)

theorem State.turned_frame (s : State) (at_ : Nat) :
    Frame [.free, .out, .cdu, .entries, .msix, .health] s (s.turned at_) :=
  .ite (Frame.set_cdu _ rfl (Frame.mono (State.acquire_frame ..) rfl))
    (.ite (State.pullIn_frame ..) (Frame.set_cdu _ rfl (Frame.refl _ _)))

/-- The turn leaves the number of the tick and its time. -/
theorem State.turned_counts (s : State) (at_ : Nat) : (s.turned at_).cdu.tick = s.cdu.tick ∧
    (s.turned at_).cdu.tickTime = s.cdu.tickTime ∧ (s.turned at_).cdu.ticked = s.cdu.ticked := by
  unfold State.turned
  split_ifs
  · exact ⟨rfl, rfl, rfl⟩
  · rcases Nat.lt_or_ge (100 * atto) (s.cdu.pullOffset at_).natAbs with far | near
    · rw [State.pullIn_of_far far]
      exact ⟨rfl, rfl, rfl⟩
    · rw [State.cdu_pullIn_of_near near]
      exact ⟨rfl, rfl, rfl⟩
  · exact ⟨rfl, rfl, rfl⟩

/-- A staged configuration is taken at the tick (R395, R407). -/
theorem State.turned_of_applyDue {s : State} (at_ : Nat) (staged : s.cdu.applyDue = true) :
    (s.turned at_).cdu.applyDue = false ∧ (s.turned at_).cdu.state = if s.cdu.mode = 2 then 4 else 0 := by
  rw [State.turned, if_pos staged]
  exact ⟨rfl, rfl⟩

theorem State.turned_of_running {s : State} (at_ : Nat) (unstaged : s.cdu.applyDue = false) (state : s.cdu.state ≠ 1) :
    s.turned at_ = { s with cdu := s.cdu.nextDue at_ 0 } := by
  rw [State.turned, if_neg (by simp [unstaged]), if_neg state]

theorem State.turned_of_pullIn {s : State} (at_ : Nat) (unstaged : s.cdu.applyDue = false) (state : s.cdu.state = 1) :
    s.turned at_ = s.pullIn at_ := by
  rw [State.turned, if_neg (by simp [unstaged]), if_pos state]

/-- Whether an event is in the log rests on the log and the uptime alone. -/
theorem logged_of_frame {g : List Zone} {s u : State} (k : Frame g s u) (health : g.contains .health = false)
    (uptime : g.contains .uptime = false) (type code subject : Nat) :
    Logged u type code subject = Logged s type code subject := by
  have log : u.health = s.health := k.keeps .health health
  have time : u.uptime = s.uptime := k.keeps .uptime uptime
  rw [Logged, log, time, Logged]

/-! ### Loops -/

theorem State.cdu_launchTicks (s : State) (n t : Nat) : (s.launchTicks n t).cdu = s.cdu :=
  (State.launchTicks_frame ..).keeps .cdu rfl

/-- Every enabled loop ring whose context is not fenced has taken the tick (R375, R573). -/
theorem State.loopTick_mem_launchTicks {s : State} {kv : Nat × Loop} (n t : Nat) (listed : kv ∈ s.hif.loops)
    (serving : s.serving = true) (enabled : (s.ring kv.1).enable = true) (loop : (s.ring kv.1).loop = true)
    (unfenced : s.fenced (s.ring kv.1).ctx.toNat = false) : (kv.1, loopTick kv.2 n t) ∈ (s.launchTicks n t).hif.loops := by
  rw [State.launchTicks, if_pos serving]
  exact List.mem_map.mpr ⟨kv, listed, by simp [enabled, loop, unfenced]⟩

/-- What decides whether a loop takes a tick stands outside the zones of the stages. -/
theorem State.loopTick_mem_of_frame {g : List Zone} {s v : State} (k : Frame g s v) (dev : g.contains .dev = false)
    (rings : g.contains .rings = false) (loops : g.contains .loops = false) (ctxs : g.contains .ctxs = false)
    {kv : Nat × Loop} (n t : Nat) (listed : kv ∈ s.hif.loops) (serving : s.serving = true)
    (enabled : (s.ring kv.1).enable = true) (loop : (s.ring kv.1).loop = true)
    (unfenced : s.fenced (s.ring kv.1).ctx.toNat = false) : (kv.1, loopTick kv.2 n t) ∈ (v.launchTicks n t).hif.loops := by
  have ring := State.ring_of_frame k rings kv.1
  have fenced := State.fenced_of_ctxs (congrArg Ctxs.resets (k.keeps .ctxs ctxs))
  have mode : v.dev = s.dev := k.keeps .dev dev
  have table : v.hif.loops = s.hif.loops := k.keeps .loops loops
  refine State.loopTick_mem_launchTicks n t (table ▸ listed) ?_ (ring ▸ enabled) (ring ▸ loop) ?_
  · rwa [State.serving, mode]
  · rwa [ring, fenced]

end Sys2Proof.Machine
end

section
/-! SUPPORT. The end of an accounting epoch (R381, R391): each context's account is closed, and its usage reported. -/
namespace Sys2Proof.Machine

/-! ### Entries of the contexts -/

theorem State.cget_cput_of_ne {s : State} (can : Canonical s) {c k j c' k' j' : Nat} (w v : Nat)
    (ne : ckey c' k' j' ≠ ckey c k j) : (s.cput c k j w v).cget c' k' j' = s.cget c' k' j' := by
  unfold State.cput
  split_ifs
  · exact State.cget_cset_of_ne can _ ne
  · exact State.cget_cset_of_ne (s := s.fresh.2) (s.fresh_frame.canonical can) _ ne

theorem State.cget_cput_same {s : State} (can : Canonical s) {c : Nat} (tenant : c < 256) (k j : Nat) {w v : Nat}
    (fits : v < 2 ^ w) : (s.cput c k j w v).cget c k j = v := by
  rw [State.cput, if_pos fits, State.cget_cset_same can tenant]

/-! ### Accounts -/

/-- A write of an account that is not the empty one is what it then reads, in whatever order the accounts stand. -/
theorem State.account_setAccount_of_ne_default (s : State) (c : Nat) {a : Account} (ne : a ≠ {}) :
    (s.setAccount c a).account c = a := by
  rw [State.account, State.setAccount, tset, if_neg ne, tget_tput_same]

theorem State.account_setAccount (s : State) (c j : Nat) (a : Account) (sorted : tsorted none s.ctxs.accounts = true) :
    (s.setAccount c a).account j = if j = c then a else s.account j := tget_tset _ _ _ _ _ sorted

theorem State.account_of_ctxs {s t : State} (h : t.ctxs = s.ctxs) (c : Nat) : t.account c = s.account c := by
  rw [State.account, h, State.account]

/-- An account at the end of an epoch: the sums of the epoch begin anew, and a SHARE that waited for it is in force. -/
def Account.closed (a : Account) : Account :=
  { a with usage := 0, poolUsage := 0, sumT := 0, sumB := 0, sumWg := 0, sumWi := 0, maxSlow := 0
           shareDue := if a.shareAtStep then a.shareDue else none }

/-! ### The usage entry -/

/-- A canonical state in which a context's usage of the last epoch reads as in another one. -/
structure UsageKept (j : Nat) (s t : State) : Prop where
  canonical : Canonical t
  reads : t.cget j 2 3 = s.cget j 2 3

/-- An entry k.sub of some context is not a usage of the last epoch. -/
def notUsage (k sub : Nat) : Bool := decide (k < 16) && decide (sub < 256) && !(decide (k = 2) && decide (sub = 3))

theorem usageKey_ne {k sub : Nat} (other : notUsage k sub = true) (j c : Nat) : ckey j 2 3 ≠ ckey c k sub := by
  simp only [notUsage, Bool.and_eq_true, decide_eq_true_eq, Bool.not_eq_true', Bool.and_eq_false_iff, decide_eq_false_iff_not] at other
  unfold ckey
  omega

namespace UsageKept
variable {j : Nat} {s t : State} (h : UsageKept j s t) (c : Nat)
include h

theorem cset {k sub : Nat} (v : Nat) (other : notUsage k sub = true) : UsageKept j s (t.cset c k sub v) :=
  ⟨(State.cset_frame ..).canonical h.canonical, (State.cget_cset_of_ne h.canonical v (usageKey_ne other j c)).trans h.reads⟩

theorem cput {k sub : Nat} (w v : Nat) (other : notUsage k sub = true) : UsageKept j s (t.cput c k sub w v) :=
  ⟨(State.cput_frame ..).canonical h.canonical, (State.cget_cput_of_ne h.canonical w v (usageKey_ne other j c)).trans h.reads⟩

theorem setAccount (a : Account) : UsageKept j s (t.setAccount c a) :=
  ⟨(State.setAccount_frame ..).canonical h.canonical, h.reads⟩

theorem report : UsageKept j s (t.report c) :=
  ((((h.cput c _ _ rfl).cput c _ _ rfl).cput c _ _ rfl).cput c _ _ rfl).cput c _ _ rfl

end UsageKept

/-! ### One context -/

/-- The SHARE that waits for the end of the epoch (R384). -/
def Account.shareAtEpoch (a : Account) : Option Nat := if a.shareAtStep then none else a.shareDue

/-- A SHARE comes into force. -/
def State.shareTaken (s : State) (c : Nat) : Option Nat → State
  | some v => s.cset c 1 2 v
  | none => s

/-- The values of the epoch other than the usage are shown. -/
def State.epochShown (s : State) (c : Nat) (a : Account) : State :=
  (((s.cput c 3 1 32 (if a.sumB = 0 then 1024 else 1024 * a.sumT / a.sumB)).cput
    c 3 2 32 (if a.sumB = 0 then 1024 else a.maxSlow)).cput c 3 3 64 (a.sumWg / 1000)).cput c 3 4 64 (a.sumWi / 1000)

/-- What follows the usage at the end of a context's epoch: the other values, a SHARE that waited, and the account that begins
anew. -/
def State.epochRest (s : State) (c : Nat) (a : Account) : State :=
  (((s.epochShown c a).shareTaken c a.shareAtEpoch).setAccount c a.closed).report c

theorem State.endEpochOf_eq (s : State) (c : Nat) :
    s.endEpochOf c = (s.cput c 2 3 64 ((s.account c).usage / 1000)).epochRest c (s.account c) := by
  unfold State.endEpochOf State.epochRest State.shareTaken
  rfl

theorem State.epochShown_frame (s : State) (c : Nat) (a : Account) : Frame [.free, .ctxEntries] s (s.epochShown c a) :=
  Frame.step (State.cput_frame ..) rfl <| Frame.step (State.cput_frame ..) rfl <| Frame.step (State.cput_frame ..) rfl <|
    State.cput_frame ..

theorem State.shareTaken_frame (s : State) (c : Nat) : ∀ due, Frame [.ctxEntries] s (s.shareTaken c due)
  | some _ => State.cset_frame ..
  | none => Frame.refl _ s

theorem UsageKept.epochRest {j : Nat} {s t : State} (h : UsageKept j s t) (c : Nat) (a : Account) :
    UsageKept j s (t.epochRest c a) := by
  have shown : UsageKept j s (t.epochShown c a) := (((h.cput c _ _ rfl).cput c _ _ rfl).cput c _ _ rfl).cput c _ _ rfl
  refine UsageKept.report (UsageKept.setAccount ?_ c _) c
  cases a.shareAtEpoch with
  | some v => exact shown.cset c v rfl
  | none => exact shown

/-- The end of a context's epoch leaves the usage of every other one. -/
theorem State.endEpochOf_usageKept {s : State} (can : Canonical s) {c j : Nat} (ne : j ≠ c) :
    UsageKept j s (s.endEpochOf c) := by
  rw [State.endEpochOf_eq]
  exact UsageKept.epochRest
    ⟨(State.cput_frame ..).canonical can, State.cget_cput_of_ne can _ _ (by unfold ckey; omega)⟩ c _

/-- The context's own usage entry shows the usage of the epoch in whole core-µs. -/
theorem State.cget_endEpochOf_usage {s : State} (can : Canonical s) {c : Nat} (tenant : c < 256)
    (fits : (s.account c).usage / 1000 < 2 ^ 64) : (s.endEpochOf c).cget c 2 3 = (s.account c).usage / 1000 := by
  rw [State.endEpochOf_eq, (UsageKept.epochRest ⟨(State.cput_frame ..).canonical can, rfl⟩ c (s.account c)).reads,
    State.cget_cput_same can tenant 2 3 fits]

theorem State.ctxs_endEpochOf (s : State) (c : Nat) :
    (s.endEpochOf c).ctxs = (s.setAccount c (s.account c).closed).ctxs := by
  have before (a : Account) : (((s.cput c 2 3 64 (a.usage / 1000)).epochShown c a).shareTaken c a.shareAtEpoch).ctxs = s.ctxs :=
    ((State.shareTaken_frame ..).keeps .ctxs rfl).trans
      (((State.epochShown_frame ..).keeps .ctxs rfl).trans ((State.cput_frame ..).keeps .ctxs rfl))
  rw [State.endEpochOf_eq, State.epochRest, (State.report_frame ..).keeps .ctxs rfl]
  simp only [State.setAccount, before]

/-! ### Every context -/

/-- The first n contexts have ended the epoch that began in a state. -/
structure EpochEnded (s : State) (n : Nat) (u : State) : Prop where
  canonical : Canonical u
  sorted : tsorted none u.ctxs.accounts = true
  closed : ∀ c < n, u.account c = (s.account c).closed
  running : ∀ c, n ≤ c → u.account c = s.account c
  shown : ∀ c < n, (s.account c).usage / 1000 < 2 ^ 64 → u.cget c 2 3 = (s.account c).usage / 1000

theorem EpochEnded.begin {s : State} (can : Canonical s) (sorted : tsorted none s.ctxs.accounts = true) :
    EpochEnded s 0 s := ⟨can, sorted, nofun, fun _ _ => rfl, nofun⟩

theorem EpochEnded.next {s u : State} {n : Nat} (h : EpochEnded s n u) (tenant : n < 256) :
    EpochEnded s (n + 1) (u.endEpochOf n) := by
  have mine : u.account n = s.account n := h.running n (Nat.le_refl n)
  have account (c : Nat) : (u.endEpochOf n).account c = if c = n then (s.account n).closed else u.account c := by
    rw [State.account_of_ctxs (State.ctxs_endEpochOf u n), State.account_setAccount _ _ _ _ h.sorted, mine]
  refine ⟨(State.endEpochOf_frame ..).canonical h.canonical, ?_, fun c lt => ?_, fun c le => ?_, fun c lt fits => ?_⟩
  · rw [State.ctxs_endEpochOf]
    exact tsorted_tset _ _ _ _ h.sorted
  · rw [account]
    split_ifs with same
    · rw [same]
    · exact h.closed c (by omega)
  · rw [account, if_neg (by omega)]
    exact h.running c (by omega)
  · by_cases same : c = n
    · subst same
      rw [State.cget_endEpochOf_usage h.canonical tenant (mine ▸ fits), mine]
    · rw [(State.endEpochOf_usageKept h.canonical same).reads]
      exact h.shown c (by omega) fits

theorem EpochEnded.all {s : State} (can : Canonical s) (sorted : tsorted none s.ctxs.accounts = true) :
    ∀ n ≤ 256, EpochEnded s n ((List.range n).foldl State.endEpochOf s)
  | 0, _ => .begin can sorted
  | n + 1, le => by
    rw [List.range_succ, List.foldl_append]
    exact (EpochEnded.all can sorted n (by omega)).next (by omega)

/-- The state in which the epoch's end is noted. -/
def State.epochNoted (s : State) (t : Nat) : State :=
  { s.at t with cdu := { s.cdu with epochTick := some s.cdu.tick }, ctxs := { s.ctxs with epochEnded := true } }

theorem execEpochEnd_of_due {s : State} (t : Nat) (serving : s.serving = true) (ticked : s.cdu.ticked = true)
    (multiple : s.cdu.tick % s.dget 0x2300 2 = 0) (once : s.cdu.epochTick ≠ some s.cdu.tick) :
    execEpochEnd t s = .next ((List.range 256).foldl State.endEpochOf (s.epochNoted t)) :=
  congrArg _ (if_pos (by simp [serving, ticked, multiple, once]))

theorem State.epochNoted_canonical {s : State} (can : Canonical s) (t : Nat) : Canonical (s.epochNoted t) :=
  (Frame.set_cdu_ctxs (g := [.uptime, .cdu, .ctxs]) _ _ rfl rfl (Frame.mono (State.at_frame s t) rfl)).canonical can

theorem State.cdu_endEpoch (l : List Nat) (s : State) : (l.foldl State.endEpochOf s).cdu = s.cdu :=
  (Frame.foldl l (fun s c => s.endEpochOf_frame c) (Frame.refl _ s)).keeps .cdu rfl

end Sys2Proof.Machine
end

section
/-! SUPPORT. The Cadence Unit's rows: the clauses of the obligation. -/
namespace Sys2Proof.Machine

/-- Settles O18: each row where its condition holds is its stage above; a tick goes through its count, the turn and the loops. -/
theorem cadence : Obligations.Cadence := by
  unfold Obligations.Cadence
  refine ⟨fun t sync s on input tracks idle inside => ?accept, fun t sync s can on input tracks outside fits => ?outside,
    fun t sync s on input free first => ?first, fun t s can on tracks input closed fits => ?missing,
    fun t s on tracks lost => ?holdover, fun t s on samples locked due => ?agrees,
    fun t off s on samples locked due off0 moved => ?moves, fun t s on due => ?tick,
    fun t s can serving ticked multiple once sorted => ?epoch, fun t c s on due counted unstaged state => ?free,
    fun t c s on due counted unstaged state far => ?far, fun t c s on due counted unstaged state near => ?near,
    fun t s early => ⟨s, execCadenceTick_of_early early, rfl, Frame.refl _ s⟩⟩
  case accept =>
    exact ⟨_, (execCadenceInputEvent_of_powered t sync on).trans
      (congrArg _ (State.inputEvent_of_inWindow (s := s.at t) sync input tracks idle inside)), rfl, rfl,
      Frame.set_cdu _ rfl (Frame.mono (State.at_frame ..) rfl)⟩
  case outside =>
    have can' : Canonical (s.at t) := (State.at_frame s t).canonical can
    refine ⟨_, (execCadenceInputEvent_of_powered t sync on).trans (congrArg _ ((State.inputEvent_of_outside (s := s.at t)
      sync input tracks outside).trans (State.dbump_of_fits (s := s.at t) fits))), State.dget_dset_same can' .., ?_⟩
    exact Frame.step (State.dset_frame ..) rfl (Frame.mono (State.at_frame ..) rfl)
  case first =>
    exact ⟨_, (execCadenceInputEvent_of_powered t sync on).trans
      (congrArg _ (State.inputEvent_of_first (s := s.at t) t sync input free first)), rfl,
      Frame.set_cdu _ rfl (Frame.mono (State.at_frame ..) rfl)⟩
  case missing =>
    have can' : Canonical (s.at t) := (State.at_frame s t).canonical can
    exact ⟨_, execCadencePeriodMissing_of_closed on tracks input closed fits, rfl,
      State.dget_dset_same can' 0x30A0 7 0 (s.dget 0x30A0 7 + 1),
      Frame.set_cdu _ rfl (Frame.step (State.dset_frame ..) rfl (Frame.mono (State.at_frame ..) rfl))⟩
  case holdover =>
    have run : exec (.holdoverEntry t) s = _ := execHoldoverEntry_of_lost t on tracks lost
    obtain ⟨base, time, due, rerated⟩ := (s.cdu.inHoldover t (max s.uptime t)).rerate_eq (t * atto) s.cdu.tickPeriod
    refine ⟨_, run, ?_⟩
    rw [State.cdu_holdover, rerated]
    exact ⟨rfl, rfl, rfl, rfl, rfl, rfl, rfl, rfl, State.logged_event _ (by decide) .., execHoldoverEntry_frame run⟩
  case agrees =>
    exact ⟨_, (execCadenceSyncMark_of_due t on samples locked due).trans (congrArg _ (State.checkMark_zero _)), rfl,
      Frame.set_cdu _ rfl (Frame.mono (State.at_frame ..) rfl)⟩
  case moves =>
    have run : exec (.cadenceSyncMark t) s = _ := execCadenceSyncMark_of_due t on samples locked due
    refine ⟨_, run, ?_, execCadenceSyncMark_frame run⟩
    rw [State.checkMark_of_moved (s := s.at t) off0 moved]
    rfl
  case tick =>
    have run : exec (.cadenceTick t) s = _ := execCadenceTick_of_due on due
    obtain ⟨since, counted⟩ := s.cdu_ticking t
    obtain ⟨tick, tickTime, ticked⟩ := (s.ticking t).turned_counts (s.cdu.tickAt t)
    rw [counted] at tick tickTime ticked
    refine ⟨_, run, ?_, ?_, ?_, fun staged => ?_, fun kv listed serving enabled loop unfenced => ?_, execCadenceTick_frame run⟩
    · rw [State.cdu_launchTicks, tick]
      rfl
    · rw [State.cdu_launchTicks, tickTime]
      rfl
    · rw [State.cdu_launchTicks, ticked]
      rfl
    · have taken := State.turned_of_applyDue (s := s.ticking t) (s.cdu.tickAt t) (by rw [counted]; exact staged)
      rw [counted] at taken
      rw [State.cdu_launchTicks]
      exact taken
    · rw [State.cdu_launchTicks]
      exact State.loopTick_mem_of_frame (Frame.step (State.turned_frame ..) rfl
        (Frame.mono (g := [.free, .out, .uptime, .cdu, .entries, .msix, .health]) (State.ticking_frame ..) rfl)) rfl rfl rfl rfl
        _ _ listed serving enabled loop unfenced
  case epoch =>
    have run : exec (.epochEnd t) s = _ := execEpochEnd_of_due t serving ticked multiple once
    have ended := EpochEnded.all (State.epochNoted_canonical can t) sorted 256 (Nat.le_refl _)
    refine ⟨_, run, State.cdu_endEpoch .., fun c tenant => ?_, ended.shown, execEpochEnd_frame run⟩
    rw [ended.closed c tenant]
    exact ⟨rfl, rfl, rfl, rfl⟩
  case free =>
    subst counted
    have run : exec (.cadenceTick t) s = _ := execCadenceTick_of_due on due
    have other : s.cdu.state ≠ 1 := by omega
    rw [State.ticking_of_state t (by omega) (by omega), State.turned_of_running (s := s.countedAt t) _ unstaged other] at run
    exact ⟨_, run, State.cdu_launchTicks .., Frame.step (State.launchTicks_frame ..) rfl
      (Frame.set_cdu _ rfl (Frame.mono (State.countedAt_frame ..) rfl))⟩
  case far =>
    subst counted
    have run : exec (.cadenceTick t) s = _ := execCadenceTick_of_due on due
    rw [State.ticking_of_state t (by omega) (by omega), State.turned_of_pullIn (s := s.countedAt t) _ unstaged state,
      State.pullIn_of_far (s := s.countedAt t) far] at run
    exact ⟨_, run, State.cdu_launchTicks .., Frame.step (State.launchTicks_frame ..) rfl
      (Frame.set_cdu _ rfl (Frame.mono (State.countedAt_frame ..) rfl))⟩
  case near =>
    subst counted
    have run : exec (.cadenceTick t) s = _ := execCadenceTick_of_due on due
    rw [State.ticking_of_state t (by omega) (by omega), State.turned_of_pullIn (s := s.countedAt t) _ unstaged state] at run
    have locked := fun n time => (State.cdu_launchTicks ((s.countedAt t).pullIn (s.cdu.tickAt t)) n time).trans
      (State.cdu_pullIn_of_near (s := s.countedAt t) near)
    refine ⟨_, run, congrArg Cdu.state (locked ..), congrArg Cdu.holdover (locked ..), congrArg Cdu.noInput (locked ..),
      congrArg Cdu.range (locked ..), congrArg Cdu.firstMark (locked ..), ?_, ?_, execCadenceTick_frame run⟩
    · rw [locked]
      rfl
    · rw [logged_of_frame (State.launchTicks_frame ..) rfl rfl, State.pullIn_of_near (s := s.countedAt t) near]
      exact State.logged_event _ (by decide) ..

end Sys2Proof.Machine
end

section
/-! SUPPORT. A WRITE of one element of the dictionary (R503, R511-R514) that its requester may make: it is refused by a check of the
element and leaves the device as it was, or it has the element's effect. -/
namespace Sys2Proof.Machine

/-! ### Bytes -/

theorem leNat_leBytes {n v : Nat} (fits : v < 256 ^ n) : leNat (leBytes n v) = v := by
  induction n generalizing v with
  | zero => exact (Nat.lt_one_iff.mp fits).symm
  | succ n ih =>
    have rest : v / 256 < 256 ^ n := Nat.div_lt_of_lt_mul (by rwa [Nat.pow_succ'] at fits)
    rw [leBytes, leNat, ih rest, BitVec.toNat_ofNat]
    omega

theorem Entry.part_leBytes {e : Entry} (scalar : e.type ≠ 9) (v : Nat) : e.part (leBytes e.size v) 0 = leBytes e.size v := by
  rw [Entry.part, if_neg scalar, slice, Nat.zero_mul, List.drop_zero, List.take_of_length_le (leBytes_length ..).le]

/-- RESULT is the fourth byte of a response (R511). -/
theorem KopRsp.result_pdu (p : KopRsp) (op seq : Nat) : byteAt (p.pdu op seq) 3 = p.result % 256 := rfl

/-! ### The elements of a WRITE -/

/-- A WRITE names one element of an entry that can be written. -/
structure WritesOne (index sub type off : Nat) (data : Bytes) (e : Entry) : Prop where
  found : findEntry index sub = some e
  writable : 2 ≤ e.access
  one : ∀ q : KopReq, q.type = type → q.offset = off → q.data = data → writeCount e q = .ok 1

theorem State.writeAll_of_refused {s : State} {m : Bool} {e : Entry} {index off : Nat} {data : Bytes} {w : Written}
    (elem : s.writeElem m e index off (e.part data 0) = w) (refused : w.2 ≠ kOk) :
    s.writeAll m e index off data 1 = (w, off) := by
  have first : s.firstRefused m e index off data 1 = some (off, w) := by
    simp [State.firstRefused, List.range_succ, elem, refused]
  rw [State.writeAll, first]

theorem State.writeAll_of_written {s t : State} {m : Bool} {e : Entry} {index off : Nat} {data : Bytes}
    (elem : s.writeElem m e index off (e.part data 0) = (t, kOk)) :
    s.writeAll m e index off data 1 = ((if e.access = 4 then t.noteSaved else t, kOk), off) := by
  have none : s.firstRefused m e index off data 1 = none := by
    simp [State.firstRefused, List.range_succ, elem]
  rw [State.writeAll, none]
  simp [List.range_succ, elem]

/-! ### The request -/

/-- The response of a request is kept. -/
def State.answered (s : State) (rsp : Bytes) : State := { s with kop := { s.kop with response := rsp } }

theorem State.answered_frame (s : State) (rsp : Bytes) : Frame [.kop] s (s.answered rsp) :=
  Frame.set_kop _ rfl (Frame.refl _ s)

/-- What a WRITE of one element does on a device that admits it. -/
def State.written (s : State) (r : Requester) (e : Entry) (index off : Nat) (data : Bytes) : Written :=
  (s.writeAll (decide (Requester.class r = 2)) e index off data 1).1

theorem State.kopServe_of_admitted {s : State} {r : Requester} {q : KopReq} {e : Entry} (write : q.op = 2)
    (may : s.admits r q.index q.sub = true) (row : WritesOne q.index q.sub q.type q.offset q.data e) :
    ∃ p, s.kopServe r q = ((s.written r e q.index q.offset q.data).1, p) ∧
      p.result = (s.written r e q.index q.offset q.data).2 := by
  simp only [State.admits, Bool.and_eq_true, Bool.not_eq_true', Bool.or_eq_true] at may
  obtain ⟨⟨⟨-, idle⟩, there⟩, allowed⟩ := may
  have reads : mayRead r q.index = true := by
    simp only [State.mayWrite, Bool.and_eq_true] at allowed
    exact allowed.1.2
  have cls : Requester.class r ≠ 3 := fun bus => by simp [State.mayWrite, classWrites, bus] at allowed
  have reached : ¬((q.op ≠ 3 ∧ s.onlyAlwaysOn ∧ !alwaysOn q.index) ∨ (q.op = 1 ∧ s.entryOff q.index)) := by
    rcases there with free | always
    · simp [write, free]
    · simp [write, always]
  have serve : s.kopServe r q = s.kopWriteOp r e q := by
    rw [State.kopServe, if_neg (by simp [idle]), if_neg (by omega), row.found]
    dsimp only
    rw [State.kopEntry, if_neg (fun bus => cls bus.2), if_neg reached, if_neg (by simp [reads]), if_neg (by omega),
      if_pos write]
  rw [serve, State.kopWriteOp, if_neg (Nat.not_lt.mpr row.writable), if_neg (by simp [allowed]), row.one q rfl rfl rfl]
  exact ⟨_, rfl, rfl⟩

theorem State.writeEntry_of_unreached {s : State} {r : Requester} (far : s.reaches r = false) (index sub type off : Nat)
    (data : Bytes) : s.writeEntry r index sub type off data = s := by
  rw [State.writeEntry, State.request', if_neg (by simp [far])]

/-- A WRITE that is admitted leaves what its element's write leaves, and its RESULT. -/
theorem State.writeEntry_of_admitted {s : State} {r : Requester} {index sub type off : Nat} {data : Bytes} {e : Entry}
    (may : s.admits r index sub = true) (row : WritesOne index sub type off data e) :
    ∃ rsp, s.writeEntry r index sub type off data = (s.written r e index off data).1.answered rsp ∧
      byteAt rsp 3 = (s.written r e index off data).2 % 256 := by
  have reaches : s.reaches r = true := by
    simp only [State.admits, Bool.and_eq_true] at may
    exact may.1.1.1
  obtain ⟨p, serve, result⟩ := State.kopServe_of_admitted (s := s)
    (q := { op := 2, index := index, sub := sub, type := type, length := data.length, offset := off, data := data }) rfl may row
  refine ⟨p.pdu 2 0, ?_, by rw [KopRsp.result_pdu, result]⟩
  rw [State.writeEntry, State.request', if_pos reaches, serve]
  rfl

/-- A WRITE whose element fails a check leaves the device as it was, but for its response. -/
theorem State.writeEntry_of_refused {s : State} {r : Requester} {index sub type off code : Nat} {data : Bytes} {e : Entry}
    (may : s.admits r index sub = true) (row : WritesOne index sub type off data e)
    (elem : ∀ m, s.writeElem m e index off (e.part data 0) = (s, code)) (refused : code ≠ kOk) (byte : code < 256) :
    (s.writeEntry r index sub type off data).result = code ∧ Frame [.kop] s (s.writeEntry r index sub type off data) := by
  obtain ⟨rsp, eq, result⟩ := State.writeEntry_of_admitted may row
  rw [State.written, State.writeAll_of_refused (elem _) refused] at eq result
  rw [eq]
  exact ⟨result.trans (Nat.mod_eq_of_lt byte), State.answered_frame ..⟩

section
variable {s : State} {r : Requester} {index sub type off code : Nat} {data : Bytes} {e : Entry}
  (may : s.admits r index sub = true) (row : WritesOne index sub type off data e)
  (elem : ∀ m, s.writeElem m e index off (e.part data 0) = (s, code)) (refused : code ≠ kOk) (byte : code < 256)
include may row elem refused byte

theorem State.next_of_refused :
    ∃ u, (.next (s.writeEntry r index sub type off data) : Host.Outcome State Fault Refusal) = .next u ∧
      u.result = code ∧ u.dict = s.dict ∧ Frame [.kop] s u := by
  obtain ⟨result, k⟩ := State.writeEntry_of_refused may row elem refused byte
  exact ⟨_, rfl, result, k.keeps .entries rfl, k⟩

theorem State.next_of_context_refused :
    ∃ u, (.next (s.writeEntry r index sub type off data) : Host.Outcome State Fault Refusal) = .next u ∧
      u.result = code ∧ u.cdict = s.cdict ∧ Frame [.kop] s u := by
  obtain ⟨result, k⟩ := State.writeEntry_of_refused may row elem refused byte
  exact ⟨_, rfl, result, k.keeps .ctxEntries rfl, k⟩

end

/-- The note of an entry that a profile saves goes with its write. -/
theorem State.writeEntry_of_written {s t : State} {r : Requester} {index sub type off : Nat} {data : Bytes} {e : Entry}
    (may : s.admits r index sub = true) (row : WritesOne index sub type off data e)
    (elem : ∀ m, s.writeElem m e index off (e.part data 0) = (t, kOk)) :
    ∃ rsp, s.writeEntry r index sub type off data = (if e.access = 4 then t.noteSaved else t).answered rsp ∧
      (s.writeEntry r index sub type off data).result = kOk := by
  obtain ⟨rsp, eq, result⟩ := State.writeEntry_of_admitted may row
  rw [State.written, State.writeAll_of_written (elem _)] at eq result
  exact ⟨rsp, eq, by rw [eq]; exact result⟩

/-- A WRITE whose element passes its checks leaves the element's effect and its response. -/
theorem State.writeEntry_of_unsaved {s t : State} {r : Requester} {index sub type off : Nat} {data : Bytes} {e : Entry}
    (may : s.admits r index sub = true) (row : WritesOne index sub type off data e)
    (elem : ∀ m, s.writeElem m e index off (e.part data 0) = (t, kOk)) (unsaved : e.access ≠ 4) :
    ∃ rsp, s.writeEntry r index sub type off data = t.answered rsp ∧
      (s.writeEntry r index sub type off data).result = kOk := by
  simpa only [if_neg unsaved] using State.writeEntry_of_written may row elem

/-- A value of an entry of the device that a profile saves is what the entry then reads, and the profile is noted as changed (R534). -/
theorem State.writeEntry_of_saved {s : State} {r : Requester} {index sub type off v : Nat} {data : Bytes} {e : Entry}
    (can : Canonical s) (may : s.admits r index sub = true) (row : WritesOne index sub type off data e)
    (elem : ∀ m, s.writeElem m e index off (e.part data 0) = (s.dset index sub off v, kOk)) (saved : e.access = 4)
    (ne : dkey index sub off ≠ dkey 0x2000 7 0) :
    let u := s.writeEntry r index sub type off data
    u.result = kOk ∧ u.dget index sub off = v ∧ u.dget 0x2000 7 = 1 ∧ u.kop.lastWrite = s.uptime ∧
      Frame [.entries, .kop] s u := by
  obtain ⟨rsp, eq, result⟩ := State.writeEntry_of_written may row elem
  rw [if_pos saved] at eq
  have can' : Canonical (s.dset index sub off v) := (State.dset_frame ..).canonical can
  have noted : Canonical { s.dset index sub off v with kop := { s.kop with lastWrite := s.uptime } } :=
    (Frame.set_kop (g := [.kop]) _ rfl (Frame.refl _ _)).canonical can'
  refine ⟨result, ?_⟩
  rw [eq]
  refine ⟨?_, State.dget_dset_same noted 0x2000 7 0 1, rfl, Frame.step (State.answered_frame ..) rfl
    (Frame.step (State.noteSaved_frame ..) rfl (Frame.mono (State.dset_frame ..) rfl))⟩
  exact (State.dget_dset_of_ne noted 1 ne).trans (State.dget_dset_same can ..)

end Sys2Proof.Machine
end

section
/-! SUPPORT. The entries CLUSTER_ASSIGN, POOL, BIVOUAC_VA, SHARE and POOL_SLACK (R365, R366, R368, R384, R393): where the dictionary
holds them, and what a write of one of their elements is. -/
namespace Sys2Proof.Machine

def clusterAssignEntry : Entry := ⟨0x2300, 1, 10, 4, 64, 2, some (0, 65535), []⟩
def poolSlackEntry : Entry := ⟨0x2300, 3, 10, 4, 16, 4, some (0, 4000000000), []⟩
def shareEntry : Entry := ⟨0x4001, 1, 3, 2, 1, 2, some (1, 65535), []⟩
def poolEntry : Entry := ⟨0x4001, 3, 2, 2, 1, 1, some (0, 15), [255]⟩
def bivouacVaEntry : Entry := ⟨0x4001, 4, 5, 2, 1, 8, some (0, 0xffffffffffffffff), []⟩

/-! ### Where they stand -/

/-- The blocks of the contexts share the rows of the table (R538). -/
theorem findEntry_of_context {c k : Nat} (tenant : c < 256) (block : k < 16) (sub : Nat) :
    findEntry (0x4000 + k + c * 16) sub = findEntry (0x4000 + k) sub := by
  have base : baseIndex (0x4000 + k + c * 16) = baseIndex (0x4000 + k) := by
    rw [baseIndex, if_pos (by omega), baseIndex, if_pos (by omega)]
    omega
  unfold findEntry highestSub
  rw [base]

theorem clusterAssign_writesOne (cl : ClusterId) (v : Nat) :
    WritesOne 0x2300 1 10 cl.val (leBytes 2 v) clusterAssignEntry where
  found := by decide
  writable := by decide
  one q type off data := by
    simp [writeCount, clusterAssignEntry, type, off, data, leBytes_length]

theorem poolSlack_writesOne (p : Fin 16) (v : Nat) : WritesOne 0x2300 3 10 p.val (leBytes 4 v) poolSlackEntry where
  found := by decide
  writable := by decide
  one q type off data := by
    simp [writeCount, poolSlackEntry, type, off, data, leBytes_length]

theorem share_writesOne (c : Fin 256) (v : Nat) : WritesOne (0x4001 + c.val * 16) 1 3 0 (leBytes 2 v) shareEntry where
  found := (findEntry_of_context (k := 1) c.isLt (by decide) 1).trans (by decide)
  writable := by decide
  one q type off data := by simp [writeCount, shareEntry, type, off, data, leBytes_length]

theorem pool_writesOne (c : Fin 256) (v : BitVec 8) : WritesOne (0x4001 + c.val * 16) 3 2 0 [v] poolEntry where
  found := (findEntry_of_context (k := 1) c.isLt (by decide) 3).trans (by decide)
  writable := by decide
  one q type off data := by simp [writeCount, poolEntry, type, off, data]

theorem bivouacVa_writesOne (c : Fin 256) (v : Nat) :
    WritesOne (0x4001 + c.val * 16) 4 5 0 (leBytes 8 v) bivouacVaEntry where
  found := (findEntry_of_context (k := 1) c.isLt (by decide) 4).trans (by decide)
  writable := by decide
  one q type off data := by simp [writeCount, bivouacVaEntry, type, off, data, leBytes_length]

/-! ### Their ranges -/

theorem clusterAssignEntry_allows {v : Nat} (lt : v < 2 ^ 16) : clusterAssignEntry.allows v = assignOk v := by
  simp [Entry.allows, Entry.inRange, clusterAssignEntry, show v ≤ 65535 by omega]

theorem poolSlackEntry_allows (v : Nat) : poolSlackEntry.allows v = decide (v ≤ 4000000000) := by
  simp [Entry.allows, Entry.inRange, poolSlackEntry]

theorem shareEntry_allows {v : Nat} (lt : v < 2 ^ 16) : shareEntry.allows v = decide (v ≠ 0) := by
  simp [Entry.allows, Entry.inRange, shareEntry, show v ≤ 65535 by omega, Nat.one_le_iff_ne_zero]

theorem poolEntry_allows (v : Nat) : poolEntry.allows v = decide (v < 16 ∨ v = 0xFF) := by
  simp [Entry.allows, Entry.inRange, poolEntry, Nat.lt_succ_iff, Bool.or_comm]

theorem bivouacVaEntry_allows {v : Nat} (lt : v < 2 ^ 64) : bivouacVaEntry.allows v = bulkOrZero v (2 ^ 21) := by
  simp [Entry.allows, Entry.inRange, bivouacVaEntry, show v ≤ 0xffffffffffffffff by omega]

/-! ### What a write of an element is -/

theorem Entry.leNat_part {e : Entry} {v : Nat} (scalar : e.type ≠ 9) (fits : v < 256 ^ e.size) :
    leNat (e.part (leBytes e.size v) 0) = v := by
  rw [Entry.part_leBytes scalar, leNat_leBytes fits]

/-- The context of an index in its block. -/
theorem context_of_index (c : Nat) : (0x4001 + c * 16 - 0x4000) / 16 = c := by omega

section
variable (s : State) (m : Bool)

theorem State.writeElem_clusterAssign (cl : Nat) (v : BitVec 16) :
    s.writeElem m clusterAssignEntry 0x2300 cl (clusterAssignEntry.part (leBytes 2 v.toNat) 0) =
      if assignOk v.toNat = false then (s, kRange) else s.writeClusterAssign cl v.toNat := by
  have value := Entry.leNat_part (e := clusterAssignEntry) (by decide) v.isLt
  have range := clusterAssignEntry_allows v.isLt
  simp only [clusterAssignEntry] at value range
  simp [State.writeElem, clusterAssignEntry, State.writeDevice, value, range]

theorem State.writeElem_poolSlack (p : Nat) (v : BitVec 32) :
    s.writeElem m poolSlackEntry 0x2300 p (poolSlackEntry.part (leBytes 4 v.toNat) 0) =
      if 4000000000 < v.toNat then (s, kRange) else s.writePoolSlack p v.toNat := by
  have value := Entry.leNat_part (e := poolSlackEntry) (by decide) v.isLt
  have range := poolSlackEntry_allows v.toNat
  simp only [poolSlackEntry] at value range
  simp [State.writeElem, poolSlackEntry, State.writeDevice, value, range]

theorem State.writeElem_share (c : Nat) (v : BitVec 16) :
    s.writeElem m shareEntry (0x4001 + c * 16) 0 (shareEntry.part (leBytes 2 v.toNat) 0) =
      if v.toNat = 0 then (s, kRange) else (s.writeShare c v.toNat, kOk) := by
  have value := Entry.leNat_part (e := shareEntry) (by decide) v.isLt
  have range := shareEntry_allows v.isLt
  simp only [shareEntry] at value range
  simp [State.writeElem, shareEntry, State.writeBlock, context_of_index, value, range]

theorem State.writeElem_pool (c : Nat) (v : BitVec 8) :
    s.writeElem m poolEntry (0x4001 + c * 16) 0 (poolEntry.part [v] 0) =
      if ¬(v.toNat < 16 ∨ v.toNat = 0xFF) then (s, kRange) else s.writePool c v.toNat := by
  have value : leNat (poolEntry.part [v] 0) = v.toNat := by simp [poolEntry, Entry.part, slice, leNat]
  have range := poolEntry_allows v.toNat
  simp only [poolEntry] at value range
  simp [State.writeElem, poolEntry, State.writeBlock, context_of_index, value, range]

theorem State.writeElem_bivouacVa (c : Nat) (v : BitVec 64) :
    s.writeElem m bivouacVaEntry (0x4001 + c * 16) 0 (bivouacVaEntry.part (leBytes 8 v.toNat) 0) =
      if bulkOrZero v.toNat (2 ^ 21) = false then (s, kRange) else s.writeBivouacVa c v.toNat := by
  have value := Entry.leNat_part (e := bivouacVaEntry) (by decide) v.isLt
  have range := bivouacVaEntry_allows v.isLt
  simp only [bivouacVaEntry] at value range
  simp [State.writeElem, bivouacVaEntry, State.writeBlock, context_of_index, value, range]

end

end Sys2Proof.Machine
end

section
/-! SUPPORT. Writes of CLUSTER_ASSIGN, POOL, BIVOUAC_VA and SHARE (R366, R368, R384): what each leaves, and what stands in its way. -/
namespace Sys2Proof.Machine

theorem optionAll_not {α : Type} (o : Option α) (f : α → Bool) : o.all (fun x => !f x) = !o.any f := by
  cases o <;> rfl

/-! ### Clusters -/

section
variable {s : State} {cl v : Nat}

theorem State.writeClusterAssign_of_free (free : s.routeFree cl = true) (still : s.stepOn cl = false)
    (unmapped : (poolNamed (s.assign cl)).all (fun p => !s.holderMaps p cl) = true)
    (unused : poolNamed (s.assign cl) = poolNamed v ∨
      ((poolNamed (s.assign cl)).all (fun p => !s.poolUsed p) = true ∧ (poolNamed v).all (fun p => !s.poolUsed p) = true)) :
    s.writeClusterAssign cl v = (s.dset 0x2300 1 cl v, kOk) := by
  simp only [optionAll_not, Bool.not_eq_true'] at unmapped unused
  refine if_neg ?_
  rcases unused with same | ⟨old, new⟩
  · simp [free, still, same ▸ unmapped, same]
  · simp [free, still, unmapped, old, new]

theorem State.writeClusterAssign_of_held (held : s.routeFree cl = false ∨ s.stepOn cl = true ∨
    (poolNamed (s.assign cl)).any (fun p => s.holderMaps p cl) = true) : s.writeClusterAssign cl v = (s, kState) := by
  refine if_pos ?_
  rcases held with route | step | maps
  · simp [route]
  · simp [step]
  · simp [maps]

theorem State.writeClusterAssign_of_moved (moved : poolNamed (s.assign cl) ≠ poolNamed v)
    (used : (poolNamed (s.assign cl)).any s.poolUsed = true ∨ (poolNamed v).any s.poolUsed = true) :
    s.writeClusterAssign cl v = (s, kState) := by
  refine if_pos ?_
  simp only [ne_eq, moved, not_false_eq_true, decide_true, Bool.true_and, Bool.or_eq_true]
  exact .inr used

end

/-! ### Pools and Bivouac areas -/

section
variable {s : State} {c v : Nat}

/-- The Bivouac copies of a context are void (R387). -/
def State.bivouacVoided (s : State) (c : Nat) : State :=
  { s with near := { s.near with bivouac := tclear s.near.bivouac (c * 32768) ((c + 1) * 32768) } }

theorem State.bivouacVoided_frame (s : State) (c : Nat) : Frame [.near] s (s.bivouacVoided c) :=
  Frame.set_near _ id (.inr rfl) (.inl rfl) (Frame.refl _ s)

/-- A context that is attached to no pool and waits for no grant takes the pool; a new one makes its Bivouac copies void (R368). -/
theorem State.writePool_of_detached (can : Canonical s) (tenant : c < 256) (detached : s.attached c = none)
    (idle : (s.cmds.any fun d => decide (d.ctx = c) && decide (d.stage = .grant)) = false)
    (area : s.cget c 1 4 ≠ 0 ∨ v = 0xFF) : ∃ t, s.writePool c v = (t, kOk) ∧ t.cget c 1 3 = v ∧
      (v ≠ s.cget c 1 3 → t.near.bivouac = tclear s.near.bivouac (c * 32768) ((c + 1) * 32768)) ∧
      Frame [.ctxEntries, .near] s t := by
  have allowed : s.writePool c v = if s.cget c 1 3 = v then (s, kOk) else
      ((s.bivouacVoided c).cset c 1 3 v, kOk) := by
    refine if_neg ?_
    rcases area with area | none
    · simp [detached, idle, area]
    · simp [detached, idle, none]
  have frame := State.writePool_frame s c v
  rw [allowed] at frame ⊢
  split_ifs at frame ⊢ with same
  · exact ⟨_, rfl, same, fun ne => absurd same.symm ne, frame⟩
  · refine ⟨_, rfl, State.cget_cset_same ((s.bivouacVoided_frame c).canonical can) tenant .., fun _ => ?_, frame⟩
    rw [State.cset, if_pos tenant]
    rfl

theorem State.writePool_of_busy (busy : (s.attached c).any (fun p => decide (s.holder p = some c)) = true ∨
    s.cmds.any (fun d => decide (d.ctx = c) && decide (d.stage = .grant)) = true ∨ (s.cget c 1 4 = 0 ∧ v ≠ 0xFF)) :
    s.writePool c v = (s, kState) := by
  refine if_pos ?_
  rcases busy with holds | waits | ⟨area, pool⟩
  · simp only [holds, Bool.or_true, Bool.true_or]
  · simp only [waits, Bool.or_true, Bool.true_or]
  · simp only [area, pool, ne_eq, not_false_eq_true, decide_true, Bool.and_true, Bool.or_true]

/-- A Route of the context on its pool keeps it there. -/
theorem State.writePool_of_route {p : Nat} (attached : s.attached c = some p)
    (route : s.array.routes.any (fun q => decide (q.ctx = c) && decide (s.poolOfFootprint q.footprint = some p)) = true) :
    s.writePool c v = (s, kState) := by
  refine if_pos ?_
  simp only [attached, Option.any_some, route, Bool.true_or]

theorem State.writeBivouacVa_of_unpooled (unpooled : s.cget c 1 3 = 0xFF) :
    s.writeBivouacVa c v = (s.cset c 1 4 v, kOk) := if_neg (not_not.mpr unpooled)

theorem State.writeBivouacVa_of_pooled (pooled : s.cget c 1 3 ≠ 0xFF) : s.writeBivouacVa c v = (s, kState) := if_pos pooled

end

/-! ### Shares -/

/-- The context's account with a SHARE that waits for the end of its step, or of the epoch, or for none. -/
def Account.withShare (a : Account) (due : Option Nat) (atStep : Bool) : Account :=
  { a with shareDue := due, shareAtStep := atStep }

theorem Account.withShare_ne_default (a : Account) (v : Nat) (atStep : Bool) : a.withShare (some v) atStep ≠ {} := fun eq =>
  nomatch (congrArg Account.shareDue eq : some v = none)

/-- The three cases of a write of SHARE (R384, R385), on the state before it. -/
theorem State.writeShare_eq {s : State} (can : Canonical s) (c v : Nat) : s.writeShare c v =
    if s.steps.any (fun q => decide (q.ctx = c) && q.launched) || s.switchingWith c then
      (s.cset c 1 1 v).setAccount c ((s.account c).withShare (some v) true)
    else if (s.attached c).any (fun p => decide (s.holder p = some c)) then
      ((s.cset c 1 1 v).setAccount c ((s.account c).withShare none false)).cset c 1 2 v
    else (s.cset c 1 1 v).setAccount c ((s.account c).withShare (some v) false) := by
  have k := State.cset_frame s c 1 1 v
  have ctxs : (s.cset c 1 1 v).ctxs = s.ctxs := k.keeps .ctxs rfl
  have steps : (s.cset c 1 1 v).steps = s.steps := k.keeps .steps rfl
  have account := State.account_of_ctxs ctxs c
  have switching : (s.cset c 1 1 v).switchingWith c = s.switchingWith c := by rw [State.switchingWith, ctxs, State.switchingWith]
  have attached : (s.cset c 1 1 v).attached c = s.attached c := by
    rw [State.attached, State.cget_cset_of_ne can v (by unfold ckey; omega), State.attached]
  have holder (p : Nat) : (s.cset c 1 1 v).holder p = s.holder p := by
    rw [State.holder, State.dget_of_frame k rfl, State.holder]
  unfold State.writeShare
  dsimp only
  rw [account, steps, switching, attached]
  cases s.attached c with
  | none => rfl
  | some p =>
    simp only [holder, Option.any_some]
    rfl

end Sys2Proof.Machine
end

section
/-! SUPPORT. Pools and shares: the clauses of the obligation. -/
namespace Sys2Proof.Machine

/-- An admitted write of SHARE leaves what writeShare leaves, and answers OK. -/
theorem execShare_of_admitted {s : State} {r : Requester} {c : Fin 256} {v : BitVec 16}
    (may : s.admits r (0x4001 + c.val * 16) 1 = true) (v0 : v ≠ 0) :
    ∃ rsp, exec (.share r c v) s = .next ((s.writeShare c.val v.toNat).answered rsp) ∧
      ((s.writeShare c.val v.toNat).answered rsp).result = kOk := by
  have ne : v.toNat ≠ 0 := fun eq => v0 (BitVec.eq_of_toNat_eq eq)
  obtain ⟨rsp, eq, result⟩ := State.writeEntry_of_unsaved may (share_writesOne c v.toNat)
    (fun m => (s.writeElem_share m c.val v).trans (if_neg ne)) (by decide)
  exact ⟨rsp, congrArg _ eq, eq ▸ result⟩

/-- A write of SHARE that waits leaves SHARE_ACTIVE, and the account says what it waits for (R384). -/
theorem State.writeShare_waits {s : State} (can : Canonical s) {c v : Nat} (tenant : c < 256) (atStep : Bool)
    (rsp : Bytes) :
    let u := ((s.cset c 1 1 v).setAccount c ((s.account c).withShare (some v) atStep)).answered rsp
    u.cget c 1 1 = v ∧ u.cget c 1 2 = s.cget c 1 2 ∧ u.account c = (s.account c).withShare (some v) atStep ∧
      Frame [.ctxEntries, .ctxs, .kop] s u :=
  ⟨State.cget_cset_same can tenant .., State.cget_cset_of_ne can v (by unfold ckey; omega),
    State.account_setAccount_of_ne_default _ _ (Account.withShare_ne_default _ _ _),
    Frame.step (State.answered_frame ..) rfl
      (Frame.step (State.setAccount_frame ..) rfl (Frame.mono (State.cset_frame ..) rfl))⟩

/-- A write of SHARE that is in force at once is also what SHARE_ACTIVE reads, and nothing waits (R384). -/
theorem State.writeShare_active {s : State} (can : Canonical s) {c v : Nat} (tenant : c < 256)
    (sorted : tsorted none s.ctxs.accounts = true) (rsp : Bytes) :
    let u := (((s.cset c 1 1 v).setAccount c ((s.account c).withShare none false)).cset c 1 2 v).answered rsp
    u.cget c 1 1 = v ∧ u.cget c 1 2 = v ∧ u.account c = (s.account c).withShare none false ∧
      Frame [.ctxEntries, .ctxs, .kop] s u := by
  have k := Frame.step (g := [.ctxEntries, .ctxs]) (State.setAccount_frame (s.cset c 1 1 v) c ((s.account c).withShare none false))
    rfl (Frame.mono (State.cset_frame s c 1 1 v) rfl)
  have ctxs : (s.cset c 1 1 v).ctxs = s.ctxs := (State.cset_frame ..).keeps .ctxs rfl
  refine ⟨?_, State.cget_cset_same (k.canonical can) tenant .., ?_,
    Frame.step (State.answered_frame ..) rfl (Frame.step (State.cset_frame ..) rfl (Frame.mono k rfl))⟩
  · exact (State.cget_cset_of_ne (k.canonical can) v (by unfold ckey; omega)).trans (State.cget_cset_same can tenant ..)
  · refine (State.account_of_ctxs ((State.cset_frame ..).keeps .ctxs rfl) c).trans ?_
    rw [State.account_setAccount _ _ _ _ (ctxs ▸ sorted), if_pos rfl]

/-- Settles O54: an admitted write is the write of its element, which its checks refuse or which has the effect above. -/
theorem poolsAndShares : Obligations.PoolsAndShares := by
  unfold Obligations.PoolsAndShares
  refine ⟨fun r cl v s can may ok free still unmapped unused => ?assign, fun r cl v s can may ok held => ?assignHeld,
    fun r cl v s can may ok moved used => ?assignMoved, fun r cl v s can may range => ?assignRange,
    fun r cl v s far => ⟨s, congrArg _ (State.writeEntry_of_unreached far ..), rfl, Frame.refl _ s⟩,
    fun r c v s can may ok detached idle area => ?pool, fun r c v s can may ok busy => ?poolBusy,
    fun r c v p s can may ok attached route => ?poolRoute, fun r c v s can may ge ne => ?poolRange,
    fun r c v s far => ⟨s, congrArg _ (State.writeEntry_of_unreached far ..), rfl, Frame.refl _ s⟩,
    fun r c v s can may ok unpooled => ?bivouac, fun r c v s can may ok pooled => ?bivouacPooled,
    fun r c v s can may range => ?bivouacRange,
    fun r c v s far => ⟨s, congrArg _ (State.writeEntry_of_unreached far ..), rfl, Frame.refl _ s⟩,
    fun r c v s can may v0 runs => ?shareRuns, fun r c v s can may v0 still settled holds sorted => ?shareHolds,
    fun r c v s can may v0 still settled waits => ?shareWaits, fun r c v s can may v0 => ?shareRange,
    fun r c v s far => ⟨s, congrArg _ (State.writeEntry_of_unreached far ..), rfl, Frame.refl _ s⟩,
    fun r p v s can may le => ?slack, fun r p v s can may gt => ?slackRange,
    fun r p v s far => ⟨s, congrArg _ (State.writeEntry_of_unreached far ..), rfl, Frame.refl _ s⟩⟩
  case assign =>
    exact ⟨_, rfl, State.writeEntry_of_saved can may (clusterAssign_writesOne cl v.toNat)
      (fun m => (s.writeElem_clusterAssign m cl v).trans
        ((if_neg (ne_false_of_eq_true ok)).trans (State.writeClusterAssign_of_free free still unmapped unused)))
      rfl (by unfold dkey; omega)⟩
  case assignHeld =>
    exact State.next_of_refused may (clusterAssign_writesOne cl v.toNat)
      (fun m => (s.writeElem_clusterAssign m cl v).trans
        ((if_neg (ne_false_of_eq_true ok)).trans (State.writeClusterAssign_of_held held))) (by decide) (by decide)
  case assignMoved =>
    exact State.next_of_refused may (clusterAssign_writesOne cl v.toNat)
      (fun m => (s.writeElem_clusterAssign m cl v).trans
        ((if_neg (ne_false_of_eq_true ok)).trans (State.writeClusterAssign_of_moved moved used))) (by decide) (by decide)
  case assignRange =>
    exact State.next_of_refused may (clusterAssign_writesOne cl v.toNat)
      (fun m => (s.writeElem_clusterAssign m cl v).trans (if_pos range)) (by decide) (by decide)
  case pool =>
    obtain ⟨t, written, value, voided, k⟩ := State.writePool_of_detached can c.isLt detached idle area
    obtain ⟨rsp, eq, result⟩ := State.writeEntry_of_unsaved may (pool_writesOne c v)
      (fun m => (s.writeElem_pool m c.val v).trans ((if_neg (not_not.mpr ok)).trans written)) (by decide)
    refine ⟨_, rfl, result, ?_⟩
    rw [eq]
    exact ⟨value, voided, Frame.step (State.answered_frame ..) rfl (Frame.mono k rfl)⟩
  case poolBusy =>
    exact State.next_of_context_refused may (pool_writesOne c v)
      (fun m => (s.writeElem_pool m c.val v).trans ((if_neg (not_not.mpr ok)).trans (State.writePool_of_busy busy)))
      (by decide) (by decide)
  case poolRoute =>
    exact State.next_of_context_refused may (pool_writesOne c v)
      (fun m => (s.writeElem_pool m c.val v).trans
        ((if_neg (not_not.mpr ok)).trans (State.writePool_of_route attached route))) (by decide) (by decide)
  case poolRange =>
    exact State.next_of_context_refused may (pool_writesOne c v)
      (fun m => (s.writeElem_pool m c.val v).trans (if_pos (by omega))) (by decide) (by decide)
  case bivouac =>
    obtain ⟨rsp, eq, result⟩ := State.writeEntry_of_unsaved may (bivouacVa_writesOne c v.toNat)
      (fun m => (s.writeElem_bivouacVa m c.val v).trans
        ((if_neg (ne_false_of_eq_true ok)).trans (State.writeBivouacVa_of_unpooled unpooled))) (by decide)
    refine ⟨_, rfl, result, ?_⟩
    rw [eq]
    exact ⟨State.cget_cset_same can c.isLt ..,
      Frame.step (State.answered_frame ..) rfl (Frame.mono (State.cset_frame ..) rfl)⟩
  case bivouacPooled =>
    exact State.next_of_context_refused may (bivouacVa_writesOne c v.toNat)
      (fun m => (s.writeElem_bivouacVa m c.val v).trans
        ((if_neg (ne_false_of_eq_true ok)).trans (State.writeBivouacVa_of_pooled pooled))) (by decide) (by decide)
  case bivouacRange =>
    exact State.next_of_context_refused may (bivouacVa_writesOne c v.toNat)
      (fun m => (s.writeElem_bivouacVa m c.val v).trans (if_pos range)) (by decide) (by decide)
  case shareRuns =>
    obtain ⟨rsp, run, result⟩ := execShare_of_admitted may v0
    rw [State.writeShare_eq can, if_pos (by simpa using runs)] at run result
    exact ⟨_, run, result, State.writeShare_waits can c.isLt true rsp⟩
  case shareHolds =>
    obtain ⟨rsp, run, result⟩ := execShare_of_admitted may v0
    rw [State.writeShare_eq can, if_neg (by simp [still, settled]), if_pos holds] at run result
    exact ⟨_, run, result, State.writeShare_active can c.isLt sorted rsp⟩
  case shareWaits =>
    obtain ⟨rsp, run, result⟩ := execShare_of_admitted may v0
    rw [State.writeShare_eq can, if_neg (by simp [still, settled]), if_neg (by simp [waits])] at run result
    exact ⟨_, run, result, State.writeShare_waits can c.isLt false rsp⟩
  case shareRange =>
    exact State.next_of_context_refused may (share_writesOne c v.toNat)
      (fun m => (s.writeElem_share m c.val v).trans (if_pos (by simp [v0]))) (by decide) (by decide)
  case slack =>
    exact ⟨_, rfl, State.writeEntry_of_saved can may (poolSlack_writesOne p v.toNat)
      (fun m => (s.writeElem_poolSlack m p.val v).trans (if_neg (by omega))) rfl (by unfold dkey; omega)⟩
  case slackRange =>
    exact State.next_of_refused may (poolSlack_writesOne p v.toNat)
      (fun m => (s.writeElem_poolSlack m p.val v).trans (if_pos gt)) (by decide) (by decide)

end Sys2Proof.Machine
end

section
/-! SUPPORT. The stamps of launches (R31, R375, R402): a tick adds its own number and time to the loops that it reaches, and nothing
else. -/
namespace Sys2Proof.Machine

theorem mem_pend_loopTick {l : Loop} {n t : Nat} {x : Stamp} (pends : x ∈ (loopTick l n t).pend) :
    x = ⟨n, t⟩ ∨ x ∈ l.pend := by
  unfold loopTick at pends
  split_ifs at pends
  · exact (List.mem_append.mp pends).symm.imp_left List.mem_singleton.mp
  · exact .inr pends
  · exact .inr pends

/-- A launch that pends after a tick is the tick's own, or pended on the same ring before it. -/
theorem State.mem_pend_launchTicks {s : State} {n t : Nat} {kv : Nat × Loop} {x : Stamp}
    (listed : kv ∈ (s.launchTicks n t).hif.loops) (pends : x ∈ kv.2.pend) :
    x = ⟨n, t⟩ ∨ ∃ ov ∈ s.hif.loops, ov.1 = kv.1 ∧ x ∈ ov.2.pend := by
  unfold State.launchTicks at listed
  split_ifs at listed
  · obtain ⟨ov, old, eq⟩ := List.mem_map.mp listed
    dsimp only at eq
    split_ifs at eq <;> subst eq
    · exact (mem_pend_loopTick pends).imp_right fun before => ⟨ov, old, rfl, before⟩
    · exact .inr ⟨ov, old, rfl, pends⟩
  · exact .inr ⟨kv, listed, rfl, pends⟩

theorem State.ticking_turned_frame (s : State) (t at_ : Nat) :
    Frame [.free, .out, .uptime, .cdu, .entries, .msix, .health] s ((s.ticking t).turned at_) :=
  Frame.step (State.turned_frame ..) rfl (Frame.mono (State.ticking_frame ..) rfl)

theorem State.uptime_holdTime (s : State) : s.holdTime.uptime = s.uptime := s.holdTime_frame.keeps .uptime rfl

/-- The uptime counter of a tick is no less than the time that the tick comes at. -/
theorem State.uptime_turned (s : State) (t at_ : Nat) : ((s.ticking t).turned at_).uptime = max s.uptime t :=
  ((State.turned_frame ..).keeps .uptime rfl).trans (State.uptime_holdTime (s.at t))

theorem State.cdu_riseSettled (s : State) : s.riseSettled.cdu = {} := s.riseSettled_frame.keeps .cdu rfl

/-- Settles O7: the count of the tick gives its number and time, which the turn leaves and the loops take; the rise of PWR_GOOD
leaves the unit as it is made. -/
theorem tickNumbers : Obligations.TickNumbers := by
  unfold Obligations.TickNumbers
  refine ⟨fun t s on due => ?tick, fun s off rails => ?rise⟩
  case tick =>
    obtain ⟨since, counted⟩ := s.cdu_ticking t
    obtain ⟨tick, tickTime, ticked⟩ := (s.ticking t).turned_counts (s.cdu.tickAt t)
    have loops : ((s.ticking t).turned (s.cdu.tickAt t)).hif.loops = s.hif.loops :=
      (s.ticking_turned_frame t _).keeps .loops rfl
    refine ⟨_, execCadenceTick_of_due on due, ?_⟩
    rw [State.cdu_launchTicks, (State.launchTicks_frame ..).keeps .uptime rfl, ← loops]
    refine ⟨?_, ?_, s.uptime_turned t _, ?_, fun kv listed x => State.mem_pend_launchTicks listed⟩
    · rw [ticked, counted]
      rfl
    · rw [tick, counted]
      rfl
    · rw [tickTime, counted]
      rfl
  case rise =>
    exact ⟨_, execPwrGoodRise_of_unpowered off rails, congrArg Cdu.ticked s.cdu_riseSettled⟩

end Sys2Proof.Machine
end

section
/-! SUPPORT. PARTITION_APPLY (R491, R632): the changing ports are fenced, and the move waits while one of them still has packets to
send. -/
namespace Sys2Proof.Machine

/-! ### What a border move reads of a port -/

/-- Whether a port carries packets, its part in a border move, and whether PORT_PARTITION_NEXT waits to be applied. -/
def Port.move (q : Port) : Bool × Nat × Bool := (q.carries, q.border, q.nextWritten)

/-- A fenced port is ready at once where it carries no packets. -/
def Port.fenced (q : Port) : Port := { q with nextWritten := false, border := if q.carries then 1 else 3 }

theorem Port.move_queue (q : Port) (k : Packet) : (q.queue k).move = q.move := by
  unfold Port.queue
  split <;> rfl

theorem Port.move_fenced (q : Port) : q.fenced.move = (q.carries, if q.carries then 1 else 3, false) := rfl

/-- A FLUSH goes to a device over a port that is to change. -/
def State.flushOver (p : Nat) (s : State) (d : Nat) : State :=
  (s.request p d 256 0 0 .partition).1.queuePacket p
    { type := 0x11, src := 0, dst := d, ctx := 256, epoch := (s.request p d 256 0 0 .partition).1.epochOf 256
      tag := (s.request p d 256 0 0 .partition).2 }

theorem State.fencePort_eq (s : State) (p : Nat) : s.fencePort p =
    if (s.port p).fenced.border = 1 then
      ((s.setPort p (s.port p).fenced).devicesOn p).foldl (State.flushOver p) (s.setPort p (s.port p).fenced)
    else s.setPort p (s.port p).fenced := rfl

/-- The ports of a list have been fenced since a state, and nothing else of a border move has changed. -/
structure Fencing (s : State) (ps : List Nat) (t : State) : Prop where
  sorted : tsorted none t.links.ports = true
  moving : t.links.moving = s.links.moving
  moves : ∀ j, (t.port j).move = if j ∈ ps then (s.port j).fenced.move else (s.port j).move

theorem State.port_of_ports {s t : State} (same : t.links.ports = s.links.ports) (j : Nat) : t.port j = s.port j := by
  rw [State.port, same, State.port]

namespace Fencing
variable {s t : State} {ps : List Nat} (h : Fencing s ps t)
include h

theorem carries (j : Nat) : (t.port j).carries = (s.port j).carries := by
  have first := congrArg Prod.fst (h.moves j)
  split_ifs at first <;> exact first

theorem border {j : Nat} (mem : j ∈ ps) : (t.port j).border = if (s.port j).carries then 1 else 3 := by
  have moves := h.moves j
  rw [if_pos mem] at moves
  exact congrArg (fun m => m.2.1) moves

theorem nextWritten (j : Nat) : (t.port j).nextWritten = if j ∈ ps then false else (s.port j).nextWritten := by
  have last := congrArg (fun m => m.2.2) (h.moves j)
  split_ifs at last ⊢ <;> exact last

theorem request (port d c va n : Nat) (asker : Asker) : Fencing s ps (t.request port d c va n asker).1 :=
  ⟨h.sorted, h.moving, h.moves⟩

theorem queuePacket (p : Nat) (k : Packet) : Fencing s ps (t.queuePacket p k) := by
  refine ⟨tsorted_tset _ _ _ _ h.sorted, h.moving, fun j => ?_⟩
  rw [State.queuePacket, State.port_setPort _ _ _ _ h.sorted, ← h.moves j]
  split_ifs with same
  · rw [Port.move_queue, same]
  · rfl

theorem setPort (p : Nat) : Fencing s (ps ++ [p]) (t.setPort p (t.port p).fenced) := by
  refine ⟨tsorted_tset _ _ _ _ h.sorted, h.moving, fun j => ?_⟩
  rw [State.port_setPort _ _ _ _ h.sorted]
  by_cases same : j = p
  · subst same
    rw [if_pos rfl, if_pos (by simp), Port.move_fenced, Port.move_fenced, h.carries]
  · rw [if_neg same, h.moves]
    simp only [List.mem_append, List.mem_singleton, same, or_false]

theorem fencePort (p : Nat) : Fencing s (ps ++ [p]) (t.fencePort p) := by
  rw [State.fencePort_eq]
  split_ifs
  · exact List.foldlRecOn _ _ (h.setPort p) fun _ k d _ => (k.request ..).queuePacket ..
  · exact h.setPort p

theorem fencePorts (qs : List Nat) : Fencing s (ps ++ qs) (qs.foldl State.fencePort t) := by
  induction qs generalizing ps t with
  | nil => rwa [List.append_nil]
  | cons q qs ih =>
    rw [List.append_cons]
    exact ih (h.fencePort q)

end Fencing

/-! ### The ports that change -/

theorem State.mem_changingPorts {s : State} {p : Nat} : p ∈ s.changingPorts ↔ p < 16 ∧ (s.port p).nextWritten = true := by
  simp [State.changingPorts]

/-- The mask of a move names the ports that change. -/
theorem State.bit_changingPorts {s : State} {p : Nat} :
    bit ((s.changingPorts.map (2 ^ ·)).foldl (· + ·) 0) p = true ↔ p ∈ s.changingPorts := by
  have ascending : s.changingPorts.SortedLT := (List.pairwise_lt_range.filter _).sortedLT
  rw [← List.sum_eq_foldl, bit, ← Nat.mem_bitIndices, Nat.bitIndices_sum_map_two_pow ascending]

/-- A move goes no further while a port of it is fenced and has not sent its BORDER (R491). -/
theorem State.settleBorder_of_fenced {s : State} {p : Nat} (fenced : s.dget 0x5000 12 = 1) (moves : p ∈ s.movingPorts)
    (waits : (s.port p).border = 1) : s.settleBorder = s := by
  have unready : (s.movingPorts.all fun p => decide ((s.port p).border = 0) ||
      (decide ((s.port p).border = 3) && (s.port p).borderSent)) = false :=
    List.all_eq_false.mpr ⟨p, moves, by simp [waits]⟩
  simp only [State.settleBorder, unready, fenced, Bool.false_eq_true, and_false, if_false, Nat.reduceEqDiff, false_and]

/-! ### The write -/

/-- The state in which a move has been accepted, before its ports are fenced. -/
def State.moveBegun (s : State) : State :=
  { s with links := { s.links with moving := (s.changingPorts.map (2 ^ ·)).foldl (· + ·) 0 } }.dset 0x5000 12 0 1

theorem State.writePartitionApply_of_blocked {s : State} (blocked : s.dget 0x5000 12 ≠ 0 ∨ s.groupBlocks s.changingPorts = true) :
    s.writePartitionApply = (s, kState) := if_pos blocked

/-- A move that fences a port which carries packets leaves the fence raised. -/
theorem State.writePartitionApply_of_carrying {s : State} (can : Canonical s) (idle : s.dget 0x5000 12 = 0)
    (unblocked : s.groupBlocks s.changingPorts = false)
    (carrying : s.changingPorts.any (fun p => (s.port p).carries) = true) (sorted : tsorted none s.links.ports = true) :
    ∃ t, s.writePartitionApply = (t, kOk) ∧ t.dget 0x5000 12 = 1 ∧
      t.links.moving = (s.changingPorts.map (2 ^ ·)).foldl (· + ·) 0 ∧ t.changingPorts = [] ∧ Frame [.entries, .links] s t := by
  have begun : Frame [.entries, .links] s s.moveBegun :=
    Frame.step (State.dset_frame ..) rfl (Frame.set_links _ rfl (Frame.refl _ s))
  have fencing : Fencing s.moveBegun s.changingPorts (s.changingPorts.foldl State.fencePort s.moveBegun) :=
    Fencing.fencePorts (s := s.moveBegun) (t := s.moveBegun) (ps := []) ⟨sorted, rfl, fun _ => rfl⟩ s.changingPorts
  have fences : Frame [.links] s.moveBegun (s.changingPorts.foldl State.fencePort s.moveBegun) :=
    Frame.foldl _ (fun s p => s.fencePort_frame p) (Frame.refl _ _)
  have run : s.writePartitionApply = ((s.changingPorts.foldl State.fencePort s.moveBegun).settleBorder, kOk) :=
    if_neg (by simp [idle, unblocked])
  generalize s.changingPorts.foldl State.fencePort s.moveBegun = t at fencing fences run
  have can' : Canonical { s with links := { s.links with moving := (s.changingPorts.map (2 ^ ·)).foldl (· + ·) 0 } } :=
    (Frame.set_links (g := [.links]) _ rfl (Frame.refl _ s)).canonical can
  have raised : t.dget 0x5000 12 = 1 := (State.dget_of_frame fences rfl ..).trans (State.dget_dset_same can' ..)
  obtain ⟨p, changes, carries⟩ := List.any_eq_true.mp carrying
  have moves : p ∈ t.movingPorts :=
    List.mem_filter.mpr ⟨List.mem_range.mpr (State.mem_changingPorts.mp changes).1,
      fencing.moving ▸ State.bit_changingPorts.mpr changes⟩
  have waits : (t.port p).border = 1 := (fencing.border changes).trans (if_pos carries)
  rw [State.settleBorder_of_fenced raised moves waits] at run
  refine ⟨t, run, raised, fencing.moving, ?_, Frame.step fences rfl begun⟩
  refine List.filter_eq_nil_iff.mpr fun j lt => ?_
  rw [fencing.nextWritten]
  by_cases changing : j ∈ s.changingPorts
  · rw [if_pos changing]
    exact Bool.false_ne_true
  · rw [if_neg changing]
    exact fun written => changing (State.mem_changingPorts.mpr ⟨List.mem_range.mp lt, written⟩)

end Sys2Proof.Machine
end

section
/-! SUPPORT. The entries CDU_APPLY, PARTITION_APPLY, PORT_LANE_TEST and CLUSTER_POINT_REQ (R395, R491, R496, R543): where the
dictionary holds them, and what a write of one of their elements is. -/
namespace Sys2Proof.Machine

/-- An entry that commands by the value 1, which is all that it takes. -/
def commandEntry (index sub : Nat) : Entry := ⟨index, sub, 1, 3, 1, 1, some (1, 1), []⟩
def portLaneTestEntry : Entry := ⟨0x5010, 15, 3, 3, 1, 2, some (0, 65535), []⟩
def clusterPointReqEntry : Entry := ⟨0x2100, 3, 10, 4, 64, 1, some (0, 11), []⟩

/-! ### Where they stand -/

/-- The blocks of the ports share the rows of the table (R538). -/
theorem findEntry_of_port {p : Nat} (port : p < 16) (sub : Nat) : findEntry (0x5010 + p) sub = findEntry 0x5010 sub := by
  have base : baseIndex (0x5010 + p) = baseIndex 0x5010 := by
    rw [baseIndex, if_neg (by omega), if_pos (by omega)]
    rfl
  unfold findEntry highestSub
  rw [base]

theorem commandEntry_writesOne {index sub : Nat} (found : findEntry index sub = some (commandEntry index sub)) (v : BitVec 8) :
    WritesOne index sub 1 0 [v] (commandEntry index sub) where
  found := found
  writable := Nat.le_succ 2
  one q type off data := by simp [writeCount, commandEntry, type, off, data]

theorem cduApply_writesOne : ∀ v, WritesOne 0x2200 4 1 0 [v] (commandEntry 0x2200 4) :=
  commandEntry_writesOne (by decide)

theorem partitionApply_writesOne : ∀ v, WritesOne 0x5000 11 1 0 [v] (commandEntry 0x5000 11) :=
  commandEntry_writesOne (by decide)

theorem portLaneTest_writesOne (p : PortId) (v : Nat) : WritesOne (0x5010 + p.val) 15 3 0 (leBytes 2 v) portLaneTestEntry where
  found := (findEntry_of_port p.isLt 15).trans (by decide)
  writable := by decide
  one q type off data := by simp [writeCount, portLaneTestEntry, type, off, data, leBytes_length]

theorem clusterPointReq_writesOne (cl : ClusterId) (v : BitVec 8) : WritesOne 0x2100 3 10 cl.val [v] clusterPointReqEntry where
  found := by decide
  writable := by decide
  one q type off data := by simp [writeCount, clusterPointReqEntry, type, off, data]

/-! ### Their ranges -/

theorem commandEntry_inRange (index sub v : Nat) : (commandEntry index sub).inRange v = decide (v = 1) := by
  simp [Entry.inRange, commandEntry, ← Bool.decide_and, Nat.le_antisymm_iff, and_comm]

/-- An installation test names its pattern, 1 or 2, and lasts at least a second (R496). -/
def laneTestOk (v : Nat) : Bool := (decide (v % 4 = 1) || decide (v % 4 = 2)) && decide (0 < v / 4)

theorem laneTestOk_iff (v : Nat) : laneTestOk v = true ↔ (v % 4 = 1 ∨ v % 4 = 2) ∧ 4 ≤ v := by simp [laneTestOk]

theorem portLaneTestEntry_allows {v : Nat} (lt : v < 2 ^ 16) : portLaneTestEntry.allows v = laneTestOk v := by
  simp [Entry.allows, Entry.inRange, portLaneTestEntry, laneTestOk, show v ≤ 65535 by omega]

theorem clusterPointReqEntry_allows (v : Nat) : clusterPointReqEntry.allows v = decide (v ≤ 11) := by
  simp [Entry.allows, Entry.inRange, clusterPointReqEntry]

/-! ### What a write of an element is -/

theorem Entry.leNat_part_byte {e : Entry} (scalar : e.type ≠ 9) (byte : e.size = 1) (v : Byte) : leNat (e.part [v] 0) = v.toNat := by
  simp [Entry.part, scalar, byte, slice, leNat]

section
variable (s : State) (m : Bool)

theorem State.writeElem_cduApply (v : BitVec 8) :
    s.writeElem m (commandEntry 0x2200 4) 0x2200 0 ((commandEntry 0x2200 4).part [v] 0) =
      if v.toNat ≠ 1 then (s, kRange) else s.writeCduApply := by
  have value := Entry.leNat_part_byte (e := commandEntry 0x2200 4) (by decide) rfl v
  have range := commandEntry_inRange 0x2200 4 v.toNat
  simp only [commandEntry] at value range
  simp [State.writeElem, commandEntry, Entry.allows, State.writeDevice, value, range]

theorem State.writeElem_partitionApply (v : BitVec 8) :
    s.writeElem m (commandEntry 0x5000 11) 0x5000 0 ((commandEntry 0x5000 11).part [v] 0) =
      if v.toNat ≠ 1 then (s, kRange) else s.writePartitionApply := by
  have value := Entry.leNat_part_byte (e := commandEntry 0x5000 11) (by decide) rfl v
  have range := commandEntry_inRange 0x5000 11 v.toNat
  simp only [commandEntry] at value range
  simp [State.writeElem, commandEntry, Entry.allows, State.writeDevice, value, range]

theorem State.writeElem_portLaneTest (p : Nat) (v : BitVec 16) :
    s.writeElem m portLaneTestEntry (0x5010 + p) 0 (portLaneTestEntry.part (leBytes 2 v.toNat) 0) =
      if laneTestOk v.toNat = false then (s, kRange) else s.writePortLaneTest p v.toNat := by
  have value := Entry.leNat_part (e := portLaneTestEntry) (by decide) v.isLt
  have range := portLaneTestEntry_allows v.isLt
  simp only [portLaneTestEntry] at value range
  simp [State.writeElem, portLaneTestEntry, State.writeBlock, value, range]

theorem State.writeElem_clusterPointReq (cl : Nat) (v : BitVec 8) :
    s.writeElem m clusterPointReqEntry 0x2100 cl (clusterPointReqEntry.part [v] 0) =
      if 11 < v.toNat then (s, kRange) else s.writePointReq cl v.toNat := by
  have value := Entry.leNat_part_byte (e := clusterPointReqEntry) (by decide) rfl v
  have range := clusterPointReqEntry_allows v.toNat
  simp only [clusterPointReqEntry] at value range
  simp [State.writeElem, clusterPointReqEntry, State.writeDevice, value, range]

end

end Sys2Proof.Machine
end

section
/-! SUPPORT. Writes of CDU_APPLY and PORT_LANE_TEST (R395, R407, R496): what each leaves, and what stands in its way. -/
namespace Sys2Proof.Machine

/-! ### The active configuration -/

/-- The state in which the three values are the active ones, before the unit leaves what it was doing. -/
def State.configured (s : State) (mode hz spt : Nat) : State :=
  { s with cdu := { s.cdu with mode := mode, hz := hz, spt := spt, syncMismatch := false } }

theorem State.cdu_applyCadence_of_waiting {s : State} (waits : s.cdu.state = 3 ∨ s.cdu.state = 1) (mode hz spt : Nat) :
    (s.applyCadence mode hz spt).cdu = { (s.configured mode hz spt).cdu with applyDue := true } :=
  congrArg State.cdu (if_pos waits)

theorem State.cdu_applyCadence_of_free {s : State} (free : ¬(s.cdu.state = 3 ∨ s.cdu.state = 1)) (mode hz spt : Nat) :
    ∃ base time due, (s.applyCadence mode hz spt).cdu =
      { (s.configured mode hz spt).acquire.cdu with fracBase := base, fracTime := time, due := due } := by
  obtain ⟨base, time, due, rerated⟩ := (s.configured mode hz spt).acquire.cdu.rerate_eq
    ((s.configured mode hz spt).acquire.uptime * atto) s.cdu.tickPeriod
  exact ⟨base, time, due, (congrArg State.cdu (if_neg free)).trans rerated⟩

/-- A configuration that is applied is the active one, whole; Acquiring, or Internal in mode 2, begins at once, or at the next tick
where the unit is in Holdover or Pull-in (R395, R407). -/
theorem State.cdu_applyCadence (s : State) (mode hz spt : Nat) :
    let c := (s.applyCadence mode hz spt).cdu
    c.mode = mode ∧ c.hz = hz ∧ c.spt = spt ∧ (c.applyDue = true ∨ c.state = if mode = 2 then 4 else 0) := by
  dsimp only
  by_cases waits : s.cdu.state = 3 ∨ s.cdu.state = 1
  · rw [State.cdu_applyCadence_of_waiting waits]
    exact ⟨rfl, rfl, rfl, .inl rfl⟩
  · obtain ⟨base, time, due, eq⟩ := State.cdu_applyCadence_of_free waits mode hz spt
    rw [eq]
    exact ⟨rfl, rfl, rfl, .inr rfl⟩

theorem State.writeCduApply_eq (s : State) : s.writeCduApply =
    if cadenceOk (s.dget 0x2200 1) (s.dget 0x2200 2) (s.dget 0x2200 3) = true then
      (s.applyCadence (s.dget 0x2200 1) (s.dget 0x2200 2) (s.dget 0x2200 3), kOk)
    else (s, kState) := by
  unfold State.writeCduApply State.cduApply
  dsimp only
  split_ifs <;> rfl

/-! ### The installation test of a port -/

section
variable {s : State} {p : Nat} (v : Nat)

theorem State.writePortLaneTest_of_running
    (running : ¬((s.port p).state = .isolated ∨ (s.port p).state = .off ∨ (s.port p).state = .down)) :
    s.writePortLaneTest p v = (s, kState) := if_neg running

/-- A port without a link that carries packets enters Test, with its domain on. -/
theorem State.writePortLaneTest_of_idle (can : Canonical s) (sorted : tsorted none s.links.ports = true)
    (idle : (s.port p).state = .isolated ∨ (s.port p).state = .off ∨ (s.port p).state = .down) :
    ∃ t, s.writePortLaneTest p v = (t, kOk) ∧ t.port p = { (s.port p).renewed .test s.uptime with labTest := v } ∧
      t.domain (96 + p) = 2 ∧ Frame [.entries, .links] s t := by
  have frame := State.writePortLaneTest_frame s p v
  have run : s.writePortLaneTest p v =
      ((s.setPort p { (s.port p).renewed .test s.uptime with labTest := v }).setDomain (96 + p) 2, kOk) := if_pos idle
  rw [run] at frame ⊢
  refine ⟨_, rfl, ?_, State.dget_dset_same ((State.setPort_frame ..).canonical can) .., frame⟩
  exact (State.port_setPort _ _ _ _ sorted).trans (if_pos rfl)

end

end Sys2Proof.Machine
end

section
/-! SUPPORT. The commands of the units: the clauses of the obligation. -/
namespace Sys2Proof.Machine

/-- Settles O56: an admitted write is the write of its element, which its checks refuse or which has the effect above. -/
theorem unitCommands : Obligations.UnitCommands := by
  unfold Obligations.UnitCommands
  refine ⟨fun r v s can may one ok => ?cadence, fun r v s can may one bad => ?cadenceState,
    fun r v s can may more => ?cadenceRange, fun r v s can may one idle unblocked carrying sorted => ?border,
    fun r v s can may one blocked => ?borderState, fun r p v s can may pattern time idle sorted => ?test,
    fun r p v s can may pattern time running => ?testState, fun r p v s can may range => ?testRange,
    fun r cl v s can may le => ?point, fun r cl v s can may gt => ?pointRange⟩
  case cadence =>
    subst one
    obtain ⟨rsp, eq, result⟩ := State.writeEntry_of_unsaved may (cduApply_writesOne 1)
      (fun m => (s.writeElem_cduApply m 1).trans (s.writeCduApply_eq.trans (if_pos ok))) (by decide)
    obtain ⟨mode, hz, spt, state⟩ := s.cdu_applyCadence (s.dget 0x2200 1) (s.dget 0x2200 2) (s.dget 0x2200 3)
    refine ⟨_, rfl, result, ?_⟩
    rw [eq]
    exact ⟨mode, hz, spt, state, Frame.step (State.answered_frame ..) rfl (Frame.mono (State.applyCadence_frame ..) rfl)⟩
  case cadenceState =>
    subst one
    exact State.next_of_refused may (cduApply_writesOne 1)
      (fun m => (s.writeElem_cduApply m 1).trans (s.writeCduApply_eq.trans (if_neg (by simp [bad])))) (by decide) (by decide)
  case cadenceRange =>
    obtain ⟨u, run, result, rest⟩ := State.next_of_refused may (cduApply_writesOne v)
      (fun m => (s.writeElem_cduApply m v).trans (if_pos (by omega))) (by decide) (by decide)
    exact ⟨u, run, result ▸ by decide, rest⟩
  case border =>
    subst one
    obtain ⟨t, write, raised, moving, applied, k⟩ := State.writePartitionApply_of_carrying can idle unblocked carrying sorted
    obtain ⟨rsp, eq, result⟩ := State.writeEntry_of_unsaved may (partitionApply_writesOne 1)
      (fun m => (s.writeElem_partitionApply m 1).trans write) (by decide)
    refine ⟨_, rfl, result, ?_⟩
    rw [eq]
    exact ⟨raised, moving, applied, Frame.step (State.answered_frame ..) rfl (Frame.mono k rfl)⟩
  case borderState =>
    subst one
    exact State.next_of_refused may (partitionApply_writesOne 1)
      (fun m => (s.writeElem_partitionApply m 1).trans (State.writePartitionApply_of_blocked blocked)) (by decide) (by decide)
  case test =>
    have ok := (laneTestOk_iff v.toNat).mpr ⟨pattern, time⟩
    obtain ⟨t, write, port, domain, k⟩ := State.writePortLaneTest_of_idle v.toNat can sorted idle
    obtain ⟨rsp, eq, result⟩ := State.writeEntry_of_unsaved may (portLaneTest_writesOne p v.toNat)
      (fun m => (s.writeElem_portLaneTest m p.val v).trans ((if_neg (by simp [ok])).trans write)) (by decide)
    refine ⟨_, rfl, result, ?_⟩
    rw [eq]
    exact ⟨port, domain, Frame.step (State.answered_frame ..) rfl (Frame.mono k rfl)⟩
  case testState =>
    have ok := (laneTestOk_iff v.toNat).mpr ⟨pattern, time⟩
    exact State.next_of_refused may (portLaneTest_writesOne p v.toNat)
      (fun m => (s.writeElem_portLaneTest m p.val v).trans
        ((if_neg (by simp [ok])).trans (State.writePortLaneTest_of_running v.toNat running))) (by decide) (by decide)
  case testRange =>
    have bad : laneTestOk v.toNat = false := Bool.eq_false_iff.mpr fun ok => by
      have := (laneTestOk_iff v.toNat).mp ok
      omega
    exact State.next_of_refused may (portLaneTest_writesOne p v.toNat)
      (fun m => (s.writeElem_portLaneTest m p.val v).trans (if_pos bad)) (by decide) (by decide)
  case point =>
    exact ⟨_, rfl, State.writeEntry_of_saved can may (clusterPointReq_writesOne cl v)
      (fun m => (s.writeElem_clusterPointReq m cl.val v).trans (if_neg (by omega))) rfl (by unfold dkey; omega)⟩
  case pointRange =>
    exact State.next_of_refused may (clusterPointReq_writesOne cl v)
      (fun m => (s.writeElem_clusterPointReq m cl.val v).trans (if_pos gt)) (by decide) (by decide)

end Sys2Proof.Machine
end

section
/-! SUPPORT. The entries LANE_SIDE, LOOP_LANE, LANE_SWITCH, LANE_CANCEL and TRU_EXCHANGES (R416, R417, R421, R424, R450): where the
dictionary holds them, and what a write of one of their elements is. -/
namespace Sys2Proof.Machine

def laneSideEntry : Entry := ⟨0x400C, 1, 10, 2, 16, 64, none, []⟩
def loopLaneEntry : Entry := ⟨0x2A00, 4, 10, 2, 16384, 1, some (0, 255), []⟩
/-- An entry of a context that commands by the number of a lane: LANE_SWITCH, and LANE_CANCEL. -/
def laneCommandEntry (sub : Nat) : Entry := ⟨0x400C, sub, 2, 3, 1, 1, some (0, 7), []⟩
def truExchangesEntry : Entry := ⟨0x400E, 1, 10, 2, 32, 128, none, []⟩

/-! ### Where they stand -/

/-- As many bytes as a TABLE's element has are one element, where the TABLE has one at the offset (R503). -/
theorem Entry.writesOne_of_table {index sub off : Nat} {data : Bytes} {e : Entry} (found : findEntry index sub = some e)
    (writable : 2 ≤ e.access) (table : e.type = 10) (pos : 0 < e.size) (whole : data.length = e.size) (lt : off < e.count) :
    WritesOne index sub 10 off data e where
  found := found
  writable := writable
  one q type offset bytes := by
    simp [writeCount, table, type, offset, bytes, whole, pos, pos.ne', show ¬ e.count < off + 1 by omega]

theorem laneSide_writesOne (c : Fin 256) (e : Fin 16) {b : Bytes} (whole : b.length = 64) :
    WritesOne (0x400C + c.val * 16) 1 10 e.val b laneSideEntry :=
  Entry.writesOne_of_table ((findEntry_of_context (k := 12) c.isLt (by decide) 1).trans (by decide)) (by decide) rfl (by decide)
    whole e.isLt

theorem loopLane_writesOne (g : RingId) (v : BitVec 8) : WritesOne 0x2A00 4 10 g.val [v] loopLaneEntry :=
  Entry.writesOne_of_table (by decide) (by decide) rfl (by decide) rfl g.isLt

theorem truExchanges_writesOne (c : Fin 256) (e : Fin 32) {b : Bytes} (whole : b.length = 128) :
    WritesOne (0x400E + c.val * 16) 1 10 e.val b truExchangesEntry :=
  Entry.writesOne_of_table ((findEntry_of_context (k := 14) c.isLt (by decide) 1).trans (by decide)) (by decide) rfl (by decide)
    whole e.isLt

theorem laneCommand_writesOne {sub : Nat} (found : findEntry 0x400C sub = some (laneCommandEntry sub)) (c : Fin 256)
    (v : BitVec 8) : WritesOne (0x400C + c.val * 16) sub 2 0 [v] (laneCommandEntry sub) where
  found := (findEntry_of_context (k := 12) c.isLt (by decide) sub).trans found
  writable := Nat.le_succ 2
  one q type off data := by simp [writeCount, laneCommandEntry, type, off, data]

theorem laneSwitch_writesOne : ∀ (c : Fin 256) v, WritesOne (0x400C + c.val * 16) 3 2 0 [v] (laneCommandEntry 3) :=
  laneCommand_writesOne (by decide)

theorem laneCancel_writesOne : ∀ (c : Fin 256) v, WritesOne (0x400C + c.val * 16) 4 2 0 [v] (laneCommandEntry 4) :=
  laneCommand_writesOne (by decide)

/-! ### The commands, of a record that is whole -/

theorem exec_laneSide_of_length {b : Bytes} (whole : b.length = 64) (r : Requester) (c : Fin 256) (e : Fin 16) (s : State) :
    exec (.laneSide r c e b) s = .next (s.writeEntry r (0x400C + c.val * 16) 1 10 e.val b) :=
  congrArg (fun d => Host.Outcome.next (s.writeEntry r (0x400C + c.val * 16) 1 10 e.val d))
    (List.take_of_length_le (whole.trans_le (by decide)))

theorem exec_truExchanges_of_length {b : Bytes} (whole : b.length = 128) (r : Requester) (c : Fin 256) (e : Fin 32) (s : State) :
    exec (.truExchanges r c e b) s = .next (s.writeEntry r (0x400E + c.val * 16) 1 10 e.val b) :=
  congrArg (fun d => Host.Outcome.next (s.writeEntry r (0x400E + c.val * 16) 1 10 e.val d))
    (List.take_of_length_le (whole.trans_le (by decide)))

theorem State.length_of_sideOk {s : State} {c : Nat} {b : Bytes} (ok : s.sideOk c b = true) : b.length = 64 := by
  simp only [State.sideOk, Bool.and_eq_true, decide_eq_true_eq] at ok
  tauto

theorem length_of_exRecordOk {b : Bytes} (ok : exRecordOk b = true) : b.length = 128 := by
  unfold exRecordOk at ok
  split_ifs at ok with unused dir
  · exact of_decide_eq_true unused.2
  all_goals
    simp only [Bool.and_eq_true, decide_eq_true_eq] at ok
    tauto

/-! ### What a write of an element is -/

/-- The one element of data that is as long as an element is the data. -/
theorem Entry.part_of_whole {e : Entry} {b : Bytes} (scalar : e.type ≠ 9) (whole : b.length = e.size) : e.part b 0 = b := by
  rw [Entry.part, if_neg scalar, slice, Nat.zero_mul, List.drop_zero, List.take_of_length_le whole.le]

theorem loopLaneEntry_allows (v : BitVec 8) : loopLaneEntry.allows v.toNat = true := by
  simp [Entry.allows, Entry.inRange, loopLaneEntry, show v.toNat ≤ 255 by omega]

theorem laneCommandEntry_inRange (sub v : Nat) : (laneCommandEntry sub).inRange v = decide (v ≤ 7) := by
  simp [Entry.inRange, laneCommandEntry]

/-- The context of an index in its block, whichever of the block's indexes it is. -/
theorem context_of_block_index {k : Nat} (block : k < 16) (c : Nat) : (0x4000 + k + c * 16 - 0x4000) / 16 = c := by omega

section
variable (s : State) (m : Bool)

theorem State.writeElem_laneSide (c e : Nat) {b : Bytes} (whole : b.length = 64) :
    s.writeElem m laneSideEntry (0x400C + c * 16) e (laneSideEntry.part b 0) = s.writeLaneSide c e b := by
  have context := context_of_block_index (k := 12) (by decide) c
  rw [Entry.part_of_whole (by decide) whole]
  simp [State.writeElem, laneSideEntry, context]

theorem State.writeElem_truExchanges (c e : Nat) {b : Bytes} (whole : b.length = 128) :
    s.writeElem m truExchangesEntry (0x400E + c * 16) e (truExchangesEntry.part b 0) = s.writeExchange c e b := by
  have context := context_of_block_index (k := 14) (by decide) c
  rw [Entry.part_of_whole (by decide) whole]
  simp [State.writeElem, truExchangesEntry, context]

theorem State.writeElem_loopLane (g : Nat) (v : BitVec 8) :
    s.writeElem m loopLaneEntry 0x2A00 g (loopLaneEntry.part [v] 0) = s.writeLoopLane g v.toNat := by
  have value := Entry.leNat_part_byte (e := loopLaneEntry) (by decide) rfl v
  have range := loopLaneEntry_allows v
  simp only [loopLaneEntry] at value range
  simp [State.writeElem, loopLaneEntry, State.writeDevice, value, range]

theorem State.writeElem_laneSwitch (c : Nat) (v : BitVec 8) :
    s.writeElem m (laneCommandEntry 3) (0x400C + c * 16) 0 ((laneCommandEntry 3).part [v] 0) =
      if 7 < v.toNat then (s, kRange) else s.writeLaneSwitch c v.toNat := by
  have value := Entry.leNat_part_byte (e := laneCommandEntry 3) (by decide) rfl v
  have range := laneCommandEntry_inRange 3 v.toNat
  have context := context_of_block_index (k := 12) (by decide) c
  simp only [laneCommandEntry] at value range
  simp [State.writeElem, laneCommandEntry, Entry.allows, State.writeBlock, context, value, range]

theorem State.writeElem_laneCancel (c : Nat) (v : BitVec 8) :
    s.writeElem m (laneCommandEntry 4) (0x400C + c * 16) 0 ((laneCommandEntry 4).part [v] 0) =
      if 7 < v.toNat then (s, kRange) else s.writeLaneCancel c v.toNat := by
  have value := Entry.leNat_part_byte (e := laneCommandEntry 4) (by decide) rfl v
  have range := laneCommandEntry_inRange 4 v.toNat
  have context := context_of_block_index (k := 12) (by decide) c
  simp only [laneCommandEntry] at value range
  simp [State.writeElem, laneCommandEntry, Entry.allows, State.writeBlock, context, value, range]

end

end Sys2Proof.Machine
end

section
/-! SUPPORT. Writes of LANE_SIDE, LOOP_LANE, LANE_SWITCH, LANE_CANCEL and TRU_EXCHANGES (R416, R417, R421, R424, R450): what each
leaves, and what stands in its way. -/
namespace Sys2Proof.Machine

/-! ### Lanes -/

theorem State.lane_setLane_same {s : State} (sorted : tsorted none s.serve.lanes = true) (c l : Nat) (v : Lane) :
    (s.setLane c l v).lane c l = v := (tget_tset _ _ _ _ _ sorted).trans (if_pos rfl)

/-- An admitted write whose element sets a lane's record. -/
theorem State.next_of_setLane {s : State} {r : Requester} {index sub type off c l : Nat} {data : Bytes} {e : Entry} {v : Lane}
    (may : s.admits r index sub = true) (row : WritesOne index sub type off data e)
    (elem : ∀ m, s.writeElem m e index off (e.part data 0) = (s.setLane c l v, kOk)) (unsaved : e.access ≠ 4)
    (sorted : tsorted none s.serve.lanes = true) :
    ∃ u, (.next (s.writeEntry r index sub type off data) : Host.Outcome State Fault Refusal) = .next u ∧
      u.result = kOk ∧ u.lane c l = v ∧ Frame [.serve, .kop] s u := by
  obtain ⟨rsp, eq, result⟩ := State.writeEntry_of_unsaved may row elem unsaved
  refine ⟨_, rfl, result, ?_⟩
  rw [eq]
  exact ⟨State.lane_setLane_same sorted .., Frame.step (State.answered_frame ..) rfl (Frame.mono (State.setLane_frame ..) rfl)⟩

section
variable {s : State} {c e : Nat} {b : Bytes}

theorem State.writeLaneSide_of_spare (spare : (s.lane c (e / 2)).active ≠ e % 2)
    (still : (s.lane c (e / 2)).switching = false) (ok : s.sideOk c b = true) :
    s.writeLaneSide c e b = (s.setLane c (e / 2) ((s.lane c (e / 2)).setSide (e % 2) (laneSideOf b)), kOk) := by
  simp [State.writeLaneSide, spare, still, ok]

theorem State.writeLaneSide_of_used (used : (s.lane c (e / 2)).active = e % 2 ∨ (s.lane c (e / 2)).switching = true) :
    s.writeLaneSide c e b = (s, kState) := if_pos used

theorem State.writeLaneSide_of_bad (spare : (s.lane c (e / 2)).active ≠ e % 2)
    (still : (s.lane c (e / 2)).switching = false) (bad : s.sideOk c b = false) :
    s.writeLaneSide c e b = (s, kRange) := by
  simp [State.writeLaneSide, spare, still, bad]

end

/-! ### Switches of a lane -/

/-- The side that a lane switches to. -/
def Lane.nextSide (v : Lane) : LaneSide := v.side (1 - v.active)

section
variable {s : State} {c l : Nat}

theorem State.writeLaneSwitch_of_ready (lane : l ≤ 7) (still : (s.lane c l).switching = false) (attached : s.loopsOf c l ≠ [])
    (base : (s.lane c l).nextSide.base = 0xFFFF ∨ s.isBound (s.lane c l).nextSide.base = true)
    (variant : (s.lane c l).nextSide.variant = 0xFFFF ∨ s.isBound (s.lane c l).nextSide.variant = true) :
    s.writeLaneSwitch c l =
      (s.setLane c l { s.lane c l with switching := true, openLoops := (s.loopsOf c l).filter s.loopOpen }, kOk) := by
  refine (if_neg (by omega)).trans (if_neg ?_)
  simp only [List.isEmpty_iff, Bool.and_eq_true, decide_eq_true_eq, Bool.not_eq_true']
  rintro (switching | detached | ⟨named, unbound⟩ | ⟨named, unbound⟩)
  · exact ne_true_of_eq_false still switching
  · exact attached detached
  · exact base.elim named (ne_true_of_eq_false unbound)
  · exact variant.elim named (ne_true_of_eq_false unbound)

theorem State.writeLaneSwitch_of_unready (lane : l ≤ 7) (unready : (s.lane c l).switching = true ∨ s.loopsOf c l = [] ∨
    ((s.lane c l).nextSide.base ≠ 0xFFFF ∧ s.isBound (s.lane c l).nextSide.base = false) ∨
    ((s.lane c l).nextSide.variant ≠ 0xFFFF ∧ s.isBound (s.lane c l).nextSide.variant = false)) :
    s.writeLaneSwitch c l = (s, kState) := by
  refine (if_neg (by omega)).trans (if_pos ?_)
  simpa only [Lane.nextSide, List.isEmpty_iff, Bool.and_eq_true, decide_eq_true_eq, Bool.not_eq_true'] using unready

theorem State.writeLaneCancel_of_switching (lane : l ≤ 7) (switching : (s.lane c l).switching = true) :
    s.writeLaneCancel c l = (s.setLane c l { s.lane c l with switching := false, openLoops := [] }, kOk) :=
  (if_neg (by omega)).trans (if_neg (by simp [switching]))

theorem State.writeLaneCancel_of_still (lane : l ≤ 7) (still : (s.lane c l).switching = false) :
    s.writeLaneCancel c l = (s, kState) := (if_neg (by omega)).trans (if_pos (by simp [still]))

end

/-! ### The lane of a loop -/

/-- A value of LOOP_LANE names no lane, or a lane and a role (R417). -/
def LoopLaneOk (v : BitVec 8) : Prop := v = 0xFF ∨ (v.toNat < 64 ∧ bit v.toNat 3 = false ∧ bits v.toNat 5 4 ≠ 3)

theorem toNat_eq_loopLane_none_iff (v : BitVec 8) : v.toNat = 0xFF ↔ v = 0xFF := BitVec.toNat_inj (y := 0xFF)

section
variable {s : State} {g : Nat} {v : BitVec 8}

theorem State.writeLoopLane_of_ok (ok : LoopLaneOk v) : s.writeLoopLane g v.toNat =
    if !s.drained g ∨ (v.toNat ≠ 0xFF ∧ (s.ring g).ctx = 256) then (s, kState) else (s.dset 0x2A00 4 g v.toNat, kOk) := by
  refine if_neg ?_
  rintro ⟨lane, range⟩
  obtain detached | ⟨lt, reserved, role⟩ := ok
  · exact lane ((toNat_eq_loopLane_none_iff v).mpr detached)
  · obtain ge | bit | bits := range
    · omega
    · exact ne_true_of_eq_false reserved bit
    · exact role bits

theorem State.writeLoopLane_of_drained (ok : LoopLaneOk v) (drained : s.drained g = true)
    (tenant : v = 0xFF ∨ (s.ring g).ctx ≠ 256) : s.writeLoopLane g v.toNat = (s.dset 0x2A00 4 g v.toNat, kOk) := by
  refine (State.writeLoopLane_of_ok ok).trans (if_neg ?_)
  rw [← toNat_eq_loopLane_none_iff] at tenant
  simpa [drained] using or_iff_not_imp_left.mp tenant

theorem State.writeLoopLane_of_busy (ok : LoopLaneOk v) (busy : s.drained g = false ∨ (v ≠ 0xFF ∧ (s.ring g).ctx = 256)) :
    s.writeLoopLane g v.toNat = (s, kState) := by
  refine (State.writeLoopLane_of_ok ok).trans (if_pos ?_)
  rw [ne_eq, ← toNat_eq_loopLane_none_iff] at busy
  simpa using busy

theorem State.writeLoopLane_of_bad (lane : v ≠ 0xFF) (bad : 64 ≤ v.toNat ∨ bit v.toNat 3 = true ∨ bits v.toNat 5 4 = 3) :
    s.writeLoopLane g v.toNat = (s, kRange) := if_pos ⟨(toNat_eq_loopLane_none_iff v).not.mpr lane, bad⟩

end

end Sys2Proof.Machine
end

section
/-! SUPPORT. The lane tables: the clauses of the obligation. -/
namespace Sys2Proof.Machine

/-- Settles O55: an admitted write is the write of its element, which its checks refuse or which has the effect above. -/
theorem laneTables : Obligations.LaneTables := by
  unfold Obligations.LaneTables
  refine ⟨fun r c e b s can may spare still ok sorted => ?side, fun r c e b s can may whole used => ?sideState,
    fun r c e b s can may whole spare still bad => ?sideRange, fun r g v s can may ok drained tenant => ?loop,
    fun r g v s can may ok busy => ?loopState, fun r g v s can may lane bad => ?loopRange,
    fun r c l s can may le still attached base variant sorted => ?switch, fun r c l s can may le unready => ?switchState,
    fun r c l s can may gt => ?switchRange, fun r c l s can may le switching sorted => ?cancel,
    fun r c l s can may le still => ?cancelState, fun r c l s can may gt => ?cancelRange,
    fun r c e b s can may ok sorted => ?exchange, fun r c e b s can may whole bad => ?exchangeRange⟩
  case side =>
    have whole := State.length_of_sideOk ok
    rw [exec_laneSide_of_length whole]
    exact State.next_of_setLane may (laneSide_writesOne c e whole)
      (fun m => (s.writeElem_laneSide m _ _ whole).trans (State.writeLaneSide_of_spare spare still ok)) (by decide) sorted
  case sideState =>
    rw [exec_laneSide_of_length whole]
    exact State.next_of_refused may (laneSide_writesOne c e whole)
      (fun m => (s.writeElem_laneSide m _ _ whole).trans (State.writeLaneSide_of_used used)) (by decide) (by decide)
  case sideRange =>
    rw [exec_laneSide_of_length whole]
    exact State.next_of_refused may (laneSide_writesOne c e whole)
      (fun m => (s.writeElem_laneSide m _ _ whole).trans (State.writeLaneSide_of_bad spare still bad)) (by decide) (by decide)
  case loop =>
    obtain ⟨rsp, eq, result⟩ := State.writeEntry_of_unsaved may (loopLane_writesOne g v)
      (fun m => (s.writeElem_loopLane m g.val v).trans (State.writeLoopLane_of_drained ok drained tenant)) (by decide)
    refine ⟨_, rfl, result, ?_⟩
    rw [eq]
    exact ⟨State.dget_dset_same can .., Frame.step (State.answered_frame ..) rfl (Frame.mono (State.dset_frame ..) rfl)⟩
  case loopState =>
    exact State.next_of_refused may (loopLane_writesOne g v)
      (fun m => (s.writeElem_loopLane m g.val v).trans (State.writeLoopLane_of_busy ok busy)) (by decide) (by decide)
  case loopRange =>
    exact State.next_of_refused may (loopLane_writesOne g v)
      (fun m => (s.writeElem_loopLane m g.val v).trans (State.writeLoopLane_of_bad lane bad)) (by decide) (by decide)
  case switch =>
    exact State.next_of_setLane may (laneSwitch_writesOne c l) (fun m => (s.writeElem_laneSwitch m c.val l).trans
      ((if_neg (by omega)).trans (State.writeLaneSwitch_of_ready le still attached base variant))) (by decide) sorted
  case switchState =>
    exact State.next_of_refused may (laneSwitch_writesOne c l) (fun m => (s.writeElem_laneSwitch m c.val l).trans
      ((if_neg (by omega)).trans (State.writeLaneSwitch_of_unready le unready))) (by decide) (by decide)
  case switchRange =>
    exact State.next_of_refused may (laneSwitch_writesOne c l)
      (fun m => (s.writeElem_laneSwitch m c.val l).trans (if_pos gt)) (by decide) (by decide)
  case cancel =>
    exact State.next_of_setLane may (laneCancel_writesOne c l) (fun m => (s.writeElem_laneCancel m c.val l).trans
      ((if_neg (by omega)).trans (State.writeLaneCancel_of_switching le switching))) (by decide) sorted
  case cancelState =>
    exact State.next_of_refused may (laneCancel_writesOne c l) (fun m => (s.writeElem_laneCancel m c.val l).trans
      ((if_neg (by omega)).trans (State.writeLaneCancel_of_still le still))) (by decide) (by decide)
  case cancelRange =>
    exact State.next_of_refused may (laneCancel_writesOne c l)
      (fun m => (s.writeElem_laneCancel m c.val l).trans (if_pos gt)) (by decide) (by decide)
  case exchange =>
    have whole := length_of_exRecordOk ok
    have frame := State.writeExchange_frame s c.val e.val b
    rw [State.writeExchange, if_pos ok] at frame
    obtain ⟨rsp, eq, result⟩ := State.writeEntry_of_unsaved may (truExchanges_writesOne c e whole)
      (fun m => (s.writeElem_truExchanges m _ _ whole).trans (if_pos ok)) (by decide)
    refine ⟨_, exec_truExchanges_of_length whole .., result, ?_⟩
    rw [eq]
    exact ⟨(tget_tset _ _ _ _ _ sorted).trans (if_pos rfl), rfl,
      Frame.step (State.answered_frame ..) rfl (Frame.mono frame rfl)⟩
  case exchangeRange =>
    rw [exec_truExchanges_of_length whole]
    exact State.next_of_refused may (truExchanges_writesOne c e whole)
      (fun m => (s.writeElem_truExchanges m _ _ whole).trans (if_neg (ne_true_of_eq_false bad))) (by decide) (by decide)

end Sys2Proof.Machine
end

section
/-! SUPPORT. The step itself: which command it takes, that every command answers, what happens with none, and the state after
reset. -/

namespace Sys2Proof.Machine

/-! ### Steps -/

/-- Settles O1: the step takes the front of the queue. -/
theorem stepRunsFront : Obligations.StepRunsFront := by
  unfold Obligations.StepRunsFront
  intro c rest s front
  rw [step, front]

/-- Settles O3: every meaning is the `next` of a state. -/
theorem everyCommandAnswers : Obligations.EveryCommandAnswers := by
  unfold Obligations.EveryCommandAnswers
  intro c s
  cases c <;> exact ⟨_, rfl⟩

/-! ### Mailboxes -/

theorem funcOf_funcNumber (f : Func) : funcOf (funcNumber f) = f := by
  cases f with
  | pf => rfl
  | vf c => exact congrArg Func.vf (Fin.ext (Nat.mod_eq_of_lt c.isLt))

theorem lt_of_mem_of_tsorted {α : Type} {n : Nat} {t : Tab α} {kv : Nat × α} (sorted : tsorted (some n) t = true)
    (listed : kv ∈ t) : n < kv.1 := by
  induction t generalizing n with
  | nil => cases listed
  | cons x t ih =>
    obtain ⟨above, rest⟩ := (tsorted_cons _ x t).mp sorted
    rcases List.mem_cons.mp listed with rfl | listed
    · exact above n rfl
    · exact Nat.lt_trans (above n rfl) (ih rest listed)

/-- What a table in order lists is what its key reads. -/
theorem tget_of_mem {α : Type} (d : α) {b : Option Nat} {t : Tab α} {kv : Nat × α} (sorted : tsorted b t = true)
    (listed : kv ∈ t) : tget d t kv.1 = kv.2 := by
  induction t generalizing b with
  | nil => cases listed
  | cons x t ih =>
    obtain ⟨-, rest⟩ := (tsorted_cons b x t).mp sorted
    rcases List.mem_cons.mp listed with rfl | listed
    · exact if_pos rfl
    · have above := lt_of_mem_of_tsorted rest listed
      rw [tget, if_neg (by omega), if_neg (by omega)]
      exact ih rest listed

theorem State.mail_of_find {s : State} {f : Func} {m : Mailbox} (sorted : tsorted none s.hif.mailbox = true)
    (first : (s.hif.mailbox.find? fun kv => kv.2.busy) = some (funcNumber f, m)) : s.mail f = m :=
  tget_of_mem ({} : Mailbox) (kv := (funcNumber f, m)) sorted (List.mem_of_find?_eq_some first)

theorem State.mail_setMail {s : State} (sorted : tsorted none s.hif.mailbox = true) (f g : Func) (m : Mailbox) :
    (s.setMail f m).mail g = if funcNumber g = funcNumber f then m else s.mail g := tget_tset _ _ _ _ _ sorted

/-- A mailbox whose response has come into place (R519). -/
def Mailbox.ended (m : Mailbox) : Mailbox :=
  { m with response := m.due, rspBytes := m.due.length, done := true, busy := false, due := [] }

/-- A mailbox without IRQ_EN gets its response and sends no message. -/
theorem State.endMail_of_quiet {s : State} {f : Func} (quiet : (s.mail f).irqEn = false) :
    s.endMail f = s.setMail f (s.mail f).ended := by
  unfold State.endMail
  exact if_neg (by simp [quiet])

/-- Settles O2: only the first BUSY mailbox gives an idle step something to do. -/
theorem stepIdles : Obligations.StepIdles := by
  unfold Obligations.StepIdles
  refine ⟨fun s empty still => ?_, fun f m s empty first quiet sorted => ?_⟩
  · have none : (s.hif.mailbox.find? fun kv => kv.2.busy) = none :=
      List.find?_eq_none.mpr fun kv listed => by simp [still kv listed]
    exact ⟨s, by rw [step, empty, State.idle, none], rfl⟩
  · have here := State.mail_of_find sorted first
    subst here
    refine ⟨s.setMail f (s.mail f).ended, ?_, ?_, ?_, rfl, State.setMail_frame ..⟩
    · rw [step, empty, State.idle, first]
      dsimp only
      rw [funcOf_funcNumber, State.endMail_of_quiet quiet]
    · rw [State.mail_setMail sorted, if_pos rfl]
      rfl
    · intro g ne
      rw [State.mail_setMail sorted, if_neg ne]

/-! ### Reset -/

theorem State.reset_canonical : Canonical State.reset := by constructor <;> decide

/-- Settles O8: every memory and table of the reset state is empty or in order. -/
theorem canonicalAtReset : Obligations.CanonicalAtReset := by
  unfold Obligations.CanonicalAtReset
  exact ⟨State.reset_canonical, rfl, rfl, fun _ => ⟨rfl, rfl⟩⟩

/-! ### Units outside the rings -/

/-- The check of a rail's current at less than 90 % of its limit leaves the stray flag of the entry (R561). -/
theorem bit_of_vinCmpLimitCheck_straySetFlag {u : State} (run : exec (.vinCmpLimitCheck 0 0 0) straySetFlag = .next u) :
    bit (u.dget 0x2100 14) 2 = true := by
  have kept : ((straySetFlag.at 0).vinCheck 0 (0 : Fin 4).val 0).dict = straySetFlag.dict :=
    State.vinCheck_dict_of_low (Nat.zero_le _) (by decide +kernel) rfl
  rw [exec_vinCmpLimitCheck, execVinCmpLimitCheck_of_first 0 0 rfl rfl] at run
  obtain rfl := Host.Outcome.next.inj run
  rw [State.dget, kept]
  decide +kernel

/-- Refutes O60: as O44, it asks the check of a rail's current to clear a flag that the entry already held. -/
theorem not_unitsComplete : ¬ Obligations.UnitsComplete := by
  unfold Obligations.UnitsComplete
  rintro ⟨-, -, -, -, -, -, -, -, -, -, -, -, -, -, -, -, -, -, -, -, -, -, -, -, -, -, -, -, -, -, low, -⟩
  obtain ⟨u, run, -, cleared⟩ := low 0 0 0 straySetFlag straySetFlag_canonical rfl rfl (Nat.zero_le _) (by decide +kernel) rfl
  rw [bit_of_vinCmpLimitCheck_straySetFlag run] at cleared
  cases cleared

end Sys2Proof.Machine
end

section
/-! SUPPORT. An ABORT of the attempt that executes, where the count of its context's Rappels has reached its largest value (R483,
R538; log entry 5). -/

namespace Sys2Proof.Machine

/-- A launched step of context 0 in group 9 of devices 0 and 4. -/
def groupedStep : Step :=
  { cmd := 1, ring := 0, ctx := 0, seq := 3, launched := true, latched := true, footprint := 1, routes := [5], groupId := 9,
    members := [0, 4] }

/-- Its context has counted 2^64 - 1 Rappels (its entry 7, subindex 2). -/
def rappelsFull : State :=
  { dev := { mode := .service }, steps := [groupedStep], cdict := [(ckey 0 7 2, 2 ^ 64 - 1)]
    links := { ports := [(0, { state := .active })] } }

/-- An ABORT of its attempt from device 4, with status 0. -/
def replayAbort : PacketHeader :=
  { type := 0x41, poison := false, reserved := false, units := 0, src := 4, dst := 0, ctx := 0, epoch := 0, tag := 0, addr := 9
    length := 0, status := 0 }

/-- Refutes O38: the attempt is drained by a Rappel, which is counted; past its largest value the counter takes a free value, and the statement's zones for
an ABORT with status 0 leave the free values out. -/
theorem not_groupMessages : ¬ Obligations.GroupMessages := by
  unfold Obligations.GroupMessages
  rintro ⟨-, -, -, -, replays, -⟩
  obtain ⟨u, run, -, -, frame⟩ := replays 0 replayAbort 0 groupedStep rappelsFull (by decide +kernel) (by decide +kernel)
    (by decide +kernel) rfl rfl rfl
  have kept : u.free = 0 := frame.keeps .free rfl
  obtain rfl := Host.Outcome.next.inj run
  exact absurd kept (by decide +kernel)

end Sys2Proof.Machine
end

section
/-! SUPPORT. The end of an exchange lets the next one begin, whose reads may meet a host page whose completions come damaged (R313,
R459, R463). -/

namespace Sys2Proof.Machine

/-- A read of the Traverse Unit that meets no page and touches no cache ends its step. -/
theorem State.truRead_of_miss {s : State} {p : Step} {va n : Nat} {m : Miss} (still : s.accessed otherUnit p.ctx va n = s)
    (near : windowOf va ≠ 3) (miss : (s.ownView p.cmd).read p.ctx va n = .miss m) :
    s.truRead p va n = .error (s.stepMiss p m) := by
  unfold State.truRead
  dsimp only
  rw [still, State.stepRead, if_neg near, Option.getD_none, miss]
  rfl

/-- A dispatch whose map cannot be read does not begin (R453). -/
theorem State.beginExchange_of_failed {s t : State} {p : Step} {e : Exchange} (step : s.step? e.cmd = some p)
    (dispatch : exDir e.record = 0) (failed : s.truRead p (exMap e.record) (4 * exE e.record) = .error t) :
    s.beginExchange e = t := by
  unfold State.beginExchange
  rw [step]
  dsimp only
  rw [if_pos dispatch, State.beginDispatch, failed]
  rfl

/-- A dispatch that awaits no rows any more. -/
def lastMoving : Exchange := { serial := 2, cmd := 1, ctx := 256, desc := 0, run := 0, record := [], stage := .moving }

/-- One of a single expert that waits, its map at the start of the Host window. -/
def mapAtHost : Exchange :=
  { serial := 3, cmd := 1, ctx := 256, desc := 1, run := 0, record := [0, 0, 0, 1] ++ List.replicate 65 0 ++ [16] }

/-- Their step. -/
def exchangingStep : Step :=
  { cmd := 1, ring := 0, ctx := 256, seq := 3, launched := true, latched := true, footprint := 1, routes := [5] }

/-- The step once the first exchange has ended. -/
def countedStep : Step := { exchangingStep with truTotal := 1 }

/-- The completions of the map's page come damaged. -/
def damagedMap : State :=
  { dev := { mode := .service }, steps := [exchangingStep], hif := { linkUp := true }, hostDown := [(0, 4)]
    tru := { exchanges := [lastMoving, mapAtHost] } }

/-- The first exchange has ended. -/
def damagedMapEnded : State :=
  (damagedMap.setExchange { lastMoving with stage := .done }).addExchange 1 [] 1 0 0

/-- The second one's read of its map has failed, its error reported as a correctable one or not (log 118). -/
def damagedMapRead (correctable : Bool) : State :=
  ({ damagedMapEnded with free := 1 }.reportAer 0 correctable).endStep countedStep stTranslation
    (BitVec.ofNat 64 (missValue ⟨2, 2, 0, 2 ^ 44⟩))

theorem noteMiss_mapAtHost : damagedMapEnded.noteMiss 256 ⟨2, 2, 0, 2 ^ 44⟩ =
    { damagedMapEnded with free := 1 }.reportAer 0 ((Config.freeValue 0).getLsbD 0) := by
  have damaged : damagedMapEnded.hostError 256 (2 ^ 44) = true := by decide +kernel
  exact (if_neg (by decide)).trans (if_pos ⟨rfl, rfl, rfl, damaged⟩)

theorem beginExchange_mapAtHost :
    damagedMapEnded.beginExchange mapAtHost = damagedMapRead ((Config.freeValue 0).getLsbD 0) := by
  refine State.beginExchange_of_failed (p := countedStep) (by decide +kernel) (by decide +kernel) ?_
  rw [State.truRead_of_miss (m := ⟨2, 2, 0, 2 ^ 44⟩) (by decide +kernel) (by decide +kernel) (by decide +kernel),
    State.stepMiss, if_neg (by decide)]
  exact congrArg (fun s : State => Except.error (s.endStep countedStep stTranslation _)) noteMiss_mapAtHost

theorem nextExchanges_damagedMapEnded : damagedMapEnded.nextExchanges =
    ((damagedMapRead ((Config.freeValue 0).getLsbD 0)).startQueued 8).countQueued 0 := by
  have room : ¬ 8 ≤ damagedMapEnded.exchangesOn := by decide +kernel
  have first : (damagedMapEnded.tru.exchanges.find? fun e => decide (e.stage = .queued) && damagedMapEnded.mayBegin e) =
      some mapAtHost := by decide +kernel
  rw [State.nextExchanges, State.startQueued, if_neg room, first]
  dsimp only
  rw [beginExchange_mapAtHost]
  rfl

theorem damagedMapRead_out (b : Bool) : (((damagedMapRead b).startQueued 8).countQueued 0).out ≠ [] := by
  cases b <;> decide +kernel

/-- Refutes O40: with the end of one exchange the next begins, and its read of a damaged host page is reported through AER, a
message that the statement's zones for DISPATCH_COMPLETE leave out. -/
theorem not_exchanges : ¬ Obligations.Exchanges := by
  unfold Obligations.Exchanges
  rintro ⟨-, -, -, -, complete, -⟩
  obtain ⟨u, -, eq, -, -, frame⟩ := complete 2 lastMoving exchangingStep damagedMap (by decide +kernel) (by decide +kernel)
  have kept : u.out = damagedMap.out := frame.keeps .out rfl
  have ended : damagedMap.exchangeDone lastMoving = damagedMapEnded.nextExchanges := by rw [State.exchangeDone]; rfl
  rw [eq, ended, nextExchanges_damagedMapEnded] at kept
  exact damagedMapRead_out _ kept

end Sys2Proof.Machine
end

section
/-! SUPPORT. A packet that a port takes and drops as malformed, where the port's count of such packets has reached its largest value
(R473, R538; log entry 5). -/

namespace Sys2Proof.Machine

/-- Port 0 is Active and has counted 2^32 - 1 malformed packets. -/
def malformedFull : State :=
  { dev := { mode := .service }, dict := [(dkey 0x5010 12 0, 2 ^ 32 - 1)], links := { ports := [(0, { state := .active })] } }

/-- A header of a type whose ADDR is 1. -/
def oddAddress (type : BitVec 8) : PacketHeader :=
  { type := type, poison := false, reserved := false, units := 0, src := 4, dst := 0, ctx := 256, epoch := 0, tag := 0, addr := 1
    length := 0, status := 0 }

/-- Past its largest value a counter takes a free value. -/
theorem State.dbump_free_of_full {s : State} {i j e w n : Nat} (full : 2 ^ w ≤ s.dget i j e + n) :
    (s.dbump i j e w n).free = s.free + 1 := by
  unfold State.dbump
  dsimp only
  rw [if_neg (Nat.not_lt.mpr full)]
  rfl

theorem malformedFull_dbump : ((malformedFull.took 0 0 0).dbump (0x5010 + 0) 12 0 32).free = 1 ∧
    ((malformedFull.took 0 3 0).dbump (0x5010 + 0) 12 0 32).free = 1 :=
  ⟨State.dbump_free_of_full (by decide +kernel), State.dbump_free_of_full (by decide +kernel)⟩

/-- Refutes O36: the malformed packet is counted, and past its largest value the counter takes a free value, which the statement's
zones for a packet that is dropped leave out. -/
theorem not_remoteRequests : ¬ Obligations.RemoteRequests := by
  unfold Obligations.RemoteRequests
  rintro ⟨-, dropped, -⟩
  obtain ⟨u, -, eq, frame⟩ := dropped 0 (oddAddress 0x11) malformedFull rfl (by decide)
  have kept : u.free = 0 := frame.keeps .free rfl
  rw [eq] at kept
  exact absurd (malformedFull_dbump.1.symm.trans kept) (by decide)

/-- Refutes O39: so does a BORDER whose ADDR is not 0. -/
theorem not_linkMessages : ¬ Obligations.LinkMessages := by
  unfold Obligations.LinkMessages
  rintro ⟨-, -, -, -, -, dropped, -⟩
  obtain ⟨u, -, eq, frame⟩ := dropped 0 (oddAddress 0x47) malformedFull (by decide) (.inl (by decide))
  have kept : u.free = 0 := frame.keeps .free rfl
  rw [eq] at kept
  exact absurd (malformedFull_dbump.2.symm.trans kept) (by decide)

end Sys2Proof.Machine
end

section
/-! SUPPORT. LINK_INFO with feature levels that PORT_PARTNER has no room for (R472, R498). -/

namespace Sys2Proof.Machine

/-- Port 0 is in Exchange, and the ceiling of the feature level, which no write gives that value, reads 8. -/
def ceilingEight : State :=
  { dev := { mode := .service }, dict := [(dkey 0x5000 3 0, 8)], links := { ports := [(0, { state := .exchange })] } }

/-- A partner of partition 0, of level 8 too. -/
def levelEightInfo : LinkInfo :=
  { magic := 0x5653, flCeiling := 8, flSupported := 0, deviceId := 0, isSwitch := false, partition := 0, port := 0, credits := [] }

/-- Refutes O41: nothing in the statement bounds the level that stands below the cause in PORT_PARTNER, and level 8 carries into it. -/
theorem not_portStates : ¬ Obligations.PortStates := by
  unfold Obligations.PortStates
  rintro ⟨-, -, -, -, -, -, -, -, -, -, -, -, -, -, -, -, -, isolated, -⟩
  obtain ⟨u, run, -, cause, -⟩ := isolated 0 levelEightInfo ceilingEight rfl rfl (by decide +kernel) (by decide +kernel)
  obtain rfl := Host.Outcome.next.inj run
  exact absurd cause (by decide +kernel)

end Sys2Proof.Machine
end

section
/-! SUPPORT. A reading above 95 degrees of a sensor that has read above them less than 100 microseconds before (R557). -/

namespace Sys2Proof.Machine

/-- Sensor 0 read 95 degrees or more at uptime 0, and no limit of its cluster has changed. -/
def hotBefore : State := { dev := { mode := .service }, power := { lastHot := [(0, 0)] } }

theorem hotBefore_canonical : Canonical hotBefore := by constructor <;> decide

/-- Refutes O45: whether a hot reading lowers the ceiling turns on the sensor's last hot reading; the statement asks for the last
change of the cluster's limit in its place. -/
theorem not_temperatures : ¬ Obligations.Temperatures := by
  unfold Obligations.Temperatures
  rintro ⟨-, lowered, -⟩
  obtain ⟨u, run, ceiling, -⟩ := lowered 0 0 380 hotBefore hotBefore_canonical rfl (by decide) (by decide) (by decide) (by decide)
    rfl (by decide +kernel) (by decide +kernel)
  obtain rfl := Host.Outcome.next.inj run
  exact absurd ceiling (by decide +kernel)

end Sys2Proof.Machine
end

section
/-! SUPPORT. The test of an isolated cluster that passes: its return to service is a time at which it worked (R546, R591, R610). -/

namespace Sys2Proof.Machine

/-- Cluster 0 is isolated and under test. -/
def testedIsolated : State := { dev := { mode := .service }, health := { testing := some (0, true) } }

theorem testedIsolated_canonical : Canonical testedIsolated := by constructor <;> decide

/-- Refutes O46: a cluster that returns is powered On, and its last work is noted in the power unit, which the statement's zones for
a test that passes leave out. -/
theorem not_coresAndWear : ¬ Obligations.CoresAndWear := by
  unfold Obligations.CoresAndWear
  rintro ⟨-, -, -, -, -, -, -, -, -, -, passed, -⟩
  obtain ⟨u, run, -, -, -, -, frame⟩ := passed 0 [] true true testedIsolated testedIsolated_canonical rfl rfl rfl
    (.inr (by decide +kernel))
  have kept : u.power.lastWork = [] := congrArg Power.lastWork (frame.keeps .power rfl)
  obtain rfl := Host.Outcome.next.inj run
  exact absurd kept (by decide +kernel)

end Sys2Proof.Machine
end

section
/-! SUPPORT. A request repeated by a source that is not the most recent of those with a kept response (R517). -/

namespace Sys2Proof.Machine

/-- A request of the management port: the NEXT entry after VENDOR_ID. -/
def repeatedRequest : Bytes := [1, 4, 0, 0, 7, 0, 0, 0x10, 1, 0, 0, 0, 0, 0, 0, 0]

/-- The response kept for 10.0.0.3, port 9. -/
def olderKept : Kept := ⟨0x0A000003, 9, 0, repeatedRequest, [1]⟩

/-- The response kept for 10.0.0.4, port 9. -/
def newerKept : Kept := ⟨0x0A000004, 9, 0, repeatedRequest, [2]⟩

/-- The management port of 10.0.0.2 works and has answered 10.0.0.3 and then 10.0.0.4. -/
def answeredTwo : State where
  dev := { mode := .service, hifOut := true, profileLoaded := true }
  dict := [(dkey 0x1100 1 0, 1), (dkey 0x1100 3 0, 0x0A000002), (dkey 0x1100 4 0, 24), (dkey 0x2000 1 0, 0),
    (dkey 0x3040 1 117, 2)]
  kop := { loadedOnce := true, kept := [newerKept, olderKept], arp := [(1, 0x0A000003)] }

/-- The datagram of 10.0.0.3 for the device. -/
def repeatedFrame : MgtUdp := { dst := BitVec.allOnes 48, dstIp := 0x0A000002, dstPort := 5720 }

/-- Refutes O51: a source whose request repeats becomes the most recent of those with a kept response; the statement leaves the
order as it was. -/
theorem not_transports : ¬ Obligations.Transports := by
  unfold Obligations.Transports
  rintro ⟨repeated, -⟩
  obtain ⟨u, run, sent, -⟩ := repeated 0 0x0A000003 9 repeatedFrame repeatedRequest olderKept answeredTwo (by decide +kernel)
    (by decide +kernel) (by decide +kernel) rfl (by decide +kernel) (by decide) (by decide) rfl rfl (by decide)
  obtain rfl := Host.Outcome.next.inj run
  have order := congrArg (fun v : State => v.kop.kept) sent
  exact absurd order (by decide +kernel)

end Sys2Proof.Machine
end

section
/-! SUPPORT. A request of the object protocol that a working transport brings (R511-R514): what its response carries, and which
answer each check of an entry gives. -/

namespace Sys2Proof.Machine

/-! ### The bytes of a response -/

/-- The data of a response follow its header of 16 bytes. -/
theorem KopRsp.data_pdu (p : KopRsp) (op seq : Nat) : (p.pdu op seq).drop 16 = p.data := rfl

theorem KopRsp.sub_pdu (p : KopRsp) (op seq : Nat) : byteAt (p.pdu op seq) 8 = p.sub % 256 := rfl

theorem KopRsp.index_pdu (p : KopRsp) (op seq : Nat) : field (p.pdu op seq) 6 2 = p.index % 2 ^ 16 := by
  have bytes : field (p.pdu op seq) 6 2 = leNat (leBytes 2 p.index) := rfl
  rw [bytes]
  simp only [leBytes, leNat, BitVec.toNat_ofNat]
  omega

/-! ### The request -/

theorem State.request'_of_reaches {s : State} {r : Requester} (up : s.reaches r = true) (q : KopReq) (drawn : Option Bytes) :
    s.request' r q drawn = (s.kopServe r q drawn).1.answered ((s.kopServe r q drawn).2.pdu q.op 0) := by
  rw [State.request', if_pos up]
  rfl

theorem State.request'_of_unreached {s : State} {r : Requester} (far : s.reaches r = false) (q : KopReq)
    (drawn : Option Bytes) : s.request' r q drawn = s := by
  rw [State.request', if_neg (by simp [far])]

theorem State.next_of_unreached {s : State} {r : Requester} (far : s.reaches r = false) (q : KopReq)
    (drawn : Option Bytes) :
    ∃ u, (.next (s.request' r q drawn) : Host.Outcome State Fault Refusal) = .next u ∧ u = s ∧ Frame [] s u := by
  rw [State.request'_of_unreached far]
  exact ⟨s, rfl, rfl, Frame.refl ..⟩

/-- A request that changes nothing leaves its response. -/
theorem State.next_of_unchanged {s : State} {r : Requester} {q : KopReq} {drawn : Option Bytes} {p : KopRsp} {code : Nat}
    (up : s.reaches r = true) (serve : s.kopServe r q drawn = (s, p)) (result : p.result = code) (byte : code < 256) :
    ∃ u, (.next (s.request' r q drawn) : Host.Outcome State Fault Refusal) = .next u ∧ u.result = code ∧
      u.kop.response = p.pdu q.op 0 ∧ Frame [.kop] s u := by
  rw [State.request'_of_reaches up, serve]
  refine ⟨_, rfl, ?_, rfl, State.answered_frame ..⟩
  exact (KopRsp.result_pdu ..).trans ((congrArg (· % 256) result).trans (Nat.mod_eq_of_lt byte))

theorem State.next_of_answer {s : State} {r : Requester} {q : KopReq} {drawn : Option Bytes} {p : KopRsp} {code : Nat}
    (up : s.reaches r = true) (serve : s.kopServe r q drawn = (s, p)) (result : p.result = code) (byte : code < 256) :
    ∃ u, (.next (s.request' r q drawn) : Host.Outcome State Fault Refusal) = .next u ∧ u.result = code ∧
      Frame [.kop] s u := by
  obtain ⟨u, run, res, -, k⟩ := State.next_of_unchanged up serve result byte
  exact ⟨u, run, res, k⟩

/-! ### The entry -/

theorem State.kopServe_of_missing {s : State} {q : KopReq} (idle : s.loading = false) (entry : q.op ≠ 4)
    (none : findEntry q.index q.sub = none) (r : Requester) (drawn : Option Bytes) :
    s.kopServe r q drawn = (s, q.fail kNoEntry) := by
  rw [State.kopServe, if_neg (by simp [idle]), if_neg entry, none]

theorem State.kopServe_of_found {s : State} {q : KopReq} {e : Entry} (idle : s.loading = false) (entry : q.op ≠ 4)
    (found : findEntry q.index q.sub = some e) (r : Requester) (drawn : Option Bytes) :
    s.kopServe r q drawn = s.kopEntry r e q drawn := by
  rw [State.kopServe, if_neg (by simp [idle]), if_neg entry, found]

section
variable {s : State} {r : Requester} {q : KopReq} (e : Entry) (drawn : Option Bytes)

theorem State.kopEntry_of_bus (write : q.op = 2) (bus : Requester.class r = 3) :
    s.kopEntry r e q drawn = (s, { q.fail kPermission with type := e.type }) := if_pos ⟨write, bus⟩

theorem State.kopEntry_of_unavailable (read : q.op = 1)
    (off : (s.onlyAlwaysOn = true ∧ alwaysOn q.index = false) ∨ s.entryOff q.index = true) :
    s.kopEntry r e q drawn = (s, { q.fail kUnavailable with type := e.type }) := by
  rw [State.kopEntry, if_neg (by omega), if_pos]
  simpa [read] using off

theorem State.kopEntry_of_unreadable (other : ¬(q.op = 2 ∧ Requester.class r = 3))
    (there : ¬((q.op ≠ 3 ∧ s.onlyAlwaysOn ∧ !alwaysOn q.index) ∨ (q.op = 1 ∧ s.entryOff q.index)))
    (hidden : mayRead r q.index = false) : s.kopEntry r e q drawn = (s, { q.fail kPermission with type := e.type }) := by
  rw [State.kopEntry, if_neg other, if_neg there, if_pos (by simp [hidden])]

/-- A READ of an entry that can be reached and that its requester may read. -/
theorem State.kopEntry_of_readable (read : q.op = 1) (on : s.onlyAlwaysOn = false ∨ alwaysOn q.index = true)
    (powered : s.entryOff q.index = false) (may : mayRead r q.index = true) :
    s.kopEntry r e q drawn = s.kopReadOp r e q drawn := by
  rw [State.kopEntry, if_neg (by omega), if_neg, if_neg (by simp [may]), if_pos read]
  rcases on with on | on <;> simp [on, powered]

theorem State.kopEntry_of_described (describes : q.op = 3) (may : mayRead r q.index = true) :
    s.kopEntry r e q drawn = (s, { q.fail kOk with type := e.type, data := describe e q.index }) := by
  rw [State.kopEntry, if_neg (by omega), if_neg (by simp [describes]), if_neg (by simp [may]), if_neg (by omega),
    if_neg (by omega)]

/-- A WRITE of an entry that can be reached and that its requester may read. -/
theorem State.kopEntry_of_write (write : q.op = 2) (cls : Requester.class r ≠ 3)
    (on : s.onlyAlwaysOn = false ∨ alwaysOn q.index = true) (may : mayRead r q.index = true) :
    s.kopEntry r e q drawn = s.kopWriteOp r e q := by
  rw [State.kopEntry, if_neg (fun bus => cls bus.2), if_neg, if_neg (by simp [may]), if_neg (by omega), if_pos write]
  rcases on with on | on <;> simp [on, write]

end

end Sys2Proof.Machine
end

section
/-! SUPPORT. READ, DESCRIBE and NEXT of the object protocol (R502, R506, R511-R514, R523). -/

namespace Sys2Proof.Machine

/-- The request of a READ. -/
def readRequest (index : BitVec 16) (sub type : BitVec 8) (length : BitVec 16) (offset : BitVec 32) : KopReq :=
  { op := 1, index := index.toNat, sub := sub.toNat, type := type.toNat, length := length.toNat, offset := offset.toNat }

/-- The request of a DESCRIBE or a NEXT. -/
def namedRequest (op : Nat) (index : BitVec 16) (sub : BitVec 8) : KopReq :=
  { op := op, index := index.toNat, sub := sub.toNat }

@[simp] theorem readRequest_op (index : BitVec 16) (sub type : BitVec 8) (length : BitVec 16) (offset : BitVec 32) :
    (readRequest index sub type length offset).op = 1 := rfl

@[simp] theorem namedRequest_op (op : Nat) (index : BitVec 16) (sub : BitVec 8) : (namedRequest op index sub).op = op := rfl

theorem exec_kopRead (r : Requester) (index : BitVec 16) (sub type : BitVec 8) (length : BitVec 16) (offset : BitVec 32)
    (s : State) :
    exec (.kopRead r index sub type length offset) s = .next (s.request' r (readRequest index sub type length offset)) := rfl

theorem exec_kopDescribe (r : Requester) (index : BitVec 16) (sub : BitVec 8) (s : State) :
    exec (.kopDescribe r index sub) s = .next (s.request' r (namedRequest 3 index sub)) := rfl

theorem exec_kopNext (r : Requester) (index : BitVec 16) (sub : BitVec 8) (s : State) :
    exec (.kopNext r index sub) s = .next (s.request' r (namedRequest 4 index sub)) := rfl

theorem State.kopReadOp_of_type {s : State} {r : Requester} {e : Entry} {q : KopReq} {drawn : Option Bytes}
    (typed : q.type ≠ 0) (other : q.type ≠ e.type) :
    s.kopReadOp r e q drawn = (s, { q.fail kType with type := e.type }) := if_pos ⟨typed, other⟩

/-- A READ of a value that one response can carry. -/
theorem State.kopReadOp_of_value {s : State} {r : Requester} {e : Entry} {q : KopReq} {drawn : Option Bytes} {b : Bytes}
    (type : q.type = 0 ∨ q.type = e.type) (plain : e.index * 256 + e.sub ≠ 0x112001)
    (value : s.readValue e q = .ok b) (fits : b.length ≤ dataLimit r) :
    s.kopReadOp r e q drawn = (s, { q.fail kOk with type := e.type, data := b }) := by
  simp only [State.kopReadOp, if_neg (show ¬(q.type ≠ 0 ∧ q.type ≠ e.type) by omega), if_neg plain, value,
    if_neg (Nat.not_lt.mpr fits)]

theorem State.kopServe_next {s : State} {r : Requester} {q : KopReq} (idle : s.loading = false) (next : q.op = 4)
    (drawn : Option Bytes) : s.kopServe r q drawn = (s, kopNextOp r q) := by
  rw [State.kopServe, if_neg (by simp [idle]), if_pos next]

theorem kopNextOp_of_some {r : Requester} {q : KopReq} {x : Nat × Nat} (next : nextEntry r 8192 q.index (some q.sub) = some x) :
    (kopNextOp r q).result = kOk ∧ (kopNextOp r q).index = x.1 ∧ (kopNextOp r q).sub = x.2 := by
  rw [kopNextOp, next]
  exact ⟨rfl, rfl, rfl⟩

theorem kopNextOp_of_none {r : Requester} {q : KopReq} (next : nextEntry r 8192 q.index (some q.sub) = none) :
    kopNextOp r q = q.fail kNoEntry := by
  rw [kopNextOp, next]

theorem Except.eq_ok_of_toOption {ε α : Type} {x : Except ε α} {a : α} (some : x.toOption = some a) : x = .ok a := by
  cases x with
  | error => cases some
  | ok b => exact congrArg Except.ok (Option.some.inj some)

section
variable {r : Requester} {index : BitVec 16} {sub : BitVec 8} {s : State} (up : s.reaches r = true) (idle : s.loading = false)
include up idle

/-! ### READ -/

section
variable (type : BitVec 8) (length : BitVec 16) (offset : BitVec 32)

theorem exec_kopRead_of_missing (none : findEntry index.toNat sub.toNat = none) :
    ∃ u, exec (.kopRead r index sub type length offset) s = .next u ∧ u.result = kNoEntry ∧ Frame [.kop] s u := by
  rw [exec_kopRead]
  exact State.next_of_answer up (State.kopServe_of_missing idle (by simp) none r _) rfl (by decide)

variable {type : BitVec 8} {length : BitVec 16} {offset : BitVec 32} {e : Entry}
  (found : findEntry index.toNat sub.toNat = some e)
include found

/-- A READ of an entry gives what the entry's checks give. -/
theorem exec_kopRead_of_answer {p : KopRsp} {code : Nat}
    (answer : s.kopEntry r e (readRequest index sub type length offset) none = (s, p)) (result : p.result = code)
    (byte : code < 256) :
    ∃ u, exec (.kopRead r index sub type length offset) s = .next u ∧ u.result = code ∧ Frame [.kop] s u := by
  rw [exec_kopRead]
  exact State.next_of_answer up ((State.kopServe_of_found idle (by simp) found r none).trans answer) result byte

theorem exec_kopRead_of_value {b : Bytes} {p : KopRsp}
    (answer : s.kopReadOp r e (readRequest index sub type length offset) none = (s, p)) (ok : p.result = kOk)
    (data : p.data = b)
    (on : s.onlyAlwaysOn = false ∨ alwaysOn index.toNat = true) (powered : s.entryOff index.toNat = false)
    (may : mayRead r index.toNat = true) :
    ∃ u, exec (.kopRead r index sub type length offset) s = .next u ∧ u.result = kOk ∧ u.kop.response.drop 16 = b ∧
      Frame [.kop] s u := by
  have serve := State.kopServe_of_found (q := readRequest index sub type length offset) idle (by simp) found r none
  rw [State.kopEntry_of_readable e none (readRequest_op ..) on powered may, answer] at serve
  obtain ⟨u, run, result, rsp, k⟩ := State.next_of_unchanged up serve ok (by decide)
  exact ⟨u, (exec_kopRead ..).trans run, result, by rw [rsp, KopRsp.data_pdu, data], k⟩

end

/-! ### DESCRIBE and NEXT -/

theorem exec_kopDescribe_of_missing (none : findEntry index.toNat sub.toNat = none) :
    ∃ u, exec (.kopDescribe r index sub) s = .next u ∧ u.result = kNoEntry ∧ Frame [.kop] s u := by
  rw [exec_kopDescribe]
  exact State.next_of_answer up (State.kopServe_of_missing idle (by simp) none r _) rfl (by decide)

theorem exec_kopDescribe_of_readable {e : Entry} (found : findEntry index.toNat sub.toNat = some e)
    (may : mayRead r index.toNat = true) :
    ∃ u, exec (.kopDescribe r index sub) s = .next u ∧ u.result = kOk ∧
      u.kop.response.drop 16 = describe e index.toNat ∧ Frame [.kop] s u := by
  have serve := State.kopServe_of_found (q := namedRequest 3 index sub) idle (by simp) found r none
  rw [State.kopEntry_of_described e none rfl may] at serve
  obtain ⟨u, run, result, rsp, k⟩ := State.next_of_unchanged (code := kOk) up serve rfl (by decide)
  refine ⟨u, (exec_kopDescribe ..).trans run, result, ?_, k⟩
  rw [rsp, KopRsp.data_pdu]
  rfl

theorem exec_kopDescribe_of_unreadable {e : Entry} (found : findEntry index.toNat sub.toNat = some e)
    (hidden : mayRead r index.toNat = false) :
    ∃ u, exec (.kopDescribe r index sub) s = .next u ∧ u.result = kPermission ∧ Frame [.kop] s u := by
  have serve := State.kopServe_of_found (q := namedRequest 3 index sub) idle (by simp) found r none
  rw [State.kopEntry_of_unreadable e none (by simp) (by simp) hidden] at serve
  rw [exec_kopDescribe]
  exact State.next_of_answer up serve rfl (by decide)

theorem exec_kopNext_of_some {x : Nat × Nat} (next : nextEntry r 8192 index.toNat (some sub.toNat) = some x)
    (index16 : x.1 < 2 ^ 16) (sub8 : x.2 < 2 ^ 8) :
    ∃ u, exec (.kopNext r index sub) s = .next u ∧ u.result = kOk ∧ field u.kop.response 6 2 = x.1 ∧
      byteAt u.kop.response 8 = x.2 ∧ Frame [.kop] s u := by
  obtain ⟨ok, atIndex, atSub⟩ := kopNextOp_of_some (q := namedRequest 4 index sub) next
  obtain ⟨u, run, result, rsp, k⟩ :=
    State.next_of_unchanged up (State.kopServe_next (r := r) idle (namedRequest_op 4 index sub) none) ok (by decide)
  refine ⟨u, (exec_kopNext ..).trans run, result, ?_, ?_, k⟩
  · rw [rsp, KopRsp.index_pdu, atIndex, Nat.mod_eq_of_lt index16]
  · rw [rsp, KopRsp.sub_pdu, atSub]
    exact Nat.mod_eq_of_lt sub8

theorem exec_kopNext_of_none (next : nextEntry r 8192 index.toNat (some sub.toNat) = none) :
    ∃ u, exec (.kopNext r index sub) s = .next u ∧ u.result = kNoEntry ∧ Frame [.kop] s u := by
  have serve := State.kopServe_next (r := r) idle (namedRequest_op 4 index sub) none
  rw [kopNextOp_of_none next] at serve
  rw [exec_kopNext]
  exact State.next_of_answer up serve rfl (by decide)

end

/-- Settles O48: a request changes nothing but its response, and the first check of its entry that fails, or the value, the
description or the next entry, makes the answer. -/
theorem reads : Obligations.Reads := by
  unfold Obligations.Reads
  refine ⟨?value, ?missing, ?unavailable, ?unreadable, ?wrongType, ?unreached, ?described, ?describesMissing,
    ?describesHidden, ?describesUnreached, ?next, ?last, ?nextUnreached⟩
  case value =>
    intro r index sub type length offset e b s up idle found may on powered typed plain value fits
    exact exec_kopRead_of_value up idle found
      (State.kopReadOp_of_value typed plain (Except.eq_ok_of_toOption value) fits) rfl rfl on powered may
  case missing => exact fun r index sub type length offset s up idle none => exec_kopRead_of_missing up idle type length offset none
  case unavailable =>
    intro r index sub type length offset e s up idle found off
    exact exec_kopRead_of_answer up idle found (State.kopEntry_of_unavailable e none rfl off) rfl (by decide)
  case unreadable =>
    intro r index sub type length offset e s up idle found on powered hidden
    refine exec_kopRead_of_answer up idle found (State.kopEntry_of_unreadable e none (by simp) ?_ hidden) rfl (by decide)
    rcases on with on | on <;> simp [readRequest, on, powered]
  case wrongType =>
    intro r index sub type length offset e s up idle found may on powered typed other
    exact exec_kopRead_of_answer up idle found ((State.kopEntry_of_readable e none rfl on powered may).trans
      (State.kopReadOp_of_type typed other)) rfl (by decide)
  case unreached => exact fun r index sub type length offset s far => State.next_of_unreached far _ _
  case described => exact fun r index sub e s up idle found may => exec_kopDescribe_of_readable up idle found may
  case describesMissing => exact fun r index sub s up idle none => exec_kopDescribe_of_missing up idle none
  case describesHidden => exact fun r index sub e s up idle found hidden => exec_kopDescribe_of_unreadable up idle found hidden
  case describesUnreached => exact fun r index sub s far => State.next_of_unreached far _ _
  case next => exact fun r index sub x s up idle next index16 sub8 => exec_kopNext_of_some up idle next index16 sub8
  case last => exact fun r index sub s up idle next => exec_kopNext_of_none up idle next
  case nextUnreached => exact fun r index sub s far => State.next_of_unreached far _ _

end Sys2Proof.Machine
end

section
/-! SUPPORT. The segments of a request on the service bus, its response, and the status frame (R521-R524). -/

namespace Sys2Proof.Machine

/-! ### What a request of the service bus leaves -/

/-- A read of ROLE_CHALLENGE changes a role alone. -/
theorem State.kopReadOp_assembly (s : State) (r : Requester) (e : Entry) (q : KopReq) (drawn : Option Bytes) :
    (s.kopReadOp r e q drawn).1.kop.sbNext = s.kop.sbNext ∧ (s.kopReadOp r e q drawn).1.kop.sbBytes = s.kop.sbBytes := by
  have drew : ∀ (t : State) (b : Bytes), (t.drawChallenge r b).kop.sbNext = t.kop.sbNext ∧
      (t.drawChallenge r b).kop.sbBytes = t.kop.sbBytes := fun t b => by
    unfold State.drawChallenge State.setRole
    dsimp only
    split <;> exact ⟨rfl, rfl⟩
  unfold State.kopReadOp
  dsimp only
  split
  · exact ⟨rfl, rfl⟩
  · split
    · cases drawn with
      | some b => exact drew ..
      | none =>
        have kept := (State.freeBytes_frame s 48).keeps .kop rfl
        exact ⟨(drew ..).1.trans (congrArg Kop.sbNext kept), (drew ..).2.trans (congrArg Kop.sbBytes kept)⟩
    · exact ⟨rfl, rfl⟩

/-- A request of the service bus, which cannot write, leaves the request that is assembled as it was. -/
theorem State.kopPdu_assembly (s : State) (pdu : Bytes) (count : Nat) :
    (s.kopPdu .serviceBus pdu count).1.kop.sbNext = s.kop.sbNext ∧
      (s.kopPdu .serviceBus pdu count).1.kop.sbBytes = s.kop.sbBytes := by
  have entry : ∀ (e : Entry) (q : KopReq), (s.kopEntry .serviceBus e q none).1.kop.sbNext = s.kop.sbNext ∧
      (s.kopEntry .serviceBus e q none).1.kop.sbBytes = s.kop.sbBytes := fun e q => by
    by_cases write : q.op = 2
    · rw [State.kopEntry_of_bus e none write rfl]
      exact ⟨rfl, rfl⟩
    · rw [State.kopEntry, if_neg (fun both => write both.1), if_neg write]
      split
      · exact ⟨rfl, rfl⟩
      · split
        · exact ⟨rfl, rfl⟩
        · split
          · exact State.kopReadOp_assembly ..
          · exact ⟨rfl, rfl⟩
  unfold State.kopPdu State.kopServe
  dsimp only
  split
  · exact ⟨rfl, rfl⟩
  · split
    · exact ⟨rfl, rfl⟩
    · split
      · exact ⟨rfl, rfl⟩
      · split
        · exact ⟨rfl, rfl⟩
        · exact entry ..

/-! ### Segments -/

theorem State.sbDiscard_of_fits {s : State} (can : Canonical s) (fits : s.dget 0x1110 6 + 1 < 2 ^ 32) :
    s.sbDiscard.kop.sbNext = 0 ∧ s.sbDiscard.kop.sbBytes = [] ∧ s.sbDiscard.dget 0x1110 6 = s.dget 0x1110 6 + 1 ∧
      Frame [.entries, .kop] s s.sbDiscard := by
  have can' : Canonical s.sbClear := (State.sbClear_frame s).canonical can
  have eq : s.sbDiscard = s.sbClear.dset 0x1110 6 0 (s.dget 0x1110 6 + 1) := State.dbump_of_fits (s := s.sbClear) fits
  have kept : s.sbDiscard.kop = s.sbClear.kop := by rw [eq]; exact (State.dset_frame ..).keeps .kop rfl
  refine ⟨congrArg Kop.sbNext kept, congrArg Kop.sbBytes kept, State.dget_dbump_same can' fits, ?_⟩
  rw [eq]
  exact Frame.step (State.dset_frame ..) rfl (Frame.mono (State.sbClear_frame s) rfl)

theorem execServiceBusSegment_of_reached {s : State} {segment : Bytes} (up : s.reaches .serviceBus = true)
    (whole : segment.length = 64) (t : Nat) :
    exec (.serviceBusSegment t segment) s = .next ((s.at t).sbSegment segment) := by
  have run : exec (.serviceBusSegment t segment) s = execServiceBusSegment t segment s := rfl
  rw [run, execServiceBusSegment, if_pos (by simp [up, whole])]

theorem State.sbSegment_of_first {s : State} {segment : Bytes} (first : bit (byteAt segment 0) 7 = true)
    (idle : s.kop.sbNext = 0) (zero : byteAt segment 0 % 16 = 0) :
    s.sbSegment segment = s.sbAppend (bit (byteAt segment 0) 6) 0 (slice segment 1 63) := by
  simp [State.sbSegment, first, idle, zero]

section
variable {s : State} {segment : Bytes} (running : s.kop.sbNext ≠ 0) (later : bit (byteAt segment 0) 7 = false)
include running later

theorem State.sbSegment_of_next (soon : s.uptime ≤ s.kop.sbTime + 100000000) (turn : byteAt segment 0 % 16 = s.kop.sbNext) :
    s.sbSegment segment = s.sbAppend (bit (byteAt segment 0) 6) (byteAt segment 0 % 16) (slice segment 1 63) := by
  simp [State.sbSegment, later, running, turn, Nat.not_lt.mpr soon]

theorem State.sbSegment_of_stray (stray : s.kop.sbTime + 100000000 < s.uptime ∨ byteAt segment 0 % 16 ≠ s.kop.sbNext) :
    s.sbSegment segment = s.sbDiscard := by
  rw [State.sbSegment]
  simp only [later, Bool.false_eq_true, if_false, if_neg running]
  exact if_pos (by simpa using stray)

end

/-- A segment that is not the last of its request is kept. -/
theorem State.sbAppend_of_more (s : State) {num : Nat} (more : num < 15) (body : Bytes) :
    s.sbAppend false num body =
      { s with kop := { s.kop with sbBytes := s.kop.sbBytes ++ body, sbNext := num + 1, sbTime := s.uptime } } := by
  rw [State.sbAppend, if_neg Bool.false_ne_true, if_neg (Nat.ne_of_lt more)]

/-- The frames of a response leave one after another. -/
theorem State.foldl_emit_can (s : State) (frames : List Bytes) :
    frames.foldl (fun s b => s.emit (.can (0x480 + s.bootGet 0x1110 2) b)) s =
      { s with out := (frames.map fun b => Out.can (0x480 + s.bootGet 0x1110 2) b).reverse ++ s.out } := by
  induction frames generalizing s with
  | nil => rfl
  | cons b bs ih =>
    rw [List.foldl_cons, ih, List.map_cons, List.reverse_cons, List.append_assoc]
    rfl

/-- The bytes that the last segment's number and the request's header give its PDU. -/
def sbCount (data : Bytes) (k : Nat) : Nat :=
  if (pduLength (parsePdu data) + 62) / 63 = k then pduLength (parsePdu data) else 63 * k

/-- A whole request is served, and its response goes out where the device can send. -/
theorem State.sbServe_of_answer {s : State} {data : Bytes} {k : Nat} {p : State × Bytes}
    (answer : s.kopPdu .serviceBus (data.take (sbCount data k)) (sbCount data k) = p) :
    s.sbServe data k = { p.1 with out := if p.1.canSends then
      ((segments p.2).map fun b => Out.can (0x480 + p.1.bootGet 0x1110 2) b).reverse ++ p.1.out else p.1.out } := by
  have serve : s.sbServe data k = if p.1.canSends then
      (segments p.2).foldl (fun s b => s.emit (.can (0x480 + s.bootGet 0x1110 2) b)) p.1 else p.1 := by
    rw [← answer]
    rfl
  rw [serve, State.foldl_emit_can]
  by_cases sends : p.1.canSends = true
  · rw [if_pos sends, if_pos sends]
  · rw [if_neg sends, if_neg sends]

/-! ### The status frame -/

/-- The state of the status frame is no free value unless the device has tripped. -/
theorem State.sbState_of_untripped {s : State} (running : s.dev.mode ≠ .tripped) : s.sbState.2 = s := by
  unfold State.sbState
  dsimp only
  split
  · rfl
  · split <;> first | rfl | contradiction

theorem execSbStatusPeriod_of_due {s : State} {t : Nat} (sends : s.canSends = true)
    (due : s.kop.sbLast.all (fun x => decide (x + s.bootGet 0x1110 5 * 1000000 ≤ max s.uptime t)) = true)
    (running : s.dev.mode ≠ .tripped) :
    exec (.sbStatusPeriod t) s = .next
      (({ s.at t with kop := { s.kop with sbLast := some (max s.uptime t) } } : State).emit
        (.can (0x500 + (s.at t).bootGet 0x1110 2) ((s.at t).statusFrame (s.at t).sbState.1))) := by
  have run : exec (.sbStatusPeriod t) s = execSbStatusPeriod t s := rfl
  rw [run, execSbStatusPeriod]
  simp only [sends, due, Bool.and_self, if_true]
  rw [State.sbState_of_untripped (s := s.at t) running]
  rfl

/-- Settles O52: segments join the request that is assembled, discard it, or end it, and the status frame goes out once a period. -/
theorem serviceBus : Obligations.ServiceBus := by
  unfold Obligations.ServiceBus
  refine ⟨?first, ?more, ?last, ?stray, ?unreached, ?expired, ?unexpired, ?status, ?noStatus⟩
  case first =>
    intro t segment s up whole idle first open' zero
    have run := execServiceBusSegment_of_reached up whole t
    rw [State.sbSegment_of_first (s := s.at t) first idle zero, open', State.sbAppend_of_more _ (by decide)] at run
    exact ⟨_, run, rfl, rfl, rfl, Frame.set_kop _ rfl (Frame.mono (State.at_frame s t) rfl)⟩
  case more =>
    intro t segment s up whole running later soon turn open' fits
    have run := execServiceBusSegment_of_reached up whole t
    rw [State.sbSegment_of_next (s := s.at t) running later soon turn, open', State.sbAppend_of_more _ fits] at run
    exact ⟨_, run, congrArg (· + 1) turn, rfl, rfl, Frame.set_kop _ rfl (Frame.mono (State.at_frame s t) rfl)⟩
  case last =>
    intro t segment n s up whole running later soon turn last count
    have run := execServiceBusSegment_of_reached up whole t
    have zones := execServiceBusSegment_frame run
    rw [State.sbSegment_of_next (s := s.at t) running later soon turn, last, State.sbAppend, if_pos rfl] at run zones
    refine ⟨_, run, fun p answer => ?_, zones⟩
    subst count
    obtain ⟨next, bytes⟩ := answer ▸ State.kopPdu_assembly (s.at t).sbClear _ _
    have served := State.sbServe_of_answer (s := (s.at t).sbClear) (data := (s.at t).kop.sbBytes ++ slice segment 1 63) answer.symm
    rw [served]
    exact ⟨rfl, next, bytes, fun sends => if_pos sends⟩
  case stray =>
    intro t segment s can up whole fits running later stray
    have run := execServiceBusSegment_of_reached up whole t
    rw [State.sbSegment_of_stray (s := s.at t) running later stray] at run
    obtain ⟨next, bytes, counted, k⟩ := State.sbDiscard_of_fits ((State.at_frame s t).canonical can) fits
    exact ⟨_, run, next, bytes, counted, k.keeps .uptime rfl, k.keeps .out rfl,
      Frame.step k rfl (Frame.mono (State.at_frame s t) rfl)⟩
  case unreached =>
    intro t segment s refused
    have run : exec (.serviceBusSegment t segment) s = execServiceBusSegment t segment s := rfl
    rw [run, execServiceBusSegment, if_neg (by rcases refused with h | h <;> simp [h])]
    exact ⟨s, rfl, rfl, Frame.refl ..⟩
  case expired =>
    intro t s can on running late fits
    have run : exec (.serviceBusSegmentTimeout t) s = execServiceBusSegmentTimeout t s := rfl
    rw [execServiceBusSegmentTimeout, if_pos (by simp [on, running, late])] at run
    obtain ⟨next, bytes, counted, k⟩ := State.sbDiscard_of_fits ((State.at_frame s t).canonical can) fits
    exact ⟨_, run, next, bytes, counted, k.keeps .uptime rfl, k.keeps .out rfl,
      Frame.step k rfl (Frame.mono (State.at_frame s t) rfl)⟩
  case unexpired =>
    intro t s kept
    have run : exec (.serviceBusSegmentTimeout t) s = execServiceBusSegmentTimeout t s := rfl
    rw [run, execServiceBusSegmentTimeout, if_neg]
    · exact ⟨s, rfl, rfl, Frame.refl ..⟩
    · rcases kept with h | h | h
      · simp [h]
      · simp [h]
      · simp [Nat.not_lt.mpr h]
  case status =>
    intro t s sends due running
    have run := execSbStatusPeriod_of_due sends due running
    exact ⟨_, run, rfl, rfl, rfl, Frame.step (State.emit_frame ..) rfl
      (Frame.set_kop _ rfl (Frame.mono (State.at_frame s t) rfl))⟩
  case noStatus =>
    intro t s quiet
    have run : exec (.sbStatusPeriod t) s = execSbStatusPeriod t s := rfl
    rw [run, execSbStatusPeriod]
    simp only
    rw [if_neg]
    · exact ⟨s, rfl, rfl, Frame.refl ..⟩
    · rcases quiet with h | h <;> simp only [h, Bool.false_and, Bool.and_false, Bool.false_eq_true, not_false_eq_true]

end Sys2Proof.Machine
end

section
/-! SUPPORT. A response to a challenge on a device without power whose Host Interface stands out of reset (log entry 2). -/

namespace Sys2Proof.Machine

/-- Refutes O50: a response on a device without power is asked to change nothing, but whether a request is answered depends on its
transport alone, and nothing in the statement says that the link is down when the power is off. -/
theorem not_roles : ¬ Obligations.Roles := by
  unfold Obligations.Roles
  rintro ⟨-, -, -, -, -, -, -, off, -⟩
  obtain ⟨u, run, same, -⟩ := off .hostPf [] 0 offWithLinkUp rfl
  obtain rfl := Host.Outcome.next.inj run
  have response := congrArg (fun v : State => v.kop.response) same
  exact absurd response (by decide +kernel)

end Sys2Proof.Machine
end

section
/-! SUPPORT. A reset that is asked for again while a search waits for its turn (R572, R584). -/

namespace Sys2Proof.Machine

/-- Context 255 is being reset, no search runs, and one waits for the step of command 7. -/
def resetWithStall : State where
  dev := { mode := .service, hifOut := true, profileLoaded := true }
  hif := { linkUp := true }
  ctxs := { resets := [(255, { phase := 2, cause := 1, start := 0 })], stalls := [(7, 0, [])] }
  steps := [{ cmd := 7, ring := 0, ctx := 0, seq := 0 }]

theorem resetWithStall_canonical : Canonical resetWithStall := by constructor <;> decide

/-- Refutes O59: a CTX_RESET that joins the reset in progress lets the next search begin, which takes it off the searches that wait;
the statement leaves the contexts' records as they were. -/
theorem not_resetRequests : ¬ Obligations.ResetRequests := by
  unfold Obligations.ResetRequests
  rintro ⟨-, joined, -⟩
  obtain ⟨u, run, -, contexts, -⟩ := joined .hostPf 255 resetWithStall resetWithStall_canonical (by decide +kernel) (by decide +kernel)
  have waits : u.ctxs.stalls = [(7, 0, [])] := congrArg Ctxs.stalls contexts
  obtain rfl := Host.Outcome.next.inj run
  exact absurd waits (by decide +kernel)

end Sys2Proof.Machine
end

section
/-! SUPPORT. What a refused element of a WRITE leaves (R503, R504, R511-R513): the owners of the entries but two refuse a value
before they change anything. -/

namespace Sys2Proof.Machine

/-- A refusal leaves the device as it was, and answers RANGE or STATE. -/
def RefusesCleanly (s : State) (w : Written) : Prop := w.2 = kOk ∨ (w.1 = s ∧ (w.2 = kRange ∨ w.2 = kState))

namespace RefusesCleanly

variable {s : State}

theorem ok (u : State) : RefusesCleanly s (u, kOk) := .inl rfl

theorem range : RefusesCleanly s (s, kRange) := .inr ⟨rfl, .inl rfl⟩

theorem state : RefusesCleanly s (s, kState) := .inr ⟨rfl, .inr rfl⟩

theorem ite {p : Prop} [Decidable p] {v w : Written} (yes : RefusesCleanly s v) (no : RefusesCleanly s w) :
    RefusesCleanly s (if p then v else w) := by
  split
  · exact yes
  · exact no

end RefusesCleanly

/-! ### The owners of entries -/

theorem State.writeProfileImage_clean (s : State) (slot : Nat) (b : Bytes) : RefusesCleanly s (s.writeProfileImage slot b) :=
  .ite .state (.ite .range (.ok _))

theorem State.writeStoreKey_clean (s : State) (k : Nat) (key : Bytes) : RefusesCleanly s (s.writeStoreKey k key) :=
  .ite .state (.ite .range (.ok _))

theorem State.writeKeyRevoke_clean (s : State) (k : Nat) : RefusesCleanly s (s.writeKeyRevoke k) :=
  .ite .range (.ite .state (.ok _))

theorem State.writeInstallMode_clean (s : State) (v : Nat) : RefusesCleanly s (s.writeInstallMode v) :=
  .ite .range (.ite (.ok _) (.ok _))

theorem State.writeStoreSetting_clean (s : State) (sub v : Nat) : RefusesCleanly s (s.writeStoreSetting sub v) :=
  .ite .state (.ok _)

theorem State.writeProfileSave_clean (s : State) (slot : Nat) : RefusesCleanly s (s.writeProfileSave slot) := by
  unfold State.writeProfileSave
  split
  · exact .ok _
  · exact .ok _

theorem State.writeCduApply_clean (s : State) : RefusesCleanly s s.writeCduApply := by
  by_cases legal : cadenceOk (s.dget 0x2200 1) (s.dget 0x2200 2) (s.dget 0x2200 3) = true
  · rw [State.writeCduApply, State.cduApply, if_pos legal]
    exact .ok _
  · rw [State.writeCduApply, State.cduApply, if_neg legal]
    exact .state

theorem State.writeClusterAssign_clean (s : State) (cl v : Nat) : RefusesCleanly s (s.writeClusterAssign cl v) :=
  .ite .state (.ok _)

theorem State.writeLoopLane_clean (s : State) (g v : Nat) : RefusesCleanly s (s.writeLoopLane g v) :=
  .ite .range (.ite .state (.ok _))

theorem State.writeTestRequest_clean (s : State) (v : Nat) : RefusesCleanly s (s.writeTestRequest v) :=
  .ite (.ite .state (.ok _)) (.ok _)

theorem State.writePartitionApply_clean (s : State) : RefusesCleanly s s.writePartitionApply :=
  .ite .state (.ok _)

theorem State.writePool_clean (s : State) (c v : Nat) : RefusesCleanly s (s.writePool c v) :=
  .ite .state (.ite (.ok _) (.ok _))

theorem State.writeBivouacVa_clean (s : State) (c v : Nat) : RefusesCleanly s (s.writeBivouacVa c v) :=
  .ite .state (.ok _)

theorem State.writeLaneSide_clean (s : State) (c e : Nat) (b : Bytes) : RefusesCleanly s (s.writeLaneSide c e b) :=
  .ite .state (.ite .range (.ok _))

theorem State.writeLaneSwitch_clean (s : State) (c l : Nat) : RefusesCleanly s (s.writeLaneSwitch c l) :=
  .ite .range (.ite .state (.ok _))

theorem State.writeLaneCancel_clean (s : State) (c l : Nat) : RefusesCleanly s (s.writeLaneCancel c l) :=
  .ite .range (.ite .state (.ok _))

theorem State.writePortLaneTest_clean (s : State) (p v : Nat) : RefusesCleanly s (s.writePortLaneTest p v) :=
  .ite (.ok _) .state

theorem State.writeExchange_clean (s : State) (c e : Nat) (b : Bytes) : RefusesCleanly s (s.writeExchange c e b) :=
  .ite (.ok _) .range

theorem State.writePerturbSlot_clean (s : State) (i : Nat) (b : Bytes) : RefusesCleanly s (s.writePerturbSlot i b) :=
  .ite (.ok _) .range

/-! ### An element -/

theorem State.writeOctets_clean (s : State) (m : Bool) {key : Nat} (role : key ≠ 0x112002) (b : Bytes) :
    RefusesCleanly s (s.writeOctets m key b) := by
  unfold State.writeOctets
  split
  · contradiction
  · exact State.writeProfileImage_clean ..
  · exact State.writeProfileImage_clean ..
  · exact State.writeProfileImage_clean ..
  · exact State.writeProfileImage_clean ..
  · exact State.writeStoreKey_clean ..
  · exact State.writeStoreKey_clean ..
  · exact State.writeStoreKey_clean ..

/-- ROLE_RESPONSE, STORE_OPEN, STORE_COMMIT and STORE_ERASE, whose owners record a refusal. -/
def recordsRefusal (key : Nat) : Prop := key = 0x112002 ∨ key = 0x700003 ∨ key = 0x700004 ∨ key = 0x700005

theorem State.writeDevice_clean (s : State) (m : Bool) {index sub : Nat} (plain : ¬recordsRefusal (index * 256 + sub)) (i v : Nat) :
    RefusesCleanly s (s.writeDevice m index sub i v) := by
  unfold recordsRefusal at plain
  unfold State.writeDevice
  split
  case h_3 => exact State.writeProfileSave_clean ..
  case h_6 => exact State.writeCduApply_clean ..
  case h_7 => exact State.writeClusterAssign_clean ..
  case h_9 => exact State.writeLoopLane_clean ..
  case h_12 => exact State.writeTestRequest_clean ..
  case h_16 => exact State.writePartitionApply_clean ..
  case h_19 => exact State.writeInstallMode_clean ..
  case h_20 => omega
  case h_21 => omega
  case h_22 => omega
  case h_23 => exact State.writeStoreSetting_clean ..
  case h_24 => exact State.writeStoreSetting_clean ..
  case h_25 => exact State.writeKeyRevoke_clean ..
  all_goals exact .ok _

theorem State.writeBlock_clean (s : State) (key index sub i v : Nat) :
    RefusesCleanly s (s.writeBlock key index sub i v) := by
  unfold State.writeBlock
  split
  case h_2 => exact State.writePool_clean ..
  case h_3 => exact State.writeBivouacVa_clean ..
  case h_5 => exact State.writeLaneSwitch_clean ..
  case h_6 => exact State.writeLaneCancel_clean ..
  case h_9 => exact State.writePortLaneTest_clean ..
  all_goals exact .ok _

/-- An element that its check refuses leaves the device as it was, unless its owner records the refusal. -/
theorem State.writeElem_clean (s : State) (m : Bool) {e : Entry} {index : Nat} (plain : ¬recordsRefusal (e.index * 256 + e.sub))
    (named : ¬recordsRefusal (index * 256 + e.sub)) (i : Nat) (b : Bytes) : RefusesCleanly s (s.writeElem m e index i b) := by
  unfold State.writeElem
  dsimp only
  split
  · exact State.writeLaneSide_clean ..
  · exact State.writeExchange_clean ..
  · exact State.writePerturbSlot_clean ..
  · exact .ite (State.writeOctets_clean s m (fun role => plain (.inl role)) b)
      (.ite .range (.ite (State.writeBlock_clean ..) (State.writeDevice_clean s m named i _)))

/-! ### The entry of an index -/

theorem findEntry_index {index sub : Nat} {e : Entry} (found : findEntry index sub = some e) :
    e.index = baseIndex index ∧ e.sub = sub := by
  unfold findEntry at found
  split at found
  next zero =>
    split at found
    · contradiction
    · obtain rfl := Option.some.inj found
      exact ⟨rfl, zero.symm⟩
  next =>
    have row := List.find?_some found
    simpa only [Bool.and_eq_true, decide_eq_true_eq] using row

/-- An index outside the context blocks and the ports has its own row. -/
theorem baseIndex_of_eq {index n : Nat} (base : baseIndex index = n) (own : n < 0x4000 ∨ 0x5020 ≤ n) : index = n := by
  unfold baseIndex at base
  split at base
  · omega
  · split at base
    · omega
    · exact base

theorem not_recordsRefusal {index sub : Nat} {e : Entry} (found : findEntry index sub = some e) (byte : sub < 256)
    (role : ¬(index = 0x1120 ∧ sub = 2)) (store : ¬(index = 0x7000 ∧ 3 ≤ sub ∧ sub ≤ 5)) :
    ¬recordsRefusal (e.index * 256 + e.sub) ∧ ¬recordsRefusal (index * 256 + e.sub) := by
  obtain ⟨base, rfl⟩ := findEntry_index found
  have atRole := fun h => baseIndex_of_eq (index := index) (n := 0x1120) h (.inl (by decide))
  have atStore := fun h => baseIndex_of_eq (index := index) (n := 0x7000) h (.inr (by decide))
  unfold recordsRefusal
  rw [base]
  omega

end Sys2Proof.Machine
end

section
/-! SUPPORT. The two owners that record a refusal: the roles (R508) and the slots of the Store (R264, R266). -/

namespace Sys2Proof.Machine

/-! ### Roles -/

theorem State.role_of_frame {g : List Zone} {s u : State} (k : Frame g s u) (kop : g.contains .kop = false) (m : Bool) :
    u.role m = s.role m := by rw [State.role, State.role, k.keeps .kop kop]

/-- A count of a refused response, the role otherwise as its record says. -/
def CountsRefusal (s : State) (m : Bool) (w : Written) : Prop :=
  ∃ v : Role, v.grantUntil = (s.role m).grantUntil ∧ w = ((s.setRole m v).dbump 0x1120 6 0 32, kAuth)

theorem State.roleRefused_counts (s : State) (m : Bool) : CountsRefusal s m (s.roleRefused m) := by
  refine ⟨_, ?_, rfl⟩
  rfl

/-- A response that is refused counts, and ends no grant. -/
theorem State.writeRoleResponse_counts {s : State} {m : Bool} {b : Bytes} (refused : (s.writeRoleResponse m b).2 ≠ kOk) :
    CountsRefusal s m (s.writeRoleResponse m b) := by
  revert refused
  unfold State.writeRoleResponse
  dsimp only
  generalize (if m then 2 else 0) = cls
  split
  · exact fun _ => ⟨s.role m, rfl, by cases m <;> rfl⟩
  · split
    · exact fun _ => State.roleRefused_counts s m
    · split
      · exact fun ok => absurd rfl ok
      · exact fun _ => State.roleRefused_counts s m

section
variable {s : State} {m : Bool} {w : Written} (refusal : CountsRefusal s m w)
include refusal

theorem CountsRefusal.code : w.2 = kAuth := by
  obtain ⟨v, -, rfl⟩ := refusal
  rfl

theorem CountsRefusal.frame : Frame [.free, .entries, .kop] s w.1 := by
  obtain ⟨v, -, rfl⟩ := refusal
  exact Frame.step (State.dbump_frame ..) rfl (Frame.set_kop _ rfl (Frame.refl _ s))

theorem CountsRefusal.grant : (w.1.role m).grantUntil = (s.role m).grantUntil := by
  obtain ⟨v, grant, rfl⟩ := refusal
  rw [State.role_of_frame (State.dbump_frame ..) rfl, ← grant]
  cases m <;> rfl

theorem CountsRefusal.counted (can : Canonical s) (fits : s.dget 0x1120 6 + 1 < 2 ^ 32) :
    w.1.dget 0x1120 6 = s.dget 0x1120 6 + 1 := by
  obtain ⟨v, -, rfl⟩ := refusal
  exact State.dget_dbump_same ((Frame.set_kop (g := [.kop]) _ rfl (Frame.refl _ s)).canonical can) fits

end

def responseEntry : Entry := ⟨0x1120, 2, 9, 3, 97, 1, some (97, 97), []⟩

theorem State.writeElem_response (s : State) (m : Bool) (i : Nat) (b : Bytes) :
    s.writeElem m responseEntry 0x1120 i (responseEntry.part b 0) = s.writeRoleResponse m b := by
  simp [State.writeElem, responseEntry, Entry.part, State.writeOctets]

/-! ### Slots of the Store -/

/-- A command on a slot of the Store: STORE_OPEN, STORE_COMMIT, STORE_ERASE. -/
def slotEntry (sub : Nat) : Entry := ⟨0x7000, sub, 3, 3, 1, 2, some (0, 1023), []⟩

/-- What a refused command on a slot may change: STORE_RESULT, the open slot, and nothing else of the Store or of its entries. -/
structure RefusesSlot (s : State) (w : Written) : Prop where
  code : w.2 = kRange ∨ w.2 = kState
  slots : w.1.store.slots = s.store.slots
  entries : Canonical s → ∀ k, k ≠ 6 → k ≠ 7 → w.1.dget 0x7000 k = s.dget 0x7000 k
  frame : Frame [.entries, .store] s w.1

theorem RefusesSlot.range (s : State) : RefusesSlot s (s, kRange) := ⟨.inl rfl, rfl, fun _ _ _ _ => rfl, Frame.refl ..⟩

theorem RefusesSlot.result (s : State) (slot code : Nat) : RefusesSlot s (s.storeResult slot code, kState) where
  code := .inr rfl
  slots := congrArg (·.slots) ((State.storeResult_frame s slot code).keeps .store rfl)
  entries can k six _ := State.dget_dset_of_ne can _ (by unfold dkey; omega)
  frame := Frame.mono (State.storeResult_frame ..) rfl

/-- A commit of an image that is not complete closes its slot. -/
theorem RefusesSlot.closed (s : State) (slot code written : Nat) :
    RefusesSlot s ((s.endOpen slot code).dset 0x7000 7 0 written, kState) where
  code := .inr rfl
  slots := rfl
  entries can k six seven := by
    have closed : Canonical { s with store := { s.store with opened := none } } :=
      (Frame.set_store (g := [.store]) { s.store with opened := none } id (.inr rfl) (.inl rfl) (Frame.refl _ s)).canonical can
    exact (State.dget_dset_of_ne ((State.endOpen_frame ..).canonical can) _ (by unfold dkey; omega)).trans
      (State.dget_dset_of_ne closed _ (by unfold dkey; omega))
  frame := Frame.step (State.dset_frame ..) rfl (Frame.mono (State.endOpen_frame ..) rfl)

theorem State.writeStoreOpen_refused {s : State} {k : Nat} (refused : (s.writeStoreOpen k).2 ≠ kOk) :
    RefusesSlot s (s.writeStoreOpen k) := by
  revert refused
  unfold State.writeStoreOpen
  split
  · exact fun _ => .range s
  · split
    · exact fun _ => .result ..
    · split
      · exact fun _ => .result ..
      · split
        · exact fun _ => .result ..
        · exact fun ok => absurd rfl ok

theorem State.writeStoreCommit_refused {s : State} {k : Nat} (refused : (s.writeStoreCommit k).2 ≠ kOk) :
    RefusesSlot s (s.writeStoreCommit k) := by
  revert refused
  unfold State.writeStoreCommit
  split
  · exact fun _ => .range s
  · split
    · exact fun _ => .result ..
    · split
      · exact fun _ => .result ..
      · split
        · exact fun _ => .result ..
        · split
          · exact fun _ => .closed ..
          · exact fun ok => absurd rfl ok

theorem State.writeStoreErase_refused {s : State} {k : Nat} (refused : (s.writeStoreErase k).2 ≠ kOk) :
    RefusesSlot s (s.writeStoreErase k) := by
  revert refused
  unfold State.writeStoreErase
  split
  · exact fun _ => .range s
  · split
    · exact fun _ => .result ..
    · split
      · exact fun _ => .result ..
      · exact fun ok => absurd rfl ok

theorem findEntry_slot {sub : Nat} (lo : 3 ≤ sub) (hi : sub ≤ 5) : findEntry 0x7000 sub = some (slotEntry sub) := by
  obtain rfl | rfl | rfl : sub = 3 ∨ sub = 4 ∨ sub = 5 := by omega
  · decide
  · decide
  · decide

/-- What a write of a command on a slot is, its range apart. -/
def State.slotCommand (s : State) (sub k : Nat) : Written :=
  match sub with
  | 3 => s.writeStoreOpen k
  | 4 => s.writeStoreCommit k
  | _ => s.writeStoreErase k

theorem State.writeElem_slot (s : State) (m : Bool) {sub : Nat} (lo : 3 ≤ sub) (hi : sub ≤ 5) (i : Nat) (b : Bytes) :
    s.writeElem m (slotEntry sub) 0x7000 i b =
      if (slotEntry sub).allows (leNat b) = false then (s, kRange) else s.slotCommand sub (leNat b) := by
  cases allowed : (slotEntry sub).allows (leNat b) <;> simp only [slotEntry] at allowed <;>
    obtain rfl | rfl | rfl : sub = 3 ∨ sub = 4 ∨ sub = 5 := by omega
  all_goals simp [State.writeElem, slotEntry, State.writeDevice, State.slotCommand, allowed]

theorem State.slotCommand_refused {s : State} {sub k : Nat} (refused : (s.slotCommand sub k).2 ≠ kOk) :
    RefusesSlot s (s.slotCommand sub k) := by
  revert refused
  unfold State.slotCommand
  split
  · exact State.writeStoreOpen_refused
  · exact State.writeStoreCommit_refused
  · exact State.writeStoreErase_refused

/-- A refused command on a slot. -/
theorem State.writeElem_slot_refused {s : State} {m : Bool} {sub : Nat} (lo : 3 ≤ sub) (hi : sub ≤ 5) {i : Nat} {b : Bytes}
    (refused : (s.writeElem m (slotEntry sub) 0x7000 i b).2 ≠ kOk) :
    RefusesSlot s (s.writeElem m (slotEntry sub) 0x7000 i b) := by
  revert refused
  rw [State.writeElem_slot s m lo hi]
  split
  · exact fun _ => .range s
  · exact State.slotCommand_refused

end Sys2Proof.Machine
end

section
/-! SUPPORT. A WRITE of the object protocol by its fields (R503, R511-R514): the checks in their order, and the one element. -/

namespace Sys2Proof.Machine

/-- The request of a WRITE. -/
def writeRequest (index : BitVec 16) (sub type : BitVec 8) (offset : BitVec 32) (data : Bytes) : KopReq :=
  { op := 2, index := index.toNat, sub := sub.toNat, type := type.toNat, length := data.length, offset := offset.toNat,
    data := data }

@[simp] theorem writeRequest_op (index : BitVec 16) (sub type : BitVec 8) (offset : BitVec 32) (data : Bytes) :
    (writeRequest index sub type offset data).op = 2 := rfl

theorem exec_kopWrite (r : Requester) (index : BitVec 16) (sub type : BitVec 8) (offset : BitVec 32) (data : Bytes) (s : State) :
    exec (.kopWrite r index sub type offset data) s =
      .next (s.request' r (writeRequest index sub type offset (data.take 65535))) := rfl

theorem exec_kopWrite_of_short {data : Bytes} (short : data.length < 65536) (r : Requester) (index : BitVec 16)
    (sub type : BitVec 8) (offset : BitVec 32) (s : State) :
    exec (.kopWrite r index sub type offset data) s =
      .next (s.writeEntry r index.toNat sub.toNat type.toNat offset.toNat data) := by
  rw [exec_kopWrite, List.take_of_length_le (by omega)]
  rfl

/-- The number of elements rests on the type, the offset and the data of a request. -/
theorem writeCount_congr {e : Entry} {p q : KopReq} (type : p.type = q.type) (offset : p.offset = q.offset)
    (data : p.data = q.data) : writeCount e p = writeCount e q := by
  rw [writeCount, writeCount, type, offset, data]

theorem writesOne_of_count {index : BitVec 16} {sub type : BitVec 8} {offset : BitVec 32} {data : Bytes} {e : Entry}
    (found : findEntry index.toNat sub.toNat = some e) (writable : 2 ≤ e.access)
    (count : (writeCount e (writeRequest index sub type offset data)).toOption = some 1) :
    WritesOne index.toNat sub.toNat type.toNat offset.toNat data e where
  found := found
  writable := writable
  one _ hType hOffset hData :=
    (writeCount_congr (q := writeRequest index sub type offset data) hType hOffset hData).trans (Except.eq_ok_of_toOption count)

/-- A WRITE of an entry that no profile saves leaves what the element's write leaves. -/
theorem State.written_of_unsaved {e : Entry} (unsaved : e.access ≠ 4) (s : State) (r : Requester) (index off : Nat)
    (data : Bytes) :
    s.written r e index off data = s.writeElem (decide (Requester.class r = 2)) e index off (e.part data 0) := by
  by_cases ok : (s.writeElem (decide (Requester.class r = 2)) e index off (e.part data 0)).2 = kOk
  · rw [State.written, State.writeAll_of_written
      (t := (s.writeElem (decide (Requester.class r = 2)) e index off (e.part data 0)).1) (Prod.ext rfl ok), if_neg unsaved]
    exact Prod.ext rfl ok.symm
  · rw [State.written, State.writeAll_of_refused rfl ok]

/-- A WRITE whose element is refused leaves what the refusal leaves. -/
theorem State.written_of_refused {s : State} {r : Requester} {e : Entry} {index off : Nat} {data : Bytes}
    (refused : (s.writeElem (decide (Requester.class r = 2)) e index off (e.part data 0)).2 ≠ kOk) :
    s.written r e index off data = s.writeElem (decide (Requester.class r = 2)) e index off (e.part data 0) := by
  rw [State.written, State.writeAll_of_refused rfl refused]

theorem State.admits_reaches {s : State} {r : Requester} {index sub : Nat} (may : s.admits r index sub = true) :
    s.reaches r = true ∧ s.loading = false ∧ (s.onlyAlwaysOn = false ∨ alwaysOn index = true) ∧
      s.mayWrite r index sub = true := by
  simpa only [State.admits, Bool.and_eq_true, Bool.not_eq_true', Bool.or_eq_true, and_assoc] using may

theorem State.mayWrite_reads {s : State} {r : Requester} {index sub : Nat} (may : s.mayWrite r index sub = true) :
    Requester.class r ≠ 3 ∧ mayRead r index = true := by
  simp only [State.mayWrite, Bool.and_eq_true] at may
  exact ⟨fun bus => by simp [classWrites, bus] at may, may.1.2⟩

section
variable {s : State} {r : Requester} {e : Entry} {q : KopReq}

theorem State.kopWriteOp_of_constant (constant : e.access < 2) :
    s.kopWriteOp r e q = (s, { q.fail kAccess with type := e.type, offset := q.offset }) := if_pos constant

variable (writable : 2 ≤ e.access)
include writable

theorem State.kopWriteOp_of_barred (barred : s.mayWrite r q.index q.sub = false) :
    s.kopWriteOp r e q = (s, { q.fail kPermission with type := e.type, offset := q.offset }) := by
  rw [State.kopWriteOp, if_neg (Nat.not_lt.mpr writable), if_pos (by simp [barred])]

theorem State.kopWriteOp_of_miscounted (may : s.mayWrite r q.index q.sub = true) {code : Nat}
    (count : writeCount e q = .error code) :
    s.kopWriteOp r e q = (s, { q.fail code with type := e.type, offset := q.offset }) := by
  rw [State.kopWriteOp, if_neg (Nat.not_lt.mpr writable), if_neg (by simp [may]), count]

end

/-- A value of another type than its entry's is refused. -/
theorem writeCount_of_type {e : Entry} {q : KopReq} (type : q.type ≠ e.type) : writeCount e q = .error kType := if_pos type

/-- A scalar takes as many bytes as it has. -/
theorem writeCount_of_size {e : Entry} {q : KopReq} (type : q.type = e.type) (scalar : e.type < 8) (offset : q.offset = 0)
    (size : q.data.length ≠ e.size) : writeCount e q = .error kType := by
  rw [writeCount, if_neg (not_not.mpr type), if_neg (by omega), if_neg (by omega), if_neg (not_not.mpr offset), if_pos size]

section
variable {s : State} {r : Requester} {index : BitVec 16} {sub type : BitVec 8} {offset : BitVec 32} {data : Bytes}

/-- A WRITE that no element sees, because a check of its entry fails. -/
theorem exec_kopWrite_of_answer {e : Entry} {p : KopRsp} {code : Nat} (up : s.reaches r = true) (idle : s.loading = false)
    (found : findEntry index.toNat sub.toNat = some e)
    (answer : s.kopEntry r e (writeRequest index sub type offset (data.take 65535)) none = (s, p)) (result : p.result = code)
    (byte : code < 256) :
    ∃ u, exec (.kopWrite r index sub type offset data) s = .next u ∧ u.result = code ∧ Frame [.kop] s u := by
  rw [exec_kopWrite]
  exact State.next_of_answer up ((State.kopServe_of_found idle (by simp) found r none).trans answer) result byte

theorem exec_kopWrite_of_miscounted {e : Entry} (may : s.admits r index.toNat sub.toNat = true)
    (found : findEntry index.toNat sub.toNat = some e) (writable : 2 ≤ e.access)
    (count : writeCount e (writeRequest index sub type offset (data.take 65535)) = .error kType) :
    ∃ u, exec (.kopWrite r index sub type offset data) s = .next u ∧ u.result = kType ∧ Frame [.kop] s u := by
  obtain ⟨up, idle, on, allowed⟩ := State.admits_reaches may
  obtain ⟨cls, reads⟩ := State.mayWrite_reads allowed
  exact exec_kopWrite_of_answer up idle found ((State.kopEntry_of_write e none (writeRequest_op ..) cls on reads).trans
    (State.kopWriteOp_of_miscounted writable allowed count)) rfl (by decide)

end

/-- A WRITE whose one element is refused with a record of the refusal. -/
theorem exec_kopWrite_of_recorded {s : State} {r : Requester} {index : BitVec 16} {sub type : BitVec 8} {offset : BitVec 32}
    {data : Bytes} {e : Entry} {w : Written} (may : s.admits r index.toNat sub.toNat = true) (short : data.length < 65536)
    (row : WritesOne index.toNat sub.toNat type.toNat offset.toNat data e)
    (elem : s.writeElem (decide (Requester.class r = 2)) e index.toNat offset.toNat (e.part data 0) = w) (refused : w.2 ≠ kOk)
    (byte : w.2 < 256) :
    ∃ rsp, exec (.kopWrite r index sub type offset data) s = .next (w.1.answered rsp) ∧ byteAt rsp 3 = w.2 := by
  obtain ⟨rsp, eq, code⟩ := State.writeEntry_of_admitted may row
  rw [State.written_of_refused (elem ▸ refused), elem] at eq code
  exact ⟨rsp, (exec_kopWrite_of_short short ..).trans (congrArg _ eq), code.trans (Nat.mod_eq_of_lt byte)⟩

/-- Settles O49: a value that passes its checks has the effect of its write, and the first check that fails makes the answer and
leaves the device as it was, but for what the roles and the Store note of a refusal. -/
theorem writes : Obligations.Writes := by
  unfold Obligations.Writes
  refine ⟨?written, ?saved, ?refused, ?type, ?size, ?missing, ?constant, ?barred, ?bus, ?unreached, ?role, ?slot⟩
  case written =>
    intro r index sub type offset data e v s may short found writable count state ok unsaved
    obtain ⟨rsp, eq, code⟩ := State.writeEntry_of_admitted may (writesOne_of_count found writable count)
    rw [State.written_of_unsaved unsaved] at eq code
    rw [ok] at code
    rw [state] at eq
    refine ⟨_, (exec_kopWrite_of_short short ..).trans (congrArg _ eq), code, rfl, ?_⟩
    exact eq ▸ State.writeEntry_frame ..
  case saved =>
    intro r index sub type offset data e v s may short found writable count state ok saved
    obtain ⟨rsp, eq, code⟩ := State.writeEntry_of_admitted may (writesOne_of_count found writable count)
    rw [State.written, State.writeAll_of_written (Prod.ext state ok), if_pos saved] at eq code
    refine ⟨_, (exec_kopWrite_of_short short ..).trans (congrArg _ eq), code, rfl, ?_⟩
    exact eq ▸ State.writeEntry_frame ..
  case refused =>
    intro r index sub type offset data e n s may short found writable count refused bad role store
    subst refused
    obtain ⟨plain, named⟩ := not_recordsRefusal found sub.isLt role store
    obtain ⟨same, kind⟩ := (State.writeElem_clean s _ plain named _ _).resolve_left bad
    obtain ⟨rsp, run, code⟩ := exec_kopWrite_of_recorded may short (writesOne_of_count found writable count) rfl bad
      (by rcases kind with kind | kind <;> rw [kind] <;> decide)
    rw [same] at run
    exact ⟨_, run, code, kind, rfl, rfl, rfl, State.answered_frame ..⟩
  case type =>
    intro r index sub type offset data e s may short found writable other
    exact exec_kopWrite_of_miscounted may found writable (writeCount_of_type other)
  case size =>
    intro r index sub type offset data e s may short found writable same scalar zero size
    refine exec_kopWrite_of_miscounted may found writable (writeCount_of_size same scalar (by rw [zero]; rfl) ?_)
    rwa [List.take_of_length_le (by omega)]
  case missing =>
    intro r index sub type offset data s up idle none cls
    rw [exec_kopWrite]
    exact State.next_of_answer up (State.kopServe_of_missing idle (by simp) none r _) rfl (by decide)
  case constant =>
    intro r index sub type offset data e s up idle found reads on cls constant
    exact exec_kopWrite_of_answer up idle found ((State.kopEntry_of_write e none (writeRequest_op ..) cls (.inl on) reads).trans
      (State.kopWriteOp_of_constant constant)) rfl (by decide)
  case barred =>
    intro r index sub type offset data e s up idle found reads on cls writable barred
    exact exec_kopWrite_of_answer up idle found ((State.kopEntry_of_write e none (writeRequest_op ..) cls (.inl on) reads).trans
      (State.kopWriteOp_of_barred writable barred)) rfl (by decide)
  case bus =>
    intro r index sub type offset data e s up idle found bus
    exact exec_kopWrite_of_answer up idle found (State.kopEntry_of_bus e none (writeRequest_op ..) bus) rfl (by decide)
  case unreached => exact fun r index sub type offset data s far => State.next_of_unreached far _ _
  case role =>
    intro r index sub type offset data e n s may short found writable count refused bad atIndex atSub
    have entry : e = responseEntry := by
      rw [atIndex, atSub] at found
      exact Option.some.inj (found.symm.trans (by decide))
    subst entry
    have elem : s.writeElem (decide (Requester.class r = 2)) responseEntry index.toNat offset.toNat (responseEntry.part data 0) =
        s.writeRoleResponse (decide (Requester.class r = 2)) data := by rw [atIndex, State.writeElem_response]
    rw [elem] at refused
    subst refused
    have counts := State.writeRoleResponse_counts bad
    obtain ⟨rsp, run, code⟩ := exec_kopWrite_of_recorded may short (writesOne_of_count found writable count) elem bad
      (by rw [counts.code]; decide)
    exact ⟨_, run, code, counts.code, counts.frame.keeps .ctxEntries rfl, counts.grant, counts.counted,
      Frame.step (State.answered_frame ..) rfl counts.frame⟩
  case slot =>
    intro r index sub type offset data e n s may short found writable count refused bad atIndex lo hi
    have entry : e = slotEntry sub.toNat := by
      rw [atIndex] at found
      exact Option.some.inj (found.symm.trans (findEntry_slot lo hi))
    subst entry refused
    have refusal := State.writeElem_slot_refused lo hi (atIndex ▸ bad)
    rw [← atIndex] at refusal
    obtain ⟨rsp, run, code⟩ := exec_kopWrite_of_recorded may short (writesOne_of_count found writable count) rfl bad
      (by rcases refusal.code with kind | kind <;> rw [kind] <;> decide)
    exact ⟨_, run, code, refusal.code, refusal.frame.keeps .ctxEntries rfl, refusal.slots, refusal.entries,
      Frame.step (State.answered_frame ..) rfl (Frame.mono refusal.frame rfl)⟩

end Sys2Proof.Machine
end

section
/-! SUPPORT. The profile store (R528, R534-R537): its slots' copies after a write, and what their states then say. -/

namespace Sys2Proof.Machine

/-! ### Copies -/

theorem State.writeCopy_sorted {s : State} (sorted : tsorted none s.kop.copies = true) (slot copy : Nat) (img : Bytes) :
    tsorted none (s.writeCopy slot copy img).kop.copies = true := by
  rw [State.writeCopy_copies]
  exact tsorted_tset _ _ _ _ sorted

theorem State.profileCopy_of_kop {s u : State} (kop : u.kop.copies = s.kop.copies) (n k : Nat) :
    u.profileCopy n k = s.profileCopy n k := by rw [State.profileCopy, State.profileCopy, kop]

section
variable {s : State} (sorted : tsorted none s.kop.copies = true) (slot : Nat) (img : Bytes)
include sorted

/-- With copy A within reach both copies of a slot are written. -/
theorem State.profileCopy_writeSlot (there : s.copyThere 0 = true) :
    (s.writeSlot slot img).profileCopy slot 0 = img ∧ (s.writeSlot slot img).profileCopy slot 1 = img := by
  have first := State.profileCopy_writeCopy sorted slot 0 img
  have both := State.profileCopy_writeCopy (State.writeCopy_sorted sorted slot 0 img) slot 1 img
  have written : s.writeSlot slot img = (s.writeCopy slot 0 img).writeCopy slot 1 img := by
    rw [State.writeSlot, if_pos there]
    exact if_pos ((first slot 0).trans (if_pos rfl))
  rw [written, both, both, first]
  exact ⟨(if_neg (by omega)).trans (if_pos rfl), if_pos rfl⟩

/-- With copy A out of reach copy B alone is written. -/
theorem State.profileCopy_writeSlot_alone (gone : s.copyThere 0 = false) :
    (s.writeSlot slot img).profileCopy slot 0 = s.profileCopy slot 0 ∧ (s.writeSlot slot img).profileCopy slot 1 = img := by
  have once := State.profileCopy_writeCopy sorted slot 1 img
  have written : s.writeSlot slot img = s.writeCopy slot 1 img := by
    rw [State.writeSlot, if_neg (by simp [gone])]
  rw [written, once, once]
  exact ⟨if_neg (by omega), if_pos rfl⟩

end

/-- A slot without a chosen copy is not readable. -/
theorem State.slotState_of_unchosen {s : State} {slot : Nat} (lt : slot < 4) (none : s.chosenCopy slot = none) :
    s.slotState slot % 4 ≠ 1 := by
  have unreadable : ∃ b k, s.readSlot slot = .error (b, k) := by
    rw [State.readSlot, none]
    exact ⟨_, _, rfl⟩
  obtain ⟨b, k, error⟩ := unreadable
  rw [State.slotState, if_neg (Nat.ne_of_lt lt), error]
  dsimp only
  split_ifs <;> omega

theorem copyIntact_nil : copyIntact [] = false := by decide

/-- A slot whose copy B is blank has no chosen copy unless copy A can be reached and is intact. -/
theorem State.chosenCopy_of_blank {s : State} {slot : Nat} (blank : s.profileCopy slot 1 = [])
    (a : s.copyThere 0 = false ∨ s.profileCopy slot 0 = []) : s.chosenCopy slot = none := by
  rw [State.chosenCopy, blank, copyIntact_nil, if_neg, if_neg Bool.false_ne_true]
  rcases a with gone | empty
  · simp [gone]
  · simp [empty, copyIntact_nil]

/-- A write of a slot leaves ACTIVE_DIE, and so which copies can be reached. -/
theorem State.copyThere_writeCopy {s : State} (can : Canonical s) {slot : Nat} (lt : slot < 4) (img : Bytes) :
    (s.writeCopy slot 1 img).copyThere 0 = s.copyThere 0 := by
  have can' : Canonical { s with kop := { s.kop with copies := tset {} s.kop.copies (2 * slot + 1) ⟨img⟩ } } :=
    (Frame.set_kop (g := [.kop]) _ rfl (Frame.refl _ s)).canonical can
  have die : (s.writeCopy slot 1 img).dget 0x1010 1 = s.dget 0x1010 1 :=
    State.dget_dbump_of_ne can' 32 1 (by unfold dkey; omega)
  rw [State.copyThere, State.copyThere, die]

/-- An erased slot is not readable. -/
theorem State.slotState_of_erased {s : State} (can : Canonical s) (sorted : tsorted none s.kop.copies = true) {slot : Nat}
    (lt : slot < 4) : (s.writeSlot slot []).slotState slot % 4 ≠ 1 := by
  refine State.slotState_of_unchosen lt ?_
  cases there : s.copyThere 0 with
  | true =>
    obtain ⟨a, b⟩ := State.profileCopy_writeSlot sorted slot [] there
    exact State.chosenCopy_of_blank b (.inr a)
  | false =>
    obtain ⟨-, b⟩ := State.profileCopy_writeSlot_alone sorted slot [] there
    refine State.chosenCopy_of_blank b (.inl ?_)
    rw [State.writeSlot, if_neg (by simp [there]), State.copyThere_writeCopy can lt, there]

/-! ### Saves -/

theorem State.beginSave_saving (s : State) (slot : Nat) (waiting : List Nat) :
    (s.beginSave slot waiting).kop.saving =
      some { slot := slot, image := s.buildImage (s.nextSequence slot), waiting := waiting } :=
  congrArg Kop.saving ((State.dset_frame ..).keeps .kop rfl)

theorem State.beginSave_target {s : State} (can : Canonical s) (slot : Nat) (waiting : List Nat) :
    (s.beginSave slot waiting).dget 0x2000 4 = slot :=
  State.dget_dset_same ((Frame.set_kop (g := [.kop]) _ rfl (Frame.refl _ s)).canonical can) ..

/-- PROFILE_DIRTY clears at the end of a save whose values are still those captured. -/
def State.cleaned (s : State) (image : Bytes) : State :=
  if s.buildImage (field image 8 4) = image then s.dset 0x2000 7 0 0 else s

theorem State.cleaned_frame (s : State) (image : Bytes) : Frame [.entries] s (s.cleaned image) :=
  Frame.ite (State.dset_frame ..) (Frame.refl ..)

/-- The state of a save once its slot is written. -/
def State.saved (s : State) (v : Save) : State := (s.writeSlot v.slot v.image).cleaned v.image

theorem State.saved_frame (s : State) (v : Save) : Frame [.free, .entries, .kop] s (s.saved v) :=
  Frame.step (State.cleaned_frame ..) rfl (State.writeSlot_frame ..)

theorem State.profileCopy_saved (s : State) (v : Save) (n k : Nat) :
    (s.saved v).profileCopy n k = (s.writeSlot v.slot v.image).profileCopy n k :=
  State.profileCopy_of_kop (congrArg Kop.copies ((State.cleaned_frame ..).keeps .kop rfl)) n k

theorem execProfileSaveDone_of_saving {t : Nat} {v : Save} {s : State} (on : s.powered = true)
    (saving : s.kop.saving = some v) :
    exec (.profileSaveDone t) s = .next (match v.waiting with
      | [] => { (s.at t).saved v with kop := { ((s.at t).saved v).kop with saving := none } }
      | w :: ws => ((s.at t).saved v).beginSave w ws) := by
  have run : exec (.profileSaveDone t) s = execProfileSaveDone t s := rfl
  rw [run, execProfileSaveDone, saving]
  dsimp only
  rw [if_neg (by simp [on])]
  rfl

/-- A save that none waits behind has ended. -/
theorem execProfileSaveDone_of_last {t : Nat} {v : Save} {s : State} (on : s.powered = true)
    (saving : s.kop.saving = some v) (last : v.waiting = []) :
    ∃ u, exec (.profileSaveDone t) s = .next u ∧ u.kop.saving = none ∧
      (∀ n k, u.profileCopy n k = ((s.at t).writeSlot v.slot v.image).profileCopy n k) ∧ u.uptime = max s.uptime t ∧
      Frame [.free, .uptime, .entries, .kop] s u := by
  have run := execProfileSaveDone_of_saving (t := t) on saving
  rw [last] at run
  exact ⟨_, run, rfl, fun n k => State.profileCopy_saved (s.at t) v n k, (State.saved_frame (s.at t) v).keeps .uptime rfl,
    Frame.set_kop _ rfl (Frame.step (State.saved_frame ..) rfl (Frame.mono (State.at_frame s t) rfl))⟩

end Sys2Proof.Machine
end

section
/-! SUPPORT. The writes of PROFILE_SAVE, PROFILE_ERASE and PROFILE_IMAGE (R535, R536). -/

namespace Sys2Proof.Machine

/-- PROFILE_SAVE and PROFILE_ERASE, whose value is a slot. -/
def slotByteEntry (sub : Nat) : Entry := ⟨0x2000, sub, 2, 3, 1, 1, some (0, 3), []⟩

theorem slotByteEntry_writesOne {sub : Nat} (found : findEntry 0x2000 sub = some (slotByteEntry sub)) (v : BitVec 8) :
    WritesOne 0x2000 sub 2 0 [v] (slotByteEntry sub) where
  found := found
  writable := Nat.le_succ 2
  one q type off data := by simp [writeCount, slotByteEntry, type, off, data]

theorem State.writeElem_profileSave (s : State) (m : Bool) (v : BitVec 8) :
    s.writeElem m (slotByteEntry 5) 0x2000 0 ((slotByteEntry 5).part [v] 0) =
      if 3 < v.toNat then (s, kRange) else s.writeProfileSave v.toNat := by
  simp [State.writeElem, slotByteEntry, State.writeDevice, Entry.allows, Entry.inRange, Entry.part, slice, leNat]

theorem State.writeElem_profileErase (s : State) (m : Bool) (v : BitVec 8) :
    s.writeElem m (slotByteEntry 11) 0x2000 0 ((slotByteEntry 11).part [v] 0) =
      if 3 < v.toNat then (s, kRange) else (s.writeSlot v.toNat [], kOk) := by
  simp [State.writeElem, slotByteEntry, State.writeDevice, Entry.allows, Entry.inRange, Entry.part, slice, leNat,
    State.writeProfileErase]

/-- PROFILE_IMAGE of a slot. -/
def imageEntry (slot : Nat) : Entry := ⟨0x2010, slot + 1, 9, 2, 65536, 1, some (64, 65536), []⟩

theorem findEntry_image (slot : Fin 4) : findEntry 0x2010 (slot.val + 1) = some (imageEntry slot.val) := by
  decide +revert

theorem imageEntry_writesOne (slot : Fin 4) (b : Bytes) : WritesOne 0x2010 (slot.val + 1) 9 0 b (imageEntry slot.val) where
  found := findEntry_image slot
  writable := Nat.le_refl 2
  one q type off data := by simp [writeCount, imageEntry, type, off]

theorem State.writeElem_image (s : State) (m : Bool) (slot : Fin 4) (b : Bytes) :
    s.writeElem m (imageEntry slot.val) 0x2010 0 ((imageEntry slot.val).part b 0) = s.writeProfileImage slot.val b := by
  match slot with
  | 0 | 1 | 2 | 3 => simp [State.writeElem, imageEntry, Entry.part, State.writeOctets]

theorem exec_profileImage_of_length {b : Bytes} (le : b.length ≤ 65536) (r : Requester) (slot : Fin 4) (s : State) :
    exec (.profileImage r slot b) s = .next (s.writeEntry r 0x2010 (slot.val + 1) 9 0 b) := by
  have run : exec (.profileImage r slot b) s = execProfileImage r slot b s := rfl
  rw [run, execProfileImage, List.take_of_length_le le]

theorem length_of_copyIntact {b : Bytes} (intact : copyIntact b = true) : b.length ≤ 65536 := by
  simp only [copyIntact, Bool.and_eq_true, decide_eq_true_eq] at intact
  exact intact.1.2

section
variable {s : State} {r : Requester} {slot : Fin 4} {b : Bytes} (may : s.admits r 0x2010 (slot.val + 1) = true)
include may

/-- An intact image goes to a slot that is not in use. -/
theorem execProfileImage_of_intact (intact : copyIntact b = true) (idle : s.dget 0x2000 4 ≠ slot.val) :
    ∃ u, exec (.profileImage r slot b) s = .next u ∧ u.result = kOk ∧
      (∀ n k, u.profileCopy n k = (s.writeSlot slot.val b).profileCopy n k) ∧ Frame [.free, .entries, .kop] s u := by
  have elem : ∀ m, s.writeElem m (imageEntry slot.val) 0x2010 0 ((imageEntry slot.val).part b 0) =
      (s.writeSlot slot.val b, kOk) := fun m => by
    rw [State.writeElem_image, State.writeProfileImage, if_neg idle, if_neg (by simp [intact])]
  obtain ⟨rsp, eq, ok⟩ := State.writeEntry_of_unsaved may (imageEntry_writesOne slot b) elem (by simp [imageEntry])
  refine ⟨_, (exec_profileImage_of_length (length_of_copyIntact intact) r slot s), ok, ?_, ?_⟩
  · rw [eq]
    exact fun _ _ => rfl
  · rw [eq]
    exact Frame.step (State.answered_frame ..) rfl (State.writeSlot_frame ..)

/-- An image that is refused leaves the profile store as it was. -/
theorem execProfileImage_of_refused {code : Nat} (le : b.length ≤ 65536) (refused : s.writeProfileImage slot.val b = (s, code))
    (bad : code ≠ kOk) (byte : code < 256) :
    ∃ u, exec (.profileImage r slot b) s = .next u ∧ u.result = code ∧ u.dict = s.dict ∧ Frame [.kop] s u := by
  rw [exec_profileImage_of_length le]
  exact State.next_of_refused may (imageEntry_writesOne slot b)
    (fun m => (State.writeElem_image s m slot b).trans refused) bad byte

end

section
variable {s : State} {r : Requester} {v : BitVec 8}

theorem exec_profileSave (r : Requester) (v : BitVec 8) (s : State) :
    exec (.profileSave r v) s = .next (s.writeEntry r 0x2000 5 2 0 [v]) := rfl

theorem exec_profileErase (r : Requester) (v : BitVec 8) (s : State) :
    exec (.profileErase r v) s = .next (s.writeEntry r 0x2000 11 2 0 [v]) := rfl

theorem execProfileSave_of_slot (may : s.admits r 0x2000 5 = true) (le : v.toNat ≤ 3) {t : State}
    (taken : s.writeProfileSave v.toNat = (t, kOk)) :
    ∃ rsp, exec (.profileSave r v) s = .next (t.answered rsp) ∧ (t.answered rsp).result = kOk := by
  obtain ⟨rsp, eq, ok⟩ := State.writeEntry_of_unsaved may (slotByteEntry_writesOne (by decide) v)
    (fun m => (State.writeElem_profileSave s m v).trans ((if_neg (by omega)).trans taken)) (by decide)
  exact ⟨rsp, (exec_profileSave r v s).trans (congrArg _ eq), eq ▸ ok⟩

theorem execProfileErase_of_slot (may : s.admits r 0x2000 11 = true) (le : v.toNat ≤ 3) :
    ∃ rsp, exec (.profileErase r v) s = .next ((s.writeSlot v.toNat []).answered rsp) ∧
      ((s.writeSlot v.toNat []).answered rsp).result = kOk := by
  obtain ⟨rsp, eq, ok⟩ := State.writeEntry_of_unsaved may (slotByteEntry_writesOne (by decide) v)
    (fun m => (State.writeElem_profileErase s m v).trans (if_neg (by omega))) (by decide)
  exact ⟨rsp, (exec_profileErase r v s).trans (congrArg _ eq), eq ▸ ok⟩

end

/-- A due autosave begins a save of the target. -/
def autosaveDue (t : Nat) (s : State) : Bool :=
  s.powered && decide (s.dget 0x2000 6 ≠ 0) && decide (s.dget 0x2000 4 ≠ 0xFF) && decide (s.dget 0x2000 7 = 1) &&
    s.kop.saving.isNone && decide (s.kop.lastWrite + s.dget 0x2000 6 * 1000000000 ≤ t)

theorem exec_profileAutosave (t : Nat) (s : State) :
    exec (.profileAutosave t) s = .next (if autosaveDue t s then (s.at t).beginSave (s.dget 0x2000 4) [] else s) := rfl

/-- Settles O57: a save captures the values and, once done, its image is in the copies that can be reached; the other writes of the
store write them at once, and a refused one changes nothing. -/
theorem profileSlots : Obligations.ProfileSlots := by
  unfold Obligations.ProfileSlots
  refine ⟨?save, ?waits, ?saveRange, ?autosave, ?noAutosave, ?image, ?inUse, ?damaged, ?erase, ?eraseRange, ?done, ?doneNext,
    ?noSave, ?imageAlone, ?eraseAlone, ?doneAlone⟩
  case save =>
    intro r slot s can may le idle
    have taken : s.writeProfileSave slot.toNat = (s.beginSave slot.toNat [], kOk) := by rw [State.writeProfileSave, idle]
    obtain ⟨rsp, run, ok⟩ := execProfileSave_of_slot may le taken
    exact ⟨_, run, ok, State.beginSave_saving .., State.beginSave_target can ..,
      Frame.step (State.answered_frame ..) rfl (State.beginSave_frame ..)⟩
  case waits =>
    intro r slot v s can may le saving
    have taken : s.writeProfileSave slot.toNat =
        ({ s with kop := { s.kop with saving := some { v with waiting := v.waiting ++ [slot.toNat] } } }, kOk) := by
      rw [State.writeProfileSave, saving]
    obtain ⟨rsp, run, ok⟩ := execProfileSave_of_slot may le taken
    exact ⟨_, run, ok, rfl, Frame.step (State.answered_frame ..) rfl (Frame.set_kop _ rfl (Frame.refl ..))⟩
  case saveRange =>
    intro r slot s can may lt
    exact State.next_of_refused may (slotByteEntry_writesOne (by decide) slot)
      (fun m => (State.writeElem_profileSave s m slot).trans (if_pos lt)) (by decide) (by decide)
  case autosave =>
    intro t s can on period target dirty idle due
    have run := exec_profileAutosave t s
    rw [if_pos (by simp [autosaveDue, on, period, target, dirty, idle, due])] at run
    exact ⟨_, run, State.beginSave_saving .., (State.beginSave_frame ..).keeps .uptime rfl,
      Frame.step (State.beginSave_frame ..) rfl (Frame.mono (State.at_frame s t) rfl)⟩
  case noAutosave =>
    intro t s early
    rw [exec_profileAutosave, if_neg]
    · exact ⟨s, rfl, rfl, Frame.refl ..⟩
    · rcases early with h | h | h | h
      · simp [autosaveDue, h]
      · simp [autosaveDue, h]
      · simp [autosaveDue, h]
      · simp [autosaveDue, Nat.not_le.mpr h]
  case image =>
    intro r slot b s can may intact idle sorted there
    obtain ⟨u, run, ok, copies, k⟩ := execProfileImage_of_intact may intact idle
    obtain ⟨first, second⟩ := State.profileCopy_writeSlot sorted slot.val b there
    exact ⟨u, run, ok, (copies ..).trans first, (copies ..).trans second, k⟩
  case inUse =>
    intro r slot b s can may intact busy
    exact execProfileImage_of_refused may (length_of_copyIntact intact) (if_pos busy) (by decide) (by decide)
  case damaged =>
    intro r slot b s can may long le damaged idle
    exact execProfileImage_of_refused may le ((if_neg idle).trans (if_pos (by simp [damaged]))) (by decide) (by decide)
  case erase =>
    intro r slot s can may le sorted there
    obtain ⟨rsp, run, ok⟩ := execProfileErase_of_slot may le
    obtain ⟨first, second⟩ := State.profileCopy_writeSlot sorted slot.toNat [] there
    exact ⟨_, run, ok, first, second, State.slotState_of_erased can sorted (by omega),
      Frame.step (State.answered_frame ..) rfl (State.writeSlot_frame ..)⟩
  case eraseRange =>
    intro r slot s can may lt
    exact State.next_of_refused may (slotByteEntry_writesOne (by decide) slot)
      (fun m => (State.writeElem_profileErase s m slot).trans (if_pos lt)) (by decide) (by decide)
  case done =>
    intro t v s can on saving last sorted there
    obtain ⟨u, run, none, copies, time, k⟩ := execProfileSaveDone_of_last on saving last
    obtain ⟨first, second⟩ := State.profileCopy_writeSlot (s := s.at t) sorted v.slot v.image there
    exact ⟨u, run, none, (copies ..).trans first, (copies ..).trans second, time, k⟩
  case doneNext =>
    intro t v w ws s can on saving waiting
    have run := execProfileSaveDone_of_saving (t := t) on saving
    rw [waiting] at run
    have can' : Canonical ((s.at t).saved v) := (State.saved_frame ..).canonical ((State.at_frame s t).canonical can)
    refine ⟨_, run, ?_, State.beginSave_target can' .., ?_, ?_⟩
    · rw [State.beginSave_saving]
      rfl
    · exact ((State.beginSave_frame ..).keeps .uptime rfl).trans ((State.saved_frame (s.at t) v).keeps .uptime rfl)
    · exact Frame.step (State.beginSave_frame ..) rfl (Frame.step (State.saved_frame ..) rfl
        (Frame.mono (State.at_frame s t) rfl))
  case noSave =>
    intro t s idle
    have run : exec (.profileSaveDone t) s = execProfileSaveDone t s := rfl
    rw [execProfileSaveDone, idle] at run
    exact ⟨s, run, rfl, Frame.refl ..⟩
  case imageAlone =>
    intro r slot b s can may intact idle sorted gone
    obtain ⟨u, run, ok, copies, k⟩ := execProfileImage_of_intact may intact idle
    obtain ⟨first, second⟩ := State.profileCopy_writeSlot_alone sorted slot.val b gone
    exact ⟨u, run, ok, (copies ..).trans first, (copies ..).trans second, k⟩
  case eraseAlone =>
    intro r slot s can may le sorted gone
    obtain ⟨rsp, run, ok⟩ := execProfileErase_of_slot may le
    obtain ⟨first, second⟩ := State.profileCopy_writeSlot_alone sorted slot.toNat [] gone
    exact ⟨_, run, ok, first, second, State.slotState_of_erased can sorted (by omega),
      Frame.step (State.answered_frame ..) rfl (State.writeSlot_frame ..)⟩
  case doneAlone =>
    intro t v s can on saving last sorted gone
    obtain ⟨u, run, none, copies, time, k⟩ := execProfileSaveDone_of_last on saving last
    obtain ⟨first, second⟩ := State.profileCopy_writeSlot_alone (s := s.at t) sorted v.slot v.image gone
    exact ⟨u, run, none, (copies ..).trans first, (copies ..).trans second, time, k⟩

end Sys2Proof.Machine
end

section
/-! SUPPORT. HEALTH_ACK, HEALTH_MASK and TEST_REQUEST (R601, R602, R607, R610): the entries they write, and what they leave. -/

namespace Sys2Proof.Machine

/-! ### The entries -/

def healthAckEntry : Entry := ⟨0x3000, 5, 4, 3, 1, 4, some (0, 4294967295), []⟩
def healthMaskEntry : Entry := ⟨0x3000, 3, 3, 4, 1, 2, some (0, 4094), []⟩
def testRequestEntry : Entry := ⟨0x3020, 1, 3, 3, 1, 2, some (0, 65535), []⟩

theorem healthAck_writesOne (v : Nat) : WritesOne 0x3000 5 4 0 (leBytes 4 v) healthAckEntry where
  found := by decide
  writable := by decide
  one q type off data := by simp [writeCount, healthAckEntry, type, off, data, leBytes_length]

theorem healthMask_writesOne (v : Nat) : WritesOne 0x3000 3 3 0 (leBytes 2 v) healthMaskEntry where
  found := by decide
  writable := by decide
  one q type off data := by simp [writeCount, healthMaskEntry, type, off, data, leBytes_length]

theorem testRequest_writesOne (kind cluster : BitVec 8) : WritesOne 0x3020 1 3 0 [kind, cluster] testRequestEntry where
  found := by decide
  writable := by decide
  one q type off data := by simp [writeCount, testRequestEntry, type, off, data]

theorem State.writeElem_healthAck (s : State) (m : Bool) (v : BitVec 32) :
    s.writeElem m healthAckEntry 0x3000 0 (healthAckEntry.part (leBytes 4 v.toNat) 0) = s.writeHealthAck v.toNat := by
  have value := Entry.leNat_part (e := healthAckEntry) (by decide) v.isLt
  have range : v.toNat ≤ 4294967295 := by omega
  simp only [healthAckEntry] at value
  simp [State.writeElem, healthAckEntry, State.writeDevice, Entry.allows, Entry.inRange, value, range]

theorem State.writeElem_healthMask (s : State) (m : Bool) (v : BitVec 16) :
    s.writeElem m healthMaskEntry 0x3000 0 (healthMaskEntry.part (leBytes 2 v.toNat) 0) =
      if 0xFFE < v.toNat then (s, kRange) else (s.dset 0x3000 3 0 v.toNat, kOk) := by
  have value := Entry.leNat_part (e := healthMaskEntry) (by decide) v.isLt
  simp only [healthMaskEntry] at value
  simp [State.writeElem, healthMaskEntry, State.writeDevice, State.writeHealthMask, Entry.allows, Entry.inRange, value]

theorem testRequestEntry_allows {kind cl : Nat} (known : kind = 1 ∨ kind = 2) (byte : cl < 256) :
    testRequestEntry.allows (kind + 256 * cl) = decide (cl < 64) := by
  have low : (kind + 256 * cl) % 256 = kind := by omega
  have high : (kind + 256 * cl) / 256 = cl := by omega
  have fits : kind + 256 * cl ≤ 65535 := by omega
  have named : (decide (kind = 1) || decide (kind = 2)) = true := by simpa using known
  have rule : testRequestEntry.allows (kind + 256 * cl) =
      (decide (kind + 256 * cl ≤ 65535) && ((decide ((kind + 256 * cl) % 256 = 1) || decide ((kind + 256 * cl) % 256 = 2)) &&
        decide ((kind + 256 * cl) / 256 < 64))) := by
    simp [Entry.allows, Entry.inRange, testRequestEntry]
  rw [rule, low, high, named, decide_eq_true fits, Bool.true_and, Bool.true_and]

/-- The value of a test request of a kind on a cluster. -/
theorem State.writeElem_testRequest (s : State) (m : Bool) {kind : BitVec 8} (known : kind = 1 ∨ kind = 2) (cl : BitVec 8) :
    s.writeElem m testRequestEntry 0x3020 0 (testRequestEntry.part [kind, cl] 0) =
      if 64 ≤ cl.toNat then (s, kRange) else s.writeTestRequest (kind.toNat + 256 * cl.toNat) := by
  have value : leNat (testRequestEntry.part [kind, cl] 0) = kind.toNat + 256 * cl.toNat := by
    simp [testRequestEntry, Entry.part, slice, leNat]
  have allows := testRequestEntry_allows (known.imp (congrArg BitVec.toNat) (congrArg BitVec.toNat)) cl.isLt
  simp only [testRequestEntry] at value allows
  simp [State.writeElem, testRequestEntry, State.writeDevice, value, allows]

/-! ### Acknowledging -/

/-- An acknowledged event no longer counts as pending. -/
def State.unpend (s : State) (u : Nat × Nat) : State := s.dset 0x3000 4 (u.2 - 1) (s.dget 0x3000 4 (u.2 - 1) - 1)

theorem State.unpend_frame (s : State) (u : Nat × Nat) : Frame [.entries] s (s.unpend u) := State.dset_frame ..

theorem State.foldl_unpend_frame (s : State) (gone : List (Nat × Nat)) : Frame [.entries] s (gone.foldl State.unpend s) :=
  Frame.foldl _ (fun _ _ => State.unpend_frame ..) (Frame.refl ..)

/-- The counts of pending events go down by the events acknowledged. -/
theorem State.dget_foldl_unpend {s : State} (can : Canonical s) {gone : List (Nat × Nat)} (typed : ∀ u ∈ gone, 1 ≤ u.2) {ty : Nat}
    (pos : 1 ≤ ty) :
    (gone.foldl State.unpend s).dget 0x3000 4 (ty - 1) =
      s.dget 0x3000 4 (ty - 1) - (gone.filter fun u => decide (u.2 = ty)).length := by
  induction gone generalizing s with
  | nil => rfl
  | cons u rest ih =>
    have one : 1 ≤ u.2 := typed u List.mem_cons_self
    rw [List.foldl_cons, ih ((State.unpend_frame s u).canonical can) fun v mem => typed v (List.mem_cons_of_mem _ mem)]
    by_cases same : u.2 = ty
    · have here : (s.unpend u).dget 0x3000 4 (ty - 1) = s.dget 0x3000 4 (ty - 1) - 1 := by
        rw [State.unpend, same]
        exact State.dget_dset_same can ..
      rw [here, List.filter_cons_of_pos (by simp [same]), List.length_cons]
      omega
    · have there : (s.unpend u).dget 0x3000 4 (ty - 1) = s.dget 0x3000 4 (ty - 1) :=
        State.dget_dset_of_ne can _ (by unfold dkey; omega)
      rw [there, List.filter_cons_of_neg (by simp [same])]

/-- The device without the events that a write of n acknowledges. -/
def State.unlisted (s : State) (n : Nat) : State :=
  { s with health := { s.health with unacked := s.health.unacked.filter fun u => !s.ackedBy n u } }

theorem State.writeHealthAck_eq (s : State) (n : Nat) :
    s.writeHealthAck n = ((s.health.unacked.filter (s.ackedBy n)).foldl State.unpend (s.unlisted n), kOk) := rfl

theorem State.unlisted_frame (s : State) (n : Nat) : Frame [.health] s (s.unlisted n) :=
  Frame.set_health _ rfl (Frame.refl _ s)

/-! ### Tests -/

/-- A loop whose turns leave an entry. -/
theorem State.dget_foldl {α : Type} {f : State → α → State} {i j e : Nat} {l : List α}
    (keeps : ∀ x ∈ l, ∀ t, Canonical t → Canonical (f t x) ∧ (f t x).dget i j e = t.dget i j e) {s : State} (can : Canonical s) :
    (l.foldl f s).dget i j e = s.dget i j e := by
  induction l generalizing s with
  | nil => rfl
  | cons x l ih =>
    have turn := keeps x List.mem_cons_self s can
    exact (ih (fun y mem => keeps y (List.mem_cons_of_mem _ mem)) turn.1).trans turn.2

/-- The supply of the clusters is reported in entries of its own. -/
theorem State.dget_resupply {s : State} (can : Canonical s) {i j e : Nat}
    (other : ∀ cl < 64, dkey i j e ≠ dkey 0x2100 6 cl ∧ dkey i j e ≠ dkey 0x2100 7 cl) : s.resupply.dget i j e = s.dget i j e := by
  refine State.dget_foldl (fun cl mem t can => ?_) can
  have one := other cl (List.mem_range.mp mem)
  have can' := (State.dset_frame t 0x2100 6 cl (if s.domain cl = 0 then 0 else if s.isolated cl then pointVoltage (s.point cl)
    else max (pointVoltage (s.point cl)) (s.liftFloor cl))).canonical can
  exact ⟨(State.dset_frame ..).canonical can', (State.dget_dset_of_ne can' _ one.2).trans
    (State.dget_dset_of_ne can _ one.1)⟩

theorem State.domain_powerOn {s : State} (can : Canonical s) (cl : Nat) : (s.powerOn cl).domain cl = 2 := by
  have eq : (s.powerOn cl).domain cl =
      ((if s.domain cl = 0 then s.dset 0x2100 5 cl 0 else s).dset 0x3040 1 cl 2).dget 0x3040 1 cl := rfl
  have can' : Canonical (if s.domain cl = 0 then s.dset 0x2100 5 cl 0 else s) :=
    (Frame.ite (State.dset_frame ..) (Frame.refl [.entries] s)).canonical can
  exact eq.trans (State.dget_dset_same can' ..)

/-- The device with a cluster noted as under test. -/
def State.underTest (s : State) (cl : Nat) (iso : Bool) : State :=
  { s with health := { s.health with testing := some (cl, iso) } }

theorem State.underTest_frame (s : State) (cl : Nat) (iso : Bool) : Frame [.health] s (s.underTest cl iso) :=
  Frame.set_health _ rfl (Frame.refl _ s)

/-- The device at the start of a cluster's test. -/
def State.testStarted (s : State) (cl : Nat) : State :=
  (((s.underTest cl (decide (s.dget 0x3033 1 cl = 1))).powerOn cl).resupply).dset 0x3020 2 0 (testResult cl 2 0xFF)

theorem State.startTest_of_free {s : State} {cl : Nat} (idle : s.health.testing = none)
    (free : s.dget 0x3033 1 cl = 1 ∨ s.routeFree cl = true) : s.startTest cl = (s.testStarted cl, kOk) := by
  rw [State.startTest]
  refine if_neg ?_
  rcases free with h | h <;> simp [idle, h]

theorem State.startTest_of_barred {s : State} {cl : Nat}
    (barred : s.health.testing ≠ none ∨ (s.dget 0x3033 1 cl ≠ 1 ∧ s.routeFree cl = false)) : s.startTest cl = (s, kState) := by
  rw [State.startTest]
  refine if_pos ?_
  rcases barred with h | ⟨h, busy⟩
  · simp [Option.isSome_iff_ne_none.mpr h]
  · simp [h, busy]

theorem State.testStarted_frame (s : State) (cl : Nat) : Frame [.entries, .health, .power] s (s.testStarted cl) :=
  Frame.step (State.dset_frame ..) rfl (Frame.step (State.resupply_frame ..) rfl (Frame.step (State.powerOn_frame ..) rfl
    (Frame.mono (State.underTest_frame ..) rfl)))

theorem State.testStarted_health (s : State) (cl : Nat) :
    (s.testStarted cl).health = { s.health with testing := some (cl, decide (s.dget 0x3033 1 cl = 1)) } :=
  ((State.dset_frame ..).keeps .health rfl).trans (((State.resupply_frame ..).keeps .health rfl).trans
    ((State.powerOn_frame ..).keeps .health rfl))

theorem State.domain_testStarted {s : State} (can : Canonical s) {cl : Nat} (lt : cl < 64) : (s.testStarted cl).domain cl = 2 := by
  have noted := (State.underTest_frame s cl (decide (s.dget 0x3033 1 cl = 1))).canonical can
  have on := (State.powerOn_frame _ cl).canonical noted
  have supplied := (State.resupply_frame _).canonical on
  calc (s.testStarted cl).domain cl
      = (((s.underTest cl (decide (s.dget 0x3033 1 cl = 1))).powerOn cl).resupply).domain cl :=
        State.dget_dset_of_ne supplied _ (by unfold dkey; omega)
    _ = ((s.underTest cl (decide (s.dget 0x3033 1 cl = 1))).powerOn cl).domain cl :=
        State.dget_resupply on fun n _ => ⟨by unfold dkey; omega, by unfold dkey; omega⟩
    _ = 2 := State.domain_powerOn noted cl

end Sys2Proof.Machine
end

section
/-! SUPPORT. PERTURB_ENABLE and PERTURB_SLOTS (R617, R618). -/

namespace Sys2Proof.Machine

def perturbEnableEntry : Entry := ⟨0x6000, 1, 1, 2, 1, 1, some (0, 1), []⟩
def perturbSlotsEntry : Entry := ⟨0x6000, 2, 10, 2, 16, 16, none, []⟩

theorem perturbEnable_writesOne (v : BitVec 8) : WritesOne 0x6000 1 1 0 [v] perturbEnableEntry where
  found := by decide
  writable := by decide
  one q type off data := by simp [writeCount, perturbEnableEntry, type, off, data]

theorem perturbSlots_writesOne (slot : Fin 16) {b : Bytes} (whole : b.length = 16) :
    WritesOne 0x6000 2 10 slot.val b perturbSlotsEntry :=
  Entry.writesOne_of_table (by decide) (by decide) rfl (by decide) whole slot.isLt

theorem State.writeElem_perturbEnable (s : State) (m : Bool) (v : BitVec 8) :
    s.writeElem m perturbEnableEntry 0x6000 0 (perturbEnableEntry.part [v] 0) =
      if 1 < v.toNat then (s, kRange) else s.writePerturbEnable v.toNat := by
  simp [State.writeElem, perturbEnableEntry, State.writeDevice, Entry.allows, Entry.inRange, Entry.part, slice, leNat]

theorem State.writeElem_perturbSlots (s : State) (m : Bool) (slot : Nat) {b : Bytes} (whole : b.length = 16) :
    s.writeElem m perturbSlotsEntry 0x6000 slot (perturbSlotsEntry.part b 0) = s.writePerturbSlot slot b := by
  have part : perturbSlotsEntry.part b 0 = b := by simp [perturbSlotsEntry, Entry.part, slice, ← whole]
  rw [part]
  simp [State.writeElem, perturbSlotsEntry]

/-! ### Arming -/

/-- A change of PERTURB_ENABLE that is logged with its event. -/
theorem State.writePerturbEnable_of_logged {s : State} {v code : Nat}
    (change : (v = 1 ∧ s.dget 0x6000 1 = 0 ∧ code = 1) ∨ (v = 0 ∧ s.dget 0x6000 1 = 1 ∧ code = 2)) :
    ∃ detail, s.writePerturbEnable v = ((s.dset 0x6000 1 0 v).event 10 code 0 detail, kOk) := by
  refine ⟨(s.dset 0x6000 1 0 v).armedMask, ?_⟩
  rcases change with ⟨rfl, was, rfl⟩ | ⟨rfl, was, rfl⟩ <;> simp [State.writePerturbEnable, was]

theorem State.writePerturbEnable_of_same {s : State} {v : Nat} (same : s.dget 0x6000 1 = v) :
    s.writePerturbEnable v = (s.dset 0x6000 1 0 v, kOk) := by
  subst same
  rw [State.writePerturbEnable, if_neg (by omega), if_neg (by omega)]

theorem exec_perturbEnable (r : Requester) (v : BitVec 8) (s : State) :
    exec (.perturbEnable r v) s = .next (s.writeEntry r 0x6000 1 1 0 [v]) := rfl

section
variable {s : State} {r : Requester} {v : BitVec 8} (can : Canonical s) (may : s.admits r 0x6000 1 = true)
include can may

theorem execPerturbEnable_of_logged {code : Nat}
    (change : (v.toNat = 1 ∧ s.dget 0x6000 1 = 0 ∧ code = 1) ∨ (v.toNat = 0 ∧ s.dget 0x6000 1 = 1 ∧ code = 2)) :
    ∃ u, exec (.perturbEnable r v) s = .next u ∧ u.result = kOk ∧ u.dget 0x6000 1 = v.toNat ∧ Logged u 10 code 0 = true ∧
      Frame [.free, .out, .entries, .msix, .health, .kop] s u := by
  obtain ⟨detail, taken⟩ := State.writePerturbEnable_of_logged change
  obtain ⟨rsp, eq, ok⟩ := State.writeEntry_of_unsaved may (perturbEnable_writesOne v)
    (fun m => (State.writeElem_perturbEnable s m v).trans ((if_neg (by omega)).trans taken)) (by decide)
  have can' : Canonical (s.dset 0x6000 1 0 v.toNat) := (State.dset_frame ..).canonical can
  rw [eq] at ok
  refine ⟨_, (exec_perturbEnable r v s).trans (congrArg _ eq), ok, ?_, State.logged_event _ (by decide) .., ?_⟩
  · exact (State.dget_event_of_ne can' 10 code 0 detail (by decide) (by decide) (by decide)).trans (State.dget_dset_same can ..)
  · exact Frame.step (State.answered_frame ..) rfl (Frame.step (State.event_frame ..) rfl (Frame.mono (State.dset_frame ..) rfl))

theorem execPerturbEnable_of_same (le : v.toNat ≤ 1) (same : s.dget 0x6000 1 = v.toNat) :
    ∃ u, exec (.perturbEnable r v) s = .next u ∧ u.result = kOk ∧ u.dget 0x6000 1 = v.toNat ∧ u.health = s.health ∧
      Frame [.entries, .kop] s u := by
  obtain ⟨rsp, eq, ok⟩ := State.writeEntry_of_unsaved may (perturbEnable_writesOne v)
    (fun m => (State.writeElem_perturbEnable s m v).trans
      ((if_neg (by omega)).trans (State.writePerturbEnable_of_same same))) (by decide)
  rw [eq] at ok
  exact ⟨_, (exec_perturbEnable r v s).trans (congrArg _ eq), ok, State.dget_dset_same can ..,
    (State.dset_frame s 0x6000 1 0 v.toNat).keeps .health rfl,
    Frame.step (State.answered_frame ..) rfl (Frame.mono (State.dset_frame ..) rfl)⟩

end

/-! ### Slots -/

theorem exec_perturbSlots_of_length {b : Bytes} (whole : b.length = 16) (r : Requester) (slot : Fin 16) (s : State) :
    exec (.perturbSlots r slot b) s = .next (s.writeEntry r 0x6000 2 10 slot.val b) := by
  have run : exec (.perturbSlots r slot b) s = execPerturbSlots r slot b s := rfl
  rw [run, execPerturbSlots, List.take_of_length_le (by omega)]

end Sys2Proof.Machine
end

section
/-! SUPPORT. Acknowledging, masking, testing, rotating and perturbing (R601, R602, R607, R610, R617, R618). -/

namespace Sys2Proof.Machine

theorem exec_testRequestCluster (r : Requester) (cl : BitVec 8) (s : State) :
    exec (.testRequestCluster r cl) s = .next (s.writeEntry r 0x3020 1 3 0 [1, cl]) := rfl

theorem exec_testRequestRotate (r : Requester) (cl : BitVec 8) (s : State) :
    exec (.testRequestRotate r cl) s = .next (s.writeEntry r 0x3020 1 3 0 [2, cl]) := rfl

theorem State.writeTestRequest_cluster (s : State) {cl : Nat} : s.writeTestRequest (1 + 256 * cl) = s.startTest cl := by
  rw [State.writeTestRequest, if_pos (by omega)]
  congr 1
  omega

theorem State.writeTestRequest_rotate (s : State) (cl : Nat) : s.writeTestRequest (2 + 256 * cl) = (s.dueRotation cl, kOk) := by
  rw [State.writeTestRequest, if_neg (by omega)]
  congr 2
  omega

theorem State.writeElem_testCluster (s : State) (m : Bool) {cl : BitVec 8} (lt : cl.toNat < 64) :
    s.writeElem m testRequestEntry 0x3020 0 (testRequestEntry.part [1, cl] 0) = s.startTest cl.toNat :=
  (State.writeElem_testRequest s m (.inl rfl) cl).trans ((if_neg (Nat.not_le.mpr lt)).trans (State.writeTestRequest_cluster s))

theorem State.writeElem_testRotate (s : State) (m : Bool) {cl : BitVec 8} (lt : cl.toNat < 64) :
    s.writeElem m testRequestEntry 0x3020 0 (testRequestEntry.part [2, cl] 0) = (s.dueRotation cl.toNat, kOk) :=
  (State.writeElem_testRequest s m (.inr rfl) cl).trans ((if_neg (Nat.not_le.mpr lt)).trans (State.writeTestRequest_rotate s _))

theorem State.health_answered (s : State) (rsp : Bytes) : (s.answered rsp).health = s.health := rfl

theorem State.domain_answered (s : State) (rsp : Bytes) (n : Nat) : (s.answered rsp).domain n = s.domain n := rfl

/-- An acknowledgement. -/
theorem execHealthAck_of_admitted {s : State} {r : Requester} (can : Canonical s) (may : s.admits r 0x3000 5 = true)
    (typed : ∀ v ∈ s.health.unacked, 1 ≤ v.2) (seq : BitVec 32) :
    ∃ u, exec (.healthAck r seq) s = .next u ∧ u.result = kOk ∧
      u.health = { s.health with unacked := s.health.unacked.filter fun v => !s.ackedBy seq.toNat v } ∧
      (∀ ty, 1 ≤ ty → u.dget 0x3000 4 (ty - 1) = s.dget 0x3000 4 (ty - 1) -
        (s.health.unacked.filter fun v => s.ackedBy seq.toNat v && decide (v.2 = ty)).length) ∧
      Frame [.entries, .health, .kop] s u := by
  obtain ⟨rsp, eq, ok⟩ := State.writeEntry_of_unsaved may (healthAck_writesOne seq.toNat)
    (fun m => (State.writeElem_healthAck s m seq).trans (State.writeHealthAck_eq s seq.toNat)) (by decide)
  have run : exec (.healthAck r seq) s = .next (s.writeEntry r 0x3000 5 4 0 (leBytes 4 seq.toNat)) := rfl
  have k := State.foldl_unpend_frame (s.unlisted seq.toNat) (s.health.unacked.filter (s.ackedBy seq.toNat))
  rw [eq] at ok
  refine ⟨_, run.trans (congrArg _ eq), ok, k.keeps .health rfl, fun ty pos => ?_, Frame.step (State.answered_frame ..) rfl
    (Frame.step k rfl (Frame.mono (State.unlisted_frame ..) rfl))⟩
  refine (State.dget_foldl_unpend ((State.unlisted_frame ..).canonical can)
    (fun v mem => typed v (List.mem_of_mem_filter mem)) pos).trans ?_
  simp only [List.filter_filter, Bool.and_comm]
  rfl

/-- Settles O58: each request leaves the health records that its rule gives, and one whose value is refused leaves the device as it
was. -/
theorem healthCommands : Obligations.HealthCommands := by
  unfold Obligations.HealthCommands
  refine ⟨?ack, ?mask, ?maskRange, ?test, ?testBarred, ?testRange, ?rotate, ?rotateRange, ?arm, ?disarm, ?same, ?enableRange,
    ?slot, ?slotRange⟩
  case ack => exact fun r seq s can may typed => execHealthAck_of_admitted can may typed seq
  case mask =>
    intro r v s can may le
    have run : exec (.healthMask r v) s = .next (s.writeEntry r 0x3000 3 3 0 (leBytes 2 v.toNat)) := rfl
    exact ⟨_, run, State.writeEntry_of_saved can may (healthMask_writesOne v.toNat)
      (fun m => (State.writeElem_healthMask s m v).trans (if_neg (by omega))) (by decide) (by decide)⟩
  case maskRange =>
    intro r v s can may lt
    exact State.next_of_refused may (healthMask_writesOne v.toNat)
      (fun m => (State.writeElem_healthMask s m v).trans (if_pos lt)) (by decide) (by decide)
  case test =>
    intro r cl s can may lt idle free
    obtain ⟨rsp, eq, ok⟩ := State.writeEntry_of_unsaved may (testRequest_writesOne 1 cl)
      (fun m => (State.writeElem_testCluster s m lt).trans (State.startTest_of_free idle free)) (by decide)
    have testing : ((s.testStarted cl.toNat).answered rsp).health.testing =
        some (cl.toNat, decide (s.dget 0x3033 1 cl.toNat = 1)) := by
      rw [State.health_answered, State.testStarted_health]
    rw [eq] at ok
    refine ⟨_, (exec_testRequestCluster r cl s).trans (congrArg _ eq), ok, testing,
      (State.domain_answered ..).trans (State.domain_testStarted can lt), ?_,
      Frame.step (State.answered_frame ..) rfl (Frame.mono (State.testStarted_frame ..) rfl)⟩
    rw [State.isolated, testing]
    simp
  case testBarred =>
    intro r cl s can may lt barred
    exact State.next_of_refused may (testRequest_writesOne 1 cl)
      (fun m => (State.writeElem_testCluster s m lt).trans (State.startTest_of_barred barred)) (by decide) (by decide)
  case testRange =>
    intro r cl s can may ge
    exact State.next_of_refused may (testRequest_writesOne 1 cl)
      (fun m => (State.writeElem_testRequest s m (.inl rfl) cl).trans (if_pos ge)) (by decide) (by decide)
  case rotate =>
    intro r cl s can may lt
    obtain ⟨rsp, eq, ok⟩ := State.writeEntry_of_unsaved may (testRequest_writesOne 2 cl)
      (fun m => State.writeElem_testRotate s m lt) (by decide)
    rw [eq] at ok
    exact ⟨_, (exec_testRequestRotate r cl s).trans (congrArg _ eq), ok, rfl, thas_tput_same ..,
      Frame.step (State.answered_frame ..) rfl (Frame.mono (State.dueRotation_frame ..) rfl)⟩
  case rotateRange =>
    intro r cl s can may ge
    exact State.next_of_refused may (testRequest_writesOne 2 cl)
      (fun m => (State.writeElem_testRequest s m (.inr rfl) cl).trans (if_pos ge)) (by decide) (by decide)
  case arm =>
    rintro r v s can may rfl was
    exact execPerturbEnable_of_logged can may (.inl ⟨rfl, was, rfl⟩)
  case disarm =>
    rintro r v s can may rfl was
    exact execPerturbEnable_of_logged can may (.inr ⟨rfl, was, rfl⟩)
  case same => exact fun r v s can may le same => execPerturbEnable_of_same can may le same
  case enableRange =>
    intro r v s can may lt
    exact State.next_of_refused may (perturbEnable_writesOne v)
      (fun m => (State.writeElem_perturbEnable s m v).trans (if_pos lt)) (by decide) (by decide)
  case slot =>
    intro r slot b s can may whole legal sorted
    obtain ⟨rsp, eq, ok⟩ := State.writeEntry_of_unsaved may (perturbSlots_writesOne slot whole)
      (fun m => (State.writeElem_perturbSlots s m slot.val whole).trans (if_pos legal)) (by decide)
    rw [eq] at ok
    refine ⟨_, (exec_perturbSlots_of_length whole r slot s).trans (congrArg _ eq), ok, ?_, rfl,
      Frame.step (State.answered_frame ..) rfl (Frame.set_health _ rfl (Frame.refl ..))⟩
    exact (tget_tset _ _ _ _ _ sorted).trans (if_pos rfl)
  case slotRange =>
    intro r slot b s can may whole bad
    rw [exec_perturbSlots_of_length whole]
    exact State.next_of_refused may (perturbSlots_writesOne slot whole)
      (fun m => (State.writeElem_perturbSlots s m slot.val whole).trans (if_neg (by simp [bad]))) (by decide) (by decide)

end Sys2Proof.Machine
end

section
/-! SUPPORT. Bring-up and the end of a recovery (R593, R595, R623, R626-R630): what each row leaves in the device's progress. -/

namespace Sys2Proof.Machine

/-! ### The profile load -/

/-- The bootstrap map stands in Bulk, which is zero elsewhere (R628). -/
def State.bootMapped (s : State) : State :=
  { s with bulk := { s.bulk with mem := bootstrapMap, roots := [(256, 1)], lastAccess := [] } }

theorem State.bootMapped_bulk (s : State) :
    s.bootMapped.bulk.mem = bootstrapMap ∧ s.bootMapped.bulk.roots = [(256, 1)] := by
  unfold State.bootMapped
  exact ⟨by dsimp only, by dsimp only⟩

theorem Frame.bulk_kept {g : List Zone} {s u : State} (k : Frame g s u) (mem : g.contains .bulkMem = false)
    (other : g.contains .bulk = false) : u.bulk.mem = s.bulk.mem ∧ u.bulk.roots = s.bulk.roots := by
  have roots := congrArg Bulk.roots (k.keeps .bulk other)
  exact ⟨k.keeps .bulkMem mem, roots⟩

/-- The domains of bring-up, before the bootstrap map is written. -/
def State.unitsPowered (s : State) : State :=
  let s := (s.setDomains 2 ((List.range 32).map (· + 64))).setDomains 2 ((List.range 5).map (· + 112))
  s.setDomain 117 (if s.dget 0x1100 1 = 1 then 2 else 0)

theorem State.bringUnits_eq (s : State) :
    s.bringUnits = (List.range 16).foldl State.portUp s.unitsPowered.bootMapped.testPower := by
  unfold State.bringUnits State.unitsPowered State.bootMapped
  rfl

theorem State.afterMap_frame (s : State) :
    Frame [.entries, .links, .power] s ((List.range 16).foldl State.portUp s.testPower) :=
  Frame.foldl _ (fun _ _ => Frame.mono (State.portUp_frame ..) rfl) (Frame.mono (State.testPower_frame ..) rfl)

/-- What follows the bootstrap map leaves it. -/
theorem State.bringUnits_bulk (s : State) :
    s.bringUnits.bulk.mem = bootstrapMap ∧ s.bringUnits.bulk.roots = [(256, 1)] := by
  have kept := Frame.bulk_kept (State.afterMap_frame s.unitsPowered.bootMapped) rfl rfl
  have map := State.bootMapped_bulk s.unitsPowered
  rw [State.bringUnits_eq]
  exact ⟨kept.1.trans map.1, kept.2.trans map.2⟩

/-- The device once a profile has loaded. -/
def State.profiled (s : State) : State := { s with dev := { s.dev with profileLoaded := true } }

theorem execProfileLoad_of_bringUp {t : Nat} {s : State} (unloaded : s.dev.profileLoaded = false) (rails : s.pins.railsOut = [])
    (mode : s.dev.mode = .bringUp) (due : s.dev.dTime ≤ t) :
    exec (.profileLoad t) s = .next (((s.at t).loadProfile true).profiled.bringUnits.settleLock) := by
  have run : exec (.profileLoad t) s = execProfileLoad t s := rfl
  rw [run, execProfileLoad, if_neg (by simp [unloaded, rails]), if_pos ⟨mode, due⟩]
  rfl

/-! ### The self-test -/

/-- The results of every cluster at the self-test. -/
def State.clustersTested (s : State) (cores : List (ClusterId × Fin 17)) (clusters : List ClusterId) : State :=
  (List.range 64).foldl (fun s cl =>
    let bad := (cores.filter fun c => decide (c.1.val = cl)).map fun c => c.2.val
    s.testCluster cl bad.dedup (clusters.any fun c => decide (c.val = cl))) s

theorem State.clustersTested_frame (s : State) (cores : List (ClusterId × Fin 17)) (clusters : List ClusterId) :
    Frame [.free, .out, .entries, .ctxEntries, .host, .near, .nearMem, .bulk, .bulkMem, .rings, .loops, .msix, .pages, .cmds,
      .steps, .array, .ctxs, .serve, .links, .health, .power] s (s.clustersTested cores clusters) :=
  Frame.foldl _ (fun _ _ => State.testCluster_frame ..) (Frame.refl ..)

/-- The device once its clusters have been tested. -/
def State.selfTested (s : State) : State := { s with dev := { s.dev with selfTested := true } }

theorem execClusterSelfTestEnd_of_awaited {t : Nat} {cores : List (ClusterId × Fin 17)} {clusters : List ClusterId} {s : State}
    (loaded : s.dev.profileLoaded = true) (untested : s.dev.selfTested = false) (brake : s.pins.brakeN = true)
    (rails : s.pins.railsOut = []) (mode : s.dev.mode = .bringUp ∨ s.dev.mode = .recovery) :
    exec (.clusterSelfTestEnd t cores clusters) s =
      .next ((((s.at t).clustersTested cores clusters).setDomains 2 ((List.range 24).map (· + 64))).selfTested.resupply) := by
  have run : exec (.clusterSelfTestEnd t cores clusters) s = execClusterSelfTestEnd t cores clusters s := rfl
  rw [run, execClusterSelfTestEnd, if_neg]
  · rfl
  · rcases mode with mode | mode <;> simp [loaded, untested, brake, rails, mode]

/-! ### READY -/

/-- The link of the device at READY: it stays up, or trains now. -/
def Hif.trainedTo (h : Hif) (speed : BitVec 4) (width : BitVec 5) (flit : Bool) : Hif :=
  if h.linkUp then h else { h with speed := speed, width := width, flit := flit, linkUp := true }

theorem Hif.trainedTo_linkUp (h : Hif) (speed : BitVec 4) (width : BitVec 5) (flit : Bool) :
    (h.trainedTo speed width flit).linkUp = true := by
  rw [Hif.trainedTo]
  split
  · assumption
  · rfl

theorem Hif.trainedTo_of_down {h : Hif} (down : h.linkUp = false) (speed : BitVec 4) (width : BitVec 5) (flit : Bool) :
    h.trainedTo speed width flit = { h with speed := speed, width := width, flit := flit, linkUp := true } :=
  if_neg (by simp [down])

/-- The device in service at a moment, with a link. -/
def State.putInService (s : State) (h : Hif) : State :=
  { s with
    hif := { h with ready := true }
    dev := { s.dev with mode := .service, since := s.uptime, hostReset := false, hostWork := [] } }

theorem execDeviceReady_of_bringUp {t : Nat} {speed : BitVec 4} {width : BitVec 5} {flit : Bool} {s : State}
    (ready : s.mayServe t = true) (mode : s.dev.mode = .bringUp)
    (link : s.hif.linkUp = true ∨ linkOk (s.trained speed) width flit = true) :
    exec (.deviceReady t speed width flit) s =
      .next (((s.at t).putInService (s.hif.trainedTo (s.trained speed) width flit)).interrupt 0 0) := by
  have run : exec (.deviceReady t speed width flit) s = execDeviceReady t speed width flit s := rfl
  have open' : ¬(!s.mayServe t || (!s.hif.linkUp && !linkOk (s.trained speed) width flit)) = true := by
    rcases link with link | link <;> simp [ready, link]
  rw [run, execDeviceReady, if_neg open']
  cases up : s.hif.linkUp with
  | true =>
    simp only [State.at, up, mode, if_true, reduceCtorEq, if_false, Hif.trainedTo, State.putInService]
  | false =>
    simp only [State.at, up, mode, Bool.false_eq_true, if_false, reduceCtorEq, Hif.trainedTo]
    rfl

theorem execDeviceReady_of_unready {t : Nat} {speed : BitVec 4} {width : BitVec 5} {flit : Bool} {s : State}
    (unready : s.mayServe t = false ∨ (s.hif.linkUp = false ∧ linkOk (s.trained speed) width flit = false)) :
    exec (.deviceReady t speed width flit) s = .next s := by
  have run : exec (.deviceReady t speed width flit) s = execDeviceReady t speed width flit s := rfl
  rw [run, execDeviceReady, if_pos]
  rcases unready with h | ⟨down, bad⟩
  · simp [h]
  · simp [down, bad]

/-- Settles O16: each row of bring-up and recovery leaves the progress that its rule gives, and one whose condition does not hold
changes nothing. -/
theorem bringUp : Obligations.BringUp := by
  unfold Obligations.BringUp
  refine ⟨?load, ?selfTest, ?hostInterface, ?ready, ?again, ?failed, ?unready, ?early⟩
  case load =>
    intro t s unloaded rails mode due
    have run := execProfileLoad_of_bringUp unloaded rails mode due
    have lock := State.settleLock_frame ((s.at t).loadProfile true).profiled.bringUnits
    have units := (State.bringUnits_frame ((s.at t).loadProfile true).profiled).keeps .dev rfl
    have load := (State.loadProfile_frame (s.at t) true).keeps .dev rfl
    have map := State.bringUnits_bulk ((s.at t).loadProfile true).profiled
    have kept := Frame.bulk_kept lock rfl rfl
    refine ⟨_, run, ?_, kept.1.trans map.1, kept.2.trans map.2, execProfileLoad_frame run⟩
    calc _ = ((s.at t).loadProfile true).profiled.bringUnits.dev := lock.keeps .dev rfl
      _ = ((s.at t).loadProfile true).profiled.dev := units
      _ = { ((s.at t).loadProfile true).dev with profileLoaded := true } := rfl
      _ = { s.dev with profileLoaded := true } := congrArg (fun d : Dev => { d with profileLoaded := true }) load
  case selfTest =>
    intro t cores clusters s loaded untested brake rails mode
    have run := execClusterSelfTestEnd_of_awaited (t := t) (cores := cores) (clusters := clusters) loaded untested brake rails mode
    have tested := (State.clustersTested_frame (s.at t) cores clusters).keeps .dev rfl
    have powered := (State.setDomains_frame ((s.at t).clustersTested cores clusters) 2 ((List.range 24).map (· + 64))).keeps .dev rfl
    refine ⟨_, run, ((State.resupply_frame _).keeps .dev rfl).trans ?_, execClusterSelfTestEnd_frame run⟩
    rw [State.selfTested, powered, tested]
    rfl
  case hostInterface =>
    intro t s held mode loaded due
    have run : exec (.hostInterfaceResetEnd t) s = execHostInterfaceResetEnd t s := rfl
    have zones := execHostInterfaceResetEnd_frame (a0 := t) (a1 := s) rfl
    rw [execHostInterfaceResetEnd, mode, if_pos (by simp [held, loaded, due])] at run
    exact ⟨_, run, rfl, rfl, rfl, execHostInterfaceResetEnd_frame run⟩
  case ready =>
    intro t speed width flit s ready mode link
    have run := execDeviceReady_of_bringUp ready mode link
    have notice := State.interrupt_frame ((s.at t).putInService (s.hif.trainedTo (s.trained speed) width flit)) 0 0
    have dev := notice.keeps .dev rfl
    have hif := notice.keeps .hif rfl
    refine ⟨_, run, dev, congrArg Hif.ready hif, (congrArg Hif.linkUp hif).trans (Hif.trainedTo_linkUp ..), fun down => ?_,
      ?_, execDeviceReady_frame run⟩
    · have now := Hif.trainedTo_of_down down (s.trained speed) width flit
      exact ⟨(congrArg Hif.speed hif).trans (congrArg Hif.speed now), (congrArg Hif.width hif).trans (congrArg Hif.width now),
        (congrArg Hif.flit hif).trans (congrArg Hif.flit now)⟩
    · rw [State.serving, dev]
      rfl
  case again =>
    intro t s mode due first still
    have run : exec (.recoveryTimeout t) s = execRecoveryTimeout t s := rfl
    rw [execRecoveryTimeout, if_pos ⟨mode, due⟩] at run
    dsimp only at run
    rw [if_pos (show (s.at t).dev.attempt < 2 from first), State.restartRecovery, if_neg (by simp [State.at, still])] at run
    exact ⟨_, run, rfl, execRecoveryTimeout_frame run⟩
  case failed =>
    intro t s mode due second driven
    have run : exec (.recoveryTimeout t) s = execRecoveryTimeout t s := rfl
    rw [execRecoveryTimeout, if_pos ⟨mode, due⟩] at run
    dsimp only at run
    rw [if_neg (show ¬(s.at t).dev.attempt < 2 from Nat.not_lt.mpr second)] at run
    refine ⟨_, run, rfl, ?_, Frame.set_dev _ rfl (Frame.mono (State.at_frame s t) rfl)⟩
    exact Bool.and_eq_true_iff.mpr ⟨driven, by simp⟩
  case unready =>
    intro t speed width flit s unready
    exact ⟨s, execDeviceReady_of_unready unready, rfl, Frame.refl ..⟩
  case early =>
    intro t s early
    have run : exec (.recoveryTimeout t) s = execRecoveryTimeout t s := rfl
    rw [execRecoveryTimeout, if_neg] at run
    · exact ⟨s, run, rfl, Frame.refl ..⟩
    · rintro ⟨mode, due⟩
      exact early.elim (fun h => h mode) fun h => Nat.not_le.mpr h due

end Sys2Proof.Machine
end

section
/-! SUPPORT. Writes of a port in any state but Off, the border move, and lane tests. -/
namespace Sys2Proof.Machine

/-! ### A port that is not Off -/

section
variable {s : State} {p : Nat} {q : Port} (on : q.state ≠ .off)
include on

theorem State.ports_setPort_of_on : (s.setPort p q).links.ports = tput s.links.ports p q :=
  if_neg fun blank => on (congrArg Port.state blank)

theorem State.port_setPort_of_on (k : Nat) : (s.setPort p q).port k = if k = p then q else s.port k := by
  rw [State.port, State.ports_setPort_of_on on]
  split_ifs with same
  · rw [same, tget_tput_same]
  · rw [tget_tput_of_ne _ _ _ same, State.port]

theorem State.port_setPort_same : (s.setPort p q).port p = q :=
  (State.port_setPort_of_on on p).trans (if_pos rfl)

theorem State.port_setPort_of_ne {k : Nat} (ne : k ≠ p) : (s.setPort p q).port k = s.port k :=
  (State.port_setPort_of_on on k).trans (if_neg ne)

end

/-- A port that is not Off, written as it stands, changes no port. -/
theorem State.port_setPort_unchanged {s : State} {p : Nat} (on : (s.port p).state ≠ .off) (k : Nat) :
    (s.setPort p (s.port p)).port k = s.port k := by
  by_cases same : k = p
  · rw [same, State.port_setPort_same on]
  · exact State.port_setPort_of_ne on same

/-- A port that a border move has reached is not as it is at power-up. -/
theorem State.port_setPort_of_border {s : State} {p : Nat} {q : Port} (moved : q.border ≠ 0) (k : Nat) :
    (s.setPort p q).port k = if k = p then q else s.port k := by
  have listed : (s.setPort p q).links.ports = tput s.links.ports p q :=
    if_neg fun blank => moved (congrArg Port.border blank)
  rw [State.port, listed]
  split_ifs with same
  · rw [same, tget_tput_same]
  · rw [tget_tput_of_ne _ _ _ same, State.port]

theorem State.port_of_frame {g : List Zone} {s u : State} (k : Frame g s u) (out : g.contains .links = false) (j : Nat) :
    u.port j = s.port j := State.port_of_ports (congrArg Links.ports (k.keeps .links out)) j

/-! ### Border moves -/

/-- With no border move there is nothing to settle. -/
theorem State.settleBorder_of_none {s : State} (none : s.dget 0x5000 12 = 0) : s.settleBorder = s := by
  simp [State.settleBorder, none]

/-- A move goes no further while a port of it waits for the partner's BORDER (R491). -/
theorem State.settleBorder_of_unready {s : State} {p : Nat} (fenced : s.dget 0x5000 12 = 1) (moves : p ∈ s.movingPorts)
    (waits : (s.port p).border = 2) : s.settleBorder = s := by
  have unready : (s.movingPorts.all fun p => decide ((s.port p).border = 0) ||
      (decide ((s.port p).border = 3) && (s.port p).borderSent)) = false :=
    List.all_eq_false.mpr ⟨p, moves, by simp [waits]⟩
  simp [State.settleBorder, unready, fenced]

theorem State.mem_movingPorts {s : State} (port : PortId) (moves : bit s.links.moving port.val = true) :
    port.val ∈ s.movingPorts := List.mem_filter.mpr ⟨List.mem_range.mpr port.isLt, moves⟩

/-- A port drained of what it carries, with BORDER queued. -/
def State.borderQueued (s : State) (p : Nat) : State :=
  (s.setPort p { (s.port p) with border := if (s.port p).borderHeld then 3 else 2, borderSince := s.uptime }).queuePacket p
    { type := 0x47, src := 0, dst := (s.port p).partnerId, ctx := 256, epoch := 0 }

theorem State.borderQueued_frame (s : State) (p : Nat) : Frame [.links] s (s.borderQueued p) :=
  Frame.step (State.setPort_frame ..) rfl (State.setPort_frame ..)

theorem execPartitionDrained_of_drained {port : PortId} {s : State} (fenced : (s.port port.val).border = 1)
    (drained : s.portDrained port.val = true) :
    exec (.partitionDrained port) s = .next (s.borderQueued port.val).settleBorder :=
  (congrArg Host.Outcome.next (if_pos ⟨fenced, drained⟩) : execPartitionDrained port s = _)

theorem Port.border_queue (q : Port) (k : Packet) : (q.queue k).border = q.border :=
  congrArg (fun m => m.2.1) (q.move_queue k)

theorem Port.queue_border_packet (q : Port) (dst src : Nat) :
    q.queue { type := 0x47, src := src, dst := dst, ctx := 256, epoch := 0 } =
      { q with vc3 := q.vc3 ++ [{ type := 0x47, src := src, dst := dst, ctx := 256, epoch := 0 }] } := rfl

theorem State.port_queuePacket_of_border {s : State} {p : Nat} (moved : (s.port p).border ≠ 0) (x : Packet) (k : Nat) :
    (s.queuePacket p x).port k = if k = p then (s.port p).queue { x with src := (s.port p).ownId } else s.port k :=
  State.port_setPort_of_border (by rwa [Port.border_queue]) k

/-- BORDER joins the Control packets of the port, which waits for the partner's where that has not come. -/
theorem State.port_borderQueued {s : State} {p : Nat} (early : (s.port p).borderHeld = false) (k : Nat) :
    (s.borderQueued p).port k = if k = p then { (s.port p) with border := 2, borderSince := s.uptime, vc3 := (s.port p).vc3 ++
      [{ type := 0x47, src := (s.port p).ownId, dst := (s.port p).partnerId, ctx := 256, epoch := 0 }] } else s.port k := by
  have waits (j : Nat) := State.port_setPort_of_border (s := s) (p := p)
    (q := { (s.port p) with border := 2, borderSince := s.uptime }) (by simp) j
  have here := (waits p).trans (if_pos rfl)
  rw [State.borderQueued, early, if_neg Bool.false_ne_true, State.port_queuePacket_of_border (by simp [here]), here,
    Port.queue_border_packet, waits]
  split_ifs <;> rfl

/-! ### Lane tests -/

def Port.withChecks (q : Port) (checks : Tab (Nat × Nat)) : Port := { q with checks := checks }

theorem Port.state_withChecks (q : Port) (checks : Tab (Nat × Nat)) : (q.withChecks checks).state = q.state := rfl

/-- A lane's count is kept with the port and reported, and nothing else changes. -/
theorem State.laneChecked_of_bits (s : State) (p lane e : Nat) {n : Nat} (compared : n ≠ 0) : s.laneChecked p lane e n =
    (s.setPort p ((s.port p).withChecks (tput (s.port p).checks lane (e, n)))).dset (0x5010 + p) 14 lane (berOf e n) := if_neg compared

theorem State.worseBer_of_limit {s t : State} (same : t.dget 0x5000 10 = s.dget 0x5000 10) (e n : Nat) :
    t.worseBer e n = s.worseBer e n := by
  rw [State.worseBer, same, State.worseBer]

theorem State.port_laneChecked {s : State} {p : Nat} (on : (s.port p).state ≠ .off) {n : Nat} (compared : n ≠ 0) (lane e k : Nat) :
    (s.laneChecked p lane e n).port k =
      if k = p then (s.port p).withChecks (tput (s.port p).checks lane (e, n)) else s.port k := by
  rw [State.laneChecked_of_bits s p lane e compared, State.port_of_frame (State.dset_frame ..) rfl]
  exact State.port_setPort_of_on (by rwa [Port.state_withChecks]) k

theorem State.dget_laneChecked_same {s : State} (can : Canonical s) (p lane e : Nat) {n : Nat} (compared : n ≠ 0) :
    (s.laneChecked p lane e n).dget (0x5010 + p) 14 lane = berOf e n := by
  rw [State.laneChecked_of_bits s p lane e compared]
  exact State.dget_dset_same ((State.setPort_frame ..).canonical can) ..

theorem State.dget_laneChecked_of_ne {s : State} (can : Canonical s) (p lane e n : Nat) {i j k : Nat}
    (ne : dkey i j k ≠ dkey (0x5010 + p) 14 lane) : (s.laneChecked p lane e n).dget i j k = s.dget i j k := by
  rw [State.laneChecked]
  split_ifs
  · rfl
  · exact State.dget_dset_of_ne ((State.setPort_frame ..).canonical can) _ ne

/-- The limit of an error ratio stands below the entries of the ports. -/
theorem State.worseBer_laneChecked {s : State} (can : Canonical s) (p lane e n x m : Nat) :
    (s.laneChecked p lane e n).worseBer x m = s.worseBer x m :=
  State.worseBer_of_limit (State.dget_laneChecked_of_ne can p lane e n (by simp only [dkey]; omega)) x m

/-! ### The end of a dwell -/

/-- A port after the end of a dwell of its own test, where that is due (R494). -/
def State.dwelt (s : State) (p t : Nat) : Port :=
  let q := s.port p
  if q.testPhase ≠ 2 ∨ max s.uptime t < q.testSince + s.dget 0x5000 9 * 1000000 then q
  else if q.testLane = 8 then { q with testPhase := 0, testLane := 15 } else { q with testPhase := 3 }

theorem execLaneTestDwellEnd_of_active {port : PortId} {errors bits t : Nat} {s : State} (active : (s.port port.val).state = .active) :
    exec (.laneTestDwellEnd port errors bits t) s =
      .next (((s.at t).setPort port.val (s.dwelt port.val t)).laneMeasured port.val errors bits) :=
  (congrArg Host.Outcome.next (if_pos active) : execLaneTestDwellEnd port errors bits t s = _)

/-- With no test of the partner, or no bits compared, nothing has been measured. -/
theorem State.laneMeasured_of_none {s : State} {p e n : Nat} (idle : (s.port p).partnerTest = 15 ∨ n = 0) :
    s.laneMeasured p e n = s := if_pos idle

/-- A lane of the partner's test that keeps to the limit is reported (R494). -/
theorem State.laneMeasured_of_better {s : State} (can : Canonical s) {p e n : Nat} (tested : (s.port p).partnerTest ≠ 15) (compared : n ≠ 0)
    (better : s.worseBer e n = false) : s.laneMeasured p e n = s.laneChecked p (s.port p).partnerTest e n := by
  rw [State.laneMeasured, if_neg (by simp [tested, compared])]
  exact if_neg (by simp [State.worseBer_laneChecked can, better])

/-- A lane of the partner's test that breaks the limit fails (R495). -/
theorem State.laneMeasured_of_worse {s : State} (can : Canonical s) {p e n : Nat} (tested : (s.port p).partnerTest ≠ 15) (compared : n ≠ 0)
    (worse : s.worseBer e n = true) : s.laneMeasured p e n =
      (s.laneChecked p (s.port p).partnerTest e n).laneFails p (s.port p).partnerTest := by
  rw [State.laneMeasured, if_neg (by simp [tested, compared])]
  exact if_pos (by simp [State.worseBer_laneChecked can, worse])

/-- The first lane that fails is asked for the spare for good, and logged (R495). -/
theorem State.laneFails_of_first {s : State} {p lane : Nat} (moved : (s.port p).rxPermanent = false) (data : lane < 8) :
    s.laneFails p lane = (s.setPort p { (s.port p) with spareRq := lane, rxPermanent := true }).event 8 5 p lane := by
  rw [State.laneFails, if_neg (by simp [moved]; omega), if_neg (by simp [moved])]

/-- With its port written as it stands, a later state has the same ports and the same limit. -/
theorem State.canonical_rewritten {s : State} {p t : Nat} (can : Canonical s) (on : (s.port p).state ≠ .off) :
    Canonical ((s.at t).setPort p (s.port p)) ∧ (∀ k, ((s.at t).setPort p (s.port p)).port k = s.port k) ∧
      ∀ e n, ((s.at t).setPort p (s.port p)).worseBer e n = s.worseBer e n :=
  ⟨(State.setPort_frame ..).canonical ((State.at_frame s t).canonical can),
    State.port_setPort_unchanged (s := s.at t) on, fun e n => State.worseBer_of_limit rfl e n⟩

/-! ### The end of an installation test -/

/-- Counts of lanes have been kept and reported since a state. -/
structure LanesCounted (p : Nat) (r s : State) : Prop where
  frame : Frame [.entries, .links] r s
  port : s.port p = (r.port p).withChecks (s.port p).checks
  others : ∀ k, k ≠ p → s.port k = r.port k
  enabled : s.dget (0x5010 + p) 1 = r.dget (0x5010 + p) 1

abbrev LaneCount := (Nat × Nat) × Nat

def State.countLanes (p : Nat) (s : State) (l : List LaneCount) : State :=
  l.foldl (fun s x => s.laneChecked p x.2 x.1.1 x.1.2) s

namespace LanesCounted
variable {p : Nat} {r s : State}

theorem refl (p : Nat) (s : State) : LanesCounted p s s := ⟨Frame.refl .., rfl, fun _ _ => rfl, rfl⟩

theorem on (h : LanesCounted p r s) (on : (r.port p).state ≠ .off) : (s.port p).state ≠ .off := by
  rw [h.port]
  exact on

theorem laneChecked (h : LanesCounted p r s) (can : Canonical r) (on : (r.port p).state ≠ .off) (lane e n : Nat) :
    LanesCounted p r (s.laneChecked p lane e n) := by
  by_cases none : n = 0
  · subst none
    exact h
  have port := State.port_laneChecked (h.on on) none lane e
  refine ⟨h.frame.trans (State.laneChecked_frame ..), ?_, fun k ne => ?_, ?_⟩
  · rw [port, if_pos rfl, h.port]
    rfl
  · rw [port, if_neg ne, h.others k ne]
  · rw [State.dget_laneChecked_of_ne (h.frame.canonical can) _ _ _ _ (by simp only [dkey]; omega), h.enabled]

theorem countLanes (h : LanesCounted p r s) (can : Canonical r) (on : (r.port p).state ≠ .off) (l : List LaneCount) :
    LanesCounted p r (s.countLanes p l) := by
  induction l generalizing s with
  | nil => exact h
  | cons x l ih => exact ih (h.laneChecked can on ..)

end LanesCounted

/-- What is reported of a lane and kept of it. -/
def State.laneCount (s : State) (p lane : Nat) : Nat × Option (Nat × Nat) :=
  (s.dget (0x5010 + p) 14 lane, tfind (s.port p).checks lane)

section
variable {s : State} {p : Nat} (can : Canonical s) (on : (s.port p).state ≠ .off)
include can on

theorem State.laneCount_laneChecked_same (lane e : Nat) {n : Nat} (compared : n ≠ 0) :
    (s.laneChecked p lane e n).laneCount p lane = (berOf e n, some (e, n)) := by
  rw [State.laneCount, State.dget_laneChecked_same can p lane e compared, State.port_laneChecked on compared, if_pos rfl]
  exact congrArg (berOf e n, ·) (tfind_tput_same ..)

theorem State.laneCount_laneChecked_of_ne {lane k : Nat} (ne : k ≠ lane) (e n : Nat) :
    (s.laneChecked p lane e n).laneCount p k = s.laneCount p k := by
  by_cases none : n = 0
  · subst none
    rfl
  rw [State.laneCount, State.dget_laneChecked_of_ne can p lane e n (by simp only [dkey]; omega), State.port_laneChecked on none,
    if_pos rfl]
  exact congrArg (s.dget (0x5010 + p) 14 k, ·) (tfind_tput_of_ne _ _ ne)

theorem State.laneCount_countLanes_of_notMem {l : List LaneCount} {lane : Nat} (other : ∀ x ∈ l, lane ≠ x.2) :
    (s.countLanes p l).laneCount p lane = s.laneCount p lane := by
  induction l generalizing s with
  | nil => rfl
  | cons x l ih =>
    have first := (LanesCounted.refl p s).laneChecked can on x.2 x.1.1 x.1.2
    exact (ih (first.frame.canonical can) (first.on on) fun y mem => other y (List.mem_cons_of_mem _ mem)).trans
      (State.laneCount_laneChecked_of_ne can on (other x List.mem_cons_self) ..)

/-- Of lanes that differ each keeps its own count. -/
theorem State.laneCount_countLanes {l : List LaneCount} (distinct : (l.map Prod.snd).Nodup) {e n lane : Nat}
    (mem : ((e, n), lane) ∈ l) (compared : n ≠ 0) : (s.countLanes p l).laneCount p lane = (berOf e n, some (e, n)) := by
  induction l generalizing s with
  | nil => exact absurd mem List.not_mem_nil
  | cons x l ih =>
    obtain ⟨once, rest⟩ := List.nodup_cons.mp distinct
    have first := (LanesCounted.refl p s).laneChecked can on x.2 x.1.1 x.1.2
    rcases List.mem_cons.mp mem with rfl | later
    · exact (State.laneCount_countLanes_of_notMem (first.frame.canonical can) (first.on on) fun y mem same =>
        once (List.mem_map.mpr ⟨y, mem, same.symm⟩)).trans (State.laneCount_laneChecked_same can on lane e compared)
    · exact ih (first.frame.canonical can) (first.on on) rest later

end

/-- An enabled port whose reference clock is there enters Detect. -/
theorem State.portUp_of_enabled {s : State} {p : Nat} (enabled : s.dget (0x5010 + p) 1 ≠ 0) (clock : s.pins.reflinkLost = false) :
    s.portUp p = (s.setPort p ((s.port p).renewed .detect s.uptime)).setDomain (96 + p) 2 :=
  if_neg (by simp [enabled, clock])

theorem execPortLaneTestEnd_of_due {test : LabTest} {s : State} (state : (s.port test.port.val).state = .test)
    (due : (s.port test.port.val).since + (s.port test.port.val).labTest / 4 * 1000000000 ≤ max s.uptime test.t) :
    exec (.portLaneTestEnd test) s =
      .next (((s.at test.t).countLanes test.port.val (test.lanes.take 9).zipIdx).portUp test.port.val) :=
  (congrArg Host.Outcome.next (if_pos ⟨state, due⟩) : execPortLaneTestEnd test s = _)

end Sys2Proof.Machine
end

section
/-! SUPPORT. Partition borders and lane tests: the clauses of the obligation. -/
namespace Sys2Proof.Machine

/-- Settles O43: a move waits while a port of it is not ready; a dwell writes the port's own part and reports the partner's. -/
theorem bordersAndLanes : Obligations.BordersAndLanes := by
  unfold Obligations.BordersAndLanes
  refine ⟨fun port s fenced drained => ?drained, fun port s fenced drained early moving moves => ?waits,
    fun port s not => ?undrained, fun port t s waits due => ?timeout, fun port t s early => ?early,
    fun port s active idle free last => ?laneEight, fun port s active idle free data => ?lane, fun port s busy => ?laneBusy,
    fun port errors bits t s active dwells last due alone => ?dwellEight,
    fun port errors bits t s active dwells data due alone => ?dwell,
    fun port errors bits t s can active still tested compared better => ?better,
    fun port errors bits t s can active still data compared worse first => ?worse,
    fun port errors bits t s down => ?down, fun test s can state due enabled clock => ?installed,
    fun test s early => ?installing, fun port errors bits t s active dwells early alone => ?dwelling⟩
  case drained =>
    have run := execPartitionDrained_of_drained fenced drained
    exact ⟨_, run, rfl, execPartitionDrained_frame run⟩
  case waits =>
    have run := execPartitionDrained_of_drained fenced drained
    have port' := State.port_borderQueued early
    have here := (port' port.val).trans (if_pos rfl)
    rw [State.settleBorder_of_unready (s := s.borderQueued port.val) moves (State.mem_movingPorts port moving) (by rw [here])] at run
    exact ⟨_, run, by rw [here], by rw [here], by rw [here]; simp, fun k ne => (port' k).trans (if_neg ne),
      State.borderQueued_frame ..⟩
  case undrained =>
    refine ⟨s, (congrArg Host.Outcome.next (if_neg ?_) : execPartitionDrained port s = _), rfl, Frame.refl ..⟩
    rintro ⟨fenced, drained⟩
    exact not.elim (fun h => h fenced) fun h => by simp [h] at drained
  case timeout =>
    have run : exec (.borderWaitTimeout port t) s = _ :=
      (congrArg Host.Outcome.next (if_pos ⟨waits, due⟩) : execBorderWaitTimeout port t s = _)
    exact ⟨_, run, rfl, execBorderWaitTimeout_frame run⟩
  case early =>
    refine ⟨s, (congrArg Host.Outcome.next (if_neg ?_) : execBorderWaitTimeout port t s = _), rfl, Frame.refl ..⟩
    rintro ⟨waits, due⟩
    exact early.elim (fun h => h waits) fun h => Nat.not_le.mpr h due
  case laneEight =>
    have run : exec (.laneTestInterval port) s = execLaneTestInterval port s := rfl
    rw [execLaneTestInterval, if_pos (by simp [active, idle, free])] at run
    dsimp only at run
    rw [if_pos last, last] at run
    exact ⟨_, run, State.port_setPort_same (by simp [active]), fun k ne => State.port_setPort_of_ne (by simp [active]) ne,
      State.setPort_frame ..⟩
  case lane =>
    have run : exec (.laneTestInterval port) s = execLaneTestInterval port s := rfl
    rw [execLaneTestInterval, if_pos (by simp [active, idle, free])] at run
    dsimp only at run
    rw [if_neg data] at run
    exact ⟨_, run, State.port_setPort_same (by simp [active]), fun k ne => State.port_setPort_of_ne (by simp [active]) ne,
      State.setPort_frame ..⟩
  case laneBusy =>
    refine ⟨s, (congrArg Host.Outcome.next (if_neg ?_) : execLaneTestInterval port s = _), rfl, Frame.refl ..⟩
    rintro ⟨active, idle, free⟩
    rcases busy with h | h | h
    · exact h active
    · exact h idle
    · simp [h] at free
  case dwellEight =>
    have own : s.dwelt port.val t = { (s.port port.val) with testPhase := 0, testLane := 15 } := by
      rw [State.dwelt, if_neg (not_or.mpr ⟨not_not.mpr dwells, Nat.not_lt.mpr due⟩), if_pos last]
    have on : (s.dwelt port.val t).state ≠ .off := by simp [own, active]
    have run := execLaneTestDwellEnd_of_active (errors := errors) (bits := bits) (t := t) active
    have port' := State.port_setPort_same (s := s.at t) (p := port.val) on
    rw [State.laneMeasured_of_none (.inl (by rw [port', own]; exact alone))] at run
    exact ⟨_, run, port'.trans own, rfl, fun k ne => State.port_setPort_of_ne on ne,
      Frame.step (State.setPort_frame ..) rfl (Frame.mono (State.at_frame ..) rfl)⟩
  case dwell =>
    have own : s.dwelt port.val t = { (s.port port.val) with testPhase := 3 } := by
      rw [State.dwelt, if_neg (not_or.mpr ⟨not_not.mpr dwells, Nat.not_lt.mpr due⟩), if_neg data]
    have on : (s.dwelt port.val t).state ≠ .off := by simp [own, active]
    have run := execLaneTestDwellEnd_of_active (errors := errors) (bits := bits) (t := t) active
    have port' := State.port_setPort_same (s := s.at t) (p := port.val) on
    rw [State.laneMeasured_of_none (.inl (by rw [port', own]; exact alone))] at run
    exact ⟨_, run, port'.trans own, rfl, fun k ne => State.port_setPort_of_ne on ne,
      Frame.step (State.setPort_frame ..) rfl (Frame.mono (State.at_frame ..) rfl)⟩
  case better =>
    have on : (s.port port.val).state ≠ .off := by simp [active]
    have run := execLaneTestDwellEnd_of_active (errors := errors) (bits := bits) (t := t) active
    rw [show s.dwelt port.val t = s.port port.val from if_pos (.inl still)] at run
    obtain ⟨can', port', limit⟩ := State.canonical_rewritten (t := t) can on
    rw [State.laneMeasured_of_better can' (by rwa [port']) compared (by rwa [limit]), port'] at run
    refine ⟨_, run, State.dget_laneChecked_same can' _ _ _ compared, ?_, ?_⟩
    · rw [State.port_laneChecked (by rwa [port']) compared, if_pos rfl, port']
      rfl
    · exact Frame.step (State.laneChecked_frame ..) rfl (Frame.step (State.setPort_frame ..) rfl (Frame.mono (State.at_frame ..) rfl))
  case worse =>
    have on : (s.port port.val).state ≠ .off := by simp [active]
    have run := execLaneTestDwellEnd_of_active (errors := errors) (bits := bits) (t := t) active
    rw [show s.dwelt port.val t = s.port port.val from if_pos (.inl still)] at run
    obtain ⟨can', port', limit⟩ := State.canonical_rewritten (t := t) can on
    rw [State.laneMeasured_of_worse can' (by rw [port']; omega) compared (by rwa [limit]), port'] at run
    have checked := (State.port_laneChecked (by rwa [port']) compared (s.port port.val).partnerTest errors port.val).trans (if_pos rfl)
    rw [port'] at checked
    rw [State.laneFails_of_first (by rw [checked]; exact first) data] at run
    refine ⟨_, run, ?_, State.logged_event _ (by decide) .., execLaneTestDwellEnd_frame run⟩
    rw [State.port_of_frame (State.event_frame ..) rfl, State.port_setPort_same (by rw [checked]; exact on), checked]
    rfl
  case down =>
    exact ⟨s, (congrArg Host.Outcome.next (if_neg down) : execLaneTestDwellEnd port errors bits t s = _), rfl, Frame.refl ..⟩
  case installed =>
    have run := execPortLaneTestEnd_of_due state due
    have on : (s.port test.port.val).state ≠ .off := by simp [state]
    have can' : Canonical (s.at test.t) := (State.at_frame ..).canonical can
    have counted := (LanesCounted.refl test.port.val (s.at test.t)).countLanes can' on (test.lanes.take 9).zipIdx
    have lane (k : Fin 9) (e n : Nat) (count : test.lanes[k.val]? = some (e, n)) :=
      State.laneCount_countLanes (s := s.at test.t) (p := test.port.val) can' on (l := (test.lanes.take 9).zipIdx)
        (List.nodup_zipIdx_map_snd _) (e := e) (n := n) (lane := k.val)
        (List.mem_zipIdx_iff_getElem?.mpr (by rw [List.getElem?_take_of_lt k.isLt]; exact count))
    generalize (s.at test.t).countLanes test.port.val (test.lanes.take 9).zipIdx = found at *
    have time : found.uptime = max s.uptime test.t := counted.frame.keeps .uptime rfl
    have canFound := counted.frame.canonical can'
    rw [State.portUp_of_enabled (by rw [counted.enabled]; exact enabled)
      ((congrArg Pins.reflinkLost (counted.frame.keeps .pins rfl)).trans clock)] at run
    have detect : ((found.port test.port.val).renewed .detect found.uptime).state ≠ .off := by simp [Port.renewed]
    have ports (k : Nat) := (State.port_of_frame (State.setDomain_frame _ (96 + test.port.val) 2) rfl k).trans
      (State.port_setPort_of_on (s := found) (p := test.port.val) detect k)
    have here := (ports test.port.val).trans (if_pos rfl)
    have canPort : Canonical (found.setPort test.port.val ((found.port test.port.val).renewed .detect found.uptime)) :=
      (State.setPort_frame ..).canonical canFound
    refine ⟨_, run, ?_, fun k e n count compared => ?_, State.dget_dset_same canPort .., time,
      fun k ne => (ports k).trans ((if_neg ne).trans (counted.others k ne)), execPortLaneTestEnd_frame run⟩
    · rw [here, counted.port, time]
      rfl
    · obtain ⟨ber, kept⟩ := Prod.ext_iff.mp (lane k e n count compared)
      refine ⟨(State.dget_dset_of_ne canPort _ ?_).trans ber, ?_⟩
      · simp only [dkey]
        omega
      · rw [here]
        exact kept
  case installing =>
    refine ⟨s, (congrArg Host.Outcome.next (if_neg ?_) : execPortLaneTestEnd test s = _), rfl, Frame.refl ..⟩
    rintro ⟨state, due⟩
    exact early.elim (fun h => h state) fun h => Nat.not_le.mpr h due
  case dwelling =>
    have on : (s.port port.val).state ≠ .off := by simp [active]
    have run := execLaneTestDwellEnd_of_active (errors := errors) (bits := bits) (t := t) active
    rw [show s.dwelt port.val t = s.port port.val from if_pos (.inr early)] at run
    have port' : ∀ k, ((s.at t).setPort port.val (s.port port.val)).port k = s.port k :=
      State.port_setPort_unchanged (s := s.at t) on
    rw [State.laneMeasured_of_none (alone.imp (congrArg Port.partnerTest (port' port.val)).trans id)] at run
    exact ⟨_, run, port', rfl, Frame.step (State.setPort_frame ..) rfl (Frame.mono (State.at_frame ..) rfl)⟩

end Sys2Proof.Machine
end

section
/-! SUPPORT. Frames of a fabric port: what the fields of a frame leave of it, and what a port sends next (R466-R469). -/
namespace Sys2Proof.Machine

/-! ### The perturbation of a path and the border move -/

/-- Unlisting a key above one that is listed leaves what the table reads up to that one, whether it is in order or not. -/
theorem tfind_terase_of_listed {α : Type} {t : Tab α} {k m j : Nat} (listed : (tfind t m).isSome = true) (above : m < k) (le : j ≤ m) :
    tfind (terase t k) j = tfind t j := by
  induction t with
  | nil => rfl
  | cons kv t ih =>
    rw [tfind] at listed
    rw [terase]
    split_ifs at listed with here below
    · rw [if_neg (by omega), if_neg (by omega), tfind, tfind]
      split_ifs
      · rfl
      · rfl
      · omega
    · simp at listed
    · rw [if_neg (by omega), if_neg (by omega), tfind, tfind, ih listed]

/-- While perturbation is armed, the counts of its slots are written above the entries before them. -/
theorem State.dget_perturbCount {s : State} (armed : s.dget 0x6000 1 = 1) (e v : Nat) {i j k : Nat} (below : dkey i j k ≤ dkey 0x6000 1 0) :
    (s.dset 0x6000 4 e v).dget i j k = s.dget i j k := by
  have above : dkey 0x6000 1 0 < dkey 0x6000 4 e := by simp only [dkey]; omega
  have listed : (tfind s.dict (dkey 0x6000 1 0)).isSome = true := by
    rw [State.dget, tget_eq_tfind] at armed
    cases found : tfind s.dict (dkey 0x6000 1 0) with
    | some v => rfl
    | none =>
      rw [found] at armed
      exact absurd armed (by decide)
  rw [State.dget, State.dset, State.dget, tset, tget_eq_tfind, tget_eq_tfind]
  split_ifs
  · rw [tfind_terase_of_listed listed above below]
  · rw [tfind_tput_of_ne _ _ (by omega)]

theorem State.dget_perturbBump {s : State} (armed : s.dget 0x6000 1 = 1) (h : Health) (e w : Nat) {i j k : Nat}
    (below : dkey i j k ≤ dkey 0x6000 1 0) : ({ s with health := h }.dbump 0x6000 4 e w).dget i j k = s.dget i j k := by
  rw [State.dbump]
  split_ifs
  · exact State.dget_perturbCount (s := { s with health := h }) armed _ _ below
  · exact State.dget_perturbCount (s := { s with health := h }.fresh.2) armed _ _ below

/-- A slot that acts on an event changes its count only. -/
theorem State.dget_perturbed (s : State) (target index sub c : Nat) (delay : Bool) {i j k : Nat} (below : dkey i j k ≤ dkey 0x6000 1 0) :
    (s.perturbed target index sub c delay).1.dget i j k = s.dget i j k := by
  by_cases idle : (!s.perturbing || s.suspended target index c) = true
  · rw [State.perturbed, if_pos idle]
  have armed : s.dget 0x6000 1 = 1 := by
    simp only [State.perturbing, Bool.or_eq_true, Bool.not_eq_true', not_or, Bool.not_eq_false, Bool.and_eq_true,
      decide_eq_true_eq] at idle
    exact idle.1.1.1
  rw [State.perturbed, if_neg idle]
  refine (List.foldlRecOn (motive := fun (r : State × Nat) => r.1.dget 0x6000 1 = 1 ∧ r.1.dget i j k = s.dget i j k) _ _
    ⟨armed, rfl⟩ fun r kept kv _ => ?_).2
  by_cases acts : kv.2.acts target index sub c delay = true
  · rw [if_pos acts]
    exact ⟨(State.dget_perturbBump kept.1 _ _ _ le_rfl).trans kept.1, (State.dget_perturbBump kept.1 _ _ _ below).trans kept.2⟩
  · rwa [if_neg acts]

theorem State.dget_perturbCredits (s : State) (p : Nat) (give : List Nat) {i j k : Nat} (below : dkey i j k ≤ dkey 0x6000 1 0) :
    (s.perturbCredits p give).dget i j k = s.dget i j k := by
  refine List.foldlRecOn (motive := fun r : State => r.dget i j k = s.dget i j k) _ _ rfl fun r kept v _ => ?_
  split_ifs
  · exact kept
  · exact (State.dget_perturbed _ _ _ _ _ _ below).trans kept

theorem State.dget_perturbSent (s : State) (p : Nat) (q r : Port) {i j k : Nat} (below : dkey i j k ≤ dkey 0x6000 1 0) :
    (s.perturbSent p q r).dget i j k = s.dget i j k :=
  List.foldlRecOn (motive := fun u : State => u.dget i j k = s.dget i j k) _ _ rfl fun _ kept _ _ =>
    List.foldlRecOn (motive := fun u : State => u.dget i j k = s.dget i j k) _ _ kept fun _ kept _ _ =>
      (State.dget_perturbed _ _ _ _ _ _ below).trans kept

/-! ### Frames received -/

/-- A port that has left Active for Retrain, its lane test given up. -/
def Port.retrained (q : Port) (t : Nat) : Port :=
  { q with
    state := .retrain, since := t, retries := 0, testLane := 15, testPhase := 0, partnerTest := 15
    spareTx := if q.txPermanent then q.spareTx else 15 }

theorem State.retrain_of_active {s : State} {p : Nat} (active : (s.port p).state = .active) :
    s.retrain p = ((s.setPort p ((s.port p).retrained s.uptime)).dbump (0x5010 + p) 11 0 32).settleSlice :=
  if_neg (not_not.mpr active)

/-- What the fields of a frame leave of a port. -/
def Port.inOrder (q : Port) : Nat × Bool := (q.ackSeq, q.discarding)

/-- A port that is not Off has kept its place in the partner's sequence since a state; other ports are as they were. -/
structure PlaceKept (p : Nat) (s u : State) : Prop where
  on : (u.port p).state ≠ .off
  place : (u.port p).inOrder = (s.port p).inOrder
  others : ∀ k, k ≠ p → u.port k = s.port k

namespace PlaceKept
variable {p : Nat} {s u v : State}

theorem refl (on : (s.port p).state ≠ .off) : PlaceKept p s s := ⟨on, rfl, fun _ _ => rfl⟩

theorem frame {g : List Zone} (h : PlaceKept p s u) (k : Frame g u v) (out : g.contains .links = false) : PlaceKept p s v := by
  have ports := State.port_of_frame k out
  exact ⟨by rw [ports]; exact h.on, by rw [ports, h.place], fun k ne => (ports k).trans (h.others k ne)⟩

theorem setPort (h : PlaceKept p s u) {q : Port} (on : q.state ≠ .off) (place : q.inOrder = (u.port p).inOrder) :
    PlaceKept p s (u.setPort p q) := by
  refine ⟨?_, ?_, fun k ne => (State.port_setPort_of_ne on ne).trans (h.others k ne)⟩
  · rwa [State.port_setPort_same on]
  · rw [State.port_setPort_same on, place, h.place]

theorem retrain (h : PlaceKept p s u) : PlaceKept p s (u.retrain p) := by
  by_cases idle : (u.port p).state ≠ .active
  · rwa [State.retrain, if_pos idle]
  · rw [State.retrain_of_active (not_not.mp idle)]
    exact ((h.setPort (q := (u.port p).retrained u.uptime) PortState.noConfusion rfl).frame (State.dbump_frame ..) rfl).frame
      (State.settleSlice_frame _) rfl

end PlaceKept

theorem Port.inOrder_acked (q : Port) (ack : Nat) : (q.acked ack).inOrder = q.inOrder ∧ (q.acked ack).state = q.state := ⟨rfl, rfl⟩

/-- The lane that the partner names, noted by this receiver. -/
def Port.sees (q : Port) (tx : Nat) : Port := if tx = q.spareSeen then q else { q with spareSeen := tx, spareRun := 0, spareBack := false }

theorem Port.inOrder_sees (q : Port) (tx : Nat) : (q.sees tx).inOrder = q.inOrder ∧ (q.sees tx).state = q.state := by
  unfold Port.sees
  split_ifs <;> exact ⟨rfl, rfl⟩

theorem Port.inOrder_spareIn (q : Port) (tx test : Nat) :
    (q.spareIn tx test).inOrder = q.inOrder ∧ (q.spareIn tx test).state = q.state := by
  obtain ⟨place, state⟩ := q.inOrder_sees tx
  rw [← place, ← state, Port.spareIn, ← Port.sees]
  generalize q.sees tx = r
  split_ifs <;> exact ⟨rfl, rfl⟩

theorem Port.inOrder_spareOut (q : Port) (t : Nat) : (q.spareOut t).inOrder = q.inOrder ∧ (q.spareOut t).state = q.state := by
  unfold Port.spareOut
  split_ifs <;> exact ⟨rfl, rfl⟩

theorem Port.inOrder_spareFor (q : Port) (lane : Nat) : (q.spareFor lane).inOrder = q.inOrder ∧ (q.spareFor lane).state = q.state := by
  unfold Port.spareFor
  split_ifs <;> exact ⟨rfl, rfl⟩

theorem PlaceKept.spareRequested {p : Nat} {s u : State} (h : PlaceKept p s u) (lane : Nat) : PlaceKept p s (u.spareRequested p lane) := by
  obtain ⟨place, state⟩ := (u.port p).inOrder_spareFor lane
  have moved := h.setPort (q := (u.port p).spareFor lane) (by rw [state]; exact h.on) place
  unfold State.spareRequested
  dsimp only
  split_ifs
  · exact h
  · exact moved.frame (State.event_frame ..) rfl
  · exact moved

/-- A port with the acknowledgement, the credits and the tests that a frame names. -/
def Port.named (q : Port) (f : FrameControl) : Port :=
  { q.acked f.ack.toNat with
    credits := (List.range 4).map fun v => (q.acked f.ack.toNat).credits.getD v 0 + (f.credit.getD v 0).toNat
    partnerUse := f.spareUse.toNat, partnerTest := f.test.toNat }

/-- A port after the fields of a frame, but for what it asks for. -/
def Port.heard (q : Port) (f : FrameControl) (t : Nat) : Port := ((q.named f).spareIn f.spareTx.toNat f.test.toNat).spareOut t

def Port.resending (q : Port) : Port := { q with resend := q.unacked, retries := q.retries + 1 }

theorem Port.inOrder_heard (q : Port) (f : FrameControl) (t : Nat) : (q.heard f t).inOrder = q.inOrder ∧ (q.heard f t).state = q.state := by
  obtain ⟨placeIn, stateIn⟩ := (q.named f).inOrder_spareIn f.spareTx.toNat f.test.toNat
  obtain ⟨placeOut, stateOut⟩ := ((q.named f).spareIn f.spareTx.toNat f.test.toNat).inOrder_spareOut t
  exact ⟨placeOut.trans placeIn, stateOut.trans stateIn⟩

/-- The state after the fields of a frame, but for its NAK. -/
def State.heard (s : State) (p : Nat) (f : FrameControl) : State :=
  (s.setPort p ((s.port p).heard f s.uptime)).spareRequested p f.spareRq.toNat

/-- A port begins again with the frames that are not acknowledged. -/
def State.resends (s : State) (p : Nat) : State := s.setPort p (s.port p).resending

theorem State.frameFields_eq (s : State) (p : Nat) (f : FrameControl) : s.frameFields p f =
    if f.nak then
      if (s.heard p f).dget 0x5000 6 ≤ ((s.heard p f).port p).retries + 1 then ((s.heard p f).resends p).retrain p
      else (s.heard p f).resends p
    else s.heard p f := rfl

/-- The fields of a frame move the port's other half only. -/
theorem State.frameFields_place {s : State} {p : Nat} (on : (s.port p).state ≠ .off) (f : FrameControl) :
    PlaceKept p s (s.frameFields p f) := by
  obtain ⟨place, state⟩ := (s.port p).inOrder_heard f s.uptime
  have heard : PlaceKept p s (s.heard p f) := ((PlaceKept.refl on).setPort (by rwa [state]) place).spareRequested _
  have resent : PlaceKept p s ((s.heard p f).resends p) := heard.setPort heard.on rfl
  rw [State.frameFields_eq]
  split_ifs
  · exact resent.retrain
  · exact resent
  · exact heard

/-- A port that receives frames: in Exchange, Active or Isolated. -/
def State.hears (s : State) (p : Nat) : Prop :=
  (s.port p).state = .exchange ∨ (s.port p).state = .active ∨ (s.port p).state = .isolated

theorem State.hears.on {s : State} {p : Nat} (h : s.hears p) : (s.port p).state ≠ .off := by
  rcases h with h | h | h <;> simp [h]

theorem exec_frameReceived_frame {port : PortId} {check : FrameCheck} {fcu : FrameControl} {s u : State}
    (run : exec (.frameReceived port check fcu) s = .next u) : Frame [.free, .out, .entries, .msix, .links, .health] s u :=
  execFrameReceived_frame (show execFrameReceived port check fcu s = .next u from run)

section
variable {port : PortId} {fcu : FrameControl} {s : State} (hears : s.hears port.val)
include hears

theorem execFrameReceived_of_good : exec (.frameReceived port .good fcu) s = .next (s.goodFrame port.val fcu) :=
  (congrArg Host.Outcome.next (if_pos hears) : execFrameReceived port .good fcu s = _)

theorem execFrameReceived_of_corrected (symbols : List (Fin 544)) : exec (.frameReceived port (.corrected symbols) fcu) s =
    .next (((s.dbump (0x5010 + port.val) 8 0 64).symbolsCorrected port.val symbols).goodFrame port.val fcu) :=
  (congrArg Host.Outcome.next (if_pos hears) : execFrameReceived port (.corrected symbols) fcu s = _)

theorem execFrameReceived_of_uncorrectable : exec (.frameReceived port .uncorrectable fcu) s =
    .next ((s.dbump (0x5010 + port.val) 9 0 32).setPort port.val (s.port port.val).discard) :=
  (congrArg Host.Outcome.next (if_pos hears) : execFrameReceived port .uncorrectable fcu s = _)

theorem execFrameReceived_of_badCrc : exec (.frameReceived port .badCrc fcu) s = .next (s.setPort port.val (s.port port.val).discard) :=
  (congrArg Host.Outcome.next (if_pos hears) : execFrameReceived port .badCrc fcu s = _)

end

section
variable {s : State} {p : Nat} {f : FrameControl}

/-- A frame without a sequence number acts unless the port is discarding. -/
theorem State.goodFrame_of_unsequenced (kind : f.kind = 2) (taking : (s.port p).discarding = false) :
    s.goodFrame p f = s.frameFields p f := by
  rw [State.goodFrame, if_pos kind, if_neg (by simp [taking])]

theorem State.goodFrame_of_unused (unused : f.kind = 3 ∨ (f.kind = 2 ∧ (s.port p).discarding = true)) : s.goodFrame p f = s := by
  rcases unused with kind | ⟨kind, discarding⟩
  · rw [State.goodFrame, if_neg (by simp [kind]), if_pos kind]
  · rw [State.goodFrame, if_pos kind, if_pos discarding]

section
variable (kind : f.kind ≠ 2) (kind' : f.kind ≠ 3)
include kind kind'

/-- The frame that is due becomes the last received. -/
theorem State.goodFrame_of_next (due : f.fseq.toNat = nextSeqOf (s.port p).ackSeq) : s.goodFrame p f =
    (s.setPort p { (s.port p) with ackSeq := f.fseq.toNat, discarding := false }).frameFields p f := by
  rw [State.goodFrame, if_neg kind, if_neg kind']
  exact if_pos due

variable (other : f.fseq.toNat ≠ nextSeqOf (s.port p).ackSeq)
include other

theorem State.goodFrame_of_repeat
    (old : (s.port p).discarding = true ∨ ((s.port p).ackSeq + 4096 - f.fseq.toNat) % 4096 < 2048) : s.goodFrame p f = s := by
  rw [State.goodFrame, if_neg kind, if_neg kind', if_neg other]
  exact if_pos old

/-- After a gap the port discards until the frame that is due comes. -/
theorem State.goodFrame_of_gap (taking : (s.port p).discarding = false)
    (ahead : 2048 ≤ ((s.port p).ackSeq + 4096 - f.fseq.toNat) % 4096) : s.goodFrame p f = s.setPort p (s.port p).discard := by
  rw [State.goodFrame, if_neg kind, if_neg kind', if_neg other]
  exact if_neg (by simp [taking, ahead])

end

end

/-! ### Frames sent -/

/-- A port after a frame has gone out: the NAK with it, and one more frame since the last of KIND 2. -/
def Port.afterSend (q : Port) (f : SentFrame) : Port :=
  { q with nakDue := false, sinceComp := if f.kind = 2 then 0 else q.sinceComp + 1 }

theorem State.port_sendFrame {s : State} {p : Nat} {q : Port} (on : q.state ≠ .off) (f : SentFrame) (k : Nat) :
    (s.sendFrame p q f).port k = if k = p then q.afterSend f else s.port k :=
  State.port_setPort_of_on (q := q.afterSend f) on k

theorem State.out_sendFrame (s : State) (p : Nat) (q : Port) (f : SentFrame) :
    (s.sendFrame p q f).out = .frame p (q.frameBytes f) :: s.out := rfl

theorem State.dget_sendFrame (s : State) (p : Nat) (q : Port) (f : SentFrame) (i j e : Nat) :
    (s.sendFrame p q f).dget i j e = s.dget i j e := rfl

/-- The new frame that a port sends with a body. -/
def Port.frameOf (q : Port) (kind first : Nat) (packets : Bool) (body : List Bytes) : SentFrame :=
  { seq := q.nextSeq, kind := kind, credit := q.freed.map (min 65535), firstHdr := first, body := body, packets := packets }

/-- A port with a new frame in its replay buffer, the credits that go with it given up. -/
def Port.buffers (q : Port) (f : SentFrame) : Port :=
  { q with
    nextSeq := nextSeqOf q.nextSeq, unacked := q.unacked ++ [f]
    freed := (List.range 4).map fun v => q.freed.getD v 0 - f.credit.getD v 0 }

theorem State.newFrame_eq (s : State) (p : Nat) (q : Port) (kind first : Nat) (packets : Bool) (body : List Bytes) :
    s.newFrame p q kind first packets body = (s.perturbCredits p (q.freed.map (min 65535))).sendFrame p
      (q.buffers (q.frameOf kind first packets body)) (q.frameOf kind first packets body) := rfl

section
variable {s : State} {p : Nat} {q : Port} (on : q.state ≠ .off) (kind first : Nat) (packets : Bool) (body : List Bytes)
include on

theorem State.port_newFrame (k : Nat) : (s.newFrame p q kind first packets body).port k =
    if k = p then (q.buffers (q.frameOf kind first packets body)).afterSend (q.frameOf kind first packets body) else s.port k := by
  rw [State.newFrame_eq, State.port_sendFrame (q := q.buffers _) on, State.port_of_frame (State.perturbCredits_frame ..) rfl]

end

theorem State.out_length_newFrame (s : State) (p : Nat) (q : Port) (kind first : Nat) (packets : Bool) (body : List Bytes) :
    (s.newFrame p q kind first packets body).out.length = s.out.length + 1 :=
  congrArg (fun out : List Out => out.length + 1) ((State.perturbCredits_frame s p (q.freed.map (min 65535))).keeps .out rfl)

theorem State.dget_newFrame (s : State) (p : Nat) (q : Port) (kind first : Nat) (packets : Bool) (body : List Bytes) {i j k : Nat}
    (below : dkey i j k ≤ dkey 0x6000 1 0) : (s.newFrame p q kind first packets body).dget i j k = s.dget i j k :=
  State.dget_perturbCredits s p _ below

/-- What the filling of a body leaves of a port. -/
def Port.sequence (q : Port) : PortState × Nat × List SentFrame := (q.state, q.nextSeq, q.unacked)

theorem Port.sequence_setVc (q : Port) (v : Nat) (ks : List Packet) : (q.setVc v ks).sequence = q.sequence := by
  unfold Port.setVc
  split <;> rfl

theorem Port.sequence_begin {q r : Port} (begun : q.begin = some r) : r.sequence = q.sequence := by
  rw [Port.begin] at begun
  split at begun
  · simp at begun
  · split at begun
    · cases begun
      exact Port.sequence_setVc ..
    · simp at begun

/-- A port that has begun its next packet where none was on its way. -/
def Port.started (q : Port) (i : Nat) : Port × Nat :=
  match q.units with
  | [] => match q.begin with | some r => (r, i) | none => (q, 0)
  | _ => (q, 0)

theorem Port.sequence_started (q : Port) (i : Nat) : (q.started i).1.sequence = q.sequence := by
  unfold Port.started
  split
  · split
    · next begun => exact Port.sequence_begin begun
    · rfl
  · rfl

/-- A unit of a body takes the first of the units on their way. -/
theorem Port.fill_succ (n i : Nat) (q : Port) :
    ∃ us, (Port.fill (n + 1) i q).2.2 = (Port.fill n (i + 1) { (q.started i).1 with units := us }).2.2 := by
  have body : Port.fill (n + 1) i q = match (q.started i).1.units with
      | u :: us =>
        let rest := Port.fill n (i + 1) { (q.started i).1 with units := us }
        (u :: rest.1, if (q.started i).2 = 0 then rest.2.1 else (q.started i).2, rest.2.2)
      | [] =>
        let rest := Port.fill n (i + 1) (q.started i).1
        (nopUnit :: rest.1, rest.2.1, rest.2.2) := rfl
  rw [body]
  split
  · exact ⟨_, rfl⟩
  · exact ⟨(q.started i).1.units, rfl⟩

theorem Port.sequence_fill (n i : Nat) (q : Port) : (Port.fill n i q).2.2.sequence = q.sequence := by
  induction n generalizing i q with
  | zero => rfl
  | succ n ih =>
    obtain ⟨us, next⟩ := Port.fill_succ n i q
    rw [next, ih]
    exact q.sequence_started i

/-! ### The frame that a port sends next -/

section
variable {s : State} {p : Nat}

/-- A KIND 2 frame goes out in Align, and once every 2,048 frames. -/
theorem State.nextFrame_of_comp (due : (s.port p).state = .align ∨ 2047 ≤ (s.port p).sinceComp) :
    s.nextFrame p = s.sendFrame p (s.port p) compFrame := if_pos due

section
variable (sequenced : ¬((s.port p).state = .align ∨ 2047 ≤ (s.port p).sinceComp))
include sequenced

theorem State.nextFrame_of_resend {f : SentFrame} {fs : List SentFrame} (resend : (s.port p).resend = f :: fs) :
    s.nextFrame p = (s.dbump (0x5010 + p) 10 0 32).sendFrame p { (s.port p) with resend := fs } f := by
  rw [State.nextFrame, if_neg sequenced, resend]

variable (fresh : (s.port p).resend = [])
include fresh

/-- With a full replay buffer no new frame is sent. -/
theorem State.nextFrame_of_full (full : 1024 ≤ (s.port p).unacked.length) : s.nextFrame p = s.sendFrame p (s.port p) compFrame := by
  rw [State.nextFrame, if_neg sequenced, fresh]
  exact if_pos full

variable (room : (s.port p).unacked.length < 1024)
include room

theorem State.nextFrame_of_info (info : (s.port p).state = .exchange) :
    s.nextFrame p = s.newFrame p { (s.port p) with infoSent := true } 1 0 false (s.infoBody p) := by
  rw [State.nextFrame, if_neg sequenced]
  split
  · next resend => simp [fresh] at resend
  · rw [if_neg (by omega), if_pos (.inl info)]

theorem State.nextFrame_of_active (active : (s.port p).state = .active) (told : (s.port p).infoSent = true) : ∃ first packets body,
    s.nextFrame p = (s.perturbSent p (s.port p) (Port.fill 19 1 (s.port p)).2.2).newFrame p (Port.fill 19 1 (s.port p)).2.2 0 first
      packets body := by
  rw [State.nextFrame, if_neg sequenced, fresh]
  dsimp only
  rw [if_neg (by omega), if_neg (by simp [active, told]), if_pos active]
  exact ⟨_, _, _, rfl⟩

theorem State.nextFrame_of_isolated (isolated : (s.port p).state = .isolated) (told : (s.port p).infoSent = true) :
    s.nextFrame p = s.newFrame p (s.port p) 0 0 false (List.replicate 19 nopUnit) := by
  rw [State.nextFrame, if_neg sequenced, fresh]
  dsimp only
  rw [if_neg (by omega), if_neg (by simp [isolated, told]), if_neg (by simp [isolated])]

end

end

section
variable {port : PortId} {s : State}

theorem execFrameTransmit_of_active (active : (s.port port.val).state = .active) :
    exec (.frameTransmit port) s = .next (s.nextFrame port.val).settleBorder := by
  have run : exec (.frameTransmit port) s = execFrameTransmit port s := rfl
  rw [run, execFrameTransmit, active]

/-- With no border move an Active port sends its next frame, and no more. -/
theorem execFrameTransmit_of_still (active : (s.port port.val).state = .active) (still : (s.nextFrame port.val).dget 0x5000 12 = 0) :
    exec (.frameTransmit port) s = .next (s.nextFrame port.val) := by
  rw [execFrameTransmit_of_active active, State.settleBorder_of_none still]

theorem execFrameTransmit_of_linking
    (state : (s.port port.val).state = .align ∨ (s.port port.val).state = .exchange ∨ (s.port port.val).state = .isolated) :
    exec (.frameTransmit port) s = .next (s.nextFrame port.val) := by
  have run : exec (.frameTransmit port) s = execFrameTransmit port s := rfl
  rw [run, execFrameTransmit]
  rcases state with state | state | state <;> rw [state]

end

end Sys2Proof.Machine
end

section
/-! SUPPORT. Frames: the clauses of the obligation. -/
namespace Sys2Proof.Machine

/-- Settles O42: a frame in its place acts and any other changes at most what the port discards; a port sends the first of a KIND 2
frame, a frame again and a new one, and no perturbation of that reaches the state of a border move. -/
theorem frames : Obligations.Frames := by
  unfold Obligations.Frames
  refine ⟨fun port check fcu s exchange active isolated => ?deaf, fun port check fcu s hears good => ?badCrc,
    fun port check fcu s can hears good fits => ?uncorrectable, fun port check fcu s hears good kind kind' due => ?next,
    fun port check fcu s hears good kind kind' other taking ahead => ?gap, fun port check fcu s hears good kind kind' other old => ?again,
    fun port check fcu s hears good unused => ?unused, fun port check fcu s hears good kind taking => ?unsequenced,
    fun port check symbols fcu s hears corrected => ?corrected, fun port s align exchange active isolated => ?silent,
    fun port s due still => ?comp, fun port f fs s can active recent resend fits kind still => ?resend,
    fun port s active recent fresh full still => ?full, fun port s active recent fresh room told still => ?new,
    fun port s exchange recent fresh room => ?info, fun port s active => ?active,
    fun port s isolated recent fresh room told => ?isolated⟩
  case deaf =>
    refine ⟨s, (congrArg Host.Outcome.next (if_neg ?_) : execFrameReceived port check fcu s = _), rfl, Frame.refl ..⟩
    simp [exchange, active, isolated]
  case badCrc =>
    subst good
    have on := State.hears.on hears
    exact ⟨_, execFrameReceived_of_badCrc hears, State.port_setPort_same (q := (s.port port.val).discard) on,
      fun k ne => State.port_setPort_of_ne (q := (s.port port.val).discard) on ne, State.setPort_frame ..⟩
  case uncorrectable =>
    subst good
    have run := execFrameReceived_of_uncorrectable (fcu := fcu) hears
    rw [State.dbump_of_fits fits] at run
    exact ⟨_, run, State.port_setPort_same (q := (s.port port.val).discard) (State.hears.on hears), State.dget_dset_same can ..,
      Frame.step (State.setPort_frame ..) rfl (Frame.mono (State.dset_frame ..) rfl)⟩
  case next =>
    subst good
    have run := execFrameReceived_of_good (fcu := fcu) hears
    rw [State.goodFrame_of_next kind kind' due] at run
    have on : ({ (s.port port.val) with ackSeq := fcu.fseq.toNat, discarding := false } : Port).state ≠ .off := State.hears.on hears
    have here := State.port_setPort_same (s := s) (p := port.val) on
    have acts := State.frameFields_place (p := port.val) (by rwa [here]) fcu
    have place := acts.place.trans (congrArg Port.inOrder here)
    exact ⟨_, run, rfl, congrArg Prod.fst place, congrArg Prod.snd place,
      fun k ne => (acts.others k ne).trans (State.port_setPort_of_ne on ne), exec_frameReceived_frame run⟩
  case gap =>
    subst good
    have run := execFrameReceived_of_good (fcu := fcu) hears
    rw [State.goodFrame_of_gap kind kind' other taking ahead] at run
    exact ⟨_, run, State.port_setPort_same (q := (s.port port.val).discard) (State.hears.on hears), State.setPort_frame ..⟩
  case again =>
    subst good
    have run := execFrameReceived_of_good (fcu := fcu) hears
    rw [State.goodFrame_of_repeat kind kind' other old] at run
    exact ⟨s, run, rfl, Frame.refl ..⟩
  case unused =>
    subst good
    have run := execFrameReceived_of_good (fcu := fcu) hears
    rw [State.goodFrame_of_unused unused] at run
    exact ⟨s, run, rfl, Frame.refl ..⟩
  case unsequenced =>
    subst good
    have run := execFrameReceived_of_good (fcu := fcu) hears
    rw [State.goodFrame_of_unsequenced kind taking] at run
    exact ⟨_, run, rfl, exec_frameReceived_frame run⟩
  case corrected =>
    subst corrected
    have run := execFrameReceived_of_corrected (fcu := fcu) hears symbols
    exact ⟨_, run, rfl, exec_frameReceived_frame run⟩
  case silent =>
    have run : exec (.frameTransmit port) s = execFrameTransmit port s := rfl
    rw [execFrameTransmit] at run
    split at run
    · contradiction
    · contradiction
    · contradiction
    · contradiction
    · exact ⟨s, run, rfl, Frame.refl ..⟩
  case comp =>
    have sends : s.nextFrame port.val = s.sendFrame port.val (s.port port.val) compFrame :=
      State.nextFrame_of_comp (due.imp_right And.right)
    have run : exec (.frameTransmit port) s = .next (s.nextFrame port.val) :=
      due.elim (fun align => execFrameTransmit_of_linking (.inl align)) fun due =>
        execFrameTransmit_of_still due.1 (by rw [sends]; exact still)
    have on : (s.port port.val).state ≠ .off := by rcases due with h | ⟨h, -⟩ <;> simp [h]
    rw [sends] at run
    have port' := State.port_sendFrame (s := s) (p := port.val) on compFrame
    exact ⟨_, run, rfl, (port' port.val).trans (if_pos rfl), fun k ne => (port' k).trans (if_neg ne), State.sendFrame_frame ..⟩
  case resend =>
    have sends := State.nextFrame_of_resend (s := s) (p := port.val) (by simp [active, recent]) resend
    rw [State.dbump_of_fits fits] at sends
    have count := State.dget_dset_of_ne can (i := 0x5010 + port.val) (j := 10) (e := 0) (i' := 0x5000) (j' := 12) (e' := 0)
      (s.dget (0x5010 + port.val) 10 + 1) (by simp only [dkey]; omega)
    have run := execFrameTransmit_of_still active (by rw [sends]; exact count.trans still)
    rw [sends] at run
    have on : ({ (s.port port.val) with resend := fs } : Port).state ≠ .off := by simp [active]
    have port' := State.port_sendFrame (s := s.dset (0x5010 + port.val) 10 0 (s.dget (0x5010 + port.val) 10 + 1)) (p := port.val) on f
    refine ⟨_, run, rfl, ?_, State.dget_dset_same can .., fun k ne => (port' k).trans (if_neg ne),
      Frame.step (State.sendFrame_frame ..) rfl (Frame.mono (State.dset_frame ..) rfl)⟩
    rw [port', if_pos rfl, Port.afterSend, if_neg kind]
  case full =>
    have sends := State.nextFrame_of_full (s := s) (p := port.val) (by simp [active, recent]) fresh full
    have run := execFrameTransmit_of_still active (by rw [sends]; exact still)
    have port' := State.port_sendFrame (s := s) (p := port.val) (q := s.port port.val) (by simp [active]) compFrame
    have here := (port' port.val).trans (if_pos rfl)
    rw [sends] at run
    exact ⟨_, run, rfl, by rw [here]; rfl, fun k ne => (port' k).trans (if_neg ne),
      State.sendFrame_frame ..⟩
  case new =>
    obtain ⟨first, packets, body, sends⟩ :=
      State.nextFrame_of_active (s := s) (p := port.val) (by simp [active, recent]) fresh room active told
    have zones := State.nextFrame_frame s port.val
    have sequence := Port.sequence_fill 19 1 (s.port port.val)
    generalize (Port.fill 19 1 (s.port port.val)).2.2 = r at sends sequence
    have state : r.state = (s.port port.val).state := congrArg (fun x => x.1) sequence
    have nextSeq : r.nextSeq = (s.port port.val).nextSeq := congrArg (fun x => x.2.1) sequence
    have unacked : r.unacked = (s.port port.val).unacked := congrArg (fun x => x.2.2) sequence
    have on : r.state ≠ .off := by rw [state]; simp [active]
    have low : dkey 0x5000 12 0 ≤ dkey 0x6000 1 0 := by decide
    have run := execFrameTransmit_of_still active (by rw [sends, State.dget_newFrame _ _ _ _ _ _ _ low, State.dget_perturbSent _ _ _ _ low, still])
    have port' := State.port_newFrame (s := s.perturbSent port.val (s.port port.val) r) (p := port.val) on 0 first packets body
    have here := (port' port.val).trans (if_pos rfl)
    rw [sends] at run zones
    refine ⟨_, run, ?_, ?_, ?_, congrArg Port.nakDue here, fun k ne => ?_, zones⟩
    · rw [here, ← nextSeq]
      rfl
    · rw [here, ← nextSeq, ← unacked]
      exact List.map_append ..
    · rw [State.out_length_newFrame, (State.perturbSent_frame ..).keeps .out rfl]
    · rw [port', if_neg ne, State.port_of_frame (State.perturbSent_frame ..) rfl]
  case info =>
    have sends := State.nextFrame_of_info (s := s) (p := port.val) (by simp [exchange, recent]) fresh room exchange
    have run := execFrameTransmit_of_linking (s := s) (port := port) (.inr (.inl exchange))
    have zones := State.nextFrame_frame s port.val
    have port' := State.port_newFrame (s := s) (p := port.val) (q := { (s.port port.val) with infoSent := true }) (by simp [exchange])
      1 0 false (s.infoBody port.val)
    have here := (port' port.val).trans (if_pos rfl)
    rw [sends] at run zones
    refine ⟨_, run, ?_, ?_, congrArg Port.infoSent here, State.out_length_newFrame .., fun k ne => (port' k).trans (if_neg ne), zones⟩
    · rw [here]
      exact List.map_append ..
    · rw [here]
      exact congrArg (Option.map _) List.getLast?_concat
  case active =>
    have run := execFrameTransmit_of_active active
    exact ⟨_, run, rfl, execFrameTransmit_frame run⟩
  case isolated =>
    have sends := State.nextFrame_of_isolated (s := s) (p := port.val) (by simp [isolated, recent]) fresh room isolated told
    have run := execFrameTransmit_of_linking (s := s) (port := port) (.inr (.inr isolated))
    have zones := State.nextFrame_frame s port.val
    have port' := State.port_newFrame (s := s) (p := port.val) (q := s.port port.val) (by simp [isolated])
      0 0 false (List.replicate 19 nopUnit)
    have here := (port' port.val).trans (if_pos rfl)
    rw [sends] at run zones
    refine ⟨_, run, by rw [here]; rfl, ?_, by rw [here]; rfl, State.out_length_newFrame .., fun k ne =>
      (port' k).trans (if_neg ne), zones⟩
    rw [here]
    exact congrArg (Option.map _) List.getLast?_concat

end Sys2Proof.Machine
end
